-- ==== Sys2Proof/Word.lean ====
section
/-!
DEFINITION. Word.lean: the byte and the words of the manual, and nothing else.
Multi-byte values are little-endian (R14); the byte-order helpers stand in Machine/Bits.lean.
-/

namespace Sys2Proof

/-- One byte of a packet, a record or the Crock. -/
abbrev Byte := BitVec 8

/-- A 16-bit word (opcodes, tags, codes, sequence numbers). -/
abbrev Half := BitVec 16

/-- A 32-bit word (CRCs, PD data objects, counters). -/
abbrev Word := BitVec 32

/-- A 64-bit word (TIME, NONCE, unique IDs). -/
abbrev Dword := BitVec 64

end Sys2Proof
end

