-- ==== Sys2Proof/Syntax.lean ====
section
/-!
DEFINITION. Syntax.lean: the commands of the block, one constructor per row of spec/opcode_table.json, with the types
of their operands. Numbers keep the manual's numbering (ports 1–32, virtual ports 34–41, links 0–3; R9).
-/

namespace Sys2Proof

/-- The two upstreams (R9). -/
inductive Up where
  | a | b
  deriving DecidableEq, Repr

/-- The functions an upstream presents: USB 2.0 hub, SuperSpeed hub, management function (R31, R41). -/
inductive Fn where
  | usb2 | ss | mgmt
  deriving DecidableEq, Repr

/-- Device speeds, in the order of SPEED in R101. -/
inductive Speed where
  | hs | fs | ls | none
  deriving DecidableEq, Repr

/-- The change features of ClearPortFeature (R42, R91, R92). -/
inductive Change where
  | connection | enable | suspend | overCurrent | reset | l1 | bhReset | linkState
  deriving DecidableEq, Repr

/-- The SuperSpeed link states with the standard encoding (R92). -/
inductive Link where
  | u0 | u1 | u2 | u3 | ssDisabled | rxDetect | ssInactive | polling | recovery | hotReset
  | compliance | loopback
  deriving DecidableEq, Repr

/-- Port test selectors of R89; `other` is any selector it does not name. -/
inductive TestSel where
  | testJ | testK | testSe0Nak | testPacket | forceEnable | other
  deriving DecidableEq, Repr

/-- What a device or a host answers on the wire. -/
inductive Hs where
  | ack | nak | nyet | stall | none
  deriving DecidableEq, Repr

/-- Token PIDs of a USB transaction. -/
inductive Pid where
  | out | inn | setup | ping | sof
  deriving DecidableEq, Repr

/-- A packet of a transaction after its token, from its PID byte on: the host's, or the device's (R45). -/
structure Pkt where
  /-- the device sent it -/
  up : Bool
  bs : List Byte
  deriving DecidableEq, Repr

/-- A device on a wire that a proxy serves: a physical port or a virtual port of an upstream (R9, R42). -/
inductive Loc where
  | phys (p : Nat)
  | virt (u : Up) (v : Nat)
  deriving DecidableEq, Repr

/-- A transaction translator's result from the device: data with its PID (`true` DATA1), periodic data of which more is
to come in a later microframe, a handshake, or a bus error (R53). -/
inductive TtRes where
  | data (toggle : Bool) (bs : List Byte) | part (bs : List Byte) | hs (h : Hs) | busError
  deriving DecidableEq, Repr

/-- One interface alternate setting's endpoint, as a descriptor gives it (R69, R98). -/
structure EpDesc where
  /-- bEndpointAddress: number in bits 3:0, direction in bit 7. -/
  addr : Nat
  /-- 0 control, 1 isochronous, 2 bulk, 3 interrupt. -/
  kind : Nat
  mps : Nat
  interval : Nat
  deriving DecidableEq, Repr

/-- Features of a hub function that a host sets or clears (R84, R85, R94). -/
inductive HubFeature where
  | deviceRemoteWakeup | u1Enable | u2Enable | functionSuspendWake
  deriving DecidableEq, Repr

/-- An uncorrectable word of the endpoint store, by the region that owns it (R70). -/
structure EccErr where
  /-- region type of R63; 0 for the fixed pages 0–15 -/
  kind : Nat
  owner : Nat
  up : Up
  /-- endpoint address of the data, for PROXY, BORROW and MIRROR, and of the pipe for the fixed pages: 0x01 commands,
  0x81 responses -/
  ep : Nat
  deriving DecidableEq, Repr

/-- The header of a tunnel frame as received (R274). -/
structure TunHdr where
  /-- node that sent the frame -/
  src : Nat
  /-- the receiver is the lender of the lend -/
  toLender : Bool
  up : Up
  /-- virtual port 34–41 -/
  vport : Nat
  /-- EP with DIR: endpoint number plus 128 for IN -/
  ep : Nat
  tseq : Nat
  deriving DecidableEq, Repr

/-- What carries a command packet: a management function, a sideband, a fabric source node, or the pair relay
(R345, R349, R386). -/
inductive Transport where
  | usb (u : Up) | smbus | spi | fabric (node : Nat) | relay
  deriving DecidableEq, Repr

/-- A whole command packet (fragments joined, R346) with the transport that carried it (R339). The payload includes
the 16-byte tag when `auth` is set. -/
structure Cmd where
  tr : Transport
  opcode : Nat
  tag : Nat
  /-- TARGET: 0 or the own node for a local command, 255 for broadcast. -/
  target : Nat
  auth : Bool
  noresp : Bool
  payload : List Byte
  /-- fabric tag of the COMMAND frames that carried it (R356); on the relay the outer transport, 0 USB A, 1 USB B, 2 SMBus,
  3 SPI, 4 fabric (R386); 0 on the other transports -/
  ftag : Nat := 0
  /-- reserved flag bits 79:76 as sent, which its authentication tag covers (R339, R348) -/
  rsv : Nat := 0
  /-- CRC field of the packet that carried it whole; none for the CRC of a packet whose reserved and status bits are 0 -/
  crc : Option Nat := none
  /-- its response is not stored: its pipe was reset after it was accepted (R44), or another node broadcast it (R356) -/
  mute : Bool := false
  deriving DecidableEq, Repr

/-- A Giwald frame without its link sequence number and checks (R257). `kspec` is bits 95:67 of the header. -/
structure Frame where
  vc : Nat
  kind : Nat
  hops : Nat
  down : Bool
  dest : Nat
  src : Nat
  kspec : Nat
  payload : List Byte
  deriving DecidableEq, Repr

/-- One link entry of an LSA (R265). -/
structure LsaLink where
  link : Nat
  secondary : Bool
  nbrUid : Nat
  nbrLink : Nat
  /-- ACTIVE; otherwise RESERVE -/
  active : Bool
  deriving DecidableEq, Repr

/-- A link-state advertisement (R265). -/
structure Lsa where
  uid : Nat
  seq : Nat
  /-- node ID claimed, 0 none -/
  claim : Nat
  fixed : Bool
  rootPrio : Nat
  cl : Nat
  links : List LsaLink
  deriving DecidableEq, Repr

/-- A received PD message's header: the PDE (1–32, 33 UA, 34 UB), MessageID and Specification Revision
(0 1.0, 1 2.0, 2 3.x) (R141, R143). -/
structure PdHdr where
  port : Nat
  id : Nat
  rev : Nat
  deriving DecidableEq, Repr

/-- How a PMBus transaction ended (R170); a read's data where it succeeded. -/
inductive TxnRes where
  | ok (data : Nat) | addressNack | dataNack | pec
  deriving DecidableEq, Repr

/-- One sample of a power path or feed: voltages in mV, current in mA, the time the limit amplifier regulated in the
sample period in µs, and an ADC input at full scale (R174, R190). -/
structure Sample where
  vbus : Nat
  vconv : Nat
  ibus : Int
  reg : Nat
  full : Bool
  deriving DecidableEq, Repr

/-- A channel of the ADCs with its sample: a power path 1–34, a feed (true is B), a die temperature in 0.1 °C (false is of
ADC 0, true of ADC 2), VCONN0–3 in mV, or a reference 0–14 in the order of R190 (R190, R492). -/
inductive Chan where
  | path (n : Nat) (x : Sample) | feed (b : Bool) (x : Sample) | die (adc2 : Bool) (t : Int) | vconn (k mv : Nat)
  | reference (k v : Nat)
  deriving DecidableEq, Repr

/-- A transaction that a listening chip decodes on a PMBus segment: converter, command code and value written (R225). -/
structure BusTxn where
  conv : Nat
  code : Nat
  value : Nat
  deriving DecidableEq, Repr

/-- The rule under which ports are shed: early warning (R216), a change of feeds (R215), feed overcurrent (R199). -/
inductive ShedWhy where
  | ew | feed | overcurrent
  deriving DecidableEq, Repr

/-- What a TS word of the neighbour says (R252). -/
structure TsWord where
  link : Nat
  ladle : Bool
  role : Nat
  cl : Nat
  node : Nat
  deriving DecidableEq, Repr

/-- What a HELLO says (R265). -/
structure Hello where
  uid : Nat
  claim : Nat
  link : Nat
  role : Nat
  /-- ACTIVE; otherwise RESERVE (R268) -/
  active : Bool
  deriving DecidableEq, Repr

/-- One item of slow state or of a full sync that the Ladle brings from the partner (R226, R227, R239, R241). -/
inductive SlowItem where
  /-- a region of the buffer plan in force: kind, owner, upstream of the owner, first page, pages; the first of a plan
  replaces the plan held -/
  | region (first : Bool) (kind owner ownerUp page pages : Nat)
  /-- identity map entry (R101), descriptor cache, its number of configurations, interface table -/
  | ident (p : Nat) (entry cache : List Byte) (cfgs : Nat) (alts : List Nat)
  /-- allocation in force of a port in 0.1 W, its pin, shed state -/
  | alloc (n watts : Nat) (pinSusp shed : Bool)
  /-- a settings block: the opcode of its SET command, its selector, its bytes -/
  | block (opcode sel : Nat) (bytes : List Byte)
  /-- operating profile (R443) -/
  | profile (n : Nat)
  /-- compatibility level pinned for the next reset (R403) -/
  | clPin (n : Nat)
  /-- an event record of the partner (R293) -/
  | record (bytes : List Byte)
  /-- a command received and not started (R241) -/
  | command (c : Cmd)
  /-- a response stored and not read (R241) -/
  | response (u : Up) (bytes : List Byte)
  /-- a response cache entry (R241, R345) -/
  | cached (tr : Transport) (tag opcode crc at_ : Nat) (bytes : List Byte)
  /-- NONCE of a transport (R241, R347) -/
  | nonce (tr : Transport) (value : Nat)
  /-- unique ID and hub serial of the primary (R239, R268) -/
  | primary (uid : Nat) (serial : List Byte)
  /-- usable links of the partner chip (R268) -/
  | links (ls : List LsaLink)
  /-- ms remaining of the partner's firmware restart (R385) -/
  | firmware (ms : Nat)
  /-- wire-derived state of a port, sent after a digest mismatch (R225, R227): device address, DPE state, speed, and for
  each endpoint its address, host toggle, wire toggle and held packets -/
  | port (p addr dpe speed : Nat) (eps : List (Nat × Bool × Bool × List (List Byte)))
  /-- a request for the wire-derived state of a port (R227) -/
  | ask (p : Nat)
  /-- a request for a full sync (R228, R277) -/
  | askSync
  /-- the node's one ID: the claim of its LSA and the ID in effect (R19, R20, R266) -/
  | claim (id nodeId : Nat) (fixed tentative : Bool)
  /-- state and generation of a SuperSpeed link: SPE 1–8 of the ports, 9 and 10 of upstreams A and B (R237) -/
  | spe (n link : Nat) (gen2 : Bool)
  /-- a lend's other node, borrowing upstream and virtual port, 0 for none, and whether a route joins the nodes or
  LEND_HOLD runs (R124, R226) -/
  | lend (l : Loc) (node : Nat) (up : Up) (vport : Nat) (route : Bool)
  /-- a virtual port: in use, shown, hidden, home port, identity entry, cache, configurations, interface table (R226) -/
  | vport (u : Up) (v : Nat) (used shown hidden : Bool) (homePort : Nat) (entry cache : List Byte) (cfgs : Nat)
      (alts : List Nat)
  deriving DecidableEq, Repr

/-- One mirror entry (R226, R228): an endpoint's wire toggle and held packets, a tunnel's sequence numbers, or the line
state of a port. -/
inductive MirrorItem where
  | endpoint (l : Loc) (ep : Nat) (wireTog : Bool) (held : List (List Byte))
  | tunnel (l : Loc) (txSeq rxSeq : Nat)
  | line (p dpe : Nat) (busSusp : Bool)
  deriving DecidableEq, Repr

/-- The queues of the event unit: upstream A, upstream B, sideband, fabric-forward, journal writer (R302, R320). -/
inductive QueueId where
  | a | b | sideband | fabric | journal
  deriving DecidableEq, Repr

/-- How a journal record's write went: its read-back matched; one line failed twice, at an offset of the slot; the
MRAM controller reported a fault (R313, R316). -/
inductive LineRes where
  | good | remapped | controllerFault
  deriving DecidableEq, Repr


/-- A source that wakes the chip from HIBERNATE and has no row of its own (R424). -/
inductive HibWake where
  /-- a BMC preamble on an upstream CC line -/
  | bmc
  /-- a CC attach change, or upstream VBUS reaching 4.0 V -/
  | cc
  /-- a feed change -/
  | feed
  deriving DecidableEq, Repr


/-! ### Operands that come together -/

/-- What a host's transaction at high speed holds: its token's PID and the packets after it (R45). -/
structure HsTxn where
  pid : Pid
  pkts : List Pkt
  deriving DecidableEq, Repr

/-- A SuperSpeed link that has trained, 1–8 a port's and 9, 10 an upstream's, and whether at Gen 2 (R92, R96). -/
structure Trained where
  n : Nat
  gen2 : Bool
  deriving DecidableEq, Repr

/-- An OUT endpoint whose device took the packet, with ACK or with NYET (R113). -/
structure EpAck where
  ep : Nat
  nyet : Bool
  deriving DecidableEq, Repr

/-- The voltages of CC1 and CC2 in mV (R132). -/
structure CcVolts where
  v1 : Nat
  v2 : Nat
  deriving DecidableEq, Repr

/-- A message of no row of its own, and what its extended header says where it is an extended one: the chunk's number and
the data size (R3, R141). -/
structure OtherMsg where
  hdr : PdHdr
  ext : Option (Nat × Nat)
  deriving DecidableEq, Repr

/-- A transaction of a segment that ended: the partner's, where the bus carried the partner's (R225), and how it ended. -/
structure TxnEnd where
  seen : Option BusTxn
  res : TxnRes
  deriving DecidableEq, Repr

/-- A link that may have block lock: the sync headers of its last 64 blocks and the TS words received in a row (R250, R251). -/
structure LockSeen where
  link : Nat
  heads : List Nat
  ts : Nat
  deriving DecidableEq, Repr

/-- What tells that a link lost lock: silence of its link words, or the sync headers of its last 64 blocks (R250, R251). -/
structure LossSeen where
  silence : Bool
  heads : List Nat
  deriving DecidableEq, Repr

/-- The commands that the block takes: packets' opcodes executed by the MPC, bus and protocol happenings, pins,
link words and frames, measurements and timers that run out. -/
inductive Instr where
  /-- NOP (R361). Command 0x0000 echoes its payload. -/
  | nop (c : Cmd)
  /-- IDENTIFY (R362). Command 0x0001 returns the chip's identity, levels, role, bank, image and boot count. -/
  | identify (c : Cmd)
  /-- SYS_STATUS (R363). Command 0x0002 returns the power state, boot status, IRQ summary, temperature, restarts and uptime, all taken at one instant. -/
  | sysStatus (c : Cmd)
  /-- CHIP_RESET (R364). Privileged command 0x0003 stores its response and schedules a chip reset DELAY ms later; an ACTIVE pair chip hands over first. -/
  | chipReset (c : Cmd)
  /-- CHIP_RESET_DELAY_EXPIRY (R364). The DELAY of a CHIP_RESET runs out and the chip resets exactly as a RESET_N pulse would. -/
  | chipResetDelayExpiry
  /-- CONFIG_SELECT (R365). Privileged command 0x0004 checks a configuration image and, if it passes, makes it IMAGE_NEXT. -/
  | configSelect (c : Cmd)
  /-- PORT_STATUS (R366). Command 0x0100 returns 16-byte status entries for a range of ports. -/
  | portStatus (c : Cmd)
  /-- PORT_MOVE (R367). Command 0x0101 moves a port to a new owner under the drain rules of R116. -/
  | portMove (c : Cmd)
  /-- PORT_RESET (R368). Command 0x0102 starts a real reset of a port's device on the wire, with a refill if the port is TRANSLATED. -/
  | portReset (c : Cmd)
  /-- PLAN_SET (R369). Command 0x0200 carves a buffer plan and applies it at a microframe boundary once the changing regions drain. -/
  | planSet (c : Cmd)
  /-- PLAN_GET (R369). Command 0x0201 returns the effective plan header and its non-empty regions. -/
  | planGet (c : Cmd)
  /-- MODE_SET (R370). Command 0x0202 sets a port's requested mode. -/
  | modeSet (c : Cmd)
  /-- IDMAP_GET (R370). Command 0x0203 returns identity map entries and, optionally, the interface tables. -/
  | idmapGet (c : Cmd)
  /-- CACHE_READ (R370). Command 0x0204 returns bytes of a port's DESC region. -/
  | cacheRead (c : Cmd)
  /-- PORT_REFILL (R371). Command 0x0205 runs a refill with configuration replay on a translated port. -/
  | portRefill (c : Cmd)
  /-- LEND (R372). Command 0x0206 lends a translated port to a virtual port of another node. -/
  | lend (c : Cmd)
  /-- LEND_END_RECALL (R372). Command 0x0207 with SIDE 0, sent to the lending node, recalls a lent port. -/
  | lendEndRecall (c : Cmd)
  /-- LEND_END_RELEASE (R372). Command 0x0207 with SIDE 1, sent to the borrowing node, releases a virtual port. -/
  | lendEndRelease (c : Cmd)
  /-- PD_STATUS (R373). Command 0x0300 returns a PDE's CC and policy state, counters and PD data. -/
  | pdStatus (c : Cmd)
  /-- PD_CAPS_READ (R374). Command 0x0301 returns advertised capabilities or the partner's Source or Sink capabilities. -/
  | pdCapsRead (c : Cmd)
  /-- PD_SETTINGS_GET (R375). Command 0x0302 returns a PDE's settings block. -/
  | pdSettingsGet (c : Cmd)
  /-- PD_SETTINGS_SET (R375). Privileged command 0x0303 writes a PDE's settings block; changes of capabilities are re-advertised. -/
  | pdSettingsSet (c : Cmd)
  /-- PD_ACTION_RENEGOTIATE (R376). PD_ACTION 0 sends capabilities anew under R154. -/
  | pdActionRenegotiate (c : Cmd)
  /-- PD_ACTION_SOFT_RESET (R376). PD_ACTION 1 sends a Soft_Reset. -/
  | pdActionSoftReset (c : Cmd)
  /-- PD_ACTION_HARD_RESET (R376). PD_ACTION 2 sends a Hard Reset at once on an attached port. -/
  | pdActionHardReset (c : Cmd)
  /-- PD_ACTION_ERROR_RECOVERY (R376). PD_ACTION 3 puts the CC layer into ERROR_RECOVERY at once. -/
  | pdActionErrorRecovery (c : Cmd)
  /-- PD_ACTION_PR_SWAP (R376). PD_ACTION 4 sends PR_Swap on an upstream. -/
  | pdActionPrSwap (c : Cmd)
  /-- PD_ACTION_GET_SINK_CAP (R376). PD_ACTION 5 sends Get_Sink_Cap on an upstream and re-evaluates FRS arming. -/
  | pdActionGetSinkCap (c : Cmd)
  /-- PD_ACTION_WAITING_START (R376). A waiting non-reset PD action is started when the AMS in progress ends. -/
  | pdActionWaitingStart (n : Nat)
  /-- PPC_SETTINGS_GET (R361). Command 0x0400 returns a PPC settings block. -/
  | ppcSettingsGet (c : Cmd)
  /-- PPC_SETTINGS_SET (R188). Privileged command 0x0401 writes a PPC settings block, clamped, and applies it. -/
  | ppcSettingsSet (c : Cmd)
  /-- PORT_POWER_CYCLE (R377). Command 0x0402 removes a port's VBUS and schedules its return after OFF_MS and any cool-down. -/
  | portPowerCycle (c : Cmd)
  /-- POWER_CYCLE_OFF_END (R377). OFF_MS and any remaining cool-down of a power cycle have passed; VBUS returns if a request stands and a latch-off trip clears. -/
  | powerCycleOffEnd (n : Nat)
  /-- METER_READ (R378). Command 0x0403 returns meter blocks of ports, upstreams and feeds, optionally clearing peak and negative flags. -/
  | meterRead (c : Cmd)
  /-- CONVERTER_STATUS (R379). Command 0x0404 returns a converter's address, state and last status. -/
  | converterStatus (c : Cmd)
  /-- CONVERTER_INIT (R379). Privileged command 0x0405 runs the PMBus initialisation sequence on one converter. -/
  | converterInit (c : Cmd)
  /-- FEED_SETTINGS_GET (R361). Command 0x0500 returns a feed settings block. -/
  | feedSettingsGet (c : Cmd)
  /-- FEED_SETTINGS_SET (R380). Privileged command 0x0501 writes a feed settings block and completes after the recomputation it triggers. -/
  | feedSettingsSet (c : Cmd)
  /-- PBA_GLOBAL_GET (R361). Command 0x0502 returns the PBA global block. -/
  | pbaGlobalGet (c : Cmd)
  /-- PBA_GLOBAL_SET (R380). Privileged command 0x0503 writes the PBA global block and completes after recomputation. -/
  | pbaGlobalSet (c : Cmd)
  /-- PBA_PORT_GET (R361). Command 0x0504 returns a port's PBA block. -/
  | pbaPortGet (c : Cmd)
  /-- PBA_PORT_SET (R380). Command 0x0505 writes a port's PBA block, clamping pins, and completes after recomputation. -/
  | pbaPortSet (c : Cmd)
  /-- BUDGET_STATUS (R381). Command 0x0506 returns budget, committed power, capacity, pin floor and EW state. -/
  | budgetStatus (c : Cmd)
  /-- PAIR_STATUS (R384). Command 0x0600 returns the executing chip's pair status block. -/
  | pairStatus (c : Cmd)
  /-- PAIR_SETTINGS_GET (R383). Command 0x0601 returns the pair settings block. -/
  | pairSettingsGet (c : Cmd)
  /-- PAIR_SETTINGS_SET (R384). Privileged command 0x0602 writes the pair settings on both chips. -/
  | pairSettingsSet (c : Cmd)
  /-- HANDOVER (R385). Privileged command 0x0603 starts a handover of ownership to the standby chip. -/
  | handover (c : Cmd)
  /-- PAIR_RELAY (R386). Command 0x0604 carries a complete inner command packet to the partner chip and returns its response. -/
  | pairRelay (c : Cmd)
  /-- FABRIC_STATUS (R387). Command 0x0700 returns node and link status blocks, optionally clearing link counters. -/
  | fabricStatus (c : Cmd)
  /-- FABRIC_SETTINGS_GET (R383). Command 0x0701 returns the fabric settings block. -/
  | fabricSettingsGet (c : Cmd)
  /-- FABRIC_SETTINGS_SET (R389). Privileged command 0x0702 writes the fabric settings; a NODE_ID becomes a claim at the next LSA. -/
  | fabricSettingsSet (c : Cmd)
  /-- NODE_LIST (R388). Command 0x0703 returns one entry per LSA held, with route information. -/
  | nodeList (c : Cmd)
  /-- EVENT_FETCH (R390). Command 0x0800 with PEEK 0 frees acknowledged records and returns the oldest unfreed records of a queue. -/
  | eventFetch (c : Cmd)
  /-- EVENT_FETCH_PEEK (R390). Command 0x0800 with PEEK 1 returns held records from FROM_SEQ without freeing them. -/
  | eventFetchPeek (c : Cmd)
  /-- QUEUE_STATUS (R391). Command 0x0801 returns the four queue status blocks and capture occupancy. -/
  | queueStatus (c : Cmd)
  /-- EVENT_ROUTE_GET (R392). Command 0x0802 returns route bytes for a range of sources. -/
  | eventRouteGet (c : Cmd)
  /-- EVENT_ROUTE_SET (R392). Command 0x0803 writes route bytes, limited to the own queue bit from an unauthenticated host. -/
  | eventRouteSet (c : Cmd)
  /-- EVENT_SETTINGS_GET (R383). Command 0x0804 returns the event settings block. -/
  | eventSettingsGet (c : Cmd)
  /-- EVENT_SETTINGS_SET (R393). Privileged command 0x0805 writes the event settings block. -/
  | eventSettingsSet (c : Cmd)
  /-- TIME_STATUS (R383). Command 0x0900 returns the time status block. -/
  | timeStatus (c : Cmd)
  /-- TIME_SETTINGS_GET (R383). Command 0x0901 returns the time settings block. -/
  | timeSettingsGet (c : Cmd)
  /-- TIME_SETTINGS_SET (R285). Privileged command 0x0902 writes the time settings block. -/
  | timeSettingsSet (c : Cmd)
  /-- TIME_EPOCH (R394). Privileged command 0x0903 with AT_PPS clear steps the root's TIME to NEW_TIME at once. -/
  | timeEpoch (c : Cmd)
  /-- TIME_EPOCH_AT_PPS (R394). Privileged command 0x0903 with AT_PPS set arms TIME to take a whole-second NEW_TIME at the next accepted TSYNC_IN edge. -/
  | timeEpochAtPps (c : Cmd)
  /-- SOF_READ (R395). Command 0x0904 returns an upstream's SOF correlation block with NOW. -/
  | sofRead (c : Cmd)
  /-- CROCK_STATUS (R383). Command 0x0A00 returns the Crock status block. -/
  | crockStatus (c : Cmd)
  /-- CROCK_READ (R396). Command 0x0A01 reads bytes from a Crock partition. -/
  | crockRead (c : Cmd)
  /-- CROCK_WRITE (R397). Command 0x0A02 writes bytes to a writable Crock partition, merging partial lines. -/
  | crockWrite (c : Cmd)
  /-- JOURNAL_READ (R398). Command 0x0A03 returns whole journal records from the ring or first-fault area. -/
  | journalRead (c : Cmd)
  /-- FF_CLEAR (R399). Privileged command 0x0A04 clears the first-fault area by advancing FF_EPOCH. -/
  | ffClear (c : Cmd)
  /-- USER_ERASE (R399). Command 0x0A05 fills user-area blocks with zeros and marks them unused. -/
  | userErase (c : Cmd)
  /-- SIEVE_GET (R383). Command 0x0B00 returns a host channel's settings block. -/
  | sieveGet (c : Cmd)
  /-- SIEVE_SET (R400). Command 0x0B01 writes a host channel's settings, abandoning a run and re-arming the alive reference. -/
  | sieveSet (c : Cmd)
  /-- SIEVE_FEED (R401). Command 0x0B02 feeds bytes to a RUN or ALIVE channel. -/
  | sieveFeed (c : Cmd)
  /-- SIEVE_FINISH (R401). Command 0x0B03 ends a RUN and returns and compares the result. -/
  | sieveFinish (c : Cmd)
  /-- SIEVE_STATUS (R383). Command 0x0B04 returns a host channel's status block. -/
  | sieveStatus (c : Cmd)
  /-- PROFILE_GET (R402). Command 0x0C00 returns the profile and the profile block in effect. -/
  | profileGet (c : Cmd)
  /-- PROFILE_SET (R402). Privileged command 0x0C01 sets the operating profile, which applies to every unwritten profile field. -/
  | profileSet (c : Cmd)
  /-- CL_STATUS (R403). Command 0x0C02 returns the compatibility levels in effect, maximum, pinned and in the BDI. -/
  | clStatus (c : Cmd)
  /-- CL_PIN (R403). Privileged command 0x0C03 pins or unpins a compatibility level for the next chip reset. -/
  | clPin (c : Cmd)
  /-- FW_STATUS (R405). Command 0x0D00 returns the status of both firmware banks. -/
  | fwStatus (c : Cmd)
  /-- FW_VERIFY (R406). Command 0x0D01 checks a bank's header, hash, signature and level, and sets VERIFIED. -/
  | fwVerify (c : Cmd)
  /-- FW_ACTIVATE (R407). Privileged command 0x0D02 restarts the MPC into a verified bank. -/
  | fwActivate (c : Cmd)
  /-- FW_RESTART (R407). Privileged command 0x0D03 restarts the MPC into the bank in use. -/
  | fwRestart (c : Cmd)
  /-- NONCE_READ (R408). Command 0x0D04 returns the NONCE of the carrying transport, or the relay NONCE. -/
  | nonceRead (c : Cmd)
  /-- KEY_WRITE (R408). Privileged command 0x0D05 with OP 0 writes a key slot. -/
  | keyWrite (c : Cmd)
  /-- KEY_CLEAR (R408). Privileged command 0x0D05 with OP 1 clears a key slot. -/
  | keyClear (c : Cmd)
  /-- KEY_STATUS (R409). Command 0x0D06 returns presence, use and fingerprint of each key slot. -/
  | keyStatus (c : Cmd)
  /-- SELF_TEST (R410). Command 0x0E00 runs the selected self-tests and raises source 446. -/
  | selfTest (c : Cmd) (failed : Nat)
  /-- ERROR_COUNTERS (R411). Command 0x0E01 returns ECC, MRAM, retention and proxy discard counters, optionally clearing them. -/
  | errorCounters (c : Cmd)
  /-- DIAG_TRIGGER (R411). Command 0x0E02 raises source 447 with its argument. -/
  | diagTrigger (c : Cmd)
  /-- PHY_TUNE_GET (R412). Command 0x0E03 returns a PHY's tuning block. -/
  | phyTuneGet (c : Cmd)
  /-- PHY_TUNE_SET (R412). Privileged command 0x0E04 writes a PHY's tuning block, applied at its next training. -/
  | phyTuneSet (c : Cmd)
  /-- USB_COMMAND_TRANSFER (R352). A complete command transfer arrives on a management function's command pipe and is passed to the front-end. -/
  | usbCommandTransfer (u : Up) (bs : List Byte)
  /-- RESPONSE_PIPE_IN (R352). The host reads a stored response as one transfer on the response pipe. -/
  | responsePipeIn (u : Up)
  /-- FRAGMENT_ASSEMBLY_TIMEOUT (R346). 1 s passes without a fragment and the assembly is abandoned with BAD_CHECK. -/
  | fragmentAssemblyTimeout (t : Transport)
  /-- AUTH_LOCKOUT_END (R349). The 1 s lockout ends and the failure count returns to 0. -/
  | authLockoutEnd (t : Transport)
  /-- SIDEBAND_WINDOW_WRITE (R353). An SMBus or SPI write reaches a sideband window byte that has no row of its own. -/
  | sidebandWindowWrite (smbus : Bool) (offset : Nat) (bs : List Byte)
  /-- MBI_CTRL_GO (R354). A transaction that sets GO in MBI_CTRL ends and the front-end takes or refuses the mailbox message and writes MBI_ACK. -/
  | mbiCtrlGo (smbus : Bool) (ctrl len : Nat) (message : List Byte)
  /-- MBI_CTRL_SYNC (R354). MBI_CTRL written with SYNC set resynchronises the last accepted SEQ and abandons an open assembly. -/
  | mbiCtrlSync (ctrl : Nat)
  /-- MBO_ACK (R355). The host writes MBO_ACK; the chip clears VALID and posts the next message. -/
  | mboAck (value : Nat)
  /-- MBO_TIMEOUT (R355). tMOUT passes without acknowledgement; the alert is re-presented, and after 3 retries the message is dropped. -/
  | mboTimeout
  /-- SMBUS_ALERT_RESPONSE (R353). A read of the Alert Response Address returns the chip's address while SMB_ALERT_N is low. -/
  | smbusAlertResponse
  /-- SMBUS_TIMEOUT (R486). SMB_CLK held low for tTIMEOUT makes the target abandon the transaction. -/
  | smbusTimeout
  /-- HIBERNATE_SMBUS_ACCESS (R424). An SMBus write or access above 0x3F in HIBERNATE is NACKed and wakes the chip. -/
  | hibernateSmbusAccess (write : Bool) (offset : Nat)
  /-- COMMAND_FRAME (R356). A COMMAND frame segment arrives at its target and is reassembled and executed. -/
  | commandFrame (src tag seg : Nat) (last toAll : Bool) (bs : List Byte)
  /-- RESPONSE_FRAME (R356). A RESPONSE frame arrives and is returned to the host with its TAG. -/
  | responseFrame (src tag seg : Nat) (last : Bool) (bs : List Byte)
  /-- CMD_WAIT_EXPIRY (R356). CMD_WAIT passes without a response and the forwarded command completes TIMEOUT. -/
  | cmdWaitExpiry (tag : Nat)
  /-- PARTNER_CMD_FRAME (R386). A PARTNER_CMD frame carries a relayed command to the partner chip. -/
  | partnerCmdFrame (seg : Nat) (last response : Bool) (outer : Nat) (bs : List Byte)
  /-- RELAY_TIMEOUT (R386). No inner response arrives within 1.00 s and the relay completes TIMEOUT. -/
  | relayTimeout
  /-- GET_PORT_STATUS (R90). Hub-class GetPortStatus returns the port's status and change bits as the owner sees them. -/
  | getPortStatus (u : Up) (fn : Fn) (n : Nat)
  /-- SET_PORT_FEATURE_PORT_RESET (R42). SetPortFeature(PORT_RESET) resets a transparent port on the wire, a translated port virtually or really, or the management function. -/
  | setPortFeaturePortReset (u : Up) (fn : Fn) (n : Nat)
  /-- SET_PORT_FEATURE_PORT_SUSPEND (R78). SetPortFeature(PORT_SUSPEND) from the owner suspends an ENABLED or SLEEPING port. -/
  | setPortFeaturePortSuspend (u : Up) (n : Nat)
  /-- CLEAR_PORT_FEATURE_PORT_SUSPEND (R83). ClearPortFeature(PORT_SUSPEND) from the owner starts or merges a host resume. -/
  | clearPortFeaturePortSuspend (u : Up) (n : Nat)
  /-- CLEAR_PORT_FEATURE_PORT_ENABLE (R42). ClearPortFeature(PORT_ENABLE) disables a transparent port's link or a translated port in the owner's view. -/
  | clearPortFeaturePortEnable (u : Up) (n : Nat)
  /-- SET_PORT_FEATURE_PORT_POWER (R43). SetPortFeature(PORT_POWER) sets the hub function's bit and, from the configured owner, turns the power request on. -/
  | setPortFeaturePortPower (u : Up) (fn : Fn) (n : Nat)
  /-- CLEAR_PORT_FEATURE_PORT_POWER (R43). ClearPortFeature(PORT_POWER) clears the bit and, from the configured owner, turns the power request off. -/
  | clearPortFeaturePortPower (u : Up) (fn : Fn) (n : Nat)
  /-- SET_PORT_FEATURE_PORT_TEST (R89). SetPortFeature(PORT_TEST) puts a port into a test mode when every owned port is idle. -/
  | setPortFeaturePortTest (u : Up) (n : Nat) (sel : TestSel)
  /-- SET_PORT_FEATURE_PORT_INDICATOR (R42). SetPortFeature(PORT_INDICATOR) is answered with STALL. -/
  | setPortFeaturePortIndicator (u : Up) (n : Nat)
  /-- CLEAR_PORT_FEATURE_C (R91). ClearPortFeature of a change feature clears that change bit. -/
  | clearPortFeatureC (u : Up) (fn : Fn) (n : Nat) (c : Change)
  /-- CLEAR_TT_BUFFER (R56). Clear_TT_Buffer frees the non-periodic buffer of an addressed device endpoint. -/
  | clearTtBuffer (u : Up) (n addr ep : Nat)
  /-- RESET_TT (R56). Reset_TT discards every buffer and result of a TT and restarts it. -/
  | resetTt (u : Up) (n : Nat)
  /-- GET_TT_STATE (R56). Get_TT_State returns the TT's buffer maps, pending splits and frame number. -/
  | getTtState (u : Up) (n wLength : Nat)
  /-- STOP_TT (R56). Stop_TT lets the current FS/LS transaction finish, then starts no other. -/
  | stopTt (u : Up) (n : Nat)
  /-- SET_PORT_FEATURE_PORT_LINK_STATE (R92). SetPortFeature(PORT_LINK_STATE) moves a SuperSpeed link to the requested state. -/
  | setPortFeaturePortLinkState (u : Up) (n : Nat) (st : Link)
  /-- SET_PORT_FEATURE_BH_PORT_RESET (R92). A warm reset takes a SuperSpeed link from SS.Inactive, Compliance or Loopback to Rx.Detect. -/
  | setPortFeatureBhPortReset (u : Up) (n : Nat)
  /-- SET_PORT_FEATURE_PORT_U1_TIMEOUT (R94). The host sets the U1 timeout of a SuperSpeed port. -/
  | setPortFeaturePortU1Timeout (u : Up) (n value : Nat)
  /-- SET_PORT_FEATURE_PORT_U2_TIMEOUT (R94). The host sets the U2 timeout of a SuperSpeed port. -/
  | setPortFeaturePortU2Timeout (u : Up) (n value : Nat)
  /-- SET_PORT_FEATURE_REMOTE_WAKE_MASK (R85). The host sets a SuperSpeed port's PORT_REMOTE_WAKE_MASK. -/
  | setPortFeatureRemoteWakeMask (u : Up) (n mask : Nat)
  /-- GET_PORT_ERROR_COUNT (R95). GetPortErrorCount returns and clears a SuperSpeed port's link error count. -/
  | getPortErrorCount (u : Up) (n : Nat)
  /-- HUB_SET_CONFIGURATION (R31). The host configures or unconfigures a hub function, raising source 355 or 367. -/
  | hubSetConfiguration (u : Up) (fn : Fn) (value : Nat)
  /-- HUB_SET_INTERFACE (R52). The host selects the hub's alternate setting, choosing single-TT or multi-TT. -/
  | hubSetInterface (u : Up) (alt : Nat)
  /-- HUB_GET_DESCRIPTOR (R34). The host reads a hub or management function descriptor. -/
  | hubGetDescriptor (u : Up) (fn : Fn) (kind index wLength : Nat)
  /-- HUB_LPM_TOKEN (R81). An LPM token to a hub function is accepted only when all its owned ports are idle. -/
  | hubLpmToken (u : Up) (besl : Nat)
  /-- HS_TOKEN (R45). A downstream HS token is forwarded only to the owned port holding its address, or terminated in a proxy. -/
  | hsToken (u : Up) (t : HsTxn) (addr ep : Nat)
  /-- ADDRESS_LEARN (R46). The status stage of a SET_ADDRESS through a transparent port completes and the new address takes effect for routing. -/
  | addressLearn (p addr : Nat)
  /-- SOF_RECEIVED (R58). A host SOF on an HS upstream drives the microframe timer and is stamped by the TEU. -/
  | sofReceived (u : Up) (frame uframe : Nat)
  /-- FRAME_START (R59). The start of a 1 ms frame makes each TT send an FS SOF or LS keep-alive and each translated port receive its own SOF. -/
  | frameStart (u : Option Up)
  /-- SS_HEADER_PACKET (R51). A SuperSpeed header packet is forwarded by route string. -/
  | ssHeaderPacket (u : Up) (down : Bool) (n : Nat) (bs : List Byte)
  /-- TT_SSPLIT (R53). A start split reaches a port's TT and is accepted, NAKed or dropped. -/
  | ttSsplit (u : Up) (n addr ep : Nat) (periodic : Bool) (pid : Pid) (ls toggle : Bool) (count : Nat) (data : List Byte)
  /-- TT_CSPLIT (R53). A complete split is answered from the TT's buffers. -/
  | ttCsplit (u : Up) (n addr ep : Nat) (periodic isIn : Bool)
  /-- TT_TRANSACTION_DONE (R53). An FS/LS transaction started by a TT completes on its bus and its result is stored. -/
  | ttTransactionDone (p addr ep : Nat) (periodic isIn : Bool) (res : TtRes)
  /-- TT_RESULT_DISCARD (R54). A periodic result held to the end of microframe Y+4 is discarded. -/
  | ttResultDiscard (p addr ep : Nat) (isIn : Bool)
  /-- PLAN_APPLY (R68). At the first microframe boundary with every changing region drained, the new plan takes effect. -/
  | planApply
  /-- PLAN_APPLY_TIMEOUT (R68). 10 ms pass without the changing regions draining; the old plan stays and the command completes BUSY. -/
  | planApplyTimeout
  /-- SCRUB_PASS (R70). The scrubber passes over the endpoint store, correcting single-bit errors. -/
  | scrubPass (single : Nat) (bad : List EccErr)
  /-- CONNECT (R72). A line above VIH for TDCNN on a DISCONNECTED port is recognised as a connect. -/
  | connect (p : Nat) (pullUpDp : Bool)
  /-- DISCONNECT (R73). SE0 for TDDIS or the HS envelope detector recognises a disconnect. -/
  | disconnect (p : Nat)
  /-- DEVICE_CHIRP (R74). The device's chirp K, continuous for TFILT, is accepted or ignored. -/
  | deviceChirp (p : Nat)
  /-- DEVICE_CHIRP_END (R74). The device's chirp K ends and the DPE starts its chirp K-J sequence. -/
  | deviceChirpEnd (p : Nat) (inTime : Bool)
  /-- RESET_END (R74). TDRST expires; the port enters ENABLED or DISABLED, and C_PORT_RESET is set. -/
  | resetEnd (p : Nat) (idle : Bool)
  /-- CDP_VDP_SRC (R77). As a CDP, the DPE drives or removes VDM_SRC in answer to VDP_SRC. -/
  | cdpVdpSrc (p : Nat) (present : Bool)
  /-- UPSTREAM_SUSPEND (R79). 3 ms without activity on an upstream; owned ports take the bus-suspended mark. -/
  | upstreamSuspend (u : Up)
  /-- DEVICE_LPM_ACK (R80). A device ACKs an LPM token and the port enters SLEEPING. -/
  | deviceLpmAck (p besl : Nat)
  /-- PROXY_LPM_TOKEN (R80). The proxy answers a host LPM token for a translated port and forwards it to the device. -/
  | proxyLpmToken (u : Up) (n besl : Nat) (device : Hs)
  /-- DEVICE_WAKE (R83). The K detector qualifies device K and a resume starts or merges. -/
  | deviceWake (p : Nat)
  /-- HOST_K (R84). The UXC qualifies host K on an upstream and resumes its bus-suspended ports. -/
  | hostK (u : Up)
  /-- UPSTREAM_WAKE_DRIVE_END (R84). The UXC releases its upstream K after TURSM or the BESL time and judges the line. -/
  | upstreamWakeDriveEnd (u : Up) (lineK : Bool)
  /-- RESUME_K_END (R83). TDRSMDN or the BESL time of a port resume expires and the DPE sends the EOP. -/
  | resumeKEnd (p : Nat)
  /-- UPSTREAM_RESUME_EOP (R83). The host's EOP on a resuming upstream is repeated to each merged port, which enters ENABLED. -/
  | upstreamResumeEop (u : Up)
  /-- BABBLE (R88). A device transmitting at EOF2 disables its port. -/
  | babble (p : Nat)
  /-- LOSS_OF_ACTIVITY (R88). The bus not idle at EOF2 disables the port. -/
  | lossOfActivity (p : Nat)
  /-- PORT_ERROR (R88). Three squelch framing losses in one microframe disable the port. -/
  | portError (p : Nat)
  /-- RX_DETECT_PROBE (R92). Every 12 ms in Rx.Detect the SPE tests for far-end termination. -/
  | rxDetectProbe (n : Nat) (found : Bool)
  /-- SS_TRAINING_DONE (R92). Polling or recovery training completes and the link enters U0. -/
  | ssTrainingDone (t : Trained)
  /-- POLLING_TIMEOUT (R92). 360 ms in Polling return the link to Rx.Detect, counting towards 8 failures. -/
  | pollingTimeout (n : Nat) (lfps : Bool)
  /-- RECOVERY_TIMEOUT (R92). 12 ms without success in Recovery or Hot Reset take the link to SS.Inactive. -/
  | recoveryTimeout (n : Nat)
  /-- SS_LINK_ERROR (R95). A SuperSpeed link error is counted and raises source 321. -/
  | ssLinkError (n : Nat)
  /-- LGO_U1_U2 (R94). The SPE receives LGO_U1 or LGO_U2 from the device and accepts or rejects it. -/
  | lgoU1U2 (n : Nat) (lvl : Link)
  /-- U1_U2_IDLE_TIMEOUT (R94). The port's U1 or U2 idle timeout expires and the SPE initiates the state. -/
  | u1U2IdleTimeout (n : Nat) (u2 accepted : Bool)
  /-- EXIT_LFPS (R92). Exit LFPS from either end takes a link from U1 or U2 into Recovery. -/
  | exitLfps (n : Nat)
  /-- LFPS_WAKE (R96). The LFPS wake detector fires on a U3 link and a U3 exit starts. -/
  | lfpsWake (p : Nat)
  /-- U3_WAKE_HANDSHAKE_TIMEOUT (R96). tNoLFPSResponseTimeout passes and the port enters SS.Inactive. -/
  | u3WakeHandshakeTimeout (p : Nat)
  /-- WARM_RESET_DONE (R92). A warm reset completes and the link enters Rx.Detect. -/
  | warmResetDone (n : Nat)
  /-- FILL_REQUEST_DONE (R103). A fill or refill request completes on the wire and the next one is sent, or the cache is written. -/
  | fillRequestDone (p : Nat) (data : List Byte)
  /-- FILL_ATTEMPT_TIMEOUT (R103). A fill request attempt passes 500 ms or 50 ms and is retried, or the fill falls back. -/
  | fillAttemptTimeout (p : Nat)
  /-- TFILL_EXPIRY (R103). tFILL passes without the cache written; the port falls back with FALLBACK 3. -/
  | tfillExpiry (p : Nat)
  /-- PROXY_SET_ADDRESS (R105). The proxy answers SET_ADDRESS itself and sets HOST_ADDR. -/
  | proxySetAddress (u : Up) (n addr : Nat)
  /-- PROXY_GET_DESCRIPTOR (R105). The proxy answers device and configuration descriptor requests from the cache. -/
  | proxyGetDescriptor (u : Up) (n kind index wLength : Nat)
  /-- PROXY_SETUP (R112). The proxy ACKs a host SETUP and forwards the request to the device. -/
  | proxySetup (u : Up) (n : Nat) (setup : List Byte)
  /-- FORWARDED_SET_CONFIGURATION_DONE (R111). A forwarded SetConfiguration completes; toggles reset, held packets discarded, the region re-divided, and the port enters LIVE or PRESENTED. -/
  | forwardedSetConfigurationDone (l : Loc)
  /-- FORWARDED_SET_INTERFACE_DONE (R111). A forwarded SetInterface completes; that interface's toggles and held packets reset. -/
  | forwardedSetInterfaceDone (l : Loc)
  /-- CLEAR_FEATURE_ENDPOINT_HALT (R111). A host SETUP of ClearFeature(ENDPOINT_HALT) resets both toggle domains of the endpoint. -/
  | clearFeatureEndpointHalt (u : Up) (n ep : Nat)
  /-- VIRTUAL_RESET_END (R108). The 12.0 ms of a virtual reset end and C_PORT_RESET is set with PORT_ENABLE. -/
  | virtualResetEnd (l : Loc)
  /-- RESET_WINDOW_EXPIRY (R107). The 500 ms reset-absorption window closes. -/
  | resetWindowExpiry (l : Loc)
  /-- REFILL_DONE (R115). A refill finishes: same identity is replayed, or a new identity shows a disconnect and connect. -/
  | refillDone (p : Nat)
  /-- HOST_OUT (R110). The proxy stores and ACKs a host OUT packet, or NAKs or NYETs it. -/
  | hostOut (u : Up) (n ep : Nat) (toggle : Bool) (data : List Byte)
  /-- HOST_IN (R113). The proxy answers a host IN with held data or NAK, and may draw the endpoint. -/
  | hostIn (u : Up) (n ep : Nat) (acked : Bool)
  /-- HOST_PING (R110). The proxy answers PING with ACK while a buffer is free. -/
  | hostPing (u : Up) (n ep : Nat)
  /-- DEVICE_IN_DATA (R113). A device IN packet arrives on the wire and is held in the proxy. -/
  | deviceInData (p ep : Nat) (data : List Byte)
  /-- DEVICE_OUT_ACK (R113). The device ACKs a delivered OUT packet and the buffer is freed. -/
  | deviceOutAck (p : Nat) (e : EpAck)
  /-- DEVICE_STALL (R111). A device STALLs an OUT; the endpoint's OUT data is discarded and STALL is given to the host. -/
  | deviceStall (p ep : Nat)
  /-- INTERRUPT_IN_POLL (R113). The proxy polls a device's interrupt IN endpoint at its interval. -/
  | interruptInPoll (p ep : Nat)
  /-- DRAIN_DONE (R116). A draining port empties; the old owner sees a disconnect and OWNER is set. -/
  | drainDone (l : Loc)
  /-- DRAIN_TIMEOUT (R116). 10 ms pass without the drain finishing; the move, lend or recall completes BUSY. -/
  | drainTimeout (l : Loc)
  /-- UPSTREAM_BUS_RESET (R117). The UXC recognises a bus reset on an upstream and parks, disables and discards as R117 sets. -/
  | upstreamBusReset (u : Up) (hs : Bool)
  /-- UPSTREAM_CONNECTION_LOST (R511). An upstream's CC detach or VBUS loss is treated as a bus reset and removes the pull-up. -/
  | upstreamConnectionLost (u : Up)
  /-- LEND_PRESENTED (R121). The borrower presents the virtual port and the lend command completes. -/
  | lendPresented (u : Up) (v : Nat)
  /-- LEND_BORROWER_TIMEOUT (R120). The borrower does not answer within 10 ms and the lend completes TIMEOUT. -/
  | lendBorrowerTimeout (p : Nat)
  /-- LEND_HOLD_EXPIRY (R124). LEND_HOLD passes without a route or an HS borrowing upstream; the lend ends and the port returns home. -/
  | lendHoldExpiry (l : Loc)
  /-- TUNNEL_DATA (R274). A DATA tunnel frame delivers a packet to the other half of a lend. -/
  | tunnelData (h : TunHdr) (data : List Byte)
  /-- TUNNEL_DRAW (R122). A DRAW tunnel frame makes the lender draw an IN endpoint. -/
  | tunnelDraw (h : TunHdr)
  /-- TUNNEL_ACK (R122). An end-to-end ACK frees the sender's held packet. -/
  | tunnelAck (h : TunHdr)
  /-- TUNNEL_CREDIT (R122). A CREDIT tunnel frame grants buffers to the other half. -/
  | tunnelCredit (h : TunHdr) (total : Nat)
  /-- TUNNEL_SETUP (R122). A SETUP tunnel frame carries a forwarded control request to the lender. -/
  | tunnelSetup (h : TunHdr) (setup : List Byte)
  /-- TUNNEL_RESULT (R274). A RESULT tunnel frame carries ACK, STALL or status completion back to the borrower. -/
  | tunnelResult (h : TunHdr) (result : Nat)
  /-- TUNNEL_RESET (R123). A RESET tunnel frame carries a real reset to the lender, which runs a refill. -/
  | tunnelReset (h : TunHdr)
  /-- TUNNEL_WAKE (R123). A WAKE tunnel frame carries a device wake to the borrower. -/
  | tunnelWake (h : TunHdr)
  /-- TUNNEL_SUSPEND (R78). A SUSPEND tunnel frame makes the lender suspend the lent port. -/
  | tunnelSuspend (h : TunHdr)
  /-- TUNNEL_RESUME (R274). A RESUME tunnel frame makes the lender resume the lent port. -/
  | tunnelResume (h : TunHdr)
  /-- TUNNEL_OPEN (R121). OPEN frames carry cache, identity entry and interface table to the borrower. -/
  | tunnelOpen (h : TunHdr) (data : List Byte)
  /-- TUNNEL_OPEN_DONE (R274). An OPEN_DONE frame confirms the borrower has presented the virtual port. -/
  | tunnelOpenDone (h : TunHdr)
  /-- TUNNEL_CLOSE (R275). A CLOSE frame ends the lend at the receiver. -/
  | tunnelClose (h : TunHdr)
  /-- TUNNEL_RESYNC (R275). A RESYNC frame makes the receiver resend its held frames from the returned TSEQ. -/
  | tunnelResync (h : TunHdr) (last : Nat)
  /-- TUNNEL_DISCARD (R274). A DISCARD frame applies held-packet discards at the other half. -/
  | tunnelDiscard (h : TunHdr)
  /-- TUNNEL_UNACKED_TIMEOUT (R275). A tunnel frame unacknowledged for 2 ms makes its half send RESYNC. -/
  | tunnelUnackedTimeout (l : Loc)
  /-- RD_SEEN (R132, R134), with the CC voltages in mV. Rd on exactly one CC wire takes a source to ATTACH_WAIT_SRC. -/
  | rdSeen (n v1 v2 : Nat)
  /-- ATTACH_QUALIFIED (R134). Rd stable for tCCDebounce attaches the port, latches orientation and requests vSafe5V, or waits for cool-down. -/
  | attachQualified (n : Nat) (vsafe5V : Bool)
  /-- RD_LOST (R134). Rd is lost during ATTACH_WAIT_SRC and the port returns to UNATTACHED_SRC. -/
  | rdLost (n : Nat)
  /-- CC_OPEN (R134). The CC line reads Open; during a transition the CC layer reports it at once. -/
  | ccOpen (n : Nat)
  /-- DETACH_QUALIFIED (R134). Open for tPDDebounce detaches the port; VBUS and VCONN are removed. -/
  | detachQualified (n : Nat)
  /-- ACCESSORY_IGNORED (R135). An accessory condition after a detach leaves the port unattached and raises the PD event. -/
  | accessoryIgnored (n : Nat)
  /-- ERROR_RECOVERY_END (R134). tErrorRecovery passes and the CC layer returns to its unattached state. -/
  | errorRecoveryEnd (n : Nat)
  /-- VCONN_OVERCURRENT (R137). VCONN at its current limit for 50 µs opens the switch and treats the cable as non-e-marked. -/
  | vconnOvercurrent (n : Nat)
  /-- DRP_TOGGLE (R138). An unattached upstream toggles between sink and source within tDRP. -/
  | drpToggle (u : Up)
  /-- RP_SEEN (R132, R138), with the CC voltages in mV. An upstream in UNATTACHED_SNK sees Rp and enters ATTACHWAIT_SNK. -/
  | rpSeen (u : Up) (v : CcVolts)
  /-- TRY_DEBOUNCE (R138). tTryCCDebounce completes in a Try or TryWait state and the upstream attaches. -/
  | tryDebounce (u : Up) (vsafe5V : Bool)
  /-- TRY_TIMEOUT (R138). tDRPTry or tDRPTryWait expires and the upstream moves on. -/
  | tryTimeout (u : Up)
  /-- VBUS_BELOW_VSINKDISCONNECT (R138). Upstream VBUS falls below 3.67 V outside a swap and the sink detaches. -/
  | vbusBelowVsinkdisconnect (u : Up)
  /-- DEAD_BATTERY_ATTACH (R138). Rp with vSafe5V in DEAD_BATTERY takes an upstream to ATTACHED_SNK. -/
  | deadBatteryAttach (u : Up) (v : CcVolts)
  /-- GOODCRC (R141). A received GoodCRC completes a transmission and may start a policy timer. -/
  | goodcrc (n id : Nat) (sopPrime : Bool)
  /-- CRC_RECEIVE_TIMER_EXPIRY (R141). tReceive passes without GoodCRC; the message is retried or a transmission error is reported. -/
  | crcReceiveTimerExpiry (n : Nat)
  /-- CHUNK_REQUEST (R141). A Chunk Request makes the PDE send the next chunk of an extended message. -/
  | chunkRequest (h : PdHdr) (chunk : Nat)
  /-- CHUNK_TIMEOUT (R140). tChunkSenderResponse or tChunkSenderRequest expires and the chunked message is abandoned. -/
  | chunkTimeout (n : Nat) (sender : Bool)
  /-- SINKTX_WAIT_END (R142). tSinkTx after setting SinkTxNG passes and the source starts its own AMS. -/
  | sinktxWaitEnd (n : Nat)
  /-- REQUEST (R149). A Request is evaluated against the last capabilities and answered Accept, Wait or Reject. -/
  | request (h : PdHdr) (rdo : Nat)
  /-- EPR_REQUEST (R149). An EPR_Request in EPR mode is evaluated, including a bit-exact PDO copy. -/
  | eprRequest (h : PdHdr) (rdo pdo : Nat)
  /-- EPR_MODE_ENTER (R152). EPR_Mode (Enter) is accepted or answered Enter_Failed with a reason. -/
  | eprModeEnter (h : PdHdr) (pdp : Nat)
  /-- EPR_MODE_EXIT (R152). EPR_Mode (Exit) leaves EPR mode at 20 V or less, or causes a Hard Reset above it. -/
  | eprModeExit (h : PdHdr)
  /-- GET_SOURCE_CAP (R512). Get_Source_Cap starts a capabilities AMS, or gets a plain SPR reply in EPR mode. -/
  | getSourceCap (h : PdHdr)
  /-- EPR_GET_SOURCE_CAP (R145). Extended_Control EPR_Get_Source_Cap is answered with EPR_Source_Capabilities in EPR mode. -/
  | eprGetSourceCap (h : PdHdr)
  /-- EPR_KEEPALIVE (R153). EPR_KeepAlive is answered with EPR_KeepAlive_Ack and restarts tSourceEPRKeepAlive. -/
  | eprKeepalive (h : PdHdr)
  /-- GET_SINK_CAP (R145). Get_Sink_Cap is answered with Sink_Capabilities on upstreams and Not_Supported downstream. -/
  | getSinkCap (h : PdHdr)
  /-- GET_SOURCE_CAP_EXTENDED (R147). Get_Source_Cap_Extended is answered with Source_Capabilities_Extended. -/
  | getSourceCapExtended (h : PdHdr)
  /-- GET_STATUS (R147). Get_Status is answered with Status, clearing read event flags. -/
  | getStatus (h : PdHdr)
  /-- GET_PPS_STATUS (R145). Get_PPS_Status is answered with PPS_Status under a PPS contract. -/
  | getPpsStatus (h : PdHdr)
  /-- GET_SOURCE_INFO (R147). Get_Source_Info is answered with Source_Info. -/
  | getSourceInfo (h : PdHdr)
  /-- GET_REVISION (R145). Get_Revision is answered with Revision 3.1, version 1.8. -/
  | getRevision (h : PdHdr)
  /-- SOURCE_CAPABILITIES (R159). An upstream sink receives Source_Capabilities and requests a PDO under its sink policy. -/
  | sourceCapabilities (h : PdHdr) (pdos : List Nat)
  /-- SINK_CAPABILITIES (R161). A partner's Sink_Capabilities are read to decide FRS arming. -/
  | sinkCapabilities (h : PdHdr) (pdos : List Nat)
  /-- ACCEPT (R145). An Accept within an AMS the PDE started advances its state machine. -/
  | accept (h : PdHdr)
  /-- REJECT (R145). A Reject within an AMS the PDE started advances its state machine. -/
  | reject (h : PdHdr)
  /-- WAIT (R145). A Wait within an AMS the PDE started advances its state machine. -/
  | wait (h : PdHdr)
  /-- PS_RDY (R145). A PS_RDY within an AMS the PDE started advances its state machine. -/
  | psRdy (h : PdHdr)
  /-- SOFT_RESET (R155). A received Soft_Reset is accepted and the protocol layer resets; a source re-advertises. -/
  | softReset (h : PdHdr)
  /-- HARD_RESET_SIGNAL (R156). A received Hard Reset voids the contract and starts the transition to default. -/
  | hardResetSignal (n : Nat)
  /-- DR_SWAP (R2). DR_Swap is answered with Reject on any port. -/
  | drSwap (h : PdHdr)
  /-- PR_SWAP (R160). PR_Swap is rejected downstream and accepted, waited or rejected on an upstream. -/
  | prSwap (h : PdHdr)
  /-- FR_SWAP (R161). An FR_Swap after the FRS signal is accepted and the upstream completes the role swap. -/
  | frSwap (h : PdHdr)
  /-- VCONN_SWAP (R145). VCONN_Swap is answered Not_Supported or Reject. -/
  | vconnSwap (h : PdHdr)
  /-- BIST (R145). A BIST message is performed only in an implicit or 5 V contract. -/
  | bist (h : PdHdr) (mode : Nat)
  /-- ALERT (R145). A received Alert raises the PD event ALERT_RECEIVED. -/
  | alert (h : PdHdr) (ado : Nat)
  /-- NOT_SUPPORTED (R145). A received Not_Supported raises the PD event NOT_SUPPORTED_RECEIVED. -/
  | notSupported (h : PdHdr)
  /-- PING (R145). A received Ping is ignored. -/
  | ping (h : PdHdr)
  /-- VENDOR_DEFINED (R145). A partner's Vendor_Defined message is answered under R3. -/
  | vendorDefined (h : PdHdr) (vdos : List Nat)
  /-- UNSUPPORTED_MESSAGE (R3). Any other PD message is answered Not_Supported or Reject according to revision. -/
  | unsupportedMessage (m : OtherMsg)
  /-- DISCOVER_IDENTITY_START (R148). tVCONNStable after VCONN passes and the PDE sends Discover Identity on SOP′. -/
  | discoverIdentityStart (n : Nat)
  /-- DISCOVER_IDENTITY_RETRY (R148). tDiscoverIdentity passes without a cable answer and the PDE sends the next attempt or its first capabilities. -/
  | discoverIdentityRetry (n : Nat)
  /-- CABLE_IDENTITY (R148). A cable's Discover Identity answer sets Ic, voltage and EPR capability. -/
  | cableIdentity (n id rev : Nat) (amps5 : Bool) (maxMv : Nat) (epr : Bool)
  /-- CAPS_READVERTISE (R154). A change of allocation, cable or mode makes the source send new capabilities after any AMS. -/
  | capsReadvertise (n : Nat)
  /-- TYPEC_SEND_SOURCE_CAP_EXPIRY (R151). tTypeCSendSourceCap passes in PE_SRC_Discovery and capabilities are resent or the PDE disables. -/
  | typecSendSourceCapExpiry (n : Nat)
  /-- SENDER_RESPONSE_EXPIRY (R151). tSenderResponse expires; Hard Reset in a power negotiation, otherwise the AMS ends. -/
  | senderResponseExpiry (n : Nat)
  /-- SRC_TRANSITION_EXPIRY (R151). tSrcTransition ends and the PPC is ordered to the new voltage, or PS_RDY is sent. -/
  | srcTransitionExpiry (n : Nat)
  /-- SRC_SETTLE_EXPIRY (R151). tSrcSettle expires without PS_RDY and the PDE sends Hard Reset. -/
  | srcSettleExpiry (n : Nat)
  /-- PS_HARD_RESET_EXPIRY (R151). tPSHardReset ends and the PPC is ordered to vSafe0V. -/
  | psHardResetExpiry (n : Nat)
  /-- SAFE0V_EXPIRY (R151). tSafe0V passes with VBUS held and VBUS_HELD is raised. -/
  | safe0vExpiry (n : Nat)
  /-- SRC_RECOVER_EXPIRY (R151). tSrcRecover ends and vSafe5V and VCONN are restored. -/
  | srcRecoverExpiry (n : Nat)
  /-- NO_RESPONSE_EXPIRY (R157). tNoResponse after a Hard Reset passes and the PDE gives up on PD. -/
  | noResponseExpiry (n : Nat)
  /-- ENTER_EPR_EXPIRY (R151). tEnterEPR expires and the PDE sends Hard Reset. -/
  | enterEprExpiry (n : Nat)
  /-- SOURCE_EPR_KEEPALIVE_EXPIRY (R153). tSourceEPRKeepAlive expires without a sink message and the PDE sends Hard Reset. -/
  | sourceEprKeepaliveExpiry (n : Nat)
  /-- PPS_TIMEOUT_EXPIRY (R153). tPPSTimeout expires and the PDE sends Hard Reset. -/
  | ppsTimeoutExpiry (n : Nat)
  /-- PS_SOURCE_OFF_EXPIRY (R160). tPSSourceOff expires during a swap and Hard Reset follows. -/
  | psSourceOffExpiry (u : Up)
  /-- PS_SOURCE_ON_EXPIRY (R160). tPSSourceOn expires during a swap and Hard Reset follows. -/
  | psSourceOnExpiry (u : Up)
  /-- SWAP_SOURCE_START_EXPIRY (R160). tSwapSourceStart passes and the new source sends Source_Capabilities. -/
  | swapSourceStartExpiry (u : Up)
  /-- FRS_SIGNAL_END (R161). tFRSwapTx ends and the upstream source gate opens. -/
  | frsSignalEnd (u : Up)
  /-- FR_SWAP_WAIT_EXPIRY (R161). 15 ms pass with no FR_Swap; the swap fails and dead-feed handling runs. -/
  | frSwapWaitExpiry (u : Up)
  /-- VBUS_REQUEST (R167). A VBUS request takes the PPC from OFF to CONV_CHECK and queues the converter writes. -/
  | vbusRequest (n : Nat)
  /-- OFF_REQUEST (R167). An off request turns the gate off and starts discharge. -/
  | offRequest (n : Nat)
  /-- CONVERTER_CHECK_PASS (R167). Pn_CVS in window and VBUS below vSafe0V for tCVQ take the PPC to RAMP. -/
  | converterCheckPass (n : Nat)
  /-- CONVERTER_NOT_READY (R167). tCVS passes with Pn_CVS out of window; OPERATION off and retry after 1 s. -/
  | converterNotReady (n : Nat)
  /-- CONVERTER_RETRY (R167). 1 s after CONVERTER_NOT_READY the PPC enters CONV_CHECK anew. -/
  | converterRetry (n : Nat)
  /-- METER_SAMPLE (R190). Every 16 µs each channel is sampled and power, energy and averages are updated. -/
  | meterSample (ch : Chan)
  /-- POWER_GOOD (R181). VBUS inside its window for tPGQ with an idle fault timer asserts power-good. -/
  | powerGood (n : Nat)
  /-- SLOW_TRIP (R174). The fault timer reaches TFAULT and the port trips. -/
  | slowTrip (n : Nat)
  /-- FAST_TRIP (R175). The shunt voltage crosses VFT and the unclocked comparator turns the gate off. -/
  | fastTrip (n : Nat)
  /-- REVERSE_TRIP (R176). Reverse current below the threshold trips the port within 1 µs. -/
  | reverseTrip (n : Nat)
  /-- UNDERVOLT_TRIP (R176). VBUS below the window for TVW trips the port. -/
  | undervoltTrip (n : Nat)
  /-- TURN_ON_TIMEOUT (R176). No power-good within 250 ms of RAMP trips the port. -/
  | turnOnTimeout (n : Nat)
  /-- CC_RETURN (R184). CC returns before tPDDebounce and the PPC resumes the transition. -/
  | ccReturn (n : Nat)
  /-- PS_RDY_EOP (R183). The last bit of the EOP of PS_RDY applies the new ILIM. -/
  | psRdyEop (n : Nat)
  /-- COOL_DOWN_END (R186). tCOOL ends and the trip clears on a remembered or automatic clearing happening. -/
  | coolDownEnd (n : Nat)
  /-- TRIP_COUNT_RESET (R185). 60 s without a trip returns the consecutive trip count to 0. -/
  | tripCountReset (n : Nat)
  /-- DISCHARGE_DONE (R187). VBUS falls below vSafe0V and Pn_DSCH goes low. -/
  | dischargeDone (n : Nat)
  /-- DISCHARGE_TIMEOUT (R187). tSafe0V passes without VBUS below 0.8 V; Pn_DSCH goes low and VBUS_HELD is raised. -/
  | dischargeTimeout (n : Nat)
  /-- PMBUS_INIT (R168). The PPC starts the initialisation sequence of each converter when METER starts or after a reported fault. -/
  | pmbusInit (n : Nat)
  /-- PMBUS_TRANSACTION_DONE (R169). A PMBus transaction completes and the segment takes its next work by priority. -/
  | pmbusTransactionDone (segB : Bool) (e : TxnEnd)
  /-- PMBUS_BUS_STUCK (R170). PMx_DAT low for 35 ms makes the PPC clock 9 pulses and a STOP. -/
  | pmbusBusStuck (segB : Bool)
  /-- PMBUS_CLOCK_STRETCH_TIMEOUT (R170). Clock stretching beyond 35 ms fails the transaction attempt. -/
  | pmbusClockStretchTimeout (segB : Bool)
  /-- PMBUS_POLL (R171). Every 1 ms the PPC reads STATUS_WORD of one converter per segment. -/
  | pmbusPoll (segB : Bool)
  /-- PMBUS_ALERT (R171). PMx_ALERT_N low makes the PPC read the alert response address, the status and clear faults. -/
  | pmbusAlert (segB : Bool)
  /-- FEED_ABSENT (R197). A feed below FEED_UV enters ABSENT with its gate off. -/
  | feedAbsent (feedB : Bool)
  /-- FEED_QUALIFY_START (R197). A feed entering its qualification window starts the qualification timer. -/
  | feedQualifyStart (feedB : Bool)
  /-- FEED_QUALIFIED (R197). TFEEDQ passes in window and the feed enters ON and becomes healthy. -/
  | feedQualified (feedB : Bool)
  /-- FEED_WARNING (R197). A feed falling below EW_LEVEL enters WARNING after tEW. -/
  | feedWarning (feedB : Bool)
  /-- FEED_WARNING_CLEAR (R197). TEWCLR at or above EW_LEVEL + EW_HYST returns the feed to ON. -/
  | feedWarningClear (feedB : Bool)
  /-- FEED_OVERVOLT (R197). A feed above FEED_OV enters OV_OFF and the comparator opens its gate. -/
  | feedOvervolt (feedB : Bool)
  /-- FEED_OV_RETURN (R197). A feed falling to FEED_OV − 1.0 V leaves OV_OFF for QUALIFYING. -/
  | feedOvReturn (feedB : Bool)
  /-- FEED_REVERSE_OFF (R198). Reverse current across a feed shunt turns the feed gate off within 200 ns. -/
  | feedReverseOff (feedB : Bool)
  /-- FEED_FORWARD_REENABLE (R198). A feed exceeding BUS_SNS by 100 mV has its gate raised again. -/
  | feedForwardReenable (feedB : Bool)
  /-- FEED_OVERCURRENT (R199). Fast-average feed power above FEED_PMAX for 10 ms raises the overcurrent event and starts shedding. -/
  | feedOvercurrent (feedB : Bool)
  /-- FEED_OVERCURRENT_SHED_STEP (R199). Every 10 ms under overcurrent the next unpinned class is shed. -/
  | feedOvercurrentShedStep (feedB : Bool)
  /-- FEED_OVERCURRENT_CLEARED (R199). Feed power below 90 % for 1 s clears the event and restores the shed ports. -/
  | feedOvercurrentCleared (feedB : Bool)
  /-- RESTORE_CLASS_STEP (R218). RESTORE_STAGGER after the previous class, the next shed class is restored. -/
  | restoreClassStep (why : ShedWhy)
  /-- ALLOC_RECOMPUTE (R209). A trigger makes the PBA recompute allocations within tALLOC and pass them to every PDE and PPC. -/
  | allocRecompute
  /-- SHED_PLAN_REFRESH (R214). Every tPLAN the PBA prepares a shed plan for each combination of healthy feeds. -/
  | shedPlanRefresh
  /-- PENDING_INCREASE_RELEASE (R210). A reduced port's contract settles and pending increases that fit are released. -/
  | pendingIncreaseRelease
  /-- COMMITTED_OVER_BUDGET (R211). COMMITTED above BUDGET for 1 s raises source 437 reason 2. -/
  | committedOverBudget
  /-- HB_EDGE (R229). A valid rising edge arrives on HB_IN. -/
  | hbEdge
  /-- HB_OUT_WATCHDOG (R229). HB_OUT not toggling for 4.0 µs makes AON force TKO_OUT inactive and HB_OUT low. -/
  | hbOutWatchdog
  /-- PARTNER_LOST (R230). 8.0 µs without a valid HB edge and with liveness or Ladle gone declares the partner lost and claims. -/
  | partnerLost (live : Bool)
  /-- LIVE_WORD (R276). A LIVE link word on the Ladle carries the partner's state. -/
  | liveWord (st seq : Nat)
  /-- CLAIM_RESAMPLE (R232). The 2.0 µs re-sample of TKO_IN during a contested claim ends. -/
  | claimResample
  /-- CLAIM_WON (R234). TKO_IN reads inactive while claiming; the chip enables drivers, raises gates and takes over. -/
  | claimWon
  /-- DEFERRAL_END (R232). The secondary's deferral reaches 8.0 µs and it resets the partner. -/
  | deferralEnd
  /-- PARTNER_RESET_PULSE_END (R235). 10 µs after a reset pulse TKO_IN is sampled; another pulse or FAULTED follows. -/
  | partnerResetPulseEnd
  /-- TAKEOVER_PSX_ACTIVE (R234). After the Ladle drains, the PSX answers from shadowed state and source 433 is raised. -/
  | takeoverPsxActive
  /-- PAIR_SELF_TEST_DONE (R233). Self-test at PAIR_BOOT completes and the chip claims, syncs, waits or faults. -/
  | pairSelfTestDone (failed : Nat)
  /-- BOOT_WAIT_EXPIRY (R239). BOOT_WAIT passes with TKO_IN inactive and the secondary claims. -/
  | bootWaitExpiry
  /-- FULL_SYNC_DONE (R242). A full sync completes and the chip enters STANDBY, clearing DEGRADED. -/
  | fullSyncDone
  /-- LADLE_UP (R276). L0 comes UP in Ladle mode and the standby requests a full sync. -/
  | ladleUp
  /-- LADLE_DOWN (R276). Lock loss, link-word silence or retrain takes the Ladle down; ownership may freeze. -/
  | ladleDown
  /-- DIGEST_SEND (R227). Every 1.024 ms the active chip sends shadow digests. -/
  | digestSend
  /-- DIGEST_FRAME (R227). A DIGEST frame is compared with the standby's own state; a mismatch fetches the port's state. -/
  | digestFrame (mismatch : List Nat)
  /-- SLOW_FRAME (R226). A SLOW frame updates the standby's copy of slow state. -/
  | slowFrame (items : List SlowItem)
  /-- MIRROR_FRAME (R228). A MIRROR frame updates the standby's mirror of device-side proxy state. -/
  | mirrorFrame (items : List MirrorItem)
  /-- SYNC_FRAME (R226). A SYNC frame carries part of a full sync. -/
  | syncFrame (items : List SlowItem)
  /-- MIRROR_STALL (R228). 20 µs without the standby taking a mirror entry makes the pair DEGRADED. -/
  | mirrorStall
  /-- HANDOVER_QUIET_POINT (R240). A quiet point arrives and the active chip sends the handover frame and moves its transports. -/
  | handoverQuietPoint
  /-- HANDOVER_WAIT_EXPIRY (R240). HANDOVER_WAIT passes without a quiet point and the handover completes BUSY. -/
  | handoverWaitExpiry
  /-- HANDOVER_RELEASE (R240). 1.0 µs after the handover frame the active chip releases TKO_OUT. -/
  | handoverRelease
  /-- HANDOVER_FRAME (R240). The standby receives the handover frame and claims when TKO_IN falls. -/
  | handoverFrame (rejoin : Bool)
  /-- HANDOVER_GATE_RELEASE (R240). On the new chip's gates reported on, or 50 µs after release, the former chip releases its gates. -/
  | handoverGateRelease (dur : Option Nat)
  /-- REJOIN_TIMER_EXPIRY (R242). tREJOIN runs out and ports return to a rejoined primary by handover if conditions hold. -/
  | rejoinTimerExpiry
  /-- HANDOVER_RETRY (R242). A rejoin handover that completed BUSY is tried again after 1 s. -/
  | handoverRetry
  /-- BLOCK_LOCK (R251). Block lock and 8 TS words take a link from ACQUIRE to TRAIN; the sync headers of the last 64
  blocks, and how many consecutive TS1 or TS2 words were received. -/
  | blockLock (k : LockSeen)
  /-- TS_EXCHANGE_DONE (R252). 16 TS2 sent and received with agreeing contents take the link to CHECK. -/
  | tsExchangeDone (l : Nat) (ts : TsWord)
  /-- LINK_CHECK_DONE (R251). The 125 µs CHECK ends; the link goes UP or back to ACQUIRE. -/
  | linkCheckDone (l : Nat) (ok : Bool) (rtt : Nat)
  /-- LOCK_LOST (R251). Invalid sync headers, those of the last 64 blocks given, or link-word silence lose lock and the link
  retrains. -/
  | lockLost (l : Nat) (w : LossSeen)
  /-- RETRAIN_WINDOW_EXPIRY (R251). tRTW expires and the link goes DOWN, discarding its replay buffer. -/
  | retrainWindowExpiry (l : Nat)
  /-- LINK_WORD_SEND (R255). tLW since the last link word makes the transmitter send one, IDLE if nothing else. -/
  | linkWordSend (l : Nat)
  /-- FRAME_RECEIVED (R261). A frame arrives; it is accepted and ACKed in order, or NAKed on error. -/
  | frameReceived (l lseq : Nat) (f : Frame) (lchkOk fcrcOk : Bool)
  /-- ACK_WORD (R260). An ACK link word frees covered frames from the replay buffer. -/
  | ackWord (l lseq : Nat)
  /-- NAK_WORD (R261). A NAK link word starts a replay burst after the current frame. -/
  | nakWord (l lseq : Nat)
  /-- REPLAY_WORD (R261). A REPLAY link word resumes acceptance of frames at the burst. -/
  | replayWord (l lseq : Nat)
  /-- ABORT_WORD (R262). An ABORT word ends a cut-through frame, which is discarded and its credits returned. -/
  | abortWord (l vc credits : Nat)
  /-- CREDIT_WORD (R260). A CREDIT link word grants cumulative credits on a VC. -/
  | creditWord (l vc total : Nat)
  /-- RETRAIN_WORD (R282). A RETRAIN link word puts the link into RETRAIN. -/
  | retrainWord (l : Nat)
  /-- REPLAY_TIMER_EXPIRY (R261). tREPLAY expires and a replay burst starts. -/
  | replayTimerExpiry (l : Nat)
  /-- HELLO (R265). A HELLO frame carries the neighbour's UID, claim, link and role. -/
  | hello (l : Nat) (h : Hello)
  /-- LSA (R265). A newer LSA is stored and flooded on every other UP link. -/
  | lsa (l : Nat) (a : Lsa)
  /-- LSA_REFRESH (R265). Every LSA_REFRESH the node sends HELLO and its LSA on each UP link. -/
  | lsaRefresh
  /-- LSA_PURGE (R265). An LSA not refreshed in 4 × LSA_REFRESH, or of a node unreachable 1 s, is purged. -/
  | lsaPurge
  /-- LINK_USABLE (R265). A link UP for 1 s becomes usable in the node's LSA. -/
  | linkUsable (l : Nat)
  /-- NODE_ID_CLAIM_SETTLE (R266). A claim unchallenged for 5 ms takes effect and is written to the Crock. -/
  | nodeIdClaimSettle
  /-- ROUTE_COMPUTE_DONE (R271). The route engine finishes a new table and the node switches at a frame boundary. -/
  | routeComputeDone
  /-- CREDIT_STALL_EXPIRY (R272). A VC head frame waiting CREDIT_STALL for credits is discarded. -/
  | creditStallExpiry (l vc : Nat)
  /-- SLEEP_WORD (R278). A SLEEP request or acknowledge word takes both ends of a link into SLEEP. -/
  | sleepWord (l : Nat) (ack : Bool)
  /-- WAKE_PATTERN_SEND (R279). A node with a frame for a sleeping link sends the wake pattern until TS1 is seen. -/
  | wakePatternSend (l : Nat)
  /-- WAKE_SEND_TIMEOUT (R279). 20 ms of wake patterns without TS1 ends the attempt. -/
  | wakeSendTimeout (l : Nat)
  /-- WAKE_ENERGY (R279). Energy lasting 2 µs on a sleeping WAKE_EN link starts its receiver. -/
  | wakeEnergy (l : Nat)
  /-- WAKE_PATTERN_SEEN (R279). A whole wake pattern is seen and the link enters ACQUIRE. -/
  | wakePatternSeen (l : Nat)
  /-- WAKE_PROBE_TIMEOUT (R279). 100 µs without a wake pattern stop the receiver again. -/
  | wakeProbeTimeout (l : Nat)
  /-- TIME_REQ_SEND (R288). Every 1.024 ms a child sends a REQ time word to its parent. -/
  | timeReqSend
  /-- TIME_REQ (R288). A parent receives REQ and answers with RESP, RXSTAMP, HIGH and STATUS. -/
  | timeReq (l seq : Nat)
  /-- TIME_RESP (R288). A child receives RESP and records t4. -/
  | timeResp (l seq value : Nat)
  /-- TIME_RXSTAMP (R288). A child receives RXSTAMP carrying t2. -/
  | timeRxstamp (l seq value : Nat)
  /-- TIME_HIGH (R288). A child receives HIGH carrying the high half of t3. -/
  | timeHigh (l seq value : Nat)
  /-- HOLDOVER_TIMEOUT (R287). 10 ms without a complete exchange takes a LOCKED node to HOLDOVER. -/
  | holdoverTimeout
  /-- HOLDOVER_LIMIT (R287). 60 s in HOLDOVER raise source 432 HOLDOVER_LIMIT. -/
  | holdoverLimit
  /-- TSYNC_IN_EDGE (R290). A TSYNC_IN rising edge is captured, accepted or rejected, and may discipline the root. -/
  | tsyncInEdge
  /-- PULSE_MISSING (R290). 1.5 s without an accepted edge clear PPS_LOCKED. -/
  | pulseMissing
  /-- TSYNC_OUT_RISE (R291). TIME reaching a multiple of 10^9 ns raises TSYNC_OUT. -/
  | tsyncOutRise
  /-- TSYNC_OUT_FALL (R291). PPS_WIDTH after the rise TSYNC_OUT falls. -/
  | tsyncOutFall
  /-- DETECTOR_FIRE (R298). A detector decides a happening and its stamp is latched in the TIME island. -/
  | detectorFire (src code : Nat) (data : BitVec 96)
  /-- CAPTURE_RELEASE (R299). tHOLD after its TIME a record passes in key order to its queues and the journal writer. -/
  | captureRelease
  /-- COALESCED_STORE (R305). A queue with a free slot stores the oldest open coalescing entry or a LOST record. -/
  | coalescedStore (q : QueueId)
  /-- EVENT_PIPE_IN (R307). An interrupt IN on the event pipe returns the oldest records, or NAK. -/
  | eventPipeIn (u : Up)
  /-- EVENT_PIPE_ACK (R307). The host ACKs an event-pipe packet and its records are freed. -/
  | eventPipeAck (u : Up)
  /-- FAB_FORWARD_SEND (R309). 32 waiting records, or FAB_WAIT after the oldest, send an EVENTS frame to FAB_DEST. -/
  | fabForwardSend
  /-- EVENTS_FRAME (R309). A collector receives an EVENTS frame and holds its records for MERGE_HOLD. -/
  | eventsFrame (src seq : Nat) (recs : List (List Byte))
  /-- MERGE_HOLD_EXPIRY (R309). MERGE_HOLD passes and remote records are merged and stored. -/
  | mergeHoldExpiry
  /-- JOURNAL_FRAME (R258). A JOURNAL frame delivers records to a node's writer buffer. -/
  | journalFrame (src seq : Nat) (recs : List (List Byte))
  /-- JOURNAL_RECORD_WRITE (R313). The writer takes a record from its buffer and writes and verifies it, first-fault copy first. -/
  | journalRecordWrite (res : LineRes)
  /-- DROPPED_REPORT (R316). Once per second during an MRAM fault source 426 DROPPED is raised. -/
  | droppedReport
  /-- VDDNV_FALL (R314). VDDNV through 1.71 V stops new records; the record in progress completes. -/
  | vddnvFall
  /-- USER_LINE_WRITE (R317). A user-area line written again waits 20 µs, then is written. -/
  | userLineWrite
  /-- FF_SLOT_ZEROING (R324). Freed first-fault slots are zeroed in the background. -/
  | ffSlotZeroing
  /-- JOURNAL_SCAN (R322). The boot scan validates slots and sets JSEQ_NEXT and TORN_SKIPPED. -/
  | journalScan
  /-- DOZE_ENTER (R417). Conditions held for DOZE_DELAY; crossings drain, DOZE banks are written and domains gated. -/
  | dozeEnter
  /-- DOZE_WAKE (R426). A wake source in DOZE checks the DOZE banks and releases the domains within tDZX. -/
  | dozeWake (failed : List Nat)
  /-- HIBERNATE_ENTER (R420). Conditions held for HIB_DELAY; power removed, banks written and REGEN lowered. -/
  | hibernateEnter
  /-- HIBERNATE_WAKE (R426). A wake source drives REGEN high and starts the wake sequence. -/
  | hibernateWake (src : HibWake)
  /-- WAKE_RAILS_VALID (R426). REGEN rails become valid; crystal, PLLs, banks and domains follow. -/
  | wakeRailsValid (failed : List Nat)
  /-- WAKE_RAIL_FAIL (R427). Rails not valid within tREG; REGEN drops for tREGOFF, and after 3 attempts WAKE_FAIL is set. -/
  | wakeRailFail (rail : Nat)
  /-- REGEN_RETRY (R427). tREGOFF ends and REGEN is driven high for the next attempt. -/
  | regenRetry
  /-- BANK_RESTORE_FROM_PARTNER (R432). A failed bank is restored from the partner over the Ladle. -/
  | bankRestoreFromPartner (bank : Nat) (ok : Bool)
  /-- AON_TIMER_WAKE (R424). AON_WAKE minutes after entry wake the chip from HIBERNATE. -/
  | aonTimerWake
  /-- GPIO_EDGE (R424). A deglitched GPIO edge raises source 443 and may wake the chip. -/
  | gpioEdge (n : Nat) (rise : Bool)
  /-- XTAL_FAIL (R428). The crystal not running within tXTAL puts islands on the RC oscillator and stops USB. -/
  | xtalFail
  /-- XTAL_RESTART (R428). Every 100 ms the PSC restarts the crystal; once it runs the islands change over. -/
  | xtalRestart (runs : Bool)
  /-- XTAL_STOP (R428). A crystal that stops while running is detected and handled as a fail. -/
  | xtalStop
  /-- FREF_LOST (R428). Loss of FREF brings the links DOWN and raises source 422. -/
  | frefLost
  /-- RAIL_OUT_OF_WINDOW (R429). A rail out of window for 2 µs resets every domain but AON and later cold boots. -/
  | railOutOfWindow (rail : Nat) (high : Bool) (mv : Nat)
  /-- VAON_LOSS (R471). VAON below its threshold resets the whole chip. -/
  | vaonLoss
  /-- RESET_N_LOW (R473). RESET_N low for 1 µs resets the chip and floats every output. -/
  | resetNLow
  /-- RESET_N_RELEASE (R435). RESET_N rises with rails valid; straps are latched and the cold boot starts. -/
  | resetNRelease (straps : Nat) (railsOk : Bool)
  /-- POWER_UP (R469). VAON and VDDIO become valid and AON starts on the RC oscillator. -/
  | powerUp (straps : Nat) (resetHigh : Bool)
  /-- FIRMWARE_DONE (R407). The started firmware records DONE. -/
  | firmwareDone
  /-- FIRMWARE_WATCHDOG (R436). Firmware not recording DONE within 300 ms marks the bank bad and starts the other. -/
  | firmwareWatchdog
  /-- DEAD_FEED_START (R440). UA_VIN or UB_VIN reaching 4.0 V starts the dead-feed regulator, AON and PD4. -/
  | deadFeedStart (u : Up)
  /-- DEAD_FEED_REGEN (R441). A sink contract of 9 V and 15 W raises REGEN and starts the cold boot. -/
  | deadFeedRegen (u : Up)
  /-- THERMAL_WARNING (R492). Die temperature crossing 105 °C rising or 100 °C falling raises source 420. -/
  | thermalWarning (enter : Bool) (temp : Int)
  /-- THERMAL_SHUTDOWN (R492). 120 °C rising journals source 421 and resets every domain but AON. -/
  | thermalShutdown (temp : Int)
  /-- THERMAL_RECOVERY (R492). 95 °C held for 1 s starts a cold boot. -/
  | thermalRecovery (temp : Int)
  /-- PROXY_L1_IDLE (R446). PROXY_L1 of idle makes the proxy put a device into L1 on its own account. -/
  | proxyL1Idle (p : Nat) (device : Hs)
  /-- UP_U1_U2_IDLE (R447). UP_U1 or UP_U2 of idle makes an upstream SPE send LGO_U1 or LGO_U2. -/
  | upU1U2Idle (u : Up) (u2 accepted : Bool)
  /-- TIME_STATUS_WORD (R288). A child receives the STATUS time word that ends an exchange, computes θ and PATH_DELAY, or discards the exchange from a FREE_RUN parent, and advances its servo state. -/
  | timeStatusWord (l seq root stratum flags : Nat)
  /-- TKO_IN_EDGE (R231). TKO_IN changes level: a rise while TKO_OUT is active turns the port line drivers off within tTKG, and a rise in WAIT_PRIMARY takes the secondary to SYNCING. -/
  | tkoInEdge (level : Bool)
  /-- HUB_SET_FEATURE (R84). The host sets or clears DEVICE_REMOTE_WAKEUP, U1_ENABLE or U2_ENABLE on a hub function, which governs upstream wake propagation and upstream U1 and U2 entry. -/
  | hubSetFeature (u : Up) (f : HubFeature) (on : Bool)
  /-- HUB_SET_ADDRESS (R31). The host gives a hub or management function its own address with SET_ADDRESS. -/
  | hubSetAddress (u : Up) (fn : Fn) (addr : Nat)
  /-- RAIL_RETURNED (R429). A rail that left its window returns: source 423 RETURNED is raised, and once every rail has been valid for 1 ms the PSC cold boots. -/
  | railReturned (rail mv : Nat)
  /-- DEAD_FEED_STOP (R439). Both UA_VIN and UB_VIN fall below 3.6 V, the dead-feed regulator stops, and the chip goes to OFF when VAON is not valid. -/
  | deadFeedStop
  /-- HARD_RESET_COMPLETE_EXPIRY (R140). tHardResetComplete runs out while the line stays busy and the Hard Reset transmission is abandoned. -/
  | hardResetCompleteExpiry (n : Nat)
  /-- WATCHDOG_RESTART (R358). The MPC watchdog expires on running firmware, the MPC restarts, and a command in execution is answered INTERNAL with source 428 cause 2. -/
  | watchdogRestart
  /-- PAIR_WAKE_DETECT_TIMEOUT (R422). 50 ms after the first HB edge that wakes a pair from HIBERNATE, detection resumes, and a partner that is not yet awake is declared lost. -/
  | pairWakeDetectTimeout
  /-- BANK_RESTORE_TIMEOUT (R432). The Ladle is not UP within 20 ms of a wake, so a failed retention bank is handled as on a single chip. -/
  | bankRestoreTimeout
  /-- MGMT_RESET_DONE (R44). 10 ms after a reset of port 33 the management function's reset completes and C_PORT_RESET is set. -/
  | mgmtResetDone (u : Up)
  /-- SUSPEND_DRAIN_TIMEOUT (R78). A translated port's suspend request finds the proxy still holding data after 10 ms of device NAKs, and completes with the port ENABLED and STALL. -/
  | suspendDrainTimeout (p : Nat)
  /-- FREF_RESTORED (R428). FREF returns, source 422 records FREF_RESTORED, and the links can train again. -/
  | frefRestored
  /-- SINK_PATH_IDEAL_DIODE (R166). Reverse current on an upstream sink path turns GSNK off within 200 ns, and upstream VBUS rising above the sink rail lets it conduct again. -/
  | sinkPathIdealDiode (u : Up) (reverse : Bool)
  deriving DecidableEq, Repr

end Sys2Proof
end

