-- ==== Sys2Proof/Decode.lean ====
section
/-!
DEFINITION. Decode.lean: words of the opcode table. The table gives no row bits: the block's commands are packets, bus and
protocol happenings, pins and timers, not instruction words.
-/

namespace Sys2Proof

/-- The command that a word of the opcode table spells: the table gives no row any bits, so no word spells one. -/
def decodeTableWord (_nbits _w : Nat) : Option Instr := none

end Sys2Proof
end

