-- ==== Sys2Proof/Machine/Bits.lean ====
section
/-!
DEFINITION. Machine/Bits.lean: byte order, bit fields, saturation and signed fields (R14).
-/

namespace Sys2Proof.Machine

/-- The `n` bytes of `v`, least significant first (R14). -/
def leBytes : Nat → Nat → List Byte
  | 0, _ => []
  | n + 1, v => BitVec.ofNat 8 v :: leBytes n (v / 256)

/-- The value of a little-endian byte string (R14). -/
def leNat : List Byte → Nat
  | [] => 0
  | b :: bs => b.toNat + 256 * leNat bs

/-- Bits [hi:lo] of `v`. -/
def bits (v hi lo : Nat) : Nat := (v / 2 ^ lo) % 2 ^ (hi + 1 - lo)

/-- Bit `i` of `v`. -/
def bit (v i : Nat) : Bool := (v / 2 ^ i) % 2 == 1

/-- 1 for true. -/
def b2n (b : Bool) : Nat := if b then 1 else 0

/-- `v` placed at bit `lo`. -/
def at_ (lo v : Nat) : Nat := v * 2 ^ lo

/-- Saturating at `2 ^ w - 1`. -/
def sat (w v : Nat) : Nat := min v (2 ^ w - 1)

/-- A `w`-bit field read as two's complement. -/
def sgn (w v : Nat) : Int :=
  let m := v % 2 ^ w
  if m < 2 ^ (w - 1) then (m : Int) else (m : Int) - (2 ^ w : Nat)

/-- An integer as the `w`-bit two's complement field that holds it. -/
def uns (w : Nat) (i : Int) : Nat := (i % ((2 ^ w : Nat) : Int)).toNat

/-- `v` held to `lo..hi`. -/
def clampTo (lo hi v : Nat) : Nat := if v < lo then lo else if hi < v then hi else v

/-- The bytes at `off .. off + n - 1`; bytes that are not there read as nothing. -/
def slice (l : List α) (off n : Nat) : List α := (l.drop off).take n

/-- `n` zero bytes. -/
def zeros (n : Nat) : List Byte := List.replicate n 0

/-- A string as bytes (ASCII). -/
def asciiBytes (t : String) : List Byte := t.toList.map (fun c => BitVec.ofNat 8 c.toNat)

/-- A bit map from a list of flags, bit 0 first. -/
def mapBits : List Bool → Nat
  | [] => 0
  | b :: bs => b2n b + 2 * mapBits bs

/-- Element `i` changed by `f`; a number that names none changes nothing. -/
def modAt (l : List α) (i : Nat) (f : α → α) : List α := l.modify i f

end Sys2Proof.Machine
end

