-- ==== Sys2Proof/Machine/Crc.lean ====
section
/-!
DEFINITION. Machine/Crc.lean: the four CRCs of R330, SHA-256 and HMAC-SHA-256 (R1, R330, R348).
SHA-256 and HMAC are those of FIPS 180-4 and FIPS 198-1, which R1 names (PRESUMED, log entry 7).
-/

namespace Sys2Proof.Machine

/-- One bit of a reflected CRC register. -/
def crcRBit (poly : Nat) (c : Nat) : Nat :=
  if c % 2 == 1 then (c / 2) ^^^ poly else c / 2

/-- One byte into a reflected CRC register. -/
def crcRByte (poly c : Nat) (b : Byte) : Nat :=
  let x := c ^^^ b.toNat
  crcRBit poly (crcRBit poly (crcRBit poly (crcRBit poly
    (crcRBit poly (crcRBit poly (crcRBit poly (crcRBit poly x)))))))

/-- One bit of the unreflected CRC-8 register. -/
def crc8Bit (c : Nat) : Nat :=
  if c / 128 % 2 == 1 then (c * 2 % 256) ^^^ 0x07 else c * 2 % 256

/-- One byte into the CRC-8 register. -/
def crc8Byte (c : Nat) (b : Byte) : Nat :=
  crc8Bit (crc8Bit (crc8Bit (crc8Bit (crc8Bit (crc8Bit (crc8Bit (crc8Bit (c ^^^ b.toNat))))))))

/-- Register of POLY before the first byte (R330 Init). -/
def crcInit (poly : Nat) : Nat :=
  if poly = 0 then 0 else if poly = 1 then 0xFFFF else 0xFFFFFFFF

/-- One byte into the register of POLY (R330). The reflected polynomials are 0x8005, 0x04C11DB7 and 0x1EDC6F41. -/
def crcStep (poly c : Nat) (b : Byte) : Nat :=
  if poly = 0 then crc8Byte c b
  else crcRByte (if poly = 1 then 0xA001 else if poly = 2 then 0xEDB88320 else 0x82F63B78) c b

/-- The result a register gives (R330 XorOut). -/
def crcOut (poly c : Nat) : Nat :=
  if poly = 0 then c else if poly = 1 then c ^^^ 0xFFFF else c ^^^ 0xFFFFFFFF

/-- The CRC of POLY over a byte string (R330). -/
def crcOf (poly : Nat) (bs : List Byte) : Nat := crcOut poly (bs.foldl (crcStep poly) (crcInit poly))

/-- CRC-32C, which packets, records, caches and images use (R332). -/
def crc32c (bs : List Byte) : Nat := crcOf 3 bs

/-- The eight 32-bit words of a 256-bit number, the most significant first. -/
def wordsOf (x : Nat) : List Nat := (List.range 8).map (fun i => x / 2 ^ (32 * (7 - i)) % 2 ^ 32)

/-- The round constants of SHA-256, eight to a 256-bit number. -/
def shaTable : List Nat :=
  [0x428a2f9871374491b5c0fbcfe9b5dba53956c25b59f111f1923f82a4ab1c5ed5,
   0xd807aa9812835b01243185be550c7dc372be5d7480deb1fe9bdc06a7c19bf174,
   0xe49b69c1efbe47860fc19dc6240ca1cc2de92c6f4a7484aa5cb0a9dc76f988da,
   0x983e5152a831c66db00327c8bf597fc7c6e00bf3d5a7914706ca635114292967,
   0x27b70a852e1b21384d2c6dfc53380d13650a7354766a0abb81c2c92e92722c85,
   0xa2bfe8a1a81a664bc24b8b70c76c51a3d192e819d6990624f40e3585106aa070,
   0x19a4c1161e376c082748774c34b0bcb5391c0cb34ed8aa4a5b9cca4f682e6ff3,
   0x748f82ee78a5636f84c878148cc7020890befffaa4506cebbef9a3f7c67178f2]

/-- The 64 round constants, in the order of the rounds. -/
def shaK : List Nat := shaTable.flatMap wordsOf

def ror32 (n x : Nat) : Nat := (x / 2 ^ n) ||| (x * 2 ^ (32 - n) % 2 ^ 32)

/-- Four bytes, most significant first. -/
def beWord (b : List Byte) : Nat := b.foldl (fun a x => a * 256 + x.toNat) 0

/-- `n` bytes of `v`, most significant first. -/
def beBytes (n v : Nat) : List Byte := (leBytes n v).reverse

/-- The next message-schedule word, from the last sixteen (oldest first). -/
def shaNextW (w : List Nat) : Nat :=
  let a := w.getD 1 0
  let b := w.getD 14 0
  let s0 := ror32 7 a ^^^ ror32 18 a ^^^ (a / 2 ^ 3)
  let s1 := ror32 17 b ^^^ ror32 19 b ^^^ (b / 2 ^ 10)
  (w.getD 0 0 + s0 + w.getD 9 0 + s1) % 2 ^ 32

/-- The rounds: working variables a–h, the sliding window of the schedule, the constants left. -/
def shaRounds : List Nat → List Nat → List Nat → List Nat
  | [], _, v => v
  | k :: ks, w, v =>
    let e := v.getD 4 0
    let a := v.getD 0 0
    let t1 := v.getD 7 0 + (ror32 6 e ^^^ ror32 11 e ^^^ ror32 25 e)
      + ((e &&& v.getD 5 0) ^^^ ((2 ^ 32 - 1 - e) &&& v.getD 6 0)) + k + w.getD 0 0
    let t2 := (ror32 2 a ^^^ ror32 13 a ^^^ ror32 22 a)
      + ((a &&& v.getD 1 0) ^^^ (a &&& v.getD 2 0) ^^^ (v.getD 1 0 &&& v.getD 2 0))
    shaRounds ks (w.drop 1 ++ [shaNextW w])
      [(t1 + t2) % 2 ^ 32, a, v.getD 1 0, v.getD 2 0, (v.getD 3 0 + t1) % 2 ^ 32, e, v.getD 5 0, v.getD 6 0]

/-- The block of 64 bytes as sixteen words. -/
def shaWords : Nat → List Byte → List Nat
  | 0, _ => []
  | n + 1, bs => beWord (bs.take 4) :: shaWords n (bs.drop 4)

def shaBlocks : Nat → List Byte → List Nat → List Nat
  | 0, _, h => h
  | n + 1, bs, h =>
    let v := shaRounds shaK (shaWords 16 (bs.take 64)) h
    shaBlocks n (bs.drop 64) (List.zipWith (fun x y => (x + y) % 2 ^ 32) h v)

/-- SHA-256 of a byte string. -/
def sha256 (bs : List Byte) : List Byte :=
  let pad := (55 + 64 - bs.length % 64) % 64
  let m := bs ++ [0x80] ++ zeros pad ++ beBytes 8 (bs.length * 8)
  let h := shaBlocks (m.length / 64) m
    (wordsOf 0x6a09e667bb67ae853c6ef372a54ff53a510e527f9b05688c1f83d9ab5be0cd19)
  h.flatMap (beBytes 4)

/-- HMAC-SHA-256 with a 32-byte key. -/
def hmac (key bs : List Byte) : List Byte :=
  let k := key ++ zeros (64 - key.length)
  sha256 (k.map (· ^^^ 0x5c) ++ sha256 (k.map (· ^^^ 0x36) ++ bs))

end Sys2Proof.Machine
end

