-- ==== Sys2Proof/Config.lean ====
section
/-!
DEFINITION. Config.lean: what one chip fixes and the spec does not give a number for.
Every constant here is opaque: no proof can see a value, so a claim holds for every value.
-/

namespace Sys2Proof.Config

/-- A free value of the manual (random source, unstated result, undecided choice), the n-th one drawn.
`State.freeIdx` counts the draws. Log 2. -/
opaque freeNat : Nat → Nat

/-- The 64-bit unique ID in the identity partition (R326), programmed at the factory. Log 2. -/
opaque uid : BitVec 64

/-- The Olnil vendor ID in the identity partition (R34, R326). Log 2. -/
opaque vendorId : BitVec 16

/-- The RC oscillator period the PSC measures against the crystal before HIBERNATE (R284), in femtoseconds. Log 2. -/
opaque rcPeriodFs : Nat

/-- The date of the chip's test in days of 31 to the month: year, month and day of the factory block (R326). Log 2. -/
opaque testDate : Nat

/-- The calibration trims in the identity partition, byte by byte from offset 4 of their block (R326). Log 2. -/
opaque calib : Nat → Byte

end Sys2Proof.Config
end

