-- ==== Sys2Proof/Machine/CommandState.lean ====
section
/-!
DEFINITION. Machine/CommandState.lean: the command front-end, its transports and the mailboxes (chapter 12).
A field's docstring reads: meaning | width | rule | reset.
-/

namespace Sys2Proof.Machine

/-- A cached response (R345). -/
structure Cached where
  tag : Nat
  opcode : Nat
  crc : Nat
  /-- instant at which the response was stored -/
  at_ : Nat
  resp : List Byte
  deriving DecidableEq, Repr

/-- Fragments being assembled on a transport (R346). -/
structure Assembly where
  opcode : Nat
  tag : Nat
  target : Nat
  auth : Bool
  noresp : Bool
  rsv : Nat
  payload : List Byte
  deriving DecidableEq, Repr

/-- What the front-end and the MPC keep for one transport. -/
structure TrState where
  tr : Transport
  /-- commands with a valid tag accepted since chip reset: NONCE is the random start plus this | 64 | R347 | 0 (R347) -/
  accepted : Nat := 0
  /-- NONCE start taken over from the other chip of a pair, instead of the random start | 64 | R241 | none -/
  start : Option Nat := none
  /-- consecutive AUTH_FAILED outcomes | 3 | R349 | 0 (R349) -/
  fails : Nat := 0
  /-- locked out | 1 | R349 | 0 (R349) -/
  locked : Bool := false
  /-- response cache, newest first | 16 | R345 | empty (R345) -/
  cache : List Cached := []
  /-- open fragment assembly | — | R346 | none -/
  asm : Option Assembly := none
  deriving DecidableEq, Repr

/-- A command that waits on hardware (R345). `num` links it with the hardware it waits for. -/
structure Wait where
  num : Nat
  cmd : Cmd
  /-- a parameter was clamped -/
  clamped : Bool := false
  deriving DecidableEq, Repr

/-- A command forwarded to another node and not yet answered (R356). -/
structure Forwarded where
  fabTag : Nat
  node : Nat
  cmd : Cmd
  at_ : Nat
  /-- answered or timed out: kept for a resend within 1 s -/
  done : Bool := false
  deriving DecidableEq, Repr

/-- COMMAND or RESPONSE segments being reassembled, by source and tag (R258, R356). -/
structure Segments where
  src : Nat
  tag : Nat
  response : Bool
  next : Nat
  bytes : List Byte
  deriving DecidableEq, Repr

/-- The sideband window's own registers and the mailboxes (R353–R355). -/
structure Mailbox where
  /-- ALERT_EN | 8 | R353 | 0x02 (R353) -/
  alertEn : Nat := 2
  /-- MBI_CTRL | 8 | R353 | 0x00 (R353) -/
  mbiCtrl : Nat := 0
  /-- MBI_LEN | 8 | R353 | 0 (R353) -/
  mbiLen : Nat := 0
  /-- MBI_ACK | 8 | R353 | 0x00 (R353) -/
  mbiAck : Nat := 0
  /-- MBI_DATA | 92 × 8 | R353 | 0 (R353) -/
  mbiData : List Byte := List.replicate 92 0
  /-- last accepted SEQ | 4 | R354 | 0 (R354) -/
  lastSeq : Nat := 0
  /-- MBO_CTRL | 8 | R353 | 0x00 (R353) -/
  mboCtrl : Nat := 0
  /-- MBO_LEN | 8 | R353 | 0 (R353) -/
  mboLen : Nat := 0
  /-- MBO_ACK | 8 | R353 | 0x00 (R353) -/
  mboAck : Nat := 0
  /-- MBO_DATA | 92 × 8 | R353 | 0 (R353) -/
  mboData : List Byte := List.replicate 92 0
  /-- SEQ of the message posted last | 4 | R355 | 0: DESIGN CHOICE (log entry 1) -/
  mboSeq : Nat := 0
  /-- re-presentations of the message made | 2 | R355 | 0: DESIGN CHOICE (log entry 1) -/
  mboTries : Nat := 0
  /-- messages waiting, oldest first | 16 KiB | R355 | empty: DESIGN CHOICE (log entry 1) -/
  mboWait : List (List Byte) := []
  /-- MBO_DROPS, saturating | 16 | R353 | 0 (R353) -/
  mboDrops : Nat := 0
  /-- SMB_ALERT_N is driven high for a re-presentation until this instant, ns | 64 | R355 | 0: DESIGN CHOICE (log entry 1) -/
  alertHigh : Nat := 0
  /-- copy of 0x00–0x3F taken at HIBERNATE entry | 64 × 8 | R353 | empty: DESIGN CHOICE (log entry 1) -/
  hibCopy : List Byte := []
  /-- last answer given to an Alert Response Address read: own address, if it answered | 8 | R353 | none -/
  araAnswer : Option Nat := none
  deriving DecidableEq, Repr

/-- The command front-end. -/
structure CommandUnit where
  /-- index of the random draw of this chip reset's NONCEs | — | R347 | 0 (model's own, log entry 2) -/
  nonceBase : Nat := 0
  /-- per-transport state; a transport not listed stands at its reset state | — | R345, R347, R349 | as TrState -/
  trs : List TrState := []
  /-- commands that passed the front-end and wait for the MPC, oldest first | — | R345 | empty: DESIGN CHOICE (log entry 1) -/
  queue : List Cmd := []
  /-- commands that wait on hardware | — | R345 | none -/
  waits : List Wait := []
  /-- next wait number | — | (the model's own, log entry 5) | 1 -/
  nextWait : Nat := 1
  /-- forwarded commands | — | R356 | none -/
  fwd : List Forwarded := []
  /-- next fabric tag | 16 | R356 | 1: DESIGN CHOICE (log entry 1) -/
  nextFabTag : BitVec 16 := 1
  /-- segments being reassembled | — | R356 | none -/
  segs : List Segments := []
  /-- PARTNER_CMD segments received so far: outer transport, whether a response, next segment, bytes | — | R386 | empty -/
  relayIn : List (Nat × Bool × Nat × List Byte) := []
  /-- mailboxes and window registers | — | R353 | as Mailbox -/
  mb : Mailbox := {}
  deriving DecidableEq, Repr

end Sys2Proof.Machine
end

