-- ==== Sys2Proof/Machine/CrockState.lean ====
section
/-!
DEFINITION. Machine/CrockState.lean: the Crock (4 MiB MRAM), its writer, and the Sieve's host channels (chapter 11).
A field's docstring reads: meaning | width | rule | reset.
-/

namespace Sys2Proof.Machine

/-- The Crock and the RST that writes it. -/
structure Crock where
  /-- contents: cells with rising addresses, none equal to 0, which an unlisted address reads as | 4 MiB | R311 | nothing listed (log entry 4) -/
  mem : List Host.Cell := []
  /-- JSEQ_NEXT | 32 | R322, R329 | 0: nothing journaled (log entry 4) -/
  jseqNext : BitVec 32 := 0
  /-- JSEQ_OLDEST: lowest valid JSEQ in the ring | 32 | R329 | 0: nothing journaled (log entry 4) -/
  oldest : Nat := 0
  /-- first-fault slots taken | 11 | R323, R329 | 0 (R329) -/
  ffUsed : Nat := 0
  /-- next free first-fault slot | 11 | R322, R323 | 0: DESIGN CHOICE (log entry 1) -/
  ffNext : Nat := 0
  /-- freed first-fault slots not yet zeroed | 1,024 | R324 | none: DESIGN CHOICE (log entry 1) -/
  ffZero : List Nat := []
  /-- user blocks in use | 64 | R327, R329 | none: USER_BLOCKS 0 (R329) -/
  used : List Nat := []
  /-- USER_90 raised and the count not below 58 since | 1 | R327 | 0: DESIGN CHOICE (log entry 1) -/
  userTold : Bool := false
  /-- user-area lines written, with the instant | — | R317 | none -/
  lineAt : List (Nat × Nat) := []
  /-- user-area lines that wait for their 20 µs: address, bytes | — | R317 | none -/
  lineWait : List (Nat × List Byte) := []
  /-- remapped lines and slots in the order of their spares: Crock address of the first byte | 512 | R316 | none: BAD_SLOTS 0 (R329) -/
  bad : List Nat := []
  /-- consecutive records that failed | 5 | R316 | 0: DESIGN CHOICE (log entry 1) -/
  failing : Nat := 0
  /-- MRAM fault declared | 1 | R316, R329 | 0 (R329) -/
  fault : Bool := false
  /-- VDDNV above 1.71 V | 1 | R314 | 1: DESIGN CHOICE (log entry 3) -/
  nvOk : Bool := true
  /-- DROPPED, saturating | 32 | R316, R329 | 0 (R329) -/
  dropped : Nat := 0
  /-- TORN_SKIPPED | 32 | R322, R329 | 0: DESIGN CHOICE (log entry 1) -/
  torn : Nat := 0
  /-- the boot scan is over | 1 | R322 | 0: DESIGN CHOICE (log entry 1) -/
  scanned : Bool := false
  /-- commands whose user-area lines wait, with the lines left and the response bytes | — | R317, R397 | none -/
  writes : List (Nat × Nat × List Byte) := []
  deriving DecidableEq, Repr

/-- A host channel of the Sieve (R333, R338). -/
structure SieveCh where
  /-- MODE: 0 OFF, 1 RUN, 2 ALIVE, 3 SEAL | 3 | R333 | 0 (R333) -/
  mode : Nat := 0
  /-- POLY | 2 | R333 | 3 (R333) -/
  poly : Nat := 3
  /-- BSWAP | 1 | R333 | 0 (R333) -/
  bswap : Bool := false
  /-- ALIVE_W: an 8-bit counter | 1 | R333 | 0 (R333) -/
  alive8 : Bool := false
  /-- COMPARE | 1 | R333 | 1 (R333) -/
  compare : Bool := true
  /-- SEAL_PORT | 6 | R333 | 0 (R333) -/
  port : Nat := 0
  /-- SEAL_UP is B | 1 | R333 | 0 (R333) -/
  upB : Bool := false
  /-- SEAL_EP | 8 | R333 | 0 (R333) -/
  ep : Nat := 0
  /-- SEAL_UNIT is packet | 1 | R333 | 0 (R333) -/
  packet : Bool := false
  /-- CRC_BE | 1 | R333 | 0 (R333) -/
  crcBe : Bool := false
  /-- ALIVE_CHECK | 1 | R333 | 0 (R333) -/
  aliveCheck : Bool := false
  /-- DISCARD | 1 | R333 | 0 (R333) -/
  discard : Bool := false
  /-- ALIVE_HI | 1 | R333 | 0 (R333) -/
  aliveHi : Bool := false
  /-- SKIP | 10 | R333 | 0 (R333) -/
  skip : Nat := 0
  /-- ALIVE_OFS | 10 | R333 | 0 (R333) -/
  aliveOfs : Nat := 0
  /-- EXPECTED | 32 | R333 | 0 (R333) -/
  expected : Nat := 0
  /-- register of the run in progress: none before its first byte | 32 | R334 | none: STATE OFF (R338) -/
  run : Option Nat := none
  /-- RESULT | 32 | R338 | 0 (R338) -/
  result : Nat := 0
  /-- ARMED in ALIVE mode; in SEAL mode the sealed endpoint holds the reference | 1 | R338 | 0 (R338) -/
  armed : Bool := false
  /-- LAST_ALIVE | 8 | R338 | 0 (R338) -/
  last : Nat := 0
  /-- UNITS, saturating | 32 | R338 | 0 (R338) -/
  units : Nat := 0
  /-- MISMATCHES, saturating | 16 | R338 | 0 (R338) -/
  mism : Nat := 0
  /-- ALIVE_ERRORS, saturating | 16 | R338 | 0 (R338) -/
  errs : Nat := 0
  deriving DecidableEq, Repr

end Sys2Proof.Machine
end

