-- ==== Sys2Proof/Machine/LineCode.lean ====
section
/-!
DEFINITION. Machine/LineCode.lean: the line code of a Giwald link: 64b/66b blocks, their sync headers, link words and the
self-synchronous scrambler (R250, R254, R256). Bit 0 of a block's 64 bits is the first of them on the line; a sync header is the
number that R250 writes.
-/

namespace Sys2Proof.Machine

/-! ### The scrambler x^58 + x^39 + 1 (R250) -/

/-- The last 58 scrambled bits, the newest in bit 0; a further one follows. -/
def scrPush (st b : Nat) : Nat := (2 * st + b) % 2 ^ 58

/-- Sum of the taps: the scrambled bits 39 and 58 places back. -/
def scrTaps (st : Nat) : Nat := (st / 2 ^ 38 + st / 2 ^ 57) % 2

/-- `n` bits of `w` scrambled from the state `st`: the scrambled bits and the new state. -/
def scramble : Nat → Nat → Nat → Nat × Nat
  | 0, st, _ => (0, st)
  | n + 1, st, w =>
    let b := (w + scrTaps st) % 2
    let r := scramble n (scrPush st b) (w / 2)
    (b + 2 * r.1, r.2)

/-- `n` bits of `w` descrambled: the receiver's state is the bits it has received, whatever they were. -/
def descramble : Nat → Nat → Nat → Nat × Nat
  | 0, st, _ => (0, st)
  | n + 1, st, w =>
    let b := (w + scrTaps st) % 2
    let r := descramble n (scrPush st (w % 2)) (w / 2)
    (b + 2 * r.1, r.2)

/-! ### Blocks (R250, R254) -/

/-- What a block carries. -/
inductive Block where
  /-- sync header 0b01: eight frame bytes -/
  | data (bs : List Byte)
  /-- sync header 0b10 and block type 0x1E: a link word with CODE and five ARG bytes -/
  | word (code : Nat) (arg : List Byte)
  /-- a link word whose CHK fails, which the receiver ignores (R254) -/
  | badWord
  /-- any other control block type, and a sync header of 0b00 or 0b11 -/
  | invalid
  deriving DecidableEq, Repr

/-- CODE and ARG of a link word, which CHK covers. -/
def wordCore (code : Nat) (arg : List Byte) : List Byte := leBytes 1 code ++ (arg ++ zeros (5 - arg.length)).take 5

/-- The eight bytes of a link word's block: type, CODE, ARG, CHK (CRC-8 0x07). -/
def wordBody (code : Nat) (arg : List Byte) : List Byte :=
  leBytes 1 0x1E ++ wordCore code arg ++ leBytes 1 (crcOf 0 (wordCore code arg))

/-- A sync header is valid: 0b01 or 0b10. -/
def headValid (h : Nat) : Bool := h == 1 || h == 2

/-- A block on the line: the sync header, which is not scrambled, in bits 1:0, and 64 scrambled bits above it. -/
def sendBlock (st head : Nat) (body : List Byte) : Nat × Nat :=
  let r := scramble 64 st (leNat body)
  (head + 4 * r.1, r.2)

/-- The block that the receiver reads from 66 bits of the line, and its next state. -/
def readBlock (st line : Nat) : Block × Nat :=
  let r := descramble 64 st (line / 4)
  let bs := leBytes 8 r.1
  let b : Block :=
    if line % 4 = 1 then .data bs
    else if line % 4 = 2 ∧ leNat (bs.take 1) = 0x1E then
      (if crcOf 0 (slice bs 1 6) = leNat (slice bs 7 1) then .word (leNat (slice bs 1 1)) (slice bs 2 5) else .badWord)
    else .invalid
  (b, r.2)

/-! ### The transmitter's line (R255, R256) -/

/-- What a transmitter keeps of its line. -/
structure Line where
  /-- scrambler: the last 58 bits sent scrambled | 58 | R250 | 0: DESIGN CHOICE (log entry 1) -/
  scr : Nat := 0
  /-- frame bytes that do not fill a block yet | 8 × 8 | R256 | none: DESIGN CHOICE (log entry 1) -/
  part : List Byte := []
  /-- the block sent last: sync header and 64 scrambled bits | 66 | R250 | 0: DESIGN CHOICE (log entry 1) -/
  last : Nat := 0
  deriving DecidableEq, Repr

/-- A block leaves. -/
def Line.put (k : Line) (head : Nat) (body : List Byte) : Line :=
  let r := sendBlock k.scr head body
  { k with scr := r.2, last := r.1 }

/-- Whole blocks of frame bytes leave; what does not fill one waits for the next frame's bytes. -/
def Line.data : Nat → Line → List Byte → Line
  | 0, k, bs => { k with part := bs }
  | n + 1, k, bs => if bs.length < 8 then { k with part := bs } else Line.data n (k.put 1 (bs.take 8)) (bs.drop 8)

/-- The bytes of a frame follow those of the frame before (R256). -/
def Line.frame (k : Line) (bs : List Byte) : Line := Line.data ((k.part ++ bs).length / 8 + 1) k (k.part ++ bs)

/-- A block that a frame has left incomplete is filled with 0x00 and leaves (R256). -/
def Line.fill (k : Line) : Line :=
  if k.part.isEmpty then k else { k.put 1 (k.part ++ zeros (8 - k.part.length)) with part := [] }

/-- A link word leaves, between frames (R254, R255). -/
def Line.word (k : Line) (code : Nat) (arg : List Byte) : Line := k.fill.put 2 (wordBody code arg)

/-- Block lock: 64 consecutive valid sync headers (R251). -/
def headsLock (hs : List Nat) : Bool := decide (64 ≤ hs.length) && (hs.take 64).all headValid

/-- Lock is lost: 16 of 64 consecutive sync headers are invalid (R251). -/
def headsLost (hs : List Nat) : Bool := decide (16 ≤ ((hs.take 64).filter (fun h => !headValid h)).length)

end Sys2Proof.Machine
end

