-- ==== Sys2Proof/Machine/FabricState.lean ====
section
/-!
DEFINITION. Machine/FabricState.lean: the Giwald links, the route engine and the fabric settings (chapter 09).
A field's docstring reads: meaning | width | rule | reset.
-/

namespace Sys2Proof.Machine

/-- STATE of a link (R251, R281). -/
inductive LinkSt where
  | disabled | acquire | train | check | up | retrain | down | sleep
  deriving DecidableEq, Repr

/-- One virtual channel of a link's transmitter and receiver (R259, R260). -/
structure Vc where
  /-- frames queued for this channel, oldest first, each with the link it came by when it is forwarded (R260, R269) -/
  q : List (Frame × Option Nat) := []
  /-- instant at which the present head frame started to wait for credits, if it waits -/
  waitFrom : Option Nat := none
  /-- cumulative credits the neighbour has granted -/
  granted : Nat := 0
  /-- cumulative credits used -/
  used : Nat := 0
  /-- cumulative credits granted to the neighbour -/
  given : Nat := 0
  /-- deficit of the round robin, bytes (R264, R452) -/
  deficit : Nat := 0
  deriving DecidableEq, Repr

/-- One fabric link Ll. -/
structure FabLink where
  /-- STATE | 3 | R281 | 0 DISABLED; ACQUIRE once LINK_EN is applied (R281, R251) -/
  st : LinkSt := .disabled
  /-- MODE: Ladle | 1 | R281 | 0 fabric (R281) -/
  ladle : Bool := false
  /-- usable: UP for 1 s | 1 | R265 | 0 (R281 DIR 0) -/
  usable : Bool := false
  /-- DIR: 0 not usable, 1 up, 2 down, 3 RESERVE | 2 | R281 | 0 (R281) -/
  dir : Nat := 0
  /-- the neighbour's end is listed RESERVE | 1 | R268 | 0: DESIGN CHOICE (log entry 1) -/
  nbrReserve : Bool := false
  /-- NBR_NODE | 8 | R281 | 0 (R281) -/
  nbrNode : Nat := 0
  /-- NBR_LINK | 2 | R281 | 0 (R281) -/
  nbrLink : Nat := 0
  /-- neighbour's UID from HELLO, 0 before one | 64 | R265 | 0: DESIGN CHOICE (log entry 1) -/
  nbrUid : Nat := 0
  /-- neighbour's pair role | 2 | R252 | 0: DESIGN CHOICE (log entry 1) -/
  nbrRole : Nat := 0
  /-- RETRAINS, saturating | 8 | R281 | 0 (R281) -/
  retrains : Nat := 0
  /-- BURSTS, saturating | 16 | R281 | 0 (R281) -/
  bursts : Nat := 0
  /-- CRC_ERRORS, saturating | 16 | R281 | 0 (R281) -/
  crcErrs : Nat := 0
  /-- ABORTS, saturating | 16 | R281 | 0 (R281) -/
  aborts : Nat := 0
  /-- FRAME_DISCARDS, saturating | 16 | R281 | 0 (R281) -/
  discards : Nat := 0
  /-- RTT, ns, saturating | 16 | R281 | 0 (R281) -/
  rtt : Nat := 0
  /-- the four virtual channels | 4 | R259 | empty, no credits (R260) -/
  vcs : List Vc := List.replicate 4 {}
  /-- LSEQ of the next frame started | 8 | R260 | 0: DESIGN CHOICE (log entry 1) -/
  txSeq : BitVec 8 := 0
  /-- LSEQ of the last frame accepted in order | 8 | R261 | 0xFF: DESIGN CHOICE (log entry 1) -/
  rxSeq : BitVec 8 := 0xFF
  /-- replay buffer: frames started and not acknowledged, oldest first | 32 KiB, 128 frames | R260 | empty -/
  replay : List (BitVec 8 × Frame) := []
  /-- NAK sent: every frame is discarded until a REPLAY word | 1 | R261 | 0: DESIGN CHOICE (log entry 1) -/
  naked : Bool := false
  /-- LSEQ at which the last burst started, and bursts from it in a row | 8 + 3 | R261 | none -/
  burst : Option (BitVec 8 × Nat) := none
  /-- cumulative credits per VC freed since the last CREDIT word | 4 × 16 | R260 | 0: DESIGN CHOICE (log entry 1) -/
  freed : List Nat := [0, 0, 0, 0]
  /-- source 442 LINK_MODE already raised for this training | 1 | R252 | 0: DESIGN CHOICE (log entry 1) -/
  modeTold : Bool := false
  /-- the last eight link words sent, newest first: CODE and ARG bytes | 8 × 48 | R254, R255 | none: DESIGN CHOICE (log entry 1) -/
  words : List (Nat × List Byte) := []
  /-- the transmitter's line | — | R250, R256 | as Line -/
  line : Line := {}
  /-- how far the bring-up inside RETRAIN has come: ACQUIRE, TRAIN or CHECK | 2 | R251 | ACQUIRE: DESIGN CHOICE (log entry 1) -/
  phase : LinkSt := .acquire
  /-- VC whose turn the deficit round robin has | 2 | R264 | 1: DESIGN CHOICE (log entry 1) -/
  turn : Nat := 1
  /-- this entry to UP follows CHECK and the link has not yet been UP for 1 s | 1 | R265 | 0: DESIGN CHOICE (log entry 1) -/
  fresh : Bool := false
  /-- SLEEP request sent | 1 | R278 | 0: DESIGN CHOICE (log entry 1) -/
  sleepReq : Bool := false
  /-- wake patterns are being sent | 1 | R279 | 0: DESIGN CHOICE (log entry 1) -/
  waking : Bool := false
  /-- a wake probe runs: the receiver was started by energy | 1 | R279 | 0: DESIGN CHOICE (log entry 1) -/
  probing : Bool := false
  /-- STALL recorded and not cleared | 1 | R272, R282 | 0: DESIGN CHOICE (log entry 1) -/
  stalled : Bool := false
  deriving DecidableEq, Repr

/-- An LSA as held in the node's store. -/
structure HeldLsa where
  lsa : Lsa
  /-- instant of its last refresh -/
  at_ : Nat
  /-- instant from which its node is unreachable -/
  gone : Option Nat := none
  deriving DecidableEq, Repr

/-- One entry of the route table (R269). -/
structure RouteEnt where
  dest : Nat
  upHop : Option Nat
  dnHop : Option Nat
  /-- hops of the UPHOP path (R388) -/
  hops : Nat
  deriving DecidableEq, Repr

/-- The fabric interface of the node. -/
structure Fabric where
  /-- NODE_ID | 8 | R280 | BDI; 0 (R280) -/
  nodeIdSet : Nat := 0
  /-- ROOT_PRIO | 8 | R280 | 128 (R280) -/
  rootPrio : Nat := 128
  /-- LINK_EN | 4 | R280 | 0xF (R280) -/
  linkEn : Nat := 15
  /-- WAKE_EN | 4 | R280 | 0xF (R280) -/
  wakeEn : Nat := 15
  /-- TX_EMPH of L0–L3 | 4 × 4 | R280 | 4 (R280) -/
  txEmph : List Nat := [4, 4, 4, 4]
  /-- VC1_Q | 4 | R280 | 1 (R280) -/
  vc1q : Nat := 1
  /-- VC2_Q | 4 | R280 | 2 (R280) -/
  vc2q : Nat := 2
  /-- VC3_Q | 4 | R280 | 13 (R280) -/
  vc3q : Nat := 13
  /-- LSA_REFRESH, 10 ms units | 8 | R280 | 10 (R280) -/
  lsaRefresh : Nat := 10
  /-- CREDIT_STALL, ms | 16 | R280 | 10 (R280) -/
  creditStall : Nat := 10
  /-- LEND_HOLD, 0.1 s units | 16 | R280 | 20 (R280) -/
  lendHold : Nat := 20
  /-- NODE_ID_EFF | 8 | R281 | 0 (R281) -/
  nodeId : Nat := 0
  /-- FIXED | 1 | R281 | 0 (R281) -/
  fixed : Bool := false
  /-- TENTATIVE | 1 | R281 | 0 (R281) -/
  tentative : Bool := false
  /-- node ID claimed in the own LSA, 0 none | 8 | R266 | 0: DESIGN CHOICE (log entry 1) -/
  claim : Nat := 0
  /-- sequence number of the own LSA | 32 | R265 | 0: DESIGN CHOICE (log entry 1) -/
  lsaSeq : BitVec 32 := 0
  /-- ROOT | 8 | R281 | 0 (R281) -/
  root : Nat := 0
  /-- UID of the root | 64 | R267 | 0: DESIGN CHOICE (log entry 1) -/
  rootUid : Nat := 0
  /-- LEVEL | 8 | R281 | 0 (R281) -/
  level : Nat := 0
  /-- REACHABLE | 8 | R281 | 1 (R281) -/
  reachable : Nat := 1
  /-- LSA store | 240 | R265 | empty: DESIGN CHOICE (log entry 1) -/
  lsas : List HeldLsa := []
  /-- route table in force | 240 entries | R269 | empty (no route) -/
  table : List RouteEnt := []
  /-- parent link: the up link to the neighbour with the lowest (LEVEL, UID) | 2 | R270, R286 | none: DESIGN CHOICE (log entry 1) -/
  parentLink : Option Nat := none
  /-- links to the nodes whose parent is this node | 4 | R270 | none: DESIGN CHOICE (log entry 1) -/
  children : List Nat := []
  /-- the LSA store has changed since the table was made, by an event on this link | 3 | R271 | none -/
  changed : Option Nat := none
  /-- links L0–L3 | 4 | R251 | as FabLink -/
  links : List FabLink := [{}, {}, {}, {}]
  /-- destinations for which DISCARD_NO_ROUTE was raised, with the instant | — | R282 | none -/
  noRouteTold : List (Nat × Nat) := []
  deriving DecidableEq, Repr

end Sys2Proof.Machine
end

