-- ==== Sys2Proof/Machine/PowerState.lean ====
section
/-!
DEFINITION. Machine/PowerState.lean: the PPCs, their meters, the converters and the PMBus segments (chapter 06).
A field's docstring reads: meaning | width | rule | reset.
-/

namespace Sys2Proof.Machine

/-- PPC states in the order of PPC_STATE (R193). -/
inductive PpcSt where
  | off | convCheck | ramp | on | transition | frozen | tripped | discharge
  deriving DecidableEq, Repr

/-- The meter of one power path or feed (R190–R193, R200). -/
structure Meter where
  /-- last VBUS sample, mV | 16 | R193 | 0 (R193) -/
  vbus : Nat := 0
  /-- last converter-output sample, mV; port bus voltage in a feed's block | 16 | R193, R200 | 0 (R193) -/
  vconv : Nat := 0
  /-- last current sample, mA | 16 signed | R193 | 0 (R193) -/
  ibus : Int := 0
  /-- samples, newest first: VBUS and current, from which the averages are the means | 65,536 | R191 | none: averages 0 (R193) -/
  hist : List (Nat × Int) := []
  /-- IBUS_PEAK, mA | 16 | R193 | 0 (R193) -/
  peak : Nat := 0
  /-- ENERGY with its 24 fractional bits | 48 + 24 | R191 | 0 (R193) -/
  energy : Nat := 0
  /-- ENERGY_IN of UA and UB with its fractional bits | 48 + 24 | R193 | 0: DESIGN CHOICE (log entry 1) -/
  energyIn : Nat := 0
  /-- ENERGY_WRAPS | 8 | R193 | 0 (R193) -/
  wraps : Nat := 0
  /-- NEG_SEEN | 1 | R193 | 0 (R193) -/
  neg : Bool := false
  /-- SAT | 1 | R193 | 0 (R193) -/
  sat : Bool := false
  /-- TEU time of the last sample, ns | 64 | R193 | 0 (R193) -/
  time : Nat := 0
  /-- instant of the last ADC_SATURATED record | 64 | R448 | none: DESIGN CHOICE (log entry 1) -/
  satAt : Option Nat := none
  /-- instant of the last NEG_POWER record | 64 | R448 | none: DESIGN CHOICE (log entry 1) -/
  negAt : Option Nat := none
  deriving DecidableEq, Repr

/-- The PPC settings block (R188). -/
structure PpcSet where
  /-- TRIP_MODE is auto-retry | 2 | R188 | 0 latch-off (R188) -/
  auto : Bool := false
  /-- ILIM_MARGIN, % | 8 | R188 | 25 (R188) -/
  margin : Nat := 25
  /-- FT_PCT as written, % | 16 | R188 | 200 (R188) -/
  ftPct : Nat := 200
  /-- TFAULT, µs | 32 | R188 | 10,000 (R188) -/
  tfault : Nat := 10000
  /-- TPGQ, µs | 16 | R188 | 1,000 (R188) -/
  tpgq : Nat := 1000
  /-- TCOOL, ms | 16 | R188 | 1,000 (R188) -/
  tcool : Nat := 1000
  /-- GATE_SLEW, 0.1 V/ms | 8 | R188 | 10 (R188) -/
  gateSlew : Nat := 10
  /-- CONV_SLEW, 0.1 V/ms | 8 | R188 | 25 (R188) -/
  convSlew : Nat := 25
  /-- TVW, ms | 8 | R188 | 20 (R188) -/
  tvw : Nat := 20
  /-- DSCH_ASSIST | 1 | R188 | 1 (R188) -/
  dschAssist : Bool := true
  deriving DecidableEq, Repr

/-- One PPC: ports 1–32, UA (33) and UB (34). -/
structure Ppc where
  /-- PPC state | 3 | R167, R193 | OFF (R167) -/
  st : PpcSt := .off
  /-- a VBUS request stands from the PDE, or from the style's own rule | 1 | R167 | 0: DESIGN CHOICE (log entry 1) -/
  req : Bool := false
  /-- power-good | 1 | R181, R193 | 0 (R193) -/
  pg : Bool := false
  /-- Pn_DSCH high | 1 | R187 | 0 (R167) -/
  dsch : Bool := false
  /-- voltage in force or ordered, mV | 16 | R180, R183 | 5,000: vSafe5V (R167) -/
  mv : Nat := 5000
  /-- voltage before the transition in progress, mV | 16 | R180 | 5,000: DESIGN CHOICE (log entry 1) -/
  oldMv : Nat := 5000
  /-- OV level before the transition in progress, mV | 16 | R180 | 6,000 (R180) -/
  oldOv : Nat := 6000
  /-- the vSafe5V row of the window table is in force | 1 | R180 | 1 (R180) -/
  safe5 : Bool := true
  /-- ILIM in force, mA | 16 | R172 | 0: DESIGN CHOICE (log entry 1) -/
  ilim : Nat := 0
  /-- Ic from which ILIM is formed, mA | 16 | R172 | 0: DESIGN CHOICE (log entry 1) -/
  ic : Nat := 0
  /-- contract voltage of the ILIM ceiling, mV | 16 | R172 | 5,000 (R167) -/
  icMv : Nat := 5000
  /-- allocation of the ILIM ceiling, 0.1 W | 16 | R172, R210 | 0: DESIGN CHOICE (log entry 1) -/
  icAlloc : Nat := 0
  /-- slew in use, 0.1 V/ms | 8 | R179 | 10 (R188) -/
  slew : Nat := 10
  /-- a halving happened in this ramp | 1 | R179 | 0: DESIGN CHOICE (log entry 1) -/
  halved : Bool := false
  /-- GATE_SLEW_HELD | 1 | R179, R188 | 0 (R188) -/
  slewHeld : Bool := false
  /-- the current was at or above 80 % of ILIM at the last sample | 1 | R179 | 0: DESIGN CHOICE (log entry 1) -/
  over80 : Bool := false
  /-- fault timer, quarters of a µs | 22 | R174 | 0 (R174: idle) -/
  fault : Nat := 0
  /-- the last sample was above the OV level | 1 | R176 | 0: DESIGN CHOICE (log entry 1) -/
  ovSeen : Bool := false
  /-- UNDER raised and VBUS not returned | 1 | R182 | 0: DESIGN CHOICE (log entry 1) -/
  under : Bool := false
  /-- BACKFEED raised since the entry to CONV_CHECK | 1 | R167 | 0: DESIGN CHOICE (log entry 1) -/
  backTold : Bool := false
  /-- CONVERTER_NOT_READY: waiting 1 s to try again | 1 | R167 | 0: DESIGN CHOICE (log entry 1) -/
  retryWait : Bool := false
  /-- consecutive trips | 8 | R185 | 0 (R366) -/
  trips : Nat := 0
  /-- source offset k of the trip not yet cleared, 0 none: 2 fast, 3 slow, 4 reverse, 5 window | 3 | R194 | 0 (R366) -/
  tripK : Nat := 0
  /-- instant of the most recent trip, ns | 64 | R185 | 0: DESIGN CHOICE (log entry 1) -/
  tripAt : Nat := 0
  /-- tCOOL of that trip, ms; 0 when it has ended | 16 | R185 | 0 (R366) -/
  cool : Nat := 0
  /-- a clearing happening is remembered | 1 | R186 | 0: DESIGN CHOICE (log entry 1) -/
  clear : Bool := false
  /-- PORT_POWER_CYCLE in progress: instant at which OFF_MS has passed, ns | 64 | R377 | none -/
  cycle : Option Nat := none
  /-- shunt, µΩ | 16 | R165, R503 | 5,000 (R503) -/
  rshunt : Nat := 5000
  /-- A_IMAX, 0.1 A | 8 | R172, R503 | 15 (R172) -/
  aImax : Nat := 15
  /-- GSNK driven: the sink path of UA or UB conducts | 1 | R166 | 0: DESIGN CHOICE (log entry 1) -/
  gsnk : Bool := false
  /-- settings block | 128 | R188 | as PpcSet -/
  set : PpcSet := {}
  /-- meter block | 256 (320 on UA, UB) | R193 | as Meter -/
  meter : Meter := {}
  deriving DecidableEq, Repr

/-- CSTATE of a converter (R379). -/
inductive CState where
  | ready | unsupported | initFailed | unnamed
  deriving DecidableEq, Repr

/-- One PMBus converter, 1–34. -/
structure Converter where
  /-- CONV_ADDR, 0 none | 7 | R169, R503 | 0: no BDI (R503) -/
  addr : Nat := 0
  /-- CSTATE | 2 | R168, R379 | 3 not named (R379) -/
  cst : CState := .unnamed
  /-- OPERATION last written on | 1 | R169, R379 | 0 (R379) -/
  on : Bool := false
  /-- STATUS_WORD last read | 16 | R171, R379 | 0 (R379) -/
  status : Nat := 0
  /-- VOUT_COMMAND last written, mV | 16 | R379 | 0 (R379) -/
  vout : Nat := 0
  /-- FAILURES, saturating | 16 | R170, R379 | 0 (R379) -/
  fails : Nat := 0
  /-- exponent N reported by VOUT_MODE, two's complement in 5 bits | 5 | R168, R184 | 0: DESIGN CHOICE (log entry 1) -/
  exp : Nat := 0
  /-- step of the initialisation sequence in progress, 1–11; 0 none | 4 | R168 | 0: DESIGN CHOICE (log entry 1) -/
  init : Nat := 0
  /-- wait number of the CONVERTER_INIT that started it, 0 none | — | R379 | 0 -/
  wait : Nat := 0
  /-- VOUT_TRANSITION_RATE last written, 0.1 V/ms, 0 none | 8 | R168, R188 | 0: DESIGN CHOICE (log entry 1) -/
  slew : Nat := 0
  /-- constant-current limits of a PPS contract are written | 1 | R168 | 0: DESIGN CHOICE (log entry 1) -/
  cc : Bool := false
  deriving DecidableEq, Repr

/-- A PMBus transaction (R168–R171). -/
structure Txn where
  conv : Nat
  /-- command code; 0x0C for the alert response address -/
  code : Nat
  value : Nat
  /-- 0 setpoint or OPERATION, 1 initialisation, 2 alert, 3 poll -/
  prio : Nat
  deriving DecidableEq, Repr

/-- One PMBus segment. -/
structure Segment where
  /-- rate: 0 100 kHz, 1 400 kHz, 2 1 MHz | 2 | R169, R504 | 2 (R504) -/
  rate : Nat := 2
  /-- transaction on the bus, with attempts made | — | R169, R170 | none -/
  cur : Option (Txn × Nat) := none
  /-- setpoint and OPERATION writes waiting, oldest first | — | R169 | empty -/
  sets : List Txn := []
  /-- alert work waiting | — | R171 | empty -/
  alerts : List Txn := []
  /-- polls waiting | — | R171 | empty -/
  polls : List Txn := []
  /-- converter polled last | 6 | R171 | 0: DESIGN CHOICE (log entry 1) -/
  polled : Nat := 0
  /-- pulses clocked to free a stuck PMx_DAT | 4 | R170 | 0: DESIGN CHOICE (log entry 1) -/
  pulses : Nat := 0
  deriving DecidableEq, Repr

end Sys2Proof.Machine
end

