-- ==== Sys2Proof/Machine/FeedState.lean ====
section
/-!
DEFINITION. Machine/FeedState.lean: the feeds, and the budget arbiter's settings, allocations and shed plans
(chapter 07). A field's docstring reads: meaning | width | rule | reset.
-/

namespace Sys2Proof.Machine

/-- Feed states in the order of R200. -/
inductive FeedSt where
  | absent | qualifying | on | warning | ovOff
  deriving DecidableEq, Repr

/-- The feed settings block (R196). -/
structure FeedSet where
  /-- FEED_PMAX, W | 16 | R196 | 0 (R196) -/
  pmax : Nat := 0
  /-- FEED_RSHUNT, µΩ | 16 | R196 | 1,000 (R196) -/
  rshunt : Nat := 1000
  /-- FEED_UV, 0.1 V | 10 | R196 | 180 (R196) -/
  uv : Nat := 180
  /-- FEED_OV, 0.1 V | 10 | R196 | 590 (R196) -/
  ov : Nat := 590
  /-- EW_LEVEL, 0.1 V | 10 | R196 | 360 (R196) -/
  ew : Nat := 360
  /-- EW_HYST, 0.1 V | 8 | R196 | 10 (R196) -/
  hyst : Nat := 10
  /-- TFEEDQ, ms | 8 | R196 | 50 (R196) -/
  tq : Nat := 50
  /-- TEWCLR, ms | 8 | R196 | 100 (R196) -/
  tclr : Nat := 100
  /-- FEED_SLEW, 0.1 V/ms | 8 | R196 | 20 (R196) -/
  slew : Nat := 20
  deriving DecidableEq, Repr

/-- One feed. -/
structure Feed where
  /-- settings block in force | 128 | R196 | as FeedSet -/
  set : FeedSet := {}
  /-- settings written that take effect at the next meter sample, with the command's wait number | — | R196, R380 | none -/
  next : Option (FeedSet × Nat) := none
  /-- feed state | 3 | R197, R200 | ABSENT (R197) -/
  st : FeedSt := .absent
  /-- gate raised | 1 | R197, R198 | 0 (R197) -/
  gate : Bool := false
  /-- the last k-0 record was PRESENT | 1 | R201 | 0: DESIGN CHOICE (log entry 1) -/
  present : Bool := false
  /-- overcurrent event stands | 1 | R199 | 0: DESIGN CHOICE (log entry 1) -/
  overCur : Bool := false
  /-- classes below this one are still to be shed for overcurrent, 0 none | 4 | R199 | 0: DESIGN CHOICE (log entry 1) -/
  ocNext : Nat := 0
  /-- meter block | 256 | R200 | as Meter -/
  meter : Meter := {}
  deriving DecidableEq, Repr

/-- The PBA block of a port and what the PBA keeps for it (R206–R218). -/
structure PbaPort where
  /-- CLASS | 3 | R206 | 4; 1 for UA and UB (R206) -/
  cls : Nat := 4
  /-- PORT_PMIN, W | 8 | R206 | 15 (R206) -/
  pmin : Nat := 15
  /-- PORT_PMAX, W | 12 | R206 | 240; 60 for UA and UB (R206) -/
  pmax : Nat := 240
  /-- PIN, W | 12 | R206 | 0 (R206) -/
  pin : Nat := 0
  /-- the pin is suspended by early warning (PIN_STATE 2) | 1 | R206, R213 | 0 (R206) -/
  pinSusp : Bool := false
  /-- SHED | 1 | R206 | 0 (R206) -/
  shed : Bool := false
  /-- rule under which the port is shed | 2 | R199, R215, R216 | early warning: DESIGN CHOICE (log entry 1), read only while SHED -/
  why : ShedWhy := .ew
  /-- P_AVG that the port had in the plan that shed it, mW | 32 | R215 | 0: DESIGN CHOICE (log entry 1) -/
  shedP : Nat := 0
  /-- ALLOC in force, 0.1 W | 16 | R206 | 0 (R206) -/
  alloc : Nat := 0
  /-- allocation computed last, 0.1 W; above `alloc` while an increase is pending | 16 | R208, R210 | 0: DESIGN CHOICE (log entry 1) -/
  target : Nat := 0
  /-- the partner's Capability Mismatch raises the demand to the envelope | 1 | R207 | 0: DESIGN CHOICE (log entry 1) -/
  mism : Bool := false
  deriving DecidableEq, Repr

/-- The budget arbiter. -/
structure Pba where
  /-- FEED_MODE is SUM | 2 | R205 | 0 REDUNDANT (R205) -/
  sum : Bool := false
  /-- PACKING written, if it was | 1 | R205, R443 | none: by profile (R205) -/
  packing : Option Bool := none
  /-- CONV_EFF, % | 8 | R205 | 95 (R205) -/
  eff : Nat := 95
  /-- BUDGET_CAP, 0.1 W | 16 | R205 | 0xFFFF (R205) -/
  cap : Nat := 0xFFFF
  /-- CHIP_RESERVE, 0.1 W | 16 | R205 | 200 (R205) -/
  reserve : Nat := 200
  /-- RIDE_BUDGET, 0.1 W | 16 | R205 | 0 (R205) -/
  ride : Nat := 0
  /-- RESTORE_STAGGER, ms | 16 | R205 | 100 (R205) -/
  stagger : Nat := 100
  /-- BUDGET, 0.1 W | 16 | R205 | 0 (R205) -/
  budget : Nat := 0
  /-- EW asserted | 1 | R202, R205 | 0 (R205) -/
  ew : Bool := false
  /-- EW table: bit 0 none, 1 A, 2 B, 3 both | 4 | R202, R381 | 0x1 (R381) -/
  table : Nat := 1
  /-- SINK_FED | 1 | R217, R205 | 0 (R205) -/
  sinkFed : Bool := false
  /-- a trigger of R209 waits for its computation, with the cause of R219 | 3 | R209 | none -/
  trigger : Option Nat := none
  /-- wait numbers of the commands that the computation completes | — | R380 | none -/
  waits : List Nat := []
  /-- restores in progress, with the class taken next | 3 × 4 | R199, R215, R218 | none: DESIGN CHOICE (log entry 1) -/
  restores : List (ShedWhy × Nat) := []
  /-- upstreams whose return to the source role is owed after early warning | 2 | R160, R218 | none: DESIGN CHOICE (log entry 1) -/
  back : List Nat := []
  /-- shed plans: the ports that each of the four feed combinations sheds | 4 × 34 | R214 | none: DESIGN CHOICE (log entry 1) -/
  plans : List (List Nat) := [[], [], [], []]
  /-- P_AVG of each port when the plans were prepared, mW | 34 × 32 | R214 | 0: DESIGN CHOICE (log entry 1) -/
  planP : List Nat := List.replicate 34 0
  /-- PBA blocks of ports 1–32, UA, UB | 34 | R206 | as PbaPort -/
  ports : List PbaPort := (List.replicate 32 {} : List PbaPort) ++ (List.replicate 2 { cls := 1, pmax := 60 } : List PbaPort)
  deriving DecidableEq, Repr

end Sys2Proof.Machine
end

