-- ==== Sys2Proof/Machine/HubState.lean ====
section
/-!
DEFINITION. Machine/HubState.lean: the state of the upstreams, the ports, the translators, the proxies and the
endpoint store (chapters 02, 03 and 04). A field's docstring reads: meaning | width | rule | reset.
-/

namespace Sys2Proof.Machine

/-- OWNER of R101. -/
inductive Owner where
  | upA | upB | lent | parked | mgmt
  deriving DecidableEq, Repr

/-- MODE of R97. -/
inductive Mode where
  | transparent | translated
  deriving DecidableEq, Repr

/-- STATE of a translated port (R100). -/
inductive Life where
  | vacant | filling | presented | live | draining | parked | refilling
  deriving DecidableEq, Repr

/-- The DPE states of R71. -/
inductive Dpe where
  | unpowered | disconnected | disabled | resetting | enabled | sleeping | suspended | resuming | testing
  deriving DecidableEq, Repr

/-- Style of a port (R11). -/
inductive Style where
  | c | a | embedded
  deriving DecidableEq, Repr

/-- Charging-port behaviour of R76. -/
inductive Charge where
  | off | dcpOnly | auto
  deriving DecidableEq, Repr

/-- What an upstream answered last on its bus (R42, R53, R105, R110, R113). -/
inductive Ans where
  | none | ack | nak | nyet | stall | err
  | data (toggle : Bool) (bs : List Byte)
  | mdata (bs : List Byte)
  deriving DecidableEq, Repr

/-- What a downstream wire carried last at the PSX's request. -/
inductive Wire where
  | idle
  | token (pid : Pid) (addr ep : Nat)
  /-- a host's transaction repeated to the port: after PRE on a low-speed port, its token and its further packets
  (R45, R49) -/
  | xfer (pre : Bool) (pid : Pid) (addr ep : Nat) (pkts : List Pkt)
  /-- a SETUP or OUT transaction of a TT on its FS/LS bus (R54) -/
  | ttOut (setup : Bool) (addr ep : Nat) (toggle : Bool) (bs : List Byte)
  | out (ep : Nat) (toggle : Bool) (bs : List Byte)
  | setup (bs : List Byte)
  | lpm (besl : Nat)
  | reset | k | eop | sof (frame : Nat) | keepAlive
  /-- the selected test pattern (R71, R89) -/
  | test (sel : TestSel)
  | chirp
  deriving DecidableEq, Repr

/-- What one hub function keeps for one of its port numbers. -/
structure PortView where
  /-- PORT_POWER bit | 1 | R43 | 0 (R43) -/
  power : Bool := false
  /-- CONNECTION as last shown to the owner | 1 | R90, R91 | 0 (R43, R90) -/
  conn : Bool := false
  /-- C_PORT_CONNECTION | 1 | R91 | DESIGN CHOICE 0 (log entry 1) -/
  cConn : Bool := false
  /-- C_PORT_ENABLE | 1 | R91 | DESIGN CHOICE 0 (log entry 1) -/
  cEnable : Bool := false
  /-- C_PORT_SUSPEND | 1 | R91 | DESIGN CHOICE 0 (log entry 1) -/
  cSuspend : Bool := false
  /-- C_PORT_L1 | 1 | R91 | DESIGN CHOICE 0 (log entry 1) -/
  cL1 : Bool := false
  /-- C_PORT_RESET | 1 | R91 | DESIGN CHOICE 0 (log entry 1) -/
  cReset : Bool := false
  /-- C_PORT_OVER_CURRENT | 1 | R91 | DESIGN CHOICE 0 (log entry 1) -/
  cOc : Bool := false
  deriving DecidableEq, Repr

/-- What the SuperSpeed hub function keeps for one of ports 1–8. -/
structure SsView where
  /-- PORT_POWER bit | 1 | R43 | 0 (R43) -/
  power : Bool := false
  /-- connection as last shown | 1 | R92, R91 | DESIGN CHOICE 0 (log entry 1) -/
  conn : Bool := false
  /-- C_PORT_CONNECTION | 1 | R91 | DESIGN CHOICE 0 (log entry 1) -/
  cConn : Bool := false
  /-- C_PORT_RESET | 1 | R91 | DESIGN CHOICE 0 (log entry 1) -/
  cReset : Bool := false
  /-- C_BH_PORT_RESET | 1 | R92 | DESIGN CHOICE 0 (log entry 1) -/
  cBh : Bool := false
  /-- C_PORT_LINK_STATE | 1 | R92, R95 | DESIGN CHOICE 0 (log entry 1) -/
  cLink : Bool := false
  /-- C_PORT_OVER_CURRENT | 1 | R91 | DESIGN CHOICE 0 (log entry 1) -/
  cOc : Bool := false
  /-- PORT_REMOTE_WAKE_MASK | 3 | R85 | DESIGN CHOICE 0 (log entry 1) -/
  wakeMask : Nat := 0
  deriving DecidableEq, Repr

/-- Why an upstream's bus is not carrying traffic. -/
inductive Bus where
  | active | suspended | l1 | resuming
  deriving DecidableEq, Repr

/-- The USB 2.0 link of an upstream (R31, R49). -/
inductive UpLink where
  | detached | fs | hs
  deriving DecidableEq, Repr

/-- One upstream: its hub functions, its management function and its microframe timer. -/
structure Upstream where
  /-- USB 2.0 link: detached, FS or HS | 2 | R31, R49 | detached (R435: no upstream connected at reset) -/
  link : UpLink := .detached
  /-- bus condition of the USB 2.0 link | 2 | R58, R79, R81, R84 | DESIGN CHOICE active (log entry 1) -/
  bus : Bus := .active
  /-- BESL of the LPM token that put the hub function into L1 | 4 | R82 | DESIGN CHOICE 0 (log entry 1) -/
  besl : Nat := 0
  /-- host K stands on the line | 1 | R84 | DESIGN CHOICE 0 (log entry 1) -/
  hostK : Bool := false
  /-- upstream K driven for a device wake: (waking port or 0, instant) | 1+8+64 | R84 | none: DESIGN CHOICE (log entry 1) -/
  kDrive : Option (Nat × Nat) := none
  /-- USB 2.0 hub address | 7 | R31 | 0 (R117) -/
  hubAddr : Nat := 0
  /-- USB 2.0 hub bConfigurationValue | 8 | R31, R43 | 0 (R117) -/
  hubCfg : Nat := 0
  /-- hub interface alternate setting, 0 single TT, 1 multi-TT | 1 | R35, R52 | 0 (USB; DESIGN CHOICE, log entry 1) -/
  hubAlt : Nat := 0
  /-- DEVICE_REMOTE_WAKEUP of the USB 2.0 hub | 1 | R84, R85 | DESIGN CHOICE 0 (log entry 1) -/
  remoteWake : Bool := false
  /-- what the USB 2.0 hub keeps for ports 1–41 (index n − 1) | 41 entries | R43, R91 | as PortView -/
  views : List PortView := List.replicate 41 {}
  /-- SuperSpeed link state of the upstream SPE | 4 | R92, R31 | SS.Disabled: DESIGN CHOICE (log entry 1) -/
  ssLink : Link := .ssDisabled
  /-- SuperSpeed link error count of the upstream SPE | 16 | R95 | 0: DESIGN CHOICE (log entry 1) -/
  ssErrs : Nat := 0
  /-- SuperSpeed hub address | 7 | R31 | 0 (R117) -/
  ssAddr : Nat := 0
  /-- SuperSpeed hub bConfigurationValue | 8 | R31 | 0 (R117) -/
  ssCfg : Nat := 0
  /-- U1_ENABLE of the SuperSpeed hub | 1 | R94, R447 | DESIGN CHOICE 0 (log entry 1) -/
  u1En : Bool := false
  /-- U2_ENABLE of the SuperSpeed hub | 1 | R94, R447 | DESIGN CHOICE 0 (log entry 1) -/
  u2En : Bool := false
  /-- remote wake (function suspend) of the SuperSpeed hub | 1 | R85 | DESIGN CHOICE 0 (log entry 1) -/
  ssWake : Bool := false
  /-- what the SuperSpeed hub keeps for ports 1–8 | 8 entries | R43, R92 | as SsView -/
  ssViews : List SsView := List.replicate 8 {}
  /-- last packet forwarded to the host on the SuperSpeed link | — | R51 | empty: DESIGN CHOICE (log entry 1) -/
  ssFwd : List Byte := []
  /-- the SuperSpeed link of the upstream trained at Gen 2 | 1 | R51, R92 | 0: DESIGN CHOICE (log entry 1) -/
  ssGen2 : Bool := false
  /-- data toggle of the USB 2.0 hub's status-change endpoint | 1 | R35, R91 | 0: DESIGN CHOICE (log entry 1) -/
  scTog : Bool := false
  /-- packets last repeated to the host, from their PID byte on | — | R45 | empty: DESIGN CHOICE (log entry 1) -/
  fwd : List (List Byte) := []
  /-- count of non-periodic splits received, which orders the one pipeline of single TT | 64 | R52 | 0: DESIGN CHOICE (log entry 1) -/
  npSeq : Nat := 0
  /-- management function address | 7 | R31 | 0 (R44) -/
  mgAddr : Nat := 0
  /-- management function bConfigurationValue | 8 | R44 | 0 (R44) -/
  mgCfg : Nat := 0
  /-- the management function answers its port: cleared by ClearPortFeature(PORT_ENABLE) until PORT_RESET | 1 | R42 | 1 (R42) -/
  mgEnabled : Bool := true
  /-- the management function is suspended | 1 | R42, R79 | DESIGN CHOICE 0 (log entry 1) -/
  mgSuspended : Bool := false
  /-- a reset of port 33 runs | 1 | R44 | DESIGN CHOICE 0 (log entry 1) -/
  mgResetting : Bool := false
  /-- responses stored for the response pipe, oldest first | 16 KiB | R352 | empty: DESIGN CHOICE (log entry 1) -/
  respPipe : List (List Byte) := []
  /-- records of the event pipe's last packet, offered and not yet ACKed | 5 | R307 | 0: DESIGN CHOICE (log entry 1) -/
  evOffered : Nat := 0
  /-- data toggle of the event pipe | 1 | R307 | 0: DESIGN CHOICE (log entry 1) -/
  evToggle : Bool := false
  /-- toggle of the response pipe's next packet | 1 | R352 | DATA0: DESIGN CHOICE (log entry 1) -/
  respToggle : Bool := false
  /-- microframe timer locked | 1 | R58, R292 | 0 (R292) -/
  sofLocked : Bool := false
  /-- consecutive SOFs in tolerance | 3 | R58 | DESIGN CHOICE 0 (log entry 1) -/
  sofGood : Nat := 0
  /-- SOF_TIME of the correlation block, ns | 64 | R292 | 0 (R292) -/
  sofTime : Nat := 0
  /-- instant of the last SOF, by the time that has passed | 64 | R58, R292 | 0: DESIGN CHOICE (log entry 1) -/
  sofAt : Nat := 0
  /-- FRAME of the correlation block | 11 | R292 | 0 (R292) -/
  frame : Nat := 0
  /-- UFRAME of the correlation block | 3 | R292 | 0 (R292) -/
  uframe : Nat := 0
  /-- spacings of the last SOFs, newest first, ps; PERIOD is their mean | 1,024 × 32 | R292 | empty: PERIOD 0 (R292) -/
  sofSpacing : List Nat := []
  /-- the last answer on the upstream's bus | — | R42, R53, R105 | none: DESIGN CHOICE (log entry 1) -/
  ans : Ans := .none
  /-- port that most recently left reset and is still in the default state, by port number 1–41 | 6 | R45, R102 | 0: DESIGN CHOICE (log entry 1) -/
  defaultPort : Nat := 0
  deriving DecidableEq, Repr

/-- One endpoint direction of a proxied device (R69, R110, R113). -/
structure Ep where
  addr : Nat := 0
  kind : Nat := 0
  mps : Nat := 64
  interval : Nat := 1
  /-- the interface the endpoint belongs to; 255 for endpoint 0 -/
  iface : Nat := 255
  /-- buffers of R69 -/
  bufs : Nat := 0
  /-- host-domain toggle: expected OUT toggle, or toggle of the next IN packet -/
  hostTog : Bool := false
  /-- wire-domain toggle -/
  wireTog : Bool := false
  /-- held packets, oldest first -/
  held : List (List Byte) := []
  /-- IN: the endpoint is drawn (R113) -/
  drawn : Bool := false
  /-- STALL to the host until the halt is cleared (R70, R111) -/
  halted : Bool := false
  /-- IN interrupt: intervals left since the host's last poll (R113) -/
  pollLeft : Nat := 0
  /-- OUT at HS: the device answered NYET, so a PING precedes the next packet (R113) -/
  ping : Bool := false
  /-- seals of the Sieve on this endpoint: channel, alive reference, bytes of the transfer so far (R335–R337) -/
  seals : List (Nat × Option Nat × List Byte) := []
  deriving DecidableEq, Repr

/-- The held packets are discarded: the seals on the endpoint are re-armed (R111, R337). -/
def Ep.discard (e : Ep) : Ep := { e with held := [], drawn := false, seals := [] }

/-- The control transfer of endpoint 0 through the proxy (R110, R112): the host's side, and the side on the device's wire,
which can outlive it. -/
structure Ctrl where
  /-- a transfer is in progress on the host side -/
  active : Bool := false
  /-- the eight setup bytes of the host's transfer -/
  setup : List Byte := []
  /-- the request is forwarded to the device (R105) -/
  forwarded : Bool := false
  /-- packets of the IN data stage that the host has not ACKed, oldest first -/
  dataIn : List (List Byte) := []
  /-- the device's status stage has completed, or the proxy answers by itself -/
  statusReady : Bool := false
  /-- the device answered STALL -/
  stall : Bool := false
  /-- toggle of the host's next data packet of endpoint 0, either way: DATA1 after the SETUP (R110) -/
  hostTog : Bool := true
  /-- a SETUP was ACKed while the port could not serve it, and is taken up when it can (R112, R115, R116) -/
  later : Bool := false
  /-- setup bytes of the transfer on the wire; none where none runs there -/
  wire : List Byte := []
  /-- toggle of the packet on the wire or of the next one: DATA0 for the SETUP, DATA1 after it (R110) -/
  wireTog : Bool := false
  /-- bytes moved in the data stage on the wire -/
  moved : Nat := 0
  /-- a packet of endpoint 0 is on the wire and the device has not answered -/
  onWire : Bool := false
  /-- the device's data stage is over: its status stage runs -/
  inStatus : Bool := false
  /-- OUT data packets accepted from the host and not yet sent to the device, oldest first (R112) -/
  dataOut : List (List Byte) := []
  /-- the transfer on the wire has lost its host side (R108, R112, R117) -/
  wireOnly : Bool := false
  /-- such a transfer ends with the packet on the wire (R108, R112); otherwise it runs through its status stage (R117) -/
  cut : Bool := false
  /-- a SETUP waits for that transfer to end (R112) -/
  next : List Byte := []
  deriving DecidableEq, Repr

/-- The host-facing proxy of a translated port or of a virtual port. -/
structure Proxy where
  /-- endpoint directions with their buffers and toggles | — | R69, R110 | none: unconfigured (R111) -/
  eps : List Ep := []
  /-- the control transfer | — | R112 | idle: DESIGN CHOICE (log entry 1) -/
  ctrl : Ctrl := {}
  /-- the reset-absorption window is open | 1 | R107 | closed (R107) -/
  winOpen : Bool := false
  /-- a virtual reset is being shown | 1 | R108 | 0: DESIGN CHOICE (log entry 1) -/
  vreset : Bool := false
  /-- a real reset is being shown until the refill completes | 1 | R109 | 0: DESIGN CHOICE (log entry 1) -/
  realReset : Bool := false
  /-- PORT_ENABLE in the owner's view | 1 | R108, R510 | 0: DESIGN CHOICE (log entry 1) -/
  viewEn : Bool := false
  /-- disabled in the owner's view by ClearPortFeature(PORT_ENABLE) until its next reset | 1 | R510 | 0: DESIGN CHOICE (log entry 1) -/
  viewDis : Bool := false
  /-- endpoints that a takeover clears on the wire, one after another | — | R237 | none: DESIGN CHOICE (log entry 1) -/
  clears : List Nat := []
  /-- Stop_TT stopped the packets of a virtual port's proxy | 1 | R56, R57 | 0: DESIGN CHOICE (log entry 1) -/
  stopped : Bool := false
  /-- DEVICE_REMOTE_WAKEUP set by the host | 1 | R115 | 0: DESIGN CHOICE (log entry 1) -/
  wakeup : Bool := false
  /-- alternate setting selected for each of 32 interfaces | 32 × 8 | R101 | 0: DESIGN CHOICE (log entry 1) -/
  alts : List Nat := List.replicate 32 0
  deriving DecidableEq, Repr

/-- One identity map entry (R101), with the alternate settings kept in `Proxy.alts`. -/
structure Ident where
  /-- MODE | 2 | R101 | no BDI, BALANCED: TRANSPARENT on ports 1–8, TRANSLATED on ports 9–32 (R445) -/
  mode : Mode := .transparent
  /-- EFF_MODE | 2 | R101 | 0b00 (R101) -/
  eff : Mode := .transparent
  /-- STATE | 4 | R101 | 0 VACANT (R101) -/
  st : Life := .vacant
  /-- OWNER | 3 | R101 | BDI; upstream A with no BDI (R503) -/
  owner : Owner := .upA
  /-- HOME_UP | 1 | R101 | BDI; A with no BDI (R503) -/
  home : Up := .a
  /-- FALLBACK | 4 | R101 | 0 (R101) -/
  fallback : Nat := 0
  /-- HOST_ADDR | 7 | R101 | 0 (R101) -/
  hostAddr : Nat := 0
  /-- WIRE_ADDR | 7 | R101 | 0 (R101) -/
  wireAddr : Nat := 0
  /-- HOST_CONFIG | 8 | R101 | 0 (R101) -/
  hostCfg : Nat := 0
  /-- LEND_NODE | 8 | R101 | 0 (R101) -/
  lendNode : Nat := 0
  /-- LEND_VPORT | 6 | R101 | 0 (R101) -/
  lendVport : Nat := 0
  /-- LEND_UP | 1 | R101 | 0 (R101) -/
  lendUp : Up := .a
  /-- SPEED | 2 | R101 | 0b11 none (R101) -/
  speed : Speed := .none
  /-- CACHE_LEN | 16 | R101 | 0 (R101) -/
  cacheLen : Nat := 0
  /-- GENERATION | 16 | R101 | 0 (R101) -/
  generation : BitVec 16 := 0
  /-- CACHE_CRC | 32 | R101 | 0 (R101) -/
  cacheCrc : BitVec 32 := 0
  deriving DecidableEq, Repr

/-- The cache fill or refill in progress on a port (R103, R115). -/
structure Fill where
  /-- a refill, not the first fill -/
  refill : Bool := false
  /-- the refill belongs to a host's real reset (R109) -/
  real : Bool := false
  /-- the command whose completion the refill is (PORT_RESET, PORT_REFILL), by wait number; 0 none -/
  wait : Nat := 0
  /-- 1 wire reset, 3 device descriptor, 4 SET_ADDRESS, 5 configurations (R103), 8 replay (R115) -/
  step : Nat := 1
  /-- configuration index of step 5, or position of the replay list -/
  index : Nat := 0
  /-- step 5 reads the whole configuration, its first nine bytes being known -/
  whole : Bool := false
  /-- attempts made at the present request -/
  tries : Nat := 0
  /-- setup bytes of the present request -/
  req : List Byte := []
  /-- instant from which tFILL runs -/
  start : Nat := 0
  /-- device descriptor read -/
  device : List Byte := []
  /-- configuration descriptors read so far -/
  configs : List (List Byte) := []
  /-- STATE to return to on the same identity -/
  back : Life := .presented
  deriving DecidableEq, Repr

/-- A drain in progress (R116, R120, R125). -/
structure Drain where
  /-- wait number of the command, 0 none -/
  wait : Nat := 0
  /-- what follows: 0 move to `newOwner`, 1 lend, 2 recall or release, 3 handed to the partner -/
  what : Nat := 0
  newOwner : Owner := .parked
  /-- HOME_UP follows the new owner (R367) -/
  setHome : Bool := false
  back : Life := .presented
  node : Nat := 0
  up : Up := .a
  vport : Nat := 0
  /-- this half has drained, or the other half has: what the drain still waits for is the other (R121, R125) -/
  ready : Bool := false
  deriving DecidableEq, Repr

/-- A running resume of a port (R83, R86). -/
structure Resume where
  /-- LINK of R86: state left, 0 SUSPENDED, 1 SLEEPING, 2 bus-suspended ENABLED, 3 U3 -/
  left : Nat := 0
  /-- the host owned it -/
  host : Bool := false
  /-- the port's owner at the owning instant (R86) -/
  owner : Owner := .upA
  /-- instant at which the DPE began to drive K (R83 step 1) -/
  kAt : Nat := 0
  /-- the time of R83 step 2 passed while the port followed its upstream's K -/
  kOver : Bool := false
  /-- owning instant, by the time passed -/
  start : Nat := 0
  /-- TIME at the owning instant, as the detector latched it (R86, R298) -/
  stamp : Nat := 0
  /-- the merged happening: DELTA in ns -/
  delta : Option Int := none
  /-- ends at the upstream's EOP (R83 step 3) -/
  follows : Bool := false
  deriving DecidableEq, Repr

/-- One non-periodic TT buffer (R53). -/
structure TtBuf where
  /-- buffer number | 4 | R56 -/
  slot : Nat := 0
  /-- place in the order in which the owning upstream's splits were received (R52) -/
  seq : Nat := 0
  addr : Nat := 0
  ep : Nat := 0
  isIn : Bool := false
  /-- the start split carried SETUP -/
  setup : Bool := false
  /-- toggle of the OUT data -/
  toggle : Bool := false
  /-- setup or OUT data to send -/
  data : List Byte := []
  /-- the result, once the FS/LS transaction is finished -/
  res : Option TtRes := none
  deriving DecidableEq, Repr

/-- One accepted periodic start split (R54). -/
structure TtPer where
  addr : Nat := 0
  ep : Nat := 0
  isIn : Bool := false
  /-- toggle of the OUT data -/
  toggle : Bool := false
  data : List Byte := []
  /-- it lies beyond the limits of R54 and is not executed -/
  dropped : Bool := false
  res : Option TtRes := none
  /-- microframes since its start split -/
  age : Nat := 0
  deriving DecidableEq, Repr

/-- The transaction that a TT runs on its FS/LS bus (R53, R54). -/
structure TtRun where
  periodic : Bool := false
  addr : Nat := 0
  ep : Nat := 0
  isIn : Bool := false
  deriving DecidableEq, Repr

/-- A transaction translator (R52–R57). -/
structure Tt where
  /-- non-periodic buffers in use, in order received | 16 max | R53 | none: DESIGN CHOICE (log entry 1) -/
  np : List TtBuf := []
  /-- periodic start splits and results, in order received | — | R54 | empty: DESIGN CHOICE (log entry 1) -/
  per : List TtPer := []
  /-- transaction on the FS/LS bus | — | R53, R54 | none: DESIGN CHOICE (log entry 1) -/
  run : Option TtRun := none
  /-- answers of a translated port's proxy to start splits, given at their complete splits, by endpoint address | — | R113 | none: DESIGN CHOICE (log entry 1) -/
  pxAns : List (Nat × Ans) := []
  /-- stopped by Stop_TT | 1 | R56 | 0: DESIGN CHOICE (log entry 1) -/
  stopped : Bool := false
  /-- FS frame number last sent | 11 | R56, R59 | 0: DESIGN CHOICE (log entry 1) -/
  frame : Nat := 0
  /-- FS data bytes of periodic splits accepted in this microframe | 16 | R54 | 0: DESIGN CHOICE (log entry 1) -/
  ufBytes : Nat := 0
  /-- periodic splits accepted in this microframe | 8 | R54 | 0: DESIGN CHOICE (log entry 1) -/
  ufSplits : Nat := 0
  /-- FS data bytes of periodic splits accepted in this frame | 16 | R54 | 0: DESIGN CHOICE (log entry 1) -/
  frBytes : Nat := 0
  deriving DecidableEq, Repr

/-- A SuperSpeed port engine of ports 1–8 (R92–R96). -/
structure Spe where
  /-- PORT_LINK_STATE | 4 | R92 | SS.Disabled, the port's power being off (R92) -/
  st : Link := .ssDisabled
  /-- consecutive Polling failures | 4 | R92 | 0 (R92) -/
  fails : Nat := 0
  /-- no Polling.LFPS timeout since power on, so the next enters Compliance | 1 | R92 | 1 (R92) -/
  firstLfps : Bool := true
  /-- PORT_U1_TIMEOUT | 8 | R94 | DESIGN CHOICE 0 (log entry 1) -/
  u1To : Nat := 0
  /-- PORT_U2_TIMEOUT | 8 | R94 | DESIGN CHOICE 0 (log entry 1) -/
  u2To : Nat := 0
  /-- link error count, saturating | 16 | R95 | DESIGN CHOICE 0 (log entry 1) -/
  errs : Nat := 0
  /-- a warm reset is driven | 1 | R92, R93 | 0: DESIGN CHOICE (log entry 1) -/
  warm : Bool := false
  /-- the change of state in progress was requested by the host | 1 | R92 | 0: DESIGN CHOICE (log entry 1) -/
  byHost : Bool := false
  /-- the U3 exit in progress | — | R96 | none: DESIGN CHOICE (log entry 1) -/
  exit : Option Resume := none
  /-- packets held toward the host: four header-packet buffers and 16 KiB of data | 4 | R51 | empty: DESIGN CHOICE (log entry 1) -/
  upBuf : List (List Byte) := []
  /-- last packet forwarded to the device | — | R51 | empty: DESIGN CHOICE (log entry 1) -/
  fwd : List Byte := []
  /-- packets held toward the device: four header-packet buffers and 16 KiB of data | 4 | R51 | empty: DESIGN CHOICE (log entry 1) -/
  downBuf : List (List Byte) := []
  /-- the link trained at Gen 2 | 1 | R51, R92 | 0: DESIGN CHOICE (log entry 1) -/
  gen2 : Bool := false
  /-- data packet stored whole before it was sent at Gen 1 | — | R51 | empty: DESIGN CHOICE (log entry 1) -/
  whole : List Byte := []
  deriving DecidableEq, Repr

/-- One half of a lend's tunnel (R122, R274, R275). -/
structure Tunnel where
  /-- the other node of the lend | 8 | R274 | 0: no lend -/
  node : Nat := 0
  /-- borrowing upstream | 1 | R274 | A: DESIGN CHOICE (log entry 1) -/
  up : Up := .a
  /-- virtual port 34–41, 0 when no lend stands | 6 | R274 | 0: no lend -/
  vport : Nat := 0
  /-- TSEQ of the next frame sent | 16 | R122 | 0: DESIGN CHOICE (log entry 1) -/
  txSeq : BitVec 16 := 0
  /-- last TSEQ accepted | 16 | R122 | 0xFFFF: DESIGN CHOICE (log entry 1) -/
  rxSeq : BitVec 16 := 0xFFFF
  /-- frames sent and not acknowledged: (TSEQ, TOP, EP with DIR in bit 7, payload) | — | R122 | empty -/
  held : List (BitVec 16 × Nat × Nat × List Byte) := []
  /-- total of buffers granted by the other half, by endpoint address | 16 each | R122, R274 | empty -/
  credit : List (Nat × Nat) := []
  /-- credits used, by endpoint address | 16 each | R122 | empty -/
  used : List (Nat × Nat) := []
  /-- frames accepted and not yet acknowledged: (endpoint, TSEQ), oldest first | — | R122 | empty -/
  rxPend : List (Nat × BitVec 16) := []
  /-- wait number of a LEND that awaits OPEN_DONE, 0 none | — | R121 | 0 -/
  openWait : Nat := 0
  /-- this half has sent RESYNC and awaits the other's | 1 | R275 | 0 -/
  resync : Bool := false
  /-- totals granted to the other half, by endpoint address | — | R122, R274 | empty -/
  granted : List (Nat × Nat) := []
  /-- OPEN payload collected so far (borrower) | — | R121, R274 | empty -/
  openBuf : List Byte := []
  /-- ID of this node that the lend was made under | 8 | R266, R274 | 0: no lend -/
  own : Nat := 0
  /-- a route joins the two nodes | 1 | R124 | 1: DESIGN CHOICE (log entry 1) -/
  route : Bool := true
  deriving DecidableEq, Repr

/-- One physical downstream port: its DPE, identity map entry, cache, proxy and TT. -/
structure Port where
  /-- style | 2 | R11, R503 | C with no BDI (R503) -/
  style : Style := .c
  /-- BDI setting CHARGE | 2 | R76 | AUTO (R76) -/
  charge : Charge := .auto
  /-- charging port in force: SDP, DCP or CDP, kept while a device is attached | 2 | R76, R77 | SDP: style C (R76) -/
  chargeNow : Nat := 0
  /-- VDM_SRC driven on Pn_DM | 1 | R77 | 0: DESIGN CHOICE (log entry 1) -/
  vdmSrc : Bool := false
  /-- DPE state | 4 | R71 | UNPOWERED (R71) -/
  dpe : Dpe := .unpowered
  /-- bus-suspended mark | 1 | R71, R79 | 0: DESIGN CHOICE (log entry 1) -/
  busSusp : Bool := false
  /-- BESL sent to the device | 4 | R80, R82 | 0: DESIGN CHOICE (log entry 1) -/
  besl : Nat := 0
  /-- running resume | — | R83 | none -/
  resume : Option Resume := none
  /-- chirp of the reset in progress: 0 none, 1 accepted, 2 device chirp ended and K-J sent, 3 ignored | 2 | R74 | 0: DESIGN CHOICE (log entry 1) -/
  chirp : Nat := 0
  /-- CONNECTION and ENABLE as before the test | 2 | R90 | 0: DESIGN CHOICE (log entry 1) -/
  testView : Bool × Bool := (false, false)
  /-- address learned for routing on a transparent port | 7 | R46 | 0 (R46) -/
  addr : Nat := 0
  /-- address of a SET_ADDRESS seen whose status stage has not completed | 7 | R46 | 0: DESIGN CHOICE (log entry 1) -/
  addrSeen : Nat := 0
  /-- the port's power request | 1 | R43 | 1 (R43: on at chip reset) -/
  powerReq : Bool := true
  /-- identity map entry | 128 | R101 | as Ident -/
  id : Ident := {}
  /-- MODE was set by the BDI or by MODE_SET, so the profile does not set it | 1 | R97, R445 | 0: neither has set it (R445) -/
  modeSet : Bool := false
  /-- descriptor bytes held in the DESC region (R104 without its header) | 4,080 | R104 | empty (R104) -/
  cache : List Byte := []
  /-- NUM_CONFIGS | 8 | R104 | 0 (R104) -/
  numCfgs : Nat := 0
  /-- the cache may be used | 1 | R106 | 0 (R104) -/
  cacheOk : Bool := false
  /-- descriptors of the device that is proxied, by which its endpoints are known after its DESC region is gone | — | R69, R98 | empty: DESIGN CHOICE (log entry 1) -/
  known : List Byte := []
  /-- configurations among them | 8 | R69, R98 | 0: DESIGN CHOICE (log entry 1) -/
  knownCfgs : Nat := 0
  /-- fill or refill in progress | — | R103, R115 | none -/
  fill : Option Fill := none
  /-- drain in progress | — | R116 | none -/
  drain : Option Drain := none
  /-- the fill or refill in progress ends in PARKED (an upstream bus reset came during it) | 1 | R118 | 0: DESIGN CHOICE (log entry 1) -/
  parkNext : Bool := false
  /-- a PORT_RESET by command runs: the owner sees a disconnect | 1 | R368 | 0: DESIGN CHOICE (log entry 1) -/
  cmdReset : Bool := false
  /-- suspend request waiting for the proxy to empty | 1 | R78 | 0: DESIGN CHOICE (log entry 1) -/
  suspWait : Bool := false
  /-- proxy | — | R110 | as Proxy -/
  px : Proxy := {}
  /-- BESL of the owner's last LPM token that put this device into L1 since it was PRESENTED | 4 | R446 | none: DESIGN CHOICE (log entry 1) -/
  ownerL1 : Option Nat := none
  /-- the device is in L1 on the proxy's account | 1 | R446 | 0: DESIGN CHOICE (log entry 1) -/
  pxL1 : Bool := false
  /-- PORT_REFILL that waits for the resume of such a device: its wait number | — | R446 | none -/
  refillNext : Option Nat := none
  /-- proxy discard counter | 32 | R111, R411 | 0: DESIGN CHOICE (log entry 1) -/
  discards : Nat := 0
  /-- frame number of the port's own SOF stream | 11 | R60 | 0: DESIGN CHOICE (log entry 1) -/
  frame : BitVec 11 := 0
  /-- the port has had a connection, so its frame number counts | 1 | R60 | 0 (R60) -/
  sofOn : Bool := false
  /-- the port was parked before its lend | 1 | R124 | 0: DESIGN CHOICE (log entry 1) -/
  wasParked : Bool := false
  /-- the owner before its lend | 3 | R120, R129 | upstream A: DESIGN CHOICE (log entry 1) -/
  lentFrom : Owner := .upA
  /-- bytes discarded when it was lent | 32 | R129 | 0: DESIGN CHOICE (log entry 1) -/
  lentDisc : Nat := 0
  /-- device-facing half of a lend | — | R122 | none -/
  tun : Tunnel := {}
  /-- transaction translator | — | R52 | as Tt -/
  tt : Tt := {}
  /-- what the wire carried last | — | R45, R113 | idle: DESIGN CHOICE (log entry 1) -/
  wire : Wire := .idle
  deriving DecidableEq, Repr

/-- One virtual port 34–41 of an upstream: the host-facing half of a lend. -/
structure VPort where
  /-- reserved or in use by a lend | 1 | R120, R121 | 0: no lend -/
  used : Bool := false
  /-- presented to the upstream | 1 | R121, R126 | 0: no lend -/
  shown : Bool := false
  /-- hidden while the upstream is at FS | 1 | R127 | 0: no lend -/
  hidden : Bool := false
  /-- physical port number on the lending node, from the identity entry's wire address | 6 | R11, R121 | 0: no lend -/
  homePort : Nat := 0
  /-- identity entry received | 128 | R121 | as Ident -/
  id : Ident := {}
  /-- cache received | 4,080 | R121 | empty -/
  cache : List Byte := []
  /-- NUM_CONFIGS received | 8 | R121 | 0 -/
  numCfgs : Nat := 0
  /-- host-facing proxy | — | R122 | as Proxy -/
  px : Proxy := {}
  /-- suspended through the lender | 1 | R42, R78 | 0: DESIGN CHOICE (log entry 1) -/
  susp : Bool := false
  /-- a PORT_SUSPEND awaits the lender's result | 1 | R78 | 0: DESIGN CHOICE (log entry 1) -/
  suspWait : Bool := false
  /-- drain for a release | — | R125 | none -/
  drain : Option Drain := none
  /-- host-facing half of the tunnel | — | R122 | none -/
  tun : Tunnel := {}
  deriving DecidableEq, Repr

/-- One effective region of the buffer plan (R62, R63). -/
structure Region where
  kind : Nat := 0
  owner : Nat := 0
  ownerUp : Nat := 0
  first : Nat := 16
  pages : Nat := 0
  deriving DecidableEq, Repr

/-- The built-in plan's regions of port p (R67). -/
def builtinPort (p : Nat) : List Region :=
  [{ kind := 1, owner := p, first := 16 + 7 * (p - 1), pages := 1 },
   { kind := 2, owner := p, first := 17 + 7 * (p - 1), pages := 1 },
   { kind := 3, owner := p, first := 18 + 7 * (p - 1), pages := 4 },
   { kind := 4, owner := p, first := 22 + 7 * (p - 1), pages := 1 }]

/-- The built-in plan (R67), in the order of first pages. -/
def builtinPlan : List Region :=
  ((List.range 32).map (fun p => builtinPort (p + 1))).flatten
    ++ (List.range 8).map (fun v => ({ kind := 5, owner := 34 + v, ownerUp := 1, first := 240 + 4 * v, pages := 4 } : Region))
    ++ (List.range 8).map (fun v => ({ kind := 5, owner := 34 + v, ownerUp := 2, first := 272 + 4 * v, pages := 4 } : Region))
    ++ [{ kind := 6, owner := 0, first := 304, pages := 64 }]

/-- The endpoint store's plan (R61–R70). -/
structure Plan where
  /-- effective regions of one or more pages, in the order of first pages | ≤ 128 entries | R64 | the built-in plan (R67) -/
  regions : List Region := builtinPlan
  /-- plan waiting for its changing regions to drain, with its command's wait number and CLAMPED | — | R68 | none -/
  next : Option (List Region × Nat × Bool) := none
  /-- single-bit errors corrected in the endpoint store, saturating | 32 | R70, R411 | 0: DESIGN CHOICE (log entry 1) -/
  eccSingle : Nat := 0
  /-- uncorrectable errors in the endpoint store, saturating | 32 | R70, R411 | 0: DESIGN CHOICE (log entry 1) -/
  eccDouble : Nat := 0
  deriving DecidableEq, Repr

end Sys2Proof.Machine
end

