-- ==== Sys2Proof/Machine/PairState.lean ====
section
/-!
DEFINITION. Machine/PairState.lean: the takeover unit of a paired chip (chapter 08).
A field's docstring reads: meaning | width | rule | reset.
-/

namespace Sys2Proof.Machine

/-- Ownership states in the order of R246. -/
inductive PairSt where
  | boot | waitPrimary | syncing | standby | claiming | deferring | partnerReset | active | handingOver | faulted
  deriving DecidableEq, Repr

/-- The pair settings block (R245). -/
structure PairSet where
  /-- PREFER_PRIMARY | 1 | R245 | 1 (R245) -/
  prefer : Bool := true
  /-- MIRROR_GRAN is TRANSFER, if written | 1 | R245, R443 | none: by profile (R245) -/
  gran : Option Bool := none
  /-- BOOT_WAIT, 10 ms units | 8 | R245 | 50 (R245) -/
  bootWait : Nat := 50
  /-- HANDOVER_WAIT, ms | 8 | R245 | 10 (R245) -/
  handoverWait : Nat := 10
  /-- PAIR_WIRE: bit p − 1 set for a MUXED port | 32 | R245 | 0 (R245) -/
  wire : Nat := 0
  deriving DecidableEq, Repr

/-- A handover that waits for its quiet point or runs (R240). -/
structure Hand where
  /-- asked for by rejoin (R242) -/
  rejoin : Bool := false
  /-- wait numbers of HANDOVER and CHIP_RESET commands merged into it (R385) -/
  waits : List Nat := []
  deriving DecidableEq, Repr

/-- The takeover unit. -/
structure Pair where
  /-- STATE | 4 | R246 | 0 PAIR_BOOT (R246) -/
  st : PairSt := .boot
  /-- PARTNER_STATE, 0xF unknown | 4 | R246 | 0xF (R246) -/
  partner : Nat := 15
  /-- settings block | 64 | R245 | as PairSet -/
  set : PairSet := {}
  /-- a PAIR_WIRE change of ports in RESETTING or RESUMING that waits | 32 | R384 | none -/
  wireNext : Option Nat := none
  /-- LADLE_UP | 1 | R246 | 0 (R246) -/
  ladle : Bool := false
  /-- HB_OK | 1 | R246 | 0 (R246) -/
  hbOk : Bool := false
  /-- instant of the last valid HB_IN edge, ns | 64 | R234 | 0: DESIGN CHOICE (log entry 1) -/
  hbAt : Nat := 0
  /-- HB_OUT runs | 1 | R229 | 0 (R233) -/
  hbOut : Bool := false
  /-- liveness words arrive | 1 | R230 | 0: DESIGN CHOICE (log entry 1) -/
  live : Bool := false
  /-- liveness sequence received last | 16 | R254 | 0: DESIGN CHOICE (log entry 1) -/
  liveRx : Nat := 0
  /-- liveness sequence sent next | 16 | R254 | 0: DESIGN CHOICE (log entry 1) -/
  liveTx : BitVec 16 := 0
  /-- TKO_IN level | 1 | R246 | 0: the pin's level is the partner's (DESIGN CHOICE, log entry 3) -/
  tkoIn : Bool := false
  /-- TKO_OUT level | 1 | R246 | 0 (R246) -/
  tkoOut : Bool := false
  /-- GPIO15 driven low: the partner reset pulse | 1 | R220, R232 | 0: DESIGN CHOICE (log entry 1) -/
  resetOut : Bool := false
  /-- instant at which the last reset pulse began, ns | 64 | R232 | 0: DESIGN CHOICE (log entry 1) -/
  resetAt : Nat := 0
  /-- reset pulses sent in this contest | 2 | R235 | 0: DESIGN CHOICE (log entry 1) -/
  resets : Nat := 0
  /-- the partner is declared lost and has not been seen since | 1 | R230, R242 | 0: DESIGN CHOICE (log entry 1) -/
  lost : Bool := false
  /-- the claim in progress follows a handover frame, with its cause 3 or 4 | 3 | R240 | none -/
  byHand : Option Nat := none
  /-- instant of the handover frame, ns | 64 | R246 | 0: DESIGN CHOICE (log entry 1) -/
  handAt : Nat := 0
  /-- the PSX answers | 1 | R234 | 0: DESIGN CHOICE (log entry 1) -/
  psx : Bool := false
  /-- gates kept after a release | 1 | R240 | 0: DESIGN CHOICE (log entry 1) -/
  gates : Bool := false
  /-- DEGRADE_CAUSE of a degradation recorded, 0 none | 8 | R246 | 0 (R246) -/
  cause : Nat := 0
  /-- SYNCED | 1 | R246 | 0 (R246) -/
  synced : Bool := false
  /-- a full sync has been requested and is not complete | 1 | R228, R277 | 0: DESIGN CHOICE (log entry 1) -/
  syncReq : Bool := false
  /-- end of tREJOIN, ns, while it runs | 64 | R242, R246 | none (R246 REJOIN_LEFT 0) -/
  rejoin : Option Nat := none
  /-- tREJOIN has run out since the latest insertion | 1 | R242 | 0: DESIGN CHOICE (log entry 1) -/
  rejoinDone : Bool := false
  /-- REJOIN_HELD raised since the latest insertion | 1 | R242 | 0: DESIGN CHOICE (log entry 1) -/
  held : Bool := false
  /-- handover that waits for its quiet point, or runs | — | R240 | none -/
  hand : Option Hand := none
  /-- a rejoin handover completed BUSY and is tried again | 1 | R242 | 0: DESIGN CHOICE (log entry 1) -/
  retry : Bool := false
  /-- TAKEOVERS, saturating | 16 | R246 | 0 (R246) -/
  takeovers : Nat := 0
  /-- LAST_DURATION, ns | 32 | R246 | 0 (R246) -/
  lastDur : Nat := 0
  /-- DIGEST_MISMATCHES, saturating | 32 | R246 | 0 (R246) -/
  digests : Nat := 0
  /-- ports that lost something in the takeover in progress | 32 | R247 | 0: DESIGN CHOICE (log entry 1) -/
  partial_ : Nat := 0
  /-- last event sequence number received from the partner | 16 | R247 | 0: DESIGN CHOICE (log entry 1) -/
  partnerSeq : Nat := 0
  /-- compatibility level of the partner, from TS words | 8 | R242, R252 | 0: DESIGN CHOICE (log entry 1) -/
  partnerCl : Nat := 0
  /-- end of the 300 ms of the partner's firmware restart, ns, while it runs | 64 | R385, R407 | none -/
  partnerFw : Option Nat := none
  /-- UID of the primary, once seen by the secondary | 64 | R268 | none -/
  primaryUid : Option Nat := none
  /-- hub serial of the primary, kept in retention | 64 × 8 | R239 | none -/
  primarySerial : Option (List Byte) := none
  /-- usable links of the partner chip, for the node's one LSA | — | R226, R268 | none -/
  partnerLinks : List LsaLink := []
  /-- mirror entries staged for the Ladle and not yet taken by the standby, oldest first | — | R226, R228 | none -/
  staged : List MirrorItem := []
  /-- slow-state items sent to the partner last | — | R226, R241 | none -/
  sent : List SlowItem := []
  /-- slow state as the partner has been told it last | — | R226 | none: DESIGN CHOICE (log entry 63) -/
  told : List SlowItem := []
  /-- line states and tunnel numbers as the mirror has carried them last | — | R226 | none: DESIGN CHOICE (log entry 63) -/
  toldMirror : List MirrorItem := []
  /-- loss detection of R230 is suspended after a wake of the pair | 1 | R422 | 0: DESIGN CHOICE (log entry 1) -/
  detectOff : Bool := false
  deriving DecidableEq, Repr

end Sys2Proof.Machine
end

