-- ==== Sys2Proof/Machine/PdState.lean ====
section
/-!
DEFINITION. Machine/PdState.lean: the CC layer, protocol layer and policy engine of a PDE (chapter 05).
A field's docstring reads: meaning | width | rule | reset.
-/

namespace Sys2Proof.Machine

/-- CC layer states: those of R134 and, for the upstreams, of R138; `idle` where the style has no CC use (R130). -/
inductive Cc where
  | idle
  | unattachedSrc | attachWaitSrc | attachWaitCool | attachedSrc | tripped | powerOff | errorRecovery
  | deadBattery | unattachedSnk | attachWaitSnk | trySrc | tryWaitSnk | trySnk | tryWaitSrc | attachedSnk
  deriving DecidableEq, Repr

/-- Policy states of R150, and the sink's two of R373. -/
inductive Pe where
  | startup | sendCaps | discovery | negotiate | capResponse | waitNewCaps | transition | ready | eprEntry
  | hardReset | toDefault | disabled | snkContract | snkNone | stopped
  deriving DecidableEq, Repr

/-- Timers of the PDEs whose end is a command of its own. -/
inductive PdTimer where
  | sinkTx | vconnStable | discoverIdentity | typeCSendSourceCap | senderResponse | srcTransition | srcSettle
  | psHardReset | safe0V | srcRecover | noResponse | enterEpr | eprKeepAlive | ppsTimeout
  | psSourceOff | psSourceOn | swapSourceStart | frsSignal | frSwapWait
  | chunkSenderResponse | chunkSenderRequest | hardResetComplete
  deriving DecidableEq, Repr

/-- Messages a PDE sends (R145–R155). Data objects have the layout of the USB PD standard (log entry 22). -/
inductive PdMsg where
  | sourceCaps (epr : Bool) (pdos : List Nat)
  | request (rdo : Nat)
  | sinkCaps (pdos : List Nat)
  | accept | reject | wait | psRdy | softReset | prSwap | getSinkCap | notSupported
  | eprMode (action reason : Nat)
  | eprKeepAliveAck
  | sourceCapsExt (bs : List Byte)
  | status (bs : List Byte)
  | ppsStatus (bs : List Byte)
  | sourceInfo (sido : Nat)
  | revision (rmdo : Nat)
  | alert (ado : Nat)
  | discoverIdentity
  | chunkRequest (chunk : Nat)
  deriving DecidableEq, Repr

/-- What a cable's Discover Identity answer says (R148). -/
structure Cable where
  amps5 : Bool
  /-- maximum voltage, mV -/
  maxMv : Nat
  /-- EPR Mode Capable and 50 V -/
  epr : Bool
  rev : Nat
  deriving DecidableEq, Repr

/-- An explicit contract (R149, R159). -/
structure Contract where
  rdo : Nat := 0
  pdo : Nat := 0
  /-- 0 fixed, 1 PPS, 2 AVS -/
  kind : Nat := 0
  /-- contract voltage, mV -/
  mv : Nat := 5000
  /-- maximum operating current of a fixed PDO, operating current otherwise, mA -/
  ma : Nat := 0
  mismatch : Bool := false
  /-- EPR Mode Capable was set in the request -/
  eprCap : Bool := false
  deriving DecidableEq, Repr

/-- The PD settings block (R375). -/
structure PdSet where
  /-- PD_VMAX, V | 8 | R375 | 48; 20 on UA and UB (R375) -/
  vmax : Nat := 48
  /-- PD_IMAX, 0.1 A | 8 | R375 | 50; 30 on UA and UB (R375) -/
  imax : Nat := 50
  /-- PD_PPS | 1 | R375 | 1 (R375) -/
  pps : Bool := true
  /-- PD_EPR | 1 | R375 | 1; reads 0 on UA and UB (R375) -/
  epr : Bool := true
  /-- UP_TRY: 0 NONE, 1 TRY_SRC, 2 TRY_SNK | 2 | R375 | 1 (R375) -/
  upTry : Nat := 1
  /-- UP_PRSWAP | 1 | R375 | 1 (R375) -/
  upPrSwap : Bool := true
  /-- UP_RETURN_SOURCE | 1 | R375 | 1 (R375) -/
  upReturn : Bool := true
  /-- UP_FRS | 1 | R375 | 1 (R375) -/
  upFrs : Bool := true
  /-- UP_SNK_VMAX, V | 8 | R375 | 20 (R375) -/
  snkVmax : Nat := 20
  /-- UP_SNK_IMAX, 0.1 A | 8 | R375 | 30 (R375) -/
  snkImax : Nat := 30
  /-- UP_SNK_PMIN, W | 8 | R375 | 15 (R375) -/
  snkPmin : Nat := 15
  deriving DecidableEq, Repr

/-- A role swap in progress on an upstream (R160–R162). -/
structure Swap where
  /-- FR_Swap; otherwise PR_Swap -/
  fast : Bool := false
  /-- the chip was the source when it started -/
  fromSource : Bool := false
  /-- steps done: 0 started here, 1 accepted here or FR_Swap awaited, 2 the GoodCRC of Accept, 3 the new source's VBUS or
  the PDE's PS_RDY on its way, 4 the PDE's PS_RDY acknowledged -/
  stage : Nat := 0
  /-- instant of the early warning that started an FR_Swap, ns (R161) -/
  at_ : Nat := 0
  deriving DecidableEq, Repr

/-- One PDE: ports 1–32, UA (33) and UB (34). -/
structure Pde where
  /-- CC_USE: 0 NONE, 1 TYPEC, 2 DRP | 2 | R130, R375 | TYPEC on style C, DRP on UA and UB (R130) -/
  ccUse : Nat := 1
  /-- CC layer state | 4 | R134, R138 | UNATTACHED_SRC (R134); UNATTACHED_SNK on UA and UB (R138, R139) -/
  cc : Cc := .unattachedSrc
  /-- CC2 is the CC line | 1 | R135 | 0 (R163) -/
  cc2 : Bool := false
  /-- a sink's band of Rp: 0 vRd-USB, 1 vRd-1.5, 2 vRd-3.0 | 2 | R132, R159 | 0: DESIGN CHOICE (log entry 1) -/
  srcRp : Nat := 0
  /-- the VCONN wire showed Ra at attach | 1 | R136 | 0: DESIGN CHOICE (log entry 1) -/
  ra : Bool := false
  /-- VCONN applied | 1 | R136, R373 | 0 (R373) -/
  vconn : Bool := false
  /-- the VCONN switch opened on over-current since attach | 1 | R137 | 0: DESIGN CHOICE (log entry 1) -/
  vconnOc : Bool := false
  /-- the CC line reads Open, tPDDebounce running | 1 | R134 | 0: DESIGN CHOICE (log entry 1) -/
  ccOpen : Bool := false
  /-- an accessory was reported since the last detach | 1 | R135 | 0: DESIGN CHOICE (log entry 1) -/
  accTold : Bool := false
  /-- Rp at SinkTxNG | 1 | R142, R373 | 0 (R373) -/
  ng : Bool := false
  /-- policy state | 4 | R150, R373 | stopped: DESIGN CHOICE (log entry 1) -/
  pe : Pe := .stopped
  /-- timers that run | — | R133, R140, R151, R160, R161 | none: DESIGN CHOICE (log entry 1) -/
  timers : List PdTimer := []
  /-- message sent and not yet acknowledged by GoodCRC | — | R141 | none: DESIGN CHOICE (log entry 1) -/
  tx : Option PdMsg := none
  /-- messages ordered and not yet sent | — | R141 | none: DESIGN CHOICE (log entry 1) -/
  txNext : List PdMsg := []
  /-- retries made of the message sent | 2 | R141 | 0: DESIGN CHOICE (log entry 1) -/
  retries : Nat := 0
  /-- the second chunk of EPR_Source_Capabilities is being sent | 1 | R141 | 0: DESIGN CHOICE (log entry 1) -/
  chunk2 : Bool := false
  /-- Specification Revision in the header of the message sent: 0 1.0, 1 2.0, 2 3.x | 2 | R143, R144 | 2 (R143) -/
  txHdr : Nat := 2
  /-- next chunk of an extended message being received | 4 | R141 | none: DESIGN CHOICE (log entry 1) -/
  rxChunk : Option Nat := none
  /-- MessageIDCounter of SOP | 3 | R141 | 0 (R141 resets it) -/
  txId : Nat := 0
  /-- MessageIDCounter of SOP′ | 3 | R141 | 0 (R141 resets it) -/
  txIdP : Nat := 0
  /-- stored MessageID of SOP, if any | 3 | R141 | none (R141 clears it) -/
  rxId : Option Nat := none
  /-- stored MessageID of SOP′, if any | 3 | R141 | none (R141 clears it) -/
  rxIdP : Option Nat := none
  /-- MessageID of the GoodCRC sent last | 3 | R141 | none: DESIGN CHOICE (log entry 1) -/
  goodCrc : Option Nat := none
  /-- the partner has sent a PD message since attach | 1 | R157 | 0: DESIGN CHOICE (log entry 1) -/
  talked : Bool := false
  /-- revision in effect for SOP: 0 1.0, 1 2.0, 2 3.x | 2 | R143, R163 | none yet (R163) -/
  rev : Option Nat := none
  /-- revision in effect for SOP′ | 2 | R143 | none yet: DESIGN CHOICE (log entry 1) -/
  revP : Option Nat := none
  /-- CapsCounter | 8 | R150, R373 | 0 (R373) -/
  capsN : Nat := 0
  /-- HardResetCounter | 8 | R150, R373 | 0 (R373) -/
  hardN : Nat := 0
  /-- Discover Identity attempts since attach | 5 | R148 | 0: DESIGN CHOICE (log entry 1) -/
  discN : Nat := 0
  /-- Discover Identity from PE_SRC_Ready: 0 none, 1 due, 2 sent and its answer awaited | 2 | R142, R148 | 0: DESIGN CHOICE (log entry 1) -/
  disc : Nat := 0
  /-- the cable's answer since attach | — | R148 | none (R163 CABLE 0) -/
  cable : Option Cable := none
  /-- capabilities last sent since attach, objects in position order | ≤ 11 × 32 | R146, R374 | none (R374) -/
  caps : List Nat := []
  /-- explicit contract in force | — | R149, R163 | none (R163) -/
  contract : Option Contract := none
  /-- request being evaluated or carried out: (RDO, PDO) of the last one | 2 × 32 | R163 | 0 (R163) -/
  lastReq : Nat × Nat := (0, 0)
  /-- contract voltage the PPC must reach before PS_RDY; sink: the contract asked for | — | R150, R159 | none -/
  pend : Option Contract := none
  /-- the Accept to the sink's own request has come | 1 | R159 | 0: DESIGN CHOICE (log entry 1) -/
  accepted : Bool := false
  /-- a Soft_Reset was sent and its Accept is awaited | 1 | R155 | 0: DESIGN CHOICE (log entry 1) -/
  soft : Bool := false
  /-- instant of the GoodCRC of Accept, ns | 64 | R184 | 0: DESIGN CHOICE (log entry 1) -/
  accAt : Nat := 0
  /-- EPR mode in effect | 1 | R152, R163 | 0 (R163) -/
  epr : Bool := false
  /-- Capability Mismatch of the last request | 1 | R149, R163 | 0 (R163) -/
  mismatch : Bool := false
  /-- capabilities changed and not yet sent | 1 | R154 | 0: DESIGN CHOICE (log entry 1) -/
  readv : Bool := false
  /-- a lower revision dropped PDOs: the capabilities of that revision follow | 1 | R144 | 0: DESIGN CHOICE (log entry 1) -/
  fallback : Bool := false
  /-- PD_ACTION that waits for the end of an AMS | 3 | R376 | none: DESIGN CHOICE (log entry 1) -/
  action : Option Nat := none
  /-- Get_Sink_Cap is due after a contract | 1 | R161 | 0: DESIGN CHOICE (log entry 1) -/
  snkDue : Bool := false
  /-- partner's Source_Capabilities | 7 × 32 | R374 | none (R374) -/
  srcCaps : List Nat := []
  /-- partner's Sink_Capabilities | 7 × 32 | R374 | none (R374) -/
  snkCaps : List Nat := []
  /-- FRS armed | 1 | R161, R373 | 0 (R373) -/
  frs : Bool := false
  /-- role swap in progress | — | R160 | none -/
  swap : Option Swap := none
  /-- attached as source: the role a failed PR_Swap returns to | 1 | R162 | 0: DESIGN CHOICE (log entry 1) -/
  attachSrc : Bool := false
  /-- OCP event flag of Status | 1 | R147 | 0: DESIGN CHOICE (log entry 1) -/
  ocp : Bool := false
  /-- OTP event flag of Status | 1 | R147 | 0: DESIGN CHOICE (log entry 1) -/
  otp : Bool := false
  /-- BIST mode being performed: 5 Carrier Mode, 8 Test Data, 0 none | 4 | R145 | 0: DESIGN CHOICE (log entry 1) -/
  bist : Nat := 0
  /-- VBUS_HELD raised for the discharge in progress | 1 | R151, R187 | 0: DESIGN CHOICE (log entry 1) -/
  heldTold : Bool := false
  /-- PD settings block | 64 | R375 | as PdSet -/
  set : PdSet := {}
  deriving DecidableEq, Repr

end Sys2Proof.Machine
end

