-- ==== Sys2Proof/Machine/TimeState.lean ====
section
/-!
DEFINITION. Machine/TimeState.lean: the state of the time and event unit (chapter 10).
A field's docstring reads: meaning | width | rule | reset.
-/

namespace Sys2Proof.Machine

/-- SYNC_STATE of R286. -/
inductive Sync where
  | freeRun | acquiring | locked | holdover
  deriving DecidableEq, Repr

/-- An exchange of TIME words in progress at a child (R288). -/
structure Exchange where
  seq : Nat := 0
  /-- 1 REQ sent, 2 RESP received, 3 RXSTAMP received, 4 HIGH received -/
  stage : Nat := 0
  t1 : Nat := 0
  t2lo : Nat := 0
  t3lo : Nat := 0
  t3hi : Nat := 0
  t4 : Nat := 0
  deriving DecidableEq, Repr

/-- The time counter, its settings and its servo. -/
structure TimeUnit where
  /-- TIME, whole ns in bits 95:32 and the fraction in bits 31:0 | 96 | R283 | 0 (R283) -/
  count : BitVec 96 := 0
  /-- rate-word correction added to 4 ns on each TIME clock, units of 2⁻³² ns, signed | 34 | R283 | 0 (R283 nominal) -/
  rateAdj : Int := 0
  /-- TIME_SRC is PPS | 1 | R285 | 0 (R285) -/
  srcPps : Bool := false
  /-- TSYNC_OUT_EN | 1 | R285 | 1 (R285) -/
  outEn : Bool := true
  /-- STEP_EN | 1 | R285 | 1 (R285) -/
  stepEn : Bool := true
  /-- PPS_WIDTH, ms | 8 | R285 | 100 (R285) -/
  ppsWidth : Nat := 100
  /-- LINK_ASYM of L0–L3, signed ns | 4 × 8 | R285 | 0 (R285) -/
  asym : List Int := [0, 0, 0, 0]
  /-- PPS_DELAY, ns | 16 | R285 | 0 (R285) -/
  ppsDelay : Nat := 0
  /-- SYNC_STATE | 3 | R286 | 0 FREE_RUN (R286) -/
  sync : Sync := .freeRun
  /-- IS_ROOT | 1 | R286 | 0 (R286) -/
  isRoot : Bool := false
  /-- PARENT_LINK | 2 | R286 | 0 (R286) -/
  parent : Nat := 0
  /-- a parent link exists | 1 | R287 | 0: DESIGN CHOICE (log entry 1) -/
  hasParent : Bool := false
  /-- PPS_LOCKED | 1 | R286 | 0 (R286) -/
  ppsLocked : Bool := false
  /-- ROOT | 8 | R286 | 0 (R286) -/
  root : Nat := 0
  /-- STRATUM | 8 | R286 | 0 (R286) -/
  stratum : Nat := 0
  /-- OFFSET, signed ns | 32 | R286 | 0 (R286) -/
  offset : Int := 0
  /-- PATH_DELAY, ns | 32 | R286 | 0 (R286) -/
  pathDelay : Int := 0
  /-- STEPS, saturating | 16 | R286 | 0 (R286) -/
  steps : Nat := 0
  /-- sum of the steps since reset, ns | 64 | R287 | 0 (R286: no step yet) -/
  jump : Int := 0
  /-- consecutive exchanges with |θ| ≤ 20 ns | 5 | R287 | 0: DESIGN CHOICE (log entry 1) -/
  good : Nat := 0
  /-- consecutive exchanges with |θ| > 1 µs in LOCKED | 3 | R287 | 0: DESIGN CHOICE (log entry 1) -/
  bad : Nat := 0
  /-- integral term of the servo, units of 2⁻³² ns | 34 | R287 | 0: DESIGN CHOICE (log entry 1) -/
  integral : Int := 0
  /-- exchange in progress | — | R288 | none -/
  ex : Exchange := {}
  /-- last TSYNC_IN edge, ns, if any; a step of TIME moves it too | 64 | R290 | none: DESIGN CHOICE (log entry 1) -/
  lastEdge : Option Int := none
  /-- consecutive accepted edges | 3 | R290 | 0: DESIGN CHOICE (log entry 1) -/
  edges : Nat := 0
  /-- TSYNC_OUT pin | 1 | R291 | 0 (R291) -/
  out : Bool := false
  /-- NEW_TIME armed for the next accepted edge, with the wait number of its command | 64 | R394 | none -/
  epoch : Option (Nat × Nat) := none
  /-- instant from which SYNC_STATE reads HOLDOVER | 64 | R287 | 0: DESIGN CHOICE (log entry 1), read only in HOLDOVER -/
  heldAt : Nat := 0
  deriving DecidableEq, Repr

/-- An event record before QSEQ and CRC are written (R293). -/
structure EvRec where
  time : Nat
  source : Nat
  node : Nat
  severity : Nat
  cls : Nat
  code : Nat
  data : BitVec 96
  qseq : BitVec 16 := 0
  /-- counts as an IRQ record (R305, R306) -/
  irq : Bool := false
  /-- route byte with which it was captured or arrived (R301, R392, R393) -/
  rb : Nat := 0
  /-- received from another node (R309, R319) -/
  remote : Bool := false
  /-- raised by the partner chip (R226, R319) -/
  partner : Bool := false
  /-- stored in the fabric-forward queue while FAB_DEST was 0: it is never sent (R309) -/
  quiet : Bool := false
  deriving DecidableEq, Repr

/-- A coalescing entry (R305). -/
structure Coal where
  source : Nat
  /-- kind CAPTURE; otherwise QUEUE -/
  capture : Bool
  count : Nat
  first : Nat
  last : Nat
  lastCode : Nat
  severity : Nat
  deriving DecidableEq, Repr

/-- One of the four queues, or the coalescing side of the journal writer (R302, R305, R314). -/
structure Queue where
  /-- records held, oldest first | 1,024 | R302 | empty: DEPTH 0 (R302) -/
  recs : List EvRec := []
  /-- records at the front that have been sent (fabric-forward queue) | 11 | R309 | 0: DESIGN CHOICE (log entry 1) -/
  sent : Nat := 0
  /-- records at the front that a fetch has returned and that are not yet freed | 11 | R390 | 0: DESIGN CHOICE (log entry 1) -/
  fetched : Nat := 0
  /-- NEXT_SEQ | 16 | R302 | 0 (R302) -/
  next : BitVec 16 := 0
  /-- open coalescing entries | 64 | R302, R305 | none: OPEN 0 (R302) -/
  coal : List Coal := []
  /-- OVERFLOWING | 1 | R302 | 0 (R302) -/
  overflowing : Bool := false
  /-- LOST, saturating | 16 | R302 | 0 (R302) -/
  lost : Nat := 0
  /-- losses not yet reported by a LOST record | 32 | R305 | 0: DESIGN CHOICE (log entry 1) -/
  lostNew : Nat := 0
  /-- the LOST count is marked as an IRQ count | 1 | R305 | 0: DESIGN CHOICE (log entry 1) -/
  lostIrq : Bool := false
  deriving DecidableEq, Repr

/-- The event side of the TEU. -/
structure EventUnit where
  /-- route bytes written by the BDI or by command: (source, byte); others have the default of R301 | 448 × 6 | R301 | defaults (R301) -/
  routes : List (Nat × Nat) := []
  /-- FAB_DEST | 8 | R303 | 0 (R303) -/
  fabDest : Nat := 0
  /-- COLLECT | 1 | R303 | 0 (R303) -/
  collect : Bool := false
  /-- REMOTE_ROUTE | 5 | R303 | 0b00100 (R303) -/
  remoteRoute : Nat := 4
  /-- FAB_WAIT, 10 µs units | 8 | R303 | 10 (R303) -/
  fabWait : Nat := 10
  /-- MERGE_HOLD, 10 µs units | 8 | R303 | 10 (R303) -/
  mergeHold : Nat := 10
  /-- capture stage, in key order | 64 | R299 | empty: DESIGN CHOICE (log entry 1) -/
  capture : List EvRec := []
  /-- upstream A queue | 1,024 | R302 | as Queue -/
  qa : Queue := {}
  /-- upstream B queue | 1,024 | R302 | as Queue -/
  qb : Queue := {}
  /-- sideband queue | 1,024 | R302 | as Queue -/
  qsb : Queue := {}
  /-- fabric-forward queue | 1,024 | R302, R309 | as Queue -/
  qfab : Queue := {}
  /-- journal writer buffer, with coalescing entries of its own | 256 | R320 | empty: DESIGN CHOICE (log entry 1) -/
  qj : Queue := {}
  /-- remote records held for MERGE_HOLD, in key order | — | R309 | empty: DESIGN CHOICE (log entry 1) -/
  merge : List EvRec := []
  /-- first-record sequence number expected from each sender | 240 × 16 | R309, R263 | none seen -/
  senders : List (Nat × Nat) := []
  /-- missing ranges being read from senders: node, fabric tag of the fetch, first, count | — | R309 | none -/
  gaps : List (Nat × Nat × Nat × Nat) := []
  /-- last record that passed to the queues: its key tells whether a remote record comes too late | — | R309 | none: DESIGN CHOICE (log entry 1) -/
  lastOut : Option EvRec := none
  deriving DecidableEq, Repr

end Sys2Proof.Machine
end

