-- ==== Sys2Proof/Machine/SystemState.lean ====
section
/-!
DEFINITION. Machine/SystemState.lean: power states, straps, clocks, firmware and compatibility levels.
A field's docstring reads: meaning | width | rule | reset.
-/

namespace Sys2Proof.Machine

/-- Chip power states (R413). -/
inductive PState where
  | active | trim | doze | hibernate | deadFeed | off
  deriving DecidableEq, Repr

/-- Operating profiles (R443). -/
inductive Profile where
  | balanced | guarded | throughput | economy
  deriving DecidableEq, Repr

/-- The power settings block (R416), from the BDI; built-in defaults with none (R438). -/
structure PowerSet where
  /-- TRIM_EN of the BDI, if it gives one | 1 | R416 | none: by profile (R443) -/
  trimEn : Option Bool := none
  /-- DOZE_EN | 1 | R416 | 1 (R416) -/
  dozeEn : Bool := true
  /-- HIB_EN | 1 | R416 | 0 (R416) -/
  hibEn : Bool := false
  /-- DOZE_FABRIC is SLEEP | 1 | R416 | 0 KEEP (R416) -/
  dozeSleep : Bool := false
  /-- CC_WAKE | 1 | R416 | 1 (R416) -/
  ccWake : Bool := true
  /-- FEED_WAKE | 1 | R416 | 1 (R416) -/
  feedWake : Bool := true
  /-- TSYNC_WAKE | 1 | R416 | 0 (R416) -/
  tsyncWake : Bool := false
  /-- DOZE_DELAY, 10 ms units | 8 | R416 | 10 (R416) -/
  dozeDelay : Nat := 10
  /-- HIB_DELAY, minutes | 8 | R416 | 10 (R416) -/
  hibDelay : Nat := 10
  /-- GPIO_WAKE | 16 | R416 | 0 (R416) -/
  gpioWake : Nat := 0
  /-- AON_WAKE, minutes, 0 off | 16 | R416 | 0 (R416) -/
  aonWake : Nat := 0
  deriving DecidableEq, Repr

/-- Why every domain but AON, or the whole chip, is held in reset (R414, R429, R469, R473, R492). -/
inductive Held where
  /-- it is not -/
  | no
  /-- RESET_N is low -/
  | resetN
  /-- REGEN rails are awaited after RESET_N or POWER_UP -/
  | rails
  /-- a rail left its window -/
  | railOut
  /-- thermal shutdown -/
  | hot
  deriving DecidableEq, Repr

/-- The tuning block of one adaptive PHY (R412); a link's TX_DEEMPH is its TX_EMPH (R280). -/
structure PhyTune where
  /-- RX_EQ, dB | 4 | R412 | 8 (R412) -/
  rxEq : Nat := 8
  /-- RX_ADAPT | 1 | R412 | 1 (R412) -/
  rxAdapt : Bool := true
  /-- TX_DEEMPH of a SuperSpeed PHY | 4 | R412 | 6 (R412) -/
  deemph : Nat := 6
  /-- TX_PRESHOOT of a SuperSpeed PHY | 4 | R412 | 2 (R412) -/
  preshoot : Nat := 2
  /-- RX_EQ_EFF, dB | 4 | R412 | 8: DESIGN CHOICE (log entry 36) -/
  useEq : Nat := 8
  /-- TX_DEEMPH_EFF | 4 | R412 | 6, 4 for a link: DESIGN CHOICE (log entry 36) -/
  useDe : Nat := 6
  /-- TX_PRESHOOT_EFF | 4 | R412 | 2, 0 for a link: DESIGN CHOICE (log entry 36) -/
  useSh : Nat := 2
  /-- RX_HELD | 1 | R412 | 0 (R412) -/
  rxHeld : Bool := false
  /-- TX_HELD | 1 | R412 | 0 (R412) -/
  txHeld : Bool := false
  deriving DecidableEq, Repr

/-- A restart of the internal firmware in progress (R358, R407, R436). -/
structure FwRestart where
  /-- instant it started, ns -/
  at_ : Nat
  /-- 1 command, 2 watchdog, 3 update -/
  cause : Nat
  /-- bank it started from -/
  oldBank : Bool
  /-- the bank started was just activated -/
  activated : Bool
  deriving DecidableEq, Repr

/-- The power state controller and the chip-wide state. -/
structure Sys where
  /-- STRAP[1:0] as latched | 2 | R17, R474 | 0b00 single: the pins' level is the board's (DESIGN CHOICE, log entry 3) -/
  role : Nat := 0
  /-- STRAP[3:2] as latched | 2 | R353, R474 | 0b00: the pins' level is the board's (DESIGN CHOICE, log entry 3) -/
  addr : Nat := 0
  /-- instant of the last reset, ns | 64 | R319 | 0 (R283: TIME is 0 at the release of RESET_N) -/
  resetAt : Nat := 0
  /-- power state | 3 | R413 | ACTIVE (R435) -/
  pstate : PState := .active
  /-- compatibility level in effect | 8 | R6 | 1 (R6: stepping A1 implements CL1) -/
  cl : Nat := 1
  /-- operating profile | 2 | R443 | BALANCED (R443) -/
  profile : Profile := .balanced
  /-- firmware bank in use: true is B | 1 | R353 | A (R436) -/
  bankB : Bool := false
  /-- internal firmware runs and is not restarting (BOOT_STATUS bit 1) | 1 | R353, R358 | 0 (R353) -/
  fwUp : Bool := false
  /-- restart, or first start, of the firmware that has not recorded DONE | — | R358, R407 | none: DESIGN CHOICE (log entry 1) -/
  fw : Option FwRestart := none
  /-- neither bank passes: the ROM runs | 1 | R437 | 0: DESIGN CHOICE (log entry 1) -/
  romOnly : Bool := false
  /-- FW_RESTARTS, saturating | 16 | R363 | 0 (R363) -/
  fwRestarts : Nat := 0
  /-- restart that waits for the commands in execution to finish: the bank to start, its cause | — | R358, R407 | none -/
  fwNext : Option (Bool × Nat) := none
  /-- VERIFIED of banks A and B | 2 | R405 | 0 (R405) -/
  verified : Bool × Bool := (false, false)
  /-- BOOT_STAGE | 8 | R353 | 0 ROM (R353) -/
  bootStage : Nat := 0
  /-- BOOT_STATUS bit 0, boot done | 1 | R353 | 0 (R353) -/
  bootDone : Bool := false
  /-- BOOT_STATUS bit 5, self-test failed | 1 | R353 | 0 (R353) -/
  selfTestFailed : Bool := false
  /-- configuration image in use, if one is applied (BOOT_STATUS bits 3 and 4) | 2 | R353, R506 | none: bits 0 (R353) -/
  image : Option Nat := none
  /-- CL of the BDI applied, 0 none | 8 | R403, R501 | 0: no BDI -/
  clBdi : Nat := 0
  /-- CL_PINNED, 0 none | 8 | R362, R403 | 0 (R362) -/
  clPinned : Nat := 0
  /-- PAIR_ROLE of the BDI | 2 | R21, R504 | 0 (R504) -/
  pairRole : Nat := 0
  /-- CHIP_RESET stored its response and resets at this instant, ns | 64 | R364 | none -/
  resetDue : Option Nat := none
  /-- power settings block | 64 | R416 | as PowerSet -/
  power : PowerSet := {}
  /-- REGEN ball | 1 | R423 | high (R469 step 3: RESET_N is released with every rail valid) -/
  regen : Bool := true
  /-- PGOOD ball | 1 | R423 | high (R423) -/
  pgood : Bool := true
  /-- what holds the domains in reset | — | R429, R473 | none -/
  held : Held := .no
  /-- rails out of their windows, by the numbers of R297 | 7 | R429 | none: DESIGN CHOICE (log entry 3) -/
  railsOut : List Nat := []
  /-- a wake sequence runs | 1 | R425, R426 | 0: DESIGN CHOICE (log entry 1) -/
  waking : Bool := false
  /-- REGEN attempts made in this sequence | 2 | R427 | 0: DESIGN CHOICE (log entry 1) -/
  attempts : Nat := 0
  /-- first rail that failed in this sequence | 8 | R427 | none -/
  failRail : Option Nat := none
  /-- TIME at entry to HIBERNATE, ns | 64 | R284 | 0: DESIGN CHOICE (log entry 1) -/
  hibAt : Nat := 0
  /-- retention banks written at the last entry | 16 | R431 | none (R414: discarded at reset) -/
  banks : List Nat := []
  /-- failed banks that wait for the partner's copy, with the wake being from HIBERNATE | — | R432 | none -/
  bankWait : List (Nat × Bool) := []
  /-- RETENTION_FAILS, saturating | 32 | R411 | 0 (R411) -/
  retFails : Nat := 0
  /-- MRAM_CORRECTED, saturating | 32 | R411 | 0 (R411) -/
  mramCorr : Nat := 0
  /-- AON event buffer, in TIME order | 16 | R421, R427 | empty: DESIGN CHOICE (log entry 1) -/
  aonBuf : List EvRec := []
  /-- records counted past the AON buffer | 32 | R421 | 0: DESIGN CHOICE (log entry 1) -/
  aonLost : Nat := 0
  /-- the crystal runs | 1 | R428 | 1: DESIGN CHOICE (log entry 3) -/
  xtal : Bool := true
  /-- FREF is there | 1 | R428 | 1: DESIGN CHOICE (log entry 3) -/
  fref : Bool := true
  /-- the dead-feed regulator runs | 1 | R439 | 0: DESIGN CHOICE (log entry 3) -/
  deadReg : Bool := false
  /-- levels of GPIO0–GPIO15 | 16 | R423, R424 | 0: the pins' level is the board's (DESIGN CHOICE, log entry 3) -/
  gpio : Nat := 0
  /-- tuning blocks of the SuperSpeed PHYs of ports 1–8, UA, UB and of L0–L3 | 14 × 64 | R412 | as PhyTune -/
  phys : List PhyTune := (List.replicate 10 {} : List PhyTune) ++ (List.replicate 4 { useDe := 4, useSh := 0 } : List PhyTune)
  /-- idVendor of the BDI, 0 none | 16 | R34, R502 | 0: no BDI (R67, R507) -/
  vid : Nat := 0
  /-- idProduct of the USB 2.0 hub from the BDI, 0 none | 16 | R34, R502 | 0: no BDI -/
  pid : Nat := 0
  /-- idProduct of the SuperSpeed hub from the BDI, 0 none | 16 | R34, R502 | 0: no BDI -/
  ssPid : Nat := 0
  /-- hub serial string from the BDI, UTF-16LE, empty none | 64 × 8 | R40, R502 | empty: no BDI -/
  serial : List Byte := []
  /-- die temperature of ADC 0, 0.1 °C | 16 signed | R363, R492 | 0: DESIGN CHOICE (log entry 1) -/
  dieTemp : Int := 0
  /-- die temperature of ADC 2, 0.1 °C | 16 signed | R190, R492 | 0: DESIGN CHOICE (log entry 1) -/
  dieTemp2 : Int := 0
  /-- VCONN0–VCONN3, mV | 4 × 16 | R136, R190 | 0: DESIGN CHOICE (log entry 1) -/
  vconnMv : List Nat := [0, 0, 0, 0]
  /-- last samples of the 15 references | 15 × 12 | R190 | 0: DESIGN CHOICE (log entry 1) -/
  refs : List Nat := List.replicate 15 0
  /-- 0 normal, 1 thermal warning, 2 thermal shutdown | 2 | R147, R492 | 0: DESIGN CHOICE (log entry 1) -/
  thermal : Nat := 0
  /-- PROXY_L1 of the BDI's profile block, ms, if it gives one | 8 | R444 | none: by profile (R444) -/
  proxyL1 : Option Nat := none
  /-- UP_U1 of the BDI's profile block, µs | 8 | R444 | none: by profile (R444) -/
  upU1 : Option Nat := none
  /-- UP_U2 of the BDI's profile block, 256 µs | 8 | R444 | none: by profile (R444) -/
  upU2 : Option Nat := none
  /-- METER_GAP of the BDI's profile block, s | 8 | R444 | none: by profile (R444) -/
  meterGap : Option Nat := none
  /-- clock fallback: islands run from the RC oscillator | 1 | R428 | 0 (R353) -/
  clockFallback : Bool := false
  /-- WAKE_FAIL | 1 | R427 | 0 (R353) -/
  wakeFail : Bool := false
  deriving DecidableEq, Repr

end Sys2Proof.Machine
end

