-- ==== Sys2Proof/Machine/State.lean ====
section
/-!
DEFINITION. Machine/State.lean: the whole block as plain data, the reasons a command can stop, and the state at reset.
-/

namespace Sys2Proof.Machine

/-- Why a command stops with a fault. The spec gives every command of this block an effect, or a status with no effect,
so no meaning raises a fault: the type is closed and has no constructor. -/
inductive Fault where
  deriving DecidableEq, Repr

/-- Why a command has no meaning. -/
inductive Refusal where
  /-- raised by the dispatcher for a command not modelled yet; safe: the model stops -/
  | notModelled (mnemonic : String)
  deriving DecidableEq, Repr

structure State where
  /-- time unit | — | R283 | as TimeUnit -/
  tu : TimeUnit := {}
  /-- event unit | — | R298 | as EventUnit -/
  ev : EventUnit := {}
  /-- command front-end | — | R339 | as CommandUnit -/
  cmd : CommandUnit := {}
  /-- fabric interface | — | R248 | as Fabric -/
  fab : Fabric := {}
  /-- power states, straps, firmware | — | R413 | as Sys -/
  sys : Sys := {}
  /-- upstream A | — | R9 | as Upstream -/
  upA : Upstream := {}
  /-- upstream B | — | R9 | as Upstream -/
  upB : Upstream := {}
  /-- physical ports 1–32 (index p − 1) | 32 | R9 | as Port; MODE TRANSLATED on ports 9–32 (R445) -/
  ports : List Port := (List.replicate 8 {} : List Port) ++
    (List.replicate 24 { id := { mode := .translated } } : List Port)
  /-- SuperSpeed port engines of ports 1–8 (index p − 1) | 8 | R92 | as Spe -/
  spes : List Spe := List.replicate 8 {}
  /-- virtual ports 34–41 of upstream A (index v − 34) | 8 | R9 | as VPort -/
  vpA : List VPort := List.replicate 8 {}
  /-- virtual ports 34–41 of upstream B (index v − 34) | 8 | R9 | as VPort -/
  vpB : List VPort := List.replicate 8 {}
  /-- buffer plan | — | R62 | as Plan -/
  plan : Plan := {}
  /-- PDEs of ports 1–32, UA, UB (index n − 1) | 34 | R130 | as Pde; UA and UB dual-role -/
  pdes : List Pde := (List.replicate 32 {} : List Pde) ++
    (List.replicate 2 { ccUse := 2, cc := .unattachedSnk, set := { vmax := 20, imax := 30, epr := false } } : List Pde)
  /-- PPCs of ports 1–32, UA, UB (index n − 1) | 34 | R167 | as Ppc -/
  ppcs : List Ppc := List.replicate 34 {}
  /-- converters 1–34 (index n − 1) | 34 | R168 | as Converter -/
  convs : List Converter := List.replicate 34 {}
  /-- PMBus segment PMA | — | R169 | as Segment -/
  segA : Segment := {}
  /-- PMBus segment PMB | — | R169 | as Segment -/
  segB : Segment := {}
  /-- feed A | — | R197 | as Feed -/
  feedA : Feed := {}
  /-- feed B | — | R197 | as Feed -/
  feedB : Feed := {}
  /-- budget arbiter | — | R204 | as Pba -/
  pba : Pba := {}
  /-- takeover unit | — | R245, R246 | as Pair -/
  pair : Pair := {}
  /-- the Crock and its writer | 4 MiB | R311 | as Crock -/
  crock : Crock := {}
  /-- host channels 0–7 of the Sieve | 8 | R333 | as SieveCh -/
  sieve : List SieveCh := List.replicate 8 {}
  /-- draws made of the free values (the model's own) | — | log entry 2 | DESIGN CHOICE 0 (log entry 2) -/
  freeIdx : Nat := 0
  /-- commands that wait, first in, first out (the model's own) | — | log entry 5 | empty -/
  pending : List Instr := []
  deriving DecidableEq, Repr

/-- The machine right after reset: every field at the value its docstring names. -/
def State.reset : State := {}

end Sys2Proof.Machine
end

