-- ==== Sys2Proof/Machine/Ops.lean ====
section
/-!
DEFINITION. Machine/Ops.lean: reading and changing the parts of the state, the time, free values, and the raising,
ordering, suppression and storing of event records (R283, R293–R309).
-/

namespace Sys2Proof

/-- Upstream numbers, 0 A and 1 B (R101). -/
def Up.code : Up → Nat
  | .a => 0 | .b => 1

/-- The other upstream. -/
def Up.other : Up → Up
  | .a => .b | .b => .a

/-- SPEED's number (R101). -/
def Speed.code : Speed → Nat
  | .hs => 0 | .fs => 1 | .ls => 2 | .none => 3

/-- PORT_LINK_STATE's number (R92). -/
def Link.code : Link → Nat
  | .u0 => 0 | .u1 => 1 | .u2 => 2 | .u3 => 3 | .ssDisabled => 4 | .rxDetect => 5 | .ssInactive => 6
  | .polling => 7 | .recovery => 8 | .hotReset => 9 | .compliance => 10 | .loopback => 11

end Sys2Proof

namespace Sys2Proof.Machine

/-- What a command answers. -/
abbrev Res := Host.Outcome State Fault Refusal

/-- The command is over and leaves the block in state `t`; the queue of commands that wait is not a command's to change
(log entry 5). -/
def leaves (s t : State) : Res := .next { t with pending := s.pending }

/-! ### Parts of the state -/

def State.up (s : State) : Up → Upstream
  | .a => s.upA
  | .b => s.upB

def State.modUp (s : State) (u : Up) (f : Upstream → Upstream) : State :=
  match u with
  | .a => { s with upA := f s.upA }
  | .b => { s with upB := f s.upB }

/-- Port p of 1–32 (R9). -/
def State.port (s : State) (p : Nat) : Port := s.ports.getD (p - 1) {}

/-- Port p changed; a number outside 1–32 names no port. -/
def State.modPort (s : State) (p : Nat) (f : Port → Port) : State :=
  if p = 0 then s else { s with ports := modAt s.ports (p - 1) f }

def State.spe (s : State) (p : Nat) : Spe := s.spes.getD (p - 1) {}

def State.modSpe (s : State) (p : Nat) (f : Spe → Spe) : State :=
  if p = 0 then s else { s with spes := modAt s.spes (p - 1) f }

/-- Virtual port v of 34–41 of an upstream. -/
def State.vport (s : State) (u : Up) (v : Nat) : VPort :=
  match u with
  | .a => s.vpA.getD (v - 34) {}
  | .b => s.vpB.getD (v - 34) {}

def State.modVPort (s : State) (u : Up) (v : Nat) (f : VPort → VPort) : State :=
  if v < 34 then s
  else match u with
    | .a => { s with vpA := modAt s.vpA (v - 34) f }
    | .b => { s with vpB := modAt s.vpB (v - 34) f }

def State.link (s : State) (l : Nat) : FabLink := s.fab.links.getD l {}

def State.modLink (s : State) (l : Nat) (f : FabLink → FabLink) : State :=
  { s with fab := { s.fab with links := modAt s.fab.links l f } }

/-- OWNER's number (R101). -/
def Owner.code : Owner → Nat
  | .upA => 0 | .upB => 1 | .lent => 2 | .parked => 3 | .mgmt => 4

def upOwner : Up → Owner
  | .a => .upA | .b => .upB

/-- STATE's number (R101). -/
def Life.code : Life → Nat
  | .vacant => 0 | .filling => 1 | .presented => 2 | .live => 3 | .draining => 4 | .parked => 5 | .refilling => 6

/-- DPE states in the order of R71 (R366). -/
def Dpe.code : Dpe → Nat
  | .unpowered => 0 | .disconnected => 1 | .disabled => 2 | .resetting => 3 | .enabled => 4 | .sleeping => 5
  | .suspended => 6 | .resuming => 7 | .testing => 8

def Profile.code : Profile → Nat
  | .balanced => 0 | .guarded => 1 | .throughput => 2 | .economy => 3

def Sync.code : Sync → Nat
  | .freeRun => 0 | .acquiring => 1 | .locked => 2 | .holdover => 3

/-- PSTATE's number (R319). OFF has none; the chip does not read it there. -/
def PState.code : PState → Nat
  | .active => 0 | .trim => 1 | .doze => 2 | .hibernate => 3 | .deadFeed => 4 | .off => 7

/-- TRIM_EN in effect (R416, R443). -/
def State.trimEn (s : State) : Bool :=
  s.sys.power.trimEn.getD (s.sys.profile == .balanced || s.sys.profile == .economy)

/-- Some PHY is trimmed (R415). -/
def State.trimmed (s : State) : Bool :=
  s.trimEn && (s.ports.any (fun q => q.dpe == .unpowered || q.dpe == .disconnected)
    || s.spes.any (fun q => q.st == .ssDisabled || q.st == .rxDetect)
    || s.fab.links.any (fun k => k.st == .disabled)
    || s.upA.link == .detached || s.upB.link == .detached)

/-- Code of an ownership state (R246). -/
def PairSt.code : PairSt → Nat
  | .boot => 0 | .waitPrimary => 1 | .syncing => 2 | .standby => 3 | .claiming => 4 | .deferring => 5
  | .partnerReset => 6 | .active => 7 | .handingOver => 8 | .faulted => 9

/-- The chip's strapped role makes it one of a pair (R17). -/
def State.isPair (s : State) : Bool := s.sys.role == 1 || s.sys.role == 2

/-- The chip owns the ports: it is single, or the ACTIVE chip of a pair (R224, R233). -/
def State.chipActive (s : State) : Bool :=
  !s.isPair || s.pair.st == .active || s.pair.st == .handingOver

/-- The chip's line drivers are enabled: TKO_OUT active and TKO_IN inactive (R29, R231); a single chip drives TKO_OUT from
the start of its port domains (R475). -/
def State.drives (s : State) : Bool := (!s.isPair || s.pair.tkoOut) && !s.pair.tkoIn

/-- The chip drives its gates: ACTIVE or HANDING_OVER, or keeping them after a release (R231, R240). -/
def State.drivesGates (s : State) : Bool := s.chipActive || s.pair.gates

/-- The hub, its PSX and the management processor run: not in reset, in DOZE or HIBERNATE, nor in DEAD-FEED before REGEN
(R413). -/
def State.awake (s : State) : Bool :=
  s.sys.held == .no && (match s.sys.pstate with
    | .active => true | .trim => true | .deadFeed => s.sys.regen | _ => false)

/-- The PSX answers hosts: while its domain runs (R413), not under the clock fallback (R428), and on a chip of a pair only
once it has taken the ports over (R224, R234 step 9). -/
def State.psxOn (s : State) : Bool := s.awake && !s.sys.clockFallback && (!s.isPair || s.pair.psx)

/-- A wake on the wire starts the chip's wake from DOZE; one that fires during a wake starts nothing new (R418, R424,
R425). -/
def wakeDoze (s : State) : State :=
  match s.sys.pstate with
  | .doze => { s with sys := { s.sys with waking := true } }
  | _ => s

/-- The SPE of a chip that does not own the ports sits behind the board's multiplexers and sees no link (R224). -/
def ifActive (s t : State) : State := if s.chipActive then t else s

/-- DEAD-FEED: no feed is healthy and the chip is supplied through an upstream sink path (R442). -/
def State.inDeadFeed (s : State) : Bool :=
  s.sys.pstate == .deadFeed
    || (s.sys.pstate == .active && s.feedA.st != .on && s.feedB.st != .on
        && ((s.ppcs.getD 32 {}).gsnk || (s.ppcs.getD 33 {}).gsnk))

/-- PSTATE as it reads: ACTIVE with a PHY trimmed is TRIM (R414, R442). -/
def State.pstateCode (s : State) : Nat :=
  if s.inDeadFeed then PState.code .deadFeed
  else if s.sys.pstate = .active ∧ s.trimmed = true then PState.code .trim else s.sys.pstate.code

/-! ### Time and free values -/

/-- TIME in whole ns (R283). -/
def State.now (s : State) : Nat := s.tu.count.toNat / 2 ^ 32

/-- The time that has passed, in ns: TIME without its steps (R283, R287); intervals are measured by it. -/
def State.ticks (s : State) : Nat := ((s.now : Int) - s.tu.jump).toNat

/-- A free value: the next draw, which nothing constrains (log entry 2). -/
def State.free (s : State) : Nat := Config.freeNat s.freeIdx

def State.drawn (s : State) : State := { s with freeIdx := s.freeIdx + 1 }

/-! ### PHY training (R212, R412, R490) -/

/-- The envelope of a setting of at most `top` on the channel as measured at a training: a free value (log entry 36). -/
def envOf (f top : Nat) : Nat × Nat :=
  let lo := f % (top + 1)
  (lo, lo + f / 16 % (top + 1 - lo))

/-- PHY n of 1–14 trains: each setting, and the equaliser as adapted, is used as it stands inside the measured envelope and
held at the nearest boundary outside it; the setting itself is kept (R212, R412). -/
def trainPhy (s : State) (n : Nat) : State :=
  let f := s.free
  let link := decide (11 ≤ n)
  let emph := s.fab.txEmph.getD (n - 11) 4
  let go (x : PhyTune) : PhyTune :=
    let want := if x.rxAdapt then f / 2 ^ 24 % 16 else x.rxEq
    let de := if link then emph else x.deemph
    let e := envOf f 15
    let d := envOf (f / 2 ^ 8) 12
    let h := envOf (f / 2 ^ 16) 8
    let useDe := clampTo d.1 d.2 de
    let useSh := if link then 0 else clampTo h.1 h.2 x.preshoot
    { x with useEq := clampTo e.1 e.2 want, useDe := useDe, useSh := useSh, rxHeld := clampTo e.1 e.2 want != want,
             txHeld := useDe != de || (!link && useSh != x.preshoot) }
  ({ s with sys := { s.sys with phys := modAt s.sys.phys (n - 1) go } } : State).drawn

/-! ### Event sources (R295, R297) -/

/-- CLASS of a source (R294–R297). A PD source of an upstream carries POWER for codes 0x1000 and above. -/
def evClass (src code : Nat) : Nat :=
  if src < 320 then
    match src % 10 with
    | 0 => 0 | 1 => 3 | 2 => 4 | 3 => 4 | 4 => 4 | 5 => 4 | 6 => 0 | 7 => 0 | 8 => 4 | _ => 0
  else if src < 352 then 1
  else if src < 376 then
    let k := (src - 352) % 12
    if k = 10 then 2 else if k < 6 then 2 else if code < 0x1000 then 3 else 4
  else if src = 383 then 7
  else if src < 408 then (if (src - 376) % 8 = 6 then 8 else 6)
  else if src < 420 then 5
  else
    match src with
    | 426 => 9 | 427 => 9 | 430 => 9 | 431 => 9 | 432 => 8 | 433 => 7 | 434 => 7 | 435 => 7
    | 436 => 4 | 437 => 4 | 438 => 10 | 440 => 4 | 441 => 4 | 444 => 8 | _ => 11

/-- SEVERITY of a PD code (R295). -/
def sevPd (code : Nat) : Nat :=
  if (5 ≤ code ∧ code ≤ 10) ∨ code = 14 ∨ code = 15 ∨ code = 0x12 ∨ code = 0x15 then 3 else 2

/-- SEVERITY of a port's source number k of ten (R194, R295). -/
def sevPort (k code : Nat) : Nat :=
  match k with
  | 0 => 1
  | 1 => sevPd code
  | 2 => if code = 2 then 2 else 4
  | 3 => if code = 2 then 2 else 4
  | 4 => if code = 2 then 2 else if code = 3 then 3 else 4
  | 5 => if code = 2 ∨ code = 9 then 2 else if 3 ≤ code ∧ code ≤ 7 then 4 else 3
  | 6 => if code = 5 then 2 else 1
  | 7 => 3
  | 8 => if code = 3 then 3 else 1
  | _ => if code = 6 ∨ code = 10 then 3 else 2

/-- SEVERITY of a record (R294–R297). A power-path code of an upstream, 0x1000 + k × 0x100 + code, has its port's. -/
def evSev (src code : Nat) : Nat :=
  if src < 320 then sevPort (src % 10) code
  else if src < 352 then
    match src % 4 with
    | 0 => 1 | 1 => 3 | 2 => if code = 5 then 2 else 1 | _ => 2
  else if src < 376 then
    match (src - 352) % 12 with
    | 0 => 2 | 1 => 1 | 2 => 1 | 3 => 2 | 4 => 1 | 5 => 3 | 10 => 3
    | _ => if code < 0x1000 then sevPd code else sevPort ((code - 0x1000) / 256) (code % 256)
  else if src = 383 then (if code = 2 ∨ code = 3 ∨ code = 4 ∨ code = 5 ∨ code = 7 then 3 else 2)
  else if src < 408 then
    match (src - 376) % 8 with
    | 0 => if code = 2 then 3 else 2
    | 1 => 3 | 2 => 1 | 3 => 3
    | 4 => if code = 4 ∨ code = 5 ∨ code = 7 then 3 else 2
    | 5 => if code = 2 then 3 else 1
    | 6 => if code = 2 ∨ code = 3 then 3 else 2
    | _ => 0
  else if src < 420 then
    match (src - 408) % 6 with
    | 0 => if code = 1 then 3 else 2
    | 1 => if code = 1 then 4 else 2
    | 2 => 1 | 3 => 3 | 4 => 4 | _ => 1
  else
    match src with
    | 420 => 3 | 421 => 5
    | 422 => if code = 2 ∨ code = 4 then 2 else 4
    | 423 => if code = 3 then 2 else 4
    | 424 => 3 | 425 => 5 | 426 => 4 | 427 => 3 | 428 => 2 | 429 => 4 | 430 => 4 | 431 => 3 | 432 => 3
    | 433 => 4 | 434 => 2 | 435 => 4 | 436 => 2 | 437 => 3 | 438 => 4
    | 439 => if code = 2 then 3 else 2
    | 440 => 4
    | 441 => if code = 2 then 3 else 4
    | 442 => 3 | 443 => 1
    | 444 => if code = 2 then 3 else 1
    | 445 => 2
    | 446 => if code = 2 then 4 else 2
    | _ => 1

/-- The highest SEVERITY of a source, which its default route byte follows; none for sources without one (R301). -/
def evSevMax (src : Nat) : Option Nat :=
  if src < 320 then
    match src % 10 with
    | 0 => some 1 | 1 => some 3 | 2 => some 4 | 3 => some 4 | 4 => some 4 | 5 => some 4 | 6 => some 2
    | 7 => some 3 | 8 => some 3 | _ => some 3
  else if src < 352 then
    match src % 4 with
    | 0 => some 1 | 1 => some 3 | _ => some 2
  else if src < 376 then
    match (src - 352) % 12 with
    | 0 => some 2 | 1 => some 1 | 2 => some 1 | 3 => some 2 | 4 => some 1 | 5 => some 3 | 10 => some 3
    | _ => some 4
  else if src < 408 then
    match (src - 376) % 8 with
    | 2 => some 1
    | 7 => if src = 383 then some 3 else none
    | _ => some 3
  else if src < 420 then
    match (src - 408) % 6 with
    | 1 => some 4 | 4 => some 4 | 0 => some 3 | 3 => some 3 | _ => some 1
  else if src < 448 then
    match src with
    | 420 => some 3 | 421 => some 5 | 425 => some 5 | 424 => some 3 | 427 => some 3 | 428 => some 2
    | 431 => some 3 | 432 => some 3 | 434 => some 2 | 436 => some 2 | 437 => some 3 | 439 => some 3
    | 442 => some 3 | 443 => some 1 | 444 => some 3 | 445 => some 2 | 447 => some 1 | _ => some 4
  else none

/-- Default route byte of a source (R301). -/
def defaultRoute (src : Nat) : Nat :=
  match evSevMax src with
  | none => 0
  | some v => if 4 ≤ v then 0x37 else if 3 ≤ v then 0x17 else if 1 ≤ v then 0x04 else 0

/-- The route byte in effect for a source (R301). -/
def State.route (s : State) (src : Nat) : Nat :=
  match s.ev.routes.find? (·.1 == src) with
  | some (_, b) => b
  | none => defaultRoute src

/-! ### Coalescing (R305) -/

/-- Adds a suppressed record to an open entry of its source and kind. -/
def coalAdd (r : EvRec) (capture : Bool) : List Coal → Option (List Coal)
  | [] => none
  | c :: cs =>
    if c.source = r.source ∧ c.capture = capture then
      some ({ c with count := min 65535 (c.count + 1), last := r.time, lastCode := r.code,
                     severity := max c.severity r.severity } :: cs)
    else (coalAdd r capture cs).map (c :: ·)

/-- A record or happening suppressed for a queue (R305). -/
def Queue.suppress (q : Queue) (r : EvRec) (capture : Bool) : Queue :=
  let q := { q with overflowing := true }
  match coalAdd r capture q.coal with
  | some cs => { q with coal := cs }
  | none =>
    if q.coal.length < 64 then
      { q with coal := q.coal ++ [{ source := r.source, capture := capture, count := 1, first := r.time,
                                    last := r.time, lastCode := r.code, severity := r.severity }] }
    else { q with lost := min 65535 (q.lost + 1), lostNew := q.lostNew + 1, lostIrq := q.lostIrq || r.irq }

/-- The record as a queue stores it, with its QSEQ (R302). -/
def Queue.push (q : Queue) (r : EvRec) : Queue :=
  { q with recs := q.recs ++ [{ r with qseq := q.next }], next := q.next + 1 }

/-- A record offered to a queue of `cap` records (R302, R304, R305). -/
def Queue.offer (q : Queue) (cap : Nat) (r : EvRec) : Queue :=
  if q.coal.any (·.source == r.source) || cap ≤ q.recs.length then q.suppress r false
  else q.push r

/-- The oldest sent record of a full queue gives its slot to a newer record (R309). -/
def Queue.makeRoom (q : Queue) (cap : Nat) : Queue :=
  if cap ≤ q.recs.length ∧ 0 < q.sent then { q with recs := q.recs.drop 1, sent := q.sent - 1 } else q

/-- A record offered to the fabric-forward queue: a sent record may be overwritten, a waiting one never (R309). -/
def Queue.offerFab (q : Queue) (destZero : Bool) (r : EvRec) : Queue :=
  let q := if q.coal.any (·.source == r.source) then q else q.makeRoom 1024
  let n := q.recs.length
  let q := q.offer 1024 { r with quiet := destZero }
  if destZero ∧ n < q.recs.length ∧ q.sent = n then { q with sent := q.sent + 1 } else q

/-- The open entry with the oldest FIRST. -/
def oldestCoal : List Coal → Option Coal
  | [] => none
  | c :: cs =>
    match oldestCoal cs with
    | none => some c
    | some d => if d.first < c.first then some d else some c

/-- The source-431 record of a coalescing entry (R305). -/
def coalRec (node : Nat) (irq : Bool) (c : Coal) : EvRec :=
  { time := c.first, source := 431, node := node, severity := c.severity, cls := 9,
    code := if c.capture then 2 else 1,
    data := BitVec.ofNat 96 (c.source + at_ 16 c.count + at_ 32 (c.lastCode % 65536)
      + at_ 48 (sat 32 ((c.last - c.first) / 1000))),
    irq := irq }

/-- OVERFLOWING falls once nothing is open, nothing lost waits and a slot is free (R302); the slot of a sent record is free to
be overwritten (R309). -/
def Queue.settle (q : Queue) (cap : Nat) : Queue :=
  if q.coal.isEmpty ∧ q.lostNew = 0 ∧ q.recs.length < cap + q.sent then { q with overflowing := false } else q

/-- A queue with a free slot stores its oldest open entry, or a LOST record when none is open (R305). -/
def Queue.drainCoal (q : Queue) (cap now node : Nat) (irqOf : Nat → Bool) : Queue :=
  if cap + q.sent ≤ q.recs.length then q
  else
    match oldestCoal q.coal with
    | some c =>
      (({ q with coal := q.coal.erase c } : Queue).makeRoom cap |>.push (coalRec node (irqOf c.source) c)).settle cap
    | none =>
      if q.lostNew = 0 then q.settle cap
      else
        (({ q with lostNew := 0, lostIrq := false } : Queue).makeRoom cap |>.push
          { time := now, source := 431, node := node, severity := 3, cls := 9, code := 3,
            data := BitVec.ofNat 96 (sat 32 q.lostNew), irq := q.lostIrq }).settle cap

/-! ### Capture (R298–R300) -/

/-- The key order of the capture stage: (TIME, SOURCE, NODE) (R299). -/
def keyLe (a b : EvRec) : Bool :=
  a.time < b.time || (a.time == b.time && (a.source < b.source || (a.source == b.source && a.node ≤ b.node)))

/-- Insertion in key order, after records of the same key. -/
def insertRec (r : EvRec) : List EvRec → List EvRec
  | [] => [r]
  | x :: xs => if keyLe x r then x :: insertRec r xs else r :: x :: xs

/-- The record of a happening at `t` (R293). -/
def mkRec (s : State) (t src code : Nat) (data : Nat) : EvRec :=
  { time := t, source := src, node := s.fab.nodeId, severity := evSev src code, cls := evClass src code,
    code := code, data := BitVec.ofNat 96 data, irq := bit (s.route src) 5 && bit (s.route src) 2, rb := s.route src }

/-- A happening suppressed by a full capture stage goes to every destination its route byte names (R300). -/
def suppressAll (s : State) (r : EvRec) : State :=
  { s with ev :=
    { s.ev with
      qa := if bit r.rb 0 then s.ev.qa.suppress r true else s.ev.qa
      qb := if bit r.rb 1 then s.ev.qb.suppress r true else s.ev.qb
      qsb := if bit r.rb 2 then s.ev.qsb.suppress r true else s.ev.qsb
      qfab := if bit r.rb 3 then s.ev.qfab.suppress r true else s.ev.qfab
      qj := if bit r.rb 4 then s.ev.qj.suppress r true else s.ev.qj } }

/-- The capture stage and the queues do not run: HIBERNATE, DEAD-FEED before REGEN, and domains held in reset (R413, R429). -/
def State.aonOnly (s : State) : Bool :=
  s.sys.pstate == .hibernate || (s.sys.pstate == .deadFeed && !s.sys.regen) || s.sys.held != .no

/-- A record enters the capture stage, or is suppressed when all 64 entries are full (R299, R300). While only AON runs it
enters the AON buffer of 16 records, and further ones are counted (R421). -/
def captureRec (s : State) (r : EvRec) : State :=
  if s.aonOnly then
    if s.sys.aonBuf.length < 16 then { s with sys := { s.sys with aonBuf := insertRec r s.sys.aonBuf } }
    else { s with sys := { s.sys with aonLost := s.sys.aonLost + 1 } }
  else if s.ev.capture.length < 64 then { s with ev := { s.ev with capture := insertRec r s.ev.capture } }
  else suppressAll s r

/-- A detector decides a happening at instant `t` (R298). A source whose route byte is 0 is not captured (R301). -/
def raiseAt (s : State) (t src code data : Nat) : State :=
  if s.route src = 0 then s else captureRec s (mkRec s t src code data)

/-- A happening decided now. -/
def raise (s : State) (src code data : Nat) : State := raiseAt s s.now src code data

/-- The event of port p with number k of ten (R295). -/
def raisePort (s : State) (p k code data : Nat) : State := raise s ((p - 1) * 10 + k) code data

/-- An upstream's event: 352 + k on A, 364 + k on B (R295). -/
def raiseUp (s : State) (u : Up) (k code data : Nat) : State := raise s (352 + 12 * u.code + k) code data

/-- A record passes to the queues its route names and to the journal writer (R299, R302, R320). -/
def deliverRec (s : State) (r : EvRec) : State :=
  { s with ev :=
    { s.ev with
      qa := if bit r.rb 0 then s.ev.qa.offer 1024 r else s.ev.qa
      qb := if bit r.rb 1 then s.ev.qb.offer 1024 r else s.ev.qb
      qsb := if bit r.rb 2 then s.ev.qsb.offer 1024 r else s.ev.qsb
      qfab := if bit r.rb 3 then s.ev.qfab.offerFab (s.ev.fabDest == 0) r else s.ev.qfab
      qj := if bit r.rb 4 then s.ev.qj.offer 256 r else s.ev.qj
      lastOut := some r } }

/-- IRQ_N is driven low (R306): an IRQ record is captured or held in the sideband queue, or WAKE_FAIL is set. -/
def State.irqLow (s : State) : Bool :=
  s.ev.capture.any (·.irq) || s.ev.qsb.recs.any (·.irq) || s.sys.wakeFail

/-- The 32 bytes of a stored record (R293). -/
def EvRec.bytes (r : EvRec) : List Byte :=
  let b := leBytes 8 r.time ++ leBytes 2 r.source ++ leBytes 1 r.node ++ leBytes 1 (r.severity + 16 * r.cls)
    ++ leBytes 2 r.code ++ leBytes 2 r.qseq.toNat ++ leBytes 12 r.data.toNat
  b ++ leBytes 4 (crc32c b)

end Sys2Proof.Machine
end

