-- ==== Sys2Proof/Machine/FabricOps.lean ====
section
/-!
DEFINITION. Machine/FabricOps.lean: putting frames on links, routing them, and the frames' bytes (R256–R258, R269).
-/

namespace Sys2Proof.Machine

/-- Bytes 0–11 of a frame's header, for a given LSEQ, with the LCHK (R257). -/
def frameHead (f : Frame) (lseq : BitVec 8) : List Byte :=
  let b := leBytes 1 (f.vc + 4 * f.kind) ++ [lseq] ++ leBytes 1 (f.hops + 128 * b2n f.down)
  [0xE7] ++ b ++ leBytes 1 (crcOf 0 b) ++ leBytes 2 (f.dest + 256 * f.src)
    ++ leBytes 6 (f.payload.length + at_ 11 f.kspec)

/-- FCRC, over bits 15:8 and 95:40 of the header and the payload (R257). -/
def frameCrc (f : Frame) : Nat :=
  crc32c (leBytes 1 (f.vc + 4 * f.kind) ++ leBytes 2 (f.dest + 256 * f.src)
    ++ leBytes 6 (f.payload.length + at_ 11 f.kspec) ++ f.payload)

/-- Credits that a frame needs (R259). -/
def frameCredits (f : Frame) : Nat := (16 + f.payload.length + 63) / 64

/-- Link words sent: CODE and ARG bytes (R254), coded in a block (R250); the last eight stay to be seen. -/
def sendWord (s : State) (l code : Nat) (arg : List Byte) : State :=
  s.modLink l (fun k =>
    { k with words := ((code, arg ++ zeros (5 - arg.length)) :: k.words).take 8, line := k.line.word code arg })

/-- The bytes of a frame on the link: its header with the FCRC, then the payload (R256, R257). -/
def frameBytes (f : Frame) (lseq : BitVec 8) : List Byte := frameHead f lseq ++ leBytes 4 (frameCrc f) ++ f.payload

/-- Bytes that a frame takes on the link and in the replay buffer (R256, R260). -/
def frameSize (f : Frame) : Nat := 16 + f.payload.length

/-- Credits left on a channel: totals count modulo 2^16 (R254, R260). -/
def Vc.left (v : Vc) : Nat := (v.granted + 65536 - v.used % 65536) % 65536

/-- The replay buffer takes another frame (R260): at most 128 frames and 32 KiB. -/
def FabLink.room (k : FabLink) (f : Frame) : Bool :=
  decide (k.replay.length < 128) &&
    decide ((k.replay.map (fun x => frameSize x.2)).sum + frameSize f ≤ 32768)

/-- The head frame of a channel may start now (R260). -/
def FabLink.ready (k : FabLink) (c : Nat) : Bool :=
  match (k.vcs.getD c {}).q with
  | [] => false
  | (f, _) :: _ => decide (frameCredits f ≤ (k.vcs.getD c {}).left) && k.room f

/-- Quantum of a channel of link l in bytes: that of R280, on the Ladle that of R451. -/
def State.quantum (s : State) (l c : Nat) : Nat :=
  1024 * (if (s.link l).ladle then (if c = 1 then 12 else if c = 2 then 3 else 1)
    else if c = 1 then s.fab.vc1q else if c = 2 then s.fab.vc2q else s.fab.vc3q)

/-- Credits freed in the receive buffer of a link, to be granted again within tLW (R260). -/
def freeCredits (s : State) (l c n : Nat) : State :=
  s.modLink l (fun k => { k with freed := modAt k.freed c (· + n) })

/-- The head frame of channel c starts: it takes its LSEQ and credits, enters the replay buffer, and leaves the receive
buffer of the link it came by (R260). -/
def startFrame (s : State) (l c : Nat) : State :=
  match ((s.link l).vcs.getD c {}).q with
  | [] => s
  | (f, src) :: q =>
    let s := s.modLink l (fun k =>
      { k with
        vcs := modAt k.vcs c (fun v => { v with q := q, used := v.used + frameCredits f, waitFrom := none })
        replay := k.replay ++ [(k.txSeq, f)]
        txSeq := k.txSeq + 1
        line := k.line.frame (frameBytes f k.txSeq) })
    match src with
    | none => s
    | some i => freeCredits s i c (frameCredits f)

/-- The round robin passes the turn to the next channel, which gains its quantum if a frame is ready there (R264). -/
def nextTurn (s : State) (l : Nat) : State :=
  s.modLink l (fun k =>
    let c := if k.turn = 3 then 1 else k.turn + 1
    { k with
      turn := c
      vcs := modAt k.vcs c (fun v =>
        { v with deficit := if k.ready c then v.deficit + s.quantum l c else 0 }) })

/-- Bytes of the head frame of a channel. -/
def headSize (k : FabLink) (c : Nat) : Nat :=
  match (k.vcs.getD c {}).q with
  | [] => 0
  | (f, _) :: _ => frameSize f

/-- Frames that are ready start: VC0 first, then VC1–VC3 by deficit round robin (R264). -/
def pumpN : Nat → State → Nat → State
  | 0, s, _ => s
  | n + 1, s, l =>
    let k := s.link l
    if k.ready 0 then pumpN n (startFrame s l 0) l
    else if !(k.ready 1 || k.ready 2 || k.ready 3) then s
    else
      let c := k.turn
      if k.ready c ∧ headSize k c ≤ (k.vcs.getD c {}).deficit then
        pumpN n (startFrame
          (s.modLink l (fun k => { k with vcs := modAt k.vcs c (fun v => { v with deficit := v.deficit - headSize k c }) }))
          l c) l
      else pumpN n (nextTurn s l) l

/-- A head frame that finds no credits starts to wait (R272). -/
def markWait (now : Nat) (v : Vc) : Vc :=
  match v.q, v.waitFrom with
  | (f, _) :: _, none => if v.left < frameCredits f then { v with waitFrom := some now } else v
  | [], _ => { v with waitFrom := none }
  | _, _ => v

/-- The mirror entries staged have left when no frame of theirs waits on the Ladle's VC1 (R228, R276). -/
def settleMirror (s : State) (l : Nat) : State :=
  if l = 0 ∧ ((s.link 0).vcs.getD 1 {}).q.isEmpty then { s with pair := { s.pair with staged := [] } } else s

/-- An UP link starts what it can; the heads left without credits wait. -/
def pump (s : State) (l : Nat) : State :=
  let s := if (s.link l).st = .up then pumpN 1024 s l else s
  settleMirror (s.modLink l (fun k => { k with vcs := k.vcs.map (markWait s.ticks) })) l

/-- A frame is queued on link l and starts when it can (R260); a link that is DISABLED or DOWN holds no frame (R251).
`src` is the link that a forwarded frame came by. -/
def queueOn (s : State) (l : Nat) (f : Frame) (src : Option Nat) : State :=
  if (s.link l).st = .disabled ∨ (s.link l).st = .down then
    (match src with
     | none => s
     | some i => freeCredits s i f.vc (frameCredits f))
  else pump (s.modLink l (fun k => { k with vcs := modAt k.vcs f.vc (fun v => { v with q := v.q ++ [(f, src)] }) })) l

/-- A frame of this node is queued on link l. -/
def sendOn (s : State) (l : Nat) (f : Frame) : State := queueOn s l f none

/-- The data of a link's event (R282). -/
def linkData (k : FabLink) (vc cause node count lseq uid : Nat) : Nat :=
  k.nbrNode % 256 + at_ 8 (k.nbrLink % 4) + at_ 10 (vc % 4) + at_ 16 (cause % 256) + at_ 24 (node % 256)
    + at_ 32 (sat 16 count) + at_ 48 (lseq % 256) + at_ 64 (uid % 2 ^ 32)

/-- An event of link l (R282). -/
def raiseLink (s : State) (l k code : Nat) (vc cause node count lseq uid : Nat := 0) : State :=
  raise s (376 + l * 8 + k) code (linkData (s.link l) vc cause node count lseq uid)

/-- The route entry of a destination (R269). -/
def State.routeTo (s : State) (dest : Nat) : Option RouteEnt := s.fab.table.find? (·.dest == dest)

/-- A route joins this node to `dest` (R269): an own ID stands and the table names a first link. -/
def State.hasRoute (s : State) (dest : Nat) : Bool :=
  s.fab.nodeId != 0 && (match s.routeTo dest with
    | some e => e.upHop.isSome
    | none => false)

/-- Counts a frame discarded by the node on link l (R281). -/
def countDiscard (s : State) (l : Nat) : State :=
  s.modLink l (fun k => { k with discards := min 65535 (k.discards + 1) })

/-- DISCARD_NO_ROUTE, at most once per destination per second (R282). -/
def noRouteEvent (s : State) (l dest : Nat) : State :=
  match s.fab.noRouteTold.find? (·.1 == dest) with
  | some (_, t) =>
    if s.ticks < t + 1000000000 then s
    else raise { s with fab := { s.fab with noRouteTold :=
      (dest, s.ticks) :: s.fab.noRouteTold.filter (·.1 != dest) } } (376 + l * 8 + 5) 3 (linkData (s.link l) 0 0 dest 0 0 0)
  | none =>
    raise { s with fab := { s.fab with noRouteTold := (dest, s.ticks) :: s.fab.noRouteTold } }
      (376 + l * 8 + 5) 3 (linkData (s.link l) 0 0 dest 0 0 0)

/-- A frame originated here toward node `dest` (R257, R269): HOPS 64, DOWN set when its first link is down. A broadcast
goes to the parent link, or from the root down to every child (R270). -/
def sendTo (s : State) (vc kind dest kspec : Nat) (payload : List Byte) : State :=
  let f (down : Bool) : Frame :=
    { vc := vc, kind := kind, hops := 64, down := down, dest := dest, src := s.fab.nodeId, kspec := kspec,
      payload := payload }
  if s.fab.nodeId = 0 then s
  else if dest = 255 then
    match s.fab.parentLink with
    | some l => sendOn s l (f false)
    | none => s.fab.children.foldl (fun s l => sendOn s l (f true)) s
  else
    match s.routeTo dest with
    | some ⟨_, some l, _, _⟩ => sendOn s l (f ((s.link l).dir == 2))
    | _ => noRouteEvent s 0 dest

/-- A Ladle frame to the partner, link-local on L0 (R276). -/
def sendLadle (s : State) (vc kind kspec : Nat) (payload : List Byte) : State :=
  if (s.link 0).st = .up ∧ (s.link 0).ladle then
    sendOn s 0 { vc := vc, kind := kind, hops := 0, down := false, dest := 0, src := 0, kspec := kspec,
                 payload := payload }
  else s

/-- Slow state leaves for the partner while the Ladle is up (R226); the contents of its frames stand here. -/
def sendSlow (s : State) (xs : List SlowItem) : State :=
  if s.pair.ladle then sendLadle { s with pair := { s.pair with sent := xs } } 0 0x39 0 [] else s

/-- Mirror entries are staged and leave on the Ladle's VC1 as it takes them (R228, R276). -/
def sendMirror (s : State) (xs : List MirrorItem) : State :=
  if s.pair.ladle ∧ !xs.isEmpty then
    sendLadle { s with pair := { s.pair with staged := s.pair.staged ++ xs } } 1 0x38 0 []
  else s

/-- A byte string cut at 1,024-byte boundaries, with segment numbers and the last-segment mark (R258, R356). -/
def cutSegs : Nat → Nat → List Byte → List (Nat × Bool × List Byte)
  | 0, _, _ => []
  | fuel + 1, i, bs =>
    if bs.length ≤ 1024 then [(i, true, bs)]
    else (i, false, bs.take 1024) :: cutSegs fuel (i + 1) (bs.drop 1024)

/-- Segments of a COMMAND or RESPONSE toward a node (R258): segment in bits 70:67, last in 71, tag in 95:80. -/
def sendSegs (s : State) (kind dest tag : Nat) (bs : List Byte) : State :=
  (cutSegs 6 0 bs).foldl
    (fun s x => sendTo s 1 kind dest (x.1 + 16 * b2n x.2.1 + at_ 13 tag) x.2.2) s

end Sys2Proof.Machine
end

