-- ==== Sys2Proof/Machine/CommandOps.lean ====
section
/-!
DEFINITION. Machine/CommandOps.lean: packets and responses as bytes, authentication, ownership, storing responses on
their transports, commands that wait, and running a command at the MPC (R339–R351).
-/

namespace Sys2Proof

/-- Its parameter bytes, without the tag (R343, R348). -/
def Cmd.params (c : Cmd) : List Byte := if c.auth then c.payload.take (c.payload.length - 16) else c.payload

end Sys2Proof

namespace Sys2Proof.Machine

/-! ### Status codes (R13) -/

def stOk : Nat := 0
def stBusy : Nat := 1
def stUnknownOpcode : Nat := 2
def stBadCheck : Nat := 3
def stNotOwner : Nat := 4
def stRefusedState : Nat := 5
def stAuthRequired : Nat := 6
def stAuthFailed : Nat := 7
def stNoRoute : Nat := 8
def stTimeout : Nat := 9
def stNoResource : Nat := 10
def stNotAtCompat : Nat := 11
def stInternal : Nat := 12

/-- What a command answers: STATUS, CLAMPED and the payload; a status other than OK has DETAIL and HINT (R340). -/
structure Resp where
  status : Nat := 0
  clamped : Bool := false
  payload : List Byte := []
  deriving DecidableEq, Repr

def Resp.ok (payload : List Byte) (clamped : Bool := false) : Resp := { clamped := clamped, payload := payload }

/-- A failing response: DETAIL in bytes 0–1, HINT in bytes 2–3 (R340). -/
def Resp.fail (status : Nat) (detail : Nat := 0) (hint : Nat := 0) (clamped : Bool := false) : Resp :=
  { status := status, clamped := clamped, payload := leBytes 2 detail ++ leBytes 2 hint }

/-! ### Packets (R339) -/

/-- Header bytes 0–11 of a packet; `flags` is byte 9, AUTH in bit 0, NORESP 1, CLAMPED 2, FRAG 3 (R339). -/
def headBytes (opcode tag len target flags status : Nat) : List Byte :=
  [0xC5, 0x01] ++ leBytes 2 opcode ++ leBytes 2 tag ++ leBytes 2 len ++ leBytes 1 target ++ leBytes 1 flags
    ++ leBytes 2 status

/-- A packet with its CRC-32C over bytes 0–11 and the payload (R339). -/
def packetBytes (opcode tag target flags status : Nat) (payload : List Byte) : List Byte :=
  let h := headBytes opcode tag payload.length target flags status
  h ++ leBytes 4 (crc32c (h ++ payload)) ++ payload

/-- Flag byte of the command's packet, sent whole (R339, R348). -/
def cmdFlags (c : Cmd) : Nat := b2n c.auth + 2 * b2n c.noresp + 16 * (c.rsv % 16)

/-- The command's own packet, sent whole. -/
def cmdBytes (c : Cmd) : List Byte := packetBytes c.opcode c.tag c.target (cmdFlags c) 0 c.payload

/-- Its CRC field, which the duplicate rule compares (R345). -/
def cmdCrc (c : Cmd) : Nat :=
  c.crc.getD (crc32c (headBytes c.opcode c.tag c.payload.length c.target (cmdFlags c) 0 ++ c.payload))

/-- The response packet (R340). -/
def respBytes (s : State) (c : Cmd) (r : Resp) : List Byte :=
  packetBytes c.opcode c.tag s.fab.nodeId (4 * b2n r.clamped) r.status r.payload

/-! ### Transports -/

def State.trState (s : State) (t : Transport) : TrState :=
  (s.cmd.trs.find? (·.tr == t)).getD { tr := t }

def State.modTr (s : State) (t : Transport) (f : TrState → TrState) : State :=
  let x := f (s.trState t)
  { s with cmd := { s.cmd with trs := { x with tr := t } :: s.cmd.trs.filter (·.tr != t) } }

/-- A number for each transport, for its own random NONCE start. -/
def trNumber : Transport → Nat
  | .usb .a => 0 | .usb .b => 1 | .smbus => 2 | .spi => 3 | .relay => 4 | .fabric n => 5 + n

/-- NONCE of a transport: a random start drawn at chip reset plus the accepted commands (R347). -/
def State.nonce (s : State) (t : Transport) : Nat :=
  (((s.trState t).start).getD (Config.freeNat (s.cmd.nonceBase + trNumber t)) + (s.trState t).accepted) % 2 ^ 64

/-- Drops the oldest entries until the total length fits; answers the entries kept and how many were dropped. -/
def fitBytes (cap : Nat) : List (List Byte) → List (List Byte) × Nat
  | [] => ([], 0)
  | x :: xs =>
    if (xs.foldl (fun a y => a + y.length) x.length) ≤ cap then (x :: xs, 0)
    else let r := fitBytes cap xs; (r.1, r.2 + 1)

/-- Fragments of at most `cap` payload bytes; FRAG (bit 3 of the flags) on all but the last (R346). -/
def fragments : Nat → Nat → Nat → Nat → Nat → Nat → Nat → List Byte → List (List Byte)
  | 0, _, _, _, _, _, _, _ => []
  | fuel + 1, cap, opcode, tag, target, flags, status, p =>
    if p.length ≤ cap then [packetBytes opcode tag target flags status p]
    else packetBytes opcode tag target (flags + 8) status (p.take cap)
      :: fragments fuel cap opcode tag target flags status (p.drop cap)

/-- MBO takes the next waiting message when none is valid (R355). -/
def mboPost (s : State) : State :=
  let m := s.cmd.mb
  if m.mboCtrl ≥ 128 then s
  else
    match m.mboWait with
    | [] => s
    | x :: xs =>
      let seq := (m.mboSeq + 1) % 16
      { s with cmd := { s.cmd with mb :=
        { m with mboWait := xs, mboSeq := seq, mboCtrl := 128 + seq, mboLen := x.length, mboTries := 0,
                 mboData := x ++ zeros (92 - x.length) } } }

/-- A response stored on a management function's response pipe (R352). -/
def storePipe (s : State) (u : Up) (bs : List Byte) : State :=
  let r := fitBytes 16384 ((s.up u).respPipe ++ [bs])
  let s := s.modUp u (fun x => { x with respPipe := r.1 })
  if r.2 = 0 then s else raiseUp s u 10 2 r.2

/-- Response messages for the mailbox, dropping the oldest that no longer fit 16 KiB (R355). -/
def storeMbo (s : State) (msgs : List (List Byte)) : State :=
  let r := fitBytes 16384 (s.cmd.mb.mboWait ++ msgs)
  mboPost { s with cmd := { s.cmd with mb :=
    { s.cmd.mb with mboWait := r.1, mboDrops := min 65535 (s.cmd.mb.mboDrops + r.2) } } }

/-- A response goes back on the transport its command came by (R340, R352, R355, R356, R386). -/
def deliver (s : State) (c : Cmd) (bs : List Byte) (r : Resp) : State :=
  match c.tr with
  | .usb u => storePipe s u bs
  | .smbus => storeMbo s (fragments 64 76 c.opcode c.tag s.fab.nodeId (4 * b2n r.clamped) r.status r.payload)
  | .spi => storeMbo s (fragments 64 76 c.opcode c.tag s.fab.nodeId (4 * b2n r.clamped) r.status r.payload)
  | .fabric n => sendSegs s 0x11 n c.ftag bs
  | .relay => (cutSegs 6 0 bs).foldl (fun s x => sendLadle s 3 0x3D (x.1 + 16 * b2n x.2.1 + 32 + 64 * c.ftag) x.2.2) s

/-- A response discarded for a pipe that was reset counts one in source 362 or 374 (R44, R117). -/
def discardResponse (s : State) (c : Cmd) : State :=
  match c.tr with
  | .usb u => raiseUp s u 10 1 1
  | _ => s

/-- A response goes back, unless NORESP is set or the command is mute (R44, R341). -/
def sendBack (s : State) (c : Cmd) (bs : List Byte) (r : Resp) : State :=
  if c.noresp then s else if c.mute then discardResponse s c else deliver s c bs r

/-- The response of a command with a non-zero tag is kept, the last 16 of each transport (R345). -/
def cacheResp (s : State) (c : Cmd) (bs : List Byte) : State :=
  if c.tag = 0 ∨ c.noresp ∨ c.mute then s
  else s.modTr c.tr (fun t => { t with cache :=
    ({ tag := c.tag, opcode := c.opcode, crc := cmdCrc c, at_ := s.ticks, resp := bs } :: t.cache).take 16 })

/-- A response is kept for duplicates and sent back (R341, R345). -/
def respond (s : State) (c : Cmd) (r : Resp) : State :=
  let bs := respBytes s c r
  sendBack (cacheResp s c bs) c bs r

/-- STATUS, CLAMPED and payload of a response packet (R339). -/
def respOf (bs : List Byte) : Resp :=
  { status := leNat (slice bs 10 2), clamped := bit (leNat (slice bs 9 1)) 2, payload := bs.drop 16 }

/-- The cached response to a duplicate: TAG, OPCODE and CRC of a command answered within the last 1 s; TAG 0 is never a
duplicate (R339, R345). -/
def dupOf (s : State) (c : Cmd) : Option Cached :=
  if c.tag = 0 then none
  else (s.trState c.tr).cache.find? (fun x =>
    x.tag == c.tag && x.opcode == c.opcode && x.crc == cmdCrc c && decide (s.ticks < x.at_ + 1000000000))

/-! ### Commands that wait on hardware (R345) -/

/-- The command waits; answers the number its hardware carries. -/
def addWait (s : State) (c : Cmd) (clamped : Bool := false) : Nat × State :=
  (s.cmd.nextWait,
   { s with cmd := { s.cmd with waits := s.cmd.waits ++ [{ num := s.cmd.nextWait, cmd := c, clamped := clamped }],
                                nextWait := s.cmd.nextWait + 1 } })

/-- The opcodes that the command reference lists (R361, R383); every other is reserved (R12, R16). -/
def definedOpcodes : List (Nat × Nat) :=
  [(0x00, 5), (0x01, 3), (0x02, 8), (0x03, 5), (0x04, 6), (0x05, 7), (0x06, 5), (0x07, 4), (0x08, 6), (0x09, 5),
   (0x0A, 6), (0x0B, 5), (0x0C, 4), (0x0D, 7), (0x0E, 5)]

/-- An opcode of the reference: its number lies below the group's count (R361, R383). -/
def opcodeDefined (op : Nat) : Bool := definedOpcodes.any (fun g => g.1 == op / 256 && decide (op % 256 < g.2))

/-- The queued commands taken one by one: those that are the first of their transport, with no command of it waiting on
hardware, and duplicate an answered command or have a reserved opcode, are answered; the rest are kept in order
(R16, R345). -/
def settleList : List Cmd → List Cmd → State → List Cmd × State
  | [], kept, s => (kept, s)
  | c :: cs, kept, s =>
    if kept.any (·.tr == c.tr) || s.cmd.waits.any (fun w => w.cmd.tr == c.tr) then settleList cs (kept ++ [c]) s
    else
      match dupOf s c with
      | some x => settleList cs kept (sendBack s c x.resp (respOf x.resp))
      | none =>
        if opcodeDefined c.opcode then settleList cs (kept ++ [c]) s
        else settleList cs kept (respond s c (.fail stUnknownOpcode))

/-- A duplicate of a command answered meanwhile gets the stored response, and a reserved opcode that has reached the MPC
completes UNKNOWN_OPCODE, both with no side effect (R16, R342, R345). -/
def settleQueue (s : State) : State :=
  let r := settleList s.cmd.queue [] s
  { r.2 with cmd := { r.2.cmd with queue := r.1 } }

/-- The partner learns how long this chip's firmware restart still takes; 0 when it has ended (R385, R407). -/
def tellFirmware (s : State) (ms : Nat) : State :=
  if s.pair.ladle then sendLadle { s with pair := { s.pair with sent := [.firmware ms] } } 0 0x39 0 [] else s

/-- A restart of the firmware that waited for the commands in execution begins when none is left: source 428 STARTED, and
the commands not started are answered BUSY (R358, R407). -/
def beginRestart (s : State) : State :=
  match s.sys.fwNext with
  | none => s
  | some (bank, cause) =>
    if !s.cmd.waits.isEmpty then s
    else
      let old := s.sys.bankB
      let s := s.cmd.queue.foldl (fun s c => respond s c (.fail stBusy 1 300)) { s with cmd := { s.cmd with queue := [] } }
      let s := raise s 428 1 (b2n bank + at_ 8 cause)
      tellFirmware { s with sys := { s.sys with
        fwNext := none, fwUp := false, romOnly := false, bankB := bank, fwRestarts := min 65535 (s.sys.fwRestarts + 1),
        fw := some { at_ := s.ticks, cause := cause, oldBank := old, activated := cause == 3 } } } 300

/-- Wait `num` completes with a response; number 0 belongs to no command. -/
def finishWait (s : State) (num : Nat) (r : Resp) : State :=
  match s.cmd.waits.find? (·.num == num) with
  | none => s
  | some w =>
    beginRestart (settleQueue
      (respond { s with cmd := { s.cmd with waits := s.cmd.waits.filter (·.num != num) } } w.cmd
        { r with clamped := r.clamped || w.clamped }))

/-! ### Authentication (R347–R350) and ownership (R351) -/

/-- The privileged opcodes of the command reference. -/
def privileged (op : Nat) : Bool :=
  [0x0003, 0x0004, 0x0303, 0x0401, 0x0405, 0x0501, 0x0503, 0x0602, 0x0603, 0x0702, 0x0805, 0x0902, 0x0903,
   0x0A04, 0x0C01, 0x0C03, 0x0D02, 0x0D03, 0x0D05, 0x0E04].contains op

end Sys2Proof.Machine
end

