-- ==== Sys2Proof/Machine/CrockOps.lean ====
section
/-!
DEFINITION. Machine/CrockOps.lean: reading and writing the Crock, its partitions, paired lines, the journal's slots and
its scan (R311–R327).
-/

namespace Sys2Proof.Machine

/-! ### Cells -/

/-- The byte at an address; an address not listed reads 0 (log entry 4). -/
def readCell : List Host.Cell → Nat → Byte
  | [], _ => 0
  | (x, b) :: m, a => if x = a then b else if a < x then 0 else readCell m a

/-- One byte written; writing 0 removes the cell, so that equal contents are equal lists. -/
def writeCell : List Host.Cell → Nat → Byte → List Host.Cell
  | [], a, b => if b = 0 then [] else [(a, b)]
  | (x, c) :: m, a, b =>
    if x = a then (if b = 0 then m else (a, b) :: m)
    else if a < x then (if b = 0 then (x, c) :: m else (a, b) :: (x, c) :: m)
    else (x, c) :: writeCell m a b

/-- Bytes written at rising addresses. -/
def writeCells : List Host.Cell → Nat → List Byte → List Host.Cell
  | m, _, [] => m
  | m, a, b :: bs => writeCells (writeCell m a b) (a + 1) bs

/-- `n` bytes from an address. -/
def readCells (m : List Host.Cell) : Nat → Nat → List Byte
  | _, 0 => []
  | a, n + 1 => readCell m a :: readCells m (a + 1) n

/-- The canonical form of the Crock: addresses strictly rising inside the 4 MiB, and no cell equal to 0. -/
def Memory.wfFrom : Nat → List Host.Cell → Bool
  | _, [] => true
  | lo, (a, b) :: m => decide (lo ≤ a) && decide (a < 0x400000) && b != 0 && Memory.wfFrom (a + 1) m

/-- The memory is in canonical form. -/
def Memory.wf (m : List Host.Cell) : Bool := Memory.wfFrom 0 m

/-- Address that a slot or line is kept at: its own, or that of its spare (R316). Spares stand in the upper half of the
reserve partition (log entry 26). -/
def placed (c : Crock) (a : Nat) : Nat :=
  match c.bad.findIdx? (· == a) with
  | some i => 0x3F8000 + 64 * i
  | none => a

/-- `n` bytes of the Crock as a reader sees them (R315): lines and slots that were
remapped are read from their spares. -/
def crockLines (c : Crock) : Nat → Nat → List Byte
  | _, 0 => []
  | a, n + 1 =>
    let l := if 0x1A0000 ≤ a ∧ a < 0x3A0000 then a / 64 * 64 else a / 16 * 16
    readCell c.mem (placed c l + (a - l)) :: crockLines c (a + 1) n

def State.crockRead (s : State) (a n : Nat) : List Byte :=
  if s.crock.bad.isEmpty then readCells s.crock.mem a n else crockLines s.crock a n

/-- Bytes written to the Crock; bytes past the last address are not written (R311). -/
def crockWrite (s : State) (a : Nat) (bs : List Byte) : State :=
  { s with crock := { s.crock with mem := writeCells s.crock.mem a (bs.take (0x400000 - a)) } }

/-! ### Paired lines (R325, R326) -/

/-- Offsets of the paired lines in the Crock. -/
def plNode : Nat := 0x3A1000
def plEpoch : Nat := 0x3A1020
def plBoot : Nat := 0x3A1040
def plLevel : Nat := 0x3A1060
def plChoice : Nat := 0x3A1080

/-- One copy of a paired line: its value and write count, if its CRC is right. -/
def pairedCopy (s : State) (a : Nat) : Option (Nat × Nat) :=
  let b := s.crockRead a 16
  if leNat (b.drop 12) = crc32c (b.take 12) then some (leNat (b.take 8), leNat (slice b 8 4)) else none

/-- The copy in force: its value, its write count, and whether it is the one at the higher address. -/
def pairedLine (s : State) (a : Nat) : Option (Nat × Nat × Bool) :=
  match pairedCopy s a, pairedCopy s (a + 16) with
  | some (v, n), some (w, m) => if n < m then some (w, m, true) else some (v, n, false)
  | some (v, n), none => some (v, n, false)
  | none, some (w, m) => some (w, m, true)
  | none, none => none

/-- The value in force; 0 when neither copy is valid. -/
def State.paired (s : State) (a : Nat) : Nat := ((pairedLine s a).map (·.1)).getD 0

/-- The 16 bytes of a copy. -/
def pairedBytes (v n : Nat) : List Byte :=
  let b := leBytes 8 v ++ leBytes 4 n
  b ++ leBytes 4 (crc32c b)

/-- The copies are written alternately; a line with no valid copy takes the value at the lower address with count 1. -/
def setPaired (s : State) (a v : Nat) : State :=
  match pairedLine s a with
  | some (_, n, hi) => crockWrite s (if hi then a else a + 16) (pairedBytes v (n + 1))
  | none => crockWrite s a (pairedBytes v 1)

/-! ### Partitions (R311, R312) -/

/-- First byte and size of partition 0–7 in the order of R311. -/
def partBase : Nat → Nat × Nat
  | 0 => (0, 0xC0000)
  | 1 => (0xC0000, 0xC0000)
  | 2 => (0x180000, 0x10000)
  | 3 => (0x190000, 0x10000)
  | 4 => (0x1A0000, 0x200000)
  | 5 => (0x3A0000, 0x10000)
  | 6 => (0x3B0000, 0x40000)
  | _ => (0x3F0000, 0x10000)

/-- First byte of key slot k in the identity partition: a mark, then the key from byte 16, and the second copy 128 bytes
on (R326, R408; log entry 33). -/
def keyAddr (k : Nat) : Nat := 0x3A2000 + 256 * k

/-! ### The journal (R318–R324) -/

/-- Address of journal slot k (R311). -/
def slotAddr (k : Nat) : Nat := 0x1A0000 + 64 * k

/-- A slot as it stands in the ring: 1,024 + (J mod 31,744) (R321). -/
def ringSlot (j : Nat) : Nat := 1024 + j % 31744

/-- The 64 bytes of a slot. -/
def slotBytes (s : State) (k : Nat) : List Byte := readCells s.crock.mem (placed s.crock (slotAddr k)) 64

/-- A slot's record is valid: its JCRC is right (R322). -/
def slotValid (b : List Byte) : Bool := leNat (b.drop 60) == crc32c (b.take 60)

def slotJseq (b : List Byte) : Nat := leNat (slice b 56 4)

/-- FF_EPOCH of a record's context: bits 39:24 from byte 32 (R319). -/
def slotEpoch (b : List Byte) : Nat := leNat (slice b 35 2)

/-- Journal slots that hold a byte other than 0, each once, rising. -/
def listedSlots : List Host.Cell → List Nat
  | [] => []
  | (a, _) :: m =>
    let r := listedSlots m
    if 0x1A0000 ≤ a ∧ a < 0x3A0000 then
      let k := (a - 0x1A0000) / 64
      if r.head? = some k then r else k :: r
    else r

/-- The context field (R319), 24 bytes, as the writer finds the chip. -/
def contextBytes (s : State) (r : EvRec) (first : Bool) : List Byte :=
  let chip := if !s.isPair then 0 else if r.partner then 3 - s.sys.role else s.sys.role
  let act := if s.sys.role = 1 ∨ s.sys.role = 2 then (s.pair.st == .active || s.pair.st == .handingOver) != r.partner else true
  leBytes 24 (chip % 4 + at_ 2 (b2n act) + at_ 3 (b2n r.remote) + at_ 4 (b2n first) + at_ 5 s.pstateCode
    + at_ 8 s.sys.cl + at_ 16 (b2n s.sys.bankB) + at_ 17 (b2n s.sys.fwUp) + at_ 18 s.tu.sync.code
    + at_ 21 s.sys.profile.code + at_ 24 (s.paired plEpoch % 65536) + at_ 40 (s.paired plBoot % 2 ^ 32)
    + at_ 72 (sat 32 ((s.ticks - s.sys.resetAt) / 1000000)) + at_ 104 s.crock.dropped + at_ 136 s.pba.budget
    + at_ 152 (b2n (s.feedA.st == .on) + 2 * b2n (s.feedB.st == .on)))

/-- The 64 bytes of a journal record (R318). -/
def journalBytes (s : State) (r : EvRec) (first : Bool) (j : Nat) : List Byte :=
  let e := leBytes 8 r.time ++ leBytes 2 r.source ++ leBytes 1 r.node ++ leBytes 1 (r.severity + 16 * r.cls)
    ++ leBytes 2 r.code ++ leBytes 2 (j % 65536) ++ leBytes 12 r.data.toNat
  let b := e ++ leBytes 4 (crc32c e) ++ contextBytes s r first ++ leBytes 4 j
  b ++ leBytes 4 (crc32c b)

end Sys2Proof.Machine
end

