-- ==== Sys2Proof/Machine/TimeOps.lean ====
section
/-!
DEFINITION. Machine/TimeOps.lean: the time servo, steps, SYNC_STATE and the time parent (R283–R291).
-/

namespace Sys2Proof.Machine

/-- ±200 ppm of the nominal 4 ns in units of 2⁻³² ns; ±2 % while the clock runs from the RC oscillator (R283). -/
def State.rateLimit (s : State) : Int := if s.sys.clockFallback then 343597383 else 3435973

/-- The rate-word correction within its limit. -/
def setRate (s : State) (r : Int) : State :=
  { s with tu := { s.tu with rateAdj := max (-s.rateLimit) (min s.rateLimit r) } }

/-- RATE of R286, signed, in 0.01 ppm. -/
def State.rate100 (s : State) : Nat := uns 16 (s.tu.rateAdj * 100000000 / 17179869184)

/-- The link that time-sync events are raised on: the parent link, or L0 (R287). -/
def State.syncLink (s : State) : Nat := if s.tu.hasParent then s.tu.parent else 0

/-- Data of a time-sync event (R296). -/
def syncData (s : State) (value : Nat) : Nat :=
  value % 2 ^ 64 + at_ 64 (s.tu.root % 256) + at_ 72 (s.tu.stratum % 256) + at_ 80 s.rate100

/-- VALUE of the codes other than STEPPED: OFFSET and PATH_DELAY (R296). -/
def syncValue (s : State) : Nat := uns 32 s.tu.offset + at_ 32 (uns 32 s.tu.pathDelay)

def raiseSync (s : State) (code value : Nat) : State := raise s (376 + s.syncLink * 8 + 6) code (syncData s value)

/-- SYNC_STATE changes: the time-sync event with LOCKED or UNLOCKED, and source 432 when LOCKED is left (R287). It never
reads LOCKED while the clock runs from the RC oscillator (R283). -/
def setSync (s : State) (x : Sync) : State :=
  let x := if x = .locked ∧ s.sys.clockFallback then Sync.acquiring else x
  let old := s.tu.sync
  if x = old then s
  else
    let s := { s with tu := { s.tu with sync := x, good := 0, bad := 0,
                                        heldAt := if x = .holdover then s.ticks else s.tu.heldAt } }
    let s := raiseSync s (if x = .locked then 1 else 2) (syncValue s)
    if old = .locked then raise s 432 1 (x.code + at_ 32 (uns 32 s.tu.offset)) else s

/-- Every record of the capture stage passes to its destinations, in key order (R299). -/
def flushCapture (s : State) : State :=
  s.ev.capture.foldl deliverRec { s with ev := { s.ev with capture := [] } }

/-- A step of TIME by `d` ns (R287): STEPPED with the instant before it; the records held pass before any later one. -/
def stepTime (s : State) (d : Int) : State :=
  let s := flushCapture (raiseSync s 3 (uns 64 d))
  { s with tu := { s.tu with count := BitVec.ofInt 96 ((s.tu.count.toNat : Int) + d * 4294967296),
                             steps := min 65535 (s.tu.steps + 1), jump := s.tu.jump + d,
                             lastEdge := s.tu.lastEdge.map (· + d) } }

/-- The rate word removes θ over the next eight intervals of `clocks` TIME clocks, with an integral term whose gain the
spec does not give: a free value (R287; log entry 27). -/
def slew (s : State) (theta : Int) (clocks : Nat) : State :=
  let i := sgn 24 s.free
  setRate { s.drawn with tu := { s.tu with integral := i } } (i - theta * 4294967296 / (8 * (clocks : Int)))

/-- θ of one complete exchange, or of one accepted edge, is judged by SYNC_STATE (R287). -/
def servo (s : State) (theta : Int) (clocks : Nat) : State :=
  let far : Bool := decide (1000 < theta.natAbs)
  let near : Bool := decide (theta.natAbs ≤ 20)
  let acquire (s : State) : State :=
    let s := setSync s .acquiring
    if far ∧ s.tu.stepEn then stepTime { s with tu := { s.tu with good := 0 } } (-theta)
    else
      let s := slew { s with tu := { s.tu with good := if near then s.tu.good + 1 else 0 } } theta clocks
      if 16 ≤ s.tu.good then setSync s .locked else s
  match s.tu.sync with
  | .freeRun => acquire s
  | .acquiring => acquire s
  | .locked =>
    let s := { s with tu := { s.tu with bad := if far then s.tu.bad + 1 else 0 } }
    if 4 ≤ s.tu.bad then acquire s else slew s theta clocks
  | .holdover => if far then acquire s else slew (setSync s .locked) theta clocks

/-- SYNC_STATE of a root (R287): LOCKED with TIME_SRC FABRIC; with PPS, LOCKED while PPS_LOCKED, else HOLDOVER; FREE_RUN in
clock fallback, as it has no parent. -/
def rootSync (s : State) : State :=
  setSync s (if s.sys.clockFallback then .freeRun else if s.tu.srcPps ∧ ¬ s.tu.ppsLocked then .holdover else .locked)

/-- The node becomes the time root, or takes the parent link `parent` (R287). -/
def setParent (s : State) (parent : Option Nat) : State :=
  match parent with
  | none =>
    let was := s.tu.hasParent
    let s := { s with tu := { s.tu with isRoot := true, hasParent := false, root := s.fab.nodeId, stratum := 0, ex := {} } }
    rootSync (if was then raiseSync s 4 (syncValue s) else s)
  | some l =>
    if s.tu.hasParent ∧ s.tu.parent = l then s
    else
      let s := { s with tu := { s.tu with isRoot := false, hasParent := true, parent := l, ex := {} } }
      raiseSync s 4 (syncValue s)

/-! ### Idle time -/

/-- What TIME gains while the block has nothing to do, in units of 2⁻³² ns: one TIME clock at the rate word; in HIBERNATE
one AON cycle of the measured period; in DEAD-FEED before REGEN, and while every other domain is held in reset, a nominal
AON cycle of 125 ns; nothing in OFF and while RESET_N is low (R283, R284, R429). -/
def idleGain (s : State) : Int :=
  match s.sys.held, s.sys.pstate with
  | .resetN, _ => 0
  | _, .off => 0
  | .no, .hibernate => (Config.rcPeriodFs * 4294967296 / 1000000 : Nat)
  | .no, .deadFeed => if s.sys.regen then 17179869184 + s.tu.rateAdj else 536870912000
  | .no, _ => 17179869184 + s.tu.rateAdj
  | _, _ => 536870912000

/-- The block idles: TIME goes on (R283), nothing else changes (log entry 5). -/
def idle (s : State) : State :=
  { s with tu := { s.tu with count := s.tu.count + BitVec.ofInt 96 (idleGain s) } }

end Sys2Proof.Machine
end

