-- ==== Sys2Proof/Machine/PowerOps.lean ====
section
/-!
DEFINITION. Machine/PowerOps.lean: reading and changing the PDEs, PPCs, converters, feeds and PBA blocks, the work of
the PMBus segments, the current limit, and power-path events (R168–R173, R194).
-/

namespace Sys2Proof.Machine

/-- The die temperature: the higher of the two readings, 0.1 °C (R492). -/
def State.die (s : State) : Int := max s.sys.dieTemp s.sys.dieTemp2

/-- A temperature that the PSC has judged: the higher reading (R492). -/
def setDie (s : State) (t : Int) : State :=
  { s with sys := { s.sys with dieTemp := t, dieTemp2 := min s.sys.dieTemp2 t } }

/-! ### Parts -/

/-- The PDE of port n: 1–32, 33 UA, 34 UB. -/
def State.pde (s : State) (n : Nat) : Pde := s.pdes.getD (n - 1) {}

def State.modPde (s : State) (n : Nat) (f : Pde → Pde) : State :=
  if n = 0 then s else { s with pdes := modAt s.pdes (n - 1) f }

/-- The PPC of port n: 1–32, 33 UA, 34 UB. -/
def State.ppc (s : State) (n : Nat) : Ppc := s.ppcs.getD (n - 1) {}

def State.modPpc (s : State) (n : Nat) (f : Ppc → Ppc) : State :=
  if n = 0 then s else { s with ppcs := modAt s.ppcs (n - 1) f }

/-- Converter n of 1–34 (R169). -/
def State.conv (s : State) (n : Nat) : Converter := s.convs.getD (n - 1) {}

def State.modConv (s : State) (n : Nat) (f : Converter → Converter) : State :=
  if n = 0 then s else { s with convs := modAt s.convs (n - 1) f }

/-- Converters 1–16 and 33 are on PMA, the others on PMB (R169). -/
def onSegB (n : Nat) : Bool := decide (17 ≤ n) && n != 33

def State.seg (s : State) (b : Bool) : Segment := if b then s.segB else s.segA

def State.modSeg (s : State) (b : Bool) (f : Segment → Segment) : State :=
  if b then { s with segB := f s.segB } else { s with segA := f s.segA }

/-- Feed A, or B when `b`. -/
def State.feed (s : State) (b : Bool) : Feed := if b then s.feedB else s.feedA

def State.modFeed (s : State) (b : Bool) (f : Feed → Feed) : State :=
  if b then { s with feedB := f s.feedB } else { s with feedA := f s.feedA }

/-- The PBA block of port n: 1–32, 33 UA, 34 UB. -/
def State.pb (s : State) (n : Nat) : PbaPort := s.pba.ports.getD (n - 1) {}

def State.modPb (s : State) (n : Nat) (f : PbaPort → PbaPort) : State :=
  if n = 0 then s else { s with pba := { s.pba with ports := modAt s.pba.ports (n - 1) f } }

/-- The upstream of port number 33 or 34. -/
def upOfPort (n : Nat) : Up := if n = 34 then .b else .a

/-- The port number of an upstream's power path: 33 or 34. -/
def portOfUp (u : Up) : Nat := 33 + u.code

/-- Port n is UA or UB. -/
def isUp (n : Nat) : Bool := decide (33 ≤ n)

/-- The port is tripped, its trip not cleared (R90, R186). -/
def tripped (s : State) (n : Nat) : Bool := (s.ppc n).tripK != 0

/-- The port has an allocation (R131): 2.5 W or more. -/
def allocated (s : State) (n : Nat) : Bool := decide (25 ≤ (s.pb n).alloc)

/-- The gate of the source path is raised: the states of R167 that hold it on. -/
def Ppc.gate (q : Ppc) : Bool :=
  match q.st with
  | .ramp => true | .on => true | .transition => true | .frozen => true | _ => false

/-- OV level of the voltage in force, mV (R180). -/
def Ppc.ovSelf (q : Ppc) : Nat := if q.safe5 then 6000 else q.mv * 115 / 100

/-- Lower edge of the window (R180). -/
def windowLow (q : Ppc) : Nat := if q.safe5 then 4750 else q.mv * 95 / 100

/-- Upper edge of the window (R180). -/
def windowHigh (q : Ppc) : Nat := if q.safe5 then 5500 else q.mv * 105 / 100

/-- DSCH_ASSIST on a downward transition: the bleeder is on while VBUS is above the new window's upper edge (R183). -/
def Ppc.assist (q : Ppc) (vbus : Nat) : Bool := decide (q.mv < q.oldMv) && q.set.dschAssist && decide (windowHigh q < vbus)

/-- PPC_STATE's number (R193). -/
def PpcSt.code : PpcSt → Nat
  | .off => 0 | .convCheck => 1 | .ramp => 2 | .on => 3 | .transition => 4 | .frozen => 5 | .tripped => 6
  | .discharge => 7

/-- A trigger of R209, with the cause of R219 that a change of budget would carry (0 where it changes none). -/
def pbaTrigger (s : State) (cause : Nat) : State :=
  { s with pba := { s.pba with trigger := some (match s.pba.trigger with | some c => max c cause | none => cause) } }

/-! ### PMBus (R168–R170) -/

/-- The initialisation sequence's command codes in order (R168). -/
def initCodes : List Nat := [0x20, 0x02, 0x01, 0x03, 0x24, 0x40, 0x27, 0x46, 0x47, 0x21, 0x01]

/-- The value that step k of the initialisation of converter n writes, in the units R168 names (R168). -/
def initValue (s : State) (n k : Nat) : Nat :=
  let v := (s.pde n).set.vmax
  let i := (s.pde n).set.imax
  match k with
  | 2 => 0x1F
  | 5 => v * 1050
  | 6 => v * 1150
  | 7 => (s.ppc n).set.convSlew * 100
  | 8 => i * 150
  | 9 => 0x80
  | 10 => 5000
  | 11 => 0x80
  | _ => 0

/-- The first converter of a segment with an initialisation step to run, in converter order (R169). -/
def nextInit (cs : List Converter) (b : Bool) : Nat → Option Nat
  | 0 => none
  | k + 1 =>
    match nextInit cs b k with
    | some n => some n
    | none => if onSegB (k + 1) = b ∧ (cs.getD k {}).init ≠ 0 then some (k + 1) else none

/-- An idle segment takes its next work by priority (R169). The PMBus host is held off on a chip of a pair that is not
ACTIVE (R224). -/
def segNext (s : State) (b : Bool) : State :=
  let g := s.seg b
  if !s.chipActive then s
  else match g.cur with
  | some _ => s
  | none =>
    match g.sets with
    | t :: ts => s.modSeg b (fun g => { g with cur := some (t, 0), sets := ts })
    | [] =>
      match nextInit s.convs b 34 with
      | some n =>
        let k := (s.conv n).init
        s.modSeg b (fun g => { g with
          cur := some ({ conv := n, code := initCodes.getD (k - 1) 0, value := initValue s n k, prio := 1 }, 0) })
      | none =>
        match g.alerts with
        | t :: ts => s.modSeg b (fun g => { g with cur := some (t, 0), alerts := ts })
        | [] =>
          match g.polls with
          | t :: ts => s.modSeg b (fun g => { g with cur := some (t, 0), polls := ts })
          | [] => s

/-- A setpoint or OPERATION write is ordered (R169); a converter that is not READY is not written (R168, R379), and only the
chip that hosts the segment writes (R223, R224). -/
def orderWrite (s : State) (n code value : Nat) : State :=
  if (s.conv n).cst = .ready ∧ s.chipActive then
    segNext (s.modSeg (onSegB n) (fun g => { g with
      sets := g.sets ++ [{ conv := n, code := code, value := value, prio := 0 }] })) (onSegB n)
  else s

/-- The OPERATION that the converter has, or will have when its ordered writes are done (R169). -/
def opOrdered (s : State) (n : Nat) : Bool :=
  let g := s.seg (onSegB n)
  let l := (match g.cur with | some (t, _) => [t] | none => []) ++ g.sets
  match (l.filter (fun t => t.conv == n && t.code == 1 && t.prio == 0)).getLast? with
  | some t => t.value == 0x80
  | none => (s.conv n).on

/-- VOUT_COMMAND, in mV. -/
def setVout (s : State) (n mv : Nat) : State := orderWrite s n 0x21 mv

/-- OPERATION, written only when it differs from the last (R169). -/
def setOp (s : State) (n : Nat) (on : Bool) : State :=
  if opOrdered s n = on then s else orderWrite s n 1 (if on then 0x80 else 0)

/-- Constant-current limits under a PPS contract, restored at its end (R168); mA. -/
def setCc (s : State) (n : Nat) (pps : Option Nat) : State :=
  match pps with
  | some ma => (orderWrite (orderWrite s n 0x46 ma) n 0x47 0).modConv n (fun c => { c with cc := true })
  | none =>
    if (s.conv n).cc then
      (orderWrite (orderWrite s n 0x46 ((s.pde n).set.imax * 150)) n 0x47 0x80).modConv n (fun c => { c with cc := false })
    else s

/-- CONV_SLEW goes to the converter at a transition when it has changed (R188), in mV/µs × 1000. -/
def setSlew (s : State) (n : Nat) : State :=
  if (s.conv n).slew = (s.ppc n).set.convSlew then s else orderWrite s n 0x27 ((s.ppc n).set.convSlew * 100)

/-- The METER island runs: in ACTIVE, TRIM and DOZE, in DEAD-FEED once REGEN is high, and with no domain held in reset
(R413, R414, R441). -/
def State.meterRuns (s : State) : Bool :=
  s.sys.held == .no && match s.sys.pstate with
  | .active => true | .trim => true | .doze => true | .deadFeed => s.sys.regen | .hibernate => false | .off => false

/-- PMA_EN and PMB_EN are high on this chip whenever its METER island runs (R164, R223); otherwise they float. -/
def State.segEn (s : State) : Bool := s.meterRuns

/-- The explicit contract of a PDE ends: constant current is restored (R168). -/
def dropContract (s : State) (n : Nat) : State := setCc (s.modPde n (fun d => { d with contract := none, pend := none })) n none

/-! ### Current limit (R172, R173) -/

/-- ILIM in mA (R172). -/
def ilimOf (q : Ppc) (imax : Nat) : Nat :=
  min (q.ic * (100 + q.set.margin) / 100)
    (min (imax * 125) (min (32000000 / max 1 q.rshunt) (q.icAlloc * 125000 / max 1 q.icMv)))

/-- Steps of a DAC, rounded to the nearest (R173): value and step in the same unit. -/
def nearest (v step : Nat) : Nat := (v + step / 2) / step

/-- VLIM's DAC code: steps of 31.25 µV, from mA × µΩ in nV (R173). -/
def vlimCode (q : Ppc) : Nat := nearest (q.ilim * q.rshunt) 31250

/-- The effective FT_PCT: the percentage that makes VFT 128 mV where the one written would exceed it (R173). -/
def ftEff (q : Ppc) : Nat :=
  let vlim := q.ilim * q.rshunt
  if q.set.ftPct * vlim ≤ 128000000 * 100 then q.set.ftPct else 128000000 * 100 / max 1 vlim

/-- VFT's DAC code: steps of 125 µV (R173). -/
def vftCode (q : Ppc) : Nat := nearest (q.ilim * q.rshunt * ftEff q / 100) 125000

/-- ILIM is formed anew from the contract and the settings that the PPC holds (R172, R188). -/
def relimit (s : State) (n : Nat) : State :=
  s.modPpc n (fun q => { q with ilim := ilimOf q (s.pde n).set.imax })

/-- The port has no CC use: style A, or EMBEDDED with CC_USE NONE (R130). -/
def noCc (s : State) (n : Nat) : Bool := (s.pde n).cc == .idle

/-- Rp level: 0 Default, 1 1.5 A, 2 3.0 A (R131, R142); 3 not presenting Rp (R373). -/
def rpLevel (s : State) (n : Nat) : Nat :=
  let d := s.pde n
  let byAlloc := let a := (s.pb n).alloc; if a < 75 then 0 else if a < 150 then 1 else 2
  match d.cc with
  | .idle => 3 | .errorRecovery => 3 | .deadBattery => 3 | .unattachedSnk => 3 | .attachWaitSnk => 3
  | .tryWaitSnk => 3 | .trySnk => 3 | .attachedSnk => 3
  | .tripped => 0 | .powerOff => 0 | .attachWaitCool => 0
  | .unattachedSrc => byAlloc | .attachWaitSrc => byAlloc | .trySrc => byAlloc | .tryWaitSrc => byAlloc
  | .attachedSrc =>
    if isUp n ∧ tripped s n then 0
    else if (match d.swap with | some w => w.fast && w.stage == 4 | none => false) then 3
    else if d.contract.isSome ∧ d.rev = some 2 then (if d.ng then 1 else 2) else byAlloc

/-- Ic of R172 with the contract of the PDE, or without one. -/
def icOf (s : State) (n : Nat) : Nat :=
  match (s.pde n).contract with
  | some c => c.ma
  | none =>
    if noCc s n then min ((s.pb n).alloc * 100000 / 5000) ((s.ppc n).aImax * 100)
    else
      let a := (s.pb n).alloc
      if a < 75 then (if n ≤ 8 then 900 else 500) else if a < 150 then 1500 else 3000

/-- The PPC takes the present contract and allocation into ILIM (R172, R183, R210). -/
def applyLimit (s : State) (n : Nat) : State :=
  let v := match (s.pde n).contract with | some c => c.mv | none => 5000
  relimit (s.modPpc n (fun q => { q with ic := icOf s n, icMv := v, icAlloc := (s.pb n).alloc })) n

/-! ### Power-path events (R194) -/

/-- Data of a power-path event; `old` is the PPC before the happening. -/
def powerData (q old : Ppc) (cool : Nat) : Nat :=
  uns 16 old.meter.ibus + at_ 16 (old.meter.vbus / 10 % 65536) + at_ 32 (old.ilim % 65536)
    + at_ 48 (min 255 q.trips) + at_ 56 (b2n old.set.auto)
    + at_ 57 (b2n (old.st == .transition || old.st == .frozen)) + at_ 58 (b2n (old.st == .ramp))
    + at_ 59 (b2n old.pg) + at_ 64 cool + at_ 80 (sat 16 (old.fault / 64))

/-- A power-path event of source offset k (R194); UA and UB raise it on their PD contract source. -/
def powerEvent (s : State) (n k code : Nat) (old : Ppc) (cool : Nat) : State :=
  let d := powerData (s.ppc n) old cool
  if isUp n then raiseUp s (upOfPort n) 6 (0x1000 + k * 0x100 + code) d
  else raisePort s n k code d

end Sys2Proof.Machine
end

