-- ==== Sys2Proof/Machine/HubOps.lean ====
section
/-!
DEFINITION. Machine/HubOps.lean: what an upstream sees of a port, descriptor parsing, buffer regions and their division,
the identity map entry, drains and discards, and the tunnel frames of a lend (R32, R43, R69, R90, R101, R116, R122).
-/

namespace Sys2Proof.Machine

/-! ### Regions of the endpoint store (R63–R67) -/

/-- Pages of the effective region of a type and owner; a region no entry names has 0 (R65 rule 8). -/
def State.pages (s : State) (kind owner ownerUp : Nat) : Nat :=
  match s.plan.regions.find? (fun r => r.kind == kind && r.owner == owner && r.ownerUp == ownerUp) with
  | some r => r.pages
  | none => 0

/-- OWNER_UP of a virtual port's region (R62). -/
def ownerUpCode (u : Up) : Nat := u.code + 1

/-- Pages of the proxy region of a device: PROXY of a physical port, BORROW of a virtual port. -/
def State.pxPages (s : State) : Loc → Nat
  | .phys p => s.pages 3 p 0
  | .virt u v => s.pages 5 v (ownerUpCode u)

/-! ### The mirror of a pair (R221, R228) -/

/-- A port whose data pair passes through the board's switch (R221). -/
def State.muxed (s : State) (p : Nat) : Bool := bit s.pair.set.wire (p - 1)

/-- MIRROR_GRAN in effect: TRANSFER (R245, R443). -/
def State.mirrorTransfer (s : State) : Bool :=
  s.pair.set.gran.getD (s.sys.profile == .throughput || s.sys.profile == .economy)

/-- FROZEN: the Ladle is down while the heartbeat is valid (R238). -/
def State.frozen (s : State) : Bool := s.isPair && !s.pair.ladle && s.pair.hbOk

/-- DEGRADE_CAUSE (R228, R230, R238, R242, R246): 6 partner lost, 4 Ladle down, a recorded cause, 2 MIRROR of 0 pages. -/
def State.degradeCause (s : State) : Nat :=
  if !s.isPair then 0
  else if s.pair.lost then 6
  else if s.frozen then 4
  else if s.pair.cause ≠ 0 then s.pair.cause
  else if s.pages 6 0 0 = 0 then 2
  else 0

/-- DEGRADED (R246). -/
def State.degraded (s : State) : Bool := s.degradeCause != 0

/-- The chip keeps a mirror: the ACTIVE one of a pair that is not DEGRADED, with its Ladle up and pages in the MIRROR region
(R226, R228, R451). -/
def State.mirrors (s : State) : Bool :=
  s.isPair && s.chipActive && s.pair.ladle && decide (0 < s.pages 6 0 0) && !s.degraded

/-! ### Proxies by location -/

def State.px (s : State) : Loc → Proxy
  | .phys p => (s.port p).px
  | .virt u v => (s.vport u v).px

def State.modPx (s : State) (l : Loc) (f : Proxy → Proxy) : State :=
  match l with
  | .phys p => s.modPort p (fun q => { q with px := f q.px })
  | .virt u v => s.modVPort u v (fun q => { q with px := f q.px })

def State.ident (s : State) : Loc → Ident
  | .phys p => (s.port p).id
  | .virt u v => (s.vport u v).id

def State.modId (s : State) (l : Loc) (f : Ident → Ident) : State :=
  match l with
  | .phys p => s.modPort p (fun q => { q with id := f q.id })
  | .virt u v => s.modVPort u v (fun q => { q with id := f q.id })

/-- The proxied device that an upstream's hub port number n names (R32, R42). -/
def locOf (u : Up) (n : Nat) : Loc := if 34 ≤ n then .virt u n else .phys n

/-- The number of a location's hub port. -/
def locPort : Loc → Nat
  | .phys p => p
  | .virt _ v => v

/-! ### Descriptors (R69, R98, R103–R105) -/

/-- The interfaces' endpoints of a configuration descriptor: (interface, alternate setting, endpoint). -/
def parseEps : Nat → List Byte → Nat → Nat → List (Nat × Nat × EpDesc)
  | 0, _, _, _ => []
  | fuel + 1, bs, i, a =>
    match bs with
    | l :: t :: _ =>
      let b (k : Nat) : Nat := (bs.getD k 0).toNat
      let n := max 2 l.toNat
      let rest := bs.drop n
      if t.toNat = 4 then parseEps fuel rest (b 2) (b 3)
      else if t.toNat = 5 then
        (i, a, { addr := b 2, kind := b 3 % 4, mps := (b 4 + 256 * b 5) % 2048, interval := b 6 })
          :: parseEps fuel rest i a
      else parseEps fuel rest i a
    | _ => []

/-- The interface numbers that a configuration descriptor names. -/
def parseIfaces : Nat → List Byte → List Nat
  | 0, _ => []
  | fuel + 1, bs =>
    match bs with
    | l :: t :: _ =>
      let rest := parseIfaces fuel (bs.drop (max 2 l.toNat))
      if t.toNat = 4 then
        let i := (bs.getD 2 0).toNat
        if rest.contains i then rest else i :: rest
      else rest
    | _ => []

/-- wTotalLength of a configuration descriptor. -/
def cfgLen (bs : List Byte) : Nat := leNat (slice bs 2 2)

/-- Configuration descriptors cut out of the cached bytes that follow the device descriptor (R104). -/
def splitCfgs : Nat → List Byte → List (List Byte)
  | 0, _ => []
  | n + 1, bs => bs.take (cfgLen bs) :: splitCfgs n (bs.drop (cfgLen bs))

/-- The cached configuration whose bConfigurationValue is `v`. -/
def cfgByValue (cache : List Byte) (num v : Nat) : Option (List Byte) :=
  (splitCfgs num (cache.drop 18)).find? (fun c => (c.getD 5 0).toNat == v)

/-- The endpoint directions of a configuration under the alternate settings selected. -/
def activeEps (cfg : List Byte) (alts : List Nat) : List (Nat × EpDesc) :=
  (parseEps cfg.length cfg 255 0).filterMap
    (fun x => if alts.getD x.1 0 = x.2.1 then some (x.1, x.2.2) else none)

/-- Insertion by endpoint address, ascending (R69). -/
def insertEp (e : Ep) : List Ep → List Ep
  | [] => [e]
  | x :: xs => if x.addr ≤ e.addr then x :: insertEp e xs else e :: x :: xs

/-- One buffer more to each direction in order, while the bytes left allow it; stops at the first that does not fit. -/
def giveOne : Nat → List Ep → Nat × List Ep
  | left, [] => (left, [])
  | left, e :: es =>
    if e.mps ≤ left then
      let r := giveOne (left - e.mps) es
      (r.1, { e with bufs := e.bufs + 1 } :: r.2)
    else (left, e :: es)

/-- Every direction has two buffers, so the rest may be shared (R69 step 2). -/
def allTwo (es : List Ep) : Bool := es.all (fun e => 2 ≤ e.bufs)

/-- The division of a region among endpoint directions (R69). -/
def divide (bytes : Nat) (es : List Ep) : List Ep :=
  let one := giveOne bytes (es.map (fun e => { e with bufs := 0 }))
  if one.2.all (fun e => 1 ≤ e.bufs) then
    let two := giveOne one.1 one.2
    if allTwo two.2 then
      let bulk := (two.2.filter (·.kind == 2)).length
      if bulk = 0 then two.2
      else two.2.map (fun e =>
        if e.kind = 2 then { e with bufs := e.bufs + (two.1 / bulk) / (max 1 e.mps) } else e)
    else two.2
  else one.2

/-- The endpoint list of a configured device, divided over its region; toggles DATA0, nothing held (R69, R111). -/
def freshEps (bytes mps0 : Nat) (eps : List (Nat × EpDesc)) : List Ep :=
  let ep0 : Ep := { addr := 0, kind := 0, mps := mps0 }
  let l := eps.foldl (fun a x =>
    insertEp { addr := x.2.addr, kind := x.2.kind, mps := x.2.mps, interval := x.2.interval, iface := x.1 } a) []
  divide bytes (ep0 :: l)

/-- Buffers of a re-division given to the endpoints that stay (R69, R111). -/
def rebuf (fresh : List Ep) (old : List Ep) : List Ep :=
  fresh.map (fun e =>
    match old.find? (·.addr == e.addr) with
    | some o => { o with bufs := e.bufs, mps := e.mps, kind := e.kind, interval := e.interval, iface := e.iface }
    | none => e)

def Proxy.ep (x : Proxy) (a : Nat) : Option Ep := x.eps.find? (·.addr == a)

def Proxy.modEp (x : Proxy) (a : Nat) (f : Ep → Ep) : Proxy :=
  { x with eps := x.eps.map (fun e => if e.addr = a then f e else e) }

/-- Bytes held in a proxy's endpoint buffers. -/
def Proxy.heldBytes (x : Proxy) : Nat :=
  x.eps.foldl (fun n e => e.held.foldl (fun m b => m + b.length) n) 0

/-- Every held packet discarded (R108, R111, R117). -/
def Proxy.dropHeld (x : Proxy) : Proxy :=
  { x with eps := x.eps.map (fun e => e.discard) }

/-- Held IN packets discarded (R116, R510). -/
def Proxy.dropIn (x : Proxy) : Proxy :=
  { x with eps := x.eps.map (fun e => if 128 ≤ e.addr then e.discard else e) }

/-- A control transfer runs. A SETUP that was ACKed while the port could not serve it, and waits, does not count. -/
def Ctrl.busy (c : Ctrl) : Bool := c.active && !c.later || c.wireOnly

/-- No OUT packet is held and no control transfer runs: the proxy has drained (R116). -/
def Proxy.drained (x : Proxy) : Bool := x.eps.all (fun e => 128 ≤ e.addr || e.held.isEmpty) && !x.ctrl.busy

/-! ### Control transfers (R112, R117) -/

/-- Fields of eight setup bytes. -/
def setupType (b : List Byte) : Nat := (b.getD 0 0).toNat
def setupReq (b : List Byte) : Nat := (b.getD 1 0).toNat
def setupValue (b : List Byte) : Nat := leNat (slice b 2 2)
def setupIndex (b : List Byte) : Nat := leNat (slice b 4 2)
def setupLength (b : List Byte) : Nat := leNat (slice b 6 2)

/-- The transfer has an IN data stage, or an OUT one; a wLength of 0 means that there is none (R112). -/
def setupIn (b : List Byte) : Bool := 128 ≤ setupType b && setupLength b != 0
def setupOut (b : List Byte) : Bool := setupType b < 128 && setupLength b != 0

/-- The host side of a control transfer is abandoned; what is on the device's wire goes on (R117). -/
def Ctrl.abandon (c : Ctrl) : Ctrl :=
  { wire := c.wire, wireTog := c.wireTog, moved := c.moved, onWire := c.onWire, inStatus := c.inStatus,
    wireOnly := !c.wire.isEmpty, cut := c.cut }

/-- The host side is abandoned and the wire side ends with the packet that is on the wire, if one is (R108, R112). -/
def Ctrl.cutOff (c : Ctrl) : Ctrl := if c.onWire then { c.abandon with cut := true } else {}

/-- The wire reset of a refill cuts the transfer on the wire. The host's transfer is made anew after the refill when none of
its data had moved; otherwise, for no replay could restore its place, it is answered STALL (DESIGN CHOICE, log entry 51). -/
def Ctrl.cutByReset (c : Ctrl) : Ctrl :=
  let host : Ctrl := { active := c.active, setup := c.setup, forwarded := c.forwarded, dataIn := c.dataIn,
                       statusReady := c.statusReady, stall := c.stall, hostTog := c.hostTog, later := c.later }
  if !c.active then {}
  else if !c.forwarded || c.statusReady || c.stall || c.later then host
  else if c.moved = 0 ∧ c.dataOut.isEmpty then { active := true, setup := c.setup, later := true }
  else { active := true, setup := c.setup, stall := true }

/-- The status stage of a control transfer on the device's wire: an empty OUT packet after IN data, else an IN token. -/
def statusWire (b : List Byte) (addr : Nat) : Wire := if setupIn b then .out 0 true [] else .token .inn addr 0

/-- An upstream bus reset or a change of owner: the host side is abandoned, and the wire side goes on through its status
stage, which starts now where the data stage waits for the host (R117). -/
def abandonCtrl (q : Port) : Port :=
  let c := q.px.ctrl.abandon
  if c.wireOnly && !c.onWire then
    { q with px := { q.px with ctrl := { c with onWire := true, inStatus := true } },
             wire := statusWire c.wire q.id.wireAddr }
  else { q with px := { q.px with ctrl := c } }

/-- DATA frames whose packets are discarded: a frame not yet acknowledged keeps its TSEQ and carries the discard in
their place, so that the numbers stay whole (R111, R117, R122). -/
def Tunnel.dropData (t : Tunnel) (hit : Nat → Bool) : Tunnel :=
  { t with
    held := t.held.map (fun x => if x.2.1 = 0 ∧ hit x.2.2.1 then (x.1, 0xE, x.2.2.1, []) else x),
    rxPend := t.rxPend.filter (fun x => !hit x.1) }

/-! ### What an upstream sees (R32, R90) -/

/-- The upstream presents the function: a USB 2.0 link that is connected, or a SuperSpeed link in U0–U3 (R31). -/
def Upstream.has (x : Upstream) : Fn → Bool
  | .ss => x.ssLink == .u0 || x.ssLink == .u1 || x.ssLink == .u2 || x.ssLink == .u3
  | _ => x.link != .detached

def Upstream.view (x : Upstream) (n : Nat) : PortView := x.views.getD (n - 1) {}

def State.modView (s : State) (u : Up) (n : Nat) (f : PortView → PortView) : State :=
  if n = 0 then s else s.modUp u (fun x => { x with views := modAt x.views (n - 1) f })

def Upstream.ssView (x : Upstream) (n : Nat) : SsView := x.ssViews.getD (n - 1) {}

def State.modSsView (s : State) (u : Up) (n : Nat) (f : SsView → SsView) : State :=
  if n = 0 then s else s.modUp u (fun x => { x with ssViews := modAt x.ssViews (n - 1) f })

/-- The upstream owns physical port p. -/
def State.owns (s : State) (u : Up) (p : Nat) : Bool := (s.port p).id.owner == upOwner u

/-- A device is there for the owner to see, the owner's PORT_POWER bit apart (R90, R100). -/
def wireConn (q : Port) : Bool :=
  !q.cmdReset && match q.id.eff with
  | .translated =>
    match q.id.st with
    | .presented => true | .live => true | .refilling => true | .draining => true | _ => false
  | .transparent =>
    match q.dpe with
    | .unpowered => false | .disconnected => false | .testing => q.testView.1 | _ => true

/-- CONNECTION that upstream u reads for its USB 2.0 hub port n (R32, R90, R126, R127). -/
def State.conn (s : State) (u : Up) (n : Nat) : Bool :=
  if n = 33 then true
  else ((s.up u).view n).power &&
    (if 34 ≤ n then (s.vport u n).shown && !(s.vport u n).hidden
     else s.owns u n && wireConn (s.port n))

/-- A change of CONNECTION sets C_PORT_CONNECTION (R91). -/
def syncConn (s : State) (u : Up) (n : Nat) : State :=
  let c := s.conn u n
  if c = ((s.up u).view n).conn then s
  else s.modView u n (fun v => { v with conn := c, cConn := true })

/-- The same towards both upstreams, for a physical port. -/
def syncPort (s : State) (p : Nat) : State := syncConn (syncConn s .a p) .b p

/-- A SuperSpeed link that the hub function shows as a connection (R92; log entry 8). -/
def linkConn : Link → Bool
  | .u0 => true | .u1 => true | .u2 => true | .u3 => true | .recovery => true | .hotReset => true | _ => false

/-- Connection of SuperSpeed hub port n (R32, R99). -/
def State.ssConn (s : State) (u : Up) (n : Nat) : Bool :=
  s.owns u n && ((s.up u).ssView n).power && (s.port n).id.eff == .transparent && linkConn (s.spe n).st

def syncSs (s : State) (u : Up) (n : Nat) : State :=
  let c := s.ssConn u n
  if c = ((s.up u).ssView n).conn then s
  else s.modSsView u n (fun v => { v with conn := c, cConn := true })

def syncSsPort (s : State) (p : Nat) : State := if 8 < p then s else syncSs (syncSs s .a p) .b p

/-- The upstream whose hub shows port p, if one does. -/
def ownerUp (q : Port) : Option Up :=
  match q.id.owner with
  | .upA => some .a | .upB => some .b | _ => none

/-- A change bit towards the owner of port p (R91). -/
def setChange (s : State) (p : Nat) (f : PortView → PortView) : State :=
  match ownerUp (s.port p) with
  | some u => s.modView u p f
  | none => s

/-- The signalling that a change of PAIR_WIRE waited for has ended on port p: its bit takes effect (R384). -/
def settleWire (s : State) (p : Nat) : State :=
  match s.pair.wireNext with
  | none => s
  | some w =>
    let old := s.pair.set.wire
    let new := old - at_ (p - 1) (b2n (bit old (p - 1))) + at_ (p - 1) (b2n (bit w (p - 1)))
    { s with pair :=
      { s.pair with set := { s.pair.set with wire := new }, wireNext := if new = w then none else some w } }

/-! ### Events of a port -/

/-- Data of CONNECT (R295). -/
def connectData (q : Port) (wake : Bool) : Nat := q.id.speed.code + at_ 2 (b2n wake) + at_ 8 q.id.owner.code

/-- Data of SLEEP and LFPS wake (R86). -/
def sleepData (wake : Nat) (host : Bool) (left owner : Nat) (delta : Int) (dur : Nat) : Nat :=
  wake + at_ 8 (b2n host) + at_ 16 left + at_ 24 owner + at_ 32 (uns 32 delta) + at_ 64 (sat 16 dur)

/-- WAKE_SRC of a resume (R86). -/
def wakeSrc (r : Resume) : Nat := if r.delta.isSome then 2 else b2n r.host

/-- The record of a resume that ends now, at its owning instant (R86): DURATION is the time for which the port drove K,
in whole µs, to the nearest (the second figure of the chapter's example). -/
def resumeEvent (s : State) (p : Nat) (r : Resume) (code : Nat) : State :=
  raiseAt s r.stamp ((p - 1) * 10 + 6) code
    (sleepData (wakeSrc r) r.host r.left r.owner.code (r.delta.getD 0) ((s.ticks - r.kAt + 500) / 1000))

/-- A running resume is abandoned (R87). -/
def abandonResume (s : State) (p : Nat) : State :=
  match (s.port p).resume with
  | none => s
  | some r => (resumeEvent s p r 4).modPort p (fun q => { q with resume := none })

/-- OWNER event (R129). -/
def ownerEvent (s : State) (p code : Nat) (old : Owner) (cause discarded : Nat) : State :=
  let d := (s.port p).id
  let lent := old == .lent || d.owner == .lent
  raisePort s p 9 code (old.code + at_ 8 d.owner.code + at_ 16 (if lent then d.lendNode else 0)
    + at_ 24 (if lent then d.lendVport else 0) + at_ 32 (if lent then d.lendUp.code else 0xFF) + at_ 40 cause
    + at_ 48 d.generation.toNat + at_ 64 (sat 32 discarded))

/-! ### The wire and the identity entry -/

/-- The mode in effect for a device that connects now (R97, R98). -/
def effMode (s : State) (p : Nat) : Mode :=
  if (s.port p).id.mode = .translated ∧ 0 < s.pages 4 p 0 then .translated else .transparent

/-- The charging port a style-A port offers (R76): 0 SDP, 1 DCP, 2 CDP. -/
def chargeMode (s : State) (q : Port) : Nat :=
  if q.style = .a then
    match q.charge with
    | .off => 0
    | .dcpOnly => 1
    | .auto => match ownerUp q with
      | some u => if (s.up u).hubCfg ≠ 0 then 2 else 1
      | none => 1
  else 0

/-- In DISCONNECTED or UNPOWERED the charging mode is evaluated anew (R76). -/
def recharge (s : State) (p : Nat) : State :=
  let q := s.port p
  match q.dpe with
  | .unpowered => s.modPort p (fun q => { q with chargeNow := chargeMode s q })
  | .disconnected => s.modPort p (fun q => { q with chargeNow := chargeMode s q })
  | _ => s

/-- No device is on the port: VACANT, and neither the wire nor a SuperSpeed link holds one (R97, R100). -/
def vacantNow (s : State) (p : Nat) : Bool :=
  (s.port p).id.st == .vacant && ((s.port p).dpe == .unpowered || (s.port p).dpe == .disconnected)
    && !(decide (p ≤ 8) && linkConn (s.spe p).st)

/-! ### Tunnel frames (R122, R274) -/

def State.tun (s : State) : Loc → Tunnel
  | .phys p => (s.port p).tun
  | .virt u v => (s.vport u v).tun

def State.modTun (s : State) (l : Loc) (f : Tunnel → Tunnel) : State :=
  match l with
  | .phys p => s.modPort p (fun q => { q with tun := f q.tun })
  | .virt u v => s.modVPort u v (fun q => { q with tun := f q.tun })

/-- KSPEC of a tunnel frame (R274): VIDX in 69:67, UP 70, EP 74:71, DIR 75, TOP 79:76, TSEQ 95:80. -/
def tunSpec (t : Tunnel) (ep top : Nat) (seq : BitVec 16) : Nat :=
  (t.vport - 34) + at_ 3 t.up.code + at_ 4 (ep % 16) + at_ 8 (ep / 128) + at_ 9 top + at_ 13 seq.toNat

/-- A tunnel frame to the other half; `keep` holds it until it is acknowledged (R122). -/
def sendTun (s : State) (l : Loc) (top ep : Nat) (payload : List Byte) (keep : Bool := true) : State :=
  let t := s.tun l
  if t.vport = 0 then s
  else
    let s := sendTo s 3 0x30 t.node (tunSpec t ep top t.txSeq) payload
    s.modTun l (fun t => { t with
      txSeq := t.txSeq + 1,
      held := if keep then t.held ++ [(t.txSeq, top, ep, payload)] else t.held })

/-- A frame that acknowledges TSEQ `seq` (R122); acknowledgements are not themselves acknowledged. -/
def ackTun (s : State) (l : Loc) (ep : Nat) (seq : BitVec 16) : State :=
  let t := s.tun l
  if t.vport = 0 then s else sendTo s 3 0x30 t.node (tunSpec t ep 2 seq) []

/-- Data of the upstream's configuration-change event for a virtual port (R129, R295). R295 says "with the data of R129"
and no more: OLD_OWNER and NEW_OWNER both read LENT, which is what the port is while the virtual port exists, CAUSE and
DISCARDED 0 (DESIGN CHOICE, log entry 43). -/
def vportData (v : VPort) (u : Up) (n : Nat) : Nat :=
  2 + at_ 8 2 + at_ 16 v.tun.node + at_ 24 n + at_ 32 u.code + at_ 48 v.id.generation.toNat

/-- The borrower frees a virtual port: a disconnect, then VPORT_REMOVED (R124, R127). -/
def freeVPort (s : State) (u : Up) (n : Nat) : State :=
  let v := s.vport u n
  if v.used then
    let s := s.modVPort u n (fun _ => {})
    syncConn (raiseUp s u 3 4 (vportData v u n)) u n
  else s

end Sys2Proof.Machine
end

