-- ==== Sys2Proof/Machine/EventOps.lean ====
section
/-!
DEFINITION. Machine/EventOps.lean: freeing and reading the queues' records, records as received bytes, merging remote
records, and gaps in what a sender sends (R302–R309).
-/

namespace Sys2Proof.Machine

/-- Frees `n` records at the front of a queue (R302, R307, R308). -/
def Queue.free (q : Queue) (cap n : Nat) : Queue :=
  ({ q with recs := q.recs.drop n, sent := q.sent - n, fetched := q.fetched - n } : Queue).settle cap

/-- The queue an identifier names. -/
def State.queue (s : State) : QueueId → Queue
  | .a => s.ev.qa
  | .b => s.ev.qb
  | .sideband => s.ev.qsb
  | .fabric => s.ev.qfab
  | .journal => s.ev.qj

def State.modQueue (s : State) (i : QueueId) (f : Queue → Queue) : State :=
  match i with
  | .a => { s with ev := { s.ev with qa := f s.ev.qa } }
  | .b => { s with ev := { s.ev with qb := f s.ev.qb } }
  | .sideband => { s with ev := { s.ev with qsb := f s.ev.qsb } }
  | .fabric => { s with ev := { s.ev with qfab := f s.ev.qfab } }
  | .journal => { s with ev := { s.ev with qj := f s.ev.qj } }

/-- Records that a queue holds: 1,024, and 256 in the journal writer's buffer (R302, R320). -/
def queueCap : QueueId → Nat
  | .journal => 256
  | _ => 1024

/-- The 8-byte status block of a queue (R302). -/
def Queue.status (q : Queue) : List Byte :=
  leBytes 8 (q.recs.length + at_ 16 q.next.toNat + at_ 32 q.coal.length + at_ 39 (b2n q.overflowing) + at_ 48 (sat 16 q.lost))

/-- The queue of an upstream. -/
def upQueue : Up → QueueId
  | .a => .a
  | .b => .b

/-- A record of 32 bytes read back (R293); `rb` is the route byte it takes here. -/
def recOf (b : List Byte) (rb : Nat) : EvRec :=
  let sc := leNat (slice b 11 1)
  { time := leNat (b.take 8), source := leNat (slice b 8 2), node := leNat (slice b 10 1), severity := sc % 16,
    cls := sc / 16, code := leNat (slice b 12 2), data := BitVec.ofNat 96 (leNat (slice b 16 12)),
    qseq := BitVec.ofNat 16 (leNat (slice b 14 2)), rb := rb, irq := bit rb 5 && bit rb 2 }

/-- REMOTE_ROUTE as a route byte: QA, QB, QSB, JOURNAL and IRQ (R303). -/
def State.remoteByte (s : State) : Nat :=
  let r := s.ev.remoteRoute
  r % 8 + at_ 4 (bits r 3 3) + at_ 5 (bits r 4 4)

/-- A remote record waits out MERGE_HOLD in key order; one that comes after later records have left is stored at once
(R309). -/
def mergeRec (s : State) (r : EvRec) : State :=
  match s.ev.lastOut with
  | some x => if keyLe r x then deliverRec s r else { s with ev := { s.ev with merge := insertRec r s.ev.merge } }
  | none => { s with ev := { s.ev with merge := insertRec r s.ev.merge } }

/-- The next sequence number expected from a sender. -/
def State.expected (s : State) (src : Nat) : Option Nat := (s.ev.senders.find? (·.1 == src)).map (·.2)

def setExpected (s : State) (src v : Nat) : State :=
  { s with ev := { s.ev with senders := (src, v % 65536) :: s.ev.senders.filter (·.1 != src) } }

/-- EVENT_FETCH of a sender's fabric-forward queue from a sequence number on: QUEUE 3, PEEK (R309, R390). -/
def askGap (s : State) (src first count : Nat) : State :=
  let tag := s.cmd.nextFabTag
  let s := { s with cmd := { s.cmd with nextFabTag := tag + 1 },
                    ev := { s.ev with gaps := s.ev.gaps ++ [(src, tag.toNat, first, count)] } }
  sendSegs s 0x10 src tag.toNat
    (packetBytes 0x0800 tag.toNat src 0 0 (leBytes 5 (3 + at_ 8 1 + at_ 16 first + at_ 32 (min 127 count))))

/-- A source-431 LOST record for records of a sender that are gone (R309); it goes to the collector's own queues. -/
def lostRemote (s : State) (src count : Nat) : State :=
  if count = 0 then s
  else deliverRec s
    { time := s.now, source := 431, node := s.fab.nodeId, severity := 3, cls := 9, code := 3,
      data := BitVec.ofNat 96 (sat 32 count + at_ 32 src), rb := s.remoteByte,
      irq := bit s.remoteByte 5 && bit s.remoteByte 2 }

/-- Records cut out of a payload, each `n` bytes long. -/
def cutRecs (n : Nat) : Nat → List Byte → List (List Byte)
  | 0, _ => []
  | f + 1, bs => if bs.length < n ∨ n = 0 then [] else bs.take n :: cutRecs n f (bs.drop n)

/-- The answer to a gap's EVENT_FETCH: FIRST_SEQ, N and the records; those before FIRST_SEQ are lost (R390). -/
def gapAnswer (s : State) (src tag : Nat) (payload : List Byte) : State :=
  match s.ev.gaps.find? (fun g => g.1 == src && g.2.1 == tag) with
  | none => s
  | some (_, _, first, count) =>
    let s := { s with ev := { s.ev with gaps := s.ev.gaps.filter (fun g => !(g.1 == src && g.2.1 == tag)) } }
    let start := leNat (slice payload 4 2)
    let lost := min count ((start + 65536 - first) % 65536)
    let recs := (cutRecs 32 127 (payload.drop 8)).take (count - lost)
    let s := lostRemote s src lost
    let rb := s.remoteByte
    let s := recs.foldl (fun s b => mergeRec s { recOf b rb with remote := true }) s
    let got := lost + recs.length
    if got < count ∧ 0 < recs.length then askGap s src ((first + got) % 65536) (count - got) else s

end Sys2Proof.Machine
end

