-- ==== Sys2Proof/Machine/CrockRows.lean ====
section
/-!
DEFINITION. Machine/CrockRows.lean: the journal writer, user-area lines and the clearing of first-fault slots
(R313–R328).
-/

namespace Sys2Proof.Machine

/-! ### Lines of the Crock -/

/-- 64 bytes of a slot, or a line's bytes, at the place that serves it (R316). -/
def putPlaced (s : State) (a : Nat) (bs : List Byte) : State := crockWrite s (placed s.crock a) bs

/-- The address lies in the user area (R311). -/
def inUser (a : Nat) : Bool := decide (0x3B0000 ≤ a) && decide (a < 0x3F0000)

/-- A write into the user area makes its block used; source 427 USER_90 is raised when the 58th block becomes used, and
again only after the count has fallen below 58 (R327). -/
def markUsed (s : State) (a : Nat) : State :=
  let b := (a - 0x3B0000) / 4096
  if s.crock.used.contains b then s
  else
    let n := s.crock.used.length + 1
    let tell := decide (58 ≤ n) && !s.crock.userTold
    let s := { s with crock := { s.crock with used := b :: s.crock.used, userTold := decide (58 ≤ n) } }
    if tell then raise s 427 3 (4 * n) else s

/-- One 16-byte line written at the place that serves it (R313, R316, R317). -/
def putLine (s : State) (a : Nat) (bs : List Byte) : State :=
  let s := putPlaced s a bs
  if inUser a then
    let recent := s.crock.lineAt.filter (fun x => x.1 != a && decide (s.ticks < x.2 + 20000))
    markUsed { s with crock := { s.crock with lineAt := (a, s.ticks) :: recent } } a
  else s

/-- A user-area line may be written now: 20 µs have passed since its last write, and none of its writes waits (R317). -/
def lineReady (s : State) (a : Nat) : Bool :=
  !(inUser a && (s.crock.lineWait.any (·.1 == a) || s.crock.lineAt.any (fun x => x.1 == a && decide (s.ticks < x.2 + 20000))))

/-! ### Journal records -/

/-- Source 426: DROPPED in bits 31:0, the address of the failing slot from bit 32. -/
def crockData (s : State) (addr : Nat) : Nat := sat 32 s.crock.dropped + at_ 32 addr

/-- A record is dropped and counted (R316). -/
def dropRecord (s : State) : State :=
  { s with crock := { s.crock with dropped := min (2 ^ 32 - 1) (s.crock.dropped + 1) } }

/-- A first-fault slot is free when it holds no valid record of the epoch (R323). -/
def ffFree (s : State) (k : Nat) : Bool :=
  let b := slotBytes s k
  b.all (· == 0) || !slotValid b || slotEpoch b != s.paired plEpoch % 65536

/-- The next free first-fault slot from k on. -/
def ffFind (s : State) : Nat → Nat → Nat
  | 0, k => k
  | f + 1, k => if 1024 ≤ k then 1024 else if ffFree s k then k else ffFind s f (k + 1)

/-- The first-fault copy, written before the ring copy; source 427 when the 768th or the 1,024th slot is taken (R323). -/
def putFirst (s : State) (bs : List Byte) : State :=
  let k := s.crock.ffNext
  let s := putPlaced s (slotAddr k) bs
  let n := s.crock.ffUsed + 1
  let s := { s with crock := { s.crock with ffUsed := n, ffNext := ffFind s 1024 (k + 1) } }
  if n = 768 then raise s 427 1 n else if n = 1024 then raise s 427 2 n else s

/-- The number of records that failed in a row; 16 declare an MRAM fault (R316). -/
def failedOnce (s : State) : State :=
  let n := min 16 (s.crock.failing + 1)
  { s with crock := { s.crock with failing := n, fault := s.crock.fault || decide (16 ≤ n) } }

/-- The ring copy of record `j`, at the place its slot has now. -/
def putRing (s : State) (j : Nat) (bs : List Byte) : State := putPlaced s (slotAddr (ringSlot j)) bs

/-- A record is written: its first-fault copy, then its ring copy (R321, R323); a line that fails twice remaps the slot
to the next spare, and with no spare left the record is dropped (R316). -/
def writeRecord (s : State) (r : EvRec) (res : LineRes) : State :=
  let j := s.crock.jseqNext.toNat
  let first := decide (4 ≤ r.severity) && decide (s.crock.ffNext < 1024)
  let bs := journalBytes s r first j
  let s := if first then putFirst s bs else s
  let addr := slotAddr (ringSlot j)
  let s := match res with
    | .good => putRing { s with crock := { s.crock with failing := 0 } } j bs
    | _ =>
      let s := failedOnce s
      if s.crock.bad.length < 512 then
        let s := { s with crock := { s.crock with bad := s.crock.bad ++ [addr] } }
        raise (putRing s j bs) 426 1 (crockData s addr)
      else
        let s := dropRecord s
        raise s 426 1 (crockData s addr)
  { s with crock := { s.crock with jseqNext := s.crock.jseqNext + 1, oldest := max s.crock.oldest (j + 1 - 31744) } }

/-- The MRAM controller reports an internal fault (R316); it stands as 16 failures in a row do. -/
def declareFault (s : State) : State := { s with crock := { s.crock with failing := 16, fault := true } }

/-- JOURNAL_RECORD_WRITE: the writer takes the oldest record of its buffer (R313–R323). With VDDNV invalid it starts
none; in an MRAM fault it takes records and drops them. -/
def journalRecordWrite (res : LineRes) (s : State) : State :=
  match s.ev.qj.recs with
  | [] => s
  | r :: _ =>
    if !s.crock.nvOk && !s.crock.fault then s
    else
      let s := s.modQueue .journal (fun q => q.free 256 1)
      let s := if res = .controllerFault then declareFault s else s
      if s.crock.fault then dropRecord s else writeRecord s r res

def execJournalRecordWrite (res : LineRes) (s : State) : Res := leaves s (journalRecordWrite res s)

/-- DROPPED_REPORT: once per second while records are dropped, a record that goes to the queues and not to the journal
(R316). -/
def droppedReport (s : State) : State :=
  if s.crock.fault && decide (0 < s.crock.dropped) then
    let r := mkRec s s.now 426 2 (crockData s 0)
    captureRec s { r with rb := r.rb - at_ 4 (bits r.rb 4 4) }
  else s

def execDroppedReport (s : State) : Res := leaves s (droppedReport s)

/-- VDDNV_FALL: below 1.71 V the writer starts no new record or line; VDDNV invalid while the chip runs is an MRAM fault
(R314, R316). -/
def vddnvFall (s : State) : State := { s with crock := { s.crock with nvOk := false, fault := true } }

def execVddnvFall (s : State) : Res := leaves s (vddnvFall s)

/-- The command that waits for user-area lines has one line fewer to wait for; with none left it completes (R317, R397). -/
def lineDone (s : State) : State :=
  match s.crock.writes with
  | [] => s
  | (num, left, resp) :: rest =>
    if 1 < left then { s with crock := { s.crock with writes := (num, left - 1, resp) :: rest } }
    else finishWait { s with crock := { s.crock with writes := rest } } num (.ok resp)

/-- A user-area line that fails its verification twice moves to the next spare, where it is written; with no spare left it
is left unwritten (R316). -/
def badLine (s : State) (a : Nat) (bs : List Byte) : State :=
  if s.crock.bad.length < 512 then
    raise (putLine { s with crock := { s.crock with bad := s.crock.bad ++ [a] } } a bs) 426 1 (crockData s a)
  else raise s 426 1 (crockData s a)

/-- The user-area line that waits longest is written (R316, R317). -/
def userLineWrite (res : LineRes) (s : State) : State :=
  match s.crock.lineWait with
  | [] => s
  | (a, bs) :: rest =>
    if !s.crock.nvOk then s
    else
      let s := { s with crock := { s.crock with lineWait := rest } }
      match res with
      | .good => lineDone (putLine s a bs)
      | .remapped => lineDone (badLine s a bs)
      | .controllerFault => lineDone (badLine (declareFault s) a bs)

/-- How the MRAM takes a user-area line, from a free value: no command says it (R313, R316; log entry 66). -/
def lineVerdict (n : Nat) : LineRes :=
  match n % 3 with
  | 0 => .good
  | 1 => .remapped
  | _ => .controllerFault

/-- USER_LINE_WRITE: the oldest waiting line is written where one waits and VDDNV is valid, as the MRAM takes it (R316, R317). -/
def nextLineWrite (s : State) : State :=
  if s.crock.nvOk && !s.crock.lineWait.isEmpty then userLineWrite (lineVerdict s.free) s.drawn else s

def execUserLineWrite (s : State) : Res := leaves s (nextLineWrite s)

/-- FF_SLOT_ZEROING: zeros over a freed first-fault slot, unless a record of the present epoch stands in it (R324). -/
def ffSlotZeroing (s : State) : State :=
  match s.crock.ffZero with
  | [] => s
  | k :: rest =>
    if !s.crock.nvOk then s
    else
      let s := { s with crock := { s.crock with ffZero := rest } }
      if ffFree s k then putPlaced s (slotAddr k) (zeros 64) else s

def execFfSlotZeroing (s : State) : Res := leaves s (ffSlotZeroing s)

/-- The first-fault area is cleared: a new FF_EPOCH, every slot free, the old slots to be zeroed (R324). -/
def clearFirstFaults (s : State) : State :=
  let old := (listedSlots s.crock.mem).filter (· < 1024)
  let e := (s.paired plEpoch + 1) % 65536
  let s := setPaired s plEpoch e
  { s with crock := { s.crock with ffUsed := 0, ffNext := 0, ffZero := old } }

end Sys2Proof.Machine
end

