-- ==== Sys2Proof/Machine/Ecdsa.lean ====
section
/-!
DEFINITION. Machine/Ecdsa.lean: the check of an ECDSA P-256 signature and of a point of the curve (R404, R406, R408).
Numbers are naturals below the modulus; recursion is on fuel, at most 256 bits.
-/

namespace Sys2Proof.Machine

/-- The prime of the field of P-256. -/
def p256 : Nat := 2 ^ 256 - 2 ^ 224 + 2 ^ 192 + 2 ^ 96 - 1

/-- The order of its base point. -/
def p256n : Nat := 0xffffffff00000000ffffffffffffffffbce6faada7179e84f3b9cac2fc632551

/-- Its constant b. -/
def p256b : Nat := 0x5ac635d8aa3a93e7b3ebbd55769886bc651d06b0cc53b0f63bce3c3e27d2604b

/-- Its base point. -/
def p256g : Nat × Nat :=
  (0x6b17d1f2e12c4247f8bce6e563a440f277037d812deb33a0f4a13945d898c296,
   0x4fe342e2fe1a7f9b8ee7eb4a7c0f9e162bce33576b315ececbb6406837bf51f5)

/-- a ^ e mod m by repeated squaring, over `fuel` bits of e. -/
def powMod (m : Nat) : Nat → Nat → Nat → Nat
  | 0, _, _ => 1 % m
  | fuel + 1, a, e =>
    let h := powMod m fuel (a * a % m) (e / 2)
    if e % 2 = 1 then h * a % m else h

/-- The inverse modulo a prime. -/
def invMod (m a : Nat) : Nat := powMod m 256 (a % m) (m - 2)

/-- The sum of two points; `none` is the point at infinity. -/
def ecAdd : Option (Nat × Nat) → Option (Nat × Nat) → Option (Nat × Nat)
  | none, q => q
  | p, none => p
  | some (x1, y1), some (x2, y2) =>
    if x1 = x2 ∧ (y1 + y2) % p256 = 0 then none
    else
      let l := if x1 = x2 then (3 * x1 * x1 + (p256 - 3)) * invMod p256 (2 * y1) % p256
        else (y2 + (p256 - y1)) * invMod p256 (x2 + (p256 - x1)) % p256
      let x := (l * l + 2 * p256 - x1 - x2) % p256
      some (x, (l * (x1 + (p256 - x)) + (p256 - y1)) % p256)

/-- k times a point, over `fuel` bits of k. -/
def ecMul : Nat → Nat → Option (Nat × Nat) → Option (Nat × Nat)
  | 0, _, _ => none
  | fuel + 1, k, q =>
    let r := ecMul fuel (k / 2) (ecAdd q q)
    if k % 2 = 1 then ecAdd q r else r

/-- The point lies on the curve. -/
def onCurve (x y : Nat) : Bool :=
  decide (x < p256) && decide (y < p256) && y * y % p256 == (x * x * x + (p256 - 3) * x + p256b) % p256

/-- The signature (r, s) over a hash is valid under the public point. -/
def ecdsaOk (q : Nat × Nat) (hash : Nat) (r s : Nat) : Bool :=
  if r = 0 ∨ s = 0 ∨ p256n ≤ r ∨ p256n ≤ s ∨ !onCurve q.1 q.2 then false
  else
    let w := invMod p256n s
    match ecAdd (ecMul 256 (hash * w % p256n) (some p256g)) (ecMul 256 (r * w % p256n) (some q)) with
    | none => false
    | some (x, _) => x % p256n == r

end Sys2Proof.Machine
end

