-- ==== Sys2Proof/Machine/Flags.lean ====
section
/-!
DEFINITION. Machine/Flags.lean: status words: wPortStatus and wPortChange of a hub port (R42, R90–R92).
The bit places are those of the USB 2.0 and USB 3.2 hub classes (PRESUMED, log entry 9).
-/

namespace Sys2Proof.Machine

/-- SUSPEND of R90. -/
def dpeSuspend (q : Port) : Bool :=
  match q.dpe with
  | .suspended => true
  | .resuming => (q.resume.map (·.left == 0)).getD false
  | _ => false

/-- L1 of R90. -/
def dpeL1 (q : Port) : Bool :=
  match q.dpe with
  | .sleeping => true
  | .resuming => (q.resume.map (·.left == 1)).getD false
  | _ => false

/-- ENABLE of R90 on a transparent port. -/
def dpeEnable (q : Port) : Bool :=
  match q.dpe with
  | .enabled => true | .sleeping => true | .suspended => true | .resuming => true
  | .testing => q.testView.2
  | _ => false

/-- wPortStatus of a live physical port (R90, R108–R110, R510). `oc` is PORT_OVER_CURRENT. -/
def physStatus (q : Port) (conn oc : Bool) : Nat :=
  let en := match q.id.eff with
    | .translated => q.px.viewEn && !q.px.viewDis && !q.px.vreset && !q.px.realReset
    | .transparent => dpeEnable q
  let rst := match q.id.eff with
    | .translated => q.px.vreset || q.px.realReset
    | .transparent => q.dpe == .resetting
  let sus := match q.id.eff with
    | .translated => en && dpeSuspend q
    | .transparent => dpeSuspend q
  let l1 := match q.id.eff with
    | .translated => en && dpeL1 q && !q.pxL1
    | .transparent => dpeL1 q
  b2n conn + at_ 1 (b2n (conn && en)) + at_ 2 (b2n (conn && sus)) + at_ 3 (b2n oc) + at_ 4 (b2n (conn && rst))
    + at_ 5 (b2n (conn && l1)) + at_ 9 (b2n (conn && q.id.speed == .ls)) + at_ 10 (b2n (conn && q.id.speed == .hs))
    + at_ 11 (b2n (q.dpe == .testing))

/-- wPortStatus of a virtual port (R32, R123, R126). -/
def virtStatus (v : VPort) (conn : Bool) : Nat :=
  let en := v.px.viewEn && !v.px.viewDis && !v.px.vreset && !v.px.realReset
  b2n conn + at_ 1 (b2n (conn && en)) + at_ 2 (b2n (conn && en && v.susp))
    + at_ 4 (b2n (conn && (v.px.vreset || v.px.realReset)))
    + at_ 9 (b2n (conn && v.id.speed == .ls)) + at_ 10 (b2n (conn && v.id.speed == .hs))

/-- wPortStatus that upstream u reads for USB 2.0 hub port n, POWER from the hub's own bit (R43, R90). -/
def portStatus (s : State) (u : Up) (n : Nat) : Nat :=
  let p := ((s.up u).view n).power
  if n = 33 then
    let x := s.up u
    1 + at_ 1 (b2n (x.mgEnabled && !x.mgResetting)) + at_ 2 (b2n x.mgSuspended) + at_ 4 (b2n x.mgResetting)
      + at_ 8 1 + at_ 10 (b2n (x.link == .hs))
  else if 34 ≤ n then virtStatus (s.vport u n) (s.conn u n) + at_ 8 (b2n p)
  else if s.owns u n then
    (if p then physStatus (s.port n) (s.conn u n) (tripped s n) else at_ 3 (b2n (tripped s n))) + at_ 8 (b2n p)
  else at_ 8 (b2n p)

/-- wPortChange of a USB 2.0 hub port (R91). -/
def portChange (v : PortView) : Nat :=
  b2n v.cConn + at_ 1 (b2n v.cEnable) + at_ 2 (b2n v.cSuspend) + at_ 3 (b2n v.cOc) + at_ 4 (b2n v.cReset)
    + at_ 5 (b2n v.cL1)

/-- wPortStatus of SuperSpeed hub port n: PORT_LINK_STATE in bits 8:5, POWER in 9 (R92, R99). A port that the upstream
does not own, and a translated one whose SPE holds SS.Disabled, show Rx.Detect, the link state of a powered port with no
connection (DESIGN CHOICE: R99 names the POWER and CONNECTION shown and no link state; log entry 45). -/
def ssStatus (s : State) (u : Up) (n : Nat) : Nat :=
  let e := s.spe n
  let own := s.owns u n
  let trans := own && (s.port n).id.eff == .translated
  let c := s.ssConn u n
  b2n c + at_ 1 (b2n c) + at_ 3 (b2n (own && tripped s n)) + at_ 4 (b2n (own && (e.warm || e.st == .hotReset)))
    + at_ 5 (if own && !trans then e.st.code else Link.code .rxDetect)
    + at_ 9 (b2n (trans || ((s.up u).ssView n).power))

/-- wPortChange of a SuperSpeed hub port (R91, R92, R95). -/
def ssChange (v : SsView) : Nat :=
  b2n v.cConn + at_ 3 (b2n v.cOc) + at_ 4 (b2n v.cReset) + at_ 5 (b2n v.cBh) + at_ 6 (b2n v.cLink)

/-- A change bit of a port is set (R91). -/
def viewChanged (v : PortView) : Bool := v.cConn || v.cEnable || v.cSuspend || v.cL1 || v.cReset || v.cOc

def ssViewChanged (v : SsView) : Bool := v.cConn || v.cReset || v.cBh || v.cLink || v.cOc

/-- The status-change bitmap of the USB 2.0 hub: bit 0 the hub, which has no change of its own, bits 1–41 the ports, in
6 bytes (R35, R91). -/
def changeMap (x : Upstream) : List Byte :=
  leBytes 6 (mapBits (false :: (List.range 41).map (fun i => viewChanged (x.view (i + 1)))))

/-- The SuperSpeed hub's: bits 0–8 in 2 bytes (R35, R91). -/
def ssChangeMap (x : Upstream) : List Byte :=
  leBytes 2 (mapBits (false :: (List.range 8).map (fun i => ssViewChanged (x.ssView (i + 1)))))

/-- GetStatus(DEVICE) of a function: self-powered, with DEVICE_REMOTE_WAKEUP in bit 1 and the U1 and U2 enables of a
SuperSpeed function in bits 2 and 3 (R35; places of the USB specifications, PRESUMED, log entry 9). -/
def deviceStatus (x : Upstream) : Fn → List Byte
  | .usb2 => leBytes 2 (1 + at_ 1 (b2n x.remoteWake))
  | .ss => leBytes 2 (1 + at_ 2 (b2n x.u1En) + at_ 3 (b2n x.u2En))
  | .mgmt => leBytes 2 1

/-- ClearPortFeature of a change feature clears that bit (R42, R91). -/
def clearChange (c : Change) (v : PortView) : PortView :=
  match c with
  | .connection => { v with cConn := false }
  | .enable => { v with cEnable := false }
  | .suspend => { v with cSuspend := false }
  | .overCurrent => { v with cOc := false }
  | .reset => { v with cReset := false }
  | .l1 => { v with cL1 := false }
  | .bhReset => v
  | .linkState => v

/-- The same on the SuperSpeed hub (R92). -/
def clearSsChange (c : Change) (v : SsView) : SsView :=
  match c with
  | .connection => { v with cConn := false }
  | .overCurrent => { v with cOc := false }
  | .reset => { v with cReset := false }
  | .bhReset => { v with cBh := false }
  | .linkState => { v with cLink := false }
  | .enable => v
  | .suspend => v
  | .l1 => v

end Sys2Proof.Machine
end

