-- ==== Sys2Proof/Machine/WireOps.lean ====
section
/-!
DEFINITION. Machine/WireOps.lean: what the DPEs, the SPEs and the PSX do on a port: wire resets, resumes, link state
changes, presenting, parking and the loss of a device (R71–R92, R100, R116–R119).
-/

namespace Sys2Proof.Machine

/-- A reset on the wire starts (R71, R74): SE0 from the DPE; the port's learned address is cleared (R46), and the device
leaves its wire address (R101). No reset leaves TESTING (R89); under the clock fallback no DPE sends one (R428). -/
def startWireReset (s : State) (p : Nat) : State :=
  if s.sys.clockFallback ∨ (s.port p).dpe = .testing then s
  else (abandonResume s p).modPort p (fun q =>
    { q with dpe := .resetting, busSusp := false, pxL1 := false, chirp := 0, addr := 0, addrSeen := 0, wire := .reset,
             id := { q.id with wireAddr := 0 } })

/-- A cache fill starts at connect (R103). -/
def startFill (s : State) (p : Nat) : State :=
  startWireReset (s.modPort p (fun q =>
    { q with fill := some { start := s.ticks }, id := { q.id with st := .filling } })) p

/-- STATE that a port returns to when its fill or drain in progress is over. -/
def Port.back (q : Port) : Life :=
  match q.id.st with
  | .refilling => (q.fill.map (·.back)).getD .presented
  | .draining => (q.drain.map (·.back)).getD .presented
  | st => st

/-- STATE of a proxied device becomes `st`; in the midst of a drain or a refill it is the state returned to (R100, R108). -/
def setLife (s : State) (l : Loc) (st : Life) : State :=
  match l with
  | .virt u v => s.modVPort u v (fun x => { x with id := { x.id with st := st } })
  | .phys p => s.modPort p (fun q =>
    match q.id.st with
    | .draining => { q with drain := q.drain.map (fun d => { d with back := st }) }
    | .refilling => { q with fill := q.fill.map (fun f => { f with back := st }) }
    | _ => { q with id := { q.id with st := st } })

/-- A refill starts (R115): the port is REFILLING and its wire is reset; the host is answered NAK. A control transfer on
the wire ends with the reset. -/
def startRefill (s : State) (p : Nat) (real : Bool) (wait : Nat) : State :=
  startWireReset (s.modPort p (fun q =>
    { q with
      fill := some { refill := true, real := real, wait := wait, start := s.ticks, back := q.back },
      px := { q.px with eps := q.px.eps.map (fun e => { e with seals := [], ping := false }), ctrl := q.px.ctrl.cutByReset }
      id := { q.id with st := .refilling } })) p

/-! ### Resume (R83–R87) -/

/-- K starts on a port, at once for a host resume and within 100 µs of a device wake, which instant is a free value
(R75, R83 step 1; log entry 44); under the clock fallback no DPE sends a resume (R428). -/
def startResume (s : State) (p left : Nat) (host follows : Bool) (delta : Option Int) : State :=
  if s.sys.clockFallback then s
  else
    let lag := if host then 0 else s.free % 100001
    (if host then s else s.drawn).modPort p (fun q =>
      { q with dpe := .resuming, busSusp := false, wire := .k,
               resume := some { left := left, host := host, start := s.ticks, stamp := s.now, delta := delta, follows := follows,
                                owner := q.id.owner, kAt := s.ticks + lag } })

/-- The other happening merges into a running resume and starts nothing of its own (R83). -/
def mergeResume (s : State) (p : Nat) (host follows : Bool) : State :=
  s.modPort p (fun q => { q with resume := q.resume.map (fun r =>
    { r with delta := if r.host = host ∨ r.delta.isSome then r.delta else some ((s.ticks : Int) - r.start),
             follows := r.follows || follows }) })

/-- The EOP that ends a resume: the port is ENABLED, the record is made, the change bit set (R83, R86, R91). The borrower
of a lent port is told of it by a RESULT of the port itself (log entry 46), for its C_PORT_SUSPEND. -/
def endResume (s : State) (p : Nat) : State :=
  match (s.port p).resume with
  | none => s
  | some r =>
    let s := resumeEvent s p r 3
    let susp := match ownerUp (s.port p) with
      | some u => decide ((s.up u).bus = .suspended)
      | none => false
    let px := (s.port p).pxL1
    let s := if r.left = 0 ∧ (s.port p).id.owner = .lent then sendTun s (.phys p) 5 128 [0] else s
    let s := settleWire (s.modPort p (fun q =>
      { q with dpe := .enabled, resume := none, wire := .eop, busSusp := susp, pxL1 := false })) p
    if px then s
    else if (s.port p).id.eff = .translated ∧ r.left = 2 then s
    else if r.left = 0 then setChange s p (fun v => { v with cSuspend := true })
    else if r.left = 1 then setChange s p (fun v => { v with cL1 := true })
    else s

/-- The port leaves the upstream whose K its resume follows: from now on its K ends at the time of R83 step 2, which may
have passed (R83, R87). -/
def unfollow (s : State) (p : Nat) : State :=
  match (s.port p).resume with
  | some r =>
    if r.follows ∧ r.kOver then endResume s p
    else s.modPort p (fun q => { q with resume := some { r with follows := false } })
  | none => s

/-- A port in ENABLED whose owner's bus is suspended has the bus-suspended mark, and no other port has it (R71, R79). -/
def markSusp (s : State) (p : Nat) : State :=
  let susp := match ownerUp (s.port p) with
    | some u => (s.up u).bus == .suspended
    | none => false
  s.modPort p (fun q => { q with busSusp := susp && q.dpe == .enabled })

/-- The LINK number of the state that a resume leaves (R86). -/
def leftOf (q : Port) : Option Nat :=
  match q.dpe with
  | .suspended => some 0
  | .sleeping => some 1
  | .enabled => if q.busSusp then some 2 else none
  | _ => none

/-- A hub-originated or device wake starts an upstream K, unless host K is there already (R84, R85). -/
def driveUpK (s : State) (u : Up) (p : Nat) : State :=
  let x := s.up u
  if x.hostK then raiseUp s u 2 2 p
  else if x.kDrive.isSome then s
  else s.modUp u (fun x => { x with kDrive := some (p, s.ticks) })

/-- The upstream's USB 2.0 hub may be woken: suspended, or in L1, with DEVICE_REMOTE_WAKEUP enabled (R84). -/
def canWakeUp (x : Upstream) : Bool := (x.bus == .suspended || x.bus == .l1) && x.remoteWake

/-- A connect, disconnect or over-current wakes a suspended upstream (R85); answers whether it did. -/
def hubWakes (s : State) (p : Nat) : Option Up :=
  match ownerUp (s.port p) with
  | some u => if (s.up u).bus = .suspended ∧ (s.up u).remoteWake then some u else none
  | none => none

/-! ### SuperSpeed links (R92) -/

/-- A change of a SuperSpeed PHY's tuning applies at the entry to Polling or Recovery (R412). -/
def linkTrains (s : State) (n : Nat) (st : Link) : State :=
  match st with
  | .polling | .recovery => trainPhy s n
  | _ => s

/-- An upstream SPE changes its link state (R92, R295). -/
def setUpLink (s : State) (u : Up) (st : Link) (byHost : Bool) : State :=
  let old := (s.up u).ssLink
  if old = st then s
  else
    raiseUp (linkTrains (s.modUp u (fun x => { x with ssLink := st })) (9 + u.code) st) u 4 1
      (st.code + at_ 4 old.code + at_ 8 (b2n byHost))

/-- A SuperSpeed hub function in U3 wakes for the causes set in the port's PORT_REMOTE_WAKE_MASK: 0 connect,
1 disconnect, 2 over-current (R85); its upstream link leaves U3. -/
def ssHubWake (s : State) (p cause : Nat) : State :=
  match ownerUp (s.port p) with
  | some u =>
    let x := s.up u
    if x.ssLink = Link.u3 ∧ x.ssWake ∧ bit (x.ssView p).wakeMask cause then
      setUpLink s u .recovery false
    else s
  | none => s

/-- A downstream SPE changes its link state; the events of R92 and R295 follow. -/
def setLink (s : State) (p : Nat) (st : Link) (byHost : Bool) : State :=
  let old := (s.spe p).st
  if old = st then s
  else
    let s := linkTrains (s.modSpe p (fun e => { e with st := st, byHost := byHost })) p st
    let s := raise s (320 + (p - 1) * 4) 1 (st.code + at_ 4 old.code + at_ 8 (b2n byHost))
    let s := match st with
      | .compliance => raise s (323 + (p - 1) * 4) 1 0
      | .loopback => raise s (323 + (p - 1) * 4) 2 0
      | .ssInactive => raise s (321 + (p - 1) * 4) 3 (s.spe p).errs
      | _ => s
    let s := if byHost ∨ st = .ssInactive then
        match ownerUp (s.port p) with
        | some u => s.modSsView u p (fun v => { v with cLink := true })
        | none => s
      else s
    let s := if (s.port p).id.eff = .transparent ∧ linkConn old ≠ linkConn st then
        ssHubWake s p (if linkConn st then 0 else 1)
      else s
    syncSsPort s p

/-- EFF_MODE of port p changes: the SPE of a translated port holds SS.Disabled, and when EFF_MODE returns to TRANSPARENT
it enters Rx.Detect (R99), each a change of PORT_LINK_STATE with its event (R92). -/
def setEff (s : State) (p : Nat) (eff : Mode) : State :=
  if (s.port p).id.eff = eff then s
  else
    let s := s.modPort p (fun q => { q with id := { q.id with eff := eff } })
    if 8 < p then s
    else if eff = .translated then setLink s p .ssDisabled false
    else if (s.port p).dpe = .unpowered then s
    else setLink s p .rxDetect false

/-- The identity entry of a port whose device is gone: VACANT, MODE in effect (R97, R98, R100, R101). -/
def vacate (s : State) (p : Nat) : State :=
  setEff (s.modPort p (fun q =>
    { q with
      id := { q.id with st := .vacant, fallback := 0, hostAddr := 0, wireAddr := 0, hostCfg := 0, speed := .none },
      px := { wakeup := false }, fill := none, drain := none, suspWait := false, addr := 0, addrSeen := 0,
      known := [], knownCfgs := 0,
      ownerL1 := none, pxL1 := false, refillNext := none, cmdReset := false })) p (effMode s p)

/-- The upstream whose SPE has number n: SS9 is A's and SS10 is B's (R22). -/
def upOfSpe (n : Nat) : Up := if n = 10 then .b else .a

/-- State of SPE n of 1–10. -/
def linkOf (s : State) (n : Nat) : Link := if n ≤ 8 then (s.spe n).st else (s.up (upOfSpe n)).ssLink

/-- SPE n changes its link state. -/
def setLinkN (s : State) (n : Nat) (st : Link) (byHost : Bool) : State :=
  if n ≤ 8 then setLink s n st byHost else setUpLink s (upOfSpe n) st byHost

/-! ### Presenting and parking (R50, R116–R119) -/

/-- An HS device on a translated port is never presented to an upstream at FS (R50). -/
def mustPark (s : State) (p : Nat) (u : Up) : Bool :=
  (s.port p).id.eff == .translated && (s.port p).id.speed == .hs && (s.up u).link == .fs

/-- Every buffer and result of a TT is discarded and it restarts; the FS/LS transaction in progress ends on its bus with
its result discarded (R56, R117). -/
def resetTt1 (t : Tt) : Tt := { frame := t.frame, run := t.run }

/-- A proxy whose new host, or whose lack of one, starts it unconfigured: nothing is held, only endpoint 0 is carried, and
a control transfer lives on the wire alone (R100, R111, R117). The TT forgets the old host's splits. -/
def Port.unconfigured (q : Port) : Port :=
  let q := abandonCtrl { q with px := q.px.dropHeld }
  { q with
    tt := resetTt1 q.tt,
    px := { q.px with eps := [], viewEn := false, viewDis := false, vreset := false, realReset := false, winOpen := false },
    suspWait := false }

/-- What a change of owner brings with it: the charging mode of a port without a device (R76), the bus-suspended mark of
the new owner's bus (R71), the resume that followed the old one (R83), what both hubs show (R32). -/
def ownerChanged (s : State) (p : Nat) : State :=
  syncSsPort (syncPort (markSusp (recharge (unfollow s p) p) p) p) p

/-- The port is parked with a cause (R117, R129): no owner sees it, the wire state stays. `disc` bytes were discarded by
the change before; `dst` is the upstream it was meant for. -/
def park (s : State) (p cause : Nat) (disc : Nat := 0) (dst : Option Up := none) : State :=
  let q := s.port p
  let old := q.id.owner
  let home := dst.getD (match old with | .upA => Up.a | .upB => Up.b | _ => q.id.home)
  let s := s.modPort p (fun q =>
    let q := q.unconfigured
    { q with
      id := { q.id with owner := .parked, home := home, hostAddr := 0, hostCfg := 0,
                        st := if q.id.st = .vacant ∨ q.id.eff = .transparent then q.id.st else .parked },
      parkNext := false })
  ownerChanged (ownerEvent s p 3 old cause (disc + q.px.heldBytes)) p

/-- A port with a device is shown to upstream u (R116, R119), or parked when u cannot use it (R50). The address learned on
a transparent port was the old owner's, which sees a disconnect (R46). -/
def presentTo (s : State) (p : Nat) (u : Up) (code : Nat) (disc : Nat := 0) : State :=
  let q := s.port p
  let old := q.id.owner
  if mustPark s p u then park s p 2 disc (some u)
  else
    let s := s.modPort p (fun q =>
      let q := q.unconfigured
      { q with
        ownerL1 := none, addr := 0, addrSeen := 0,
        id := { q.id with owner := upOwner u, hostAddr := 0, hostCfg := 0,
                          st := if q.id.st = .vacant ∨ q.id.eff = .transparent then q.id.st else .presented } })
    ownerChanged (ownerEvent s p code old 0 (disc + q.px.heldBytes)) p

/-- The parked ports of an upstream whose hub sets PORT_POWER are presented again (R119). -/
def unpark (s : State) (u : Up) (p : Nat) : State :=
  let q := s.port p
  if q.id.owner = .parked ∧ q.id.st = .parked ∧ q.id.home = u ∧ (s.up u).hubCfg ≠ 0 then presentTo s p u 1 else s

/-- A port that comes home without an event of its own: HS under an FS owner is parked (R50), at the end of a refill that
runs. -/
def homeCheck (s : State) (p : Nat) : State :=
  let q := s.port p
  match ownerUp q with
  | some u =>
    if mustPark s p u ∧ q.id.st ≠ .vacant ∧ q.id.st ≠ .refilling then park s p 2 else ownerChanged s p
  | none => ownerChanged s p

/-- STATE after a lend, which is reached at the end of a refill that runs (R100, R115). -/
def Port.afterLend (q : Port) (st : Life) : Port :=
  match q.id.st with
  | .vacant => q
  | .refilling => { q with fill := q.fill.map (fun f => { f with back := st }) }
  | _ => { q with id := { q.id with st := st } }

/-- Ends a lend at the lender: the port goes home, or is parked as before the lend (R124, R125, R127), and an HS port whose
home is an upstream at FS is parked under R50. A recall that waits has its end, and a LEND that waits is refused. -/
def endLend (s : State) (p code : Nat) : State :=
  let q := s.port p
  let s := s.modPort p (fun q =>
    let q := q.unconfigured.afterLend (if q.wasParked then .parked else .presented)
    { q with
      id := { q.id with owner := if q.wasParked then .parked else upOwner q.id.home, hostAddr := 0, hostCfg := 0 },
      drain := none })
  let s := ownerEvent s p code q.id.owner 0 q.px.heldBytes
  let s := s.modPort p (fun q => { q with
    wasParked := false, tun := {},
    id := { q.id with lendNode := 0, lendVport := 0, lendUp := .a } })
  finishWait (finishWait (homeCheck s p) q.tun.openWait (.fail stRefusedState)) ((q.drain.map (·.wait)).getD 0) (.ok [])

/-! ### A device is gone (R73, R100, R116) -/

/-- HOME_UP after a move (R367). -/
def homeAfter (q : Port) (d : Drain) : Up :=
  match d.setHome, d.newOwner with
  | true, .upA => .a
  | true, .upB => .b
  | _, _ => q.id.home

/-- Commands and lends that a detach ends (R116, R371; log entry 11). -/
def endOnDetach (s : State) (p : Nat) : State :=
  let q := s.port p
  let s := match q.fill with
    | some f => finishWait s f.wait (.ok [3])
    | none => s
  let s := match q.refillNext with
    | some w => finishWait s w (.ok [3])
    | none => s
  let s := match q.drain with
    | some d =>
      if d.what = 0 then
        let s := s.modPort p (fun q => { q with id := { q.id with owner := d.newOwner, home := homeAfter q d } })
        finishWait (ownerEvent s p 2 q.id.owner 0 0) d.wait (.ok (leBytes 1 q.id.owner.code ++ leBytes 1 d.newOwner.code))
      else if d.what = 1 then
        finishWait ((sendTun s (.phys p) 0xC 0 [] false).modPort p (fun q => { q with tun := {} })) d.wait
          (.fail stRefusedState)
      else finishWait s d.wait (.ok [])
    | none => s
  s

/-- The device of port p is gone and the DPE enters `st`: UNPOWERED or DISCONNECTED (R71). -/
def loseDevice (s : State) (p : Nat) (st : Dpe) : State :=
  let s := settleWire (abandonResume s p) p
  let s := endOnDetach s p
  let lent := (s.port p).id.owner == .lent
  let s := if lent then sendTun s (.phys p) 0xC 0 [] false else s
  let s := s.modPort p (fun q => { q with dpe := st, busSusp := false, chirp := 0, vdmSrc := false, wire := .idle,
                                          parkNext := false })
  let s := vacate s p
  let s := if lent then endLend s p 5 else s
  syncPort (recharge s p) p

/-- VBUS is gone: UNPOWERED at once (R71); a SuperSpeed link enters SS.Disabled (R92). -/
def dpeUnpower (s : State) (p : Nat) : State :=
  let s := if 8 < p then s
    else (setLink s p .ssDisabled false).modSpe p (fun e => { e with firstLfps := true, fails := 0, exit := none })
  if (s.port p).dpe = .unpowered then s else loseDevice s p .unpowered

/-- Power-good: DISCONNECTED, and the SuperSpeed link enters Rx.Detect (R71, R92). -/
def dpePower (s : State) (p : Nat) : State :=
  match (s.port p).dpe with
  | .unpowered =>
    let s := s.modPort p (fun q => { q with dpe := .disconnected })
    let s := recharge s p
    if 8 < p ∨ (s.port p).id.eff = .translated then s else setLink s p .rxDetect false
  | _ => s

end Sys2Proof.Machine
end

