-- ==== Sys2Proof/Machine/HubData.lean ====
section
/-!
DEFINITION. Machine/HubData.lean: the repeat path, SOFs and microframes, SuperSpeed forwarding, applying a plan and the scrubber (R45–R51, R58–R70).
-/

namespace Sys2Proof.Machine

/-- The answer to a host on an upstream; a PSX that is held off answers nothing (R224, R428). -/
def answerD (s : State) (u : Up) (a : Ans) : State :=
  s.modUp u (fun x => { x with ans := if s.psxOn then a else .none })

/-- The ports 1–32. -/
def ports32 : List Nat := (List.range 32).map (· + 1)

/-! ### Transaction translators at work (R52–R54) -/

/-- In single TT one pipeline runs the non-periodic work of every port in the order received (R52): no owned port holds an
unfinished non-periodic transaction that came before. -/
def npTurn (s : State) (u : Up) (b : TtBuf) : Bool :=
  (s.up u).hubAlt != 0 ||
    ports32.all (fun k => !(s.owns u k) || (s.port k).tt.np.all (fun x => x.res.isSome || b.seq ≤ x.seq))

/-- What a TT puts on its FS/LS bus: a token for an IN, its packet for a SETUP or OUT (R53, R54). -/
def ttWire (r : TtRun) (setup toggle : Bool) (data : List Byte) : Wire :=
  if r.isIn then .token .inn r.addr r.ep else .ttOut setup r.addr r.ep toggle data

/-- An idle TT starts its next transaction: the oldest periodic split of an earlier microframe, else, while Stop_TT has
not stopped it, the oldest non-periodic one whose turn it is (R52, R54, R56). -/
def ttGo (s : State) (u : Up) (p : Nat) : State :=
  let t := (s.port p).tt
  if t.run.isSome ∨ t.stopped ∨ (s.port p).dpe ≠ .enabled then s
  else
    match t.per.find? (fun x => x.res.isNone && !x.dropped && 1 ≤ x.age) with
    | some x =>
      let r : TtRun := { periodic := true, addr := x.addr, ep := x.ep, isIn := x.isIn }
      s.modPort p (fun q => { q with tt := { q.tt with run := some r }, wire := ttWire r false x.toggle x.data })
    | none =>
      match t.np.find? (·.res.isNone) with
      | some b =>
        if npTurn s u b then
          let r : TtRun := { addr := b.addr, ep := b.ep, isIn := b.isIn }
          s.modPort p (fun q => { q with tt := { q.tt with run := some r }, wire := ttWire r b.setup b.toggle b.data })
        else s
      | none => s

/-- Every owned port's TT takes up work that is now its turn. -/
def ttGoAll (s : State) (u : Up) : State := ports32.foldl (fun s p => if s.owns u p then ttGo s u p else s) s

/-! ### The repeat paths (R35, R45, R46, R49, R59) -/

/-- Port p repeats traffic of upstream u (R45, R49): owned, transparent, ENABLED, not suspended; an HS device at HS, an FS
or LS device under an FS upstream. -/
def repeats (s : State) (u : Up) (p : Nat) : Bool :=
  let q := s.port p
  s.owns u p && q.id.eff == .transparent && q.dpe == .enabled && !q.busSusp &&
    match (s.up u).link with
    | .hs => q.id.speed == .hs
    | .fs => q.id.speed == .fs || q.id.speed == .ls
    | .detached => false

/-- The port that a token's address names (R45; on an FS upstream by the same routing, log entry 50). Address 0 is the
port that most recently left reset. The hub keeps that one port: once it has an address, a token for address 0 goes nowhere
until another reset ends, although an earlier port may still be in the default state (DESIGN CHOICE, log entry 50). -/
def tokenPort (s : State) (u : Up) (addr : Nat) : Option Nat :=
  if addr = 0 then
    let p := (s.up u).defaultPort
    if p ≠ 0 ∧ p ≤ 32 ∧ repeats s u p ∧ (s.port p).addr = 0 then some p else none
  else ports32.find? (fun p => repeats s u p && (s.port p).addr == addr)

/-- A SOF of the host at one port: repeated at HS to HS ports and at FS to FS ports, a keep-alive on an LS port of an FS
upstream (R45, R59). -/
def sofPort (s : State) (u : Up) (p : Nat) : State :=
  if repeats s u p then
    s.modPort p (fun q => { q with wire := if q.id.speed = .ls then .keepAlive else .sof (s.up u).frame })
  else s

/-- The host's ACK is among the packets (PID byte 0xD2). -/
def hostAcked (pkts : List Pkt) : Bool := pkts.any (fun k => !k.up && k.bs.headD 0 == 0xD2)

/-- The eight setup bytes of a transaction's data packet. -/
def setupOf (pkts : List Pkt) : List Byte := ((pkts.find? (fun k => !k.up)).map (fun k => slice k.bs 1 8)).getD []

/-- The standard read requests of a function that have no command of their own (R31, R35, R42): GetStatus of the device, the
interface and an endpoint, GetConfiguration, GetInterface. -/
def stdRead (x : Upstream) (fn : Fn) (b : List Byte) : Option (List Byte) :=
  let cfg := match fn with | .usb2 => x.hubCfg | .ss => x.ssCfg | .mgmt => x.mgCfg
  match (b.getD 0 0).toNat, (b.getD 1 0).toNat with
  | 0x80, 0 => some (deviceStatus x fn)
  | 0x81, 0 => some [0, 0]
  | 0x82, 0 => some [0, 0]
  | 0x80, 8 => some (leBytes 1 cfg)
  | 0x81, 10 => some (leBytes 1 (match fn with | .usb2 => x.hubAlt | _ => 0))
  | _, _ => none

/-- A token to the hub function itself, or to the management function: the interrupt poll of the status-change endpoint
takes the bitmap, or NAK when no change bit is set (R35, R91); a SETUP of a standard read request is answered. -/
def fnToken (s : State) (u : Up) (fn : Fn) (pid : Pid) (ep : Nat) (pkts : List Pkt) : State :=
  let x := s.up u
  match pid with
  | .inn =>
    if fn = .usb2 ∧ ep = 1 ∧ x.hubCfg ≠ 0 then
      let m := changeMap x
      if m.all (· == 0) then answerD s u .nak
      else (answerD s u (.data x.scTog m)).modUp u (fun x =>
        { x with scTog := if hostAcked pkts then !x.scTog else x.scTog })
    else s
  | .setup =>
    if ep ≠ 0 then s
    else
      match stdRead x fn (setupOf pkts) with
      | some d => answerD s u (.data true (d.take (leNat (slice (setupOf pkts) 6 2))))
      | none => s
  | _ => s

/-- HS_TOKEN (R45): the token and the packets of its transaction go to the one port that holds the address, and the
device's packets to the host; SOF to every enabled port of the upstream's speed; elsewhere nothing moves. -/
def hsToken (u : Up) (pid : Pid) (addr ep : Nat) (pkts : List Pkt) (s : State) : State :=
  let x := s.up u
  match pid with
  | .sof => ports32.foldl (fun s p => sofPort s u p) s
  | _ =>
    match tokenPort s u addr with
    | some p =>
      let s := s.modPort p (fun q => { q with
        wire := .xfer (decide (x.link = .fs ∧ q.id.speed = .ls)) pid addr ep (pkts.filter (fun k => !k.up)) })
      s.modUp u (fun x => { x with fwd := (pkts.filter (·.up)).map (·.bs) })
    | none =>
      if x.has .usb2 ∧ x.bus = .active then
        if addr = x.hubAddr then fnToken s u .usb2 pid ep pkts
        else if addr = x.mgAddr ∧ x.hubCfg ≠ 0 ∧ x.mgEnabled ∧ ¬ x.mgResetting then fnToken s u .mgmt pid ep pkts
        else s
      else s

def execHsToken (u : Up) (t : HsTxn) (addr ep : Nat) (s : State) : Res := leaves s (hsToken u t.pid addr ep t.pkts s)

/-- The virtual ports of an upstream. -/
def vportNumbers : List Nat := (List.range 8).map (· + 34)

/-- The identity entry loses the address. -/
def Ident.unaddress (d : Ident) (addr : Nat) : Ident := if d.hostAddr = addr then { d with hostAddr := 0 } else d

/-- An address held by another port of the same owner, a virtual one among them, is cleared there: the port that learned
it last keeps it (R46, R102). -/
def clearDup (s : State) (u : Up) (p addr : Nat) : State :=
  if addr = 0 then s
  else
    let s := ports32.foldl (fun s k =>
      if k ≠ p ∧ s.owns u k then
        s.modPort k (fun q => { q with addr := if q.addr = addr then 0 else q.addr, id := q.id.unaddress addr })
      else s) s
    vportNumbers.foldl (fun s v =>
      if v = p then s else s.modVPort u v (fun x => { x with id := x.id.unaddress addr })) s

/-- ADDRESS_LEARN: the status stage of a SET_ADDRESS through a transparent port completed with ACK (R46). -/
def addressLearn (p addr : Nat) (s : State) : State :=
  let q := s.port p
  match q.id.eff, ownerUp q with
  | .transparent, some u =>
    let s := clearDup s u p (addr % 128)
    let s := s.modPort p (fun q => { q with addr := addr % 128 })
    if (s.up u).defaultPort = p then s.modUp u (fun x => { x with defaultPort := 0 }) else s
  | _, _ => s

def execAddressLearn (p addr : Nat) (s : State) : Res := leaves s (addressLearn p addr s)

/-! ### SOF and frames (R58–R60, R292) -/

/-- A microframe passes for the TTs of an upstream: splits age, and the limits of R54 start anew. -/
def ttTick (frameStart : Bool) (t : Tt) : Tt :=
  { t with
    per := t.per.map (fun x => { x with age := x.age + 1 }), ufBytes := 0, ufSplits := 0,
    frBytes := if frameStart then 0 else t.frBytes }

/-- SOF_RECEIVED: the microframe timer, which locks within 4 consecutive SOFs, the correlation block and the TTs'
microframe (R54, R58, R292). -/
def sofReceived (u : Up) (frame uframe : Nat) (s : State) : State :=
  let x := s.up u
  let ps := (s.ticks - x.sofAt) * 1000
  let nominal := if x.link = .hs then 125000000 else 1000000000
  let inTol := nominal ≤ ps + 62500 ∧ ps ≤ nominal + 62500
  let s := s.modUp u (fun x =>
    let good := if inTol then min 4 (x.sofGood + 1) else if x.sofLocked then x.sofGood else 1
    { x with sofTime := s.now, sofAt := s.ticks, frame := frame % 2048, uframe := if x.link = .hs then uframe % 8 else 0,
             sofSpacing := if x.sofTime = 0 then x.sofSpacing else (ps :: x.sofSpacing).take 1024,
             sofGood := good, sofLocked := decide (x.link = .hs ∧ 4 ≤ good) })
  ttGoAll (ports32.foldl (fun s p =>
    if s.owns u p then s.modPort p (fun q => { q with tt := ttTick (uframe % 8 = 0) q.tt }) else s) s) u

def execSofReceived (u : Up) (frame uframe : Nat) (s : State) : Res := leaves s (sofReceived u frame uframe s)

/-- The port's SOF stream comes from this timer: the owner's, or the free-running one (R60). -/
def sofFrom (s : State) (u : Option Up) (p : Nat) : Bool :=
  match u with
  | some u => s.owns u p
  | none => (ownerUp (s.port p)).isNone

/-- A frame starts on one port (R59, R60, R79); under the clock fallback no DPE sends SOF (R428). -/
def framePort (s : State) (u : Option Up) (p : Nat) : State :=
  let q := s.port p
  if !sofFrom s u p || q.dpe != .enabled || q.busSusp || s.sys.clockFallback then s
  else
    match q.id.eff with
    | .translated =>
      if q.sofOn then s.modPort p (fun q => { q with
        frame := q.frame + 1,
        wire := if q.id.speed = .ls then .keepAlive else .sof (q.frame + 1).toNat })
      else s
    | .transparent =>
      match u with
      | none => s
      | some u =>
        let n := (s.up u).frame
        match q.id.speed with
        | .fs => s.modPort p (fun q => { q with tt := { q.tt with frame := n }, wire := .sof n })
        | .ls => s.modPort p (fun q => { q with tt := { q.tt with frame := n }, wire := .keepAlive })
        | _ => s

/-- FRAME_START on an upstream's microframe timer, or on the PSX's free-running timer (R59, R60; log entry 15). -/
def frameStart (u : Option Up) (s : State) : State := ports32.foldl (fun s p => framePort s u p) s

def execFrameStart (u : Option Up) (s : State) : Res := leaves s (frameStart u s)

/-! ### SuperSpeed forwarding (R51) -/

/-- Data bytes of a packet: what follows the 16 bytes of its header packet (USB 3.2's; PRESUMED, log entry 9). -/
def ssData (bs : List Byte) : Nat := bs.length - 16

/-- A packet held for a link: four header-packet buffers and 16 KiB of data in each direction (R51). One that no credit
covers is not taken. -/
def ssHold (buf : List (List Byte)) (bs : List Byte) : List (List Byte) :=
  if buf.length < 4 ∧ buf.foldl (fun a b => a + ssData b) (ssData bs) ≤ 16384 then buf ++ [bs] else buf

/-- A packet goes to the device: a data packet on a Gen 1 link under a Gen 2 upstream is stored whole first (R51). -/
def ssDown (gen2 : Bool) (bs : List Byte) (e : Spe) : Spe :=
  { e with fwd := bs, whole := if gen2 && !e.gen2 && 0 < ssData bs then bs else e.whole }

/-- A packet addressed to the SuperSpeed hub itself, port number 0 (R51): an ACK transaction packet that polls the
status-change endpoint takes the bitmap or NRDY (R35, R91), and a SETUP data packet may carry a standard read request. The
fields are USB 3.2's (PRESUMED, log entry 9). -/
def ssHubPacket (s : State) (u : Up) (bs : List Byte) : State :=
  let x := s.up u
  let kind := bits (leNat (slice bs 0 4)) 4 0
  let dw1 := leNat (slice bs 4 4)
  if kind = 4 ∧ bits dw1 3 0 = 1 ∧ bits dw1 11 7 = 3 ∧ x.ssCfg ≠ 0 then
    let m := ssChangeMap x
    answerD s u (if m.all (· == 0) then .nak else .data false m)
  else if kind = 8 ∧ bit dw1 15 then
    match stdRead x .ss (slice bs 16 8) with
    | some d => answerD s u (.data true d)
    | none => s
  else s

/-- A packet for a link in U1 or U2 starts the exit at once and is held until U0 (R94); numbers 9–15 are discarded (R51). -/
def ssHeaderPacket (u : Up) (down : Bool) (n : Nat) (bs : List Byte) (s : State) : State :=
  if ¬ (s.up u).has .ss ∧ (s.up u).ssLink ≠ .recovery then s
  else if n = 0 then (if down then ssHubPacket s u bs else s)
  else if 8 < n ∨ ¬ s.owns u n then s
  else
    let e := s.spe n
    let hold (s : State) : State := s.modSpe n (fun e =>
      if down then { e with downBuf := ssHold e.downBuf bs } else { e with upBuf := ssHold e.upBuf bs })
    if down then
      match e.st with
      | .u0 => s.modSpe n (ssDown (s.up u).ssGen2 bs)
      | .u1 => setLink (hold s) n .recovery false
      | .u2 => setLink (hold s) n .recovery false
      | .recovery => hold s
      | _ => s
    else
      match (s.up u).ssLink with
      | .u0 => s.modUp u (fun x => { x with ssFwd := bs })
      | .u1 => setUpLink (hold s) u .recovery false
      | .u2 => setUpLink (hold s) u .recovery false
      | .recovery => hold s
      | .u3 => hold s
      | _ => s

def execSsHeaderPacket (u : Up) (down : Bool) (n : Nat) (bs : List Byte) (s : State) : Res :=
  leaves s (ifActive s (ssHeaderPacket u down n bs s))

/-! ### Applying a plan (R64–R68) -/

/-- The plan waits for the region of a type and owner to drain: new work is answered NAK (R68). -/
def planBlocks (s : State) (kind owner ownerUp : Nat) : Bool :=
  match s.plan.next with
  | none => false
  | some (rs, _, _) =>
    rs.find? (fun r => r.kind == kind && r.owner == owner && r.ownerUp == ownerUp)
      != s.plan.regions.find? (fun r => r.kind == kind && r.owner == owner && r.ownerUp == ownerUp)

/-- The region holds nothing that waits (R68): no split, no packet, no control transfer, no mirror entry staged. -/
def regionEmpty (s : State) (kind owner ownerUp : Nat) : Bool :=
  match kind with
  | 1 => (s.port owner).tt.np.isEmpty
  | 2 => (s.port owner).tt.per.isEmpty
  | 3 => (s.port owner).px.heldBytes == 0 && !(s.port owner).px.ctrl.busy
  | 5 =>
    let v := s.vport (if ownerUp = 2 then .b else .a) owner
    v.px.heldBytes == 0 && !v.px.ctrl.busy
  | 6 => s.pair.staged.isEmpty
  | _ => true

/-- Every region that differs between the plans is empty. -/
def planDrained (s : State) (new : List Region) : Bool :=
  (s.plan.regions.all (fun r => new.contains r || regionEmpty s r.kind r.owner r.ownerUp))
    && (new.all (fun r => s.plan.regions.contains r || regionEmpty s r.kind r.owner r.ownerUp))

/-- PAGES_USED and the count of regions of a plan (R369). -/
def planUse (rs : List Region) : List Byte :=
  leBytes 2 (rs.foldl (fun a r => a + r.pages) 0) ++ leBytes 1 (rs.filter (fun r => 0 < r.pages)).length

/-- Buffers of a proxy under a region of other size (R69). -/
def rebuffer (pages : Nat) (x : Proxy) : Proxy := { x with eps := rebuf (divide (4096 * pages) x.eps) x.eps }

/-- A port under a new plan: without a DESC region its cache is gone (R98); buffers follow the PROXY region (R69). -/
def portUnderPlan (s : State) (old : List Region) (p : Nat) : State :=
  let had := (old.find? (fun r => r.kind == 3 && r.owner == p)).map (·.pages)
  let s := if s.pages 4 p 0 = 0 then s.modPort p (fun q => { q with cache := [], cacheOk := false, numCfgs := 0 }) else s
  let s := if vacantNow s p then setEff s p (effMode s p) else s
  if had.getD 0 = s.pages 3 p 0 then s
  else s.modPort p (fun q => { q with px := rebuffer (s.pages 3 p 0) q.px })

/-- A virtual port under a new plan: buffers follow its BORROW region (R69). -/
def vportUnderPlan (s : State) (old : List Region) (u : Up) (v : Nat) : State :=
  let had := (old.find? (fun r => r.kind == 5 && r.owner == v && r.ownerUp == ownerUpCode u)).map (·.pages)
  let n := s.pages 5 v (ownerUpCode u)
  if had.getD 0 = n then s else s.modVPort u v (fun x => { x with px := rebuffer n x.px })

def applyPlan (s : State) (rs : List Region) : State :=
  let old := s.plan.regions
  let s := { s with plan := { s.plan with regions := rs, next := none } }
  let s := ports32.foldl (fun s p => portUnderPlan s old p) s
  vportNumbers.foldl (fun s v => vportUnderPlan (vportUnderPlan s old .a v) old .b v) s

/-! ### The wire of a proxied device (R113) -/

/-- The wire of port p starts its next work: the oldest held OUT packet of an endpoint, after a PING where the device
answered NYET (R113). -/
def wireOut (s : State) (p ep : Nat) : State :=
  match (s.port p).px.ep ep with
  | some e =>
    match e.held with
    | b :: _ => s.modPort p (fun q =>
        { q with wire := if e.ping then .token .ping q.id.wireAddr ep else .out ep e.wireTog b })
    | [] => s
  | none => s

/-- An IN token to the device (R113). -/
def wireIn (s : State) (p ep : Nat) : State :=
  s.modPort p (fun q => { q with wire := .token .inn q.id.wireAddr ep })

/-- Read-ahead goes on while the endpoint is drawn, no short packet is held and a buffer is free: it never crosses a
transfer boundary (R113). -/
def readsOn (e : Ep) : Bool := e.drawn && e.held.all (fun b => e.mps ≤ b.length) && decide (e.held.length < e.bufs)

/-- The proxy region of the device is waiting for a plan: new packets are NAKed (R68). -/
def pxBlocked (s : State) : Loc → Bool
  | .phys p => planBlocks s 3 p 0
  | .virt u v => planBlocks s 5 v (ownerUpCode u)

/-- Bytes of the mirror entries that are staged. -/
def stagedBytes (s : State) : Nat :=
  s.pair.staged.foldl (fun n x => match x with
    | .endpoint _ _ _ held => held.foldl (fun n b => n + b.length) n
    | _ => n) 0

/-- The MIRROR region has room for the entry of a packet of `n` bytes from port p; only a MUXED TRANSLATED port of a pair
that keeps a mirror waits for room (R451). -/
def stageRoom (s : State) (p n : Nat) : Bool :=
  !(s.mirrors && s.muxed p && (s.port p).id.eff == .translated) || decide (stagedBytes s + n ≤ 4096 * s.pages 6 0 0)

/-- A draw that finds no room in the MIRROR region ends; the host's next IN token starts it again (R451). -/
def endDraw (s : State) (p ep : Nat) : State :=
  s.modPx (.phys p) (fun x => x.modEp (ep + 128) (fun e => { e with drawn := false }))

/-- The device is read on into the free buffers of an IN endpoint (R113), unless its region waits for a plan (R68) or its
mirror entry has no room (R451). -/
def readOn (s : State) (p ep : Nat) : State :=
  match (s.port p).px.ep (ep + 128) with
  | some e =>
    if !readsOn e || pxBlocked s (.phys p) then s
    else if stageRoom s p e.mps then wireIn s p ep else endDraw s p ep
  | none => s

/-- What the wire of a port takes up again after a refill: the held OUT packets and the draws (R113, R115). -/
def restartWire (s : State) (p : Nat) : State :=
  (s.port p).px.eps.foldl (fun s e =>
    if e.addr % 128 = 0 then s
    else if e.addr < 128 then wireOut s p e.addr
    else readOn s p (e.addr % 128)) s

/-- After a resume the wire takes up its work again: a SETUP that came while the device was in L1 on the proxy's account,
else the held packets and the draws (R113, R446). -/
def afterResume (s : State) (p : Nat) (pxL1 : Bool) : State :=
  let q := s.port p
  if q.id.eff = .transparent ∨ q.dpe ≠ .enabled then s
  else
    let s := restartWire s p
    if pxL1 && q.px.ctrl.onWire then s.modPort p (fun q => { q with wire := .setup q.px.ctrl.wire }) else s

/-! ### The scrubber (R70) -/

/-- A word of a TT region is gone: the result of the endpoint's transactions is an error (R70). -/
def eccNp (ep : Nat) (t : Tt) : Tt :=
  { t with np := t.np.map (fun b => if b.ep = ep % 16 then { b with res := some .busError } else b) }

def eccPer (ep : Nat) (t : Tt) : Tt :=
  { t with per := t.per.map (fun b => if b.ep = ep % 16 then { b with res := some .busError } else b) }

/-- The endpoint answers STALL until the host clears the halt (R70). -/
def eccHalt (ep : Nat) (x : Proxy) : Proxy := x.modEp ep (fun e => { e.discard with halted := true })

/-- A mirror copy of the endpoint's data that waits in the staging is discarded (R70). -/
def eccMirror (e : EccErr) (x : Pair) : Pair :=
  { x with staged := x.staged.filter (fun m =>
    match m with
    | .endpoint (.phys p) ep _ _ => !(p == e.owner && ep == e.ep)
    | .endpoint (.virt u v) ep _ _ => !(v == e.owner && u == e.up && ep == e.ep)
    | .tunnel _ _ _ => true
    | .line _ _ _ => true) }

/-- A stored response whose packet fails its CRC-32C is reported as BAD_CHECK, for the same opcode and tag (R70, R342). -/
def eccResp (node : Nat) : List (List Byte) → List (List Byte)
  | [] => []
  | b :: bs => packetBytes (leNat (slice b 2 2)) (leNat (slice b 4 2)) node 0 stBadCheck (leBytes 4 1) :: bs

/-- An uncorrectable word, by the region that owns it (R70). A BORROW word's LINKERR is the lending node's to raise: a
RESULT of the endpoint carries it there (log entry 19). -/
def eccBad (s : State) (e : EccErr) : State :=
  let s := { s with plan := { s.plan with eccDouble := min 0xFFFFFFFF (s.plan.eccDouble + 1) } }
  match e.kind with
  | 1 => s.modPort e.owner (fun q => { q with tt := eccNp e.ep q.tt })
  | 2 => s.modPort e.owner (fun q => { q with tt := eccPer e.ep q.tt })
  | 3 =>
    let l : Loc := .phys e.owner
    let s := sendTun ((s.modPx l (eccHalt e.ep)).modTun l (fun t => t.dropData (· == e.ep))) l 5 e.ep [1]
    raisePort s e.owner 7 6 e.ep
  | 4 => s.modPort e.owner (fun q => { q with cacheOk := false })
  | 5 =>
    let l : Loc := .virt e.up e.owner
    sendTun ((s.modPx l (eccHalt e.ep)).modTun l (fun t => t.dropData (· == e.ep))) l 5 e.ep [1]
  | 6 => raise { s with pair := eccMirror e s.pair } 383 7 0
  | _ =>
    if e.ep = 0x81 then s.modUp e.up (fun x => { x with respPipe := eccResp s.fab.nodeId x.respPipe })
    else
      match s.cmd.queue.find? (fun c => c.tr == .usb e.up) with
      | some c => respond { s with cmd := { s.cmd with queue := s.cmd.queue.erase c } } c (.fail stBadCheck 1)
      | none => s

/-- SCRUB_PASS: single-bit errors corrected are counted, uncorrectable ones handled by region (R70). -/
def scrubPass (single : Nat) (bad : List EccErr) (s : State) : State :=
  bad.foldl eccBad { s with plan := { s.plan with eccSingle := min 0xFFFFFFFF (s.plan.eccSingle + single) } }

def execScrubPass (single : Nat) (bad : List EccErr) (s : State) : Res := leaves s (scrubPass single bad s)

end Sys2Proof.Machine
end

