-- ==== Sys2Proof/Machine/HubDesc.lean ====
section
/-!
DEFINITION. Machine/HubDesc.lean: the descriptors of the functions on each upstream (R34–R41).
Bytes that the spec leaves to the USB specifications follow them (PRESUMED, log entry 9).
-/

namespace Sys2Proof.Machine

/-- Sixteen uppercase hex digits of a 64-bit number, as ASCII (R40). -/
def hexDigits : Nat → Nat → List Byte
  | 0, _ => []
  | n + 1, v =>
    let d := v / 16 ^ n % 16
    BitVec.ofNat 8 (if d < 10 then 48 + d else 55 + d) :: hexDigits n v

/-- UTF-16LE of ASCII. -/
def utf16 (t : List Byte) : List Byte := t.flatMap (fun b => [b, 0])

/-- The hub serial string, UTF-16LE (R40); a secondary that has seen its primary uses the primary's (R239). -/
def State.serialStr (s : State) : List Byte :=
  match s.sys.role, s.pair.primarySerial with
  | 2, some t => t
  | _, _ => if s.sys.serial.isEmpty then utf16 (hexDigits 16 Config.uid.toNat) else s.sys.serial

/-- The 16 bytes of the Container ID (R39). -/
def containerId (s : State) : List Byte :=
  let h := (sha256 s.serialStr).take 16
  let h := modAt h 6 (fun b => (b &&& 0x0F) ||| 0x80)
  modAt h 8 (fun b => (b &&& 0x3F) ||| 0x80)

/-- Device descriptor (R34). -/
def deviceDesc (s : State) (u : Up) (fn : Fn) : List Byte :=
  let vid := if s.sys.vid = 0 then Config.vendorId.toNat else s.sys.vid
  let hs := (s.up u).link == .hs
  let pid := match fn with
    | .usb2 => if s.sys.pid = 0 then 0x3248 else s.sys.pid
    | .ss => if s.sys.ssPid = 0 then 0x3249 else s.sys.ssPid
    | .mgmt => 0x324A
  let head : List Byte := match fn with
    | .usb2 => [18, 1, 0x10, 0x02, 9, 0, if hs then 2 else 0, 64]
    | .ss => [18, 1, 0x20, 0x03, 9, 0, 3, 9]
    | .mgmt => [18, 1, 0x10, 0x02, 0, 0, 0, 64]
  head ++ leBytes 2 vid ++ leBytes 2 pid ++ leBytes 2 (0x0100 + s.sys.cl)
    ++ (match fn with | .mgmt => ([1, 4, 5] : List Byte) | _ => [1, 2, 3]) ++ [1]

/-- Interface descriptor 0 with an alternate setting, an endpoint count, a class triple. -/
def ifaceDesc (alt neps cls sub proto : Byte) : List Byte := [9, 4, 0, alt, neps, cls, sub, proto, 0]

/-- Endpoint descriptor. -/
def epDesc (addr attr : Byte) (mps : Nat) (interval : Byte) : List Byte :=
  [7, 5, addr, attr] ++ leBytes 2 mps ++ [interval]

/-- Configuration header over the descriptors that follow it (R35). -/
def cfgDesc (body : List Byte) : List Byte :=
  [9, 2] ++ leBytes 2 (9 + body.length) ++ [1, 1, 0, 0xE0, 0] ++ body

/-- Configuration descriptor of a function (R35, R41). -/
def configDesc (s : State) (u : Up) (fn : Fn) : List Byte :=
  let hs := (s.up u).link == .hs
  match fn with
  | .usb2 =>
    if hs then cfgDesc (ifaceDesc 0 1 9 0 1 ++ epDesc 0x81 3 6 0x0C ++ ifaceDesc 1 1 9 0 2 ++ epDesc 0x81 3 6 0x0C)
    else cfgDesc (ifaceDesc 0 1 9 0 0 ++ epDesc 0x81 3 6 0xFF)
  | .ss => cfgDesc (ifaceDesc 0 1 9 0 0 ++ epDesc 0x81 3 2 0x0C ++ [6, 0x30, 0, 0, 2, 0])
  | .mgmt =>
    let m := if hs then 512 else 64
    cfgDesc (ifaceDesc 0 3 0xFF 0x4F 1 ++ epDesc 0x01 2 m 0 ++ epDesc 0x81 2 m 0 ++ epDesc 0x82 3 m 1)

/-- USB 2.0 Extension capability (R39). -/
def extCap : List Byte := [7, 0x10, 0x02] ++ leBytes 4 0x0000641E

/-- BOS descriptor (R39). -/
def bosDesc (s : State) (fn : Fn) : List Byte :=
  match fn with
  | .mgmt => [5, 0x0F] ++ leBytes 2 12 ++ [1] ++ extCap
  | _ => [5, 0x0F] ++ leBytes 2 62 ++ [4] ++ extCap
      ++ [10, 0x10, 0x03, 0x00, 0x0E, 0x00, 0x01, 0x0A, 0xF4, 0x01]
      ++ [20, 0x10, 0x0A, 0] ++ leBytes 4 1 ++ leBytes 2 0x1100 ++ [0, 0]
      ++ leBytes 4 0x000A4030 ++ leBytes 4 0x000A40B0
      ++ [20, 0x10, 0x04, 0] ++ containerId s

/-- String descriptor (R40). -/
def stringDesc (s : State) (u : Up) (i : Nat) : Option (List Byte) :=
  let wrap (t : List Byte) : List Byte := leBytes 1 (2 + t.length) ++ [3] ++ t
  match i with
  | 0 => some [4, 3, 0x09, 0x04]
  | 1 => some (wrap (utf16 (asciiBytes "Olnil")))
  | 2 => some (wrap (utf16 (asciiBytes "Fendoxel FX3248 Lane Hub")))
  | 3 => some (wrap s.serialStr)
  | 4 => some (wrap (utf16 (asciiBytes "Fendoxel FX3248 Management")))
  | 5 => some (wrap (s.serialStr ++ utf16 (asciiBytes (match u with | .a => "-MA" | .b => "-MB"))))
  | _ => none

/-- Port p is non-removable (R37). -/
def nonRemovable (s : State) (p : Nat) : Bool := p == 33 || (p ≤ 32 && (s.port p).style == .embedded)

/-- DeviceRemovable bits of ports 1..n, from bit 1 up. -/
def removableMap (s : State) (n : Nat) : Nat :=
  mapBits (false :: (List.range n).map (fun i => nonRemovable s (i + 1)))

/-- USB 2.0 hub descriptor (R36). -/
def hubDesc (s : State) : List Byte :=
  [0x13, 0x29, 41, 0x0D, 0x00, 0x32, 0x00] ++ leBytes 6 (removableMap s 33) ++ List.replicate 6 0xFF

/-- SuperSpeed hub descriptor (R38). -/
def ssHubDesc (s : State) : List Byte :=
  [0x0C, 0x2A, 8, 0x09, 0x00, 0x32, 0x00, 0x02, 0xC8, 0x00] ++ leBytes 2 (removableMap s 8)

/-- The descriptor that a function returns for a type and index; none is answered with STALL (R34–R42). -/
def descOf (s : State) (u : Up) (fn : Fn) (kind index : Nat) : Option (List Byte) :=
  match kind with
  | 1 => some (deviceDesc s u fn)
  | 2 => if index = 0 then some (configDesc s u fn) else none
  | 3 => stringDesc s u index
  | 0x0F => some (bosDesc s fn)
  | 0x29 => match fn with | .usb2 => some (hubDesc s) | _ => none
  | 0x2A => match fn with | .ss => some (ssHubDesc s) | _ => none
  | _ => none

end Sys2Proof.Machine
end

