-- ==== Sys2Proof/Machine/PpcOps.lean ====
section
/-!
DEFINITION. Machine/PpcOps.lean: what the CC layers, policy engines and power path controllers do to each other: PD
events, stopping a policy engine, VBUS requests and off requests, trips and their clearing (R134, R158, R163, R167–R187).
-/

namespace Sys2Proof.Machine

/-! ### PD events (R163) -/

/-- CABLE of R163. -/
def cableCode (d : Pde) : Nat :=
  match d.cable with
  | none => 0
  | some c => if c.epr ∧ c.amps5 then 3 else if c.amps5 then 2 else 1

/-- The role of the PDE: source in the source states. -/
def Pde.isSource (d : Pde) : Bool :=
  match d.cc with
  | .unattachedSnk => false | .attachWaitSnk => false | .tryWaitSnk => false | .trySnk => false
  | .attachedSnk => false | .deadBattery => false | _ => true

/-- Data of a PD event; `req` is the request refused or the Alert object where the code names one. -/
def pdData (s : State) (n : Nat) (req : Option (Nat × Nat)) (cause : Nat) : Nat :=
  let d := s.pde n
  let r := match req with
    | some x => x
    | none => match d.contract with | some c => (c.rdo, c.pdo) | none => (0, 0)
  r.1 % 2 ^ 32 + at_ 32 (r.2 % 2 ^ 32) + at_ 64 (match d.rev with | some v => v % 4 | none => 3)
    + at_ 66 (b2n d.epr) + at_ 67 (b2n d.mismatch) + at_ 68 (cableCode d) + at_ 70 (b2n d.cc2)
    + at_ 71 (b2n (isUp n && d.isSource)) + at_ 72 cause + at_ 80 (s.pb n).alloc

/-- The upstream event that a PD code is raised on (R163): offset from 352 or 364, if it has one. -/
def pdUpSource (code : Nat) (fast : Bool) : Option Nat :=
  match code with
  | 3 => some 6 | 7 => some 9 | 8 => some 9 | 0x13 => some 7 | 0x14 => some 8
  | 0x15 => some (if fast then 11 else 7) | 0x16 => some 6 | 0x17 => some 6
  | _ => none

/-- A PD event; upstreams raise only the codes that have a source of theirs (R163). -/
def pdEventWith (s : State) (n code : Nat) (req : Option (Nat × Nat)) (cause : Nat) : State :=
  if isUp n then
    match pdUpSource code (match (s.pde n).swap with | some w => w.fast | none => false) with
    | some k => raiseUp s (upOfPort n) k code (pdData s n req cause)
    | none => s
  else raisePort s n 1 code (pdData s n req cause)

def pdEvent (s : State) (n code : Nat) (cause : Nat := 0) : State := pdEventWith s n code none cause

/-! ### The PDE stops (R158, R141) -/

/-- The policy engine stops without sending any message: the contract is void, the counters are reset (R158). -/
def pdStop (s : State) (n : Nat) : State :=
  let had := (s.pde n).contract.isSome
  let s := (dropContract s n).modPde n (fun d => { d with
    pe := .stopped, timers := [], tx := none, txNext := [], retries := 0, chunk2 := false, epr := false, ng := false, readv := false, action := none, frs := false, mismatch := false,
    txId := 0, txIdP := 0, bist := 0, swap := none, fallback := false, disc := 0, snkDue := false, rxChunk := none,
    accepted := false, soft := false })
  if had then pbaTrigger s 0 else s

/-- What a detach forgets of the partner and its cable, its Capability Mismatch among them (R141, R143, R148, R207, R374). -/
def pdForget (s : State) (n : Nat) : State :=
  (s.modPb n (fun b => { b with mism := false })).modPde n (fun d => { d with
    rxId := none, rxIdP := none, talked := false, rev := none, revP := none, capsN := 0, hardN := 0, discN := 0,
    cable := none, caps := [], srcCaps := [], snkCaps := [], ra := false, vconn := false, vconnOc := false,
    ccOpen := false, accTold := false, lastReq := (0, 0) })

/-! ### VBUS (R167, R178, R187) -/

/-- Nothing but the allocation may withhold VBUS: the power request on, not shed, no power cycle (R43, R134, R377), and
no factory-test strapping, which holds every gate off (R18). -/
def powerFree (s : State) (n : Nat) : Bool :=
  (isUp n || (s.port n).powerReq) && !(s.pb n).shed && (s.ppc n).cycle.isNone && s.sys.role != 3

/-- VBUS may be on: allocated as well (R23, R167). -/
def powerOk (s : State) (n : Nat) : Bool := allocated s n && powerFree s n

/-- A VBUS request stands (R167). -/
def vbusWanted (s : State) (n : Nat) : Bool := powerOk s n && (noCc s n || (s.ppc n).req)

/-- CONV_CHECK is entered: VOUT_COMMAND 5.00 V and OPERATION on (R167). -/
def enterCheck (s : State) (n : Nat) : State :=
  let s := s.modPpc n (fun q => { q with
    st := .convCheck, backTold := false, retryWait := false, mv := 5000, oldMv := 5000, oldOv := 6000, safe5 := true })
  applyLimit (setOp (setVout s n 5000) n true) n

/-- From OFF, a standing request starts the converter check (R167). -/
def tryOn (s : State) (n : Nat) : State :=
  match (s.ppc n).st with
  | .off => if vbusWanted s n then enterCheck s n else s
  | _ => s

/-- The PDE asks the PPC for vSafe5V (R134, R167). -/
def vbusOn (s : State) (n : Nat) : State := tryOn (s.modPpc n (fun q => { q with req := true })) n

/-- VBUS is removed at the connector: the port's USB link goes down (R71, R92). -/
def linkDown (s : State) (n : Nat) : State := if isUp n then s else dpeUnpower s n

/-- The converter of a port in OFF: 5.00 V, OPERATION on while the allocation is 2.5 W or more (R167). -/
def idleConverter (s : State) (n : Nat) : State := setOp (setVout s n 5000) n (allocated s n)

/-- An off request (R167): the gate turns off and the discharge starts. -/
def vbusOff (s : State) (n : Nat) : State :=
  let s := s.modPpc n (fun q => { q with req := false })
  match (s.ppc n).st with
  | .convCheck => idleConverter (s.modPpc n (fun q => { q with st := .off, retryWait := false })) n
  | .ramp | .on | .transition | .frozen =>
    let s := s.modPpc n (fun q => { q with st := .discharge, pg := false, dsch := true, under := false, ovSeen := false })
    let s := s.modPde n (fun d => { d with heldTold := false })
    setVout (linkDown s n) n 5000
  | _ => s

/-! ### The CC layer and power (R134) -/

/-- VCONN is applied to a wire that showed Ra at attach, and the wait for SOP′ starts (R133, R136, R137). -/
def vconnOn (s : State) (n : Nat) : State :=
  let d := s.pde n
  if d.ra ∧ !d.vconnOc then
    s.modPde n (fun d => { d with vconn := true, timers := PdTimer.vconnStable :: d.timers.erase .vconnStable })
  else s

/-- ATTACHED_SRC: VCONN, and vSafe5V asked for (R134); with power withheld the port waits in POWER_OFF. -/
def attachSource (s : State) (n : Nat) : State :=
  if isUp n ∨ powerFree s n then
    let s := s.modPde n (fun d => { d with cc := .attachedSrc, ccOpen := false, attachSrc := true, pe := .stopped })
    vbusOn (vconnOn s n) n
  else s.modPde n (fun d => { d with cc := .powerOff, vconn := false })

/-- POWER_OFF: as TRIPPED without the over-current indication (R134, R158). Upstreams keep their CC state. -/
def powerOff (s : State) (n : Nat) : State :=
  let s := match (s.pde n).cc with
    | .attachedSrc =>
      let s := pdStop s n
      if isUp n then s.modPde n (fun d => { d with vconn := false })
      else s.modPde n (fun d => { d with cc := .powerOff, vconn := false })
    | _ => s
  match (s.pde n).cc with
  | .attachedSnk => s
  | _ => vbusOff s n

/-- Power restored (R134): a port in POWER_OFF with Rd present goes to ATTACHED_SRC; a port without CC use is on again. -/
def powerOn (s : State) (n : Nat) : State :=
  match (s.pde n).cc with
  | .powerOff => if powerOk s n then attachSource s n else s
  | .attachedSrc => if powerOk s n ∧ (s.pde n).pe = .stopped then vbusOn s n else s
  | _ => tryOn s n

/-! ### Trips (R173–R177, R185, R186) -/

/-- The hub side of a trip (R43, R85, R90, R91): PORT_POWER cleared, C_PORT_OVER_CURRENT set, a suspended hub wakes. -/
def overCurrent (s : State) (p : Nat) : State :=
  match ownerUp (s.port p) with
  | some u =>
    let s := s.modView u p (fun v => { v with power := false, cOc := true })
    let s := s.modSsView u p (fun v => { v with power := false, cOc := true })
    let s := if 8 < p then s else ssHubWake s p 2
    match hubWakes s p with
    | some u => driveUpK s u p
    | none => s
  | none => s

/-- The cool-down that the n-th consecutive trip starts, ms (R185). -/
def coolFor (q : Ppc) (n : Nat) : Nat := if q.set.auto then min 32000 (q.set.tcool * 2 ^ (min 16 (n - 1))) else q.set.tcool

/-- A trip of source offset k with its code (R177). -/
def trip (s : State) (n k code : Nat) : State :=
  let old := s.ppc n
  if old.gate then
    let trips := min 255 (old.trips + 1)
    let cool := coolFor old trips
    let s := s.modPpc n (fun q => { q with
      st := .tripped, pg := false, dsch := true, trips := trips, tripK := k, tripAt := s.ticks, cool := cool,
      clear := false, under := false, ovSeen := false })
    let s := powerEvent s n k code old cool
    let talk := (s.pde n).contract.isSome && (s.pde n).rev == some 2
    let s := pdStop s n
    let s := s.modPde n (fun d => { d with vconn := false, ocp := true, heldTold := false,
                                           tx := if talk then some (.alert 0x04000000) else none })
    if isUp n then s
    else
      let s := s.modPde n (fun d => { d with cc := match d.cc with | .attachedSrc => .tripped | c => c })
      syncPort (linkDown (overCurrent s n) n) n
  else s

/-- The owner sees the trip cleared: C_PORT_OVER_CURRENT, and PORT_POWER set again under auto-retry (R91, R186). -/
def clearedChange (s : State) (p : Nat) (auto : Bool) : State :=
  match ownerUp (s.port p) with
  | some u =>
    let s := s.modView u p (fun v => { v with cOc := true, power := v.power || (auto && decide ((s.up u).hubCfg ≠ 0)) })
    let s := s.modSsView u p (fun v => { v with cOc := true, power := v.power || (auto && decide ((s.up u).ssCfg ≠ 0)) })
    if 8 < p then s else ssHubWake s p 2
  | none => s

/-- A trip clears (R186): CLEARED, then CONV_CHECK if a request stands and OFF otherwise. -/
def clearTrip (s : State) (n : Nat) : State :=
  let q := s.ppc n
  if q.tripK = 0 then s
  else
    let s := s.modPpc n (fun q => { q with tripK := 0, clear := false, st := if q.st = .tripped then .off else q.st })
    let s := powerEvent s n q.tripK (if q.tripK = 5 then 9 else 2) q 0
    let s := if isUp n then s else syncPort (clearedChange s n q.set.auto) n
    let s := pbaTrigger s 0
    let s := match (s.pde n).cc with
      | .tripped => attachSource s n
      | .attachedSrc => if isUp n then vbusOn (vconnOn s n) n else tryOn s n
      | _ => tryOn s n
    if (s.ppc n).st = .off then idleConverter s n else s

/-- A clearing happening (R186): it clears the trip, or is remembered until tCOOL has ended. -/
def clearHappening (s : State) (n : Nat) : State :=
  let q := s.ppc n
  if q.tripK = 0 then s
  else if q.cool = 0 then clearTrip s n
  else s.modPpc n (fun q => { q with clear := true })

/-- The power request of a port is set or cleared by its configured owner (R43, R134, R167, R186). -/
def ppcRequest (s : State) (p : Nat) (on : Bool) : State :=
  let s := if noCc s p || (s.port p).style == .embedded then pbaTrigger s 0 else s
  if on then
    let s := if (s.ppc p).set.auto then s else clearHappening s p
    powerOn s p
  else powerOff s p

end Sys2Proof.Machine
end

