-- ==== Sys2Proof/Machine/HubReq.lean ====
section
/-!
DEFINITION. Machine/HubReq.lean: the hub-class requests, the standard requests of the hub functions and the TT requests
(R31–R44, R52, R56, R57, R78, R83, R89–R95, R107, R509, R510).
-/

namespace Sys2Proof.Machine

/-! ### Answers -/

/-- The answer to a host on an upstream; a PSX that is held off answers nothing (R224, R428). -/
def answer (s : State) (u : Up) (a : Ans) : State :=
  s.modUp u (fun x => { x with ans := if s.psxOn then a else .none })

/-- A hub function answers hub-class requests only while it is presented and configured (R31, R42). -/
def configured (x : Upstream) (fn : Fn) : Bool :=
  x.has fn && match fn with
  | .usb2 => x.hubCfg != 0
  | .ss => x.ssCfg != 0
  | .mgmt => x.mgCfg != 0

/-- A function that is not presented answers nothing (R31); port 33 disabled or in reset does not answer for the
management function (R42, R44). -/
def present (s : State) (u : Up) (fn : Fn) (f : State → State) : State :=
  let x := s.up u
  if x.has fn && (fn != .mgmt || (x.mgEnabled && !x.mgResetting)) then f s else answer s u .none

/-- The port numbers of a hub function (R9, R31). -/
def hasPort (fn : Fn) (n : Nat) : Bool :=
  match fn with
  | .usb2 => 1 ≤ n && n ≤ 41
  | .ss => 1 ≤ n && n ≤ 8
  | .mgmt => false

/-- A request for port n of a function: STALL unless it is configured and has the port (R42). -/
def onPort (s : State) (u : Up) (fn : Fn) (n : Nat) (f : State → State) : State :=
  present s u fn (fun s =>
    if configured (s.up u) fn && hasPort fn n then f (answer s u .ack) else answer s u .stall)

/-! ### GetPortStatus -/

/-- GET_PORT_STATUS: four bytes, wPortStatus then wPortChange (R42, R90). -/
def getPortStatus (u : Up) (fn : Fn) (n : Nat) (s : State) : State :=
  onPort s u fn n (fun s =>
    answer s u (.data true (match fn with
      | .usb2 => leBytes 2 (portStatus s u n) ++ leBytes 2 (portChange ((s.up u).view n))
      | _ => leBytes 2 (ssStatus s u n) ++ leBytes 2 (ssChange ((s.up u).ssView n)))))

def execGetPortStatus (u : Up) (fn : Fn) (n : Nat) (s : State) : Res := leaves s (getPortStatus u fn n s)

/-! ### SetPortFeature(PORT_RESET) -/

/-- Responses stored for a management function's pipe are discarded; accepted commands store none (R44, R117). -/
def dropResponses (s : State) (u : Up) : State :=
  let n := (s.up u).respPipe.length
  let mute (c : Cmd) : Cmd := if c.tr = .usb u then { c with mute := true } else c
  let s := { s with cmd := { s.cmd with
    queue := s.cmd.queue.map mute,
    waits := s.cmd.waits.map (fun (w : Wait) => { w with cmd := mute w.cmd }),
    fwd := s.cmd.fwd.map (fun (w : Forwarded) => { w with cmd := mute w.cmd }) } }
  let s := s.modTr (.usb u) (fun t => { t with asm := none })
  let s := s.modUp u (fun x => { x with respPipe := [], evOffered := 0 })
  if n = 0 then s else raiseUp s u 10 1 n

/-- Reset of port 33: the management function to address 0, unconfigured (R44). -/
def resetMgmt (s : State) (u : Up) : State :=
  (dropResponses s u).modUp u (fun x => { x with mgAddr := 0, mgCfg := 0, mgResetting := true, mgSuspended := false })

/-- What every reset of a proxied device does to its host side: unaddressed and unconfigured, nothing held, a transfer on
the wire finished at packet level with its result discarded (R108). The other half of a lend is told by `top`. -/
def hostReset (s : State) (u : Up) (l : Loc) (top : Nat) : State :=
  let s := s.modId l (fun d => { d with hostAddr := 0, hostCfg := 0 })
  let s := s.modPx l (fun x =>
    { x.dropHeld with eps := [], ctrl := x.ctrl.cutOff, viewEn := false, viewDis := false, stopped := false })
  let s := match l with
    | .virt _ _ => sendTun (s.modTun l (fun t => t.dropData (fun _ => true))) l top 0 []
    | .phys _ => s
  s.modUp u (fun x => { x with defaultPort := locPort l })

/-- A virtual reset (R108). -/
def virtualReset (s : State) (u : Up) (l : Loc) : State :=
  (setLife (hostReset s u l 0xE) l .presented).modPx l (fun x => { x with vreset := true })

/-- A real reset from the host (R109, R123): a refill on the wire, at the lender for a virtual port. One that comes while
a refill runs makes it a real one and starts it anew. -/
def realReset (s : State) (u : Up) (l : Loc) : State :=
  let disc := (s.px l).heldBytes
  let s := (hostReset s u l 6).modPx l (fun x => { x with winOpen := false, vreset := false, realReset := true })
  match l with
  | .phys p =>
    ownerEvent (startRefill s p true (((s.port p).fill.map (·.wait)).getD 0)) p 7 (s.port p).id.owner 0 disc
  | .virt _ _ => s

/-- A host reset of a proxied device under the 500 ms window (R107). Without a DESC region every reset is real (R98). -/
def pxReset (s : State) (u : Up) (l : Loc) : State :=
  let x := s.px l
  let d := s.ident l
  let noDesc := match l with
    | .phys p => s.pages 4 p 0 == 0
    | .virt _ _ => false
  if noDesc then realReset s u l
  else if !x.winOpen then virtualReset (s.modPx l (fun x => { x with winOpen := true })) u l
  else if d.hostAddr = 0 then virtualReset s u l
  else realReset s u l

/-- C_PORT_RESET at once, with PORT_ENABLE clear (R33, R107, R509). -/
def emptyReset (s : State) (u : Up) (n : Nat) : State := s.modView u n (fun v => { v with cReset := true })

/-- SetPortFeature(PORT_RESET) on the USB 2.0 hub (R33, R42, R44, R107, R509). -/
def resetUsb2 (s : State) (u : Up) (n : Nat) : State :=
  if n = 33 then resetMgmt s u
  else if 34 ≤ n then
    let v := s.vport u n
    if !(v.shown && !v.hidden) then emptyReset s u n
    else if v.px.realReset then s else pxReset s u (.virt u n)
  else if s.owns u n then
    let q := s.port n
    match q.id.eff with
    | .translated =>
      match q.id.st with
      | .vacant => emptyReset s u n
      | .filling => emptyReset s u n
      | _ => if q.dpe = .testing ∨ q.px.realReset then s else pxReset s u (.phys n)
    | .transparent =>
      match q.dpe with
      | .unpowered => emptyReset s u n
      | .disconnected => emptyReset s u n
      | .testing => s
      | .resetting => s
      | _ => startWireReset s n
  else emptyReset s u n

/-- SetPortFeature(PORT_RESET) on the SuperSpeed hub: a hot reset in U0 (R92); in any other state, and on a port the
upstream does not own (R33), the change bit alone is set (log entry 18). -/
def resetSs (s : State) (u : Up) (n : Nat) : State :=
  if s.owns u n ∧ (s.spe n).st = .u0 then setLink s n .hotReset true
  else s.modSsView u n (fun v => { v with cReset := true })

def setPortReset (u : Up) (fn : Fn) (n : Nat) (s : State) : State :=
  onPort s u fn n (fun s => match fn with
    | .usb2 => resetUsb2 s u n
    | _ => resetSs s u n)

def execSetPortFeaturePortReset (u : Up) (fn : Fn) (n : Nat) (s : State) : Res := leaves s (setPortReset u fn n s)

/-! ### PORT_SUSPEND -/

/-- The SLEEP event of a suspend or an L1 entry; LINK is a free value where the state left has no number (log entry 10). -/
def sleepEnter (s : State) (p code : Nat) : State :=
  let q := s.port p
  match q.dpe with
  | .sleeping => raisePort s p 6 code (sleepData 0 false 1 q.id.owner.code 0 0)
  | .suspended => raisePort s p 6 code (sleepData 0 false 0 q.id.owner.code 0 0)
  | _ => (raisePort s p 6 code (sleepData 0 false (s.free % 256) q.id.owner.code 0 0)).drawn

/-- An ENABLED or SLEEPING port enters SUSPENDED (R78, R87). -/
def doSuspend (s : State) (p : Nat) : State :=
  (sleepEnter s p 1).modPort p (fun q => { q with dpe := .suspended, suspWait := false })

/-- SetPortFeature(PORT_SUSPEND) on an owned physical port (R78, R87). -/
def suspendPhys (s : State) (u : Up) (p : Nat) : State :=
  let q := s.port p
  match q.dpe with
  | .enabled =>
    if q.id.eff = .translated ∧ ¬ q.px.drained then
      answer (s.modPort p (fun q => { q with suspWait := true })) u .none
    else doSuspend s p
  | .sleeping => doSuspend s p
  | .resuming => answer s u .stall
  | _ => s

/-- SetPortFeature(PORT_SUSPEND): a virtual port's is forwarded, and its status stage awaits the lender's result (R42, R78;
log entry 46). -/
def setPortSuspend (u : Up) (n : Nat) (s : State) : State :=
  onPort s u .usb2 n (fun s =>
    if n = 33 then s.modUp u (fun x => { x with mgSuspended := true })
    else if 34 ≤ n then
      if (s.vport u n).shown then
        answer (sendTun (s.modVPort u n (fun v => { v with suspWait := true })) (.virt u n) 8 0 []) u .none
      else s
    else if s.owns u n then suspendPhys s u n else s)

def execSetPortFeaturePortSuspend (u : Up) (n : Nat) (s : State) : Res := leaves s (setPortSuspend u n s)

/-- A host resume reaches an owned port: it starts a resume, or merges into the running one (R83). -/
def hostResume (s : State) (p : Nat) (follows : Bool) : State :=
  let q := s.port p
  match q.dpe with
  | .resuming => mergeResume s p true follows
  | _ =>
    match leftOf q with
    | some left => startResume s p left true follows none
    | none => s

/-- ClearPortFeature(PORT_SUSPEND): a virtual port's is forwarded; the lender tells of the EOP (R42, R91; log entry 46). -/
def clearPortSuspend (u : Up) (n : Nat) (s : State) : State :=
  onPort s u .usb2 n (fun s =>
    if n = 33 then s.modUp u (fun x => { x with mgSuspended := false })
    else if 34 ≤ n then
      if (s.vport u n).shown then sendTun s (.virt u n) 9 0 [] else s
    else if s.owns u n then
      match (s.port n).dpe with
      | .enabled => s
      | _ => hostResume s n false
    else s)

def execClearPortFeaturePortSuspend (u : Up) (n : Nat) (s : State) : Res := leaves s (clearPortSuspend u n s)

/-! ### PORT_ENABLE -/

/-- A proxied device disabled in the owner's view only (R510). -/
def viewDisable (s : State) (l : Loc) : State :=
  s.modPx l (fun x => { x.dropIn with viewDis := true, viewEn := false })

/-- A transparent port whose link is up is disabled, without C_PORT_ENABLE and without an event; a resume that runs ends
there without a record of its own (R88; DESIGN CHOICE, log entry 47: R86 gives every resume a record and R88 this disable
none). -/
def linkDisable (s : State) (p : Nat) : State :=
  if dpeEnable (s.port p) && (s.port p).dpe != .testing then
    settleWire (s.modPort p (fun q => { q with dpe := .disabled, busSusp := false, resume := none, wire := .idle })) p
  else s

def clearPortEnable (u : Up) (n : Nat) (s : State) : State :=
  onPort s u .usb2 n (fun s =>
    if n = 33 then s.modUp u (fun x => { x with mgEnabled := false })
    else if 34 ≤ n then
      if (s.vport u n).shown then viewDisable s (.virt u n) else s
    else if s.owns u n then
      let q := s.port n
      match q.id.eff with
      | .translated =>
        match q.id.st with
        | .vacant => s
        | .filling => s
        | _ => viewDisable s (.phys n)
      | .transparent => linkDisable s n
    else s)

def execClearPortFeaturePortEnable (u : Up) (n : Nat) (s : State) : Res := leaves s (clearPortEnable u n s)

/-! ### PORT_POWER (R43) -/

/-- A virtual port that is powered is presented again like a parked port (R126). -/
def vportPower (s : State) (u : Up) (n : Nat) : State := syncConn s u n

def setPortPower (u : Up) (fn : Fn) (n : Nat) (s : State) : State :=
  onPort s u fn n (fun s =>
    match fn with
    | .usb2 =>
      if n = 33 then s
      else
        let s := s.modView u n (fun v => { v with power := true })
        if 34 ≤ n then vportPower s u n
        else
          let s := if s.owns u n then ppcRequest (s.modPort n (fun q => { q with powerReq := true })) n true else s
          syncConn (unpark s u n) u n
    | _ =>
      let s := s.modSsView u n (fun v => { v with power := true })
      let s := if s.owns u n then ppcRequest (s.modPort n (fun q => { q with powerReq := true })) n true else s
      syncSs s u n)

def execSetPortFeaturePortPower (u : Up) (fn : Fn) (n : Nat) (s : State) : Res := leaves s (setPortPower u fn n s)

def clearPortPower (u : Up) (fn : Fn) (n : Nat) (s : State) : State :=
  onPort s u fn n (fun s =>
    match fn with
    | .usb2 =>
      if n = 33 then s
      else
        let s := s.modView u n (fun v => { v with power := false })
        let s := if n ≤ 32 && s.owns u n then
            ppcRequest (s.modPort n (fun q => { q with powerReq := false })) n false
          else s
        syncConn s u n
    | _ =>
      let s := s.modSsView u n (fun v => { v with power := false })
      let s := if s.owns u n then ppcRequest (s.modPort n (fun q => { q with powerReq := false })) n false else s
      syncSs s u n)

def execClearPortFeaturePortPower (u : Up) (fn : Fn) (n : Nat) (s : State) : Res := leaves s (clearPortPower u fn n s)

/-! ### PORT_TEST and PORT_INDICATOR -/

/-- Every physical port that the upstream owns is in SUSPENDED, DISABLED, DISCONNECTED or UNPOWERED (R89). -/
def allQuiet (s : State) (u : Up) : Bool :=
  s.ports.all (fun q => q.id.owner != upOwner u ||
    (match q.dpe with
    | .suspended => true | .disabled => true | .disconnected => true | .unpowered => true | _ => false))

def setPortTest (u : Up) (n : Nat) (sel : TestSel) (s : State) : State :=
  onPort s u .usb2 n (fun s =>
    if 32 < n ∨ sel = .other ∨ ¬ allQuiet s u then answer s u .stall
    else if s.owns u n then
      s.modPort n (fun q => { q with testView := (wireConn q, dpeEnable q), dpe := .testing, wire := .test sel })
    else s)

def execSetPortFeaturePortTest (u : Up) (n : Nat) (sel : TestSel) (s : State) : Res := leaves s (setPortTest u n sel s)

/-- SetPortFeature(PORT_INDICATOR) is answered with STALL on every port (R42). -/
def setPortIndicator (u : Up) (_n : Nat) (s : State) : State := answer s u .stall

def execSetPortFeaturePortIndicator (u : Up) (n : Nat) (s : State) : Res := leaves s (setPortIndicator u n s)

/-! ### Change features -/

/-- A change selector that the function has: bhReset and linkState on the SuperSpeed hub, l1, enable and suspend on the
USB 2.0 hub. -/
def hasChange (fn : Fn) (c : Change) : Bool :=
  match fn, c with
  | .usb2, .bhReset => false
  | .usb2, .linkState => false
  | .usb2, _ => true
  | .ss, .enable => false
  | .ss, .suspend => false
  | .ss, .l1 => false
  | .ss, _ => true
  | .mgmt, _ => false

def clearPortC (u : Up) (fn : Fn) (n : Nat) (c : Change) (s : State) : State :=
  onPort s u fn n (fun s =>
    if hasChange fn c then
      match fn with
      | .usb2 => s.modView u n (clearChange c)
      | _ => s.modSsView u n (clearSsChange c)
    else answer s u .stall)

def execClearPortFeatureC (u : Up) (fn : Fn) (n : Nat) (c : Change) (s : State) : Res := leaves s (clearPortC u fn n c s)

/-! ### TT requests (R52, R56, R57) -/

/-- The physical ports whose TTs a TT request with wIndex n acts on: in single TT, port 1 stands for all (R52). The spec
says only that the requests then take port number 1; for another physical port number they complete with no effect, as for
a port that is not owned (DESIGN CHOICE, log entry 48). -/
def ttPorts (s : State) (u : Up) (n : Nat) : List Nat :=
  let own := (List.range 32).map (· + 1) |>.filter (fun p => s.owns u p)
  if (s.up u).hubAlt = 0 then (if n = 1 then own else []) else own.filter (· == n)

/-- A TT request: STALL on port 33; on a virtual port it acts on the proxy buffers (R42, R57). -/
def onTt (s : State) (u : Up) (n : Nat) (phys : State → Nat → State) (virt : State → State) : State :=
  onPort s u .usb2 n (fun s =>
    if n = 33 then answer s u .stall
    else if 34 ≤ n then (if (s.vport u n).shown then virt s else s)
    else (ttPorts s u n).foldl phys s)

/-- Packets of the endpoint number in a virtual port's proxy are freed at this half: held ones, and those of frames that
are not acknowledged (R57, R122). -/
def freeVBuf (ep : Nat) (v : VPort) : VPort :=
  let hit (a : Nat) : Bool := a % 128 == ep
  { v with
    px := { v.px with
      eps := v.px.eps.map (fun e => if hit e.addr && e.kind != 3 then e.discard else e),
      ctrl := if ep = 0 then v.px.ctrl.cutOff else v.px.ctrl },
    tun := if ep = 0 then v.tun else v.tun.dropData hit }

/-- Clear_TT_Buffer frees the buffer of the addressed device endpoint (R56). -/
def clearTt (addr ep : Nat) (t : Tt) : Tt :=
  { t with np := t.np.filter (fun b => b.addr != addr || b.ep != ep) }

def clearTtBuffer (u : Up) (n addr ep : Nat) (s : State) : State :=
  onTt s u n (fun s p => s.modPort p (fun q => { q with tt := clearTt addr ep q.tt }))
    (fun s => if (s.vport u n).id.hostAddr = addr then s.modVPort u n (freeVBuf ep) else s)

def execClearTtBuffer (u : Up) (n addr ep : Nat) (s : State) : Res := leaves s (clearTtBuffer u n addr ep s)

/-- Reset_TT (R56, R57). -/
def resetTt (u : Up) (n : Nat) (s : State) : State :=
  onTt s u n (fun s p => s.modPort p (fun q => { q with tt := resetTt1 q.tt }))
    (fun s => s.modVPort u n (fun v => { v with
      px := { v.px.dropHeld with ctrl := v.px.ctrl.cutOff, stopped := false },
      tun := v.tun.dropData (fun _ => true) }))

def execResetTt (u : Up) (n : Nat) (s : State) : Res := leaves s (resetTt u n s)

/-- Stop_TT: no other transaction starts until Reset_TT (R56); a virtual port's proxy then takes and sends no packet
(R57). -/
def stopTt (u : Up) (n : Nat) (s : State) : State :=
  onTt s u n (fun s p => s.modPort p (fun q => { q with tt := { q.tt with stopped := true } }))
    (fun s => s.modVPort u n (fun v => { v with px := { v.px with stopped := true } }))

def execStopTt (u : Up) (n : Nat) (s : State) : Res := leaves s (stopTt u n s)

/-- Busy map of the non-periodic buffers, by buffer number (R56). -/
def busyMap (t : Tt) : Nat := mapBits ((List.range 16).map (fun i => t.np.any (fun b => b.slot == i)))

/-- The 8 bytes of Get_TT_State from the busy map, the pending start splits and the frame number (R56). -/
def ttBytes (busy pend frame : Nat) : List Byte :=
  leBytes 1 (busy % 256) ++ leBytes 1 pend ++ leBytes 2 frame ++ leBytes 1 (busy / 256 % 256) ++ [0, 0, 0]

/-- The state of a TT (R56): the splits executed in the current microframe are those of earlier ones (R54). -/
def ttState (t : Tt) : List Byte :=
  ttBytes (busyMap t) (t.per.filter (fun x => x.res.isNone && !x.dropped && 1 ≤ x.age)).length t.frame

/-- The buffers of a virtual port's proxy in the same form: its non-periodic buffers, numbered in endpoint order, the
packets of its interrupt endpoints, and for the frame number, which its half of the lend does not send, a free value
(R57; log entry 48). -/
def vttState (s : State) (v : VPort) : List Byte :=
  let np := v.px.eps.filter (·.kind != 3)
  let busy := mapBits ((np.map (fun e => (List.range e.bufs).map (fun i => decide (i < e.held.length)))).flatten.take 16)
  ttBytes busy ((v.px.eps.filter (·.kind == 3)).foldl (fun n e => n + e.held.length) 0) (s.free % 2048)

/-- Get_TT_State: in single TT the state is that of the lowest port owned, and of a port not owned that of an idle TT
(R52, R57; DESIGN CHOICE, log entry 48). -/
def getTtState (u : Up) (n wLength : Nat) (s : State) : State :=
  let s := onTt s u n (fun s _ => s) (fun s => s)
  if (s.up u).ans = .ack then
    if 34 ≤ n ∧ (s.vport u n).shown then
      (answer s u (.data true ((vttState s (s.vport u n)).take wLength))).drawn
    else
      let t := match ttPorts s u n with
        | p :: _ => (s.port p).tt
        | [] => {}
      answer s u (.data true ((ttState t).take wLength))
  else s

def execGetTtState (u : Up) (n wLength : Nat) (s : State) : Res := leaves s (getTtState u n wLength s)

/-! ### SuperSpeed port features (R92, R94–R96, R99) -/

/-- U3 exit started by the host: one handshake serves both wakes (R96). -/
def hostU0 (s : State) (p : Nat) : State :=
  match (s.spe p).exit with
  | some r =>
    s.modSpe p (fun e => { e with exit := some { r with
      delta := if r.host ∨ r.delta.isSome then r.delta else some ((s.ticks : Int) - r.start) } })
  | none =>
    match (s.spe p).st with
    | .u3 => setLink (s.modSpe p (fun e => { e with exit := some { left := 3, host := true, start := s.ticks, stamp := s.now } }))
        p .recovery true
    | .u1 => setLink s p .recovery true
    | .u2 => setLink s p .recovery true
    | _ => s

/-- SetPortFeature(PORT_LINK_STATE) (R92, R99). A request for SS.Disabled on a link in SS.Inactive, Compliance or Loopback,
which only a warm reset leaves (R92, R95), is answered STALL, as is one for a state that R92 gives no such request
(DESIGN CHOICE, log entry 49). -/
def setLinkState (u : Up) (n : Nat) (st : Link) (s : State) : State :=
  onPort s u .ss n (fun s =>
    if !s.owns u n then s
    else if (s.port n).id.eff = .translated then (if st = .rxDetect then answer s u .stall else s)
    else
      match st with
      | .u3 => if (s.spe n).st = .u0 then setLink s n .u3 true else s
      | .u0 => hostU0 s n
      | .u1 => if (s.spe n).st = .u0 then setLink s n .u1 true else s
      | .u2 => if (s.spe n).st = .u0 then setLink s n .u2 true else s
      | .ssDisabled =>
        match (s.spe n).st with
        | .ssInactive => answer s u .stall
        | .compliance => answer s u .stall
        | .loopback => answer s u .stall
        | _ => setLink s n .ssDisabled true
      | .rxDetect => if (s.spe n).st = .ssDisabled then setLink s n .rxDetect true else s
      | _ => answer s u .stall)

def execSetPortFeaturePortLinkState (u : Up) (n : Nat) (st : Link) (s : State) : Res := leaves s (setLinkState u n st s)

/-- A warm reset leaves SS.Inactive, Compliance or Loopback (R92). On a link in any other state, for which R92 names no
outcome, it has no effect and sets no C_BH_PORT_RESET (DESIGN CHOICE, log entry 49). -/
def setBhReset (u : Up) (n : Nat) (s : State) : State :=
  onPort s u .ss n (fun s =>
    if s.owns u n then
      match (s.spe n).st with
      | .ssInactive => s.modSpe n (fun e => { e with warm := true })
      | .compliance => s.modSpe n (fun e => { e with warm := true })
      | .loopback => s.modSpe n (fun e => { e with warm := true })
      | _ => s
    else s)

def execSetPortFeatureBhPortReset (u : Up) (n : Nat) (s : State) : Res := leaves s (setBhReset u n s)

/-- Values 0x80–0xFE act as 0x7F (R94). -/
def uTimeout (v : Nat) : Nat := if 0x80 ≤ v ∧ v ≤ 0xFE then 0x7F else v % 256

def setU1Timeout (u : Up) (n value : Nat) (s : State) : State :=
  onPort s u .ss n (fun s => if s.owns u n then s.modSpe n (fun e => { e with u1To := uTimeout value }) else s)

def execSetPortFeaturePortU1Timeout (u : Up) (n value : Nat) (s : State) : Res := leaves s (setU1Timeout u n value s)

def setU2Timeout (u : Up) (n value : Nat) (s : State) : State :=
  onPort s u .ss n (fun s => if s.owns u n then s.modSpe n (fun e => { e with u2To := uTimeout value }) else s)

def execSetPortFeaturePortU2Timeout (u : Up) (n value : Nat) (s : State) : Res := leaves s (setU2Timeout u n value s)

/-- PORT_REMOTE_WAKE_MASK of a SuperSpeed port (R85). -/
def setWakeMask (u : Up) (n mask : Nat) (s : State) : State :=
  onPort s u .ss n (fun s => s.modSsView u n (fun v => { v with wakeMask := mask % 8 }))

def execSetPortFeatureRemoteWakeMask (u : Up) (n mask : Nat) (s : State) : Res := leaves s (setWakeMask u n mask s)

/-- GetPortErrorCount returns and clears the link error count (R95); a port not owned reads 0 (R33). -/
def getPortErrors (u : Up) (n : Nat) (s : State) : State :=
  onPort s u .ss n (fun s =>
    if s.owns u n then
      answer (s.modSpe n (fun e => { e with errs := 0 })) u (.data true (leBytes 2 (s.spe n).errs))
    else answer s u (.data true [0, 0]))

def execGetPortErrorCount (u : Up) (n : Nat) (s : State) : Res := leaves s (getPortErrors u n s)

/-! ### Standard requests of the functions (R31, R43, R52, R81, R84) -/

/-- Charging modes are evaluated anew on ports without a device (R76). -/
def rechargeAll (s : State) (u : Up) : State :=
  (List.range 32).foldl (fun s i => if s.owns u (i + 1) then recharge s (i + 1) else s) s

/-- Every hub port's bit and change bits as after the function's reset (R43; log entry 12). -/
def clearViews (x : Upstream) : Upstream := { x with views := List.replicate 41 {} }

def clearSsViews (x : Upstream) : Upstream := { x with ssViews := List.replicate 8 {} }

/-- SetConfiguration of a function; its one configuration has value 1 (log entry 9). -/
def hubSetConfiguration (u : Up) (fn : Fn) (value : Nat) (s : State) : State :=
  present s u fn fun s =>
  if 1 < value then answer s u .stall
  else
    let s := answer s u .ack
    match fn with
    | .usb2 =>
      let s := s.modUp u (fun x => { clearViews x with hubCfg := value, hubAlt := 0, scTog := false })
      rechargeAll (raiseUp s u 3 (if value = 0 then 2 else 1) value) u
    | .ss =>
      let s := s.modUp u (fun x => { clearSsViews x with ssCfg := value })
      raiseUp s u 3 (if value = 0 then 2 else 1) value
    | .mgmt => s.modUp u (fun x => { x with mgCfg := value, evOffered := 0, evToggle := false, respToggle := false })

def execHubSetConfiguration (u : Up) (fn : Fn) (value : Nat) (s : State) : Res :=
  leaves s (hubSetConfiguration u fn value s)

/-- SetInterface of the USB 2.0 hub: 0 single TT, 1 multi-TT, the latter at HS only (R35, R52). -/
def hubSetInterface (u : Up) (alt : Nat) (s : State) : State :=
  present s u .usb2 fun s =>
  let x := s.up u
  if x.hubCfg = 0 ∨ 1 < alt ∨ (alt = 1 ∧ x.link ≠ .hs) then answer s u .stall
  else (answer s u .ack).modUp u (fun x => { x with hubAlt := alt, scTog := false })

def execHubSetInterface (u : Up) (alt : Nat) (s : State) : Res := leaves s (hubSetInterface u alt s)

/-- The descriptors of a function (R34–R41); the hub-class ones, 0x29 and 0x2A, only while it is configured (R42). -/
def hubGetDescriptor (u : Up) (fn : Fn) (kind index wLength : Nat) (s : State) : State :=
  present s u fn fun s =>
  if (kind = 0x29 ∨ kind = 0x2A) ∧ ¬ configured (s.up u) fn then answer s u .stall
  else
    match descOf s u fn kind index with
    | some d => answer s u (.data true (d.take wLength))
    | none => answer s u .stall

def execHubGetDescriptor (u : Up) (fn : Fn) (kind index wLength : Nat) (s : State) : Res :=
  leaves s (hubGetDescriptor u fn kind index wLength s)

/-- The hub function may enter L1 (R81): a virtual port that is shown blocks it unless it is suspended or disabled. -/
def hubMayL1 (s : State) (u : Up) : Bool :=
  (s.up u).respPipe.isEmpty &&
  (List.range 8).all (fun i => let v := s.vport u (34 + i); !(s.conn u (34 + i)) || v.susp || v.px.viewDis || !v.px.viewEn) &&
  s.ports.all (fun q => q.id.owner != upOwner u ||
    (match q.dpe with
    | .sleeping => true | .suspended => true | .disabled => true | .disconnected => true | .unpowered => true
    | _ => false))

def hubLpmToken (u : Up) (besl : Nat) (s : State) : State :=
  present s u .usb2 fun s =>
  if hubMayL1 s u then
    raiseUp ((answer s u .ack).modUp u (fun x => { x with bus := .l1, besl := besl % 16 })) u 1 2 (besl % 16)
  else answer s u .nyet

def execHubLpmToken (u : Up) (besl : Nat) (s : State) : Res := leaves s (hubLpmToken u besl s)

/-- DEVICE_REMOTE_WAKEUP, U1_ENABLE, U2_ENABLE and the SuperSpeed function's wake (R84, R85, R94). -/
def hubSetFeature (u : Up) (f : HubFeature) (on : Bool) (s : State) : State :=
  present s u (match f with | .deviceRemoteWakeup => .usb2 | _ => .ss) fun s =>
  (answer s u .ack).modUp u (fun x =>
    match f with
    | .deviceRemoteWakeup => { x with remoteWake := on }
    | .u1Enable => { x with u1En := on }
    | .u2Enable => { x with u2En := on }
    | .functionSuspendWake => { x with ssWake := on })

def execHubSetFeature (u : Up) (f : HubFeature) (on : Bool) (s : State) : Res := leaves s (hubSetFeature u f on s)

/-- SET_ADDRESS to a function of the upstream (R31). -/
def hubSetAddress (u : Up) (fn : Fn) (addr : Nat) (s : State) : State :=
  present s u fn fun s =>
  (answer s u .ack).modUp u (fun x =>
    match fn with
    | .usb2 => { x with hubAddr := addr % 128 }
    | .ss => { x with ssAddr := addr % 128 }
    | .mgmt => { x with mgAddr := addr % 128 })

def execHubSetAddress (u : Up) (fn : Fn) (addr : Nat) (s : State) : Res := leaves s (hubSetAddress u fn addr s)

end Sys2Proof.Machine
end

