-- ==== Sys2Proof/Machine/DpeRows.lean ====
section
/-!
DEFINITION. Machine/DpeRows.lean: connect, disconnect, reset, suspend, L1, resume and errors of the USB 2.0 port state
machines (R71–R91).
-/

namespace Sys2Proof.Machine

/-- Something happened on a port of a suspended hub that may wake the host (R85). -/
def wakeForPort (s : State) (p : Nat) : Bool × State :=
  match hubWakes s p with
  | some u => (true, driveUpK s u p)
  | none => (false, s)

/-- CONNECT (R72, R97, R98, R103): DISABLED, speed from the pull-up, then the cache fill on a translated port. -/
def connect (p : Nat) (pullUpDp : Bool) (s : State) : State :=
  match (s.port p).dpe with
  | .disconnected =>
    if (s.port p).chargeNow = 1 then s
    else
      let sp : Speed := if pullUpDp then .fs else .ls
      let eff := effMode s p
      let miss := decide ((s.port p).id.mode = .translated ∧ eff = .transparent)
      let s := s.modPort p (fun q => { q with
        dpe := .disabled, sofOn := true,
        id := { q.id with speed := sp, fallback := if miss then 4 else 0 } })
      let s := setEff s p eff
      let w := wakeForPort s p
      let s := raisePort w.2 p 0 1 (connectData (w.2.port p) w.1)
      let s := if miss then ownerEvent s p 6 (s.port p).id.owner 4 0 else s
      wakeDoze (syncPort (if eff = .translated then startFill s p else s) p)
  | _ => s

def execConnect (p : Nat) (pullUpDp : Bool) (s : State) : Res := leaves s (connect p pullUpDp s)

/-- DISCONNECT (R71, R73, R87, R100). -/
def disconnect (p : Nat) (s : State) : State :=
  match (s.port p).dpe with
  | .unpowered => s
  | .disconnected => s
  | .testing => s
  | _ =>
    let w := wakeForPort s p
    let s := raisePort w.2 p 0 2 (connectData (w.2.port p) w.1)
    let s := wakeDoze (loseDevice s p .disconnected)
    if 8 < p then s
    else
      let s := s.modSpe p (fun e => { e with fails := 0 })
      if (s.spe p).st = .ssDisabled ∧ (s.port p).id.eff = .transparent then setLink s p .rxDetect false else s

def execDisconnect (p : Nat) (s : State) : Res := leaves s (disconnect p s)

/-- The chirp is accepted: a wire reset the PSX asked for on a translated port, or an owner attached at HS (R74). -/
def acceptsChirp (s : State) (p : Nat) : Bool :=
  let q := s.port p
  (q.fill.isSome && q.id.eff == .translated) ||
  (match ownerUp q with
  | some u => (s.up u).link == .hs
  | none => false)

def deviceChirp (p : Nat) (s : State) : State :=
  match (s.port p).dpe with
  | .resetting => s.modPort p (fun q => { q with chirp := if acceptsChirp s p then 1 else 3 })
  | _ => s

def execDeviceChirp (p : Nat) (s : State) : Res := leaves s (deviceChirp p s)

/-- The device's chirp K ends in time and the DPE starts its K-J sequence; later than that it sends none (R74). -/
def deviceChirpEnd (p : Nat) (inTime : Bool) (s : State) : State :=
  match (s.port p).dpe with
  | .resetting =>
    if (s.port p).chirp = 1 ∧ inTime then s.modPort p (fun q => { q with chirp := 2, wire := .chirp }) else s
  | _ => s

def execDeviceChirpEnd (p : Nat) (inTime : Bool) (s : State) : Res := leaves s (deviceChirpEnd p inTime s)

/-- A standard descriptor request, as the fill's next request after its wire reset: GET_DESCRIPTOR(DEVICE), wLength 18, to address 0 (R103). -/
def getDescSetup (kind index len : Nat) : List Byte :=
  [0x80, 6] ++ leBytes 1 index ++ leBytes 1 kind ++ [0, 0] ++ leBytes 2 len

/-- RESET_END (R74, R91): the speed is known; an FS or LS port whose line is not idle J enters DISABLED. After a PORT_RESET
by command the owner sees a connect, of a port that it must enable (R368). -/
def resetEnd (p : Nat) (idle : Bool) (s : State) : State :=
  let q := s.port p
  match q.dpe with
  | .resetting =>
    let hs := decide (q.chirp = 2)
    let sp : Speed := if hs then .hs else if q.chirp = 0 then (if q.id.speed = .hs then .fs else q.id.speed) else .fs
    let ok := hs || idle
    let s := if q.chirp = 1 then raisePort s p 7 4 0 else s
    let s := if ok then s else raisePort s p 7 5 0
    let s := settleWire (s.modPort p (fun q => { q with
      dpe := if ok then .enabled else .disabled, chirp := 0, wire := .idle, id := { q.id with speed := sp } })) p
    match q.fill with
    | some _ =>
      if ok then s.modPort p (fun q => { q with
        fill := q.fill.map (fun f => { f with step := 3, tries := 1, req := getDescSetup 1 0 18 }),
        wire := .setup (getDescSetup 1 0 18) })
      else s
    | none =>
      if q.cmdReset then
        syncPort (s.modPort p (fun q => { q with cmdReset := false, dpe := .disabled })) p
      else
      let s := setChange s p (fun v => { v with cReset := true })
      let s := match ownerUp q with
        | some u => if ok then s.modUp u (fun x => { x with defaultPort := p }) else s
        | none => s
      syncPort (markSusp s p) p
  | _ => s

def execResetEnd (p : Nat) (idle : Bool) (s : State) : Res := leaves s (resetEnd p idle s)

/-- CDP_VDP_SRC: as a CDP the DPE drives or removes VDM_SRC (R77). -/
def cdpVdpSrc (p : Nat) (present : Bool) (s : State) : State :=
  if (s.port p).chargeNow = 2 then s.modPort p (fun q => { q with vdmSrc := present }) else s

def execCdpVdpSrc (p : Nat) (present : Bool) (s : State) : Res := leaves s (cdpVdpSrc p present s)

/-! ### Suspend and L1 -/

/-- UPSTREAM_SUSPEND (R79, R292): ENABLED ports take the bus-suspended mark; port 33 suspends too. -/
def upstreamSuspend (u : Up) (s : State) : State :=
  let s := s.modUp u (fun x => { x with bus := .suspended, mgSuspended := true, sofLocked := false, sofGood := 0 })
  let s := raiseUp s u 1 1 0
  ports32.foldl (fun s p =>
    if s.owns u p ∧ (s.port p).dpe = .enabled then s.modPort p (fun q => { q with busSusp := true }) else s) s

def execUpstreamSuspend (u : Up) (s : State) : Res := leaves s (upstreamSuspend u s)

/-- An ENABLED port enters SLEEPING (R80). -/
def enterL1 (s : State) (p besl : Nat) : State :=
  match (s.port p).dpe with
  | .enabled => (sleepEnter s p 2).modPort p (fun q => { q with dpe := .sleeping, besl := besl % 16 })
  | _ => s

/-- DEVICE_LPM_ACK on a transparent port (R80). -/
def deviceLpmAck (p besl : Nat) (s : State) : State := enterL1 s p besl

def execDeviceLpmAck (p besl : Nat) (s : State) : Res := leaves s (deviceLpmAck p besl s)

/-- The owner's view of a proxied device answers no host token: disabled by its host, or in reset (R108, R510). -/
def viewSilent (x : Proxy) : Bool := x.vreset || x.realReset || x.viewDis

/-- PROXY_LPM_TOKEN, whose operand is BESL in bits 3:0 and bRemoteWake in bit 4: NYET while the proxy holds data; otherwise its own token to the device decides (R80, R123). A device
in L1 on the proxy's account is then in L1 on the owner's (R446). A port disabled in the owner's view answers nothing
(R510). -/
def proxyLpmToken (u : Up) (n besl : Nat) (device : Hs) (s : State) : State :=
  if viewSilent (s.px (locOf u n)) then answer s u .none
  else if 34 ≤ n then answer s u .nyet
  else if s.owns u n ∧ (s.port n).pxL1 ∧ (s.port n).dpe = .sleeping ∧ (s.port n).px.heldBytes = 0 then
    answer (s.modPort n (fun q => { q with pxL1 := false, ownerL1 := some (besl % 32) })) u .ack
  else if ¬ s.owns u n ∨ (s.port n).id.eff ≠ .translated ∨ (s.port n).dpe ≠ .enabled
      ∨ ((s.port n).id.st ≠ .presented ∧ (s.port n).id.st ≠ .live)
      ∨ (s.port n).px.heldBytes ≠ 0 ∨ (s.port n).px.ctrl.active then answer s u .nyet
  else
    let s := s.modPort n (fun q => { q with wire := .lpm (besl % 32) })
    match device with
    | .ack => answer ((enterL1 s n besl).modPort n (fun q => { q with ownerL1 := some (besl % 32) })) u .ack
    | _ => answer s u .nyet

def execProxyLpmToken (u : Up) (n besl : Nat) (device : Hs) (s : State) : Res :=
  leaves s (proxyLpmToken u n besl device s)

/-! ### Resume -/

/-- A device wake that no answer is given to (R85). -/
def wakeBlocked (s : State) (p : Nat) : Bool :=
  match ownerUp (s.port p) with
  | some u => (s.up u).bus == .suspended && !(s.up u).remoteWake
  | none => false

/-- The device's K qualifies on a sleeping, suspended or bus-suspended port (R83–R85, R123); from L1 on the proxy's
account on the wire alone (R446). -/
def startDeviceWake (s : State) (p left : Nat) : State :=
  if (s.port p).pxL1 then startResume s p left false false none
  else match ownerUp (s.port p) with
  | some u =>
    if (s.up u).hostK then driveUpK (startResume s p left true true (some 0)) u p
    else
      let s := startResume s p left false false none
      if canWakeUp (s.up u) then driveUpK s u p else s
  | none =>
    let s := startResume s p left false false none
    if (s.port p).id.owner = .lent then sendTun s (.phys p) 7 0 [] else s

/-- DEVICE_WAKE (R83–R86): starts a resume, merges into a running one, or is blocked. -/
def deviceWake (p : Nat) (s : State) : State :=
  let q := s.port p
  match q.dpe with
  | .resuming => mergeResume s p false false
  | _ =>
    match leftOf q with
    | none => s
    | some left =>
      if wakeBlocked s p then raisePort s p 6 5 (sleepData 0 false left q.id.owner.code 0 0)
      else wakeDoze (startDeviceWake s p left)

def execDeviceWake (p : Nat) (s : State) : Res := leaves s (deviceWake p s)

/-- The host's resume of an upstream reaches its ports: bus-suspended ports, and every port from L1 (R83). -/
def resumePorts (s : State) (u : Up) (all : Bool) : State :=
  ports32.foldl (fun s p =>
    if s.owns u p then
      match (s.port p).dpe with
      | .resuming => mergeResume s p true true
      | .enabled => if (s.port p).busSusp then startResume s p 2 true true none else s
      | .suspended => if all then startResume s p 0 true false none else s
      | .sleeping => if all then startResume s p 1 true false none else s
      | _ => s
    else s) s

/-- HOST_K: the UXC qualifies host K on an upstream (R83, R84). -/
def hostK (u : Up) (s : State) : State :=
  let x := s.up u
  match x.bus with
  | .active => s
  | .resuming => s
  | _ =>
    let s := s.modUp u (fun x => { x with bus := .resuming, hostK := true })
    let s := if x.kDrive.isNone then raiseUp s u 2 1 0 else s
    wakeDoze (resumePorts s u (x.bus == .l1))

def execHostK (u : Up) (s : State) : Res := leaves s (hostK u s)

/-- UPSTREAM_WAKE_DRIVE_END: the UXC releases its K and judges the line (R84). -/
def upstreamWakeDriveEnd (u : Up) (lineK : Bool) (s : State) : State :=
  let x := s.up u
  match x.kDrive with
  | none => s
  | some (p, _) =>
    let start := if p ≤ 32 then ((s.port p).resume.map (·.start)).getD s.ticks else s.ticks
    let s := s.modUp u (fun x => { x with kDrive := none })
    if lineK then
      let s := s.modUp u (fun x => { x with bus := .resuming, hostK := true })
      let s := raiseUp s u 2 2 (p + at_ 32 (uns 32 ((s.ticks : Int) - start)))
      resumePorts s u (x.bus == .l1)
    else raiseUp s u 2 3 p

def execUpstreamWakeDriveEnd (u : Up) (lineK : Bool) (s : State) : Res := leaves s (upstreamWakeDriveEnd u lineK s)

/-- A resume ends; a port whose upstream was reset meanwhile is then handled as R117 sets (R87, R118). -/
def finishResume (s : State) (p : Nat) : State :=
  let s := afterResume (endResume s p) p (s.port p).pxL1
  match (s.port p).refillNext with
  | some w => startRefill (s.modPort p (fun q => { q with refillNext := none })) p false w
  | none =>
  if (s.port p).parkNext then
    match (s.port p).id.eff with
    | .translated => park s p 1
    | .transparent => s.modPort p (fun q => { q with dpe := .disabled, addr := 0, busSusp := false, parkNext := false })
  else s

/-- The resume follows the K of the owning upstream, which is itself in a resume driven by the host (R83 step 3). -/
def followsK (s : State) (p : Nat) (r : Resume) : Bool :=
  r.follows && match ownerUp (s.port p) with
    | some u => (s.up u).bus == .resuming
    | none => false

/-- RESUME_K_END: the DPE ends K and sends the EOP, unless the port follows its upstream's K (R83). -/
def resumeKEnd (p : Nat) (s : State) : State :=
  match (s.port p).resume with
  | some r =>
    if followsK s p r then s.modPort p (fun q => { q with resume := some { r with kOver := true } })
    else finishResume s p
  | none => s

def execResumeKEnd (p : Nat) (s : State) : Res := leaves s (resumeKEnd p s)

/-- The host's EOP at one port of the upstream (R79, R83). -/
def eopPort (u : Up) (s : State) (p : Nat) : State :=
  if s.owns u p then
    match (s.port p).resume with
    | some r => if r.follows then finishResume s p else s
    | none => s.modPort p (fun q => { q with busSusp := false })
  else s

/-- UPSTREAM_RESUME_EOP: the host's EOP is repeated to each port whose resume follows it (R79, R83). -/
def upstreamResumeEop (u : Up) (s : State) : State :=
  match (s.up u).bus with
  | .resuming =>
    ports32.foldl (eopPort u)
      (s.modUp u (fun x => { x with bus := .active, hostK := false, mgSuspended := false }))
  | _ => s

def execUpstreamResumeEop (u : Up) (s : State) : Res := leaves s (upstreamResumeEop u s)

/-! ### Errors (R88) -/

/-- An ENABLED port is disabled by an error: shown to the owner, or repaired by a refill on a translated port; an error in
the course of a fill or refill has the wire reset and the requests made anew (R88). -/
def errorDisable (s : State) (p code : Nat) : State :=
  let q := s.port p
  match q.dpe with
  | .enabled =>
    let s := raisePort s p 7 code 0
    let s := s.modPort p (fun q => { q with dpe := .disabled, busSusp := false })
    match q.id.eff with
    | .transparent => setChange s p (fun v => { v with cEnable := true })
    | .translated =>
      if s.pages 4 p 0 = 0 then
        (setChange s p (fun v => { v with cEnable := true })).modPort p (fun q =>
          { q with px := { q.px with viewEn := false } })
      else
        match q.id.st with
        | .vacant => s
        | .filling => startWireReset (s.modPort p (fun q => { q with fill := q.fill.map (fun f =>
            { f with step := 1, tries := 1, index := 0, whole := false, device := [], configs := [] }) })) p
        | .refilling => startRefill s p ((q.fill.map (·.real)).getD false) ((q.fill.map (·.wait)).getD 0)
        | _ => startRefill s p false 0
  | _ => s

def execBabble (p : Nat) (s : State) : Res := leaves s (errorDisable s p 1)

def execLossOfActivity (p : Nat) (s : State) : Res := leaves s (errorDisable s p 2)

def execPortError (p : Nat) (s : State) : Res := leaves s (errorDisable s p 3)

/-- SUSPEND_DRAIN_TIMEOUT: the device NAKed for 10 ms; the request is answered STALL and the port stays ENABLED (R78); a
lent port's request is the borrower's to answer (log entry 46). -/
def suspendDrainTimeout (p : Nat) (s : State) : State :=
  let q := s.port p
  if q.suspWait then
    let s := s.modPort p (fun q => { q with suspWait := false })
    match q.id.owner with
    | .upA => answer s .a .stall
    | .upB => answer s .b .stall
    | .lent => sendTun s (.phys p) 5 128 [1]
    | _ => s
  else s

def execSuspendDrainTimeout (p : Nat) (s : State) : Res := leaves s (suspendDrainTimeout p s)

/-- MGMT_RESET_DONE: the reset of port 33 ends (R44). -/
def mgmtResetDone (u : Up) (s : State) : State :=
  if (s.up u).mgResetting then
    (s.modUp u (fun x => { x with mgResetting := false, mgEnabled := true, defaultPort := 33 })).modView u 33
      (fun v => { v with cReset := true })
  else s

def execMgmtResetDone (u : Up) (s : State) : Res := leaves s (mgmtResetDone u s)

end Sys2Proof.Machine
end

