-- ==== Sys2Proof/Machine/SieveOps.lean ====
section
/-!
DEFINITION. Machine/SieveOps.lean: the Sieve's host channels: runs, alive counters, and the seals on proxied endpoints
(R330–R338).
-/

namespace Sys2Proof.Machine

def State.sieveCh (s : State) (c : Nat) : SieveCh := s.sieve.getD c {}

def State.modSieve (s : State) (c : Nat) (f : SieveCh → SieveCh) : State := { s with sieve := modAt s.sieve c f }

/-- Bytes of POLY's result (R330). -/
def polyBytes (poly : Nat) : Nat := if poly = 0 then 1 else if poly = 1 then 2 else 4

/-- The proxied device that a seal names: a physical port, or a virtual port of SEAL_UP (R333). -/
def SieveCh.loc (c : SieveCh) : Loc := if 34 ≤ c.port then .virt (if c.upB then .b else .a) c.port else .phys c.port

/-- The sealed port is translated and holds a presented device (R337). -/
def sealLive (s : State) (c : SieveCh) : Bool :=
  match c.loc with
  | .phys p => (s.port p).id.eff == .translated && wireConn (s.port p)
  | .virt u v => (s.vport u v).shown

/-- What the seal of channel n keeps on its endpoint. -/
def State.seal (s : State) (n : Nat) : Option Nat × List Byte :=
  match (s.px (s.sieveCh n).loc).ep (s.sieveCh n).ep with
  | none => (none, [])
  | some e =>
    match e.seals.find? (·.1 == n) with
    | none => (none, [])
    | some x => x.2

def setSeal (s : State) (n : Nat) (ref : Option Nat) (buf : List Byte) : State :=
  s.modPx (s.sieveCh n).loc (fun x => x.modEp (s.sieveCh n).ep (fun e =>
    { e with seals := (n, ref, buf) :: e.seals.filter (·.1 != n) }))

/-- The seal of channel n is re-armed (R335). -/
def rearm (s : State) (n : Nat) : State :=
  s.modPx (s.sieveCh n).loc (fun x => x.modEp (s.sieveCh n).ep (fun e =>
    { e with seals := e.seals.filter (·.1 != n) }))

/-- Source 430 (R296): channel, expected value, value received. -/
def raiseSieve (s : State) (n code expected got : Nat) : State :=
  raise s 430 code (n + at_ 16 (expected % 2 ^ 32) + at_ 48 (got % 2 ^ 32))

/-- A result compared with what it should be: MISMATCH counted and raised (R334, R336). -/
def judgeSum (s : State) (n expected got : Nat) (equal : Bool) : State :=
  let s := s.modSieve n (fun c => { c with result := got, units := min 0xFFFFFFFF (c.units + 1) })
  if equal then s
  else raiseSieve (s.modSieve n (fun c => { c with mism := min 65535 (c.mism + 1) })) n 1 expected got

/-- The counter that a byte carries (R333 ALIVE_W, ALIVE_HI). -/
def SieveCh.counter (c : SieveCh) (b : Byte) : Nat :=
  if c.alive8 then b.toNat else if c.aliveHi then b.toNat / 16 else b.toNat % 16

/-- One counter value against the reference held, if one is (R335): a value other than the next raises ALIVE_ERROR, and
becomes the reference in every case. -/
def aliveValue (s : State) (n : Nat) (ref : Option Nat) (v : Nat) : State :=
  let c := s.sieveCh n
  let s' := s.modSieve n (fun c => { c with last := v })
  match ref with
  | none => s'
  | some r =>
    let want := (r + 1) % (if c.alive8 then 256 else 16)
    if v = want then s'
    else raiseSieve (s'.modSieve n (fun c => { c with errs := min 65535 (c.errs + 1) })) n 2 want v

/-- A trailer read in the channel's byte order (R336). -/
def trailer (c : SieveCh) (bs : List Byte) : Nat := leNat (if c.crcBe then bs.reverse else bs)

/-- One unit of a seal (R336): answers whether its CRC passed. A unit that ends before ALIVE_OFS has no counter to check
(log entry 34). -/
def sealUnit (s : State) (n : Nat) (unit : List Byte) : Bool × State :=
  let c := s.sieveCh n
  let w := polyBytes c.poly
  let short : Bool := decide (unit.length < c.skip + w)
  let body := slice unit c.skip (unit.length - w - c.skip)
  let got := if short then 0 else crcOf c.poly body
  let want := if short then 0 else trailer c (unit.drop (unit.length - w))
  let pass := !short && got == want
  let s := judgeSum s n want got pass
  if c.aliveCheck then
    match unit[c.aliveOfs]? with
    | some b =>
      let v := c.counter b
      (pass, setSeal (aliveValue s n (s.seal n).1 v) n (some v) [])
    | none => (pass, s)
  else (pass, s)

/-- Channel n sees a packet of its endpoint held (R336): answers whether it discards it. -/
def sealSees (s : State) (n mps : Nat) (data : List Byte) : Bool × State :=
  let c := s.sieveCh n
  if c.packet then
    if data.isEmpty then (false, s)
    else
      let r := sealUnit s n data
      (c.discard && !r.1, r.2)
  else
    let x := s.seal n
    let unit := x.2 ++ data
    if mps ≤ data.length then (false, setSeal s n x.1 unit)
    else if unit.isEmpty then (false, s)
    else
      let s := setSeal s n x.1 []
      (false, (sealUnit s n unit).2)

/-- The eight channels. -/
def sieveNumbers : List Nat := List.range 8

/-- Every seal on an endpoint sees a packet as the proxy holds it (R336); answers whether it is discarded. -/
def sealPacket (s : State) (l : Loc) (ep mps : Nat) (data : List Byte) : Bool × State :=
  sieveNumbers.foldl (fun (x : Bool × State) n =>
    let c := x.2.sieveCh n
    if c.mode = 3 ∧ c.port ≠ 0 ∧ c.loc = l ∧ c.ep = ep ∧ sealLive x.2 c = true then
      let r := sealSees x.2 n mps data
      (x.1 || r.1, r.2)
    else x) (false, s)

/-- A packet a seal discarded: its bytes are added to the port's proxy discard counter (R111, R336). -/
def countSealed (s : State) (l : Loc) (bytes : Nat) : State :=
  match l with
  | .phys p => s.modPort p (fun q => { q with discards := min 0xFFFFFFFF (q.discards + bytes) })
  | .virt _ _ => s

/-! ### Runs and fed counters (R334, R335) -/

/-- Elements reversed for BSWAP (R331). -/
def swapElems (e : Nat) : Nat → List Byte → List Byte
  | 0, _ => []
  | fuel + 1, bs => if bs.isEmpty then [] else (bs.take e).reverse ++ swapElems e fuel (bs.drop e)

/-- The bytes of whole elements, in the order they are fed. -/
def fedBytes (c : SieveCh) (e : Nat) (bs : List Byte) : List Byte :=
  let whole := bs.take (bs.length / e * e)
  if c.bswap then swapElems e whole.length whole else whole

/-- Feeding a channel (R334, R335). -/
def sieveTake (s : State) (n : Nat) (bs : List Byte) : State :=
  let c := s.sieveCh n
  if c.mode = 1 then
    if bs.isEmpty then s
    else s.modSieve n (fun c => { c with run := some (bs.foldl (crcStep c.poly) (c.run.getD (crcInit c.poly))) })
  else if c.mode = 2 then
    bs.foldl (fun s b =>
      let c := s.sieveCh n
      let v := c.counter b
      (aliveValue s n (if c.armed then some c.last else none) v).modSieve n (fun c =>
        { c with armed := true, units := min 0xFFFFFFFF (c.units + 1) })) s
  else s

/-- Finishing a run (R334): the result, compared when COMPARE is set; the channel starts again. -/
def sieveEnd (s : State) (n : Nat) : Nat × State :=
  let c := s.sieveCh n
  let got := crcOut c.poly (c.run.getD (crcInit c.poly))
  let want := c.expected % 2 ^ (8 * polyBytes c.poly)
  (got, (judgeSum s n want got (!c.compare || got == want)).modSieve n (fun c => { c with run := none }))

/-- STATE of R338. -/
def sieveState (s : State) (n : Nat) : Nat :=
  let c := s.sieveCh n
  if c.mode = 1 then (if c.run.isSome then 2 else 1)
  else if c.mode = 2 then (if c.armed then 2 else 1)
  else if c.mode = 3 then (if sealLive s c then 2 else 3)
  else 0

/-- ARMED of R338. -/
def sieveArmed (s : State) (n : Nat) : Bool :=
  let c := s.sieveCh n
  if c.mode = 3 then (s.seal n).1.isSome else c.armed

/-- The status block (R338). -/
def sieveStatusBytes (s : State) (n : Nat) : List Byte :=
  let c := s.sieveCh n
  leBytes 16 (c.result + at_ 32 (sieveState s n) + at_ 35 (b2n (sieveArmed s n)) + at_ 40 (c.last % 256) + at_ 64 c.units
    + at_ 96 c.mism + at_ 112 c.errs)

/-- The settings block as it stands (R333). -/
def sieveSetBytes (c : SieveCh) : List Byte :=
  leBytes 16 (c.mode + at_ 3 c.poly + at_ 5 (b2n c.bswap) + at_ 6 (b2n c.alive8) + at_ 7 (b2n c.compare) + at_ 8 c.port
    + at_ 14 (b2n c.upB) + at_ 16 c.ep + at_ 24 (b2n c.packet) + at_ 25 (b2n c.crcBe) + at_ 26 (b2n c.aliveCheck)
    + at_ 27 (b2n c.discard) + at_ 28 (b2n c.aliveHi) + at_ 32 c.skip + at_ 48 c.aliveOfs + at_ 64 c.expected)

end Sys2Proof.Machine
end

