-- ==== Sys2Proof/Machine/ProxyOps.lean ====
section
/-!
DEFINITION. Machine/ProxyOps.lean: the proxy's shared operations: which tokens it serves, forwarding control requests,
storing and drawing packets, credits, fills and their ends (R66, R98, R103–R115, R122).
-/

namespace Sys2Proof.Machine

/-- What becomes of a host token to hub port n (R66, R68, R108, R116, R124, R510). -/
inductive Gate where
  /-- no answer at all -/
  | silent
  /-- NAK -/
  | nak
  /-- the proxy serves it -/
  | serve
  deriving DecidableEq, Repr

def gate (s : State) (u : Up) (n : Nat) : Gate :=
  if 34 ≤ n then
    let v := s.vport u n
    if !(s.conn u n) || viewSilent v.px then .silent
    else if !v.tun.route || v.drain.isSome || v.px.stopped then .nak
    else .serve
  else if ¬ s.owns u n ∨ (s.port n).id.eff ≠ .translated then .silent
  else
    let q := s.port n
    if viewSilent q.px then .silent
    else match q.id.st with
      | .presented => .serve
      | .live => .serve
      | .refilling => .nak
      | .draining => .nak
      | _ => .silent

/-- The control transfer that runs while the device drains goes on to its end (R116). -/
def drainServes (s : State) (l : Loc) : Bool :=
  (s.px l).ctrl.active && !(s.px l).ctrl.later && !(s.px l).ctrl.wireOnly &&
    match l with
    | .phys p => (s.port p).id.st == .draining
    | .virt u v => (s.vport u v).drain.isSome && (s.vport u v).tun.route

/-- Total of a credit list for an endpoint. -/
def tally (l : List (Nat × Nat)) (ep : Nat) : Nat := ((l.find? (·.1 == ep)).map (·.2)).getD 0

def setTally (l : List (Nat × Nat)) (ep v : Nat) : List (Nat × Nat) := (ep, v) :: l.filter (·.1 != ep)

/-- A credit for the endpoint is there to use (R122): totals count modulo 2^16 (R274). -/
def hasCredit (t : Tunnel) (ep : Nat) : Bool := tally t.used ep != tally t.credit ep

/-- DATA frames of an endpoint that the other half has not acknowledged. -/
def inFlight (t : Tunnel) (ep : Nat) : Nat := (t.held.filter (fun x => x.2.1 == 0 && x.2.2.1 == ep)).length

/-- Held packets that a half may send: one frame while a credit stands (R122) and Stop_TT does not hold them (R57). -/
def pushTun (s : State) (l : Loc) (ep : Nat) : State :=
  let t := s.tun l
  match (s.px l).ep ep with
  | none => s
  | some e =>
    match e.held.drop (inFlight t ep) with
    | b :: _ =>
      if hasCredit t ep ∧ ¬ (s.px l).stopped then
        (sendTun s l 0 ep b).modTun l (fun t => { t with used := setTally t.used ep ((tally t.used ep + 1) % 65536) })
      else s
    | [] => s

/-- Buffers newly free are granted to the other half (R122, R274). -/
def grantTun (s : State) (l : Loc) (ep n : Nat) : State :=
  let g := (tally (s.tun l).granted ep + n) % 65536
  (sendTun s l 3 ep (leBytes 2 g)).modTun l (fun t => { t with granted := setTally t.granted ep g })

/-- The packets of the endpoints of `hit` are discarded at this half of a lend: the frames that brought them are
acknowledged and their buffers granted anew, and frames of its own carry the discard (R111, R122). -/
def dropTun (s : State) (l : Loc) (hit : Nat → Bool) : State :=
  let s := ((s.tun l).rxPend.filter (fun x => hit x.1)).foldl (fun s x => grantTun (ackTun s l x.1 x.2) l x.1 1) s
  s.modTun l (fun t => t.dropData hit)

/-- The credits of the endpoints of `hit` start anew (R111, R122). -/
def Tunnel.fresh (t : Tunnel) (hit : Nat → Bool) : Tunnel :=
  { t with credit := t.credit.filter (fun x => !hit x.1), used := t.used.filter (fun x => !hit x.1),
           granted := t.granted.filter (fun x => !hit x.1) }

/-! ### Control requests (R105, R111, R112) -/

/-- The standard requests whose completion the proxy takes note of (R100, R105, R111, R115). -/
def isSetAddress (b : List Byte) : Bool := setupType b == 0 && setupReq b == 5
def isSetConfig (b : List Byte) : Bool := setupType b == 0 && setupReq b == 9
def isSetIface (b : List Byte) : Bool := setupType b == 1 && setupReq b == 11
def isClearHalt (b : List Byte) : Bool := setupType b == 2 && setupReq b == 1 && setupValue b == 0
def isWakeup (b : List Byte) : Bool := setupType b == 0 && (setupReq b == 1 || setupReq b == 3) && setupValue b == 1

/-- bMaxPacketSize0 of a cached device. -/
def mps0 (cache : List Byte) : Nat := max 8 (cache.getD 7 64).toNat

/-- The descriptors by which a location's endpoints are known (R69, R98, R121). -/
def knownOf (s : State) : Loc → List Byte × Nat
  | .phys p => ((s.port p).known, (s.port p).knownCfgs)
  | .virt u v => ((s.vport u v).cache, (s.vport u v).numCfgs)

/-- Configuration bytes of the value a location's host selects. -/
def cfgAt (s : State) (l : Loc) (v : Nat) : List Byte :=
  (cfgByValue (knownOf s l).1 (knownOf s l).2 v).getD []

def mps0At (s : State) (l : Loc) : Nat := mps0 (knownOf s l).1

/-- The data of an IN transfer in packets of endpoint 0, with the empty one that ends it where the length asked for is not
reached by a short one. -/
def ep0Packets : Nat → Nat → Nat → List Byte → List (List Byte)
  | 0, _, _, _ => []
  | fuel + 1, m, want, d =>
    if d.length < m then (if d.isEmpty ∧ want = 0 then [] else [d])
    else d.take m :: ep0Packets fuel m (want - m) (d.drop m)

/-- The device-facing half sends a SETUP (R112). -/
def wireSetup (s : State) (p : Nat) (b : List Byte) : State :=
  s.modPort p (fun q => { q with
    px := { q.px with ctrl := { q.px.ctrl with wire := b, wireTog := false, moved := 0, onWire := true, inStatus := false,
                                               wireOnly := false, cut := false, next := [] } },
    wire := .setup b })

/-- The host's new transfer at a device-facing half: its SETUP goes to the wire, or waits for the transfer there to finish at
packet level; one that an upstream bus reset abandoned runs through its status stage first (R112, R117). -/
def wireRequest (s : State) (p : Nat) (b : List Byte) : State :=
  let c := (s.port p).px.ctrl
  let old := if c.wireOnly && !c.cut then c.abandon else c.cutOff
  let s := s.modPort p (fun q => { q with
    px := { q.px with ctrl := { old with active := true, setup := b, forwarded := true,
                                         next := if old.wireOnly then b else [] } } })
  if old.wireOnly then s else wireSetup s p b

/-- A ClearFeature(ENDPOINT_HALT) has the endpoint's packets discarded before it is forwarded (R111). -/
def noteHalt (s : State) (l : Loc) (b : List Byte) : State :=
  if isClearHalt b then
    let ep := setupIndex b % 256
    dropTun (s.modPx l (fun x => x.modEp ep (fun e => e.discard))) l (· == ep)
  else s

/-- A request is forwarded to the device: on the wire, or through the tunnel (R105, R112, R122). With an empty PROXY
region the SETUP is ACKed and its later stages are STALLed (R66). -/
def forward (s : State) (l : Loc) (b : List Byte) : State :=
  let s := noteHalt s l b
  match l with
  | .phys p =>
    if s.pages 3 p 0 = 0 then
      s.modPx l (fun x => { x with ctrl := { x.ctrl.cutOff with active := true, setup := b, stall := true } })
    else wireRequest s p b
  | .virt _ _ => sendTun (s.modPx l (fun x => { x with ctrl := { active := true, setup := b, forwarded := true } })) l 4 0 b

/-- The cache that a location answers descriptor requests from (R105, R106, R121). -/
def cacheOf (s : State) : Loc → Option (List Byte × Nat)
  | .phys p => if (s.port p).cacheOk then some ((s.port p).cache, (s.port p).numCfgs) else none
  | .virt u v => some ((s.vport u v).cache, (s.vport u v).numCfgs)

/-- The proxy's own answer to GET_DESCRIPTOR of the device or a configuration; `none` where it forwards (R105, R106). -/
def proxyDesc (s : State) (l : Loc) (kind index wLength : Nat) : Option Ans :=
  match cacheOf s l with
  | none => none
  | some (c, n) =>
    if kind = 1 then some (.data true ((c.take 18).take wLength))
    else if kind = 2 then
      if index < n then some (.data true (((splitCfgs n (c.drop 18)).getD index []).take wLength)) else some .stall
    else none

/-- SET_ADDRESS takes effect: HOST_ADDR at the end of the status stage (R102, R105). -/
def takeAddress (s : State) (u : Up) (n addr : Nat) : State :=
  let s := clearDup s u n (addr % 128)
  let s := s.modId (locOf u n) (fun d => { d with hostAddr := addr % 128 })
  if (s.up u).defaultPort = n then s.modUp u (fun x => { x with defaultPort := 0 }) else s

/-- SET_ADDRESS answered by the proxy as one command (R105). -/
def pxSetAddress (s : State) (u : Up) (n addr : Nat) : State :=
  answer (takeAddress (s.modPx (locOf u n) (fun x => { x with ctrl := x.ctrl.cutOff })) u n addr) u .ack

/-- The request of a host SETUP is taken up (R105, R112): the proxy's own requests are answered, every other one is
forwarded. The transfer that ran before is abandoned on the host side and finished on the wire at packet level. -/
def takeSetup (s : State) (l : Loc) (b : List Byte) : State :=
  let own (d : List (List Byte)) (stall : Bool) : State := s.modPx l (fun x =>
    { x with ctrl := { x.ctrl.cutOff with active := true, setup := b, statusReady := true, dataIn := d, stall := stall } })
  if isSetAddress b then own [] false
  else if setupType b = 0x80 ∧ setupReq b = 6 then
    match proxyDesc s l (setupValue b / 256) (setupValue b % 256) (setupLength b) with
    | some (.data _ d) => own (ep0Packets (d.length + 1) (mps0At s l) (setupLength b) d) false
    | some _ => own [] true
    | none => forward s l b
  else forward s l b

/-- A host SETUP at the proxy (R112): always ACKed. -/
def pxSetup (s : State) (u : Up) (n : Nat) (b : List Byte) : State := takeSetup (answer s u .ack) (locOf u n) b

/-- A SETUP that is ACKed while the device cannot be served waits; what ran before is abandoned (R112, R115, R116). -/
def keepSetup (s : State) (l : Loc) (b : List Byte) : State :=
  s.modPx l (fun x => { x with ctrl := { x.ctrl.cutOff with active := true, setup := b, later := true } })

/-- The SETUP that waited is taken up (R112). -/
def takeLater (s : State) (l : Loc) : State :=
  let c := (s.px l).ctrl
  if c.active && c.later then
    takeSetup (s.modPx l (fun x => { x with ctrl := { x.ctrl with active := false, later := false } })) l c.setup
  else s

/-! ### Configurations (R69, R111) -/

/-- Credits for endpoints of a lend after a division: OUT buffers of the lender, IN buffers of the borrower. -/
def grantAll (s : State) (l : Loc) (hit : Nat → Bool) : State :=
  let mine (e : Ep) : Bool := hit e.addr && e.addr % 128 != 0 && match l with
    | .phys _ => e.addr < 128
    | .virt _ _ => 128 ≤ e.addr
  if (s.tun l).vport = 0 then s
  else ((s.px l).eps.filter mine).foldl (fun s e => grantTun s l e.addr e.bufs) s

/-- A forwarded SetConfiguration(v) completes (R69, R100, R111). -/
def setConfigured (s : State) (l : Loc) (v : Nat) : State :=
  let s := (dropTun s l (fun _ => true)).modTun l (fun t => t.fresh (fun _ => true))
  let s := s.modPx l (fun x => { x with alts := List.replicate 32 0, eps := [] })
  let s := setLife (s.modId l (fun d => { d with hostCfg := v % 256 })) l (if v = 0 then .presented else .live)
  if v = 0 then s
  else
    let eps := freshEps (4096 * s.pxPages l) (mps0At s l) (activeEps (cfgAt s l v) (s.px l).alts)
    grantAll (s.modPx l (fun x => { x with eps := eps })) l (fun _ => true)

/-- A forwarded SetInterface(i, alt) completes: that interface starts at DATA0, the region is divided anew (R111). -/
def setInterfaced (s : State) (l : Loc) (i alt : Nat) : State :=
  let alts := modAt (s.px l).alts i (fun _ => alt)
  let fresh := freshEps (4096 * s.pxPages l) (mps0At s l) (activeEps (cfgAt s l (s.ident l).hostCfg) alts)
  let eps := (s.px l).eps
  let hit (a : Nat) : Bool := (eps ++ fresh).any (fun e => e.addr == a && e.iface == i)
  let s := (dropTun s l hit).modTun l (fun t => t.fresh hit)
  grantAll (s.modPx l (fun x => { x with alts := alts, eps := rebuf fresh (x.eps.filter (·.iface != i)) })) l hit

/-- The endpoint's halt is cleared: DATA0 in both domains (R111). -/
def clearHalt (ep : Nat) (x : Proxy) : Proxy :=
  x.modEp ep (fun e => { e with hostTog := false, wireTog := false, halted := false })

/-- What a forwarded request that has completed changes at this half (R100, R111, R115). -/
def requestDone (s : State) (l : Loc) (b : List Byte) : State :=
  if isSetConfig b then setConfigured s l (setupValue b)
  else if isSetIface b then setInterfaced s l (setupIndex b) (setupValue b)
  else if isClearHalt b then s.modPx l (clearHalt (setupIndex b % 256))
  else if isWakeup b then s.modPx l (fun x => { x with wakeup := setupReq b == 3 })
  else s

/-- The status stage of a forwarded request has completed (R112): a lent device's borrower is told, and has the host
(R122). -/
def ctrlDone (s : State) (l : Loc) : State :=
  let b := (s.px l).ctrl.setup
  let lent := match l with
    | .phys p => (s.port p).id.owner == .lent
    | .virt _ _ => false
  let s := if lent then sendTun s l 5 0 [2] else s
  (requestDone s l b).modPx l (fun x => { x with ctrl := { x.ctrl with statusReady := true, active := !lent } })

/-! ### The end of a fill (R98, R103, R106, R109, R115) -/

/-- One identity entry as bytes (R101). -/
def identBytes (d : Ident) : List Byte :=
  leBytes 16 ((if d.mode = .translated then 1 else 0) + at_ 2 (if d.eff = .translated then 1 else 0)
    + at_ 4 d.st.code + at_ 8 d.owner.code + at_ 11 d.home.code + at_ 12 d.fallback + at_ 16 d.hostAddr
    + at_ 24 d.wireAddr + at_ 32 d.hostCfg + at_ 40 d.lendNode + at_ 48 d.lendVport + at_ 54 d.lendUp.code
    + at_ 56 d.speed.code + at_ 64 d.cacheLen + at_ 80 d.generation.toNat + at_ 96 d.cacheCrc.toNat)

/-- The DESC region's bytes: the 16-byte header, then the descriptors (R104). -/
def descRegion (q : Port) : List Byte :=
  leBytes 16 (1 + at_ 8 q.numCfgs + at_ 16 q.cache.length + at_ 32 q.id.cacheCrc.toNat
    + at_ 64 q.id.generation.toNat) ++ q.cache

def altBytes (l : List Nat) : List Byte := l.map (BitVec.ofNat 8)

/-- OPEN frames bring the cache with its header, the identity entry and the interface table to the borrower (R104, R121,
R274; log entry 16). -/
def sendOpen (s : State) (p : Nat) : State :=
  let q := s.port p
  (cutSegs 6 0 (descRegion q ++ identBytes q.id ++ altBytes q.px.alts)).foldl
    (fun s x => sendTun s (.phys p) 0xA 0 x.2.2) s

/-- The borrower of a lent device that is another now is shown it anew: an OPEN of no payload, then the device (R115,
R121; log entry 16). -/
def reopen (s : State) (p : Nat) : State := sendOpen (sendTun s (.phys p) 0xA 0 []) p

/-- FALLBACK: the port runs TRANSPARENT until its device detaches, connected and still addressed (R98, R103). A reset that
the host was shown ends with it (R91, R109); a lend ends, for a transparent port cannot be lent (R120). -/
def fallBack (s : State) (p cause : Nat) : State :=
  let q := s.port p
  let w := (q.fill.map (·.wait)).getD 0
  let s := s.modPort p (fun q => { q with
    fill := none, parkNext := false, cmdReset := false, addr := q.id.hostAddr,
    id := { q.id with fallback := cause, st := .vacant },
    px := { q.px.dropHeld with eps := [], ctrl := {}, realReset := false, vreset := false } })
  let s := setEff s p .transparent
  let s := if q.px.realReset then setChange s p (fun v => { v with cReset := true }) else s
  let s := ownerEvent s p 6 q.id.owner cause q.px.heldBytes
  let s := if q.id.owner = .lent then endLend (sendTun s (.phys p) 0xC 0 [] false) p 5 else s
  syncPort (markSusp (finishWait s w (.ok [2])) p) p

/-- The cause that keeps a device TRANSPARENT: isochronous endpoints, or too much to hold (R98). -/
def r98 (device : List Byte) (cfgs : List (List Byte)) : Nat :=
  if cfgs.any (fun c => (parseEps c.length c 255 0).any (fun x => x.2.2.kind == 1)) then 1
  else if 4080 < device.length + cfgs.foldl (fun a c => a + c.length) 0
      ∨ cfgs.any (fun c => 32 < (parseIfaces c.length c).length) then 2
  else 0

/-- The cache and the identity entry take the descriptors read (R103, R104). -/
def writeCache (s : State) (p : Nat) (bytes : List Byte) (n : Nat) : State :=
  let crc := BitVec.ofNat 32 (crc32c bytes)
  let hasDesc := decide (0 < s.pages 4 p 0)
  s.modPort p (fun q => { q with
    cache := if hasDesc then bytes else [], cacheOk := hasDesc, numCfgs := if hasDesc then n else 0,
    known := bytes, knownCfgs := n,
    id := { q.id with
      generation := if q.id.cacheLen = bytes.length ∧ q.id.cacheCrc = crc then q.id.generation else q.id.generation + 1,
      cacheLen := bytes.length, cacheCrc := crc, wireAddr := p } })

/-- A port whose fill is done is shown to its owner, or parked (R50, R100, R103, R118). On a port that PARKED or MGMT owns
there is no owner to show it to: STATE is PARKED, the state that no owner sees, and no OWNER event is raised, the owner not
having changed (DESIGN CHOICE, log entry 53). -/
def showFilled (s : State) (p : Nat) : State :=
  let q := s.port p
  match ownerUp q with
  | some u =>
    if q.parkNext then park s p 1
    else if mustPark s p u then park s p 2
    else
      let s := s.modPort p (fun q => { q with id := { q.id with st := .presented }, ownerL1 := none })
      syncPort (markSusp (ownerEvent s p 1 q.id.owner 0 0) p) p
  | none => syncPort (s.modPort p (fun q => { q with id := { q.id with st := .parked } })) p

/-- The fill's descriptors are all read: the checks of R98, then the cache (R103). -/
def finishFill (s : State) (p : Nat) (f : Fill) : State :=
  let bytes := f.device ++ f.configs.flatten
  let c := r98 f.device f.configs
  let s := s.modPort p (fun q => { q with id := { q.id with wireAddr := p } })
  if s.pages 4 p 0 = 0 then fallBack s p 4
  else if c ≠ 0 then fallBack s p c
  else showFilled (writeCache (s.modPort p (fun q => { q with fill := none })) p bytes f.configs.length) p

/-- The descriptors of a refill are those recorded (R115). -/
def sameIdentity (q : Port) (f : Fill) : Bool :=
  let bytes := f.device ++ f.configs.flatten
  q.id.cacheLen == bytes.length && q.id.cacheCrc == BitVec.ofNat 32 (crc32c bytes)
    && (!q.cacheOk || q.cache == bytes)

/-- The requests of a configuration replay (R115). -/
def replayList (q : Port) : List (List Byte) :=
  let cfg := if q.id.hostCfg = 0 then [] else [([0, 9] ++ leBytes 2 q.id.hostCfg ++ [0, 0, 0, 0] : List Byte)]
  let alts := ((List.range 32).filter (fun i => q.px.alts.getD i 0 != 0)).map (fun i =>
    ([1, 11] ++ leBytes 2 (q.px.alts.getD i 0) ++ leBytes 2 i ++ [0, 0] : List Byte))
  let wake := if q.px.wakeup then [([0, 3, 1, 0, 0, 0, 0, 0] : List Byte)] else []
  if q.id.hostCfg = 0 then wake else cfg ++ alts ++ wake

/-- The next request of a fill goes to the wire, with its first attempt. -/
def nextReq (s : State) (p : Nat) (f : Fill) (b : List Byte) : State :=
  s.modPort p (fun q => { q with fill := some { f with tries := 1, req := b }, wire := .setup b })

/-- Every descriptor is read: a fill ends; a refill replays, or waits for its end (R103, R115). -/
def descriptorsRead (s : State) (p : Nat) (f : Fill) : State :=
  if !f.refill then finishFill s p f
  else if !f.real && sameIdentity (s.port p) f then
    match replayList (s.port p) with
    | b :: _ => nextReq s p { f with step := 8, index := 0 } b
    | [] => s.modPort p (fun q => { q with fill := some { f with step := 7 } })
  else s.modPort p (fun q => { q with fill := some { f with step := 7 } })

/-- The real reset that a host sees ends: C_PORT_RESET with PORT_ENABLE set (R109); a borrower is told (R123). -/
def endRealReset (s : State) (p : Nat) : State :=
  let q := s.port p
  if q.id.owner = .lent then sendTun s (.phys p) 5 0 [2]
  else if q.px.realReset then
    (setChange s p (fun v => { v with cReset := true })).modPort p (fun q =>
      { q with px := { q.px with realReset := false, viewEn := true } })
  else s

/-- STATE after a refill (R115): a drain that began before it goes on. -/
def landing (q : Port) (st : Life) : Port :=
  match q.drain with
  | some d => { q with drain := some { d with back := st }, id := { q.id with st := .draining } }
  | none => { q with id := { q.id with st := st } }

/-- A port whose refill is done is parked where its owner's bus was reset meanwhile (R118), or where an HS device came home
to an upstream at FS meanwhile (R50). -/
def refillOwner (s : State) (p : Nat) : State :=
  if (s.port p).parkNext then park s p 1
  else
    match ownerUp (s.port p) with
    | some u => if mustPark s p u then park s p 2 else s
    | none => s

/-- A refill ends on the same identity (R109, R115): the held packets and the draws go on, and a SETUP that waited is taken
up. The OWNER event REFILLED is raised for a refill that R115 describes whole, with its replay; a real reset, which replays
nothing, has REAL_RESET at its start and no second record (DESIGN CHOICE, log entry 54). -/
def refillSame (s : State) (p : Nat) (f : Fill) : State :=
  let st : Life := if f.real then (if f.back = .parked then .parked else .presented) else f.back
  let s := s.modPort p (fun q =>
    landing { q with
      fill := none, cmdReset := false, ownerL1 := if f.real then none else q.ownerL1, known := f.device ++ f.configs.flatten,
      knownCfgs := f.configs.length, id := { q.id with wireAddr := p },
      px := { q.px with eps := if f.real then [] else q.px.eps.map (fun e => { e with wireTog := false }) } } st)
  let s := if f.real then endRealReset s p else ownerEvent s p 8 (s.port p).id.owner 0 0
  let s := finishWait s f.wait (.ok [0])
  syncPort (markSusp (refillOwner (takeLater (restartWire s p) (.phys p)) p) p) p

/-- A refill ends on a new identity: a disconnect, then a connect (R106, R115); a borrower is shown the new device, or its
lend ends when the device cannot be translated (R98, R121). -/
def refillNew (s : State) (p : Nat) (f : Fill) : State :=
  let q := s.port p
  let bytes := f.device ++ f.configs.flatten
  let noDesc := decide (s.pages 4 p 0 = 0)
  let c := if noDesc then 4 else r98 f.device f.configs
  let lent := decide (q.id.owner = .lent)
  let s := if lent ∧ f.real then endRealReset s p else s
  let s := writeCache (s.modPort p (fun q => { q with fill := none })) p bytes f.configs.length
  let s := s.modPort p (fun q =>
    let q := { q with
      id := { q.id with hostAddr := 0, hostCfg := 0, fallback := c },
      px := { wakeup := false }, ownerL1 := none, cmdReset := false }
    if c = 0 then landing q (if f.back = .parked then .parked else .presented)
    else { q with id := { q.id with st := .vacant } })
  let s := if c = 0 then s else setEff s p .transparent
  let s := setChange s p (fun v => { v with cConn := true, cReset := v.cReset || q.px.realReset })
  let s := ownerEvent s p 9 q.id.owner 0 q.px.heldBytes
  let s := if c = 0 then s else ownerEvent s p 6 q.id.owner c 0
  let s := finishWait s f.wait (.ok [1])
  let s := if !lent then s
    else if c = 0 then reopen s p
    else endLend (sendTun s (.phys p) 0xC 0 [] false) p 5
  syncPort (markSusp (if c = 0 then refillOwner s p else s.modPort p (fun q => { q with parkNext := false })) p) p

/-! ### Drains (R78, R116) -/

/-- A suspend request that waited for the proxy to empty completes (R78); a lent port's is the borrower's to answer (log
entry 46). -/
def settleSuspend (s : State) (p : Nat) : State :=
  let q := s.port p
  if q.suspWait ∧ q.px.drained then
    let s := doSuspend s p
    match q.id.owner with
    | .upA => answer s .a .ack
    | .upB => answer s .b .ack
    | .lent => sendTun s (.phys p) 5 128 [2]
    | _ => s
  else s

end Sys2Proof.Machine
end

