-- ==== Sys2Proof/Machine/ProxyRows.lean ====
section
/-!
DEFINITION. Machine/ProxyRows.lean: cache fills, the host's and the device's transactions at a proxy, reset absorption and
the taking of a plan (R68, R98, R103–R115).
-/

namespace Sys2Proof.Machine

/-! ### Fills (R103) -/

/-- FILL_REQUEST_DONE: a request of a fill or refill completed on the wire; the next one is sent, or the cache written. -/
def fillRequestDone (p : Nat) (data : List Byte) (s : State) : State :=
  match (s.port p).fill with
  | none => s
  | some f =>
    match f.step with
    | 3 => nextReq s p { f with step := 4, device := data.take 18 } ([0, 5] ++ leBytes 2 p ++ [0, 0, 0, 0])
    | 4 =>
      let s := s.modPort p (fun q => { q with id := { q.id with wireAddr := p } })
      if (f.device.getD 17 0).toNat = 0 then descriptorsRead s p { f with step := 5 }
      else nextReq s p { f with step := 5, index := 0, whole := false } (getDescSetup 2 0 9)
    | 5 =>
      if f.whole then
        let f := { f with configs := f.configs ++ [data], index := f.index + 1, whole := false }
        if f.index < (f.device.getD 17 0).toNat then nextReq s p f (getDescSetup 2 f.index 9)
        else descriptorsRead s p f
      else nextReq s p { f with whole := true } (getDescSetup 2 f.index (cfgLen data))
    | 8 =>
      match (replayList (s.port p)).drop (f.index + 1) with
      | b :: _ => nextReq s p { f with index := f.index + 1 } b
      | [] => s.modPort p (fun q => { q with fill := some { f with step := 7 } })
    | _ => s

def execFillRequestDone (p : Nat) (data : List Byte) (s : State) : Res := leaves s (fillRequestDone p data s)

/-- FILL_ATTEMPT_TIMEOUT: the request is made again, up to three attempts, then FALLBACK 3 (R103). A wire reset that left
the port DISABLED is made again in the same way. -/
def fillAttemptTimeout (p : Nat) (s : State) : State :=
  match (s.port p).fill with
  | none => s
  | some f =>
    if f.tries < 3 then
      let s := s.modPort p (fun q => { q with fill := some { f with tries := f.tries + 1 } })
      if f.step = 1 then startWireReset s p
      else if f.req.isEmpty then s
      else s.modPort p (fun q => { q with wire := .setup f.req })
    else fallBack s p 3

def execFillAttemptTimeout (p : Nat) (s : State) : Res := leaves s (fillAttemptTimeout p s)

/-- TFILL_EXPIRY: the cache is not written within tFILL (R103, R109). -/
def tfillExpiry (p : Nat) (s : State) : State :=
  match (s.port p).fill with
  | none => s
  | some _ => fallBack s p 3

def execTfillExpiry (p : Nat) (s : State) : Res := leaves s (tfillExpiry p s)

/-- REFILL_DONE: same identity, or a new one (R115). -/
def refillDone (p : Nat) (s : State) : State :=
  match (s.port p).fill with
  | none => s
  | some f =>
    if f.refill ∧ f.step = 7 then
      if sameIdentity (s.port p) f then refillSame s p f else refillNew s p f
    else s

def execRefillDone (p : Nat) (s : State) : Res := leaves s (refillDone p s)

/-! ### Control requests (R105, R111, R112) -/

/-- A host token for endpoint `ep` of hub port n under its gate: silent, NAK, or served. While the device drains, the
control transfer in progress is served too (R116). -/
def gated (s : State) (u : Up) (n ep : Nat) (f : State → State) : State :=
  match gate s u n with
  | .silent => answer s u .none
  | .nak => if ep = 0 ∧ drainServes s (locOf u n) then f s else answer s u .nak
  | .serve => f s

/-- A SETUP is ACKed whatever the proxy is doing (R112). One that comes while the device refills or drains, while Stop_TT
holds it or while its region waits for a plan is taken up afterwards; over a lend without a route it is sent, and the
tunnel keeps it until the route returns (R122, R124). -/
def gatedSetup (s : State) (u : Up) (n : Nat) (b : List Byte) (f : State → State) : State :=
  let l := locOf u n
  match gate s u n with
  | .silent => answer s u .none
  | .nak =>
    let lost := match l with
      | .virt u v => (s.vport u v).drain.isNone && !(s.vport u v).px.stopped
      | .phys _ => false
    if lost then pxSetup s u n b else keepSetup (answer s u .ack) l b
  | .serve => if pxBlocked s l then keepSetup (answer s u .ack) l b else f s

/-- PROXY_SET_ADDRESS: the whole request, answered at the end of its status stage (R102, R105). -/
def proxySetAddress (u : Up) (n addr : Nat) (s : State) : State := gated s u n 0 (fun s => pxSetAddress s u n addr)

def execProxySetAddress (u : Up) (n addr : Nat) (s : State) : Res := leaves s (proxySetAddress u n addr s)

/-- PROXY_GET_DESCRIPTOR: the whole request from the cache; any other is forwarded (R105, R106). -/
def proxyGetDescriptor (u : Up) (n kind index wLength : Nat) (s : State) : State :=
  let b := getDescSetup kind index wLength
  gatedSetup s u n b (fun s =>
    match proxyDesc s (locOf u n) kind index wLength with
    | some a => answer (s.modPx (locOf u n) (fun x => { x with ctrl := x.ctrl.cutOff })) u a
    | none => forward (answer s u .ack) (locOf u n) b)

def execProxyGetDescriptor (u : Up) (n kind index wLength : Nat) (s : State) : Res :=
  leaves s (proxyGetDescriptor u n kind index wLength s)

/-- PROXY_SETUP: a SETUP is ACKed (R112, R124), then answered or forwarded (R105). -/
def proxySetup (u : Up) (n : Nat) (setup : List Byte) (s : State) : State :=
  gatedSetup s u n setup (fun s => pxSetup s u n setup)

def execProxySetup (u : Up) (n : Nat) (setup : List Byte) (s : State) : Res := leaves s (proxySetup u n setup s)

/-- CLEAR_FEATURE_ENDPOINT_HALT: the endpoint's packets are discarded, the request is forwarded, and both domains are at
DATA0 when it completes (R111). -/
def clearFeatureEndpointHalt (u : Up) (n ep : Nat) (s : State) : State :=
  proxySetup u n ([2, 1, 0, 0] ++ leBytes 2 ep ++ [0, 0]) s

def execClearFeatureEndpointHalt (u : Up) (n ep : Nat) (s : State) : Res :=
  leaves s (clearFeatureEndpointHalt u n ep s)

/-! ### Reset absorption (R107, R108) -/

/-- The upstream that a location is shown to. -/
def locUp (s : State) : Loc → Option Up
  | .phys p => ownerUp (s.port p)
  | .virt u _ => some u

/-- VIRTUAL_RESET_END: C_PORT_RESET with PORT_ENABLE set after 12.0 ms (R108). -/
def virtualResetEnd (l : Loc) (s : State) : State :=
  if (s.px l).vreset then
    let s := s.modPx l (fun x => { x with vreset := false, viewEn := true })
    match locUp s l with
    | some u => s.modView u (locPort l) (fun v => { v with cReset := true })
    | none => s
  else s

def execVirtualResetEnd (l : Loc) (s : State) : Res := leaves s (virtualResetEnd l s)

/-- RESET_WINDOW_EXPIRY: the 500 ms window closes (R107). -/
def resetWindowExpiry (l : Loc) (s : State) : State := s.modPx l (fun x => { x with winOpen := false })

def execResetWindowExpiry (l : Loc) (s : State) : Res := leaves s (resetWindowExpiry l s)

/-! ### The wire side of endpoint 0 (R112, R117) -/

def modCtrl (s : State) (l : Loc) (f : Ctrl → Ctrl) : State := s.modPx l (fun x => { x with ctrl := f x.ctrl })

/-- Buffers of endpoint 0: those of the division, two before the device is configured (R69). -/
def bufs0 (x : Proxy) : Nat := ((x.ep 0).map (·.bufs)).getD 2

/-- The transfer on the wire goes into its status stage. -/
def wireStatus (s : State) (p : Nat) : State :=
  s.modPort p (fun q => { q with
    px := { q.px with ctrl := { q.px.ctrl with onWire := true, inStatus := true, wireTog := true } },
    wire := statusWire q.px.ctrl.wire q.id.wireAddr })

/-- The next ClearFeature(ENDPOINT_HALT) that a takeover makes of the device goes out; the proxy makes it itself, without a
host's transfer (R237). -/
def nextClear (s : State) (p : Nat) : State :=
  match (s.port p).px.clears with
  | a :: as => modCtrl (wireSetup (s.modPx (.phys p) (fun x => { x with clears := as })) p ([2, 1, 0, 0] ++ leBytes 2 a ++ [0, 0]))
      (.phys p) (fun c => { c with wireOnly := true })
  | [] => s

/-- The transfer on the wire is over, with or without its host side; the SETUP that waited for it goes out (R112), or the
next request that a takeover makes (R237). -/
def endWire (s : State) (p : Nat) : State :=
  let c := (s.port p).px.ctrl
  if c.next.isEmpty then
    nextClear (modCtrl s (.phys p) (fun c =>
      { c with wire := [], onWire := false, inStatus := false, wireOnly := false, cut := false })) p
  else wireSetup s p c.next

/-- The device's IN data has room: in the endpoint-0 buffers here, or in those of the borrower (R112, R122). -/
def room0 (q : Port) : Bool :=
  if q.id.owner = .lent then decide (inFlight q.tun 128 < bufs0 q.px) else decide (q.px.ctrl.dataIn.length < bufs0 q.px)

/-- The IN data stage goes on, or waits for room; one without a host side needs none. -/
def read0 (s : State) (p : Nat) : State :=
  let q := s.port p
  if q.px.ctrl.wireOnly || room0 q then wireIn (modCtrl s (.phys p) (fun c => { c with onWire := true })) p 0
  else modCtrl s (.phys p) (fun c => { c with onWire := false })

/-- The OUT data stage goes on with the oldest packet held, ends in the status stage, or waits for the host. -/
def send0 (s : State) (p : Nat) : State :=
  let c := (s.port p).px.ctrl
  if c.wireOnly ∨ setupLength c.wire ≤ c.moved then wireStatus s p
  else
    match c.dataOut with
    | b :: _ => s.modPort p (fun q => { q with
        px := { q.px with ctrl := { q.px.ctrl with onWire := true } }, wire := .out 0 q.px.ctrl.wireTog b })
    | [] => modCtrl s (.phys p) (fun c => { c with onWire := false })

/-- A transfer that was waiting for the host or the borrower goes on. -/
def wake0 (s : State) (p : Nat) : State :=
  let c := (s.port p).px.ctrl
  if c.wire.isEmpty ∨ c.onWire ∨ c.inStatus then s
  else if setupIn c.wire then read0 s p else send0 s p

/-- The device's status stage is over: the request has completed (R112), unless it had lost its host side (R108, R117). -/
def wireDone (s : State) (p : Nat) : State :=
  let c := (s.port p).px.ctrl
  let s := if c.wireOnly then s else ctrlDone s (.phys p)
  settleSuspend (endWire s p) p

/-- The device ACKed the SETUP: the data stage or the status stage follows. -/
def setupAcked (s : State) (p : Nat) : State :=
  let c := (s.port p).px.ctrl
  let s := modCtrl s (.phys p) (fun c => { c with wireTog := true })
  if setupIn c.wire then read0 s p else if setupOut c.wire then send0 s p else wireStatus s p

/-- The frame that brought the oldest OUT packet of an endpoint is acknowledged to the borrower (R122); packets of
endpoint 0 take no credits. -/
def ackOut (s : State) (p ep : Nat) : State :=
  match (s.port p).tun.rxPend.find? (·.1 == ep) with
  | some x =>
    let s := ackTun (s.modTun (.phys p) (fun t => { t with rxPend := t.rxPend.erase x })) (.phys p) ep x.2
    if ep = 0 then s else grantTun s (.phys p) ep 1
  | none => s

/-- The device ACKed a packet of endpoint 0: the SETUP, a packet of the OUT data stage, or the status packet (R112). -/
def deviceAck0 (s : State) (p : Nat) : State :=
  let c := (s.port p).px.ctrl
  if !c.onWire then s
  else if c.cut then settleSuspend (endWire s p) p
  else if c.inStatus then wireDone s p
  else if !c.wireTog && c.moved = 0 then setupAcked s p
  else
    let n := (c.dataOut.headD []).length
    let s := modCtrl s (.phys p) (fun c =>
      { c with dataOut := c.dataOut.drop 1, moved := c.moved + n, wireTog := !c.wireTog })
    send0 (if (s.port p).id.owner = .lent then ackOut s p 0 else s) p

/-- Data of endpoint 0 from the device (R112): a packet of the data stage of an IN request, or the status packet of any
other. -/
def deviceIn0 (s : State) (p : Nat) (data : List Byte) : State :=
  let q := s.port p
  let c := q.px.ctrl
  if !c.onWire then s
  else if c.cut then settleSuspend (endWire s p) p
  else if setupIn c.wire && !c.inStatus then
    let moved := c.moved + data.length
    let s := modCtrl s (.phys p) (fun c => { c with moved := moved, wireTog := !c.wireTog })
    let s := if c.wireOnly then s
      else if q.id.owner = .lent then sendTun s (.phys p) 0 128 data
      else modCtrl s (.phys p) (fun c => { c with dataIn := c.dataIn ++ [data] })
    if data.length < mps0At s (.phys p) ∨ setupLength c.wire ≤ moved then wireStatus s p else read0 s p
  else wireDone s p

/-- The device answers STALL on endpoint 0: it is returned at the host's next token of the transfer (R112); a borrower is
told (R122). -/
def deviceStall0 (s : State) (p : Nat) : State :=
  let c := (s.port p).px.ctrl
  if !c.onWire then s
  else if c.wireOnly then settleSuspend (endWire s p) p
  else
    let lent := decide ((s.port p).id.owner = .lent)
    let s := modCtrl s (.phys p) (fun c => { c with stall := true, active := !lent, dataIn := [], dataOut := [] })
    let s := if lent then ackOut (sendTun s (.phys p) 5 0 [1]) p 0 else s
    settleSuspend (endWire s p) p

/-! ### Completed requests (R111) -/

/-- A forwarded request at location l completes with its status stage. -/
def forwardedDone (s : State) (l : Loc) : State :=
  match l with
  | .phys p => wireDone s p
  | .virt _ _ => ctrlDone s l

/-- A request of the wanted kind is forwarded and has not completed. -/
def awaits (s : State) (l : Loc) (kind : List Byte → Bool) : Bool :=
  let c := (s.px l).ctrl
  c.active && c.forwarded && !c.statusReady && !c.later && kind c.setup

/-- FORWARDED_SET_CONFIGURATION_DONE (R69, R100, R111). -/
def forwardedSetConfigurationDone (l : Loc) (s : State) : State :=
  if awaits s l isSetConfig then forwardedDone s l else s

def execForwardedSetConfigurationDone (l : Loc) (s : State) : Res := leaves s (forwardedSetConfigurationDone l s)

/-- FORWARDED_SET_INTERFACE_DONE (R69, R111). -/
def forwardedSetInterfaceDone (l : Loc) (s : State) : State :=
  if awaits s l isSetIface then forwardedDone s l else s

def execForwardedSetInterfaceDone (l : Loc) (s : State) : Res := leaves s (forwardedSetInterfaceDone l s)

/-! ### Host transactions (R66, R110, R112, R113) -/

/-- The host's transfer is over. -/
def endHost (s : State) (l : Loc) : State :=
  let s := modCtrl s l (fun c => { c with active := false, stall := false, dataIn := [] })
  match l with
  | .phys p => settleSuspend s p
  | .virt _ _ => s

/-- OUT data packets of endpoint 0 that have not reached the device or, through a tunnel, the lender. -/
def out0Held (s : State) (l : Loc) : Nat :=
  match l with
  | .phys _ => (s.px l).ctrl.dataOut.length
  | .virt _ _ => inFlight (s.tun l) 0

/-- An OUT packet of a control transfer (R110, R112): a packet of its data stage is stored and forwarded; the status packet
of an IN transfer is NAKed until the device's status stage has completed. -/
def pxOut0 (s : State) (u : Up) (l : Loc) (toggle : Bool) (data : List Byte) : State :=
  let c := (s.px l).ctrl
  let n := out0Held s l
  if c.stall then endHost (answer s u .stall) l
  else if !c.active || c.later then answer s u .nak
  else if setupOut c.setup then
    if toggle ≠ c.hostTog then answer s u .ack
    else if bufs0 (s.px l) ≤ n then answer s u .nak
    else
      let s := modCtrl (answer s u (if bufs0 (s.px l) ≤ n + 1 then .nyet else .ack)) l (fun c =>
        { c with hostTog := !c.hostTog })
      match l with
      | .phys p => wake0 (modCtrl s l (fun c => { c with dataOut := c.dataOut ++ [data] })) p
      | .virt _ _ => sendTun s l 0 0 data
  else if setupIn c.setup && c.statusReady then endHost (answer s u .ack) l
  else answer s u .nak

/-- A host OUT packet for endpoint `ep` (R110): repeated toggles are ACKed and discarded; a free buffer stores it. With an
empty region every token is NAKed (R66). -/
def pxOut (s : State) (u : Up) (l : Loc) (ep : Nat) (toggle : Bool) (data : List Byte) : State :=
  if s.pxPages l = 0 then answer s u .nak
  else
    match (s.px l).ep ep with
    | none => answer s u .none
    | some e =>
      if e.halted then answer s u .stall
      else if e.bufs = 0 then answer s u .nak
      else if toggle ≠ e.hostTog then answer s u .ack
      else if e.bufs ≤ e.held.length ∨ pxBlocked s l then answer s u .nak
      else
        let s := s.modPx l (fun x => x.modEp ep (fun e => { e with held := e.held ++ [data], hostTog := !e.hostTog }))
        let s := answer s u (if e.bufs ≤ e.held.length + 1 then .nyet else .ack)
        let s := (sealPacket s l ep e.mps data).2
        match l with
        | .phys p => if e.held.isEmpty then wireOut s p ep else s
        | .virt _ _ => pushTun s l ep

/-- The device of hub port n is in L1 on the proxy's account (R446). -/
def inPxL1 (s : State) (n : Nat) : Bool := decide (n ≤ 32) && (s.port n).pxL1

/-- The host resume that ends L1 on the proxy's account (R446). -/
def wakePxL1 (s : State) (n : Nat) : State :=
  if inPxL1 s n ∧ (s.port n).dpe = .sleeping then startResume s n 1 true false none else s

/-- HOST_OUT (R110, R112, R113); the data stage of a SETUP wakes a device in L1 on the proxy's account and is NAKed,
another packet is stored and wakes it (R446). -/
def hostOut (u : Up) (n ep : Nat) (toggle : Bool) (data : List Byte) (s : State) : State :=
  gated s u n ep (fun s =>
    if inPxL1 s n ∧ ep = 0 then answer (wakePxL1 s n) u .nak
    else if inPxL1 s n then wakePxL1 (pxOut s u (locOf u n) ep toggle data) n
    else if ep = 0 then pxOut0 s u (locOf u n) toggle data else pxOut s u (locOf u n) ep toggle data)

def execHostOut (u : Up) (n ep : Nat) (toggle : Bool) (data : List Byte) (s : State) : Res :=
  leaves s (hostOut u n ep toggle data s)

/-- The host has ACKed the status packet: SET_ADDRESS takes effect (R105), and the transfer is over. -/
def statusTaken (s : State) (u : Up) (l : Loc) : State :=
  let b := (s.px l).ctrl.setup
  endHost (if isSetAddress b then takeAddress s u (locPort l) (setupValue b) else s) l

/-- A host IN of a control transfer: data, the status stage, STALL, or NAK (R110, R112). -/
def pxIn0 (s : State) (u : Up) (l : Loc) (acked : Bool) : State :=
  let c := (s.px l).ctrl
  if c.stall then endHost (answer s u .stall) l
  else if !c.active || c.later then answer s u .nak
  else if setupIn c.setup then
    match c.dataIn with
    | b :: _ =>
      let s := answer s u (.data c.hostTog b)
      if acked then
        let s := modCtrl s l (fun c => { c with dataIn := c.dataIn.drop 1, hostTog := !c.hostTog })
        match l with
        | .phys p => wake0 s p
        | .virt _ _ => s
      else s
    | [] => answer s u .nak
  else if c.statusReady then
    let s := answer s u (.data true [])
    if acked then statusTaken s u l else s
  else answer s u .nak

/-- Room for the mirror entry of a packet of the device (R451). -/
def roomAt (s : State) (l : Loc) (n : Nat) : Bool :=
  match l with
  | .phys p => stageRoom s p n
  | .virt _ _ => true

/-- A host IN that finds no packet: STALL of a halted endpoint, else NAK, and the first such draws a bulk endpoint (R111,
R113); a borrower carries each poll of an interrupt endpoint to the lender (R122). -/
def pxDraw (s : State) (u : Up) (l : Loc) (ep : Nat) (e : Ep) : State :=
  if e.halted then answer s u .stall
  else
    let s := answer s u .nak
    if pxBlocked s l ∨ e.bufs = 0 ∨ e.drawn ∨ !roomAt s l e.mps then s
    else
      let s := s.modPx l (fun x => x.modEp (ep + 128) (fun e => { e with drawn := e.kind == 2 }))
      match l with
      | .phys p => if e.kind = 2 then wireIn s p ep else s
      | .virt _ _ => sendTun s l 1 (ep + 128) []

/-- A host IN of a bulk or interrupt endpoint (R110, R113): the oldest packet until the host ACKs it; the draw ends with a
short one, and otherwise goes on into the buffer that is free. -/
def pxIn (s : State) (u : Up) (l : Loc) (ep : Nat) (acked : Bool) : State :=
  if s.pxPages l = 0 then answer s u .nak
  else
    match (s.px l).ep (ep + 128) with
    | none => answer s u .none
    | some e =>
      let s := s.modPx l (fun x => x.modEp (ep + 128) (fun e => { e with pollLeft := 4 }))
      match e.held with
      | [] => pxDraw s u l ep e
      | b :: _ =>
        let s := answer s u (.data e.hostTog b)
        if acked then
          let s := s.modPx l (fun x => x.modEp (ep + 128) (fun e =>
            { e with held := e.held.drop 1, hostTog := !e.hostTog, drawn := e.drawn && decide (e.mps ≤ b.length) }))
          match l with
          | .virt _ _ => grantTun s l (ep + 128) 1
          | .phys p => readOn s p ep
        else s

/-- HOST_IN (R110, R112, R113), NAKed while a device in L1 on the proxy's account is resumed (R446). -/
def hostIn (u : Up) (n ep : Nat) (acked : Bool) (s : State) : State :=
  gated s u n ep (fun s =>
    if inPxL1 s n then answer (wakePxL1 s n) u .nak
    else if ep = 0 then pxIn0 s u (locOf u n) acked else pxIn s u (locOf u n) ep acked)

def execHostIn (u : Up) (n ep : Nat) (acked : Bool) (s : State) : Res := leaves s (hostIn u n ep acked s)

/-- HOST_PING: ACK while a buffer is free (R110), those of endpoint 0 in an OUT data stage among them. -/
def hostPing (u : Up) (n ep : Nat) (s : State) : State :=
  gated s u n ep (fun s =>
    let l := locOf u n
    let x := s.px l
    if ep = 0 then
      if x.ctrl.stall then endHost (answer s u .stall) l
      else answer s u (if out0Held s l < bufs0 x then .ack else .nak)
    else if s.pxPages l = 0 then answer s u .nak
    else
      match x.ep ep with
      | none => answer s u .none
      | some e =>
        if e.halted then answer s u .stall
        else answer s u (if e.held.length < e.bufs ∧ !pxBlocked s l then .ack else .nak))

def execHostPing (u : Up) (n ep : Nat) (s : State) : Res := leaves s (hostPing u n ep s)

/-! ### Device transactions (R111–R113) -/

/-- A packet accepted or delivered on the device side of a MUXED translated port is staged for the mirror: each packet, or
at TRANSFER the last of a transfer (R226, R228). -/
def stageEp (s : State) (p a : Nat) (ends : Bool) : State :=
  if s.mirrors && s.muxed p && (s.port p).id.eff == .translated && (ends || !s.mirrorTransfer) then
    match (s.port p).px.ep a with
    | some e => sendMirror s [.endpoint (.phys p) a e.wireTog e.held]
    | none => s
  else s

/-- DEVICE_IN_DATA: a device's packet is ACKed in the wire domain and held for the host (R110, R113), unless a
seal discards it (R336); read-ahead goes on into every free buffer while the endpoint is drawn. Without room for its mirror
entry the packet is not ACKed (R451). -/
def deviceInData (p ep : Nat) (data : List Byte) (s : State) : State :=
  if ep = 0 then deviceIn0 s p data
  else
    match (s.port p).px.ep (ep + 128) with
    | none => s
    | some e =>
      if e.bufs ≤ e.held.length then s
      else if !stageRoom s p data.length then endDraw s p ep
      else
        let r := sealPacket s (.phys p) (ep + 128) e.mps data
        let drop := r.1
        let s := r.2.modPx (.phys p) (fun x => x.modEp (ep + 128) (fun e =>
          { e with held := if drop then e.held else e.held ++ [data], wireTog := !e.wireTog }))
        let s := if drop then countSealed s (.phys p) data.length else s
        let s := stageEp s p (ep + 128) (decide (data.length < e.mps))
        let s := if (s.port p).id.owner = .lent then pushTun s (.phys p) (ep + 128) else s
        readOn s p ep

def execDeviceInData (p ep : Nat) (data : List Byte) (s : State) : Res := leaves s (deviceInData p ep data s)

/-- DEVICE_OUT_ACK: the device ACKed what the wire carried to endpoint `ep`. After a PING the packet follows; a packet
delivered has its buffer freed and the next one goes out, after a PING where a bulk device at HS answered NYET (R113). -/
def deviceOutAck (p ep : Nat) (nyet : Bool) (s : State) : State :=
  if ep = 0 then deviceAck0 s p
  else
    match (s.port p).px.ep ep with
    | none => s
    | some e =>
      if e.held.isEmpty then s
      else if e.ping ∧ !nyet then wireOut (s.modPx (.phys p) (fun x => x.modEp ep (fun e => { e with ping := false }))) p ep
      else
        let hs := decide ((s.port p).id.speed = .hs) && e.kind == 2
        let s := s.modPx (.phys p) (fun x => x.modEp ep (fun e =>
          { e with held := e.held.drop 1, wireTog := !e.wireTog, ping := nyet && hs }))
        let s := stageEp s p ep (decide ((e.held.headD []).length < e.mps))
        let s := if (s.port p).id.owner = .lent then ackOut s p ep else s
        settleSuspend (wireOut s p ep) p

def execDeviceOutAck (p : Nat) (e : EpAck) (s : State) : Res := leaves s (deviceOutAck p e.ep e.nyet s)

/-- The endpoint that a STALL of the device names: the IN one where the wire's last token read it or there is no OUT one. -/
def stalled (q : Port) (ep : Nat) : Nat :=
  let reads := match q.wire with
    | .token .inn _ e => e == ep
    | _ => false
  if (q.px.ep (ep + 128)).isSome && (reads || (q.px.ep ep).isNone) then ep + 128 else ep

/-- DEVICE_STALL: the endpoint's OUT data is discarded and counted, and STALL is given to the host (R111, R122); the
packets of an IN endpoint that the device gave before are delivered first. -/
def deviceStall (p ep : Nat) (s : State) : State :=
  if ep = 0 then deviceStall0 s p
  else
    let l : Loc := .phys p
    let a := stalled (s.port p) ep
    match (s.port p).px.ep a with
    | none => s
    | some e =>
      let s := if 128 ≤ a then s.modPx l (fun x => x.modEp a (fun e => { e with halted := true, drawn := false }))
        else
          let n := e.held.foldl (fun a b => a + b.length) 0
          let s := s.modPort p (fun q => { q with
            discards := min 0xFFFFFFFF (q.discards + n),
            px := q.px.modEp a (fun e => { e.discard with halted := true, ping := false }) })
          dropTun s l (· == a)
      let s := if (s.port p).id.owner = .lent then sendTun s l 5 a [1] else s
      settleSuspend s p

def execDeviceStall (p ep : Nat) (s : State) : Res := leaves s (deviceStall p ep s)

/-- INTERRUPT_IN_POLL: the device is polled while the host has polled within its last four intervals (R113). -/
def interruptInPoll (p ep : Nat) (s : State) : State :=
  match (s.port p).px.ep (ep + 128) with
  | none => s
  | some e =>
    if e.kind = 3 ∧ 0 < e.pollLeft then
      let s := s.modPx (.phys p) (fun x => x.modEp (ep + 128) (fun e => { e with pollLeft := e.pollLeft - 1 }))
      if e.held.length < e.bufs ∧ ¬ e.halted ∧ ¬ pxBlocked s (.phys p) ∧ stageRoom s p e.mps then wireIn s p ep else s
    else s

def execInterruptInPoll (p ep : Nat) (s : State) : Res := leaves s (interruptInPoll p ep s)

/-! ### A plan takes effect (R68) -/

/-- The proxies that waited for a plan go on: the draws, and the SETUPs ACKed meanwhile. -/
def planOver (before after : State) : State :=
  let go (s : State) (l : Loc) : State :=
    if pxBlocked before l then
      takeLater (match l with | .phys p => restartWire s p | .virt _ _ => s) l
    else s
  let s := ports32.foldl (fun s p => go s (.phys p)) after
  vportNumbers.foldl (fun s v => go (go s (.virt .a v)) (.virt .b v)) s

/-- PLAN_APPLY: a microframe boundary; the waiting plan takes effect when every changing region is empty (R68). -/
def planApply (s : State) : State :=
  match s.plan.next with
  | none => s
  | some (rs, w, clamped) =>
    if planDrained s rs then planOver s (finishWait (applyPlan s rs) w (.ok (planUse rs) clamped)) else s

def execPlanApply (s : State) : Res := leaves s (planApply s)

/-- PLAN_APPLY_TIMEOUT: 10 ms passed; the old plan stays and the command completes BUSY (R68, R369). -/
def planApplyTimeout (s : State) : State :=
  match s.plan.next with
  | none => s
  | some (_, w, _) =>
    planOver s (finishWait { s with plan := { s.plan with next := none } } w (.fail stBusy 2 10))

def execPlanApplyTimeout (s : State) : Res := leaves s (planApplyTimeout s)

end Sys2Proof.Machine
end

