-- ==== Sys2Proof/Machine/LendRows.lean ====
section
/-!
DEFINITION. Machine/LendRows.lean: drains, the upstream bus reset and the lends with their tunnel (R116–R127, R274, R275).
-/

namespace Sys2Proof.Machine

/-! ### Drains (R116, R120, R125) -/

/-- A drained move is made (R116, R367): held IN packets are discarded, and the new owner's host starts unconfigured. -/
def finishMove (s : State) (p : Nat) (d : Drain) : State :=
  let q := s.port p
  let old := q.id.owner
  let s := s.modPort p (fun q => { q with
    drain := none, id := { q.id with st := if q.id.st = .draining then d.back else q.id.st, home := homeAfter q d } })
  let s := match d.newOwner with
    | .upA => presentTo s p .a 2
    | .upB => presentTo s p .b 2
    | .mgmt =>
      let s := s.modPort p (fun q =>
        let q := q.unconfigured
        { q with id := { q.id with
          owner := .mgmt, hostAddr := 0, hostCfg := 0,
          st := if q.id.st = .vacant ∨ q.id.eff = .transparent then q.id.st else .parked } })
      ownerChanged (ownerEvent s p 2 old 0 q.px.heldBytes) p
    | _ => park s p 3
  finishWait s d.wait (.ok (leBytes 1 old.code ++ leBytes 1 (s.port p).id.owner.code))

/-- The port is withdrawn from its owner, and its cache, entry and interface table go to the borrower, which has reserved v
(R121). -/
def finishLendDrain (s : State) (p : Nat) (d : Drain) : State :=
  let q := s.port p
  let s := s.modPort p (fun q =>
    let q := q.unconfigured
    { q with
      drain := none, lentFrom := q.id.owner, wasParked := decide (q.id.owner = .parked ∨ q.id.owner = .mgmt),
      tun := { q.tun with openWait := d.wait },
      id := { q.id with st := .presented, owner := .lent, hostAddr := 0, hostCfg := 0,
                        lendNode := d.node, lendVport := d.vport, lendUp := d.up } })
  sendOpen ((ownerChanged s p).modPort p (fun x => { x with lentDisc := q.px.heldBytes })) p

/-- A drain has finished on a physical port: a move is made; a lend goes on once the borrower has reserved its virtual port;
a recall ends once the other half has drained too (R116, R121, R125). -/
def drainDonePhys (s : State) (p : Nat) : State :=
  let q := s.port p
  match q.drain with
  | none => s
  | some d =>
    if !q.px.drained then s
    else if d.what = 0 then finishMove s p d
    else if !d.ready then s
    else if d.what = 1 then finishLendDrain s p d
    else endLend s p 5

/-- DRAIN_DONE (R116, R121, R125): a drained virtual port is freed, and the lender told that the lend is over. -/
def drainDone (l : Loc) (s : State) : State :=
  match l with
  | .phys p => drainDonePhys s p
  | .virt u v =>
    match (s.vport u v).drain with
    | none => s
    | some d =>
      if (s.vport u v).px.drained then
        finishWait (freeVPort (sendTun s l 0xC 0 [] false) u v) d.wait (.ok [])
      else s

def execDrainDone (l : Loc) (s : State) : Res := leaves s (drainDone l s)

/-- DRAIN_TIMEOUT: 10 ms without the drain finishing; nothing moves, the command completes BUSY (R116, R125), and a SETUP
that waited is taken up. A lend over which the borrower has shown its disconnect ends all the same. -/
def drainTimeout (l : Loc) (s : State) : State :=
  match l with
  | .phys p =>
    match (s.port p).drain with
    | none => s
    | some d =>
      if d.what = 2 ∧ d.ready then endLend s p 5
      else
        let s := if d.what = 1 then sendTun s l 0xC 0 [] false else s
        let s := s.modPort p (fun q => { q with
          drain := none, id := { q.id with st := if q.id.st = .draining then d.back else q.id.st },
          tun := if d.what = 1 then {} else q.tun })
        takeLater (finishWait s d.wait (.fail stBusy 2 10)) l
  | .virt u v =>
    match (s.vport u v).drain with
    | none => s
    | some d =>
      takeLater (finishWait (s.modVPort u v (fun x => { x with drain := none })) d.wait (.fail stBusy 2 10)) l

def execDrainTimeout (l : Loc) (s : State) : Res := leaves s (drainTimeout l s)

/-- A lend being made is undone at the lender: the port keeps its owner (R120), an HS one under R50. -/
def undoLend (s : State) (p : Nat) (r : Resp) : State :=
  let q := s.port p
  match q.drain with
  | some d =>
    let s := s.modPort p (fun q => { q with
      drain := none, id := { q.id with st := if q.id.st = .draining then d.back else q.id.st }, tun := {} })
    takeLater (finishWait s d.wait r) (.phys p)
  | none =>
    if q.tun.openWait ≠ 0 then
      let s := s.modPort p (fun q =>
        let q := q.unconfigured.afterLend (if q.wasParked then .parked else .presented)
        { q with
          tun := {}, wasParked := false,
          id := { q.id with owner := q.lentFrom, hostAddr := 0, hostCfg := 0, lendNode := 0, lendVport := 0, lendUp := .a } })
      finishWait (homeCheck s p) q.tun.openWait r
    else s

/-! ### Upstream bus reset (R117, R118, R126, R127, R511) -/

/-- The reset upstream's resume no longer carries the port's: its K ends at the time of R83 step 2 (R87). -/
def resumeAlone (s : State) (p : Nat) : State :=
  match (s.port p).resume with
  | some r =>
    if r.follows ∧ r.kOver then finishResume s p
    else s.modPort p (fun q => { q with resume := some { r with follows := false } })
  | none => s

/-- A transparent port of the reset upstream (R71, R117). -/
def busResetTransparent (s : State) (p : Nat) : State :=
  match (s.port p).dpe with
  | .unpowered => s
  | .disconnected => s
  | .resuming => resumeAlone (s.modPort p (fun q => { q with parkNext := true })) p
  | _ => syncPort (s.modPort p (fun q => { q with
      dpe := .disabled, cmdReset := false, addr := 0, addrSeen := 0, busSusp := false })) p

/-- A translated port of the reset upstream (R117, R118): what its host had begun is gone at once; a move goes through, a
lend being made ends with REFUSED_STATE (DESIGN CHOICE, log entry 55), and the port is parked, at the end of a fill, a refill
or a resume that runs. -/
def busResetTranslated (s : State) (p : Nat) : State :=
  let q := s.port p
  let later (s : State) : State := s.modPort p (fun q => { q with parkNext := true })
  let drop (s : State) : State := s.modPort p (fun q => q.unconfigured)
  match q.id.st with
  | .vacant => s
  | .filling => later s
  | .refilling => later (drop s)
  | .draining =>
    match q.drain with
    | some d =>
      if d.what = 0 then finishMove s p d
      else park (undoLend (sendTun s (.phys p) 0xC 0 [] false) p (.fail stRefusedState)) p 1
    | none => park s p 1
  | _ => if q.dpe = .resuming then resumeAlone (later (drop s)) p else park s p 1

/-- One physical port of the reset upstream: splits and results are discarded, and a port in TESTING leaves it, whatever its
mode (R71, R117). -/
def busResetPort (s : State) (p : Nat) : State :=
  let s := s.modPort p (fun q => { q with tt := resetTt1 q.tt })
  if (s.port p).dpe = .testing then loseDevice s p .disconnected
  else
    match (s.port p).id.eff with
    | .transparent => busResetTransparent s p
    | .translated => busResetTranslated s p

/-- The map of ports that satisfy a test, bit p − 1. -/
def portMap (f : Nat → Bool) : Nat := mapBits (ports32.map f)

/-- A virtual port of the reset upstream: the lend is kept, its held packets are discarded at both nodes (R117, R126), those
of frames not acknowledged among them. An upstream that attaches at FS is shown nothing of it (R127). -/
def busResetVport (s : State) (u : Up) (v : Nat) : State :=
  if (s.vport u v).used then
    let l : Loc := .virt u v
    let s := s.modVPort u v (fun x => { x with
      px := { x.px.dropHeld with ctrl := {}, eps := [], viewEn := false, viewDis := false, vreset := false,
                                 realReset := false, winOpen := false, stopped := false },
      id := { x.id with hostAddr := 0, hostCfg := 0, st := .presented },
      tun := (x.tun.dropData (fun _ => true)).fresh (fun _ => true),
      hidden := decide ((s.up u).link = .fs), susp := false, suspWait := false })
    sendTun s l 0xE 128 []
  else s

/-- The effects of R117 on one upstream, with the code of its event and the link that follows. -/
def busReset (s : State) (u : Up) (link : UpLink) (code : Nat) : State :=
  let disabled := portMap (fun p => s.owns u p && (s.port p).id.eff == .transparent &&
    (match (s.port p).dpe with | .unpowered => false | .disconnected => false | .testing => false | _ => true))
  let parkedBefore := portMap (fun p => (s.port p).id.owner == .parked)
  let s := dropResponses s u
  let s := s.modUp u (fun x => { clearSsViews (clearViews x) with
    link := link, bus := .active, hostK := false, kDrive := none, hubAddr := 0, hubCfg := 0, hubAlt := 0,
    remoteWake := false, ssAddr := 0, ssCfg := 0, u1En := false, u2En := false, ssWake := false, scTog := false, fwd := [],
    mgAddr := 0, mgCfg := 0, mgSuspended := false, mgResetting := false, mgEnabled := true,
    evOffered := 0, evToggle := false, respToggle := false, sofLocked := false, sofGood := 0, ans := .none, defaultPort := 0 })
  let s := ports32.foldl (fun s p => if s.owns u p then busResetPort s p else s) s
  let s := vportNumbers.foldl (fun s v => busResetVport s u v) s
  let parked := portMap (fun p => (s.port p).id.owner == .parked) - parkedBefore
  rechargeAll (raiseUp s u 0 code (parked + at_ 32 disabled + at_ 64 (b2n (link == .hs)))) u

/-- UPSTREAM_BUS_RESET (R117, R118). A chip with reserved straps connects no upstream (R18). -/
def upstreamBusReset (u : Up) (hs : Bool) (s : State) : State :=
  if s.sys.role = 3 then s else busReset s u (if hs then .hs else .fs) 1

def execUpstreamBusReset (u : Up) (hs : Bool) (s : State) : Res := leaves s (upstreamBusReset u hs s)

/-- UPSTREAM_CONNECTION_LOST: as a bus reset, and the pull-up and SuperSpeed terminations are removed (R511). -/
def upstreamConnectionLost (u : Up) (s : State) : State :=
  setUpLink (busReset s u .detached 2) u .ssDisabled false

def execUpstreamConnectionLost (u : Up) (s : State) : Res := leaves s (upstreamConnectionLost u s)

/-! ### Lends (R120–R127) -/

/-- The payload of OPEN is whole: header, descriptors, identity entry, interface table (R104, R121). -/
def openWhole (b : List Byte) : Bool := 16 ≤ b.length && b.length == 64 + leNat (slice b 2 2)

def speedOf (n : Nat) : Speed := if n = 0 then .hs else if n = 1 then .fs else if n = 2 then .ls else .none

/-- A virtual port as its OPEN payload describes it: cache, identity entry, interface table (R104, R121). -/
def readOpen (fs : Bool) (x : VPort) : VPort :=
  let b := x.tun.openBuf
  let n := leNat (slice b 2 2)
  let e := leNat (slice b (16 + n) 16)
  { x with
    shown := true, hidden := fs, homePort := bits e 30 24, cache := slice b 16 n, numCfgs := (b.getD 1 0).toNat,
    id := { eff := .translated, st := .presented, speed := speedOf (bits e 57 56), cacheLen := bits e 79 64,
            generation := BitVec.ofNat 16 (bits e 95 80), cacheCrc := BitVec.ofNat 32 (bits e 127 96),
            wireAddr := bits e 30 24 },
    px := {} }

/-- LEND_PRESENTED: the borrower presents the virtual port and says so to the lender (R121). -/
def lendPresented (u : Up) (v : Nat) (s : State) : State :=
  let x := s.vport u v
  if x.used ∧ ¬ x.shown ∧ openWhole x.tun.openBuf then
    let s := sendTun (s.modVPort u v (readOpen ((s.up u).link == .fs))) (.virt u v) 0xB 0 []
    syncConn (raiseUp s u 3 3 (vportData (s.vport u v) u v)) u v
  else s

def execLendPresented (u : Up) (v : Nat) (s : State) : Res := leaves s (lendPresented u v s)

/-- LEND_BORROWER_TIMEOUT: no answer within 10 ms: a lend is undone, a recall leaves the lend in force (R120, R372). -/
def lendBorrowerTimeout (p : Nat) (s : State) : State :=
  match (s.port p).drain with
  | some d =>
    if d.what = 2 then
      let s := s.modPort p (fun q => { q with drain := none, id := { q.id with st := d.back } })
      takeLater (finishWait s d.wait (.fail stTimeout (s.port p).tun.node)) (.phys p)
    else if d.what = 1 then undoLend s p (.fail stTimeout (s.port p).tun.node)
    else s
  | none => undoLend s p (.fail stTimeout (s.port p).tun.node)

def execLendBorrowerTimeout (p : Nat) (s : State) : Res := leaves s (lendBorrowerTimeout p s)

/-- LEND_HOLD_EXPIRY: no route, or no HS upstream, within LEND_HOLD (R124, R127). A command that waits on the lend has its
end with it. -/
def lendHoldExpiry (l : Loc) (s : State) : State :=
  match l with
  | .phys p =>
    if (s.port p).id.owner = .lent ∧ ¬ (s.port p).tun.route then
      (if (s.port p).tun.openWait ≠ 0 then undoLend s p (.fail stTimeout (s.port p).tun.node) else endLend s p 10)
    else s
  | .virt u v =>
    let x := s.vport u v
    let w := (x.drain.map (·.wait)).getD 0
    if x.used ∧ x.hidden then finishWait (freeVPort (sendTun s l 0xC 0 [] false) u v) w (.ok [])
    else if x.used ∧ ¬ x.tun.route then finishWait (freeVPort s u v) w (.ok [])
    else s

def execLendHoldExpiry (l : Loc) (s : State) : Res := leaves s (lendHoldExpiry l s)

/-! ### Tunnel frames (R122, R274, R275) -/

/-- The half of a known lend that a frame is for. -/
def tunLoc (s : State) (h : TunHdr) : Option Loc :=
  if h.toLender then
    (ports32.find? (fun p =>
      let t := (s.port p).tun
      t.vport == h.vport && t.up == h.up && t.node == h.src && 34 ≤ t.vport)).map .phys
  else
    let x := s.vport h.up h.vport
    if x.used ∧ x.tun.node = h.src then some (.virt h.up h.vport) else none

/-- A CLOSE to a node that has no part in a lend here; its EP says why (log entry 16): 0 no region or in use, 1 not at HS,
15 the lend is not known. -/
def refuseTun (s : State) (h : TunHdr) (why : Nat) : State :=
  sendTo s 3 0x30 h.src (tunSpec { vport := h.vport, up := h.up } why 0xC 0) []

/-- A frame of an unknown lend is discarded and answered with CLOSE (R275). -/
def tunUnknown (s : State) (h : TunHdr) : State := refuseTun s h 15

/-- A TSEQ that this half has accepted before. -/
def tunSeen (t : Tunnel) (q : BitVec 16) : Bool := decide ((t.rxSeq - q).toNat < 32768)

/-- A sequenced frame: taken when its TSEQ is the next, acknowledged unless `late`; a repeated one is acknowledged again
and not taken, and one that skips ahead is neither, for the frames before it are to be sent again (R122). -/
def onTun (s : State) (h : TunHdr) (late : Bool) (f : State → Loc → State) : State :=
  match tunLoc s h with
  | none => tunUnknown s h
  | some l =>
    let t := s.tun l
    let q := BitVec.ofNat 16 h.tseq
    if q = t.rxSeq + 1 then
      let s := s.modTun l (fun t => { t with rxSeq := q })
      f (if late then s else ackTun s l h.ep q) l
    else if tunSeen t q && !(t.rxPend.any (·.2 == q)) then ackTun s l h.ep q
    else s

/-- A SETUP frame of this half is on its way: what the other half still sends of endpoint 0 belongs to the transfer before
(R108, R112). -/
def setupWaits (t : Tunnel) : Bool := t.held.any (fun x => x.2.1 == 4)

/-- The borrower's transfer is the one that the lender's frames of endpoint 0 are for. -/
def takes0 (s : State) (l : Loc) : Bool :=
  let c := (s.px l).ctrl
  c.active && c.forwarded && !setupWaits (s.tun l)

/-- TUNNEL_DATA at the lender: an OUT packet, acknowledged when the device has it (R122); one of a halted endpoint, or of a
transfer that has ended, is dropped (R111). -/
def tunDataOut (s : State) (p : Nat) (h : TunHdr) (data : List Byte) : State :=
  let l : Loc := .phys p
  let q := BitVec.ofNat 16 h.tseq
  let keep (s : State) : State := s.modTun l (fun t => { t with rxPend := t.rxPend ++ [(h.ep, q)] })
  if h.ep = 0 then
    let c := (s.port p).px.ctrl
    if c.active ∧ setupOut c.setup then wake0 (modCtrl (keep s) l (fun c => { c with dataOut := c.dataOut ++ [data] })) p
    else ackTun s l h.ep q
  else
    match (s.port p).px.ep h.ep with
    | none => ackTun s l h.ep q
    | some e =>
      if e.halted then grantTun (ackTun s l h.ep q) l h.ep 1
      else
        let s := keep (sealPacket s l h.ep e.mps data).2
        let s := s.modPx l (fun x => x.modEp h.ep (fun e => { e with held := e.held ++ [data] }))
        if e.held.isEmpty then wireOut s p h.ep else s

/-- TUNNEL_DATA at the borrower: an IN packet (R122). -/
def tunDataIn (s : State) (l : Loc) (h : TunHdr) (data : List Byte) : State :=
  let s := ackTun s l h.ep (BitVec.ofNat 16 h.tseq)
  if h.ep % 128 = 0 then
    if takes0 s l then modCtrl s l (fun c => { c with dataIn := c.dataIn ++ [data] }) else s
  else
    match (s.px l).ep h.ep with
    | none => s
    | some e =>
      let r := sealPacket s l h.ep e.mps data
      if r.1 then grantTun r.2 l h.ep 1
      else r.2.modPx l (fun x => x.modEp h.ep (fun e => { e with held := e.held ++ [data] }))

def tunData (s : State) (l : Loc) (h : TunHdr) (data : List Byte) : State :=
  match l with
  | .phys p => tunDataOut s p h data
  | .virt _ _ => tunDataIn s l h data

def execTunnelData (h : TunHdr) (data : List Byte) (s : State) : Res :=
  leaves s (onTun s h true (fun s l => tunData s l h data))

/-- TUNNEL_DRAW makes the lender draw an IN endpoint (R122). -/
def tunDraw (s : State) (l : Loc) (ep : Nat) : State :=
  match l with
  | .virt _ _ => s
  | .phys p =>
    readOn (s.modPx l (fun x => x.modEp ep (fun e => { e with drawn := e.kind == 2, pollLeft := 4 }))) p (ep % 128)

def execTunnelDraw (h : TunHdr) (s : State) : Res := leaves s (onTun s h false (fun s l => tunDraw s l h.ep))

/-- The borrower holds the packet of a DATA frame: this half drops its own. At the lender a short one ends the draw, and a
free buffer is read into (R113, R122). -/
def dataAcked (s : State) (l : Loc) (ep : Nat) (data : List Byte) : State :=
  if ep % 128 = 0 then
    match l with
    | .phys p => wake0 s p
    | .virt _ _ => s
  else
    let s := s.modPx l (fun y => y.modEp ep (fun e =>
      { e with held := e.held.drop 1, drawn := e.drawn && decide (e.mps ≤ data.length) }))
    match l with
    | .phys p => readOn s p (ep % 128)
    | .virt _ _ => s

/-- The borrower has acknowledged the OPEN that asks it to reserve v (R121). -/
def reserved (s : State) (p : Nat) : State :=
  match (s.port p).drain with
  | some d =>
    if d.what = 1 then drainDonePhys (s.modPort p (fun q => { q with drain := some { d with ready := true } })) p else s
  | none => s

/-- TUNNEL_ACK frees the sender's held packet (R122). -/
def tunAck (s : State) (l : Loc) (h : TunHdr) : State :=
  let q := BitVec.ofNat 16 h.tseq
  match (s.tun l).held.find? (fun x => x.1 == q) with
  | none => s
  | some x =>
    let s := s.modTun l (fun t => { t with held := t.held.erase x })
    match x.2.1, l with
    | 0, _ => dataAcked s l x.2.2.1 x.2.2.2
    | 0xA, .phys p => reserved s p
    | _, _ => s

/-- TUNNEL_ACK (R122, R275). -/
def tunnelAck (h : TunHdr) (s : State) : State :=
  match tunLoc s h with
  | none => tunUnknown s h
  | some l => tunAck s l h

def execTunnelAck (h : TunHdr) (s : State) : Res := leaves s (tunnelAck h s)

/-- TUNNEL_CREDIT: the total of buffers granted; held packets go while credits stand (R122, R274). -/
def tunCredit (s : State) (l : Loc) (ep total : Nat) : State :=
  let s := s.modTun l (fun t => { t with credit := setTally t.credit ep (total % 65536) })
  (List.range 64).foldl (fun s _ => pushTun s l ep) s

def execTunnelCredit (h : TunHdr) (total : Nat) (s : State) : Res :=
  leaves s (onTun s h false (fun s l => tunCredit s l h.ep total))

/-- TUNNEL_SETUP carries a forwarded request to the lender (R122), which takes it up after a refill that runs (R115), and
answers with STALL while its region is empty (R66). -/
def tunSetup (s : State) (l : Loc) (b : List Byte) : State :=
  match l with
  | .phys p =>
    if (s.port p).id.st = .refilling then keepSetup s l b
    else if s.pages 3 p 0 = 0 then sendTun (noteHalt s l b) l 5 0 [1]
    else forward s l b
  | .virt _ _ => s

def execTunnelSetup (h : TunHdr) (setup : List Byte) (s : State) : Res :=
  leaves s (onTun s h false (fun s l => tunSetup s l setup))

/-- A real reset carried to the lender has ended (R109, R123). -/
def vportResetEnd (s : State) (u : Up) (v : Nat) : State :=
  let s := s.modVPort u v (fun x => { x with px := { x.px with realReset := false, viewEn := true, eps := [] } })
  s.modView u v (fun x => { x with cReset := true })

/-- The borrower's answer to a PORT_SUSPEND that awaits the lender's result (R42, R78). -/
def suspAnswer (s : State) (u : Up) (v : Nat) (a : Ans) (susp : Bool) : State :=
  let x := s.vport u v
  let s := s.modVPort u v (fun x => { x with suspWait := false, susp := susp })
  if x.suspWait then answer s u a else s

/-- A RESULT of the port itself, EP 0 DIR IN (log entry 46): 2 suspended, 1 the device would not empty in time, 0 the EOP of
a resume (R78, R91). -/
def portResult (s : State) (u : Up) (v result : Nat) : State :=
  match result with
  | 2 => suspAnswer s u v .ack true
  | 1 => suspAnswer s u v .stall (s.vport u v).susp
  | 0 => (s.modVPort u v (fun x => { x with susp := false })).modView u v (fun x => { x with cSuspend := true })
  | _ => s

/-- TUNNEL_RESULT of an endpoint at the borrower: STALL, or the status stage complete (R111, R122, R274). -/
def epResult (s : State) (u : Up) (v ep result : Nat) : State :=
  let l : Loc := .virt u v
  let x := (s.vport u v).px
  match result with
  | 1 =>
    if ep = 0 then (if takes0 s l then modCtrl s l (fun c => { c with stall := true, dataIn := [] }) else s)
    else if 128 ≤ ep then s.modPx l (fun x => x.modEp ep (fun e => { e with halted := true, drawn := false }))
    else (s.modPx l (fun x => x.modEp ep (fun e => { e.discard with halted := true }))).modTun l (fun t => t.dropData (· == ep))
  | 2 =>
    if x.realReset then vportResetEnd s u v
    else if takes0 s l then ctrlDone s l
    else s
  | _ => s

/-- TUNNEL_RESULT: at the lender it says that a word of the borrower's BORROW region was lost, for the port's LINKERR
(R70; log entry 19). -/
def tunResult (s : State) (l : Loc) (ep result : Nat) : State :=
  match l with
  | .phys p =>
    if result = 1 then
      raisePort (dropTun (s.modPx l (fun x => x.modEp ep (fun e => { e.discard with halted := true }))) l (· == ep)) p 7 6 ep
    else s
  | .virt u v => if ep = 128 then portResult s u v result else epResult s u v ep result

def execTunnelResult (h : TunHdr) (result : Nat) (s : State) : Res :=
  leaves s (onTun s h false (fun s l => tunResult s l h.ep result))

/-- TUNNEL_RESET carries a real reset to the lender, which runs a refill (R109, R123). -/
def tunReset (s : State) (l : Loc) : State :=
  match l with
  | .virt _ _ => s
  | .phys p =>
    let disc := (s.port p).px.heldBytes
    let w := ((s.port p).fill.map (·.wait)).getD 0
    let s := dropTun (s.modPx l (fun x => { x.dropHeld with ctrl := x.ctrl.cutOff, eps := [] })) l (fun _ => true)
    let s := s.modId l (fun d => { d with hostAddr := 0, hostCfg := 0 })
    ownerEvent (startRefill s p true w) p 7 .lent 0 disc

def execTunnelReset (h : TunHdr) (s : State) : Res := leaves s (onTun s h false (fun s l => tunReset s l))

/-- TUNNEL_WAKE carries a device wake to the borrower, which applies R84 (R123). -/
def tunWake (s : State) (l : Loc) : State :=
  match l with
  | .phys _ => s
  | .virt u v => if canWakeUp (s.up u) then driveUpK s u v else s

def execTunnelWake (h : TunHdr) (s : State) : Res := leaves s (onTun s h false (fun s l => tunWake s l))

/-- TUNNEL_SUSPEND makes the lender suspend the lent port (R78); a port that cannot suspend answers as with STALL (log
entry 46). -/
def tunSuspend (s : State) (l : Loc) : State :=
  match l with
  | .virt _ _ => s
  | .phys p =>
    match (s.port p).dpe with
    | .enabled =>
      if (s.port p).px.drained then sendTun (doSuspend s p) l 5 128 [2]
      else s.modPort p (fun q => { q with suspWait := true })
    | .suspended => sendTun s l 5 128 [2]
    | _ => sendTun s l 5 128 [1]

def execTunnelSuspend (h : TunHdr) (s : State) : Res := leaves s (onTun s h false (fun s l => tunSuspend s l))

/-- TUNNEL_RESUME makes the lender resume the lent port (R274). -/
def tunResume (s : State) (l : Loc) : State :=
  match l with
  | .virt _ _ => s
  | .phys p =>
    match (s.port p).dpe with
    | .enabled => s
    | _ => hostResume s p false

def execTunnelResume (h : TunHdr) (s : State) : Res := leaves s (onTun s h false (fun s l => tunResume s l))

/-- Why the borrower cannot take a lend on v (R120), as the EP of its CLOSE (log entry 16). -/
def borrowRefusal (s : State) (u : Up) (v : Nat) : Option Nat :=
  if v < 34 ∨ 41 < v ∨ s.pages 5 v (ownerUpCode u) = 0 ∨ (s.vport u v).used then some 0
  else if (s.up u).link ≠ .hs then some 1
  else none

/-- An OPEN of a known lend: its payload is collected; one of no payload shows the device anew, after a disconnect (R115,
R121; log entry 16). -/
def moreOpen (data : List Byte) (s : State) (l : Loc) : State :=
  match l with
  | .phys _ => s
  | .virt u v =>
    if data.isEmpty then
      syncConn (s.modVPort u v (fun x => { x with
        shown := false, px := {}, susp := false, suspWait := false,
        tun := { (x.tun.dropData (fun _ => true)).fresh (fun _ => true) with openBuf := [] } })) u v
    else s.modTun l (fun t => { t with openBuf := t.openBuf ++ data })

/-- TUNNEL_OPEN: the first one reserves v; the rest bring the cache, the entry and the table (R120, R121). -/
def tunnelOpen (h : TunHdr) (data : List Byte) (s : State) : State :=
  match tunLoc s h with
  | some _ => onTun s h false (moreOpen data)
  | none =>
    if h.toLender then tunUnknown s h
    else
      match borrowRefusal s h.up h.vport with
      | some why => refuseTun s h why
      | none =>
        let q := BitVec.ofNat 16 h.tseq
        let s := s.modVPort h.up h.vport (fun x => { x with
          used := true, tun := { node := h.src, own := s.fab.nodeId, up := h.up, vport := h.vport, rxSeq := q, openBuf := data } })
        ackTun s (.virt h.up h.vport) 0 q

def execTunnelOpen (h : TunHdr) (data : List Byte) (s : State) : Res := leaves s (tunnelOpen h data s)

/-- TUNNEL_OPEN_DONE: the borrower presents v, the command completes and LENT is raised (R121). -/
def tunOpenDone (s : State) (l : Loc) : State :=
  match l with
  | .virt _ _ => s
  | .phys p =>
    let q := s.port p
    let w := q.tun.openWait
    if w = 0 then s
    else
      let s := s.modTun l (fun t => { t with openWait := 0 })
      finishWait (ownerEvent s p 4 q.lentFrom 0 q.lentDisc) w
        (.ok (leBytes 1 q.id.lendNode ++ leBytes 1 q.id.lendUp.code ++ leBytes 1 q.id.lendVport))

def execTunnelOpenDone (h : TunHdr) (s : State) : Res := leaves s (onTun s h false (fun s l => tunOpenDone s l))

/-- A CLOSE that asks this half to drain first, EP 2 (log entry 16): the borrower drains and then closes the lend (R125). -/
def recallVport (s : State) (u : Up) (v : Nat) : State :=
  if (s.vport u v).drain.isSome then s
  else drainDone (.virt u v) (s.modVPort u v (fun x => { x with drain := some { what := 2 } }))

/-- The lend is over at this half (R120, R125, R275); commands that wait on it have their end. -/
def lendOver (s : State) (l : Loc) (why : Nat) : State :=
  match l with
  | .virt u v => finishWait (freeVPort s u v) (((s.vport u v).drain.map (·.wait)).getD 0) (.ok [])
  | .phys p =>
    let q := s.port p
    if q.tun.openWait ≠ 0 ∨ q.drain.map (·.what) = some 1 then
      undoLend s p (.fail (if why = 1 then stRefusedState else stNoResource))
    else
      match q.drain with
      | some d =>
        if why = 15 then endLend s p 5
        else drainDonePhys (s.modPort p (fun q => { q with drain := some { d with ready := true } })) p
      | none => endLend s p 5

/-- TUNNEL_CLOSE ends the lend at the receiver (R120, R125, R275). One that refuses a lend, or answers for a lend that is
not known, has no TSEQ of the tunnel; every other one is taken when it is the next (log entry 16). -/
def tunnelClose (h : TunHdr) (s : State) : State :=
  match tunLoc s h with
  | none => s
  | some l =>
    let t := s.tun l
    let q := BitVec.ofNat 16 h.tseq
    let why := h.ep % 16
    let first := match l with
      | .phys p => (s.port p).drain.map (·.what) == some 1
      | .virt _ _ => false
    if why = 15 ∨ first = true then lendOver s l why
    else if q = t.rxSeq + 1 then
      match why, l with
      | 2, .virt u v => recallVport (ackTun (s.modTun l (fun t => { t with rxSeq := q })) l h.ep q) u v
      | _, _ => lendOver s l why
    else if tunSeen t q then ackTun s l h.ep q
    else s

def execTunnelClose (h : TunHdr) (s : State) : Res := leaves s (tunnelClose h s)

/-- The held frames go again, in order (R122, R275). -/
def resendHeld (s : State) (l : Loc) : State :=
  let t := s.tun l
  t.held.foldl (fun s x => sendTo s 3 0x30 t.node (tunSpec t x.2.2.1 x.2.1 x.1) x.2.2.2) s

/-- The last TSEQ that RESYNC returns: a packet that the device has not ACKed is accepted only then, so that the other half
keeps it (R122). -/
def lastAccepted (t : Tunnel) : BitVec 16 :=
  match t.rxPend with
  | x :: _ => x.2 - 1
  | [] => t.rxSeq

/-- This half sends RESYNC with the last TSEQ it accepted (R275). -/
def sendResync (s : State) (l : Loc) : State :=
  let t := s.tun l
  if t.vport = 0 then s
  else (sendTo s 3 0x30 t.node (tunSpec t 0 0xD t.txSeq) (leBytes 2 (lastAccepted t).toNat)).modTun l
    (fun t => { t with resync := true })

/-- TUNNEL_RESYNC: frames up to the TSEQ returned were accepted; the rest are resent, and this half returns its own last
TSEQ unless it asked first (R122, R275). -/
def tunnelResync (h : TunHdr) (last : Nat) (s : State) : State :=
  match tunLoc s h with
  | none => tunUnknown s h
  | some l =>
    let t := s.tun l
    let q := BitVec.ofNat 16 last
    let done := t.held.filter (fun x => decide ((q - x.1).toNat < 32768))
    let s := done.foldl (fun s x => tunAck s l { h with tseq := x.1.toNat }) s
    let s := if t.resync then s else sendResync s l
    resendHeld (s.modTun l (fun t => { t with resync := false })) l

def execTunnelResync (h : TunHdr) (last : Nat) (s : State) : Res := leaves s (tunnelResync h last s)

/-- TUNNEL_DISCARD applies a discard of R111, R108 or R117 at the other half (R122, R274): of one endpoint, or with EP 0 of
them all and of the control transfer, which ends on the wire at packet level after a virtual reset and, with DIR IN, through
its status stage after an upstream bus reset (log entry 16). -/
def tunDiscard (s : State) (l : Loc) (ep : Nat) : State :=
  if ep % 128 ≠ 0 then dropTun (s.modPx l (fun x => x.modEp ep (fun e => e.discard))) l (· == ep)
  else
    let s := dropTun (s.modPx l (fun x => { x.dropHeld with eps := [] })) l (fun _ => true)
    match l with
    | .virt _ _ => s
    | .phys p =>
      let s := s.modId l (fun d => { d with hostAddr := 0, hostCfg := 0 })
      if ep = 0 then modCtrl s l Ctrl.cutOff else s.modPort p abandonCtrl

def execTunnelDiscard (h : TunHdr) (s : State) : Res := leaves s (onTun s h false (fun s l => tunDiscard s l h.ep))

/-- TUNNEL_UNACKED_TIMEOUT: 2 ms without an acknowledgement (R275). -/
def tunnelUnackedTimeout (l : Loc) (s : State) : State :=
  if (s.tun l).held.isEmpty then s else sendResync s l

def execTunnelUnackedTimeout (l : Loc) (s : State) : Res := leaves s (tunnelUnackedTimeout l s)

end Sys2Proof.Machine
end

