-- ==== Sys2Proof/Machine/RouteOps.lean ====
section
/-!
DEFINITION. Machine/RouteOps.lean: the route engine: own LSA, claims of node IDs, the graph of ACTIVE usable links, levels,
the table, and what a change of the table does (R265–R273).
-/

namespace Sys2Proof.Machine

/-- UID of the node: the chip's own, or the primary's once a secondary has seen it (R268). -/
def State.nodeUid (s : State) : Nat :=
  match s.sys.role, s.pair.primaryUid with
  | 2, some u => u
  | _, _ => Config.uid.toNat

/-- Links 0–3. -/
def linkNumbers : List Nat := [0, 1, 2, 3]

/-- A link that carries discovery: UP in fabric mode. -/
def State.fabUp (s : State) (l : Nat) : Bool := (s.link l).st == .up && !(s.link l).ladle

/-! ### Frames of discovery (R265); their byte layouts are the model's (log entry 28) -/

/-- HELLO: UID, claim, link and flags in 32 bytes. -/
def helloBytes (s : State) (l : Nat) : List Byte :=
  leBytes 8 s.nodeUid ++ leBytes 1 s.fab.claim ++ leBytes 1 (l + at_ 2 s.sys.role + at_ 4 (b2n s.chipActive)) ++ zeros 22

/-- An LSA: 24 bytes and 12 for each link entry. -/
def lsaBytes (a : Lsa) : List Byte :=
  leBytes 8 a.uid ++ leBytes 4 a.seq ++ leBytes 1 a.claim ++ leBytes 1 (b2n a.fixed) ++ leBytes 1 a.rootPrio
    ++ leBytes 1 a.cl ++ zeros 8
    ++ a.links.flatMap (fun e => leBytes 1 (e.link + at_ 2 (b2n e.secondary) + at_ 3 (b2n e.active)) ++ leBytes 1 e.nbrLink
        ++ zeros 2 ++ leBytes 8 e.nbrUid)

/-- A frame of discovery on link l. -/
def sendHere (s : State) (l kind : Nat) (bs : List Byte) : State :=
  sendOn s l { vc := 0, kind := kind, hops := 64, down := false, dest := 0, src := 0, kspec := 0, payload := bs }

def sendHello (s : State) (l : Nat) : State := if s.fabUp l then sendHere s l 1 (helloBytes s l) else s

/-- An LSA on every UP fabric link but one. -/
def flood (s : State) (a : Lsa) (but : Option Nat) : State :=
  linkNumbers.foldl (fun s l => if s.fabUp l ∧ but ≠ some l then sendHere s l 2 (lsaBytes a) else s) s

/-! ### The own LSA -/

/-- The chip's own entries: its usable links, ACTIVE on the chip that owns the ports (R265, R268). -/
def ownLinks (s : State) : List LsaLink :=
  linkNumbers.filterMap (fun l =>
    let k := s.link l
    if k.usable ∧ !k.ladle then
      some { link := l, secondary := s.sys.role == 2, nbrUid := k.nbrUid, nbrLink := k.nbrLink, active := s.chipActive }
    else none)

/-- A LSA stored in place of the one held for its UID. -/
def putLsa (s : State) (a : Lsa) : State :=
  { s with fab := { s.fab with lsas :=
    { lsa := a, at_ := s.ticks } :: s.fab.lsas.filter (fun h => h.lsa.uid != a.uid) } }

/-- The node's LSA with its next sequence number, stored and sent (R265). The ACTIVE chip of a pair sends it for both
chips; the other chip tells it of its links (R20, R226, R268). -/
def announce (s : State) (l : Nat) : State :=
  if !s.chipActive then sendSlow s [.links (ownLinks s)]
  else
    let a : Lsa :=
      { uid := s.nodeUid, seq := (s.fab.lsaSeq + 1).toNat, claim := s.fab.claim, fixed := s.fab.fixed,
        rootPrio := s.fab.rootPrio, cl := s.sys.cl,
        links := ownLinks s ++ s.pair.partnerLinks.map (fun e => { e with active := false }) }
    let s := putLsa { s with fab := { s.fab with lsaSeq := s.fab.lsaSeq + 1, changed := some l } } a
    flood s a none

/-! ### Node IDs (R266) -/

/-- Another node's LSA beats a claim: FIXED beats not FIXED; between equal kinds the lower UID keeps it. -/
def beats (uid claim : Nat) (fixed : Bool) (a : Lsa) : Bool :=
  a.uid != uid && a.claim == claim && ((a.fixed && !fixed) || (a.fixed == fixed && decide (a.uid < uid)))

/-- The lowest ID of 1–240 that no LSA of another node claims; 0 when every ID is taken. -/
def lowestFree (uid : Nat) (ls : List HeldLsa) : Nat :=
  (((List.range 240).map (· + 1)).find? (fun c => !ls.any (fun h => h.lsa.uid != uid && h.lsa.claim == c))).getD 0

/-- The claim the node makes now. -/
def claimNow (s : State) : Nat × Bool :=
  let uid := s.nodeUid
  let lost (c : Nat) (fixed : Bool) : Bool := s.fab.lsas.any (fun h => beats uid c fixed h.lsa)
  if s.fab.nodeIdSet ≠ 0 then (if lost s.fab.nodeIdSet true then (0, true) else (s.fab.nodeIdSet, true))
  else
    let c := if s.fab.claim ≠ 0 ∧ ¬ s.fab.fixed then s.fab.claim
      else (let k := s.paired plNode % 256; if k ≤ 240 then k else 0)
    if c = 0 ∨ lost c false = true then (lowestFree uid s.fab.lsas, false) else (c, false)

/-- The claim is judged anew; a changed claim waits out its 5 ms, and what was lost is recorded on link l. A pair is one
node with one ID, which its ACTIVE chip claims (R19, R20). -/
def reclaim (s : State) (l : Nat) : State :=
  let (c, fx) := claimNow s
  if !s.chipActive then s
  else if c = s.fab.claim ∧ (c = 0 ∨ fx = s.fab.fixed) then s
  else
    let old := s.fab.nodeId
    let s := { s with fab := { s.fab with claim := c, fixed := fx && c != 0, nodeId := if c = old then old else 0,
                                          tentative := c != 0 && c != old } }
    let s := if old ≠ 0 ∧ c ≠ old then raiseLink s l 4 4 0 0 c 0 0 s.nodeUid else s
    let s := if c = 0 then raiseLink s l 4 5 0 0 0 0 0 s.nodeUid else s
    announce s l

/-! ### The graph (R267, R269) -/

/-- Breadth-first search: every point with its distance from the start. -/
def bfs {α : Type} [BEq α] (next : α → List α) : Nat → Nat → List α → List (α × Nat) → List (α × Nat)
  | 0, _, _, seen => seen
  | n + 1, d, front, seen =>
    let new := (front.flatMap next).eraseDups.filter (fun x => !seen.any (fun y => y.1 == x))
    if new.isEmpty then seen else bfs next n (d + 1) new (seen ++ new.map (fun x => (x, d + 1)))

/-- An ACTIVE link between two nodes, listed by both ends (R269): UID, link, UID, link. -/
structure Edge where
  x : Nat
  xl : Nat
  y : Nat
  yl : Nat
  deriving DecidableEq, Repr

/-- Every edge of the store, in both directions. -/
def edgesOf (ls : List Lsa) : List Edge :=
  ls.flatMap (fun a => a.links.filterMap (fun e =>
    if e.active ∧ ls.any (fun b => b.uid == e.nbrUid && b.links.any (fun f =>
        f.active && f.link == e.nbrLink && f.nbrUid == a.uid && f.nbrLink == e.link)) then
      some { x := a.uid, xl := e.link, y := e.nbrUid, yl := e.nbrLink }
    else none))

/-- The graph as the route engine sees it: levels and directions (R267). -/
structure Graph where
  edges : List Edge
  /-- reachable nodes: UID and hops from this node -/
  reach : List (Nat × Nat)
  root : Nat
  /-- UID and LEVEL -/
  levels : List (Nat × Nat)
  deriving DecidableEq, Repr

def lookup (l : List (Nat × Nat)) (k : Nat) : Option Nat := (l.find? (fun x => x.1 == k)).map (·.2)

/-- (ROOT_PRIO, UID) order. -/
def prioLt (a b : Nat × Nat) : Bool := decide (a.1 < b.1) || (a.1 == b.1 && decide (a.2 < b.2))

/-- The least of a list of pairs in that order. -/
def leastPair : List (Nat × Nat) → Option (Nat × Nat)
  | [] => none
  | x :: xs =>
    match leastPair xs with
    | none => some x
    | some y => if prioLt x y then some x else some y

/-- Neighbours of a node over the edges. -/
def nexts (es : List Edge) (u : Nat) : List Nat := (es.filter (fun e => e.x == u)).map (·.y)

/-- The graph seen from node `own`, whose ROOT_PRIO is `prio`. -/
def graphOf (own prio : Nat) (ls : List Lsa) : Graph :=
  let es := edgesOf ls
  let reach := bfs (nexts es) 240 0 [own] [(own, 0)]
  let cand := (prio, own) :: (ls.filter (fun a => a.uid != own && reach.any (fun r => r.1 == a.uid))).map
    (fun a => (a.rootPrio, a.uid))
  let root := ((leastPair cand).map (·.2)).getD own
  { edges := es, reach := reach, root := root, levels := bfs (nexts es) 240 0 [root] [(root, 0)] }

/-- (LEVEL, UID) of a node. -/
def Graph.rank (g : Graph) (u : Nat) : Nat × Nat := ((lookup g.levels u).getD 241, u)

/-- The link from x to y is up (R267). -/
def Graph.up (g : Graph) (x y : Nat) : Bool := prioLt (g.rank y) (g.rank x)

/-- Steps of a path that goes up and then down: a point is a node and whether the path has gone down. -/
def Graph.steps (g : Graph) (p : Nat × Bool) : List (Nat × Bool) :=
  (nexts g.edges p.1).filterMap (fun y => if g.up p.1 y then (if p.2 then none else some (y, false)) else some (y, true))

/-- Distance to `dest` after crossing from `own` to `y`, over links that go up and then down, or down only. -/
def pathLen (seen : List ((Nat × Bool) × Nat)) (dest : Nat) : Option Nat :=
  match (seen.find? (fun x => x.1 == (dest, false))).map (·.2), (seen.find? (fun x => x.1 == (dest, true))).map (·.2) with
  | some a, some b => some (min a b)
  | some a, none => some a
  | none, b => b

/-- The first of the shortest, in order. -/
def shortest : List (Nat × Nat) → Option (Nat × Nat)
  | [] => none
  | x :: xs =>
    match shortest xs with
    | none => some x
    | some y => if x.2 ≤ y.2 then some x else some y

/-- The own edges with the points each reaches: link, the link is down, distances. -/
def Graph.firsts (g : Graph) (own : Nat) : List (Nat × Bool × List ((Nat × Bool) × Nat)) :=
  linkNumbers.filterMap (fun l =>
    match g.edges.find? (fun e => e.x == own && e.xl == l) with
    | none => none
    | some e =>
      let down := !g.up own e.y
      some (l, down, bfs g.steps 480 0 [(e.y, down)] [((e.y, down), 0)]))

/-- The entry of one destination (R269). -/
def routeEnt (fs : List (Nat × Bool × List ((Nat × Bool) × Nat))) (uid dest : Nat) : Option RouteEnt :=
  let all := fs.filterMap (fun f => (pathLen f.2.2 uid).map (fun d => (f.1, d)))
  let downs := fs.filterMap (fun f => if f.2.1 then (pathLen f.2.2 uid).map (fun d => (f.1, d)) else none)
  match shortest all with
  | none => none
  | some (l, d) => some { dest := dest, upHop := some l, dnHop := (shortest downs).map (·.1), hops := d + 1 }

/-- The LSA whose claim of an ID stands (R266 rule 2). -/
def claimant (ls : List Lsa) (c : Nat) : Option Lsa :=
  (ls.filter (fun a => a.claim == c)).find? (fun a => !ls.any (fun b => beats a.uid c a.fixed b))

/-- The new table: one entry for each destination that a path reaches. -/
def tableOf (g : Graph) (own : Nat) (ls : List Lsa) : List RouteEnt :=
  let fs := g.firsts own
  ((List.range 240).map (· + 1)).filterMap (fun d =>
    match claimant ls d with
    | none => none
    | some a => if a.uid = own then none else routeEnt fs a.uid d)

end Sys2Proof.Machine
end

