-- ==== Sys2Proof/Machine/FabricRows.lean ====
section
/-!
DEFINITION. Machine/FabricRows.lean: the meanings of the link, frame, discovery, routing and link-sleep commands
(R251–R282). The contents of a frame that ends here act through commands of their own.
-/

namespace Sys2Proof.Machine

/-! ### Bringing a link up (R251–R253) -/

/-- BLOCK_LOCK: 64 consecutive valid sync headers and 8 consecutive TS words take ACQUIRE to TRAIN; inside RETRAIN its own
bring-up advances. A sleeping link whose sender sees TS ends its wake patterns (R279). -/
def blockLock (l : Nat) (heads : List Nat) (ts : Nat) (s : State) : State :=
  let k := s.link l
  let train (f : FabLink → FabLink) : State := trainPhy (s.modLink l f) (11 + l)
  let trained (k : FabLink) : FabLink := { k with st := .train, modeTold := false }
  if !headsLock heads || decide (ts < 8) then s
  else match k.st with
  | .acquire => train trained
  | .disabled => if bit s.fab.linkEn l then train trained else s
  | .down => train trained
  | .sleep => if k.waking then train (fun k => { trained k with waking := false }) else s
  | .retrain => train (fun k => { k with phase := .train })
  | _ => s

def execBlockLock (k : LockSeen) (s : State) : Res := leaves s (blockLock k.link k.heads k.ts s)

/-- The mode that this end trains link l in: Ladle on L0 of a pair (R252). -/
def State.ladleMode (s : State) (l : Nat) : Bool := l == 0 && s.isPair

/-- ARG of the TS words that this end sends (R252). -/
def tsArg (s : State) (l : Nat) : List Byte :=
  leBytes 1 (l + at_ 2 (b2n (s.ladleMode l)) + at_ 3 s.sys.role) ++ leBytes 1 s.sys.cl ++ leBytes 1 s.fab.nodeId ++ zeros 2

/-- The contents of the neighbour's TS words agree with this end's (R252). -/
def tsAgrees (s : State) (l : Nat) (t : TsWord) : Bool :=
  t.ladle == s.ladleMode l && (!t.ladle || t.role + s.sys.role == 3)

/-- TS_EXCHANGE_DONE: TRAIN to CHECK when the contents agree; otherwise the link stays and source 442 tells once. -/
def tsExchangeDone (l : Nat) (t : TsWord) (s : State) : State :=
  let k := s.link l
  let inTrain := k.st == .train || (k.st == .retrain && k.phase == .train)
  if !inTrain then s
  else if tsAgrees s l t then
    let s := s.modLink l (fun k =>
      { k with ladle := t.ladle, nbrLink := t.link % 4, nbrNode := t.node, nbrRole := t.role,
               st := if k.st = .train then .check else k.st, phase := .check })
    if t.ladle then { s with pair := { s.pair with partnerCl := t.cl } } else s
  else if k.modeTold then s
  else
    raise (s.modLink l (fun k => { k with modeTold := true })) 442 5
      ((b2n (s.ladleMode l) + 2 * s.sys.role) + at_ 8 (b2n t.ladle + 2 * t.role))

def execTsExchangeDone (l : Nat) (ts : TsWord) (s : State) : Res := leaves s (tsExchangeDone l ts s)

/-- Receive buffer of a channel in credits (R259). -/
def bufferCredits (ladle : Bool) (c : Nat) : Nat :=
  match c with
  | 0 => if ladle then 64 else 32
  | 1 => if ladle then 256 else 64
  | 2 => 128
  | _ => if ladle then 64 else 288

/-- The whole receive buffer is granted from 0, with one CREDIT word for each channel (R260). -/
def grantBuffers (s : State) (l : Nat) : State :=
  let s := s.modLink l (fun k =>
    { k with vcs := k.vcs.mapIdx (fun c v => { v with granted := 0, used := 0, deficit := 0, given := bufferCredits k.ladle c }),
             freed := [0, 0, 0, 0] })
  [0, 1, 2, 3].foldl (fun s c => sendWord s l 0x30 (leBytes 1 c ++ leBytes 2 ((s.link l).vcs.getD c {}).given)) s

/-- A link enters RETRAIN (R251). On the Ladle nothing is held across it (R277). -/
def enterRetrain (s : State) (l cause : Nat) : State :=
  let ladle := (s.link l).ladle
  let s := raiseLink s l 1 1 0 cause
  s.modLink l (fun k =>
    { k with st := .retrain, phase := .acquire, retrains := min 255 (k.retrains + 1), burst := none, naked := false,
             replay := if ladle then [] else k.replay,
             vcs := if ladle then List.replicate 4 {} else k.vcs })

/-- A replay burst: REPLAY, then every unacknowledged frame again; the fourth from one LSEQ retrains the link (R261). -/
def replayBurst (s : State) (l : Nat) : State :=
  let k := s.link l
  let (first, vc) := match k.replay with
    | (q, f) :: _ => (q, f.vc)
    | [] => (k.txSeq, 0)
  let n := match k.burst with
    | some (q, n) => if q = first then n + 1 else 1
    | none => 1
  let s := raiseLink s l 2 1 vc 0 0 k.replay.length first.toNat
  let s := s.modLink l (fun k => { k with bursts := min 65535 (k.bursts + 1), burst := some (first, n) })
  if 4 ≤ n then sendWord (enterRetrain s l 3) l 0x60 []
  else (sendWord s l 0x22 [first]).modLink l (fun k =>
    { k with line := k.replay.foldl (fun x f => x.frame (frameBytes f.2 f.1)) k.line })

/-- LINK_CHECK_DONE: 125 µs of CHECK end; without error the link goes UP, with its credits and HELLO, or from RETRAIN with
a replay burst; otherwise ACQUIRE (R251). -/
def linkCheckDone (l : Nat) (ok : Bool) (rtt : Nat) (s : State) : State :=
  let k := s.link l
  if k.st = .check then
    if ok then
      let s := s.modLink l (fun k =>
        { k with st := .up, rtt := sat 16 rtt, txSeq := 0, rxSeq := 0xFF, replay := [], naked := false, burst := none,
                 fresh := true })
      let s := grantBuffers (raiseLink s l 0 1) l
      pump (sendHello s l) l
    else s.modLink l (fun k => { k with st := .acquire })
  else if k.st = .retrain ∧ k.phase = .check then
    if ok then
      let s := raiseLink (s.modLink l (fun k => { k with st := .up, rtt := sat 16 rtt })) l 1 2
      if k.ladle then
        pump (grantBuffers (s.modLink l (fun k => { k with txSeq := 0, rxSeq := 0xFF, replay := [] })) l) l
      else pump (sendHello (replayBurst s l) l) l
    else s.modLink l (fun k => { k with phase := .acquire })
  else s

def execLinkCheckDone (l : Nat) (ok : Bool) (rtt : Nat) (s : State) : Res := leaves s (linkCheckDone l ok rtt s)

/-- LOCK_LOST: 16 invalid sync headers among the last 64, or 4.0 µs of link-word silence: UP goes to RETRAIN, a bring-up
starts over (R251). -/
def lockLost (l : Nat) (silence : Bool) (heads : List Nat) (s : State) : State :=
  if !silence && !headsLost heads then s
  else match (s.link l).st with
  | .up => enterRetrain s l (if silence then 2 else 1)
  | .train => s.modLink l (fun k => { k with st := .acquire })
  | .check => s.modLink l (fun k => { k with st := .acquire })
  | .retrain => s.modLink l (fun k => { k with phase := .acquire })
  | _ => s

def execLockLost (l : Nat) (w : LossSeen) (s : State) : Res := leaves s (lockLost l w.silence w.heads s)

/-- Every queued frame of a link is gone, and the buffers of the links they came by are free (R251). -/
def dropQueues (s : State) (l : Nat) : State :=
  let qs := ((s.link l).vcs.map (·.q)).flatten
  let s := s.modLink l (fun k => { k with vcs := List.replicate 4 {}, replay := [] })
  qs.foldl (fun s x => match x.2 with
    | some i => freeCredits s i x.1.vc (frameCredits x.1)
    | none => s) s

/-- A link stops being usable: the neighbour is lost and the own LSA changes (R265). -/
def unusable (s : State) (l : Nat) : State :=
  let k := s.link l
  let s := if k.nbrUid ≠ 0 then raiseLink s l 4 2 0 0 0 0 0 k.nbrUid else s
  let s := s.modLink l (fun k => { k with usable := false, fresh := false, dir := 0, nbrUid := 0, nbrReserve := false })
  if k.usable then announce s l else s

/-- A link goes DOWN with a cause, or is disabled: what it held is lost (R251). -/
def fabLinkDown (s : State) (l cause : Nat) (st : LinkSt) : State :=
  unusable ((dropQueues (raiseLink s l 0 2 0 cause) l).modLink l (fun k =>
    { k with st := st, burst := none, naked := false, sleepReq := false, waking := false, probing := false })) l

/-- RETRAIN_WINDOW_EXPIRY: tRTW ends without UP: DOWN, and ACQUIRE at once (R251). -/
def retrainWindowExpiry (l : Nat) (s : State) : State :=
  if (s.link l).st = .retrain then fabLinkDown s l 6 .acquire else s

def execRetrainWindowExpiry (l : Nat) (s : State) : Res := leaves s (retrainWindowExpiry l s)

/-- The word that a link's bring-up sends: TS1 in ACQUIRE, TS2 in TRAIN, IDLE in CHECK (R251). -/
def sendBringUp (s : State) (l : Nat) : LinkSt → State
  | .acquire => sendWord s l 0x10 (tsArg s l)
  | .train => sendWord s l 0x11 (tsArg s l)
  | .check => sendWord s l 0x00 []
  | _ => s

/-- LINK_WORD_SEND: freed credits are granted again; with nothing else to say, LIVE on the Ladle and IDLE on a fabric link
(R254, R255, R260, R276); a link that is brought up sends its training words (R251). -/
def linkWordSend (l : Nat) (s : State) : State :=
  let k := s.link l
  if k.st ≠ .up then sendBringUp s l (if k.st = .retrain then k.phase else k.st)
  else if k.ladle ∧ k.freed.all (· == 0) then
    sendWord { s with pair := { s.pair with liveTx := s.pair.liveTx + 1 } } l 0x50
      (leBytes 1 s.pair.st.code ++ leBytes 2 s.pair.liveTx.toNat)
  else if k.freed.all (· == 0) then sendWord s l 0x00 []
  else
    [0, 1, 2, 3].foldl (fun s c =>
      let n := (s.link l).freed.getD c 0
      if n = 0 then s
      else
        let s := s.modLink l (fun k =>
          { k with vcs := modAt k.vcs c (fun v => { v with given := (v.given + n) % 65536 }),
                   freed := modAt k.freed c (fun _ => 0) })
        sendWord s l 0x30 (leBytes 1 c ++ leBytes 2 ((s.link l).vcs.getD c {}).given)) s

def execLinkWordSend (l : Nat) (s : State) : Res := leaves s (linkWordSend l s)

/-! ### Frames (R256–R262, R269, R270) -/

/-- A KIND on its own VC and its own sort of link (R258, R276). -/
def kindOk (ladle : Bool) (kind vc : Nat) : Bool :=
  match kind with
  | 0x01 => vc == 0 | 0x02 => vc == 0 | 0x10 => vc == 1 | 0x11 => vc == 1 | 0x20 => vc == 2 | 0x21 => vc == 2
  | 0x30 => vc == 3
  | 0x38 => ladle && vc == 1 | 0x39 => ladle && vc == 0 | 0x3A => ladle && vc == 2 | 0x3B => ladle && vc == 0
  | 0x3C => ladle && vc == 0 | 0x3D => ladle && vc == 3
  | _ => false

/-- The copy of a frame that node forwards on link `out` (R269). -/
def forwarded (s : State) (out : Nat) (f : Frame) : Frame :=
  { f with hops := f.hops - 1, down := f.down || (s.link out).dir == 2 }

/-- A broadcast climbs to the root undelivered and descends from it (R270). -/
def forwardBroadcast (s : State) (l : Nat) (f : Frame) : State :=
  let drop (s : State) : State := freeCredits (countDiscard s l) l f.vc (frameCredits f)
  if f.vc = 0 ∨ f.vc = 3 then drop s
  else
    match f.down, s.fab.parentLink with
    | false, some p => if f.hops = 0 then drop s else queueOn s p (forwarded s p f) (some l)
    | _, _ =>
      if f.hops = 0 ∧ ¬ s.fab.children.isEmpty then drop s
      else
        let s := freeCredits s l f.vc (frameCredits f)
        s.fab.children.foldl (fun s c => sendOn s c { f with hops := f.hops - 1, down := true }) s

/-- An accepted frame is taken, delivered, forwarded or discarded (R258, R269). -/
def routeFrame (s : State) (l : Nat) (f : Frame) : State :=
  let free (s : State) : State := freeCredits s l f.vc (frameCredits f)
  if !kindOk (s.link l).ladle f.kind f.vc then free (countDiscard s l)
  else if f.dest = 0 ∨ (s.link l).ladle ∨ f.dest = s.fab.nodeId then free s
  else if f.dest = 255 then forwardBroadcast s l f
  else
    let out : Option Nat := match s.routeTo f.dest with
      | some e => if f.down then e.dnHop else e.upHop
      | none => none
    match out with
    | none => free (noRouteEvent (countDiscard s l) l f.dest)
    | some o => if f.hops = 0 then free (countDiscard s l) else queueOn s o (forwarded s o f) (some l)

/-- The link on which a frame that came by link l goes on, if one link alone takes it (R269, R270). -/
def egress (s : State) (l : Nat) (f : Frame) : Option Nat :=
  if !kindOk (s.link l).ladle f.kind f.vc ∨ f.dest = 0 ∨ (s.link l).ladle ∨ f.dest = s.fab.nodeId ∨ f.hops = 0 then none
  else if f.dest = 255 then (if f.down ∨ f.vc = 0 ∨ f.vc = 3 then none else s.fab.parentLink)
  else match s.routeTo f.dest with
    | some e => if f.down then e.dnHop else e.upHop
    | none => none

/-- A frame whose FCRC proves bad at its end: the copy that cut-through had started on a free link with credits ends with
ABORT, takes no LSEQ and stays in no replay buffer; the next node returns its credits (R260, R262, R264). -/
def abortForward (s : State) (l : Nat) (f : Frame) : State :=
  match egress s l f with
  | none => s
  | some o =>
    let k := s.link o
    let v := k.vcs.getD f.vc {}
    if k.st = .up ∧ v.q.isEmpty ∧ frameCredits f ≤ v.left ∧ k.room f then
      sendWord (s.modLink o (fun k =>
        { k with vcs := modAt k.vcs f.vc (fun v => { v with used := v.used + frameCredits f }) })) o 0x23 [k.txSeq]
    else s

/-- FRAME_RECEIVED: in order and sound it is accepted and ACKed; otherwise NAK, and every frame is discarded until a
REPLAY word (R261). -/
def frameReceived (l lseq : Nat) (f : Frame) (lchkOk fcrcOk : Bool) (s : State) : State :=
  let k := s.link l
  let bad := !lchkOk || !fcrcOk
  let s := if bad ∧ k.st = .up then s.modLink l (fun k => { k with crcErrs := min 65535 (k.crcErrs + 1) }) else s
  if k.st ≠ .up ∨ k.naked = true then s
  else if bad = true ∨ BitVec.ofNat 8 lseq ≠ k.rxSeq + 1 then
    let s := if lchkOk ∧ BitVec.ofNat 8 lseq = k.rxSeq + 1 then abortForward s l f else s
    sendWord (s.modLink l (fun k => { k with naked := true })) l 0x21 [k.rxSeq]
  else
    routeFrame (sendWord (s.modLink l (fun k => { k with rxSeq := k.rxSeq + 1 })) l 0x20 [k.rxSeq + 1]) l f

def execFrameReceived (l lseq : Nat) (f : Frame) (lchkOk fcrcOk : Bool) (s : State) : Res :=
  leaves s (frameReceived l lseq f lchkOk fcrcOk s)

/-- Frames up to an LSEQ are acknowledged; an LSEQ that no frame held has covers none (R260). -/
def ackThrough (s : State) (l lseq : Nat) : State :=
  s.modLink l (fun k =>
    match k.replay.findIdx? (fun x => x.1 == BitVec.ofNat 8 lseq) with
    | some i => { k with replay := k.replay.drop (i + 1) }
    | none => k)

/-- ACK_WORD. -/
def ackWord (l lseq : Nat) (s : State) : State := pump (ackThrough s l lseq) l

def execAckWord (l lseq : Nat) (s : State) : Res := leaves s (ackWord l lseq s)

/-- NAK_WORD: the frames it covers are acknowledged; a replay burst follows (R261). -/
def nakWord (l lseq : Nat) (s : State) : State :=
  if (s.link l).st = .up then pump (replayBurst (ackThrough s l lseq) l) l else s

def execNakWord (l lseq : Nat) (s : State) : Res := leaves s (nakWord l lseq s)

/-- REPLAY_WORD: frames are taken again, in order (R261). -/
def replayWord (l : Nat) (_lseq : Nat) (s : State) : State := s.modLink l (fun k => { k with naked := false })

def execReplayWord (l lseq : Nat) (s : State) : Res := leaves s (replayWord l lseq s)

/-- ABORT_WORD: the frame in progress is discarded without NAK and its credits return (R262). -/
def abortWord (l vc credits : Nat) (s : State) : State :=
  freeCredits (s.modLink l (fun k => { k with aborts := min 65535 (k.aborts + 1) })) l vc credits

def execAbortWord (l vc credits : Nat) (s : State) : Res := leaves s (abortWord l vc credits s)

/-- CREDIT_WORD: the cumulative total of a channel; a head frame that had stalled and moves is CLEARED (R260, R282). -/
def creditWord (l vc total : Nat) (s : State) : State :=
  let s := pump (s.modLink l (fun k => { k with vcs := modAt k.vcs vc (fun v => { v with granted := total % 65536 }) })) l
  if (s.link l).stalled ∧ ((s.link l).vcs.getD vc {}).waitFrom.isNone then
    raiseLink (s.modLink l (fun k => { k with stalled := false })) l 3 3 vc
  else s

def execCreditWord (l vc total : Nat) (s : State) : Res := leaves s (creditWord l vc total s)

/-- RETRAIN_WORD. -/
def retrainWord (l : Nat) (s : State) : State := if (s.link l).st = .up then enterRetrain s l 4 else s

def execRetrainWord (l : Nat) (s : State) : Res := leaves s (retrainWord l s)

/-- REPLAY_TIMER_EXPIRY: tREPLAY after the oldest unacknowledged frame (R253, R261). -/
def replayTimerExpiry (l : Nat) (s : State) : State :=
  if (s.link l).st = .up ∧ ¬ (s.link l).replay.isEmpty then pump (replayBurst s l) l else s

def execReplayTimerExpiry (l : Nat) (s : State) : Res := leaves s (replayTimerExpiry l s)

/-- CREDIT_STALL_EXPIRY: the head frame that waited CREDIT_STALL is discarded; not on the Ladle (R272). -/
def creditStallExpiry (l vc : Nat) (s : State) : State :=
  let v := (s.link l).vcs.getD vc {}
  match (s.link l).ladle, v.waitFrom, v.q with
  | false, some _, (f, src) :: q =>
    let s := s.modLink l (fun k =>
      { k with vcs := modAt k.vcs vc (fun v => { v with q := q, waitFrom := none }), stalled := true })
    let s := match src with
      | some i => freeCredits s i f.vc (frameCredits f)
      | none => s
    pump (raiseLink (raiseLink (countDiscard s l) l 3 1 vc) l 3 2 vc) l
  | _, _, _ => s

def execCreditStallExpiry (l vc : Nat) (s : State) : Res := leaves s (creditStallExpiry l vc s)

/-! ### Discovery (R265–R268) -/

/-- HELLO: what the neighbour says of itself; an own entry that it changes is advertised. -/
def hello (l : Nat) (h : Hello) (s : State) : State :=
  let k := s.link l
  if !s.fabUp l then s
  else
    let s := s.modLink l (fun k =>
      { k with nbrUid := h.uid, nbrNode := h.claim, nbrLink := h.link % 4, nbrRole := h.role, nbrReserve := !h.active })
    let s := if k.nbrUid ≠ h.uid then
        raiseLink (if k.nbrUid ≠ 0 then raiseLink s l 4 2 0 0 0 0 0 k.nbrUid else s) l 4 1 0 0 0 0 0 h.uid
      else s
    if k.usable ∧ (k.nbrUid ≠ h.uid ∨ k.nbrLink ≠ h.link % 4) then announce s l else s

def execHello (l : Nat) (h : Hello) (s : State) : Res := leaves s (hello l h s)

/-- LSA: a newer one is stored and passed on to every other UP link; the own claim is judged against it (R265, R266). An
own LSA heard from the fabric with a later number makes the node number its next one after it; on the chip of a pair that
does not own the ports it is the node's LSA, and is kept (R268). -/
def lsa (l : Nat) (a : Lsa) (s : State) : State :=
  if !s.fabUp l then s
  else if a.uid = s.nodeUid then
    if s.fab.lsaSeq.toNat < a.seq then
      let s := { s with fab := { s.fab with lsaSeq := BitVec.ofNat 32 a.seq } }
      if s.chipActive then announce s l else flood (putLsa { s with fab := { s.fab with changed := some l } } a) a (some l)
    else s
  else
    let newer : Bool := match s.fab.lsas.find? (fun h => h.lsa.uid == a.uid) with
      | some h => decide (h.lsa.seq < a.seq)
      | none => decide (s.fab.lsas.length < 240)
    if !newer then s
    else
      let s := putLsa s a
      let s := flood { s with fab := { s.fab with changed := some l } } a (some l)
      reclaim s l

def execLsa (l : Nat) (a : Lsa) (s : State) : Res := leaves s (lsa l a s)

/-- LSA_REFRESH: HELLO and the own LSA on each UP link; the claim is judged, NODE_ID and ROOT_PRIO take effect (R265,
R280). -/
def lsaRefresh (s : State) : State :=
  let s := linkNumbers.foldl sendHello s
  let l := (linkNumbers.find? s.fabUp).getD 0
  let before := s.fab.lsaSeq
  let s := reclaim s l
  if s.fab.lsaSeq = before then announce s l else s

def execLsaRefresh (s : State) : Res := leaves s (lsaRefresh s)

/-- LSA_PURGE: LSAs not refreshed within 4 × LSA_REFRESH, and those of nodes unreachable for 1 s, go (R265). The own LSA
is not aged. -/
def lsaPurge (s : State) : State :=
  let keep (h : HeldLsa) : Bool :=
    h.lsa.uid == s.nodeUid ||
    (decide (s.ticks < h.at_ + 4 * s.fab.lsaRefresh * 10000000) &&
      (match h.gone with
       | some t => decide (s.ticks < t + 1000000000)
       | none => true))
  let left := s.fab.lsas.filter keep
  if left.length = s.fab.lsas.length then s
  else reclaim { s with fab := { s.fab with lsas := left, changed := some (s.fab.changed.getD 0) } } 0

def execLsaPurge (s : State) : Res := leaves s (lsaPurge s)

/-- LINK_USABLE: a link UP for 1 s is listed in the LSA (R265). -/
def linkUsable (l : Nat) (s : State) : State :=
  if s.fabUp l ∧ (s.link l).fresh then
    let s := s.modLink l (fun k => { k with usable := true, fresh := false })
    let before := s.fab.lsaSeq
    let s := reclaim s l
    if s.fab.lsaSeq = before then announce s l else s
  else s

def execLinkUsable (l : Nat) (s : State) : Res := leaves s (linkUsable l s)

/-- NODE_ID_CLAIM_SETTLE: the claim stood for 5 ms: it takes effect and is written to the Crock (R266). -/
def nodeIdClaimSettle (s : State) : State :=
  if !s.fab.tentative || !s.chipActive then s
  else
    let l := (linkNumbers.find? s.fabUp).getD 0
    let s := { s with fab := { s.fab with nodeId := s.fab.claim, tentative := false, changed := some l } }
    raiseLink (setPaired s plNode s.fab.claim) l 4 3 0 0 s.fab.claim 0 0 s.nodeUid

def execNodeIdClaimSettle (s : State) : Res := leaves s (nodeIdClaimSettle s)

/-! ### Routes (R267–R273) -/

/-- The parent edge of a node: its up link to the neighbour with the lowest (LEVEL, UID) (R270, R286). -/
def Graph.parent (g : Graph) (x : Nat) : Option Edge :=
  let ups := g.edges.filter (fun e => e.x == x && g.up x e.y)
  match leastPair (ups.map (fun e => g.rank e.y)) with
  | none => none
  | some (_, u) => (ups.filter (fun e => e.y == u)).foldl
      (fun b e => match b with
        | none => some e
        | some d => if e.xl < d.xl then some e else some d) none

/-- DIR of a link (R281). -/
def dirOf (g : Graph) (own : Nat) (s : State) (l : Nat) : Nat :=
  let k := s.link l
  if !k.usable then 0
  else if !s.chipActive || k.nbrReserve then 3
  else if g.up own k.nbrUid then 1 else 2

/-- Forwarded commands whose node has lost its route complete NO_ROUTE (R273). -/
def endForwarded (s : State) : State :=
  s.cmd.fwd.foldl (fun s w =>
    if w.done ∨ w.node = 255 ∨ s.hasRoute w.node then s
    else respond { s with cmd := { s.cmd with fwd := s.cmd.fwd.map (fun x => if x.fabTag = w.fabTag then { x with done := true } else x) } }
      w.cmd (.fail stNoRoute)) s

/-- The lends of this node: physical ports, then virtual ports. -/
def lendLocs : List Loc :=
  ports32.map Loc.phys ++ vportNumbers.map (Loc.virt .a) ++ vportNumbers.map (Loc.virt .b)

/-- A lend follows the table of its other node: both halves send RESYNC after a change (R124, R275). A lend that named an ID
which this node has lost has no route any more (R266). -/
def tunnelRoutes (s : State) (old : List RouteEnt) : State :=
  lendLocs.foldl (fun s l =>
    let t := s.tun l
    if t.vport = 0 then s
    else
      let has := s.hasRoute t.node && t.own == s.fab.nodeId
      let same : Bool := (old.find? (·.dest == t.node)) == s.routeTo t.node && has == t.route
      let s := s.modTun l (fun t => { t with route := has })
      if has ∧ ¬ same then sendResync s l else s) s

/-- Destinations whose entry differs between two tables. -/
def tableDiff (old new : List RouteEnt) : List Nat :=
  ((List.range 240).map (· + 1)).filter (fun d => (old.find? (·.dest == d)) != (new.find? (·.dest == d)))

/-- ROOT_PRIO of this node as its LSA has it; a change takes effect at the next one (R280). -/
def ownPrio (s : State) : Nat :=
  match s.fab.lsas.find? (fun h => h.lsa.uid == s.nodeUid) with
  | some h => h.lsa.rootPrio
  | none => s.fab.rootPrio

/-- The graph of the LSAs held (R267). -/
def fabGraph (s : State) : Graph := graphOf s.nodeUid (ownPrio s) (s.fab.lsas.map (·.lsa))

/-- The forwarding table that the LSAs held give; empty for a node without an identity that knows no other (R267, R268). -/
def newTable (s : State) : List RouteEnt :=
  if s.fab.nodeId = 0 ∧ s.fab.lsas.isEmpty then [] else tableOf (fabGraph s) s.nodeUid (s.fab.lsas.map (·.lsa))

/-- The node number of the root (R267). -/
def rootNode (s : State) : Nat :=
  let g := fabGraph s
  if g.root = s.nodeUid then s.fab.nodeId else (((s.fab.lsas.map (·.lsa)).find? (·.uid == g.root)).map (·.claim)).getD 0

/-- The links to the node's children in the broadcast tree (R270). -/
def childLinks (g : Graph) (own : Nat) : List Nat :=
  (g.edges.filter (fun e => e.x == own && (match g.parent e.y with
    | some p => p.y == own && p.xl == e.yl && p.yl == e.xl
    | none => false))).map (·.xl)

/-- The table, the root, the level, the tree and the directions take their new values (R267–R270, R281). -/
def routeTables (s : State) : State :=
  let g := fabGraph s
  let own := s.nodeUid
  let t := { s with fab :=
    { s.fab with
      table := newTable s, root := rootNode s, rootUid := g.root, level := (lookup g.levels own).getD 0,
      reachable := g.reach.length, parentLink := (g.parent own).map (·.xl), children := childLinks g own, changed := none,
      lsas := s.fab.lsas.map (fun h =>
        { h with gone := if g.reach.any (·.1 == h.lsa.uid) then none else some (h.gone.getD s.ticks) }) } }
  linkNumbers.foldl (fun t i => t.modLink i (fun k => { k with dir := dirOf g own t i })) t

/-- The events of what has changed from `s` to `t`, on link l (R273, R282). -/
def routeEvents (s t : State) (l : Nat) : State :=
  let diff := tableDiff s.fab.table t.fab.table
  let lost := diff.filter (fun d => !t.fab.table.any (·.dest == d))
  let n := t.fab.reachable
  let was := s.fab.reachable
  let moved : Bool := t.fab.rootUid != s.fab.rootUid
  let t := if diff.isEmpty then t else raiseLink t l 5 1 0 0 0 diff.length
  let t := lost.foldl (fun t d => raiseLink t l 5 2 0 0 d) t
  let t := if moved then raiseLink t l 4 6 0 0 t.fab.root 0 0 t.fab.rootUid else t
  if n < was then raiseLink t l 4 7 0 0 0 n else if was < n then raiseLink t l 4 8 0 0 0 n else t

/-- ROUTE_COMPUTE_DONE: the tables from the LSAs held, the events of each change, and what follows for forwarded commands,
lends and the time parent (R267–R273, R287). -/
def routeComputeDone (s : State) : State :=
  let t := tunnelRoutes (endForwarded (routeEvents s (routeTables s) (s.fab.changed.getD 0))) s.fab.table
  if t.chipActive then setParent t (((fabGraph s).parent s.nodeUid).map (·.xl)) else t

def execRouteComputeDone (s : State) : Res := leaves s (routeComputeDone s)

/-! ### Sleep and wake (R278, R279) -/

/-- Both ends of a link sleep: frames not acknowledged wait again, and the link is not usable (R278). -/
def enterSleep (s : State) (l : Nat) : State :=
  let s := s.modLink l (fun k =>
    { k with
      st := .sleep, sleepReq := false, naked := false, burst := none, replay := []
      vcs := k.vcs.mapIdx (fun c v =>
        { v with q := (k.replay.filter (fun x => x.2.vc == c)).map (fun x => (x.2, none)) ++ v.q,
                 granted := 0, used := 0, deficit := 0, waitFrom := none }) })
  unusable (raiseLink s l 0 3) l

/-- The node asks its neighbour to put link l to sleep (R278). -/
def requestSleep (s : State) (l : Nat) : State :=
  if (s.link l).st = .up then sendWord (s.modLink l (fun k => { k with sleepReq := true })) l 0x61 [0] else s

/-- SLEEP_WORD: a request is acknowledged; both ends then sleep. -/
def sleepWord (l : Nat) (ack : Bool) (s : State) : State :=
  let k := s.link l
  if k.st ≠ .up then s
  else if ack then (if k.sleepReq then enterSleep s l else s)
  else enterSleep (sendWord s l 0x61 [1]) l

def execSleepWord (l : Nat) (ack : Bool) (s : State) : Res := leaves s (sleepWord l ack s)

/-- The wake pattern: 16 consecutive IDLE words with the wake code (R279). -/
def sendPattern (s : State) (l : Nat) : State :=
  (List.replicate 16 (0xA5 : Byte)).foldl (fun s b => sendWord s l 0x00 [b]) s

/-- WAKE_PATTERN_SEND: a frame waits for a sleeping link; 16 IDLE words with the wake code go out, back to back. -/
def wakePatternSend (l : Nat) (s : State) : State :=
  let k := s.link l
  if k.st = .sleep ∧ ¬ k.waking ∧ k.vcs.any (fun v => !v.q.isEmpty) then
    raiseLink (sendPattern (s.modLink l (fun k => { k with waking := true })) l) l 0 4
  else s

def execWakePatternSend (l : Nat) (s : State) : Res := leaves s (wakePatternSend l s)

/-- WAKE_SEND_TIMEOUT: 20 ms of patterns without TS1. -/
def wakeSendTimeout (l : Nat) (s : State) : State := s.modLink l (fun k => { k with waking := false })

def execWakeSendTimeout (l : Nat) (s : State) : Res := leaves s (wakeSendTimeout l s)

/-- WAKE_ENERGY: energy on a sleeping link whose WAKE_EN bit is set starts its receiver. -/
def wakeEnergy (l : Nat) (s : State) : State :=
  if (s.link l).st = .sleep ∧ bit s.fab.wakeEn l then s.modLink l (fun k => { k with probing := true }) else s

def execWakeEnergy (l : Nat) (s : State) : Res := leaves s (wakeEnergy l s)

/-- WAKE_PROBE_TIMEOUT: 100 µs without a whole pattern stop the receiver. -/
def wakeProbeTimeout (l : Nat) (s : State) : State := s.modLink l (fun k => { k with probing := false })

def execWakeProbeTimeout (l : Nat) (s : State) : Res := leaves s (wakeProbeTimeout l s)

end Sys2Proof.Machine
end

