-- ==== Sys2Proof/Machine/Operands.lean ====
section
/-!
DEFINITION. Machine/Operands.lean: the operand forms of a command's payload: parameters of a map, their defaults and
clamping, and selectors (R10, R16, R343, R360).
-/

namespace Sys2Proof.Machine

/-- A parameter of a map: bits [lo + w − 1 : lo] of the payload, its default, and what a received value is clamped to. -/
structure Par where
  lo : Nat
  w : Nat
  dflt : Nat
  fix : Nat → Nat

/-- The value that a payload gives a parameter, and whether CLAMPED is set for it (R10, R343): wholly beyond the end or
absent the default, cut off the default and CLAMPED, out of range the clamped value and CLAMPED. -/
def Par.read (p : Par) (bs : List Byte) : Nat × Bool :=
  if 8 * bs.length ≤ p.lo then (p.dflt, false)
  else if 8 * bs.length < p.lo + p.w then (p.dflt, true)
  else
    let v := leNat bs / 2 ^ p.lo % 2 ^ p.w
    (p.fix v, p.fix v != v)

/-- The parameters of a map of `len` bytes; bytes beyond the map set CLAMPED (R343). -/
def readPars (len : Nat) (bs : List Byte) (ps : List Par) : List Nat × Bool :=
  let l := ps.map (fun p => p.read (bs.take len))
  (l.map (·.1), l.any (·.2) || decide (len < bs.length))

/-- A parameter held between two bounds. -/
def par (lo w dflt min max : Nat) : Par := { lo := lo, w := w, dflt := dflt, fix := clampTo min max }

/-- A parameter of which every value stands. -/
def parAny (lo w dflt : Nat) : Par := { lo := lo, w := w, dflt := dflt, fix := fun v => v }

/-- A parameter whose reserved values, above `max`, are clamped to a default (R16). -/
def parElse (lo w dflt max els : Nat) : Par := { lo := lo, w := w, dflt := dflt, fix := fun v => if max < v then els else v }

/-- A signed parameter held between two bounds, as its field. -/
def parSigned (lo w dflt : Nat) (min max : Int) : Par :=
  { lo := lo, w := w, dflt := dflt,
    fix := fun v => uns w (if sgn w v < min then min else if max < sgn w v then max else sgn w v) }

/-- A selector byte in byte 0, clamped to its range; with an empty payload its lowest value (R360). -/
def selPar (min max : Nat) : Par := par 0 8 min min max

/-- The selector of a payload. -/
def selector (bs : List Byte) (min max : Nat) : Nat := ((selPar min max).read bs).1

end Sys2Proof.Machine
end

