-- ==== Sys2Proof/Machine/BudgetOps.lean ====
section
/-!
DEFINITION. Machine/BudgetOps.lean: demand, allocation, budget, early-warning table and shed plans (R202–R218).
Powers are in µW (mV times mA) while they are computed, and in 0.1 W in registers.
-/

namespace Sys2Proof.Machine

/-- Port numbers in order: 1–32, 33 UA, 34 UB (R208). -/
def allPorts : List Nat := (List.range 34).map (· + 1)

/-- Watts in µW. -/
def watts (w : Nat) : Nat := w * 1000000

/-- Tenths of a watt in µW. -/
def tenths (d : Nat) : Nat := d * 100000

/-! ### Feeds (R202, R204) -/

/-- HEALTHY: bit 0 feed A, bit 1 feed B; only a feed in ON is healthy (R197, R205). -/
def healthy (s : State) : Nat := b2n (s.feedA.st == .on) + 2 * b2n (s.feedB.st == .on)

/-- FA_PFW_N or FB_PFW_N is pulled low: the FDC runs, VDDIO is on and the feed is not healthy; otherwise it floats, and the
board's pull-up reads high (R195, R201). -/
def State.pfwLow (s : State) (b : Bool) : Bool :=
  s.meterRuns && !s.sys.railsOut.contains 4 && (s.feed b).st != .on

/-- The forward current limit of a feed in SUM mode, mA: FEED_PMAX over the feed's present voltage, in ON and WARNING
(R199). -/
def State.feedLimit (s : State) (b : Bool) : Option Nat :=
  let f := s.feed b
  if s.pba.sum ∧ (f.st = .on ∨ f.st = .warning) then some (f.set.pmax * 1000000 / max 1 f.meter.vbus) else none

/-- Healthy capacity C in W of a combination of feeds (R204). -/
def capacity (s : State) (h : Nat) : Nat :=
  let a := s.feedA.set.pmax
  let b := s.feedB.set.pmax
  match h with
  | 1 => a
  | 2 => b
  | 3 => if s.pba.sum then a + b else min a b
  | _ => 0

/-! ### Contracts -/

/-- Power of a contract (R207). -/
def Contract.power (c : Contract) : Nat := c.mv * c.ma

/-- Power of the source contract in force on port n; 0 without one. -/
def contractPower (s : State) (n : Nat) : Nat :=
  if (s.pde n).cc = .attachedSnk then 0
  else match (s.pde n).contract with
    | some c => c.power
    | none => 0

/-- The sink contracts of the upstreams (R217). -/
def sinkContracts (s : State) : List Contract :=
  [33, 34].filterMap (fun n => if (s.pde n).cc = .attachedSnk then (s.pde n).contract else none)

/-- Sink contracts of 9 V or more stand and no feed is healthy: SINK_FED (R217). -/
def sinkFedNow (s : State) : Bool := decide (healthy s = 0) && (sinkContracts s).any (fun c => 9000 ≤ c.mv)

/-- SINK_BUDGET in 0.1 W (R217). -/
def sinkBudget (s : State) : Nat :=
  if sinkFedNow s then
    ((sinkContracts s).foldl (fun a c => a + c.power) 0 - tenths s.pba.reserve) * s.pba.eff / 100 / 100000
  else 0

/-- The budget that a healthy combination gives, 0.1 W (R204). -/
def feedBudget (s : State) (h : Nat) : Nat := min s.pba.cap ((capacity s h * 10 - s.pba.reserve) * s.pba.eff / 100)

/-- B in 0.1 W (R204). -/
def budgetNow (s : State) : Nat := if s.pba.ew then s.pba.ride + sinkBudget s else feedBudget s (healthy s)

/-! ### Envelope, pins, demand (R206, R207, R213) -/

/-- Envelope of port n (R206). -/
def envelope (s : State) (n : Nat) : Nat :=
  if isUp n then watts 100
  else if noCc s n then 500000 * (s.ppc n).aImax
  else min ((s.pde n).set.vmax * (s.pde n).set.imax * 100000) (watts 240)

/-- The converter cannot be turned on (R168). -/
def convBad (s : State) (n : Nat) : Bool := (s.conv n).cst == .unsupported || (s.conv n).cst == .initFailed

/-- pin_eff (R213). -/
def pinEff (s : State) (n : Nat) : Nat := min (watts (s.pb n).pin) (envelope s n)

/-- PIN_STATE: 0 none, 1 active, 2 suspended (R206, R213). -/
def pinState (s : State) (n : Nat) : Nat :=
  if (s.pb n).pin = 0 then 0 else if (s.pb n).pinSusp || convBad s n then 2 else 1

/-- Σ effective pins (R202). -/
def pinSum (s : State) : Nat := allPorts.foldl (fun a n => a + pinEff s n) 0

/-- PACKING in effect (R205, R443). -/
def packing (s : State) : Bool := s.pba.packing.getD (s.sys.profile == .economy)

/-- Demand by the situation of the port, before PORT_PMAX; `asSource` takes an upstream as a source (R207, R218). -/
def rawDemand (s : State) (n : Nat) (asSource : Bool) : Nat :=
  let d := s.pde n
  let env := envelope s n
  let pmin := watts (s.pb n).pmin
  let byContract (c : Contract) : Nat := if c.mismatch || (s.pb n).mism then env else max c.power pmin
  if isUp n then
    if asSource then env
    else match d.cc with
      | .attachedSnk => 0
      | .deadBattery => 0
      | .attachedSrc =>
        if packing s then (match d.contract with | some c => byContract c | none => env) else env
      | _ => min (watts 15) env
  else if noCc s n then (if (s.port n).powerReq then env else 0)
  else if packing s then
    match d.cc with
    | .unattachedSrc => pmin
    | .attachWaitSrc => pmin
    | .errorRecovery => pmin
    | _ => match d.contract with | some c => byContract c | none => env
  else env

/-- d of port n (R207). -/
def demand (s : State) (n : Nat) (asSource : Bool := false) : Nat :=
  let b := s.pb n
  if b.pmax = 0 ∨ b.shed ∨ convBad s n then 0
  else min (rawDemand s n asSource) (min (watts b.pmax) (envelope s n))

/-! ### Allocation (R208) -/

/-- Ports by class, ascending within a class. -/
def classOrder (s : State) : List Nat :=
  (List.range 8).flatMap (fun c => allPorts.filter (fun n => (s.pb n).cls == c))

def getA (a : List Nat) (n : Nat) : Nat := a.getD (n - 1) 0

def addA (a : List Nat) (n x : Nat) : List Nat := modAt a (n - 1) (· + x)

/-- Step 1: pins. -/
def stepPins (s : State) : List Nat → List Nat × Nat → List Nat × Nat
  | [], r => r
  | n :: ns, (a, b) =>
    if pinState s n = 1 then
      let x := min (pinEff s n) b
      stepPins s ns (addA a n x, b - x)
    else stepPins s ns (a, b)

/-- Step 2: floors. -/
def stepFloors (s : State) (d : Nat → Nat) : List Nat → List Nat × Nat → List Nat × Nat
  | [], r => r
  | n :: ns, (a, b) =>
    let f := min (d n) (watts (s.pb n).pmin)
    if pinState s n ≠ 1 ∧ 0 < d n ∧ f ≤ b then stepFloors s d ns (addA a n f, b - f)
    else stepFloors s d ns (a, b)

/-- The least of a list of numbers; 0 of none. -/
def least : List Nat → Nat
  | [] => 0
  | [x] => x
  | x :: xs => min x (least xs)

/-- Step 3 within one class: equal shares until each port of the set has its demand. -/
def fillSet (d : Nat → Nat) : Nat → List Nat → List Nat × Nat → List Nat × Nat
  | 0, _, r => r
  | fuel + 1, set, (a, b) =>
    if set.isEmpty ∨ b = 0 then (a, b)
    else
      let x := least (set.map (fun n => d n - getA a n))
      if x * set.length ≤ b then
        let a := set.foldl (fun a n => addA a n x) a
        fillSet d fuel (set.filter (fun n => getA a n != d n)) (a, b - x * set.length)
      else (set.foldl (fun a n => addA a n (b / set.length)) a, 0)

/-- Step 3: fill by class. -/
def stepFill (s : State) (d : Nat → Nat) : List Nat → List Nat × Nat → List Nat × Nat
  | [], r => r
  | c :: cs, (a, b) =>
    let set := allPorts.filter (fun n =>
      (s.pb n).cls == c && pinState s n != 1 && decide (0 < getA a n) && decide (getA a n < d n))
    stepFill s d cs (fillSet d 35 set (a, b))

/-- Rounding: 0.1 W down; below 2.5 W is no allocation. -/
def roundAlloc (x : Nat) : Nat := if x / 100000 < 25 then 0 else x / 100000

/-- The allocations of R208 in 0.1 W, port 1 first, for demands `d` and a budget in 0.1 W. -/
def allocate (s : State) (d : Nat → Nat) (budget : Nat) : List Nat :=
  let o := classOrder s
  let r := stepPins s o (List.replicate 34 0, tenths budget)
  let r := stepFloors s d o r
  let r := stepFill s d (List.range 8) r
  r.1.map roundAlloc

/-- The allocation that upstream port n would have as a source, 0.1 W (R160, R218). -/
def allocAsSource (s : State) (n : Nat) : Nat :=
  getA (allocate s (fun m => demand s m (m == n)) (budgetNow s)) n

/-- COMMITTED in µW (R205). -/
def committedW (s : State) : Nat := allPorts.foldl (fun a n => a + max (tenths (s.pb n).alloc) (contractPower s n)) 0

/-- COMMITTED in 0.1 W (R205). -/
def committed (s : State) : Nat := sat 16 (committedW s / 100000)

/-! ### Early-warning table (R202) -/

/-- A combination is marked when its capacity is 0 or below PIN_FLOOR (R202). -/
def ewMarked (s : State) (h : Nat) : Bool :=
  let c := capacity s h
  decide (c = 0) || decide (((c * 10 : Nat) : Int) - s.pba.reserve < 0)
    || decide ((c * 10 - s.pba.reserve) * s.pba.eff * 1000 < pinSum s)

/-- PIN_FLOOR in 0.1 W (R202, R381). -/
def pinFloor (s : State) : Nat := pinSum s / s.pba.eff / 1000 + s.pba.reserve

/-- The EW table: bit 0 none, 1 A only, 2 B only, 3 both (R202, R381). -/
def ewTable (s : State) : Nat := mapBits [true, ewMarked s 1, ewMarked s 2, ewMarked s 3]

/-! ### Shed plans (R214, R215) -/

/-- P_AVG of a port, mW, never below 0 (R193, R214): mean of the last 64 samples. -/
def pAvg (m : Meter) : Int :=
  let l := m.hist.take 64
  if l.isEmpty then 0 else (l.foldl (fun a x => a + (x.1 : Int) * x.2) 0) / (l.length * 1000 : Nat)

/-- P_AVG of each port, port 1 first. -/
def pAvgs (s : State) : List Nat := allPorts.map (fun n => (pAvg (s.ppc n).meter).toNat)

/-- A port that a plan under early warning leaves out: an upstream source with FRS armed (R214). -/
def planExempt (s : State) (n : Nat) : Bool := isUp n && (s.pde n).cc == .attachedSrc && (s.pde n).frs

/-- K + 1 of a plan: the most classes 0 to K whose sum fits a limit in mW (R214, R215). -/
def keepClasses (sum : Nat → Nat) (limit : Nat) : Nat := ((List.range 9).filter (fun k => sum k ≤ limit)).getLastD 0

/-- P_AVG of some ports together, mW. -/
def sumP (p : List Nat) (l : List Nat) : Nat := l.foldl (fun a n => a + getA p n) 0

/-- The ports that the ride-through plan sheds: those above the classes whose sum fits RIDE_BUDGET, but for an upstream
whose FRS is armed (R214). -/
def ridePlan (s : State) (p : List Nat) : List Nat :=
  let k := keepClasses (fun k => sumP p (allPorts.filter (fun n => decide ((s.pb n).cls < k) && !planExempt s n)))
    (s.pba.ride * 100)
  allPorts.filter (fun n => decide (k ≤ (s.pb n).cls) && !planExempt s n)

/-- The ports that the plan of a combination sheds which early warning does not mark: unpinned ones above the classes that
fit its budget with every pinned port (R213, R215). -/
def capPlan (s : State) (p : List Nat) (budget : Nat) : List Nat :=
  let k := keepClasses (fun k => sumP p (allPorts.filter (fun n => (s.pb n).pin != 0 || decide ((s.pb n).cls < k))))
    (budget * 100)
  allPorts.filter (fun n => (s.pb n).pin == 0 && decide (k ≤ (s.pb n).cls))

/-- The shed plans of the four combinations (R214, R215). -/
def makePlans (s : State) : List (List Nat) :=
  let p := pAvgs s
  [0, 1, 2, 3].map (fun h =>
    if h = 0 ∨ ewMarked s h then ridePlan s p else capPlan s p (feedBudget s h))

/-- The plan in force for the present combination of healthy feeds, from the state it was prepared in (R214). -/
def planNow (s : State) : List Nat := s.pba.plans.getD (healthy s) []

/-! ### Events (R219) -/

/-- SHED_MAP (R219). -/
def shedMap (s : State) : Nat := mapBits (allPorts.map (fun n => (s.pb n).shed))

/-- SHED_FROM (R205): lowest-numbered class currently shed, 8 for none. -/
def shedFrom (s : State) : Nat :=
  ((List.range 8).filter (fun c => allPorts.any (fun n => (s.pb n).shed && (s.pb n).cls == c))).headD 8

/-- Source 436 (R219). -/
def budgetEvent (s : State) (cause : Nat) : State :=
  raise s 436 cause (s.pba.budget + at_ 16 cause + at_ 24 (healthy s) + at_ 26 (b2n s.pba.ew)
    + at_ 32 (shedMap s) + at_ 66 (shedFrom s))

/-- Source 437 (R211, R219). -/
def shortfallEvent (s : State) (port reason : Nat) : State :=
  raise s 437 reason (committed s + at_ 16 s.pba.budget + at_ 32 port + at_ 40 reason
    + at_ 48 (if port = 0 then 0 else sat 16 (contractPower s port / 100000)))

/-- BUDGET takes its value; every change raises source 436 (R209). -/
def setBudget (s : State) (cause : Nat) : State :=
  let b := min 65535 (budgetNow s)
  let s' := { s with pba := { s.pba with budget := b } }
  if b = s.pba.budget then s' else budgetEvent s' (if cause = 0 then 2 else cause)

/-! ### Increases and decreases (R210) -/

/-- Pending increases that fit are released, in class and port order (R210). -/
def releaseIncreases (notify : State → Nat → Nat → State) : List Nat → State → State
  | [], s => s
  | n :: ns, s =>
    let b := s.pb n
    if b.alloc < b.target then
      let more := max (tenths b.target) (contractPower s n) - max (tenths b.alloc) (contractPower s n)
      if committedW s + more ≤ tenths s.pba.budget then
        releaseIncreases notify ns (notify (s.modPb n (fun b => { b with alloc := b.target })) n b.alloc)
      else releaseIncreases notify ns s
    else releaseIncreases notify ns s

end Sys2Proof.Machine
end

