-- ==== Sys2Proof/Machine/PdOps.lean ====
section
/-!
DEFINITION. Machine/PdOps.lean: the capabilities a PDE offers, the evaluation of requests, sending and receiving
messages, and the moves of the policy engine (R141–R162). Data objects have the layout of the USB PD standard, which
the spec's objects follow (PRESUMED, log entry 22).
-/

namespace Sys2Proof.Machine

/-! ### Capabilities (R146, R147) -/

/-- Ic, the cable limit in mA (R148). -/
def cableMa (d : Pde) : Nat :=
  match d.cable with
  | some c => if c.amps5 ∧ d.vconn then 5000 else 3000
  | none => 3000

/-- The highest voltage of a fixed PDO in mV: PD_VMAX, the cable, and the sink-fed limit (R146, R217). -/
def maxFixedMv (s : State) (n : Nat) : Nat :=
  let d := s.pde n
  let v := d.set.vmax * 1000
  let v := match d.cable with | some c => min v c.maxMv | none => v
  if s.pba.sinkFed then min v (least (((sinkContracts s).map (·.mv)).filter (9000 ≤ ·)) - 2000) else v

/-- Maximum current at a voltage, mA, before rounding (R146). -/
def maxMa (s : State) (n mv : Nat) : Nat :=
  min (cableMa (s.pde n)) (min ((s.pde n).set.imax * 100) ((s.pb n).alloc * 100000 / mv))

/-- A feed is present: not ABSENT (R139, R197). -/
def feedPresent (s : State) : Bool := s.feedA.st != .absent || s.feedB.st != .absent

/-- Both feeds are present (R147). -/
def bothFeeds (s : State) : Bool := s.feedA.st != .absent && s.feedB.st != .absent

/-- Flags of the first fixed PDO (R147); EPR is not offered to a partner of a lower revision (R144). -/
def firstFlags (s : State) (n : Nat) : Nat :=
  let d := s.pde n
  let cap := match d.cable with | some c => c.epr | none => false
  at_ 29 (b2n (isUp n)) + at_ 27 (b2n (bothFeeds s))
    + at_ 26 (b2n (isUp n || (s.port n).style != .embedded))
    + at_ 23 (b2n (!isUp n && d.set.epr && cap && d.rev.getD 2 == 2))

/-- A fixed PDO: voltage in 50 mV, current in 10 mA, rounded down. -/
def fixedPdo (mv ma : Nat) : Nat := at_ 10 (mv / 50) + ma / 10

/-- A fixed PDO of a position other than 1, unless it is omitted (R146). -/
def optFixed (s : State) (n mv ma : Nat) : List Nat :=
  if mv ≤ maxFixedMv s n ∧ 500 ≤ ma / 10 * 10 then [fixedPdo mv ma] else []

/-- The SPR objects in position order for a revision (R144, R146). -/
def sprCaps (s : State) (n rev : Nat) : List Nat :=
  let first := firstFlags s n + fixedPdo 5000 (maxMa s n 5000)
  if rev = 0 then [first]
  else
    let l := first :: optFixed s n 9000 (maxMa s n 9000) ++ optFixed s n 15000 (maxMa s n 15000)
      ++ optFixed s n 20000 (min (maxMa s n 20000) 5000)
    if 2 ≤ rev ∧ (s.pde n).set.pps then
      l ++ [3 * 2 ^ 30 + at_ 27 1 + at_ 17 210 + at_ 8 33 + maxMa s n 21000 / 50]
    else l

/-- The EPR objects in order (R146). -/
def eprCaps (s : State) (n : Nat) : List Nat :=
  optFixed s n 28000 (maxMa s n 28000) ++ optFixed s n 36000 (maxMa s n 36000)
    ++ optFixed s n 48000 (maxMa s n 48000)
    ++ [3 * 2 ^ 30 + at_ 28 1 + at_ 17 480 + at_ 8 150 + min ((s.pb n).alloc / 10) 240]

/-- The capabilities of the mode in effect, in positions as sent (R146). -/
def capsOf (s : State) (n : Nat) (epr : Bool) : List Nat :=
  let spr := sprCaps s n ((s.pde n).rev.getD 2)
  if epr then spr ++ List.replicate (7 - spr.length) 0 ++ eprCaps s n else spr

/-- Sink_Capabilities: 5, 9, 15 and 20 V at UP_SNK_IMAX, Fast Role Swap current 0b00 (R159). -/
def sinkCapsOf (d : Pde) : List Nat :=
  let i := d.set.snkImax * 100
  [at_ 29 1 + at_ 26 1 + fixedPdo 5000 i, fixedPdo 9000 i, fixedPdo 15000 i, fixedPdo 20000 i]

/-! ### Requests (R149) -/

/-- The contract that a request asks for, when it is acceptable against the objects last advertised (R144, R149). -/
def judge (d : Pde) (rdo : Nat) (copy : Option Nat) : Option Contract :=
  let pos := rdo / 2 ^ 28 % 16
  let pdo := if pos = 0 then 0 else d.caps.getD (pos - 1) 0
  let rev := d.rev.getD 2
  let mis := bit rdo 26
  let cap := bit rdo 22
  if pdo = 0 then none
  else if copy.isSome ∧ copy ≠ some pdo then none
  else if pdo / 2 ^ 30 ≠ 3 then
    let ma := pdo % 1024 * 10
    let op := rdo / 2 ^ 10 % 1024 * 10
    let mx := rdo % 1024 * 10
    if op ≤ ma ∧ mx ≤ ma ∧ (1 ≤ rev ∨ pos = 1) then
      some { rdo := rdo, pdo := pdo, kind := 0, mv := pdo / 2 ^ 10 % 1024 * 50, ma := mx, mismatch := mis, eprCap := cap }
    else none
  else if rev < 2 then none
  else if pdo / 2 ^ 28 % 4 = 0 then
    let mv := rdo / 2 ^ 9 % 4096 * 20
    let op := rdo % 128 * 50
    if pdo / 2 ^ 8 % 256 * 100 ≤ mv ∧ mv ≤ pdo / 2 ^ 17 % 256 * 100 ∧ op ≤ pdo % 128 * 50 then
      some { rdo := rdo, pdo := pdo, kind := 1, mv := mv, ma := op, mismatch := mis, eprCap := cap }
    else none
  else
    let mv := rdo / 2 ^ 9 % 4096 / 4 * 100
    let op := rdo % 128 * 50
    if 15000 ≤ mv ∧ mv ≤ 48000 ∧ mv * op ≤ watts (pdo % 256) then
      some { rdo := rdo, pdo := pdo, kind := 2, mv := mv, ma := op, mismatch := mis, eprCap := cap }
    else none

/-! ### Timers and messages (R140, R141) -/

def startTimer (s : State) (n : Nat) (t : PdTimer) : State :=
  s.modPde n (fun d => { d with timers := t :: d.timers.filter (· != t) })

def stopTimer (s : State) (n : Nat) (t : PdTimer) : State :=
  s.modPde n (fun d => { d with timers := d.timers.filter (· != t) })

def runs (s : State) (n : Nat) (t : PdTimer) : Bool := (s.pde n).timers.contains t

/-- The Specification Revision that a message carries: the revision in effect, 3.x before there is one (R143, R144). -/
def Pde.hdrRev (d : Pde) (m : PdMsg) : Nat :=
  match m with
  | .discoverIdentity => d.revP.getD 2
  | _ => d.rev.getD 2

/-- A message goes on the line. -/
def Pde.transmit (d : Pde) (m : PdMsg) : Pde := { d with tx := some m, retries := 0, txHdr := d.hdrRev m }

/-- A message is ordered: sent at once, or after those already ordered. -/
def send (s : State) (n : Nat) (m : PdMsg) : State :=
  s.modPde n (fun d => match d.tx with
    | none => d.transmit m
    | some _ => { d with txNext := d.txNext ++ [m] })

/-- The next ordered message is sent. -/
def sendNext (s : State) (n : Nat) : State :=
  s.modPde n (fun d => match d.tx, d.txNext with
    | none, m :: ms => { d with txNext := ms }.transmit m
    | _, _ => d)

/-- nRetryCount (R141, R144). -/
def nRetry (d : Pde) : Nat := if d.rev.getD 2 = 2 then 2 else 3

/-- The answer to a message that is not supported (R3). Before a revision is in effect it is Not_Supported, as to a
Revision 3.x partner (DESIGN CHOICE, log entry 58). -/
def unsupported (s : State) (n : Nat) : State := send s n (if (s.pde n).rev.getD 2 = 2 then .notSupported else .reject)

/-- PD traffic is handled: attached, the policy engine running and not disabled. -/
def Pde.live (d : Pde) : Bool :=
  (d.cc == .attachedSrc || d.cc == .attachedSnk) && d.pe != .stopped && d.pe != .disabled

/-- An explicit contract with a Revision 3.x partner: collision avoidance applies to a source (R142). -/
def Pde.avoids (d : Pde) : Bool := d.cc == .attachedSrc && d.contract.isSome && d.rev == some 2

/-- No AMS is in progress: the PDE may start one of its own (R154, R376). -/
def Pde.amsIdle (d : Pde) : Bool :=
  d.tx.isNone && d.txNext.isEmpty && d.swap.isNone && d.disc != 2 &&
  !(d.timers.any (fun t => t == .senderResponse || t == .sinkTx || t == .chunkSenderResponse || t == .chunkSenderRequest)) &&
  (match d.pe with
  | .ready => true | .waitNewCaps => true | .snkContract => true | .snkNone => true | _ => false)

/-! ### Resets (R155–R157, R162) -/

/-- A swap fails before its new roles stand: roles of attach for PR_Swap, DEAD_BATTERY for FR_Swap (R162). -/
def swapFails (s : State) (n : Nat) (cause : Nat) : State :=
  match (s.pde n).swap with
  | none => s
  | some w =>
    if w.fast then
      let s := pdEvent s n 0x15 cause
      let s := vbusOff (pdStop s n) n
      (s.modPde n (fun d => { d with cc := .deadBattery, vconn := false })).modPpc n (fun q => { q with gsnk := false })
    else
      let s := pdEvent s n 0x15 cause
      let back := (s.pde n).attachSrc
      let s := s.modPde n (fun d => { d with
        swap := none, cc := if back then .attachedSrc else .attachedSnk, vconn := d.vconn && back })
      if back then s.modPpc n (fun q => { q with gsnk := false })
      else (vbusOff s n).modPpc n (fun q => { q with gsnk := true })

/-- What a Hard Reset does on the PDE, sent or received (R143, R156). -/
def hardReset (s : State) (n : Nat) : State :=
  let had := (s.pde n).contract.isSome
  let s := (dropContract s n).modPde n (fun d => { d with
    pe := .hardReset, tx := none, txNext := [], retries := 0, chunk2 := false, epr := false, ng := false, readv := false, action := none, frs := false, mismatch := false, fallback := false,
    accepted := false, soft := false, txId := 0, txIdP := 0, rxId := none, rxIdP := none, rev := none, revP := none, bist := 0,
    disc := 0, snkDue := false, rxChunk := none, timers := d.timers.filter (· == .noResponse) })
  let s := if had then pbaTrigger s 0 else s
  if (s.pde n).cc = .attachedSrc then startTimer s n .psHardReset else s

/-- The PDE gives up on PD (R157). -/
def giveUp (s : State) (n : Nat) : State :=
  if (s.pde n).talked then
    let s := pdEvent s n 0xA
    let s := pdStop s n
    let s := s.modPde n (fun d => { d with cc := .errorRecovery, vconn := false })
    (vbusOff s n).modPpc n (fun q => { q with gsnk := false })
  else
    let s := pdEvent s n 9
    let s := pdStop s n
    vbusOn (s.modPde n (fun d => { d with pe := .disabled })) n

/-- PE_SRC_Hard_Reset, and the sink's Hard Reset (R150, R156, R157). -/
def sendHardReset (s : State) (n : Nat) (cause : Nat := 0) : State :=
  if 2 < (s.pde n).hardN then giveUp s n
  else
    let s := pdEvent s n 7 cause
    let s := s.modPde n (fun d => { d with hardN := d.hardN + 1 })
    let s := swapFails s n cause
    match (s.pde n).cc with
    | .deadBattery => s
    | _ => startTimer (startTimer (hardReset s n) n .noResponse) n .hardResetComplete

/-- Soft_Reset is sent: the protocol layer is reset, the contract stays (R155). -/
def sendSoftReset (s : State) (n : Nat) : State :=
  let s := pdEvent s n 6
  send (s.modPde n (fun d => { d with txId := 0, txIdP := 0, tx := none, txNext := [], retries := 0, soft := true })) n .softReset

/-- A power transition is under way: a source's, a sink's whose request was accepted, or a swap's after its Accept
(R145, R150, R159, R160). -/
def Pde.inTransition (d : Pde) : Bool :=
  match d.swap with
  | some w => decide (2 ≤ w.stage)
  | none => d.pe == .transition || (d.cc == .attachedSnk && d.accepted)

/-- A protocol error (R145): Hard Reset in a power transition, Soft_Reset in PE_SRC_Ready or PE_SNK_Ready; in any other
state the message is discarded. -/
def protocolError (s : State) (n : Nat) : State :=
  let d := s.pde n
  if d.inTransition then sendHardReset s n
  else if d.swap.isSome ∨ d.soft then s
  else
    match d.pe with
    | .ready => sendSoftReset s n
    | .snkContract => if d.pend.isSome then s else sendSoftReset s n
    | _ => s

/-! ### Sending capabilities (R150, R154) -/

/-- PE_SRC_Send_Capabilities: the latest capabilities are sent. -/
def sendCaps (s : State) (n : Nat) : State :=
  let e := (s.pde n).epr
  let l := capsOf s n e
  let s := s.modPde n (fun d => { d with pe := .sendCaps, readv := false, caps := l, chunk2 := false })
  send s n (.sourceCaps e l)

/-- PE_SRC_Startup (R150): the protocol layer and CapsCounter are reset; then capabilities, or the cable first. -/
def startup (s : State) (n : Nat) : State :=
  let s := s.modPde n (fun d => { d with
    pe := .startup, txId := 0, txIdP := 0, tx := none, txNext := [], retries := 0, capsN := 0, ng := false })
  let d := s.pde n
  if d.vconn ∧ d.cable.isNone ∧ d.discN < 2 then s else sendCaps s n

/-- The capabilities changed: they are due (R154). -/
def markCaps (s : State) (n : Nat) : State :=
  let d := s.pde n
  if d.cc = .attachedSrc ∧ d.live ∧ (d.caps ≠ [] ∨ d.pe = .ready) ∧ capsOf s n d.epr ≠ d.caps then
    s.modPde n (fun d => { d with readv := true })
  else s

/-- An AMS of the PDE's own runs: capabilities due first, then Discover Identity, Get_Sink_Cap after a contract, and a
waiting PD_ACTION (R148, R154, R161, R376). -/
def runOwn (s : State) (n : Nat) : State :=
  let d := s.pde n
  if d.readv then sendCaps s n
  else
    if d.disc = 1 then send (s.modPde n (fun d => { d with disc := 2, discN := d.discN + 1 })) n .discoverIdentity
    else if d.snkDue then send (s.modPde n (fun d => { d with snkDue := false })) n .getSinkCap
    else match d.action with
    | none => s.modPde n (fun d => { d with ng := false })
    | some a =>
      let s := s.modPde n (fun d => { d with action := none })
      match a with
      | 0 => sendCaps s n
      | 1 => sendSoftReset s n
      | 4 => send (s.modPde n (fun d => { d with swap := some { fromSource := d.cc == .attachedSrc } })) n .prSwap
      | _ => send s n .getSinkCap

/-- The PDE starts an AMS of its own when none is in progress, after SinkTxNG where collision avoidance applies (R142). -/
def startOwn (s : State) (n : Nat) : State :=
  let d := s.pde n
  if d.amsIdle ∧ (d.readv ∨ d.disc = 1 ∨ d.snkDue ∨ d.action.isSome) then
    if d.avoids ∧ !d.ng then startTimer (s.modPde n (fun d => { d with ng := true })) n .sinkTx
    else runOwn s n
  else s

/-- The AMS ends: Rp returns to SinkTxOK (R142); a fallback's capabilities follow (R144). -/
def amsEnd (s : State) (n : Nat) : State :=
  let s := s.modPde n (fun d => { d with readv := d.readv || d.fallback })
  if (s.pde n).ng then startOwn (s.modPde n (fun d => { d with ng := false })) n
  else if (s.pde n).fallback then startOwn ((pdEvent s n 0x10).modPde n (fun d => { d with fallback := false })) n else s

/-! ### Receiving -/

/-- A PD message arrives (R141): GoodCRC, duplicates discarded, a message waiting to be sent dropped, keep-alive timers
restarted (they run on). -/
def pdReceive (s : State) (h : PdHdr) (soft : Bool) (f : State → State) : State :=
  let d := s.pde h.port
  if h.port = 0 ∨ !d.live then s
  else
    let s := s.modPde h.port (fun d => { d with goodCrc := some h.id })
    if d.rxId = some h.id ∧ !soft then s
    else
      f ((stopTimer s h.port .noResponse).modPde h.port (fun d =>
        { d with rxId := some h.id, talked := true, txNext := [] }))

/-- FRS is armed when all of R161 holds. -/
def Pde.frsArmed (d : Pde) : Bool :=
  d.cc == .attachedSrc && d.contract.isSome && d.rev == some 2 && d.set.upFrs && d.snkCaps.headD 0 / 2 ^ 23 % 4 != 0

/-- A received message for which only a source, or only a sink, has a rule; the other role takes a protocol error. -/
def asSource (s : State) (n : Nat) (f g : State → State) : State :=
  if (s.pde n).cc = .attachedSrc then f s else g s

end Sys2Proof.Machine
end

