-- ==== Sys2Proof/Machine/CcRows.lean ====
section
/-!
DEFINITION. Machine/CcRows.lean: the CC layers (R130–R139), CC-open during a transition (R184), VCONN (R137) and the
cable (R148).
-/

namespace Sys2Proof.Machine

/-- The upstreams may toggle and enter source states (R139). -/
def mayToggle (s : State) : Bool := feedPresent s && !s.inDeadFeed

/-- The CC layer of port n may enter a source state: a downstream port always, an upstream under R139. -/
def maySource (s : State) (n : Nat) : Bool := !isUp n || mayToggle s

/-- An upstream held to sink behaviour (R139): it runs as UNATTACHED_SNK. -/
def holdSink (s : State) (n : Nat) : State := s.modPde n (fun d => { d with cc := .unattachedSnk, ra := false })

/-- The upstreams that are in a source state without an attach are held to sink behaviour (R139). -/
def holdSinks (s : State) : State :=
  if mayToggle s then s
  else [33, 34].foldl (fun s n =>
    match (s.pde n).cc with
    | .unattachedSrc | .attachWaitSrc | .trySrc | .tryWaitSrc => holdSink s n
    | _ => s) s

/-! ### CC bands (R132) -/

/-- The bands of a source's comparators. -/
inductive CcBand where
  | ra | rd | open_
  deriving DecidableEq, Repr

/-- A CC voltage in mV against the thresholds of an Rp level: 0 Default, 1 1.5 A, 2 3.0 A; a voltage on a threshold is of the
higher band (R132). -/
def srcBand (level mv : Nat) : CcBand :=
  let ra := match level with | 0 => 200 | 1 => 400 | _ => 800
  let top := if 2 ≤ level then 2600 else 1600
  if mv < ra then .ra else if mv < top then .rd else .open_

/-- A CC voltage in mV at a sink's Rd (R132): no Rp, or the band vRd-USB 0, vRd-1.5 1, vRd-3.0 2. -/
def snkBand (mv : Nat) : Option Nat :=
  if mv < 200 then none else if mv < 660 then some 0 else if mv < 1230 then some 1 else some 2

/-- Rd on exactly one CC wire at the port's Rp level: (CC2 is that wire, the other wire shows Ra) (R132, R134, R135). -/
def oneRd (s : State) (n v1 v2 : Nat) : Option (Bool × Bool) :=
  let b1 := srcBand (rpLevel s n) v1
  let b2 := srcBand (rpLevel s n) v2
  if b1 = .rd ∧ b2 ≠ .rd then some (false, b2 == .ra)
  else if b2 = .rd ∧ b1 ≠ .rd then some (true, b1 == .ra)
  else none

/-- Rp on a CC wire of a sink: (CC2 is that wire, its band). With Rp on both wires, which the spec does not name, CC1 is
taken (DESIGN CHOICE, log entry 59). -/
def rpOn (v1 v2 : Nat) : Option (Bool × Nat) :=
  match snkBand v1 with
  | some b => some (false, b)
  | none => (snkBand v2).map (fun b => (true, b))

/-- ATTACHED_SNK: sink policy, GSNK driven (R138, R159, R166). -/
def attachSink (s : State) (n : Nat) : State :=
  let s := s.modPde n (fun d => { d with cc := .attachedSnk, pe := .snkNone, attachSrc := false, ccOpen := false })
  pbaTrigger (s.modPpc n (fun q => { q with gsnk := true })) 0

/-- RD_SEEN: the CC wires stand at `v1` and `v2` mV, and Rd on exactly one of them is taken (R132, R134–R136, R138,
R139). -/
def rdSeen (n v1 v2 : Nat) (s : State) : State :=
  match oneRd s n v1 v2 with
  | none => s
  | some (cc2, ra) =>
    match (s.pde n).cc with
    | .unattachedSrc =>
      if maySource s n then s.modPde n (fun d => { d with cc := .attachWaitSrc, cc2 := cc2, ra := ra }) else holdSink s n
    | .trySrc => s.modPde n (fun d => { d with cc2 := cc2, ra := ra })
    | .tryWaitSrc => s.modPde n (fun d => { d with cc2 := cc2, ra := ra })
    | _ => s

def execRdSeen (n v1 v2 : Nat) (s : State) : Res := leaves s (rdSeen n v1 v2 s)

/-- The end of the debounce of a source attach (R134). -/
def sourceAttached (s : State) (n : Nat) : State := pbaTrigger (pdEvent (attachSource s n) n 1) 0

/-- ATTACH_QUALIFIED: tCCDebounce has passed (R134, R138). -/
def attachQualified (n : Nat) (vsafe5V : Bool) (s : State) : State :=
  let d := s.pde n
  match d.cc with
  | .attachWaitSrc =>
    if !maySource s n then holdSink s n
    else if isUp n then
      if d.set.upTry = 2 then s.modPde n (fun d => { d with cc := .trySnk }) else sourceAttached s n
    else if (s.ppc n).cool ≠ 0 then s.modPde n (fun d => { d with cc := .attachWaitCool })
    else sourceAttached s n
  | .attachWaitSnk =>
    if d.set.upTry = 1 ∧ mayToggle s then s.modPde n (fun d => { d with cc := .trySrc })
    else if vsafe5V then attachSink s n else s
  | .tryWaitSnk => if vsafe5V then attachSink s n else s
  | _ => s

def execAttachQualified (n : Nat) (vsafe5V : Bool) (s : State) : Res := leaves s (attachQualified n vsafe5V s)

/-- RD_LOST during the debounce (R134). -/
def rdLost (n : Nat) (s : State) : State :=
  match (s.pde n).cc with
  | .attachWaitSrc => s.modPde n (fun d => { d with cc := .unattachedSrc, ra := false })
  | _ => s

def execRdLost (n : Nat) (s : State) : Res := leaves s (rdLost n s)

/-- A voltage in mV rounded to the converter's step toward `old` (R184): 2^N V, N the exponent of VOUT_MODE. -/
def roundStep (exp v old : Nat) : Nat :=
  let e := sgn 5 exp
  let up (num den : Nat) : Nat := if old ≤ v then num / den else (num + den - 1) / den
  if e < 0 then up (v * 2 ^ (-e).toNat) 1000 * 1000 / 2 ^ (-e).toNat
  else up v (1000 * 2 ^ e.toNat) * (1000 * 2 ^ e.toNat)

/-- CC_OPEN: tPDDebounce starts; in a transition the converter is frozen at its present output (R134, R184). -/
def ccOpen (n : Nat) (s : State) : State :=
  match (s.pde n).cc with
  | .attachWaitSnk => s.modPde n (fun d => { d with cc := .unattachedSnk })
  | .attachedSrc | .tripped | .powerOff | .attachWaitCool =>
    let s := s.modPde n (fun d => { d with ccOpen := true })
    let q := s.ppc n
    match q.st with
    | .transition =>
      let s := s.modPpc n (fun q => { q with st := .frozen })
      let s := powerEvent s n 5 8 q 0
      setVout s n (roundStep (s.conv n).exp q.meter.vconv q.oldMv)
    | _ => s
  | _ => s

def execCcOpen (n : Nat) (s : State) : Res := leaves s (ccOpen n s)

/-- CC_RETURN before tPDDebounce: the transition resumes, or a Hard Reset when too little time is left (R184). -/
def ccReturn (n : Nat) (s : State) : State :=
  if (s.pde n).ccOpen then
    let s := s.modPde n (fun d => { d with ccOpen := false })
    let q := s.ppc n
    match q.st with
    | .frozen =>
      let s := setVout (s.modPpc n (fun q => { q with st := .transition })) n q.mv
      let dv := if q.mv ≤ q.meter.vconv then q.meter.vconv - q.mv else q.mv - q.meter.vconv
      if 275000000 < (s.ticks - (s.pde n).accAt) + dv * 10000 / max 1 q.set.convSlew + q.set.tpgq * 1000 then
        sendHardReset s n
      else s
    | _ => s
  else s

def execCcReturn (n : Nat) (s : State) : Res := leaves s (ccReturn n s)

/-- DETACH_QUALIFIED: VBUS and VCONN are removed, the partner forgotten (R134, R136, R138, R184). A detach from
ATTACH_WAIT_COOL, before which no ATTACHED was raised, raises DETACHED like any other (DESIGN CHOICE, log entry 60). -/
def detachQualified (n : Nat) (s : State) : State :=
  let d := s.pde n
  let go (s : State) (cc : Cc) : State :=
    let s := pdEvent (pdStop s n) n 2
    let s := pdForget s n
    let s := vbusOff (s.modPde n (fun d => { d with cc := cc })) n
    pbaTrigger (clearHappening s n) 0
  match d.cc with
  | .attachedSrc => if isUp n then (if d.swap.isSome then s else go s .unattachedSnk) else go s .unattachedSrc
  | .attachWaitCool => go s .unattachedSrc
  | .tripped => go s .unattachedSrc
  | .powerOff => go s .unattachedSrc
  | _ => s

def execDetachQualified (n : Nat) (s : State) : Res := leaves s (detachQualified n s)

/-- ACCESSORY_IGNORED: the first sighting after a detach raises the event (R135). -/
def accessoryIgnored (n : Nat) (s : State) : State :=
  match (s.pde n).cc with
  | .unattachedSrc =>
    if (s.pde n).accTold then s else pdEvent (s.modPde n (fun d => { d with accTold := true })) n 0x11
  | _ => s

def execAccessoryIgnored (n : Nat) (s : State) : Res := leaves s (accessoryIgnored n s)

/-- ERROR_RECOVERY_END (R134, R138). -/
def errorRecoveryEnd (n : Nat) (s : State) : State :=
  match (s.pde n).cc with
  | .errorRecovery =>
    pbaTrigger ((pdForget s n).modPde n (fun d => { d with cc := if isUp n then .unattachedSnk else .unattachedSrc })) 0
  | _ => s

def execErrorRecoveryEnd (n : Nat) (s : State) : Res := leaves s (errorRecoveryEnd n s)

/-- The reading of the cable is over, answered or not: the first capabilities, or the end of its AMS (R142, R148, R150). -/
def discOver (s : State) (n : Nat) : State :=
  let own := (s.pde n).disc == 2
  let s := s.modPde n (fun d => { d with disc := 0, tx := if d.tx = some .discoverIdentity then none else d.tx })
  match (s.pde n).pe with
  | .startup => sendCaps s n
  | _ => if own then amsEnd s n else s

/-- VCONN_OVERCURRENT: the switch opens until the next detach and the cable counts as non-e-marked (R137); a policy engine
that waits for the cable sends its capabilities (R150). -/
def vconnOvercurrent (n : Nat) (s : State) : State :=
  if (s.pde n).vconn then
    let s := pdEvent s n 0xE
    let s := markCaps (s.modPde n (fun d => { d with
      vconn := false, vconnOc := true, cable := none,
      timers := d.timers.filter (fun t => t != .vconnStable && t != .discoverIdentity) })) n
    discOver s n
  else s

def execVconnOvercurrent (n : Nat) (s : State) : Res := leaves s (vconnOvercurrent n s)

/-- DRP_TOGGLE (R138, R139). -/
def drpToggle (u : Up) (s : State) : State :=
  let n := portOfUp u
  match (s.pde n).cc with
  | .unattachedSnk => if mayToggle s then s.modPde n (fun d => { d with cc := .unattachedSrc }) else s
  | .unattachedSrc => s.modPde n (fun d => { d with cc := .unattachedSnk })
  | _ => s

def execDrpToggle (u : Up) (s : State) : Res := leaves s (drpToggle u s)

/-- RP_SEEN: the CC wires stand at `v1` and `v2` mV; the band of the wire that shows Rp is kept, in ATTACHED_SNK too (R132,
R138, R159). -/
def rpSeen (u : Up) (v1 v2 : Nat) (s : State) : State :=
  let n := portOfUp u
  match rpOn v1 v2 with
  | none => s
  | some (cc2, band) =>
    match (s.pde n).cc with
    | .unattachedSnk => s.modPde n (fun d => { d with cc := .attachWaitSnk, cc2 := cc2, srcRp := band, ra := false })
    | .attachWaitSnk => s.modPde n (fun d => { d with srcRp := band })
    | .tryWaitSnk => s.modPde n (fun d => { d with cc2 := cc2, srcRp := band, ra := false })
    | .trySnk => s.modPde n (fun d => { d with cc2 := cc2, srcRp := band, ra := false })
    | .attachedSnk => s.modPde n (fun d => { d with srcRp := band })
    | _ => s

def execRpSeen (u : Up) (v : CcVolts) (s : State) : Res := leaves s (rpSeen u v.v1 v.v2 s)

/-- TRY_DEBOUNCE: tTryCCDebounce has passed in a Try or TryWait state (R138). -/
def tryDebounce (u : Up) (vsafe5V : Bool) (s : State) : State :=
  let n := portOfUp u
  match (s.pde n).cc with
  | .trySrc => if maySource s n then sourceAttached s n else holdSink s n
  | .tryWaitSrc => if maySource s n then sourceAttached s n else holdSink s n
  | .trySnk => if vsafe5V then attachSink s n else s
  | _ => s

def execTryDebounce (u : Up) (vsafe5V : Bool) (s : State) : Res := leaves s (tryDebounce u vsafe5V s)

/-- TRY_TIMEOUT: tDRPTry or tDRPTryWait has passed (R138). -/
def tryTimeout (u : Up) (s : State) : State :=
  let n := portOfUp u
  let go (c : Cc) : State := s.modPde n (fun d => { d with cc := c })
  match (s.pde n).cc with
  | .trySrc => go .tryWaitSnk
  | .tryWaitSnk => go .unattachedSnk
  | .trySnk => if maySource s n then go .tryWaitSrc else holdSink s n
  | .tryWaitSrc => go .unattachedSnk
  | _ => s

def execTryTimeout (u : Up) (s : State) : Res := leaves s (tryTimeout u s)

/-- VBUS_BELOW_VSINKDISCONNECT: the sink detaches, outside a swap or a Hard Reset (R138). -/
def vbusBelowVsinkdisconnect (u : Up) (s : State) : State :=
  let n := portOfUp u
  let d := s.pde n
  match d.cc with
  | .attachedSnk =>
    if d.swap.isSome ∨ d.pe = .hardReset then s
    else
      let s := pdForget (pdStop s n) n
      pbaTrigger ((s.modPde n (fun d => { d with cc := .unattachedSnk })).modPpc n (fun q => { q with gsnk := false })) 0
  | _ => s

def execVbusBelowVsinkdisconnect (u : Up) (s : State) : Res := leaves s (vbusBelowVsinkdisconnect u s)

/-- DEAD_BATTERY_ATTACH: Rp with vSafe5V in DEAD_BATTERY; the CC wires stand at `v1` and `v2` mV (R132, R138). In HIBERNATE
PD4 is off, and the attach follows the wake (R413, R424). -/
def deadBatteryAttach (u : Up) (v1 v2 : Nat) (s : State) : State :=
  let n := portOfUp u
  match s.sys.pstate, (s.pde n).cc, rpOn v1 v2 with
  | .hibernate, _, _ => s
  | _, .deadBattery, some (cc2, band) =>
    attachSink ((pdForget s n).modPde n (fun d => { d with cc2 := cc2, srcRp := band })) n
  | _, _, _ => s

def execDeadBatteryAttach (u : Up) (v : CcVolts) (s : State) : Res := leaves s (deadBatteryAttach u v.v1 v.v2 s)

/-! ### The cable (R148) -/

/-- A Discover Identity attempt is due in PE_SRC_Ready: an AMS of the PDE's own, which ends one not answered (R142, R148). -/
def discDue (s : State) (n : Nat) : State :=
  let s := s.modPde n (fun d => { d with disc := 1 })
  if (s.pde n).ng ∧ !runs s n .sinkTx then amsEnd s n else startOwn s n

/-- An attempt before the first capabilities: no contract stands, so it goes at once (R148). -/
def discSend (s : State) (n : Nat) : State :=
  send (s.modPde n (fun d => { d with discN := d.discN + 1 })) n .discoverIdentity

/-- One Discover Identity attempt, at most nDiscoverIdentityCount in total (R148): until the first capabilities it goes at
once, afterwards from PE_SRC_Ready only. -/
def discTry (s : State) (n : Nat) : State :=
  let d := s.pde n
  if !d.vconn ∨ d.cable.isSome ∨ 20 ≤ d.discN then stopTimer s n .discoverIdentity
  else
    match d.pe with
    | .stopped | .startup | .toDefault => discSend s n
    | .ready => discDue s n
    | _ => s

/-- DISCOVER_IDENTITY_START: tVCONNStable after VCONN (R148). -/
def discoverIdentityStart (n : Nat) (s : State) : State :=
  if runs s n .vconnStable then discTry (startTimer (stopTimer s n .vconnStable) n .discoverIdentity) n else s

def execDiscoverIdentityStart (n : Nat) (s : State) : Res := leaves s (discoverIdentityStart n s)

/-- DISCOVER_IDENTITY_RETRY: the next attempt, or the first capabilities after two (R148). -/
def discoverIdentityRetry (n : Nat) (s : State) : State :=
  let d := s.pde n
  if runs s n .discoverIdentity then
    if d.pe = .startup ∧ (2 ≤ d.discN ∨ !d.vconn) then sendCaps s n else discTry s n
  else s

def execDiscoverIdentityRetry (n : Nat) (s : State) : Res := leaves s (discoverIdentityRetry n s)

/-- The cable's first answer is taken (R143, R148, R154). -/
def cableRead (s : State) (n rev : Nat) (c : Cable) : State :=
  let s := stopTimer s n .discoverIdentity
  let s := s.modPde n (fun d => { d with
    cable := some c, revP := some (min 2 rev) })
  discOver (markCaps (pdEvent s n 0xD) n) n

/-- CABLE_IDENTITY: the cable's answer on SOP′, a duplicate of which gets GoodCRC alone (R140, R141, R143, R148). -/
def cableIdentity (n id rev : Nat) (amps5 : Bool) (maxMv : Nat) (epr : Bool) (s : State) : State :=
  let d := s.pde n
  if d.vconn then
    let s := s.modPde n (fun d => { d with goodCrc := some id, rxIdP := some id })
    if d.rxIdP ≠ some id ∧ d.cable.isNone ∧ 0 < d.discN then
      cableRead s n rev { amps5 := amps5, maxMv := maxMv, epr := epr && decide (50000 ≤ maxMv), rev := rev }
    else s
  else s

def execCableIdentity (n id rev : Nat) (amps5 : Bool) (maxMv : Nat) (epr : Bool) (s : State) : Res :=
  leaves s (cableIdentity n id rev amps5 maxMv epr s)

end Sys2Proof.Machine
end

