-- ==== Sys2Proof/Machine/PdRows.lean ====
section
/-!
DEFINITION. Machine/PdRows.lean: the PD messages received, GoodCRC, and the policy timers that run out (R140–R163).
-/

namespace Sys2Proof.Machine

/-! ### Entering PE_SRC_Ready, and refusals -/

/-- PE_SRC_Ready after PS_RDY (R150, R153, R161, R163). -/
def toReady (s : State) (n : Nat) : State :=
  let d := s.pde n
  let pps := match d.contract with | some c => c.kind == 1 | none => false
  let s := s.modPde n (fun d => { d with pe := .ready, pend := none })
  let s := stopTimer (stopTimer s n .srcSettle) n .ppsTimeout
  let s := if d.epr then startTimer s n .eprKeepAlive else s
  let s := if pps then startTimer s n .ppsTimeout else s
  let s := pbaTrigger (pdEvent s n 3) 0
  let s := s.modPde n (fun d => { d with snkDue := isUp n && d.rev == some 2 && d.set.upFrs })
  startOwn (amsEnd s n) n

/-- After Reject or Wait: a contract above the allocation, or no longer offered, is enforced by Hard Reset (R211, R375);
otherwise PE_SRC_Ready, or PE_SRC_Wait_New_Capabilities without a contract (R150). -/
def refused (s : State) (n : Nat) : State :=
  let d := s.pde n
  match d.contract with
  | none => amsEnd (s.modPde n (fun d => { d with pe := .waitNewCaps })) n
  | some c =>
    if tenths (s.pb n).alloc < c.power then sendHardReset (shortfallEvent s n 1) n
    else if (judge d c.rdo none).isNone then sendHardReset s n
    else amsEnd (s.modPde n (fun d => { d with pe := .ready })) n

/-- A Request or EPR_Request is evaluated (R143, R144, R149). A Capability Mismatch is passed to the PBA, and ends with the
next contract without it (R207). -/
def evalRequest (s : State) (n rdo : Nat) (copy : Option Nat) (rev : Nat) : State :=
  let first := (s.pde n).rev.isNone
  let s := if first then s.modPde n (fun d => { d with rev := some (min 2 rev) }) else s
  let s := if first ∧ (sprCaps s n (min 2 rev)).length < (s.pde n).caps.length ∧ !(s.pde n).epr then
      s.modPde n (fun d => { d with fallback := true })
    else s
  let d := s.pde n
  let mis := bit rdo 26
  let pos := rdo / 2 ^ 28 % 16
  let pdo := if pos = 0 then 0 else d.caps.getD (pos - 1) 0
  let s := stopTimer s n .senderResponse
  let s := s.modPde n (fun d => { d with mismatch := mis, lastReq := (rdo, pdo) })
  let s := if mis then pbaTrigger (s.modPb n (fun b => { b with mism := true })) 0 else s
  match judge d rdo copy with
  | some c =>
    let s := s.modPb n (fun b => { b with mism := mis })
    send (pbaTrigger (s.modPde n (fun d => { d with pe := .transition, contract := some c, pend := some c })) 0) n .accept
  | none =>
    let wait := decide ((s.pb n).alloc < (s.pb n).target)
    let s := pdEventWith s n 5 (some (rdo, pdo)) 0
    send (s.modPde n (fun d => { d with pe := .negotiate })) n (if wait then .wait else .reject)

/-! ### GoodCRC (R141, R150) -/

/-- The Accept of a swap, of a Request or of a Soft_Reset has been sent (R150, R155, R160, R161). -/
def acceptSent (s : State) (n : Nat) : State :=
  let d := s.pde n
  match d.swap with
  | some w =>
    if w.fast then
      if w.stage = 2 then send (s.modPde n (fun d => { d with swap := some { w with stage := 3 } })) n .psRdy else s
    else if w.stage = 1 then
      startTimer (s.modPde n (fun d => { d with swap := some { w with stage := 2 } })) n
        (if w.fromSource then .srcTransition else .psSourceOff)
    else s
  | none =>
    match d.pe with
    | .transition =>
      startTimer (startTimer (s.modPde n (fun d => { d with accAt := s.ticks })) n .srcTransition) n .srcSettle
    | .startup => startup s n
    | _ => s

/-- The PS_RDY of a swap or of a contract has been sent (R136, R150, R160, R161). -/
def psRdySent (s : State) (n : Nat) : State :=
  let d := s.pde n
  match d.swap with
  | some w =>
    if w.fast then
      if w.stage = 3 then s.modPde n (fun d => { d with swap := some { w with stage := 4 } }) else s
    else if w.fromSource then
      startTimer (s.modPde n (fun d => { d with
        swap := some { w with stage := 4 }, cc := .attachedSnk, pe := .snkNone, vconn := false })) n .psSourceOn
    else
      let s := s.modPde n (fun d => { d with pe := .startup })
      let s := pdEvent s n 0x13
      startTimer (pbaTrigger (s.modPde n (fun d => { d with swap := none })) 0) n .swapSourceStart
  | none =>
    match d.pe with
    | .transition => toReady s n
    | _ => s

/-- What a completed transmission leads to. -/
def sentOk (s : State) (n : Nat) (m : PdMsg) : State :=
  let d := s.pde n
  match m with
  | .sourceCaps epr l =>
    if epr ∧ 7 ≤ l.length ∧ !d.chunk2 then startTimer s n .chunkSenderResponse
    else match d.pe with
      | .sendCaps => startTimer (pdEvent (s.modPde n (fun d => { d with chunk2 := false })) n 4) n .senderResponse
      | _ => s
  | .accept => acceptSent s n
  | .psRdy => psRdySent s n
  | .chunkRequest _ => startTimer s n .chunkSenderRequest
  | .reject => match d.pe with | .negotiate => refused (s.modPde n (fun d => { d with pe := .capResponse })) n | _ => s
  | .wait => match d.pe with | .negotiate => refused (s.modPde n (fun d => { d with pe := .capResponse })) n | _ => s
  | .request _ => startTimer s n .senderResponse
  | .softReset => startTimer s n .senderResponse
  | .prSwap => startTimer s n .senderResponse
  | .getSinkCap => startTimer s n .senderResponse
  | .eprMode a _ =>
    if a = 2 then send (startTimer s n .enterEpr) n (.eprMode 3 0)
    else if a = 3 then
      let s := stopTimer s n .enterEpr
      let s := s.modPde n (fun d => { d with epr := true })
      sendCaps (startTimer (pdEvent s n 0xB) n .eprKeepAlive) n
    else amsEnd s n
  | .sinkCaps _ => s
  | .notSupported => s
  | .eprKeepAliveAck => s
  | .sourceCapsExt _ => s
  | .status _ => s
  | .ppsStatus _ => s
  | .sourceInfo _ => s
  | .revision _ => s
  | .alert _ => s
  | .discoverIdentity => s

/-- GOODCRC completes a transmission when its MessageID is the one sent (R141). -/
def goodcrc (n id : Nat) (sopPrime : Bool) (s : State) : State :=
  let d := s.pde n
  match d.tx with
  | none => s
  | some m =>
    let prime := m == PdMsg.discoverIdentity
    if prime ≠ sopPrime ∨ id ≠ (if prime then d.txIdP else d.txId) then s
    else
      let s := s.modPde n (fun d => { d with
        tx := none, retries := 0,
        txId := if prime then d.txId else (d.txId + 1) % 8, txIdP := if prime then (d.txIdP + 1) % 8 else d.txIdP })
      sendNext (sentOk s n m) n

def execGoodcrc (n id : Nat) (sopPrime : Bool) (s : State) : Res := leaves s (goodcrc n id sopPrime s)

/-- Capabilities got no GoodCRC (R150). -/
def capsFailed (s : State) (n : Nat) : State :=
  if (s.pde n).talked then sendHardReset s n
  else startTimer (s.modPde n (fun d => { d with pe := .discovery, capsN := d.capsN + 1 })) n .typeCSendSourceCap

/-- A transmission error is reported to the policy engine (R141, R150, R155; log entry 23). -/
def txFailed (s : State) (n : Nat) (m : PdMsg) : State :=
  match m with
  | .sourceCaps _ _ => match (s.pde n).pe with | .sendCaps => capsFailed s n | _ => protocolError s n
  | .discoverIdentity => if (s.pde n).disc = 2 then amsEnd (s.modPde n (fun d => { d with disc := 0 })) n else s
  | .alert _ => s
  | .chunkRequest _ => s.modPde n (fun d => { d with rxChunk := none })
  | .softReset => sendHardReset s n
  | .accept => sendHardReset s n
  | .psRdy => sendHardReset s n
  | .request _ => sendHardReset s n
  | .eprMode a _ => if a = 4 then protocolError s n else sendHardReset s n
  | .reject => match (s.pde n).pe with | .negotiate => sendHardReset s n | _ => protocolError s n
  | .wait => match (s.pde n).pe with | .negotiate => sendHardReset s n | _ => protocolError s n
  | .prSwap => protocolError (s.modPde n (fun d => { d with swap := none })) n
  | .getSinkCap => protocolError s n
  | .sinkCaps _ => protocolError s n
  | .notSupported => protocolError s n
  | .eprKeepAliveAck => protocolError s n
  | .sourceCapsExt _ => protocolError s n
  | .status _ => protocolError s n
  | .ppsStatus _ => protocolError s n
  | .sourceInfo _ => protocolError s n
  | .revision _ => protocolError s n

/-- CRC_RECEIVE_TIMER_EXPIRY: a retry, or a transmission error after nRetryCount of them (R141). -/
def crcReceiveTimerExpiry (n : Nat) (s : State) : State :=
  let d := s.pde n
  match d.tx with
  | none => s
  | some m =>
    if d.retries < nRetry d then s.modPde n (fun d => { d with retries := d.retries + 1 })
    else sendNext (txFailed (s.modPde n (fun d => { d with tx := none, retries := 0 })) n m) n

def execCrcReceiveTimerExpiry (n : Nat) (s : State) : Res := leaves s (crcReceiveTimerExpiry n s)

/-- CHUNK_REQUEST: the next chunk of EPR_Source_Capabilities (R141). -/
def chunkRequest (h : PdHdr) (chunk : Nat) (s : State) : State :=
  pdReceive s h false (fun s =>
    if chunk = 1 ∧ runs s h.port .chunkSenderResponse then
      let s := stopTimer s h.port .chunkSenderResponse
      send (s.modPde h.port (fun d => { d with chunk2 := true })) h.port (.sourceCaps true (s.pde h.port).caps)
    else s)

def execChunkRequest (h : PdHdr) (chunk : Nat) (s : State) : Res := leaves s (chunkRequest h chunk s)

/-- CHUNK_TIMEOUT: the chunked message is abandoned, a transmission error of the sender (R140, R150). -/
def chunkTimeout (n : Nat) (sender : Bool) (s : State) : State :=
  if sender then
    if runs s n .chunkSenderResponse then
      let s := stopTimer s n .chunkSenderResponse
      match (s.pde n).pe with | .sendCaps => capsFailed s n | _ => s
    else s
  else if runs s n .chunkSenderRequest then
    (stopTimer s n .chunkSenderRequest).modPde n (fun d => { d with rxChunk := none })
  else s

def execChunkTimeout (n : Nat) (sender : Bool) (s : State) : Res := leaves s (chunkTimeout n sender s)

/-- SINKTX_WAIT_END: the source starts its own AMS, unless the sink has started one (R142). -/
def sinktxWaitEnd (n : Nat) (s : State) : State :=
  if runs s n .sinkTx then
    let s := stopTimer s n .sinkTx
    if (s.pde n).amsIdle then runOwn s n else s
  else s

def execSinktxWaitEnd (n : Nat) (s : State) : Res := leaves s (sinktxWaitEnd n s)

/-! ### Requests and EPR (R149, R152, R153) -/

/-- REQUEST (R145, R149). -/
def request (h : PdHdr) (rdo : Nat) (s : State) : State :=
  let n := h.port
  pdReceive s h false (fun s =>
    asSource s n
      (fun s => match (s.pde n).pe with
        | .sendCaps => if (s.pde n).epr then sendHardReset s n else evalRequest s n rdo none h.rev
        | .ready => if (s.pde n).epr then sendHardReset s n else evalRequest s n rdo none h.rev
        | _ => protocolError s n)
      (fun s => protocolError s n))

def execRequest (h : PdHdr) (rdo : Nat) (s : State) : Res := leaves s (request h rdo s)

/-- EPR_REQUEST (R145, R149). -/
def eprRequest (h : PdHdr) (rdo pdo : Nat) (s : State) : State :=
  let n := h.port
  pdReceive s h false (fun s =>
    if (s.pde n).epr then
      match (s.pde n).pe with
      | .sendCaps => evalRequest s n rdo (some pdo) h.rev
      | .ready => evalRequest s n rdo (some pdo) h.rev
      | _ => protocolError s n
    else protocolError s n)

def execEprRequest (h : PdHdr) (rdo pdo : Nat) (s : State) : Res := leaves s (eprRequest h rdo pdo s)

/-- The first condition of R152 that fails gives the reason; 0 where all hold. -/
def enterReason (s : State) (n : Nat) : Nat :=
  let d := s.pde n
  if isUp n ∨ d.pe ≠ .ready then 4
  else if !d.set.epr then 5
  else if !(!d.epr && (match d.contract with | some c => c.eprCap | none => false)) then 3
  else if !d.vconn then 2
  else if !(match d.cable with | some c => c.epr | none => false) then 1
  else if (s.pb n).alloc < 280 then 4
  else 0

/-- EPR_MODE_ENTER (R144, R145, R152): Enter_Failed raises REQUEST_REFUSED with the reason as its CAUSE (DEDUCED from
R163's CAUSE, log entry 57). -/
def eprModeEnter (h : PdHdr) (s : State) : State :=
  let n := h.port
  pdReceive s h false (fun s =>
    if (s.pde n).cc = .attachedSrc ∧ (s.pde n).rev.getD 2 = 2 then
      let r := enterReason s n
      if r = 0 then send (s.modPde n (fun d => { d with pe := .eprEntry })) n (.eprMode 2 0)
      else send (pdEvent s n 5 r) n (.eprMode 4 r)
    else unsupported s n)

def execEprModeEnter (h : PdHdr) (_pdp : Nat) (s : State) : Res := leaves s (eprModeEnter h s)

/-- EPR_MODE_EXIT (R152). -/
def eprModeExit (h : PdHdr) (s : State) : State :=
  let n := h.port
  pdReceive s h false (fun s =>
    let d := s.pde n
    if d.epr then
      let mv := match d.contract with | some c => c.mv | none => 5000
      if 20000 < mv then sendHardReset s n
      else
        let s := stopTimer (s.modPde n (fun d => { d with epr := false })) n .eprKeepAlive
        sendCaps (pdEvent s n 0xC) n
    else s)

def execEprModeExit (h : PdHdr) (s : State) : Res := leaves s (eprModeExit h s)

/-- GET_SOURCE_CAP (R145, R512). -/
def getSourceCap (h : PdHdr) (s : State) : State :=
  let n := h.port
  pdReceive s h false (fun s =>
    asSource s n
      (fun s => match (s.pde n).pe with
        | .ready =>
          if (s.pde n).epr then send s n (.sourceCaps false (sprCaps s n ((s.pde n).rev.getD 2))) else sendCaps s n
        | .waitNewCaps => sendCaps s n
        | _ => protocolError s n)
      (fun s =>
        if feedPresent s then send s n (.sourceCaps false (sprCaps s n ((s.pde n).rev.getD 2))) else unsupported s n))

def execGetSourceCap (h : PdHdr) (s : State) : Res := leaves s (getSourceCap h s)

/-- EPR_GET_SOURCE_CAP (R145). -/
def eprGetSourceCap (h : PdHdr) (s : State) : State :=
  let n := h.port
  pdReceive s h false (fun s =>
    if (s.pde n).epr then
      match (s.pde n).pe with
      | .ready => sendCaps s n
      | _ => send s n (.sourceCaps true (capsOf s n true))
    else unsupported s n)

def execEprGetSourceCap (h : PdHdr) (s : State) : Res := leaves s (eprGetSourceCap h s)

/-- A reply that is an extended message: Reject to a partner of a lower revision (R144). -/
def extended (s : State) (n : Nat) (m : PdMsg) : State :=
  if (s.pde n).rev.getD 2 = 2 then send s n m else unsupported s n

/-- EPR_KEEPALIVE (R145, R153). -/
def eprKeepalive (h : PdHdr) (s : State) : State :=
  pdReceive s h false (fun s => if isUp h.port then unsupported s h.port else extended s h.port .eprKeepAliveAck)

def execEprKeepalive (h : PdHdr) (s : State) : Res := leaves s (eprKeepalive h s)

/-! ### Queries (R145, R147) -/

def getSinkCap (h : PdHdr) (s : State) : State :=
  pdReceive s h false (fun s =>
    if isUp h.port then send s h.port (.sinkCaps (sinkCapsOf (s.pde h.port))) else unsupported s h.port)

def execGetSinkCap (h : PdHdr) (s : State) : Res := leaves s (getSinkCap h s)

/-- VID in use: the BDI's, or the Olnil vendor ID (R34). -/
def vidInUse (s : State) : Nat := if s.sys.vid = 0 then Config.vendorId.toNat else s.sys.vid

/-- Source_Capabilities_Extended (R147). -/
def sourceCapsExt (s : State) (n : Nat) : List Byte :=
  let d := s.pde n
  let epr := bit (firstFlags s n) 23
  leBytes 2 (vidInUse s) ++ leBytes 2 0x3248 ++ zeros 7 ++ [3] ++ zeros 9
    ++ leBytes 1 (1 + 2 * b2n (bothFeeds s)) ++ [0]
    ++ leBytes 1 (min ((s.pb n).alloc / 10) 100) ++ leBytes 1 (if epr ∧ d.set.epr then min ((s.pb n).alloc / 10) 240 else 0)

def getSourceCapExtended (h : PdHdr) (s : State) : State :=
  pdReceive s h false (fun s =>
    asSource s h.port (fun s => extended s h.port (.sourceCapsExt (sourceCapsExt s h.port))) (fun s => unsupported s h.port))

def execGetSourceCapExtended (h : PdHdr) (s : State) : Res := leaves s (getSourceCapExtended h s)

/-- Status (R147): temperature, external power, event flags until read, temperature status. -/
def statusBytes (s : State) (n : Nat) : List Byte :=
  let d := s.pde n
  let t := s.die / 10
  leBytes 1 (if t < 2 then 1 else t.toNat) ++ [2, 0] ++ leBytes 1 (2 * b2n d.ocp + 4 * b2n (d.otp && s.sys.thermal != 0))
    ++ leBytes 1 (2 * (s.sys.thermal + 1)) ++ [0, 0]

def getStatus (h : PdHdr) (s : State) : State :=
  let n := h.port
  pdReceive s h false (fun s =>
    if (s.pde n).rev.getD 2 = 2 then
      send (s.modPde n (fun d => { d with ocp := false, otp := false })) n (.status (statusBytes s n))
    else unsupported s n)

def execGetStatus (h : PdHdr) (s : State) : Res := leaves s (getStatus h s)

/-- PPS_Status: output voltage and current from the meter (R145; log entry 22). -/
def getPpsStatus (h : PdHdr) (s : State) : State :=
  let n := h.port
  pdReceive s h false (fun s =>
    match (s.pde n).contract with
    | some c =>
      if c.kind = 1 ∧ (s.pde n).cc = .attachedSrc then
        let m := (s.ppc n).meter
        extended s n (.ppsStatus (leBytes 2 (m.vbus / 20) ++ leBytes 1 (m.ibus.toNat / 50) ++ [0]))
      else unsupported s n
    | none => unsupported s n)

def execGetPpsStatus (h : PdHdr) (s : State) : Res := leaves s (getPpsStatus h s)

/-- Source_Info (R147). -/
def getSourceInfo (h : PdHdr) (s : State) : State :=
  let n := h.port
  pdReceive s h false (fun s =>
    asSource s n
      (fun s =>
        let d := s.pde n
        let p := min ((s.pb n).alloc / 10) 240
        extended s n (.sourceInfo (at_ 16 (min (d.set.vmax * d.set.imax / 10) 240) + at_ 8 p + p)))
      (fun s => unsupported s n))

def execGetSourceInfo (h : PdHdr) (s : State) : Res := leaves s (getSourceInfo h s)

/-- Revision 3.1, version 1.8 (R145). -/
def getRevision (h : PdHdr) (s : State) : State :=
  pdReceive s h false (fun s => extended s h.port (.revision 0x31180000))

def execGetRevision (h : PdHdr) (s : State) : Res := leaves s (getRevision h s)

/-! ### The sink (R159) -/

/-- The fixed PDO of the highest power no higher than UP_SNK_VMAX, the lower voltage among equals: (position, PDO). -/
def sinkChoice (vmax : Nat) : Nat → List Nat → Option (Nat × Nat)
  | _, [] => none
  | pos, p :: ps =>
    let rest := sinkChoice vmax (pos + 1) ps
    let mv (x : Nat) : Nat := x / 2 ^ 10 % 1024 * 50
    let pw (x : Nat) : Nat := mv x * (x % 1024 * 10)
    if p / 2 ^ 30 = 0 ∧ mv p ≤ vmax * 1000 ∧ p ≠ 0 then
      match rest with
      | none => some (pos, p)
      | some (q, x) => if pw x < pw p ∨ (pw x = pw p ∧ mv p ≤ mv x) then some (pos, p) else some (q, x)
    else rest

/-- The source's capabilities are stored, and its revision taken (R143, R159). -/
def storeSrcCaps (s : State) (h : PdHdr) (pdos : List Nat) : State :=
  s.modPde h.port (fun d => { d with
    srcCaps := pdos, rev := some (d.rev.getD (min 2 h.rev)),
    pe := match d.pe with | .hardReset => .snkNone | x => x })

/-- The current a sink asks for of a fixed PDO: the offer, at most UP_SNK_IMAX (R159). -/
def sinkMa (d : Pde) (p : Nat) : Nat := min (p % 1024 * 10) (d.set.snkImax * 100)

/-- The object offers less than UP_SNK_PMIN (R159). -/
def sinkShort (d : Pde) (p : Nat) : Bool := decide (p / 2 ^ 10 % 1024 * 50 * (p % 1024 * 10) < watts d.set.snkPmin)

/-- The RDO for the object `p` at position `pos` (R159). -/
def sinkRdo (d : Pde) (pos p : Nat) : Nat :=
  at_ 28 pos + at_ 26 (b2n (sinkShort d p)) + at_ 25 1 + at_ 10 (sinkMa d p / 10) + sinkMa d p / 10

/-- The sink requests the object `p` at position `pos` (R159). -/
def sinkRequest (s : State) (n pos p : Nat) : State :=
  let d := s.pde n
  let rdo := sinkRdo d pos p
  send (s.modPde n (fun d => { d with
    pend := some { rdo := rdo, pdo := p, kind := 0, mv := p / 2 ^ 10 % 1024 * 50, ma := sinkMa d p,
                   mismatch := sinkShort d p },
    accepted := false, mismatch := sinkShort d p, lastReq := (rdo, p) })) n (.request rdo)

/-- SOURCE_CAPABILITIES on an upstream sink (R143, R145, R159). -/
def sourceCapabilities (h : PdHdr) (pdos : List Nat) (s : State) : State :=
  pdReceive s h false (fun s =>
    asSource s h.port (fun s => protocolError s h.port) (fun s =>
      let s := storeSrcCaps s h pdos
      match sinkChoice (s.pde h.port).set.snkVmax 1 pdos with
      | none => s
      | some (pos, p) => sinkRequest s h.port pos p))

def execSourceCapabilities (h : PdHdr) (pdos : List Nat) (s : State) : Res := leaves s (sourceCapabilities h pdos s)

/-- SINK_CAPABILITIES: the answer to Get_Sink_Cap decides FRS arming (R161). -/
def sinkCapabilities (h : PdHdr) (pdos : List Nat) (s : State) : State :=
  let n := h.port
  pdReceive s h false (fun s =>
    if isUp n ∧ runs s n .senderResponse then
      let s := stopTimer s n .senderResponse
      amsEnd (s.modPde n (fun d => { d with snkCaps := pdos, frs := ({ d with snkCaps := pdos } : Pde).frsArmed })) n
    else s)

def execSinkCapabilities (h : PdHdr) (pdos : List Nat) (s : State) : Res := leaves s (sinkCapabilities h pdos s)

/-! ### Accept, Reject, Wait, PS_RDY (R145, R160, R161) -/

def accept (h : PdHdr) (s : State) : State :=
  let n := h.port
  pdReceive s h false (fun s =>
    let d := s.pde n
    if d.soft ∧ runs s n .senderResponse then
      let s := stopTimer (s.modPde n (fun d => { d with soft := false })) n .senderResponse
      asSource s n (fun s => startup s n) (fun s => s.modPde n (fun d => { d with pend := none, accepted := false }))
    else
      match d.swap with
      | some w =>
        if !w.fast ∧ w.stage = 0 ∧ runs s n .senderResponse then
          let s := stopTimer s n .senderResponse
          startTimer (s.modPde n (fun d => { d with swap := some { w with stage := 2 } })) n
            (if w.fromSource then .srcTransition else .psSourceOff)
        else protocolError s n
      | none =>
        if d.cc = .attachedSnk ∧ d.pend.isSome ∧ !d.accepted then
          stopTimer (s.modPde n (fun d => { d with accepted := true })) n .senderResponse
        else protocolError s n)

def execAccept (h : PdHdr) (s : State) : Res := leaves s (accept h s)

/-- Reject or Wait to a message of the PDE's own ends its AMS (R145); to Source_Capabilities and to Soft_Reset it is no
answer of the state table, and the wait for one goes on (R150, R155). -/
def declined (h : PdHdr) (s : State) : State :=
  let n := h.port
  pdReceive s h false (fun s =>
    let d := s.pde n
    if d.soft ∨ d.pe = .sendCaps then s
    else if runs s n .senderResponse then
      amsEnd (stopTimer (s.modPde n (fun d => { d with pend := none, accepted := false, swap := none })) n .senderResponse) n
    else if d.cc = .attachedSnk ∧ d.pend.isSome ∧ !d.accepted then
      s.modPde n (fun d => { d with pend := none })
    else protocolError s n)

def execReject (h : PdHdr) (s : State) : Res := leaves s (declined h s)

/-- A Wait is handled as a Reject: the AMS ends (R145). -/
def waited (h : PdHdr) (s : State) : State := declined h s

def execWait (h : PdHdr) (s : State) : Res := leaves s (waited h s)

/-- The upstream becomes a sink at the end of a swap (R160, R161). -/
def becomeSink (s : State) (n : Nat) (code : Nat) : State :=
  let s := s.modPde n (fun d => { d with
    cc := .attachedSnk, pe := .snkNone, vconn := false, frs := false, ng := false,
    timers := d.timers.filter (fun t => t != .psSourceOn) })
  let s := pdEvent s n code
  pbaTrigger ((s.modPde n (fun d => { d with swap := none })).modPpc n (fun q => { q with gsnk := true })) 0

/-- PS_RDY: the end of a swap (R160), of an FR_Swap, recorded once with the time of its early warning and once with that of
its end (R161; DESIGN CHOICE, log entry 61), or of a sink's transition (R159). -/
def psRdy (h : PdHdr) (s : State) : State :=
  let n := h.port
  pdReceive s h false (fun s =>
    let d := s.pde n
    match d.swap with
    | some w =>
      if w.fast then
        if w.stage = 4 then
          becomeSink (raiseAt s w.at_ (360 + 12 * (upOfPort n).code) 0x14 (pdData s n none 0)) n 0x14
        else protocolError s n
      else if w.fromSource then
        if w.stage = 4 then becomeSink s n 0x13 else protocolError s n
      else if w.stage = 2 then
        let s := stopTimer s n .psSourceOff
        let s := s.modPde n (fun d => { d with
          cc := .attachedSrc, pe := .stopped, accepted := false, swap := some { w with stage := 3 } })
        vbusOn (vconnOn (pbaTrigger ((dropContract s n).modPpc n (fun q => { q with gsnk := false })) 0) n) n
      else protocolError s n
    | none =>
      if d.cc = .attachedSnk ∧ d.accepted then
        let s := s.modPde n (fun d => { d with contract := d.pend, pend := none, accepted := false, pe := .snkContract })
        pbaTrigger (amsEnd (pdEvent s n 3) n) 0
      else protocolError s n)

def execPsRdy (h : PdHdr) (s : State) : Res := leaves s (psRdy h s)

/-! ### Resets and swaps -/

/-- A Soft_Reset ends a PR_Swap in the role of the moment, whose VBUS is restored, and leaves an FR_Swap to its own end
(DESIGN CHOICE, log entry 56). -/
def softSwap (s : State) (n : Nat) : State :=
  match (s.pde n).swap with
  | none => s
  | some w =>
    if w.fast then s
    else
      let s := s.modPde n (fun d => { d with swap := none })
      asSource s n (fun s => vbusOn s n) (fun s => s.modPpc n (fun q => { q with gsnk := true }))

/-- A timer that a Soft_Reset leaves running. -/
def PdTimer.survivesSoft (t : PdTimer) : Bool :=
  t == .eprKeepAlive || t == .ppsTimeout || t == .discoverIdentity || t == .vconnStable || t == .frsSignal || t == .frSwapWait

/-- SOFT_RESET received: Accept, then a source starts anew and a sink waits (R155). -/
def softReset (h : PdHdr) (s : State) : State :=
  let n := h.port
  pdReceive s h true (fun s =>
    let s := softSwap (pdEvent s n 6) n
    let s := s.modPde n (fun d => { d with
      txId := 0, txIdP := 0, tx := none, retries := 0, soft := false, ng := false, pend := none, accepted := false,
      disc := 0, rxChunk := none, timers := d.timers.filter PdTimer.survivesSoft })
    send (asSource s n (fun s => s.modPde n (fun d => { d with pe := if d.swap.isNone then .startup else d.pe })) id) n .accept)

def execSoftReset (h : PdHdr) (s : State) : Res := leaves s (softReset h s)

/-- A Hard Reset received by a policy engine at work, or in the middle of a swap (R156, R162). -/
def hardReceived (s : State) (n : Nat) : State :=
  let s := swapFails (pdEvent s n 8) n 0
  match (s.pde n).cc with
  | .deadBattery => s
  | _ => hardReset s n

/-- HARD_RESET_SIGNAL (R150, R156, R162). -/
def hardResetSignal (n : Nat) (s : State) : State :=
  let d := s.pde n
  match d.pe with
  | .stopped => if d.swap.isSome then hardReceived s n else s
  | .disabled => startup (pdEvent s n 8) n
  | _ => hardReceived s n

def execHardResetSignal (n : Nat) (s : State) : Res := leaves s (hardResetSignal n s)

/-- DR_SWAP: Reject (R2). -/
def drSwap (h : PdHdr) (s : State) : State := pdReceive s h false (fun s => send s h.port .reject)

def execDrSwap (h : PdHdr) (s : State) : Res := leaves s (drSwap h s)

/-- The acceptance conditions of R160 in the present role. -/
def mayPrSwap (s : State) (n : Nat) : Bool :=
  if (s.pde n).cc = .attachedSrc then (s.pde n).set.upPrSwap else feedPresent s && decide (150 ≤ allocAsSource s n)

/-- A PR_Swap is accepted: what the PDE had under way gives way to the swap (R141, R160). -/
def takePrSwap (s : State) (n : Nat) : State :=
  send (s.modPde n (fun d => { d with
    swap := some { fromSource := d.cc == .attachedSrc, stage := 1 }, tx := none, pend := none, accepted := false,
    timers := d.timers.filter (fun t => t != .senderResponse && t != .srcTransition && t != .srcSettle && t != .sinkTx) }))
    n .accept

/-- PR_SWAP (R2, R145, R160): an upstream answers by its role in every state, but for a swap or a reset in progress. -/
def prSwap (h : PdHdr) (s : State) : State :=
  let n := h.port
  pdReceive s h false (fun s =>
    if isUp n then
      let d := s.pde n
      if d.swap.isSome ∨ d.soft ∨ d.pe = .hardReset ∨ d.pe = .toDefault then protocolError s n
      else if d.cc = .attachedSnk ∧ s.pba.trigger.isSome then send s n .wait
      else if mayPrSwap s n then takePrSwap s n
      else send s n .reject
    else send s n .reject)

def execPrSwap (h : PdHdr) (s : State) : Res := leaves s (prSwap h s)

/-- FR_SWAP: accepted after the FRS signal (R145, R161). -/
def frSwap (h : PdHdr) (s : State) : State :=
  let n := h.port
  pdReceive s h false (fun s =>
    if isUp n then
      match (s.pde n).swap with
      | some w =>
        if w.fast ∧ w.stage = 1 then
          send (stopTimer (s.modPde n (fun d => { d with swap := some { w with stage := 2 } })) n .frSwapWait) n .accept
        else protocolError s n
      | none => protocolError s n
    else unsupported s n)

def execFrSwap (h : PdHdr) (s : State) : Res := leaves s (frSwap h s)

/-- VCONN_SWAP (R3, R136, R145). -/
def vconnSwap (h : PdHdr) (s : State) : State := pdReceive s h false (fun s => unsupported s h.port)

def execVconnSwap (h : PdHdr) (s : State) : Res := leaves s (vconnSwap h s)

/-- BIST: performed without a contract or at 5 V (R145). -/
def bist (h : PdHdr) (mode : Nat) (s : State) : State :=
  pdReceive s h false (fun s =>
    let ok : Bool := match (s.pde h.port).contract with | none => true | some c => c.mv == 5000
    if ok = true ∧ (mode = 5 ∨ mode = 8) then s.modPde h.port (fun d => { d with bist := mode }) else s)

def execBist (h : PdHdr) (mode : Nat) (s : State) : Res := leaves s (bist h mode s)

/-- ALERT (R145, R163). -/
def alert (h : PdHdr) (ado : Nat) (s : State) : State :=
  pdReceive s h false (fun s =>
    pdEventWith s h.port 0x16 (some (ado, match (s.pde h.port).contract with | some c => c.pdo | none => 0)) 0)

def execAlert (h : PdHdr) (ado : Nat) (s : State) : Res := leaves s (alert h ado s)

/-- NOT_SUPPORTED: the event, and the end of the AMS it answers (R145, R163). -/
def notSupported (h : PdHdr) (s : State) : State :=
  let n := h.port
  pdReceive s h false (fun s =>
    let s := pdEvent s n 0x17
    if runs s n .senderResponse ∧ (s.pde n).pe ≠ .sendCaps ∧ !(s.pde n).soft then
      amsEnd (stopTimer (s.modPde n (fun d => { d with swap := none, pend := none })) n .senderResponse) n
    else s)

def execNotSupported (h : PdHdr) (s : State) : Res := leaves s (notSupported h s)

/-- PING is ignored: GoodCRC alone (R145). -/
def ping (h : PdHdr) (s : State) : State := pdReceive s h false id

def execPing (h : PdHdr) (s : State) : Res := leaves s (ping h s)

/-- VENDOR_DEFINED from the partner (R3, R145). -/
def vendorDefined (h : PdHdr) (s : State) : State := pdReceive s h false (fun s => unsupported s h.port)

def execVendorDefined (h : PdHdr) (_vdos : List Nat) (s : State) : Res := leaves s (vendorDefined h s)

/-- A chunk of an extended message is the one awaited: the first, or the next while it is waited for (R140, R141). -/
def chunkDue (s : State) (n k : Nat) : Bool :=
  k == 0 || (runs s n .chunkSenderRequest && (s.pde n).rxChunk == some k)

/-- Any other message (R3). Of an extended message `ext` is the chunk's number and the message's data size: it is received
chunk by chunk, each next one asked for, and answered when it is whole (R141; 26 bytes a chunk, log entry 22). -/
def unsupportedMessage (h : PdHdr) (ext : Option (Nat × Nat)) (s : State) : State :=
  let n := h.port
  pdReceive s h false (fun s =>
    match ext with
    | none => unsupported s n
    | some (k, size) =>
      if !chunkDue s n k then s
      else
        let s := stopTimer s n .chunkSenderRequest
        if 26 * (k + 1) < size then send (s.modPde n (fun d => { d with rxChunk := some (k + 1) })) n (.chunkRequest (k + 1))
        else unsupported (s.modPde n (fun d => { d with rxChunk := none })) n)

def execUnsupportedMessage (m : OtherMsg) (s : State) : Res := leaves s (unsupportedMessage m.hdr m.ext s)

/-! ### Timers (R151, R154, R160, R161) -/

/-- CAPS_READVERTISE: due capabilities are sent, after any AMS (R150, R154). -/
def capsReadvertise (n : Nat) (s : State) : State :=
  let s := markCaps s n
  startOwn s n

def execCapsReadvertise (n : Nat) (s : State) : Res := leaves s (capsReadvertise n s)

def typecSendSourceCapExpiry (n : Nat) (s : State) : State :=
  if runs s n .typeCSendSourceCap then
    let s := stopTimer s n .typeCSendSourceCap
    if 50 < (s.pde n).capsN then pdEvent (s.modPde n (fun d => { d with pe := .disabled })) n 9
    else sendCaps s n
  else s

def execTypecSendSourceCapExpiry (n : Nat) (s : State) : Res := leaves s (typecSendSourceCapExpiry n s)

/-- SENDER_RESPONSE_EXPIRY: Hard Reset in a power negotiation and after Soft_Reset, otherwise the AMS ends (R151, R155,
R211). -/
def senderResponseExpiry (n : Nat) (s : State) : State :=
  if runs s n .senderResponse then
    let s := stopTimer s n .senderResponse
    let d := s.pde n
    match d.pe with
    | .sendCaps =>
      let s := if tenths (s.pb n).alloc < contractPower s n then shortfallEvent s n 1 else s
      sendHardReset s n 1
    | _ =>
      if d.soft ∨ (d.cc = .attachedSnk ∧ d.pend.isSome) then sendHardReset s n 1
      else amsEnd (s.modPde n (fun d => { d with swap := none })) n
  else s

def execSenderResponseExpiry (n : Nat) (s : State) : Res := leaves s (senderResponseExpiry n s)

/-- SRC_TRANSITION_EXPIRY: the new voltage is ordered, or PS_RDY sent at the voltage in force with power-good asserted;
without it PS_RDY waits for POWER_GOOD (R23, R150, R183). -/
def srcTransitionExpiry (n : Nat) (s : State) : State :=
  if runs s n .srcTransition then
    let s := stopTimer s n .srcTransition
    let d := s.pde n
    match d.swap with
    | some _ => vbusOff s n
    | none =>
      match d.contract with
      | none => s
      | some c =>
        let s := setCc s n (if c.kind = 1 then some c.ma else none)
        let q := s.ppc n
        if c.mv = q.mv then
          if q.pg ∧ q.st = .on then send s n .psRdy else s
        else
          match q.st with
          | .on | .transition =>
            let s := s.modPpc n (fun q => { q with
              st := .transition, pg := false, oldMv := q.mv, oldOv := q.ovSelf, mv := c.mv, safe5 := false, under := false })
            setVout (setSlew (s.modPpc n (fun q => { q with dsch := q.assist q.meter.vbus })) n) n c.mv
          | _ => s
  else s

def execSrcTransitionExpiry (n : Nat) (s : State) : Res := leaves s (srcTransitionExpiry n s)

/-- A policy timer whose end is a Hard Reset with its cause (R151, R163). -/
def hardOnExpiry (s : State) (n : Nat) (t : PdTimer) (cause : Nat) : State :=
  if runs s n t then sendHardReset (stopTimer s n t) n cause else s

def execSrcSettleExpiry (n : Nat) (s : State) : Res := leaves s (hardOnExpiry s n .srcSettle 2)

/-- PS_HARD_RESET_EXPIRY: VBUS goes to vSafe0V, VCONN off (R150, R156). -/
def psHardResetExpiry (n : Nat) (s : State) : State :=
  if runs s n .psHardReset then
    let s := stopTimer (stopTimer s n .psHardReset) n .hardResetComplete
    let s := s.modPde n (fun d => { d with pe := .toDefault, vconn := false })
    let gone := !(s.ppc n).gate
    let s := vbusOff s n
    startTimer s n (if gone then .srcRecover else .safe0V)
  else s

def execPsHardResetExpiry (n : Nat) (s : State) : Res := leaves s (psHardResetExpiry n s)

/-- VBUS_HELD, once per discharge (R151, R163, R187). -/
def vbusHeld (s : State) (n : Nat) : State :=
  if (s.pde n).heldTold then s else pdEvent (s.modPde n (fun d => { d with heldTold := true })) n 0x12

/-- SAFE0V_EXPIRY: the Hard Reset is completed against a held VBUS (R151). -/
def safe0VExpiry (n : Nat) (s : State) : State :=
  if runs s n .safe0V then startTimer (stopTimer (vbusHeld s n) n .safe0V) n .srcRecover else s

def execSafe0vExpiry (n : Nat) (s : State) : Res := leaves s (safe0VExpiry n s)

/-- SRC_RECOVER_EXPIRY: vSafe5V and VCONN are restored (R150, R156). -/
def srcRecoverExpiry (n : Nat) (s : State) : State :=
  if runs s n .srcRecover then
    let s := stopTimer s n .srcRecover
    match (s.pde n).cc with
    | .attachedSrc => vbusOn (vconnOn s n) n
    | _ => s
  else s

def execSrcRecoverExpiry (n : Nat) (s : State) : Res := leaves s (srcRecoverExpiry n s)

def noResponseExpiry (n : Nat) (s : State) : State :=
  if runs s n .noResponse then giveUp (stopTimer s n .noResponse) n else s

def execNoResponseExpiry (n : Nat) (s : State) : Res := leaves s (noResponseExpiry n s)

def execEnterEprExpiry (n : Nat) (s : State) : Res := leaves s (hardOnExpiry s n .enterEpr 3)

/-- A keep-alive timer ends: KEEPALIVE_TIMEOUT, then Hard Reset (R151, R153). -/
def keepAliveExpiry (s : State) (n : Nat) (t : PdTimer) (cause : Nat) : State :=
  if runs s n t then sendHardReset (pdEvent (stopTimer s n t) n 0xF cause) n cause else s

def execSourceEprKeepaliveExpiry (n : Nat) (s : State) : Res := leaves s (keepAliveExpiry s n .eprKeepAlive 4)

def execPpsTimeoutExpiry (n : Nat) (s : State) : Res := leaves s (keepAliveExpiry s n .ppsTimeout 5)

def execPsSourceOffExpiry (u : Up) (s : State) : Res := leaves s (hardOnExpiry s (portOfUp u) .psSourceOff 6)

def execPsSourceOnExpiry (u : Up) (s : State) : Res := leaves s (hardOnExpiry s (portOfUp u) .psSourceOn 7)

/-- SWAP_SOURCE_START_EXPIRY: the new source advertises (R160). -/
def swapSourceStartExpiry (u : Up) (s : State) : State :=
  let n := portOfUp u
  if runs s n .swapSourceStart then startup (stopTimer s n .swapSourceStart) n else s

def execSwapSourceStartExpiry (u : Up) (s : State) : Res := leaves s (swapSourceStartExpiry u s)

/-- The upstream's FRS signal starts at early warning (R161 step 1). -/
def frsSignal (s : State) (n : Nat) : State :=
  let d := s.pde n
  if isUp n ∧ d.frs ∧ d.cc = .attachedSrc then
    startTimer (s.modPde n (fun d => { d with
      frs := false, swap := some { fast := true, fromSource := true, at_ := s.now }, tx := none, txNext := [] })) n .frsSignal
  else s

/-- FRS_SIGNAL_END: the source gate opens, and FR_Swap is awaited for 15 ms (R161). -/
def frsSignalEnd (u : Up) (s : State) : State :=
  let n := portOfUp u
  match (s.pde n).swap with
  | some w =>
    if runs s n .frsSignal then
      let s := stopTimer s n .frsSignal
      let s := (dropContract s n).modPde n (fun d => { d with swap := some { w with stage := 1 } })
      startTimer (pbaTrigger (vbusOff s n) 0) n .frSwapWait
    else s
  | none => s

def execFrsSignalEnd (u : Up) (s : State) : Res := leaves s (frsSignalEnd u s)

/-- FR_SWAP_WAIT_EXPIRY: as an incomplete exchange (R161, R162). -/
def frSwapWaitExpiry (u : Up) (s : State) : State :=
  let n := portOfUp u
  if runs s n .frSwapWait then swapFails (stopTimer s n .frSwapWait) n 8 else s

def execFrSwapWaitExpiry (u : Up) (s : State) : Res := leaves s (frSwapWaitExpiry u s)

/-- HARD_RESET_COMPLETE_EXPIRY: the transmission is abandoned; the policy engine goes on (R140). -/
def hardResetCompleteExpiry (n : Nat) (s : State) : State := stopTimer s n .hardResetComplete

def execHardResetCompleteExpiry (n : Nat) (s : State) : Res := leaves s (hardResetCompleteExpiry n s)

end Sys2Proof.Machine
end

