-- ==== Sys2Proof/Machine/PpcRows.lean ====
section
/-!
DEFINITION. Machine/PpcRows.lean: the power path controllers, the meters and the PMBus segments (R164–R194).
-/

namespace Sys2Proof.Machine

/-! ### Turning on (R167, R178–R183) -/

/-- VBUS_REQUEST from the PDE, or by the style's own rule (R167). -/
def vbusRequest (n : Nat) (s : State) : State :=
  match (s.pde n).cc with
  | .attachedSrc => vbusOn s n
  | .idle => tryOn s n
  | _ => s

def execVbusRequest (n : Nat) (s : State) : Res := leaves s (vbusRequest n s)

/-- OFF_REQUEST reaches the METER island (R167). -/
def offRequest (n : Nat) (s : State) : State := vbusOff s n

def execOffRequest (n : Nat) (s : State) : Res := leaves s (offRequest n s)

/-- CONVERTER_CHECK_PASS: RAMP, and the gate rises at GATE_SLEW (R167, R179, R187). -/
def converterCheckPass (n : Nat) (s : State) : State :=
  match (s.ppc n).st with
  | .convCheck =>
    if (s.ppc n).retryWait then s
    else s.modPpc n (fun q => { q with
      st := .ramp, dsch := false, slew := q.set.gateSlew, halved := false, over80 := false, ovSeen := false })
  | _ => s

def execConverterCheckPass (n : Nat) (s : State) : Res := leaves s (converterCheckPass n s)

/-- CONVERTER_NOT_READY: VWINDOW, OPERATION off, a new try after 1 s (R167). -/
def converterNotReady (n : Nat) (s : State) : State :=
  let q := s.ppc n
  match q.st with
  | .convCheck =>
    if q.retryWait then s
    else setOp ((powerEvent s n 5 5 q 0).modPpc n (fun q => { q with retryWait := true })) n false
  | _ => s

def execConverterNotReady (n : Nat) (s : State) : Res := leaves s (converterNotReady n s)

/-- CONVERTER_RETRY: CONV_CHECK anew while the request stands (R167). -/
def converterRetry (n : Nat) (s : State) : State :=
  let q := s.ppc n
  match q.st with
  | .convCheck =>
    if q.retryWait then
      if vbusWanted s n then enterCheck s n
      else idleConverter (s.modPpc n (fun q => { q with st := .off, retryWait := false })) n
    else s
  | _ => s

def execConverterRetry (n : Nat) (s : State) : Res := leaves s (converterRetry n s)

/-- POWER_GOOD: power-good asserts in RAMP and TRANSITION with an idle fault timer (R71, R150, R179, R181, R182). -/
def powerGood (n : Nat) (s : State) : State :=
  let q := s.ppc n
  if q.fault ≠ 0 then s
  else
    match q.st with
    | .ramp =>
      let s := s.modPpc n (fun q => { q with
        st := .on, pg := true, under := false, slewHeld := if q.halved then q.slewHeld else false })
      let s := if isUp n then s else dpePower s n
      let d := s.pde n
      match d.cc with
      | .attachedSrc =>
        match d.swap with
        | some w => if w.stage = 3 then send s n .psRdy else s
        | none =>
          match d.pe with
          | .stopped => startup s n
          | .toDefault => startup s n
          | _ => s
      | _ => s
    | .transition =>
      let s := s.modPpc n (fun q => { q with st := .on, pg := true, under := false, dsch := false })
      match (s.pde n).pe with
      | .transition => if runs s n .srcTransition then s else send s n .psRdy
      | _ => s
    | _ => s

def execPowerGood (n : Nat) (s : State) : Res := leaves s (powerGood n s)

/-- PS_RDY_EOP: the new ILIM applies at the last bit of the EOP of PS_RDY (R149, R183). -/
def psRdyEop (n : Nat) (s : State) : State :=
  let d := s.pde n
  if d.tx = some .psRdy ∧ d.pe = .transition then
    applyLimit (s.modPpc n (fun q => { q with safe5 := d.contract.isNone })) n
  else s

def execPsRdyEop (n : Nat) (s : State) : Res := leaves s (psRdyEop n s)

/-! ### Trips (R174–R177) -/

/-- SLOW_TRIP: the fault timer reaches TFAULT (R174); only the amplifier of a raised gate regulates. -/
def slowTrip (n : Nat) (s : State) : State :=
  if (s.ppc n).gate then trip (s.modPpc n (fun q => { q with fault := q.set.tfault * 4 })) n 3 1 else s

def execSlowTrip (n : Nat) (s : State) : Res := leaves s (slowTrip n s)

def execFastTrip (n : Nat) (s : State) : Res := leaves s (trip s n 2 1)

def execReverseTrip (n : Nat) (s : State) : Res := leaves s (trip s n 4 1)

/-- UNDERVOLT_TRIP: VBUS below the window in ON for TVW (R176). -/
def undervoltTrip (n : Nat) (s : State) : State := if (s.ppc n).st = .on then trip s n 5 3 else s

def execUndervoltTrip (n : Nat) (s : State) : Res := leaves s (undervoltTrip n s)

/-- TURN_ON_TIMEOUT: no power-good within 250 ms of RAMP (R176). -/
def turnOnTimeout (n : Nat) (s : State) : State := if (s.ppc n).st = .ramp then trip s n 5 7 else s

def execTurnOnTimeout (n : Nat) (s : State) : Res := leaves s (turnOnTimeout n s)

/-- COOL_DOWN_END: the trip clears in auto-retry mode or on a remembered clearing happening; a port that waited attaches
(R134, R186). -/
def coolDownEnd (n : Nat) (s : State) : State :=
  let q := s.ppc n
  if q.cool = 0 then s
  else
    let s := s.modPpc n (fun q => { q with cool := 0 })
    let s := if q.clear ∨ q.set.auto then clearTrip s n else s
    match (s.pde n).cc with
    | .attachWaitCool => sourceAttached s n
    | _ => s

def execCoolDownEnd (n : Nat) (s : State) : Res := leaves s (coolDownEnd n s)

/-- TRIP_COUNT_RESET (R185). -/
def tripCountReset (n : Nat) (s : State) : State := s.modPpc n (fun q => { q with trips := 0 })

def execTripCountReset (n : Nat) (s : State) : Res := leaves s (tripCountReset n s)

/-- POWER_CYCLE_OFF_END: VBUS returns if a request stands, and a latch-off trip clears (R377). -/
def powerCycleOffEnd (n : Nat) (s : State) : State :=
  let q := s.ppc n
  if q.cycle.isSome ∧ q.cool = 0 then
    powerOn (clearTrip (s.modPpc n (fun q => { q with cycle := none })) n) n
  else s

def execPowerCycleOffEnd (n : Nat) (s : State) : Res := leaves s (powerCycleOffEnd n s)

/-! ### Discharge (R187) -/

/-- The end of a discharge: Pn_DSCH low; DISCHARGE leads to OFF, where a standing request starts anew (R167, R187). -/
def dischargeEnd (s : State) (n : Nat) : State :=
  let q := s.ppc n
  let s := s.modPpc n (fun q => { q with dsch := false, st := if q.st = .discharge then .off else q.st })
  if q.st = .discharge then
    let s := tryOn s n
    if (s.ppc n).st = .off then idleConverter s n else s
  else s

/-- What waits for VBUS below vSafe0V: tSrcRecover, or the PS_RDY of a swap from source (R151, R160). -/
def zeroVolts (s : State) (n : Nat) : State :=
  if runs s n .safe0V then startTimer (stopTimer s n .safe0V) n .srcRecover
  else
    match (s.pde n).swap with
    | some w =>
      if !w.fast ∧ w.fromSource ∧ w.stage = 2 then
        send ((dropContract s n).modPde n (fun d => { d with
          swap := some { w with stage := 3 } })) n .psRdy
      else s
    | none => s

/-- DISCHARGE_DONE: VBUS is below vSafe0V (R187). -/
def dischargeDone (n : Nat) (s : State) : State :=
  if (s.ppc n).dsch then dischargeEnd (zeroVolts s n) n else s

def execDischargeDone (n : Nat) (s : State) : Res := leaves s (dischargeDone n s)

/-- DISCHARGE_TIMEOUT: Pn_DSCH low at 650 ms and VBUS_HELD (R187). -/
def dischargeTimeout (n : Nat) (s : State) : State :=
  if (s.ppc n).dsch then dischargeEnd (vbusHeld s n) n else s

def execDischargeTimeout (n : Nat) (s : State) : Res := leaves s (dischargeTimeout n s)

/-! ### Metering (R174, R176, R179–R182, R190, R191, R448) -/

/-- METER_GAP in effect, ns (R443, R444). -/
def meterGapNs (s : State) : Nat :=
  (match s.sys.meterGap with
  | some g => g
  | none => match s.sys.profile with | .balanced => 10 | .guarded => 1 | .throughput => 60 | .economy => 60) * 1000000000

/-- The energy of one 16 µs sample with 24 fractional bits, from µW (R191). -/
def energyOf (p : Nat) : Nat := p * 16 * 2 ^ 24 / 1000000

/-- The meter takes one sample (R190, R191, R193); `sink` in the sink role of UA and UB, where energy is received. -/
def Meter.take (m : Meter) (x : Sample) (now : Nat) (sink : Bool := false) : Meter :=
  let p : Int := (x.vbus : Int) * x.ibus
  let e := m.energy + energyOf p.toNat
  { m with
    vbus := x.vbus, vconv := x.vconv, ibus := x.ibus, time := now, hist := ((x.vbus, x.ibus) :: m.hist).take 65536,
    peak := max m.peak x.ibus.natAbs, sat := m.sat || x.full, neg := m.neg || decide (p < 0),
    energy := e % 2 ^ 72, wraps := if 2 ^ 72 ≤ e then min 255 (m.wraps + 1) else m.wraps,
    energyIn := if sink then (m.energyIn + energyOf (-p).toNat) % 2 ^ 72 else m.energyIn }

/-- A METER record is due: none of this kind within METER_GAP (R448). -/
def gapOver (s : State) (last : Option Nat) : Bool :=
  match last with
  | none => true
  | some t => decide (t + meterGapNs s ≤ s.ticks)

/-- OV level in mV; in a transition the higher of the old and the new (R180). -/
def ovLevel (q : Ppc) : Nat :=
  match q.st with
  | .transition => max q.oldOv q.ovSelf
  | .frozen => max q.oldOv q.ovSelf
  | _ => q.ovSelf

/-- The METER events of a sample (R191, R194, R448). -/
def meterEvents (s : State) (n : Nat) (old : Ppc) (x : Sample) : State :=
  let wrapped := decide (2 ^ 72 ≤ old.meter.energy + energyOf ((x.vbus : Int) * x.ibus).toNat)
  let s := if wrapped then powerEvent s n 8 1 old 0 else s
  let s := if x.full && gapOver s old.meter.satAt then
      (powerEvent s n 8 2 old 0).modPpc n (fun q => { q with meter := { q.meter with satAt := some s.ticks } })
    else s
  if decide ((x.vbus : Int) * x.ibus < 0) && gapOver s old.meter.negAt then
    (powerEvent s n 8 3 old 0).modPpc n (fun q => { q with meter := { q.meter with negAt := some s.ticks } })
  else s

/-- The fault timer over one sample period: up 1 every µs of regulation, down 1 every 4 µs otherwise (R174). -/
def faultStep (q : Ppc) (reg : Nat) : Nat := min (q.set.tfault * 4) (q.fault + 4 * reg - (16 - reg))

/-- What the PPC decides at a sample, state by state (R167, R176, R179, R182, R183). The fault timer runs in every state; the
amplifier regulates only with the gate raised (R174). -/
def judgeSample (s : State) (n : Nat) (x : Sample) : State :=
  let s := s.modPpc n (fun q => { q with fault := faultStep q (if q.gate then x.reg else 0) })
  let q := s.ppc n
  match q.st with
  | .convCheck =>
    if 800 ≤ x.vbus ∧ !q.backTold then powerEvent (s.modPpc n (fun q => { q with backTold := true })) n 4 3 q 0 else s
  | .ramp | .on | .transition | .frozen =>
    let ov := decide (ovLevel q < x.vbus)
    if ov ∧ q.ovSeen then setOp (trip s n 5 4) n false
    else
      let s := s.modPpc n (fun q => { q with ovSeen := ov })
      match q.st with
      | .ramp =>
        let hi := decide ((q.ilim : Int) * 80 ≤ x.ibus * 100)
        s.modPpc n (fun q =>
          if hi ∧ !q.over80 then
            let sl := max 1 (q.slew / 2)
            { q with over80 := true, slew := sl, halved := true, slewHeld := decide (sl < q.set.gateSlew) }
          else { q with over80 := hi })
      | .on =>
        if x.vbus < windowLow q then
          if q.under then s else powerEvent (s.modPpc n (fun q => { q with under := true })) n 5 1 q 0
        else if q.under ∧ x.vbus ≤ windowHigh q then powerEvent (s.modPpc n (fun q => { q with under := false })) n 5 2 q 0
        else s
      | .transition =>
        s.modPpc n (fun q => { q with dsch := q.assist x.vbus })
      | _ => s
  | _ => s

/-- A change of a feed's settings takes effect at the sample; the computation it triggers completes the command (R196,
R380). -/
def feedSettle (s : State) (b : Bool) : State :=
  match (s.feed b).next with
  | none => s
  | some (x, w) =>
    let s := s.modFeed b (fun f => { f with set := x, next := none })
    pbaTrigger { s with pba := { s.pba with waits := s.pba.waits ++ [w] } } 2

/-- A feed's sample (R200): its meter, and ENERGY_WRAP. -/
def feedSample (s : State) (b : Bool) (x : Sample) (wrapEvent : State → State) : State :=
  let m := (s.feed b).meter
  let wrapped := decide (2 ^ 72 ≤ m.energy + energyOf ((x.vbus : Int) * x.ibus).toNat)
  let s := feedSettle (s.modFeed b (fun f => { f with meter := f.meter.take x s.ticks })) b
  if wrapped then wrapEvent s else s

/-- Data of the feed events (R201). -/
def feedData (s : State) (b : Bool) : Nat :=
  let f := s.feed b
  let st := match f.st with | .absent => 0 | .qualifying => 1 | .on => 2 | .warning => 3 | .ovOff => 4
  f.meter.vbus / 10 % 65536 + at_ 16 (uns 16 (f.meter.ibus / 10)) + at_ 32 (f.meter.vconv / 10 % 65536) + at_ 48 st
    + at_ 51 (healthy s)

/-- A feed event: source 408 + f × 6 + k (R201). -/
def feedEvent (s : State) (b : Bool) (k code : Nat) : State := raise s (408 + 6 * b2n b + k) code (feedData s b)

/-- METER_SAMPLE (R190). -/
def meterSample (ch : Chan) (s : State) : State :=
  match ch with
  | .path n x =>
    let old := s.ppc n
    let sink := isUp n && (s.pde n).cc == .attachedSnk
    let s := s.modPpc n (fun q => { q with meter := q.meter.take x s.ticks sink })
    judgeSample (meterEvents s n old x) n x
  | .feed b x => feedSample s b x (fun s => feedEvent s b 5 1)
  | .die false t => { s with sys := { s.sys with dieTemp := t } }
  | .die true t => { s with sys := { s.sys with dieTemp2 := t } }
  | .vconn k mv => { s with sys := { s.sys with vconnMv := modAt s.sys.vconnMv k (fun _ => mv) } }
  | .reference k v => { s with sys := { s.sys with refs := modAt s.sys.refs k (fun _ => v) } }

def execMeterSample (ch : Chan) (s : State) : Res := leaves s (meterSample ch s)

/-! ### PMBus (R168–R171) -/

/-- The 12 bytes of CONVERTER_STATUS (R379). -/
def convBytes (s : State) (n : Nat) : List Byte :=
  let c := s.conv n
  let st := match c.cst with | .ready => 0 | .unsupported => 1 | .initFailed => 2 | .unnamed => 3
  leBytes 2 (c.addr + at_ 7 (b2n (onSegB n)) + at_ 8 st + at_ 10 (b2n c.on)) ++ leBytes 2 c.status ++ leBytes 2 c.vout
    ++ leBytes 2 c.fails ++ zeros 4

/-- The initialisation of a converter ends with a CSTATE: a trigger of R209, and the CONVERTER_INIT it may answer (R379). -/
def initDone (s : State) (n : Nat) (st : CState) : State :=
  let c := s.conv n
  let s := s.modConv n (fun c => { c with cst := st, init := 0, wait := 0 })
  let s := if c.cst = st then s else pbaTrigger s 0
  finishWait s c.wait (.ok (convBytes s n))

/-- Source 440 (R170, R297). -/
def convEvent (s : State) (b : Bool) (conv code kind : Nat) : State :=
  raise s 440 kind (conv + at_ 8 code + at_ 16 (b2n b))

/-- The converter of a 7-bit address on a segment. -/
def convByAddr (s : State) (b : Bool) (a : Nat) : Option Nat :=
  allPorts.find? (fun n => onSegB n == b && (s.conv n).addr == a && a != 0)

/-- STATUS_WORD has a bit (R171; the bits are those of PMBus, log entry 24). -/
def anyBit (w : Nat) (bs : List Nat) : Bool := bs.any (bit w)

/-- A STATUS_WORD has been read (R171). -/
def statusRead (s : State) (n w : Nat) : State :=
  let s := s.modConv n (fun c => { c with status := w })
  let active := (s.ppc n).gate
  let stop := anyBit w [5, 4, 3, 13] || (bit w 6 && active)
  if stop || bit w 2 then
    let s := raise s 441 1 (n + at_ 16 w)
    if stop ∧ active then trip s n 5 6 else s
  else if anyBit w [15, 14, 12, 10, 9, 1] then raise s 441 2 (n + at_ 16 w)
  else s

/-- A transaction has succeeded (R168–R171). -/
def txnOk (s : State) (b : Bool) (t : Txn) (data : Nat) : State :=
  let n := t.conv
  let s :=
    if t.code = 0x21 then s.modConv n (fun c => { c with vout := t.value })
    else if t.code = 0x27 then s.modConv n (fun c => { c with slew := t.value / 100 })
    else if t.code = 1 then s.modConv n (fun c => { c with on := t.value == 0x80 })
    else s
  if t.prio = 1 then
    let k := (s.conv n).init
    if k = 1 then
      if data / 32 = 0 then s.modConv n (fun c => { c with exp := data % 32, init := 2 })
      else initDone (convEvent s b n 0x20 6) n .unsupported
    else if k = 10 ∧ !allocated s n then initDone s n .ready
    else if 11 ≤ k then initDone s n .ready
    else s.modConv n (fun c => { c with init := k + 1 })
  else if t.code = 0x79 then statusRead s n data
  else if t.code = 0x0C then
    match convByAddr s b (data / 2) with
    | some m => s.modSeg b (fun g => { g with alerts := g.alerts ++
        [{ conv := m, code := 0x79, value := 0, prio := 2 }, { conv := m, code := 3, value := 0, prio := 2 }] })
    | none => s
  else s

/-- An attempt has failed; the third fails the transaction (R168, R170). -/
def txnFail (s : State) (b : Bool) (kind : Nat) : State :=
  match (s.seg b).cur with
  | none => s
  | some (t, k) =>
    if k < 2 then s.modSeg b (fun g => { g with cur := some (t, k + 1) })
    else
      let s := s.modSeg b (fun g => { g with cur := none })
      let s := (convEvent s b t.conv t.code kind).modConv t.conv (fun c => { c with fails := min 65535 (c.fails + 1) })
      let s := if t.prio = 1 then initDone (convEvent s b t.conv t.code 7) t.conv .initFailed else s
      segNext s b

/-- A transaction of the partner, seen on the segment by a chip that does not host it: the converter's last setpoint,
OPERATION and status follow it (R224, R225). Its CSTATE follows too: READY by a setpoint, which only a READY converter is
sent, UNSUPPORTED by a mode other than ULINEAR16 (DEDUCED, log entry 62). -/
def txnSeen (s : State) (b : Bool) (t : BusTxn) (data : Nat) : State :=
  let n := t.conv
  if onSegB n ≠ b then s
  else if t.code = 0x20 then
    s.modConv n (fun c => if data / 32 = 0 then { c with exp := data % 32 } else { c with cst := .unsupported })
  else if t.code = 0x21 then s.modConv n (fun c => { c with vout := t.value, cst := .ready })
  else if t.code = 1 then s.modConv n (fun c => { c with on := t.value == 0x80 })
  else if t.code = 0x27 then s.modConv n (fun c => { c with slew := t.value / 100 })
  else if t.code = 0x79 then statusRead s n data
  else s

/-- PMBUS_TRANSACTION_DONE (R169, R170); on a chip that listens, the transaction it has decoded (R225). -/
def pmbusTransactionDone (b : Bool) (seen : Option BusTxn) (res : TxnRes) (s : State) : State :=
  match (s.seg b).cur with
  | none =>
    match seen, res with
    | some t, .ok data => if s.chipActive then s else txnSeen s b t data
    | _, _ => s
  | some (t, _) =>
    match res with
    | .ok data => segNext (txnOk (s.modSeg b (fun g => { g with cur := none })) b t data) b
    | .addressNack => txnFail s b 1
    | .dataNack => txnFail s b 2
    | .pec => txnFail s b 3

def execPmbusTransactionDone (segB : Bool) (e : TxnEnd) (s : State) : Res :=
  leaves s (pmbusTransactionDone segB e.seen e.res s)

/-- A converter that may be initialised: named, its address neither 0x0C nor another's on the segment (R168, R506). -/
def convUsable (s : State) (n : Nat) : Bool :=
  let a := (s.conv n).addr
  a != 0 && a != 0x0C && !allPorts.any (fun m => m != n && onSegB m == onSegB n && (s.conv m).addr == a)

/-- PMBUS_INIT (R168), by the chip that hosts the segment (R224). -/
def pmbusInit (n : Nat) (s : State) : State :=
  if convUsable s n ∧ s.chipActive then segNext (s.modConv n (fun c => { c with init := 1 })) (onSegB n) else s

def execPmbusInit (n : Nat) (s : State) : Res := leaves s (pmbusInit n s)

/-- PMBUS_BUS_STUCK: nine pulses, a STOP and source 440 (R170), by the chip that hosts the segment (R224). -/
def pmbusBusStuck (b : Bool) (s : State) : State :=
  if !s.chipActive then s
  else
  let t := match (s.seg b).cur with | some (t, _) => (t.conv, t.code) | none => (0, 0)
  convEvent (s.modSeg b (fun g => { g with pulses := 9 })) b t.1 t.2 5

def execPmbusBusStuck (segB : Bool) (s : State) : Res := leaves s (pmbusBusStuck segB s)

def execPmbusClockStretchTimeout (segB : Bool) (s : State) : Res := leaves s (txnFail s segB 4)

/-- The converter of a segment that is polled after `k`, in turn (R171). -/
def nextPoll (s : State) (b : Bool) (k : Nat) : Option Nat :=
  let named (n : Nat) : Bool := onSegB n == b && convUsable s n
  match (allPorts.filter named).find? (fun n => decide (k < n)) with
  | some n => some n
  | none => (allPorts.filter named).head?

/-- PMBUS_POLL (R171), by the chip that hosts the segment (R224). -/
def pmbusPoll (b : Bool) (s : State) : State :=
  if !s.chipActive then s
  else match nextPoll s b (s.seg b).polled with
  | some n => segNext (s.modSeg b (fun g => { g with
      polled := n, polls := g.polls ++ [{ conv := n, code := 0x79, value := 0, prio := 3 }] })) b
  | none => s

def execPmbusPoll (segB : Bool) (s : State) : Res := leaves s (pmbusPoll segB s)

/-- PMBUS_ALERT: the alert response address, then the status of the converter that answers (R171), by the chip that hosts
the segment (R224). -/
def pmbusAlert (b : Bool) (s : State) : State :=
  if !s.chipActive then s
  else segNext (s.modSeg b (fun g => { g with
    alerts := g.alerts ++ [{ conv := 0, code := 0x0C, value := 0, prio := 2 }] })) b

def execPmbusAlert (segB : Bool) (s : State) : Res := leaves s (pmbusAlert segB s)

/-- SINK_PATH_IDEAL_DIODE: reverse current turns GSNK off; VBUS above the sink rail lets it conduct again (R166). -/
def sinkPathIdealDiode (u : Up) (reverse : Bool) (s : State) : State :=
  let n := portOfUp u
  match (s.pde n).cc with
  | .attachedSnk => s.modPpc n (fun q => { q with gsnk := !reverse })
  | _ => s

def execSinkPathIdealDiode (u : Up) (reverse : Bool) (s : State) : Res := leaves s (sinkPathIdealDiode u reverse s)

end Sys2Proof.Machine
end

