-- ==== Sys2Proof/Machine/FeedRows.lean ====
section
/-!
DEFINITION. Machine/FeedRows.lean: the feeds, early warning, shedding and restoring, and the computation of
allocations (R195–R219, R380).
-/

namespace Sys2Proof.Machine

/-! ### Shedding (R199, R213–R216) -/

/-- A port is shed: POWER_OFF, an off request, demand 0 (R216). -/
def shedPort (s : State) (n : Nat) (why : ShedWhy) : State :=
  if (s.pb n).shed then s
  else powerOff (s.modPb n (fun b => { b with shed := true, why := why, shedP := getA s.pba.planP n })) n

/-- Every port of a list is shed. -/
def shedPorts (s : State) (why : ShedWhy) (l : List Nat) : State := l.foldl (fun s n => shedPort s n why) s

/-- EW_ASSERT: the plan is applied, pins of shed ports are suspended, armed upstreams signal (R216). A restore in progress
stops (R218). -/
def ewAssert (s : State) : State :=
  let l := planNow s
  let s := { s with pba := { s.pba with ew := true, trigger := some 3, restores := [], back := [] } }
  let s := shedPorts s .ew l
  let s := l.foldl (fun s n => s.modPb n (fun b => { b with pinSusp := b.pin != 0 })) s
  frsSignal (frsSignal s 33) 34

/-! ### Restoring (R199, R215, R218) -/

/-- A feed's overcurrent event stands (R199). -/
def anyOverCur (s : State) : Bool := s.feedA.overCur || s.feedB.overCur

/-- Ports shed under the rules that a restore undoes. One after early warning undoes every shedding (R218): R215's as well,
and R199's once no feed's overcurrent stands. -/
def restorable (s : State) (why : ShedWhy) (n : Nat) : Bool :=
  let b := s.pb n
  b.shed && (b.why == why || (why == .ew && (b.why == .feed || !anyOverCur s)))

/-- A port is restored: SHED clears, and it leaves POWER_OFF where its allocation allows (R218). -/
def unshed (s : State) (n : Nat) : State :=
  powerOn (s.modPb n (fun b => { b with shed := false, shedP := 0 })) n

/-- The class fits the new B: P_AVG of the ports kept and P_AVG that the class had in its plan (R215). -/
def fits (s : State) (l : List Nat) : Bool :=
  let kept := (allPorts.filter (fun n => !(s.pb n).shed)).foldl (fun a n => a + getA (pAvgs s) n) 0
  decide (l.foldl (fun a n => a + (s.pb n).shedP) kept ≤ budgetNow s * 100)

/-- One class of a restore (R215, R218): class `c`, or under R215 the lowest shed class from `c` on. -/
def restoreClass (s : State) (why : ShedWhy) (c : Nat) : State :=
  let s := { s with pba := { s.pba with restores := s.pba.restores.filter (·.1 != why) } }
  let all := allPorts.filter (fun n => restorable s why n && decide (c ≤ (s.pb n).cls))
  let k := match why with
    | .feed => least (all.map (fun n => (s.pb n).cls))
    | _ => c
  let l := all.filter (fun n => (s.pb n).cls == k)
  if all.isEmpty then s
  else if why = .feed ∧ !fits s l then s
  else
    let s := l.foldl unshed s
    if l.length = all.length then s
    else { s with pba := { s.pba with restores := s.pba.restores ++ [(why, k + 1)] } }

/-- An FR_Swap is in progress: the upstream becomes a sink when it ends (R161). -/
def frSwapping (s : State) (n : Nat) : Bool :=
  match (s.pde n).swap with
  | some w => w.fast
  | none => false

/-- EW_DEASSERT (R218): suspended pins are active again and class 0 is restored at once. -/
def ewDeassert (s : State) : State :=
  let sinks := [33, 34].filter (fun n => (s.pde n).cc == .attachedSnk || frSwapping s n)
  let s := { s with pba := { s.pba with ew := false, trigger := some 4, back := sinks } }
  let s := allPorts.foldl (fun s n => s.modPb n (fun b => { b with pinSusp := false })) s
  restoreClass s .ew 0

/-- A change of healthy feeds without EW (R215): B lowered applies the plan, B raised restores. -/
def feedShift (s : State) : State :=
  let b := budgetNow s
  if b < s.pba.budget then
    shedPorts { s with pba := { s.pba with restores := s.pba.restores.filter (·.1 != .feed) } } .feed
      ((planNow s).filter (fun n => (s.pb n).pin == 0))
  else if s.pba.budget < b ∧ !s.pba.restores.any (·.1 == .feed) then restoreClass s .feed 0
  else s

/-- EW follows the feeds and the table (R202); a change of healthy feeds triggers a computation (R209). -/
def ewEval (s : State) (was : Nat) : State :=
  let h := healthy s
  let mark := bit s.pba.table h
  if mark && !s.pba.ew then ewAssert s
  else if !mark && s.pba.ew then ewDeassert s
  else if h = was then s
  else pbaTrigger (if s.pba.ew then s else feedShift s) 1

/-! ### Feed states (R197, R198, R201) -/

/-- A feed enters a state; EW is judged after the feed's events. A healthy feed ends DEAD-FEED (R442). -/
def feedEnter (s : State) (b : Bool) (st : FeedSt) (gate : Bool) (ev : State → State) : State :=
  let was := healthy s
  let s := s.modFeed b (fun f => { f with st := st, gate := gate })
  let s := if st = .on ∧ s.sys.pstate = .deadFeed ∧ s.sys.regen then { s with sys := { s.sys with pstate := .active } }
    else s
  ewEval (ev s) was

/-- FEED_ABSENT: ABSENT is raised when the last k-0 record was PRESENT; leaving OV_OFF raises RETURNED (R197, R201). With no
feed left the upstreams are held to sink behaviour (R139). -/
def feedAbsent (b : Bool) (s : State) : State :=
  let old := s.feed b
  match old.st with
  | .absent => s
  | _ =>
    feedEnter s b .absent false (fun s =>
      let s := match old.st with | .ovOff => feedEvent s b 4 2 | _ => s
      holdSinks (if old.present then feedEvent (s.modFeed b (fun f => { f with present := false })) b 0 2 else s))

def execFeedAbsent (feedB : Bool) (s : State) : Res := leaves s (feedAbsent feedB s)

/-- FEED_QUALIFY_START: from ABSENT (R197); in QUALIFYING the timer starts again. -/
def feedQualifyStart (b : Bool) (s : State) : State :=
  match (s.feed b).st with
  | .absent => s.modFeed b (fun f => { f with st := .qualifying })
  | _ => s

def execFeedQualifyStart (feedB : Bool) (s : State) : Res := leaves s (feedQualifyStart feedB s)

/-- FEED_QUALIFIED: PRESENT is raised unless the last k-0 record was PRESENT (R197, R201). -/
def feedQualified (b : Bool) (s : State) : State :=
  match (s.feed b).st with
  | .qualifying =>
    feedEnter s b .on true (fun s =>
      if (s.feed b).present then s else feedEvent (s.modFeed b (fun f => { f with present := true })) b 0 1)
  | _ => s

def execFeedQualified (feedB : Bool) (s : State) : Res := leaves s (feedQualified feedB s)

/-- FEED_WARNING: the gate is kept (R197, R202). -/
def feedWarning (b : Bool) (s : State) : State :=
  match (s.feed b).st with
  | .on => feedEnter s b .warning (s.feed b).gate (fun s => feedEvent s b 1 1)
  | _ => s

def execFeedWarning (feedB : Bool) (s : State) : Res := leaves s (feedWarning feedB s)

/-- FEED_WARNING_CLEAR (R197). -/
def feedWarningClear (b : Bool) (s : State) : State :=
  match (s.feed b).st with
  | .warning => feedEnter s b .on (s.feed b).gate (fun s => feedEvent s b 1 2)
  | _ => s

def execFeedWarningClear (feedB : Bool) (s : State) : Res := leaves s (feedWarningClear feedB s)

/-- FEED_OVERVOLT: the comparator opens the gate (R197). -/
def feedOvervolt (b : Bool) (s : State) : State :=
  match (s.feed b).st with
  | .ovOff => s
  | _ => feedEnter s b .ovOff false (fun s => feedEvent s b 4 1)

def execFeedOvervolt (feedB : Bool) (s : State) : Res := leaves s (feedOvervolt feedB s)

/-- FEED_OV_RETURN (R197). -/
def feedOvReturn (b : Bool) (s : State) : State :=
  match (s.feed b).st with
  | .ovOff => feedEnter s b .qualifying false (fun s => feedEvent s b 4 2)
  | _ => s

def execFeedOvReturn (feedB : Bool) (s : State) : Res := leaves s (feedOvReturn feedB s)

/-- The feed's FETs act as an ideal diode: ON and WARNING (R198). -/
def diode (f : Feed) : Bool := f.st == .on || f.st == .warning

/-- FEED_REVERSE_OFF: the feed stays healthy (R198). -/
def feedReverseOff (b : Bool) (s : State) : State :=
  if diode (s.feed b) ∧ (s.feed b).gate then feedEvent (s.modFeed b (fun f => { f with gate := false })) b 2 1 else s

def execFeedReverseOff (feedB : Bool) (s : State) : Res := leaves s (feedReverseOff feedB s)

/-- FEED_FORWARD_REENABLE (R198). -/
def feedForwardReenable (b : Bool) (s : State) : State :=
  if diode (s.feed b) ∧ !(s.feed b).gate then feedEvent (s.modFeed b (fun f => { f with gate := true })) b 2 2 else s

def execFeedForwardReenable (feedB : Bool) (s : State) : Res := leaves s (feedForwardReenable feedB s)

/-! ### Feed overcurrent (R199) -/

/-- The unpinned ports of a class are shed for overcurrent, and the next class stands 10 ms later. -/
def ocShed (s : State) (b : Bool) (c : Nat) : State :=
  let l := allPorts.filter (fun n => (s.pb n).cls == c && (s.pb n).pin == 0)
  pbaTrigger (shedPorts (s.modFeed b (fun f => { f with ocNext := c })) .overcurrent l) 7

/-- FEED_OVERCURRENT: the event, and class 7 is shed first; an excess that comes after shedding has stopped starts it anew
(R199). -/
def feedOvercurrent (b : Bool) (s : State) : State :=
  if diode (s.feed b) ∧ (!(s.feed b).overCur ∨ (s.feed b).ocNext = 0) then
    let s := feedEvent (s.modFeed b (fun f => { f with overCur := true })) b 3 1
    ocShed { s with pba := { s.pba with restores := s.pba.restores.filter (·.1 != .overcurrent) } } b 7
  else s

def execFeedOvercurrent (feedB : Bool) (s : State) : Res := leaves s (feedOvercurrent feedB s)

/-- FEED_OVERCURRENT_SHED_STEP: shedding stops below 95 % of FEED_PMAX (R199). -/
def feedOvercurrentShedStep (b : Bool) (s : State) : State :=
  let f := s.feed b
  if !f.overCur ∨ f.ocNext = 0 then s
  else if pAvg f.meter * 100 < (f.set.pmax * 95000 : Nat) then s.modFeed b (fun f => { f with ocNext := 0 })
  else ocShed s b (f.ocNext - 1)

def execFeedOvercurrentShedStep (feedB : Bool) (s : State) : Res := leaves s (feedOvercurrentShedStep feedB s)

/-- FEED_OVERCURRENT_CLEARED: the event ends and the ports shed for it are restored (R199, R201), under early warning when
that has ended (R216, R218). -/
def feedOvercurrentCleared (b : Bool) (s : State) : State :=
  if (s.feed b).overCur then
    let s := feedEvent (s.modFeed b (fun f => { f with overCur := false, ocNext := 0 })) b 3 2
    if s.pba.ew ∨ anyOverCur s then s else pbaTrigger (restoreClass s .overcurrent 0) 6
  else s

def execFeedOvercurrentCleared (feedB : Bool) (s : State) : Res := leaves s (feedOvercurrentCleared feedB s)

/-- RESTORE_CLASS_STEP (R215, R218). -/
def restoreClassStep (why : ShedWhy) (s : State) : State :=
  match s.pba.restores.find? (·.1 == why) with
  | some (_, c) => pbaTrigger (restoreClass s why c) 6
  | none => s

def execRestoreClassStep (why : ShedWhy) (s : State) : Res := leaves s (restoreClassStep why s)

/-! ### Blocks (R196, R205, R206) -/

/-- The settings block of a feed (R196). -/
def feedBlock (f : FeedSet) : List Byte :=
  leBytes 16 (f.pmax + at_ 16 f.rshunt + at_ 32 f.uv + at_ 42 f.ov + at_ 52 f.ew + at_ 64 f.hyst + at_ 72 f.tq
    + at_ 80 f.tclr + at_ 88 f.slew)

/-- The global block (R205). -/
def globalBlock (s : State) : List Byte :=
  let p := s.pba
  leBytes 16 (b2n p.sum + at_ 2 (b2n (packing s)) + at_ 8 p.eff + at_ 16 p.cap + at_ 32 p.reserve + at_ 48 p.ride
    + at_ 64 p.stagger + at_ 80 p.budget + at_ 96 (committed s) + at_ 112 (healthy s) + at_ 114 (b2n p.ew)
    + at_ 115 (b2n p.sinkFed) + at_ 116 (shedFrom s))

/-- The PBA block of a port (R206). -/
def pbaBlock (s : State) (n : Nat) : List Byte :=
  let b := s.pb n
  let env := envelope s n
  leBytes 8 (b.cls + at_ 3 (b2n (decide (env < watts b.pmax))) + at_ 4 (b2n (decide (env < watts b.pin)))
    + at_ 5 (pinState s n) + at_ 7 (b2n b.shed) + at_ 8 b.pmin + at_ 16 b.pmax + at_ 28 b.pin + at_ 40 b.alloc
    + at_ 56 (sat 8 ((demand s n + 999999) / 1000000)))

/-- What a budget command that waited for the computation returns: the block in effect (R360, R380). -/
def budgetReply (s : State) (c : Cmd) : List Byte :=
  if c.opcode = 0x0501 then feedBlock (s.feed (selector c.params 0 1 == 1)).set
  else if c.opcode = 0x0503 then globalBlock s
  else pbaBlock s (selector c.params 1 34)

/-- The commands that wait for a computation complete after it (R380). -/
def finishBudget (s : State) : State :=
  s.pba.waits.foldl (fun s w =>
    match s.cmd.waits.find? (·.num == w) with
    | some x => finishWait s w (.ok (budgetReply s x.cmd))
    | none => s) { s with pba := { s.pba with waits := [] } }

/-! ### The computation (R208–R210, R217) -/

/-- A port's allocation has changed: its PDE and PPC are told (R210). -/
def allocNotify (s : State) (n old : Nat) : State :=
  let idle (s : State) : State := match (s.ppc n).st with | .off => idleConverter s n | _ => s
  if allocated s n then
    let s := if old < 25 then powerOn (idle s) n else s
    markCaps (if (s.pde n).contract.isNone then applyLimit s n else s) n
  else idle (powerOff s n)

/-- Decreases are passed at once; the others become targets (R210). A chip of a pair that is not ACTIVE computes as a check
and applies nothing (R224). -/
def applyDecreases (new : List Nat) : List Nat → State → State
  | [], s => s
  | n :: ns, s =>
    if !s.chipActive then s
    else
    let x := getA new n
    let old := (s.pb n).alloc
    let s := s.modPb n (fun b => { b with target := x, alloc := min b.alloc x })
    applyDecreases new ns (if x < old then allocNotify s n old else s)

/-- Pending increases that fit are released (R210), on the chip whose allocations apply (R224). -/
def releaseAll (s : State) : State := if s.chipActive then releaseIncreases allocNotify (classOrder s) s else s

/-- An upstream in the sink role starts PR_Swap once its allocation as a source is 15 W or more (R160, R218); one that has
detached owes no swap. -/
def swapBack (s : State) (n : Nat) : State :=
  let d := s.pde n
  if d.cc ≠ .attachedSnk ∧ !frSwapping s n then { s with pba := { s.pba with back := s.pba.back.erase n } }
  else if s.pba.back.contains n ∧ d.cc = .attachedSnk ∧ d.set.upReturn ∧ d.action = none ∧ 150 ≤ allocAsSource s n then
    { (s.modPde n (fun d => { d with action := some 4 })) with pba := { s.pba with back := s.pba.back.erase n } }
  else s

/-- SINK_FED takes its value, with source 436 and the PDOs above the limit omitted (R217). -/
def sinkFedStep (s : State) : State :=
  let f := sinkFedNow s
  if f = s.pba.sinkFed then s
  else { s with pba := { s.pba with sinkFed := f, trigger := some 5 } }

/-- BUDGET takes its value; source 436 tells a change of it, of the feeds, of EW or SINK_FED, and a step of shedding or
restoring (R209, R219). -/
def budgetStep (s : State) (cause : Nat) : State :=
  let b := min 65535 (budgetNow s)
  let old := s.pba.budget
  let s := if old < b ∧ !s.pba.ew ∧ !s.pba.restores.any (·.1 == .feed) then restoreClass s .feed 0 else s
  let s := { s with pba := { s.pba with budget := b } }
  if b = old ∧ (cause = 0 ∨ cause = 2) then s else budgetEvent s (if cause = 0 then 2 else cause)

/-- ALLOC_RECOMPUTE (R202, R208–R210, R217). -/
def allocRecompute (s : State) : State :=
  let s := { s with pba := { s.pba with table := ewTable s } }
  let s := ewEval s (healthy s)
  let fed := s.pba.sinkFed
  let s := sinkFedStep s
  let cause := s.pba.trigger.getD 0
  let s := budgetStep { s with pba := { s.pba with trigger := none } } cause
  let new := allocate s (fun n => demand s n) s.pba.budget
  let s := releaseAll (applyDecreases new allPorts s)
  let s := if fed = s.pba.sinkFed then s else allPorts.foldl markCaps s
  finishBudget (swapBack (swapBack s 33) 34)

def execAllocRecompute (s : State) : Res := leaves s (allocRecompute s)

/-- SHED_PLAN_REFRESH (R214, R215). -/
def shedPlanRefresh (s : State) : State :=
  { s with pba := { s.pba with plans := makePlans s, planP := pAvgs s } }

def execShedPlanRefresh (s : State) : Res := leaves s (shedPlanRefresh s)

def execPendingIncreaseRelease (s : State) : Res := leaves s (releaseAll s)

/-- A contract above its allocation is enforced by Hard Reset (R211), by the chip whose allocations apply (R224). -/
def enforce (s : State) (n : Nat) : State :=
  if s.chipActive ∧ tenths (s.pb n).alloc < contractPower s n then sendHardReset (shortfallEvent s n 1) n else s

/-- COMMITTED_OVER_BUDGET (R211). -/
def committedOverBudget (s : State) : State :=
  if tenths s.pba.budget < committedW s then
    let p := ((classOrder s).find? (fun n => decide (tenths (s.pb n).alloc < contractPower s n))).getD 0
    allPorts.foldl enforce (shortfallEvent s p 2)
  else s

def execCommittedOverBudget (s : State) : Res := leaves s (committedOverBudget s)

end Sys2Proof.Machine
end

