-- ==== Sys2Proof/Machine/PlanOps.lean ====
section
/-!
DEFINITION. Machine/PlanOps.lean: carving a buffer plan, the default plan, the plan as bytes, and MODE by the profile
(R62–R67, R445).
-/

namespace Sys2Proof.Machine

/-- Maximum pages of a region type (R63). -/
def maxPages (kind : Nat) : Nat :=
  match kind with | 1 => 4 | 2 => 2 | 3 => 64 | 4 => 1 | 5 => 64 | 6 => 256 | _ => 0

/-- The owner is valid for the type (R63). The reserved OWNER_UP 0b11 names no owner, so rule 2 of R65 takes the region's
pages, where R16 would read 0b00 for a reserved value (DESIGN CHOICE, log entry 52). -/
def validOwner (r : Region) : Bool :=
  if r.kind = 5 then 34 ≤ r.owner && r.owner ≤ 41 && (r.ownerUp == 1 || r.ownerUp == 2)
  else if r.kind = 6 then r.owner == 0 && r.ownerUp == 0
  else 1 ≤ r.owner && r.owner ≤ 32 && r.ownerUp == 0

/-- An entry of a plan (R62). -/
def entryOf (b : List Byte) : Region :=
  let v := leNat (b.take 8)
  { kind := bits v 7 0, owner := bits v 13 8, ownerUp := bits v 15 14, first := bits v 31 16, pages := bits v 47 32 }

/-- The region's bytes (R62). -/
def entryBytes (r : Region) : List Byte :=
  leBytes 8 (r.kind + at_ 8 r.owner + at_ 14 r.ownerUp + at_ 16 r.first + at_ 32 r.pages)

/-- Two regions share a page (R65 rule 6). -/
def overlap (a b : Region) : Bool := a.first < b.first + b.pages && b.first < a.first + a.pages

/-- One entry carved after the regions accepted so far (R65): the regions, and whether it was corrected. -/
def carveOne (acc : List Region × Bool) (r : Region) : List Region × Bool :=
  if r.kind = 0 then acc
  else if 6 < r.kind then (acc.1, true)
  else
    let first := max 16 r.first
    let want := if validOwner r then min (min r.pages (maxPages r.kind)) (512 - first) else 0
    let x : Region := { r with first := first, pages := want }
    let clash := acc.1.any (fun y => overlap x y || (y.kind == x.kind && y.owner == x.owner && y.ownerUp == x.ownerUp))
    let x : Region := { x with pages := if clash then 0 else want }
    (if x.pages = 0 then acc.1 else acc.1 ++ [x], acc.2 || x.pages != r.pages || first != r.first)

/-- Insertion in the order of first pages. -/
def insertRegion (r : Region) : List Region → List Region
  | [] => [r]
  | x :: xs => if x.first ≤ r.first then x :: insertRegion r xs else r :: x :: xs

def sortRegions (l : List Region) : List Region := l.foldl (fun a r => insertRegion r a) []

/-- The entries of a plan's bytes. -/
def entriesOf : Nat → List Byte → List Region
  | 0, _ => []
  | n + 1, b => if b.length < 8 then [] else entryOf b :: entriesOf n (b.drop 8)

/-- A plan carved: its effective regions in page order, and CLAMPED (R62, R65, R343). -/
def carve (b : List Byte) : List Region × Bool :=
  let version := (b.getD 0 1).toNat
  let asked := (b.getD 1 0).toNat
  let n := min (min asked 128) ((b.length - 4) / 8)
  let r := (entriesOf n (b.drop 4)).foldl carveOne ([], false)
  (sortRegions r.1, r.2 || version != 1 || asked != n || decide (4 + 8 * n < b.length))

/-- The default plan: the active BDI's, or the built-in one (R67, R501, R502). -/
def defaultPlan (s : State) : List Region :=
  match s.sys.image with
  | some i =>
    let base := (partBase (2 + i)).1
    if bit (leNat (s.crockRead (base + 7) 1)) 0 then (carve (s.crockRead (base + 0xA00) 1280)).1 else builtinPlan
  | none => builtinPlan

/-- MODE that the profile gives port p (R445). PAIR_WIRE reads SHARED on a single chip. -/
def profileMode (s : State) (p : Nat) : Mode :=
  let muxed := (s.sys.role == 1 || s.sys.role == 2) && bit s.pair.set.wire (p - 1)
  match s.sys.profile with
  | .throughput => .transparent
  | .guarded => if p ≤ 8 ∧ !muxed then .transparent else .translated
  | _ => if p ≤ 8 then .transparent else .translated

/-- MODE of a port changes: at once on a VACANT port, else at the next connect (R97). -/
def setMode (s : State) (p : Nat) (m : Mode) : State :=
  let s := s.modPort p (fun q => { q with id := { q.id with mode := m } })
  if vacantNow s p then syncPort (setEff s p (effMode s p)) p else s

/-- The ports whose MODE nothing has set take the profile's (R445). -/
def profileModes (s : State) : State :=
  ports32.foldl (fun s p => if (s.port p).modeSet then s else setMode s p (profileMode s p)) s

end Sys2Proof.Machine
end

