-- ==== Sys2Proof/Machine/SettingsOps.lean ====
section
/-!
DEFINITION. Machine/SettingsOps.lean: the settings blocks as bytes and as read from a SET payload, a section of the BDI or
the Ladle, with their clamps (R188, R196, R205, R206, R245, R280, R285, R301, R303, R333, R343, R375, R412, R416, R444,
R503, R504).
-/

namespace Sys2Proof.Machine

/-- Bit field [lo + w − 1 : lo] lies within the bytes received (R343). -/
def reached (bs : List Byte) (lo w : Nat) : Bool := decide (lo + w ≤ 8 * bs.length)

/-- Parameters read from a block of `len` bytes: their values in order, and CLAMPED. -/
def blockPars (len : Nat) (bs : List Byte) (ps : List Par) : (Nat → Nat) × Bool :=
  let r := readPars len bs ps
  (fun i => r.1.getD i 0, r.2)

/-! ### Power path (R188) -/

def ppcBytes (q : Ppc) : List Byte :=
  let x := q.set
  leBytes 16 (b2n x.auto + at_ 8 x.margin + at_ 16 (ftEff q) + at_ 32 x.tfault + at_ 64 x.tpgq + at_ 80 x.tcool
    + at_ 96 x.gateSlew + at_ 104 x.convSlew + at_ 112 x.tvw + at_ 120 (b2n x.dschAssist) + at_ 121 (b2n q.slewHeld))

def ppcRead (x : PpcSet) (bs : List Byte) : PpcSet × Bool :=
  let r := blockPars 16 bs [parElse 0 2 (b2n x.auto) 1 0, par 8 8 x.margin 0 50, par 16 16 x.ftPct 150 400,
    par 32 32 x.tfault 100 1000000, par 64 16 x.tpgq 250 5000, par 80 16 x.tcool 500 8000, par 96 8 x.gateSlew 1 100,
    par 104 8 x.convSlew 5 250, par 112 8 x.tvw 1 100, parAny 120 1 (b2n x.dschAssist)]
  ({ auto := r.1 0 == 1, margin := r.1 1, ftPct := r.1 2, tfault := r.1 3, tpgq := r.1 4, tcool := r.1 5,
     gateSlew := r.1 6, convSlew := r.1 7, tvw := r.1 8, dschAssist := r.1 9 == 1 }, r.2)

/-- A PPC block is written: the limits that it forms apply at once (R188); CLAMPED tells as well that FT_PCT was written and
its effective percentage differs (R173). -/
def setPpc (s : State) (n : Nat) (bs : List Byte) : Bool × State :=
  let r := ppcRead (s.ppc n).set bs
  let s := relimit (s.modPpc n (fun q => { q with set := r.1 })) n
  (r.2 || (decide (4 ≤ bs.length) && ftEff (s.ppc n) != r.1.ftPct), s)

/-! ### PD (R375) -/

def pdSetBytes (s : State) (n : Nat) : List Byte :=
  let d := s.pde n
  let x := d.set
  let up := isUp n
  let u (v : Nat) : Nat := if up then v else 0
  leBytes 8 (x.vmax + at_ 8 x.imax + at_ 16 (b2n x.pps) + at_ 17 (b2n (x.epr && !up)) + at_ 18 d.ccUse
    + at_ 20 (u x.upTry) + at_ 22 (u (b2n x.upPrSwap)) + at_ 23 (u (b2n x.upReturn)) + at_ 24 (u (b2n x.upFrs))
    + at_ 32 (u x.snkVmax) + at_ 40 (u x.snkImax) + at_ 48 (u x.snkPmin))

/-- The block read for port n; the upstreams' fields are ignored on ports 1–32, PD_EPR on UA and UB. -/
def pdSetRead (up : Bool) (x : PdSet) (bs : List Byte) : PdSet × Bool :=
  let common := [par 0 8 x.vmax 5 (if up then 20 else 48), par 8 8 x.imax 5 50, parAny 16 1 (b2n x.pps),
    parAny 17 1 (b2n x.epr)]
  let ups := [parElse 20 2 x.upTry 2 1, parAny 22 1 (b2n x.upPrSwap), parAny 23 1 (b2n x.upReturn),
    parAny 24 1 (b2n x.upFrs), par 32 8 x.snkVmax 5 20, par 40 8 x.snkImax 5 50, par 48 8 x.snkPmin 0 100]
  let r := blockPars 8 bs (if up then common ++ ups else common)
  let y : PdSet := { x with vmax := r.1 0, imax := r.1 1, pps := r.1 2 == 1, epr := if up then x.epr else r.1 3 == 1 }
  (if up then
     { y with upTry := r.1 4, upPrSwap := r.1 5 == 1, upReturn := r.1 6 == 1, upFrs := r.1 7 == 1,
              snkVmax := r.1 8, snkImax := r.1 9, snkPmin := r.1 10 }
   else y, r.2)

/-- A PD block is written (R375): a change of capabilities is re-advertised; clearing PD_EPR in EPR mode ends the mode. -/
def setPd (s : State) (n : Nat) (bs : List Byte) : Bool × State :=
  let old := (s.pde n).set
  let r := pdSetRead (isUp n) old bs
  let s := relimit (s.modPde n (fun d => { d with set := r.1, frs := ({ d with set := r.1 } : Pde).frsArmed })) n
  let d := s.pde n
  if d.epr ∧ old.epr ∧ !r.1.epr then
    if 20000 < (d.contract.map (·.mv)).getD 5000 then (r.2, sendHardReset s n)
    else
      let s := stopTimer (s.modPde n (fun d => { d with epr := false, readv := true })) n .eprKeepAlive
      (r.2, startOwn (pdEvent s n 0xC) n)
  else (r.2, startOwn (markCaps s n) n)

/-! ### Feeds and the arbiter (R196, R205, R206) -/

def feedRead (x : FeedSet) (bs : List Byte) : FeedSet × Bool :=
  let r := blockPars 16 bs [par 0 16 x.pmax 0 2000, par 16 16 x.rshunt 100 5000, par 32 10 x.uv 150 400,
    par 42 10 x.ov 400 590, par 52 10 x.ew 200 550, par 64 8 x.hyst 5 50, par 72 8 x.tq 10 250, par 80 8 x.tclr 10 250,
    par 88 8 x.slew 5 100]
  let ew := max (r.1 4) (r.1 2 + 10)
  ({ pmax := r.1 0, rshunt := r.1 1, uv := r.1 2, ov := r.1 3, ew := ew, hyst := r.1 5, tq := r.1 6, tclr := r.1 7,
     slew := r.1 8 }, r.2 || ew != r.1 4)

/-- The global block is written; BUDGET_CAP is never below the sum of the effective pins (R205). -/
def setPbaGlobal (s : State) (bs : List Byte) : Bool × State :=
  let p := s.pba
  let r := blockPars 16 bs [parElse 0 2 (b2n p.sum) 1 0, parAny 2 1 (b2n (packing s)), par 8 8 p.eff 70 100,
    parAny 16 16 p.cap, par 32 16 p.reserve 150 1000, par 48 16 p.ride 0 10000, par 64 16 p.stagger 0 5000]
  let floor := min 0xFFFF ((pinSum s + 99999) / 100000)
  let cap := max (r.1 3) floor
  (r.2 || cap != r.1 3,
   { s with pba := { p with
      sum := r.1 0 == 1, packing := if reached bs 2 1 then some (r.1 1 == 1) else p.packing, eff := r.1 2, cap := cap,
      reserve := r.1 4, ride := r.1 5, stagger := r.1 6 } })

/-- The largest pin that fits beside the other effective pins, W (R213). -/
def pinRoom (s : State) (n : Nat) : Nat := (tenths s.pba.budget - (pinSum s - pinEff s n)) / 1000000

/-- PIN as it is set: 1 and 2 are 3 W (R206), and a pin fits the budget when it is set by command (R213; log entry 35). -/
def pinFix (room : Option Nat) (v : Nat) : Nat :=
  let v := if v = 1 ∨ v = 2 then 3 else v
  match room with
  | none => v
  | some m => if v ≤ m then v else if m < 3 then 0 else m

/-- A port's block is written (R206). Under early warning the pin of a shed port is suspended (R213). -/
def setPbaPort (s : State) (n : Nat) (room : Option Nat) (bs : List Byte) : Bool × State :=
  let b := s.pb n
  let r := blockPars 8 bs [parAny 0 3 b.cls, par 8 8 b.pmin 3 100, par 16 12 b.pmax 0 240,
    { lo := 28, w := 12, dflt := b.pin, fix := pinFix room }]
  (r.2, s.modPb n (fun b => { b with cls := r.1 0, pmin := r.1 1, pmax := r.1 2, pin := r.1 3, pinSusp := s.pba.ew && b.shed && r.1 3 != 0 }))

/-! ### Pair (R245, R384) -/

def pairSetBytes (s : State) : List Byte :=
  let x := s.pair.set
  leBytes 8 (b2n x.prefer + at_ 1 (b2n s.mirrorTransfer) + at_ 8 x.bootWait + at_ 16 x.handoverWait + at_ 24 x.wire)

/-- Signalling that a change of PAIR_WIRE waits for runs on port p (R384). -/
def signalling (s : State) (p : Nat) : Bool := (s.port p).dpe == .resetting || (s.port p).dpe == .resuming

/-- PAIR_WIRE is written: at once, but for ports in RESETTING or RESUMING (R384). -/
def setWire (s : State) (w : Nat) : State :=
  let now := mapBits (ports32.map (fun p => if signalling s p then bit s.pair.set.wire (p - 1) else bit w (p - 1)))
  profileModes { s with pair := { s.pair with set := { s.pair.set with wire := now },
                                              wireNext := if now = w then none else some w } }

def setPair (s : State) (bs : List Byte) : Bool × State :=
  let x := s.pair.set
  let g := b2n s.mirrorTransfer
  let d := b2n (s.sys.profile == .throughput || s.sys.profile == .economy)
  let r := blockPars 8 bs [parAny 0 1 (b2n x.prefer), parElse 1 2 g 1 d, par 8 8 x.bootWait 0 100,
    par 16 8 x.handoverWait 1 100, parAny 24 32 (s.pair.wireNext.getD x.wire)]
  let raw := bits (leNat (bs.take 8)) 2 1
  let s := { s with pair := { s.pair with set := { x with
    prefer := r.1 0 == 1, gran := if reached bs 1 2 then (if raw ≤ 1 then some (raw == 1) else none) else x.gran,
    bootWait := r.1 2, handoverWait := r.1 3 } } }
  (r.2, setWire s (r.1 4))

/-! ### Fabric (R280, R281) -/

def fabricSetBytes (s : State) : List Byte :=
  let f := s.fab
  leBytes 16 (f.nodeIdSet + at_ 8 f.rootPrio + at_ 16 f.linkEn + at_ 20 f.wakeEn
    + at_ 24 (f.txEmph.getD 0 4 + at_ 4 (f.txEmph.getD 1 4) + at_ 8 (f.txEmph.getD 2 4) + at_ 12 (f.txEmph.getD 3 4))
    + at_ 40 f.vc1q + at_ 44 f.vc2q + at_ 48 f.vc3q + at_ 52 f.lsaRefresh + at_ 64 f.creditStall + at_ 80 f.lendHold)

/-- LINK_EN of link l takes its value (R251, R280). -/
def enableLink (s : State) (l : Nat) : State :=
  match (s.link l).st with
  | .disabled => if bit s.fab.linkEn l then s.modLink l (fun k => { k with st := .acquire }) else s
  | .up => if bit s.fab.linkEn l then s else fabLinkDown s l 5 .disabled
  | .retrain => if bit s.fab.linkEn l then s else fabLinkDown s l 5 .disabled
  | .sleep => if bit s.fab.linkEn l then s else fabLinkDown s l 5 .disabled
  | _ => if bit s.fab.linkEn l then s else s.modLink l (fun k => { k with st := .disabled })

/-- TX_EMPH of a link changes: an UP link retrains at once (R280, R412). -/
def setEmph (s : State) (l v : Nat) : State :=
  if s.fab.txEmph.getD l 4 = v then s
  else
    let s := { s with fab := { s.fab with txEmph := modAt s.fab.txEmph l (fun _ => v) } }
    if (s.link l).st = .up then enterRetrain s l 0 else s

/-- The fabric block is written: NODE_ID and ROOT_PRIO act at the next LSA, LINK_EN and TX_EMPH at once (R280, R389). -/
def setFabric (s : State) (bs : List Byte) : Bool × State :=
  let f := s.fab
  let emph (l : Nat) : Par := par (24 + 4 * l) 4 (f.txEmph.getD l 4) 0 12
  let r := blockPars 16 bs [parElse 0 8 f.nodeIdSet 240 0, parAny 8 8 f.rootPrio, parAny 16 4 f.linkEn, parAny 20 4 f.wakeEn,
    emph 0, emph 1, emph 2, emph 3, par 40 4 f.vc1q 1 15, par 44 4 f.vc2q 1 15, par 48 4 f.vc3q 1 15,
    par 52 8 f.lsaRefresh 1 100, par 64 16 f.creditStall 1 1000, par 80 16 f.lendHold 0 600]
  let s := { s with fab := { f with
    nodeIdSet := r.1 0, rootPrio := r.1 1, linkEn := r.1 2, wakeEn := r.1 3, vc1q := r.1 8, vc2q := r.1 9, vc3q := r.1 10,
    lsaRefresh := r.1 11, creditStall := r.1 12, lendHold := r.1 13 } }
  (r.2, linkNumbers.foldl (fun s l => enableLink (setEmph s l (r.1 (4 + l))) l) s)

/-! ### Events and time (R285, R301, R303) -/

def eventSetBytes (s : State) : List Byte :=
  let e := s.ev
  leBytes 8 (e.fabDest + at_ 8 (b2n e.collect) + at_ 9 e.remoteRoute + at_ 16 e.fabWait + at_ 24 e.mergeHold)

def setEvent (s : State) (bs : List Byte) : Bool × State :=
  let e := s.ev
  let dest : Par := { lo := 0, w := 8, dflt := e.fabDest, fix := fun v => if 241 ≤ v ∧ v ≤ 254 then 0 else v }
  let r := blockPars 8 bs [dest, parAny 8 1 (b2n e.collect), parAny 9 5 e.remoteRoute, par 16 8 e.fabWait 1 255,
    par 24 8 e.mergeHold 1 255]
  (r.2, { s with ev := { e with
    fabDest := r.1 0, collect := r.1 1 == 1, remoteRoute := r.1 2, fabWait := r.1 3, mergeHold := r.1 4 } })

/-- The route byte of a source is written; bits 7:6 are reserved (R301). -/
def setRoute (s : State) (src v : Nat) : State :=
  { s with ev := { s.ev with routes := (src, v % 64) :: s.ev.routes.filter (·.1 != src) } }

/-- Route bytes from a source on (R392). -/
def setRoutes (s : State) (first : Nat) (bs : List Byte) : State :=
  (bs.zipIdx first).foldl (fun s x => if x.2 < 448 then setRoute s x.2 x.1.toNat else s) s

def timeSetBytes (s : State) : List Byte :=
  let t := s.tu
  leBytes 16 (b2n t.srcPps + at_ 2 (b2n t.outEn) + at_ 3 (b2n t.stepEn) + at_ 8 t.ppsWidth
    + at_ 16 (uns 8 (t.asym.getD 0 0)) + at_ 24 (uns 8 (t.asym.getD 1 0)) + at_ 32 (uns 8 (t.asym.getD 2 0))
    + at_ 40 (uns 8 (t.asym.getD 3 0)) + at_ 48 t.ppsDelay)

/-- The time block is written (R285): TSYNC_OUT is low while it is not driven; a root follows TIME_SRC. -/
def setTime (s : State) (bs : List Byte) : Bool × State :=
  let t := s.tu
  let asym (l : Nat) : Par := parAny (16 + 8 * l) 8 (uns 8 (t.asym.getD l 0))
  let r := blockPars 16 bs [parElse 0 2 (b2n t.srcPps) 1 0, parAny 2 1 (b2n t.outEn), parAny 3 1 (b2n t.stepEn),
    par 8 8 t.ppsWidth 1 250, asym 0, asym 1, asym 2, asym 3, parAny 48 16 t.ppsDelay]
  let s := { s with tu := { t with
    srcPps := r.1 0 == 1, outEn := r.1 1 == 1, stepEn := r.1 2 == 1, ppsWidth := r.1 3,
    asym := [sgn 8 (r.1 4), sgn 8 (r.1 5), sgn 8 (r.1 6), sgn 8 (r.1 7)], ppsDelay := r.1 8,
    out := t.out && r.1 1 == 1 } }
  (r.2, if s.tu.isRoot ∧ s.tu.srcPps ≠ t.srcPps then rootSync s else s)

/-! ### The Sieve (R333) -/

/-- SEAL_PORT clamps its reserved values to 0 (R333). -/
def sealPort (v : Nat) : Nat := if v = 33 ∨ 42 ≤ v then 0 else v

/-- A channel's settings as a payload gives them (R333); DISCARD only for a sealed packet of an IN endpoint (R336). -/
def sieveRead (c : SieveCh) (bs : List Byte) : SieveCh × Bool :=
  let r := blockPars 16 bs [parElse 0 3 c.mode 3 0, parAny 3 2 c.poly, parAny 5 1 (b2n c.bswap), parAny 6 1 (b2n c.alive8),
    parAny 7 1 (b2n c.compare), { lo := 8, w := 6, dflt := c.port, fix := sealPort }, parAny 14 1 (b2n c.upB),
    parAny 16 8 c.ep, parAny 24 1 (b2n c.packet), parAny 25 1 (b2n c.crcBe), parAny 26 1 (b2n c.aliveCheck),
    parAny 27 1 (b2n c.discard), parAny 28 1 (b2n c.aliveHi), parAny 32 10 c.skip, parAny 48 10 c.aliveOfs,
    parAny 64 32 c.expected]
  let may : Bool := r.1 0 == 3 && r.1 8 == 1 && decide (128 ≤ r.1 7)
  ({ c with
     mode := r.1 0, poly := r.1 1, bswap := r.1 2 == 1, alive8 := r.1 3 == 1, compare := r.1 4 == 1, port := r.1 5,
     upB := r.1 6 == 1, ep := r.1 7, packet := r.1 8 == 1, crcBe := r.1 9 == 1, aliveCheck := r.1 10 == 1,
     discard := r.1 11 == 1 && may, aliveHi := r.1 12 == 1, skip := r.1 13, aliveOfs := r.1 14, expected := r.1 15 },
   r.2 || (r.1 11 == 1 && !may))

/-- A channel takes new settings: a run is abandoned, the alive reference re-armed (R335, R400). -/
def setSieve (s : State) (n : Nat) (c : SieveCh) : State :=
  let s := rearm s n
  rearm (s.modSieve n (fun o => { c with run := none, armed := false, result := o.result, last := o.last, units := o.units,
                                         mism := o.mism, errs := o.errs })) n

/-! ### PHYs (R412) -/

/-- The tuning block of PHY n of 1–14 as it reads (R412). -/
def phyBytes (s : State) (n : Nat) : List Byte :=
  let x := s.sys.phys.getD (n - 1) {}
  let link := decide (11 ≤ n)
  let de := if link then s.fab.txEmph.getD (n - 11) 4 else x.deemph
  leBytes 8 (x.rxEq + at_ 4 (b2n x.rxAdapt) + at_ 8 de + at_ 12 (if link then 0 else x.preshoot) + at_ 16 x.useEq
    + at_ 20 x.useDe + at_ 24 x.useSh + at_ 28 (b2n x.rxHeld) + at_ 29 (b2n x.txHeld))

def setPhy (s : State) (n : Nat) (bs : List Byte) : Bool × State :=
  let x := s.sys.phys.getD (n - 1) {}
  let link := decide (11 ≤ n)
  let de := if link then s.fab.txEmph.getD (n - 11) 4 else x.deemph
  let shoot : Par := if link then parAny 12 4 0 else par 12 4 x.preshoot 0 8
  let r := blockPars 8 bs [parAny 0 4 x.rxEq, parAny 4 1 (b2n x.rxAdapt), par 8 4 de 0 12, shoot]
  let s := { s with sys := { s.sys with phys := modAt s.sys.phys (n - 1) (fun x =>
    { x with rxEq := r.1 0, rxAdapt := r.1 1 == 1, deemph := if link then x.deemph else r.1 2,
             preshoot := if link then x.preshoot else r.1 3 }) } }
  (r.2, if link then setEmph s (n - 11) (r.1 2) else s)

/-! ### Sections that only the BDI sets (R416, R444, R503, R504) -/

/-- The power settings block (R416). -/
def powerRead (x : PowerSet) (bs : List Byte) : PowerSet :=
  let r := blockPars 8 bs [parAny 0 1 0, parAny 1 1 (b2n x.dozeEn), parAny 2 1 (b2n x.hibEn), parAny 3 1 (b2n x.dozeSleep),
    parAny 4 1 (b2n x.ccWake), parAny 5 1 (b2n x.feedWake), parAny 6 1 (b2n x.tsyncWake), par 8 8 x.dozeDelay 1 255,
    par 16 8 x.hibDelay 1 255, parAny 24 16 x.gpioWake, parAny 40 16 x.aonWake]
  { trimEn := some (r.1 0 == 1), dozeEn := r.1 1 == 1, hibEn := r.1 2 == 1, dozeSleep := r.1 3 == 1, ccWake := r.1 4 == 1,
    feedWake := r.1 5 == 1, tsyncWake := r.1 6 == 1, dozeDelay := r.1 7, hibDelay := r.1 8, gpioWake := r.1 9,
    aonWake := r.1 10 }

/-- The profile block (R444): 0xFF follows the profile. -/
def setProfileBlock (s : State) (bs : List Byte) : State :=
  let f (i max min : Nat) : Option Nat :=
    let v := (bs.getD i 0xFF).toNat
    if v = 255 then none else some (clampTo min max v)
  { s with sys := { s.sys with proxyL1 := f 0 254 0, upU1 := f 1 127 0, upU2 := f 2 127 0, meterGap := f 3 254 1 } }

/-- CC_USE of a port's style (R130, R503). -/
def ccUseOf (st : Style) (embedded : Nat) : Nat :=
  match st with | .c => 1 | .a => 0 | .embedded => embedded

/-- A port table entry (R503): UA and UB use only CONV_ADDR and RSHUNT. -/
def setPortEntry (s : State) (n : Nat) (bs : List Byte) : State :=
  let v := leNat (bs.take 16)
  let sh := clampTo 1000 20000 (bits v 47 32)
  let ad := bits v 30 24
  let s := (s.modPpc n (fun q => { q with rshunt := sh })).modConv n (fun c =>
    { c with addr := ad, cst := if ad = 0 then .unnamed else c.cst })
  if isUp n then relimit s n
  else
    let st : Style := match bits v 1 0 with | 1 => .a | 2 => .embedded | _ => .c
    let use := ccUseOf st (if bits v 9 8 = 1 then 1 else 0)
    let home : Up := if bit v 7 then .b else .a
    let owner : Owner := match bits v 6 4 with | 1 => .upB | 3 => .parked | 4 => .mgmt | _ => .upA
    let charge : Charge := match bits v 11 10 with | 0 => .off | 1 => .dcpOnly | _ => .auto
    let s := s.modPort n (fun q => { q with
      style := st, charge := charge, modeSet := decide (bits v 3 2 ≤ 1),
      id := { q.id with owner := owner, home := home } })
    let s := s.modPde n (fun d => { d with
      ccUse := use, cc := if use = 0 then .idle else if d.cc = .idle then .unattachedSrc else d.cc })
    let s := s.modPpc n (fun q => { q with aImax := clampTo 5 30 (bits v 23 16) })
    relimit (recharge (if bits v 3 2 ≤ 1 then setMode s n (if bits v 3 2 = 1 then .translated else .transparent) else s) n) n

/-! ### A block by the opcode of its SET command -/

/-- A settings block taken over as it stands (R226, R241, R506). Opcode 0 names a section of the BDI that no command sets,
by its offset: a port table entry by its port number 1–34, the power block 0x7C8, the profile block 0x7D0. -/
def applyBlock (s : State) (opcode sel : Nat) (bs : List Byte) : State :=
  match opcode with
  | 0x0303 => relimit (s.modPde sel (fun d => { d with set := (pdSetRead (isUp sel) d.set bs).1 })) sel
  | 0x0401 => (setPpc s sel bs).2
  | 0x0501 => s.modFeed (sel == 1) (fun f => { f with set := (feedRead f.set bs).1 })
  | 0x0503 => (setPbaGlobal s bs).2
  | 0x0505 => (setPbaPort s sel none bs).2
  | 0x0602 => (setPair s bs).2
  | 0x0702 => (setFabric s bs).2
  | 0x0803 => setRoutes s sel bs
  | 0x0805 => (setEvent s bs).2
  | 0x0902 => (setTime s bs).2
  | 0x0B01 => setSieve s sel (sieveRead (s.sieveCh sel) bs).1
  | 0x0202 => setMode (s.modPort sel (fun q => { q with modeSet := true })) sel
      (if (bs.getD 0 0).toNat = 1 then .translated else .transparent)
  | 0 =>
    if sel = 0x7C8 then { s with sys := { s.sys with power := powerRead s.sys.power bs } }
    else if sel = 0x7D0 then setProfileBlock s bs
    else if 1 ≤ sel ∧ sel ≤ 34 then setPortEntry s sel bs
    else s
  | _ => s

end Sys2Proof.Machine
end

