-- ==== Sys2Proof/Machine/BootOps.lean ====
section
/-!
DEFINITION. Machine/BootOps.lean: key slots, firmware banks and configuration images as the boot and the maintenance
opcodes check them, applying a board description image, starting the firmware, and a chip reset (R6, R325, R326,
R404–R408, R434–R438, R501–R506).
-/

namespace Sys2Proof.Machine

/-! ### Key slots (R326, R408; log entry 33) -/

/-- Bytes of the key of a slot: 32 for the command key, 64 for a verification key. -/
def keyLen (k : Nat) : Nat := if k = 0 then 32 else 64

/-- The key of a slot, from the first of its two copies that is marked present. -/
def State.key (s : State) (k : Nat) : Option (List Byte) :=
  if s.crockRead (keyAddr k) 1 = [1] then some (s.crockRead (keyAddr k + 16) (keyLen k))
  else if s.crockRead (keyAddr k + 128) 1 = [1] then some (s.crockRead (keyAddr k + 144) (keyLen k))
  else none

/-- One copy of a slot: its mark and its key. -/
def keyCopy (key : List Byte) : List Byte := [1] ++ zeros 15 ++ key ++ zeros (112 - key.length)

/-- A key is written in both copies, or both are cleared. -/
def setKey (s : State) (k : Nat) (key : Option (List Byte)) : State :=
  let c := match key with
    | some x => keyCopy x
    | none => zeros 128
  crockWrite (crockWrite s (keyAddr k) c) (keyAddr k + 128) c

/-! ### Firmware banks (R404–R406, R434, R436) -/

/-- Partition of a bank: 0 is A, 1 is B. -/
def bankBase (b : Bool) : Nat := (partBase (b2n b)).1

/-- The 128-byte header of the image in a bank. -/
def bankHead (s : State) (b : Bool) : List Byte := s.crockRead (bankBase b) 128

def headMagic (h : List Byte) : Nat := leNat (h.take 4)
def headLength (h : List Byte) : Nat := leNat (slice h 8 4)
def headCl (h : List Byte) : Nat := leNat (slice h 12 1)
def headSlot (h : List Byte) : Nat := leNat (slice h 13 1) % 16

/-- The checks of R406 in their order: 0 when all pass, otherwise the DETAIL of the first failure. -/
def bankCheck (s : State) (b : Bool) : Nat :=
  let h := bankHead s b
  let len := headLength h
  let slot := headSlot h
  if headMagic h ≠ 0x0F3248A5 ∨ len = 0 ∨ 786304 < len ∨ slot = 0 ∨ 3 < slot then 1
  else
    match s.key slot with
    | none => 4
    | some k =>
      if sha256 (s.crockRead (bankBase b + 128) len) ≠ slice h 16 32 then 2
      else if !ecdsaOk (leNat (k.take 32), leNat (k.drop 32)) (beWord (sha256 (h.take 48))) (leNat (slice h 48 32))
          (leNat (slice h 80 32)) then 3
      else if headCl h < s.sys.cl then 5
      else 0

/-- The slot of 1–3 whose key verifies the running image; none while the ROM runs. -/
def runningSlot (s : State) : Option Nat :=
  let k := headSlot (bankHead s s.sys.bankB)
  if s.sys.romOnly ∨ k = 0 ∨ 3 < k then none else some k

/-- Boot choices (R434): BANK_NEXT, BAD_A, BAD_B, IMAGE_NEXT. -/
def State.choice (s : State) (i : Nat) : Bool := bit (s.paired plChoice) i

def setChoice (s : State) (i : Nat) (v : Bool) : State :=
  let c := s.paired plChoice % 16
  setPaired s plChoice (c - at_ i (bits c i i) + at_ i (b2n v))

/-- A bank's BAD bit. -/
def badBit (b : Bool) : Nat := if b then 2 else 1

/-- Source 428: bank, cause, duration in µs. -/
def fwEvent (s : State) (code cause us : Nat) : State :=
  raise s 428 code (b2n s.sys.bankB + at_ 8 cause + at_ 16 (sat 32 us))

/-- The bank that starts: BANK_NEXT's if it is not BAD, and passes; otherwise the other (R436). -/
def bankChoice (s : State) : Option Bool :=
  let n := s.choice 0
  let first := if s.choice (badBit n) then !n else n
  if bankCheck s first = 0 then some first
  else if bankCheck s (!first) = 0 then some (!first)
  else none

/-- The MPC starts a bank; the watchdog's 300 ms run until DONE (R358, R436). -/
def startBank (s : State) (b : Bool) (cause : Nat) (activated : Bool) : State :=
  let old := s.sys.bankB
  { s with sys := { s.sys with
    bankB := b, fwUp := false, romOnly := false, fwNext := none,
    fw := some { at_ := s.ticks, cause := cause, oldBank := old, activated := activated } } }

/-- Neither bank passes: the ROM runs (R437). -/
def startRom (s : State) : State :=
  { s with sys := { s.sys with fwUp := false, romOnly := true, fw := none, fwNext := none, bootDone := true } }

/-- The first start after a reset (R435 steps 8 and 9). -/
def bootFirmware (s : State) : State :=
  match bankChoice s with
  | some b => startBank s b 0 false
  | none => startRom s

/-! ### Configuration images (R438, R501–R506) -/

/-- First byte of configuration image i. -/
def imageBase (i : Nat) : Nat := (partBase (2 + i)).1

/-- The checks of R505 in their order: 0 when all pass, otherwise the reason. -/
def imageCheck (s : State) (i : Nat) : Nat :=
  let a := imageBase i
  let h := s.crockRead a 64
  let len := leNat (slice h 8 4)
  if leNat (h.take 4) ≠ 0x0B1D3248 ∨ leNat (slice h 4 1) ≠ 1 then 1
  else if len < 0x1100 ∨ 0x10000 < len then 2
  else
    let body := s.crockRead (a + 64) (len - 64)
    if leNat (slice h 60 4) ≠ crc32c (h.take 60 ++ body) then 3
    else
      let tagOk := match s.key 0 with
        | none => true
        | some k => (hmac k (h.take 16 ++ slice h 32 28 ++ body)).take 16 == slice h 16 16
      if !tagOk then 4 else if 1 < leNat (slice h 5 1) then 5 else 0

/-- Bytes of a section of image i. -/
def section_ (s : State) (i off n : Nat) : List Byte := s.crockRead (imageBase i + off) n

/-- One settings block per port, in port order (R502). -/
def applyPorts (s : State) (i off size opcode : Nat) : State :=
  allPorts.foldl (fun s n => applyBlock s opcode n (section_ s i (off + size * (n - 1)) size)) s

/-- The identity section: VID, PIDs and the hub serial string (R34, R40, R502). -/
def applyIdentity (s : State) (b : List Byte) : State :=
  let n := min 32 (leNat (slice b 6 1))
  { s with sys := { s.sys with
    vid := leNat (b.take 2), pid := leNat (slice b 2 2), ssPid := leNat (slice b 4 2), serial := slice b 8 (2 * n) } }

/-- The board block: a PAIR_ROLE other than the strapped role raises source 442, and the straps win (R21, R504). -/
def applyBoard (s : State) (b : List Byte) : State :=
  let v := leNat (b.take 4)
  let role := if bits v 1 0 = 3 then 0 else bits v 1 0
  let rate (x : Nat) : Nat := if x = 3 then 2 else x
  let s := { s with sys := { s.sys with pairRole := role }, segA := { s.segA with rate := rate (bits v 3 2) },
                    segB := { s.segB with rate := rate (bits v 5 4) } }
  if role ≠ s.sys.role then raise s 442 1 (s.sys.role + at_ 8 role) else s

/-- The converters that the image names: READY for their initialisation, or INIT_FAILED with source 440 where the address
is 0x0C or another's on the segment (R168, R506). -/
def nameConverters (s : State) : State :=
  allPorts.foldl (fun s n =>
    if (s.conv n).addr = 0 then s
    else if convUsable s n then s.modConv n (fun c => { c with cst := .ready })
    else raise (s.modConv n (fun c => { c with cst := .initFailed })) 440 7 (n + at_ 16 (b2n (onSegB n)))) s

/-- Image i is applied in full (R502, R506). -/
def applyImage (s : State) (i : Nat) : State :=
  let h := s.crockRead (imageBase i) 64
  let prof : Profile := match leNat (slice h 6 1) with | 1 => .guarded | 2 => .throughput | 3 => .economy | _ => .balanced
  let s := { s with sys := { s.sys with image := some i, clBdi := leNat (slice h 5 1), profile := prof } }
  let s := applyBoard (applyIdentity s (section_ s i 0x40 72)) (section_ s i 0xC0 4)
  let s := applyPorts s i 0x100 16 0
  let s := applyPorts s i 0x340 16 0x0401
  let s := applyPorts s i 0x560 8 0x0303
  let s := applyPorts s i 0x680 8 0x0505
  let s := applyBlock s 0x0503 0 (section_ s i 0x790 16)
  let s := applyBlock (applyBlock s 0x0501 0 (section_ s i 0x7A0 16)) 0x0501 1 (section_ s i 0x7B0 16)
  let s := applyBlock s 0x0602 0 (section_ s i 0x7C0 8)
  let s := applyBlock s 0 0x7C8 (section_ s i 0x7C8 8)
  let s := applyBlock s 0 0x7D0 (section_ s i 0x7D0 8)
  let s := applyBlock s 0x0805 0 (section_ s i 0x7D8 8)
  let s := applyBlock s 0x0702 0 (section_ s i 0x7E0 16)
  let s := applyBlock s 0x0902 0 (section_ s i 0x7F0 16)
  let s := applyBlock s 0x0803 0 (section_ s i 0x800 448)
  raise (nameConverters s) 439 1 i

/-- Source 439 REJECTED with its reason, for an image that fails. -/
def judgeImage (s : State) (i : Nat) : Bool × State :=
  let r := imageCheck s i
  if r = 0 then (true, s) else (false, raise s 439 2 (i + at_ 8 r))

/-- IMAGE_NEXT, then the other image; with neither, every field keeps its built-in default (R438). -/
def bootImage (s : State) : State :=
  let i := b2n (s.choice 3)
  match judgeImage s i with
  | (true, s) => applyImage s i
  | (false, s) =>
    match judgeImage s (1 - i) with
    | (true, s) => applyImage s (1 - i)
    | (false, s) => s

/-- The compatibility level (R6): pinned, else the BDI's, else the highest, 1; source 445 when it differs from before. -/
def fixLevel (s : State) : State :=
  let cl := if s.sys.clPinned ≠ 0 then s.sys.clPinned else if s.sys.clBdi ≠ 0 then s.sys.clBdi else 1
  let old := s.sys.cl
  let s := { s with sys := { s.sys with cl := cl } }
  if cl ≠ old then raise s 445 1 (old + at_ 8 cl) else s

/-! ### The journal's scan (R322, R325) -/

/-- The paired lines of R326. -/
def pairedLines : List Nat := [plNode, plEpoch, plBoot, plLevel, plChoice]

/-- A line with no valid copy takes the value 0 and a write count of 1 at its lower address (R325). -/
def reinitLines (s : State) : State :=
  pairedLines.foldl (fun s a => if (pairedLine s a).isNone then crockWrite s a (pairedBytes 0 1) else s) s

/-- What a scan finds in one slot. -/
def scanSlot (s : State) (acc : List Nat × List Nat × Nat × Nat) (k : Nat) : List Nat × List Nat × Nat × Nat :=
  let b := slotBytes s k
  let ring := decide (1024 ≤ k)
  if slotValid b then
    let mine := !ring && slotEpoch b == s.paired plEpoch % 65536
    (slotJseq b :: acc.1, if ring then slotJseq b :: acc.2.1 else acc.2.1, acc.2.2.1,
     if mine then acc.2.2.2 + 1 else acc.2.2.2)
  else if ring && b.any (· != 0) then (acc.1, acc.2.1, acc.2.2.1 + 1, acc.2.2.2)
  else acc

/-- The whole journal is scanned: JSEQ_NEXT, JSEQ_OLDEST, TORN_SKIPPED, first-fault slots taken and the next free one. -/
def scanJournal (s : State) : State :=
  let spare := s.crock.bad.filterMap (fun a => if 0x1A0000 ≤ a ∧ a < 0x3A0000 then some ((a - 0x1A0000) / 64) else none)
  let slots := listedSlots s.crock.mem
  let all := slots ++ spare.filter (fun k => !slots.contains k)
  let r := all.foldl (scanSlot s) ([], [], 0, 0)
  let next := match r.1 with
    | [] => 0
    | _ => r.1.foldl max 0 + 1
  { s with crock := { s.crock with
    jseqNext := BitVec.ofNat 32 next, oldest := r.2.1.foldl min (next % 2 ^ 32), torn := r.2.2.1, ffUsed := r.2.2.2,
    ffNext := ffFind s 1024 0, scanned := true } }

/-- Source 442 for straps that select the factory test (R18). -/
def strapEvent (s : State) : State := if s.sys.role = 3 then raise s 442 2 3 else s

def bootStage (s : State) (n : Nat) : State := { s with sys := { s.sys with bootStage := n } }

/-- JOURNAL_SCAN: the scan, the paired lines, the configuration image, the level, then ports, links and the firmware's
start (R322, R325, R435 steps 3–8). -/
def journalScan (s : State) : State :=
  if s.crock.scanned then s
  else
    let s := bootStage (strapEvent (reinitLines (scanJournal s))) 1
    let s := bootStage (fixLevel (bootStage (bootImage s) 2)) 3
    let s := if s.sys.image.isNone then linkNumbers.foldl enableLink s else s
    let s := profileModes s
    let s := if s.sys.image.isSome then { s with plan := { s.plan with regions := defaultPlan s } } else s
    bootFirmware (bootStage s 4)

def execJournalScan (s : State) : Res := leaves s (journalScan s)

/-! ### Chip reset (R364, R414, R473) -/

/-- Free draws that a chip reset takes for the NONCEs of its transports (R347). -/
def nonceDraws : Nat := 512

/-- What a reset of every domain leaves: the Crock's contents and its bad-slot map, the balls and supplies, the straps as
they were, the level in effect before and the one pinned, what is kept since power-on; the rest at its reset value (R6, R311, R414). -/
def chipReset (s : State) : State :=
  let r : State := {}
  let y := r.sys
  let c := r.crock
  { r with
    freeIdx := s.freeIdx + nonceDraws
    pending := s.pending
    crock := { c with mem := s.crock.mem, bad := s.crock.bad, nvOk := s.crock.nvOk, fault := !s.crock.nvOk }
    cmd := { r.cmd with nonceBase := s.freeIdx }
    pair := { r.pair with tkoIn := s.pair.tkoIn, takeovers := s.pair.takeovers, primaryUid := s.pair.primaryUid,
                          primarySerial := s.pair.primarySerial }
    sys := { y with
      role := s.sys.role, addr := s.sys.addr, cl := s.sys.cl, clPinned := s.sys.clPinned, regen := s.sys.regen,
      pgood := s.sys.pgood, held := s.sys.held, railsOut := s.sys.railsOut, xtal := s.sys.xtal, fref := s.sys.fref,
      deadReg := s.sys.deadReg, gpio := s.sys.gpio, thermal := s.sys.thermal, dieTemp := s.sys.dieTemp,
      dieTemp2 := s.sys.dieTemp2, vconnMv := s.sys.vconnMv, refs := s.sys.refs } }

end Sys2Proof.Machine
end

