-- ==== Sys2Proof/Machine/EventRows.lean ====
section
/-!
DEFINITION. Machine/EventRows.lean: the meanings of the event path's commands: capture, queues, the event pipe and the
fabric-forward queue (R298–R309).
-/

namespace Sys2Proof.Machine

/-- DETECTOR_FIRE: a detector decides a happening (R298–R301, R306). Sources without a severity are never raised. -/
def detectorFire (src code : Nat) (data : BitVec 96) (s : State) : State :=
  if (evSevMax src).isNone then s else raise s src code data.toNat

def execDetectorFire (src code : Nat) (data : BitVec 96) (s : State) : Res := leaves s (detectorFire src code data s)

/-- A record of the chip that does not own the ports goes to its partner too, for delivery there (R226), with the number
its sideband queue gives it (R247). -/
def recordToPartner (s : State) (r : EvRec) : State :=
  if s.chipActive ∨ r.partner then s else sendSlow s [.record { r with qseq := s.ev.qsb.next }.bytes]

/-- CAPTURE_RELEASE: the first record in key order passes to its queues and the journal writer (R299). -/
def captureRelease (s : State) : State :=
  match s.ev.capture with
  | [] => s
  | r :: rs => deliverRec (recordToPartner { s with ev := { s.ev with capture := rs } } r) r

def execCaptureRelease (s : State) : Res := leaves s (captureRelease s)

/-- COALESCED_STORE: a queue with a free slot stores its oldest open entry, or a LOST record (R305). -/
def coalescedStore (i : QueueId) (s : State) : State :=
  s.modQueue i (fun q => q.drainCoal (queueCap i) s.now s.fab.nodeId
    (fun src => i == .sideband && bit (s.route src) 5 && bit (s.route src) 2))

def execCoalescedStore (q : QueueId) (s : State) : Res := leaves s (coalescedStore q s)

/-- The management function answers on its pipes: configured, enabled, its bus active (R41, R42, R44). -/
def mgmtPipes (s : State) (u : Up) : Bool :=
  let x := s.up u
  x.mgCfg != 0 && x.mgEnabled && !x.mgSuspended && x.bus == .active && x.link != .detached

/-- EVENT_PIPE_IN: the oldest records, 16 at HS or 2 at FS; NAK when there is none; a packet not ACKed is answered again
unchanged (R307). -/
def eventPipeIn (u : Up) (s : State) : State :=
  if !mgmtPipes s u then answer s u .none
  else
    let x := s.up u
    let q := s.queue (upQueue u)
    let n := if x.evOffered ≠ 0 then x.evOffered else min q.recs.length (if x.link = .hs then 16 else 2)
    if n = 0 then answer s u .nak
    else
      answer (s.modUp u (fun x => { x with evOffered := n })) u
        (.data x.evToggle ((q.recs.take n).flatMap EvRec.bytes))

def execEventPipeIn (u : Up) (s : State) : Res := leaves s (eventPipeIn u s)

/-- EVENT_PIPE_ACK: the records of the packet are freed (R307). -/
def eventPipeAck (u : Up) (s : State) : State :=
  let n := (s.up u).evOffered
  if n = 0 then s
  else
    (s.modQueue (upQueue u) (fun q => q.free 1024 n)).modUp u
      (fun x => { x with evOffered := 0, evToggle := !x.evToggle })

def execEventPipeAck (u : Up) (s : State) : Res := leaves s (eventPipeAck u s)

/-- Records stored while FAB_DEST was 0 count as sent once nothing waits before them (R309). -/
def passQuiet (s : State) : State :=
  s.modQueue .fabric (fun q => { q with sent := q.sent + ((q.recs.drop q.sent).takeWhile (·.quiet)).length })

/-- FAB_FORWARD_SEND: up to 32 waiting records leave as an EVENTS frame; without a route they count as sent (R309). -/
def fabForwardSend (s : State) : State :=
  let s := passQuiet s
  let q := s.ev.qfab
  let recs := ((q.recs.drop q.sent).takeWhile (fun r => !r.quiet)).take 32
  match recs with
  | [] => s
  | r :: _ =>
    if s.ev.fabDest = 0 then s
    else
      let s := s.modQueue .fabric (fun q => { q with sent := q.sent + recs.length })
      sendTo s 2 0x20 s.ev.fabDest (at_ 13 r.qseq.toNat) (recs.flatMap EvRec.bytes)

def execFabForwardSend (s : State) : Res := leaves s (fabForwardSend s)

/-- EVENTS_FRAME: with COLLECT the records are routed by REMOTE_ROUTE and merged; a gap in the sender's sequence is
fetched (R309). -/
def eventsFrame (src seq : Nat) (recs : List (List Byte)) (s : State) : State :=
  if !s.ev.collect then s
  else
    let gap := match s.expected src with
      | some e => (seq + 65536 - e) % 65536
      | none => 0
    let s := if 0 < gap ∧ gap < 32768 then askGap s src ((seq + 65536 - gap) % 65536) gap else s
    let s := setExpected s src (seq + recs.length)
    let rb := s.remoteByte
    recs.foldl (fun s b => mergeRec s { recOf b rb with remote := true }) s

def execEventsFrame (src seq : Nat) (recs : List (List Byte)) (s : State) : Res := leaves s (eventsFrame src seq recs s)

/-- Local records whose key stands before a remote record pass first (R309). -/
def passBefore (s : State) (r : EvRec) : State :=
  let first := s.ev.capture.takeWhile (fun x => keyLe x r)
  first.foldl deliverRec { s with ev := { s.ev with capture := s.ev.capture.drop first.length } }

/-- MERGE_HOLD_EXPIRY: the records held are merged among the node's own and stored (R309). -/
def mergeHoldExpiry (s : State) : State :=
  s.ev.merge.foldl (fun s r => deliverRec (passBefore s r) r) { s with ev := { s.ev with merge := [] } }

def execMergeHoldExpiry (s : State) : Res := leaves s (mergeHoldExpiry s)

/-- JOURNAL_FRAME: the events of the journal records received go to the writer's buffer (R258, R454). -/
def journalFrame (_src _seq : Nat) (recs : List (List Byte)) (s : State) : State :=
  recs.foldl (fun s b =>
    s.modQueue .journal (fun q => q.offer 256 { recOf (b.take 32) 0x10 with remote := true })) s

def execJournalFrame (src seq : Nat) (recs : List (List Byte)) (s : State) : Res := leaves s (journalFrame src seq recs s)

end Sys2Proof.Machine
end

