-- ==== Sys2Proof/Machine/PairOps.lean ====
section
/-!
DEFINITION. Machine/PairOps.lean: what a pair derives from its state, claiming, slow state and full sync, handover and
rejoin as shared operations (R226–R247, R276, R277).
-/

namespace Sys2Proof.Machine

/-! ### Derived (R231, R238, R246) -/

/-- ms of tREJOIN remaining (R246). -/
def State.rejoinLeft (s : State) : Nat :=
  match s.pair.rejoin with
  | some e => sat 16 ((e - s.ticks + 999999) / 1000000)
  | none => 0

/-- The 16-byte status block (R246); a single chip shows ROLE 0 and defaults (R384). -/
def pairStatusBytes (s : State) : List Byte :=
  let p := s.pair
  if !s.isPair then leBytes 16 (s.sys.role + at_ 6 15)
  else
    leBytes 16 (s.sys.role + at_ 2 p.st.code + at_ 6 (p.partner % 16) + at_ 10 (b2n p.ladle) + at_ 11 (b2n p.hbOk)
      + at_ 12 (b2n p.tkoIn) + at_ 13 (b2n p.tkoOut) + at_ 14 (b2n s.degraded) + at_ 15 (b2n s.frozen)
      + at_ 16 (b2n p.synced) + at_ 24 s.degradeCause + at_ 32 s.rejoinLeft + at_ 48 p.takeovers + at_ 64 p.lastDur
      + at_ 96 p.digests)

/-! ### Events (R247) -/

/-- Data of sources 433–435. -/
def pairData (s : State) (dur cause : Nat) : Nat :=
  sat 32 dur + at_ 32 s.pair.partial_ + at_ 64 cause + at_ 72 s.pair.st.code + at_ 76 (s.pair.partner % 16)
    + at_ 80 s.pair.partnerSeq

def raisePair (s : State) (src code : Nat) (dur cause : Nat := 0) : State := raise s src code (pairData s dur cause)

/-- A state of the pair changes. -/
def setPairSt (s : State) (x : PairSt) : State := { s with pair := { s.pair with st := x } }

/-- The pair becomes DEGRADED with a cause: a standby synchronises anew (R228, R233). -/
def degrade (s : State) (cause : Nat) : State :=
  { s with pair := { s.pair with
    cause := cause, synced := false, st := if s.pair.st = .standby then .syncing else s.pair.st } }

/-! ### Claiming (R232–R235) -/

/-- The chip claims: TKO_OUT active and TKO_IN sampled; a secondary that finds it active defers (R232, R233). -/
def claim (s : State) (byHand : Option Nat) : State :=
  let defer := s.pair.tkoIn && s.sys.role == 2
  { s with pair := { s.pair with
    st := if defer then .deferring else .claiming, tkoOut := !defer, byHand := byHand, resets := 0, psx := false,
    partial_ := 0 } }

/-- The partner is treated as hung: GPIO15 low for 5.0 µs (R232). -/
def resetPartner (s : State) : State :=
  let s := { s with pair := { s.pair with
    st := .partnerReset, resetOut := true, resetAt := s.ticks, resets := s.pair.resets + 1 } }
  raisePair s 435 3 0 2

/-- The partner's links are gone with it: an ACTIVE chip says so in the node's LSA (R236, R268). -/
def dropPartnerLinks (s : State) : State :=
  if s.pair.partnerLinks.isEmpty then s
  else
    let s := { s with pair := { s.pair with partnerLinks := [] } }
    if s.chipActive then announce s 0 else s

/-- The partner is declared lost (R230): a chip that listens claims, an ACTIVE one drives already (R233, R243). -/
def partnerGone (s : State) : State :=
  let s := { s with pair := { s.pair with
    hbOk := false, live := false, lost := true, partner := 15, rejoin := none, rejoinDone := false, synced := false } }
  let s := dropPartnerLinks (raisePair s 435 1 0 1)
  match s.pair.st with
  | .standby => claim s none
  | .syncing => claim s none
  | _ => s

/-! ### What survives (R234, R236, R237) -/

/-- Endpoints of a MUXED translated port that the mirror does not cover: those that hold data, or were drawn (R237). -/
def unmirrored (e : Ep) : Bool := e.addr % 128 != 0 && (!e.held.isEmpty || e.drawn)

/-- The port takes a row of R237 with a loss. -/
def losesData (s : State) (p : Nat) : Bool :=
  let q := s.port p
  let ss := decide (p ≤ 8) && linkConn (s.spe p).st
  let split := q.id.eff == .transparent && s.muxed p
    && (q.tt.np.any (fun (b : TtBuf) => b.res.isNone) || !q.tt.per.isEmpty)
  let mirror := q.id.eff == .translated && s.muxed p && (s.mirrorTransfer || s.degraded) && q.px.eps.any unmirrored
  ss || split || mirror

/-- Signalling that runs on a MUXED port is made anew: the SE0 of a reset or the K of a resume (R237). -/
def restartSignal (q : Port) : Port :=
  match q.dpe with
  | .resetting => { q with wire := .reset, chirp := 0 }
  | .resuming => { q with wire := .k }
  | _ => q

/-- A control transfer that was on the device's wire ends in STALL to the host. -/
def Ctrl.stalled (c : Ctrl) : Ctrl :=
  if c.active && c.forwarded && !c.statusReady && !c.later then { active := true, setup := c.setup, stall := true } else c

/-- Endpoints that the mirror does not cover restart at DATA0, by a ClearFeature(ENDPOINT_HALT) on the wire, and are halted to
the host; their held data is discarded and counted (R111, R237). -/
def loseTransfers (q : Port) : Port :=
  let lost := q.px.eps.filter unmirrored
  { q with
    discards := min 0xFFFFFFFF (q.discards + lost.foldl (fun n e => e.held.foldl (fun m b => m + b.length) n) 0),
    px := { q.px with
      clears := lost.map (·.addr), ctrl := q.px.ctrl.stalled,
      eps := q.px.eps.map (fun e => if unmirrored e then { e.discard with wireTog := false, halted := true } else e) } }

/-- What the survivor finds on one port (R237): on a MUXED port signalling starts again, splits in flight are lost, and so
are the transfers that the mirror does not cover. -/
def survivePort (s : State) (p : Nat) : State :=
  if !s.muxed p then s
  else
    s.modPort p (fun q =>
      let q := restartSignal q
      match q.id.eff with
      | .transparent =>
        { q with tt := { q.tt with np := q.tt.np.filter (fun (b : TtBuf) => b.res.isSome), per := [], run := none } }
      | .translated => if s.mirrorTransfer || s.degraded then loseTransfers q else q)

/-- A trained SuperSpeed link goes through Recovery, and the header packets held are lost (R237). -/
def surviveLink (s : State) (n : Nat) : State :=
  let s := if n ≤ 8 then s.modSpe n (fun e => { e with upBuf := [], downBuf := [] }) else s
  match linkOf s n with
  | .u0 => setLinkN s n .recovery false
  | .u1 => setLinkN s n .recovery false
  | .u2 => setLinkN s n .recovery false
  | .u3 => setLinkN s n .recovery false
  | .hotReset => setLinkN s n .recovery false
  | _ => s

/-- The setpoint and OPERATION that a converter was given last are written again (R234 step 7). -/
def rewriteConverter (s : State) (n : Nat) : State :=
  if (s.conv n).vout = 0 then s else setOp (setVout s n (s.conv n).vout) n (s.conv n).on

/-- A PMBus segment is recovered: nothing is left on it (R170, R234 step 7). -/
def recoverSeg (s : State) (b : Bool) : State := s.modSeg b (fun g => { g with cur := none, pulses := 0 })

/-- The seals on a proxied device are re-armed (R337). -/
def rearmSeals (s : State) (l : Loc) : State :=
  s.modPx l (fun x => { x with eps := x.eps.map (fun e => { e with seals := [] }) })

/-- Drivers on, gates and PMBus back under control, links into Recovery, and the chip's fabric links ACTIVE in the node's LSA
(R234 steps 5–7, R237, R268). -/
def takeOver (s : State) : State :=
  let lost := mapBits (ports32.map (fun p => losesData s p))
  let s := { s with pair := { s.pair with partial_ := lost } }
  let s := ports32.foldl survivePort (lendLocs.foldl rearmSeals s)
  let s := ((List.range 10).map (· + 1)).foldl surviveLink s
  announce (reclaim (allPorts.foldl rewriteConverter (recoverSeg (recoverSeg s false) true)) 0) 0

/-- The wire work that a takeover leaves a port with begins (R237). -/
def startClears (s : State) (p : Nat) : State :=
  if (s.port p).dpe = .enabled ∧ !(s.port p).px.ctrl.onWire then nextClear s p else s

/-- A PDE that awaits a GoodCRC sends its message again with the same MessageID (R236). -/
def resendPd (s : State) (n : Nat) : State :=
  let d := s.pde n
  if d.tx.isSome && decide (d.retries < nRetry d) then s.modPde n (fun d => { d with retries := d.retries + 1 }) else s

/-- Every lend's tunnel is resynchronised (R122, R236). -/
def resyncLends (s : State) : State :=
  let s := ports32.foldl (fun s p => if (s.port p).tun.vport ≠ 0 then sendResync s (.phys p) else s) s
  let one (u : Up) (s : State) (v : Nat) : State :=
    if (s.vport u v).shown then sendResync s (.virt u v) else s
  vportNumbers.foldl (one .b) (vportNumbers.foldl (one .a) s)

/-! ### Slow state (R226, R239, R241) -/

/-- The entry of the identity map read back (R101). -/
def identOf (b : List Byte) : Ident :=
  let v := leNat (b.take 16)
  let m (x : Nat) : Mode := if x = 1 then .translated else .transparent
  let o : Owner := match bits v 10 8 with | 1 => .upB | 2 => .lent | 3 => .parked | 4 => .mgmt | _ => .upA
  let st : Life := match bits v 7 4 with
    | 1 => .filling | 2 => .presented | 3 => .live | 4 => .draining | 5 => .parked | 6 => .refilling | _ => .vacant
  { mode := m (bits v 1 0), eff := m (bits v 3 2), st := st, owner := o, home := if bit v 11 then .b else .a,
    fallback := bits v 15 12, hostAddr := bits v 22 16, wireAddr := bits v 30 24, hostCfg := bits v 39 32,
    lendNode := bits v 47 40, lendVport := bits v 53 48, lendUp := if bit v 54 then .b else .a,
    speed := speedOf (bits v 57 56), cacheLen := bits v 79 64, generation := BitVec.ofNat 16 (bits v 95 80),
    cacheCrc := BitVec.ofNat 32 (bits v 127 96) }

/-- DPE states in the order of R71. -/
def dpeOf (n : Nat) : Dpe :=
  match n with
  | 1 => .disconnected | 2 => .disabled | 3 => .resetting | 4 => .enabled | 5 => .sleeping | 6 => .suspended
  | 7 => .resuming | 8 => .testing | _ => .unpowered

/-- The pair settings of the partner (R221, R245). Until the chips are synced each compares them with its own, a PAIR_WIRE
that differs raises source 442, and the secondary takes the primary's, ACTIVE or not; from then on the chip that does not own
the ports takes what the ACTIVE one sets. -/
def slowPairSet (s : State) (bs : List Byte) : State :=
  if s.pair.synced then (if s.chipActive then s else applyBlock s 0x0602 0 bs)
  else
    let own := s.pair.set.wire
    let theirs := bits (leNat (bs.take 8)) 55 24
    let s := if own ≠ theirs then raise s 442 3 (own % 256 + at_ 8 (theirs % 256)) else s
    if s.sys.role = 2 then applyBlock s 0x0602 0 bs else s

/-- The node's ID as the chip that owns the ports claims it; an ID in effect is kept in this chip's Crock too (R19, R20,
R266). -/
def slowClaim (s : State) (id nodeId : Nat) (fixed tentative : Bool) : State :=
  let was := s.fab.nodeId
  let s := { s with fab := { s.fab with
    claim := id % 256, nodeId := nodeId % 256, fixed := fixed, tentative := tentative,
    changed := if nodeId % 256 = was then s.fab.changed else some (s.fab.changed.getD 0) } }
  if nodeId % 256 = was ∨ nodeId % 256 = 0 then s else setPaired s plNode (nodeId % 256)

/-- Link states in the order of R92. -/
def linkAt (n : Nat) : Link :=
  match n with
  | 0 => .u0 | 1 => .u1 | 2 => .u2 | 3 => .u3 | 5 => .rxDetect | 6 => .ssInactive | 7 => .polling | 8 => .recovery
  | 9 => .hotReset | 10 => .compliance | 11 => .loopback | _ => .ssDisabled

/-- A SuperSpeed link as the chip that owns it tells (R237). -/
def slowSpe (s : State) (n link : Nat) (gen2 : Bool) : State :=
  if n ≤ 8 then s.modSpe n (fun e => { e with st := linkAt link, gen2 := gen2 })
  else s.modUp (upOfSpe n) (fun x => { x with ssLink := linkAt link, ssGen2 := gen2 })

/-- The wire-derived state of port p (R225, R227). -/
def portItem (s : State) (p : Nat) : SlowItem :=
  let q := s.port p
  .port p q.addr q.dpe.code q.id.speed.code (q.px.eps.map (fun e => (e.addr, e.hostTog, e.wireTog, e.held)))

/-- The endpoint takes the state that the list gives its address. -/
def askedEp (eps : List (Nat × Bool × Bool × List (List Byte))) (e : Ep) : Ep :=
  match eps.find? (fun x => x.1 == e.addr) with
  | some x => { e with hostTog := x.2.1, wireTog := x.2.2.1, held := x.2.2.2 }
  | none => e

/-- The settings blocks of ports 1–34 for one SET command. -/
def portBlocks (op : Nat) (f : Nat → List Byte) : List SlowItem := allPorts.map (fun n => SlowItem.block op n (f n))

/-- The regions of the plan in force. -/
def regionItems (s : State) : List SlowItem :=
  s.plan.regions.mapIdx (fun i r => SlowItem.region (i == 0) r.kind r.owner r.ownerUp r.first r.pages)

/-- A virtual port and its half of the lend. -/
def vportItems (s : State) (u : Up) (v : Nat) : List SlowItem :=
  let x := s.vport u v
  [.vport u v x.used x.shown x.hidden x.homePort (identBytes x.id) x.cache x.numCfgs x.px.alts,
   .lend (.virt u v) x.tun.node x.tun.up x.tun.vport x.tun.route]

/-- All slow state, as a full sync carries it (R226). -/
def slowState (s : State) : List SlowItem :=
  regionItems s
    ++ ports32.map (fun p =>
      let q := s.port p
      SlowItem.ident p (identBytes q.id) q.cache q.numCfgs q.px.alts)
    ++ ports32.map (fun p =>
      let t := (s.port p).tun
      SlowItem.lend (.phys p) t.node t.up t.vport t.route)
    ++ vportNumbers.flatMap (vportItems s .a) ++ vportNumbers.flatMap (vportItems s .b)
    ++ allPorts.map (fun n => SlowItem.alloc n (s.pb n).alloc (s.pb n).pinSusp (s.pb n).shed)
    ++ portBlocks 0x0303 (pdSetBytes s) ++ portBlocks 0x0401 (fun n => ppcBytes (s.ppc n))
    ++ portBlocks 0x0505 (pbaBlock s)
    ++ [.block 0x0503 0 (globalBlock s), .block 0x0501 0 (feedBlock s.feedA.set), .block 0x0501 1 (feedBlock s.feedB.set),
        .block 0x0602 0 (pairSetBytes s), .block 0x0702 0 (fabricSetBytes s), .block 0x0805 0 (eventSetBytes s),
        .block 0x0902 0 (timeSetBytes s), .profile s.sys.profile.code, .clPin s.sys.clPinned,
        .claim s.fab.claim s.fab.nodeId s.fab.fixed s.fab.tentative, .links (ownLinks s)]
    ++ ((List.range 10).map (· + 1)).map (fun n =>
      SlowItem.spe n (linkOf s n).code (if n ≤ 8 then (s.spe n).gen2 else (s.up (upOfSpe n)).ssGen2))
    ++ (if s.sys.role = 1 then [.primary Config.uid.toNat s.serialStr] else [])

/-- What a chip that does not own the ports tells its partner: its pair settings (R221), its fabric links (R20, R268), and
the primary's identity (R239). -/
def ownItems (s : State) : List SlowItem :=
  [.block 0x0602 0 (pairSetBytes s), .links (ownLinks s)]
    ++ (if s.sys.role = 1 then [.primary Config.uid.toNat s.serialStr] else [])

/-- What the chip tells its partner of its slow state. -/
def slowNow (s : State) : List SlowItem := if s.chipActive then slowState s else ownItems s

/-- A full sync leaves for the partner (R226, R277). -/
def sendSync (s : State) : State :=
  if s.pair.ladle then
    sendLadle { s with pair := { s.pair with sent := slowState s, told := slowState s, toldMirror := [] } } 2 0x3A 0 []
  else s

def isRegion : SlowItem → Bool
  | .region _ _ _ _ _ _ => true
  | _ => false

/-- The items that differ from those told last; a plan goes as a whole. -/
def slowChanges (now told : List SlowItem) : List SlowItem :=
  (if now.filter isRegion = told.filter isRegion then [] else now.filter isRegion)
    ++ now.filter (fun x => !isRegion x && !told.contains x)

/-- Line states of MUXED translated ports, tunnel numbers, and what virtual ports hold (R226). -/
def mirrorNow (s : State) : List MirrorItem :=
  let tunnel (l : Loc) : List MirrorItem :=
    let t := s.tun l
    if t.vport = 0 then [] else [.tunnel l t.txSeq.toNat t.rxSeq.toNat]
  let borrowed (u : Up) (v : Nat) : List MirrorItem :=
    (s.vport u v).px.eps.map (fun e => MirrorItem.endpoint (.virt u v) e.addr e.wireTog e.held)
  (ports32.filter (fun p => s.muxed p && (s.port p).id.eff == .translated)).map
      (fun p => MirrorItem.line p (s.port p).dpe.code (s.port p).busSusp)
    ++ lendLocs.flatMap tunnel ++ vportNumbers.flatMap (borrowed .a) ++ vportNumbers.flatMap (borrowed .b)

/-- Slow state and mirror entries that have changed leave for the partner (R226). The model gives the Ladle's queues their
turn when no command waits (DESIGN CHOICE, log entry 63). -/
def shareState (s : State) : State :=
  if !s.isPair || !s.pair.ladle then s
  else
    let now := slowNow s
    let d := slowChanges now s.pair.told
    let s := if d.isEmpty then s else sendSlow { s with pair := { s.pair with told := now } } d
    if !s.mirrors then s
    else
      let m := mirrorNow s
      let d := m.filter (fun x => !s.pair.toldMirror.contains x)
      if d.isEmpty then s else sendMirror { s with pair := { s.pair with toldMirror := m } } d

/-- The block with no command to take: TIME goes on, and the Ladle carries what has changed (log entries 5 and 63). -/
def rest (s : State) : State := shareState (idle s)

/-- What the partner tells of the primary (R239, R268): its serial string is used by a secondary; one that differs from the
own BDI's raises source 442. -/
def slowPrimary (s : State) (uid : Nat) (serial : List Byte) : State :=
  if s.sys.role ≠ 2 then s
  else
    let s := if s.pair.primarySerial.isNone ∧ !s.sys.serial.isEmpty ∧ s.sys.serial ≠ serial
      then raise s 442 4 (s.sys.serial.length / 2 + at_ 8 (serial.length / 2)) else s
    { s with pair := { s.pair with primaryUid := some uid, primarySerial := some serial } }

/-- One item of slow state received (R226, R227, R239, R241, R385). What only the ACTIVE chip owns is not overwritten by a
standby. -/
def slowItem (s : State) (x : SlowItem) : State :=
  let mine := s.chipActive
  match x with
  | .region first kind owner ownerUp page pages =>
    if mine then s
    else
      let r : Region := { kind := kind, owner := owner, ownerUp := ownerUp, first := page, pages := pages }
      { s with plan := { s.plan with regions := sortRegions (r :: (if first then [] else s.plan.regions)) } }
  | .ident p entry cache cfgs alts =>
    if mine then s
    else s.modPort p (fun q => { q with
      id := identOf entry, cache := cache, numCfgs := cfgs, cacheOk := !cache.isEmpty, px := { q.px with alts := alts } })
  | .alloc n watts pinSusp shed =>
    if mine then s
    else s.modPb n (fun b => { b with alloc := watts, target := watts, pinSusp := pinSusp, shed := shed })
  | .block opcode sel bytes =>
    if opcode = 0x0602 then slowPairSet s bytes else if mine then s else applyBlock s opcode sel bytes
  | .profile n =>
    if mine then s
    else
      let p : Profile := match n with | 1 => .guarded | 2 => .throughput | 3 => .economy | _ => .balanced
      profileModes { s with sys := { s.sys with profile := p } }
  | .clPin n =>
    if mine then s
    else
      let s := { s with sys := { s.sys with clPinned := n } }
      if n = 0 then s else setPaired s plLevel n
  | .record bytes =>
    let r := recOf bytes 0
    captureRec { s with pair := { s.pair with partnerSeq := r.qseq.toNat } } { r with rb := s.route r.source, partner := true }
  | .command c => { s with cmd := { s.cmd with queue := s.cmd.queue ++ [c] } }
  | .response u bytes => storePipe s u bytes
  | .cached tr tag opcode crc at_ bytes =>
    s.modTr tr (fun t => { t with
      cache := (({ tag := tag, opcode := opcode, crc := crc, at_ := at_, resp := bytes } : Cached) :: t.cache).take 16 })
  | .nonce tr value => s.modTr tr (fun t => { t with start := some value, accepted := 0 })
  | .primary uid serial => slowPrimary s uid serial
  | .links ls => { s with pair := { s.pair with partnerLinks := ls } }
  | .firmware ms =>
    { s with pair := { s.pair with partnerFw := if ms = 0 then none else some (s.ticks + ms * 1000000) } }
  | .port p addr dpe speed eps =>
    if mine then s
    else s.modPort p (fun q => { q with
      addr := addr, dpe := dpeOf dpe, id := { q.id with speed := speedOf speed },
      px := { q.px with eps := q.px.eps.map (askedEp eps) } })
  | .ask p => if mine then sendSlow s [portItem s p] else s
  | .askSync => if mine then sendSync s else s
  | .claim id nodeId fixed tentative => if mine then s else slowClaim s id nodeId fixed tentative
  | .spe n link gen2 => if mine then s else slowSpe s n link gen2
  | .lend l node up vport route =>
    if mine then s
    else s.modTun l (fun t => { t with node := node, own := s.fab.nodeId, up := up, vport := vport, route := route })
  | .vport u v used shown hidden home entry cache cfgs alts =>
    if mine then s
    else s.modVPort u v (fun x => { x with
      used := used, shown := shown, hidden := hidden, homePort := home, id := identOf entry, cache := cache,
      numCfgs := cfgs, px := { x.px with alts := alts } })

/-! ### Handover and rejoin (R240–R242, R385) -/

/-- The partner stands ready to take over (R240, R385). -/
def partnerReady (s : State) : Bool := s.pair.partner == 3 && !s.frozen && !s.degraded

/-- A handover starts to wait for its quiet point, or the request joins the one that waits (R240, R385). -/
def startHandover (s : State) (rejoin : Bool) (wait : Option Nat) : State :=
  let h := s.pair.hand.getD { rejoin := rejoin }
  { s with pair := { s.pair with hand := some { h with waits := h.waits ++ wait.toList } } }

/-- Ports return to a rejoined primary when every condition holds; otherwise REJOIN_HELD once (R242; log entry 32). -/
def rejoinCheck (s : State) : State :=
  if !s.pair.rejoinDone || s.pair.lost || s.pair.st != .active || s.frozen then s
  else if s.sys.role = 2 ∧ s.pair.set.prefer ∧ partnerReady s ∧ s.pair.synced then
    if s.pair.hand.isNone then startHandover s true none else s
  else if s.pair.held then s
  else raisePair { s with pair := { s.pair with held := true } } 434 6

/-- An insertion: the first valid heartbeat edge after a loss starts tREJOIN again (R242). -/
def insertion (s : State) : State :=
  raisePair { s with pair := { s.pair with
    lost := false, rejoin := some (s.ticks + 10000000000), rejoinDone := false, held := false, hbOk := true } } 434 1

/-- The commands waiting for a handover complete; a CHIP_RESET and a HANDOVER may answer differently (R364, R385). -/
def endHandWaits (s : State) (f : Cmd → Resp) : State :=
  match s.pair.hand with
  | none => s
  | some h =>
    h.waits.foldl (fun s w =>
      match s.cmd.waits.find? (·.num == w) with
      | some x => finishWait s w (f x.cmd)
      | none => s) { s with pair := { s.pair with hand := none } }

/-- The transport moves with ownership: a management function's or a fabric node's (R241). -/
def movesWith : Transport → Bool
  | .usb _ => true
  | .fabric _ => true
  | _ => false

/-- What the transports hold goes with the handover frame (R241): commands not started, the HANDOVER that waits, responses
not read, caches and NONCEs. -/
def movedItems (s : State) : List SlowItem :=
  let waiting := (s.cmd.waits.filter (fun w => movesWith w.cmd.tr)).map (fun w => SlowItem.command w.cmd)
  let queued := (s.cmd.queue.filter (fun c => movesWith c.tr)).map SlowItem.command
  let resp (u : Up) := (s.up u).respPipe.map (SlowItem.response u)
  let trs := s.cmd.trs.filter (fun t => movesWith t.tr)
  waiting ++ queued ++ resp .a ++ resp .b
    ++ (trs.map (fun t => t.cache.map (fun x => SlowItem.cached t.tr x.tag x.opcode x.crc x.at_ x.resp))).flatten
    ++ trs.map (fun t => SlowItem.nonce t.tr (s.nonce t.tr))

/-- They are the partner's from then on. -/
def dropMoved (s : State) : State :=
  let s := { s with cmd := { s.cmd with
    queue := s.cmd.queue.filter (fun c => !movesWith c.tr), waits := s.cmd.waits.filter (fun w => !movesWith w.cmd.tr),
    trs := s.cmd.trs.map (fun (t : TrState) => if movesWith t.tr then { t with cache := [], asm := none } else t) } }
  (s.modUp .a (fun x => { x with respPipe := [] })).modUp .b (fun x => { x with respPipe := [] })

/-- DELAY of a CHIP_RESET, ms (R364). -/
def resetDelay (c : Cmd) : Nat := ((par 0 16 10 1 1000).read c.params).1

/-- A CHIP_RESET that waited for the handover: its response is stored and the reset is due DELAY later (R364). -/
def dueReset (s : State) (h : Hand) : State :=
  h.waits.foldl (fun s w =>
    match s.cmd.waits.find? (·.num == w) with
    | some x =>
      if x.cmd.opcode = 0x0003 then
        finishWait { s with sys := { s.sys with resetDue := some (s.ticks + resetDelay x.cmd * 1000000) } } w (.ok [])
      else s
    | none => s) s

end Sys2Proof.Machine
end

