-- ==== Sys2Proof/Machine/WindowOps.lean ====
section
/-!
DEFINITION. Machine/WindowOps.lean: the status bytes that the sideband window and SYS_STATUS share, and the window's 256
bytes (R353).
-/

namespace Sys2Proof.Machine

/-- BOOT_STATUS (R353, SW 0x10). -/
def bootStatus (s : State) : Nat :=
  let y := s.sys
  b2n y.bootDone + at_ 1 (b2n y.fwUp) + at_ 2 (b2n y.bankB) + at_ 3 (b2n (y.image == some 1)) + at_ 4 (b2n y.image.isSome)
    + at_ 5 (b2n y.selfTestFailed) + at_ 6 (b2n y.wakeFail) + at_ 7 (b2n y.clockFallback)

/-- It came by a sideband transport. -/
def isSideband : Transport → Bool
  | .smbus => true | .spi => true | _ => false

/-- Sideband commands that wait (R354). -/
def sidebandWaiting (s : State) : Nat := (s.cmd.queue.filter (fun c => isSideband c.tr)).length

/-- IRQ_SUM (R353, SW 0x28). -/
def irqSum (s : State) : Nat :=
  b2n (s.ev.qsb.recs.any (·.irq)) + at_ 1 (b2n (decide (128 ≤ s.cmd.mb.mboCtrl))) + at_ 2 (b2n s.sys.wakeFail)
    + at_ 3 (b2n (decide (sidebandWaiting s < 4))) + at_ 4 (b2n s.sys.fw.isSome) + at_ 5 (b2n s.crock.fault)
    + at_ 6 (b2n s.degraded) + at_ 7 (b2n s.pba.ew)

/-- The stepping's byte (R353, SW 0x03). -/
def stepping : Nat := 0xA1

/-- Window bytes 0x00–0x3F, as a transaction latches them (R353). -/
def windowHead (s : State) (pstate : Nat) : List Byte :=
  leBytes 2 0x3248 ++ leBytes 1 1 ++ leBytes 1 stepping ++ leBytes 1 s.sys.cl ++ leBytes 1 (s.sys.role + 4 * s.sys.addr)
    ++ leBytes 1 s.fab.nodeId ++ leBytes 1 pstate ++ leBytes 8 Config.uid.toNat
    ++ leBytes 1 (bootStatus s) ++ leBytes 1 s.sys.bootStage ++ leBytes 4 (s.paired plBoot) ++ zeros 2
    ++ leBytes 8 (s.nonce .smbus) ++ leBytes 8 (s.nonce .spi)
    ++ leBytes 1 (irqSum s) ++ leBytes 1 s.cmd.mb.alertEn ++ leBytes 2 s.ev.qsb.recs.length ++ leBytes 2 s.ev.qsb.next.toNat
    ++ leBytes 2 (uns 16 s.die)
    ++ leBytes 2 s.pba.budget ++ leBytes 1 (s.pair.st.code + at_ 4 (b2n s.degraded)) ++ zeros 1
    ++ leBytes 2 s.cmd.mb.mboDrops ++ zeros 10

/-- The whole window (R353). -/
def windowBytes (s : State) : List Byte :=
  let m := s.cmd.mb
  windowHead s s.pstateCode
    ++ leBytes 1 m.mbiCtrl ++ leBytes 1 m.mbiLen ++ leBytes 1 m.mbiAck ++ zeros 1 ++ m.mbiData
    ++ leBytes 1 m.mboCtrl ++ leBytes 1 m.mboLen ++ zeros 1 ++ leBytes 1 m.mboAck ++ m.mboData

/-- SMB_ALERT_N is low (R353, R355). -/
def alertLow (s : State) : Bool :=
  decide (s.cmd.mb.alertHigh ≤ s.ticks) && ((irqSum s).land s.cmd.mb.alertEn != 0)

end Sys2Proof.Machine
end

