-- ==== Sys2Proof/Machine/SystemOps.lean ====
section
/-!
DEFINITION. Machine/SystemOps.lean: wake sources, the conditions of DOZE and HIBERNATE, retention banks, resets of the
domains and the cold boot as shared operations (R414–R442, R469–R474).
-/

namespace Sys2Proof.Machine

/-! ### Wake sources (R424–R427) -/

/-- REGEN is driven high for the first attempt of a sequence (R426 step 1, R427). -/
def startSequence (s : State) : State :=
  { s with sys := { s.sys with regen := true, waking := true, attempts := 1, failRail := none } }

/-- A wake source fires: it starts one sequence, and nothing while one runs (R425). After WAKE_FAIL it starts a further
three attempts (R427). -/
def wakeSource (s : State) : State :=
  if s.sys.waking then s
  else
    match s.sys.pstate with
    | .hibernate => startSequence s
    | .doze => wakeDoze s
    | _ => if s.sys.wakeFail ∧ s.sys.held = .rails then startSequence s else s

/-! ### Conditions of R417 and R419 -/

/-- The upstream lets the chip doze: suspended or without a connection on both its hub functions. -/
def upQuiet (x : Upstream) : Bool :=
  (x.bus == .suspended || x.link == .detached)
    && (match x.ssLink with | .u3 => true | .ssDisabled => true | .rxDetect => true | .ssInactive => true | _ => false)

/-- No TT or proxy region of the port holds data. -/
def portEmpty (q : Port) : Bool :=
  q.tt.np.isEmpty && q.tt.per.isEmpty && q.px.heldBytes == 0 && !q.px.ctrl.active && !q.px.ctrl.wireOnly

/-- A downstream port lets the chip doze. -/
def portQuiet (q : Port) : Bool :=
  (match q.dpe with
    | .suspended => true | .disabled => true | .disconnected => true | .unpowered => true
    | .enabled => q.busSusp | _ => false)
    && !(q.id.eff == .translated && q.id.st != .vacant && (q.id.owner == .parked || q.id.owner == .mgmt))
    && portEmpty q && q.fill.isNone && q.drain.isNone && q.id.owner != .lent

/-- A downstream SuperSpeed link lets the chip doze. -/
def speQuiet (e : Spe) : Bool := match e.st with | .u3 => true | .ssDisabled => true | .rxDetect => true | _ => false

/-- No command executes or waits, and no mailbox message is unacknowledged. -/
def commandsQuiet (s : State) : Bool :=
  s.cmd.queue.isEmpty && s.cmd.waits.isEmpty && s.cmd.fwd.all (·.done)
    && decide (s.cmd.mb.mboCtrl < 128)

/-- The conditions of R417 but for DOZE_EN and the time. The ACTIVE chip of a pair decides; its standby follows. -/
def quiet (s : State) : Bool :=
  if s.isPair && !s.chipActive then true
  else
    upQuiet s.upA && upQuiet s.upB && s.ports.all portQuiet && s.spes.all speQuiet
      && s.vpA.all (fun v => !v.used) && s.vpB.all (fun v => !v.used) && commandsQuiet s && !s.degraded
      && s.pair.st != .handingOver

/-- The conditions of R419 beyond those of R417. -/
def hibQuiet (s : State) : Bool :=
  s.upA.link == .detached && s.upB.link == .detached && (s.pde 33).cc != .attachedSrc && (s.pde 34).cc != .attachedSrc
    && !s.inDeadFeed

/-! ### Retention banks (R431–R433) -/

/-- Banks written at entry to DOZE (R431). -/
def dozeBanks (s : State) : List Nat :=
  List.range 10 ++ (if s.sys.power.dozeSleep then [10, 11] else []) ++ [14, 15]

/-- Source 424. -/
def bankEvent (s : State) (code bank map : Nat) : State := raise s 424 code (bank + at_ 32 map)

/-- Owner, HOME_UP and MODE of a port from the BDI, or the built-in defaults with none (R433, R503). -/
def reinitEntry (s : State) (p : Nat) : State :=
  match s.sys.image with
  | some i => setPortEntry s p (section_ s i (0x100 + 16 * (p - 1)) 16)
  | none =>
    profileModes (s.modPort p (fun q => { q with modeSet := false, id := { q.id with owner := .upA, home := .a } }))

/-- A port whose bank failed in DOZE: a TRANSPARENT one is DISCONNECTED, a TRANSLATED one fills anew; VBUS is kept and the
owner sees C_PORT_CONNECTION (R433). -/
def reinitPort (s : State) (p : Nat) : State :=
  let q := s.port p
  let had := q.dpe != .unpowered && q.dpe != .disconnected
  let s := reinitEntry s p
  if q.dpe = .unpowered then s
  else
    let s := loseDevice s p .disconnected
    let s := setEff s p (effMode s p)
    let s := if had ∧ (s.port p).id.eff = .translated then
        startFill (s.modPort p (fun x => { x with id := { x.id with speed := q.id.speed } })) p
      else s
    setChange s p (fun v => { v with cConn := true })

/-- The records of a port whose bank failed in HIBERNATE (R433). -/
def reinitRecords (s : State) (p : Nat) : State :=
  (reinitEntry s p).modPpc p (fun q =>
    { q with trips := 0, tripAt := s.ticks, cool := q.set.tcool, meter := { q.meter with energy := 0, energyIn := 0, wraps := 0 } })

/-- Links start from ACQUIRE, the node ID is the Crock's, time acquires, lends end (R433 banks 10 and 11). -/
def reinitFabric (s : State) : State :=
  let s := linkNumbers.foldl (fun s l =>
    let s := unusable s l
    s.modLink l (fun k => { k with st := if k.st = .disabled then .disabled else .acquire, sleepReq := false })) s
  let id := s.paired plNode % 256
  let s := { s with fab := { s.fab with nodeId := id, claim := id, fixed := false, tentative := false } }
  let s := ports32.foldl (fun s p => if (s.port p).id.owner = .lent then endLend s p 10 else s) s
  let s := vportNumbers.foldl (fun s v => freeVPort (freeVPort s .a v) .b v) s
  setSync s .acquiring

/-- Settings are the BDI's again (R433 banks 12 and 13). -/
def reinitSettings (s : State) : State :=
  match s.sys.image with
  | none => s
  | some i =>
    let s := applyPorts (applyPorts (applyPorts s i 0x340 16 0x0401) i 0x560 8 0x0303) i 0x680 8 0x0505
    applyBlock (applyBlock (applyBlock s 0x0503 0 (section_ s i 0x790 16)) 0x0501 0 (section_ s i 0x7A0 16))
      0x0501 1 (section_ s i 0x7B0 16)

/-- The MPC starts its firmware afresh: commands in execution are answered INTERNAL, waiting ones BUSY (R358); source 428
STARTED, and the partner learns of it (R407). -/
def freshFirmware (s : State) (b : Bool) (cause : Nat) : State :=
  let s := s.cmd.waits.foldl (fun s w => respond s w.cmd (.fail stInternal)) { s with cmd := { s.cmd with waits := [] } }
  let s := s.cmd.queue.foldl (fun s c => respond s c (.fail stBusy 1 300)) { s with cmd := { s.cmd with queue := [] } }
  let s := startBank { s with sys := { s.sys with fwRestarts := min 65535 (s.sys.fwRestarts + 1) } } b cause false
  tellFirmware (fwEvent s 1 cause 0) 300

/-- The firmware was started at this very instant, or the ROM runs. -/
def justStarted (s : State) : Bool :=
  s.sys.romOnly || (match s.sys.fw with | some f => f.at_ == s.ticks | none => false)

/-- A failed bank as on a single chip (R433); source 424 REINITIALISED with the map of its ports. -/
def reinitBank (s : State) (bank : Nat) (hib : Bool) : State :=
  let ps := (List.range 4).map (fun k => 4 * bank + 1 + k)
  let map := if bank < 8 then 0xF * 16 ^ bank else 0
  let s := bankEvent s 2 bank map
  if bank < 8 then ps.foldl (if hib then reinitRecords else reinitPort) s
  else if bank < 10 then (if hib then s else upstreamConnectionLost (if bank = 8 then .a else .b) s)
  else if bank < 12 then reinitFabric s
  else if bank < 14 then (if hib then reinitSettings s else s)
  else if justStarted s then s
  else freshFirmware s s.sys.bankB 2

/-- The banks are checked in bank order; a failed one of 0–13 of a pair waits for the partner's copy (R426, R432, R433). -/
def checkBanks (s : State) (failed : List Nat) (hib : Bool) : State :=
  (s.sys.banks.filter (fun b => failed.contains b)).foldl (fun s b =>
    let s := { s with sys := { s.sys with retFails := min 0xFFFFFFFF (s.sys.retFails + 1) } }
    if s.isPair ∧ b < 14 then { s with sys := { s.sys with bankWait := s.sys.bankWait ++ [(b, hib)] } }
    else reinitBank s b hib) s

/-! ### The AON buffer (R421, R427) -/

/-- The buffer's records are delivered in TIME order, then LOST if any were counted (R421). -/
def deliverAon (s : State) : State :=
  let n := s.sys.aonLost
  let s := s.sys.aonBuf.foldl captureRec { s with sys := { s.sys with aonBuf := [], aonLost := 0 } }
  if n = 0 then s else raise s 431 3 n

/-! ### HIBERNATE (R420, R421, R426) -/

/-- A power path is off and discharged, its PDE stopped (R420 steps 1 and 2); an upstream presents the dead-battery Rd
(R421). -/
def hibernatePort (s : State) (n : Nat) : State :=
  let s := (pdForget (pdStop s n) n).modPde n (fun d => { d with
    cc := if isUp n then .deadBattery else .idle, vconn := false, swap := none })
  let s := s.modPpc n (fun q => { q with
    st := .off, req := false, pg := false, dsch := false, gsnk := false, under := false, ovSeen := false, retryWait := false })
  linkDown s n

/-- CC layer of a port as it starts (R130, R134, R138). -/
def ccStart (s : State) (n : Nat) : Cc :=
  if isUp n then .unattachedSnk else if (s.pde n).ccUse = 0 then .idle else .unattachedSrc

/-- A port attaches afresh and regains VBUS (R426 step 7). -/
def attachAfresh (s : State) (n : Nat) : State :=
  tryOn (s.modPde n (fun d => { d with cc := ccStart s n, swap := none, attachSrc := false })) n

/-- Entry to HIBERNATE (R420): power off, links down or asleep, banks and the window's copy taken, REGEN low. -/
def hibernate (s : State) : State :=
  let s := allPorts.foldl hibernatePort s
  let s := linkNumbers.foldl (fun s l => if (s.link l).st = .up then enterSleep s l else s) s
  { s with
    sys := { s.sys with pstate := .hibernate, regen := false, pgood := false, waking := false, attempts := 0,
                        banks := List.range 16, hibAt := s.ticks }
    feedA := { s.feedA with gate := false }, feedB := { s.feedB with gate := false }
    cmd := { s.cmd with mb := { s.cmd.mb with hibCopy := windowHead s (PState.code .hibernate) } }
    pair := { s.pair with hbOut := false, hbOk := false, live := false, ladle := false, detectOff := s.isPair } }

/-- The successful wake sequence from HIBERNATE (R426 steps 4–7). The endpoint store has lost its contents (R413). -/
def wakeUp (s : State) (failed : List Nat) : State :=
  let s := { s with
    sys := { s.sys with pstate := .active, pgood := true, waking := false, attempts := 0, wakeFail := false }
    pair := { s.pair with hbOut := s.isPair && s.pair.st != PairSt.boot && s.pair.st != PairSt.faulted } }
  let s := { s with ports := s.ports.map (fun q => { q with cache := [], cacheOk := false, numCfgs := 0 }) }
  let s := deliverAon (checkBanks (setSync s .holdover) failed true)
  let s := { s with sys := { s.sys with banks := [] } }
  let s := linkNumbers.foldl (fun s l =>
    s.modLink l (fun k => { k with st := if k.st = .disabled then .disabled else .acquire, waking := false, probing := false })) s
  pbaTrigger (allPorts.foldl attachAfresh s) 1

/-! ### Resets and cold boots (R364, R429, R435, R469–R473, R492) -/

/-- Every domain but AON is reset, by a rail or by heat (R429, R492): AON keeps its buffer and TIME until the boot. -/
def domainReset (s : State) (why : Held) : State :=
  let r := chipReset s
  { r with
    tu := { r.tu with count := s.tu.count }
    sys := { r.sys with
      held := why, pgood := false, aonBuf := s.sys.aonBuf, aonLost := s.sys.aonLost, wakeFail := s.sys.wakeFail,
      pstate := if s.sys.pstate = .deadFeed then .deadFeed else .active } }

/-- DEAD-FEED begins: AON and PD4 run from the dead-feed regulator, the PDEs of UA and UB from their dead batteries, and REGEN
waits for R441 (R138, R439, R440). RESET_N reads high while VDDIO is invalid (R472). -/
def startDeadFeed (s : State) : State :=
  let s := { s with tu := { s.tu with count := 0 }
                    sys := { s.sys with pstate := .deadFeed, regen := false, pgood := false, held := .rails, attempts := 0 } }
  [33, 34].foldl (fun s n => s.modPde n (fun d => { d with cc := .deadBattery })) s

/-- RESET_N low resets the whole chip, AON included (R414, R473). -/
def pinReset (s : State) : State :=
  let r := chipReset s
  { r with sys := { r.sys with held := .resetN, regen := false, pgood := false, pstate := .active } }

/-- Time zero of a cold boot: TIME is 0, or goes on from the AON count after a dead-feed boot (R283, R435 step 1). The AON
buffer is delivered. -/
def coldBoot (s : State) : State :=
  let count := if s.sys.pstate = .deadFeed then s.tu.count else 0
  deliverAon { s with
    tu := { s.tu with count := count }
    sys := { s.sys with held := .no, pgood := true, waking := false, attempts := 0, wakeFail := false,
                        resetAt := count.toNat / 2 ^ 32 } }

/-- The straps are sampled (R474). -/
def sampleStraps (s : State) (straps : Nat) : State :=
  { s with sys := { s.sys with role := straps % 4, addr := straps / 4 % 4 } }

/-- The PSC drives REGEN high and waits for the rails (R469 step 3). -/
def awaitRails (s : State) : State :=
  { s with sys := { s.sys with regen := true, held := .rails, attempts := 1, failRail := none } }

/-- VAON is gone: OFF, or DEAD-FEED while the dead-feed regulator runs (R414, R439, R471). -/
def powerGone (s : State) : State :=
  let r := pinReset { s with sys := { s.sys with railsOut := [4, 5] ++ s.sys.railsOut.filter (fun x => x != 4 && x != 5) } }
  let r := { r with pair := { r.pair with takeovers := 0, primaryUid := none, primarySerial := none }
                    sys := { r.sys with clPinned := 0, pstate := .off } }
  if s.sys.deadReg then startDeadFeed r else r

/-! ### Clocks (R428) -/

/-- USB stops when the clock falls back (R428): SuperSpeed links are in SS.Disabled. -/
def usbStops (s : State) : State :=
  let s := ((List.range 8).map (· + 1)).foldl (fun s p => setLink s p .ssDisabled false) s
  setUpLink (setUpLink s .a .ssDisabled false) .b .ssDisabled false

/-- The islands run from the RC oscillator; source 422 records XTAL_FAIL (R283, R428). -/
def fallBackClock (s : State) : State :=
  if !s.sys.xtal then s
  else
    let s := raise { s with sys := { s.sys with xtal := false, clockFallback := true } } 422 1 0
    let s := if s.tu.sync = .locked ∨ (s.tu.sync ≠ .freeRun ∧ !s.tu.hasParent) then
        setSync s (if s.tu.hasParent then .acquiring else .freeRun) else s
    usbStops s

/-- A fill that waited for the clock starts its wire reset (R103, R428). -/
def resumeFill (s : State) (p : Nat) : State :=
  match (s.port p).fill with
  | some f => if f.step = 1 ∧ (s.port p).dpe ≠ .resetting then startWireReset s p else s
  | none => s

/-- The SuperSpeed link of a powered transparent port trains again (R92, R428). -/
def trainAgain (s : State) (p : Nat) : State :=
  if 8 < p ∨ (s.port p).id.eff = .translated ∨ (s.port p).dpe = .unpowered then s else setLink s p .rxDetect false

/-- The crystal runs again: USB resumes (R428). -/
def restoreClock (s : State) : State :=
  let s := raise { s with sys := { s.sys with xtal := true, clockFallback := false } } 422 2 0
  let s := ports32.foldl (fun s p => trainAgain (resumeFill s p) p) (if s.tu.isRoot then rootSync s else s)
  let up (s : State) (u : Up) : State := if (s.up u).link = .detached then s else setUpLink s u .rxDetect false
  up (up s .a) .b

/-- FREF is lost: every link that runs goes DOWN (R428). -/
def frefGone (s : State) : State :=
  linkNumbers.foldl (fun s l =>
    match (s.link l).st with
    | .up => fabLinkDown s l 0 .acquire
    | .retrain => fabLinkDown s l 0 .acquire
    | .disabled => s
    | .sleep => s
    | _ => s.modLink l (fun k => { k with st := .acquire })) (raise { s with sys := { s.sys with fref := false } } 422 3 0)

end Sys2Proof.Machine
end

