-- ==== Sys2Proof/Machine/PairRows.lean ====
section
/-!
DEFINITION. Machine/PairRows.lean: heartbeat, loss, claims, takeover, the Ladle, handover and rejoin of a pair
(R220–R247, R276, R422).
-/

namespace Sys2Proof.Machine

/-- The takeover unit runs: the chip is one of a pair, and neither in PAIR_BOOT nor FAULTED. -/
def takesPart (s : State) : Bool := s.isPair && s.pair.st != .boot && s.pair.st != .faulted

/-- A deferring chip whose partner is seen again stands by (R233). -/
def undefer (s : State) : State := if s.pair.st = .deferring then setPairSt s .standby else s

/-- HB_EDGE (R229, R242, R422). -/
def hbEdge (s : State) : State :=
  if !s.isPair then s
  else
    match s.sys.pstate with
    | .hibernate => wakeSource s
    | _ =>
      let lost := s.pair.lost
      let s := { s with pair := { s.pair with
        hbOk := true, hbAt := s.ticks, cause := if s.pair.cause = 3 then 0 else s.pair.cause } }
      undefer (if lost then insertion s else s)

def execHbEdge (s : State) : Res := leaves s (hbEdge s)

/-- HB_OUT_WATCHDOG: AON forces TKO_OUT inactive and HB_OUT low (R229). -/
def hbOutWatchdog (s : State) : State :=
  if s.isPair then { s with pair := { s.pair with tkoOut := false, hbOut := false } } else s

def execHbOutWatchdog (s : State) : Res := leaves s (hbOutWatchdog s)

/-- Requests for a handover end when the partner cannot take over any more (R238, R385). -/
def refuseHand (s : State) : State :=
  if s.pair.st = .active then endHandWaits s (fun _ => .fail stRefusedState 2) else s

/-- PARTNER_LOST: 8.0 µs without a valid edge; with liveness words still arriving only the wire has failed (R230). -/
def partnerLost (live : Bool) (s : State) : State :=
  if !takesPart s then s
  else if s.pair.detectOff ∨ s.pair.lost then { s with pair := { s.pair with hbOk := false } }
  else if live && s.pair.ladle then
    raisePair (degrade { s with pair := { s.pair with hbOk := false } } 3) 435 2
  else refuseHand (partnerGone s)

def execPartnerLost (live : Bool) (s : State) : Res := leaves s (partnerLost live s)

/-- The partner's compatibility level is judged while one chip synchronises (R242): the survivor raises CL_MISMATCH, and
both hold the pair DEGRADED. -/
def judgeLevel (s : State) (st : Nat) : State :=
  if s.pair.partnerCl = s.sys.cl then
    (if s.pair.cause = 5 then { s with pair := { s.pair with cause := 0 } } else s)
  else if s.pair.cause = 5 then s
  else if st = 2 ∧ s.chipActive then
    raisePair { s with pair := { s.pair with cause := 5, synced := false } } 434 5
  else if s.pair.st = .syncing then { s with pair := { s.pair with cause := 5, synced := false } }
  else s

/-- LIVE_WORD: the partner's state (R226, R276); both chips awake end the pause of R422. -/
def liveWord (st seq : Nat) (s : State) : State :=
  if !s.isPair || !s.pair.ladle then s
  else
    let was := s.pair.partner
    let s := { s with pair := { s.pair with
      partner := st % 16, live := true, liveRx := seq % 65536,
      detectOff := s.pair.detectOff && s.sys.pstate == .hibernate } }
    let s := if st % 16 = 9 ∧ was ≠ 9 ∧ s.chipActive then raisePair s 434 4 else s
    undefer (judgeLevel s (st % 16))

def execLiveWord (st seq : Nat) (s : State) : Res := leaves s (liveWord st seq s)

/-! ### Claims (R232–R235) -/

/-- CLAIM_RESAMPLE: after 2.0 µs a primary that still finds TKO_IN active treats its partner as hung; a secondary that
finds it inactive claims again (R232). -/
def claimResample (s : State) : State :=
  match s.pair.st with
  | .claiming => if s.pair.tkoIn then resetPartner s else s
  | .deferring =>
    if s.pair.tkoIn then s else { s with pair := { s.pair with st := .claiming, tkoOut := true } }
  | _ => s

def execClaimResample (s : State) : Res := leaves s (claimResample s)

/-- CLAIM_WON: drivers, gates and PMBus are under control (R234 steps 4–7). -/
def claimWon (s : State) : State :=
  match s.pair.st with
  | .claiming =>
    if s.pair.tkoIn then s
    else
      let n := if s.pair.byHand.isSome then s.pair.takeovers else min 65535 (s.pair.takeovers + 1)
      takeOver { s with pair := { s.pair with st := .active, tkoOut := true, psx := false, takeovers := n } }
  | _ => s

def execClaimWon (s : State) : Res := leaves s (claimWon s)

/-- DEFERRAL_END: 8.0 µs after its claim the secondary resets a partner that still claims (R232). -/
def deferralEnd (s : State) : State :=
  match s.pair.st with
  | .deferring =>
    if s.pair.tkoIn then resetPartner s else { s with pair := { s.pair with st := .claiming, tkoOut := true } }
  | _ => s

def execDeferralEnd (s : State) : Res := leaves s (deferralEnd s)

/-- PARTNER_RESET_PULSE_END: 10 µs after the pulse; up to three pulses, then FAULTED with CLAIM_FAILED (R235). -/
def partnerResetPulseEnd (s : State) : State :=
  let s := { s with pair := { s.pair with resetOut := false } }
  match s.pair.st with
  | .partnerReset =>
    if !s.pair.tkoIn then { s with pair := { s.pair with st := .claiming, tkoOut := true } }
    else if s.pair.resets < 3 then resetPartner s
    else raisePair { s with pair := { s.pair with st := .faulted, tkoOut := false, hbOut := false } } 433 5 0 2
  | _ => s

def execPartnerResetPulseEnd (s : State) : Res := leaves s (partnerResetPulseEnd s)

/-- HANDOVER commands that moved with ownership are answered by the new ACTIVE chip (R241, R385). -/
def answerMoved (s : State) : State :=
  let mine := s.cmd.queue.filter (fun c => c.opcode == 0x0603)
  let s := { s with cmd := { s.cmd with queue := s.cmd.queue.filter (fun c => c.opcode != 0x0603) } }
  mine.foldl (fun s c => respond s c (.ok (leBytes 4 s.pair.lastDur))) s

/-- TAKEOVER_PSX_ACTIVE: the PSX answers; source 433, and RETURNED for a handover at rejoin (R234 step 9, R236, R240). -/
def takeoverPsxActive (s : State) : State :=
  if s.pair.st = .active ∧ s.pair.psx = false then
    let hand := s.pair.byHand
    let dur := sat 32 (s.ticks - (if hand.isSome then s.pair.handAt else s.pair.hbAt))
    let cause := hand.getD (if 0 < s.pair.resets then 2 else 1)
    let code := if hand.isSome then 3 else if 0 < s.pair.resets then 2 else 1
    let s := { s with pair := { s.pair with psx := true, lastDur := dur, byHand := none } }
    let s := raisePair s 433 code dur cause
    let s := if hand = some 4 then raisePair s 434 3 else s
    answerMoved (ports32.foldl startClears (resyncLends (allPorts.foldl resendPd s)))
  else s

def execTakeoverPsxActive (s : State) : Res := leaves s (takeoverPsxActive s)

/-- PAIR_SELF_TEST_DONE: the chip syncs, claims, waits or faults (R233, R239). -/
def pairSelfTestDone (failed : Nat) (s : State) : State :=
  if s.isPair ∧ s.pair.st = .boot then
    let s := raise s 446 (if failed = 0 then 1 else 2) (sat 32 failed)
    if failed ≠ 0 then
      { s with sys := { s.sys with selfTestFailed := true },
               pair := { s.pair with st := .faulted, hbOut := false, tkoOut := false } }
    else
      let s := { s with pair := { s.pair with hbOut := true } }
      if s.pair.tkoIn then setPairSt s .syncing
      else if s.sys.role = 1 then claim s none
      else setPairSt s .waitPrimary
  else s

def execPairSelfTestDone (failed : Nat) (s : State) : Res := leaves s (pairSelfTestDone failed s)

/-- BOOT_WAIT_EXPIRY: the secondary claims (R233, R239). -/
def bootWaitExpiry (s : State) : State :=
  if s.pair.st = .waitPrimary ∧ s.pair.tkoIn = false then claim s none else s

def execBootWaitExpiry (s : State) : Res := leaves s (bootWaitExpiry s)

/-- TKO_IN_EDGE: drivers follow it (R231); a secondary that waits synchronises (R233); of two claims made at once the
secondary's is released (R232); a partner that lets go while it is being reset leaves the claim to the survivor (R232, R234);
after a handover frame the standby claims when it falls (R240). -/
def tkoInEdge (level : Bool) (s : State) : State :=
  let s := { s with pair := { s.pair with tkoIn := level } }
  match s.pair.st with
  | .waitPrimary => if level then setPairSt s .syncing else s
  | .claiming =>
    if level && s.sys.role == 2 then { s with pair := { s.pair with st := .deferring, tkoOut := false } } else s
  | .partnerReset => if level then s else { s with pair := { s.pair with st := .claiming, tkoOut := true } }
  | .standby => if !level && s.pair.byHand.isSome then claim s s.pair.byHand else s
  | _ => s

def execTkoInEdge (level : Bool) (s : State) : Res := leaves s (tkoInEdge level s)

/-! ### The Ladle (R226–R228, R276, R277) -/

/-- FULL_SYNC_DONE (R228, R233, R242): both chips see the pair whole again. -/
def fullSyncDone (s : State) : State :=
  if !s.isPair || !s.pair.ladle || s.pair.partnerCl != s.sys.cl then s
  else
    let was := s.degraded
    let s := { s with pair := { s.pair with
      st := if s.pair.st = .syncing then .standby else s.pair.st, synced := true, syncReq := false,
      cause := if s.pair.cause = 3 then 3 else 0 } }
    let s := raisePair s 434 2
    rejoinCheck (if was then raise s 383 6 0 else s)

def execFullSyncDone (s : State) : Res := leaves s (fullSyncDone s)

/-- A chip that does not own the ports takes its ACTIVE partner as its time parent, over L0 (R226, R287). -/
def followActive (s : State) : State := if s.pair.ladle && !s.chipActive then setParent s (some 0) else s

/-- LADLE_UP: the chip that does not own the ports requests a full sync, which the ACTIVE chip sends, and tells what it has to
tell (R221, R276, R277). -/
def ladleUp (s : State) : State :=
  if !s.isPair || s.pair.ladle then s
  else
    let s := raise { s with pair := { s.pair with
      ladle := true, syncReq := true, synced := false, told := [], toldMirror := [] } } 383 1 0
    if s.pair.st = .active then sendSync s
    else if s.chipActive then s
    else
      let s := followActive s
      sendSlow { s with pair := { s.pair with told := ownItems s } } (.askSync :: ownItems s)

def execLadleUp (s : State) : Res := leaves s (ladleUp s)

/-- LADLE_DOWN: ownership freezes while the heartbeat is valid (R238, R276, R277); with the heartbeat lost before it, only
liveness words had shown the partner alive, and it is lost now (R230). -/
def ladleDown (s : State) : State :=
  if !s.isPair || !s.pair.ladle then s
  else
    let fault := s.pair.cause == 3 && takesPart s && !s.pair.lost && !s.pair.detectOff
    let s := { s with pair := { s.pair with
      ladle := false, live := false, synced := false, st := if s.pair.st = .standby then .syncing else s.pair.st } }
    let s := raise s 383 2 0
    refuseHand (if fault then partnerGone s else s)

def execLadleDown (s : State) : Res := leaves s (ladleDown s)

/-- DIGEST_SEND: a CRC-32C digest of each port's wire-derived state, whose bytes the spec does not lay out: free values
(R227). -/
def digestSend (s : State) : State :=
  if s.isPair && s.chipActive && s.pair.ladle then sendLadle s.drawn 0 0x3B 0 (leBytes 128 s.free) else s

def execDigestSend (s : State) : Res := leaves s (digestSend s)

/-- DIGEST_FRAME: each port that differs is counted, recorded and asked for (R227). -/
def digestFrame (mismatch : List Nat) (s : State) : State :=
  if s.isPair && !s.chipActive then
    mismatch.foldl (fun s p =>
      let s := { s with pair := { s.pair with digests := min 0xFFFFFFFF (s.pair.digests + 1) } }
      sendSlow (raise s 383 5 0) [.ask p]) s
  else s

def execDigestFrame (mismatch : List Nat) (s : State) : Res := leaves s (digestFrame mismatch s)

/-- SLOW_FRAME (R226). -/
def slowFrame (items : List SlowItem) (s : State) : State := if s.isPair then items.foldl slowItem s else s

def execSlowFrame (items : List SlowItem) (s : State) : Res := leaves s (slowFrame items s)

/-- SYNC_FRAME: part of a full sync (R226, R242). -/
def syncFrame (items : List SlowItem) (s : State) : State :=
  if s.isPair ∧ s.pair.partnerCl = s.sys.cl then items.foldl slowItem s else s

def execSyncFrame (items : List SlowItem) (s : State) : Res := leaves s (syncFrame items s)

/-- One mirror entry taken by the standby (R226, R228). -/
def mirrorItem (s : State) (x : MirrorItem) : State :=
  match x with
  | .endpoint l ep tog held => s.modPx l (fun q => q.modEp ep (fun e => { e with wireTog := tog, held := held }))
  | .tunnel l tx rx => s.modTun l (fun t => { t with txSeq := BitVec.ofNat 16 tx, rxSeq := BitVec.ofNat 16 rx })
  | .line p dpe susp => s.modPort p (fun q => { q with dpe := dpeOf dpe, busSusp := susp })

/-- MIRROR_FRAME: a standby that takes entries again after a degradation requests a full sync (R228). -/
def mirrorFrame (items : List MirrorItem) (s : State) : State :=
  if s.isPair && !s.chipActive then
    let s := items.foldl mirrorItem s
    if s.pair.syncReq || s.pair.synced then s else sendSlow { s with pair := { s.pair with syncReq := true } } [.askSync]
  else s

def execMirrorFrame (items : List MirrorItem) (s : State) : Res := leaves s (mirrorFrame items s)

/-- MIRROR_STALL: 20 µs without an entry taken: DEGRADED, and the mirror queue is dropped (R228). -/
def mirrorStall (s : State) : State :=
  if s.isPair && s.chipActive then
    let s := raise (degrade { s with pair := { s.pair with staged := [] } } 1) 383 3 0
    s.modLink 0 (fun k => { k with vcs := modAt k.vcs 1 (fun v => { v with q := [], waitFrom := none }) })
  else s

def execMirrorStall (s : State) : Res := leaves s (mirrorStall s)

/-! ### Handover (R240, R241) and rejoin (R242) -/

/-- What the chip itself can see of a quiet point (R240 step 1): no PD message awaits its GoodCRC, no PMBus transaction is on
a segment, no mirror entry waits. -/
def quietPoint (s : State) : Bool :=
  s.pdes.all (fun d => d.tx.isNone) && s.segA.cur.isNone && s.segB.cur.isNone && s.pair.staged.isEmpty

/-- HANDOVER_QUIET_POINT: the handover frame leaves with what the USB and fabric transports hold (R240, R241). -/
def handoverQuietPoint (s : State) : State :=
  match s.pair.hand, s.pair.st with
  | some h, .active =>
    if s.cmd.waits.any (fun w => !h.waits.contains w.num) || !quietPoint s then s
    else if !partnerReady s then refuseHand s
    else
      let s := dueReset s h
      let s := { s with pair := { s.pair with sent := movedItems s } }
      let s := dropMoved s
      let left := h.waits.filter (fun n => s.cmd.waits.any (fun w => w.num == n))
      let s := sendLadle s 0 0x3C (b2n h.rejoin) []
      { s with pair := { s.pair with st := .handingOver, handAt := s.ticks, hand := some { h with waits := left } } }
  | _, _ => s

def execHandoverQuietPoint (s : State) : Res := leaves s (handoverQuietPoint s)

/-- HANDOVER_WAIT_EXPIRY: no quiet point came: BUSY; a rejoin handover is tried again (R240, R242, R385). -/
def handoverWaitExpiry (s : State) : State :=
  match s.pair.hand, s.pair.st with
  | some h, .active =>
    let s := endHandWaits s (fun _ => .fail stBusy 2 1000)
    if h.rejoin then { s with pair := { s.pair with retry := true } } else s
  | _, _ => s

def execHandoverWaitExpiry (s : State) : Res := leaves s (handoverWaitExpiry s)

/-- A PMBus segment that the chip hosts no longer: what it had ordered is the new ACTIVE chip's to order (R224). -/
def releaseSeg (s : State) (b : Bool) : State :=
  s.modSeg b (fun g => { g with cur := none, sets := [], alerts := [], polls := [], pulses := 0 })

/-- HANDOVER_RELEASE: TKO_OUT is released, the gates stay (R240 step 2); every drive path is held off (R224). -/
def handoverRelease (s : State) : State :=
  match s.pair.st with
  | .handingOver =>
    let s := releaseSeg (releaseSeg s false) true
    let s := { s with pair := { s.pair with st := .standby, tkoOut := false, gates := true, psx := false } }
    if s.pair.lost then claim s none else followActive s
  | _ => s

def execHandoverRelease (s : State) : Res := leaves s (handoverRelease s)

/-- HANDOVER_FRAME: the standby will claim when TKO_IN falls (R240 step 3). -/
def handoverFrame (rejoin : Bool) (s : State) : State :=
  match s.pair.st with
  | .standby =>
    let by_ := some (if rejoin then 4 else 3)
    let s := { s with pair := { s.pair with byHand := by_, handAt := s.ticks } }
    if s.pair.tkoIn then s else claim s by_
  | _ => s

def execHandoverFrame (rejoin : Bool) (s : State) : Res := leaves s (handoverFrame rejoin s)

/-- HANDOVER_GATE_RELEASE: the former chip lets its gates go and records HANDOVER_OUT; commands it still holds complete
with LAST_DURATION (R240 step 4, R385). -/
def handoverGateRelease (dur : Option Nat) (s : State) : State :=
  if s.pair.gates then
    let d := sat 32 (dur.getD s.pair.lastDur)
    let cause := if (s.pair.hand.map (·.rejoin)).getD false then 4 else 3
    let s := { s with pair := { s.pair with gates := false, lastDur := d } }
    endHandWaits (raisePair s 433 4 d cause) (fun _ => .ok (leBytes 4 d))
  else s

def execHandoverGateRelease (dur : Option Nat) (s : State) : Res := leaves s (handoverGateRelease dur s)

/-- REJOIN_TIMER_EXPIRY: tREJOIN has run out since the latest insertion; it does not advance while ownership is frozen
(R238, R242). -/
def rejoinTimerExpiry (s : State) : State :=
  match s.pair.rejoin with
  | none => s
  | some _ =>
    if s.frozen then s else rejoinCheck { s with pair := { s.pair with rejoin := none, rejoinDone := true } }

def execRejoinTimerExpiry (s : State) : Res := leaves s (rejoinTimerExpiry s)

/-- HANDOVER_RETRY: a rejoin handover that completed BUSY is tried again after 1 s (R242). -/
def handoverRetry (s : State) : State :=
  if s.pair.retry then rejoinCheck { s with pair := { s.pair with retry := false } } else s

def execHandoverRetry (s : State) : Res := leaves s (handoverRetry s)

/-- PAIR_WAKE_DETECT_TIMEOUT: 50 ms after the first edge detection resumes; a partner not awake by then is lost (R422). -/
def pairWakeDetectTimeout (s : State) : State :=
  if s.isPair ∧ s.pair.detectOff then
    let s := { s with pair := { s.pair with detectOff := false } }
    if s.pair.hbOk then s else partnerLost false s
  else s

def execPairWakeDetectTimeout (s : State) : Res := leaves s (pairWakeDetectTimeout s)

end Sys2Proof.Machine
end

