-- ==== Sys2Proof/Machine/MpcOps.lean ====
section
/-!
DEFINITION. Machine/MpcOps.lean: the checks that the MPC makes before a command's own conditions (R342 checks 8–11):
authentication, ownership, the chip of a pair that is not ACTIVE, the ROM; and running one command.
-/

namespace Sys2Proof.Machine

/-! ### The command's carrier -/

/-- The upstream whose management function carried the command, directly or as the outer transport of a relay
(R351, R386). -/
def cmdUp (c : Cmd) : Option Up :=
  match c.tr with
  | .usb u => some u
  | .relay => if c.ftag = 0 then some .a else if c.ftag = 1 then some .b else none
  | _ => none

/-- It came over SMBus or SPI, directly or as the outer transport of a relay (R350, R386, R408). -/
def bySideband (c : Cmd) : Bool :=
  match c.tr with
  | .smbus => true
  | .spi => true
  | .relay => c.ftag == 2 || c.ftag == 3
  | _ => false

/-- TRANSPORT and sending node of source 438 (R297, R386). -/
def carrier : Transport → Nat × Nat
  | .usb .a => (0, 0) | .usb .b => (1, 0) | .smbus => (2, 0) | .spi => (3, 0) | .fabric n => (4, n) | .relay => (4, 0)

/-- Source 438 (R297, R349). -/
def authEvent (s : State) (c : Cmd) (code : Nat) : State :=
  raise s 438 code (c.opcode + at_ 16 (carrier c.tr).1 + at_ 24 (carrier c.tr).2 + at_ 32 c.tag)

/-! ### Authentication (R347–R350) -/

/-- The tag that the command must carry: HMAC over NONCE, header bytes 0–9 and the parameters (R348). -/
def tagOf (s : State) (c : Cmd) (key : List Byte) : List Byte :=
  (hmac key (leBytes 8 (s.nonce c.tr)
    ++ (headBytes c.opcode c.tag c.payload.length c.target (cmdFlags c) 0).take 10 ++ c.params)).take 16

/-- A checked failure: counted, and the eighth in a row locks the transport out; source 438 HMAC_FAILED (R349). -/
def authFailed (s : State) (c : Cmd) : State :=
  authEvent (s.modTr c.tr (fun t =>
    if 7 ≤ t.fails then { t with fails := 0, locked := true } else { t with fails := t.fails + 1 })) c 1

/-- The command carries a valid tag: NONCE moves on and the failure count is 0 (R347, R349). -/
def authPassed (s : State) (c : Cmd) : State :=
  s.modTr c.tr (fun t => { t with accepted := t.accepted + 1, fails := 0 })

/-- Key provisioning while slot 0 is empty, without AUTH, over SMBus or SPI (R350, R408). -/
def provisioning (s : State) (c : Cmd) : Bool :=
  c.opcode == 0x0D05 && (s.key 0).isNone && !c.auth && bySideband c

/-- The check of R349 and R350: the failing status, if it fails. -/
def authenticate (s : State) (c : Cmd) (priv : Bool) : Option Nat × State :=
  if !c.auth then
    if priv && !provisioning s c then (some stAuthRequired, authEvent s c 2) else (none, s)
  else if (s.trState c.tr).locked then (some stAuthFailed, s)
  else
    match s.key 0 with
    | none => if priv then (some stAuthRequired, authEvent s c 2) else (some stAuthFailed, authFailed s c)
    | some k =>
      if 16 ≤ c.payload.length ∧ c.payload.drop (c.payload.length - 16) = tagOf s c k then (none, authPassed s c)
      else (some stAuthFailed, authFailed s c)

/-! ### Ownership (R351, R357, R382) -/

/-- An upstream other than the one that carried the command, which is not authenticated (R351). -/
def foreignUp (c : Cmd) (u : Up) : Bool :=
  match cmdUp c with
  | some x => !c.auth && x != u
  | none => false

/-- A physical port that the carrying upstream does not own, and the command is not authenticated (R351). -/
def foreignPort (s : State) (c : Cmd) (p : Nat) : Bool :=
  match cmdUp c with
  | some x => !c.auth && (s.port p).id.owner != upOwner x
  | none => false

/-- A port 1–32, UA as 33 or UB as 34 (R351, R360). -/
def foreignSel (s : State) (c : Cmd) (n : Nat) : Bool :=
  if isUp n then foreignUp c (upOfPort n) else foreignPort s c n

/-- No ownership to judge. -/
def free_ (_ : State) (_ : Cmd) : Bool := false

/-- The opcodes that a chip of a pair which is neither ACTIVE nor HANDING_OVER completes NOT_OWNER (R357, R382, R383). -/
def pairStateOpcodes : List Nat :=
  [0x0101, 0x0102, 0x0200, 0x0202, 0x0205, 0x0206, 0x0207, 0x0303, 0x0304, 0x0401, 0x0402, 0x0405, 0x0501, 0x0503, 0x0505,
   0x0602, 0x0603, 0x0702, 0x0803, 0x0805, 0x0902, 0x0903, 0x0B01, 0x0B02, 0x0B03, 0x0C01, 0x0C03]

/-- The chip may not execute the command, because it changes pair state (R357). -/
def passive (s : State) (op : Nat) : Bool :=
  s.isPair && s.pair.st != PairSt.active && s.pair.st != PairSt.handingOver && pairStateOpcodes.contains op

/-- The opcodes that the ROM executes (R437). -/
def romOpcodes : List Nat :=
  [0x0001, 0x0002, 0x0003, 0x0A00, 0x0A01, 0x0A02, 0x0D00, 0x0D01, 0x0D02, 0x0D04, 0x0D05, 0x0D06, 0x0E00]

/-! ### Running a command (R342, R345) -/

/-- A command waits for one of its own transport that waits on hardware, or was sent before it (R345). -/
def heldBack (s : State) (c : Cmd) : Bool :=
  s.cmd.waits.any (fun w => w.cmd.tr == c.tr)
    || (match s.cmd.queue.find? (fun q => q.tr == c.tr) with
        | some q => q != c && s.cmd.queue.contains c
        | none => false)

/-- The command has left the MPC's queue. -/
def taken (s : State) (c : Cmd) : State := { s with cmd := { s.cmd with queue := s.cmd.queue.erase c } }

/-- Authentication has been judged: NONCE and the failure count stand as it leaves them (R347, R349). -/
def begun (s : State) (c : Cmd) (priv : Bool) : State := (authenticate (taken s c) c priv).2

/-- What follows a command: duplicates that now reach the MPC, and a restart that waited for it (R345, R358). -/
def closed (s : State) : State := beginRestart (settleQueue s)

/-- The status of the first of checks 8–11 that fails, with its DETAIL (R342, R350, R351, R357, R437). -/
def barred (op : Nat) (priv : Bool) (foreign : State → Cmd → Bool) (c : Cmd) (s : State) : Option (Nat × Nat) :=
  if s.sys.romOnly ∧ ¬ romOpcodes.contains op then some (stInternal, 2)
  else
    match (authenticate (taken s c) c priv).1 with
    | some st => some (st, 0)
    | none => if passive (begun s c priv) op || foreign (begun s c priv) c then some (stNotOwner, 0) else none

/-- The command's checks 8–11, then `body`, its own conditions and effect (R342). A command of another opcode, and one
that is held back, is not run. The ROM's check comes before authentication is judged. -/
def runCmd (op : Nat) (priv : Bool) (foreign : State → Cmd → Bool) (body : Cmd → State → State) (c : Cmd) (s : State) :
    State :=
  if c.opcode ≠ op ∨ heldBack s c then s
  else
    let t := if s.sys.romOnly ∧ ¬ romOpcodes.contains op then taken s c else begun s c priv
    closed (match barred op priv foreign c s with
      | some (st, d) => respond t c (.fail st d)
      | none => body c t)

/-- The same for one of the forms of an opcode: a command of another form is not run. -/
def runForm (form : Bool) (op : Nat) (priv : Bool) (foreign : State → Cmd → Bool) (body : Cmd → State → State) (c : Cmd)
    (s : State) : State :=
  if form then runCmd op priv foreign body c s else s

/-- A command that only answers (R344). -/
def answering (f : State → Cmd → Resp) (c : Cmd) (s : State) : State := respond s c (f s c)

/-- A settings block changed on the ACTIVE chip goes to the partner as slow state (R226, R384). -/
def shareBlock (s : State) (op sel : Nat) (bs : List Byte) : State :=
  if s.isPair && s.chipActive then sendSlow s [.block op sel bs] else s

/-- The parameters of a map of `len` bytes (R343): their values, and CLAMPED. -/
def args (c : Cmd) (len : Nat) (ps : List Par) : (Nat → Nat) × Bool := blockPars len c.params ps

/-- A SET opcode with a selector: the block from byte 4 is written, shared and answered as it stands (R360). `write`
answers CLAMPED. -/
def setBlock (op lo hi : Nat) (write : State → Nat → List Byte → Bool × State) (read : State → Nat → List Byte) (c : Cmd)
    (s : State) : State :=
  let n := (selPar lo hi).read c.params
  let r := write s n.1 (c.params.drop 4)
  let s := shareBlock r.2 op n.1 (read r.2 n.1)
  respond s c (.ok (read s n.1) (n.2 || r.1))

/-- A GET opcode with a selector (R360). -/
def getBlock (lo hi : Nat) (read : State → Nat → List Byte) (c : Cmd) (s : State) : State :=
  let n := args c 1 [selPar lo hi]
  respond s c (.ok (read s (n.1 0)) n.2)

/-- A SET opcode whose block has no selector (R360). -/
def setWhole (op : Nat) (write : State → List Byte → Bool × State) (read : State → List Byte) (c : Cmd) (s : State) :
    State :=
  let r := write s c.params
  let s := shareBlock r.2 op 0 (read r.2)
  respond s c (.ok (read s) r.1)

/-- An opcode without parameters: bytes beyond the empty map set CLAMPED (R343). -/
def getWhole (read : State → List Byte) (c : Cmd) (s : State) : State :=
  respond s c (.ok (read s) (!c.params.isEmpty))

/-- The largest payload of a response: 4,088 bytes, 4,072 on the relay (R339, R386). -/
def replyRoom (c : Cmd) : Nat := match c.tr with | .relay => 4072 | _ => 4088

/-- FIRST and COUNT of a list of the items `lo` … `hi` in bytes 0 and 1, with the rest of its parameters: COUNT is clamped
to the items left (R343, R366). -/
def span (c : Cmd) (len lo hi dflt : Nat) (more : List Par) : (Nat → Nat) × Nat × Nat × Bool :=
  let r := args c len ([par 0 8 lo lo hi, parAny 8 8 dflt] ++ more)
  let n := min (r.1 1) (hi + 1 - r.1 0)
  (r.1, r.1 0, n, r.2 || (n != r.1 1 && reached (c.params.take len) 8 8))

end Sys2Proof.Machine
end

