-- ==== Sys2Proof/Machine/TimeRows.lean ====
section
/-!
DEFINITION. Machine/TimeRows.lean: the meanings of the time exchange, holdover and TSYNC commands (R287–R291, R394).
-/

namespace Sys2Proof.Machine

/-- A TIME link word (R288): TYPE, SEQ and VALUE. -/
def timeWord (s : State) (l type seq value : Nat) : State :=
  sendWord s l 0x40 (leBytes 1 (type % 16 + 16 * (seq % 16)) ++ leBytes 4 (value % 2 ^ 32))

/-- TIME_REQ_SEND: a child starts an exchange with t1 (R288). -/
def timeReqSend (s : State) : State :=
  let l := s.tu.parent
  if ¬ s.tu.hasParent ∨ (s.link l).st ≠ .up then s
  else
    let seq := (s.tu.ex.seq + 1) % 16
    timeWord { s with tu := { s.tu with ex := { seq := seq, stage := 1, t1 := s.now } } } l 0 seq s.now

def execTimeReqSend (s : State) : Res := leaves s (timeReqSend s)

/-- The STATUS word's VALUE (R288): ROOT, STRATUM and the flags LOCKED, PPS_LOCKED and FREE_RUN. -/
def timeStatusValue (s : State) : Nat :=
  s.tu.root % 256 + at_ 8 (s.tu.stratum % 256)
    + at_ 16 (b2n (s.tu.sync == .locked) + 2 * b2n s.tu.ppsLocked + 4 * b2n (s.tu.sync == .freeRun))

/-- TIME_REQ: the parent answers with RESP, RXSTAMP, HIGH and STATUS (R288). -/
def timeReq (l seq : Nat) (s : State) : State :=
  if (s.link l).st ≠ .up then s
  else
    let s := timeWord s l 1 seq s.now
    let s := timeWord s l 2 seq s.now
    let s := timeWord s l 3 seq (s.now / 2 ^ 32)
    timeWord s l 4 seq (timeStatusValue s)

def execTimeReq (l seq : Nat) (s : State) : Res := leaves s (timeReq l seq s)

/-- A word of the exchange in progress, at its place; any other abandons the exchange (R288). -/
def onExchange (s : State) (l seq stage : Nat) (f : Exchange → Exchange) : State :=
  if s.tu.hasParent ∧ s.tu.parent = l then
    if s.tu.ex.stage = stage ∧ s.tu.ex.seq = seq then { s with tu := { s.tu with ex := f s.tu.ex } }
    else { s with tu := { s.tu with ex := { seq := s.tu.ex.seq } } }
  else s

/-- TIME_RESP: t3's low half, and t4 as the instant of its arrival. -/
def timeResp (l seq value : Nat) (s : State) : State :=
  onExchange s l seq 1 (fun x => { x with stage := 2, t3lo := value % 2 ^ 32, t4 := s.now })

def execTimeResp (l seq value : Nat) (s : State) : Res := leaves s (timeResp l seq value s)

/-- TIME_RXSTAMP: t2's low half. -/
def timeRxstamp (l seq value : Nat) (s : State) : State :=
  onExchange s l seq 2 (fun x => { x with stage := 3, t2lo := value % 2 ^ 32 })

def execTimeRxstamp (l seq value : Nat) (s : State) : Res := leaves s (timeRxstamp l seq value s)

/-- TIME_HIGH: t3's high half. -/
def timeHigh (l seq value : Nat) (s : State) : State :=
  onExchange s l seq 3 (fun x => { x with stage := 4, t3hi := value % 2 ^ 32 })

def execTimeHigh (l seq value : Nat) (s : State) : Res := leaves s (timeHigh l seq value s)

/-- t3 and t2 of a whole exchange (R288): the high half is one less for t2 when its low half exceeds t3's. -/
def exchangeTimes (x : Exchange) : Int × Int :=
  let t3 : Int := (x.t3hi * 2 ^ 32 + x.t3lo : Nat)
  let t2 : Int := (x.t3hi * 2 ^ 32 + x.t2lo : Nat)
  (if x.t3lo < x.t2lo then t2 - 4294967296 else t2, t3)

/-- θ: the child's time minus the parent's (R288). -/
def theta (x : Exchange) (asym : Int) : Int :=
  let (t2, t3) := exchangeTimes x
  (((x.t1 : Int) - t2) + ((x.t4 : Int) - t3) - asym) / 2

/-- PATH_DELAY (R288). -/
def pathDelay (x : Exchange) : Int :=
  let (t2, t3) := exchangeTimes x
  ((t2 - (x.t1 : Int)) + ((x.t4 : Int) - t3)) / 2

/-- TIME clocks of one exchange interval, 1.024 ms. -/
def exchangeClocks : Nat := 256000

/-- TIME_STATUS_WORD: the exchange is complete: θ and PATH_DELAY are computed and the servo moves; a FREE_RUN parent's
exchange is discarded (R287, R288). -/
def timeStatusWord (l seq root stratum flags : Nat) (s : State) : State :=
  if ¬ s.tu.hasParent ∨ s.tu.parent ≠ l then s
  else
    let x := s.tu.ex
    let whole : Bool := x.stage == 4 && x.seq == seq
    let s := { s with tu := { s.tu with ex := { seq := x.seq } } }
    if !whole then s
    else
      let s := { s with tu := { s.tu with root := root % 256, stratum := min 255 (stratum + 1) } }
      if bit flags 2 then s
      else
        let th := theta x (s.tu.asym.getD l 0)
        servo { s with tu := { s.tu with offset := th, pathDelay := pathDelay x } } th exchangeClocks

def execTimeStatusWord (l seq root stratum flags : Nat) (s : State) : Res :=
  leaves s (timeStatusWord l seq root stratum flags s)

/-- HOLDOVER_TIMEOUT: 10 ms without a complete exchange in LOCKED (R287). -/
def holdoverTimeout (s : State) : State :=
  if s.tu.hasParent ∧ s.tu.sync = .locked then setSync s .holdover else s

def execHoldoverTimeout (s : State) : Res := leaves s (holdoverTimeout s)

/-- HOLDOVER_LIMIT: 60 s in HOLDOVER (R287). -/
def holdoverLimit (s : State) : State :=
  if s.tu.sync = .holdover then raise s 432 2 (Sync.code .holdover + at_ 32 (uns 32 s.tu.offset)) else s

def execHoldoverLimit (s : State) : Res := leaves s (holdoverLimit s)

/-- Signed distance in ns of an instant from the nearest whole second. -/
def wholeSecond (t : Int) : Int :=
  let r := t % 1000000000
  if r < 500000000 then r else r - 1000000000

/-- TIME clocks of one second. -/
def secondClocks : Nat := 250000000

/-- An accepted edge on a root in PPS mode (R290): the first is a step, PPS_LOCKED sets at the fourth. -/
def ppsEdge (s : State) (off : Int) : State :=
  let n := min 4 (s.tu.edges + 1)
  let s := { s with tu := { s.tu with edges := n, offset := off } }
  let s := if n = 1 ∧ s.tu.stepEn ∧ ¬ s.tu.ppsLocked then stepTime s (-off) else slew s off secondClocks
  if n = 4 ∧ ¬ s.tu.ppsLocked then rootSync { s with tu := { s.tu with ppsLocked := true } } else s

/-- TIME takes the armed whole second at an accepted edge, and TIME_EPOCH completes (R394). -/
def applyEpoch (s : State) (value w : Nat) : State :=
  let s := stepTime { s with tu := { s.tu with epoch := none } } ((value + s.tu.ppsDelay : Nat) - (s.now : Int))
  finishWait s w (.ok (leBytes 8 s.now))

/-- The edge's instant: TIME less PPS_DELAY (R290). -/
def edgeTime (s : State) : Int := (s.now : Int) - s.tu.ppsDelay

/-- The edge does not come 1 s ± 1 ms after the last (R290). -/
def edgeRejected (s : State) : Bool :=
  match s.tu.lastEdge with
  | some t => decide (1000000 < (edgeTime s - t - 1000000000).natAbs)
  | none => false

/-- TSYNC_IN_EDGE: captured less PPS_DELAY; an edge not 1 s ± 1 ms after the last is rejected; a root in PPS mode is
disciplined (R290). -/
def tsyncInEdge (s : State) : State :=
  let e := edgeTime s
  let off := wholeSecond e
  let bad := edgeRejected s
  let s := raise s 444 (if bad then 3 else 1) (uns 32 off)
  let s := { s with tu := { s.tu with lastEdge := some e } }
  if bad then { s with tu := { s.tu with edges := 0 } }
  else
    match s.tu.epoch with
    | some (v, w) => applyEpoch s v w
    | none => if s.tu.isRoot ∧ s.tu.srcPps then ppsEdge s off else s

/-- PULSE_MISSING: 1.5 s without an accepted edge (R290). -/
def pulseMissing (s : State) : State :=
  let s := raise { s with tu := { s.tu with ppsLocked := false, edges := 0 } } 444 2 0
  if s.tu.isRoot ∧ s.tu.srcPps then rootSync s else s

def execPulseMissing (s : State) : Res := leaves s (pulseMissing s)

/-- TSYNC_OUT_RISE: TIME is a whole second (R291). -/
def tsyncOutRise (s : State) : State :=
  if s.tu.outEn ∧ s.tu.sync ≠ .freeRun then { s with tu := { s.tu with out := true } } else s

def execTsyncOutRise (s : State) : Res := leaves s (tsyncOutRise s)

/-- TSYNC_OUT_FALL: PPS_WIDTH has passed (R291). -/
def tsyncOutFall (s : State) : State := { s with tu := { s.tu with out := false } }

def execTsyncOutFall (s : State) : Res := leaves s (tsyncOutFall s)

end Sys2Proof.Machine
end

