-- ==== Sys2Proof/Machine/SystemRows.lean ====
section
/-!
DEFINITION. Machine/SystemRows.lean: DOZE, HIBERNATE and their wakes, clocks, rails, resets, firmware starts, DEAD-FEED,
die temperature, and the idle timers of the profiles (R279, R290, R358, R364, R407, R414–R447, R469–R473, R492).
-/

namespace Sys2Proof.Machine

/-! ### DOZE (R417, R418, R426) -/

/-- DOZE_ENTER: the conditions hold and no wake source fired; otherwise the entry is abandoned with no effect (R417). With
SLEEP the links are asked to sleep and time holds over (R284, R418). -/
def dozeEnter (s : State) : State :=
  match s.sys.pstate with
  | .active =>
    if s.sys.power.dozeEn && quiet s && s.sys.held == .no && !s.sys.waking && !s.inDeadFeed then
      let s := { s with sys := { s.sys with pstate := .doze, banks := dozeBanks s } }
      if s.sys.power.dozeSleep then
        let s := linkNumbers.foldl (fun s l => if (s.link l).ladle then s else requestSleep s l) s
        if s.tu.sync = .freeRun then s else setSync s .holdover
      else s
    else s
  | _ => s

def execDozeEnter (s : State) : Res := leaves s (dozeEnter s)

/-- DOZE_WAKE: the DOZE banks are checked and the domains released (R426 steps 5 and 6). -/
def dozeWake (failed : List Nat) (s : State) : State :=
  match s.sys.pstate with
  | .doze =>
    let s := { s with sys := { s.sys with pstate := .active, waking := false } }
    let s := checkBanks (if s.tu.isRoot then rootSync s else s) failed false
    { s with sys := { s.sys with banks := [] } }
  | _ => s

def execDozeWake (failed : List Nat) (s : State) : Res := leaves s (dozeWake failed s)

/-! ### HIBERNATE (R419–R427) -/

/-- HIBERNATE_ENTER: HIB_DELAY has passed with the conditions of R419. A wake source before step 7 ends the entry. -/
def hibernateEnter (s : State) : State :=
  if (s.sys.pstate == .active || s.sys.pstate == .doze) && s.sys.power.hibEn && s.sys.held == .no && !s.sys.waking
      && quiet s && hibQuiet s then hibernate s
  else s

def execHibernateEnter (s : State) : Res := leaves s (hibernateEnter s)

/-- The setting that lets the source wake (R416, R424). -/
def hibWakes (s : State) : HibWake → Bool
  | .bmc => true
  | .cc => s.sys.power.ccWake
  | .feed => s.sys.power.feedWake

/-- HIBERNATE_WAKE: REGEN goes high (R426 step 1). -/
def hibernateWake (src : HibWake) (s : State) : State :=
  match s.sys.pstate with
  | .hibernate => if hibWakes s src then wakeSource s else s
  | _ => s

def execHibernateWake (src : HibWake) (s : State) : Res := leaves s (hibernateWake src s)

/-- WAKE_RAILS_VALID: the wake of R426 goes on to its end, or the cold boot starts (R435, R440, R469), after DEAD-FEED not
before VDDIO has risen with RESET_N high (R472). -/
def wakeRailsValid (failed : List Nat) (s : State) : State :=
  if !s.sys.regen then s
  else
    match s.sys.held, s.sys.pstate with
    | .rails, _ => if s.sys.railsOut.contains 4 then { s with sys := { s.sys with held := .resetN } } else coldBoot s
    | .no, .hibernate => if s.sys.waking then wakeUp s failed else s
    | _, _ => s

def execWakeRailsValid (failed : List Nat) (s : State) : Res := leaves s (wakeRailsValid failed s)

/-- A sequence awaits its rails. -/
def awaiting (s : State) : Bool := s.sys.held == .rails || (s.sys.pstate == .hibernate && s.sys.waking)

/-- WAKE_RAIL_FAIL: REGEN goes low for tREGOFF; after the third attempt WAKE_FAIL is set and source 425 held (R427). -/
def wakeRailFail (rail : Nat) (s : State) : State :=
  if awaiting s && s.sys.regen then
    let first := s.sys.failRail.getD rail
    let n := s.sys.attempts
    let s := { s with sys := { s.sys with regen := false, failRail := some first } }
    if n < 3 then s
    else raise { s with sys := { s.sys with wakeFail := true, waking := false, attempts := 0, failRail := none } } 425 1
      (first % 256 + at_ 8 n)
  else s

def execWakeRailFail (rail : Nat) (s : State) : Res := leaves s (wakeRailFail rail s)

/-- REGEN_RETRY: tREGOFF has passed (R427). -/
def regenRetry (s : State) : State :=
  if awaiting s && !s.sys.regen && decide (0 < s.sys.attempts) then
    { s with sys := { s.sys with regen := true, attempts := s.sys.attempts + 1 } }
  else s

def execRegenRetry (s : State) : Res := leaves s (regenRetry s)

/-- BANK_RESTORE_FROM_PARTNER: the partner's copy is taken, or has failed as well (R432). -/
def bankRestoreFromPartner (bank : Nat) (ok : Bool) (s : State) : State :=
  match s.sys.bankWait.find? (fun x => x.1 == bank) with
  | none => s
  | some x =>
    let s := { s with sys := { s.sys with bankWait := s.sys.bankWait.erase x } }
    if ok then bankEvent s 1 bank 0 else reinitBank s bank x.2

def execBankRestoreFromPartner (bank : Nat) (ok : Bool) (s : State) : Res := leaves s (bankRestoreFromPartner bank ok s)

/-- BANK_RESTORE_TIMEOUT: the Ladle is not UP within 20 ms of the wake (R432). -/
def bankRestoreTimeout (s : State) : State :=
  if s.pair.ladle then s
  else s.sys.bankWait.foldl (fun s x => reinitBank s x.1 x.2) { s with sys := { s.sys with bankWait := [] } }

def execBankRestoreTimeout (s : State) : Res := leaves s (bankRestoreTimeout s)

/-- AON_TIMER_WAKE (R416, R424). -/
def aonTimerWake (s : State) : State :=
  match s.sys.pstate with
  | .hibernate => if s.sys.power.aonWake = 0 then s else wakeSource s
  | _ => s

def execAonTimerWake (s : State) : Res := leaves s (aonTimerWake s)

/-- GPIO_EDGE: source 443; it wakes when its GPIO_WAKE bit is set (R424). -/
def gpioEdge (n : Nat) (rise : Bool) (s : State) : State :=
  let n := n % 16
  let g := s.sys.gpio % 65536
  let s := { s with sys := { s.sys with gpio := g - at_ n (bits g n n) + at_ n (b2n rise) } }
  let s := raise s 443 (if rise then 1 else 2) n
  if bit s.sys.power.gpioWake n then wakeSource s else s

def execGpioEdge (n : Nat) (rise : Bool) (s : State) : Res := leaves s (gpioEdge n rise s)

/-- HIBERNATE_SMBUS_ACCESS: AON serves a read of 0x00–0x3F; any other access is NACKed and wakes (R353, R424). -/
def hibernateSmbusAccess (write : Bool) (offset : Nat) (s : State) : State :=
  match s.sys.pstate with
  | .hibernate => if write ∨ 0x3F < offset then wakeSource s else s
  | _ => s

def execHibernateSmbusAccess (write : Bool) (offset : Nat) (s : State) : Res :=
  leaves s (hibernateSmbusAccess write offset s)

/-- WAKE_PATTERN_SEEN: a whole pattern on a probed link (R279): the link enters ACQUIRE and the chip wakes. -/
def wakePatternSeen (l : Nat) (s : State) : State :=
  let k := s.link l
  if k.st = .sleep ∧ k.probing then
    wakeSource (raiseLink (s.modLink l (fun k => { k with st := .acquire, probing := false, waking := false })) l 0 5)
  else s

def execWakePatternSeen (l : Nat) (s : State) : Res := leaves s (wakePatternSeen l s)

/-- TSYNC_IN_EDGE (R290); an accepted edge wakes when TSYNC_WAKE is set (R424). -/
def tsyncIn (s : State) : State :=
  let r := tsyncInEdge s
  if !edgeRejected s && s.sys.power.tsyncWake then wakeSource r else r

def execTsyncInEdge (s : State) : Res := leaves s (tsyncIn s)

/-! ### Clocks (R428) -/

/-- XTAL_FAIL: the crystal does not run within tXTAL. -/
def execXtalFail (s : State) : Res := leaves s (fallBackClock s)

/-- XTAL_STOP: the crystal stopped while running; handled the same way. -/
def execXtalStop (s : State) : Res := leaves s (fallBackClock s)

/-- XTAL_RESTART: every 100 ms the PSC restarts the crystal. -/
def xtalRestart (runs : Bool) (s : State) : State := if runs && !s.sys.xtal then restoreClock s else s

def execXtalRestart (runs : Bool) (s : State) : Res := leaves s (xtalRestart runs s)

/-- FREF_LOST. -/
def frefLost (s : State) : State := if s.sys.fref then frefGone s else s

def execFrefLost (s : State) : Res := leaves s (frefLost s)

/-- FREF_RESTORED. -/
def frefRestored (s : State) : State :=
  if s.sys.fref then s else raise { s with sys := { s.sys with fref := true } } 422 4 0

def execFrefRestored (s : State) : Res := leaves s (frefRestored s)

/-! ### Rails and resets (R429, R469–R473) -/

/-- Data of source 423. -/
def railData (rail mv : Nat) : Nat := rail + at_ 16 (sat 16 mv)

/-- The rail is needed now (R429, R471): VDDIO in every state, a REGEN rail while REGEN is high and no sequence awaits it. -/
def railNeeded (s : State) (rail : Nat) : Bool :=
  rail == 4 || (decide (rail < 7) && rail != 5 && s.sys.regen && s.sys.held != .rails && s.sys.held != .resetN)

/-- Monitor thresholds of a rail, under and over, in mV, by the numbers of R297 (R468). -/
def railWindow (rail : Nat) : Nat × Nat :=
  match rail with
  | 0 => (720, 780) | 1 => (846, 954) | 2 => (1692, 1908) | 3 => (3102, 3498) | 4 => (3102, 3498) | 5 => (1692, 1908)
  | _ => (1710, 1890)

/-- The monitor reads the rail between its thresholds (R468). -/
def railValid (rail mv : Nat) : Bool := decide ((railWindow rail).1 ≤ mv) && decide (mv ≤ (railWindow rail).2)

/-- The rail stands beyond its upper or its lower threshold (R468). -/
def railBeyond (rail : Nat) (high : Bool) (mv : Nat) : Bool :=
  if high then decide ((railWindow rail).2 < mv) else decide (mv < (railWindow rail).1)

/-- RAIL_OUT_OF_WINDOW: the rail stays beyond a threshold for 2 µs: source 423, and every domain but AON is reset (R429,
R468, R471). The comparator that sees it is the upper or the lower one, as the voltage says. -/
def railOutOfWindow (rail : Nat) (high : Bool) (mv : Nat) (s : State) : State :=
  if railNeeded s rail ∧ !s.sys.railsOut.contains rail ∧ railBeyond rail high mv then
    let s := { s with sys := { s.sys with railsOut := rail :: s.sys.railsOut } }
    let s := if s.sys.held = .no ∨ s.sys.held = .railOut then domainReset s .railOut else s
    raise s 423 (if high then 2 else 1) (railData rail mv)
  else s

def execRailOutOfWindow (rail : Nat) (high : Bool) (mv : Nat) (s : State) : Res := leaves s (railOutOfWindow rail high mv s)

/-- RAIL_RETURNED: source 423 RETURNED; with every rail valid for 1 ms the PSC cold boots (R429). -/
def railReturned (rail mv : Nat) (s : State) : State :=
  if s.sys.railsOut.contains rail ∧ railValid rail mv then
    let s := { s with sys := { s.sys with railsOut := s.sys.railsOut.erase rail } }
    let s := if rail = 6 then { s with crock := { s.crock with nvOk := true, fault := decide (16 ≤ s.crock.failing) } } else s
    let s := raise s 423 3 (railData rail mv)
    if s.sys.railsOut = [] ∧ s.sys.held = .railOut then coldBoot s else s
  else s

def execRailReturned (rail mv : Nat) (s : State) : Res := leaves s (railReturned rail mv s)

/-- VAON_LOSS: the whole chip is reset, and nothing runs but the dead-feed regulator's domains (R439, R471). -/
def vaonLoss (s : State) : State := powerGone s

def execVaonLoss (s : State) : Res := leaves s (vaonLoss s)

/-- RESET_N_LOW; while VDDIO is invalid RESET_N is ignored (R472, R473). -/
def resetNLow (s : State) : State := if s.sys.railsOut.contains 4 then s else pinReset s

def execResetNLow (s : State) : Res := leaves s (resetNLow s)

/-- RESET_N_RELEASE: straps latched; REGEN is high and, once every rail is valid, the cold boot starts (R435, R469, R474);
in DEAD-FEED REGEN waits for its contract (R441). -/
def resetNRelease (straps : Nat) (railsOk : Bool) (s : State) : State :=
  match s.sys.held with
  | .resetN =>
    let s := sampleStraps s straps
    if s.sys.pstate = .deadFeed ∧ !s.sys.regen then { s with sys := { s.sys with held := .rails } }
    else if railsOk then coldBoot (awaitRails s)
    else awaitRails s
  | _ => s

def execResetNRelease (straps : Nat) (railsOk : Bool) (s : State) : Res := leaves s (resetNRelease straps railsOk s)

/-- POWER_UP: VAON and VDDIO become valid; AON runs, in DEAD-FEED without interruption (R469, R472); a power-on reset is
counted (R326). With RESET_N high the straps are sampled, and from OFF REGEN rises (R474); in DEAD-FEED it waits for R441, and
the cold boot starts where its rails are valid. -/
def powerUp (straps : Nat) (resetHigh : Bool) (s : State) : State :=
  if s.sys.pstate = .off ∨ s.sys.railsOut.contains 5 then
    let n := (s.paired plBoot + 1) % 2 ^ 32
    let off := s.sys.pstate == .off
    let ready := s.sys.held == .resetN && s.sys.regen
    let s := setPaired { s with sys := { s.sys with
      pstate := if off then .active else s.sys.pstate,
      railsOut := s.sys.railsOut.filter (fun r => r != 4 && r != 5) } } plBoot n
    if !resetHigh then { s with sys := { s.sys with held := .resetN } }
    else
      let s := sampleStraps s straps
      if off then awaitRails s else if ready then coldBoot s else s
  else s

def execPowerUp (straps : Nat) (resetHigh : Bool) (s : State) : Res := leaves s (powerUp straps resetHigh s)

/-- CHIP_RESET_DELAY_EXPIRY: the chip resets as a RESET_N pulse would reset it (R364); an ACTIVE chip of a pair not before
its handover is done. -/
def chipResetDelayExpiry (s : State) : State :=
  match s.sys.resetDue with
  | none => s
  | some _ => if s.isPair && s.chipActive then s else awaitRails (pinReset s)

def execChipResetDelayExpiry (s : State) : Res := leaves s (chipResetDelayExpiry s)

/-! ### Firmware (R358, R407, R436) -/

/-- FIRMWARE_DONE: source 428; BANK_CHANGED comes first when an activated bank differs from the one before (R407). -/
def firmwareDone (s : State) : State :=
  match s.sys.fw with
  | none => s
  | some f =>
    let us := (s.ticks - f.at_) / 1000
    let s := if f.cause = 3 ∧ f.oldBank ≠ s.sys.bankB then fwEvent s 3 3 us else s
    let s := fwEvent s 2 f.cause us
    tellFirmware { s with sys := { s.sys with fw := none, fwUp := true, bootStage := 5, bootDone := true } } 0

def execFirmwareDone (s : State) : Res := leaves s (firmwareDone s)

/-- VERIFIED of a bank is cleared. -/
def unverify (s : State) (b : Bool) : State :=
  { s with sys := { s.sys with verified :=
    (if b then s.sys.verified.1 else false, if b then false else s.sys.verified.2) } }

/-- FIRMWARE_WATCHDOG: no DONE within 300 ms: EXPIRED, the bank's BAD bit, BANK_NEXT the other bank, which starts if it
passes; the ROM runs where it does not (R407, R436, R437). -/
def firmwareWatchdog (s : State) : State :=
  match s.sys.fw with
  | none => s
  | some _ =>
    let b := s.sys.bankB
    let s := raise s 429 1 0
    let s := setChoice (setChoice s (badBit b) true) 0 (!b)
    let s := unverify s b
    if bankCheck s (!b) = 0 then
      let s := startBank { s with sys := { s.sys with fwRestarts := min 65535 (s.sys.fwRestarts + 1) } } (!b) 2 false
      fwEvent s 3 2 0
    else startRom s

def execFirmwareWatchdog (s : State) : Res := leaves s (firmwareWatchdog s)

/-- WATCHDOG_RESTART: running firmware hangs; what executes is answered INTERNAL (R358). -/
def watchdogRestart (s : State) : State :=
  if s.sys.fwUp then freshFirmware (raise s 429 1 0) s.sys.bankB 2 else s

def execWatchdogRestart (s : State) : Res := leaves s (watchdogRestart s)

/-! ### DEAD-FEED (R439–R442) -/

/-- DEAD_FEED_START: the regulator starts; with VAON invalid it supplies AON and PD4 (R439, R440). -/
def deadFeedStart (_u : Up) (s : State) : State :=
  let s := { s with sys := { s.sys with deadReg := true } }
  match s.sys.pstate with
  | .off => startDeadFeed s
  | _ => s

def execDeadFeedStart (u : Up) (s : State) : Res := leaves s (deadFeedStart u s)

/-- DEAD_FEED_REGEN: a sink contract of 9 V and 15 W or more raises REGEN (R441). -/
def deadFeedRegen (u : Up) (s : State) : State :=
  let n := portOfUp u
  match s.sys.pstate, (s.pde n).cc, (s.pde n).contract with
  | .deadFeed, .attachedSnk, some c =>
    if !s.sys.regen && decide (9000 ≤ c.mv) && decide (15000000 ≤ c.power) then
      { awaitRails s with sys := { (awaitRails s).sys with held := s.sys.held } }
    else s
  | _, _, _ => s

def execDeadFeedRegen (u : Up) (s : State) : Res := leaves s (deadFeedRegen u s)

/-- DEAD_FEED_STOP: both inputs are below 3.6 V; with VAON invalid the chip is OFF; with VAON valid and REGEN still low it is
no longer supplied through a sink path and boots as from OFF (R414, R439, R442; log entry 65). -/
def deadFeedStop (s : State) : State :=
  let s := { s with sys := { s.sys with deadReg := false } }
  if s.sys.railsOut.contains 5 then powerGone s
  else if s.sys.pstate = .deadFeed ∧ !s.sys.regen then
    let s := { s with sys := { s.sys with pstate := .active } }
    if s.sys.held = .rails then awaitRails s else s
  else s

def execDeadFeedStop (s : State) : Res := leaves s (deadFeedStop s)

/-! ### Die temperature (R492) -/

def tempData (t : Int) : Nat := uns 16 t

/-- THERMAL_WARNING, at 105 °C rising and 100 °C falling: source 420, and PD Status reports OTP and warning (R147). -/
def thermalWarning (enter : Bool) (temp : Int) (s : State) : State :=
  let s := setDie s temp
  if (if enter then decide (temp < 1050) else decide (1000 < temp)) then s
  else
  let s := { s with sys := { s.sys with thermal := if enter then max 1 s.sys.thermal else 0 } }
  let s := if enter then allPorts.foldl (fun s n => s.modPde n (fun d => { d with otp := true })) s else s
  raise s 420 (if enter then 1 else 2) (tempData temp)

def execThermalWarning (enter : Bool) (temp : Int) (s : State) : Res := leaves s (thermalWarning enter temp s)

/-- THERMAL_SHUTDOWN, at 120 °C rising: source 421 is raised and journaled, then every domain but AON is reset (R492). -/
def thermalShutdown (temp : Int) (s : State) : State :=
  let s := setDie s temp
  if temp < 1200 then s
  else
  let s := { s with sys := { s.sys with thermal := 2 } }
  let r := mkRec s s.now 421 1 (tempData temp)
  let s := if bit r.rb 4 && !s.crock.fault && s.crock.nvOk then writeRecord s r .good else s
  let s := domainReset s .hot
  captureRec s { r with rb := r.rb - at_ 4 (bits r.rb 4 4) }

def execThermalShutdown (temp : Int) (s : State) : Res := leaves s (thermalShutdown temp s)

/-- THERMAL_RECOVERY: 95 °C held for 1 s: a cold boot (R492). -/
def thermalRecovery (temp : Int) (s : State) : State :=
  match s.sys.held with
  | .hot =>
    let s := setDie s temp
    if 950 < temp then s
    else
    let s := { s with sys := { s.sys with thermal := 0 } }
    if s.sys.railsOut = [] then coldBoot s else { s with sys := { s.sys with held := .railOut } }
  | _ => s

def execThermalRecovery (temp : Int) (s : State) : Res := leaves s (thermalRecovery temp s)

/-! ### Idle timers of the profiles (R444, R446, R447) -/

/-- PROXY_L1, UP_U1 and UP_U2 in effect: the BDI's, or the profile's (R443, R444). -/
def proxyL1Eff (s : State) : Nat := s.sys.proxyL1.getD (if s.sys.profile = .economy then 20 else 0)
def upU1Eff (s : State) : Nat := s.sys.upU1.getD (if s.sys.profile = .economy then 20 else 0)
def upU2Eff (s : State) : Nat := s.sys.upU2.getD (if s.sys.profile = .economy then 4 else 0)

/-- The conditions of R446, the time apart; R113 polls an endpoint while polls are left. -/
def l1Ready (s : State) (p : Nat) : Bool :=
  let q := s.port p
  decide (proxyL1Eff s ≠ 0) && q.id.eff == .translated && (ownerUp q).isSome && q.id.st == .live && q.id.speed == .hs
    && q.dpe == .enabled && !q.busSusp && q.ownerL1.isSome && q.px.heldBytes == 0 && !q.px.ctrl.active
    && q.px.eps.all (fun e => !e.drawn && !(e.kind == 3 && decide (128 ≤ e.addr) && decide (0 < e.pollLeft)))
    && q.px.eps.all (fun e => e.held.isEmpty)

/-- PROXY_L1_IDLE: the proxy sends its own LPM token; on ACK the DPE enters SLEEPING with L1_ENTER (R80, R446). -/
def proxyL1Idle (p : Nat) (device : Hs) (s : State) : State :=
  if l1Ready s p then
    let besl := ((s.port p).ownerL1).getD 0
    let s := s.modPort p (fun q => { q with wire := .lpm besl })
    match device with
    | .ack => (enterL1 s p besl).modPort p (fun q => { q with pxL1 := true })
    | _ => s
  else s

def execProxyL1Idle (p : Nat) (device : Hs) (s : State) : Res := leaves s (proxyL1Idle p device s)

/-- Every SuperSpeed port that the upstream owns lets its link rest (R447). -/
def ssPortsRest (s : State) (u : Up) : Bool :=
  ((List.range 8).map (· + 1)).all (fun p =>
    !s.owns u p || (match (s.spe p).st with
      | .u1 => true | .u2 => true | .u3 => true | .ssDisabled => true | .rxDetect => true | .ssInactive => true
      | _ => false))

/-- UP_U1_U2_IDLE: LGO_U1 or LGO_U2 is sent, and the link follows when the host accepts (R447). -/
def upU1U2Idle (u : Up) (u2 accepted : Bool) (s : State) : State :=
  let x := s.up u
  let en := if u2 then x.u2En && decide (upU2Eff s ≠ 0) else x.u1En && decide (upU1Eff s ≠ 0)
  let from_ := x.ssLink == Link.u0 || (u2 && x.ssLink == Link.u1)
  if en && from_ && ssPortsRest s u && accepted then setUpLink s u (if u2 then .u2 else .u1) false else s

def execUpU1U2Idle (u : Up) (u2 accepted : Bool) (s : State) : Res := leaves s (upU1U2Idle u u2 accepted s)

end Sys2Proof.Machine
end

