-- ==== Sys2Proof/Machine/SystemCmds.lean ====
section
/-!
DEFINITION. Machine/SystemCmds.lean: the commands of groups 0x00, 0x0C, 0x0D and 0x0E: system, profiles and levels,
firmware and keys, diagnostics (R361–R365, R402–R412).
-/

namespace Sys2Proof.Machine

/-! ### System (R361–R365) -/

/-- NOP echoes its payload (R361). -/
def execNop (c : Cmd) (s : State) : Res :=
  leaves s (runCmd 0x0000 false free_ (answering (fun _ c => .ok c.params)) c s)

/-- FW_VERSION: the VERSION of the running image; the ROM has none, and the spec states no value for it (log entry 37). -/
def fwVersion (s : State) : Nat :=
  if s.sys.romOnly then s.free % 2 ^ 32 else leNat (slice (bankHead s s.sys.bankB) 4 4)

/-- BDI_CRC: the CRC of the image in use; without one the spec states no value (log entry 37). -/
def bdiCrc (s : State) : Nat :=
  match s.sys.image with
  | some i => leNat (section_ s i 60 4)
  | none => Config.freeNat (s.freeIdx + 1) % 2 ^ 32

/-- The 32 bytes of IDENTIFY (R362). -/
def identifyBytes (s : State) : List Byte :=
  leBytes 8 Config.uid.toNat ++ leBytes 2 (vidInUse s) ++ leBytes 2 0x3248 ++ leBytes 1 stepping ++ leBytes 1 s.sys.cl
    ++ leBytes 1 1 ++ leBytes 1 s.sys.clPinned
    ++ leBytes 1 (s.sys.role + at_ 2 (b2n s.sys.bankB) + at_ 3 (b2n (s.sys.image == some 1)) + at_ 4 (b2n (s.choice 3)))
    ++ leBytes 1 s.fab.nodeId ++ zeros 2 ++ leBytes 4 (fwVersion s) ++ leBytes 4 (bdiCrc s) ++ leBytes 4 (s.paired plBoot)

def identify (c : Cmd) (s : State) : State :=
  getWhole identifyBytes c s |>.drawn |>.drawn

/-- IDENTIFY (R362). -/
def execIdentify (c : Cmd) (s : State) : Res := leaves s (runCmd 0x0001 false free_ identify c s)

/-- The 16 bytes of SYS_STATUS (R363). -/
def sysStatusBytes (s : State) : List Byte :=
  leBytes 1 s.pstateCode ++ leBytes 1 (bootStatus s) ++ leBytes 1 (irqSum s) ++ zeros 1 ++ leBytes 2 (uns 16 s.die)
    ++ leBytes 2 s.sys.fwRestarts ++ leBytes 4 (sat 32 ((s.ticks - s.sys.resetAt) / 1000000)) ++ zeros 4

/-- SYS_STATUS (R363). -/
def execSysStatus (c : Cmd) (s : State) : Res := leaves s (runCmd 0x0002 false free_ (getWhole sysStatusBytes) c s)

/-- CHIP_RESET: the response first, the reset DELAY later; an ACTIVE chip of a pair hands over first (R364). -/
def cmdChipReset (c : Cmd) (s : State) : State :=
  let d := args c 2 [par 0 16 10 1 1000]
  if s.isPair && s.chipActive then
    if !partnerReady s then respond s c (.fail stRefusedState)
    else
      let w := addWait s c d.2
      startHandover w.2 false (some w.1)
  else
    let s := respond s c (.ok [] d.2)
    { s with sys := { s.sys with resetDue := some (s.ticks + d.1 0 * 1000000) } }

def execChipReset (c : Cmd) (s : State) : Res := leaves s (runCmd 0x0003 true free_ cmdChipReset c s)

/-- CONFIG_SELECT: an image that passes its checks becomes IMAGE_NEXT (R365, R505). -/
def configSelect (c : Cmd) (s : State) : State :=
  let i := args c 1 [parElse 0 8 0 1 0]
  if imageCheck s (i.1 0) ≠ 0 then respond s c (.fail stRefusedState 1 0 i.2)
  else respond (setChoice s 3 (i.1 0 == 1)) c (.ok (leBytes 1 (i.1 0)) i.2)

def execConfigSelect (c : Cmd) (s : State) : Res := leaves s (runCmd 0x0004 true free_ configSelect c s)

/-! ### Profiles and compatibility levels (R402, R403, R444) -/

/-- PROFILE, then the profile block in effect (R402, R444). -/
def profileBytes (s : State) : List Byte :=
  leBytes 1 s.sys.profile.code ++ zeros 3 ++ leBytes 1 (proxyL1Eff s) ++ leBytes 1 (upU1Eff s) ++ leBytes 1 (upU2Eff s)
    ++ leBytes 1 (meterGapNs s / 1000000000) ++ zeros 4

def execProfileGet (c : Cmd) (s : State) : Res := leaves s (runCmd 0x0C00 false free_ (getWhole profileBytes) c s)

def profileOf (n : Nat) : Profile :=
  match n with | 1 => .guarded | 2 => .throughput | 3 => .economy | _ => .balanced

/-- PROFILE_SET: every field that follows the profile takes its value, MODE and the budget's PACKING among them
(R402, R443, R445). -/
def profileSet (c : Cmd) (s : State) : State :=
  let n := args c 1 [parElse 0 8 0 3 0]
  let s := profileModes { s with sys := { s.sys with profile := profileOf (n.1 0) } }
  let s := if s.isPair && s.chipActive then sendSlow s [.profile (n.1 0)] else s
  respond (pbaTrigger s 2) c (.ok (profileBytes s) n.2)

def execProfileSet (c : Cmd) (s : State) : Res := leaves s (runCmd 0x0C01 true free_ profileSet c s)

/-- CL, CL_MAX, CL_PINNED, CL_BDI, LAST_PINNED (R403). -/
def clBytes (s : State) : List Byte :=
  leBytes 1 s.sys.cl ++ leBytes 1 1 ++ leBytes 1 s.sys.clPinned ++ leBytes 1 s.sys.clBdi ++ leBytes 1 (s.paired plLevel)

def execClStatus (c : Cmd) (s : State) : Res := leaves s (runCmd 0x0C02 false free_ (getWhole clBytes) c s)

/-- CL_PIN: a level above CL_MAX is refused (R7), here, after authentication and ownership, for R342 gives that status only to
the opcode's own level (DESIGN CHOICE, log entry 38); a pin is recorded, 0 removes it (R403). -/
def clPin (c : Cmd) (s : State) : State :=
  let n := args c 1 [parAny 0 8 s.sys.cl]
  if 1 < n.1 0 then respond s c (.fail stNotAtCompat s.sys.cl)
  else
    let s := { s with sys := { s.sys with clPinned := n.1 0 } }
    let s := if n.1 0 = 0 then s else setPaired s plLevel (n.1 0)
    let s := if s.isPair && s.chipActive then sendSlow s [.clPin (n.1 0)] else s
    respond s c (.ok (clBytes s) n.2)

def execClPin (c : Cmd) (s : State) : Res := leaves s (runCmd 0x0C03 true free_ clPin c s)

/-! ### Firmware (R404–R407) -/

/-- FW_STATUS's entry of a bank (R405). -/
def bankEntry (s : State) (b : Bool) : List Byte :=
  let h := bankHead s b
  leBytes 16 (b2n (headMagic h == 0x0F3248A5) + at_ 1 (b2n (if b then s.sys.verified.2 else s.sys.verified.1))
    + at_ 2 (b2n (s.sys.bankB == b && !s.sys.romOnly)) + at_ 3 (b2n (s.choice 0 == b)) + at_ 4 (headSlot h)
    + at_ 8 (headCl h) + at_ 32 (leNat (slice h 4 4)) + at_ 64 (headLength h) + at_ 96 (leNat (slice h 16 4)))

def execFwStatus (c : Cmd) (s : State) : Res :=
  leaves s (runCmd 0x0D00 false free_ (getWhole (fun s => bankEntry s false ++ bankEntry s true)) c s)

/-- BANK of FW_VERIFY and FW_ACTIVATE, the bank not in use by default (R406, R407). -/
def bankArg (s : State) (c : Cmd) : Bool × Bool :=
  let n := args c 1 [par 0 8 (b2n (!s.sys.bankB)) 0 1]
  (n.1 0 == 1, n.2)

/-- VERIFIED of a bank. -/
def setVerified (s : State) (b : Bool) : State :=
  { s with sys := { s.sys with verified := (s.sys.verified.1 || !b, s.sys.verified.2 || b) } }

/-- FW_VERIFY: the first failing check decides; a bad signature raises source 438 (R406). -/
def fwVerify (c : Cmd) (s : State) : State :=
  let b := bankArg s c
  let d := bankCheck s b.1
  if d = 0 then respond (setVerified s b.1) c (.ok [] b.2)
  else respond (if d = 3 then authEvent s c 3 else s) c (.fail stRefusedState d 0 b.2)

def execFwVerify (c : Cmd) (s : State) : Res := leaves s (runCmd 0x0D01 false free_ fwVerify c s)

/-- ms remaining of the 300 ms of a restart that ends at `t` (R340, R358). -/
def msLeft (s : State) (t : Nat) : Nat := (t - s.ticks + 999999) / 1000000

/-- The response, and the restart that waits for the commands in execution; BUSY while the partner's firmware restarts
(R358, R407). -/
def orderRestart (c : Cmd) (clamped : Bool) (bank : Bool) (cause : Nat) (s : State) : State :=
  match (if s.isPair then s.pair.partnerFw else none) with
  | some t => respond s c (.fail stBusy 1 (msLeft s t) clamped)
  | none =>
    let s := if cause = 3 then setChoice (setChoice s 0 bank) (badBit bank) false else s
    let s := respond s c (.ok [] clamped)
    { s with sys := { s.sys with fwNext := some (bank, cause) } }

/-- FW_ACTIVATE (R407, R436). -/
def fwActivate (c : Cmd) (s : State) : State :=
  let b := bankArg s c
  if !(if b.1 then s.sys.verified.2 else s.sys.verified.1) then respond s c (.fail stRefusedState 1 0 b.2)
  else orderRestart c b.2 b.1 3 s

def execFwActivate (c : Cmd) (s : State) : Res := leaves s (runCmd 0x0D02 true free_ fwActivate c s)

/-- FW_RESTART (R407). -/
def execFwRestart (c : Cmd) (s : State) : Res :=
  leaves s (runCmd 0x0D03 true free_ (fun c s => orderRestart c (!c.params.isEmpty) s.sys.bankB 1 s) c s)

/-! ### NONCE and keys (R408, R409) -/

/-- NONCE_READ: the NONCE of the transport that carries it, the relay's for a relayed command (R386, R408). -/
def execNonceRead (c : Cmd) (s : State) : Res :=
  leaves s (runCmd 0x0D04 false free_ (answering (fun s c => .ok (leBytes 8 (s.nonce c.tr)) (!c.params.isEmpty))) c s)

/-- SLOT and OP of KEY_WRITE (R408). -/
def keyArgs (c : Cmd) : (Nat → Nat) × Bool := args c 4 [par 0 8 0 0 3, parElse 8 8 0 1 0]

/-- The key's bytes are there, and for slots 1–3 the point lies on P-256 (R408). -/
def keyGood (k : Nat) (b : List Byte) : Bool :=
  b.length == keyLen k && (k == 0 || onCurve (leNat (b.take 32)) (leNat (b.drop 32)))

/-- KEY_WRITE: OP 0 writes a slot, OP 1 clears it (R350, R408). -/
def keyWrite (c : Cmd) (s : State) : State :=
  let a := keyArgs c
  let k := a.1 0
  let b := (c.params.drop 4).take (keyLen k)
  let clamped : Bool :=
    ((par 0 8 0 0 3).read c.params).2 || ((parElse 8 8 0 1 0).read c.params).2 || decide (4 + keyLen k < c.params.length)
  if k = 0 ∧ ¬ bySideband c then respond s c (.fail stRefusedState 1 0 clamped)
  else if k ≠ 0 ∧ (s.key k).isSome ∧ runningSlot s = some k then respond s c (.fail stRefusedState 2 0 clamped)
  else if a.1 1 = 0 ∧ ¬ keyGood k b then respond s c (.fail stRefusedState 3 0 clamped)
  else respond (setKey s k (if a.1 1 = 0 then some b else none)) c (.ok [] clamped)

def execKeyWrite (c : Cmd) (s : State) : Res :=
  leaves s (runForm ((keyArgs c).1 1 == 0) 0x0D05 true free_ keyWrite c s)

def execKeyClear (c : Cmd) (s : State) : Res :=
  leaves s (runForm ((keyArgs c).1 1 == 1) 0x0D05 true free_ keyWrite c s)

/-- KEY_STATUS's entry of a slot; an empty slot has no fingerprint, and the spec states no value (R409; log entry 37). -/
def keyEntry (s : State) (k : Nat) : List Byte :=
  let used := b2n (runningSlot s == some k)
  match s.key k with
  | some x => leBytes 8 (1 + 2 * used) ++ (sha256 x).take 8
  | none => leBytes 8 (2 * used) ++ leBytes 8 (Config.freeNat (s.freeIdx + k))

/-- KEY_STATUS (R409). -/
def keyStatus (c : Cmd) (s : State) : State :=
  let t := getWhole (fun s => keyEntry s 0 ++ keyEntry s 1 ++ keyEntry s 2 ++ keyEntry s 3) c s
  { t with freeIdx := t.freeIdx + 4 }

def execKeyStatus (c : Cmd) (s : State) : Res := leaves s (runCmd 0x0D06 false free_ keyStatus c s)

/-! ### Diagnostics (R410–R412) -/

/-- The tests whose result the state decides: 5 the crystal is in use, 6 each paired line has a valid copy, 7 the Ladle is up
on a paired chip (R410). -/
def knownFailures (s : State) : Nat :=
  at_ 5 (b2n (!s.sys.xtal || s.sys.clockFallback)) + at_ 6 (b2n (pairedLines.any (fun a => (pairedLine s a).isNone)))
    + at_ 7 (b2n (s.isPair && !s.pair.ladle))

/-- SELF_TEST: `failed` is what the tests measured; source 446 records the map (R410). -/
def selfTest (failed : Nat) (c : Cmd) (s : State) : State :=
  let m := args c 1 [parAny 0 8 0xFF]
  let map := (failed % 256 ||| knownFailures s) &&& m.1 0
  respond (raise s 446 (if map = 0 then 1 else 2) map) c (.ok (leBytes 4 map) m.2)

def execSelfTest (c : Cmd) (failed : Nat) (s : State) : Res := leaves s (runCmd 0x0E00 false free_ (selfTest failed) c s)

/-- The counters of ERROR_COUNTERS (R411). -/
def errorBytes (s : State) : List Byte :=
  leBytes 4 s.plan.eccSingle ++ leBytes 4 s.plan.eccDouble ++ leBytes 4 s.sys.mramCorr ++ leBytes 4 s.sys.retFails
    ++ (ports32.map (fun p => leBytes 4 (s.port p).discards)).flatten

/-- Every counter returned is 0. -/
def clearErrors (s : State) : State :=
  { s with
    plan := { s.plan with eccSingle := 0, eccDouble := 0 }
    sys := { s.sys with mramCorr := 0, retFails := 0 }
    ports := s.ports.map (fun q => { q with discards := 0 }) }

/-- ERROR_COUNTERS: CLEAR is clamped to 0 from a management function without authentication (R411). -/
def errorCounters (c : Cmd) (s : State) : State :=
  let m := args c 1 [parAny 0 1 0]
  let may := c.auth || (cmdUp c).isNone
  let r := Resp.ok (errorBytes s) (m.2 || (m.1 0 == 1 && !may))
  respond (if m.1 0 = 1 ∧ may then clearErrors s else s) c r

def execErrorCounters (c : Cmd) (s : State) : Res := leaves s (runCmd 0x0E01 false free_ errorCounters c s)

/-- DIAG_TRIGGER raises source 447 with its argument (R411). -/
def diagTrigger (c : Cmd) (s : State) : State :=
  let m := args c 4 [parAny 0 32 0]
  respond (raise s 447 1 (m.1 0)) c (.ok [] m.2)

def execDiagTrigger (c : Cmd) (s : State) : Res := leaves s (runCmd 0x0E02 false free_ diagTrigger c s)

/-- PHY_TUNE_GET (R412). -/
def phyTuneGet (c : Cmd) (s : State) : State :=
  let n := args c 1 [selPar 1 14]
  respond s c (.ok (phyBytes s (n.1 0)) n.2)

def execPhyTuneGet (c : Cmd) (s : State) : Res := leaves s (runCmd 0x0E03 false free_ phyTuneGet c s)

/-- PHY_TUNE_SET: tuning blocks are per chip, so nothing goes to the partner (R412). -/
def phyTuneSet (c : Cmd) (s : State) : State :=
  let n := (selPar 1 14).read c.params
  let w := setPhy s n.1 (c.params.drop 4)
  respond w.2 c (.ok (phyBytes w.2 n.1) (n.2 || w.1))

def execPhyTuneSet (c : Cmd) (s : State) : Res := leaves s (runCmd 0x0E04 true free_ phyTuneSet c s)

end Sys2Proof.Machine
end

