-- ==== Sys2Proof/Machine/PortCmds.lean ====
section
/-!
DEFINITION. Machine/PortCmds.lean: the commands of groups 0x01 and 0x02: ports and the data path (R366–R372).
-/

namespace Sys2Proof.Machine

/-! ### Codes of a port's state (R71, R101, R134, R366) -/

def Style.code : Style → Nat
  | .c => 0 | .a => 1 | .embedded => 2

def Mode.code : Mode → Nat
  | .transparent => 0 | .translated => 1

/-- CC_STATE of a port, in the order of R134; 7 for an idle CC layer (R366). -/
def ccDown : Cc → Nat
  | .unattachedSrc => 0 | .attachWaitSrc => 1 | .attachWaitCool => 2 | .attachedSrc => 3 | .tripped => 4 | .powerOff => 5
  | .errorRecovery => 6 | _ => 7

/-- PORT_POWER as the port's owner reads it; a port with no owner on this chip shows its power request (R43, R366;
log entry 38). -/
def ownerPower (s : State) (p : Nat) : Bool :=
  match ownerUp (s.port p) with
  | some u => ((s.up u).view p).power
  | none => (s.port p).powerReq

/-- ms of tCOOL that remain, saturating (R185, R366). -/
def coolLeft (s : State) (n : Nat) : Nat :=
  let q := s.ppc n
  sat 16 ((q.tripAt + q.cool * 1000000 - s.ticks + 999999) / 1000000)

/-- The 16 bytes of PORT_STATUS for port p (R366). -/
def portEntry (s : State) (p : Nat) : List Byte :=
  let q := s.port p
  let x := s.ppc p
  let life := if q.id.eff = .transparent then 15 else q.id.st.code
  let link := if 8 < p then 15 else (s.spe p).st.code
  leBytes 16 (q.style.code + at_ 2 q.id.eff.code + at_ 4 q.id.owner.code + at_ 7 (b2n (ownerPower s p))
    + at_ 8 q.dpe.code + at_ 12 q.id.speed.code + at_ 16 link + at_ 20 life + at_ 24 x.st.code + at_ 27 (b2n x.pg)
    + at_ 28 (ccDown (s.pde p).cc) + at_ 31 (b2n (s.pb p).shed) + at_ 32 (s.pb p).alloc + at_ 48 x.trips
    + at_ 56 (b2n (x.tripK != 0)) + at_ 64 (if x.cool = 0 then 0 else coolLeft s p) + at_ 80 (sat 16 x.meter.vbus)
    + at_ 96 (uns 16 x.meter.ibus))

/-- A list of port entries; with COUNT 0 one byte holding 32 (R344, R366). -/
def listPorts (c : Cmd) (len : Nat) (more : List Par) (f : (Nat → Nat) → Nat → List Byte) : Resp :=
  let a := span c len 1 32 1 more
  if a.2.2.1 = 0 then .ok (leBytes 1 32) a.2.2.2
  else .ok (((List.range a.2.2.1).map (fun i => f a.1 (a.2.1 + i))).flatten) a.2.2.2

/-- PORT_STATUS (R366). -/
def execPortStatus (c : Cmd) (s : State) : Res :=
  leaves s (runCmd 0x0100 false free_ (answering (fun s c => listPorts c 2 [] (fun _ p => portEntry s p))) c s)

/-! ### Moves and resets (R116, R367, R368) -/

/-- PORT in byte 0 (R360). -/
def portArg (c : Cmd) : Nat := selector c.params 1 32

/-- NEW_OWNER: 2 and the reserved values are clamped to 3 (R367). -/
def newOwner : Par := { lo := 8, w := 8, dflt := 3, fix := fun v => if v = 0 ∨ v = 1 ∨ v = 4 then v else 3 }

def ownerOf (n : Nat) : Owner := match n with | 0 => .upA | 1 => .upB | 4 => .mgmt | _ => .parked

/-- A fill, drain or refill runs on the port, or a refill waits for its resume (R116, R367, R371). -/
def portBusy (q : Port) : Bool :=
  q.id.st == .filling || q.id.st == .draining || q.id.st == .refilling || q.refillNext.isSome

/-- A translated port with a device drains before it moves; any other moves at once (R116). -/
def startDrain (s : State) (p : Nat) (d : Drain) : State :=
  let q := s.port p
  if q.id.eff = .translated ∧ (q.id.st = .presented ∨ q.id.st = .live) then
    drainDonePhys (s.modPort p (fun q => { q with drain := some d, id := { q.id with st := .draining } })) p
  else finishMove s p d

/-- PORT_MOVE (R116, R367). -/
def portMove (c : Cmd) (s : State) : State :=
  let a := args c 3 [par 0 8 1 1 32, newOwner, parAny 16 1 1]
  let p := a.1 0
  let q := s.port p
  let o := ownerOf (a.1 1)
  if q.id.owner = .lent then respond s c (.fail stRefusedState 0 0 a.2)
  else if portBusy q then respond s c (.fail stBusy 2 10 a.2)
  else if q.id.owner = o then respond s c (.ok (leBytes 1 o.code ++ leBytes 1 o.code) a.2)
  else
    let w := addWait s c a.2
    startDrain w.2 p { wait := w.1, what := 0, newOwner := o, setHome := a.1 2 == 1, back := q.id.st }

def execPortMove (c : Cmd) (s : State) : Res :=
  leaves s (runCmd 0x0101 false (fun s c => foreignPort s c (portArg c)) portMove c s)

/-- A real reset of a transparent port: the owner sees a disconnect; a SuperSpeed link trains again from Rx.Detect
(R74, R92, R368). -/
def resetTransparent (s : State) (p : Nat) : State :=
  if p ≤ 8 ∧ linkConn (s.spe p).st then setLink s p .rxDetect false
  else syncPort (startWireReset (s.modPort p (fun q => { q with cmdReset := true, addr := 0, addrSeen := 0 })) p) p

/-- A real reset of a translated port: a disconnect, then a refill without replay (R115, R368). -/
def resetTranslated (s : State) (p : Nat) : State :=
  let s := s.modPort p (fun q =>
    let q := q.unconfigured
    { q with cmdReset := true, id := { q.id with hostAddr := 0, hostCfg := 0 } })
  syncPort (startRefill s p true 0) p

/-- PORT_RESET (R368). A port in TESTING, which no reset leaves (R89), is refused (DESIGN CHOICE, log entry 51). -/
def portReset (c : Cmd) (s : State) : State :=
  let a := args c 1 [par 0 8 1 1 32]
  let p := a.1 0
  let q := s.port p
  let empty : Bool := if q.id.eff = .translated then q.id.st == .vacant else vacantNow s p
  if empty ∨ q.id.st = .filling ∨ q.id.owner = .lent ∨ q.dpe = .testing then
    respond s c (.fail stRefusedState 0 0 a.2)
  else if portBusy q then respond s c (.fail stBusy 2 10 a.2)
  else
    let s := ownerEvent s p 7 q.id.owner 0 q.px.heldBytes
    respond (if q.id.eff = .translated then resetTranslated s p else resetTransparent s p) c (.ok [] a.2)

def execPortReset (c : Cmd) (s : State) : Res :=
  leaves s (runCmd 0x0102 false (fun s c => foreignPort s c (portArg c)) portReset c s)

/-! ### The buffer plan (R62–R68, R369) -/

/-- The plan that the payload asks for; with no payload the default plan (R67, R369). -/
def planAsked (s : State) (c : Cmd) : List Region × Bool :=
  if c.params.isEmpty then (defaultPlan s, false) else carve c.params

/-- A changed region belongs to another owner (R369). -/
def regionForeign (s : State) (c : Cmd) (u : Up) (r : Region) : Bool :=
  if r.kind = 5 then r.ownerUp != ownerUpCode u
  else if r.kind = 6 then (s.up u.other).hubCfg != 0
  else foreignPort s c r.owner

/-- The plan changes a region that the carrying upstream does not own (R351, R369). -/
def planForeign (s : State) (c : Cmd) : Bool :=
  match cmdUp c with
  | none => false
  | some u =>
    !c.auth &&
      (let new := (planAsked s c).1
       (new.filter (fun r => !s.plan.regions.contains r)).any (regionForeign s c u)
         || (s.plan.regions.filter (fun r => !new.contains r)).any (regionForeign s c u))

/-- PLAN_SET waits for the microframe boundary at which every changing region is empty; one plan waits at a time
(R68, R369). -/
def planSet (c : Cmd) (s : State) : State :=
  let n := planAsked s c
  if s.plan.next.isSome then respond s c (.fail stBusy 2 10 n.2)
  else
    let w := addWait s c n.2
    { w.2 with plan := { w.2.plan with next := some (n.1, w.1, n.2) } }

def execPlanSet (c : Cmd) (s : State) : Res := leaves s (runCmd 0x0200 false planForeign planSet c s)

/-- PLAN_GET: the header, then the regions of one or more pages from index FIRST (R369). -/
def planGet (s : State) (c : Cmd) : Resp :=
  let a := args c 2 [parAny 0 8 0, parAny 8 8 128]
  let rs := s.plan.regions.filter (fun r => decide (0 < r.pages))
  let some_ := if a.1 1 = 0 then [] else (rs.drop (a.1 0)).take (a.1 1)
  let n := if a.1 1 = 0 then rs.length else some_.length
  .ok ([0x01] ++ leBytes 1 n ++ zeros 2 ++ (some_.map entryBytes).flatten) a.2

def execPlanGet (c : Cmd) (s : State) : Res := leaves s (runCmd 0x0201 false free_ (answering planGet) c s)

/-! ### Identity map and caches (R97, R98, R101, R104, R370) -/

/-- MODE that a port takes where a command asks for a reserved value: the BDI's, or the profile's (R16, R101, R445). -/
def defaultMode (s : State) (p : Nat) : Nat :=
  let b := match s.sys.image with
    | some i => bits (leNat (section_ s i (0x100 + 16 * (p - 1)) 1)) 3 2
    | none => 3
  if b ≤ 1 then b else (profileMode s p).code

/-- MODE_SET (R97, R98, R370). -/
def modeSet (c : Cmd) (s : State) : State :=
  let p := portArg c
  let a := args c 2 [par 0 8 1 1 32, parElse 8 8 (defaultMode s p) 1 (defaultMode s p)]
  if a.1 1 = 1 ∧ s.pages 4 p 0 = 0 then respond s c (.fail stRefusedState 0 0 a.2)
  else
    let m : Mode := if a.1 1 = 1 then .translated else .transparent
    let s := setMode (s.modPort p (fun q => { q with modeSet := true })) p m
    let s := shareBlock s 0x0202 p (leBytes 1 m.code)
    respond s c (.ok (leBytes 1 m.code ++ leBytes 1 (s.port p).id.eff.code) a.2)

def execModeSet (c : Cmd) (s : State) : Res :=
  leaves s (runCmd 0x0202 false (fun s c => foreignPort s c (portArg c)) modeSet c s)

/-- IDMAP_GET (R101, R370). -/
def execIdmapGet (c : Cmd) (s : State) : Res :=
  leaves s (runCmd 0x0203 false free_ (answering (fun s c => listPorts c 3 [parAny 16 1 0] (fun a p =>
    identBytes (s.port p).id
      ++ (if a 2 = 1 then (altBytes (s.port p).px.alts ++ zeros 32).take 32 else [])))) c s)

/-- CACHE_READ: a DESC region of 0 pages returns no bytes, with CLAMPED set (R104, R370, R386). -/
def cacheRead (s : State) (c : Cmd) : Resp :=
  let a := args c 6 [par 0 8 1 1 32, parAny 16 16 0, parAny 32 16 4088]
  let p := a.1 0
  let q := s.port p
  if s.pages 4 p 0 = 0 then .ok [] true
  else
    let n := min (min (a.1 2) (replyRoom c)) (16 + q.id.cacheLen - a.1 1)
    .ok ((slice (descRegion q) (a.1 1) n)) (a.2 || (n != a.1 2 && reached c.params 32 16) || decide (replyRoom c < a.1 2))

def execCacheRead (c : Cmd) (s : State) : Res := leaves s (runCmd 0x0204 false free_ (answering cacheRead) c s)

/-! ### Refills and lends (R115, R120–R125, R371, R372) -/

/-- PORT_REFILL: a device in L1 on the proxy's account is resumed first (R371, R446); a port in TESTING is refused (R89;
log entry 51). -/
def portRefill (c : Cmd) (s : State) : State :=
  let a := args c 1 [par 0 8 1 1 32]
  let p := a.1 0
  let q := s.port p
  if q.id.eff = .transparent ∨ q.dpe = .testing then respond s c (.fail stRefusedState 0 0 a.2)
  else if q.id.st ≠ .presented ∧ q.id.st ≠ .live then respond s c (.fail stRefusedState 0 0 a.2)
  else if s.pages 4 p 0 = 0 then respond s c (.fail stNoResource 0 0 a.2)
  else if q.refillNext.isSome then respond s c (.fail stBusy 2 10 a.2)
  else
    let w := addWait s c a.2
    if q.pxL1 then (wakePxL1 w.2 p).modPort p (fun q => { q with refillNext := some w.1 })
    else startRefill w.2 p false w.1

def execPortRefill (c : Cmd) (s : State) : Res :=
  leaves s (runCmd 0x0205 false (fun s c => foreignPort s c (portArg c)) portRefill c s)

/-- The status of a lend that is refused at the lender, if it is (R120). -/
def lendRefusal (s : State) (p node : Nat) : Option Nat :=
  let q := s.port p
  if node = 0 ∨ node = s.fab.nodeId then some stRefusedState
  else if 240 < node ∨ ¬ s.hasRoute node then some stNoRoute
  else if q.id.eff = .transparent ∨ q.id.st = .vacant ∨ portBusy q ∨ q.id.owner = .lent then some stRefusedState
  else if s.pages 3 p 0 = 0 then some stNoResource
  else none

/-- LEND: the borrower is asked to reserve v, and the port drains (R120, R121, R372). -/
def lend (c : Cmd) (s : State) : State :=
  let a := args c 4 [par 0 8 1 1 32, parAny 8 8 0, parAny 16 1 0, par 24 8 34 34 41]
  let p := a.1 0
  let u : Up := if a.1 2 = 1 then .b else .a
  match lendRefusal s p (a.1 1) with
  | some st => respond s c (.fail st 0 0 a.2)
  | none =>
    let w := addWait s c a.2
    let d : Drain := { wait := w.1, what := 1, back := (s.port p).id.st, node := a.1 1, up := u, vport := a.1 3 }
    let s := wakePxL1 (w.2.modPort p (fun q => { q with
      drain := some d, id := { q.id with st := .draining },
      tun := { node := a.1 1, own := s.fab.nodeId, up := u, vport := a.1 3 } })) p
    drainDonePhys (sendTun s (.phys p) 0xA 0 []) p

def execLend (c : Cmd) (s : State) : Res :=
  leaves s (runCmd 0x0206 false (fun s c => foreignPort s c (portArg c)) lend c s)

/-- SIDE, PORT, UP and VPORT of LEND_END (R372). -/
def lendEndArgs (c : Cmd) : (Nat → Nat) × Bool :=
  args c 4 [parElse 0 8 0 1 0, par 8 8 1 1 32, parAny 16 1 0, par 24 8 34 34 41]

/-- A recall is judged against HOME_UP (R372). -/
def recallForeign (s : State) (c : Cmd) : Bool := foreignUp c (s.port ((lendEndArgs c).1 1)).id.home

/-- LEND_END at the lender: both halves drain, the other one on a CLOSE that asks for it (log entry 16), and the port goes
home; without a route the lend ends at once (R125, R372). -/
def lendEndRecall (c : Cmd) (s : State) : State :=
  let a := lendEndArgs c
  let p := a.1 1
  let q := s.port p
  if q.id.owner ≠ .lent then respond s c (.fail stRefusedState 0 0 a.2)
  else if portBusy q ∨ q.tun.openWait ≠ 0 then respond s c (.fail stBusy 2 10 a.2)
  else if ¬ s.hasRoute q.tun.node then respond (endLend s p 5) c (.ok [] a.2)
  else
    let w := addWait s c a.2
    sendTun (w.2.modPort p (fun q => { q with
      drain := some { wait := w.1, what := 2, back := q.id.st }, id := { q.id with st := .draining } })) (.phys p) 0xC 2 []

def execLendEndRecall (c : Cmd) (s : State) : Res :=
  leaves s (runForm ((lendEndArgs c).1 0 == 0) 0x0207 false recallForeign lendEndRecall c s)

/-- UP of a release. -/
def releaseUp (c : Cmd) : Up := if (lendEndArgs c).1 2 = 1 then .b else .a

/-- LEND_END at the borrower (R125, R372). -/
def lendEndRelease (c : Cmd) (s : State) : State :=
  let a := lendEndArgs c
  let u := releaseUp c
  let v := a.1 3
  let x := s.vport u v
  if !x.used then respond s c (.fail stRefusedState 0 0 a.2)
  else if x.drain.isSome then respond s c (.fail stBusy 2 10 a.2)
  else if ¬ s.hasRoute x.tun.node then respond (freeVPort s u v) c (.ok [] a.2)
  else
    let w := addWait s c a.2
    drainDone (.virt u v) (w.2.modVPort u v (fun x => { x with drain := some { wait := w.1, what := 2 } }))

def execLendEndRelease (c : Cmd) (s : State) : Res :=
  leaves s (runForm ((lendEndArgs c).1 0 == 1) 0x0207 false (fun _ c => foreignUp c (releaseUp c)) lendEndRelease c s)

end Sys2Proof.Machine
end

