-- ==== Sys2Proof/Machine/PowerCmds.lean ====
section
/-!
DEFINITION. Machine/PowerCmds.lean: the commands of groups 0x03, 0x04 and 0x05: PD, the power path and the budget
(R373–R381).
-/

namespace Sys2Proof.Machine

/-! ### PD (R373–R376) -/

/-- CC_STATE of an upstream, in the order of R138 (R373). -/
def ccUp : Cc → Nat
  | .deadBattery => 0 | .unattachedSnk => 1 | .unattachedSrc => 2 | .attachWaitSnk => 3 | .attachWaitSrc => 4
  | .trySrc => 5 | .tryWaitSnk => 6 | .trySnk => 7 | .tryWaitSrc => 8 | .attachedSnk => 9 | .errorRecovery => 11
  | .idle => 0xFF | .attachWaitCool => 4 | .attachedSrc => 10 | .tripped => 10 | .powerOff => 10

/-- PE_STATE, in the order of R150 (R373). -/
def Pe.code : Pe → Nat
  | .startup => 0 | .sendCaps => 1 | .discovery => 2 | .negotiate => 3 | .capResponse => 4 | .waitNewCaps => 5
  | .transition => 6 | .ready => 7 | .eprEntry => 8 | .hardReset => 9 | .toDefault => 10 | .disabled => 11
  | .snkContract => 0x10 | .snkNone => 0x11 | .stopped => 0xFF

/-- The 24 bytes of PD_STATUS (R373). -/
def pdStatusBytes (s : State) (n : Nat) : List Byte :=
  let d := s.pde n
  let cc := if isUp n then ccUp d.cc else if d.cc = .idle then 0xFF else ccDown d.cc
  leBytes 1 cc ++ leBytes 1 d.pe.code ++ leBytes 1 d.hardN ++ leBytes 1 d.capsN
    ++ leBytes 4 (rpLevel s n + at_ 2 (b2n d.vconn) + at_ 3 (b2n d.frs) + at_ 4 (b2n d.ng))
    ++ leBytes 12 (pdData s n none 0) ++ zeros 4

/-- PD_STATUS (R373). -/
def execPdStatus (c : Cmd) (s : State) : Res := leaves s (runCmd 0x0300 false free_ (getBlock 1 34 pdStatusBytes) c s)

/-- PD_CAPS_READ (R374). -/
def pdCapsRead (s : State) (c : Cmd) : Resp :=
  let a := args c 2 [selPar 1 34, parElse 8 8 0 2 0]
  let d := s.pde (a.1 0)
  let l := match a.1 1 with
    | 0 => d.caps
    | 1 => if isUp (a.1 0) then d.srcCaps else []
    | _ => if isUp (a.1 0) then d.snkCaps else []
  .ok (leBytes 1 l.length ++ zeros 3 ++ (l.map (leBytes 4)).flatten) a.2

def execPdCapsRead (c : Cmd) (s : State) : Res := leaves s (runCmd 0x0301 false free_ (answering pdCapsRead) c s)

/-- PD_SETTINGS_GET (R375). -/
def execPdSettingsGet (c : Cmd) (s : State) : Res := leaves s (runCmd 0x0302 false free_ (getBlock 1 34 pdSetBytes) c s)

/-- PD_SETTINGS_SET (R375). -/
def execPdSettingsSet (c : Cmd) (s : State) : Res :=
  leaves s (runCmd 0x0303 true free_ (setBlock 0x0303 1 34 setPd pdSetBytes) c s)

/-- The selector and ACTION of PD_ACTION (R376). -/
def actionArgs (c : Cmd) : (Nat → Nat) × Bool := args c 2 [selPar 1 34, parElse 8 8 0 5 0]

/-- Attached, for HARD_RESET and ERROR_RECOVERY (R376). -/
def pdAttached (s : State) (n : Nat) : Bool :=
  (s.pde n).cc == .attachedSrc || (isUp n && (s.pde n).cc == .attachedSnk)

/-- The action is refused (R376). -/
def actionRefused (s : State) (n action : Nat) : Bool :=
  let d := s.pde n
  match action with
  | 0 => d.contract.isNone || d.cc == .attachedSnk
  | 1 => d.contract.isNone
  | 2 => !pdAttached s n
  | 3 => !pdAttached s n
  | 4 => !isUp n || d.swap.isSome || !mayPrSwap s n
  | _ => !isUp n || d.contract.isNone

/-- The CC layer goes to ERROR_RECOVERY at once; VBUS and VCONN off (R157, R376). -/
def errorRecover (s : State) (n : Nat) : State :=
  let s := pdStop s n
  let s := s.modPde n (fun d => { d with cc := .errorRecovery, vconn := false, swap := none })
  (vbusOff s n).modPpc n (fun q => { q with gsnk := false })

/-- A reset action acts at once and discards a waiting action; any other waits for the end of an AMS in progress
(R142, R376). -/
def startAction (s : State) (n action : Nat) : State :=
  match action with
  | 2 => sendHardReset (s.modPde n (fun d => { d with action := none })) n
  | 3 => errorRecover (s.modPde n (fun d => { d with action := none })) n
  | a => startOwn (s.modPde n (fun d => { d with action := some a })) n

/-- PD_ACTION (R376). -/
def pdAction (c : Cmd) (s : State) : State :=
  let a := actionArgs c
  let n := a.1 0
  if actionRefused s n (a.1 1) then respond s c (.fail stRefusedState 0 0 a.2)
  else if a.1 1 ≠ 2 ∧ a.1 1 ≠ 3 ∧ (s.pde n).action.isSome then respond s c (.fail stBusy 2 0 a.2)
  else respond (startAction s n (a.1 1)) c (.ok [] a.2)

/-- PD_ACTION in the form with this ACTION. -/
def runAction (action : Nat) (c : Cmd) (s : State) : State :=
  runForm ((actionArgs c).1 1 == action) 0x0304 false (fun s c => foreignSel s c ((actionArgs c).1 0)) pdAction c s

def execPdActionRenegotiate (c : Cmd) (s : State) : Res := leaves s (runAction 0 c s)
def execPdActionSoftReset (c : Cmd) (s : State) : Res := leaves s (runAction 1 c s)
def execPdActionHardReset (c : Cmd) (s : State) : Res := leaves s (runAction 2 c s)
def execPdActionErrorRecovery (c : Cmd) (s : State) : Res := leaves s (runAction 3 c s)
def execPdActionPrSwap (c : Cmd) (s : State) : Res := leaves s (runAction 4 c s)
def execPdActionGetSinkCap (c : Cmd) (s : State) : Res := leaves s (runAction 5 c s)

/-- PD_ACTION_WAITING_START: the AMS in progress has ended and the waiting action starts (R142, R376). -/
def execPdActionWaitingStart (n : Nat) (s : State) : Res :=
  leaves s (if (s.pde n).action.isSome then startOwn s n else s)

/-! ### The power path (R188, R377–R379) -/

def execPpcSettingsGet (c : Cmd) (s : State) : Res :=
  leaves s (runCmd 0x0400 false free_ (getBlock 1 34 (fun s n => ppcBytes (s.ppc n))) c s)

/-- PPC_SETTINGS_SET: applied at once; a power cycle goes on (R188, R377). -/
def execPpcSettingsSet (c : Cmd) (s : State) : Res :=
  leaves s (runCmd 0x0401 true free_ (setBlock 0x0401 1 34 setPpc (fun s n => ppcBytes (s.ppc n))) c s)

/-- PORT_POWER_CYCLE: VBUS goes at once and is owed after OFF_MS and any cool-down (R377). -/
def portPowerCycle (c : Cmd) (s : State) : State :=
  let a := args c 4 [par 0 8 1 1 32, par 16 16 1000 500 30000]
  let p := a.1 0
  let left := if (s.ppc p).cool = 0 then 0 else coolLeft s p
  let s := powerOff (s.modPpc p (fun q => { q with cycle := some (s.ticks + a.1 1 * 1000000) })) p
  respond s c (.ok (leBytes 4 (max (a.1 1) left)) a.2)

def execPortPowerCycle (c : Cmd) (s : State) : Res :=
  leaves s (runCmd 0x0402 false (fun s c => foreignPort s c (portArg c)) portPowerCycle c s)

/-- Mean of the products V × I of samples, mW (R191). -/
def meanPower (l : List (Nat × Int)) : Int :=
  if l.isEmpty then 0 else (l.foldl (fun a x => a + (x.1 : Int) * x.2) 0) / (l.length * 1000 : Nat)

/-- Mean of the currents of samples, mA. -/
def meanCurrent (l : List (Nat × Int)) : Int := if l.isEmpty then 0 else (l.foldl (fun a x => a + x.2) 0) / (l.length : Nat)

/-- Mean of the voltages of samples, mV. -/
def meanVolts (l : List (Nat × Int)) : Nat := if l.isEmpty then 0 else (l.foldl (fun a x => a + x.1) 0) / l.length

/-- A 32-byte meter block (R193, R200). -/
def meterBytes (m : Meter) (pg : Bool) (st : Nat) : List Byte :=
  let fast := m.hist.take 64
  leBytes 2 (sat 16 m.vbus) ++ leBytes 2 (sat 16 m.vconv) ++ leBytes 2 (uns 16 m.ibus) ++ leBytes 2 (uns 16 (meanCurrent fast))
    ++ leBytes 4 (uns 32 (meanPower fast)) ++ leBytes 4 (uns 32 (meanPower m.hist)) ++ leBytes 2 (sat 16 m.peak)
    ++ leBytes 2 (sat 16 (meanVolts m.hist)) ++ leBytes 6 (m.energy / 2 ^ 24)
    ++ leBytes 2 (m.wraps + at_ 8 (b2n m.neg) + at_ 9 (b2n m.sat) + at_ 10 (b2n pg) + at_ 11 st)
    ++ leBytes 4 (m.time % 2 ^ 32)

def FeedSt.code : FeedSt → Nat
  | .absent => 0 | .qualifying => 1 | .on => 2 | .warning => 3 | .ovOff => 4

/-- The block that METER_READ gives for number n: 1–34 power paths, 35 feed A, 36 feed B (R378). -/
def meterEntry (s : State) (n : Nat) : List Byte :=
  if n ≤ 34 then
    let q := s.ppc n
    meterBytes q.meter q.pg q.st.code ++ (if isUp n then leBytes 6 (q.meter.energyIn / 2 ^ 24) ++ zeros 2 else [])
  else
    let f := s.feed (n == 36)
    meterBytes f.meter (f.st == .on) f.st.code

/-- From a management function CLEAR acts on what its upstream owns (R378). -/
def mayClear (s : State) (c : Cmd) (n : Nat) : Bool :=
  match cmdUp c with
  | none => true
  | some u => if n ≤ 32 then s.owns u n else n == portOfUp u

/-- CLEAR: bit 0 IBUS_PEAK, bit 1 NEG_SEEN (R378). -/
def clearMeter (s : State) (clear n : Nat) : State :=
  let f (m : Meter) : Meter := { m with peak := if bit clear 0 then 0 else m.peak, neg := m.neg && !bit clear 1 }
  if n ≤ 34 then s.modPpc n (fun q => { q with meter := f q.meter })
  else s.modFeed (n == 36) (fun x => { x with meter := f x.meter })

/-- METER_READ (R378). -/
def meterRead (c : Cmd) (s : State) : State :=
  let a := span c 3 1 36 1 [parAny 16 2 0]
  let l := (List.range a.2.2.1).map (fun i => a.2.1 + i)
  let clear := a.1 2
  if l.isEmpty then respond s c (.ok (leBytes 1 36) a.2.2.2)
  else
    let barred := clear != 0 && l.any (fun n => !mayClear s c n)
    let r := Resp.ok ((l.map (meterEntry s)).flatten) (a.2.2.2 || barred)
    respond ((l.filter (mayClear s c)).foldl (fun s n => clearMeter s clear n) s) c r

def execMeterRead (c : Cmd) (s : State) : Res := leaves s (runCmd 0x0403 false free_ meterRead c s)

/-- CONVERTER_STATUS (R379). -/
def execConverterStatus (c : Cmd) (s : State) : Res := leaves s (runCmd 0x0404 false free_ (getBlock 1 34 convBytes) c s)

/-- CONVERTER_INIT waits for the end of the initialisation sequence (R168, R379). -/
def converterInit (c : Cmd) (s : State) : State :=
  let a := args c 1 [selPar 1 34]
  let n := a.1 0
  let q := s.conv n
  let inUse : Bool := match (s.ppc n).st with | .ramp => true | .on => true | .transition => true | .frozen => true | _ => false
  if inUse ∨ q.cst = .unnamed then respond s c (.fail stRefusedState 0 0 a.2)
  else if q.wait ≠ 0 then respond s c (.fail stBusy 2 5 a.2)
  else
    let w := addWait s c a.2
    let s := w.2.modConv n (fun x => { x with wait := w.1 })
    if !convUsable s n then initDone s n .initFailed
    else if q.init = 0 then pmbusInit n s else s

def execConverterInit (c : Cmd) (s : State) : Res := leaves s (runCmd 0x0405 true free_ converterInit c s)

/-! ### The budget (R196, R205, R206, R380, R381) -/

def execFeedSettingsGet (c : Cmd) (s : State) : Res :=
  leaves s (runCmd 0x0500 false free_ (getBlock 0 1 (fun s n => feedBlock (s.feed (n == 1)).set)) c s)

/-- A command completes after the recomputation that waits (R380). -/
def awaitBudget (s : State) (w : Nat) : State := { s with pba := { s.pba with waits := s.pba.waits ++ [w] } }

/-- FEED_SETTINGS_SET: the change takes effect at the next meter sample (R196, R380). -/
def feedSettingsSet (c : Cmd) (s : State) : State :=
  let n := (selPar 0 1).read c.params
  let b := n.1 == 1
  let f := s.feed b
  let r := feedRead ((f.next.map (·.1)).getD f.set) (c.params.drop 4)
  let s := shareBlock s 0x0501 n.1 (feedBlock r.1)
  let w := addWait s c (n.2 || r.2)
  let s := match f.next with
    | some x => awaitBudget w.2 x.2
    | none => w.2
  s.modFeed b (fun f => { f with next := some (r.1, w.1) })

def execFeedSettingsSet (c : Cmd) (s : State) : Res := leaves s (runCmd 0x0501 true free_ feedSettingsSet c s)

def execPbaGlobalGet (c : Cmd) (s : State) : Res := leaves s (runCmd 0x0502 false free_ (getWhole globalBlock) c s)

/-- PBA_GLOBAL_SET (R205, R380). -/
def pbaGlobalSet (c : Cmd) (s : State) : State :=
  let r := setPbaGlobal s c.params
  let s := shareBlock r.2 0x0503 0 (globalBlock r.2)
  let w := addWait s c r.1
  pbaTrigger (awaitBudget w.2 w.1) 2

def execPbaGlobalSet (c : Cmd) (s : State) : Res := leaves s (runCmd 0x0503 true free_ pbaGlobalSet c s)

def execPbaPortGet (c : Cmd) (s : State) : Res := leaves s (runCmd 0x0504 false free_ (getBlock 1 34 pbaBlock) c s)

/-- PBA_PORT_SET: a pin is clamped against the pins in effect (R206, R213, R380). -/
def pbaPortSet (c : Cmd) (s : State) : State :=
  let n := (selPar 1 34).read c.params
  let r := setPbaPort s n.1 (some (pinRoom s n.1)) (c.params.drop 4)
  let s := shareBlock r.2 0x0505 n.1 (pbaBlock r.2 n.1)
  let w := addWait s c (n.2 || r.1)
  pbaTrigger (awaitBudget w.2 w.1) 2

def execPbaPortSet (c : Cmd) (s : State) : Res :=
  leaves s (runCmd 0x0505 false (fun s c => foreignSel s c (selector c.params 1 34)) pbaPortSet c s)

/-- The 16 bytes of BUDGET_STATUS (R381). -/
def budgetStatusBytes (s : State) : List Byte :=
  let p := s.pba
  let pending := (allPorts.filter (fun n => decide ((s.pb n).alloc < (s.pb n).target))).length
  leBytes 2 p.budget ++ leBytes 2 (committed s) ++ leBytes 2 (sat 16 (capacity s (healthy s) * 10)) ++ leBytes 2 (sat 16 (pinFloor s))
    ++ leBytes 8 (p.table + at_ 4 (healthy s) + at_ 6 (b2n p.ew) + at_ 7 (b2n p.sinkFed) + at_ 8 (sat 16 (sinkBudget s))
      + at_ 24 (shedFrom s) + at_ 32 pending)

def execBudgetStatus (c : Cmd) (s : State) : Res := leaves s (runCmd 0x0506 false free_ (getWhole budgetStatusBytes) c s)

end Sys2Proof.Machine
end

