-- ==== Sys2Proof/Machine/PairCmds.lean ====
section
/-!
DEFINITION. Machine/PairCmds.lean: the commands of groups 0x06 to 0x09: pair, fabric, events and time (R384–R395).
-/

namespace Sys2Proof.Machine

/-! ### Pair (R384–R386) -/

/-- PAIR_STATUS: the executing chip's block (R246, R384). -/
def execPairStatus (c : Cmd) (s : State) : Res := leaves s (runCmd 0x0600 false free_ (getWhole pairStatusBytes) c s)

/-- PAIR_SETTINGS_GET (R245). -/
def execPairSettingsGet (c : Cmd) (s : State) : Res := leaves s (runCmd 0x0601 false free_ (getWhole pairSetBytes) c s)

/-- PAIR_SETTINGS_SET: refused on a single chip; applies to both chips (R245, R384). -/
def pairSettingsSet (c : Cmd) (s : State) : State :=
  if s.isPair then setWhole 0x0602 setPair pairSetBytes c s else respond s c (.fail stRefusedState)

def execPairSettingsSet (c : Cmd) (s : State) : Res := leaves s (runCmd 0x0602 true free_ pairSettingsSet c s)

/-- HANDOVER waits for its quiet point; a rejoin handover that waits takes it in (R240, R385). -/
def handover (c : Cmd) (s : State) : State :=
  if !s.isPair then respond s c (.fail stRefusedState 1)
  else if !partnerReady s then respond s c (.fail stRefusedState 2)
  else
    match s.pair.partnerFw with
    | some t => respond s c (.fail stBusy 1 (msLeft s t))
    | none =>
      let w := addWait s c (!c.params.isEmpty)
      startHandover w.2 false (some w.1)

def execHandover (c : Cmd) (s : State) : Res := leaves s (runCmd 0x0603 true free_ handover c s)

/-- The outer transport of a relay, as PARTNER_CMD frames carry it (R386; log entry 28): its number, a fabric source from
bit 3. -/
def outerCode (t : Transport) : Nat := (carrier t).1 + 8 * (carrier t).2

/-- The inner packet may not be relayed: TARGET not 0, PAIR_RELAY itself, or FRAG set (R386). -/
def innerBarred (b : List Byte) : Bool :=
  leNat (slice b 8 1) != 0 || leNat (slice b 2 2) == 0x0604 || bit (leNat (slice b 9 1)) 3

/-- PAIR_RELAY: the inner packet goes to the partner as PARTNER_CMD frames, and the command waits for the inner response
(R276, R386). -/
def pairRelay (c : Cmd) (s : State) : State :=
  if !s.isPair then respond s c (.fail stRefusedState 1)
  else if !s.pair.ladle then respond s c (.fail stRefusedState 4)
  else if innerBarred c.params then respond s c (.fail stRefusedState 3)
  else
    let w := addWait s c
    (cutSegs 6 0 c.params).foldl
      (fun s x => sendLadle s 3 0x3D (x.1 + 16 * b2n x.2.1 + 64 * outerCode c.tr) x.2.2) w.2

def execPairRelay (c : Cmd) (s : State) : Res := leaves s (runCmd 0x0604 false free_ pairRelay c s)

/-! ### Fabric (R387–R389) -/

/-- The node's status block (R281). -/
def nodeBytes (s : State) : List Byte :=
  let f := s.fab
  leBytes 8 (f.nodeId + at_ 8 (b2n f.fixed) + at_ 9 (b2n f.tentative) + at_ 16 f.root + at_ 24 (sat 8 f.level)
    + at_ 32 (sat 8 f.reachable))

def LinkSt.code : LinkSt → Nat
  | .disabled => 0 | .acquire => 1 | .train => 2 | .check => 3 | .up => 4 | .retrain => 5 | .down => 6 | .sleep => 7

/-- A link's status block (R281). -/
def linkBytes (s : State) (l : Nat) : List Byte :=
  let k := s.link l
  leBytes 16 (k.st.code + at_ 3 (b2n k.ladle) + at_ 4 (k.dir % 4) + at_ 8 k.nbrNode + at_ 16 (k.nbrLink % 4)
    + at_ 24 (sat 8 k.retrains) + at_ 32 k.bursts + at_ 48 k.crcErrs + at_ 64 k.aborts + at_ 80 k.discards + at_ 96 k.rtt)

/-- The counters of a link that FABRIC_STATUS clears (R387). -/
def clearLink (s : State) (l : Nat) : State :=
  s.modLink l (fun k => { k with retrains := 0, bursts := 0, crcErrs := 0, aborts := 0, discards := 0 })

/-- FABRIC_STATUS: the counters are cleared after they are read (R387). -/
def fabricStatus (c : Cmd) (s : State) : State :=
  let a := span c 3 0 3 4 [parAny 16 1 0]
  let l := (List.range a.2.2.1).map (fun i => a.2.1 + i)
  let r := Resp.ok (nodeBytes s ++ (l.map (linkBytes s)).flatten) a.2.2.2
  respond (if a.1 2 = 1 then l.foldl clearLink s else s) c r

def execFabricStatus (c : Cmd) (s : State) : Res := leaves s (runCmd 0x0700 false free_ fabricStatus c s)

def execFabricSettingsGet (c : Cmd) (s : State) : Res := leaves s (runCmd 0x0701 false free_ (getWhole fabricSetBytes) c s)

/-- FABRIC_SETTINGS_SET: a NODE_ID of 1–240 is a FIXED claim at the next LSA (R280, R389). -/
def execFabricSettingsSet (c : Cmd) (s : State) : Res :=
  leaves s (runCmd 0x0702 true free_ (setWhole 0x0702 setFabric fabricSetBytes) c s)

/-- Ascending node ID, nodes without an ID after them in ascending UID (R388). -/
def nodeBefore (a b : Lsa) : Bool :=
  if a.claim = 0 then b.claim == 0 && decide (a.uid ≤ b.uid)
  else b.claim == 0 || decide (a.claim < b.claim) || (a.claim == b.claim && decide (a.uid ≤ b.uid))

def insertNode (a : Lsa) : List Lsa → List Lsa
  | [] => [a]
  | b :: l => if nodeBefore a b then a :: b :: l else b :: insertNode a l

/-- An entry of NODE_LIST (R388). The role of a node that is no neighbour, and the level of one that is not reachable,
come from nothing that the spec names: `v` is a free value (log entry 37). -/
def nodeEntry (s : State) (g : Graph) (v : Nat) (a : Lsa) : List Byte :=
  let own := a.uid == s.nodeUid
  let id := if own then s.fab.nodeId else a.claim
  let e := if own ∨ id = 0 then none else s.fab.table.find? (·.dest == id)
  let up := e.bind (·.upHop)
  let dn := e.bind (·.dnHop)
  let role := if own then s.sys.role
    else match (linkNumbers.map s.link).find? (fun k => k.st == .up && k.nbrUid == a.uid) with
      | some k => k.nbrRole % 4
      | none => v % 4
  leBytes 8 a.uid ++ leBytes 8 (id + at_ 8 ((lookup g.levels a.uid).getD (v / 4 % 256)) + at_ 16 (up.getD 0) + at_ 18 (b2n up.isSome)
    + at_ 19 (dn.getD 0) + at_ 21 (b2n dn.isSome) + at_ 22 (b2n a.fixed) + at_ 23 (b2n (a.uid == s.fab.rootUid))
    + at_ 24 a.cl + at_ 32 (min 7 a.links.length) + at_ 35 role + at_ 40 (sat 8 ((e.map (·.hops)).getD 0)))

/-- NODE_LIST: one entry for each LSA held; with COUNT 0 one byte holding REACHABLE (R386, R388). -/
def nodeList (c : Cmd) (s : State) : State :=
  let a := args c 2 [parAny 0 8 0, parAny 8 8 255]
  let ls := (s.fab.lsas.map (fun h => if h.lsa.uid = s.nodeUid then { h.lsa with claim := s.fab.nodeId } else h.lsa)).foldl
    (fun l x => insertNode x l) []
  let g := fabGraph s
  let n := min (a.1 1) (replyRoom c / 16)
  let clamped := a.2 || decide (n < a.1 1)
  if a.1 1 = 0 then respond s c (.ok (leBytes 1 (sat 8 s.fab.reachable)) a.2)
  else
    let l := ((ls.drop (a.1 0)).take n).mapIdx (fun i x => nodeEntry s g (Config.freeNat (s.freeIdx + i)) x)
    let t := respond s c (.ok l.flatten clamped)
    { t with freeIdx := t.freeIdx + l.length }

def execNodeList (c : Cmd) (s : State) : Res := leaves s (runCmd 0x0703 false free_ nodeList c s)

/-! ### Events (R390–R393) -/

/-- QUEUE, PEEK, ACK_VALID, SEQ and COUNT of EVENT_FETCH (R390). -/
def fetchArgs (c : Cmd) : (Nat → Nat) × Bool :=
  args c 5 [parElse 0 8 2 3 2, parAny 8 1 0, parAny 9 1 0, parAny 16 16 0, par 32 8 127 0 127]

def queueOf (n : Nat) : QueueId := match n with | 0 => .a | 1 => .b | 3 => .fabric | _ => .sideband

/-- PEEK is forced to 1 for queues 0, 1 and 3 (R390). -/
def peeks (c : Cmd) : Bool := (fetchArgs c).1 0 != 2 || (fetchArgs c).1 1 == 1

/-- The header and the records of a fetch (R390). -/
def fetchBytes (q : Queue) (recs : List EvRec) (skipped : Bool) : List Byte :=
  let first := ((recs.head?).map (·.qseq)).getD q.next
  leBytes 8 (q.recs.length + at_ 16 q.next.toNat + at_ 32 first.toNat + at_ 48 recs.length + at_ 56 (b2n q.overflowing)
    + at_ 57 (b2n skipped)) ++ (recs.map EvRec.bytes).flatten

/-- The queue once ACK_SEQ has freed what it names (R390). -/
def fetchFreed (q : Queue) (asks : Bool) (hit : Option Nat) : Queue :=
  match asks, hit with
  | true, some i => q.free (queueCap .sideband) (i + 1)
  | _, _ => q

/-- EVENT_FETCH with PEEK 0: what ACK_SEQ acknowledges is freed, and the oldest records not yet freed are returned
(R308, R390). -/
def eventFetch (c : Cmd) (s : State) : State :=
  let a := fetchArgs c
  let q := s.queue .sideband
  let n := a.1 4
  let hit := (q.recs.take q.fetched).findIdx? (fun r => r.qseq.toNat == a.1 3)
  let asks := a.1 2 == 1 && n != 0
  let q := fetchFreed q asks hit
  let recs := q.recs.take n
  let q := { q with fetched := max q.fetched recs.length }
  respond (s.modQueue .sideband (fun _ => q)) c (.ok (fetchBytes q recs false) (a.2 || (asks && hit.isNone)))

def execEventFetch (c : Cmd) (s : State) : Res := leaves s (runForm (!peeks c) 0x0800 false free_ eventFetch c s)

/-- EVENT_FETCH with PEEK 1: held records from FROM_SEQ on; CLAMPED when the payload asked for PEEK 0 on a queue that only
peeks (R390). -/
def eventPeek (s : State) (c : Cmd) : Resp :=
  let a := fetchArgs c
  let q := s.queue (queueOf (a.1 0))
  let forced := a.1 1 == 0 && reached c.params 8 1
  let at? := q.recs.findIdx? (fun r => r.qseq.toNat == a.1 3)
  let none_ := a.1 4 == 0 || a.1 3 == q.next.toNat
  let recs := if none_ then [] else (q.recs.drop (at?.getD 0)).take (a.1 4)
  .ok (fetchBytes q recs (!none_ && at?.isNone)) (a.2 || forced)

def execEventFetchPeek (c : Cmd) (s : State) : Res :=
  leaves s (runForm (peeks c) 0x0800 false free_ (answering eventPeek) c s)

/-- QUEUE_STATUS (R302, R391). -/
def queueStatusBytes (s : State) : List Byte :=
  s.ev.qa.status ++ s.ev.qb.status ++ s.ev.qsb.status ++ s.ev.qfab.status ++ leBytes 1 s.ev.capture.length

def execQueueStatus (c : Cmd) (s : State) : Res := leaves s (runCmd 0x0801 false free_ (getWhole queueStatusBytes) c s)

/-- Route bytes of `n` sources from `first` on. -/
def routeBytes (s : State) (first n : Nat) : List Byte := (List.range n).map (fun i => BitVec.ofNat 8 (s.route (first + i)))

/-- EVENT_ROUTE_GET; with COUNT 0 two bytes holding 448 (R344, R392; log entry 38). -/
def eventRouteGet (s : State) (c : Cmd) : Resp :=
  let a := args c 4 [par 0 16 0 0 447, parAny 16 16 448]
  let n := min (a.1 1) (448 - a.1 0)
  if a.1 1 = 0 then .ok (leBytes 2 448) a.2
  else .ok (routeBytes s (a.1 0) n) (a.2 || (n != a.1 1 && reached c.params 16 16))

def execEventRouteGet (c : Cmd) (s : State) : Res := leaves s (runCmd 0x0802 false free_ (answering eventRouteGet) c s)

/-- A route byte as a command may set it: from the management function of u without authentication only u's own queue bit
changes (R392). -/
def routeAllowed (c : Cmd) (old new : Nat) : Nat :=
  match cmdUp c with
  | some u => if c.auth then new % 64
      else
        let b := u.code
        old - at_ b (bits old b b) + at_ b (bits new b b)
  | none => new % 64

/-- EVENT_ROUTE_SET (R301, R392). -/
def eventRouteSet (c : Cmd) (s : State) : State :=
  let f := (par 0 16 0 0 447).read c.params
  let asked := c.params.drop 4
  let n := min asked.length (448 - f.1)
  let new : List Byte := (asked.take n).mapIdx (fun i b => BitVec.ofNat 8 (routeAllowed c (s.route (f.1 + i)) b.toNat))
  let denied := (asked.take n).mapIdx (fun i b => new.getD i 0 != b % 64)
  let s := setRoutes s f.1 new
  let s := shareBlock s 0x0803 f.1 new
  respond s c (.ok (routeBytes s f.1 n) (f.2 || decide (n < asked.length) || denied.any (·)))

def execEventRouteSet (c : Cmd) (s : State) : Res := leaves s (runCmd 0x0803 false free_ eventRouteSet c s)

def execEventSettingsGet (c : Cmd) (s : State) : Res := leaves s (runCmd 0x0804 false free_ (getWhole eventSetBytes) c s)

/-- EVENT_SETTINGS_SET (R303, R393). -/
def execEventSettingsSet (c : Cmd) (s : State) : Res :=
  leaves s (runCmd 0x0805 true free_ (setWhole 0x0805 setEvent eventSetBytes) c s)

/-! ### Time (R285, R286, R394, R395) -/

/-- The time status block (R286). -/
def timeStatusBytes (s : State) : List Byte :=
  let t := s.tu
  leBytes 8 s.now ++ leBytes 4 (t.sync.code + at_ 3 (b2n t.isRoot) + at_ 4 (t.parent % 4) + at_ 6 (b2n t.ppsLocked)
    + at_ 8 t.root + at_ 16 t.stratum) ++ leBytes 4 (uns 32 t.offset) ++ leBytes 4 (uns 32 t.pathDelay)
    ++ leBytes 2 s.rate100 ++ leBytes 2 t.steps

def execTimeStatus (c : Cmd) (s : State) : Res := leaves s (runCmd 0x0900 false free_ (getWhole timeStatusBytes) c s)

def execTimeSettingsGet (c : Cmd) (s : State) : Res := leaves s (runCmd 0x0901 false free_ (getWhole timeSetBytes) c s)

/-- TIME_SETTINGS_SET (R285). -/
def execTimeSettingsSet (c : Cmd) (s : State) : Res :=
  leaves s (runCmd 0x0902 true free_ (setWhole 0x0902 setTime timeSetBytes) c s)

/-- NEW_TIME and AT_PPS (R394). -/
def epochArgs (s : State) (c : Cmd) : (Nat → Nat) × Bool := args c 9 [parAny 0 64 s.now, parAny 64 1 0]

/-- TIME_EPOCH with AT_PPS clear: TIME steps at the root whatever STEP_EN says (R394). -/
def timeEpoch (c : Cmd) (s : State) : State :=
  let a := epochArgs s c
  if !s.tu.isRoot then respond s c (.fail stRefusedState 1 0 a.2)
  else
    let s := stepTime s ((a.1 0 : Int) - s.now)
    respond s c (.ok (leBytes 8 s.now) a.2)

def execTimeEpoch (c : Cmd) (s : State) : Res :=
  leaves s (runForm ((epochArgs s c).1 1 == 0) 0x0903 true free_ timeEpoch c s)

/-- TIME_EPOCH with AT_PPS set: armed for the next accepted edge; one command is armed at a time (R394). -/
def timeEpochAtPps (c : Cmd) (s : State) : State :=
  let a := epochArgs s c
  let v := a.1 0 / 1000000000 * 1000000000
  if !s.tu.isRoot then respond s c (.fail stRefusedState 1 0 a.2)
  else if !s.tu.ppsLocked then respond s c (.fail stRefusedState 2 0 a.2)
  else if s.tu.epoch.isSome then respond s c (.fail stBusy 2 1010 a.2)
  else
    let w := addWait s c (a.2 || v != a.1 0)
    { w.2 with tu := { w.2.tu with epoch := some (v, w.1) } }

def execTimeEpochAtPps (c : Cmd) (s : State) : Res :=
  leaves s (runForm ((epochArgs s c).1 1 == 1) 0x0903 true free_ timeEpochAtPps c s)

/-- The correlation block of an upstream (R292). -/
def sofBytes (s : State) (u : Up) : List Byte :=
  let x := s.up u
  let n := x.sofSpacing.length
  leBytes 8 x.sofTime
    ++ leBytes 8 (x.frame + at_ 11 x.uframe + at_ 14 (b2n x.sofLocked) + at_ 15 (b2n (x.link == .hs))
      + at_ 32 (if n = 0 then 0 else x.sofSpacing.foldl (· + ·) 0 / n))

/-- SOF_READ (R292, R395). -/
def sofRead (s : State) (c : Cmd) : Resp :=
  let a := args c 1 [parElse 0 8 0 1 0]
  .ok (sofBytes s (if a.1 0 = 1 then .b else .a) ++ leBytes 8 s.now) a.2

def execSofRead (c : Cmd) (s : State) : Res := leaves s (runCmd 0x0904 false free_ (answering sofRead) c s)

end Sys2Proof.Machine
end

