-- ==== Sys2Proof/Machine/RecordCmds.lean ====
section
/-!
DEFINITION. Machine/RecordCmds.lean: the commands of groups 0x0A and 0x0B: the Crock and the Sieve (R396–R401).
-/

namespace Sys2Proof.Machine

/-! ### The Crock (R312, R329, R396–R399) -/

/-- The Crock's status block (R329). -/
def crockStatusBytes (s : State) : List Byte :=
  let k := s.crock
  leBytes 4 k.jseqNext.toNat ++ leBytes 4 k.oldest ++ leBytes 2 k.ffUsed ++ leBytes 2 (s.paired plEpoch)
    ++ leBytes 1 (k.used.length + at_ 7 (b2n k.fault)) ++ leBytes 1 (sat 8 k.bad.length) ++ leBytes 2 s.ev.qj.recs.length
    ++ leBytes 4 k.dropped ++ leBytes 4 k.torn

def execCrockStatus (c : Cmd) (s : State) : Res := leaves s (runCmd 0x0A00 false free_ (getWhole crockStatusBytes) c s)

/-- PART: reserved values are clamped to 6 (R396). -/
def partPar : Par := parElse 0 8 6 7 6

/-- The factory block that Olnil wrote at test (R326): 252 bytes and their CRC-32C. -/
def factoryBlock : List Byte :=
  let date := Config.testDate
  let b := leBytes 8 1 ++ leBytes 8 Config.uid.toNat ++ leBytes 2 Config.vendorId.toNat ++ leBytes 1 stepping ++ leBytes 1 1
    ++ leBytes 2 (date / 372) ++ leBytes 1 (date / 31 % 12 + 1) ++ leBytes 1 (date % 31 + 1) ++ zeros 228
  b ++ leBytes 4 (crc32c b)

/-- The calibration block (R326): its trims are the chip's own. -/
def calibBlock : List Byte :=
  let b := leBytes 4 1 ++ (List.range 672).map Config.calib ++ zeros 3160
  b ++ leBytes 4 (crc32c b)

/-- The partition's bytes as a command reads them: the reserve and the key slots read 0 (R312, R396). -/
def partRead (s : State) (part off n : Nat) : List Byte :=
  let base := (partBase part).1
  if part = 7 then zeros n
  else if part = 5 then
    let b := s.crockRead (base + off) n
    let f := if off < 0x1000 then factoryBlock ++ calibBlock else []
    b.mapIdx (fun i x => if off + i < 0x1000 then f.getD (off + i) 0 else if 0x2000 ≤ off + i ∧ off + i < 0x3000 then 0 else x)
  else if part = 4 then
    ((List.range (n / 64)).map (fun i =>
      let b := slotBytes s (off / 64 + i)
      if slotValid b then b else zeros 64)).flatten
  else s.crockRead (base + off) n

/-- CROCK_READ: OFFSET and LENGTH are clamped to the partition's end; whole slots of the journal (R312, R386, R396). -/
def crockReadCmd (s : State) (c : Cmd) : Resp :=
  let a := args c 10 [partPar, parAny 32 32 0, parAny 64 16 4088]
  let part := a.1 0
  let size := (partBase part).2
  let off := min (a.1 1) size
  let n := min (min (a.1 2) (replyRoom c)) (size - off)
  let off' := if part = 4 then off / 64 * 64 else off
  let n' := if part = 4 then n / 64 * 64 else n
  .ok (partRead s part off' n') (a.2 || off' != a.1 1 || n' != a.1 2)

def execCrockRead (c : Cmd) (s : State) : Res := leaves s (runCmd 0x0A01 false free_ (answering crockReadCmd) c s)

/-- The pieces of a write, line by line: the line's address and its 16 bytes with the new ones merged into `old` of it
(R397). -/
def linesOf (old : Nat → List Byte) : Nat → Nat → List Byte → List (Nat × List Byte)
  | 0, _, _ => []
  | fuel + 1, a, bs =>
    if bs.isEmpty then []
    else
      let l := a / 16 * 16
      let k := a - l
      let n := 16 - k
      let o := old l
      (l, o.take k ++ bs.take n ++ o.drop (k + min n bs.length)) :: linesOf old fuel (l + 16) (bs.drop n)

/-- What stands in a line: the bytes that wait for it, or its own (R317). -/
def lineBytes (s : State) (l : Nat) : List Byte :=
  match s.crock.lineWait.reverse.find? (·.1 == l) with
  | some x => x.2
  | none => s.crockRead l 16

/-- A line of the user area is written, or waits for its 20 µs; answers how many wait (R317). -/
def writeUserLine (x : Nat × State) (l : Nat × List Byte) : Nat × State :=
  if lineReady x.2 l.1 then (x.1, putLine x.2 l.1 l.2)
  else (x.1 + 1, { x.2 with crock := { x.2.crock with lineWait := x.2.crock.lineWait ++ [l] } })

/-- PART, OFFSET and data of CROCK_WRITE (R397). -/
def writeArgs (c : Cmd) : (Nat → Nat) × Bool :=
  let a := partPar.read c.params
  let o := (parAny 32 32 0).read c.params
  ((fun i => if i = 0 then a.1 else o.1), a.2 || o.2)

/-- The bank or image that a write names is the one in use (R397). -/
def partInUse (s : State) (part : Nat) : Bool :=
  match part with
  | 0 => !s.sys.romOnly && !s.sys.bankB
  | 1 => !s.sys.romOnly && s.sys.bankB
  | 2 => s.sys.image == some 0
  | 3 => s.sys.image == some 1
  | _ => false

/-- CROCK_WRITE (R312, R313, R317, R397). -/
def crockWriteCmd (c : Cmd) (s : State) : State :=
  let a := writeArgs c
  let part := a.1 0
  let base := (partBase part).1
  let size := (partBase part).2
  let off := min (a.1 1) size
  let data := (c.params.drop 8).take (size - off)
  let clamped := a.2 || off != a.1 1 || decide (data.length + 8 < c.params.length)
  if part = 4 ∨ part = 5 ∨ part = 7 then respond s c (.fail stRefusedState 1 0 clamped)
  else if partInUse s part then respond s c (.fail stRefusedState 2 0 clamped)
  else if s.crock.fault then respond s c (.fail stInternal 1 0 clamped)
  else
    let done := leBytes 4 data.length
    if part = 6 then
      let r := (linesOf (lineBytes s) (data.length + 1) (base + off) data).foldl writeUserLine (0, s)
      if r.1 = 0 then respond r.2 c (.ok done clamped)
      else
        let w := addWait r.2 c clamped
        { w.2 with crock := { w.2.crock with writes := w.2.crock.writes ++ [(w.1, r.1, done)] } }
    else
      let s := if data.isEmpty then s
        else (linesOf (lineBytes s) (data.length + 1) (base + off) data).foldl (fun s l => putLine s l.1 l.2)
          (if part = 0 then unverify s false else if part = 1 then unverify s true else s)
      respond s c (.ok done clamped)

/-- Banks and images need authentication (R383, R397). -/
def execCrockWrite (c : Cmd) (s : State) : Res :=
  leaves s (runCmd 0x0A02 (decide ((writeArgs c).1 0 < 4)) free_ crockWriteCmd c s)

/-- Slots of the journal that hold a valid record: those that hold a byte, and those served by a spare (R316, R322). -/
def validSlots (s : State) : List (Nat × List Byte) :=
  let moved := (s.crock.bad.filter (fun a => decide (0x1A0000 ≤ a) && decide (a < 0x3A0000))).map (fun a => (a - 0x1A0000) / 64)
  ((listedSlots s.crock.mem ++ moved).eraseDups.map (fun k => (k, slotBytes s k))).filter (fun x => slotValid x.2)

def insertRecord (x : Nat × List Byte) : List (Nat × List Byte) → List (Nat × List Byte)
  | [] => [x]
  | y :: l => if slotJseq x.2 ≤ slotJseq y.2 then x :: y :: l else y :: insertRecord x l

/-- The records of the first-fault area, in ascending JSEQ; those of earlier epochs only on request (R398). -/
def ffRecords (s : State) (allEpochs : Bool) : List (Nat × List Byte) :=
  ((validSlots s).filter (fun x => decide (x.1 < 1024) && (allEpochs || slotEpoch x.2 == s.paired plEpoch % 65536))).foldl
    (fun l x => insertRecord x l) []

/-- The records of the ring, in ascending JSEQ. -/
def ringRecords (s : State) : List (Nat × List Byte) :=
  ((validSlots s).filter (fun x => decide (1024 ≤ x.1) && decide (s.crock.oldest ≤ slotJseq x.2))).foldl
    (fun l x => insertRecord x l) []

/-- JOURNAL_READ. With nothing to read in the first-fault area the spec states no default of FROM_JSEQ: a free value
(R398; log entry 37). -/
def journalRead (c : Cmd) (s : State) : State :=
  let p := args c 6 [parAny 0 32 0, par 32 8 63 0 63, parAny 40 1 0, parAny 41 1 0]
  let l := if p.1 2 = 0 then ringRecords s else ffRecords s (p.1 3 == 1)
  let dflt := if p.1 2 = 0 then s.crock.oldest else ((l.head?).map (fun x => slotJseq x.2)).getD (s.free % 2 ^ 32)
  let a := args c 6 [parAny 0 32 dflt, par 32 8 63 0 63, parAny 40 1 0, parAny 41 1 0]
  let from_ := a.1 0
  let recs := (l.filter (fun x => decide (from_ ≤ slotJseq x.2))).take (a.1 1)
  let next := ((recs.getLast?).map (fun x => slotJseq x.2 + 1)).getD from_
  (respond s c (.ok (leBytes 4 next ++ leBytes 1 recs.length ++ leBytes 1 (sat 8 (next - from_ - recs.length)) ++ zeros 2
    ++ (recs.map (·.2)).flatten) a.2)).drawn

def execJournalRead (c : Cmd) (s : State) : Res := leaves s (runCmd 0x0A03 false free_ journalRead c s)

/-- FF_CLEAR answers the highest JSEQ that stood in the area (R324, R399). -/
def ffClear (c : Cmd) (s : State) : State :=
  let top := ((ffRecords s false).getLast?).map (fun x => slotJseq x.2)
  respond (clearFirstFaults s) c (.ok (leBytes 4 (top.getD 0xFFFFFFFF)) (!c.params.isEmpty))

def execFfClear (c : Cmd) (s : State) : Res := leaves s (runCmd 0x0A04 true free_ ffClear c s)

/-- Every cell of an address range reads 0. -/
def eraseCells (m : List Host.Cell) (lo hi : Nat) : List Host.Cell :=
  m.filter (fun x => decide (x.1 < lo) || decide (hi ≤ x.1))

/-- User-area bytes become 0, those of lines that spares serve among them (R316, R399). -/
def eraseUser (s : State) (lo hi : Nat) : State :=
  let m := eraseCells s.crock.mem lo hi
  let m := (s.crock.bad.filter (fun a => decide (lo ≤ a) && decide (a < hi))).foldl (fun m a =>
    eraseCells m (placed s.crock a) (placed s.crock a + 16)) m
  { s with crock := { s.crock with mem := m } }

/-- USER_ERASE: lines that wait are written first; then the blocks hold 0 and are unused (R327, R399). -/
def userErase (c : Cmd) (s : State) : State :=
  let a := span c 2 0 63 1 []
  let lo := a.2.1
  let n := a.2.2.1
  let s := (List.range s.crock.lineWait.length).foldl (fun s _ => userLineWrite .good s) s
  let s := eraseUser s (0x3B0000 + 4096 * lo) (0x3B0000 + 4096 * (lo + n))
  let used := s.crock.used.filter (fun b => decide (b < lo) || decide (lo + n ≤ b))
  let s := { s with crock := { s.crock with used := used, userTold := s.crock.userTold && decide (58 ≤ used.length) } }
  respond s c (.ok (leBytes 1 used.length) a.2.2.2)

def execUserErase (c : Cmd) (s : State) : Res := leaves s (runCmd 0x0A05 false free_ userErase c s)

/-! ### The Sieve (R333–R338, R400, R401) -/

/-- SIEVE_GET (R333). -/
def execSieveGet (c : Cmd) (s : State) : Res :=
  leaves s (runCmd 0x0B00 false free_ (getBlock 0 7 (fun s n => sieveSetBytes (s.sieveCh n))) c s)

/-- The channel's settings as SIEVE_SET's payload gives them. -/
def sieveAsked (s : State) (c : Cmd) : SieveCh × Bool :=
  sieveRead (s.sieveCh (selector c.params 0 7)) (c.params.drop 4)

/-- The O mark applies while the block written has MODE SEAL: SEAL_PORT, or SEAL_UP for a virtual port (R351, R400). -/
def sealForeign (s : State) (c : Cmd) : Bool :=
  let x := (sieveAsked s c).1
  x.mode == 3 && (if 34 ≤ x.port then foreignUp c (if x.upB then .b else .a)
    else x.port != 0 && foreignPort s c x.port)

/-- SIEVE_SET (R333, R337, R400). -/
def sieveSet (c : Cmd) (s : State) : State :=
  let n := (selPar 0 7).read c.params
  let r := sieveAsked s c
  let x := r.1
  if x.mode = 3 ∧ (x.port = 0 ∨ (x.port ≤ 32 ∧ (s.port x.port).id.eff = .transparent)) then
    respond s c (.fail stRefusedState 0 0 (n.2 || r.2))
  else
    let s := setSieve s n.1 x
    let s := shareBlock s 0x0B01 n.1 (sieveSetBytes (s.sieveCh n.1))
    respond s c (.ok (sieveSetBytes (s.sieveCh n.1)) (n.2 || r.2))

def execSieveSet (c : Cmd) (s : State) : Res := leaves s (runCmd 0x0B01 false sealForeign sieveSet c s)

/-- SIEVE_FEED (R334, R335, R401). -/
def sieveFeed (c : Cmd) (s : State) : State :=
  let n := (selPar 0 7).read c.params
  let elem : Par := { lo := 8, w := 8, dflt := 1, fix := fun v => if v = 2 ∨ v = 4 then v else 1 }
  let e := elem.read c.params
  let ch := s.sieveCh n.1
  let alive := ch.mode == 2
  let size := if alive then 1 else e.1
  if ch.mode ≠ 1 ∧ ch.mode ≠ 2 then respond s c (.fail stRefusedState 0 0 (n.2 || e.2))
  else
    let bs := c.params.drop 4
    let fed := fedBytes ch size bs
    respond (sieveTake s n.1 fed) c
      (.ok (leBytes 2 fed.length) (n.2 || e.2 || (alive && e.1 != 1) || fed.length != bs.length))

def execSieveFeed (c : Cmd) (s : State) : Res := leaves s (runCmd 0x0B02 false free_ sieveFeed c s)

/-- SIEVE_FINISH (R334, R401). -/
def sieveFinish (c : Cmd) (s : State) : State :=
  let n := args c 1 [selPar 0 7]
  let ch := s.sieveCh (n.1 0)
  if ch.mode ≠ 1 then respond s c (.fail stRefusedState 0 0 n.2)
  else
    let r := sieveEnd s (n.1 0)
    let ok := ch.compare && r.1 == ch.expected % 2 ^ (8 * polyBytes ch.poly)
    respond r.2 c (.ok (leBytes 4 r.1 ++ leBytes 1 (b2n ch.compare + 2 * b2n ok)) n.2)

def execSieveFinish (c : Cmd) (s : State) : Res := leaves s (runCmd 0x0B03 false free_ sieveFinish c s)

/-- SIEVE_STATUS (R338). -/
def execSieveStatus (c : Cmd) (s : State) : Res := leaves s (runCmd 0x0B04 false free_ (getBlock 0 7 sieveStatusBytes) c s)

end Sys2Proof.Machine
end

