-- ==== Sys2Proof/Machine/CommandRows.lean ====
section
/-!
DEFINITION. Machine/CommandRows.lean: the command front-end's checks, fragments and forwarding, the management function's
pipes, the sideband window and its mailboxes, and command frames of the fabric and of the Ladle (R339–R359, R386).
-/

namespace Sys2Proof.Machine

/-! ### Packets as received (R339, R342) -/

/-- A packet read as a command of a transport; its CRC field is the command's own when FRAG is clear. -/
def readPacket (tr : Transport) (ftag : Nat) (mute : Bool) (bs : List Byte) : Cmd :=
  let flags := leNat (slice bs 9 1)
  { tr := tr, opcode := leNat (slice bs 2 2), tag := leNat (slice bs 4 2), target := leNat (slice bs 8 1),
    auth := bit flags 0, noresp := bit flags 1, payload := bs.drop 16, ftag := ftag, rsv := bits flags 7 4,
    crc := some (leNat (slice bs 12 4)), mute := mute }

/-- FRAG of a packet (R339). -/
def fragOf (bs : List Byte) : Bool := bit (leNat (slice bs 9 1)) 3

/-- BAD_CHECK with bytes 2–5 as received (R342). It is not kept for duplicates, since no command passed. -/
def badCheck (s : State) (c : Cmd) (detail : Nat) : State :=
  let r := Resp.fail stBadCheck detail
  sendBack s c (respBytes s c r) r

/-- Checks 1 to 3 on a packet: the DETAIL of the first that fails (R340, R342). -/
def packetFault (bs : List Byte) : Option Nat :=
  let len := leNat (slice bs 6 2)
  if bs.length < 16 ∨ 4088 < len ∨ len ≠ bs.length - 16 then some 3
  else if leNat (slice bs 12 4) ≠ crc32c (bs.take 12 ++ bs.drop 16) then some 1
  else if leNat (slice bs 0 2) ≠ 0x01C5 then some 2
  else none

/-! ### Fragments (R346) -/

/-- The command that an assembly stands for. -/
def asmCmd (tr : Transport) (a : Assembly) : Cmd :=
  { tr := tr, opcode := a.opcode, tag := a.tag, target := a.target, auth := a.auth, noresp := a.noresp,
    payload := a.payload, rsv := a.rsv }

/-- An assembly is abandoned and answered BAD_CHECK, DETAIL 4 (R346). -/
def abandonAsm (s : State) (tr : Transport) (ftag : Nat) : State :=
  match (s.trState tr).asm with
  | none => s
  | some a => badCheck (s.modTr tr (fun t => { t with asm := none })) { asmCmd tr a with ftag := ftag } 4

/-- A packet that starts an assembly. -/
def startAsm (c : Cmd) : Assembly :=
  { opcode := c.opcode, tag := c.tag, target := c.target, auth := c.auth, noresp := c.noresp, rsv := c.rsv,
    payload := c.payload }

/-- A packet joins or starts an assembly (check 5): the command that is now whole, if there is one (R342, R346). -/
def assemble (s : State) (c : Cmd) (frag : Bool) : Option Cmd × State :=
  let start (s : State) : Option Cmd × State :=
    if frag then (none, s.modTr c.tr (fun t => { t with asm := some (startAsm c) })) else (some c, s)
  match (s.trState c.tr).asm with
  | none => start s
  | some a =>
    if a.tag ≠ c.tag then start (abandonAsm s c.tr c.ftag)
    else if a.opcode ≠ c.opcode then (none, abandonAsm s c.tr c.ftag)
    else
      let a := { a with payload := a.payload ++ c.payload }
      let s := s.modTr c.tr (fun t => { t with asm := some a })
      if 4088 < a.payload.length then (none, abandonAsm s c.tr c.ftag)
      else if frag then (none, s)
      else (some { asmCmd c.tr a with ftag := c.ftag, mute := c.mute }, s.modTr c.tr (fun t => { t with asm := none }))

/-! ### Forwarding (R356) -/

/-- A command to another node leaves as COMMAND segments; a resend within 1 s reuses its fabric tag (R356). `bs` is the
packet. -/
def forwardCmd (s : State) (c : Cmd) (bs : List Byte) : State :=
  let live := s.cmd.fwd.filter (fun x => !x.done || decide (s.ticks < x.at_ + 1000000000))
  match live.find? (fun x => x.cmd == c && decide (s.ticks < x.at_ + 1000000000)) with
  | some x =>
    sendSegs { s with cmd := { s.cmd with fwd :=
      { x with at_ := s.ticks, done := false } :: live.filter (fun y => y.fabTag != x.fabTag) } } 0x10 c.target x.fabTag bs
  | none =>
    let tag := s.cmd.nextFabTag
    let more := if c.noresp then [] else
      [{ fabTag := tag.toNat, node := c.target, cmd := c, at_ := s.ticks : Forwarded }]
    sendSegs { s with cmd := { s.cmd with nextFabTag := tag + 1, fwd := more ++ live } } 0x10 c.target tag.toNat bs

/-- A broadcast leaves for every node (R356). -/
def broadcast (s : State) (bs : List Byte) : State :=
  let tag := s.cmd.nextFabTag
  sendSegs { s with cmd := { s.cmd with nextFabTag := tag + 1 } } 0x10 255 tag.toNat bs

/-! ### The front-end -/

/-- Milliseconds left of the 300 ms bound of a firmware restart (R358). -/
def restartMs (s : State) : Nat :=
  match s.sys.fw with
  | some f => msLeft s (f.at_ + 300000000)
  | none => 300

/-- Check 7, and the MPC's queue (R342, R358). A command that passes wakes the chip from DOZE (R424). -/
def toMpc (s : State) (c : Cmd) : State :=
  if !s.sys.fwUp && !s.sys.romOnly then respond s c (.fail stBusy 1 (restartMs s))
  else
    let s := { s with cmd := { s.cmd with queue := s.cmd.queue ++ [c] } }
    settleQueue (match s.sys.pstate with | .doze => wakeSource s | _ => s)

/-- Check 6: TARGET (R356). A command that another node broadcast is executed here. -/
def routeCmd (s : State) (c : Cmd) (bs : List Byte) : State :=
  if c.target = 0 ∨ c.target = s.fab.nodeId ∨ (c.target = 255 ∧ c.mute = true) then toMpc s c
  else if c.target = 255 then
    if c.auth || privileged c.opcode then respond s c (.fail stRefusedState) else toMpc (broadcast s bs) c
  else if c.target ≤ 240 ∧ s.hasRoute c.target then forwardCmd s c bs
  else respond s c (.fail stNoRoute)

/-- A packet passes the front-end's checks in their order (R342). NORESP is trusted once length and CRC hold (R341). -/
def frontEnd (s : State) (tr : Transport) (ftag : Nat) (mute : Bool) (bs : List Byte) : State :=
  let c := readPacket tr ftag mute bs
  match packetFault bs with
  | some d => badCheck s (if d = 2 then c else { c with noresp := false }) d
  | none =>
    match (if fragOf bs then none else dupOf s c) with
    | some x => sendBack s c x.resp (respOf x.resp)
    | none =>
      let a := assemble s c (fragOf bs)
      match a.1 with
      | none => a.2
      | some c =>
        match dupOf a.2 c with
        | some x => sendBack a.2 c x.resp (respOf x.resp)
        | none => routeCmd a.2 c (if c.crc.isSome then bs else cmdBytes c)

/-! ### The USB management function (R352) -/

/-- Bytes of the command buffer that an upstream's waiting commands and its open assembly take (R352). -/
def commandBytes (s : State) (u : Up) : Nat :=
  ((s.cmd.queue.filter (fun c => c.tr == .usb u)).map (fun c => 16 + c.payload.length)).sum
    + (((s.trState (.usb u)).asm.map (fun a => 16 + a.payload.length)).getD 0)

/-- USB_COMMAND_TRANSFER: ACKed when it fits the 8 KiB of the command buffer, otherwise NAK; a transfer longer than 4,104
bytes is discarded at its end and fails the length check (R352). -/
def usbCommandTransfer (u : Up) (bs : List Byte) (s : State) : State :=
  if !mgmtPipes s u then answer s u .none
  else if 8192 < commandBytes s u + min bs.length 4104 then answer s u .nak
  else frontEnd (answer s u .ack) (.usb u) 0 false bs

def execUsbCommandTransfer (u : Up) (bs : List Byte) (s : State) : Res := leaves s (usbCommandTransfer u bs s)

/-- wMaxPacketSize of an upstream's bulk pipes (R41). -/
def bulkMps (s : State) (u : Up) : Nat := if (s.up u).link = .hs then 512 else 64

/-- RESPONSE_PIPE_IN: the oldest stored response as one transfer, ended by a short or a zero-length packet, from the pipe's
toggle on; NAK when there is none (R352). -/
def responsePipeIn (u : Up) (s : State) : State :=
  if !mgmtPipes s u then answer s u .none
  else
    match (s.up u).respPipe with
    | [] => answer s u .nak
    | b :: bs =>
      let odd : Bool := (b.length / bulkMps s u) % 2 == 0
      answer (s.modUp u (fun x => { x with respPipe := bs, respToggle := x.respToggle != odd })) u
        (.data (s.up u).respToggle b)

def execResponsePipeIn (u : Up) (s : State) : Res := leaves s (responsePipeIn u s)

/-- FRAGMENT_ASSEMBLY_TIMEOUT (R346). -/
def execFragmentAssemblyTimeout (t : Transport) (s : State) : Res := leaves s (abandonAsm s t 0)

/-- AUTH_LOCKOUT_END (R349). -/
def execAuthLockoutEnd (t : Transport) (s : State) : Res :=
  leaves s (if (s.trState t).locked then s.modTr t (fun x => { x with locked := false, fails := 0 }) else s)

/-! ### The sideband window (R353) -/

/-- The window takes writes: not in HIBERNATE, OFF or reset, where AON serves the target or nothing does (R353, R420). -/
def windowOpen (s : State) : Bool := !s.aonOnly

def modMb (s : State) (f : Mailbox → Mailbox) : State := { s with cmd := { s.cmd with mb := f s.cmd.mb } }

/-- MBI_CTRL as it is kept: bits 5:4 are RES (R15, R353). -/
def mbiKept (ctrl : Nat) : Nat := ctrl % 16 + at_ 6 (bits ctrl 7 6)

/-- One byte written at a window offset; RO and RES bytes ignore it. MBI_CTRL with GO or SYNC set, and MBO_ACK, have rows of
their own (R353). -/
def windowByte (s : State) (off : Nat) (b : Byte) : State :=
  if off = 0x40 then (if b.toNat < 64 then modMb s (fun m => { m with mbiCtrl := mbiKept b.toNat }) else s)
  else if off = 0x29 then modMb s (fun m => { m with alertEn := b.toNat })
  else if off = 0x41 then modMb s (fun m => { m with mbiLen := b.toNat })
  else if 0x44 ≤ off ∧ off ≤ 0x9F then modMb s (fun m => { m with mbiData := m.mbiData.set (off - 0x44) b })
  else s

/-- Bytes written at consecutive offsets; none beyond 0xFF takes effect (R353). -/
def windowWrite : List Byte → Nat → State → State
  | [], _, s => s
  | b :: bs, off, s => if 0xFF < off then s else windowWrite bs (off + 1) (windowByte s off b)

/-- SIDEBAND_WINDOW_WRITE (R353). -/
def execSidebandWindowWrite (_smbus : Bool) (offset : Nat) (bs : List Byte) (s : State) : Res :=
  leaves s (if windowOpen s then windowWrite bs offset s else s)

/-- RESULT of a mailbox message (R354). -/
def mbiResult (s : State) (seq len : Nat) : Nat :=
  let last := s.cmd.mb.lastSeq
  if seq = last then 2
  else if seq ≠ (last + 1) % 16 then 3
  else if 4 ≤ sidebandWaiting s then 4
  else if len < 16 ∨ 92 < len then 5
  else 1

/-- MBI_ACK: the SEQ answered and its RESULT (R353, R354). -/
def mbiAnswer (s : State) (seq result : Nat) : State := modMb s (fun m => { m with mbiAck := seq + 16 * result })

/-- MBI_CTRL_GO: the message that stands in MBI_DATA when the transaction ends is taken or refused (R354). `message` holds
the data bytes that this transaction wrote. -/
def mbiCtrlGo (smbus : Bool) (ctrl len : Nat) (message : List Byte) (s : State) : State :=
  if !windowOpen s then s
  else
    let s := windowWrite (message.take 92) 0x44
      (modMb s (fun m => { m with mbiCtrl := mbiKept ctrl, mbiLen := len % 256 }))
    let seq := ctrl % 16
    let r := mbiResult s seq (len % 256)
    let s := mbiAnswer s seq r
    if r = 1 then
      frontEnd (modMb s (fun m => { m with lastSeq := seq })) (if smbus then .smbus else .spi) 0 false
        (s.cmd.mb.mbiData.take (len % 256))
    else s

def execMbiCtrlGo (smbus : Bool) (ctrl len : Nat) (message : List Byte) (s : State) : Res :=
  leaves s (mbiCtrlGo smbus ctrl len message s)

/-- MBI_CTRL_SYNC: the last accepted SEQ becomes the SEQ written; an open mailbox assembly goes without a response
(R354). -/
def mbiCtrlSync (ctrl : Nat) (s : State) : State :=
  if !windowOpen s then s
  else
    let drop (s : State) (t : Transport) : State := s.modTr t (fun x => { x with asm := none })
    let s := drop (drop s .smbus) .spi
    mbiAnswer (modMb s (fun m => { m with mbiCtrl := mbiKept ctrl, lastSeq := ctrl % 16 })) (ctrl % 16) 6

def execMbiCtrlSync (ctrl : Nat) (s : State) : Res := leaves s (mbiCtrlSync ctrl s)

/-- VALID clears and the next message is posted (R355). -/
def mboNext (s : State) : State := mboPost (modMb s (fun m => { m with mboCtrl := m.mboCtrl % 128, mboTries := 0 }))

/-- MBO_ACK: the SEQ of the message with bit 7 set acknowledges it (R355). -/
def mboAck (value : Nat) (s : State) : State :=
  if !windowOpen s then s
  else
    let s := modMb s (fun m => { m with mboAck := value % 256 })
    let m := s.cmd.mb
    if 128 ≤ m.mboCtrl ∧ bit value 7 ∧ value % 16 = m.mboSeq then mboNext s else s

def execMboAck (value : Nat) (s : State) : Res := leaves s (mboAck value s)

/-- MBO_TIMEOUT: the alert goes high for 10 µs; after 3 retries the message is dropped (R355). -/
def mboTimeout (s : State) : State :=
  let m := s.cmd.mb
  if m.mboCtrl < 128 then s
  else if m.mboTries < 3 then modMb s (fun m => { m with mboTries := m.mboTries + 1, alertHigh := s.ticks + 10000 })
  else mboNext (modMb s (fun m => { m with mboDrops := min 65535 (m.mboDrops + 1) }))

def execMboTimeout (s : State) : Res := leaves s (mboTimeout s)

/-- SMBUS_ALERT_RESPONSE: the target's own address while SMB_ALERT_N is low (R353). -/
def smbusAlertResponse (s : State) : State :=
  let own := if windowOpen s && alertLow s then some (0x50 + s.sys.addr) else none
  modMb s (fun m => { m with araAnswer := own })

def execSmbusAlertResponse (s : State) : Res := leaves s (smbusAlertResponse s)

/-- SMBUS_TIMEOUT: the transaction is abandoned and SMB_DAT released; bytes already written stay (R486). -/
def execSmbusTimeout (s : State) : Res := leaves s (modMb s (fun m => { m with araAnswer := none }))

/-! ### Command frames (R258, R356, R386) -/

/-- Segment 0 starts a reassembly, the next one in order goes on with it, any other ends it: the bytes so far (R258). -/
def joinSegs (s : State) (src tag seg : Nat) (response : Bool) (bs : List Byte) : Option (List Byte) × State :=
  let mine (x : Segments) : Bool := x.src == src && x.tag == tag && x.response == response
  let rest := s.cmd.segs.filter (fun x => !mine x)
  let put (all : List Byte) : Option (List Byte) × State :=
    (some all, { s with cmd := { s.cmd with segs :=
      { src := src, tag := tag, response := response, next := seg + 1, bytes := all } :: rest } })
  if seg = 0 then put bs
  else
    match s.cmd.segs.find? mine with
    | some x => if x.next = seg then put (x.bytes ++ bs) else (none, { s with cmd := { s.cmd with segs := rest } })
    | none => (none, s)

/-- The reassembly of a source and tag is over. -/
def dropSegs (s : State) (src tag : Nat) (response : Bool) : State :=
  let rest := s.cmd.segs.filter (fun x => !(x.src == src && x.tag == tag && x.response == response))
  { s with cmd := { s.cmd with segs := rest } }

/-- COMMAND_FRAME: after the last segment the packet passes the front-end; a broadcast's response is not returned
(R356). -/
def commandFrame (src tag seg : Nat) (last toAll : Bool) (bs : List Byte) (s : State) : State :=
  let r := joinSegs s src tag seg false bs
  match r.1 with
  | some all => if last then frontEnd (dropSegs r.2 src tag false) (.fabric src) tag toAll all else r.2
  | none => r.2

def execCommandFrame (src tag seg : Nat) (last toAll : Bool) (bs : List Byte) (s : State) : Res :=
  leaves s (commandFrame src tag seg last toAll bs s)

/-- A whole response from a node: it answers a gap's fetch (R309) or returns to the host with its TAG (R356). A response
after the command timed out is discarded. -/
def takeResponse (s : State) (src tag : Nat) (all : List Byte) : State :=
  match s.cmd.fwd.find? (fun x => x.fabTag == tag && x.node == src && !x.done) with
  | some x =>
    let s := { s with cmd := { s.cmd with fwd :=
      { x with done := true } :: s.cmd.fwd.filter (fun y => y.fabTag != tag) } }
    sendBack (cacheResp s x.cmd all) x.cmd all (respOf all)
  | none => if (respOf all).status = stOk then gapAnswer s src tag (all.drop 16) else s

/-- RESPONSE_FRAME (R356). -/
def responseFrame (src tag seg : Nat) (last : Bool) (bs : List Byte) (s : State) : State :=
  let r := joinSegs s src tag seg true bs
  match r.1 with
  | some all => if last then takeResponse (dropSegs r.2 src tag true) src tag all else r.2
  | none => r.2

def execResponseFrame (src tag seg : Nat) (last : Bool) (bs : List Byte) (s : State) : Res :=
  leaves s (responseFrame src tag seg last bs s)

/-- CMD_WAIT_EXPIRY: the forwarded command completes TIMEOUT with the node that did not answer (R340, R356). -/
def cmdWaitExpiry (tag : Nat) (s : State) : State :=
  match s.cmd.fwd.find? (fun x => x.fabTag == tag && !x.done) with
  | none => s
  | some x =>
    respond { s with cmd := { s.cmd with fwd :=
      { x with done := true } :: s.cmd.fwd.filter (fun y => y.fabTag != tag) } } x.cmd (.fail stTimeout x.node)

def execCmdWaitExpiry (tag : Nat) (s : State) : Res := leaves s (cmdWaitExpiry tag s)

/-- The relay of an outer transport that waits for its inner response (R386). -/
def relayWait (s : State) (outer : Nat) : Option Wait :=
  s.cmd.waits.find? (fun w => w.cmd.opcode == 0x0604 && outerCode w.cmd.tr == outer)

/-- A whole relayed packet: a command passes this chip's front-end; a response completes the relay (R386). -/
def takeRelayed (s : State) (outer : Nat) (response : Bool) (all : List Byte) : State :=
  if response then
    match relayWait s outer with
    | some w => finishWait s w.num (.ok all)
    | none => s
  else frontEnd s .relay outer false all

/-- PARTNER_CMD_FRAME (R276, R386). -/
def partnerCmdFrame (seg : Nat) (last response : Bool) (outer : Nat) (bs : List Byte) (s : State) : State :=
  if !s.isPair then s
  else
    let mine (x : Nat × Bool × Nat × List Byte) : Bool := x.1 == outer && x.2.1 == response
    let rest := s.cmd.relayIn.filter (fun x => !mine x)
    let keep (l : List (Nat × Bool × Nat × List Byte)) : State :=
      { s with cmd := { s.cmd with relayIn := l ++ rest } }
    let put (all : List Byte) : State :=
      if last then takeRelayed (keep []) outer response all else keep [(outer, response, seg + 1, all)]
    if seg = 0 then put bs
    else
      match s.cmd.relayIn.find? mine with
      | some x => if x.2.2.1 = seg then put (x.2.2.2 ++ bs) else keep []
      | none => s

def execPartnerCmdFrame (seg : Nat) (last response : Bool) (outer : Nat) (bs : List Byte) (s : State) : Res :=
  leaves s (partnerCmdFrame seg last response outer bs s)

/-- RELAY_TIMEOUT: the oldest relay that waits completes TIMEOUT with the pair's node ID (R340, R386). -/
def relayTimeout (s : State) : State :=
  match s.cmd.waits.find? (fun w => w.cmd.opcode == 0x0604) with
  | some w => finishWait s w.num (.fail stTimeout s.fab.nodeId)
  | none => s

def execRelayTimeout (s : State) : Res := leaves s (relayTimeout s)

end Sys2Proof.Machine
end

