-- ==== Sys2Proof/Machine/SsRows.lean ====
section
/-!
DEFINITION. Machine/SsRows.lean: the SuperSpeed link states (R92–R96). SPE numbers 1–8 are the ports', 9 and 10 those of
upstreams A and B (R22).
-/

namespace Sys2Proof.Machine

/-- A device connects on the SuperSpeed link of port n: on a vacant port the mode in effect is taken up now (R97). -/
def ssConnectMode (s : State) (n : Nat) : State :=
  if n ≤ 8 ∧ vacantNow s n then setEff s n (effMode s n) else s

/-- RX_DETECT_PROBE: far-end termination found takes Rx.Detect to Polling (R92); a port whose mode then is TRANSLATED holds
SS.Disabled (R97, R99). With role 3 neither upstream connects (R18). -/
def rxDetectProbe (n : Nat) (found : Bool) (s : State) : State :=
  if 8 < n ∧ s.sys.role = 3 then s
  else
    match linkOf s n with
    | .rxDetect =>
      if found then
        let s := ssConnectMode s n
        if n ≤ 8 ∧ (s.port n).id.eff = .translated then s else setLinkN s n .polling false
      else s
    | _ => s

def execRxDetectProbe (n : Nat) (found : Bool) (s : State) : Res := leaves s (ifActive s (rxDetectProbe n found s))

/-- The record of a U3 exit, with the map of R86, LINK 3 and DURATION 0 (R96). -/
def u3Event (s : State) (p : Nat) (r : Resume) (code : Nat) : State :=
  raiseAt s r.stamp (322 + (p - 1) * 4) code
    (sleepData (wakeSrc r) r.host 3 (s.port p).id.owner.code (r.delta.getD 0) 0)

/-- Packets held for the link leave in order once it is in U0 (R94), a data packet stored whole where R51 says so; the last
one is what the line carried. -/
def releaseHeld (s : State) (p : Nat) : State :=
  let gen2 := match ownerUp (s.port p) with
    | some u => (s.up u).ssGen2
    | none => false
  s.modSpe p (fun e => { e.downBuf.foldl (fun e b => ssDown gen2 b e) e with downBuf := [] })

/-- Packets that the ports hold toward the host leave once its link is in U0, a Function Wake among them (R94, R96). -/
def releaseUpLink (s : State) (u : Up) : State :=
  (List.range 8).foldl (fun s i =>
    if s.owns u (i + 1) then
      let b := (s.spe (i + 1)).upBuf
      (s.modUp u (fun x => { x with ssFwd := b.getLastD x.ssFwd })).modSpe (i + 1) (fun e => { e with upBuf := [] })
    else s) s

/-- The generation at which a link trained (R92). -/
def setGen (s : State) (n : Nat) (gen2 : Bool) : State :=
  if n ≤ 8 then s.modSpe n (fun e => { e with gen2 := gen2 }) else s.modUp (upOfSpe n) (fun x => { x with ssGen2 := gen2 })

/-- SS_TRAINING_DONE (R92): U0 from Polling, Recovery or Hot Reset, Polling at the generation trained. -/
def ssTrainingDone (n : Nat) (gen2 : Bool) (s : State) : State :=
  match linkOf s n with
  | .polling =>
    let s := setGen s n gen2
    let s := if n ≤ 8 then s.modSpe n (fun e => { e with fails := 0, firstLfps := false }) else s
    setLinkN s n .u0 false
  | .recovery =>
    if n ≤ 8 then
      let s := match (s.spe n).exit with
        | some r => (u3Event s n r 3).modSpe n (fun e => { e with exit := none })
        | none => s
      releaseHeld (setLink (raise s (321 + (n - 1) * 4) 2 (s.spe n).errs) n .u0 false) n
    else
      let u := upOfSpe n
      releaseUpLink (setUpLink (raiseUp s u 5 2 (s.up u).ssErrs) u .u0 false) u
  | .hotReset =>
    let s := setLinkN s n .u0 false
    if n ≤ 8 then
      match ownerUp (s.port n) with
      | some u => s.modSsView u n (fun v => { v with cReset := true })
      | none => s
    else s
  | _ => s

def execSsTrainingDone (t : Trained) (s : State) : Res := leaves s (ifActive s (ssTrainingDone t.n t.gen2 s))

/-- POLLING_TIMEOUT (R92): Rx.Detect; Compliance on the first Polling.LFPS timeout after power on; eight in a row give
the SuperSpeed link up. -/
def pollingTimeout (n : Nat) (lfps : Bool) (s : State) : State :=
  match linkOf s n with
  | .polling =>
    if n ≤ 8 then
      if lfps ∧ (s.spe n).firstLfps then
        setLink (s.modSpe n (fun e => { e with firstLfps := false })) n .compliance false
      else
        let s := s.modSpe n (fun e => { e with fails := min 8 (e.fails + 1), firstLfps := e.firstLfps && !lfps })
        setLink s n (if 8 ≤ (s.spe n).fails then .ssDisabled else .rxDetect) false
    else setUpLink s (upOfSpe n) .rxDetect false
  | _ => s

def execPollingTimeout (n : Nat) (lfps : Bool) (s : State) : Res := leaves s (ifActive s (pollingTimeout n lfps s))

/-- RECOVERY_TIMEOUT (R92): 12 ms without success take Recovery or Hot Reset to SS.Inactive. -/
def recoveryTimeout (n : Nat) (s : State) : State :=
  let go (s : State) : State :=
    if n ≤ 8 then
      let s := match (s.spe n).exit with
        | some r => (u3Event s n r 4).modSpe n (fun e => { e with exit := none })
        | none => s
      setLink s n .ssInactive false
    else raiseUp (setUpLink s (upOfSpe n) .ssInactive false) (upOfSpe n) 5 3 (s.up (upOfSpe n)).ssErrs
  match linkOf s n with
  | .recovery => go s
  | .hotReset => go s
  | _ => s

def execRecoveryTimeout (n : Nat) (s : State) : Res := leaves s (ifActive s (recoveryTimeout n s))

/-- SS_LINK_ERROR (R92, R95): counted, recorded, and a link in U0 retrains. -/
def ssLinkError (n : Nat) (s : State) : State :=
  let s := if n ≤ 8 then
      let s := s.modSpe n (fun e => { e with errs := min 65535 (e.errs + 1) })
      raise s (321 + (n - 1) * 4) 1 (s.spe n).errs
    else
      let u := upOfSpe n
      let s := s.modUp u (fun x => { x with ssErrs := min 65535 (x.ssErrs + 1) })
      raiseUp s u 5 1 (s.up u).ssErrs
  match linkOf s n with
  | .u0 => setLinkN s n .recovery false
  | _ => s

def execSsLinkError (n : Nat) (s : State) : Res := leaves s (ifActive s (ssLinkError n s))

/-- LGO_U1_U2 from the link partner: from a device rejected under timeout 0x00 and accepted otherwise (R94); a host is
answered as USB 3.2 requires, its LGO_U3 to an upstream among the requests (R96, R447; log entry 64). -/
def lgoU1U2 (n : Nat) (lvl : Link) (s : State) : State :=
  match linkOf s n, lvl with
  | .u0, .u1 => if n ≤ 8 ∧ (s.spe n).u1To = 0 then s else setLinkN s n .u1 false
  | .u0, .u2 => if n ≤ 8 ∧ (s.spe n).u2To = 0 then s else setLinkN s n .u2 false
  | .u0, .u3 => if n ≤ 8 then s else setLinkN s n .u3 false
  | _, _ => s

def execLgoU1U2 (n : Nat) (lvl : Link) (s : State) : Res := leaves s (ifActive s (lgoU1U2 n lvl s))

/-- U1_U2_IDLE_TIMEOUT: the SPE initiates the state under timeouts 0x01–0x7F (R94). -/
def u1U2IdleTimeout (n : Nat) (u2 accepted : Bool) (s : State) : State :=
  let t := if u2 then (s.spe n).u2To else (s.spe n).u1To
  match linkOf s n with
  | .u0 => if n ≤ 8 ∧ 1 ≤ t ∧ t ≤ 0x7F ∧ accepted then setLink s n (if u2 then .u2 else .u1) false else s
  | _ => s

def execU1U2IdleTimeout (n : Nat) (u2 accepted : Bool) (s : State) : Res := leaves s (ifActive s (u1U2IdleTimeout n u2 accepted s))

/-- EXIT_LFPS from either end; on an upstream it wakes the chip from DOZE, and leaves U3 too (R92, R96, R424). -/
def exitLfps (n : Nat) (s : State) : State :=
  match linkOf s n with
  | .u1 => setLinkN s n .recovery false
  | .u2 => setLinkN s n .recovery false
  | .u3 => if n ≤ 8 then s else wakeDoze (setLinkN s n .recovery false)
  | _ => s

def execExitLfps (n : Nat) (s : State) : Res := leaves s (ifActive s (exitLfps n s))

/-- LFPS_WAKE: a device wake on a U3 link (R85, R96). -/
def lfpsWake (p : Nat) (s : State) : State :=
  if 8 < p then s
  else
    match (s.spe p).exit with
    | some r =>
      s.modSpe p (fun e => { e with exit := some { r with
        delta := if !r.host ∨ r.delta.isSome then r.delta else some ((s.ticks : Int) - r.start) } })
    | none =>
      match (s.spe p).st with
      | .u3 =>
        let blocked := match ownerUp (s.port p) with
          | some u => (s.up u).ssLink == Link.u3 && !(s.up u).ssWake
          | none => false
        if blocked then
          raise s (322 + (p - 1) * 4) 5 (sleepData 0 false 3 (s.port p).id.owner.code 0 0)
        else
          let s := s.modSpe p (fun e => { e with exit := some { left := 3, host := false, start := s.ticks, stamp := s.now } })
          let s := wakeDoze (setLink s p .recovery false)
          match ownerUp (s.port p) with
          | some u => if (s.up u).ssLink = Link.u3 then setUpLink s u .recovery false else s
          | none => s
      | _ => s

def execLfpsWake (p : Nat) (s : State) : Res := leaves s (ifActive s (lfpsWake p s))

/-- U3_WAKE_HANDSHAKE_TIMEOUT (R96). -/
def u3WakeHandshakeTimeout (p : Nat) (s : State) : State :=
  if 8 < p then s
  else
    match (s.spe p).exit with
    | some r => setLink ((u3Event s p r 4).modSpe p (fun e => { e with exit := none })) p .ssInactive false
    | none => s

def execU3WakeHandshakeTimeout (p : Nat) (s : State) : Res := leaves s (ifActive s (u3WakeHandshakeTimeout p s))

/-- WARM_RESET_DONE: Rx.Detect (R92). -/
def warmResetDone (n : Nat) (s : State) : State :=
  if n ≤ 8 then
    if (s.spe n).warm then
      let s := setLink (s.modSpe n (fun e => { e with warm := false })) n .rxDetect true
      match ownerUp (s.port n) with
      | some u => s.modSsView u n (fun v => { v with cBh := true, cReset := true })
      | none => s
    else s
  else setUpLink s (upOfSpe n) .rxDetect false

def execWarmResetDone (n : Nat) (s : State) : Res := leaves s (ifActive s (warmResetDone n s))

end Sys2Proof.Machine
end

