-- ==== Sys2Proof/Machine/TtRows.lean ====
section
/-!
DEFINITION. Machine/TtRows.lean: split transactions at the transaction translators and at the proxies of translated ports
(R52–R55, R66, R68, R113).
-/

namespace Sys2Proof.Machine

/-! ### Start splits (R53, R54) -/

/-- Sums over the TTs that share one pipeline: the port's own, or every owned port's in single TT (R52). -/
def ttSum (s : State) (u : Up) (p : Nat) (f : Tt → Nat) : Nat :=
  if (s.up u).hubAlt = 0 then
    ports32.foldl (fun a k => if s.owns u k then a + f (s.port k).tt else a) 0
  else f (s.port p).tt

/-- A periodic start split lies within the limits of R54. -/
def withinR54 (s : State) (u : Up) (p bytes : Nat) : Bool :=
  ttSum s u p (·.ufSplits) + 1 ≤ 16 && ttSum s u p (·.ufBytes) + bytes ≤ 188
    && ttSum s u p (·.frBytes) + bytes ≤ 1157

/-- The region of the split's kind has pages, and waits for a plan (R66, R68). -/
def ttKind (periodic : Bool) : Nat := if periodic then 2 else 1

/-- A periodic start split on a transparent port's TT: accepted silently, and executed when it lies within the limits of
R54, the region has pages and Stop_TT does not bar it (R53, R54, R56). -/
def ssplitPer (s : State) (u : Up) (p : Nat) (x : TtPer) (bytes : Nat) : State :=
  let ok := withinR54 s u p bytes && 0 < s.pages 2 p 0 && !(s.port p).tt.stopped
  answerD (s.modPort p (fun q => { q with tt := { q.tt with
    per := q.tt.per ++ [{ x with dropped := !ok }],
    ufBytes := if ok then q.tt.ufBytes + bytes else q.tt.ufBytes,
    ufSplits := if ok then q.tt.ufSplits + 1 else q.tt.ufSplits,
    frBytes := if ok then q.tt.frBytes + bytes else q.tt.frBytes } })) u .none

/-- The lowest buffer number that is free (R56). -/
def freeSlot (t : Tt) : Nat := ((List.range 16).find? (fun i => !(t.np.any (fun b => b.slot == i)))).getD 0

/-- A non-periodic start split on a transparent port's TT: it takes a free buffer, in the order of the one pipeline of
single TT, and starts at once when the bus is idle (R52, R53). -/
def ssplitNp (s : State) (u : Up) (p : Nat) (x : TtBuf) : State :=
  let t := (s.port p).tt
  if t.np.length < 4 * s.pages 1 p 0 then
    let n := (s.up u).npSeq + 1
    let s := s.modUp u (fun x => { x with npSeq := n })
    ttGo (answerD (s.modPort p (fun q => { q with tt := { q.tt with
      np := q.tt.np ++ [{ x with slot := freeSlot t, seq := n }] } })) u .ack) u p
  else answerD s u .nak

/-- The proxy's answer to a start split, which its complete split gives (R113): an OUT that fills the last buffer reads ACK
there, for NYET in a complete split says that the transaction runs on (R53; log entry 14). A device at another address
answers nothing. -/
def pxSplit (u : Up) (n addr ep : Nat) (periodic : Bool) (pid : Pid) (toggle : Bool) (data : List Byte) (s : State) :
    Ans × State :=
  if addr ≠ (s.port n).id.hostAddr then (if periodic then .err else .none, s)
  else
    let s := match pid with
      | .setup => proxySetup u n data s
      | .inn => hostIn u n ep true s
      | _ => hostOut u n ep toggle data s
    (if (s.up u).ans = .nyet then .ack else (s.up u).ans, s)

/-- A start split to a translated port goes to its proxy (R53, R66, R113; log entry 14); under the gate that silences host
tokens it is not answered (R108, R510). -/
def ssplitPx (u : Up) (n addr ep : Nat) (periodic : Bool) (pid : Pid) (toggle : Bool) (data : List Byte) (s : State) :
    State :=
  if s.pages (ttKind periodic) n 0 = 0 then answerD s u (if periodic then .none else .nak)
  else
    match gate s u n with
    | .silent => answerD s u .none
    | _ =>
      let key := if pid = .inn then ep + 128 else ep
      let r := pxSplit u n addr ep periodic pid toggle data s
      answerD (r.2.modPort n (fun q => { q with tt := { q.tt with
        pxAns := (key, r.1) :: q.tt.pxAns.filter (·.1 != key) } })) u (if periodic then .none else .ack)

/-- TT_SSPLIT to port n (R53); one into a region that waits for a plan is answered NAK (R68). -/
def ttSsplit (u : Up) (n addr ep : Nat) (periodic : Bool) (pid : Pid) (ls toggle : Bool) (count : Nat)
    (data : List Byte) (s : State) : State :=
  if n = 0 ∨ 32 < n ∨ ¬ s.owns u n ∨ (s.up u).link ≠ .hs then answerD s u .none
  else if planBlocks s (ttKind periodic) n 0 then answerD s u .nak
  else
    let isIn := decide (pid = .inn)
    match (s.port n).id.eff with
    | .translated => ssplitPx u n addr ep periodic pid toggle data s
    | .transparent =>
      if periodic then
        ssplitPer s u n { addr := addr, ep := ep, isIn := isIn, toggle := toggle, data := data } (if ls then 8 * count else count)
      else
        ssplitNp s u n { addr := addr, ep := ep, isIn := isIn, setup := decide (pid = .setup), toggle := toggle, data := data }

def execTtSsplit (u : Up) (n addr ep : Nat) (periodic : Bool) (pid : Pid) (ls toggle : Bool) (count : Nat)
    (data : List Byte) (s : State) : Res :=
  leaves s (ttSsplit u n addr ep periodic pid ls toggle count data s)

/-! ### Complete splits (R53) -/

/-- What a TT result is on the upstream bus, data with the device's own PID (R53). -/
def resAns (periodic : Bool) : TtRes → Ans
  | .data t bs => .data t bs
  | .part bs => .mdata bs
  | .hs .ack => .ack
  | .hs .nak => .nak
  | .hs .nyet => .nyet
  | .hs .stall => .stall
  | .hs .none => if periodic then .err else .none
  | .busError => if periodic then .err else .none

/-- More of a periodic result is to come. -/
def isPart : TtRes → Bool
  | .part _ => true
  | _ => false

/-- A complete split of a periodic endpoint at a TT: the part of the data that has arrived, the result, which frees its
place, NYET, or ERR (R53). -/
def csplitPer (s : State) (u : Up) (p addr ep : Nat) (isIn : Bool) : State :=
  let set (f : List TtPer → List TtPer) : State :=
    s.modPort p (fun q => { q with tt := { q.tt with per := f q.tt.per } })
  match (s.port p).tt.per.find? (fun x => x.addr == addr && x.ep == ep && x.isIn == isIn) with
  | none => answerD s u (if planBlocks s 2 p 0 then .nyet else .err)
  | some x =>
    if x.dropped then answerD (set (·.erase x)) u .err
    else
      match x.res with
      | none => answerD s u .nyet
      | some r =>
        answerD (set (fun l => if isPart r then l.map (fun y => if y = x then { y with res := none } else y) else l.erase x))
          u (resAns true r)

/-- A complete split of a non-periodic endpoint at a TT (R53). -/
def csplitNp (s : State) (u : Up) (p addr ep : Nat) (isIn : Bool) : State :=
  match (s.port p).tt.np.find? (fun x => x.addr == addr && x.ep == ep && x.isIn == isIn) with
  | none => answerD s u (if planBlocks s 1 p 0 then .nyet else .none)
  | some x =>
    match x.res with
    | none => answerD s u .nyet
    | some r =>
      answerD (s.modPort p (fun q => { q with tt := { q.tt with np := q.tt.np.erase x } })) u (resAns false r)

/-- A complete split of a translated port: the proxy's answer to the start split of that endpoint (R113). -/
def csplitPx (s : State) (u : Up) (n ep : Nat) (periodic isIn : Bool) : State :=
  let key := if isIn then ep + 128 else ep
  match gate s u n, (s.port n).tt.pxAns.find? (·.1 == key) with
  | .silent, _ => answerD s u .none
  | _, some x =>
    answerD (s.modPort n (fun q => { q with tt := { q.tt with pxAns := q.tt.pxAns.filter (·.1 != key) } })) u x.2
  | _, none =>
    answerD s u (if planBlocks s (ttKind periodic) n 0 then .nyet else if periodic then .err else .none)

/-- TT_CSPLIT to port n (R53, R113). -/
def ttCsplit (u : Up) (n addr ep : Nat) (periodic isIn : Bool) (s : State) : State :=
  if n = 0 ∨ 32 < n ∨ ¬ s.owns u n ∨ (s.up u).link ≠ .hs then answerD s u .none
  else
    match (s.port n).id.eff with
    | .translated => csplitPx s u n ep periodic isIn
    | .transparent => if periodic then csplitPer s u n addr ep isIn else csplitNp s u n addr ep isIn

def execTtCsplit (u : Up) (n addr ep : Nat) (periodic isIn : Bool) (s : State) : Res :=
  leaves s (ttCsplit u n addr ep periodic isIn s)

/-! ### The FS/LS bus (R53, R54) -/

/-- The first unfinished non-periodic transaction of the endpoint takes its result. -/
def setNp (addr ep : Nat) (isIn : Bool) (r : TtRes) : List TtBuf → List TtBuf
  | [] => []
  | b :: bs =>
    if b.addr = addr ∧ b.ep = ep ∧ b.isIn = isIn ∧ b.res = none then { b with res := some r } :: bs
    else b :: setNp addr ep isIn r bs

/-- Data of a periodic result that arrives after a part that no complete split has taken yet. -/
def joinRes : Option TtRes → TtRes → TtRes
  | some (.part a), .part b => .part (a ++ b)
  | some (.part a), .data t b => .data t (a ++ b)
  | _, r => r

/-- A periodic transaction is unfinished: no result yet, or a part of one. -/
def TtPer.unfinished (x : TtPer) : Bool := (x.res.map isPart).getD true

/-- The first executed and unfinished periodic transaction of the endpoint takes its result. -/
def setPer (addr ep : Nat) (isIn : Bool) (r : TtRes) : List TtPer → List TtPer
  | [] => []
  | b :: bs =>
    if b.addr = addr ∧ b.ep = ep ∧ b.isIn = isIn ∧ b.unfinished ∧ ¬ b.dropped ∧ 1 ≤ b.age then
      { b with res := some (joinRes b.res r) } :: bs
    else b :: setPer addr ep isIn r bs

/-- TT_TRANSACTION_DONE: the transaction on the FS/LS bus gives its result, which is stored whole, and the next one starts;
a part of a periodic result leaves it running (R53, R54). -/
def ttTransactionDone (p addr ep : Nat) (periodic isIn : Bool) (r : TtRes) (s : State) : State :=
  if (s.port p).tt.run ≠ some { periodic := periodic, addr := addr, ep := ep, isIn := isIn } then s
  else if periodic then
    let s := s.modPort p (fun q => { q with tt := { q.tt with
      per := setPer addr ep isIn r q.tt.per, run := if isPart r then q.tt.run else none } })
    match ownerUp (s.port p) with
    | some u => ttGoAll s u
    | none => s
  else if isPart r then s
  else
    let s := s.modPort p (fun q => { q with tt := { q.tt with np := setNp addr ep isIn r q.tt.np, run := none } })
    match ownerUp (s.port p) with
    | some u => ttGoAll s u
    | none => s

def execTtTransactionDone (p addr ep : Nat) (periodic isIn : Bool) (res : TtRes) (s : State) : Res :=
  leaves s (ttTransactionDone p addr ep periodic isIn res s)

/-- TT_RESULT_DISCARD: a result held to the end of microframe Y+4 is gone, and its complete split reads ERR (R53, R54). -/
def ttResultDiscard (p addr ep : Nat) (isIn : Bool) (s : State) : State :=
  s.modPort p (fun q => { q with tt := { q.tt with
    per := q.tt.per.filter (fun x => !(x.addr == addr && x.ep == ep && x.isIn == isIn && 4 ≤ x.age)) } })

def execTtResultDiscard (p addr ep : Nat) (isIn : Bool) (s : State) : Res := leaves s (ttResultDiscard p addr ep isIn s)

end Sys2Proof.Machine
end

