-- ==== Sys2Proof/Machine/Dispatch.lean ====
section
/-!
DEFINITION. Machine/Dispatch.lean: one arm per command, each a direct call of its meaning.
-/

namespace Sys2Proof.Machine

def exec (i : Instr) (s : State) : Host.Outcome State Fault Refusal :=
  match i with
  | .nop c => Sys2Proof.Machine.execNop c s
  | .identify c => Sys2Proof.Machine.execIdentify c s
  | .sysStatus c => Sys2Proof.Machine.execSysStatus c s
  | .chipReset c => Sys2Proof.Machine.execChipReset c s
  | .chipResetDelayExpiry => Sys2Proof.Machine.execChipResetDelayExpiry s
  | .configSelect c => Sys2Proof.Machine.execConfigSelect c s
  | .portStatus c => Sys2Proof.Machine.execPortStatus c s
  | .portMove c => Sys2Proof.Machine.execPortMove c s
  | .portReset c => Sys2Proof.Machine.execPortReset c s
  | .planSet c => Sys2Proof.Machine.execPlanSet c s
  | .planGet c => Sys2Proof.Machine.execPlanGet c s
  | .modeSet c => Sys2Proof.Machine.execModeSet c s
  | .idmapGet c => Sys2Proof.Machine.execIdmapGet c s
  | .cacheRead c => Sys2Proof.Machine.execCacheRead c s
  | .portRefill c => Sys2Proof.Machine.execPortRefill c s
  | .lend c => Sys2Proof.Machine.execLend c s
  | .lendEndRecall c => Sys2Proof.Machine.execLendEndRecall c s
  | .lendEndRelease c => Sys2Proof.Machine.execLendEndRelease c s
  | .pdStatus c => Sys2Proof.Machine.execPdStatus c s
  | .pdCapsRead c => Sys2Proof.Machine.execPdCapsRead c s
  | .pdSettingsGet c => Sys2Proof.Machine.execPdSettingsGet c s
  | .pdSettingsSet c => Sys2Proof.Machine.execPdSettingsSet c s
  | .pdActionRenegotiate c => Sys2Proof.Machine.execPdActionRenegotiate c s
  | .pdActionSoftReset c => Sys2Proof.Machine.execPdActionSoftReset c s
  | .pdActionHardReset c => Sys2Proof.Machine.execPdActionHardReset c s
  | .pdActionErrorRecovery c => Sys2Proof.Machine.execPdActionErrorRecovery c s
  | .pdActionPrSwap c => Sys2Proof.Machine.execPdActionPrSwap c s
  | .pdActionGetSinkCap c => Sys2Proof.Machine.execPdActionGetSinkCap c s
  | .pdActionWaitingStart n => Sys2Proof.Machine.execPdActionWaitingStart n s
  | .ppcSettingsGet c => Sys2Proof.Machine.execPpcSettingsGet c s
  | .ppcSettingsSet c => Sys2Proof.Machine.execPpcSettingsSet c s
  | .portPowerCycle c => Sys2Proof.Machine.execPortPowerCycle c s
  | .powerCycleOffEnd n => Sys2Proof.Machine.execPowerCycleOffEnd n s
  | .meterRead c => Sys2Proof.Machine.execMeterRead c s
  | .converterStatus c => Sys2Proof.Machine.execConverterStatus c s
  | .converterInit c => Sys2Proof.Machine.execConverterInit c s
  | .feedSettingsGet c => Sys2Proof.Machine.execFeedSettingsGet c s
  | .feedSettingsSet c => Sys2Proof.Machine.execFeedSettingsSet c s
  | .pbaGlobalGet c => Sys2Proof.Machine.execPbaGlobalGet c s
  | .pbaGlobalSet c => Sys2Proof.Machine.execPbaGlobalSet c s
  | .pbaPortGet c => Sys2Proof.Machine.execPbaPortGet c s
  | .pbaPortSet c => Sys2Proof.Machine.execPbaPortSet c s
  | .budgetStatus c => Sys2Proof.Machine.execBudgetStatus c s
  | .pairStatus c => Sys2Proof.Machine.execPairStatus c s
  | .pairSettingsGet c => Sys2Proof.Machine.execPairSettingsGet c s
  | .pairSettingsSet c => Sys2Proof.Machine.execPairSettingsSet c s
  | .handover c => Sys2Proof.Machine.execHandover c s
  | .pairRelay c => Sys2Proof.Machine.execPairRelay c s
  | .fabricStatus c => Sys2Proof.Machine.execFabricStatus c s
  | .fabricSettingsGet c => Sys2Proof.Machine.execFabricSettingsGet c s
  | .fabricSettingsSet c => Sys2Proof.Machine.execFabricSettingsSet c s
  | .nodeList c => Sys2Proof.Machine.execNodeList c s
  | .eventFetch c => Sys2Proof.Machine.execEventFetch c s
  | .eventFetchPeek c => Sys2Proof.Machine.execEventFetchPeek c s
  | .queueStatus c => Sys2Proof.Machine.execQueueStatus c s
  | .eventRouteGet c => Sys2Proof.Machine.execEventRouteGet c s
  | .eventRouteSet c => Sys2Proof.Machine.execEventRouteSet c s
  | .eventSettingsGet c => Sys2Proof.Machine.execEventSettingsGet c s
  | .eventSettingsSet c => Sys2Proof.Machine.execEventSettingsSet c s
  | .timeStatus c => Sys2Proof.Machine.execTimeStatus c s
  | .timeSettingsGet c => Sys2Proof.Machine.execTimeSettingsGet c s
  | .timeSettingsSet c => Sys2Proof.Machine.execTimeSettingsSet c s
  | .timeEpoch c => Sys2Proof.Machine.execTimeEpoch c s
  | .timeEpochAtPps c => Sys2Proof.Machine.execTimeEpochAtPps c s
  | .sofRead c => Sys2Proof.Machine.execSofRead c s
  | .crockStatus c => Sys2Proof.Machine.execCrockStatus c s
  | .crockRead c => Sys2Proof.Machine.execCrockRead c s
  | .crockWrite c => Sys2Proof.Machine.execCrockWrite c s
  | .journalRead c => Sys2Proof.Machine.execJournalRead c s
  | .ffClear c => Sys2Proof.Machine.execFfClear c s
  | .userErase c => Sys2Proof.Machine.execUserErase c s
  | .sieveGet c => Sys2Proof.Machine.execSieveGet c s
  | .sieveSet c => Sys2Proof.Machine.execSieveSet c s
  | .sieveFeed c => Sys2Proof.Machine.execSieveFeed c s
  | .sieveFinish c => Sys2Proof.Machine.execSieveFinish c s
  | .sieveStatus c => Sys2Proof.Machine.execSieveStatus c s
  | .profileGet c => Sys2Proof.Machine.execProfileGet c s
  | .profileSet c => Sys2Proof.Machine.execProfileSet c s
  | .clStatus c => Sys2Proof.Machine.execClStatus c s
  | .clPin c => Sys2Proof.Machine.execClPin c s
  | .fwStatus c => Sys2Proof.Machine.execFwStatus c s
  | .fwVerify c => Sys2Proof.Machine.execFwVerify c s
  | .fwActivate c => Sys2Proof.Machine.execFwActivate c s
  | .fwRestart c => Sys2Proof.Machine.execFwRestart c s
  | .nonceRead c => Sys2Proof.Machine.execNonceRead c s
  | .keyWrite c => Sys2Proof.Machine.execKeyWrite c s
  | .keyClear c => Sys2Proof.Machine.execKeyClear c s
  | .keyStatus c => Sys2Proof.Machine.execKeyStatus c s
  | .selfTest c failed => Sys2Proof.Machine.execSelfTest c failed s
  | .errorCounters c => Sys2Proof.Machine.execErrorCounters c s
  | .diagTrigger c => Sys2Proof.Machine.execDiagTrigger c s
  | .phyTuneGet c => Sys2Proof.Machine.execPhyTuneGet c s
  | .phyTuneSet c => Sys2Proof.Machine.execPhyTuneSet c s
  | .usbCommandTransfer u bs => Sys2Proof.Machine.execUsbCommandTransfer u bs s
  | .responsePipeIn u => Sys2Proof.Machine.execResponsePipeIn u s
  | .fragmentAssemblyTimeout t => Sys2Proof.Machine.execFragmentAssemblyTimeout t s
  | .authLockoutEnd t => Sys2Proof.Machine.execAuthLockoutEnd t s
  | .sidebandWindowWrite smbus offset bs => Sys2Proof.Machine.execSidebandWindowWrite smbus offset bs s
  | .mbiCtrlGo smbus ctrl len message => Sys2Proof.Machine.execMbiCtrlGo smbus ctrl len message s
  | .mbiCtrlSync ctrl => Sys2Proof.Machine.execMbiCtrlSync ctrl s
  | .mboAck value => Sys2Proof.Machine.execMboAck value s
  | .mboTimeout => Sys2Proof.Machine.execMboTimeout s
  | .smbusAlertResponse => Sys2Proof.Machine.execSmbusAlertResponse s
  | .smbusTimeout => Sys2Proof.Machine.execSmbusTimeout s
  | .hibernateSmbusAccess write offset => Sys2Proof.Machine.execHibernateSmbusAccess write offset s
  | .commandFrame src tag seg last toAll bs => Sys2Proof.Machine.execCommandFrame src tag seg last toAll bs s
  | .responseFrame src tag seg last bs => Sys2Proof.Machine.execResponseFrame src tag seg last bs s
  | .cmdWaitExpiry tag => Sys2Proof.Machine.execCmdWaitExpiry tag s
  | .partnerCmdFrame seg last response outer bs => Sys2Proof.Machine.execPartnerCmdFrame seg last response outer bs s
  | .relayTimeout => Sys2Proof.Machine.execRelayTimeout s
  | .getPortStatus u fn n => Sys2Proof.Machine.execGetPortStatus u fn n s
  | .setPortFeaturePortReset u fn n => Sys2Proof.Machine.execSetPortFeaturePortReset u fn n s
  | .setPortFeaturePortSuspend u n => Sys2Proof.Machine.execSetPortFeaturePortSuspend u n s
  | .clearPortFeaturePortSuspend u n => Sys2Proof.Machine.execClearPortFeaturePortSuspend u n s
  | .clearPortFeaturePortEnable u n => Sys2Proof.Machine.execClearPortFeaturePortEnable u n s
  | .setPortFeaturePortPower u fn n => Sys2Proof.Machine.execSetPortFeaturePortPower u fn n s
  | .clearPortFeaturePortPower u fn n => Sys2Proof.Machine.execClearPortFeaturePortPower u fn n s
  | .setPortFeaturePortTest u n sel => Sys2Proof.Machine.execSetPortFeaturePortTest u n sel s
  | .setPortFeaturePortIndicator u n => Sys2Proof.Machine.execSetPortFeaturePortIndicator u n s
  | .clearPortFeatureC u fn n c => Sys2Proof.Machine.execClearPortFeatureC u fn n c s
  | .clearTtBuffer u n addr ep => Sys2Proof.Machine.execClearTtBuffer u n addr ep s
  | .resetTt u n => Sys2Proof.Machine.execResetTt u n s
  | .getTtState u n wLength => Sys2Proof.Machine.execGetTtState u n wLength s
  | .stopTt u n => Sys2Proof.Machine.execStopTt u n s
  | .setPortFeaturePortLinkState u n st => Sys2Proof.Machine.execSetPortFeaturePortLinkState u n st s
  | .setPortFeatureBhPortReset u n => Sys2Proof.Machine.execSetPortFeatureBhPortReset u n s
  | .setPortFeaturePortU1Timeout u n value => Sys2Proof.Machine.execSetPortFeaturePortU1Timeout u n value s
  | .setPortFeaturePortU2Timeout u n value => Sys2Proof.Machine.execSetPortFeaturePortU2Timeout u n value s
  | .setPortFeatureRemoteWakeMask u n mask => Sys2Proof.Machine.execSetPortFeatureRemoteWakeMask u n mask s
  | .getPortErrorCount u n => Sys2Proof.Machine.execGetPortErrorCount u n s
  | .hubSetConfiguration u fn value => Sys2Proof.Machine.execHubSetConfiguration u fn value s
  | .hubSetInterface u alt => Sys2Proof.Machine.execHubSetInterface u alt s
  | .hubGetDescriptor u fn kind index wLength => Sys2Proof.Machine.execHubGetDescriptor u fn kind index wLength s
  | .hubLpmToken u besl => Sys2Proof.Machine.execHubLpmToken u besl s
  | .hsToken u t addr ep => Sys2Proof.Machine.execHsToken u t addr ep s
  | .addressLearn p addr => Sys2Proof.Machine.execAddressLearn p addr s
  | .sofReceived u frame uframe => Sys2Proof.Machine.execSofReceived u frame uframe s
  | .frameStart u => Sys2Proof.Machine.execFrameStart u s
  | .ssHeaderPacket u down n bs => Sys2Proof.Machine.execSsHeaderPacket u down n bs s
  | .ttSsplit u n addr ep periodic pid ls toggle count data => Sys2Proof.Machine.execTtSsplit u n addr ep periodic pid ls toggle count data s
  | .ttCsplit u n addr ep periodic isIn => Sys2Proof.Machine.execTtCsplit u n addr ep periodic isIn s
  | .ttTransactionDone p addr ep periodic isIn res => Sys2Proof.Machine.execTtTransactionDone p addr ep periodic isIn res s
  | .ttResultDiscard p addr ep isIn => Sys2Proof.Machine.execTtResultDiscard p addr ep isIn s
  | .planApply => Sys2Proof.Machine.execPlanApply s
  | .planApplyTimeout => Sys2Proof.Machine.execPlanApplyTimeout s
  | .scrubPass single bad => Sys2Proof.Machine.execScrubPass single bad s
  | .connect p pullUpDp => Sys2Proof.Machine.execConnect p pullUpDp s
  | .disconnect p => Sys2Proof.Machine.execDisconnect p s
  | .deviceChirp p => Sys2Proof.Machine.execDeviceChirp p s
  | .deviceChirpEnd p inTime => Sys2Proof.Machine.execDeviceChirpEnd p inTime s
  | .resetEnd p idle => Sys2Proof.Machine.execResetEnd p idle s
  | .cdpVdpSrc p present => Sys2Proof.Machine.execCdpVdpSrc p present s
  | .upstreamSuspend u => Sys2Proof.Machine.execUpstreamSuspend u s
  | .deviceLpmAck p besl => Sys2Proof.Machine.execDeviceLpmAck p besl s
  | .proxyLpmToken u n besl device => Sys2Proof.Machine.execProxyLpmToken u n besl device s
  | .deviceWake p => Sys2Proof.Machine.execDeviceWake p s
  | .hostK u => Sys2Proof.Machine.execHostK u s
  | .upstreamWakeDriveEnd u lineK => Sys2Proof.Machine.execUpstreamWakeDriveEnd u lineK s
  | .resumeKEnd p => Sys2Proof.Machine.execResumeKEnd p s
  | .upstreamResumeEop u => Sys2Proof.Machine.execUpstreamResumeEop u s
  | .babble p => Sys2Proof.Machine.execBabble p s
  | .lossOfActivity p => Sys2Proof.Machine.execLossOfActivity p s
  | .portError p => Sys2Proof.Machine.execPortError p s
  | .rxDetectProbe n found => Sys2Proof.Machine.execRxDetectProbe n found s
  | .ssTrainingDone t => Sys2Proof.Machine.execSsTrainingDone t s
  | .pollingTimeout n lfps => Sys2Proof.Machine.execPollingTimeout n lfps s
  | .recoveryTimeout n => Sys2Proof.Machine.execRecoveryTimeout n s
  | .ssLinkError n => Sys2Proof.Machine.execSsLinkError n s
  | .lgoU1U2 n lvl => Sys2Proof.Machine.execLgoU1U2 n lvl s
  | .u1U2IdleTimeout n u2 accepted => Sys2Proof.Machine.execU1U2IdleTimeout n u2 accepted s
  | .exitLfps n => Sys2Proof.Machine.execExitLfps n s
  | .lfpsWake p => Sys2Proof.Machine.execLfpsWake p s
  | .u3WakeHandshakeTimeout p => Sys2Proof.Machine.execU3WakeHandshakeTimeout p s
  | .warmResetDone n => Sys2Proof.Machine.execWarmResetDone n s
  | .fillRequestDone p data => Sys2Proof.Machine.execFillRequestDone p data s
  | .fillAttemptTimeout p => Sys2Proof.Machine.execFillAttemptTimeout p s
  | .tfillExpiry p => Sys2Proof.Machine.execTfillExpiry p s
  | .proxySetAddress u n addr => Sys2Proof.Machine.execProxySetAddress u n addr s
  | .proxyGetDescriptor u n kind index wLength => Sys2Proof.Machine.execProxyGetDescriptor u n kind index wLength s
  | .proxySetup u n setup => Sys2Proof.Machine.execProxySetup u n setup s
  | .forwardedSetConfigurationDone l => Sys2Proof.Machine.execForwardedSetConfigurationDone l s
  | .forwardedSetInterfaceDone l => Sys2Proof.Machine.execForwardedSetInterfaceDone l s
  | .clearFeatureEndpointHalt u n ep => Sys2Proof.Machine.execClearFeatureEndpointHalt u n ep s
  | .virtualResetEnd l => Sys2Proof.Machine.execVirtualResetEnd l s
  | .resetWindowExpiry l => Sys2Proof.Machine.execResetWindowExpiry l s
  | .refillDone p => Sys2Proof.Machine.execRefillDone p s
  | .hostOut u n ep toggle data => Sys2Proof.Machine.execHostOut u n ep toggle data s
  | .hostIn u n ep acked => Sys2Proof.Machine.execHostIn u n ep acked s
  | .hostPing u n ep => Sys2Proof.Machine.execHostPing u n ep s
  | .deviceInData p ep data => Sys2Proof.Machine.execDeviceInData p ep data s
  | .deviceOutAck p e => Sys2Proof.Machine.execDeviceOutAck p e s
  | .deviceStall p ep => Sys2Proof.Machine.execDeviceStall p ep s
  | .interruptInPoll p ep => Sys2Proof.Machine.execInterruptInPoll p ep s
  | .drainDone l => Sys2Proof.Machine.execDrainDone l s
  | .drainTimeout l => Sys2Proof.Machine.execDrainTimeout l s
  | .upstreamBusReset u hs => Sys2Proof.Machine.execUpstreamBusReset u hs s
  | .upstreamConnectionLost u => Sys2Proof.Machine.execUpstreamConnectionLost u s
  | .lendPresented u v => Sys2Proof.Machine.execLendPresented u v s
  | .lendBorrowerTimeout p => Sys2Proof.Machine.execLendBorrowerTimeout p s
  | .lendHoldExpiry l => Sys2Proof.Machine.execLendHoldExpiry l s
  | .tunnelData h data => Sys2Proof.Machine.execTunnelData h data s
  | .tunnelDraw h => Sys2Proof.Machine.execTunnelDraw h s
  | .tunnelAck h => Sys2Proof.Machine.execTunnelAck h s
  | .tunnelCredit h total => Sys2Proof.Machine.execTunnelCredit h total s
  | .tunnelSetup h setup => Sys2Proof.Machine.execTunnelSetup h setup s
  | .tunnelResult h result => Sys2Proof.Machine.execTunnelResult h result s
  | .tunnelReset h => Sys2Proof.Machine.execTunnelReset h s
  | .tunnelWake h => Sys2Proof.Machine.execTunnelWake h s
  | .tunnelSuspend h => Sys2Proof.Machine.execTunnelSuspend h s
  | .tunnelResume h => Sys2Proof.Machine.execTunnelResume h s
  | .tunnelOpen h data => Sys2Proof.Machine.execTunnelOpen h data s
  | .tunnelOpenDone h => Sys2Proof.Machine.execTunnelOpenDone h s
  | .tunnelClose h => Sys2Proof.Machine.execTunnelClose h s
  | .tunnelResync h last => Sys2Proof.Machine.execTunnelResync h last s
  | .tunnelDiscard h => Sys2Proof.Machine.execTunnelDiscard h s
  | .tunnelUnackedTimeout l => Sys2Proof.Machine.execTunnelUnackedTimeout l s
  | .rdSeen n v1 v2 => Sys2Proof.Machine.execRdSeen n v1 v2 s
  | .attachQualified n vsafe5V => Sys2Proof.Machine.execAttachQualified n vsafe5V s
  | .rdLost n => Sys2Proof.Machine.execRdLost n s
  | .ccOpen n => Sys2Proof.Machine.execCcOpen n s
  | .detachQualified n => Sys2Proof.Machine.execDetachQualified n s
  | .accessoryIgnored n => Sys2Proof.Machine.execAccessoryIgnored n s
  | .errorRecoveryEnd n => Sys2Proof.Machine.execErrorRecoveryEnd n s
  | .vconnOvercurrent n => Sys2Proof.Machine.execVconnOvercurrent n s
  | .drpToggle u => Sys2Proof.Machine.execDrpToggle u s
  | .rpSeen u v => Sys2Proof.Machine.execRpSeen u v s
  | .tryDebounce u vsafe5V => Sys2Proof.Machine.execTryDebounce u vsafe5V s
  | .tryTimeout u => Sys2Proof.Machine.execTryTimeout u s
  | .vbusBelowVsinkdisconnect u => Sys2Proof.Machine.execVbusBelowVsinkdisconnect u s
  | .deadBatteryAttach u v => Sys2Proof.Machine.execDeadBatteryAttach u v s
  | .goodcrc n id sopPrime => Sys2Proof.Machine.execGoodcrc n id sopPrime s
  | .crcReceiveTimerExpiry n => Sys2Proof.Machine.execCrcReceiveTimerExpiry n s
  | .chunkRequest h chunk => Sys2Proof.Machine.execChunkRequest h chunk s
  | .chunkTimeout n sender => Sys2Proof.Machine.execChunkTimeout n sender s
  | .sinktxWaitEnd n => Sys2Proof.Machine.execSinktxWaitEnd n s
  | .request h rdo => Sys2Proof.Machine.execRequest h rdo s
  | .eprRequest h rdo pdo => Sys2Proof.Machine.execEprRequest h rdo pdo s
  | .eprModeEnter h pdp => Sys2Proof.Machine.execEprModeEnter h pdp s
  | .eprModeExit h => Sys2Proof.Machine.execEprModeExit h s
  | .getSourceCap h => Sys2Proof.Machine.execGetSourceCap h s
  | .eprGetSourceCap h => Sys2Proof.Machine.execEprGetSourceCap h s
  | .eprKeepalive h => Sys2Proof.Machine.execEprKeepalive h s
  | .getSinkCap h => Sys2Proof.Machine.execGetSinkCap h s
  | .getSourceCapExtended h => Sys2Proof.Machine.execGetSourceCapExtended h s
  | .getStatus h => Sys2Proof.Machine.execGetStatus h s
  | .getPpsStatus h => Sys2Proof.Machine.execGetPpsStatus h s
  | .getSourceInfo h => Sys2Proof.Machine.execGetSourceInfo h s
  | .getRevision h => Sys2Proof.Machine.execGetRevision h s
  | .sourceCapabilities h pdos => Sys2Proof.Machine.execSourceCapabilities h pdos s
  | .sinkCapabilities h pdos => Sys2Proof.Machine.execSinkCapabilities h pdos s
  | .accept h => Sys2Proof.Machine.execAccept h s
  | .reject h => Sys2Proof.Machine.execReject h s
  | .wait h => Sys2Proof.Machine.execWait h s
  | .psRdy h => Sys2Proof.Machine.execPsRdy h s
  | .softReset h => Sys2Proof.Machine.execSoftReset h s
  | .hardResetSignal n => Sys2Proof.Machine.execHardResetSignal n s
  | .drSwap h => Sys2Proof.Machine.execDrSwap h s
  | .prSwap h => Sys2Proof.Machine.execPrSwap h s
  | .frSwap h => Sys2Proof.Machine.execFrSwap h s
  | .vconnSwap h => Sys2Proof.Machine.execVconnSwap h s
  | .bist h mode => Sys2Proof.Machine.execBist h mode s
  | .alert h ado => Sys2Proof.Machine.execAlert h ado s
  | .notSupported h => Sys2Proof.Machine.execNotSupported h s
  | .ping h => Sys2Proof.Machine.execPing h s
  | .vendorDefined h vdos => Sys2Proof.Machine.execVendorDefined h vdos s
  | .unsupportedMessage m => Sys2Proof.Machine.execUnsupportedMessage m s
  | .discoverIdentityStart n => Sys2Proof.Machine.execDiscoverIdentityStart n s
  | .discoverIdentityRetry n => Sys2Proof.Machine.execDiscoverIdentityRetry n s
  | .cableIdentity n id rev amps5 maxMv epr => Sys2Proof.Machine.execCableIdentity n id rev amps5 maxMv epr s
  | .capsReadvertise n => Sys2Proof.Machine.execCapsReadvertise n s
  | .typecSendSourceCapExpiry n => Sys2Proof.Machine.execTypecSendSourceCapExpiry n s
  | .senderResponseExpiry n => Sys2Proof.Machine.execSenderResponseExpiry n s
  | .srcTransitionExpiry n => Sys2Proof.Machine.execSrcTransitionExpiry n s
  | .srcSettleExpiry n => Sys2Proof.Machine.execSrcSettleExpiry n s
  | .psHardResetExpiry n => Sys2Proof.Machine.execPsHardResetExpiry n s
  | .safe0vExpiry n => Sys2Proof.Machine.execSafe0vExpiry n s
  | .srcRecoverExpiry n => Sys2Proof.Machine.execSrcRecoverExpiry n s
  | .noResponseExpiry n => Sys2Proof.Machine.execNoResponseExpiry n s
  | .enterEprExpiry n => Sys2Proof.Machine.execEnterEprExpiry n s
  | .sourceEprKeepaliveExpiry n => Sys2Proof.Machine.execSourceEprKeepaliveExpiry n s
  | .ppsTimeoutExpiry n => Sys2Proof.Machine.execPpsTimeoutExpiry n s
  | .psSourceOffExpiry u => Sys2Proof.Machine.execPsSourceOffExpiry u s
  | .psSourceOnExpiry u => Sys2Proof.Machine.execPsSourceOnExpiry u s
  | .swapSourceStartExpiry u => Sys2Proof.Machine.execSwapSourceStartExpiry u s
  | .frsSignalEnd u => Sys2Proof.Machine.execFrsSignalEnd u s
  | .frSwapWaitExpiry u => Sys2Proof.Machine.execFrSwapWaitExpiry u s
  | .vbusRequest n => Sys2Proof.Machine.execVbusRequest n s
  | .offRequest n => Sys2Proof.Machine.execOffRequest n s
  | .converterCheckPass n => Sys2Proof.Machine.execConverterCheckPass n s
  | .converterNotReady n => Sys2Proof.Machine.execConverterNotReady n s
  | .converterRetry n => Sys2Proof.Machine.execConverterRetry n s
  | .meterSample ch => Sys2Proof.Machine.execMeterSample ch s
  | .powerGood n => Sys2Proof.Machine.execPowerGood n s
  | .slowTrip n => Sys2Proof.Machine.execSlowTrip n s
  | .fastTrip n => Sys2Proof.Machine.execFastTrip n s
  | .reverseTrip n => Sys2Proof.Machine.execReverseTrip n s
  | .undervoltTrip n => Sys2Proof.Machine.execUndervoltTrip n s
  | .turnOnTimeout n => Sys2Proof.Machine.execTurnOnTimeout n s
  | .ccReturn n => Sys2Proof.Machine.execCcReturn n s
  | .psRdyEop n => Sys2Proof.Machine.execPsRdyEop n s
  | .coolDownEnd n => Sys2Proof.Machine.execCoolDownEnd n s
  | .tripCountReset n => Sys2Proof.Machine.execTripCountReset n s
  | .dischargeDone n => Sys2Proof.Machine.execDischargeDone n s
  | .dischargeTimeout n => Sys2Proof.Machine.execDischargeTimeout n s
  | .pmbusInit n => Sys2Proof.Machine.execPmbusInit n s
  | .pmbusTransactionDone segB e => Sys2Proof.Machine.execPmbusTransactionDone segB e s
  | .pmbusBusStuck segB => Sys2Proof.Machine.execPmbusBusStuck segB s
  | .pmbusClockStretchTimeout segB => Sys2Proof.Machine.execPmbusClockStretchTimeout segB s
  | .pmbusPoll segB => Sys2Proof.Machine.execPmbusPoll segB s
  | .pmbusAlert segB => Sys2Proof.Machine.execPmbusAlert segB s
  | .feedAbsent feedB => Sys2Proof.Machine.execFeedAbsent feedB s
  | .feedQualifyStart feedB => Sys2Proof.Machine.execFeedQualifyStart feedB s
  | .feedQualified feedB => Sys2Proof.Machine.execFeedQualified feedB s
  | .feedWarning feedB => Sys2Proof.Machine.execFeedWarning feedB s
  | .feedWarningClear feedB => Sys2Proof.Machine.execFeedWarningClear feedB s
  | .feedOvervolt feedB => Sys2Proof.Machine.execFeedOvervolt feedB s
  | .feedOvReturn feedB => Sys2Proof.Machine.execFeedOvReturn feedB s
  | .feedReverseOff feedB => Sys2Proof.Machine.execFeedReverseOff feedB s
  | .feedForwardReenable feedB => Sys2Proof.Machine.execFeedForwardReenable feedB s
  | .feedOvercurrent feedB => Sys2Proof.Machine.execFeedOvercurrent feedB s
  | .feedOvercurrentShedStep feedB => Sys2Proof.Machine.execFeedOvercurrentShedStep feedB s
  | .feedOvercurrentCleared feedB => Sys2Proof.Machine.execFeedOvercurrentCleared feedB s
  | .restoreClassStep why => Sys2Proof.Machine.execRestoreClassStep why s
  | .allocRecompute => Sys2Proof.Machine.execAllocRecompute s
  | .shedPlanRefresh => Sys2Proof.Machine.execShedPlanRefresh s
  | .pendingIncreaseRelease => Sys2Proof.Machine.execPendingIncreaseRelease s
  | .committedOverBudget => Sys2Proof.Machine.execCommittedOverBudget s
  | .hbEdge => Sys2Proof.Machine.execHbEdge s
  | .hbOutWatchdog => Sys2Proof.Machine.execHbOutWatchdog s
  | .partnerLost live => Sys2Proof.Machine.execPartnerLost live s
  | .liveWord st seq => Sys2Proof.Machine.execLiveWord st seq s
  | .claimResample => Sys2Proof.Machine.execClaimResample s
  | .claimWon => Sys2Proof.Machine.execClaimWon s
  | .deferralEnd => Sys2Proof.Machine.execDeferralEnd s
  | .partnerResetPulseEnd => Sys2Proof.Machine.execPartnerResetPulseEnd s
  | .takeoverPsxActive => Sys2Proof.Machine.execTakeoverPsxActive s
  | .pairSelfTestDone failed => Sys2Proof.Machine.execPairSelfTestDone failed s
  | .bootWaitExpiry => Sys2Proof.Machine.execBootWaitExpiry s
  | .fullSyncDone => Sys2Proof.Machine.execFullSyncDone s
  | .ladleUp => Sys2Proof.Machine.execLadleUp s
  | .ladleDown => Sys2Proof.Machine.execLadleDown s
  | .digestSend => Sys2Proof.Machine.execDigestSend s
  | .digestFrame mismatch => Sys2Proof.Machine.execDigestFrame mismatch s
  | .slowFrame items => Sys2Proof.Machine.execSlowFrame items s
  | .mirrorFrame items => Sys2Proof.Machine.execMirrorFrame items s
  | .syncFrame items => Sys2Proof.Machine.execSyncFrame items s
  | .mirrorStall => Sys2Proof.Machine.execMirrorStall s
  | .handoverQuietPoint => Sys2Proof.Machine.execHandoverQuietPoint s
  | .handoverWaitExpiry => Sys2Proof.Machine.execHandoverWaitExpiry s
  | .handoverRelease => Sys2Proof.Machine.execHandoverRelease s
  | .handoverFrame rejoin => Sys2Proof.Machine.execHandoverFrame rejoin s
  | .handoverGateRelease dur => Sys2Proof.Machine.execHandoverGateRelease dur s
  | .rejoinTimerExpiry => Sys2Proof.Machine.execRejoinTimerExpiry s
  | .handoverRetry => Sys2Proof.Machine.execHandoverRetry s
  | .blockLock k => Sys2Proof.Machine.execBlockLock k s
  | .tsExchangeDone l ts => Sys2Proof.Machine.execTsExchangeDone l ts s
  | .linkCheckDone l ok rtt => Sys2Proof.Machine.execLinkCheckDone l ok rtt s
  | .lockLost l w => Sys2Proof.Machine.execLockLost l w s
  | .retrainWindowExpiry l => Sys2Proof.Machine.execRetrainWindowExpiry l s
  | .linkWordSend l => Sys2Proof.Machine.execLinkWordSend l s
  | .frameReceived l lseq f lchkOk fcrcOk => Sys2Proof.Machine.execFrameReceived l lseq f lchkOk fcrcOk s
  | .ackWord l lseq => Sys2Proof.Machine.execAckWord l lseq s
  | .nakWord l lseq => Sys2Proof.Machine.execNakWord l lseq s
  | .replayWord l lseq => Sys2Proof.Machine.execReplayWord l lseq s
  | .abortWord l vc credits => Sys2Proof.Machine.execAbortWord l vc credits s
  | .creditWord l vc total => Sys2Proof.Machine.execCreditWord l vc total s
  | .retrainWord l => Sys2Proof.Machine.execRetrainWord l s
  | .replayTimerExpiry l => Sys2Proof.Machine.execReplayTimerExpiry l s
  | .hello l h => Sys2Proof.Machine.execHello l h s
  | .lsa l a => Sys2Proof.Machine.execLsa l a s
  | .lsaRefresh => Sys2Proof.Machine.execLsaRefresh s
  | .lsaPurge => Sys2Proof.Machine.execLsaPurge s
  | .linkUsable l => Sys2Proof.Machine.execLinkUsable l s
  | .nodeIdClaimSettle => Sys2Proof.Machine.execNodeIdClaimSettle s
  | .routeComputeDone => Sys2Proof.Machine.execRouteComputeDone s
  | .creditStallExpiry l vc => Sys2Proof.Machine.execCreditStallExpiry l vc s
  | .sleepWord l ack => Sys2Proof.Machine.execSleepWord l ack s
  | .wakePatternSend l => Sys2Proof.Machine.execWakePatternSend l s
  | .wakeSendTimeout l => Sys2Proof.Machine.execWakeSendTimeout l s
  | .wakeEnergy l => Sys2Proof.Machine.execWakeEnergy l s
  | .wakePatternSeen l => Sys2Proof.Machine.execWakePatternSeen l s
  | .wakeProbeTimeout l => Sys2Proof.Machine.execWakeProbeTimeout l s
  | .timeReqSend => Sys2Proof.Machine.execTimeReqSend s
  | .timeReq l seq => Sys2Proof.Machine.execTimeReq l seq s
  | .timeResp l seq value => Sys2Proof.Machine.execTimeResp l seq value s
  | .timeRxstamp l seq value => Sys2Proof.Machine.execTimeRxstamp l seq value s
  | .timeHigh l seq value => Sys2Proof.Machine.execTimeHigh l seq value s
  | .holdoverTimeout => Sys2Proof.Machine.execHoldoverTimeout s
  | .holdoverLimit => Sys2Proof.Machine.execHoldoverLimit s
  | .tsyncInEdge => Sys2Proof.Machine.execTsyncInEdge s
  | .pulseMissing => Sys2Proof.Machine.execPulseMissing s
  | .tsyncOutRise => Sys2Proof.Machine.execTsyncOutRise s
  | .tsyncOutFall => Sys2Proof.Machine.execTsyncOutFall s
  | .detectorFire src code data => Sys2Proof.Machine.execDetectorFire src code data s
  | .captureRelease => Sys2Proof.Machine.execCaptureRelease s
  | .coalescedStore q => Sys2Proof.Machine.execCoalescedStore q s
  | .eventPipeIn u => Sys2Proof.Machine.execEventPipeIn u s
  | .eventPipeAck u => Sys2Proof.Machine.execEventPipeAck u s
  | .fabForwardSend => Sys2Proof.Machine.execFabForwardSend s
  | .eventsFrame src seq recs => Sys2Proof.Machine.execEventsFrame src seq recs s
  | .mergeHoldExpiry => Sys2Proof.Machine.execMergeHoldExpiry s
  | .journalFrame src seq recs => Sys2Proof.Machine.execJournalFrame src seq recs s
  | .journalRecordWrite res => Sys2Proof.Machine.execJournalRecordWrite res s
  | .droppedReport => Sys2Proof.Machine.execDroppedReport s
  | .vddnvFall => Sys2Proof.Machine.execVddnvFall s
  | .userLineWrite => Sys2Proof.Machine.execUserLineWrite s
  | .ffSlotZeroing => Sys2Proof.Machine.execFfSlotZeroing s
  | .journalScan => Sys2Proof.Machine.execJournalScan s
  | .dozeEnter => Sys2Proof.Machine.execDozeEnter s
  | .dozeWake failed => Sys2Proof.Machine.execDozeWake failed s
  | .hibernateEnter => Sys2Proof.Machine.execHibernateEnter s
  | .hibernateWake src => Sys2Proof.Machine.execHibernateWake src s
  | .wakeRailsValid failed => Sys2Proof.Machine.execWakeRailsValid failed s
  | .wakeRailFail rail => Sys2Proof.Machine.execWakeRailFail rail s
  | .regenRetry => Sys2Proof.Machine.execRegenRetry s
  | .bankRestoreFromPartner bank ok => Sys2Proof.Machine.execBankRestoreFromPartner bank ok s
  | .aonTimerWake => Sys2Proof.Machine.execAonTimerWake s
  | .gpioEdge n rise => Sys2Proof.Machine.execGpioEdge n rise s
  | .xtalFail => Sys2Proof.Machine.execXtalFail s
  | .xtalRestart runs => Sys2Proof.Machine.execXtalRestart runs s
  | .xtalStop => Sys2Proof.Machine.execXtalStop s
  | .frefLost => Sys2Proof.Machine.execFrefLost s
  | .railOutOfWindow rail high mv => Sys2Proof.Machine.execRailOutOfWindow rail high mv s
  | .vaonLoss => Sys2Proof.Machine.execVaonLoss s
  | .resetNLow => Sys2Proof.Machine.execResetNLow s
  | .resetNRelease straps railsOk => Sys2Proof.Machine.execResetNRelease straps railsOk s
  | .powerUp straps resetHigh => Sys2Proof.Machine.execPowerUp straps resetHigh s
  | .firmwareDone => Sys2Proof.Machine.execFirmwareDone s
  | .firmwareWatchdog => Sys2Proof.Machine.execFirmwareWatchdog s
  | .deadFeedStart u => Sys2Proof.Machine.execDeadFeedStart u s
  | .deadFeedRegen u => Sys2Proof.Machine.execDeadFeedRegen u s
  | .thermalWarning enter temp => Sys2Proof.Machine.execThermalWarning enter temp s
  | .thermalShutdown temp => Sys2Proof.Machine.execThermalShutdown temp s
  | .thermalRecovery temp => Sys2Proof.Machine.execThermalRecovery temp s
  | .proxyL1Idle p device => Sys2Proof.Machine.execProxyL1Idle p device s
  | .upU1U2Idle u u2 accepted => Sys2Proof.Machine.execUpU1U2Idle u u2 accepted s
  | .timeStatusWord l seq root stratum flags => Sys2Proof.Machine.execTimeStatusWord l seq root stratum flags s
  | .tkoInEdge level => Sys2Proof.Machine.execTkoInEdge level s
  | .hubSetFeature u f on => Sys2Proof.Machine.execHubSetFeature u f on s
  | .hubSetAddress u fn addr => Sys2Proof.Machine.execHubSetAddress u fn addr s
  | .railReturned rail mv => Sys2Proof.Machine.execRailReturned rail mv s
  | .deadFeedStop => Sys2Proof.Machine.execDeadFeedStop s
  | .hardResetCompleteExpiry n => Sys2Proof.Machine.execHardResetCompleteExpiry n s
  | .watchdogRestart => Sys2Proof.Machine.execWatchdogRestart s
  | .pairWakeDetectTimeout => Sys2Proof.Machine.execPairWakeDetectTimeout s
  | .bankRestoreTimeout => Sys2Proof.Machine.execBankRestoreTimeout s
  | .mgmtResetDone u => Sys2Proof.Machine.execMgmtResetDone u s
  | .suspendDrainTimeout p => Sys2Proof.Machine.execSuspendDrainTimeout p s
  | .frefRestored => Sys2Proof.Machine.execFrefRestored s
  | .sinkPathIdealDiode u reverse => Sys2Proof.Machine.execSinkPathIdealDiode u reverse s

end Sys2Proof.Machine
end

