-- ==== Sys2Proof/WellFormed.lean ====
section
/-!
DEFINITION. WellFormed.lean: the ranges that the manual gives the operands of the commands. A meaning is total: an
operand outside its range names nothing, and the command changes nothing for it.
-/

namespace Sys2Proof

/-- `lo ≤ v ≤ hi`. -/
def between (lo hi v : Nat) : Bool := decide (lo ≤ v) && decide (v ≤ hi)

/-- The value fits `w` bits. -/
def below (w v : Nat) : Bool := decide (v < 2 ^ w)

/-- A physical port (R9). -/
def isPort (p : Nat) : Bool := between 1 32 p

/-- A physical port, or UA as 33 or UB as 34 (R130, R167). -/
def isPath (n : Nat) : Bool := between 1 34 n

/-- A virtual port (R9). -/
def isVPort (v : Nat) : Bool := between 34 41 v

/-- A Giwald link, and a virtual channel of one (R9, R259). -/
def isLink (l : Nat) : Bool := decide (l < 4)

/-- An endpoint address: number in bits 3:0, direction in bit 7 (R69). -/
def isEndpoint (ep : Nat) : Bool := decide (ep < 256) && ep % 128 / 16 == 0

def Loc.wf : Loc → Bool
  | .phys p => isPort p
  | .virt _ v => isVPort v

/-- A node ID (R266). -/
def isNode (n : Nat) : Bool := between 1 240 n

def Transport.wf : Transport → Bool
  | .fabric n => isNode n
  | _ => true

/-- Header fields fit their widths, and the payload its limit (R339). -/
def Cmd.wf (c : Cmd) : Bool :=
  c.tr.wf && below 16 c.opcode && below 16 c.tag && below 8 c.target && decide (c.payload.length ≤ 4088)
    && below 16 c.ftag && decide (c.rsv < 16)

/-- The header's fields fit their widths; the payload is at most 1,024 bytes (R257). -/
def Frame.wf (f : Frame) : Bool :=
  isLink f.vc && below 6 f.kind && below 7 f.hops && below 8 f.dest && below 8 f.src && below 29 f.kspec
    && decide (f.payload.length ≤ 1024)

def TunHdr.wf (h : TunHdr) : Bool := isNode h.src && isVPort h.vport && isEndpoint h.ep && below 16 h.tseq

/-- Message header of PD (R141). -/
def PdHdr.wf (h : PdHdr) : Bool := isPath h.port && decide (h.id < 8) && decide (h.rev < 3)

def TsWord.wf (t : TsWord) : Bool := isLink t.link && isLink t.role && below 8 t.cl && below 8 t.node

def Hello.wf (h : Hello) : Bool := below 64 h.uid && below 8 h.claim && isLink h.link && isLink h.role

/-- An LSA lists at most eight links: four of each chip of a pair (R265, R268). -/
def Lsa.wf (a : Lsa) : Bool :=
  below 64 a.uid && below 32 a.seq && below 8 a.claim && decide (a.links.length ≤ 8) && a.links.all (fun k => isLink k.link)

def Chan.wf : Chan → Bool
  | .path n _ => isPath n
  | .vconn k _ => decide (k < 4)
  | .reference k _ => decide (k < 15)
  | _ => true

/-- A transaction seen on a segment names a converter address and a command code (R170, R225). -/
def BusTxn.wf (x : BusTxn) : Bool := below 7 x.conv && below 8 x.code && below 16 x.value

def EccErr.wf (e : EccErr) : Bool := isEndpoint e.ep

/-- Read data of a PMBus transaction is one word (R170). -/
def TxnRes.wf : TxnRes → Bool
  | .ok d => below 16 d
  | _ => true

/-- FS data is at most 1,023 bytes (R53). -/
def TtRes.wf : TtRes → Bool
  | .data _ bs => decide (bs.length ≤ 1023)
  | .part bs => decide (bs.length ≤ 1023)
  | _ => true

def SlowItem.wf : SlowItem → Bool
  | .ident p entry _ _ _ => isPort p && entry.length == 16
  | .alloc n _ _ _ => isPath n
  | .block op _ _ => below 16 op
  | .record bs => bs.length == 32
  | .command c => c.wf
  | .port p addr dpe speed _ => isPort p && below 7 addr && decide (dpe < 10) && decide (speed < 4)
  | .ask p => isPort p
  | .claim id nodeId _ _ => decide (id ≤ 240) && decide (nodeId ≤ 240)
  | .spe n link _ => between 1 10 n && decide (link < 12)
  | .lend l node _ v _ => l.wf && decide (node ≤ 240) && (v == 0 || isVPort v)
  | .vport _ v _ _ _ homePort entry _ _ _ => isVPort v && decide (homePort ≤ 32) && entry.length == 16
  | _ => true

def MirrorItem.wf : MirrorItem → Bool
  | .endpoint l ep _ _ => l.wf && isEndpoint ep
  | .tunnel l _ _ => l.wf
  | .line p dpe _ => isPort p && decide (dpe < 10)

/-- The operands of a command lie in their ranges; a packet's opcode is its row's. -/
def Instr.wf : Instr → Bool
  | .nop c => c.wf && c.opcode == 0x0000
  | .identify c => c.wf && c.opcode == 0x0001
  | .sysStatus c => c.wf && c.opcode == 0x0002
  | .chipReset c => c.wf && c.opcode == 0x0003
  | .chipResetDelayExpiry => true
  | .configSelect c => c.wf && c.opcode == 0x0004
  | .portStatus c => c.wf && c.opcode == 0x0100
  | .portMove c => c.wf && c.opcode == 0x0101
  | .portReset c => c.wf && c.opcode == 0x0102
  | .planSet c => c.wf && c.opcode == 0x0200
  | .planGet c => c.wf && c.opcode == 0x0201
  | .modeSet c => c.wf && c.opcode == 0x0202
  | .idmapGet c => c.wf && c.opcode == 0x0203
  | .cacheRead c => c.wf && c.opcode == 0x0204
  | .portRefill c => c.wf && c.opcode == 0x0205
  | .lend c => c.wf && c.opcode == 0x0206
  | .lendEndRecall c => c.wf && c.opcode == 0x0207
  | .lendEndRelease c => c.wf && c.opcode == 0x0207
  | .pdStatus c => c.wf && c.opcode == 0x0300
  | .pdCapsRead c => c.wf && c.opcode == 0x0301
  | .pdSettingsGet c => c.wf && c.opcode == 0x0302
  | .pdSettingsSet c => c.wf && c.opcode == 0x0303
  | .pdActionRenegotiate c => c.wf && c.opcode == 0x0304
  | .pdActionSoftReset c => c.wf && c.opcode == 0x0304
  | .pdActionHardReset c => c.wf && c.opcode == 0x0304
  | .pdActionErrorRecovery c => c.wf && c.opcode == 0x0304
  | .pdActionPrSwap c => c.wf && c.opcode == 0x0304
  | .pdActionGetSinkCap c => c.wf && c.opcode == 0x0304
  | .pdActionWaitingStart n => isPath n
  | .ppcSettingsGet c => c.wf && c.opcode == 0x0400
  | .ppcSettingsSet c => c.wf && c.opcode == 0x0401
  | .portPowerCycle c => c.wf && c.opcode == 0x0402
  | .powerCycleOffEnd n => isPath n
  | .meterRead c => c.wf && c.opcode == 0x0403
  | .converterStatus c => c.wf && c.opcode == 0x0404
  | .converterInit c => c.wf && c.opcode == 0x0405
  | .feedSettingsGet c => c.wf && c.opcode == 0x0500
  | .feedSettingsSet c => c.wf && c.opcode == 0x0501
  | .pbaGlobalGet c => c.wf && c.opcode == 0x0502
  | .pbaGlobalSet c => c.wf && c.opcode == 0x0503
  | .pbaPortGet c => c.wf && c.opcode == 0x0504
  | .pbaPortSet c => c.wf && c.opcode == 0x0505
  | .budgetStatus c => c.wf && c.opcode == 0x0506
  | .pairStatus c => c.wf && c.opcode == 0x0600
  | .pairSettingsGet c => c.wf && c.opcode == 0x0601
  | .pairSettingsSet c => c.wf && c.opcode == 0x0602
  | .handover c => c.wf && c.opcode == 0x0603
  | .pairRelay c => c.wf && c.opcode == 0x0604
  | .fabricStatus c => c.wf && c.opcode == 0x0700
  | .fabricSettingsGet c => c.wf && c.opcode == 0x0701
  | .fabricSettingsSet c => c.wf && c.opcode == 0x0702
  | .nodeList c => c.wf && c.opcode == 0x0703
  | .eventFetch c => c.wf && c.opcode == 0x0800
  | .eventFetchPeek c => c.wf && c.opcode == 0x0800
  | .queueStatus c => c.wf && c.opcode == 0x0801
  | .eventRouteGet c => c.wf && c.opcode == 0x0802
  | .eventRouteSet c => c.wf && c.opcode == 0x0803
  | .eventSettingsGet c => c.wf && c.opcode == 0x0804
  | .eventSettingsSet c => c.wf && c.opcode == 0x0805
  | .timeStatus c => c.wf && c.opcode == 0x0900
  | .timeSettingsGet c => c.wf && c.opcode == 0x0901
  | .timeSettingsSet c => c.wf && c.opcode == 0x0902
  | .timeEpoch c => c.wf && c.opcode == 0x0903
  | .timeEpochAtPps c => c.wf && c.opcode == 0x0903
  | .sofRead c => c.wf && c.opcode == 0x0904
  | .crockStatus c => c.wf && c.opcode == 0x0A00
  | .crockRead c => c.wf && c.opcode == 0x0A01
  | .crockWrite c => c.wf && c.opcode == 0x0A02
  | .journalRead c => c.wf && c.opcode == 0x0A03
  | .ffClear c => c.wf && c.opcode == 0x0A04
  | .userErase c => c.wf && c.opcode == 0x0A05
  | .sieveGet c => c.wf && c.opcode == 0x0B00
  | .sieveSet c => c.wf && c.opcode == 0x0B01
  | .sieveFeed c => c.wf && c.opcode == 0x0B02
  | .sieveFinish c => c.wf && c.opcode == 0x0B03
  | .sieveStatus c => c.wf && c.opcode == 0x0B04
  | .profileGet c => c.wf && c.opcode == 0x0C00
  | .profileSet c => c.wf && c.opcode == 0x0C01
  | .clStatus c => c.wf && c.opcode == 0x0C02
  | .clPin c => c.wf && c.opcode == 0x0C03
  | .fwStatus c => c.wf && c.opcode == 0x0D00
  | .fwVerify c => c.wf && c.opcode == 0x0D01
  | .fwActivate c => c.wf && c.opcode == 0x0D02
  | .fwRestart c => c.wf && c.opcode == 0x0D03
  | .nonceRead c => c.wf && c.opcode == 0x0D04
  | .keyWrite c => c.wf && c.opcode == 0x0D05
  | .keyClear c => c.wf && c.opcode == 0x0D05
  | .keyStatus c => c.wf && c.opcode == 0x0D06
  | .selfTest c _ => c.wf && c.opcode == 0x0E00
  | .errorCounters c => c.wf && c.opcode == 0x0E01
  | .diagTrigger c => c.wf && c.opcode == 0x0E02
  | .phyTuneGet c => c.wf && c.opcode == 0x0E03
  | .phyTuneSet c => c.wf && c.opcode == 0x0E04
  | .usbCommandTransfer _ bs => decide (bs.length ≤ 8192)
  | .responsePipeIn _ => true
  | .fragmentAssemblyTimeout t => t.wf
  | .authLockoutEnd t => t.wf
  | .sidebandWindowWrite _ offset _ => below 8 offset
  | .mbiCtrlGo _ ctrl len message => below 8 ctrl && below 8 len && decide (message.length ≤ 92)
  | .mbiCtrlSync ctrl => below 8 ctrl
  | .mboAck value => below 8 value
  | .mboTimeout => true
  | .smbusAlertResponse => true
  | .smbusTimeout => true
  | .hibernateSmbusAccess _ offset => below 8 offset
  | .commandFrame src tag seg _ _ bs =>
    between 1 240 src && below 16 tag && decide (seg < 5) && between 1 1024 bs.length
  | .responseFrame src tag seg _ bs =>
    between 1 240 src && below 16 tag && decide (seg < 5) && between 1 1024 bs.length
  | .cmdWaitExpiry tag => below 16 tag
  | .partnerCmdFrame seg _ _ outer bs => decide (seg < 5) && below 16 outer && decide (bs.length ≤ 1024)
  | .relayTimeout => true
  | .getPortStatus _ _ n => between 1 41 n
  | .setPortFeaturePortReset _ _ n => between 1 41 n
  | .setPortFeaturePortSuspend _ n => between 1 41 n
  | .clearPortFeaturePortSuspend _ n => between 1 41 n
  | .clearPortFeaturePortEnable _ n => between 1 41 n
  | .setPortFeaturePortPower _ _ n => between 1 41 n
  | .clearPortFeaturePortPower _ _ n => between 1 41 n
  | .setPortFeaturePortTest _ n _ => between 1 41 n
  | .setPortFeaturePortIndicator _ n => between 1 41 n
  | .clearPortFeatureC _ _ n _ => between 1 41 n
  | .clearTtBuffer _ n addr ep => between 1 41 n && below 7 addr && isEndpoint ep
  | .resetTt _ n => between 1 41 n
  | .getTtState _ n wLength => between 1 41 n && below 16 wLength
  | .stopTt _ n => between 1 41 n
  | .setPortFeaturePortLinkState _ n _ => between 1 8 n
  | .setPortFeatureBhPortReset _ n => between 1 8 n
  | .setPortFeaturePortU1Timeout _ n value => between 1 8 n && below 8 value
  | .setPortFeaturePortU2Timeout _ n value => between 1 8 n && below 8 value
  | .setPortFeatureRemoteWakeMask _ n mask => between 1 8 n && below 8 mask
  | .getPortErrorCount _ n => between 1 8 n
  | .hubSetConfiguration _ _ value => below 8 value
  | .hubSetInterface _ alt => decide (alt < 2)
  | .hubGetDescriptor _ _ kind index wLength => below 8 kind && below 8 index && below 16 wLength
  | .hubLpmToken _ besl => below 4 besl
  | .hsToken _ t addr ep => below 7 addr && isEndpoint ep && decide (t.pkts.length ≤ 2)
  | .addressLearn p addr => isPort p && below 7 addr
  | .sofReceived _ frame uframe => below 11 frame && decide (uframe < 8)
  | .frameStart _ => true
  | .ssHeaderPacket _ _ n _ => between 1 8 n
  | .ttSsplit _ n addr ep _ _ _ _ count data =>
    between 1 41 n && below 7 addr && isEndpoint ep && below 10 count && decide (data.length ≤ 1023)
  | .ttCsplit _ n addr ep _ _ => between 1 41 n && below 7 addr && isEndpoint ep
  | .ttTransactionDone p addr ep _ _ res => isPort p && below 7 addr && isEndpoint ep && res.wf
  | .ttResultDiscard p addr ep _ => isPort p && below 7 addr && isEndpoint ep
  | .planApply => true
  | .planApplyTimeout => true
  | .scrubPass _ bad => bad.all EccErr.wf
  | .connect p _ => isPort p
  | .disconnect p => isPort p
  | .deviceChirp p => isPort p
  | .deviceChirpEnd p _ => isPort p
  | .resetEnd p _ => isPort p
  | .cdpVdpSrc p _ => isPort p
  | .upstreamSuspend _ => true
  | .deviceLpmAck p besl => isPort p && below 4 besl
  | .proxyLpmToken _ n besl _ => between 1 41 n && below 5 besl
  | .deviceWake p => isPort p
  | .hostK _ => true
  | .upstreamWakeDriveEnd _ _ => true
  | .resumeKEnd p => isPort p
  | .upstreamResumeEop _ => true
  | .babble p => isPort p
  | .lossOfActivity p => isPort p
  | .portError p => isPort p
  | .rxDetectProbe n _ => between 1 10 n
  | .ssTrainingDone t => between 1 10 t.n
  | .pollingTimeout n _ => between 1 10 n
  | .recoveryTimeout n => between 1 10 n
  | .ssLinkError n => between 1 10 n
  | .lgoU1U2 n lvl => between 1 10 n && (lvl == .u1 || lvl == .u2 || lvl == .u3)
  | .u1U2IdleTimeout n _ _ => between 1 10 n
  | .exitLfps n => between 1 10 n
  | .lfpsWake p => isPort p
  | .u3WakeHandshakeTimeout p => isPort p
  | .warmResetDone n => between 1 10 n
  | .fillRequestDone p data => isPort p && below 16 data.length
  | .fillAttemptTimeout p => isPort p
  | .tfillExpiry p => isPort p
  | .proxySetAddress _ n addr => between 1 41 n && below 7 addr
  | .proxyGetDescriptor _ n kind index wLength => between 1 41 n && below 8 kind && below 8 index && below 16 wLength
  | .proxySetup _ n setup => between 1 41 n && setup.length == 8
  | .forwardedSetConfigurationDone l => l.wf
  | .forwardedSetInterfaceDone l => l.wf
  | .clearFeatureEndpointHalt _ n ep => between 1 41 n && isEndpoint ep
  | .virtualResetEnd l => l.wf
  | .resetWindowExpiry l => l.wf
  | .refillDone p => isPort p
  | .hostOut _ n ep _ data => between 1 41 n && isEndpoint ep && decide (data.length ≤ 1024)
  | .hostIn _ n ep _ => between 1 41 n && isEndpoint ep
  | .hostPing _ n ep => between 1 41 n && isEndpoint ep
  | .deviceInData p ep data => isPort p && isEndpoint ep && decide (data.length ≤ 1024)
  | .deviceOutAck p e => isPort p && isEndpoint e.ep
  | .deviceStall p ep => isPort p && isEndpoint ep
  | .interruptInPoll p ep => isPort p && isEndpoint ep
  | .drainDone l => l.wf
  | .drainTimeout l => l.wf
  | .upstreamBusReset _ _ => true
  | .upstreamConnectionLost _ => true
  | .lendPresented _ v => isVPort v
  | .lendBorrowerTimeout p => isPort p
  | .lendHoldExpiry l => l.wf
  | .tunnelData h data => h.wf && decide (data.length ≤ 1024)
  | .tunnelDraw h => h.wf
  | .tunnelAck h => h.wf
  | .tunnelCredit h total => h.wf && below 16 total
  | .tunnelSetup h setup => h.wf && setup.length == 8
  | .tunnelResult h result => h.wf && below 8 result
  | .tunnelReset h => h.wf
  | .tunnelWake h => h.wf
  | .tunnelSuspend h => h.wf
  | .tunnelResume h => h.wf
  | .tunnelOpen h data => h.wf && decide (data.length ≤ 1024)
  | .tunnelOpenDone h => h.wf
  | .tunnelClose h => h.wf
  | .tunnelResync h last => h.wf && below 16 last
  | .tunnelDiscard h => h.wf
  | .tunnelUnackedTimeout l => l.wf
  | .rdSeen n _ _ => isPath n
  | .attachQualified n _ => isPath n
  | .rdLost n => isPath n
  | .ccOpen n => isPath n
  | .detachQualified n => isPath n
  | .accessoryIgnored n => isPath n
  | .errorRecoveryEnd n => isPath n
  | .vconnOvercurrent n => isPath n
  | .drpToggle _ => true
  | .rpSeen _ _ => true
  | .tryDebounce _ _ => true
  | .tryTimeout _ => true
  | .vbusBelowVsinkdisconnect _ => true
  | .deadBatteryAttach _ _ => true
  | .goodcrc n id _ => isPath n && decide (id < 8)
  | .crcReceiveTimerExpiry n => isPath n
  | .chunkRequest h chunk => h.wf && decide (chunk < 16)
  | .chunkTimeout n _ => isPath n
  | .sinktxWaitEnd n => isPath n
  | .request h rdo => h.wf && below 32 rdo
  | .eprRequest h rdo pdo => h.wf && below 32 rdo && below 32 pdo
  | .eprModeEnter h pdp => h.wf && below 8 pdp
  | .eprModeExit h => h.wf
  | .getSourceCap h => h.wf
  | .eprGetSourceCap h => h.wf
  | .eprKeepalive h => h.wf
  | .getSinkCap h => h.wf
  | .getSourceCapExtended h => h.wf
  | .getStatus h => h.wf
  | .getPpsStatus h => h.wf
  | .getSourceInfo h => h.wf
  | .getRevision h => h.wf
  | .sourceCapabilities h pdos => h.wf && decide (pdos.length ≤ 11) && pdos.all (below 32)
  | .sinkCapabilities h pdos => h.wf && decide (pdos.length ≤ 11) && pdos.all (below 32)
  | .accept h => h.wf
  | .reject h => h.wf
  | .wait h => h.wf
  | .psRdy h => h.wf
  | .softReset h => h.wf
  | .hardResetSignal n => isPath n
  | .drSwap h => h.wf
  | .prSwap h => h.wf
  | .frSwap h => h.wf
  | .vconnSwap h => h.wf
  | .bist h mode => h.wf && decide (mode < 16)
  | .alert h ado => h.wf && below 32 ado
  | .notSupported h => h.wf
  | .ping h => h.wf
  | .vendorDefined h vdos => h.wf && between 1 7 vdos.length && vdos.all (below 32)
  | .unsupportedMessage m => m.hdr.wf
  | .discoverIdentityStart n => isPath n
  | .discoverIdentityRetry n => isPath n
  | .cableIdentity n id rev _ _ _ => isPath n && below 16 id && decide (rev < 4)
  | .capsReadvertise n => isPath n
  | .typecSendSourceCapExpiry n => isPath n
  | .senderResponseExpiry n => isPath n
  | .srcTransitionExpiry n => isPath n
  | .srcSettleExpiry n => isPath n
  | .psHardResetExpiry n => isPath n
  | .safe0vExpiry n => isPath n
  | .srcRecoverExpiry n => isPath n
  | .noResponseExpiry n => isPath n
  | .enterEprExpiry n => isPath n
  | .sourceEprKeepaliveExpiry n => isPath n
  | .ppsTimeoutExpiry n => isPath n
  | .psSourceOffExpiry _ => true
  | .psSourceOnExpiry _ => true
  | .swapSourceStartExpiry _ => true
  | .frsSignalEnd _ => true
  | .frSwapWaitExpiry _ => true
  | .vbusRequest n => isPath n
  | .offRequest n => isPath n
  | .converterCheckPass n => isPath n
  | .converterNotReady n => isPath n
  | .converterRetry n => isPath n
  | .meterSample ch => ch.wf
  | .powerGood n => isPath n
  | .slowTrip n => isPath n
  | .fastTrip n => isPath n
  | .reverseTrip n => isPath n
  | .undervoltTrip n => isPath n
  | .turnOnTimeout n => isPath n
  | .ccReturn n => isPath n
  | .psRdyEop n => isPath n
  | .coolDownEnd n => isPath n
  | .tripCountReset n => isPath n
  | .dischargeDone n => isPath n
  | .dischargeTimeout n => isPath n
  | .pmbusInit n => isPath n
  | .pmbusTransactionDone _ e => e.seen.all BusTxn.wf && e.res.wf
  | .pmbusBusStuck _ => true
  | .pmbusClockStretchTimeout _ => true
  | .pmbusPoll _ => true
  | .pmbusAlert _ => true
  | .feedAbsent _ => true
  | .feedQualifyStart _ => true
  | .feedQualified _ => true
  | .feedWarning _ => true
  | .feedWarningClear _ => true
  | .feedOvervolt _ => true
  | .feedOvReturn _ => true
  | .feedReverseOff _ => true
  | .feedForwardReenable _ => true
  | .feedOvercurrent _ => true
  | .feedOvercurrentShedStep _ => true
  | .feedOvercurrentCleared _ => true
  | .restoreClassStep _ => true
  | .allocRecompute => true
  | .shedPlanRefresh => true
  | .pendingIncreaseRelease => true
  | .committedOverBudget => true
  | .hbEdge => true
  | .hbOutWatchdog => true
  | .partnerLost _ => true
  | .liveWord st seq => decide (st < 16) && below 8 seq
  | .claimResample => true
  | .claimWon => true
  | .deferralEnd => true
  | .partnerResetPulseEnd => true
  | .takeoverPsxActive => true
  | .pairSelfTestDone _ => true
  | .bootWaitExpiry => true
  | .fullSyncDone => true
  | .ladleUp => true
  | .ladleDown => true
  | .digestSend => true
  | .digestFrame _ => true
  | .slowFrame items => items.all SlowItem.wf
  | .mirrorFrame items => items.all MirrorItem.wf
  | .syncFrame items => items.all SlowItem.wf
  | .mirrorStall => true
  | .handoverQuietPoint => true
  | .handoverWaitExpiry => true
  | .handoverRelease => true
  | .handoverFrame _ => true
  | .handoverGateRelease _ => true
  | .rejoinTimerExpiry => true
  | .handoverRetry => true
  | .blockLock k => isLink k.link && k.heads.all (fun h => decide (h < 4))
  | .tsExchangeDone l ts => isLink l && ts.wf
  | .linkCheckDone l _ _ => isLink l
  | .lockLost l w => isLink l && w.heads.all (fun h => decide (h < 4))
  | .retrainWindowExpiry l => isLink l
  | .linkWordSend l => isLink l
  | .frameReceived l lseq f _ _ => isLink l && below 8 lseq && f.wf
  | .ackWord l lseq => isLink l && below 8 lseq
  | .nakWord l lseq => isLink l && below 8 lseq
  | .replayWord l lseq => isLink l && below 8 lseq
  | .abortWord l vc credits => isLink l && isLink vc && below 16 credits
  | .creditWord l vc total => isLink l && isLink vc && below 16 total
  | .retrainWord l => isLink l
  | .replayTimerExpiry l => isLink l
  | .hello l h => isLink l && h.wf
  | .lsa l a => isLink l && a.wf
  | .lsaRefresh => true
  | .lsaPurge => true
  | .linkUsable l => isLink l
  | .nodeIdClaimSettle => true
  | .routeComputeDone => true
  | .creditStallExpiry l vc => isLink l && isLink vc
  | .sleepWord l _ => isLink l
  | .wakePatternSend l => isLink l
  | .wakeSendTimeout l => isLink l
  | .wakeEnergy l => isLink l
  | .wakePatternSeen l => isLink l
  | .wakeProbeTimeout l => isLink l
  | .timeReqSend => true
  | .timeReq l seq => isLink l && below 8 seq
  | .timeResp l seq value => isLink l && below 8 seq && below 32 value
  | .timeRxstamp l seq value => isLink l && below 8 seq && below 32 value
  | .timeHigh l seq value => isLink l && below 8 seq && below 32 value
  | .holdoverTimeout => true
  | .holdoverLimit => true
  | .tsyncInEdge => true
  | .pulseMissing => true
  | .tsyncOutRise => true
  | .tsyncOutFall => true
  | .detectorFire src code _ => decide (src < 448) && below 16 code
  | .captureRelease => true
  | .coalescedStore _ => true
  | .eventPipeIn _ => true
  | .eventPipeAck _ => true
  | .fabForwardSend => true
  | .eventsFrame src seq recs =>
    between 1 240 src && below 16 seq && between 1 32 recs.length && recs.all (fun r => r.length == 32)
  | .mergeHoldExpiry => true
  | .journalFrame src seq recs =>
    between 1 240 src && below 16 seq && between 1 16 recs.length && recs.all (fun r => r.length == 64)
  | .journalRecordWrite _ => true
  | .droppedReport => true
  | .vddnvFall => true
  | .userLineWrite => true
  | .ffSlotZeroing => true
  | .journalScan => true
  | .dozeEnter => true
  | .dozeWake failed => failed.all (fun b => decide (b < 16))
  | .hibernateEnter => true
  | .hibernateWake _ => true
  | .wakeRailsValid failed => failed.all (fun b => decide (b < 16))
  | .wakeRailFail _ => true
  | .regenRetry => true
  | .bankRestoreFromPartner bank _ => decide (bank < 16)
  | .aonTimerWake => true
  | .gpioEdge n _ => decide (n < 16)
  | .xtalFail => true
  | .xtalRestart _ => true
  | .xtalStop => true
  | .frefLost => true
  | .railOutOfWindow _ _ _ => true
  | .vaonLoss => true
  | .resetNLow => true
  | .resetNRelease straps _ => decide (straps < 16)
  | .powerUp straps _ => decide (straps < 16)
  | .firmwareDone => true
  | .firmwareWatchdog => true
  | .deadFeedStart _ => true
  | .deadFeedRegen _ => true
  | .thermalWarning _ _ => true
  | .thermalShutdown _ => true
  | .thermalRecovery _ => true
  | .proxyL1Idle p _ => isPort p
  | .upU1U2Idle _ _ _ => true
  | .timeStatusWord l seq root stratum flags =>
    isLink l && below 8 seq && below 8 root && below 8 stratum && below 8 flags
  | .tkoInEdge _ => true
  | .hubSetFeature _ _ _ => true
  | .hubSetAddress _ _ addr => below 7 addr
  | .railReturned _ _ => true
  | .deadFeedStop => true
  | .hardResetCompleteExpiry n => isPath n
  | .watchdogRestart => true
  | .pairWakeDetectTimeout => true
  | .bankRestoreTimeout => true
  | .mgmtResetDone _ => true
  | .suspendDrainTimeout p => isPort p
  | .frefRestored => true
  | .sinkPathIdealDiode _ _ => true

end Sys2Proof
end

