-- ==== Sys2Proof/Safety.lean ====
section
/-!
DEFINITION. Safety.lean: the terms in which claims about the block are made: what a command does, which units it leaves as
they are, the shape of the state, and a state that holds together.
-/

namespace Sys2Proof.Machine

/-! ### What a command does -/

/-- The command is executed and answers a next state: `t`, with the queue as it stands in `s`. -/
def Ends (i : Instr) (s t : State) : Prop := exec i s = .next { t with pending := s.pending }

/-- The command is executed and answers a next state of which `P` holds. -/
def Completes (i : Instr) (s : State) (P : State → Prop) : Prop := ∃ t, exec i s = .next t ∧ P t

/-! ### Units that a command leaves as they are -/

/-- The hub functions' ports: physical and virtual ports, SuperSpeed engines, the buffer plan. -/
def SameHub (s t : State) : Prop :=
  t.ports = s.ports ∧ t.spes = s.spes ∧ t.vpA = s.vpA ∧ t.vpB = s.vpB ∧ t.plan = s.plan

/-- Both upstreams. -/
def SameUps (s t : State) : Prop := t.upA = s.upA ∧ t.upB = s.upB

/-- PDEs, power paths, converters and the PMBus segments. -/
def SamePaths (s t : State) : Prop :=
  t.pdes = s.pdes ∧ t.ppcs = s.ppcs ∧ t.convs = s.convs ∧ t.segA = s.segA ∧ t.segB = s.segB

/-- Feeds and budget. -/
def SameBudget (s t : State) : Prop := t.feedA = s.feedA ∧ t.feedB = s.feedB ∧ t.pba = s.pba

/-- The Crock and the Sieve's host channels. -/
def SameStore (s t : State) : Prop := t.crock = s.crock ∧ t.sieve = s.sieve

/-- All of these: the ports and the plan, the power paths, feeds and budget, the Crock and the Sieve. -/
structure SameChip (s t : State) : Prop where
  hub : SameHub s t
  paths : SamePaths s t
  budget : SameBudget s t
  store : SameStore s t

/-! ### A PD message that is heard -/

/-- A PDE that handles PD traffic receives a message that it has not yet received (R141). -/
def Hears (s : State) (h : PdHdr) : Prop :=
  h.port ≠ 0 ∧ (s.pde h.port).live = true ∧ (s.pde h.port).rxId ≠ some h.id

/-- What every such message does before its own effect: GoodCRC, the stored MessageID, the end of the message that waits to
be sent, and of NoResponseTimer (R141, R157). -/
def heard (s : State) (h : PdHdr) : State :=
  (stopTimer (s.modPde h.port (fun d => { d with goodCrc := some h.id })) h.port .noResponse).modPde h.port (fun d =>
    { d with rxId := some h.id, talked := true, txNext := [] })

/-! ### A command that the MPC starts -/

/-- The command is next on its transport and passes the checks that come before its own conditions (R342, R345, R350,
R351, R357, R437). -/
def Admits (s : State) (c : Cmd) (op : Nat) (priv : Bool) (foreign : State → Cmd → Bool) : Prop :=
  c.opcode = op ∧ heldBack s c = false ∧ barred op priv foreign c s = none

/-! ### The shape of the state -/

/-- As many ports, engines, paths, converters, links and channels as the chip has (R9, R22, R130, R167, R168, R249, R333). -/
def Shape (s : State) : Prop :=
  s.ports.length = 32 ∧ s.spes.length = 8 ∧ s.vpA.length = 8 ∧ s.vpB.length = 8 ∧ s.pdes.length = 34 ∧
  s.ppcs.length = 34 ∧ s.convs.length = 34 ∧ s.fab.links.length = 4 ∧ s.sieve.length = 8

/-- A queue within its bounds: the records it holds, and its open coalescing entries (R302, R305, R320). -/
def Fits (cap : Nat) (q : Queue) : Prop := q.recs.length ≤ cap ∧ q.coal.length ≤ 64

/-- A state that holds together: every list as long as the chip has parts, the Crock in canonical form inside its 4 MiB
(R311), the capture stage (R299), the queues (R302, R320) and the AON buffer (R421) within what they hold. -/
structure Sound (s : State) : Prop where
  shape : Shape s
  cells : Memory.wf s.crock.mem = true
  capture : s.ev.capture.length ≤ 64
  queueA : Fits 1024 s.ev.qa
  queueB : Fits 1024 s.ev.qb
  sideband : Fits 1024 s.ev.qsb
  forward : Fits 1024 s.ev.qfab
  journal : Fits 256 s.ev.qj
  buffer : s.sys.aonBuf.length ≤ 16

/-- A result that is a next state, which holds together. -/
def Keeps (s : State) (r : Res) : Prop := ∃ t, r = leaves s t ∧ Sound t

/-- Every command that waits has operands in their ranges. -/
def WaitsWellFormed (s : State) : Prop := ∀ c ∈ s.pending, Instr.wf c = true

/-! ### Commands that only read -/

/-- The commands of the reference that only read, as packet `c` carries them (R361, R383). -/
def readingCommands (c : Cmd) : List Instr :=
  [.nop c, .identify c, .sysStatus c, .portStatus c, .planGet c, .idmapGet c, .cacheRead c, .pdStatus c, .pdCapsRead c,
   .pdSettingsGet c, .ppcSettingsGet c, .converterStatus c, .feedSettingsGet c, .pbaGlobalGet c, .pbaPortGet c,
   .budgetStatus c, .pairStatus c, .pairSettingsGet c, .fabricSettingsGet c, .nodeList c, .eventFetchPeek c,
   .queueStatus c]
  ++ [.eventRouteGet c, .eventSettingsGet c, .timeStatus c, .timeSettingsGet c, .sofRead c, .crockStatus c, .crockRead c,
   .journalRead c, .sieveGet c, .sieveStatus c, .profileGet c, .clStatus c, .fwStatus c, .nonceRead c, .keyStatus c,
   .phyTuneGet c]

end Sys2Proof.Machine
end

