-- ==== Sys2Proof/Certificates/Slice0/Obligations.lean ====
section
/-!
DEFINITION. Obligations.lean: the statements about the block, for the provers. Where a clause says that a command `Ends` in a
state, the right-hand side is the whole next state: what it does not change there, the command leaves unchanged.
-/

open Sys2Proof Sys2Proof.Machine

/-- Requests to the hub functions that only answer, and the change and error bits they clear (R42, R56, R90, R95).
`answer` puts the answer on the upstream's bus; `onPort` answers STALL to a request the function cannot serve. -/
def Obligations.HubReadingRequests : Prop :=
  (∀ s u n, configured (s.up u) .usb2 = true → hasPort .usb2 n = true →
    Ends (.getPortStatus u .usb2 n) s
      (answer s u (.data true (leBytes 2 (portStatus s u n) ++ leBytes 2 (portChange ((s.up u).view n)))))) ∧
  (∀ s u n, configured (s.up u) .ss = true → hasPort .ss n = true →
    Ends (.getPortStatus u .ss n) s
      (answer s u (.data true (leBytes 2 (ssStatus s u n) ++ leBytes 2 (ssChange ((s.up u).ssView n)))))) ∧
  (∀ s u fn n, fn ≠ .mgmt → (s.up u).has fn = true → configured (s.up u) fn = false ∨ hasPort fn n = false →
    Ends (.getPortStatus u fn n) s (answer s u .stall)) ∧
  (∀ s u n, Ends (.setPortFeaturePortIndicator u n) s (answer s u .stall)) ∧
  (∀ s u n c, configured (s.up u) .usb2 = true → hasPort .usb2 n = true → hasChange .usb2 c = true →
    Ends (.clearPortFeatureC u .usb2 n c) s ((answer s u .ack).modView u n (clearChange c))) ∧
  (∀ s u n c, configured (s.up u) .ss = true → hasPort .ss n = true → hasChange .ss c = true →
    Ends (.clearPortFeatureC u .ss n c) s ((answer s u .ack).modSsView u n (clearSsChange c))) ∧
  (∀ s u n, configured (s.up u) .ss = true → hasPort .ss n = true → s.owns u n = true →
    Ends (.getPortErrorCount u n) s
      (answer (s.modSpe n (fun e => { e with errs := 0 })) u (.data true (leBytes 2 (s.spe n).errs)))) ∧
  (∀ s u n, configured (s.up u) .ss = true → hasPort .ss n = true → s.owns u n = false →
    Ends (.getPortErrorCount u n) s (answer s u (.data true [0, 0]))) ∧
  (∀ s u n wLength p ps, configured (s.up u) .usb2 = true → isPort n = true → s.psxOn = true → ttPorts s u n = p :: ps →
    Ends (.getTtState u n wLength) s (answer s u (.data true ((ttState (s.port p).tt).take wLength)))) ∧
  (∀ s u n wLength, configured (s.up u) .usb2 = true → isPort n = true → s.psxOn = true → ttPorts s u n = [] →
    Ends (.getTtState u n wLength) s (answer s u (.data true ((ttState {}).take wLength)))) ∧
  (∀ s u wLength, configured (s.up u) .usb2 = true → s.psxOn = true →
    Ends (.getTtState u 33 wLength) s (answer s u .stall)) ∧
  (∀ s u n wLength, configured (s.up u) .usb2 = true → 34 ≤ n → n ≤ 41 → s.psxOn = true → (s.vport u n).shown = true →
    Ends (.getTtState u n wLength) s (answer s u (.data true ((vttState s (s.vport u n)).take wLength))).drawn) ∧
  (∀ s u fn kind index wLength d, (s.up u).has fn = true →
    fn ≠ .mgmt ∨ ((s.up u).mgEnabled = true ∧ (s.up u).mgResetting = false) →
    (kind = 0x29 ∨ kind = 0x2A → configured (s.up u) fn = true) → descOf s u fn kind index = some d →
    Ends (.hubGetDescriptor u fn kind index wLength) s (answer s u (.data true (d.take wLength))))

/-- Requests that change a port or a function as its owner asks, in each condition in which they have an effect of their own,
and what they do on a port that the upstream does not own, on port 33 and on a virtual port
(R31, R33, R42–R44, R52, R56, R57, R78, R81, R83–R85, R88, R89, R92, R94, R107, R509, R510). -/
def Obligations.HubSettingRequests : Prop :=
  (∀ s u n, configured (s.up u) .usb2 = true → isPort n = true → s.owns u n = true → (s.port n).id.eff = .transparent →
    (s.port n).dpe = .enabled ∨ (s.port n).dpe = .disabled ∨ (s.port n).dpe = .suspended ∨ (s.port n).dpe = .sleeping ∨
      (s.port n).dpe = .resuming →
    Ends (.setPortFeaturePortReset u .usb2 n) s (startWireReset (answer s u .ack) n)) ∧
  (∀ s u n, configured (s.up u) .usb2 = true → isPort n = true → s.owns u n = false →
    Ends (.setPortFeaturePortReset u .usb2 n) s ((answer s u .ack).modView u n (fun v => { v with cReset := true }))) ∧
  (∀ s u n, configured (s.up u) .usb2 = true → isPort n = true → s.owns u n = true → (s.port n).id.eff = .transparent →
    (s.port n).dpe = .unpowered ∨ (s.port n).dpe = .disconnected →
    Ends (.setPortFeaturePortReset u .usb2 n) s ((answer s u .ack).modView u n (fun v => { v with cReset := true }))) ∧
  (∀ s u, configured (s.up u) .usb2 = true →
    Ends (.setPortFeaturePortReset u .usb2 33) s (resetMgmt (answer s u .ack) u)) ∧
  (∀ s u n, configured (s.up u) .usb2 = true → isPort n = true → s.owns u n = true →
    (s.port n).dpe = .enabled ∧ ((s.port n).id.eff = .transparent ∨ (s.port n).px.drained = true) ∨
      (s.port n).dpe = .sleeping →
    Ends (.setPortFeaturePortSuspend u n) s (doSuspend (answer s u .ack) n)) ∧
  (∀ s u n, configured (s.up u) .usb2 = true → isPort n = true → s.owns u n = true → (s.port n).dpe = .enabled →
    (s.port n).id.eff = .translated → (s.port n).px.drained = false →
    Ends (.setPortFeaturePortSuspend u n) s (answer (s.modPort n (fun q => { q with suspWait := true })) u .none)) ∧
  (∀ s u n, configured (s.up u) .usb2 = true → isPort n = true → s.owns u n = true → (s.port n).dpe = .resuming →
    Ends (.setPortFeaturePortSuspend u n) s (answer s u .stall)) ∧
  (∀ s u n, configured (s.up u) .usb2 = true → isPort n = true → s.owns u n = false →
    Ends (.setPortFeaturePortSuspend u n) s (answer s u .ack) ∧
    Ends (.clearPortFeaturePortSuspend u n) s (answer s u .ack) ∧
    Ends (.clearPortFeaturePortEnable u n) s (answer s u .ack)) ∧
  (∀ s u, configured (s.up u) .usb2 = true →
    Ends (.setPortFeaturePortSuspend u 33) s ((answer s u .ack).modUp u (fun x => { x with mgSuspended := true })) ∧
    Ends (.clearPortFeaturePortSuspend u 33) s ((answer s u .ack).modUp u (fun x => { x with mgSuspended := false })) ∧
    Ends (.clearPortFeaturePortEnable u 33) s ((answer s u .ack).modUp u (fun x => { x with mgEnabled := false }))) ∧
  (∀ s u n, configured (s.up u) .usb2 = true → isPort n = true → s.owns u n = true →
    (s.port n).dpe = .suspended ∨ (s.port n).dpe = .sleeping →
    Ends (.clearPortFeaturePortSuspend u n) s (startResume (answer s u .ack) n
      (if (s.port n).dpe = .suspended then 0 else 1) true false none)) ∧
  (∀ s u n, configured (s.up u) .usb2 = true → isPort n = true → s.owns u n = true → (s.port n).dpe = .resuming →
    Ends (.clearPortFeaturePortSuspend u n) s (mergeResume (answer s u .ack) n true false)) ∧
  (∀ s u n, configured (s.up u) .usb2 = true → isPort n = true → s.owns u n = true →
    (s.port n).dpe ≠ .suspended → (s.port n).dpe ≠ .sleeping → (s.port n).dpe ≠ .resuming →
    Ends (.clearPortFeaturePortSuspend u n) s (answer s u .ack)) ∧
  (∀ s u n, configured (s.up u) .usb2 = true → isPort n = true → s.owns u n = true → (s.port n).id.eff = .transparent →
    (s.port n).dpe = .enabled ∨ (s.port n).dpe = .sleeping ∨ (s.port n).dpe = .suspended ∨ (s.port n).dpe = .resuming →
    Ends (.clearPortFeaturePortEnable u n) s (settleWire ((answer s u .ack).modPort n (fun q =>
      { q with dpe := .disabled, busSusp := false, resume := none, wire := .idle })) n)) ∧
  (∀ s u n, configured (s.up u) .usb2 = true → isPort n = true → s.owns u n = true → (s.port n).id.eff = .translated →
    (s.port n).id.st ≠ .vacant → (s.port n).id.st ≠ .filling →
    Ends (.clearPortFeaturePortEnable u n) s ((answer s u .ack).modPx (.phys n) (fun x =>
      { x.dropIn with viewDis := true, viewEn := false }))) ∧
  (∀ s u n, configured (s.up u) .usb2 = true → isPort n = true → s.owns u n = true →
    Ends (.setPortFeaturePortPower u .usb2 n) s (syncConn (unpark (ppcRequest
      (((answer s u .ack).modView u n (fun v => { v with power := true })).modPort n (fun q => { q with powerReq := true }))
      n true) u n) u n) ∧
    Ends (.clearPortFeaturePortPower u .usb2 n) s (syncConn (ppcRequest
      (((answer s u .ack).modView u n (fun v => { v with power := false })).modPort n (fun q => { q with powerReq := false }))
      n false) u n)) ∧
  (∀ s u n, configured (s.up u) .usb2 = true → isPort n = true → s.owns u n = false →
    Ends (.setPortFeaturePortPower u .usb2 n) s
      (syncConn (unpark ((answer s u .ack).modView u n (fun v => { v with power := true })) u n) u n) ∧
    Ends (.clearPortFeaturePortPower u .usb2 n) s
      (syncConn ((answer s u .ack).modView u n (fun v => { v with power := false })) u n)) ∧
  (∀ s u, configured (s.up u) .usb2 = true →
    Ends (.setPortFeaturePortPower u .usb2 33) s (answer s u .ack) ∧
    Ends (.clearPortFeaturePortPower u .usb2 33) s (answer s u .ack)) ∧
  (∀ s u n sel, configured (s.up u) .usb2 = true → isPort n = true → sel ≠ .other → allQuiet s u = true →
    s.owns u n = true →
    Ends (.setPortFeaturePortTest u n sel) s ((answer s u .ack).modPort n (fun q =>
      { q with testView := (wireConn q, dpeEnable q), dpe := .testing, wire := .test sel }))) ∧
  (∀ s u n sel, configured (s.up u) .usb2 = true → hasPort .usb2 n = true → 32 < n ∨ sel = .other ∨ allQuiet s u = false →
    Ends (.setPortFeaturePortTest u n sel) s (answer s u .stall)) ∧
  (∀ s u n addr ep, configured (s.up u) .usb2 = true → isPort n = true →
    Ends (.clearTtBuffer u n addr ep) s ((ttPorts s u n).foldl
      (fun s p => s.modPort p (fun q => { q with tt := clearTt addr ep q.tt })) (answer s u .ack)) ∧
    Ends (.resetTt u n) s ((ttPorts s u n).foldl
      (fun s p => s.modPort p (fun q => { q with tt := resetTt1 q.tt })) (answer s u .ack)) ∧
    Ends (.stopTt u n) s ((ttPorts s u n).foldl
      (fun s p => s.modPort p (fun q => { q with tt := { q.tt with stopped := true } })) (answer s u .ack))) ∧
  (∀ s u addr ep, configured (s.up u) .usb2 = true →
    Ends (.clearTtBuffer u 33 addr ep) s (answer s u .stall) ∧ Ends (.resetTt u 33) s (answer s u .stall) ∧
    Ends (.stopTt u 33) s (answer s u .stall)) ∧
  (∀ s u value, (s.up u).has .usb2 = true → value ≤ 1 →
    Ends (.hubSetConfiguration u .usb2 value) s (rechargeAll (raiseUp ((answer s u .ack).modUp u (fun x =>
      { clearViews x with hubCfg := value, hubAlt := 0, scTog := false })) u 3 (if value = 0 then 2 else 1) value) u)) ∧
  (∀ s u value, (s.up u).has .mgmt = true → (s.up u).mgEnabled = true → (s.up u).mgResetting = false → value ≤ 1 →
    Ends (.hubSetConfiguration u .mgmt value) s ((answer s u .ack).modUp u (fun x =>
      { x with mgCfg := value, evOffered := 0, evToggle := false, respToggle := false }))) ∧
  (∀ s u alt, (s.up u).has .usb2 = true → (s.up u).hubCfg ≠ 0 → alt = 0 ∨ (alt = 1 ∧ (s.up u).link = .hs) →
    Ends (.hubSetInterface u alt) s ((answer s u .ack).modUp u (fun x => { x with hubAlt := alt, scTog := false }))) ∧
  (∀ s u besl, (s.up u).has .usb2 = true → hubMayL1 s u = true →
    Ends (.hubLpmToken u besl) s
      (raiseUp ((answer s u .ack).modUp u (fun x => { x with bus := .l1, besl := besl % 16 })) u 1 2 (besl % 16))) ∧
  (∀ s u besl, (s.up u).has .usb2 = true → hubMayL1 s u = false → Ends (.hubLpmToken u besl) s (answer s u .nyet)) ∧
  (∀ s u on, (s.up u).has .usb2 = true →
    Ends (.hubSetFeature u .deviceRemoteWakeup on) s ((answer s u .ack).modUp u (fun x => { x with remoteWake := on }))) ∧
  (∀ s u addr, (s.up u).has .usb2 = true → addr < 128 →
    Ends (.hubSetAddress u .usb2 addr) s ((answer s u .ack).modUp u (fun x => { x with hubAddr := addr }))) ∧
  (∀ s u addr, (s.up u).has .mgmt = true → (s.up u).mgEnabled = true → (s.up u).mgResetting = false → addr < 128 →
    Ends (.hubSetAddress u .mgmt addr) s ((answer s u .ack).modUp u (fun x => { x with mgAddr := addr }))) ∧
  (∀ s u, (s.up u).mgResetting = true →
    Ends (.mgmtResetDone u) s ((s.modUp u (fun x =>
      { x with mgResetting := false, mgEnabled := true, defaultPort := 33 })).modView u 33 (fun v => { v with cReset := true })))

/-- Requests to the SuperSpeed hub function and its ports, on ports that the upstream owns and on ports that it does not
(R31, R33, R43, R85, R92, R94, R95, R99). -/
def Obligations.SuperSpeedPortRequests : Prop :=
  (∀ s u n, configured (s.up u) .ss = true → hasPort .ss n = true → s.owns u n = true → (s.spe n).st = .u0 →
    Ends (.setPortFeaturePortReset u .ss n) s (setLink (answer s u .ack) n .hotReset true)) ∧
  (∀ s u n, configured (s.up u) .ss = true → hasPort .ss n = true → s.owns u n = false ∨ (s.spe n).st ≠ .u0 →
    Ends (.setPortFeaturePortReset u .ss n) s ((answer s u .ack).modSsView u n (fun v => { v with cReset := true }))) ∧
  (∀ s u n st, configured (s.up u) .ss = true → hasPort .ss n = true → s.owns u n = true →
    (s.port n).id.eff = .transparent → (s.spe n).st = .u0 → st = .u1 ∨ st = .u2 ∨ st = .u3 →
    Ends (.setPortFeaturePortLinkState u n st) s (setLink (answer s u .ack) n st true)) ∧
  (∀ s u n, configured (s.up u) .ss = true → hasPort .ss n = true → s.owns u n = true →
    (s.port n).id.eff = .transparent → (s.spe n).exit = none → (s.spe n).st = .u1 ∨ (s.spe n).st = .u2 →
    Ends (.setPortFeaturePortLinkState u n .u0) s (setLink (answer s u .ack) n .recovery true)) ∧
  (∀ s u n, configured (s.up u) .ss = true → hasPort .ss n = true → s.owns u n = true →
    (s.port n).id.eff = .transparent → (s.spe n).exit = none → (s.spe n).st = .u3 →
    Ends (.setPortFeaturePortLinkState u n .u0) s (setLink ((answer s u .ack).modSpe n (fun e =>
      { e with exit := some { left := 3, host := true, start := s.ticks, stamp := s.now } })) n .recovery true)) ∧
  (∀ s u n, configured (s.up u) .ss = true → hasPort .ss n = true → s.owns u n = true →
    (s.port n).id.eff = .transparent → (s.spe n).st ≠ .ssInactive → (s.spe n).st ≠ .compliance → (s.spe n).st ≠ .loopback →
    Ends (.setPortFeaturePortLinkState u n .ssDisabled) s (setLink (answer s u .ack) n .ssDisabled true)) ∧
  (∀ s u n, configured (s.up u) .ss = true → hasPort .ss n = true → s.owns u n = true →
    (s.port n).id.eff = .transparent → (s.spe n).st = .ssDisabled →
    Ends (.setPortFeaturePortLinkState u n .rxDetect) s (setLink (answer s u .ack) n .rxDetect true)) ∧
  (∀ s u n, configured (s.up u) .ss = true → hasPort .ss n = true → s.owns u n = true →
    (s.port n).id.eff = .translated → Ends (.setPortFeaturePortLinkState u n .rxDetect) s (answer s u .stall)) ∧
  (∀ s u n, configured (s.up u) .ss = true → hasPort .ss n = true → s.owns u n = true →
    (s.spe n).st = .ssInactive ∨ (s.spe n).st = .compliance ∨ (s.spe n).st = .loopback →
    Ends (.setPortFeatureBhPortReset u n) s ((answer s u .ack).modSpe n (fun e => { e with warm := true }))) ∧
  (∀ s u n value, configured (s.up u) .ss = true → hasPort .ss n = true → s.owns u n = true →
    Ends (.setPortFeaturePortU1Timeout u n value) s
      ((answer s u .ack).modSpe n (fun e => { e with u1To := uTimeout value })) ∧
    Ends (.setPortFeaturePortU2Timeout u n value) s
      ((answer s u .ack).modSpe n (fun e => { e with u2To := uTimeout value }))) ∧
  (∀ s u n st value, configured (s.up u) .ss = true → hasPort .ss n = true → s.owns u n = false →
    Ends (.setPortFeaturePortLinkState u n st) s (answer s u .ack) ∧
    Ends (.setPortFeatureBhPortReset u n) s (answer s u .ack) ∧
    Ends (.setPortFeaturePortU1Timeout u n value) s (answer s u .ack) ∧
    Ends (.setPortFeaturePortU2Timeout u n value) s (answer s u .ack)) ∧
  (∀ s u n mask, configured (s.up u) .ss = true → hasPort .ss n = true →
    Ends (.setPortFeatureRemoteWakeMask u n mask) s
      ((answer s u .ack).modSsView u n (fun v => { v with wakeMask := mask % 8 }))) ∧
  (∀ s u n, configured (s.up u) .ss = true → hasPort .ss n = true → s.owns u n = true →
    Ends (.setPortFeaturePortPower u .ss n) s (syncSs (ppcRequest (((answer s u .ack).modSsView u n (fun v =>
      { v with power := true })).modPort n (fun q => { q with powerReq := true })) n true) u n) ∧
    Ends (.clearPortFeaturePortPower u .ss n) s (syncSs (ppcRequest (((answer s u .ack).modSsView u n (fun v =>
      { v with power := false })).modPort n (fun q => { q with powerReq := false })) n false) u n)) ∧
  (∀ s u n, configured (s.up u) .ss = true → hasPort .ss n = true → s.owns u n = false →
    Ends (.setPortFeaturePortPower u .ss n) s (syncSs ((answer s u .ack).modSsView u n (fun v => { v with power := true })) u n) ∧
    Ends (.clearPortFeaturePortPower u .ss n) s
      (syncSs ((answer s u .ack).modSsView u n (fun v => { v with power := false })) u n)) ∧
  (∀ s u value, (s.up u).has .ss = true → value ≤ 1 →
    Ends (.hubSetConfiguration u .ss value) s
      (raiseUp ((answer s u .ack).modUp u (fun x => { clearSsViews x with ssCfg := value })) u 3
        (if value = 0 then 2 else 1) value)) ∧
  (∀ s u on, (s.up u).has .ss = true →
    Ends (.hubSetFeature u .u1Enable on) s ((answer s u .ack).modUp u (fun x => { x with u1En := on })) ∧
    Ends (.hubSetFeature u .u2Enable on) s ((answer s u .ack).modUp u (fun x => { x with u2En := on })) ∧
    Ends (.hubSetFeature u .functionSuspendWake on) s ((answer s u .ack).modUp u (fun x => { x with ssWake := on }))) ∧
  (∀ s u addr, (s.up u).has .ss = true → addr < 128 →
    Ends (.hubSetAddress u .ss addr) s ((answer s u .ack).modUp u (fun x => { x with ssAddr := addr }))) ∧
  uTimeout 0x7F = 0x7F ∧ uTimeout 0x80 = 0x7F ∧ uTimeout 0xFE = 0x7F ∧ uTimeout 0xFF = 0xFF

/-- The repeat path routes a token and the packets of its transaction to the one port that holds its address, and SOFs to
every port of the upstream's speed (R45, R49); the status-change endpoint answers the interrupt poll (R35, R91); addresses
are learned from SET_ADDRESS (R46); SOFs set the microframe timer (R58, R292); frames start on FS and LS ports (R59, R60);
SuperSpeed packets go on by route, held for a link that is not in U0 (R51, R94). -/
def Obligations.HighSpeedPathAndFrames : Prop :=
  (∀ s u pid addr ep pkts p, pid ≠ .sof → tokenPort s u addr = some p →
      Ends (.hsToken u ⟨pid, pkts⟩ addr ep) s ((s.modPort p (fun q => { q with
        wire := .xfer (decide ((s.up u).link = .fs ∧ q.id.speed = .ls)) pid addr ep (pkts.filter (fun k => !k.up)) })).modUp u
          (fun x => { x with fwd := (pkts.filter (·.up)).map (·.bs) }))) ∧
  (∀ s u addr ep pkts, Ends (.hsToken u ⟨.sof, pkts⟩ addr ep) s (ports32.foldl (fun s p => sofPort s u p) s)) ∧
  (∀ s u pkts, tokenPort s u (s.up u).hubAddr = none → (s.up u).has .usb2 = true → (s.up u).bus = .active →
      (s.up u).hubCfg ≠ 0 → (changeMap (s.up u)).all (· == 0) = true →
      Ends (.hsToken u ⟨.inn, pkts⟩ (s.up u).hubAddr 1) s (answerD s u .nak)) ∧
  (∀ s u pkts, tokenPort s u (s.up u).hubAddr = none → (s.up u).has .usb2 = true → (s.up u).bus = .active →
      (s.up u).hubCfg ≠ 0 → (changeMap (s.up u)).all (· == 0) = false →
      Ends (.hsToken u ⟨.inn, pkts⟩ (s.up u).hubAddr 1) s
        ((answerD s u (.data (s.up u).scTog (changeMap (s.up u)))).modUp u (fun x =>
          { x with scTog := if hostAcked pkts then !x.scTog else x.scTog }))) ∧
  (∀ s u pid addr ep pkts, pid ≠ .sof → tokenPort s u addr = none → addr ≠ (s.up u).hubAddr → addr ≠ (s.up u).mgAddr →
      Ends (.hsToken u ⟨pid, pkts⟩ addr ep) s s) ∧
  (∀ s p addr u, (s.port p).id.eff = .transparent → ownerUp (s.port p) = some u → addr < 128 →
      ∃ s1 : State, s1 = (clearDup s u p addr).modPort p (fun q => { q with addr := addr }) ∧
      Ends (.addressLearn p addr) s
        (if (s1.up u).defaultPort = p then s1.modUp u (fun x => { x with defaultPort := 0 }) else s1)) ∧
  (∀ s u frame uframe, Completes (.sofReceived u frame uframe) s (fun t =>
      (t.up u).sofTime = s.now ∧ (t.up u).sofAt = s.ticks ∧ (t.up u).frame = frame % 2048 ∧
      (t.up u).uframe = (if (s.up u).link = .hs then uframe % 8 else 0))) ∧
  (∀ s u, Ends (.frameStart u) s (ports32.foldl (fun s p => framePort s u p) s)) ∧
  (∀ s u p, s.owns u p = true → (s.port p).dpe = .enabled → (s.port p).busSusp = false → s.sys.clockFallback = false →
      (s.port p).id.eff = .transparent → (s.port p).id.speed = .fs ∨ (s.port p).id.speed = .ls →
      framePort s (some u) p = s.modPort p (fun q =>
        { q with tt := { q.tt with frame := (s.up u).frame }
                 wire := if (s.port p).id.speed = .fs then .sof (s.up u).frame else .keepAlive })) ∧
  (∀ s u n bs, s.chipActive = true → (s.up u).has .ss = true → hasPort .ss n = true → s.owns u n = true →
      (s.spe n).st = .u0 →
      Ends (.ssHeaderPacket u true n bs) s (s.modSpe n (ssDown (s.up u).ssGen2 bs))) ∧
  (∀ s u n bs, s.chipActive = true → (s.up u).has .ss = true → hasPort .ss n = true → s.owns u n = true →
      (s.spe n).st = .u1 ∨ (s.spe n).st = .u2 →
      Ends (.ssHeaderPacket u true n bs) s
        (setLink (s.modSpe n (fun e => { e with downBuf := ssHold e.downBuf bs })) n .recovery false)) ∧
  (∀ s u n bs, s.chipActive = true → (s.up u).has .ss = true → hasPort .ss n = true → s.owns u n = true →
      (s.up u).ssLink = .u0 →
      Ends (.ssHeaderPacket u false n bs) s (s.modUp u (fun x => { x with ssFwd := bs })))

/-- A waiting plan takes effect when the regions that change are empty, or times out BUSY with the old plan in force (R68, R369);
what waited for the plan then goes on. The scrubber counts what it corrects and handles an uncorrectable word by the region
that holds it (R70). -/
def Obligations.PlanAndScrubber : Prop :=
  (∀ s rs w cl, s.plan.next = some (rs, w, cl) → planDrained s rs = true →
      Ends .planApply s (planOver s (finishWait (applyPlan s rs) w (.ok (planUse rs) cl)))) ∧
  (∀ s, s.plan.next = none → Ends .planApply s s ∧ Ends .planApplyTimeout s s) ∧
  (∀ s rs w cl, s.plan.next = some (rs, w, cl) → planDrained s rs = false → Ends .planApply s s) ∧
  (∀ s rs w cl, s.plan.next = some (rs, w, cl) → Ends .planApplyTimeout s
      (planOver s (finishWait { s with plan := { s.plan with next := none } } w (.fail stBusy 2 10)))) ∧
  (∀ s n bad, Ends (.scrubPass n bad) s
      (bad.foldl eccBad { s with plan := { s.plan with eccSingle := min 0xFFFFFFFF (s.plan.eccSingle + n) } })) ∧
  (∀ s p up ep, ∃ s1 : State, s1 = { s with plan := { s.plan with eccDouble := min 0xFFFFFFFF (s.plan.eccDouble + 1) } } ∧
      eccBad s ⟨1, p, up, ep⟩ = s1.modPort p (fun q => { q with tt := eccNp ep q.tt }) ∧
      eccBad s ⟨2, p, up, ep⟩ = s1.modPort p (fun q => { q with tt := eccPer ep q.tt }) ∧
      eccBad s ⟨4, p, up, ep⟩ = s1.modPort p (fun q => { q with cacheOk := false }) ∧
      eccBad s ⟨6, p, up, ep⟩ = raise { s1 with pair := eccMirror ⟨6, p, up, ep⟩ s1.pair } 383 7 0)

/-- Connect, chirp, reset, suspend, L1, resume and errors of a USB 2.0 port state machine
(R71–R74, R77–R80, R83–R88, R123, R446, R510). -/
def Obligations.PortConnectResetSuspend : Prop :=
  (∀ s p dp, (s.port p).dpe = .disconnected → (s.port p).chargeNow ≠ 1 → effMode s p = .transparent →
      (s.port p).id.mode = .transparent → ∃ s1 s2 : State, s1 = setEff (s.modPort p (fun q => { q with
          dpe := .disabled, sofOn := true, id := { q.id with speed := if dp then .fs else .ls, fallback := 0 } })) p .transparent ∧
        s2 = raisePort (wakeForPort s1 p).2 p 0 1 (connectData ((wakeForPort s1 p).2.port p) (wakeForPort s1 p).1) ∧
        Ends (.connect p dp) s (wakeDoze (syncPort s2 p))) ∧
  (∀ s p dp, (s.port p).dpe = .disconnected → (s.port p).chargeNow ≠ 1 → effMode s p = .translated → ∃ s1 s2 : State,
        s1 = setEff (s.modPort p (fun q => { q with
          dpe := .disabled, sofOn := true, id := { q.id with speed := if dp then .fs else .ls, fallback := 0 } })) p .translated ∧
        s2 = raisePort (wakeForPort s1 p).2 p 0 1 (connectData ((wakeForPort s1 p).2.port p) (wakeForPort s1 p).1) ∧
        Ends (.connect p dp) s (wakeDoze (syncPort (startFill s2 p) p))) ∧
  (∀ s p, (s.port p).dpe ≠ .unpowered → (s.port p).dpe ≠ .disconnected → (s.port p).dpe ≠ .testing → 8 < p →
      Ends (.disconnect p) s (wakeDoze (loseDevice (raisePort (wakeForPort s p).2 p 0 2
        (connectData ((wakeForPort s p).2.port p) (wakeForPort s p).1)) p .disconnected))) ∧
  (∀ s p, (s.port p).dpe = .unpowered ∨ (s.port p).dpe = .disconnected ∨ (s.port p).dpe = .testing →
      Ends (.disconnect p) s s) ∧
  (∀ s p, (s.port p).dpe = .resetting →
      Ends (.deviceChirp p) s (s.modPort p (fun q => { q with chirp := if acceptsChirp s p then 1 else 3 }))) ∧
  (∀ s p, (s.port p).dpe = .resetting → (s.port p).chirp = 1 →
      Ends (.deviceChirpEnd p true) s (s.modPort p (fun q => { q with chirp := 2, wire := .chirp })) ∧
      Ends (.deviceChirpEnd p false) s s) ∧
  (∀ s p u idle, (s.port p).dpe = .resetting → (s.port p).chirp = 2 → (s.port p).fill = none → (s.port p).cmdReset = false →
      ownerUp (s.port p) = some u → ∃ s1 : State, s1 = settleWire (s.modPort p (fun q => { q with
          dpe := .enabled, chirp := 0, wire := .idle, id := { q.id with speed := .hs } })) p ∧
        Ends (.resetEnd p idle) s (syncPort (markSusp ((setChange s1 p (fun v => { v with cReset := true })).modUp u
          (fun x => { x with defaultPort := p })) p) p)) ∧
  (∀ s p b, (s.port p).chargeNow = 2 → Ends (.cdpVdpSrc p b) s (s.modPort p (fun q => { q with vdmSrc := b }))) ∧
  (∀ s u, Ends (.upstreamSuspend u) s (ports32.foldl
      (fun s p => if s.owns u p ∧ (s.port p).dpe = .enabled then s.modPort p (fun q => { q with busSusp := true }) else s)
      (raiseUp (s.modUp u (fun x =>
        { x with bus := .suspended, mgSuspended := true, sofLocked := false, sofGood := 0 })) u 1 1 0))) ∧
  (∀ s p besl, (s.port p).dpe = .enabled → besl < 16 →
      Ends (.deviceLpmAck p besl) s ((sleepEnter s p 2).modPort p (fun q => { q with dpe := .sleeping, besl := besl }))) ∧
  (∀ s u n besl, s.owns u n = true → (s.port n).id.eff = .translated → (s.port n).dpe = .enabled → isPort n = true →
      (s.port n).id.st = .presented ∨ (s.port n).id.st = .live → (s.port n).px.heldBytes = 0 →
      (s.port n).px.ctrl.active = false → viewSilent (s.px (locOf u n)) = false →
      Ends (.proxyLpmToken u n besl .ack) s (answer ((enterL1 (s.modPort n (fun q => { q with wire := .lpm (besl % 32) }))
        n besl).modPort n (fun q => { q with ownerL1 := some (besl % 32) })) u .ack)) ∧
  (∀ s u n besl d, viewSilent (s.px (locOf u n)) = true → Ends (.proxyLpmToken u n besl d) s (answer s u .none)) ∧
  (∀ s p left, (s.port p).dpe ≠ .resuming → leftOf (s.port p) = some left → wakeBlocked s p = false →
      Ends (.deviceWake p) s (wakeDoze (startDeviceWake s p left))) ∧
  (∀ s p left, (s.port p).dpe ≠ .resuming → leftOf (s.port p) = some left → wakeBlocked s p = true →
      Ends (.deviceWake p) s (raisePort s p 6 5 (sleepData 0 false left (s.port p).id.owner.code 0 0))) ∧
  (∀ s p, (s.port p).dpe = .resuming → Ends (.deviceWake p) s (mergeResume s p false false)) ∧
  (∀ s u, (s.up u).bus = .suspended ∨ (s.up u).bus = .l1 → (s.up u).kDrive = none →
      Ends (.hostK u) s (wakeDoze (resumePorts (raiseUp (s.modUp u (fun x =>
        { x with bus := .resuming, hostK := true })) u 2 1 0) u ((s.up u).bus == .l1)))) ∧
  (∀ s u p t, (s.up u).kDrive = some (p, t) → Ends (.upstreamWakeDriveEnd u false) s
      (raiseUp (s.modUp u (fun x => { x with kDrive := none })) u 2 3 p)) ∧
  (∀ s u p t, (s.up u).kDrive = some (p, t) → p ≤ 32 → ∃ s1 : State,
      s1 = (s.modUp u (fun x => { x with kDrive := none })).modUp u (fun x => { x with bus := .resuming, hostK := true }) ∧
      Ends (.upstreamWakeDriveEnd u true) s (resumePorts (raiseUp s1 u 2 2 (p + at_ 32 (uns 32
        ((s.ticks : Int) - ((s.port p).resume.map (·.start)).getD s.ticks)))) u ((s.up u).bus == .l1))) ∧
  (∀ s p r, (s.port p).resume = some r → followsK s p r = false → Ends (.resumeKEnd p) s (finishResume s p)) ∧
  (∀ s p r, (s.port p).resume = some r → followsK s p r = true →
      Ends (.resumeKEnd p) s (s.modPort p (fun q => { q with resume := some { r with kOver := true } }))) ∧
  (∀ s u, (s.up u).bus = .resuming → Ends (.upstreamResumeEop u) s (ports32.foldl (eopPort u)
      (s.modUp u (fun x => { x with bus := .active, hostK := false, mgSuspended := false })))) ∧
  (∀ s u p r, s.owns u p = true → (s.port p).resume = some r → r.follows = true → eopPort u s p = finishResume s p) ∧
  (∀ s p, (s.port p).dpe = .enabled → (s.port p).id.eff = .transparent → ∃ r : Nat → State,
      r = (fun code => setChange ((raisePort s p 7 code 0).modPort p
        (fun q => { q with dpe := .disabled, busSusp := false })) p (fun v => { v with cEnable := true })) ∧
      Ends (.babble p) s (r 1) ∧ Ends (.lossOfActivity p) s (r 2) ∧ Ends (.portError p) s (r 3)) ∧
  (∀ s p, (s.port p).dpe = .enabled → (s.port p).id.eff = .translated → (s.port p).id.st = .presented ∨
      (s.port p).id.st = .live → s.pages 4 p 0 ≠ 0 → ∃ r : Nat → State,
      r = (fun code => startRefill ((raisePort s p 7 code 0).modPort p (fun q => { q with dpe := .disabled, busSusp := false }))
        p false 0) ∧
      Ends (.babble p) s (r 1) ∧ Ends (.lossOfActivity p) s (r 2) ∧ Ends (.portError p) s (r 3)) ∧
  (∀ s p u, (s.port p).suspWait = true → ownerUp (s.port p) = some u → Ends (.suspendDrainTimeout p) s
      (answer (s.modPort p (fun q => { q with suspWait := false })) u .stall)) ∧
  (∀ s p, (s.port p).suspWait = true → (s.port p).id.owner = .lent → Ends (.suspendDrainTimeout p) s
      (sendTun (s.modPort p (fun q => { q with suspWait := false })) (.phys p) 5 128 [1])) ∧
  (∀ s p, l1Ready s p = true → ∃ s1 : State,
      s1 = s.modPort p (fun q => { q with wire := .lpm (((s.port p).ownerL1).getD 0) }) ∧
      Ends (.proxyL1Idle p .ack) s ((enterL1 s1 p (((s.port p).ownerL1).getD 0)).modPort p (fun q =>
        { q with pxL1 := true })))

/-- The link states of R92 and their errors and timeouts (R94–R97, R447): engines 1–8 are the ports', 9 and 10 the upstreams'.
They act on the ACTIVE chip (R224). -/
def Obligations.SuperSpeedLinkStates : Prop :=
  (∀ s n, s.chipActive = true → 8 < n → s.sys.role ≠ 3 → linkOf s n = .rxDetect →
      Ends (.rxDetectProbe n true) s (setLinkN s n .polling false)) ∧
  (∀ s n, s.chipActive = true → n ≤ 8 → linkOf s n = .rxDetect → ((ssConnectMode s n).port n).id.eff = .transparent →
      Ends (.rxDetectProbe n true) s (setLinkN (ssConnectMode s n) n .polling false)) ∧
  (∀ s n, s.chipActive = true → linkOf s n = .rxDetect → Ends (.rxDetectProbe n false) s s) ∧
  (∀ s n g, s.chipActive = true → linkOf s n = .polling → 8 < n →
      Ends (.ssTrainingDone ⟨n, g⟩) s (setLinkN (setGen s n g) n .u0 false)) ∧
  (∀ s n g, s.chipActive = true → linkOf s n = .polling → n ≤ 8 → Ends (.ssTrainingDone ⟨n, g⟩) s
      (setLinkN ((setGen s n g).modSpe n (fun e => { e with fails := 0, firstLfps := false })) n .u0 false)) ∧
  (∀ s n g, s.chipActive = true → linkOf s n = .recovery → n ≤ 8 → (s.spe n).exit = none → Ends (.ssTrainingDone ⟨n, g⟩) s
      (releaseHeld (setLink (raise s (321 + (n - 1) * 4) 2 (s.spe n).errs) n .u0 false) n)) ∧
  (∀ s n, s.chipActive = true → linkOf s n = .polling → n ≤ 8 → (s.spe n).firstLfps = true →
      Ends (.pollingTimeout n true) s (setLink (s.modSpe n (fun e => { e with firstLfps := false })) n .compliance false)) ∧
  (∀ s n lfps, s.chipActive = true → linkOf s n = .polling → 8 < n →
      Ends (.pollingTimeout n lfps) s (setUpLink s (upOfSpe n) .rxDetect false)) ∧
  (∀ s n, s.chipActive = true → linkOf s n = .recovery ∨ linkOf s n = .hotReset → 8 < n → Ends (.recoveryTimeout n) s
      (raiseUp (setUpLink s (upOfSpe n) .ssInactive false) (upOfSpe n) 5 3 (s.up (upOfSpe n)).ssErrs)) ∧
  (∀ s n, s.chipActive = true → linkOf s n = .recovery ∨ linkOf s n = .hotReset → n ≤ 8 → (s.spe n).exit = none →
      Ends (.recoveryTimeout n) s (setLink s n .ssInactive false)) ∧
  (∀ s n, s.chipActive = true → n ≤ 8 → ∃ s1 s2 : State,
      s1 = s.modSpe n (fun e => { e with errs := min 65535 (e.errs + 1) }) ∧
      s2 = raise s1 (321 + (n - 1) * 4) 1 (s1.spe n).errs ∧
      Ends (.ssLinkError n) s (if linkOf s2 n = .u0 then setLinkN s2 n .recovery false else s2)) ∧
  (∀ s n, s.chipActive = true → 8 < n → ∃ s1 s2 : State,
      s1 = s.modUp (upOfSpe n) (fun x => { x with ssErrs := min 65535 (x.ssErrs + 1) }) ∧
      s2 = raiseUp s1 (upOfSpe n) 5 1 (s1.up (upOfSpe n)).ssErrs ∧
      Ends (.ssLinkError n) s (if linkOf s2 n = .u0 then setLinkN s2 n .recovery false else s2)) ∧
  (∀ s n, s.chipActive = true → linkOf s n = .u0 →
      (8 < n ∨ (s.spe n).u1To ≠ 0 → Ends (.lgoU1U2 n .u1) s (setLinkN s n .u1 false)) ∧
      (8 < n ∨ (s.spe n).u2To ≠ 0 → Ends (.lgoU1U2 n .u2) s (setLinkN s n .u2 false)) ∧
      (8 < n → Ends (.lgoU1U2 n .u3) s (setLinkN s n .u3 false))) ∧
  (∀ s n, s.chipActive = true → linkOf s n = .u0 → n ≤ 8 →
      ((s.spe n).u1To = 0 → Ends (.lgoU1U2 n .u1) s s) ∧ ((s.spe n).u2To = 0 → Ends (.lgoU1U2 n .u2) s s)) ∧
  (∀ s n, s.chipActive = true → linkOf s n = .u0 → n ≤ 8 →
      (1 ≤ (s.spe n).u1To → (s.spe n).u1To ≤ 0x7F → Ends (.u1U2IdleTimeout n false true) s (setLink s n .u1 false)) ∧
      (1 ≤ (s.spe n).u2To → (s.spe n).u2To ≤ 0x7F → Ends (.u1U2IdleTimeout n true true) s (setLink s n .u2 false))) ∧
  (∀ s n, s.chipActive = true → linkOf s n = .u1 ∨ linkOf s n = .u2 →
      Ends (.exitLfps n) s (setLinkN s n .recovery false)) ∧
  (∀ s n, s.chipActive = true → linkOf s n = .u3 → 8 < n →
      Ends (.exitLfps n) s (wakeDoze (setLinkN s n .recovery false))) ∧
  (∀ s p u, s.chipActive = true → p ≤ 8 → (s.spe p).exit = none → (s.spe p).st = .u3 → ownerUp (s.port p) = some u →
      (s.up u).ssLink = .u3 → (s.up u).ssWake = false → Ends (.lfpsWake p) s
        (raise s (322 + (p - 1) * 4) 5 (sleepData 0 false 3 (s.port p).id.owner.code 0 0))) ∧
  (∀ s p, s.chipActive = true → p ≤ 8 → (s.spe p).exit = none → (s.spe p).st = .u3 →
      (∀ u, ownerUp (s.port p) = some u → (s.up u).ssLink = .u3 → (s.up u).ssWake = true) → ∃ s1 : State,
      s1 = wakeDoze (setLink (s.modSpe p (fun e =>
        { e with exit := some { left := 3, host := false, start := s.ticks, stamp := s.now } })) p .recovery false) ∧
      Ends (.lfpsWake p) s (match ownerUp (s1.port p) with
        | some u => if (s1.up u).ssLink = .u3 then setUpLink s1 u .recovery false else s1
        | none => s1)) ∧
  (∀ s p r, s.chipActive = true → p ≤ 8 → (s.spe p).exit = some r → Ends (.u3WakeHandshakeTimeout p) s
      (setLink ((u3Event s p r 4).modSpe p (fun e => { e with exit := none })) p .ssInactive false)) ∧
  (∀ s n, s.chipActive = true → 8 < n → Ends (.warmResetDone n) s (setUpLink s (upOfSpe n) .rxDetect false)) ∧
  (∀ s n, s.chipActive = true → n ≤ 8 → (s.spe n).warm = true → ∃ s1 : State,
      s1 = setLink (s.modSpe n (fun e => { e with warm := false })) n .rxDetect true ∧
      Ends (.warmResetDone n) s (match ownerUp (s1.port n) with
        | some u => s1.modSsView u n (fun v => { v with cBh := true, cReset := true })
        | none => s1)) ∧
  (∀ s u, (s.up u).ssLink = .u0 → (s.up u).u1En = true → upU1Eff s ≠ 0 → ssPortsRest s u = true →
      Ends (.upU1U2Idle u false true) s (setUpLink s u .u1 false)) ∧
  (∀ s u, (s.up u).ssLink = .u0 ∨ (s.up u).ssLink = .u1 → (s.up u).u2En = true → upU2Eff s ≠ 0 → ssPortsRest s u = true →
      Ends (.upU1U2Idle u true true) s (setUpLink s u .u2 false))

/-- Fills and refills of a translated port's cache (R103, R109, R115), the control requests that the proxy answers or forwards
(R102, R105, R111, R112, R116) and the absorption of resets (R107, R108). -/
def Obligations.FillsAndControlRequests : Prop :=
  (∀ s p data f, (s.port p).fill = some f → f.step = 3 → Ends (.fillRequestDone p data) s
      (nextReq s p { f with step := 4, device := data.take 18 } ([0, 5] ++ leBytes 2 p ++ [0, 0, 0, 0]))) ∧
  (∀ s p data f, (s.port p).fill = some f → f.step = 5 → f.whole = false → Ends (.fillRequestDone p data) s
      (nextReq s p { f with whole := true } (getDescSetup 2 f.index (cfgLen data)))) ∧
  (∀ s p data f, (s.port p).fill = some f → f.step = 5 → f.whole = true → ∃ g : Fill,
      g = { f with configs := f.configs ++ [data], index := f.index + 1, whole := false } ∧
      Ends (.fillRequestDone p data) s (if f.index + 1 < (f.device.getD 17 0).toNat
        then nextReq s p g (getDescSetup 2 (f.index + 1) 9) else descriptorsRead s p g)) ∧
  (∀ s p f, (s.port p).fill = some f → f.tries < 3 → f.step ≠ 1 → f.req ≠ [] → ∃ s1 : State,
      s1 = s.modPort p (fun q => { q with fill := some { f with tries := f.tries + 1 } }) ∧
      Ends (.fillAttemptTimeout p) s (s1.modPort p (fun q => { q with wire := .setup f.req }))) ∧
  (∀ s p f, (s.port p).fill = some f → f.tries < 3 → f.step = 1 → Ends (.fillAttemptTimeout p) s
      (startWireReset (s.modPort p (fun q => { q with fill := some { f with tries := f.tries + 1 } })) p)) ∧
  (∀ s p f, (s.port p).fill = some f → 3 ≤ f.tries → Ends (.fillAttemptTimeout p) s (fallBack s p 3)) ∧
  (∀ s p f, (s.port p).fill = some f → Ends (.tfillExpiry p) s (fallBack s p 3)) ∧
  (∀ s p f, (s.port p).fill = some f → f.refill = true → f.step = 7 → Ends (.refillDone p) s
      (if sameIdentity (s.port p) f then refillSame s p f else refillNew s p f)) ∧
  (∀ s u n addr, gate s u n = .serve → ∃ s1 : State,
      s1 = s.modPx (locOf u n) (fun x => { x with ctrl := x.ctrl.cutOff }) ∧
      Ends (.proxySetAddress u n addr) s (answer (takeAddress s1 u n addr) u .ack)) ∧
  (∀ s u n addr, gate s u n = .silent → Ends (.proxySetAddress u n addr) s (answer s u .none)) ∧
  (∀ s u n kind index len a, gate s u n = .serve → pxBlocked s (locOf u n) = false →
      proxyDesc s (locOf u n) kind index len = some a →
      Ends (.proxyGetDescriptor u n kind index len) s
        (answer (s.modPx (locOf u n) (fun x => { x with ctrl := x.ctrl.cutOff })) u a)) ∧
  (∀ s u n kind index len, gate s u n = .serve → pxBlocked s (locOf u n) = false →
      proxyDesc s (locOf u n) kind index len = none →
      Ends (.proxyGetDescriptor u n kind index len) s
        (forward (answer s u .ack) (locOf u n) (getDescSetup kind index len))) ∧
  (∀ s u n setup, gate s u n = .serve → pxBlocked s (locOf u n) = false →
      Ends (.proxySetup u n setup) s (takeSetup (answer s u .ack) (locOf u n) setup)) ∧
  (∀ s u n setup, n ≤ 33 → gate s u n = .nak →
      Ends (.proxySetup u n setup) s (keepSetup (answer s u .ack) (locOf u n) setup)) ∧
  (∀ s u n ep, gate s u n = .serve → pxBlocked s (locOf u n) = false → Ends (.clearFeatureEndpointHalt u n ep) s
      (takeSetup (answer s u .ack) (locOf u n) ([2, 1, 0, 0] ++ leBytes 2 ep ++ [0, 0]))) ∧
  (∀ s p, awaits s (.phys p) isSetConfig = true → Ends (.forwardedSetConfigurationDone (.phys p)) s (wireDone s p)) ∧
  (∀ s u v, awaits s (.virt u v) isSetConfig = true →
      Ends (.forwardedSetConfigurationDone (.virt u v)) s (ctrlDone s (.virt u v))) ∧
  (∀ s p, awaits s (.phys p) isSetIface = true → Ends (.forwardedSetInterfaceDone (.phys p)) s (wireDone s p)) ∧
  (∀ s u v, awaits s (.virt u v) isSetIface = true →
      Ends (.forwardedSetInterfaceDone (.virt u v)) s (ctrlDone s (.virt u v))) ∧
  (∀ s l b, isSetConfig b = true → requestDone s l b = setConfigured s l (setupValue b)) ∧
  (∀ s l b, isSetConfig b = false → isSetIface b = true →
      requestDone s l b = setInterfaced s l (setupIndex b) (setupValue b)) ∧
  (∀ s l, (s.px l).vreset = true → ∃ s1 : State,
      s1 = s.modPx l (fun x => { x with vreset := false, viewEn := true }) ∧
      Ends (.virtualResetEnd l) s (match locUp s1 l with
        | some u => s1.modView u (locPort l) (fun v => { v with cReset := true })
        | none => s1)) ∧
  (∀ s l, Ends (.resetWindowExpiry l) s (s.modPx l (fun x => { x with winOpen := false })))

/-- Host and device transactions of a translated port's endpoints (R66, R110–R113, R228, R336, R451). -/
def Obligations.ProxyTransactions : Prop :=
  (∀ s u n ep toggle data, gate s u n = .serve → ep ≠ 0 → inPxL1 s n = false → s.pxPages (locOf u n) = 0 →
      Ends (.hostOut u n ep toggle data) s (answer s u .nak) ∧ Ends (.hostPing u n ep) s (answer s u .nak) ∧
      ∀ acked, Ends (.hostIn u n ep acked) s (answer s u .nak)) ∧
  (∀ s u n ep toggle data e, gate s u n = .serve → ep ≠ 0 → inPxL1 s n = false → s.pxPages (locOf u n) ≠ 0 →
      (s.px (locOf u n)).ep ep = some e → e.halted = true →
      Ends (.hostOut u n ep toggle data) s (answer s u .stall) ∧ Ends (.hostPing u n ep) s (answer s u .stall)) ∧
  (∀ s u n ep toggle data e, gate s u n = .serve → ep ≠ 0 → inPxL1 s n = false → s.pxPages (locOf u n) ≠ 0 →
      (s.px (locOf u n)).ep ep = some e → e.halted = false → e.bufs ≠ 0 → toggle ≠ e.hostTog →
      Ends (.hostOut u n ep toggle data) s (answer s u .ack)) ∧
  (∀ s u n ep data e, gate s u n = .serve → ep ≠ 0 → inPxL1 s n = false → s.pxPages (locOf u n) ≠ 0 →
      (s.px (locOf u n)).ep ep = some e → e.halted = false → e.held.length < e.bufs →
      pxBlocked s (locOf u n) = false → ∃ s1 : State,
        s1 = (sealPacket (answer (s.modPx (locOf u n) (fun x => x.modEp ep (fun e =>
          { e with held := e.held ++ [data], hostTog := !e.hostTog }))) u
          (if e.bufs ≤ e.held.length + 1 then .nyet else .ack)) (locOf u n) ep e.mps data).2 ∧
        (34 ≤ n → Ends (.hostOut u n ep e.hostTog data) s (pushTun s1 (locOf u n) ep)) ∧
        (n ≤ 33 → Ends (.hostOut u n ep e.hostTog data) s (if e.held.isEmpty then wireOut s1 n ep else s1))) ∧
  (∀ s u n ep data e, gate s u n = .serve → ep ≠ 0 → inPxL1 s n = false → s.pxPages (locOf u n) ≠ 0 →
      (s.px (locOf u n)).ep ep = some e → e.halted = false → e.bufs ≤ e.held.length →
      Ends (.hostOut u n ep e.hostTog data) s (answer s u .nak) ∧ Ends (.hostPing u n ep) s (answer s u .nak)) ∧
  (∀ s u n ep e, gate s u n = .serve → ep ≠ 0 → s.pxPages (locOf u n) ≠ 0 → (s.px (locOf u n)).ep ep = some e →
      e.halted = false → pxBlocked s (locOf u n) = false → e.held.length < e.bufs →
      Ends (.hostPing u n ep) s (answer s u .ack)) ∧
  (∀ s u n ep e acked, gate s u n = .serve → ep ≠ 0 → inPxL1 s n = false → s.pxPages (locOf u n) ≠ 0 →
      (s.px (locOf u n)).ep (ep + 128) = some e → e.held = [] → Ends (.hostIn u n ep acked) s (pxDraw
        (s.modPx (locOf u n) (fun x => x.modEp (ep + 128) (fun e => { e with pollLeft := 4 }))) u (locOf u n) ep e)) ∧
  (∀ s u l ep e, e.halted = true → pxDraw s u l ep e = answer s u .stall) ∧
  (∀ s u l ep e, e.halted = false → e.bufs = 0 ∨ e.drawn = true → pxDraw s u l ep e = answer s u .nak) ∧
  (∀ s u n ep e b bs, gate s u n = .serve → ep ≠ 0 → inPxL1 s n = false → s.pxPages (locOf u n) ≠ 0 →
      (s.px (locOf u n)).ep (ep + 128) = some e → e.held = b :: bs → Ends (.hostIn u n ep false) s
        (answer (s.modPx (locOf u n) (fun x => x.modEp (ep + 128) (fun e => { e with pollLeft := 4 }))) u
          (.data e.hostTog b))) ∧
  (∀ s u n ep e b bs, gate s u n = .serve → ep ≠ 0 → inPxL1 s n = false → s.pxPages (locOf u n) ≠ 0 →
      (s.px (locOf u n)).ep (ep + 128) = some e → e.held = b :: bs → ∃ s1 : State,
        s1 = (answer (s.modPx (locOf u n) (fun x => x.modEp (ep + 128) (fun e => { e with pollLeft := 4 }))) u
          (.data e.hostTog b)).modPx (locOf u n) (fun x => x.modEp (ep + 128) (fun e =>
            { e with held := e.held.drop 1, hostTog := !e.hostTog, drawn := e.drawn && decide (e.mps ≤ b.length) })) ∧
        (34 ≤ n → Ends (.hostIn u n ep true) s (grantTun s1 (locOf u n) (ep + 128) 1)) ∧
        (n ≤ 33 → Ends (.hostIn u n ep true) s (readOn s1 n ep))) ∧
  (∀ s p ep data e, ep ≠ 0 → (s.port p).px.ep (ep + 128) = some e → e.bufs ≤ e.held.length →
      Ends (.deviceInData p ep data) s s) ∧
  (∀ s p ep data e, ep ≠ 0 → (s.port p).px.ep (ep + 128) = some e → e.held.length < e.bufs →
      stageRoom s p data.length = false → Ends (.deviceInData p ep data) s (endDraw s p ep)) ∧
  (∀ s p ep data e r, ep ≠ 0 → (s.port p).px.ep (ep + 128) = some e → e.held.length < e.bufs →
      stageRoom s p data.length = true → r = sealPacket s (.phys p) (ep + 128) e.mps data → ∃ s1 s2 : State,
        s1 = r.2.modPx (.phys p) (fun x => x.modEp (ep + 128) (fun e =>
          { e with held := if r.1 then e.held else e.held ++ [data], wireTog := !e.wireTog })) ∧
        s2 = stageEp (if r.1 then countSealed s1 (.phys p) data.length else s1) p (ep + 128) (decide (data.length < e.mps)) ∧
        Ends (.deviceInData p ep data) s
          (readOn (if (s2.port p).id.owner = .lent then pushTun s2 (.phys p) (ep + 128) else s2) p ep)) ∧
  (∀ s p ep e nyet, ep ≠ 0 → (s.port p).px.ep ep = some e → e.held ≠ [] → e.ping = false ∨ nyet = true → ∃ s1 : State,
      s1 = stageEp (s.modPx (.phys p) (fun x => x.modEp ep (fun k => { k with
          held := k.held.drop 1, wireTog := !k.wireTog
          ping := nyet && (decide ((s.port p).id.speed = .hs) && e.kind == 2) }))) p ep
        (decide ((e.held.headD []).length < e.mps)) ∧
      Ends (.deviceOutAck p ⟨ep, nyet⟩) s
        (settleSuspend (wireOut (if (s1.port p).id.owner = .lent then ackOut s1 p ep else s1) p ep) p)) ∧
  (∀ s p ep e, ep ≠ 0 → (s.port p).px.ep ep = some e → e.held ≠ [] → e.ping = true → Ends (.deviceOutAck p ⟨ep, false⟩) s
      (wireOut (s.modPx (.phys p) (fun x => x.modEp ep (fun e => { e with ping := false }))) p ep)) ∧
  (∀ s p, (s.port p).px.ctrl.onWire = true → (s.port p).px.ctrl.wireOnly = true →
      Ends (.deviceStall p 0) s (settleSuspend (endWire s p) p)) ∧
  (∀ s p ep e, ep ≠ 0 → ep < 128 → stalled (s.port p) ep = ep → (s.port p).px.ep ep = some e → ∃ s1 : State,
      s1 = dropTun (s.modPort p (fun q => { q with
          discards := min 0xFFFFFFFF (q.discards + e.held.foldl (fun a b => a + b.length) 0)
          px := q.px.modEp ep (fun e => { e.discard with halted := true, ping := false }) })) (.phys p) (· == ep) ∧
      Ends (.deviceStall p ep) s
        (settleSuspend (if (s1.port p).id.owner = .lent then sendTun s1 (.phys p) 5 ep [1] else s1) p)) ∧
  (∀ s p ep e, (s.port p).px.ep (ep + 128) = some e → e.kind = 3 → 0 < e.pollLeft → ∃ s1 : State,
      s1 = s.modPx (.phys p) (fun x => x.modEp (ep + 128) (fun e => { e with pollLeft := e.pollLeft - 1 })) ∧
      Ends (.interruptInPoll p ep) s (if e.held.length < e.bufs ∧ ¬ e.halted ∧ ¬ pxBlocked s1 (.phys p) ∧
        stageRoom s1 p e.mps then wireIn s1 p ep else s1))

/-- Split transactions at a transparent port's TT (R52–R54, R56, R68), and at the proxy of a translated port (R66, R113). -/
def Obligations.TransactionTranslators : Prop :=
  (∀ s u n addr ep pid ls tg count data, isPort n = true → s.owns u n = true → (s.up u).link = .hs →
      (s.port n).id.eff = .transparent → planBlocks s 1 n 0 = false →
      (s.port n).tt.np.length < 4 * s.pages 1 n 0 → ∃ s1 : State,
      s1 = s.modUp u (fun x => { x with npSeq := (s.up u).npSeq + 1 }) ∧
      Ends (.ttSsplit u n addr ep false pid ls tg count data) s
        (ttGo (answerD (s1.modPort n (fun q => { q with tt := { q.tt with np := q.tt.np ++ [{
          addr := addr, ep := ep, isIn := decide (pid = .inn), setup := decide (pid = .setup), toggle := tg, data := data,
          slot := freeSlot (s.port n).tt, seq := (s.up u).npSeq + 1 }] } })) u .ack) u n)) ∧
  (∀ s u n addr ep pid ls tg count data, isPort n = true → s.owns u n = true → (s.up u).link = .hs →
      (s.port n).id.eff = .transparent → 4 * s.pages 1 n 0 ≤ (s.port n).tt.np.length →
      Ends (.ttSsplit u n addr ep false pid ls tg count data) s (answerD s u .nak)) ∧
  (∀ s u n addr ep pid ls tg count data, isPort n = true → s.owns u n = true → (s.up u).link = .hs →
      (s.port n).id.eff = .transparent → planBlocks s 2 n 0 = false → 0 < s.pages 2 n 0 → (s.port n).tt.stopped = false →
      withinR54 s u n (if ls then 8 * count else count) = true →
      Ends (.ttSsplit u n addr ep true pid ls tg count data) s
        (answerD (s.modPort n (fun q => { q with tt := { q.tt with
          per := q.tt.per ++ [{ addr := addr, ep := ep, isIn := decide (pid = .inn), toggle := tg, data := data }],
          ufBytes := q.tt.ufBytes + (if ls then 8 * count else count), ufSplits := q.tt.ufSplits + 1,
          frBytes := q.tt.frBytes + (if ls then 8 * count else count) } })) u .none)) ∧
  (∀ s u n addr ep pid ls tg count data, isPort n = true → s.owns u n = true → (s.up u).link = .hs →
      (s.port n).id.eff = .transparent → planBlocks s 2 n 0 = false →
      withinR54 s u n (if ls then 8 * count else count) = false →
      Ends (.ttSsplit u n addr ep true pid ls tg count data) s
        (answerD (s.modPort n (fun q => { q with tt := { q.tt with per := q.tt.per ++ [{
          addr := addr, ep := ep, isIn := decide (pid = .inn), toggle := tg, data := data, dropped := true }] } })) u .none)) ∧
  (∀ s u n addr ep pid ls tg count data, isPort n = true → s.owns u n = true → (s.up u).link = .hs →
      (s.port n).id.eff = .translated → planBlocks s 1 n 0 = false → s.pages 1 n 0 ≠ 0 → gate s u n ≠ .silent →
      ∃ r : Ans × State, r = pxSplit u n addr ep false pid tg data s ∧
      Ends (.ttSsplit u n addr ep false pid ls tg count data) s
        (answerD (r.2.modPort n (fun q => { q with tt := { q.tt with
          pxAns := (if pid = .inn then ep + 128 else ep, r.1) ::
            q.tt.pxAns.filter (·.1 != if pid = .inn then ep + 128 else ep) } })) u .ack)) ∧
  (∀ s u n addr ep isIn x, isPort n = true → s.owns u n = true → (s.up u).link = .hs →
      (s.port n).id.eff = .transparent →
      (s.port n).tt.np.find? (fun x => x.addr == addr && x.ep == ep && x.isIn == isIn) = some x → x.res = none →
      Ends (.ttCsplit u n addr ep false isIn) s (answerD s u .nyet)) ∧
  (∀ s u n addr ep isIn x r, isPort n = true → s.owns u n = true → (s.up u).link = .hs →
      (s.port n).id.eff = .transparent →
      (s.port n).tt.np.find? (fun x => x.addr == addr && x.ep == ep && x.isIn == isIn) = some x → x.res = some r →
      Ends (.ttCsplit u n addr ep false isIn) s
        (answerD (s.modPort n (fun q => { q with tt := { q.tt with np := q.tt.np.erase x } })) u (resAns false r))) ∧
  (∀ s u n addr ep isIn x r, isPort n = true → s.owns u n = true → (s.up u).link = .hs →
      (s.port n).id.eff = .transparent →
      (s.port n).tt.per.find? (fun x => x.addr == addr && x.ep == ep && x.isIn == isIn) = some x → x.dropped = false →
      x.res = some r → isPart r = false → Ends (.ttCsplit u n addr ep true isIn) s
        (answerD (s.modPort n (fun q => { q with tt := { q.tt with per := q.tt.per.erase x } })) u (resAns true r))) ∧
  (∀ s u n addr ep isIn, isPort n = true → s.owns u n = true → (s.up u).link = .hs →
      (s.port n).id.eff = .transparent → planBlocks s 2 n 0 = false →
      (s.port n).tt.per.find? (fun x => x.addr == addr && x.ep == ep && x.isIn == isIn) = none →
      Ends (.ttCsplit u n addr ep true isIn) s (answerD s u .err)) ∧
  (∀ s u n addr ep isIn a, isPort n = true → s.owns u n = true → (s.up u).link = .hs →
      (s.port n).id.eff = .translated → gate s u n ≠ .silent →
      (s.port n).tt.pxAns.find? (·.1 == if isIn then ep + 128 else ep) = some a → Ends (.ttCsplit u n addr ep false isIn) s
        (answerD (s.modPort n (fun q => { q with tt := { q.tt with
          pxAns := q.tt.pxAns.filter (·.1 != if isIn then ep + 128 else ep) } })) u a.2)) ∧
  (∀ s p addr ep isIn r, (s.port p).tt.run = some { periodic := false, addr := addr, ep := ep, isIn := isIn } →
      isPart r = false → ∃ s1 : State,
      s1 = s.modPort p (fun q => { q with tt := { q.tt with np := setNp addr ep isIn r q.tt.np, run := none } }) ∧
      Ends (.ttTransactionDone p addr ep false isIn r) s (match ownerUp (s1.port p) with
        | some u => ttGoAll s1 u
        | none => s1)) ∧
  (∀ s p addr ep isIn r, (s.port p).tt.run = some { periodic := true, addr := addr, ep := ep, isIn := isIn } →
      ∃ s1 : State, s1 = s.modPort p (fun q => { q with tt := { q.tt with
        per := setPer addr ep isIn r q.tt.per, run := if isPart r then q.tt.run else none } }) ∧
      Ends (.ttTransactionDone p addr ep true isIn r) s (match ownerUp (s1.port p) with
        | some u => ttGoAll s1 u
        | none => s1)) ∧
  (∀ s p addr ep per isIn r, (s.port p).tt.run ≠ some { periodic := per, addr := addr, ep := ep, isIn := isIn } →
      Ends (.ttTransactionDone p addr ep per isIn r) s s) ∧
  (∀ s p addr ep isIn, Ends (.ttResultDiscard p addr ep isIn) s
      (s.modPort p (fun q => { q with tt := { q.tt with
        per := q.tt.per.filter (fun x => !(x.addr == addr && x.ep == ep && x.isIn == isIn && 4 ≤ x.age)) } })))

/-- Drains end or time out (R116, R121, R125); a bus reset and a lost connection act on one upstream (R117, R511), and on
none where the straps are reserved (R18). -/
def Obligations.DrainsAndBusReset : Prop :=
  (∀ s p d, (s.port p).drain = some d → (s.port p).px.drained = true → d.what = 0 →
      Ends (.drainDone (.phys p)) s (finishMove s p d)) ∧
  (∀ s p d, (s.port p).drain = some d → (s.port p).px.drained = true → d.what = 1 → d.ready = true →
      Ends (.drainDone (.phys p)) s (finishLendDrain s p d)) ∧
  (∀ s p d, (s.port p).drain = some d → (s.port p).px.drained = true → d.what = 2 → d.ready = true →
      Ends (.drainDone (.phys p)) s (endLend s p 5)) ∧
  (∀ s p d, (s.port p).drain = some d → (s.port p).px.drained = false ∨ (d.what ≠ 0 ∧ d.ready = false) →
      Ends (.drainDone (.phys p)) s s) ∧
  (∀ s u v d, (s.vport u v).drain = some d → (s.vport u v).px.drained = true → Ends (.drainDone (.virt u v)) s
      (finishWait (freeVPort (sendTun s (.virt u v) 0xC 0 [] false) u v) d.wait (.ok []))) ∧
  (∀ s p d, (s.port p).drain = some d → d.what = 0 → (s.port p).id.st = .draining → Ends (.drainTimeout (.phys p)) s
      (takeLater (finishWait (s.modPort p (fun q => { q with drain := none
                                                             id := { q.id with st := if q.id.st = .draining then d.back else q.id.st } })) d.wait
        (.fail stBusy 2 10)) (.phys p))) ∧
  (∀ s p d, (s.port p).drain = some d → d.what = 1 → Ends (.drainTimeout (.phys p)) s
      (takeLater (finishWait ((sendTun s (.phys p) 0xC 0 [] false).modPort p (fun q => { q with
          drain := none
          id := { q.id with st := if q.id.st = .draining then d.back else q.id.st }
          tun := {} })) d.wait (.fail stBusy 2 10)) (.phys p))) ∧
  (∀ s p d, (s.port p).drain = some d → d.what = 2 → d.ready = true →
      Ends (.drainTimeout (.phys p)) s (endLend s p 5)) ∧
  (∀ s u v d, (s.vport u v).drain = some d → Ends (.drainTimeout (.virt u v)) s
      (takeLater (finishWait (s.modVPort u v (fun x => { x with drain := none })) d.wait (.fail stBusy 2 10)) (.virt u v))) ∧
  (∀ s u hs, s.sys.role ≠ 3 → Ends (.upstreamBusReset u hs) s (busReset s u (if hs then .hs else .fs) 1)) ∧
  (∀ s u hs, s.sys.role = 3 → Ends (.upstreamBusReset u hs) s s) ∧
  (∀ s u, Ends (.upstreamConnectionLost u) s (setUpLink (busReset s u .detached 2) u .ssDisabled false)) ∧
  (∀ s p, ((s.modPort p (fun q => { q with tt := resetTt1 q.tt })).port p).dpe = .testing → busResetPort s p =
      loseDevice (s.modPort p (fun q => { q with tt := resetTt1 q.tt })) p .disconnected) ∧
  (∀ s p, (s.port p).dpe = .unpowered ∨ (s.port p).dpe = .disconnected → busResetTransparent s p = s) ∧
  (∀ s p, (s.port p).dpe = .enabled ∨ (s.port p).dpe = .suspended ∨ (s.port p).dpe = .sleeping ∨ (s.port p).dpe = .resetting →
      busResetTransparent s p = syncPort (s.modPort p (fun q => { q with
        dpe := .disabled, cmdReset := false, addr := 0, addrSeen := 0, busSusp := false })) p) ∧
  (∀ s p, (s.port p).dpe ≠ .resuming → (s.port p).id.st = .presented ∨ (s.port p).id.st = .live ∨ (s.port p).id.st = .parked →
      busResetTranslated s p = park s p 1) ∧
  (∀ s p d, (s.port p).id.st = .draining → (s.port p).drain = some d →
      (d.what = 0 → busResetTranslated s p = finishMove s p d) ∧
      (d.what ≠ 0 → busResetTranslated s p =
        park (undoLend (sendTun s (.phys p) 0xC 0 [] false) p (.fail stRefusedState)) p 1)) ∧
  (∀ s p, (s.port p).id.st = .filling → busResetTranslated s p = s.modPort p (fun q => { q with parkNext := true }))

/-- The tunnel takes a frame with the next sequence number once and acknowledges it, a repeated one is acknowledged again, one
of an unknown lend is answered with CLOSE, and each frame has its effect at its half of the lend (R120–R127, R274, R275);
requests to a virtual port act on the lend (R42, R57, R78, R107, R126). -/
def Obligations.LendsAndTunnel : Prop :=
  (∀ s h total, tunLoc s h = none → ∃ t : State,
      t = sendTo s 3 0x30 h.src (tunSpec { vport := h.vport, up := h.up } 15 0xC 0) [] ∧
      (∀ data, Ends (.tunnelData h data) s t) ∧ Ends (.tunnelDraw h) s t ∧
      Ends (.tunnelCredit h total) s t ∧ Ends (.tunnelAck h) s t ∧ Ends (.tunnelResync h total) s t ∧
      Ends (.tunnelClose h) s s) ∧
  (∀ s h l q, tunLoc s h = some l → q = BitVec.ofNat 16 h.tseq → q = (s.tun l).rxSeq + 1 → ∃ s0 s1 : State,
      s0 = s.modTun l (fun t => { t with rxSeq := q }) ∧ s1 = ackTun s0 l h.ep q ∧
      (∀ data, Ends (.tunnelData h data) s (tunData s0 l h data)) ∧
      Ends (.tunnelDraw h) s (tunDraw s1 l h.ep) ∧
      (∀ total, Ends (.tunnelCredit h total) s (tunCredit s1 l h.ep total)) ∧
      (∀ b, Ends (.tunnelSetup h b) s (tunSetup s1 l b)) ∧
      (∀ r, Ends (.tunnelResult h r) s (tunResult s1 l h.ep r)) ∧
      Ends (.tunnelReset h) s (tunReset s1 l) ∧ Ends (.tunnelWake h) s (tunWake s1 l) ∧
      Ends (.tunnelSuspend h) s (tunSuspend s1 l) ∧ Ends (.tunnelResume h) s (tunResume s1 l) ∧
      (∀ data, Ends (.tunnelOpen h data) s (moreOpen data s1 l)) ∧
      Ends (.tunnelOpenDone h) s (tunOpenDone s1 l) ∧ Ends (.tunnelDiscard h) s (tunDiscard s1 l h.ep)) ∧
  (∀ s h l q, tunLoc s h = some l → q = BitVec.ofNat 16 h.tseq → q ≠ (s.tun l).rxSeq + 1 → tunSeen (s.tun l) q = true →
      (s.tun l).rxPend.any (fun x => x.2 == q) = false →
      (∀ data, Ends (.tunnelData h data) s (ackTun s l h.ep q)) ∧ (∀ r, Ends (.tunnelResult h r) s (ackTun s l h.ep q)) ∧
      Ends (.tunnelDraw h) s (ackTun s l h.ep q)) ∧
  (∀ s h l q, tunLoc s h = some l → q = BitVec.ofNat 16 h.tseq → q ≠ (s.tun l).rxSeq + 1 → tunSeen (s.tun l) q = false →
      (∀ data, Ends (.tunnelData h data) s s) ∧ (∀ b, Ends (.tunnelSetup h b) s s) ∧ Ends (.tunnelReset h) s s) ∧
  (∀ s p h data e, h.ep ≠ 0 → (s.port p).px.ep h.ep = some e → e.halted = true → tunData s (.phys p) h data =
      grantTun (ackTun s (.phys p) h.ep (BitVec.ofNat 16 h.tseq)) (.phys p) h.ep 1) ∧
  (∀ s u v h data e, h.ep % 128 ≠ 0 → ∃ s1 : State, s1 = ackTun s (.virt u v) h.ep (BitVec.ofNat 16 h.tseq) ∧
      ((s1.px (.virt u v)).ep h.ep = some e → (sealPacket s1 (.virt u v) h.ep e.mps data).1 = false →
        tunData s (.virt u v) h data = (sealPacket s1 (.virt u v) h.ep e.mps data).2.modPx (.virt u v)
          (fun x => x.modEp h.ep (fun e => { e with held := e.held ++ [data] })))) ∧
  (∀ s p b, (s.port p).id.st ≠ .refilling →
      (s.pages 3 p 0 ≠ 0 → tunSetup s (.phys p) b = forward s (.phys p) b) ∧
      (s.pages 3 p 0 = 0 → tunSetup s (.phys p) b = sendTun (noteHalt s (.phys p) b) (.phys p) 5 0 [1])) ∧
  (∀ s p b, (s.port p).id.st = .refilling → tunSetup s (.phys p) b = keepSetup s (.phys p) b) ∧
  (∀ s p, ((s.port p).dpe = .enabled → (s.port p).px.drained = true →
        tunSuspend s (.phys p) = sendTun (doSuspend s p) (.phys p) 5 128 [2]) ∧
      ((s.port p).dpe = .enabled → (s.port p).px.drained = false →
        tunSuspend s (.phys p) = s.modPort p (fun q => { q with suspWait := true })) ∧
      ((s.port p).dpe = .suspended → tunSuspend s (.phys p) = sendTun s (.phys p) 5 128 [2]) ∧
      ((s.port p).dpe = .suspended ∨ (s.port p).dpe = .sleeping → tunResume s (.phys p) = hostResume s p false)) ∧
  (∀ s u v, (canWakeUp (s.up u) = true → tunWake s (.virt u v) = driveUpK s u v) ∧
      tunResult s (.virt u v) 128 0 =
        (s.modVPort u v (fun x => { x with susp := false })).modView u v (fun x => { x with cSuspend := true }) ∧
      ((s.vport u v).suspWait = true → tunResult s (.virt u v) 128 2 =
        answer (s.modVPort u v (fun x => { x with suspWait := false, susp := true })) u .ack)) ∧
  (∀ s u v ep, 128 < ep → tunResult s (.virt u v) ep 1 =
      s.modPx (.virt u v) (fun x => x.modEp ep (fun e => { e with halted := true, drawn := false }))) ∧
  (∀ s p w, (s.port p).tun.openWait = w → w ≠ 0 → ∃ s1 : State, s1 = s.modTun (.phys p) (fun t => { t with openWait := 0 }) ∧
      tunOpenDone s (.phys p) = finishWait (ownerEvent s1 p 4 (s.port p).lentFrom 0 (s.port p).lentDisc) w
        (.ok (leBytes 1 (s.port p).id.lendNode ++ leBytes 1 (s.port p).id.lendUp.code ++ leBytes 1 (s.port p).id.lendVport))) ∧
  (∀ s h l x, tunLoc s h = some l → (s.tun l).held.find? (fun x => x.1 == BitVec.ofNat 16 h.tseq) = some x → x.2.1 ≠ 0 →
      x.2.1 ≠ 0xA → Ends (.tunnelAck h) s (s.modTun l (fun t => { t with held := t.held.erase x }))) ∧
  (∀ s h l x, tunLoc s h = some l → (s.tun l).held.find? (fun x => x.1 == BitVec.ofNat 16 h.tseq) = some x → x.2.1 = 0 →
      Ends (.tunnelAck h) s (dataAcked (s.modTun l (fun t => { t with held := t.held.erase x })) l x.2.2.1 x.2.2.2)) ∧
  (∀ s h l, tunLoc s h = some l → (s.tun l).held.find? (fun x => x.1 == BitVec.ofNat 16 h.tseq) = none →
      Ends (.tunnelAck h) s s) ∧
  (∀ s h data, tunLoc s h = none → h.toLender = false → 34 ≤ h.vport → h.vport ≤ 41 →
      s.pages 5 h.vport (ownerUpCode h.up) ≠ 0 → (s.vport h.up h.vport).used = false → (s.up h.up).link = .hs → ∃ s1 : State,
      s1 = s.modVPort h.up h.vport (fun x => { x with
        used := true
        tun := { node := h.src, own := s.fab.nodeId, up := h.up, vport := h.vport, rxSeq := BitVec.ofNat 16 h.tseq
                 openBuf := data } }) ∧
      Ends (.tunnelOpen h data) s (ackTun s1 (.virt h.up h.vport) 0 (BitVec.ofNat 16 h.tseq))) ∧
  (∀ s h data, tunLoc s h = none → h.toLender = false → (s.vport h.up h.vport).used = true →
      Ends (.tunnelOpen h data) s (sendTo s 3 0x30 h.src (tunSpec { vport := h.vport, up := h.up } 0 0xC 0) [])) ∧
  (∀ s h data, tunLoc s h = none → h.toLender = false → 34 ≤ h.vport → h.vport ≤ 41 →
      s.pages 5 h.vport (ownerUpCode h.up) ≠ 0 → (s.vport h.up h.vport).used = false → (s.up h.up).link ≠ .hs →
      Ends (.tunnelOpen h data) s (sendTo s 3 0x30 h.src (tunSpec { vport := h.vport, up := h.up } 1 0xC 0) [])) ∧
  (∀ s h u v, tunLoc s h = some (.virt u v) → BitVec.ofNat 16 h.tseq = (s.tun (.virt u v)).rxSeq + 1 → h.ep = 0 →
      Ends (.tunnelClose h) s (finishWait (freeVPort s u v) (((s.vport u v).drain.map (·.wait)).getD 0) (.ok []))) ∧
  (∀ s h p, tunLoc s h = some (.phys p) → BitVec.ofNat 16 h.tseq = (s.tun (.phys p)).rxSeq + 1 → (s.port p).drain = none →
      (s.port p).tun.openWait = 0 → Ends (.tunnelClose h) s (endLend s p 5)) ∧
  (∀ s h last l, tunLoc s h = some l → (s.tun l).held = [] → (s.tun l).resync = true →
      Ends (.tunnelResync h last) s (resendHeld (s.modTun l (fun t => { t with resync := false })) l)) ∧
  (∀ s l, (s.tun l).held ≠ [] → (s.tun l).vport ≠ 0 → Ends (.tunnelUnackedTimeout l) s
      ((sendTo s 3 0x30 (s.tun l).node (tunSpec (s.tun l) 0 0xD (s.tun l).txSeq)
        (leBytes 2 (lastAccepted (s.tun l)).toNat)).modTun l (fun t => { t with resync := true }))) ∧
  (∀ s l, (s.tun l).held = [] → Ends (.tunnelUnackedTimeout l) s s) ∧
  (∀ s u v, (s.vport u v).used = true → (s.vport u v).shown = false → openWhole (s.vport u v).tun.openBuf = true →
      ∃ s1 : State, s1 = sendTun (s.modVPort u v (readOpen ((s.up u).link == .fs))) (.virt u v) 0xB 0 [] ∧
      Ends (.lendPresented u v) s (syncConn (raiseUp s1 u 3 3 (vportData (s1.vport u v) u v)) u v)) ∧
  (∀ s p d, (s.port p).drain = some d → d.what = 2 → ∃ s1 : State,
      s1 = s.modPort p (fun q => { q with drain := none, id := { q.id with st := d.back } }) ∧
      Ends (.lendBorrowerTimeout p) s
        (takeLater (finishWait s1 d.wait (.fail stTimeout (s1.port p).tun.node)) (.phys p))) ∧
  (∀ s p d, (s.port p).drain = some d → d.what = 1 → Ends (.lendBorrowerTimeout p) s
      (takeLater (finishWait (s.modPort p (fun q => { q with
          drain := none
          id := { q.id with st := if q.id.st = .draining then d.back else q.id.st }
          tun := {} })) d.wait (.fail stTimeout (s.port p).tun.node)) (.phys p))) ∧
  (∀ s p, (s.port p).id.owner = .lent → (s.port p).tun.route = false → (s.port p).tun.openWait = 0 →
      Ends (.lendHoldExpiry (.phys p)) s (endLend s p 10)) ∧
  (∀ s p, (s.port p).id.owner = .lent → (s.port p).tun.route = false → (s.port p).tun.openWait ≠ 0 →
      Ends (.lendHoldExpiry (.phys p)) s (undoLend s p (.fail stTimeout (s.port p).tun.node))) ∧
  (∀ s u v, (s.vport u v).used = true → (s.vport u v).hidden = false → (s.vport u v).tun.route = false →
      (s.vport u v).drain = none →
      Ends (.lendHoldExpiry (.virt u v)) s (finishWait (freeVPort s u v) 0 (.ok []))) ∧
  (∀ s u v, (s.vport u v).used = true → (s.vport u v).hidden = true → (s.vport u v).drain = none →
      Ends (.lendHoldExpiry (.virt u v)) s (finishWait (freeVPort (sendTun s (.virt u v) 0xC 0 [] false) u v) 0 (.ok []))) ∧
  (∀ s u n, configured (s.up u) .usb2 = true → 34 ≤ n → n ≤ 41 → (s.vport u n).shown = true →
      Ends (.setPortFeaturePortSuspend u n) s (answer (sendTun ((answer s u .ack).modVPort u n (fun v =>
        { v with suspWait := true })) (.virt u n) 8 0 []) u .none) ∧
      Ends (.clearPortFeaturePortSuspend u n) s (sendTun (answer s u .ack) (.virt u n) 9 0 []) ∧
      Ends (.clearPortFeaturePortEnable u n) s ((answer s u .ack).modPx (.virt u n) (fun x =>
        { x.dropIn with viewDis := true, viewEn := false })) ∧
      Ends (.stopTt u n) s ((answer s u .ack).modVPort u n (fun v => { v with px := { v.px with stopped := true } })) ∧
      Ends (.resetTt u n) s ((answer s u .ack).modVPort u n (fun v => { v with
        px := { v.px.dropHeld with ctrl := v.px.ctrl.cutOff, stopped := false }
        tun := v.tun.dropData (fun _ => true) }))) ∧
  (∀ s u n ep, configured (s.up u) .usb2 = true → 34 ≤ n → n ≤ 41 → (s.vport u n).shown = true →
      Ends (.clearTtBuffer u n (s.vport u n).id.hostAddr ep) s ((answer s u .ack).modVPort u n (freeVBuf ep))) ∧
  (∀ s u n, configured (s.up u) .usb2 = true → 34 ≤ n → n ≤ 41 → (s.vport u n).shown = false →
      Ends (.setPortFeaturePortSuspend u n) s (answer s u .ack) ∧
      Ends (.clearPortFeaturePortSuspend u n) s (answer s u .ack) ∧
      Ends (.clearPortFeaturePortEnable u n) s (answer s u .ack) ∧
      Ends (.setPortFeaturePortReset u .usb2 n) s ((answer s u .ack).modView u n (fun v => { v with cReset := true }))) ∧
  (∀ s u n, configured (s.up u) .usb2 = true → 34 ≤ n → n ≤ 41 →
      Ends (.setPortFeaturePortPower u .usb2 n) s (syncConn ((answer s u .ack).modView u n (fun v => { v with power := true })) u n) ∧
      Ends (.clearPortFeaturePortPower u .usb2 n) s
        (syncConn ((answer s u .ack).modView u n (fun v => { v with power := false })) u n))

/-- The CC layer as a source: Rd is seen on one wire, debounced and lost; CC Open is judged, VBUS and VCONN are removed at a
detach; an accessory is reported once; ErrorRecovery ends in the style's unattached state (R132–R139, R150, R184). -/
def Obligations.ConnectionAsSource : Prop :=
  (∀ s n v1 v2 cc2 ra, (s.pde n).cc = .unattachedSrc → isUp n = false ∨ mayToggle s = true →
      oneRd s n v1 v2 = some (cc2, ra) →
      Ends (.rdSeen n v1 v2) s (s.modPde n (fun d => { d with cc := .attachWaitSrc, cc2 := cc2, ra := ra }))) ∧
  (∀ s n v1 v2, oneRd s n v1 v2 = none → Ends (.rdSeen n v1 v2) s s) ∧
  (∀ s n v1 v2, srcBand (rpLevel s n) v1 = .rd →
      (srcBand (rpLevel s n) v2 ≠ .rd → oneRd s n v1 v2 = some (false, srcBand (rpLevel s n) v2 == .ra)) ∧
      (srcBand (rpLevel s n) v2 = .rd → oneRd s n v1 v2 = none)) ∧
  (∀ mv, (mv < 200 → srcBand 0 mv = .ra) ∧ (200 ≤ mv → mv < 1600 → srcBand 0 mv = .rd) ∧ (1600 ≤ mv → srcBand 0 mv = .open_) ∧
      (mv < 400 → srcBand 1 mv = .ra) ∧ (400 ≤ mv → mv < 1600 → srcBand 1 mv = .rd) ∧ (1600 ≤ mv → srcBand 1 mv = .open_) ∧
      (mv < 800 → srcBand 2 mv = .ra) ∧ (800 ≤ mv → mv < 2600 → srcBand 2 mv = .rd) ∧ (2600 ≤ mv → srcBand 2 mv = .open_)) ∧
  (∀ s n v1 v2, isUp n = true → mayToggle s = false → (s.pde n).cc = .unattachedSrc → oneRd s n v1 v2 ≠ none →
      Ends (.rdSeen n v1 v2) s (s.modPde n (fun d => { d with cc := .unattachedSnk, ra := false }))) ∧
  (∀ s n v, isUp n = false → (s.pde n).cc = .attachWaitSrc → (s.ppc n).cool = 0 →
      Ends (.attachQualified n v) s (pbaTrigger (pdEvent (attachSource s n) n 1) 0)) ∧
  (∀ s n v, isUp n = false → (s.pde n).cc = .attachWaitSrc → (s.ppc n).cool ≠ 0 →
      Ends (.attachQualified n v) s (s.modPde n (fun d => { d with cc := .attachWaitCool }))) ∧
  (∀ s n v, isUp n = true → mayToggle s = true → (s.pde n).cc = .attachWaitSrc → (s.pde n).set.upTry = 2 →
      Ends (.attachQualified n v) s (s.modPde n (fun d => { d with cc := .trySnk }))) ∧
  (∀ s n v, isUp n = true → mayToggle s = true → (s.pde n).cc = .attachWaitSrc → (s.pde n).set.upTry ≠ 2 →
      Ends (.attachQualified n v) s (pbaTrigger (pdEvent (attachSource s n) n 1) 0)) ∧
  (∀ s n v, isUp n = true → mayToggle s = false → (s.pde n).cc = .attachWaitSrc →
      Ends (.attachQualified n v) s (s.modPde n (fun d => { d with cc := .unattachedSnk, ra := false }))) ∧
  (∀ s n, (s.pde n).cc = .attachWaitSrc →
      Ends (.rdLost n) s (s.modPde n (fun d => { d with cc := .unattachedSrc, ra := false }))) ∧
  (∀ s n, (s.pde n).cc = .attachedSrc → (s.ppc n).st ≠ .transition →
      Ends (.ccOpen n) s (s.modPde n (fun d => { d with ccOpen := true }))) ∧
  (∀ s n, (s.pde n).cc = .attachedSrc → (s.ppc n).st = .transition → ∃ s1 : State,
      s1 = (s.modPde n (fun d => { d with ccOpen := true })).modPpc n (fun q => { q with st := .frozen }) ∧
      Ends (.ccOpen n) s (setVout (powerEvent s1 n 5 8 (s.ppc n) 0) n
        (roundStep ((powerEvent s1 n 5 8 (s.ppc n) 0).conv n).exp (s.ppc n).meter.vconv (s.ppc n).oldMv))) ∧
  (∀ s n, (s.pde n).ccOpen = true → (s.ppc n).st ≠ .frozen →
      Ends (.ccReturn n) s (s.modPde n (fun d => { d with ccOpen := false }))) ∧
  (∀ s n, isUp n = false → (s.pde n).cc = .attachedSrc ∨ (s.pde n).cc = .tripped ∨ (s.pde n).cc = .powerOff →
      Ends (.detachQualified n) s
      (pbaTrigger (clearHappening (vbusOff ((pdForget (pdEvent (pdStop s n) n 2) n).modPde n
        (fun d => { d with cc := .unattachedSrc })) n) n) 0)) ∧
  (∀ s n, isUp n = true → (s.pde n).cc = .attachedSrc → (s.pde n).swap = none → Ends (.detachQualified n) s
      (pbaTrigger (clearHappening (vbusOff ((pdForget (pdEvent (pdStop s n) n 2) n).modPde n
        (fun d => { d with cc := .unattachedSnk })) n) n) 0)) ∧
  (∀ s n, (s.pde n).cc = .unattachedSrc → (s.pde n).accTold = false →
      Ends (.accessoryIgnored n) s (pdEvent (s.modPde n (fun d => { d with accTold := true })) n 0x11)) ∧
  (∀ s n, (s.pde n).cc = .unattachedSrc → (s.pde n).accTold = true → Ends (.accessoryIgnored n) s s) ∧
  (∀ s n, (s.pde n).cc = .errorRecovery → Ends (.errorRecoveryEnd n) s
      (pbaTrigger ((pdForget s n).modPde n (fun d =>
        { d with cc := if isUp n then .unattachedSnk else .unattachedSrc })) 0)) ∧
  (∀ s n, (s.pde n).vconn = true → Ends (.vconnOvercurrent n) s
      (discOver (markCaps ((pdEvent s n 0xE).modPde n (fun d => { d with
        vconn := false, vconnOc := true, cable := none,
        timers := d.timers.filter (fun t => t != .vconnStable && t != .discoverIdentity) })) n) n)) ∧
  (∀ s n, (s.pde n).vconn = false → Ends (.vconnOvercurrent n) s s)

/-- The CC layer of the upstreams: DRP toggling only with a feed present, sink attach, the Try states, loss of VBUS and dead
battery, each with the band of Rp that its wires show (R132, R138, R139, R159, R424). -/
def Obligations.ConnectionOfUpstreams : Prop :=
  (∀ s u, (s.pde (portOfUp u)).cc = .unattachedSnk → mayToggle s = true →
      Ends (.drpToggle u) s (s.modPde (portOfUp u) (fun d => { d with cc := .unattachedSrc }))) ∧
  (∀ s u, (s.pde (portOfUp u)).cc = .unattachedSnk → mayToggle s = false → Ends (.drpToggle u) s s) ∧
  (∀ s u, (s.pde (portOfUp u)).cc = .unattachedSrc →
      Ends (.drpToggle u) s (s.modPde (portOfUp u) (fun d => { d with cc := .unattachedSnk }))) ∧
  (∀ mv, (mv < 200 → snkBand mv = none) ∧ (200 ≤ mv → mv < 660 → snkBand mv = some 0) ∧
      (660 ≤ mv → mv < 1230 → snkBand mv = some 1) ∧ (1230 ≤ mv → snkBand mv = some 2)) ∧
  (∀ v1 v2 b, (snkBand v1 = some b → rpOn v1 v2 = some (false, b)) ∧
      (snkBand v1 = none → snkBand v2 = some b → rpOn v1 v2 = some (true, b))) ∧
  (∀ s u v1 v2, snkBand v1 = none → snkBand v2 = none → Ends (.rpSeen u ⟨v1, v2⟩) s s) ∧
  (∀ s u v1 v2 cc2 band, rpOn v1 v2 = some (cc2, band) →
      ((s.pde (portOfUp u)).cc = .unattachedSnk → Ends (.rpSeen u ⟨v1, v2⟩) s (s.modPde (portOfUp u) (fun d =>
        { d with cc := .attachWaitSnk, cc2 := cc2, srcRp := band, ra := false }))) ∧
      ((s.pde (portOfUp u)).cc = .attachedSnk ∨ (s.pde (portOfUp u)).cc = .attachWaitSnk →
        Ends (.rpSeen u ⟨v1, v2⟩) s (s.modPde (portOfUp u) (fun d => { d with srcRp := band }))) ∧
      ((s.pde (portOfUp u)).cc = .tryWaitSnk ∨ (s.pde (portOfUp u)).cc = .trySnk → Ends (.rpSeen u ⟨v1, v2⟩) s
        (s.modPde (portOfUp u) (fun d => { d with cc2 := cc2, srcRp := band, ra := false })))) ∧
  (∀ s n, (s.pde n).cc = .attachWaitSnk → (s.pde n).set.upTry ≠ 1 →
      Ends (.attachQualified n true) s (attachSink s n) ∧ Ends (.attachQualified n false) s s) ∧
  (∀ s n v, (s.pde n).cc = .attachWaitSnk → (s.pde n).set.upTry = 1 → mayToggle s = true →
      Ends (.attachQualified n v) s (s.modPde n (fun d => { d with cc := .trySrc }))) ∧
  (∀ s n, (s.pde n).cc = .tryWaitSnk → Ends (.attachQualified n true) s (attachSink s n)) ∧
  (∀ s n, attachSink s n = pbaTrigger ((s.modPde n (fun d =>
      { d with cc := .attachedSnk, pe := .snkNone, attachSrc := false, ccOpen := false })).modPpc n
        (fun q => { q with gsnk := true })) 0) ∧
  (∀ s u v, (s.pde (portOfUp u)).cc = .trySrc ∨ (s.pde (portOfUp u)).cc = .tryWaitSrc → mayToggle s = true →
      Ends (.tryDebounce u v) s (pbaTrigger (pdEvent (attachSource s (portOfUp u)) (portOfUp u) 1) 0)) ∧
  (∀ s u v, (s.pde (portOfUp u)).cc = .trySrc ∨ (s.pde (portOfUp u)).cc = .tryWaitSrc → mayToggle s = false →
      Ends (.tryDebounce u v) s (s.modPde (portOfUp u) (fun d => { d with cc := .unattachedSnk, ra := false }))) ∧
  (∀ s u, (s.pde (portOfUp u)).cc = .trySnk → Ends (.tryDebounce u true) s (attachSink s (portOfUp u))) ∧
  (∀ s u, (s.pde (portOfUp u)).cc = .trySrc →
      Ends (.tryTimeout u) s (s.modPde (portOfUp u) (fun d => { d with cc := .tryWaitSnk }))) ∧
  (∀ s u, (s.pde (portOfUp u)).cc = .tryWaitSnk ∨ (s.pde (portOfUp u)).cc = .tryWaitSrc →
      Ends (.tryTimeout u) s (s.modPde (portOfUp u) (fun d => { d with cc := .unattachedSnk }))) ∧
  (∀ s u, (s.pde (portOfUp u)).cc = .trySnk → mayToggle s = true →
      Ends (.tryTimeout u) s (s.modPde (portOfUp u) (fun d => { d with cc := .tryWaitSrc }))) ∧
  (∀ s u, (s.pde (portOfUp u)).cc = .attachedSnk → (s.pde (portOfUp u)).swap = none →
      (s.pde (portOfUp u)).pe ≠ .hardReset → Ends (.vbusBelowVsinkdisconnect u) s
        (pbaTrigger (((pdForget (pdStop s (portOfUp u)) (portOfUp u)).modPde (portOfUp u)
          (fun d => { d with cc := .unattachedSnk })).modPpc (portOfUp u) (fun q => { q with gsnk := false })) 0)) ∧
  (∀ s u, (s.pde (portOfUp u)).cc = .attachedSnk → (s.pde (portOfUp u)).swap ≠ none ∨ (s.pde (portOfUp u)).pe = .hardReset →
      Ends (.vbusBelowVsinkdisconnect u) s s) ∧
  (∀ s u v1 v2 cc2 band, s.sys.pstate ≠ .hibernate → (s.pde (portOfUp u)).cc = .deadBattery →
      rpOn v1 v2 = some (cc2, band) → Ends (.deadBatteryAttach u ⟨v1, v2⟩) s
        (attachSink ((pdForget s (portOfUp u)).modPde (portOfUp u) (fun d => { d with cc2 := cc2, srcRp := band })) (portOfUp u))) ∧
  (∀ s u v1 v2, s.sys.pstate = .hibernate → Ends (.deadBatteryAttach u ⟨v1, v2⟩) s s)

/-- GoodCRC, retries and chunks, of sent and of received messages (R140, R141, R142); a message received again is only
acknowledged; the cable's identity is read (R148). -/
def Obligations.MessagesAndTheCable : Prop :=
  (∀ s n m, (s.pde n).tx = some m → m ≠ .discoverIdentity → ∃ s1 : State,
      s1 = s.modPde n (fun d => { d with tx := none, retries := 0, txId := (d.txId + 1) % 8 }) ∧
      Ends (.goodcrc n (s.pde n).txId false) s (sendNext (sentOk s1 n m) n)) ∧
  (∀ s n, (s.pde n).tx = some .discoverIdentity →
      Ends (.goodcrc n (s.pde n).txIdP true) s
        (sendNext (s.modPde n (fun d => { d with tx := none, retries := 0, txIdP := (d.txIdP + 1) % 8 })) n)) ∧
  (∀ s n m id, (s.pde n).tx = some m → m ≠ .discoverIdentity → id ≠ (s.pde n).txId → Ends (.goodcrc n id false) s s) ∧
  (∀ s n m, (s.pde n).tx = some m → (s.pde n).retries < nRetry (s.pde n) →
      Ends (.crcReceiveTimerExpiry n) s (s.modPde n (fun d => { d with retries := d.retries + 1 }))) ∧
  (∀ s n m, (s.pde n).tx = some m → nRetry (s.pde n) ≤ (s.pde n).retries → Ends (.crcReceiveTimerExpiry n) s
      (sendNext (txFailed (s.modPde n (fun d => { d with tx := none, retries := 0 })) n m) n)) ∧
  (∀ d : Pde, (d.rev = some 2 → nRetry d = 2) ∧ (∀ r, r < 2 → d.rev = some r → nRetry d = 3)) ∧
  (∀ s h t, Hears s h → t = heard s h → runs t h.port .chunkSenderResponse = true →
      ∃ t1 t2 : State, t1 = stopTimer t h.port .chunkSenderResponse ∧ t2 = t1.modPde h.port (fun d => { d with chunk2 := true }) ∧
      Ends (.chunkRequest h 1) s (send t2 h.port (.sourceCaps true (t1.pde h.port).caps))) ∧
  (∀ s n, runs s n .chunkSenderRequest = true → Ends (.chunkTimeout n false) s
      ((stopTimer s n .chunkSenderRequest).modPde n (fun d => { d with rxChunk := none }))) ∧
  (∀ s n, runs s n .chunkSenderResponse = true → ((stopTimer s n .chunkSenderResponse).pde n).pe = .sendCaps →
      Ends (.chunkTimeout n true) s (capsFailed (stopTimer s n .chunkSenderResponse) n)) ∧
  (∀ s h t size t1, Hears s h → t = heard s h → 26 < size →
      t1 = (stopTimer t h.port .chunkSenderRequest).modPde h.port (fun d => { d with rxChunk := some 1 }) →
      Ends (.unsupportedMessage ⟨h, some (0, size)⟩) s (send t1 h.port (.chunkRequest 1))) ∧
  (∀ s h t size, Hears s h → t = heard s h → size ≤ 26 → Ends (.unsupportedMessage ⟨h, some (0, size)⟩) s
      (unsupported ((stopTimer t h.port .chunkSenderRequest).modPde h.port (fun d => { d with rxChunk := none })) h.port)) ∧
  (∀ s h t k size, Hears s h → t = heard s h → k ≠ 0 → runs t h.port .chunkSenderRequest = false →
      Ends (.unsupportedMessage ⟨h, some (k, size)⟩) s t) ∧
  (∀ s n, runs s n .sinkTx = true → ((stopTimer s n .sinkTx).pde n).amsIdle = true →
      Ends (.sinktxWaitEnd n) s (runOwn (stopTimer s n .sinkTx) n)) ∧
  (∀ s n, runs s n .sinkTx = true → ((stopTimer s n .sinkTx).pde n).amsIdle = false →
      Ends (.sinktxWaitEnd n) s (stopTimer s n .sinkTx)) ∧
  (∀ s h, h.port ≠ 0 → (s.pde h.port).live = true → (s.pde h.port).rxId = some h.id → ∃ t : State,
      t = s.modPde h.port (fun d => { d with goodCrc := some h.id }) ∧
      (∀ rdo, Ends (.request h rdo) s t) ∧ Ends (.getSourceCap h) s t ∧ Ends (.getSinkCap h) s t ∧ Ends (.accept h) s t ∧
      Ends (.psRdy h) s t ∧ Ends (.prSwap h) s t ∧ Ends (.ping h) s t) ∧
  (∀ s n s1, runs s n .vconnStable = true → s1 = startTimer (stopTimer s n .vconnStable) n .discoverIdentity →
      (s1.pde n).vconn = true → (s1.pde n).cable = none → (s1.pde n).discN < 20 → (s1.pde n).pe = .startup →
      Ends (.discoverIdentityStart n) s
        (send (s1.modPde n (fun d => { d with discN := d.discN + 1 })) n .discoverIdentity)) ∧
  (∀ s n, runs s n .discoverIdentity = true → (s.pde n).vconn = true → (s.pde n).cable = none → (s.pde n).pe = .startup →
      (s.pde n).discN < 2 → Ends (.discoverIdentityRetry n) s
        (send (s.modPde n (fun d => { d with discN := d.discN + 1 })) n .discoverIdentity)) ∧
  (∀ s n, runs s n .discoverIdentity = true → (s.pde n).vconn = true → (s.pde n).cable = none → (s.pde n).pe = .startup →
      2 ≤ (s.pde n).discN → Ends (.discoverIdentityRetry n) s (sendCaps s n)) ∧
  (∀ s n, runs s n .discoverIdentity = true → (s.pde n).pe = .ready → 20 ≤ (s.pde n).discN →
      Ends (.discoverIdentityRetry n) s (stopTimer s n .discoverIdentity)) ∧
  (∀ s n s1, runs s n .discoverIdentity = true → (s.pde n).pe = .ready → (s.pde n).vconn = true → (s.pde n).cable = none →
      (s.pde n).discN < 20 → s1 = s.modPde n (fun d => { d with disc := 1 }) → (s1.pde n).ng = false →
      Ends (.discoverIdentityRetry n) s (startOwn s1 n)) ∧
  (∀ s n id rev a5 mv epr s1, (s.pde n).vconn = true → (s.pde n).cable = none → 0 < (s.pde n).discN → (s.pde n).rxIdP ≠ some id →
      s1 = s.modPde n (fun d => { d with goodCrc := some id, rxIdP := some id }) →
      Ends (.cableIdentity n id rev a5 mv epr) s
        (discOver (markCaps (pdEvent ((stopTimer s1 n .discoverIdentity).modPde n (fun d => { d with
          cable := some { amps5 := a5, maxMv := mv, epr := epr && decide (50000 ≤ mv), rev := rev }
          revP := some (min 2 rev) })) n 0xD) n) n)) ∧
  (∀ s n id rev a5 mv epr, (s.pde n).vconn = true → (s.pde n).rxIdP = some id →
      Ends (.cableIdentity n id rev a5 mv epr) s (s.modPde n (fun d => { d with goodCrc := some id, rxIdP := some id }))) ∧
  (∀ s n id rev a5 mv epr, (s.pde n).vconn = false → Ends (.cableIdentity n id rev a5 mv epr) s s)

/-- Requests, EPR entry and exit, and requests for capabilities, heard by a port (R144, R145, R149, R152, R153). -/
def Obligations.PowerNegotiation : Prop :=
  (∀ s h t rdo, Hears s h → t = heard s h → (t.pde h.port).cc = .attachedSrc → (t.pde h.port).epr = false →
      (t.pde h.port).pe = .ready ∨ (t.pde h.port).pe = .sendCaps →
      Ends (.request h rdo) s (evalRequest t h.port rdo none h.rev)) ∧
  (∀ s h t rdo, Hears s h → t = heard s h → (t.pde h.port).cc = .attachedSrc → (t.pde h.port).epr = true →
      (t.pde h.port).pe = .ready ∨ (t.pde h.port).pe = .sendCaps → Ends (.request h rdo) s (sendHardReset t h.port)) ∧
  (∀ s h t rdo, Hears s h → t = heard s h → (t.pde h.port).cc ≠ .attachedSrc →
      Ends (.request h rdo) s (protocolError t h.port)) ∧
  (∀ s h t rdo pdo, Hears s h → t = heard s h → (t.pde h.port).epr = true →
      (t.pde h.port).pe = .ready ∨ (t.pde h.port).pe = .sendCaps →
      Ends (.eprRequest h rdo pdo) s (evalRequest t h.port rdo (some pdo) h.rev)) ∧
  (∀ s h t rdo pdo, Hears s h → t = heard s h → (t.pde h.port).epr = false →
      Ends (.eprRequest h rdo pdo) s (protocolError t h.port)) ∧
  (∀ s n rdo copy rev c s1, (s.pde n).rev.isSome = true → bit rdo 26 = false → judge (s.pde n) rdo copy = some c →
      s1 = (stopTimer s n .senderResponse).modPde n (fun d => { d with
        mismatch := false
        lastReq := (rdo, if rdo / 2 ^ 28 % 16 = 0 then 0 else (s.pde n).caps.getD (rdo / 2 ^ 28 % 16 - 1) 0) }) →
      evalRequest s n rdo copy rev = send (pbaTrigger ((s1.modPb n (fun b => { b with mism := false })).modPde n (fun d =>
        { d with pe := .transition, contract := some c, pend := some c })) 0) n .accept) ∧
  (∀ d rdo copy, rdo / 2 ^ 28 % 16 = 0 → judge d rdo copy = none) ∧
  (∀ s h t pdp, Hears s h → t = heard s h → (t.pde h.port).cc = .attachedSrc → (t.pde h.port).rev.getD 2 = 2 →
      enterReason t h.port = 0 →
      Ends (.eprModeEnter h pdp) s (send (t.modPde h.port (fun d => { d with pe := .eprEntry })) h.port (.eprMode 2 0))) ∧
  (∀ s h t pdp, Hears s h → t = heard s h → (t.pde h.port).cc = .attachedSrc → (t.pde h.port).rev.getD 2 = 2 →
      enterReason t h.port ≠ 0 → Ends (.eprModeEnter h pdp) s
        (send (pdEvent t h.port 5 (enterReason t h.port)) h.port (.eprMode 4 (enterReason t h.port)))) ∧
  (∀ s h t pdp, Hears s h → t = heard s h → (t.pde h.port).cc ≠ .attachedSrc ∨ (t.pde h.port).rev.getD 2 ≠ 2 →
      Ends (.eprModeEnter h pdp) s (unsupported t h.port)) ∧
  (∀ s h t c, Hears s h → t = heard s h → (t.pde h.port).epr = true → (t.pde h.port).contract = some c → 20000 < c.mv →
      Ends (.eprModeExit h) s (sendHardReset t h.port)) ∧
  (∀ s h t c, Hears s h → t = heard s h → (t.pde h.port).epr = true → (t.pde h.port).contract = some c → c.mv ≤ 20000 →
      Ends (.eprModeExit h) s (sendCaps (pdEvent (stopTimer (t.modPde h.port (fun d => { d with epr := false }))
        h.port .eprKeepAlive) h.port 0xC) h.port)) ∧
  (∀ s h t, Hears s h → t = heard s h → (t.pde h.port).epr = false → Ends (.eprModeExit h) s t) ∧
  (∀ s h t, Hears s h → t = heard s h → (t.pde h.port).cc = .attachedSrc →
      ((t.pde h.port).pe = .ready ∧ (t.pde h.port).epr = false) ∨ (t.pde h.port).pe = .waitNewCaps →
      Ends (.getSourceCap h) s (sendCaps t h.port)) ∧
  (∀ s h t, Hears s h → t = heard s h → (t.pde h.port).cc = .attachedSrc → (t.pde h.port).pe = .ready →
      (t.pde h.port).epr = true → Ends (.getSourceCap h) s
        (send t h.port (.sourceCaps false (sprCaps t h.port ((t.pde h.port).rev.getD 2))))) ∧
  (∀ s h t, Hears s h → t = heard s h → (t.pde h.port).cc ≠ .attachedSrc → feedPresent t = true →
      Ends (.getSourceCap h) s (send t h.port (.sourceCaps false (sprCaps t h.port ((t.pde h.port).rev.getD 2))))) ∧
  (∀ s h t, Hears s h → t = heard s h → (t.pde h.port).cc ≠ .attachedSrc → feedPresent t = false →
      Ends (.getSourceCap h) s (unsupported t h.port)) ∧
  (∀ s h t, Hears s h → t = heard s h → (t.pde h.port).epr = true → (t.pde h.port).pe = .ready →
      Ends (.eprGetSourceCap h) s (sendCaps t h.port)) ∧
  (∀ s h t, Hears s h → t = heard s h → (t.pde h.port).epr = false → Ends (.eprGetSourceCap h) s (unsupported t h.port)) ∧
  (∀ s h t, Hears s h → t = heard s h → isUp h.port = false → (t.pde h.port).rev.getD 2 = 2 →
      Ends (.eprKeepalive h) s (send t h.port .eprKeepAliveAck)) ∧
  (∀ s h t, Hears s h → t = heard s h → isUp h.port = true ∨ (t.pde h.port).rev.getD 2 ≠ 2 →
      Ends (.eprKeepalive h) s (unsupported t h.port)) ∧
  (∀ s n, ((s.pde n).rev.getD 2 = 2 → unsupported s n = send s n .notSupported) ∧
      ((s.pde n).rev.getD 2 ≠ 2 → unsupported s n = send s n .reject))

/-- Queries, refusals and messages without a rule, heard by any port (R1–R3, R136, R144, R145, R147, R163). -/
def Obligations.MessagesOfEveryPort : Prop :=
  (∀ s h t, Hears s h → t = heard s h → isUp h.port = true →
      Ends (.getSinkCap h) s (send t h.port (.sinkCaps (sinkCapsOf (t.pde h.port))))) ∧
  (∀ s h t, Hears s h → t = heard s h → isUp h.port = false → Ends (.getSinkCap h) s (unsupported t h.port)) ∧
  (∀ s h t, Hears s h → t = heard s h → (t.pde h.port).cc = .attachedSrc → (t.pde h.port).rev.getD 2 = 2 →
      Ends (.getSourceCapExtended h) s (send t h.port (.sourceCapsExt (sourceCapsExt t h.port)))) ∧
  (∀ s h t, Hears s h → t = heard s h → (t.pde h.port).rev.getD 2 = 2 → Ends (.getStatus h) s
      (send (t.modPde h.port (fun d => { d with ocp := false, otp := false })) h.port (.status (statusBytes t h.port)))) ∧
  (∀ s h t c, Hears s h → t = heard s h → (t.pde h.port).cc = .attachedSrc → (t.pde h.port).rev.getD 2 = 2 →
      (t.pde h.port).contract = some c → c.kind = 1 → Ends (.getPpsStatus h) s
        (send t h.port (.ppsStatus (leBytes 2 ((t.ppc h.port).meter.vbus / 20) ++
          leBytes 1 ((t.ppc h.port).meter.ibus.toNat / 50) ++ [0])))) ∧
  (∀ s h t, Hears s h → t = heard s h → (t.pde h.port).contract = none ∨ (t.pde h.port).cc ≠ .attachedSrc →
      Ends (.getPpsStatus h) s (unsupported t h.port)) ∧
  (∀ s h t p, Hears s h → t = heard s h → (t.pde h.port).cc = .attachedSrc → (t.pde h.port).rev.getD 2 = 2 →
      p = min ((t.pb h.port).alloc / 10) 240 → Ends (.getSourceInfo h) s (send t h.port (.sourceInfo (at_ 16
        (min ((t.pde h.port).set.vmax * (t.pde h.port).set.imax / 10) 240) + at_ 8 p + p)))) ∧
  (∀ s h t, Hears s h → t = heard s h → (t.pde h.port).rev.getD 2 = 2 →
      Ends (.getRevision h) s (send t h.port (.revision 0x31180000))) ∧
  (∀ s h t, Hears s h → t = heard s h → (t.pde h.port).rev.getD 2 ≠ 2 →
      Ends (.getSourceCapExtended h) s (send t h.port .reject) ∧ Ends (.getStatus h) s (send t h.port .reject) ∧
      Ends (.getPpsStatus h) s (send t h.port .reject) ∧ Ends (.getSourceInfo h) s (send t h.port .reject) ∧
      Ends (.getRevision h) s (send t h.port .reject)) ∧
  (∀ s h t, Hears s h → t = heard s h → Ends (.drSwap h) s (send t h.port .reject)) ∧
  (∀ s h t, Hears s h → t = heard s h → (t.pde h.port).rev.getD 2 = 2 →
      Ends (.vconnSwap h) s (send t h.port .notSupported) ∧
      (∀ vdos, Ends (.vendorDefined h vdos) s (send t h.port .notSupported)) ∧
      Ends (.unsupportedMessage ⟨h, none⟩) s (send t h.port .notSupported)) ∧
  (∀ s h t, Hears s h → t = heard s h → (t.pde h.port).rev.getD 2 ≠ 2 →
      Ends (.vconnSwap h) s (send t h.port .reject) ∧ (∀ vdos, Ends (.vendorDefined h vdos) s (send t h.port .reject)) ∧
      Ends (.unsupportedMessage ⟨h, none⟩) s (send t h.port .reject)) ∧
  (∀ s h t, Hears s h → t = heard s h → Ends (.ping h) s t) ∧
  (∀ s h t m, Hears s h → t = heard s h → m = 5 ∨ m = 8 →
      ((t.pde h.port).contract = none → Ends (.bist h m) s (t.modPde h.port (fun d => { d with bist := m }))) ∧
      (∀ c, (t.pde h.port).contract = some c → c.mv = 5000 →
        Ends (.bist h m) s (t.modPde h.port (fun d => { d with bist := m }))) ∧
      (∀ c, (t.pde h.port).contract = some c → c.mv ≠ 5000 → Ends (.bist h m) s t)) ∧
  (∀ s h t ado, Hears s h → t = heard s h →
      ((t.pde h.port).contract = none → Ends (.alert h ado) s (pdEventWith t h.port 0x16 (some (ado, 0)) 0)) ∧
      (∀ c, (t.pde h.port).contract = some c → Ends (.alert h ado) s (pdEventWith t h.port 0x16 (some (ado, c.pdo)) 0))) ∧
  (∀ s h t, Hears s h → t = heard s h → runs (pdEvent t h.port 0x17) h.port .senderResponse = false →
      Ends (.notSupported h) s (pdEvent t h.port 0x17)) ∧
  (∀ s h t t1, Hears s h → t = heard s h → t1 = pdEvent t h.port 0x17 → runs t1 h.port .senderResponse = true →
      (t1.pde h.port).pe ≠ .sendCaps → (t1.pde h.port).soft = false → Ends (.notSupported h) s
        (amsEnd (stopTimer (t1.modPde h.port (fun d => { d with swap := none, pend := none })) h.port .senderResponse) h.port))

/-- A sink upstream's capabilities and contract, and the role swaps (R141, R145, R159–R161). -/
def Obligations.SinkAndSwapMessages : Prop :=
  (∀ s h t pdos, Hears s h → t = heard s h → (t.pde h.port).cc = .attachedSrc →
      Ends (.sourceCapabilities h pdos) s (protocolError t h.port)) ∧
  (∀ s h t pdos t1, Hears s h → t = heard s h → (t.pde h.port).cc = .attachedSnk → t1 = storeSrcCaps t h pdos →
      sinkChoice (t1.pde h.port).set.snkVmax 1 pdos = none → Ends (.sourceCapabilities h pdos) s t1) ∧
  (∀ s h t pdos t1 pos p, Hears s h → t = heard s h → (t.pde h.port).cc = .attachedSnk → t1 = storeSrcCaps t h pdos →
      sinkChoice (t1.pde h.port).set.snkVmax 1 pdos = some (pos, p) → Ends (.sourceCapabilities h pdos) s
        (sinkRequest t1 h.port pos p)) ∧
  (∀ d pos p, sinkRdo d pos p = at_ 28 pos + at_ 26 (b2n (sinkShort d p)) + at_ 25 1 +
      at_ 10 (min (p % 1024 * 10) (d.set.snkImax * 100) / 10) + min (p % 1024 * 10) (d.set.snkImax * 100) / 10) ∧
  (∀ s h t pdos, Hears s h → t = heard s h → isUp h.port = false ∨ runs t h.port .senderResponse = false →
      Ends (.sinkCapabilities h pdos) s t) ∧
  (∀ s h t pdos t1, Hears s h → t = heard s h → isUp h.port = true → runs t h.port .senderResponse = true →
      t1 = stopTimer t h.port .senderResponse →
      Ends (.sinkCapabilities h pdos) s (amsEnd (t1.modPde h.port (fun d => { d with
        snkCaps := pdos, frs := ({ d with snkCaps := pdos } : Pde).frsArmed })) h.port)) ∧
  (∀ d : Pde, d.set.upFrs = false → d.frsArmed = false) ∧
  (∀ s h t, Hears s h → t = heard s h → (t.pde h.port).soft = false → (t.pde h.port).swap = none →
      (t.pde h.port).cc = .attachedSnk → (t.pde h.port).pend.isSome = true → (t.pde h.port).accepted = false →
      Ends (.accept h) s (stopTimer (t.modPde h.port (fun d => { d with accepted := true })) h.port .senderResponse)) ∧
  (∀ s h t w, Hears s h → t = heard s h → (t.pde h.port).soft = false → (t.pde h.port).swap = some w → w.fast = false →
      w.stage = 0 → runs t h.port .senderResponse = true → Ends (.accept h) s
        (startTimer ((stopTimer t h.port .senderResponse).modPde h.port (fun d => { d with swap := some { w with stage := 2 } }))
          h.port (if w.fromSource then .srcTransition else .psSourceOff))) ∧
  (∀ s h t t1, Hears s h → t = heard s h → (t.pde h.port).soft = true → runs t h.port .senderResponse = true →
      t1 = stopTimer (t.modPde h.port (fun d => { d with soft := false })) h.port .senderResponse →
      (t1.pde h.port).cc = .attachedSrc → Ends (.accept h) s (startup t1 h.port)) ∧
  (∀ s h t, Hears s h → t = heard s h → (t.pde h.port).soft = false → (t.pde h.port).pe ≠ .sendCaps →
      runs t h.port .senderResponse = true → ∃ u : State,
      u = amsEnd (stopTimer (t.modPde h.port (fun d => { d with pend := none, accepted := false, swap := none })) h.port
        .senderResponse) h.port ∧ Ends (.reject h) s u ∧ Ends (.wait h) s u) ∧
  (∀ s h t, Hears s h → t = heard s h → (t.pde h.port).soft = true ∨ (t.pde h.port).pe = .sendCaps →
      Ends (.reject h) s t ∧ Ends (.wait h) s t) ∧
  (∀ s h t, Hears s h → t = heard s h → (t.pde h.port).swap = none → (t.pde h.port).cc = .attachedSnk →
      (t.pde h.port).accepted = true → Ends (.psRdy h) s
        (pbaTrigger (amsEnd (pdEvent (t.modPde h.port (fun d => { d with
          contract := d.pend, pend := none, accepted := false, pe := .snkContract })) h.port 3) h.port) 0)) ∧
  (∀ s h t w, Hears s h → t = heard s h → (t.pde h.port).swap = some w → w.fast = false → w.fromSource = true → w.stage = 4 →
      Ends (.psRdy h) s (becomeSink t h.port 0x13)) ∧
  (∀ s h t w, Hears s h → t = heard s h → (t.pde h.port).swap = some w → w.fast = true → w.stage = 4 → Ends (.psRdy h) s
      (becomeSink (raiseAt t w.at_ (360 + 12 * (upOfPort h.port).code) 0x14 (pdData t h.port none 0)) h.port 0x14)) ∧
  (∀ s h t w t1, Hears s h → t = heard s h → (t.pde h.port).swap = some w → w.fast = false → w.fromSource = false →
      w.stage = 2 → t1 = (stopTimer t h.port .psSourceOff).modPde h.port (fun d => { d with
        cc := .attachedSrc, pe := .stopped, accepted := false, swap := some { w with stage := 3 } }) → Ends (.psRdy h) s
      (vbusOn (vconnOn (pbaTrigger ((dropContract t1 h.port).modPpc h.port (fun q => { q with gsnk := false })) 0) h.port) h.port)) ∧
  (∀ s h t, Hears s h → t = heard s h → isUp h.port = false → Ends (.prSwap h) s (send t h.port .reject)) ∧
  (∀ s h t, Hears s h → t = heard s h → isUp h.port = true → (t.pde h.port).swap = none → (t.pde h.port).soft = false →
      (t.pde h.port).pe ≠ .hardReset → (t.pde h.port).pe ≠ .toDefault → (t.pde h.port).cc = .attachedSrc →
      ((t.pde h.port).set.upPrSwap = true → Ends (.prSwap h) s (takePrSwap t h.port)) ∧
      ((t.pde h.port).set.upPrSwap = false → Ends (.prSwap h) s (send t h.port .reject))) ∧
  (∀ s h t, Hears s h → t = heard s h → isUp h.port = true → (t.pde h.port).swap = none → (t.pde h.port).soft = false →
      (t.pde h.port).pe ≠ .hardReset → (t.pde h.port).pe ≠ .toDefault → (t.pde h.port).cc = .attachedSnk →
      (t.pba.trigger.isSome = true → Ends (.prSwap h) s (send t h.port .wait)) ∧
      (t.pba.trigger = none → feedPresent t = true → 150 ≤ allocAsSource t h.port → Ends (.prSwap h) s (takePrSwap t h.port)) ∧
      (t.pba.trigger = none → feedPresent t = false ∨ allocAsSource t h.port < 150 →
        Ends (.prSwap h) s (send t h.port .reject))) ∧
  (∀ s h t, Hears s h → t = heard s h → isUp h.port = false → Ends (.frSwap h) s (unsupported t h.port)) ∧
  (∀ s h t w, Hears s h → t = heard s h → isUp h.port = true → (t.pde h.port).swap = some w → w.fast = true → w.stage = 1 →
      Ends (.frSwap h) s (send (stopTimer (t.modPde h.port (fun d => { d with swap := some { w with stage := 2 } })) h.port
        .frSwapWait) h.port .accept)) ∧
  (∀ s h t, Hears s h → t = heard s h → isUp h.port = true → (t.pde h.port).swap = none →
      Ends (.frSwap h) s (protocolError t h.port))

/-- Soft_Reset and Hard Reset received (R150, R155, R156, R160, R162), and the ends of the timers of a Hard Reset (R140, R150,
R151, R156, R157). That a Soft_Reset ends a PR_Swap in the role of the moment is the model's choice (log entry 56). -/
def Obligations.ResetsOfTheProtocol : Prop :=
  (∀ s h t1 t2, h.port ≠ 0 → (s.pde h.port).live = true →
      t1 = (softSwap (pdEvent (heard s h) h.port 6) h.port).modPde h.port (fun d => { d with
        txId := 0, txIdP := 0, tx := none, retries := 0, soft := false, ng := false, pend := none, accepted := false,
        disc := 0, rxChunk := none, timers := d.timers.filter (fun t => t == .eprKeepAlive || t == .ppsTimeout ||
          t == .discoverIdentity || t == .vconnStable || t == .frsSignal || t == .frSwapWait) }) →
      t2 = (if (t1.pde h.port).cc = .attachedSrc
        then t1.modPde h.port (fun d => { d with pe := if d.swap.isNone then .startup else d.pe }) else t1) →
      Ends (.softReset h) s (send t2 h.port .accept)) ∧
  (∀ s n, (s.pde n).swap = none → softSwap s n = s) ∧
  (∀ s n w, (s.pde n).swap = some w → w.fast = true → softSwap s n = s) ∧
  (∀ s n, (s.pde n).pe = .stopped → (s.pde n).swap = none → Ends (.hardResetSignal n) s s) ∧
  (∀ s n, (s.pde n).pe = .disabled → Ends (.hardResetSignal n) s (startup (pdEvent s n 8) n)) ∧
  (∀ s n s1, (s.pde n).pe = .ready ∨ (s.pde n).pe = .sendCaps ∨ (s.pde n).pe = .transition ∨ (s.pde n).pe = .snkContract ∨
        ((s.pde n).pe = .stopped ∧ (s.pde n).swap.isSome = true) → s1 = swapFails (pdEvent s n 8) n 0 →
      (s1.pde n).cc ≠ .deadBattery → Ends (.hardResetSignal n) s (hardReset s1 n)) ∧
  (∀ s n, (s.pde n).swap = none → ∀ c, swapFails s n c = s) ∧
  (∀ s n, 2 < (s.pde n).hardN → ∀ c, sendHardReset s n c = giveUp s n) ∧
  (∀ s n, runs s n .noResponse = true → Ends (.noResponseExpiry n) s (giveUp (stopTimer s n .noResponse) n)) ∧
  (∀ s n, (s.pde n).talked = true → giveUp s n = (vbusOff ((pdStop (pdEvent s n 0xA) n).modPde n (fun d =>
      { d with cc := .errorRecovery, vconn := false })) n).modPpc n (fun q => { q with gsnk := false })) ∧
  (∀ s n, (s.pde n).talked = false → giveUp s n =
      vbusOn ((pdStop (pdEvent s n 9) n).modPde n (fun d => { d with pe := .disabled })) n) ∧
  (∀ s n, runs s n .psHardReset = true → ∃ s1 : State,
      s1 = (stopTimer (stopTimer s n .psHardReset) n .hardResetComplete).modPde n (fun d =>
        { d with pe := .toDefault, vconn := false }) ∧
      Ends (.psHardResetExpiry n) s (startTimer (vbusOff s1 n) n (if (s1.ppc n).gate then .safe0V else .srcRecover))) ∧
  (∀ s n, runs s n .safe0V = true → (s.pde n).heldTold = false → Ends (.safe0vExpiry n) s
      (startTimer (stopTimer (pdEvent (s.modPde n (fun d => { d with heldTold := true })) n 0x12) n .safe0V) n .srcRecover)) ∧
  (∀ s n, runs s n .safe0V = true → (s.pde n).heldTold = true →
      Ends (.safe0vExpiry n) s (startTimer (stopTimer s n .safe0V) n .srcRecover)) ∧
  (∀ s n, runs s n .srcRecover = true → ((stopTimer s n .srcRecover).pde n).cc = .attachedSrc →
      Ends (.srcRecoverExpiry n) s (vbusOn (vconnOn (stopTimer s n .srcRecover) n) n)) ∧
  (∀ s n, Ends (.hardResetCompleteExpiry n) s (stopTimer s n .hardResetComplete)) ∧
  (∀ s n, (runs s n .noResponse = false → Ends (.noResponseExpiry n) s s) ∧
      (runs s n .psHardReset = false → Ends (.psHardResetExpiry n) s s) ∧
      (runs s n .safe0V = false → Ends (.safe0vExpiry n) s s) ∧ (runs s n .srcRecover = false → Ends (.srcRecoverExpiry n) s s))

/-- The ends of the policy timers: readvertising, the transition, and the timers whose end is a Hard Reset with its cause
(R23, R150–R155, R160, R161, R163, R211). -/
def Obligations.TimersOfTheProtocol : Prop :=
  (∀ s n s1, s1 = markCaps s n → (s1.pde n).amsIdle = true → (s1.pde n).readv = true → (s1.pde n).avoids = false →
      Ends (.capsReadvertise n) s (sendCaps s1 n)) ∧
  (∀ s n s1, s1 = markCaps s n → (s1.pde n).amsIdle = true → (s1.pde n).readv = true → (s1.pde n).avoids = true →
      (s1.pde n).ng = false →
      Ends (.capsReadvertise n) s (startTimer (s1.modPde n (fun d => { d with ng := true })) n .sinkTx)) ∧
  (∀ s n s1, s1 = markCaps s n → (s1.pde n).amsIdle = false → Ends (.capsReadvertise n) s s1) ∧
  (∀ s n, runs s n .typeCSendSourceCap = true → 50 < ((stopTimer s n .typeCSendSourceCap).pde n).capsN →
      Ends (.typecSendSourceCapExpiry n) s
        (pdEvent ((stopTimer s n .typeCSendSourceCap).modPde n (fun d => { d with pe := .disabled })) n 9)) ∧
  (∀ s n, runs s n .typeCSendSourceCap = true → ((stopTimer s n .typeCSendSourceCap).pde n).capsN ≤ 50 →
      Ends (.typecSendSourceCapExpiry n) s (sendCaps (stopTimer s n .typeCSendSourceCap) n)) ∧
  (∀ s n s1, runs s n .senderResponse = true → s1 = stopTimer s n .senderResponse → (s1.pde n).pe = .sendCaps →
      contractPower s1 n ≤ tenths (s1.pb n).alloc → Ends (.senderResponseExpiry n) s (sendHardReset s1 n 1)) ∧
  (∀ s n s1, runs s n .senderResponse = true → s1 = stopTimer s n .senderResponse → (s1.pde n).pe = .sendCaps →
      tenths (s1.pb n).alloc < contractPower s1 n →
      Ends (.senderResponseExpiry n) s (sendHardReset (shortfallEvent s1 n 1) n 1)) ∧
  (∀ s n s1, runs s n .senderResponse = true → s1 = stopTimer s n .senderResponse → (s1.pde n).pe ≠ .sendCaps →
      (s1.pde n).soft = true → Ends (.senderResponseExpiry n) s (sendHardReset s1 n 1)) ∧
  (∀ s n s1, runs s n .senderResponse = true → s1 = stopTimer s n .senderResponse → (s1.pde n).pe = .ready →
      (s1.pde n).soft = false → (s1.pde n).cc = .attachedSrc →
      Ends (.senderResponseExpiry n) s (amsEnd (s1.modPde n (fun d => { d with swap := none })) n)) ∧
  (∀ s n s1 c, runs s n .srcTransition = true → s1 = stopTimer s n .srcTransition → (s1.pde n).swap = none →
      (s1.pde n).contract = some c → c.kind ≠ 1 → ((setCc s1 n none).ppc n).mv = c.mv →
      ((setCc s1 n none).ppc n).pg = true → ((setCc s1 n none).ppc n).st = .on →
      Ends (.srcTransitionExpiry n) s (send (setCc s1 n none) n .psRdy)) ∧
  (∀ s n s1 c, runs s n .srcTransition = true → s1 = stopTimer s n .srcTransition → (s1.pde n).swap = none →
      (s1.pde n).contract = some c → c.kind ≠ 1 → ((setCc s1 n none).ppc n).mv = c.mv →
      ((setCc s1 n none).ppc n).pg = false → Ends (.srcTransitionExpiry n) s (setCc s1 n none)) ∧
  (∀ s n s1 c s2 s3, runs s n .srcTransition = true → s1 = stopTimer s n .srcTransition → (s1.pde n).swap = none →
      (s1.pde n).contract = some c → c.kind ≠ 1 → s2 = setCc s1 n none → (s2.ppc n).mv ≠ c.mv → (s2.ppc n).st = .on →
      s3 = s2.modPpc n (fun q => { q with st := .transition, pg := false, oldMv := q.mv, oldOv := q.ovSelf, mv := c.mv
                                          safe5 := false, under := false }) →
      Ends (.srcTransitionExpiry n) s
        (setVout (setSlew (s3.modPpc n (fun q => { q with dsch := q.assist q.meter.vbus })) n) n c.mv)) ∧
  (∀ s n w, runs s n .srcTransition = true → ((stopTimer s n .srcTransition).pde n).swap = some w →
      Ends (.srcTransitionExpiry n) s (vbusOff (stopTimer s n .srcTransition) n)) ∧
  (∀ s n, (runs s n .srcSettle = true → Ends (.srcSettleExpiry n) s (sendHardReset (stopTimer s n .srcSettle) n 2)) ∧
      (runs s n .enterEpr = true → Ends (.enterEprExpiry n) s (sendHardReset (stopTimer s n .enterEpr) n 3)) ∧
      (runs s n .eprKeepAlive = true → Ends (.sourceEprKeepaliveExpiry n) s
        (sendHardReset (pdEvent (stopTimer s n .eprKeepAlive) n 0xF 4) n 4)) ∧
      (runs s n .ppsTimeout = true → Ends (.ppsTimeoutExpiry n) s
        (sendHardReset (pdEvent (stopTimer s n .ppsTimeout) n 0xF 5) n 5))) ∧
  (∀ s n, (runs s n .srcSettle = false → Ends (.srcSettleExpiry n) s s) ∧
      (runs s n .enterEpr = false → Ends (.enterEprExpiry n) s s) ∧
      (runs s n .eprKeepAlive = false → Ends (.sourceEprKeepaliveExpiry n) s s) ∧
      (runs s n .ppsTimeout = false → Ends (.ppsTimeoutExpiry n) s s) ∧
      (runs s n .senderResponse = false → Ends (.senderResponseExpiry n) s s) ∧
      (runs s n .srcTransition = false → Ends (.srcTransitionExpiry n) s s)) ∧
  (∀ s u n, n = portOfUp u →
      (runs s n .psSourceOff = true → Ends (.psSourceOffExpiry u) s (sendHardReset (stopTimer s n .psSourceOff) n 6)) ∧
      (runs s n .psSourceOn = true → Ends (.psSourceOnExpiry u) s (sendHardReset (stopTimer s n .psSourceOn) n 7)) ∧
      (runs s n .swapSourceStart = true → Ends (.swapSourceStartExpiry u) s (startup (stopTimer s n .swapSourceStart) n)) ∧
      (runs s n .frSwapWait = true → Ends (.frSwapWaitExpiry u) s (swapFails (stopTimer s n .frSwapWait) n 8))) ∧
  (∀ s u n w, n = portOfUp u → (s.pde n).swap = some w → runs s n .frsSignal = true → Ends (.frsSignalEnd u) s
      (startTimer (pbaTrigger (vbusOff ((dropContract (stopTimer s n .frsSignal) n).modPde n (fun d =>
        { d with swap := some { w with stage := 1 } })) n) 0) n .frSwapWait))

/-- Turning a path on and off, the converter check, power-good and the discharge (R23, R150, R151, R160, R166, R167, R176, R179,
R183, R186, R187, R377). -/
def Obligations.PowerPaths : Prop :=
  (∀ s n, (s.pde n).cc = .attachedSrc → Ends (.vbusRequest n) s (tryOn (s.modPpc n (fun q => { q with req := true })) n)) ∧
  (∀ s n, (s.pde n).cc = .idle → Ends (.vbusRequest n) s (tryOn s n)) ∧
  (∀ s n, (s.ppc n).st = .off → vbusWanted s n = true → tryOn s n = enterCheck s n) ∧
  (∀ s n, (s.ppc n).st = .off → vbusWanted s n = false → tryOn s n = s) ∧
  (∀ s n, enterCheck s n = applyLimit (setOp (setVout (s.modPpc n (fun q => { q with
      st := .convCheck, backTold := false, retryWait := false, mv := 5000, oldMv := 5000, oldOv := 6000
      safe5 := true })) n 5000) n true) n) ∧
  (∀ s n s1, s1 = s.modPpc n (fun q => { q with req := false }) →
      (s1.ppc n).st = .on ∨ (s1.ppc n).st = .ramp ∨ (s1.ppc n).st = .transition ∨ (s1.ppc n).st = .frozen →
      Ends (.offRequest n) s (setVout (linkDown ((s1.modPpc n (fun q => { q with
        st := .discharge, pg := false, dsch := true, under := false, ovSeen := false })).modPde n
          (fun d => { d with heldTold := false })) n) n 5000)) ∧
  (∀ s n s1, s1 = s.modPpc n (fun q => { q with req := false }) → (s1.ppc n).st = .convCheck → Ends (.offRequest n) s
      (idleConverter (s1.modPpc n (fun q => { q with st := .off, retryWait := false })) n)) ∧
  (∀ s n s1, s1 = s.modPpc n (fun q => { q with req := false }) →
      (s1.ppc n).st = .off ∨ (s1.ppc n).st = .tripped ∨ (s1.ppc n).st = .discharge → Ends (.offRequest n) s s1) ∧
  (∀ s n, (s.ppc n).st = .convCheck → (s.ppc n).retryWait = false → Ends (.converterCheckPass n) s
      (s.modPpc n (fun q => { q with
        st := .ramp, dsch := false, slew := q.set.gateSlew, halved := false, over80 := false, ovSeen := false }))) ∧
  (∀ s n, (s.ppc n).st = .convCheck → (s.ppc n).retryWait = false → Ends (.converterNotReady n) s
      (setOp ((powerEvent s n 5 5 (s.ppc n) 0).modPpc n (fun q => { q with retryWait := true })) n false)) ∧
  (∀ s n, (s.ppc n).st = .convCheck → (s.ppc n).retryWait = true → vbusWanted s n = true →
      Ends (.converterRetry n) s (enterCheck s n)) ∧
  (∀ s n, (s.ppc n).st = .convCheck → (s.ppc n).retryWait = true → vbusWanted s n = false → Ends (.converterRetry n) s
      (idleConverter (s.modPpc n (fun q => { q with st := .off, retryWait := false })) n)) ∧
  (∀ s n s1, (s.ppc n).fault = 0 → (s.ppc n).st = .transition →
      s1 = s.modPpc n (fun q => { q with st := .on, pg := true, under := false, dsch := false }) →
      ((s1.pde n).pe = .transition → runs s1 n .srcTransition = false → Ends (.powerGood n) s (send s1 n .psRdy)) ∧
      ((s1.pde n).pe ≠ .transition ∨ runs s1 n .srcTransition = true → Ends (.powerGood n) s s1)) ∧
  (∀ s n s1, (s.ppc n).fault = 0 → (s.ppc n).st = .ramp → isUp n = false → s1 = dpePower (s.modPpc n (fun q => { q with
        st := .on, pg := true, under := false, slewHeld := if q.halved then q.slewHeld else false })) n →
      ((s1.pde n).cc = .attachedSrc → (s1.pde n).swap = none → (s1.pde n).pe = .stopped ∨ (s1.pde n).pe = .toDefault →
        Ends (.powerGood n) s (startup s1 n)) ∧
      ((s1.pde n).cc = .idle → Ends (.powerGood n) s s1)) ∧
  (∀ s n, (s.ppc n).fault ≠ 0 → Ends (.powerGood n) s s) ∧
  (∀ s n, (s.pde n).tx = some .psRdy → (s.pde n).pe = .transition → Ends (.psRdyEop n) s
      (applyLimit (s.modPpc n (fun q => { q with safe5 := (s.pde n).contract.isNone })) n)) ∧
  (∀ s n, (s.pde n).pe ≠ .transition → Ends (.psRdyEop n) s s) ∧
  (∀ s n, (s.ppc n).dsch = true → Ends (.dischargeDone n) s (dischargeEnd (zeroVolts s n) n) ∧
      Ends (.dischargeTimeout n) s (dischargeEnd (vbusHeld s n) n)) ∧
  (∀ s n, (s.ppc n).dsch = false → Ends (.dischargeDone n) s s ∧ Ends (.dischargeTimeout n) s s) ∧
  (∀ s n, (s.ppc n).st ≠ .discharge → ∃ s1 : State,
      s1 = s.modPpc n (fun q => { q with dsch := false, st := if q.st = .discharge then .off else q.st }) ∧
      dischargeEnd s n = s1) ∧
  (∀ s n, (runs s n .safe0V = true → zeroVolts s n = startTimer (stopTimer s n .safe0V) n .srcRecover) ∧
      (runs s n .safe0V = false → (s.pde n).swap = none → zeroVolts s n = s)) ∧
  (∀ s u r, (s.pde (portOfUp u)).cc = .attachedSnk → Ends (.sinkPathIdealDiode u r) s
      (s.modPpc (portOfUp u) (fun q => { q with gsnk := !r }))) ∧
  (∀ s u r, (s.pde (portOfUp u)).cc ≠ .attachedSnk → Ends (.sinkPathIdealDiode u r) s s) ∧
  (∀ s n w, (s.ppc n).cycle = some w → (s.ppc n).cool = 0 → Ends (.powerCycleOffEnd n) s
      (powerOn (clearTrip (s.modPpc n (fun q => { q with cycle := none })) n) n)) ∧
  (∀ s n, (s.ppc n).cool ≠ 0 → Ends (.powerCycleOffEnd n) s s)

/-- Each trip carries its source offset and code and acts only with the gate on; the meters take their samples; tCOOL ends
(R134, R158, R174–R177, R185, R186, R190, R191, R193, R194). -/
def Obligations.TripsAndMeters : Prop :=
  (∀ s n, (s.ppc n).gate = true →
      Ends (.slowTrip n) s (trip (s.modPpc n (fun q => { q with fault := q.set.tfault * 4 })) n 3 1) ∧
      Ends (.fastTrip n) s (trip s n 2 1) ∧ Ends (.reverseTrip n) s (trip s n 4 1)) ∧
  (∀ s n, (s.ppc n).st = .on → Ends (.undervoltTrip n) s (trip s n 5 3)) ∧
  (∀ s n, (s.ppc n).st ≠ .on → Ends (.undervoltTrip n) s s) ∧
  (∀ s n, (s.ppc n).st = .ramp → Ends (.turnOnTimeout n) s (trip s n 5 7)) ∧
  (∀ s n, (s.ppc n).st ≠ .ramp → Ends (.turnOnTimeout n) s s) ∧
  (∀ s n, (s.ppc n).gate = false → Ends (.slowTrip n) s s ∧ Ends (.fastTrip n) s s ∧ Ends (.reverseTrip n) s s) ∧
  (∀ s n trips cool m s1 alert s2, (s.ppc n).gate = true → trips = min 255 ((s.ppc n).trips + 1) →
      cool = coolFor (s.ppc n) trips →
      m = s.modPpc n (fun q => { q with
        st := .tripped, pg := false, dsch := true, trips := trips, tripK := 2, tripAt := s.ticks, cool := cool
        clear := false, under := false, ovSeen := false }) →
      s1 = powerEvent m n 2 1 (s.ppc n) cool →
      alert = (if ((s1.pde n).contract.isSome && (s1.pde n).rev == some 2) = true then some (PdMsg.alert 0x04000000) else none) →
      s2 = (pdStop s1 n).modPde n (fun d => { d with vconn := false, ocp := true, heldTold := false, tx := alert }) →
      (isUp n = true → Ends (.fastTrip n) s s2) ∧
      (isUp n = false → Ends (.fastTrip n) s (syncPort (linkDown (overCurrent (s2.modPde n (fun d =>
        { d with cc := match d.cc with | .attachedSrc => .tripped | c => c })) n) n) n))) ∧
  (∀ q n, (q.set.auto = true → coolFor q n = min 32000 (q.set.tcool * 2 ^ (min 16 (n - 1)))) ∧
      (q.set.auto = false → coolFor q n = q.set.tcool)) ∧
  (∀ s n s1, (s.ppc n).cool ≠ 0 → (s.ppc n).clear = false → (s.ppc n).set.auto = false →
      s1 = s.modPpc n (fun q => { q with cool := 0 }) → ((s1.pde n).cc ≠ .attachWaitCool → Ends (.coolDownEnd n) s s1) ∧
      ((s1.pde n).cc = .attachWaitCool → Ends (.coolDownEnd n) s (pbaTrigger (pdEvent (attachSource s1 n) n 1) 0))) ∧
  (∀ s n s1, (s.ppc n).cool ≠ 0 → (s.ppc n).clear = true ∨ (s.ppc n).set.auto = true →
      s1 = clearTrip (s.modPpc n (fun q => { q with cool := 0 })) n → (s1.pde n).cc ≠ .attachWaitCool →
      Ends (.coolDownEnd n) s s1) ∧
  (∀ s n, (s.ppc n).cool = 0 → Ends (.coolDownEnd n) s s) ∧
  (∀ s n, Ends (.tripCountReset n) s (s.modPpc n (fun q => { q with trips := 0 }))) ∧
  (∀ s n x s1, s1 = s.modPpc n (fun q =>
        { q with meter := q.meter.take x s.ticks (isUp n && (s.pde n).cc == .attachedSnk) }) →
      Ends (.meterSample (.path n x)) s (judgeSample (meterEvents s1 n (s.ppc n) x) n x)) ∧
  (∀ s t, Ends (.meterSample (.die false t)) s { s with sys := { s.sys with dieTemp := t } } ∧
      Ends (.meterSample (.die true t)) s { s with sys := { s.sys with dieTemp2 := t } }) ∧
  (∀ s k v, Ends (.meterSample (.vconn k v)) s { s with sys := { s.sys with vconnMv := modAt s.sys.vconnMv k (fun _ => v) } } ∧
      Ends (.meterSample (.reference k v)) s { s with sys := { s.sys with refs := modAt s.sys.refs k (fun _ => v) } }) ∧
  (∀ (m : Meter) x now sink, (m.take x now sink).vbus = x.vbus ∧ (m.take x now sink).ibus = x.ibus ∧
      (m.take x now sink).peak = max m.peak x.ibus.natAbs ∧
      (m.take x now sink).energy = (m.energy + energyOf ((x.vbus : Int) * x.ibus).toNat) % 2 ^ 72) ∧
  (∀ (m : Meter) x now, (m.take x now false).energyIn = m.energyIn ∧
      (m.take x now true).energyIn = (m.energyIn + energyOf (-((x.vbus : Int) * x.ibus)).toNat) % 2 ^ 72) ∧
  (∀ q reg, reg ≤ 16 → faultStep q reg = min (q.set.tfault * 4) (q.fault + 4 * reg - (16 - reg)))

/-- The PMBus segments: initialisation, completed and failed transactions, polling and alerts, by the chip that hosts the
segment (R168–R171, R224); a chip that listens takes setpoint and status from its partner's transactions (R225). -/
def Obligations.ConvertersAndSegments : Prop :=
  (∀ s n, s.chipActive = true → convUsable s n = true →
      Ends (.pmbusInit n) s (segNext (s.modConv n (fun c => { c with init := 1 })) (onSegB n))) ∧
  (∀ s n, s.chipActive = false ∨ convUsable s n = false → Ends (.pmbusInit n) s s) ∧
  (∀ s n, (s.conv n).addr = 0 ∨ (s.conv n).addr = 0x0C → convUsable s n = false) ∧
  (∀ s b seen t k d, (s.seg b).cur = some (t, k) → Ends (.pmbusTransactionDone b ⟨seen, .ok d⟩) s
      (segNext (txnOk (s.modSeg b (fun g => { g with cur := none })) b t d) b)) ∧
  (∀ s b t d, t.prio ≠ 1 →
      (t.code = 0x21 → txnOk s b t d = s.modConv t.conv (fun c => { c with vout := t.value })) ∧
      (t.code = 0x27 → txnOk s b t d = s.modConv t.conv (fun c => { c with slew := t.value / 100 })) ∧
      (t.code = 1 → txnOk s b t d = s.modConv t.conv (fun c => { c with on := t.value == 0x80 })) ∧
      (t.code = 0x79 → txnOk s b t d = statusRead s t.conv d)) ∧
  (∀ s b seen t k, (s.seg b).cur = some (t, k) → k < 2 → ∃ s1 : State,
      s1 = s.modSeg b (fun g => { g with cur := some (t, k + 1) }) ∧ Ends (.pmbusTransactionDone b ⟨seen, .addressNack⟩) s s1 ∧
      Ends (.pmbusTransactionDone b ⟨seen, .dataNack⟩) s s1 ∧ Ends (.pmbusTransactionDone b ⟨seen, .pec⟩) s s1 ∧
      Ends (.pmbusClockStretchTimeout b) s s1) ∧
  (∀ s b seen t k res kind s1, (s.seg b).cur = some (t, k) → 2 ≤ k → t.prio ≠ 1 →
      (res = .addressNack ∧ kind = 1) ∨ (res = .dataNack ∧ kind = 2) ∨ (res = TxnRes.pec ∧ kind = 3) →
      s1 = s.modSeg b (fun g => { g with cur := none }) → Ends (.pmbusTransactionDone b ⟨seen, res⟩) s
      (segNext ((convEvent s1 b t.conv t.code kind).modConv t.conv (fun c => { c with fails := min 65535 (c.fails + 1) })) b)) ∧
  (∀ s b t k s1, (s.seg b).cur = some (t, k) → 2 ≤ k → t.prio ≠ 1 → s1 = s.modSeg b (fun g => { g with cur := none }) →
      Ends (.pmbusClockStretchTimeout b) s
      (segNext ((convEvent s1 b t.conv t.code 4).modConv t.conv (fun c => { c with fails := min 65535 (c.fails + 1) })) b)) ∧
  (∀ s b, (s.seg b).cur = none → s.chipActive = true →
      (∀ seen r, Ends (.pmbusTransactionDone b ⟨seen, r⟩) s s) ∧ Ends (.pmbusClockStretchTimeout b) s s) ∧
  (∀ s b t d, (s.seg b).cur = none → s.chipActive = false → onSegB t.conv = b →
      (t.code = 0x21 → Ends (.pmbusTransactionDone b ⟨some t, .ok d⟩) s
        (s.modConv t.conv (fun c => { c with vout := t.value, cst := .ready }))) ∧
      (t.code = 1 → Ends (.pmbusTransactionDone b ⟨some t, .ok d⟩) s
        (s.modConv t.conv (fun c => { c with on := t.value == 0x80 }))) ∧
      (t.code = 0x79 → Ends (.pmbusTransactionDone b ⟨some t, .ok d⟩) s (statusRead s t.conv d))) ∧
  (∀ s b t r, (s.seg b).cur = none → s.chipActive = false → (∀ d, r ≠ .ok d) →
      Ends (.pmbusTransactionDone b ⟨some t, r⟩) s s) ∧
  (∀ s n w s1, s1 = s.modConv n (fun c => { c with status := w }) →
      (anyBit w [5, 4, 3, 13] = true → (s1.ppc n).gate = true →
        statusRead s n w = trip (raise s1 441 1 (n + at_ 16 w)) n 5 6) ∧
      (anyBit w [5, 4, 3, 13] = true → (s1.ppc n).gate = false → statusRead s n w = raise s1 441 1 (n + at_ 16 w))) ∧
  (∀ s b, s.chipActive = true → (s.seg b).cur = none → Ends (.pmbusBusStuck b) s
      (convEvent (s.modSeg b (fun g => { g with pulses := 9 })) b 0 0 5)) ∧
  (∀ s b t k, s.chipActive = true → (s.seg b).cur = some (t, k) → Ends (.pmbusBusStuck b) s
      (convEvent (s.modSeg b (fun g => { g with pulses := 9 })) b t.conv t.code 5)) ∧
  (∀ s b n, s.chipActive = true → nextPoll s b (s.seg b).polled = some n → Ends (.pmbusPoll b) s (segNext (s.modSeg b (fun g =>
      { g with polled := n, polls := g.polls ++ [{ conv := n, code := 0x79, value := 0, prio := 3 }] })) b)) ∧
  (∀ s b, s.chipActive = true → Ends (.pmbusAlert b) s (segNext (s.modSeg b (fun g => { g with
      alerts := g.alerts ++ [{ conv := 0, code := 0x0C, value := 0, prio := 2 }] })) b)) ∧
  (∀ s b, s.chipActive = false → Ends (.pmbusBusStuck b) s s ∧ Ends (.pmbusPoll b) s s ∧ Ends (.pmbusAlert b) s s)

/-- Each feed's state machine, its ideal diode and its overcurrent (R139, R197–R199, R201, R216, R442). -/
def Obligations.FeedsAndOvercurrent : Prop :=
  (∀ s b, (s.feed b).st = .absent →
      Ends (.feedQualifyStart b) s (s.modFeed b (fun f => { f with st := .qualifying })) ∧ Ends (.feedAbsent b) s s) ∧
  (∀ s b, (s.feed b).st ≠ .absent → Ends (.feedQualifyStart b) s s) ∧
  (∀ s b, (s.feed b).st = .qualifying →
      ((s.feed b).present = false → Ends (.feedQualified b) s (feedEnter s b .on true (fun s =>
        if (s.feed b).present then s else feedEvent (s.modFeed b (fun f => { f with present := true })) b 0 1))) ∧
      Ends (.feedOvervolt b) s (feedEnter s b .ovOff false (fun s => feedEvent s b 4 1)) ∧
      Ends (.feedWarning b) s s ∧ Ends (.feedReverseOff b) s s) ∧
  (∀ s b gate ev st, s.sys.pstate ≠ .deadFeed → feedEnter s b st gate ev =
      ewEval (ev (s.modFeed b (fun f => { f with st := st, gate := gate }))) (healthy s)) ∧
  (∀ s b, (s.feed b).st = .qualifying ∨ (s.feed b).st = .on ∨ (s.feed b).st = .warning → (s.feed b).present = true →
      Ends (.feedAbsent b) s (feedEnter s b .absent false
        (fun s => holdSinks (feedEvent (s.modFeed b (fun f => { f with present := false })) b 0 2)))) ∧
  (∀ s b, (s.feed b).st = .ovOff → (s.feed b).present = true → Ends (.feedAbsent b) s (feedEnter s b .absent false
      (fun s => holdSinks (feedEvent ((feedEvent s b 4 2).modFeed b (fun f => { f with present := false })) b 0 2)))) ∧
  (∀ s b, (s.feed b).st = .on → Ends (.feedWarning b) s (feedEnter s b .warning (s.feed b).gate (fun s => feedEvent s b 1 1))) ∧
  (∀ s b, (s.feed b).st = .warning →
      Ends (.feedWarningClear b) s (feedEnter s b .on (s.feed b).gate (fun s => feedEvent s b 1 2))) ∧
  (∀ s b, (s.feed b).st ≠ .ovOff → Ends (.feedOvervolt b) s (feedEnter s b .ovOff false (fun s => feedEvent s b 4 1)) ∧
      Ends (.feedOvReturn b) s s) ∧
  (∀ s b, (s.feed b).st = .ovOff →
      Ends (.feedOvReturn b) s (feedEnter s b .qualifying false (fun s => feedEvent s b 4 2)) ∧ Ends (.feedOvervolt b) s s) ∧
  (∀ s b, (s.feed b).st = .on ∨ (s.feed b).st = .warning →
      ((s.feed b).gate = true → Ends (.feedReverseOff b) s (feedEvent (s.modFeed b (fun f => { f with gate := false })) b 2 1)) ∧
      ((s.feed b).gate = false →
        Ends (.feedForwardReenable b) s (feedEvent (s.modFeed b (fun f => { f with gate := true })) b 2 2)) ∧
      ((s.feed b).gate = true → Ends (.feedForwardReenable b) s s)) ∧
  (∀ s b s1, (s.feed b).st = .on ∨ (s.feed b).st = .warning → (s.feed b).overCur = false ∨ (s.feed b).ocNext = 0 →
      s1 = feedEvent (s.modFeed b (fun f => { f with overCur := true })) b 3 1 →
      Ends (.feedOvercurrent b) s
        (ocShed { s1 with pba := { s1.pba with restores := s1.pba.restores.filter (·.1 != .overcurrent) } } b 7)) ∧
  (∀ s b, (s.feed b).overCur = true → (s.feed b).ocNext ≠ 0 → Ends (.feedOvercurrent b) s s) ∧
  (∀ s b c, ocShed s b c = pbaTrigger (shedPorts (s.modFeed b (fun f => { f with ocNext := c })) .overcurrent
      (allPorts.filter (fun n => (s.pb n).cls == c && (s.pb n).pin == 0))) 7) ∧
  (∀ s b, (s.feed b).overCur = true → (s.feed b).ocNext ≠ 0 →
      pAvg (s.feed b).meter * 100 < ((s.feed b).set.pmax * 95000 : Nat) →
      Ends (.feedOvercurrentShedStep b) s (s.modFeed b (fun f => { f with ocNext := 0 }))) ∧
  (∀ s b, (s.feed b).overCur = true → (s.feed b).ocNext ≠ 0 →
      ((s.feed b).set.pmax * 95000 : Nat) ≤ pAvg (s.feed b).meter * 100 →
      Ends (.feedOvercurrentShedStep b) s (ocShed s b ((s.feed b).ocNext - 1))) ∧
  (∀ s b, (s.feed b).overCur = false → Ends (.feedOvercurrentShedStep b) s s ∧ Ends (.feedOvercurrentCleared b) s s) ∧
  (∀ s b s1, (s.feed b).overCur = true → s1 = feedEvent (s.modFeed b (fun f => { f with overCur := false, ocNext := 0 })) b 3 2 →
      (s1.pba.ew = true ∨ anyOverCur s1 = true → Ends (.feedOvercurrentCleared b) s s1) ∧
      (s1.pba.ew = false → anyOverCur s1 = false →
        Ends (.feedOvercurrentCleared b) s (pbaTrigger (restoreClass s1 .overcurrent 0) 6)))

/-- The computation of allocations, the refresh of the plans, released increases, restoring steps and the enforcement of the
budget (R202, R208–R211, R214, R215, R217, R218); a chip that is not ACTIVE applies nothing (R224). -/
def Obligations.BudgetSteps : Prop :=
  (∀ s s1 s2 s3, s1 = { s with pba := { s.pba with table := ewTable s } } → s2 = sinkFedStep (ewEval s1 (healthy s1)) →
      s3 = budgetStep { s2 with pba := { s2.pba with trigger := none } } (s2.pba.trigger.getD 0) →
      ∃ s4 s5 : State, s4 = releaseAll (applyDecreases (allocate s3 (fun n => demand s3 n) s3.pba.budget) allPorts s3) ∧
      s5 = (if (ewEval s1 (healthy s1)).pba.sinkFed = s4.pba.sinkFed then s4 else allPorts.foldl markCaps s4) ∧
      Ends .allocRecompute s (finishBudget (swapBack (swapBack s5 33) 34))) ∧
  (∀ s new, s.chipActive = false → applyDecreases new allPorts s = s) ∧
  (∀ s new n ns, s.chipActive = true → ∃ s1 : State,
      s1 = s.modPb n (fun b => { b with target := getA new n, alloc := min b.alloc (getA new n) }) ∧
      (getA new n < (s.pb n).alloc →
        applyDecreases new (n :: ns) s = applyDecreases new ns (allocNotify s1 n (s.pb n).alloc)) ∧
      ((s.pb n).alloc ≤ getA new n → applyDecreases new (n :: ns) s = applyDecreases new ns s1)) ∧
  (∀ s, sinkFedNow s = s.pba.sinkFed → sinkFedStep s = s) ∧
  (∀ s, Ends .shedPlanRefresh s { s with pba := { s.pba with plans := makePlans s, planP := pAvgs s } }) ∧
  (∀ s, (s.chipActive = true → Ends .pendingIncreaseRelease s (releaseIncreases allocNotify (classOrder s) s)) ∧
      (s.chipActive = false → Ends .pendingIncreaseRelease s s)) ∧
  (∀ s why c, s.pba.restores.find? (·.1 == why) = some (why, c) →
      Ends (.restoreClassStep why) s (pbaTrigger (restoreClass s why c) 6)) ∧
  (∀ s why, s.pba.restores.find? (·.1 == why) = none → Ends (.restoreClassStep why) s s) ∧
  (∀ s, committedW s ≤ tenths s.pba.budget → Ends .committedOverBudget s s) ∧
  (∀ s p, tenths s.pba.budget < committedW s →
      (classOrder s).find? (fun n => decide (tenths (s.pb n).alloc < contractPower s n)) = some p →
      Ends .committedOverBudget s (allPorts.foldl enforce (shortfallEvent s p 2))) ∧
  (∀ s n, (s.chipActive = true → tenths (s.pb n).alloc < contractPower s n →
        enforce s n = sendHardReset (shortfallEvent s n 1) n) ∧
      (contractPower s n ≤ tenths (s.pb n).alloc → enforce s n = s)) ∧
  (∀ s n why, ((s.pb n).shed = true → shedPort s n why = s) ∧
      ((s.pb n).shed = false → shedPort s n why =
        powerOff (s.modPb n (fun b => { b with shed := true, why := why, shedP := getA s.pba.planP n })) n))

/-- Heartbeat, loss, liveness, claims and takeover of a chip of a pair (R221, R226, R229–R236, R239, R240, R242, R276, R422). -/
def Obligations.PairLossAndClaims : Prop :=
  (∀ s, s.isPair = true → s.sys.pstate = .active → s.pair.lost = false → Ends .hbEdge s
      (undefer { s with pair := { s.pair with
        hbOk := true, hbAt := s.ticks, cause := if s.pair.cause = 3 then 0 else s.pair.cause } })) ∧
  (∀ s, s.isPair = true → s.sys.pstate = .hibernate → Ends .hbEdge s (wakeSource s)) ∧
  (∀ s, s.isPair = true → s.sys.pstate = .active → s.pair.lost = true → Ends .hbEdge s
      (undefer (insertion { s with pair := { s.pair with
        hbOk := true, hbAt := s.ticks, cause := if s.pair.cause = 3 then 0 else s.pair.cause } }))) ∧
  (∀ s, (s.pair.st ≠ .deferring → undefer s = s) ∧
      (s.pair.st = .deferring → undefer s = { s with pair := { s.pair with st := .standby } })) ∧
  (∀ s, s.isPair = true → Ends .hbOutWatchdog s { s with pair := { s.pair with tkoOut := false, hbOut := false } }) ∧
  (∀ s, s.isPair = false → Ends .hbOutWatchdog s s ∧ Ends .hbEdge s s ∧ Ends (.partnerLost false) s s ∧
      Ends .fullSyncDone s s ∧ Ends .ladleUp s s ∧ Ends (.pairSelfTestDone 0) s s) ∧
  (∀ s, takesPart s = true → s.pair.detectOff = false → s.pair.lost = false →
      Ends (.partnerLost false) s (refuseHand (partnerGone s))) ∧
  (∀ s live, takesPart s = true → s.pair.detectOff = true ∨ s.pair.lost = true →
      Ends (.partnerLost live) s { s with pair := { s.pair with hbOk := false } }) ∧
  (∀ s s1, s1 = dropPartnerLinks (raisePair { s with pair := { s.pair with
        hbOk := false, live := false, lost := true, partner := 15, rejoin := none, rejoinDone := false, synced := false } }
        435 1 0 1) →
      (s1.pair.st = .standby ∨ s1.pair.st = .syncing → partnerGone s = claim s1 none) ∧
      (s1.pair.st = .active → partnerGone s = s1)) ∧
  (∀ s by_, (s.pair.tkoIn = true → s.sys.role = 2 → claim s by_ = { s with pair := { s.pair with
        st := .deferring, tkoOut := false, byHand := by_, resets := 0, psx := false, partial_ := 0 } }) ∧
      (s.pair.tkoIn = false ∨ s.sys.role ≠ 2 → claim s by_ = { s with pair := { s.pair with
        st := .claiming, tkoOut := true, byHand := by_, resets := 0, psx := false, partial_ := 0 } })) ∧
  (∀ s, takesPart s = true → s.pair.detectOff = false → s.pair.lost = false → s.pair.ladle = true →
      Ends (.partnerLost true) s (raisePair (degrade { s with pair := { s.pair with hbOk := false } } 3) 435 2)) ∧
  (∀ s st seq, s.isPair = true → s.pair.ladle = true → st % 16 ≠ 9 → Ends (.liveWord st seq) s
      (undefer (judgeLevel { s with pair := { s.pair with
        partner := st % 16, live := true, liveRx := seq % 65536,
        detectOff := s.pair.detectOff && s.sys.pstate == .hibernate } } (st % 16)))) ∧
  (∀ s st, s.pair.partnerCl = s.sys.cl → s.pair.cause ≠ 5 → judgeLevel s st = s) ∧
  (∀ s, s.pair.st = .claiming → s.pair.tkoIn = true → Ends .claimResample s (resetPartner s)) ∧
  (∀ s, s.pair.st = .claiming → s.pair.tkoIn = false → Ends .claimResample s s) ∧
  (∀ s, resetPartner s = raisePair { s with pair := { s.pair with
      st := .partnerReset, resetOut := true, resetAt := s.ticks, resets := s.pair.resets + 1 } } 435 3 0 2) ∧
  (∀ s, s.pair.st = .deferring → s.pair.tkoIn = false → ∃ t : State,
      t = { s with pair := { s.pair with st := .claiming, tkoOut := true } } ∧ Ends .claimResample s t ∧ Ends .deferralEnd s t) ∧
  (∀ s, s.pair.st = .deferring → s.pair.tkoIn = true → Ends .deferralEnd s (resetPartner s) ∧ Ends .claimResample s s) ∧
  (∀ s, s.pair.st = .claiming → s.pair.tkoIn = false → s.pair.byHand = none → Ends .claimWon s
      (takeOver { s with pair := { s.pair with
        st := .active, tkoOut := true, psx := false, takeovers := min 65535 (s.pair.takeovers + 1) } })) ∧
  (∀ s, s.pair.st = .claiming → s.pair.tkoIn = true → Ends .claimWon s s) ∧
  (∀ s, s.pair.st = .partnerReset → s.pair.tkoIn = false → Ends .partnerResetPulseEnd s
      { s with pair := { s.pair with resetOut := false, st := .claiming, tkoOut := true } }) ∧
  (∀ s, s.pair.st = .partnerReset → s.pair.tkoIn = true → s.pair.resets < 3 → Ends .partnerResetPulseEnd s
      (resetPartner { s with pair := { s.pair with resetOut := false } })) ∧
  (∀ s, s.pair.st = .partnerReset → s.pair.tkoIn = true → 3 ≤ s.pair.resets → Ends .partnerResetPulseEnd s
      (raisePair { s with pair := { s.pair with resetOut := false, st := .faulted, tkoOut := false, hbOut := false } } 433 5 0 2)) ∧
  (∀ s d, s.pair.st = .active → s.pair.psx = false → s.pair.byHand = none → s.pair.resets = 0 →
      d = sat 32 (s.ticks - s.pair.hbAt) → ∃ s1 : State,
      s1 = raisePair { s with pair := { s.pair with psx := true, lastDur := d, byHand := none } } 433 1 d 1 ∧
      Ends .takeoverPsxActive s (answerMoved (ports32.foldl startClears (resyncLends (allPorts.foldl resendPd s1))))) ∧
  (∀ s d h, s.pair.st = .active → s.pair.psx = false → s.pair.byHand = some h → h ≠ 4 →
      d = sat 32 (s.ticks - s.pair.handAt) → ∃ s1 : State,
      s1 = raisePair { s with pair := { s.pair with psx := true, lastDur := d, byHand := none } } 433 3 d h ∧
      Ends .takeoverPsxActive s (answerMoved (ports32.foldl startClears (resyncLends (allPorts.foldl resendPd s1))))) ∧
  (∀ s, s.pair.st ≠ .active → Ends .takeoverPsxActive s s) ∧
  (∀ s, s.isPair = true → s.pair.st = .boot → ∃ s1 : State, s1 = raise s 446 1 (sat 32 0) ∧
      (s1.pair.tkoIn = true → Ends (.pairSelfTestDone 0) s (setPairSt { s1 with pair := { s1.pair with hbOut := true } } .syncing)) ∧
      (s1.pair.tkoIn = false → s1.sys.role = 1 →
        Ends (.pairSelfTestDone 0) s (claim { s1 with pair := { s1.pair with hbOut := true } } none)) ∧
      (s1.pair.tkoIn = false → s1.sys.role ≠ 1 →
        Ends (.pairSelfTestDone 0) s (setPairSt { s1 with pair := { s1.pair with hbOut := true } } .waitPrimary))) ∧
  (∀ s failed s1, s.isPair = true → s.pair.st = .boot → failed ≠ 0 → s1 = raise s 446 2 (sat 32 failed) →
      Ends (.pairSelfTestDone failed) s { s1 with
        sys := { s1.sys with selfTestFailed := true }
        pair := { s1.pair with st := .faulted, hbOut := false, tkoOut := false } }) ∧
  (∀ s, s.pair.st = .waitPrimary → s.pair.tkoIn = false → Ends .bootWaitExpiry s (claim s none)) ∧
  (∀ s, s.pair.st ≠ .waitPrimary ∨ s.pair.tkoIn = true → Ends .bootWaitExpiry s s) ∧
  (∀ s, s.pair.st = .waitPrimary → Ends (.tkoInEdge true) s
      (setPairSt { s with pair := { s.pair with tkoIn := true } } .syncing)) ∧
  (∀ s, s.pair.st = .claiming → s.sys.role = 2 → Ends (.tkoInEdge true) s
      { s with pair := { s.pair with tkoIn := true, st := .deferring, tkoOut := false } }) ∧
  (∀ s, s.pair.st = .partnerReset → Ends (.tkoInEdge false) s
      { s with pair := { s.pair with tkoIn := false, st := .claiming, tkoOut := true } }) ∧
  (∀ s, s.pair.st = .standby → s.pair.byHand.isSome = true → Ends (.tkoInEdge false) s
      (claim { s with pair := { s.pair with tkoIn := false } } s.pair.byHand)) ∧
  (∀ s level, s.pair.st = .active → Ends (.tkoInEdge level) s { s with pair := { s.pair with tkoIn := level } }) ∧
  (∀ s, s.isPair = true → s.pair.detectOff = true → s.pair.hbOk = true →
      Ends .pairWakeDetectTimeout s { s with pair := { s.pair with detectOff := false } }) ∧
  (∀ s, s.isPair = true → s.pair.detectOff = true → s.pair.hbOk = false →
      Ends .pairWakeDetectTimeout s (partnerLost false { s with pair := { s.pair with detectOff := false } }))

/-- The Ladle, synchronisation, handover and rejoin of a pair (R19–R21, R221, R224–R228, R238–R242, R268, R276, R277, R385). -/
def Obligations.PairLadleAndHandover : Prop :=
  (∀ s s1, s.isPair = true → s.pair.ladle = false → s1 = raise { s with pair := { s.pair with
        ladle := true, syncReq := true, synced := false, told := [], toldMirror := [] } } 383 1 0 →
      (s1.pair.st = .active → Ends .ladleUp s (sendSync s1)) ∧
      (s1.pair.st ≠ .active → s1.chipActive = true → Ends .ladleUp s s1) ∧
      (s1.pair.st ≠ .active → s1.chipActive = false → ∃ s2 : State, s2 = followActive s1 ∧
        Ends .ladleUp s (sendSlow { s2 with pair := { s2.pair with told := ownItems s2 } } (.askSync :: ownItems s2)))) ∧
  (∀ s, (s.pair.ladle = true → s.chipActive = false → followActive s = setParent s (some 0)) ∧
      (s.chipActive = true → followActive s = s)) ∧
  (∀ s, s.isPair = true → s.pair.ladle = true → s.pair.cause ≠ 3 → s.pair.st ≠ .standby → Ends .ladleDown s (refuseHand (raise
      { s with pair := { s.pair with ladle := false, live := false, synced := false } } 383 2 0))) ∧
  (∀ s, s.isPair = true → s.pair.ladle = true → s.pair.cause ≠ 3 → s.pair.st = .standby → Ends .ladleDown s (refuseHand (raise
      { s with pair := { s.pair with ladle := false, live := false, synced := false, st := .syncing } } 383 2 0))) ∧
  (∀ s, s.isPair = true → s.pair.ladle = true → s.pair.cause = 3 → takesPart s = true → s.pair.lost = false →
      s.pair.detectOff = false → s.pair.st = .active → Ends .ladleDown s (refuseHand (partnerGone (raise
        { s with pair := { s.pair with ladle := false, live := false, synced := false } } 383 2 0)))) ∧
  (∀ s, s.isPair = true → s.pair.ladle = true → s.pair.partnerCl = s.sys.cl → s.degraded = false → s.pair.st = .syncing →
      s.pair.cause = 0 → Ends .fullSyncDone s (rejoinCheck (raisePair
        { s with pair := { s.pair with st := .standby, synced := true, syncReq := false, cause := 0 } } 434 2))) ∧
  (∀ s, s.isPair = true → s.pair.partnerCl ≠ s.sys.cl →
      Ends .fullSyncDone s s ∧ (∀ items, Ends (.syncFrame items) s s)) ∧
  (∀ s, s.isPair = true → s.chipActive = true → s.pair.ladle = true →
      Ends .digestSend s (sendLadle s.drawn 0 0x3B 0 (leBytes 128 s.free))) ∧
  (∀ s, s.chipActive = false ∨ s.pair.ladle = false → Ends .digestSend s s) ∧
  (∀ s, s.isPair = true → s.chipActive = false → Ends (.digestFrame []) s s) ∧
  (∀ s p s1, s.isPair = true → s.chipActive = false →
      s1 = { s with pair := { s.pair with digests := min 0xFFFFFFFF (s.pair.digests + 1) } } →
      Ends (.digestFrame [p]) s (sendSlow (raise s1 383 5 0) [.ask p])) ∧
  (∀ s items, s.isPair = true → Ends (.slowFrame items) s (items.foldl slowItem s)) ∧
  (∀ s items, s.isPair = true → s.pair.partnerCl = s.sys.cl → Ends (.syncFrame items) s (items.foldl slowItem s)) ∧
  (∀ s u bytes c ls, slowItem s (.response u bytes) = storePipe s u bytes ∧
      slowItem s (.command c) = { s with cmd := { s.cmd with queue := s.cmd.queue ++ [c] } } ∧
      slowItem s (.links ls) = { s with pair := { s.pair with partnerLinks := ls } }) ∧
  (∀ s p n id nd f t, s.chipActive = true →
      slowItem s (.ask p) = sendSlow s [portItem s p] ∧ slowItem s .askSync = sendSync s ∧
      slowItem s (.alloc n 0 f t) = s ∧ slowItem s (.claim id nd f t) = s) ∧
  (∀ s n w f t, s.chipActive = false → slowItem s (.alloc n w f t) =
      s.modPb n (fun b => { b with alloc := w, target := w, pinSusp := f, shed := t })) ∧
  (∀ s items, s.isPair = true → s.chipActive = false → ∃ s1 : State, s1 = items.foldl mirrorItem s ∧
      (s1.pair.syncReq = true ∨ s1.pair.synced = true → Ends (.mirrorFrame items) s s1) ∧
      (s1.pair.syncReq = false → s1.pair.synced = false → Ends (.mirrorFrame items) s
        (sendSlow { s1 with pair := { s1.pair with syncReq := true } } [.askSync]))) ∧
  (∀ s l tx rx p d b, mirrorItem s (.tunnel l tx rx) =
        s.modTun l (fun t => { t with txSeq := BitVec.ofNat 16 tx, rxSeq := BitVec.ofNat 16 rx }) ∧
      mirrorItem s (.line p d b) = s.modPort p (fun q => { q with dpe := dpeOf d, busSusp := b })) ∧
  (∀ s, s.isPair = true → s.chipActive = true → Ends .mirrorStall s
      ((raise (degrade { s with pair := { s.pair with staged := [] } } 1) 383 3 0).modLink 0 (fun k =>
        { k with vcs := modAt k.vcs 1 (fun v => { v with q := [], waitFrom := none }) }))) ∧
  (∀ s items, (s.chipActive = false → Ends .mirrorStall s s) ∧ (s.isPair = false → Ends (.mirrorFrame items) s s)) ∧
  (∀ s h, s.pair.hand = some h → s.pair.st = .active →
      s.cmd.waits.any (fun w => !h.waits.contains w.num) = true ∨ quietPoint s = false → Ends .handoverQuietPoint s s) ∧
  (∀ s h, s.pair.hand = some h → s.pair.st = .active → s.cmd.waits.any (fun w => !h.waits.contains w.num) = false →
      quietPoint s = true → partnerReady s = false → Ends .handoverQuietPoint s (refuseHand s)) ∧
  (∀ s h s1 s2, s.pair.hand = some h → s.pair.st = .active → s.cmd.waits.any (fun w => !h.waits.contains w.num) = false →
      quietPoint s = true → partnerReady s = true → s1 = dueReset s h →
      s2 = dropMoved { s1 with pair := { s1.pair with sent := movedItems s1 } } → ∃ s3 : State,
      s3 = sendLadle s2 0 0x3C (b2n h.rejoin) [] ∧ Ends .handoverQuietPoint s { s3 with pair := { s3.pair with
        st := .handingOver, handAt := s3.ticks
        hand := some { h with waits := h.waits.filter (fun n => s2.cmd.waits.any (fun w => w.num == n)) } } }) ∧
  (∀ s h, s.pair.hand = some h → s.pair.st = .active → h.rejoin = false →
      Ends .handoverWaitExpiry s (endHandWaits s (fun _ => .fail stBusy 2 1000))) ∧
  (∀ s, s.pair.hand = none → Ends .handoverQuietPoint s s ∧ Ends .handoverWaitExpiry s s) ∧
  (∀ s, s.pair.st = .handingOver → ∃ s1 s2 : State, s1 = releaseSeg (releaseSeg s false) true ∧
      s2 = { s1 with pair := { s1.pair with st := .standby, tkoOut := false, gates := true, psx := false } } ∧
      (s2.pair.lost = false → Ends .handoverRelease s (followActive s2)) ∧
      (s2.pair.lost = true → Ends .handoverRelease s (claim s2 none))) ∧
  (∀ s r, s.pair.st = .standby → s.pair.tkoIn = true → Ends (.handoverFrame r) s
      { s with pair := { s.pair with byHand := some (if r then 4 else 3), handAt := s.ticks } }) ∧
  (∀ s r, s.pair.st = .standby → s.pair.tkoIn = false → Ends (.handoverFrame r) s
      (claim { s with pair := { s.pair with byHand := some (if r then 4 else 3), handAt := s.ticks } } (some (if r then 4 else 3)))) ∧
  (∀ s r, s.pair.st = .active → Ends (.handoverFrame r) s s ∧ Ends .handoverRelease s s) ∧
  (∀ s d, s.pair.gates = true → s.pair.hand = none → Ends (.handoverGateRelease (some d)) s
      (endHandWaits (raisePair { s with pair := { s.pair with gates := false, lastDur := sat 32 d } } 433 4 (sat 32 d) 3)
        (fun _ => .ok (leBytes 4 (sat 32 d))))) ∧
  (∀ s d, s.pair.gates = false → Ends (.handoverGateRelease d) s s) ∧
  (∀ s, s.pair.rejoin = none ∨ s.frozen = true → Ends .rejoinTimerExpiry s s) ∧
  (∀ s e, s.pair.rejoin = some e → s.frozen = false → Ends .rejoinTimerExpiry s
      (rejoinCheck { s with pair := { s.pair with rejoin := none, rejoinDone := true } })) ∧
  (∀ s, s.pair.retry = true → Ends .handoverRetry s (rejoinCheck { s with pair := { s.pair with retry := false } })) ∧
  (∀ s, s.pair.retry = false → Ends .handoverRetry s s)

/-- A link's line code, bring-up, words, frames in order with ACK and NAK, replay, credits, sleep and wake (R250–R254,
R258–R262, R264, R272, R276–R279). -/
def Obligations.FabricLinks : Prop :=
  (∀ st body, body.length = 8 → readBlock st (sendBlock st 1 body).1 = (.data body, (sendBlock st 1 body).2)) ∧
  (∀ st code arg, code < 256 → arg.length = 5 → readBlock st (sendBlock st 2 (wordBody code arg)).1 =
      (.word code arg, (sendBlock st 2 (wordBody code arg)).2)) ∧
  (∀ st line, line % 4 = 0 ∨ line % 4 = 3 → (readBlock st line).1 = .invalid) ∧
  (∀ s l heads ts, headsLock heads = true → 8 ≤ ts →
      ((s.link l).st = .acquire → Ends (.blockLock ⟨l, heads, ts⟩) s
        (trainPhy (s.modLink l (fun k => { k with st := .train, modeTold := false })) (11 + l))) ∧
      ((s.link l).st = .retrain → Ends (.blockLock ⟨l, heads, ts⟩) s
        (trainPhy (s.modLink l (fun k => { k with phase := .train })) (11 + l))) ∧
      ((s.link l).st = .up → Ends (.blockLock ⟨l, heads, ts⟩) s s)) ∧
  (∀ s l heads ts, headsLock heads = false ∨ ts < 8 → Ends (.blockLock ⟨l, heads, ts⟩) s s) ∧
  (∀ s l t s1, (s.link l).st = .train → tsAgrees s l t = true → s1 = s.modLink l (fun k => { k with
        ladle := t.ladle, nbrLink := t.link % 4, nbrNode := t.node, nbrRole := t.role
        st := if k.st = .train then .check else k.st, phase := .check }) →
      (t.ladle = false → Ends (.tsExchangeDone l t) s s1) ∧
      (t.ladle = true → Ends (.tsExchangeDone l t) s { s1 with pair := { s1.pair with partnerCl := t.cl } })) ∧
  (∀ s l t, (s.link l).st = .train → tsAgrees s l t = false → (s.link l).modeTold = true → Ends (.tsExchangeDone l t) s s) ∧
  (∀ s l t, (s.link l).st = .train → tsAgrees s l t = false → (s.link l).modeTold = false → Ends (.tsExchangeDone l t) s
      (raise (s.modLink l (fun k => { k with modeTold := true })) 442 5
        ((b2n (s.ladleMode l) + 2 * s.sys.role) + at_ 8 (b2n t.ladle + 2 * t.role)))) ∧
  (∀ s l rtt, (s.link l).st = .check → Ends (.linkCheckDone l false rtt) s (s.modLink l (fun k => { k with st := .acquire }))) ∧
  (∀ s l rtt, (s.link l).st = .check → ∃ s1 : State,
      s1 = s.modLink l (fun k => { k with
        st := .up, rtt := sat 16 rtt, txSeq := 0, rxSeq := 0xFF, replay := [], naked := false, burst := none, fresh := true }) ∧
      Ends (.linkCheckDone l true rtt) s (pump (sendHello (grantBuffers (raiseLink s1 l 0 1) l) l) l)) ∧
  (∀ s l b hs, (s.link l).st = .up → b = true ∨ headsLost hs = true →
      Ends (.lockLost l ⟨b, hs⟩) s (enterRetrain s l (if b then 2 else 1))) ∧
  (∀ s l b hs, (s.link l).st = .check ∨ (s.link l).st = .train → b = true ∨ headsLost hs = true →
      Ends (.lockLost l ⟨b, hs⟩) s (s.modLink l (fun k => { k with st := .acquire }))) ∧
  (∀ s l hs, headsLost hs = false → Ends (.lockLost l ⟨false, hs⟩) s s) ∧
  (∀ s l, (s.link l).st = .retrain → Ends (.retrainWindowExpiry l) s (fabLinkDown s l 6 .acquire)) ∧
  (∀ s l, (s.link l).st ≠ .retrain → Ends (.retrainWindowExpiry l) s s) ∧
  (∀ s l, (s.link l).st = .up → (s.link l).ladle = false → (s.link l).freed.all (· == 0) = true →
      Ends (.linkWordSend l) s (sendWord s l 0x00 [])) ∧
  (∀ s l, (s.link l).st = .up → (s.link l).ladle = true → (s.link l).freed.all (· == 0) = true →
      Ends (.linkWordSend l) s (sendWord { s with pair := { s.pair with liveTx := s.pair.liveTx + 1 } } l 0x50
        (leBytes 1 s.pair.st.code ++ leBytes 2 s.pair.liveTx.toNat))) ∧
  (∀ s l, ((s.link l).st = .acquire → Ends (.linkWordSend l) s (sendWord s l 0x10 (tsArg s l))) ∧
      ((s.link l).st = .train → Ends (.linkWordSend l) s (sendWord s l 0x11 (tsArg s l))) ∧
      ((s.link l).st = .check → Ends (.linkWordSend l) s (sendWord s l 0x00 []))) ∧
  (∀ s l q f, (s.link l).st = .up → (s.link l).naked = false → BitVec.ofNat 8 q = (s.link l).rxSeq + 1 → ∃ s1 : State,
      s1 = s.modLink l (fun k => { k with rxSeq := k.rxSeq + 1 }) ∧
      Ends (.frameReceived l q f true true) s (routeFrame (sendWord s1 l 0x20 [(s.link l).rxSeq + 1]) l f)) ∧
  (∀ s l q f, (s.link l).st = .up → (s.link l).naked = false → BitVec.ofNat 8 q ≠ (s.link l).rxSeq + 1 →
      Ends (.frameReceived l q f true true) s
        (sendWord (s.modLink l (fun k => { k with naked := true })) l 0x21 [(s.link l).rxSeq])) ∧
  (∀ s l q f, (s.link l).st = .up → (s.link l).naked = true → Ends (.frameReceived l q f true true) s s) ∧
  (∀ s l q, Ends (.ackWord l q) s (pump (ackThrough s l q) l)) ∧
  (∀ s l q, (s.link l).st = .up → Ends (.nakWord l q) s (pump (replayBurst (ackThrough s l q) l) l)) ∧
  (∀ s l q, Ends (.replayWord l q) s (s.modLink l (fun k => { k with naked := false }))) ∧
  (∀ s l vc n, Ends (.abortWord l vc n) s
      (freeCredits (s.modLink l (fun k => { k with aborts := min 65535 (k.aborts + 1) })) l vc n)) ∧
  (∀ s l vc n s1,
      s1 = pump (s.modLink l (fun k => { k with vcs := modAt k.vcs vc (fun v => { v with granted := n % 65536 }) })) l →
      ((s1.link l).stalled = false → Ends (.creditWord l vc n) s s1) ∧
      ((s1.link l).stalled = true → ((s1.link l).vcs.getD vc {}).waitFrom = none → Ends (.creditWord l vc n) s
        (raiseLink (s1.modLink l (fun k => { k with stalled := false })) l 3 3 vc))) ∧
  (∀ s l, (s.link l).st = .up → Ends (.retrainWord l) s (enterRetrain s l 4)) ∧
  (∀ s l, (s.link l).st = .up → (s.link l).replay ≠ [] → Ends (.replayTimerExpiry l) s (pump (replayBurst s l) l)) ∧
  (∀ s l, (s.link l).st ≠ .up → Ends (.replayTimerExpiry l) s s ∧ Ends (.retrainWord l) s s ∧
      (∀ q, Ends (.nakWord l q) s s) ∧ (∀ a, Ends (.sleepWord l a) s s)) ∧
  (∀ s l vc, (s.link l).ladle = true → Ends (.creditStallExpiry l vc) s s) ∧
  (∀ s l vc f q t0, (s.link l).ladle = false → ((s.link l).vcs.getD vc {}).waitFrom = some t0 →
      ((s.link l).vcs.getD vc {}).q = (f, none) :: q → ∃ s1 : State,
      s1 = s.modLink l (fun k => { k with
        vcs := modAt k.vcs vc (fun v => { v with q := q, waitFrom := none }), stalled := true }) ∧
      Ends (.creditStallExpiry l vc) s (pump (raiseLink (raiseLink (countDiscard s1 l) l 3 1 vc) l 3 2 vc) l)) ∧
  (∀ s l, (s.link l).st = .up → Ends (.sleepWord l false) s (enterSleep (sendWord s l 0x61 [1]) l)) ∧
  (∀ s l, (s.link l).st = .up → (s.link l).sleepReq = true → Ends (.sleepWord l true) s (enterSleep s l)) ∧
  (∀ s l, (s.link l).st = .sleep → (s.link l).waking = false → (s.link l).vcs.any (fun v => !v.q.isEmpty) = true →
      Ends (.wakePatternSend l) s
        (raiseLink (sendPattern (s.modLink l (fun k => { k with waking := true })) l) l 0 4)) ∧
  (∀ s l, (s.link l).st ≠ .sleep → Ends (.wakePatternSend l) s s ∧ Ends (.wakeEnergy l) s s) ∧
  (∀ s l, Ends (.wakeSendTimeout l) s (s.modLink l (fun k => { k with waking := false })) ∧
      Ends (.wakeProbeTimeout l) s (s.modLink l (fun k => { k with probing := false }))) ∧
  (∀ s l, (s.link l).st = .sleep → bit s.fab.wakeEn l = true →
      Ends (.wakeEnergy l) s (s.modLink l (fun k => { k with probing := true })))

/-- HELLO, link-state advertisements, node numbers and routes (R265–R270, R273, R280, R281). -/
def Obligations.FabricRouting : Prop :=
  (∀ s l h, s.fabUp l = false → Ends (.hello l h) s s ∧ (∀ a, Ends (.lsa l a) s s) ∧ Ends (.linkUsable l) s s) ∧
  (∀ s l h s1, s.fabUp l = true → s1 = s.modLink l (fun k =>
      { k with nbrUid := h.uid, nbrNode := h.claim, nbrLink := h.link % 4, nbrRole := h.role, nbrReserve := !h.active }) →
      ((s.link l).nbrUid = h.uid → (s.link l).usable = false → Ends (.hello l h) s s1) ∧
      ((s.link l).nbrUid = h.uid → (s.link l).nbrLink = h.link % 4 → Ends (.hello l h) s s1) ∧
      ((s.link l).nbrUid = h.uid → (s.link l).nbrLink ≠ h.link % 4 → (s.link l).usable = true →
        Ends (.hello l h) s (announce s1 l)) ∧
      ((s.link l).nbrUid = 0 → h.uid ≠ 0 → (s.link l).usable = false →
        Ends (.hello l h) s (raiseLink s1 l 4 1 0 0 0 0 0 h.uid)) ∧
      ((s.link l).nbrUid ≠ 0 → (s.link l).nbrUid ≠ h.uid → (s.link l).usable = true → Ends (.hello l h) s
        (announce (raiseLink (raiseLink s1 l 4 2 0 0 0 0 0 (s.link l).nbrUid) l 4 1 0 0 0 0 0 h.uid) l))) ∧
  (∀ s l a s1, s.fabUp l = true → a.uid ≠ s.nodeUid → s1 = putLsa s a →
      (∀ h, s.fab.lsas.find? (fun h => h.lsa.uid == a.uid) = some h →
        (h.lsa.seq < a.seq → Ends (.lsa l a) s
          (reclaim (flood { s1 with fab := { s1.fab with changed := some l } } a (some l)) l)) ∧
        (a.seq ≤ h.lsa.seq → Ends (.lsa l a) s s)) ∧
      (s.fab.lsas.find? (fun h => h.lsa.uid == a.uid) = none →
        (s.fab.lsas.length < 240 → Ends (.lsa l a) s
          (reclaim (flood { s1 with fab := { s1.fab with changed := some l } } a (some l)) l)) ∧
        (240 ≤ s.fab.lsas.length → Ends (.lsa l a) s s))) ∧
  (∀ s l a s1, s.fabUp l = true → a.uid = s.nodeUid →
      s1 = { s with fab := { s.fab with lsaSeq := BitVec.ofNat 32 a.seq } } →
      (a.seq ≤ s.fab.lsaSeq.toNat → Ends (.lsa l a) s s) ∧
      (s.fab.lsaSeq.toNat < a.seq → s1.chipActive = true → Ends (.lsa l a) s (announce s1 l)) ∧
      (s.fab.lsaSeq.toNat < a.seq → s1.chipActive = false → Ends (.lsa l a) s
        (flood (putLsa { s1 with fab := { s1.fab with changed := some l } } a) a (some l)))) ∧
  (∀ s a, (putLsa s a).fab.lsas =
      { lsa := a, at_ := s.ticks } :: s.fab.lsas.filter (fun h => h.lsa.uid != a.uid)) ∧
  (∀ s s1 l, s1 = linkNumbers.foldl sendHello s → l = (linkNumbers.find? s1.fabUp).getD 0 →
      (s1.fab.lsaSeq = (reclaim s1 l).fab.lsaSeq → Ends .lsaRefresh s (announce (reclaim s1 l) l)) ∧
      (s1.fab.lsaSeq ≠ (reclaim s1 l).fab.lsaSeq → Ends .lsaRefresh s (reclaim s1 l))) ∧
  (∀ s, (∀ h ∈ s.fab.lsas, h.lsa.uid = s.nodeUid ∨
      (s.ticks < h.at_ + 4 * s.fab.lsaRefresh * 10000000 ∧ h.gone = none)) → Ends .lsaPurge s s) ∧
  (∀ s h, s.fab.lsas = [h] → h.lsa.uid ≠ s.nodeUid → h.at_ + 4 * s.fab.lsaRefresh * 10000000 ≤ s.ticks →
      Ends .lsaPurge s (reclaim { s with fab := { s.fab with lsas := [], changed := some (s.fab.changed.getD 0) } } 0)) ∧
  (∀ s l s1, s.fabUp l = true → (s.link l).fresh = true →
      s1 = s.modLink l (fun k => { k with usable := true, fresh := false }) →
      (s1.fab.lsaSeq ≠ (reclaim s1 l).fab.lsaSeq → Ends (.linkUsable l) s (reclaim s1 l)) ∧
      (s1.fab.lsaSeq = (reclaim s1 l).fab.lsaSeq → Ends (.linkUsable l) s (announce (reclaim s1 l) l))) ∧
  (∀ s l, (s.link l).fresh = false → Ends (.linkUsable l) s s) ∧
  (∀ s, s.fab.tentative = false ∨ s.chipActive = false → Ends .nodeIdClaimSettle s s) ∧
  (∀ s l s1, s.fab.tentative = true → s.chipActive = true → l = (linkNumbers.find? s.fabUp).getD 0 →
      s1 = { s with fab := { s.fab with nodeId := s.fab.claim, tentative := false, changed := some l } } →
      Ends .nodeIdClaimSettle s (raiseLink (setPaired s1 plNode s.fab.claim) l 4 3 0 0 s.fab.claim 0 0 s1.nodeUid)) ∧
  (∀ s t, t = tunnelRoutes (endForwarded (routeEvents s (routeTables s) (s.fab.changed.getD 0))) s.fab.table →
      (t.chipActive = true → Ends .routeComputeDone s (setParent t (((fabGraph s).parent s.nodeUid).map (·.xl)))) ∧
      (t.chipActive = false → Ends .routeComputeDone s t)) ∧
  (∀ s, (routeTables s).fab.table = newTable s ∧ (routeTables s).fab.root = rootNode s ∧
      (routeTables s).fab.rootUid = (fabGraph s).root ∧
      (routeTables s).fab.level = (lookup (fabGraph s).levels s.nodeUid).getD 0 ∧
      (routeTables s).fab.parentLink = ((fabGraph s).parent s.nodeUid).map (·.xl) ∧
      (routeTables s).fab.reachable = (fabGraph s).reach.length ∧
      (routeTables s).fab.children = childLinks (fabGraph s) s.nodeUid) ∧
  (∀ g own (s : State) l, ((s.link l).usable = false → dirOf g own s l = 0) ∧
      ((s.link l).usable = true → s.chipActive = true → (s.link l).nbrReserve = false →
        dirOf g own s l = if g.up own (s.link l).nbrUid then 1 else 2))

/-- The exchange of time with the parent, the words it answers with, SYNC_STATE, HOLDOVER and the TSYNC pins (R284,
R287, R288, R290, R291). -/
def Obligations.TimeExchangeAndPulse : Prop :=
  (∀ s q s1, s.tu.hasParent = true → (s.link s.tu.parent).st = .up → q = (s.tu.ex.seq + 1) % 16 →
      s1 = { s with tu := { s.tu with ex := { seq := q, stage := 1, t1 := s.now } } } →
      Ends .timeReqSend s (timeWord s1 s.tu.parent 0 q s.now)) ∧
  (∀ s, s.tu.hasParent = false ∨ (s.link s.tu.parent).st ≠ .up → Ends .timeReqSend s s) ∧
  (∀ s l q, (s.link l).st ≠ .up → Ends (.timeReq l q) s s) ∧
  (∀ s l q s1 s2 s3, (s.link l).st = .up → s1 = timeWord s l 1 q s.now → s2 = timeWord s1 l 2 q s1.now →
      s3 = timeWord s2 l 3 q (s2.now / 2 ^ 32) → Ends (.timeReq l q) s (timeWord s3 l 4 q (timeStatusValue s3))) ∧
  (∀ s l ty q v, timeWord s l ty q v = sendWord s l 0x40 (leBytes 1 (ty % 16 + 16 * (q % 16)) ++ leBytes 4 (v % 2 ^ 32))) ∧
  (∀ s l v, s.tu.hasParent = true → s.tu.parent = l →
      (s.tu.ex.stage = 1 → Ends (.timeResp l s.tu.ex.seq v) s
        { s with tu := { s.tu with ex := { s.tu.ex with stage := 2, t3lo := v % 2 ^ 32, t4 := s.now } } }) ∧
      (s.tu.ex.stage = 2 → Ends (.timeRxstamp l s.tu.ex.seq v) s
        { s with tu := { s.tu with ex := { s.tu.ex with stage := 3, t2lo := v % 2 ^ 32 } } }) ∧
      (s.tu.ex.stage = 3 → Ends (.timeHigh l s.tu.ex.seq v) s
        { s with tu := { s.tu with ex := { s.tu.ex with stage := 4, t3hi := v % 2 ^ 32 } } })) ∧
  (∀ s l q v t, s.tu.hasParent = true → s.tu.parent = l → t = { s with tu := { s.tu with ex := { seq := s.tu.ex.seq } } } →
      (s.tu.ex.seq ≠ q ∨ s.tu.ex.stage ≠ 1 → Ends (.timeResp l q v) s t) ∧
      (s.tu.ex.seq ≠ q ∨ s.tu.ex.stage ≠ 2 → Ends (.timeRxstamp l q v) s t) ∧
      (s.tu.ex.seq ≠ q ∨ s.tu.ex.stage ≠ 3 → Ends (.timeHigh l q v) s t) ∧
      (∀ r st fl, s.tu.ex.seq ≠ q ∨ s.tu.ex.stage ≠ 4 → Ends (.timeStatusWord l q r st fl) s t)) ∧
  (∀ s l q v, s.tu.hasParent = false ∨ s.tu.parent ≠ l → Ends (.timeResp l q v) s s ∧ Ends (.timeRxstamp l q v) s s ∧
      Ends (.timeHigh l q v) s s ∧ (∀ r st fl, Ends (.timeStatusWord l q r st fl) s s)) ∧
  (∀ s l r st fl s1 th, s.tu.hasParent = true → s.tu.parent = l → s.tu.ex.stage = 4 →
      s1 = { s with tu := { s.tu with ex := { seq := s.tu.ex.seq }, root := r % 256, stratum := min 255 (st + 1) } } →
      th = theta s.tu.ex (s.tu.asym.getD l 0) →
      (bit fl 2 = true → Ends (.timeStatusWord l s.tu.ex.seq r st fl) s s1) ∧
      (bit fl 2 = false → Ends (.timeStatusWord l s.tu.ex.seq r st fl) s
        (servo { s1 with tu := { s1.tu with offset := th, pathDelay := pathDelay s.tu.ex } } th exchangeClocks))) ∧
  (∀ (x : Exchange) asym (t2 t3 : Int), (t2, t3) = exchangeTimes x →
      theta x asym = (((x.t1 : Int) - t2) + ((x.t4 : Int) - t3) - asym) / 2 ∧
      pathDelay x = ((t2 - (x.t1 : Int)) + ((x.t4 : Int) - t3)) / 2) ∧
  (∀ (x : Exchange) (t3 : Int), t3 = (x.t3hi * 2 ^ 32 + x.t3lo : Nat) →
      (x.t2lo ≤ x.t3lo → exchangeTimes x = (t3 - x.t3lo + x.t2lo, t3)) ∧
      (x.t3lo < x.t2lo → exchangeTimes x = (t3 - x.t3lo + x.t2lo - 4294967296, t3))) ∧
  (∀ s th n, s.tu.sync = .locked → th.natAbs ≤ 1000 → ∃ s1 : State, s1 = { s with tu := { s.tu with bad := 0 } } ∧
      servo s th n = slew s1 th n) ∧
  (∀ s th n s1, s.tu.sync = .acquiring → s.tu.stepEn = true → 1000 < th.natAbs →
      s1 = { s with tu := { s.tu with good := 0 } } → servo s th n = stepTime s1 (-th)) ∧
  (∀ s, s.tu.hasParent = true → s.tu.sync = .locked → Ends .holdoverTimeout s (setSync s .holdover)) ∧
  (∀ s, s.tu.hasParent = false ∨ s.tu.sync ≠ .locked → Ends .holdoverTimeout s s) ∧
  (∀ s x s1, x ≠ s.tu.sync → x ≠ .locked → s1 = { s with tu := { s.tu with
        sync := x, good := 0, bad := 0, heldAt := if x = .holdover then s.ticks else s.tu.heldAt } } →
      (s.tu.sync ≠ .locked → setSync s x = raiseSync s1 2 (syncValue s1)) ∧
      (s.tu.sync = .locked → setSync s x = raise (raiseSync s1 2 (syncValue s1)) 432 1
        (x.code + at_ 32 (uns 32 (raiseSync s1 2 (syncValue s1)).tu.offset)))) ∧
  (∀ s, s.tu.sync = .holdover → Ends .holdoverLimit s (raise s 432 2 (Sync.code .holdover + at_ 32 (uns 32 s.tu.offset)))) ∧
  (∀ s, s.tu.sync ≠ .holdover → Ends .holdoverLimit s s) ∧
  (∀ s s1, edgeRejected s = true → s1 = raise s 444 3 (uns 32 (wholeSecond (edgeTime s))) →
      Ends .tsyncInEdge s { s1 with tu := { s1.tu with lastEdge := some (edgeTime s), edges := 0 } }) ∧
  (∀ s s1 s2, edgeRejected s = false → s.sys.power.tsyncWake = false →
      s1 = raise s 444 1 (uns 32 (wholeSecond (edgeTime s))) →
      s2 = { s1 with tu := { s1.tu with lastEdge := some (edgeTime s) } } →
      (s2.tu.epoch = none → s2.tu.srcPps = false → Ends .tsyncInEdge s s2) ∧
      (s2.tu.epoch = none → s2.tu.isRoot = true → s2.tu.srcPps = true →
        Ends .tsyncInEdge s (ppsEdge s2 (wholeSecond (edgeTime s)))) ∧
      (∀ v w, s2.tu.epoch = some (v, w) → Ends .tsyncInEdge s (applyEpoch s2 v w))) ∧
  (∀ s s1 s2, edgeRejected s = false → s.sys.power.tsyncWake = true →
      s1 = raise s 444 1 (uns 32 (wholeSecond (edgeTime s))) →
      s2 = { s1 with tu := { s1.tu with lastEdge := some (edgeTime s) } } → s2.tu.epoch = none → s2.tu.srcPps = false →
      Ends .tsyncInEdge s (wakeSource s2)) ∧
  (∀ s, (s.tu.lastEdge = none → edgeRejected s = false) ∧ (∀ t, s.tu.lastEdge = some t → (edgeRejected s = true ↔
      1000000 < (edgeTime s - t - 1000000000).natAbs)) ∧ edgeTime s = (s.now : Int) - s.tu.ppsDelay) ∧
  (∀ s s1, s1 = raise { s with tu := { s.tu with ppsLocked := false, edges := 0 } } 444 2 0 →
      (s1.tu.isRoot = false ∨ s1.tu.srcPps = false → Ends .pulseMissing s s1) ∧
      (s1.tu.isRoot = true → s1.tu.srcPps = true → s1.tu.ppsLocked = false → s1.sys.clockFallback = false →
        Ends .pulseMissing s (setSync s1 .holdover))) ∧
  (∀ s, s.tu.outEn = true → s.tu.sync ≠ .freeRun → Ends .tsyncOutRise s { s with tu := { s.tu with out := true } }) ∧
  (∀ s, s.tu.outEn = false ∨ s.tu.sync = .freeRun → Ends .tsyncOutRise s s) ∧
  (∀ s, Ends .tsyncOutFall s { s with tu := { s.tu with out := false } })

/-- Capture, queues, the event pipe, forwarding and collection of records (R226, R293, R298–R302, R305, R307, R309, R454). -/
def Obligations.EventPath : Prop :=
  (∀ s src code data, (evSevMax src).isSome = true → s.route src ≠ 0 →
      Ends (.detectorFire src code data) s (captureRec s (mkRec s s.now src code data.toNat))) ∧
  (∀ s src code data, s.route src = 0 ∨ evSevMax src = none → Ends (.detectorFire src code data) s s) ∧
  (∀ s r, s.aonOnly = false →
      (s.ev.capture.length < 64 → captureRec s r = { s with ev := { s.ev with capture := insertRec r s.ev.capture } }) ∧
      (64 ≤ s.ev.capture.length → captureRec s r = suppressAll s r)) ∧
  (∀ s r, (deliverRec s r).ev.qa = (if bit r.rb 0 then s.ev.qa.offer 1024 r else s.ev.qa) ∧
      (deliverRec s r).ev.qb = (if bit r.rb 1 then s.ev.qb.offer 1024 r else s.ev.qb) ∧
      (deliverRec s r).ev.qsb = (if bit r.rb 2 then s.ev.qsb.offer 1024 r else s.ev.qsb) ∧
      (deliverRec s r).ev.qj = if bit r.rb 4 then s.ev.qj.offer 256 r else s.ev.qj) ∧
  (∀ (q : Queue) cap r, q.recs.length < cap → q.coal = [] →
      q.offer cap r = { q with recs := q.recs ++ [{ r with qseq := q.next }], next := q.next + 1 }) ∧
  (∀ s r rs s1, s.ev.capture = r :: rs → s1 = { s with ev := { s.ev with capture := rs } } →
      (s.chipActive = true ∨ r.partner = true → Ends .captureRelease s (deliverRec s1 r)) ∧
      (s1.chipActive = false → r.partner = false → Ends .captureRelease s
        (deliverRec (sendSlow s1 [.record { r with qseq := s1.ev.qsb.next }.bytes]) r))) ∧
  (∀ s, s.ev.capture = [] → Ends .captureRelease s s) ∧
  (∀ s i, Ends (.coalescedStore i) s (s.modQueue i (fun q => q.drainCoal (queueCap i) s.now s.fab.nodeId
      (fun src => i == .sideband && bit (s.route src) 5 && bit (s.route src) 2)))) ∧
  (∀ (q : Queue) cap t n f c, q.recs.length < cap → q.sent = 0 → oldestCoal q.coal = some c → ∃ q1 : Queue,
      q1 = ({ q with coal := q.coal.erase c } : Queue).push (coalRec n (f c.source) c) ∧
      q.drainCoal cap t n f = q1.settle cap) ∧
  (∀ (q : Queue) cap t n f, cap + q.sent ≤ q.recs.length → q.drainCoal cap t n f = q) ∧
  (∀ s u, mgmtPipes s u = false → Ends (.eventPipeIn u) s (answer s u .none)) ∧
  (∀ s u, mgmtPipes s u = true → (s.up u).evOffered = 0 → (s.queue (upQueue u)).recs = [] →
      Ends (.eventPipeIn u) s (answer s u .nak)) ∧
  (∀ s u n, mgmtPipes s u = true → (s.up u).evOffered = 0 → (s.queue (upQueue u)).recs ≠ [] →
      n = min (s.queue (upQueue u)).recs.length (if (s.up u).link = .hs then 16 else 2) → Ends (.eventPipeIn u) s
        (answer (s.modUp u (fun x => { x with evOffered := n })) u
          (.data (s.up u).evToggle (((s.queue (upQueue u)).recs.take n).flatMap EvRec.bytes)))) ∧
  (∀ s u n, mgmtPipes s u = true → (s.up u).evOffered = n → n ≠ 0 → Ends (.eventPipeIn u) s
        (answer (s.modUp u (fun x => { x with evOffered := n })) u
          (.data (s.up u).evToggle (((s.queue (upQueue u)).recs.take n).flatMap EvRec.bytes)))) ∧
  (∀ s u, (s.up u).evOffered ≠ 0 → Ends (.eventPipeAck u) s
      ((s.modQueue (upQueue u) (fun q => q.free 1024 (s.up u).evOffered)).modUp u
        (fun x => { x with evOffered := 0, evToggle := !x.evToggle }))) ∧
  (∀ s u, (s.up u).evOffered = 0 → Ends (.eventPipeAck u) s s) ∧
  (∀ s r rs s1, s.ev.fabDest ≠ 0 → (s.ev.qfab.recs.drop s.ev.qfab.sent).takeWhile (·.quiet) = [] →
      ((s.ev.qfab.recs.drop s.ev.qfab.sent).takeWhile (fun r => !r.quiet)).take 32 = r :: rs →
      s1 = s.modQueue .fabric (fun q => { q with sent := q.sent + (r :: rs).length }) → Ends .fabForwardSend s
        (sendTo s1 2 0x20 s1.ev.fabDest (at_ 13 r.qseq.toNat) ((r :: rs).flatMap EvRec.bytes))) ∧
  (∀ s, s.ev.fabDest = 0 ∨ s.ev.qfab.recs.drop s.ev.qfab.sent = [] → Ends .fabForwardSend s (passQuiet s)) ∧
  (∀ s, (passQuiet s).ev.qfab.recs = s.ev.qfab.recs ∧ (passQuiet s).ev.qfab.sent = s.ev.qfab.sent +
      ((s.ev.qfab.recs.drop s.ev.qfab.sent).takeWhile (·.quiet)).length) ∧
  (∀ s src q recs, s.ev.collect = false → Ends (.eventsFrame src q recs) s s) ∧
  (∀ s src q recs s1, s.ev.collect = true → s.expected src = none ∨ s.expected src = some (q % 65536) → q < 65536 →
      s1 = setExpected s src (q + recs.length) → Ends (.eventsFrame src q recs) s
        (recs.foldl (fun t b => mergeRec t { recOf b s1.remoteByte with remote := true }) s1)) ∧
  (∀ s src q recs e gap s1, s.ev.collect = true → s.expected src = some e → gap = (q + 65536 - e) % 65536 → 0 < gap →
      gap < 32768 → s1 = setExpected (askGap s src ((q + 65536 - gap) % 65536) gap) src (q + recs.length) →
      Ends (.eventsFrame src q recs) s
        (recs.foldl (fun t b => mergeRec t { recOf b s1.remoteByte with remote := true }) s1)) ∧
  (∀ s r, (s.ev.lastOut = none → mergeRec s r = { s with ev := { s.ev with merge := insertRec r s.ev.merge } }) ∧
      (∀ x, s.ev.lastOut = some x → keyLe r x = true → mergeRec s r = deliverRec s r)) ∧
  (∀ s, Ends .mergeHoldExpiry s
      (s.ev.merge.foldl (fun s r => deliverRec (passBefore s r) r) { s with ev := { s.ev with merge := [] } })) ∧
  (∀ s src q recs, Ends (.journalFrame src q recs) s (recs.foldl (fun t b =>
      t.modQueue .journal (fun q => q.offer 256 { recOf (b.take 32) 0x10 with remote := true })) s))

/-- The journal writer, its first-fault and ring copies, dropped records, user-area lines, first-fault slots and the scan at
the boot (R313–R317, R320–R324, R327, R397, R435). -/
def Obligations.CrockAndJournal : Prop :=
  (∀ s r rs res s1, s.ev.qj.recs = r :: rs → s.crock.nvOk = true ∨ s.crock.fault = true → res ≠ .controllerFault →
      s1 = s.modQueue .journal (fun q => q.free 256 1) →
      (s1.crock.fault = false → Ends (.journalRecordWrite res) s (writeRecord s1 r res)) ∧
      (s1.crock.fault = true → Ends (.journalRecordWrite res) s (dropRecord s1))) ∧
  (∀ s r rs, s.ev.qj.recs = r :: rs → s.crock.nvOk = true ∨ s.crock.fault = true →
      Ends (.journalRecordWrite .controllerFault) s (dropRecord (declareFault (s.modQueue .journal (fun q => q.free 256 1))))) ∧
  (∀ s res, s.ev.qj.recs = [] ∨ (s.crock.nvOk = false ∧ s.crock.fault = false) → Ends (.journalRecordWrite res) s s) ∧
  (∀ s, dropRecord s = { s with crock := { s.crock with dropped := min (2 ^ 32 - 1) (s.crock.dropped + 1) } } ∧
      declareFault s = { s with crock := { s.crock with failing := 16, fault := true } }) ∧
  (∀ s r j bs s1, r.severity < 4 ∨ 1024 ≤ s.crock.ffNext → j = s.crock.jseqNext.toNat → bs = journalBytes s r false j →
      s1 = putPlaced { s with crock := { s.crock with failing := 0 } } (slotAddr (ringSlot j)) bs →
      writeRecord s r .good = { s1 with crock := { s1.crock with
        jseqNext := s1.crock.jseqNext + 1, oldest := max s1.crock.oldest (j + 1 - 31744) } }) ∧
  (∀ s r j bs s1 s2, 4 ≤ r.severity → s.crock.ffNext < 1024 → j = s.crock.jseqNext.toNat →
      bs = journalBytes s r true j → s1 = putFirst s bs →
      s2 = putPlaced { s1 with crock := { s1.crock with failing := 0 } } (slotAddr (ringSlot j)) bs →
      writeRecord s r .good = { s2 with crock := { s2.crock with
        jseqNext := s2.crock.jseqNext + 1, oldest := max s2.crock.oldest (j + 1 - 31744) } }) ∧
  (∀ s r a bs s1 s2 s3, r.severity < 4 → a = slotAddr (ringSlot s.crock.jseqNext.toNat) →
      bs = journalBytes s r false s.crock.jseqNext.toNat → s1 = failedOnce s →
      (s1.crock.bad.length < 512 → s2 = { s1 with crock := { s1.crock with bad := s1.crock.bad ++ [a] } } →
        s3 = raise (putPlaced s2 a bs) 426 1 (crockData s2 a) → writeRecord s r .remapped = { s3 with crock := { s3.crock with
          jseqNext := s3.crock.jseqNext + 1, oldest := max s3.crock.oldest (s.crock.jseqNext.toNat + 1 - 31744) } }) ∧
      (512 ≤ s1.crock.bad.length → s3 = raise (dropRecord s1) 426 1 (crockData (dropRecord s1) a) →
        writeRecord s r .remapped = { s3 with crock := { s3.crock with
          jseqNext := s3.crock.jseqNext + 1, oldest := max s3.crock.oldest (s.crock.jseqNext.toNat + 1 - 31744) } })) ∧
  (∀ s n, n = min 16 (s.crock.failing + 1) → failedOnce s =
      { s with crock := { s.crock with failing := n, fault := s.crock.fault || decide (16 ≤ n) } }) ∧
  (∀ s r, s.crock.fault = true → 0 < s.crock.dropped → r = mkRec s s.now 426 2 (crockData s 0) →
      Ends .droppedReport s (captureRec s { r with rb := r.rb - at_ 4 (bits r.rb 4 4) })) ∧
  (∀ s, s.crock.fault = false ∨ s.crock.dropped = 0 → Ends .droppedReport s s) ∧
  (∀ s, Ends .vddnvFall s { s with crock := { s.crock with nvOk := false, fault := true } }) ∧
  (∀ s a bs rest s1, s.crock.lineWait = (a, bs) :: rest → s.crock.nvOk = true →
      s1 = { s with crock := { s.crock with lineWait := rest } } →
      userLineWrite .good s = lineDone (putLine s1 a bs) ∧
      userLineWrite .remapped s = lineDone (badLine s1 a bs) ∧
      userLineWrite .controllerFault s = lineDone (badLine (declareFault s1) a bs)) ∧
  (∀ s, s.crock.lineWait ≠ [] → s.crock.nvOk = true →
      Ends .userLineWrite s (userLineWrite (lineVerdict s.free) s.drawn)) ∧
  (∀ s a bs s1, s1 = putPlaced s a bs → inUser a = true → putLine s a bs = markUsed { s1 with crock := { s1.crock with
      lineAt := (a, s1.ticks) :: s1.crock.lineAt.filter (fun x => x.1 != a && decide (s1.ticks < x.2 + 20000)) } } a) ∧
  (∀ s a bs, s.crock.bad.length < 512 → badLine s a bs =
      raise (putLine { s with crock := { s.crock with bad := s.crock.bad ++ [a] } } a bs) 426 1 (crockData s a)) ∧
  (∀ s, (s.crock.writes = [] → lineDone s = s) ∧
      (∀ num n resp rest, s.crock.writes = (num, n + 2, resp) :: rest →
        lineDone s = { s with crock := { s.crock with writes := (num, n + 1, resp) :: rest } }) ∧
      (∀ num resp rest, s.crock.writes = (num, 1, resp) :: rest →
        lineDone s = finishWait { s with crock := { s.crock with writes := rest } } num (.ok resp))) ∧
  (∀ s, s.crock.nvOk = false ∨ s.crock.lineWait = [] → Ends .userLineWrite s s) ∧
  (∀ s, s.crock.nvOk = false ∨ s.crock.ffZero = [] → Ends .ffSlotZeroing s s) ∧
  (∀ s k rest s1, s.crock.ffZero = k :: rest → s.crock.nvOk = true →
      s1 = { s with crock := { s.crock with ffZero := rest } } →
      (ffFree s1 k = true → Ends .ffSlotZeroing s (putPlaced s1 (slotAddr k) (zeros 64))) ∧
      (ffFree s1 k = false → Ends .ffSlotZeroing s s1)) ∧
  (∀ s a bs, putPlaced s a bs = crockWrite s (placed s.crock a) bs ∧
      (crockWrite s a bs).crock.mem = writeCells s.crock.mem a (bs.take (0x400000 - a))) ∧
  (∀ s, s.crock.scanned = true → Ends .journalScan s s) ∧
  (∀ s s1 s2, s.crock.scanned = false →
      s1 = bootStage (fixLevel (bootStage (bootImage (bootStage (strapEvent (reinitLines (scanJournal s))) 1)) 2)) 3 →
      (s1.sys.image.isSome = true → s2 = profileModes s1 → s2.sys.image.isSome = true → Ends .journalScan s
        (bootFirmware (bootStage { s2 with plan := { s2.plan with regions := defaultPlan s2 } } 4))) ∧
      (s1.sys.image = none → s2 = profileModes (linkNumbers.foldl enableLink s1) → s2.sys.image = none →
        Ends .journalScan s (bootFirmware (bootStage s2 4)))) ∧
  (∀ s, (scanJournal s).crock.scanned = true ∧ (scanJournal s).crock.mem = s.crock.mem)

/-- DOZE and HIBERNATE are entered under their conditions and left by a wake source; banks are restored; GPIO and the pulse
input (R279, R284, R416–R421, R424–R427, R431–R433). -/
def Obligations.SleepAndWake : Prop :=
  (∀ s s1, s.sys.pstate = .active → s.sys.power.dozeEn = true → quiet s = true → s.sys.held = .no → s.sys.waking = false →
      s.inDeadFeed = false → s1 = { s with sys := { s.sys with pstate := .doze, banks := dozeBanks s } } →
      (s.sys.power.dozeSleep = false → Ends .dozeEnter s s1) ∧
      (∀ s2, s.sys.power.dozeSleep = true →
        s2 = linkNumbers.foldl (fun s l => if (s.link l).ladle then s else requestSleep s l) s1 →
        (s2.tu.sync ≠ .freeRun → Ends .dozeEnter s (setSync s2 .holdover)) ∧
        (s2.tu.sync = .freeRun → Ends .dozeEnter s s2))) ∧
  (∀ s, s.sys.pstate ≠ .active ∨ s.sys.power.dozeEn = false ∨ quiet s = false ∨ s.sys.waking = true →
      Ends .dozeEnter s s) ∧
  (∀ s, dozeBanks s = List.range 10 ++ (if s.sys.power.dozeSleep then [10, 11] else []) ++ [14, 15]) ∧
  (∀ s failed s1 s2, s.sys.pstate = .doze → s1 = { s with sys := { s.sys with pstate := .active, waking := false } } →
      (s1.tu.isRoot = false → s2 = checkBanks s1 failed false →
        Ends (.dozeWake failed) s { s2 with sys := { s2.sys with banks := [] } }) ∧
      (s1.tu.isRoot = true → s2 = checkBanks (rootSync s1) failed false →
        Ends (.dozeWake failed) s { s2 with sys := { s2.sys with banks := [] } })) ∧
  (∀ s failed, s.sys.pstate ≠ .doze → Ends (.dozeWake failed) s s) ∧
  (∀ s, s.sys.pstate = .active ∨ s.sys.pstate = .doze → s.sys.power.hibEn = true → s.sys.held = .no → s.sys.waking = false →
      quiet s = true → hibQuiet s = true → Ends .hibernateEnter s (hibernate s)) ∧
  (∀ s, s.sys.power.hibEn = false ∨ quiet s = false ∨ hibQuiet s = false ∨ s.sys.waking = true →
      Ends .hibernateEnter s s) ∧
  (∀ s, (hibernate s).sys.pstate = .hibernate ∧ (hibernate s).sys.regen = false ∧ (hibernate s).sys.pgood = false ∧
      (hibernate s).sys.banks = List.range 16 ∧ (hibernate s).feedA.gate = false ∧ (hibernate s).feedB.gate = false ∧
      (hibernate s).pair.ladle = false) ∧
  (∀ s src, s.sys.pstate = .hibernate → hibWakes s src = true → s.sys.waking = false →
      Ends (.hibernateWake src) s (startSequence s)) ∧
  (∀ s src, s.sys.pstate ≠ .hibernate ∨ hibWakes s src = false ∨ s.sys.waking = true → Ends (.hibernateWake src) s s) ∧
  (∀ s, hibWakes s .bmc = true ∧ hibWakes s .cc = s.sys.power.ccWake ∧ hibWakes s .feed = s.sys.power.feedWake ∧
      startSequence s = { s with sys := { s.sys with regen := true, waking := true, attempts := 1, failRail := none } }) ∧
  (∀ s, s.sys.pstate = .hibernate → s.sys.power.aonWake ≠ 0 → s.sys.waking = false → Ends .aonTimerWake s (startSequence s)) ∧
  (∀ s, s.sys.pstate ≠ .hibernate ∨ s.sys.power.aonWake = 0 → Ends .aonTimerWake s s) ∧
  (∀ s w o, s.sys.pstate = .hibernate → s.sys.waking = false → w = true ∨ 0x3F < o →
      Ends (.hibernateSmbusAccess w o) s (startSequence s)) ∧
  (∀ s w o, s.sys.pstate ≠ .hibernate ∨ (w = false ∧ o ≤ 0x3F) → Ends (.hibernateSmbusAccess w o) s s) ∧
  (∀ s failed, s.sys.regen = true → s.sys.held = .rails →
      (s.sys.railsOut.contains 4 = false → Ends (.wakeRailsValid failed) s (coldBoot s)) ∧
      (s.sys.railsOut.contains 4 = true → Ends (.wakeRailsValid failed) s { s with sys := { s.sys with held := .resetN } })) ∧
  (∀ s failed, s.sys.regen = true → s.sys.held = .no → s.sys.pstate = .hibernate → s.sys.waking = true →
      Ends (.wakeRailsValid failed) s (wakeUp s failed)) ∧
  (∀ s failed, s.sys.regen = false → Ends (.wakeRailsValid failed) s s) ∧
  (∀ s r, awaiting s = true → s.sys.regen = true → s.sys.attempts < 3 → Ends (.wakeRailFail r) s
      { s with sys := { s.sys with regen := false, failRail := some (s.sys.failRail.getD r) } }) ∧
  (∀ s r, awaiting s = true → s.sys.regen = true → 3 ≤ s.sys.attempts → Ends (.wakeRailFail r) s
      (raise { s with sys := { s.sys with regen := false, wakeFail := true, waking := false, attempts := 0, failRail := none } }
        425 1 (s.sys.failRail.getD r % 256 + at_ 8 s.sys.attempts))) ∧
  (∀ s r, awaiting s = false ∨ s.sys.regen = false → Ends (.wakeRailFail r) s s) ∧
  (∀ s, awaiting s = true ↔ s.sys.held = .rails ∨ (s.sys.pstate = .hibernate ∧ s.sys.waking = true)) ∧
  (∀ s, awaiting s = true → s.sys.regen = false → 0 < s.sys.attempts → Ends .regenRetry s
      { s with sys := { s.sys with regen := true, attempts := s.sys.attempts + 1 } }) ∧
  (∀ s, awaiting s = false ∨ s.sys.regen = true ∨ s.sys.attempts = 0 → Ends .regenRetry s s) ∧
  (∀ s b x s1, s.sys.bankWait.find? (fun x => x.1 == b) = some x →
      s1 = { s with sys := { s.sys with bankWait := s.sys.bankWait.erase x } } →
      Ends (.bankRestoreFromPartner b true) s (bankEvent s1 1 b 0) ∧
      Ends (.bankRestoreFromPartner b false) s (reinitBank s1 b x.2)) ∧
  (∀ s b ok, s.sys.bankWait.find? (fun x => x.1 == b) = none → Ends (.bankRestoreFromPartner b ok) s s) ∧
  (∀ s k h, k < 8 → reinitBank s k h = ((List.range 4).map (fun i => 4 * k + 1 + i)).foldl
      (if h then reinitRecords else reinitPort) (bankEvent s 2 k (0xF * 16 ^ k))) ∧
  (∀ s h, reinitBank s 8 h = (if h then bankEvent s 2 8 0 else upstreamConnectionLost .a (bankEvent s 2 8 0)) ∧
      reinitBank s 10 h = reinitFabric (bankEvent s 2 10 0)) ∧
  (∀ s, s.pair.ladle = false → Ends .bankRestoreTimeout s
      (s.sys.bankWait.foldl (fun s x => reinitBank s x.1 x.2) { s with sys := { s.sys with bankWait := [] } })) ∧
  (∀ s, s.pair.ladle = true → Ends .bankRestoreTimeout s s) ∧
  (∀ s n r s1, s1 = raise { s with sys := { s.sys with
        gpio := s.sys.gpio % 65536 - at_ (n % 16) (bits (s.sys.gpio % 65536) (n % 16) (n % 16)) + at_ (n % 16) (b2n r) } }
        443 (if r then 1 else 2) (n % 16) →
      (bit s1.sys.power.gpioWake (n % 16) = false → Ends (.gpioEdge n r) s s1) ∧
      (bit s1.sys.power.gpioWake (n % 16) = true → Ends (.gpioEdge n r) s (wakeSource s1))) ∧
  (∀ s, (s.sys.waking = true → wakeSource s = s) ∧
      (s.sys.waking = false → s.sys.pstate = .hibernate → wakeSource s = startSequence s) ∧
      (s.sys.waking = false → s.sys.pstate = .doze → wakeSource s = wakeDoze s)) ∧
  (∀ s l, (s.link l).st = .sleep → (s.link l).probing = true → Ends (.wakePatternSeen l) s
      (wakeSource (raiseLink (s.modLink l (fun k => { k with st := .acquire, probing := false, waking := false })) l 0 5))) ∧
  (∀ s l, (s.link l).st ≠ .sleep ∨ (s.link l).probing = false → Ends (.wakePatternSeen l) s s)

/-- The crystal, FREF, rails, RESET_N, power-up and the chip reset (R283, R326, R364, R428, R429, R435, R439, R440,
R468–R474). -/
def Obligations.ClocksRailsAndResets : Prop :=
  (∀ s s1 s2, s.sys.xtal = true → s1 = raise { s with sys := { s.sys with xtal := false, clockFallback := true } } 422 1 0 →
      (s1.tu.sync = .locked → s1.tu.hasParent = true → s2 = setSync s1 .acquiring →
        Ends .xtalFail s (usbStops s2) ∧ Ends .xtalStop s (usbStops s2)) ∧
      (s1.tu.sync ≠ .freeRun → s1.tu.hasParent = false → s2 = setSync s1 .freeRun →
        Ends .xtalFail s (usbStops s2) ∧ Ends .xtalStop s (usbStops s2)) ∧
      (s1.tu.sync = .freeRun → Ends .xtalFail s (usbStops s1) ∧ Ends .xtalStop s (usbStops s1))) ∧
  (∀ s, s.sys.xtal = false → Ends .xtalFail s s ∧ Ends .xtalStop s s) ∧
  (∀ s, s.sys.xtal = false → Ends (.xtalRestart true) s (restoreClock s) ∧ Ends (.xtalRestart false) s s) ∧
  (∀ s b, s.sys.xtal = true → Ends (.xtalRestart b) s s) ∧
  (∀ s, usbStops s = setUpLink (setUpLink ([1, 2, 3, 4, 5, 6, 7, 8].foldl (fun s p => setLink s p .ssDisabled false) s)
      .a .ssDisabled false) .b .ssDisabled false) ∧
  (∀ s, s.sys.fref = true → Ends .frefLost s (frefGone s) ∧ Ends .frefRestored s s) ∧
  (∀ s, s.sys.fref = false → Ends .frefRestored s (raise { s with sys := { s.sys with fref := true } } 422 4 0) ∧
      Ends .frefLost s s) ∧
  (∀ s r b mv s1, railNeeded s r = true → s.sys.railsOut.contains r = false → railBeyond r b mv = true →
      s1 = { s with sys := { s.sys with railsOut := r :: s.sys.railsOut } } → s.sys.held = .no →
      Ends (.railOutOfWindow r b mv) s (raise (domainReset s1 .railOut) 423 (if b then 2 else 1) (railData r mv))) ∧
  (∀ s r b mv, railNeeded s r = false ∨ s.sys.railsOut.contains r = true ∨ railBeyond r b mv = false →
      Ends (.railOutOfWindow r b mv) s s) ∧
  (∀ r mv, (railBeyond r true mv = true ↔ (railWindow r).2 < mv) ∧
      (railBeyond r false mv = true ↔ mv < (railWindow r).1)) ∧
  (∀ r mv, railValid r mv = true ↔ (railWindow r).1 ≤ mv ∧ mv ≤ (railWindow r).2) ∧
  (∀ s w, (domainReset s w).sys.held = w ∧ (domainReset s w).sys.pgood = false ∧
      (domainReset s w).tu.count = s.tu.count ∧ (domainReset s w).sys.aonBuf = s.sys.aonBuf) ∧
  (∀ s r mv, s.sys.railsOut.contains r = false ∨ railValid r mv = false → Ends (.railReturned r mv) s s) ∧
  (∀ s r mv s1, s.sys.railsOut.contains r = true → railValid r mv = true → r ≠ 6 →
      s1 = raise { s with sys := { s.sys with railsOut := s.sys.railsOut.erase r } } 423 3 (railData r mv) →
      (s1.sys.railsOut = [] → s1.sys.held = .railOut → Ends (.railReturned r mv) s (coldBoot s1)) ∧
      (s1.sys.railsOut ≠ [] ∨ s1.sys.held ≠ .railOut → Ends (.railReturned r mv) s s1)) ∧
  (∀ s mv s1 s2, s.sys.railsOut.contains 6 = true → railValid 6 mv = true →
      s1 = { s with sys := { s.sys with railsOut := s.sys.railsOut.erase 6 },
                    crock := { s.crock with nvOk := true, fault := decide (16 ≤ s.crock.failing) } } →
      s2 = raise s1 423 3 (railData 6 mv) → s2.sys.held ≠ .railOut → Ends (.railReturned 6 mv) s s2) ∧
  (∀ s s1 s2, s1 = pinReset { s with sys := { s.sys with
        railsOut := [4, 5] ++ s.sys.railsOut.filter (fun x => x != 4 && x != 5) } } →
      s2 = { s1 with pair := { s1.pair with takeovers := 0, primaryUid := none, primarySerial := none }
                     sys := { s1.sys with clPinned := 0, pstate := .off } } →
      (s.sys.deadReg = false → Ends .vaonLoss s s2) ∧ (s.sys.deadReg = true → Ends .vaonLoss s (startDeadFeed s2))) ∧
  (∀ s, s.sys.railsOut.contains 4 = false → Ends .resetNLow s (pinReset s)) ∧
  (∀ s, s.sys.railsOut.contains 4 = true → Ends .resetNLow s s) ∧
  (∀ s, (pinReset s).sys.held = .resetN ∧ (pinReset s).sys.regen = false ∧ (pinReset s).sys.pstate = .active ∧
      (pinReset s).crock.mem = s.crock.mem ∧ (pinReset s).ev = State.reset.ev ∧ (pinReset s).ports = State.reset.ports) ∧
  (∀ s st s1, s.sys.held = .resetN → s1 = sampleStraps s st →
      (s.sys.pstate ≠ .deadFeed ∨ s.sys.regen = true → Ends (.resetNRelease st true) s (coldBoot (awaitRails s1)) ∧
        Ends (.resetNRelease st false) s (awaitRails s1)) ∧
      (s.sys.pstate = .deadFeed → s.sys.regen = false → ∀ ok, Ends (.resetNRelease st ok) s
        { s1 with sys := { s1.sys with held := .rails } })) ∧
  (∀ s st ok, s.sys.held ≠ .resetN → Ends (.resetNRelease st ok) s s) ∧
  (∀ s st, sampleStraps s st = { s with sys := { s.sys with role := st % 4, addr := st / 4 % 4 } } ∧
      awaitRails s = { s with sys := { s.sys with regen := true, held := .rails, attempts := 1, failRail := none } }) ∧
  (∀ s st n s1, s.sys.pstate = .off → n = (s.paired plBoot + 1) % 2 ^ 32 → s1 = setPaired { s with sys := { s.sys with
        pstate := .active, railsOut := s.sys.railsOut.filter (fun r => r != 4 && r != 5) } } plBoot n →
      Ends (.powerUp st true) s (awaitRails (sampleStraps s1 st)) ∧
      Ends (.powerUp st false) s { s1 with sys := { s1.sys with held := .resetN } }) ∧
  (∀ s st n s1, s.sys.pstate ≠ .off → s.sys.railsOut.contains 5 = true → n = (s.paired plBoot + 1) % 2 ^ 32 →
      s1 = setPaired { s with sys := { s.sys with
        railsOut := s.sys.railsOut.filter (fun r => r != 4 && r != 5) } } plBoot n →
      (s.sys.held = .resetN → s.sys.regen = true → Ends (.powerUp st true) s (coldBoot (sampleStraps s1 st))) ∧
      (s.sys.held ≠ .resetN ∨ s.sys.regen = false → Ends (.powerUp st true) s (sampleStraps s1 st))) ∧
  (∀ s st hi, s.sys.pstate ≠ .off → s.sys.railsOut.contains 5 = false → Ends (.powerUp st hi) s s) ∧
  (∀ s s1, s1 = { s with
        tu := { s.tu with count := if s.sys.pstate = .deadFeed then s.tu.count else 0 }
        sys := { s.sys with held := .no, pgood := true, waking := false, attempts := 0, wakeFail := false,
                            resetAt := (if s.sys.pstate = .deadFeed then s.tu.count else 0).toNat / 2 ^ 32 } } →
      coldBoot s = deliverAon s1) ∧
  (∀ s d, s.sys.resetDue = some d → s.isPair = false ∨ s.chipActive = false →
      Ends .chipResetDelayExpiry s (awaitRails (pinReset s))) ∧
  (∀ s, s.sys.resetDue = none ∨ (s.isPair = true ∧ s.chipActive = true) → Ends .chipResetDelayExpiry s s)

/-- Firmware starts and watchdogs, the DEAD-FEED supply, die temperature and the idle timers (R147, R358, R407, R414, R436,
R437, R439–R442, R446, R447, R492). -/
def Obligations.FirmwareDeadFeedAndHeat : Prop :=
  (∀ s f us s1, s.sys.fw = some f → us = (s.ticks - f.at_) / 1000 →
      (f.cause ≠ 3 ∨ f.oldBank = s.sys.bankB → s1 = fwEvent s 2 f.cause us → Ends .firmwareDone s (tellFirmware
        { s1 with sys := { s1.sys with fw := none, fwUp := true, bootStage := 5, bootDone := true } } 0)) ∧
      (f.cause = 3 → f.oldBank ≠ s.sys.bankB → s1 = fwEvent (fwEvent s 3 3 us) 2 f.cause us →
        Ends .firmwareDone s (tellFirmware
          { s1 with sys := { s1.sys with fw := none, fwUp := true, bootStage := 5, bootDone := true } } 0))) ∧
  (∀ s, s.sys.fw = none → Ends .firmwareDone s s ∧ Ends .firmwareWatchdog s s) ∧
  (∀ s f s1, s.sys.fw = some f → s1 = unverify (setChoice (setChoice (raise s 429 1 0) (badBit s.sys.bankB) true) 0
        (!s.sys.bankB)) s.sys.bankB →
      (bankCheck s1 (!s.sys.bankB) = 0 → Ends .firmwareWatchdog s
        (fwEvent (startBank { s1 with sys := { s1.sys with fwRestarts := min 65535 (s1.sys.fwRestarts + 1) } }
          (!s.sys.bankB) 2 false) 3 2 0)) ∧
      (bankCheck s1 (!s.sys.bankB) ≠ 0 → Ends .firmwareWatchdog s (startRom s1))) ∧
  (∀ s, s.sys.fwUp = true → Ends .watchdogRestart s (freshFirmware (raise s 429 1 0) s.sys.bankB 2)) ∧
  (∀ s, s.sys.fwUp = false → Ends .watchdogRestart s s) ∧
  (∀ s b c s1 s2, s1 = s.cmd.waits.foldl (fun s w => respond s w.cmd (.fail stInternal))
        { s with cmd := { s.cmd with waits := [] } } →
      s2 = s1.cmd.queue.foldl (fun s c => respond s c (.fail stBusy 1 300)) { s1 with cmd := { s1.cmd with queue := [] } } →
      freshFirmware s b c = tellFirmware (fwEvent (startBank
        { s2 with sys := { s2.sys with fwRestarts := min 65535 (s2.sys.fwRestarts + 1) } } b c false) 1 c 0) 300) ∧
  (∀ s u, s.sys.pstate ≠ .off → Ends (.deadFeedStart u) s { s with sys := { s.sys with deadReg := true } }) ∧
  (∀ s u, s.sys.pstate = .off →
      Ends (.deadFeedStart u) s (startDeadFeed { s with sys := { s.sys with deadReg := true } })) ∧
  (∀ s, (startDeadFeed s).sys.pstate = .deadFeed ∧ (startDeadFeed s).sys.regen = false ∧
      (startDeadFeed s).sys.held = .rails ∧ (startDeadFeed s).tu.count = 0) ∧
  (∀ s u c s1, s.sys.pstate = .deadFeed → (s.pde (portOfUp u)).cc = .attachedSnk →
      (s.pde (portOfUp u)).contract = some c → s1 = awaitRails s →
      (s.sys.regen = false → 9000 ≤ c.mv → 15000000 ≤ c.power →
        Ends (.deadFeedRegen u) s { s1 with sys := { s1.sys with held := s.sys.held } }) ∧
      (s.sys.regen = true ∨ c.mv < 9000 ∨ c.power < 15000000 → Ends (.deadFeedRegen u) s s)) ∧
  (∀ s u, s.sys.pstate ≠ .deadFeed ∨ (s.pde (portOfUp u)).cc ≠ .attachedSnk ∨ (s.pde (portOfUp u)).contract = none →
      Ends (.deadFeedRegen u) s s) ∧
  (∀ s s1, s1 = { s with sys := { s.sys with deadReg := false } } →
      (s.sys.railsOut.contains 5 = true → Ends .deadFeedStop s (powerGone s1)) ∧
      (s.sys.railsOut.contains 5 = false → s.sys.pstate ≠ .deadFeed ∨ s.sys.regen = true → Ends .deadFeedStop s s1)) ∧
  (∀ s t, setDie s t = { s with sys := { s.sys with dieTemp := t, dieTemp2 := min s.sys.dieTemp2 t } }) ∧
  (∀ s t s1, 1050 ≤ t → s1 = setDie s t → ∃ s2 : State,
      s2 = { s1 with sys := { s1.sys with thermal := max 1 s1.sys.thermal } } ∧ Ends (.thermalWarning true t) s
        (raise (allPorts.foldl (fun s n => s.modPde n (fun d => { d with otp := true })) s2) 420 1 (tempData t))) ∧
  (∀ s t s1, t ≤ 1000 → s1 = setDie s t → Ends (.thermalWarning false t) s
      (raise { s1 with sys := { s1.sys with thermal := 0 } } 420 2 (tempData t))) ∧
  (∀ s t, (t < 1050 → Ends (.thermalWarning true t) s (setDie s t)) ∧
      (1000 < t → Ends (.thermalWarning false t) s (setDie s t)) ∧
      (t < 1200 → Ends (.thermalShutdown t) s (setDie s t))) ∧
  (∀ s t s0 s1 r r1, 1200 ≤ t → s0 = setDie s t → s1 = { s0 with sys := { s0.sys with thermal := 2 } } →
      r = mkRec s1 s1.now 421 1 (tempData t) → r1 = { r with rb := r.rb - at_ 4 (bits r.rb 4 4) } →
      ((bit r.rb 4 && !s1.crock.fault && s1.crock.nvOk) = true → Ends (.thermalShutdown t) s
        (captureRec (domainReset (writeRecord s1 r .good) .hot) r1)) ∧
      ((bit r.rb 4 && !s1.crock.fault && s1.crock.nvOk) = false → Ends (.thermalShutdown t) s
        (captureRec (domainReset s1 .hot) r1))) ∧
  (∀ s t s0 s1, s.sys.held = .hot → s0 = setDie s t → s1 = { s0 with sys := { s0.sys with thermal := 0 } } →
      (950 < t → Ends (.thermalRecovery t) s s0) ∧
      (t ≤ 950 → s.sys.railsOut = [] → Ends (.thermalRecovery t) s (coldBoot s1)) ∧
      (t ≤ 950 → s.sys.railsOut ≠ [] → Ends (.thermalRecovery t) s { s1 with sys := { s1.sys with held := .railOut } })) ∧
  (∀ s t, s.sys.held ≠ .hot → Ends (.thermalRecovery t) s s) ∧
  (∀ s p b s1, l1Ready s p = true → b = ((s.port p).ownerL1).getD 0 →
      s1 = s.modPort p (fun q => { q with wire := .lpm b }) →
      Ends (.proxyL1Idle p .ack) s ((enterL1 s1 p b).modPort p (fun q => { q with pxL1 := true })) ∧
      (∀ d, d ≠ .ack → Ends (.proxyL1Idle p d) s s1)) ∧
  (∀ s p d, l1Ready s p = false → Ends (.proxyL1Idle p d) s s) ∧
  (∀ s u, ssPortsRest s u = true →
      ((s.up u).u1En = true → upU1Eff s ≠ 0 → (s.up u).ssLink = .u0 →
        Ends (.upU1U2Idle u false true) s (setUpLink s u .u1 false)) ∧
      ((s.up u).u2En = true → upU2Eff s ≠ 0 → (s.up u).ssLink = .u0 ∨ (s.up u).ssLink = .u1 →
        Ends (.upU1U2Idle u true true) s (setUpLink s u .u2 false))) ∧
  (∀ s u b, Ends (.upU1U2Idle u b false) s s) ∧
  (∀ s u b ok, ssPortsRest s u = false → Ends (.upU1U2Idle u b ok) s s) ∧
  (∀ s, (s.sys.upU1 = none → upU1Eff s = if s.sys.profile = .economy then 20 else 0) ∧
      (∀ v, s.sys.upU1 = some v → upU1Eff s = v) ∧
      (s.sys.upU2 = none → upU2Eff s = if s.sys.profile = .economy then 4 else 0) ∧
      (∀ v, s.sys.upU2 = some v → upU2Eff s = v))

/-- The management function's pipes, the front-end's checks in their order, fragments, forwarding, the ends of assemblies and
lockouts, and command frames of the fabric and of the Ladle (R340–R346, R349, R352, R356, R358, R386). -/
def Obligations.FrontEndAndPipes : Prop :=
  (∀ s u bs, mgmtPipes s u = true → commandBytes s u + min bs.length 4104 ≤ 8192 →
      Ends (.usbCommandTransfer u bs) s (frontEnd (answer s u .ack) (.usb u) 0 false bs)) ∧
  (∀ s u bs, mgmtPipes s u = true → 8192 < commandBytes s u + min bs.length 4104 →
      Ends (.usbCommandTransfer u bs) s (answer s u .nak)) ∧
  (∀ s u bs, mgmtPipes s u = false → Ends (.usbCommandTransfer u bs) s (answer s u .none)) ∧
  (∀ bs, (bs.length < 16 ∨ 4088 < leNat (slice bs 6 2) ∨ leNat (slice bs 6 2) ≠ bs.length - 16 → packetFault bs = some 3) ∧
      (16 ≤ bs.length → leNat (slice bs 6 2) ≤ 4088 → leNat (slice bs 6 2) = bs.length - 16 →
        (leNat (slice bs 12 4) ≠ crc32c (bs.take 12 ++ bs.drop 16) → packetFault bs = some 1) ∧
        (leNat (slice bs 12 4) = crc32c (bs.take 12 ++ bs.drop 16) →
          packetFault bs = if leNat (slice bs 0 2) = 0x01C5 then none else some 2))) ∧
  (∀ s tr ft mu bs d, packetFault bs = some d → d ≠ 2 →
      frontEnd s tr ft mu bs = badCheck s { readPacket tr ft mu bs with noresp := false } d) ∧
  (∀ s tr ft mu bs, packetFault bs = some 2 → frontEnd s tr ft mu bs = badCheck s (readPacket tr ft mu bs) 2) ∧
  (∀ s tr ft mu bs x, packetFault bs = none → fragOf bs = false → dupOf s (readPacket tr ft mu bs) = some x →
      frontEnd s tr ft mu bs = sendBack s (readPacket tr ft mu bs) x.resp (respOf x.resp)) ∧
  (∀ s tr ft mu bs, packetFault bs = none → fragOf bs = false → dupOf s (readPacket tr ft mu bs) = none →
      (s.trState (readPacket tr ft mu bs).tr).asm = none → frontEnd s tr ft mu bs = routeCmd s (readPacket tr ft mu bs) bs) ∧
  (∀ s tr ft mu bs c, packetFault bs = none → fragOf bs = true → c = readPacket tr ft mu bs → (s.trState c.tr).asm = none →
      frontEnd s tr ft mu bs = s.modTr c.tr (fun t => { t with asm := some (startAsm c) })) ∧
  (∀ s tr ft mu bs c a, packetFault bs = none → fragOf bs = true → c = readPacket tr ft mu bs →
      (s.trState c.tr).asm = some a → a.tag = c.tag →
      (a.opcode ≠ c.opcode → frontEnd s tr ft mu bs = abandonAsm s c.tr c.ftag) ∧
      (a.opcode = c.opcode → (a.payload ++ c.payload).length ≤ 4088 → frontEnd s tr ft mu bs =
        s.modTr c.tr (fun t => { t with asm := some { a with payload := a.payload ++ c.payload } }))) ∧
  (∀ (s : State) (c : Cmd) bs, c.target = 0 ∨ c.target = s.fab.nodeId → s.sys.fwUp = true →
      (s.sys.pstate ≠ .doze →
        routeCmd s c bs = settleQueue { s with cmd := { s.cmd with queue := s.cmd.queue ++ [c] } }) ∧
      (s.sys.pstate = .doze →
        routeCmd s c bs = settleQueue (wakeSource { s with cmd := { s.cmd with queue := s.cmd.queue ++ [c] } }))) ∧
  (∀ (s : State) (c : Cmd) bs, c.target = 0 → s.sys.fwUp = false → s.sys.romOnly = false →
      routeCmd s c bs = respond s c (.fail stBusy 1 (restartMs s))) ∧
  (∀ (s : State) (c : Cmd) bs, c.target ≠ 0 → c.target ≠ s.fab.nodeId → c.target ≤ 240 →
      (s.hasRoute c.target = false → routeCmd s c bs = respond s c (.fail stNoRoute)) ∧
      (s.hasRoute c.target = true → routeCmd s c bs = forwardCmd s c bs)) ∧
  (∀ (s : State) (c : Cmd) bs, c.target = 255 → s.fab.nodeId ≠ 255 → c.mute = false →
      (c.auth = true ∨ privileged c.opcode = true → routeCmd s c bs = respond s c (.fail stRefusedState)) ∧
      (c.auth = false → privileged c.opcode = false → routeCmd s c bs = toMpc (broadcast s bs) c)) ∧
  (∀ (s : State) (c : Cmd) bs, 240 < c.target → c.target ≠ 255 → c.target ≠ s.fab.nodeId →
      routeCmd s c bs = respond s c (.fail stNoRoute)) ∧
  (∀ s u, mgmtPipes s u = false → Ends (.responsePipeIn u) s (answer s u .none)) ∧
  (∀ s u, mgmtPipes s u = true → (s.up u).respPipe = [] → Ends (.responsePipeIn u) s (answer s u .nak)) ∧
  (∀ s u b bs, mgmtPipes s u = true → (s.up u).respPipe = b :: bs → Ends (.responsePipeIn u) s
      (answer (s.modUp u (fun x => { x with
        respPipe := bs, respToggle := x.respToggle != ((b.length / bulkMps s u) % 2 == 0) })) u
        (.data (s.up u).respToggle b))) ∧
  (∀ s t, (s.trState t).asm = none → Ends (.fragmentAssemblyTimeout t) s s) ∧
  (∀ s t a, (s.trState t).asm = some a → Ends (.fragmentAssemblyTimeout t) s
      (badCheck (s.modTr t (fun t => { t with asm := none })) { asmCmd t a with ftag := 0 } 4)) ∧
  (∀ s t, (s.trState t).locked = true → Ends (.authLockoutEnd t) s (s.modTr t (fun x => { x with locked := false, fails := 0 }))) ∧
  (∀ s t, (s.trState t).locked = false → Ends (.authLockoutEnd t) s s) ∧
  (∀ s src tag resp bs n rest x, rest = s.cmd.segs.filter (fun x => !(x.src == src && x.tag == tag && x.response == resp)) →
      x = ({ src := src, tag := tag, response := resp, next := 1, bytes := bs } : Segments) →
      joinSegs s src tag 0 resp bs = (some bs, { s with cmd := { s.cmd with segs := x :: rest } }) ∧
      (s.cmd.segs = [] → joinSegs s src tag (n + 1) resp bs = (none, s))) ∧
  (∀ s src tag all bs s1, s1 = dropSegs (joinSegs s src tag 0 false bs).2 src tag false →
      Ends (.commandFrame src tag 0 true all bs) s (frontEnd s1 (.fabric src) tag all bs) ∧
      Ends (.commandFrame src tag 0 false all bs) s (joinSegs s src tag 0 false bs).2) ∧
  (∀ s src tag seg last all bs, seg ≠ 0 → s.cmd.segs = [] → Ends (.commandFrame src tag seg last all bs) s s ∧
      Ends (.responseFrame src tag seg last bs) s s) ∧
  (∀ s src tag bs s1, s1 = dropSegs (joinSegs s src tag 0 true bs).2 src tag true →
      Ends (.responseFrame src tag 0 true bs) s (takeResponse s1 src tag bs) ∧
      Ends (.responseFrame src tag 0 false bs) s (joinSegs s src tag 0 true bs).2) ∧
  (∀ s src tag all, (∀ x s1, s.cmd.fwd.find? (fun x => x.fabTag == tag && x.node == src && !x.done) = some x →
        s1 = { s with cmd := { s.cmd with fwd := { x with done := true } :: s.cmd.fwd.filter (fun y => y.fabTag != tag) } } →
        takeResponse s src tag all = sendBack (cacheResp s1 x.cmd all) x.cmd all (respOf all)) ∧
      (s.cmd.fwd.find? (fun x => x.fabTag == tag && x.node == src && !x.done) = none → (respOf all).status ≠ stOk →
        takeResponse s src tag all = s)) ∧
  (∀ s tag, s.cmd.fwd.find? (fun x => x.fabTag == tag && !x.done) = none → Ends (.cmdWaitExpiry tag) s s) ∧
  (∀ s tag x, s.cmd.fwd.find? (fun x => x.fabTag == tag && !x.done) = some x → Ends (.cmdWaitExpiry tag) s
      (respond { s with cmd := { s.cmd with fwd := { x with done := true } :: s.cmd.fwd.filter (fun y => y.fabTag != tag) } }
        x.cmd (.fail stTimeout x.node))) ∧
  (∀ s seg last r o bs, s.isPair = false → Ends (.partnerCmdFrame seg last r o bs) s s) ∧
  (∀ s o r bs rest, s.isPair = true → rest = s.cmd.relayIn.filter (fun x => !(x.1 == o && x.2.1 == r)) →
      Ends (.partnerCmdFrame 0 false r o bs) s { s with cmd := { s.cmd with relayIn := (o, r, 1, bs) :: rest } }) ∧
  (∀ s o bs s1, s.isPair = true → s1 = { s with cmd := { s.cmd with
        relayIn := s.cmd.relayIn.filter (fun x => !(x.1 == o && x.2.1 == false)) } } →
      Ends (.partnerCmdFrame 0 true false o bs) s (frontEnd s1 .relay o false bs)) ∧
  (∀ s o bs s1 w, s.isPair = true → s1 = { s with cmd := { s.cmd with
        relayIn := s.cmd.relayIn.filter (fun x => !(x.1 == o && x.2.1 == true)) } } → relayWait s1 o = some w →
      Ends (.partnerCmdFrame 0 true true o bs) s (finishWait s1 w.num (.ok bs))) ∧
  (∀ s w, s.cmd.waits.find? (fun w => w.cmd.opcode == 0x0604) = some w →
      Ends .relayTimeout s (finishWait s w.num (.fail stTimeout s.fab.nodeId))) ∧
  (∀ s, s.cmd.waits.find? (fun w => w.cmd.opcode == 0x0604) = none → Ends .relayTimeout s s)

/-- The sideband window and its mailboxes (R15, R353–R355, R420, R486). -/
def Obligations.SidebandMailboxes : Prop :=
  (∀ s sm off bs, windowOpen s = true → Ends (.sidebandWindowWrite sm off bs) s (windowWrite bs off s)) ∧
  (∀ s sm off bs, windowOpen s = false → Ends (.sidebandWindowWrite sm off bs) s s ∧ (∀ c l m, Ends (.mbiCtrlGo sm c l m) s s) ∧
      (∀ c, Ends (.mbiCtrlSync c) s s) ∧ (∀ v, Ends (.mboAck v) s s)) ∧
  (∀ s b bs off, (off ≤ 0xFF → windowWrite (b :: bs) off s = windowWrite bs (off + 1) (windowByte s off b)) ∧
      (0xFF < off → windowWrite (b :: bs) off s = s) ∧ windowWrite [] off s = s) ∧
  (∀ s off (b : Byte), (off < 0x29 → windowByte s off b = s) ∧ (0xA0 ≤ off → windowByte s off b = s) ∧
      windowByte s 0x29 b = modMb s (fun m => { m with alertEn := b.toNat }) ∧
      windowByte s 0x41 b = modMb s (fun m => { m with mbiLen := b.toNat }) ∧
      (b.toNat < 64 → windowByte s 0x40 b = modMb s (fun m => { m with mbiCtrl := mbiKept b.toNat })) ∧
      (0x44 ≤ off → off ≤ 0x9F → windowByte s off b = modMb s (fun m => { m with mbiData := m.mbiData.set (off - 0x44) b }))) ∧
  (∀ c, bits (mbiKept c) 5 4 = 0 ∧ bits (mbiKept c) 3 0 = bits c 3 0 ∧ bits (mbiKept c) 7 6 = bits c 7 6) ∧
  (∀ s sm ctrl len msg s1 s2, windowOpen s = true → s1 = windowWrite (msg.take 92) 0x44
        (modMb s (fun m => { m with mbiCtrl := mbiKept ctrl, mbiLen := len % 256 })) →
      s2 = mbiAnswer s1 (ctrl % 16) (mbiResult s1 (ctrl % 16) (len % 256)) →
      (mbiResult s1 (ctrl % 16) (len % 256) ≠ 1 → Ends (.mbiCtrlGo sm ctrl len msg) s s2) ∧
      (mbiResult s1 (ctrl % 16) (len % 256) = 1 → Ends (.mbiCtrlGo sm ctrl len msg) s
          (frontEnd (modMb s2 (fun m => { m with lastSeq := ctrl % 16 }))
            (if sm then .smbus else .spi) 0 false (s2.cmd.mb.mbiData.take (len % 256))))) ∧
  (∀ s q n, (q = s.cmd.mb.lastSeq → mbiResult s q n = 2) ∧
      (q ≠ s.cmd.mb.lastSeq → q ≠ (s.cmd.mb.lastSeq + 1) % 16 → mbiResult s q n = 3) ∧
      (q ≠ s.cmd.mb.lastSeq → q = (s.cmd.mb.lastSeq + 1) % 16 →
        mbiResult s q n = if 4 ≤ sidebandWaiting s then 4 else if n < 16 ∨ 92 < n then 5 else 1)) ∧
  (∀ s q r, mbiAnswer s q r = modMb s (fun m => { m with mbiAck := q + 16 * r })) ∧
  (∀ s c, windowOpen s = true → Ends (.mbiCtrlSync c) s (mbiAnswer (modMb
      ((s.modTr .smbus (fun x => { x with asm := none })).modTr .spi (fun x => { x with asm := none }))
      (fun m => { m with mbiCtrl := mbiKept c, lastSeq := c % 16 })) (c % 16) 6)) ∧
  (∀ s v s1, windowOpen s = true → s1 = modMb s (fun m => { m with mboAck := v % 256 }) →
      (128 ≤ s.cmd.mb.mboCtrl → bit v 7 = true → v % 16 = s.cmd.mb.mboSeq → Ends (.mboAck v) s (mboNext s1)) ∧
      (s.cmd.mb.mboCtrl < 128 ∨ bit v 7 = false ∨ v % 16 ≠ s.cmd.mb.mboSeq → Ends (.mboAck v) s s1)) ∧
  (∀ s, (s.cmd.mb.mboWait = [] → mboNext s = modMb s (fun m => { m with mboCtrl := m.mboCtrl % 128, mboTries := 0 })) ∧
      (∀ x xs, s.cmd.mb.mboWait = x :: xs → mboNext s = modMb s (fun m => { m with
        mboWait := xs, mboSeq := (m.mboSeq + 1) % 16, mboCtrl := 128 + (m.mboSeq + 1) % 16, mboLen := x.length,
        mboTries := 0, mboData := x ++ zeros (92 - x.length) }))) ∧
  (∀ s, s.cmd.mb.mboCtrl < 128 → Ends .mboTimeout s s) ∧
  (∀ s, 128 ≤ s.cmd.mb.mboCtrl → s.cmd.mb.mboTries < 3 → Ends .mboTimeout s
      (modMb s (fun m => { m with mboTries := m.mboTries + 1, alertHigh := s.ticks + 10000 }))) ∧
  (∀ s, 128 ≤ s.cmd.mb.mboCtrl → 3 ≤ s.cmd.mb.mboTries → Ends .mboTimeout s
      (mboNext (modMb s (fun m => { m with mboDrops := min 65535 (m.mboDrops + 1) })))) ∧
  (∀ s, windowOpen s = true → alertLow s = true →
      Ends .smbusAlertResponse s (modMb s (fun m => { m with araAnswer := some (0x50 + s.sys.addr) }))) ∧
  (∀ s, windowOpen s = false ∨ alertLow s = false →
      Ends .smbusAlertResponse s (modMb s (fun m => { m with araAnswer := none }))) ∧
  (∀ s, alertLow s = true ↔ s.cmd.mb.alertHigh ≤ s.ticks ∧ (irqSum s).land s.cmd.mb.alertEn ≠ 0) ∧
  (∀ s, Ends .smbusTimeout s (modMb s (fun m => { m with araAnswer := none })))

/-- The commands of groups 0x00, 0x0C, 0x0D and 0x0E that the MPC starts (R7, R344, R350, R358, R361–R365, R402–R412). -/
def Obligations.SystemCommands : Prop :=
  (∀ s c t, t = begun s c false →
      (Admits s c 0x0000 false free_ → Ends (.nop c) s (closed (respond t c (.ok c.params)))) ∧
      (Admits s c 0x0001 false free_ →
        Ends (.identify c) s (closed (respond t c (.ok (identifyBytes t) (!c.params.isEmpty))).drawn.drawn)) ∧
      (Admits s c 0x0002 false free_ →
        Ends (.sysStatus c) s (closed (respond t c (.ok (sysStatusBytes t) (!c.params.isEmpty))))) ∧
      (Admits s c 0x0C00 false free_ →
        Ends (.profileGet c) s (closed (respond t c (.ok (profileBytes t) (!c.params.isEmpty))))) ∧
      (Admits s c 0x0C02 false free_ →
        Ends (.clStatus c) s (closed (respond t c (.ok (clBytes t) (!c.params.isEmpty))))) ∧
      (Admits s c 0x0D00 false free_ →
        Ends (.fwStatus c) s (closed (respond t c (.ok (bankEntry t false ++ bankEntry t true) (!c.params.isEmpty))))) ∧
      (Admits s c 0x0D04 false free_ →
        Ends (.nonceRead c) s (closed (respond t c (.ok (leBytes 8 (t.nonce c.tr)) (!c.params.isEmpty)))))) ∧
  (∀ s c t r, Admits s c 0x0D06 false free_ → t = begun s c false →
      r = respond t c (.ok (keyEntry t 0 ++ keyEntry t 1 ++ keyEntry t 2 ++ keyEntry t 3) (!c.params.isEmpty)) →
      Ends (.keyStatus c) s (closed { r with freeIdx := r.freeIdx + 4 })) ∧
  (∀ s c t d u, Admits s c 0x0003 true free_ → t = begun s c true → t.isPair = false ∨ t.chipActive = false →
      d = args c 2 [par 0 16 10 1 1000] → u = respond t c (.ok [] d.2) →
      Ends (.chipReset c) s (closed { u with sys := { u.sys with resetDue := some (u.ticks + d.1 0 * 1000000) } })) ∧
  (∀ s c t d, Admits s c 0x0003 true free_ → t = begun s c true → t.isPair = true → t.chipActive = true →
      d = (args c 2 [par 0 16 10 1 1000]).2 →
      (partnerReady t = true →
        Ends (.chipReset c) s (closed (startHandover (addWait t c d).2 false (some (addWait t c d).1)))) ∧
      (partnerReady t = false → Ends (.chipReset c) s (closed (respond t c (.fail stRefusedState))))) ∧
  (∀ s c t i, Admits s c 0x0004 true free_ → t = begun s c true → i = args c 1 [parElse 0 8 0 1 0] →
      (imageCheck t (i.1 0) = 0 → Ends (.configSelect c) s
        (closed (respond (setChoice t 3 (i.1 0 == 1)) c (.ok (leBytes 1 (i.1 0)) i.2)))) ∧
      (imageCheck t (i.1 0) ≠ 0 → Ends (.configSelect c) s (closed (respond t c (.fail stRefusedState 1 0 i.2))))) ∧
  (∀ s c t n t1, Admits s c 0x0C01 true free_ → t = begun s c true → n = args c 1 [parElse 0 8 0 3 0] →
      t1 = profileModes { t with sys := { t.sys with profile := profileOf (n.1 0) } } →
      ((t1.isPair && t1.chipActive) = false →
        Ends (.profileSet c) s (closed (respond (pbaTrigger t1 2) c (.ok (profileBytes t1) n.2)))) ∧
      ((t1.isPair && t1.chipActive) = true → ∃ t2 : State, t2 = sendSlow t1 [.profile (n.1 0)] ∧
        Ends (.profileSet c) s (closed (respond (pbaTrigger t2 2) c (.ok (profileBytes t2) n.2))))) ∧
  (∀ s c t n, Admits s c 0x0C03 true free_ → t = begun s c true → n = args c 1 [parAny 0 8 t.sys.cl] → 1 < n.1 0 →
      Ends (.clPin c) s (closed (respond t c (.fail stNotAtCompat t.sys.cl)))) ∧
  (∀ s c t n t1, Admits s c 0x0C03 true free_ → t = begun s c true → n = args c 1 [parAny 0 8 t.sys.cl] →
      (n.1 0 = 1 → t1 = setPaired { t with sys := { t.sys with clPinned := 1 } } plLevel 1 →
        (t1.isPair && t1.chipActive) = false → Ends (.clPin c) s (closed (respond t1 c (.ok (clBytes t1) n.2)))) ∧
      (n.1 0 = 0 → t1 = { t with sys := { t.sys with clPinned := 0 } } →
        (t1.isPair && t1.chipActive) = false → Ends (.clPin c) s (closed (respond t1 c (.ok (clBytes t1) n.2))))) ∧
  (∀ s c t b d, Admits s c 0x0D01 false free_ → t = begun s c false → b = bankArg t c → d = bankCheck t b.1 →
      (d = 0 → Ends (.fwVerify c) s (closed (respond (setVerified t b.1) c (.ok [] b.2)))) ∧
      (d = 3 → Ends (.fwVerify c) s (closed (respond (authEvent t c 3) c (.fail stRefusedState 3 0 b.2)))) ∧
      (d ≠ 0 → d ≠ 3 → Ends (.fwVerify c) s (closed (respond t c (.fail stRefusedState d 0 b.2))))) ∧
  (∀ s c t b t1, Admits s c 0x0D02 true free_ → t = begun s c true → b = bankArg t c →
      ((if b.1 then t.sys.verified.2 else t.sys.verified.1) = false →
        Ends (.fwActivate c) s (closed (respond t c (.fail stRefusedState 1 0 b.2)))) ∧
      ((if b.1 then t.sys.verified.2 else t.sys.verified.1) = true → t.isPair = false ∨ t.pair.partnerFw = none →
        t1 = respond (setChoice (setChoice t 0 b.1) (badBit b.1) false) c (.ok [] b.2) →
        Ends (.fwActivate c) s (closed { t1 with sys := { t1.sys with fwNext := some (b.1, 3) } }))) ∧
  (∀ s c t t1, Admits s c 0x0D03 true free_ → t = begun s c true →
      (t.isPair = false ∨ t.pair.partnerFw = none → t1 = respond t c (.ok [] (!c.params.isEmpty)) →
        Ends (.fwRestart c) s (closed { t1 with sys := { t1.sys with fwNext := some (t.sys.bankB, 1) } })) ∧
      (∀ e, t.isPair = true → t.pair.partnerFw = some e →
        Ends (.fwRestart c) s (closed (respond t c (.fail stBusy 1 (msLeft t e) (!c.params.isEmpty)))))) ∧
  (∀ s c t k b cl, Admits s c 0x0D05 true free_ → t = begun s c true → k = (keyArgs c).1 0 →
      b = (c.params.drop 4).take (keyLen k) →
      cl = (((par 0 8 0 0 3).read c.params).2 || ((parElse 8 8 0 1 0).read c.params).2 || decide (4 + keyLen k < c.params.length)) →
      (k ≠ 0 ∨ bySideband c = true) → (k = 0 ∨ runningSlot t ≠ some k ∨ t.key k = none) →
      ((keyArgs c).1 1 = 0 → keyGood k b = true →
        Ends (.keyWrite c) s (closed (respond (setKey t k (some b)) c (.ok [] cl)))) ∧
      ((keyArgs c).1 1 = 0 → keyGood k b = false →
        Ends (.keyWrite c) s (closed (respond t c (.fail stRefusedState 3 0 cl)))) ∧
      ((keyArgs c).1 1 = 1 → Ends (.keyClear c) s (closed (respond (setKey t k none) c (.ok [] cl))))) ∧
  (∀ s c t k cl, Admits s c 0x0D05 true free_ → t = begun s c true → k = (keyArgs c).1 0 →
      cl = (((par 0 8 0 0 3).read c.params).2 || ((parElse 8 8 0 1 0).read c.params).2 || decide (4 + keyLen k < c.params.length)) →
      (k = 0 → bySideband c = false → (keyArgs c).1 1 = 0 →
        Ends (.keyWrite c) s (closed (respond t c (.fail stRefusedState 1 0 cl)))) ∧
      (k ≠ 0 → (t.key k).isSome = true → runningSlot t = some k → (keyArgs c).1 1 = 1 →
        Ends (.keyClear c) s (closed (respond t c (.fail stRefusedState 2 0 cl))))) ∧
  (∀ s c t f m map, Admits s c 0x0E00 false free_ → t = begun s c false → m = args c 1 [parAny 0 8 0xFF] →
      map = (f % 256 ||| knownFailures t) &&& m.1 0 →
      Ends (.selfTest c f) s (closed (respond (raise t 446 (if map = 0 then 1 else 2) map) c (.ok (leBytes 4 map) m.2)))) ∧
  (∀ s c t m, Admits s c 0x0E01 false free_ → t = begun s c false → m = args c 1 [parAny 0 1 0] →
      (m.1 0 = 0 → Ends (.errorCounters c) s (closed (respond t c (.ok (errorBytes t) m.2)))) ∧
      (m.1 0 = 1 → c.auth = true ∨ cmdUp c = none →
        Ends (.errorCounters c) s (closed (respond (clearErrors t) c (.ok (errorBytes t) m.2)))) ∧
      (∀ u, m.1 0 = 1 → c.auth = false → cmdUp c = some u →
        Ends (.errorCounters c) s (closed (respond t c (.ok (errorBytes t) true))))) ∧
  (∀ s c t m, Admits s c 0x0E02 false free_ → t = begun s c false → m = args c 4 [parAny 0 32 0] →
      Ends (.diagTrigger c) s (closed (respond (raise t 447 1 (m.1 0)) c (.ok [] m.2)))) ∧
  (∀ s c t n, Admits s c 0x0E03 false free_ → t = begun s c false → n = args c 1 [selPar 1 14] →
      Ends (.phyTuneGet c) s (closed (respond t c (.ok (phyBytes t (n.1 0)) n.2)))) ∧
  (∀ s c t n w, Admits s c 0x0E04 true free_ → t = begun s c true → n = (selPar 1 14).read c.params →
      w = setPhy t n.1 (c.params.drop 4) →
      Ends (.phyTuneSet c) s (closed (respond w.2 c (.ok (phyBytes w.2 n.1) (n.2 || w.1)))))

/-- The commands of groups 0x01 and 0x02: ports, the buffer plan, modes, identities, refills and lends (R68, R89, R97, R98,
R115, R116, R120, R121, R125, R366–R372). -/
def Obligations.PortCommands : Prop :=
  (∀ s c t, t = begun s c false →
      (Admits s c 0x0100 false free_ →
        Ends (.portStatus c) s (closed (respond t c (listPorts c 2 [] (fun _ p => portEntry t p))))) ∧
      (Admits s c 0x0201 false free_ → Ends (.planGet c) s (closed (respond t c (planGet t c)))) ∧
      (Admits s c 0x0204 false free_ → Ends (.cacheRead c) s (closed (respond t c (cacheRead t c)))) ∧
      (Admits s c 0x0203 false free_ → Ends (.idmapGet c) s (closed (respond t c (listPorts c 3 [parAny 16 1 0] (fun a p =>
        identBytes (t.port p).id ++ (if a 2 = 1 then (altBytes (t.port p).px.alts ++ zeros 32).take 32 else []))))))) ∧
  (∀ (s : State) (c : Cmd), s.pages 4 ((args c 6 [par 0 8 1 1 32, parAny 16 16 0, parAny 32 16 4088]).1 0) 0 = 0 →
      cacheRead s c = .ok [] true) ∧
  (∀ s c t a p o w, Admits s c 0x0101 false (fun s c => foreignPort s c (portArg c)) → t = begun s c false →
      a = args c 3 [par 0 8 1 1 32, newOwner, parAny 16 1 1] → p = a.1 0 → o = ownerOf (a.1 1) → w = addWait t c a.2 →
      ((t.port p).id.owner = .lent → Ends (.portMove c) s (closed (respond t c (.fail stRefusedState 0 0 a.2)))) ∧
      ((t.port p).id.owner ≠ .lent → portBusy (t.port p) = true →
        Ends (.portMove c) s (closed (respond t c (.fail stBusy 2 10 a.2)))) ∧
      ((t.port p).id.owner ≠ .lent → portBusy (t.port p) = false → (t.port p).id.owner = o →
        Ends (.portMove c) s (closed (respond t c (.ok (leBytes 1 o.code ++ leBytes 1 o.code) a.2)))) ∧
      ((t.port p).id.owner ≠ .lent → portBusy (t.port p) = false → (t.port p).id.owner ≠ o →
        Ends (.portMove c) s (closed (startDrain w.2 p
          { wait := w.1, what := 0, newOwner := o, setHome := a.1 2 == 1, back := (t.port p).id.st })))) ∧
  (∀ s p d, (s.port p).id.eff = .translated → (s.port p).id.st = .presented ∨ (s.port p).id.st = .live →
      startDrain s p d = drainDonePhys (s.modPort p (fun q => { q with drain := some d, id := { q.id with st := .draining } })) p) ∧
  (∀ s p d, (s.port p).id.eff = .transparent → startDrain s p d = finishMove s p d) ∧
  (∀ s p, ((s.port p).drain = none → drainDonePhys s p = s) ∧
      (∀ d, (s.port p).drain = some d → (s.port p).px.drained = false → drainDonePhys s p = s) ∧
      (∀ d, (s.port p).drain = some d → d.what ≠ 0 → d.ready = false → drainDonePhys s p = s) ∧
      (∀ d, (s.port p).drain = some d → d.what = 1 → d.ready = true → (s.port p).px.drained = true →
        drainDonePhys s p = finishLendDrain s p d) ∧
      (∀ d, (s.port p).drain = some d → d.what = 0 → (s.port p).px.drained = true →
        drainDonePhys s p = finishMove s p d)) ∧
  (∀ s c t a p, Admits s c 0x0102 false (fun s c => foreignPort s c (portArg c)) → t = begun s c false →
      a = args c 1 [par 0 8 1 1 32] → p = a.1 0 → (t.port p).id.st ≠ .filling → (t.port p).id.owner ≠ .lent →
      (t.port p).dpe ≠ .testing → portBusy (t.port p) = false →
      ((t.port p).id.eff = .translated → (t.port p).id.st ≠ .vacant → Ends (.portReset c) s (closed (respond
        (resetTranslated (ownerEvent t p 7 (t.port p).id.owner 0 (t.port p).px.heldBytes) p) c (.ok [] a.2)))) ∧
      ((t.port p).id.eff = .transparent → vacantNow t p = false → Ends (.portReset c) s (closed (respond
        (resetTransparent (ownerEvent t p 7 (t.port p).id.owner 0 (t.port p).px.heldBytes) p) c (.ok [] a.2)))) ∧
      ((t.port p).id.eff = .transparent → vacantNow t p = true →
        Ends (.portReset c) s (closed (respond t c (.fail stRefusedState 0 0 a.2))))) ∧
  (∀ s c t a p, Admits s c 0x0102 false (fun s c => foreignPort s c (portArg c)) → t = begun s c false →
      a = args c 1 [par 0 8 1 1 32] → p = a.1 0 →
      (t.port p).id.st = .filling ∨ (t.port p).id.owner = .lent ∨ (t.port p).dpe = .testing ∨
        ((t.port p).id.eff = .translated ∧ (t.port p).id.st = .vacant) →
      Ends (.portReset c) s (closed (respond t c (.fail stRefusedState 0 0 a.2)))) ∧
  (∀ s p, (s.port p).id.eff = .transparent → 8 < p → ∃ s1 : State,
      s1 = s.modPort p (fun q => { q with cmdReset := true, addr := 0, addrSeen := 0 }) ∧
      resetTransparent s p = syncPort (startWireReset s1 p) p) ∧
  (∀ s c t n w, Admits s c 0x0200 false planForeign → t = begun s c false → n = planAsked t c → w = addWait t c n.2 →
      (t.plan.next = none →
        Ends (.planSet c) s (closed { w.2 with plan := { w.2.plan with next := some (n.1, w.1, n.2) } })) ∧
      (t.plan.next.isSome = true → Ends (.planSet c) s (closed (respond t c (.fail stBusy 2 10 n.2))))) ∧
  (∀ (s : State) (c : Cmd), (c.params = [] → planAsked s c = (defaultPlan s, false)) ∧
      (c.params ≠ [] → planAsked s c = carve c.params)) ∧
  (∀ s c t a m t1 t2, Admits s c 0x0202 false (fun s c => foreignPort s c (portArg c)) → t = begun s c false →
      a = args c 2 [par 0 8 1 1 32, parElse 8 8 (defaultMode t (portArg c)) 1 (defaultMode t (portArg c))] →
      ¬ (a.1 1 = 1 ∧ t.pages 4 (portArg c) 0 = 0) → m = (if a.1 1 = 1 then Mode.translated else Mode.transparent) →
      t1 = setMode (t.modPort (portArg c) (fun q => { q with modeSet := true })) (portArg c) m →
      t2 = shareBlock t1 0x0202 (portArg c) (leBytes 1 m.code) →
      Ends (.modeSet c) s (closed (respond t2 c (.ok (leBytes 1 m.code ++ leBytes 1 (t2.port (portArg c)).id.eff.code) a.2)))) ∧
  (∀ s c t a, Admits s c 0x0202 false (fun s c => foreignPort s c (portArg c)) → t = begun s c false →
      a = args c 2 [par 0 8 1 1 32, parElse 8 8 (defaultMode t (portArg c)) 1 (defaultMode t (portArg c))] →
      a.1 1 = 1 → t.pages 4 (portArg c) 0 = 0 → Ends (.modeSet c) s (closed (respond t c (.fail stRefusedState 0 0 a.2)))) ∧
  (∀ s c t a p w, Admits s c 0x0205 false (fun s c => foreignPort s c (portArg c)) → t = begun s c false →
      a = args c 1 [par 0 8 1 1 32] → p = a.1 0 → w = addWait t c a.2 → (t.port p).dpe ≠ .testing →
      (t.port p).id.eff = .translated → (t.port p).id.st = .presented ∨ (t.port p).id.st = .live →
      (t.pages 4 p 0 = 0 → Ends (.portRefill c) s (closed (respond t c (.fail stNoResource 0 0 a.2)))) ∧
      (t.pages 4 p 0 ≠ 0 → (t.port p).refillNext.isSome = true →
        Ends (.portRefill c) s (closed (respond t c (.fail stBusy 2 10 a.2)))) ∧
      (t.pages 4 p 0 ≠ 0 → (t.port p).refillNext = none → (t.port p).pxL1 = false →
        Ends (.portRefill c) s (closed (startRefill w.2 p false w.1))) ∧
      (t.pages 4 p 0 ≠ 0 → (t.port p).refillNext = none → (t.port p).pxL1 = true →
        Ends (.portRefill c) s (closed ((wakePxL1 w.2 p).modPort p (fun q => { q with refillNext := some w.1 }))))) ∧
  (∀ s c t a p, Admits s c 0x0205 false (fun s c => foreignPort s c (portArg c)) → t = begun s c false →
      a = args c 1 [par 0 8 1 1 32] → p = a.1 0 → (t.port p).id.eff = .transparent ∨ (t.port p).dpe = .testing ∨
        ((t.port p).id.st ≠ .presented ∧ (t.port p).id.st ≠ .live) →
      Ends (.portRefill c) s (closed (respond t c (.fail stRefusedState 0 0 a.2)))) ∧
  (∀ s c t a p u w t1, Admits s c 0x0206 false (fun s c => foreignPort s c (portArg c)) → t = begun s c false →
      a = args c 4 [par 0 8 1 1 32, parAny 8 8 0, parAny 16 1 0, par 24 8 34 34 41] → p = a.1 0 →
      lendRefusal t p (a.1 1) = none → u = (if a.1 2 = 1 then Up.b else Up.a) → w = addWait t c a.2 →
      t1 = wakePxL1 (w.2.modPort p (fun q => { q with
        drain := some { wait := w.1, what := 1, back := (t.port p).id.st, node := a.1 1, up := u, vport := a.1 3 },
        id := { q.id with st := .draining }, tun := { node := a.1 1, own := t.fab.nodeId, up := u, vport := a.1 3 } })) p →
      Ends (.lend c) s (closed (drainDonePhys (sendTun t1 (.phys p) 0xA 0 []) p))) ∧
  (∀ s c t a st, Admits s c 0x0206 false (fun s c => foreignPort s c (portArg c)) → t = begun s c false →
      a = args c 4 [par 0 8 1 1 32, parAny 8 8 0, parAny 16 1 0, par 24 8 34 34 41] →
      lendRefusal t (a.1 0) (a.1 1) = some st → Ends (.lend c) s (closed (respond t c (.fail st 0 0 a.2)))) ∧
  (∀ s p n, (n = 0 ∨ n = s.fab.nodeId → lendRefusal s p n = some stRefusedState) ∧
      (n ≠ 0 → n ≠ s.fab.nodeId → 240 < n ∨ s.hasRoute n = false → lendRefusal s p n = some stNoRoute) ∧
      (n ≠ 0 → n ≠ s.fab.nodeId → n ≤ 240 → s.hasRoute n = true → (s.port p).id.eff = .transparent ∨
        (s.port p).id.st = .vacant ∨ portBusy (s.port p) = true ∨ (s.port p).id.owner = .lent →
        lendRefusal s p n = some stRefusedState)) ∧
  (∀ s c t a p w, (lendEndArgs c).1 0 = 0 → Admits s c 0x0207 false recallForeign → t = begun s c false →
      a = lendEndArgs c → p = a.1 1 → w = addWait t c a.2 →
      ((t.port p).id.owner ≠ .lent → Ends (.lendEndRecall c) s (closed (respond t c (.fail stRefusedState 0 0 a.2)))) ∧
      ((t.port p).id.owner = .lent → portBusy (t.port p) = true ∨ (t.port p).tun.openWait ≠ 0 →
        Ends (.lendEndRecall c) s (closed (respond t c (.fail stBusy 2 10 a.2)))) ∧
      ((t.port p).id.owner = .lent → portBusy (t.port p) = false → (t.port p).tun.openWait = 0 →
        t.hasRoute (t.port p).tun.node = false →
        Ends (.lendEndRecall c) s (closed (respond (endLend t p 5) c (.ok [] a.2)))) ∧
      ((t.port p).id.owner = .lent → portBusy (t.port p) = false → (t.port p).tun.openWait = 0 →
        t.hasRoute (t.port p).tun.node = true → Ends (.lendEndRecall c) s (closed (sendTun (w.2.modPort p (fun q => { q with
          drain := some { wait := w.1, what := 2, back := q.id.st }, id := { q.id with st := .draining } }))
          (.phys p) 0xC 2 [])))) ∧
  (∀ s c t a u x w, (lendEndArgs c).1 0 = 1 → Admits s c 0x0207 false (fun _ c => foreignUp c (releaseUp c)) →
      t = begun s c false → a = lendEndArgs c → u = releaseUp c → x = t.vport u (a.1 3) → w = addWait t c a.2 →
      (x.used = false → Ends (.lendEndRelease c) s (closed (respond t c (.fail stRefusedState 0 0 a.2)))) ∧
      (x.used = true → x.drain.isSome = true →
        Ends (.lendEndRelease c) s (closed (respond t c (.fail stBusy 2 10 a.2)))) ∧
      (x.used = true → x.drain = none → t.hasRoute x.tun.node = false →
        Ends (.lendEndRelease c) s (closed (respond (freeVPort t u (a.1 3)) c (.ok [] a.2)))) ∧
      (x.used = true → x.drain = none → t.hasRoute x.tun.node = true →
        Ends (.lendEndRelease c) s (closed (drainDone (.virt u (a.1 3)) (w.2.modVPort u (a.1 3)
          (fun x => { x with drain := some { wait := w.1, what := 2 } }))))))

/-- The commands of groups 0x03, 0x04 and 0x05: PD, the power path, the converters and the budget (R142, R168, R196, R205,
R206, R351, R373–R381). -/
def Obligations.PowerCommands : Prop :=
  (∀ s c t n, t = begun s c false → n = args c 1 [selPar 1 34] →
      (Admits s c 0x0300 false free_ → Ends (.pdStatus c) s (closed (respond t c (.ok (pdStatusBytes t (n.1 0)) n.2)))) ∧
      (Admits s c 0x0301 false free_ → Ends (.pdCapsRead c) s (closed (respond t c (pdCapsRead t c)))) ∧
      (Admits s c 0x0302 false free_ → Ends (.pdSettingsGet c) s (closed (respond t c (.ok (pdSetBytes t (n.1 0)) n.2)))) ∧
      (Admits s c 0x0400 false free_ → Ends (.ppcSettingsGet c) s (closed (respond t c (.ok (ppcBytes (t.ppc (n.1 0))) n.2)))) ∧
      (Admits s c 0x0404 false free_ → Ends (.converterStatus c) s (closed (respond t c (.ok (convBytes t (n.1 0)) n.2)))) ∧
      (Admits s c 0x0502 false free_ → Ends (.pbaGlobalGet c) s (closed (respond t c (.ok (globalBlock t) (!c.params.isEmpty))))) ∧
      (Admits s c 0x0504 false free_ → Ends (.pbaPortGet c) s (closed (respond t c (.ok (pbaBlock t (n.1 0)) n.2)))) ∧
      (Admits s c 0x0506 false free_ → Ends (.budgetStatus c) s (closed (respond t c (.ok (budgetStatusBytes t) (!c.params.isEmpty)))))) ∧
  (∀ s c t n, Admits s c 0x0500 false free_ → t = begun s c false → n = args c 1 [selPar 0 1] →
      Ends (.feedSettingsGet c) s (closed (respond t c (.ok (feedBlock (t.feed (n.1 0 == 1)).set) n.2)))) ∧
  (∀ s c t n r u, Admits s c 0x0303 true free_ → t = begun s c true → n = (selPar 1 34).read c.params →
      r = setPd t n.1 (c.params.drop 4) → u = shareBlock r.2 0x0303 n.1 (pdSetBytes r.2 n.1) →
      Ends (.pdSettingsSet c) s (closed (respond u c (.ok (pdSetBytes u n.1) (n.2 || r.1))))) ∧
  (∀ s c t n r u, Admits s c 0x0401 true free_ → t = begun s c true → n = (selPar 1 34).read c.params →
      r = setPpc t n.1 (c.params.drop 4) → u = shareBlock r.2 0x0401 n.1 (ppcBytes (r.2.ppc n.1)) →
      Ends (.ppcSettingsSet c) s (closed (respond u c (.ok (ppcBytes (u.ppc n.1)) (n.2 || r.1))))) ∧
  (∀ s c t n cl, Admits s c 0x0304 false (fun s c => foreignSel s c ((actionArgs c).1 0)) → t = begun s c false →
      n = (actionArgs c).1 0 → cl = (actionArgs c).2 →
      (∀ r, r = closed (respond t c (.fail stRefusedState 0 0 cl)) →
        ((actionArgs c).1 1 = 0 → actionRefused t n 0 = true → Ends (.pdActionRenegotiate c) s r) ∧
        ((actionArgs c).1 1 = 1 → actionRefused t n 1 = true → Ends (.pdActionSoftReset c) s r) ∧
        ((actionArgs c).1 1 = 2 → actionRefused t n 2 = true → Ends (.pdActionHardReset c) s r) ∧
        ((actionArgs c).1 1 = 3 → actionRefused t n 3 = true → Ends (.pdActionErrorRecovery c) s r) ∧
        ((actionArgs c).1 1 = 4 → actionRefused t n 4 = true → Ends (.pdActionPrSwap c) s r) ∧
        ((actionArgs c).1 1 = 5 → actionRefused t n 5 = true → Ends (.pdActionGetSinkCap c) s r)) ∧
      ((t.pde n).action = none →
        ((actionArgs c).1 1 = 0 → actionRefused t n 0 = false → Ends (.pdActionRenegotiate c) s
          (closed (respond (startOwn (t.modPde n (fun d => { d with action := some 0 })) n) c (.ok [] cl)))) ∧
        ((actionArgs c).1 1 = 1 → actionRefused t n 1 = false → Ends (.pdActionSoftReset c) s
          (closed (respond (startOwn (t.modPde n (fun d => { d with action := some 1 })) n) c (.ok [] cl)))) ∧
        ((actionArgs c).1 1 = 4 → actionRefused t n 4 = false → Ends (.pdActionPrSwap c) s
          (closed (respond (startOwn (t.modPde n (fun d => { d with action := some 4 })) n) c (.ok [] cl)))) ∧
        ((actionArgs c).1 1 = 5 → actionRefused t n 5 = false → Ends (.pdActionGetSinkCap c) s
          (closed (respond (startOwn (t.modPde n (fun d => { d with action := some 5 })) n) c (.ok [] cl))))) ∧
      ((t.pde n).action.isSome = true → (actionArgs c).1 1 = 0 → actionRefused t n 0 = false →
        Ends (.pdActionRenegotiate c) s (closed (respond t c (.fail stBusy 2 0 cl)))) ∧
      ((actionArgs c).1 1 = 2 → actionRefused t n 2 = false → Ends (.pdActionHardReset c) s
        (closed (respond (sendHardReset (t.modPde n (fun d => { d with action := none })) n) c (.ok [] cl)))) ∧
      ((actionArgs c).1 1 = 3 → actionRefused t n 3 = false → Ends (.pdActionErrorRecovery c) s
        (closed (respond (errorRecover (t.modPde n (fun d => { d with action := none })) n) c (.ok [] cl))))) ∧
  (∀ s n, (actionRefused s n 0 = true ↔ (s.pde n).contract = none ∨ (s.pde n).cc = .attachedSnk) ∧
      (actionRefused s n 1 = true ↔ (s.pde n).contract = none) ∧
      (actionRefused s n 2 = true ↔ pdAttached s n = false) ∧ (actionRefused s n 3 = true ↔ pdAttached s n = false) ∧
      (actionRefused s n 5 = true ↔ isUp n = false ∨ (s.pde n).contract = none)) ∧
  (∀ s n, (s.pde n).action.isSome = true →
      ((s.pde n).amsIdle = false → Ends (.pdActionWaitingStart n) s s) ∧
      ((s.pde n).amsIdle = true → (s.pde n).avoids = true → (s.pde n).ng = false → Ends (.pdActionWaitingStart n) s
        (startTimer (s.modPde n (fun d => { d with ng := true })) n .sinkTx)) ∧
      ((s.pde n).amsIdle = true → (s.pde n).avoids = false ∨ (s.pde n).ng = true →
        Ends (.pdActionWaitingStart n) s (runOwn s n))) ∧
  (∀ s n, (s.pde n).action = none → Ends (.pdActionWaitingStart n) s s) ∧
  (∀ s c t a p left, Admits s c 0x0402 false (fun s c => foreignPort s c (portArg c)) → t = begun s c false →
      a = args c 4 [par 0 8 1 1 32, par 16 16 1000 500 30000] → p = a.1 0 → left = (if (t.ppc p).cool = 0 then 0 else coolLeft t p) →
      Ends (.portPowerCycle c) s (closed (respond
        (powerOff (t.modPpc p (fun q => { q with cycle := some (t.ticks + a.1 1 * 1000000) })) p) c (.ok (leBytes 4 (max (a.1 1) left)) a.2)))) ∧
  (∀ s c t a l r, Admits s c 0x0403 false free_ → t = begun s c false → a = span c 3 1 36 1 [parAny 16 2 0] →
      l = (List.range a.2.2.1).map (fun i => a.2.1 + i) → l.isEmpty = false →
      r = Resp.ok ((l.map (meterEntry t)).flatten) (a.2.2.2 || (a.1 2 != 0 && l.any (fun n => !mayClear t c n))) →
      Ends (.meterRead c) s (closed (respond ((l.filter (mayClear t c)).foldl (fun s n => clearMeter s (a.1 2) n) t) c r))) ∧
  (∀ s c t a l, Admits s c 0x0403 false free_ → t = begun s c false → a = span c 3 1 36 1 [parAny 16 2 0] →
      l = (List.range a.2.2.1).map (fun i => a.2.1 + i) → l.isEmpty = true →
      Ends (.meterRead c) s (closed (respond t c (.ok (leBytes 1 36) a.2.2.2)))) ∧
  (∀ s c t a n, Admits s c 0x0405 true free_ → t = begun s c true → a = args c 1 [selPar 1 34] → n = a.1 0 →
      (t.conv n).cst = .unnamed ∨ (t.ppc n).st = .ramp ∨ (t.ppc n).st = .on ∨ (t.ppc n).st = .transition ∨
        (t.ppc n).st = .frozen → Ends (.converterInit c) s (closed (respond t c (.fail stRefusedState 0 0 a.2)))) ∧
  (∀ s c t a n w t1, Admits s c 0x0405 true free_ → t = begun s c true → a = args c 1 [selPar 1 34] → n = a.1 0 →
      (t.ppc n).st ≠ .ramp → (t.ppc n).st ≠ .on → (t.ppc n).st ≠ .transition → (t.ppc n).st ≠ .frozen →
      (t.conv n).cst ≠ .unnamed → w = addWait t c a.2 → t1 = w.2.modConv n (fun x => { x with wait := w.1 }) →
      ((t.conv n).wait ≠ 0 → Ends (.converterInit c) s (closed (respond t c (.fail stBusy 2 5 a.2)))) ∧
      ((t.conv n).wait = 0 → convUsable t1 n = false → Ends (.converterInit c) s (closed (initDone t1 n .initFailed))) ∧
      ((t.conv n).wait = 0 → convUsable t1 n = true → (t.conv n).init = 0 →
        Ends (.converterInit c) s (closed (pmbusInit n t1))) ∧
      ((t.conv n).wait = 0 → convUsable t1 n = true → (t.conv n).init ≠ 0 → Ends (.converterInit c) s (closed t1))) ∧
  (∀ s c t n b r t1 w t2, Admits s c 0x0501 true free_ → t = begun s c true → n = (selPar 0 1).read c.params → b = (n.1 == 1) →
      r = feedRead (((t.feed b).next.map (·.1)).getD (t.feed b).set) (c.params.drop 4) → t1 = shareBlock t 0x0501 n.1 (feedBlock r.1) →
      w = addWait t1 c (n.2 || r.2) → t2 = (match (t.feed b).next with | some x => awaitBudget w.2 x.2 | none => w.2) →
      Ends (.feedSettingsSet c) s (closed (t2.modFeed b (fun f => { f with next := some (r.1, w.1) })))) ∧
  (∀ s c t r t1 w, Admits s c 0x0503 true free_ → t = begun s c true → r = setPbaGlobal t c.params →
      t1 = shareBlock r.2 0x0503 0 (globalBlock r.2) → w = addWait t1 c r.1 →
      Ends (.pbaGlobalSet c) s (closed (pbaTrigger (awaitBudget w.2 w.1) 2))) ∧
  (∀ s c t n r t1 w, Admits s c 0x0505 false (fun s c => foreignSel s c (selector c.params 1 34)) → t = begun s c false →
      n = (selPar 1 34).read c.params → r = setPbaPort t n.1 (some (pinRoom t n.1)) (c.params.drop 4) →
      t1 = shareBlock r.2 0x0505 n.1 (pbaBlock r.2 n.1) → w = addWait t1 c (n.2 || r.1) →
      Ends (.pbaPortSet c) s (closed (pbaTrigger (awaitBudget w.2 w.1) 2)))

/-- The commands of groups 0x06 and 0x07: the pair and the fabric (R245, R246, R276, R280, R281, R384–R389). -/
def Obligations.PairAndFabricCommands : Prop :=
  (∀ s c t, t = begun s c false →
      (Admits s c 0x0600 false free_ → Ends (.pairStatus c) s (closed (respond t c (.ok (pairStatusBytes t) (!c.params.isEmpty))))) ∧
      (Admits s c 0x0601 false free_ → Ends (.pairSettingsGet c) s (closed (respond t c (.ok (pairSetBytes t) (!c.params.isEmpty))))) ∧
      (Admits s c 0x0701 false free_ → Ends (.fabricSettingsGet c) s (closed (respond t c (.ok (fabricSetBytes t) (!c.params.isEmpty)))))) ∧
  (∀ s c t, Admits s c 0x0602 true free_ → t = begun s c true → t.isPair = false →
      Ends (.pairSettingsSet c) s (closed (respond t c (.fail stRefusedState)))) ∧
  (∀ s c t r u, Admits s c 0x0602 true free_ → t = begun s c true → t.isPair = true → r = setPair t c.params →
      u = shareBlock r.2 0x0602 0 (pairSetBytes r.2) → Ends (.pairSettingsSet c) s (closed (respond u c (.ok (pairSetBytes u) r.1)))) ∧
  (∀ s c t, Admits s c 0x0603 true free_ → t = begun s c true → t.isPair = false →
      Ends (.handover c) s (closed (respond t c (.fail stRefusedState 1)))) ∧
  (∀ s c t, Admits s c 0x0603 true free_ → t = begun s c true → t.isPair = true → partnerReady t = false →
      Ends (.handover c) s (closed (respond t c (.fail stRefusedState 2)))) ∧
  (∀ s c t k, Admits s c 0x0603 true free_ → t = begun s c true → t.isPair = true → partnerReady t = true →
      t.pair.partnerFw = some k → Ends (.handover c) s (closed (respond t c (.fail stBusy 1 (msLeft t k))))) ∧
  (∀ s c t w, Admits s c 0x0603 true free_ → t = begun s c true → t.isPair = true → partnerReady t = true →
      t.pair.partnerFw = none → w = addWait t c (!c.params.isEmpty) → Ends (.handover c) s (closed (startHandover w.2 false (some w.1)))) ∧
  (∀ s t, msLeft s t = (t - s.ticks + 999999) / 1000000) ∧
  (∀ s c t, Admits s c 0x0604 false free_ → t = begun s c false →
      (t.isPair = false → Ends (.pairRelay c) s (closed (respond t c (.fail stRefusedState 1)))) ∧
      (t.isPair = true → t.pair.ladle = false → Ends (.pairRelay c) s (closed (respond t c (.fail stRefusedState 4)))) ∧
      (t.isPair = true → t.pair.ladle = true → innerBarred c.params = true →
        Ends (.pairRelay c) s (closed (respond t c (.fail stRefusedState 3)))) ∧
      (t.isPair = true → t.pair.ladle = true → innerBarred c.params = false →
        Ends (.pairRelay c) s (closed ((cutSegs 6 0 c.params).foldl
          (fun s x => sendLadle s 3 0x3D (x.1 + 16 * b2n x.2.1 + 64 * outerCode c.tr) x.2.2) (addWait t c).2)))) ∧
  (∀ b, innerBarred b = true ↔ leNat (slice b 8 1) ≠ 0 ∨ leNat (slice b 2 2) = 0x0604 ∨ bit (leNat (slice b 9 1)) 3 = true) ∧
  (∀ s c t a l, Admits s c 0x0700 false free_ → t = begun s c false → a = span c 3 0 3 4 [parAny 16 1 0] →
      l = (List.range a.2.2.1).map (fun i => a.2.1 + i) →
      (a.1 2 = 1 → Ends (.fabricStatus c) s (closed (respond (l.foldl clearLink t) c
        (.ok (nodeBytes t ++ (l.map (linkBytes t)).flatten) a.2.2.2)))) ∧
      (a.1 2 ≠ 1 → Ends (.fabricStatus c) s (closed (respond t c
        (.ok (nodeBytes t ++ (l.map (linkBytes t)).flatten) a.2.2.2))))) ∧
  (∀ s c t r u, Admits s c 0x0702 true free_ → t = begun s c true → r = setFabric t c.params →
      u = shareBlock r.2 0x0702 0 (fabricSetBytes r.2) → Ends (.fabricSettingsSet c) s (closed (respond u c (.ok (fabricSetBytes u) r.1)))) ∧
  (∀ s op k bs, ((s.isPair && s.chipActive) = true → shareBlock s op k bs = sendSlow s [.block op k bs]) ∧
      ((s.isPair && s.chipActive) = false → shareBlock s op k bs = s)) ∧
  (∀ s c t a, Admits s c 0x0703 false free_ → t = begun s c false → a = args c 2 [parAny 0 8 0, parAny 8 8 255] → a.1 1 = 0 →
      Ends (.nodeList c) s (closed (respond t c (.ok (leBytes 1 (sat 8 t.fab.reachable)) a.2)))) ∧
  (∀ s c t a n ls l u, Admits s c 0x0703 false free_ → t = begun s c false → a = args c 2 [parAny 0 8 0, parAny 8 8 255] →
      a.1 1 ≠ 0 → n = min (a.1 1) (replyRoom c / 16) → ls = (t.fab.lsas.map (fun h =>
        if h.lsa.uid = t.nodeUid then { h.lsa with claim := t.fab.nodeId } else h.lsa)).foldl (fun l x => insertNode x l) [] →
      l = ((ls.drop (a.1 0)).take n).mapIdx (fun i x => nodeEntry t (fabGraph t) (Config.freeNat (t.freeIdx + i)) x) →
      u = respond t c (.ok l.flatten (a.2 || decide (n < a.1 1))) →
      Ends (.nodeList c) s (closed { u with freeIdx := u.freeIdx + l.length }))

/-- The commands of groups 0x08 and 0x09: event queues, routes and the time unit (R285, R286, R292, R301–R303, R308,
R390–R395). -/
def Obligations.EventAndTimeCommands : Prop :=
  (∀ s c t, t = begun s c false →
      (Admits s c 0x0801 false free_ → Ends (.queueStatus c) s (closed (respond t c (.ok (queueStatusBytes t) (!c.params.isEmpty))))) ∧
      (Admits s c 0x0802 false free_ → Ends (.eventRouteGet c) s (closed (respond t c (eventRouteGet t c)))) ∧
      (Admits s c 0x0804 false free_ → Ends (.eventSettingsGet c) s (closed (respond t c (.ok (eventSetBytes t) (!c.params.isEmpty))))) ∧
      (Admits s c 0x0900 false free_ → Ends (.timeStatus c) s (closed (respond t c (.ok (timeStatusBytes t) (!c.params.isEmpty))))) ∧
      (Admits s c 0x0901 false free_ → Ends (.timeSettingsGet c) s (closed (respond t c (.ok (timeSetBytes t) (!c.params.isEmpty))))) ∧
      (Admits s c 0x0904 false free_ → Ends (.sofRead c) s (closed (respond t c (sofRead t c)))) ∧
      (Admits s c 0x0800 false free_ → peeks c = true → Ends (.eventFetchPeek c) s (closed (respond t c (eventPeek t c))))) ∧
  (∀ s c t a q hit asks q1 recs, Admits s c 0x0800 false free_ → peeks c = false → t = begun s c false → a = fetchArgs c →
      q = t.queue .sideband → hit = (q.recs.take q.fetched).findIdx? (fun r => r.qseq.toNat == a.1 3) →
      asks = (a.1 2 == 1 && a.1 4 != 0) →
      q1 = fetchFreed q asks hit → recs = q1.recs.take (a.1 4) →
      Ends (.eventFetch c) s (closed (respond (t.modQueue .sideband (fun _ => { q1 with fetched := max q1.fetched recs.length })) c
        (.ok (fetchBytes { q1 with fetched := max q1.fetched recs.length } recs false) (a.2 || (asks && hit.isNone)))))) ∧
  (∀ s c t f asked n new t1 t2, Admits s c 0x0803 false free_ → t = begun s c false → f = (par 0 16 0 0 447).read c.params →
      asked = c.params.drop 4 → n = min asked.length (448 - f.1) →
      new = (asked.take n).mapIdx (fun i b => BitVec.ofNat 8 (routeAllowed c (t.route (f.1 + i)) b.toNat)) →
      t1 = setRoutes t f.1 new → t2 = shareBlock t1 0x0803 f.1 new →
      Ends (.eventRouteSet c) s (closed (respond t2 c (.ok (routeBytes t2 f.1 n) (f.2 || decide (n < asked.length)
        || ((asked.take n).mapIdx (fun i b => new.getD i 0 != b % 64)).any (·)))))) ∧
  (∀ s c t r u, Admits s c 0x0805 true free_ → t = begun s c true → r = setEvent t c.params →
      u = shareBlock r.2 0x0805 0 (eventSetBytes r.2) → Ends (.eventSettingsSet c) s (closed (respond u c (.ok (eventSetBytes u) r.1)))) ∧
  (∀ s c t r u, Admits s c 0x0902 true free_ → t = begun s c true → r = setTime t c.params →
      u = shareBlock r.2 0x0902 0 (timeSetBytes r.2) → Ends (.timeSettingsSet c) s (closed (respond u c (.ok (timeSetBytes u) r.1)))) ∧
  (∀ s c t a, (epochArgs s c).1 1 = 0 → Admits s c 0x0903 true free_ → t = begun s c true → a = epochArgs t c →
      (t.tu.isRoot = false → Ends (.timeEpoch c) s (closed (respond t c (.fail stRefusedState 1 0 a.2)))) ∧
      (t.tu.isRoot = true → ∃ u, u = stepTime t ((a.1 0 : Int) - t.now) ∧
        Ends (.timeEpoch c) s (closed (respond u c (.ok (leBytes 8 u.now) a.2))))) ∧
  (∀ s c t a v w, (epochArgs s c).1 1 = 1 → Admits s c 0x0903 true free_ → t = begun s c true → a = epochArgs t c →
      v = a.1 0 / 1000000000 * 1000000000 → w = addWait t c (a.2 || v != a.1 0) →
      (t.tu.isRoot = false → Ends (.timeEpochAtPps c) s (closed (respond t c (.fail stRefusedState 1 0 a.2)))) ∧
      (t.tu.isRoot = true → t.tu.ppsLocked = false → Ends (.timeEpochAtPps c) s (closed (respond t c (.fail stRefusedState 2 0 a.2)))) ∧
      (t.tu.isRoot = true → t.tu.ppsLocked = true → t.tu.epoch.isSome = true →
        Ends (.timeEpochAtPps c) s (closed (respond t c (.fail stBusy 2 1010 a.2)))) ∧
      (t.tu.isRoot = true → t.tu.ppsLocked = true → t.tu.epoch = none →
        Ends (.timeEpochAtPps c) s (closed { w.2 with tu := { w.2.tu with epoch := some (v, w.1) } }))) ∧
  (∀ s (d : Int), ∃ s1 : State, s1 = flushCapture (raiseSync s 3 (uns 64 d)) ∧ stepTime s d = { s1 with tu := { s1.tu with
      count := BitVec.ofInt 96 ((s1.tu.count.toNat : Int) + d * 4294967296), steps := min 65535 (s1.tu.steps + 1)
      jump := s1.tu.jump + d, lastEdge := s1.tu.lastEdge.map (· + d) } }) ∧
  (∀ s u n, n = (s.up u).sofSpacing.length → sofBytes s u = leBytes 8 (s.up u).sofTime
      ++ leBytes 8 ((s.up u).frame + at_ 11 (s.up u).uframe + at_ 14 (b2n (s.up u).sofLocked)
        + at_ 15 (b2n ((s.up u).link == .hs)) + at_ 32 (if n = 0 then 0 else (s.up u).sofSpacing.foldl (· + ·) 0 / n)))

/-- The commands of groups 0x0A and 0x0B: the Crock and the Sieve (R312, R317, R324, R327, R329, R333–R338,
R396–R401). -/
def Obligations.CrockAndSieveCommands : Prop :=
  (∀ s c t, t = begun s c false →
      (Admits s c 0x0A00 false free_ → Ends (.crockStatus c) s (closed (respond t c (.ok (crockStatusBytes t) (!c.params.isEmpty))))) ∧
      (Admits s c 0x0A01 false free_ → Ends (.crockRead c) s (closed (respond t c (crockReadCmd t c))))) ∧
  (∀ s c t p l d a recs next, Admits s c 0x0A03 false free_ → t = begun s c false →
      p = args c 6 [parAny 0 32 0, par 32 8 63 0 63, parAny 40 1 0, parAny 41 1 0] →
      l = (if p.1 2 = 0 then ringRecords t else ffRecords t (p.1 3 == 1)) →
      d = (if p.1 2 = 0 then t.crock.oldest else ((l.head?).map (fun x => slotJseq x.2)).getD (t.free % 2 ^ 32)) →
      a = args c 6 [parAny 0 32 d, par 32 8 63 0 63, parAny 40 1 0, parAny 41 1 0] →
      recs = (l.filter (fun x => decide (a.1 0 ≤ slotJseq x.2))).take (a.1 1) →
      next = ((recs.getLast?).map (fun x => slotJseq x.2 + 1)).getD (a.1 0) →
      Ends (.journalRead c) s (closed (respond t c (.ok (leBytes 4 next ++ leBytes 1 recs.length
        ++ leBytes 1 (sat 8 (next - a.1 0 - recs.length)) ++ zeros 2 ++ (recs.map (·.2)).flatten) a.2)).drawn)) ∧
  (∀ s c t n, t = begun s c false →  n = args c 1 [selPar 0 7] →
      (Admits s c 0x0B00 false free_ → Ends (.sieveGet c) s (closed (respond t c (.ok (sieveSetBytes (t.sieveCh (n.1 0))) n.2)))) ∧
      (Admits s c 0x0B04 false free_ → Ends (.sieveStatus c) s (closed (respond t c (.ok (sieveStatusBytes t (n.1 0)) n.2))))) ∧
  (∀ s c t part size base off data cl priv, priv = decide ((writeArgs c).1 0 < 4) → Admits s c 0x0A02 priv free_ → t = begun s c priv →
      part = (writeArgs c).1 0 → base = (partBase part).1 → size = (partBase part).2 → off = min ((writeArgs c).1 1) size →
      data = (c.params.drop 8).take (size - off) →
      cl = ((writeArgs c).2 || off != (writeArgs c).1 1 || decide (data.length + 8 < c.params.length)) →
      (part = 4 ∨ part = 5 ∨ part = 7 → Ends (.crockWrite c) s (closed (respond t c (.fail stRefusedState 1 0 cl)))) ∧
      (¬ (part = 4 ∨ part = 5 ∨ part = 7) → partInUse t part = true →
        Ends (.crockWrite c) s (closed (respond t c (.fail stRefusedState 2 0 cl)))) ∧
      (¬ (part = 4 ∨ part = 5 ∨ part = 7) → partInUse t part = false → t.crock.fault = true →
        Ends (.crockWrite c) s (closed (respond t c (.fail stInternal 1 0 cl)))) ∧
      (¬ (part = 4 ∨ part = 5 ∨ part = 7) → partInUse t part = false → t.crock.fault = false → part ≠ 6 → data ≠ [] →
        Ends (.crockWrite c) s (closed (respond
          ((linesOf (lineBytes t) (data.length + 1) (base + off) data).foldl
            (fun s l => putLine s l.1 l.2) (if part = 0 then unverify t false else if part = 1 then unverify t true else t))
          c (.ok (leBytes 4 data.length) cl)))) ∧
      (¬ (part = 4 ∨ part = 5 ∨ part = 7) → partInUse t part = false → t.crock.fault = false → part = 6 →
        ∀ r w, r = (linesOf (lineBytes t) (data.length + 1) (base + off) data).foldl writeUserLine (0, t) → w = addWait r.2 c cl →
        (r.1 = 0 → Ends (.crockWrite c) s (closed (respond r.2 c (.ok (leBytes 4 data.length) cl)))) ∧
        (r.1 ≠ 0 → Ends (.crockWrite c) s (closed { w.2 with crock := { w.2.crock with
          writes := w.2.crock.writes ++ [(w.1, r.1, leBytes 4 data.length)] } })))) ∧
  (∀ s l, writeUserLine (0, s) l = if lineReady s l.1 then (0, putLine s l.1 l.2)
      else (1, { s with crock := { s.crock with lineWait := s.crock.lineWait ++ [l] } })) ∧
  (∀ s c t, Admits s c 0x0A04 true free_ → t = begun s c true →
      Ends (.ffClear c) s (closed (respond (clearFirstFaults t) c
        (.ok (leBytes 4 ((((ffRecords t false).getLast?).map (fun x => slotJseq x.2)).getD 0xFFFFFFFF)) (!c.params.isEmpty))))) ∧
  (∀ s c t a lo n t1 t2 used, Admits s c 0x0A05 false free_ → t = begun s c false → a = span c 2 0 63 1 [] → lo = a.2.1 → n = a.2.2.1 →
      t1 = (List.range t.crock.lineWait.length).foldl (fun s _ => userLineWrite .good s) t →
      t2 = eraseUser t1 (0x3B0000 + 4096 * lo) (0x3B0000 + 4096 * (lo + n)) →
      used = t2.crock.used.filter (fun b => decide (b < lo) || decide (lo + n ≤ b)) →
      Ends (.userErase c) s (closed (respond
        { t2 with crock := { t2.crock with used := used, userTold := t2.crock.userTold && decide (58 ≤ used.length) } }
        c (.ok (leBytes 1 used.length) a.2.2.2)))) ∧
  (∀ s c t n r, Admits s c 0x0B01 false sealForeign → t = begun s c false → n = (selPar 0 7).read c.params → r = sieveAsked t c →
      (r.1.mode = 3 ∧ (r.1.port = 0 ∨ (r.1.port ≤ 32 ∧ (t.port r.1.port).id.eff = .transparent)) →
        Ends (.sieveSet c) s (closed (respond t c (.fail stRefusedState 0 0 (n.2 || r.2))))) ∧
      (¬ (r.1.mode = 3 ∧ (r.1.port = 0 ∨ (r.1.port ≤ 32 ∧ (t.port r.1.port).id.eff = .transparent))) → ∃ u,
        u = shareBlock (setSieve t n.1 r.1) 0x0B01 n.1 (sieveSetBytes ((setSieve t n.1 r.1).sieveCh n.1)) ∧
        Ends (.sieveSet c) s (closed (respond u c (.ok (sieveSetBytes (u.sieveCh n.1)) (n.2 || r.2)))))) ∧
  (∀ s c t n e ch, Admits s c 0x0B02 false free_ → t = begun s c false → n = (selPar 0 7).read c.params →
      e = ({ lo := 8, w := 8, dflt := 1, fix := fun v => if v = 2 ∨ v = 4 then v else 1 } : Par).read c.params → ch = t.sieveCh n.1 →
      (ch.mode ≠ 1 ∧ ch.mode ≠ 2 → Ends (.sieveFeed c) s (closed (respond t c (.fail stRefusedState 0 0 (n.2 || e.2))))) ∧
      (ch.mode = 1 ∨ ch.mode = 2 → ∀ size fed, size = (if (ch.mode == 2) = true then 1 else e.1) → fed = fedBytes ch size (c.params.drop 4) →
        Ends (.sieveFeed c) s (closed (respond (sieveTake t n.1 fed) c
          (.ok (leBytes 2 fed.length) (n.2 || e.2 || (ch.mode == 2 && e.1 != 1) || fed.length != (c.params.drop 4).length)))))) ∧
  (∀ s c t n ch r, Admits s c 0x0B03 false free_ → t = begun s c false → n = args c 1 [selPar 0 7] → ch = t.sieveCh (n.1 0) →
      r = sieveEnd t (n.1 0) →
      (ch.mode ≠ 1 → Ends (.sieveFinish c) s (closed (respond t c (.fail stRefusedState 0 0 n.2)))) ∧
      (ch.mode = 1 → Ends (.sieveFinish c) s (closed (respond r.2 c (.ok (leBytes 4 r.1 ++
        leBytes 1 (b2n ch.compare + 2 * b2n (ch.compare && r.1 == ch.expected % 2 ^ (8 * polyBytes ch.poly)))) n.2)))))

/-- A step takes the command at the front of the queue and executes it with the rest of the queue in place. On an empty queue
TIME gains the idle count and the Ladle is given its turn: alone, or while the Ladle is down, nothing else changes, nor with
nothing new to tell; new slow state leaves first; what a turn of the Ladle changes is the fabric interface and what the
partner has been told. The idle count is one TIME clock at the rate word; one measured AON cycle
in HIBERNATE; nothing in OFF or with RESET_N low (R283, R284; the model's choices of log entries 5 and 63: the queue, and
what a step does when it is empty). -/
def Obligations.StepTakesFrontCommand : Prop :=
  (∀ (c : Instr) (q : List Instr) (s : State), s.pending = c :: q → step s = exec c { s with pending := q }) ∧
  (∀ s t : State, s.pending = [] → t = { s with tu := { s.tu with count := s.tu.count + BitVec.ofInt 96 (idleGain s) } } →
    step s = .next (shareState t) ∧
    (s.isPair = false ∨ s.pair.ladle = false → step s = .next t) ∧
    (slowChanges (slowNow s) s.pair.told = [] → s.mirrors = false ∨ (∀ x ∈ mirrorNow s, x ∈ s.pair.toldMirror) →
      step s = .next t) ∧
    (s.isPair = true → s.pair.ladle = true → s.mirrors = false → slowChanges (slowNow s) s.pair.told ≠ [] →
      step s = .next (sendLadle { t with pair := { t.pair with told := slowNow s, sent := slowChanges (slowNow s) s.pair.told } }
        0 0x39 0 [])) ∧
    ∃ f a b c d, step s = .next { t with fab := f, pair := { t.pair with told := a, sent := b, toldMirror := c, staged := d } }) ∧
  (∀ s : State,
    (s.sys.held = .resetN ∨ s.sys.pstate = .off → idleGain s = 0) ∧
    (s.sys.held = .no → s.sys.pstate = .hibernate → idleGain s = (Config.rcPeriodFs * 4294967296 / 1000000 : Nat)) ∧
    (s.sys.held = .no → s.sys.pstate ≠ .off → s.sys.pstate ≠ .hibernate → s.sys.pstate ≠ .deadFeed ∨ s.sys.regen = true →
      idleGain s = 4 * 2 ^ 32 + s.tu.rateAdj))

/-- The state after reset holds together, waits for nothing, and stands at the values the spec gives for reset, by kind of
state: ports UNPOWERED, vacant and unconfigured, with TRANSPARENT for ports 1–8 and TRANSLATED for 9–32 (R43, R71, R92, R101,
R445); hub and management functions at address 0, unconfigured (R44, R117, R292); no contract and no capabilities (R163);
every path OFF, its settings (R167, R188); feeds, budget and pair (R196, R205, R245, R246); links and TIME (R280, R281, R283,
R286); queues (R302); Crock and Sieve (R329, R333); NONCE counts and mailbox (R347, R349, R353). -/
def Obligations.ResetState : Prop :=
  Sound State.reset ∧ WaitsWellFormed State.reset ∧ State.reset.pending = [] ∧
  (∀ q ∈ State.reset.ports, q.dpe = .unpowered ∧ q.powerReq = true ∧ q.addr = 0 ∧ q.id.st = .vacant ∧ q.id.eff = .transparent ∧
    q.id.fallback = 0 ∧ q.id.hostAddr = 0 ∧ q.id.wireAddr = 0 ∧ q.id.hostCfg = 0 ∧ q.id.speed = .none ∧ q.id.generation = 0 ∧
    q.cache = [] ∧ q.cacheOk = false ∧ q.px.eps = [] ∧ q.px.winOpen = false) ∧
  ((State.reset.ports.map (fun q => q.id.mode)) = List.replicate 8 .transparent ++ List.replicate 24 .translated) ∧
  (∀ e ∈ State.reset.spes, e.st = .ssDisabled ∧ e.fails = 0 ∧ e.firstLfps = true) ∧
  (∀ u : Up, (State.reset.up u).link = .detached ∧ (State.reset.up u).hubAddr = 0 ∧ (State.reset.up u).hubCfg = 0 ∧
    (State.reset.up u).ssAddr = 0 ∧ (State.reset.up u).ssCfg = 0 ∧ (State.reset.up u).mgAddr = 0 ∧ (State.reset.up u).mgCfg = 0 ∧
    (State.reset.up u).sofLocked = false ∧ (State.reset.up u).sofTime = 0) ∧
  (∀ d ∈ State.reset.pdes, d.contract = none ∧ d.epr = false ∧ d.rev = none ∧ d.capsN = 0 ∧ d.hardN = 0 ∧ d.srcCaps = [] ∧
    d.snkCaps = [] ∧ d.vconn = false ∧ d.frs = false) ∧
  (∀ q ∈ State.reset.ppcs, q.st = .off ∧ q.pg = false ∧ q.dsch = false ∧ q.mv = 5000 ∧ q.trips = 0 ∧ q.set.auto = false ∧
    q.set.margin = 25 ∧ q.set.ftPct = 200 ∧ q.set.tfault = 10000 ∧ q.set.tcool = 1000 ∧ q.set.tvw = 20) ∧
  (∀ b : Bool, (State.reset.feed b).st = .absent ∧ (State.reset.feed b).gate = false ∧ (State.reset.feed b).set.pmax = 0 ∧
    (State.reset.feed b).set.ov = 590 ∧ (State.reset.feed b).set.ew = 360) ∧
  State.reset.pba.sum = false ∧ State.reset.pba.eff = 95 ∧ State.reset.pba.cap = 0xFFFF ∧ State.reset.pba.budget = 0 ∧
  State.reset.pair.st = .boot ∧ State.reset.pair.ladle = false ∧ State.reset.pair.synced = false ∧ State.reset.pair.set.wire = 0 ∧
  (∀ k ∈ State.reset.fab.links, k.st = .disabled ∧ k.ladle = false ∧ k.retrains = 0 ∧ k.rtt = 0) ∧
  State.reset.fab.nodeId = 0 ∧ State.reset.fab.linkEn = 15 ∧ State.reset.fab.lendHold = 20 ∧
  State.reset.tu.count = 0 ∧ State.reset.tu.steps = 0 ∧ State.reset.tu.isRoot = false ∧
  State.reset.crock.mem = [] ∧ State.reset.crock.ffUsed = 0 ∧ State.reset.crock.used = [] ∧ State.reset.crock.fault = false ∧
  (∀ i : QueueId, State.reset.queue i = {}) ∧ State.reset.ev.capture = [] ∧
  (∀ tr : Transport, (State.reset.trState tr).accepted = 0 ∧ (State.reset.trState tr).fails = 0 ∧
    (State.reset.trState tr).locked = false ∧ (State.reset.trState tr).cache = [] ∧ (State.reset.trState tr).asm = none) ∧
  State.reset.cmd.mb.alertEn = 2 ∧ State.reset.cmd.mb.lastSeq = 0 ∧ State.reset.cmd.mb.mboDrops = 0 ∧
  (∀ n, State.reset.sieveCh n = {}) ∧ (∀ n, (State.reset.sieveCh n).mode = 0 ∧ (State.reset.sieveCh n).poly = 3)

/-- Every command ends in a next state, whatever its operands and whatever the state: no command of this block stops the
model, and none changes the queue of commands that wait. -/
def Obligations.EveryCommandEnds : Prop :=
  ∀ (i : Instr) (s : State), ∃ t, exec i s = .next t ∧ t.pending = s.pending

/-- The commands that wait are worked off first in, first out: after as many steps as there are commands before `m`, the
queue is `m`, and the machine has not stopped. -/
def Obligations.QueueWorkedOff : Prop :=
  ∀ (l m : List Instr) (s : State), s.pending = l ++ m →
    ∃ t : State, Sys2Proof.core.run l.length s = .next t ∧ t.pending = m

/-- Every step keeps the state together: as many ports, engines, paths, converters, links and channels as the chip has, the
Crock's contents in canonical form inside its 4 MiB, the capture stage at most 64 records, the queues at most 1,024 (256 for
the journal writer) with at most 64 open entries, the AON buffer at most 16 (R9, R299, R302, R305, R311, R320, R421); and the
commands that wait stay well-formed. -/
def Obligations.StepKeepsSound : Prop :=
  ∀ s t : State, Sound s → WaitsWellFormed s → step s = .next t → Sound t ∧ WaitsWellFormed t

/-- Bytes written to the Crock read back at their addresses, every other byte is as it was, and nothing past the last
address is written (R311). -/
def Obligations.CrockWriteReadsBack : Prop :=
  ∀ (s : State) (a : Nat) (bs : List Byte), Memory.wf s.crock.mem = true →
    (∀ k, k < bs.length → a + k < 0x400000 → readCell (crockWrite s a bs).crock.mem (a + k) = bs.getD k 0) ∧
    (∀ x, x < a ∨ a + bs.length ≤ x → readCell (crockWrite s a bs).crock.mem x = readCell s.crock.mem x) ∧
    Memory.wf (crockWrite s a bs).crock.mem = true

/-- A value written to a paired line is the value in force, whichever copy it replaced (R325, R326). -/
def Obligations.PairedLineReadsBack : Prop :=
  ∀ (s : State) (a v : Nat), Memory.wf s.crock.mem = true → s.crock.bad = [] → a + 32 ≤ 0x400000 → v < 2 ^ 64 →
    (∀ w n hi, pairedLine s a = some (w, n, hi) → n + 1 < 2 ^ 32) → (setPaired s a v).paired a = v

/-- QUEUE_STATUS takes no parameters and returns the status blocks of queues A, B, sideband and fabric-forward in that
order, then the capture stage's occupancy (R391). -/
def Obligations.QueueStatusReturnsTheBlocks : Prop :=
  ∀ s c t, Admits s c 0x0801 false free_ → t = begun s c false →
    Ends (.queueStatus c) s (closed (respond t c (.ok
      (t.ev.qa.status ++ t.ev.qb.status ++ t.ev.qsb.status ++ t.ev.qfab.status ++ leBytes 1 t.ev.capture.length)
      (!c.params.isEmpty))))

/-- SOF_READ takes UP in byte 0, 0 for A and 1 for B, default 0, and returns that upstream's correlation block and then NOW,
8 bytes, of the same clock (R395). -/
def Obligations.SofReadReturnsBlockAndNow : Prop :=
  ∀ s c t, Admits s c 0x0904 false free_ → t = begun s c false →
    (c.params = [] → Ends (.sofRead c) s (closed (respond t c (.ok (sofBytes t .a ++ leBytes 8 t.now))))) ∧
    (∀ rest, c.params = 0 :: rest →
      Ends (.sofRead c) s (closed (respond t c (.ok (sofBytes t .a ++ leBytes 8 t.now) (!rest.isEmpty))))) ∧
    (∀ rest, c.params = 1 :: rest →
      Ends (.sofRead c) s (closed (respond t c (.ok (sofBytes t .b ++ leBytes 8 t.now) (!rest.isEmpty)))))

/-- KEY_STATUS takes no parameters and returns one 16-byte entry for each of slots 0 to 3: PRESENT in bit 0, IN_USE in bit 1,
bits 63:2 zero, and in bits 127:64 the first 8 bytes of the key's SHA-256 (R409). -/
def Obligations.KeyStatusReturnsFourEntries : Prop :=
  (∀ s c t r, Admits s c 0x0D06 false free_ → t = begun s c false →
    r = respond t c (.ok (keyEntry t 0 ++ keyEntry t 1 ++ keyEntry t 2 ++ keyEntry t 3) (!c.params.isEmpty)) →
    Ends (.keyStatus c) s (closed { r with freeIdx := r.freeIdx + 4 })) ∧
  (∀ (t : State) (k : Nat), (keyEntry t k).length = 16 ∧
    (keyEntry t k).take 8 = leBytes 8 (b2n (t.key k).isSome + 2 * b2n (runningSlot t == some k)) ∧
    (∀ x, t.key k = some x → (keyEntry t k).drop 8 = (sha256 x).take 8))

/-- A pin to a level that the stepping does not implement completes NOT_AT_COMPAT_LEVEL, and the level pinned before stays in
force (R7). -/
def Obligations.UnimplementedLevelIsRefused : Prop :=
  ∀ s c t n, Admits s c 0x0C03 true free_ → t = begun s c true → n = (args c 1 [parAny 0 8 t.sys.cl]).1 0 → 1 < n →
    Ends (.clPin c) s (closed (respond t c (.fail stNotAtCompat t.sys.cl))) ∧
    (closed (respond t c (.fail stNotAtCompat t.sys.cl))).sys.clPinned = s.sys.clPinned ∧
    (closed (respond t c (.fail stNotAtCompat t.sys.cl))).sys.cl = s.sys.cl

/-- A DR_Swap is answered with Reject on any port, a PR_Swap on every downstream port (R2). -/
def Obligations.SwapsAreRejected : Prop :=
  (∀ s h, Hears s h → Ends (.drSwap h) s (send (heard s h) h.port .reject)) ∧
  (∀ s h, Hears s h → isUp h.port = false → Ends (.prSwap h) s (send (heard s h) h.port .reject))

/-- How a command's authentication is judged: without AUTH, locked out, with a valid tag, with a wrong one (R347–R350). With
a valid tag the NONCE of that transport moves on by 1 and its failure count is 0; a failure leaves every NONCE. -/
def Obligations.AuthenticationIsJudged : Prop :=
  (∀ s c, c.auth = false → authenticate s c false = (none, s)) ∧
  (∀ s c, c.auth = false → provisioning s c = false → authenticate s c true = (some stAuthRequired, authEvent s c 2)) ∧
  (∀ s c, c.auth = false → provisioning s c = true → authenticate s c true = (none, s)) ∧
  (∀ s c priv, c.auth = true → (s.trState c.tr).locked = true → authenticate s c priv = (some stAuthFailed, s)) ∧
  (∀ s c priv k, c.auth = true → (s.trState c.tr).locked = false → s.key 0 = some k → 16 ≤ c.payload.length →
    c.payload.drop (c.payload.length - 16) = tagOf s c k → ∃ t, authenticate s c priv = (none, t) ∧
      t.nonce c.tr = (s.nonce c.tr + 1) % 2 ^ 64 ∧ (t.trState c.tr).fails = 0 ∧ ∀ tr, tr ≠ c.tr → t.nonce tr = s.nonce tr) ∧
  (∀ s c priv k, c.auth = true → (s.trState c.tr).locked = false → s.key 0 = some k →
    ¬ (16 ≤ c.payload.length ∧ c.payload.drop (c.payload.length - 16) = tagOf s c k) →
    ∃ t, authenticate s c priv = (some stAuthFailed, t) ∧ (∀ tr, t.nonce tr = s.nonce tr) ∧
      (t.trState c.tr).fails = (if 7 ≤ (s.trState c.tr).fails then 0 else (s.trState c.tr).fails + 1) ∧
      (t.trState c.tr).locked = decide (7 ≤ (s.trState c.tr).fails))

/-- A command that is barred is answered with that status and has no effect of its own; one of another opcode, or held back,
is not run (R342, R345, R350, R351, R357, R437). -/
def Obligations.BarredCommandsAreAnswered : Prop :=
  (∀ op priv foreign body c s st d, c.opcode = op → heldBack s c = false → barred op priv foreign c s = some (st, d) →
    (s.sys.romOnly = false ∨ romOpcodes.contains op = true) →
    runCmd op priv foreign body c s = closed (respond (begun s c priv) c (.fail st d))) ∧
  (∀ op priv foreign body c s, c.opcode = op → heldBack s c = false → s.sys.romOnly = true → romOpcodes.contains op = false →
    runCmd op priv foreign body c s = closed (respond (taken s c) c (.fail stInternal 2))) ∧
  (∀ op priv foreign body c s, c.opcode ≠ op ∨ heldBack s c = true → runCmd op priv foreign body c s = s) ∧
  (∀ op foreign c s, s.sys.romOnly = false → c.auth = false → provisioning (taken s c) c = false →
    barred op true foreign c s = some (stAuthRequired, 0)) ∧
  (∀ op foreign c s, s.sys.romOnly = false → c.auth = false → foreign (taken s c) c = true →
    barred op false foreign c s = some (stNotOwner, 0)) ∧
  (∀ op c s, s.sys.romOnly = false → c.auth = false → passive (taken s c) op = true →
    barred op false free_ c s = some (stNotOwner, 0))

/-- A packet built with its header and CRC passes the front-end's checks and reads back as what it was built from, whatever
its fields and payload; and a journal record reads back as valid with its JSEQ (R318, R322, R339, R342). -/
def Obligations.PacketsAndRecordsReadBack : Prop :=
  (∀ (tr : Transport) (ftag : Nat) (mute : Bool) (opcode tag target flags status : Nat) (payload : List Byte),
    opcode < 2 ^ 16 → tag < 2 ^ 16 → target < 2 ^ 8 → flags < 2 ^ 8 → status < 2 ^ 16 → payload.length ≤ 4088 →
    packetFault (packetBytes opcode tag target flags status payload) = none ∧
    ∃ crc, readPacket tr ftag mute (packetBytes opcode tag target flags status payload) =
      { tr := tr, opcode := opcode, tag := tag, target := target, auth := bit flags 0, noresp := bit flags 1,
        payload := payload, ftag := ftag, rsv := bits flags 7 4, crc := some crc, mute := mute } ∧
    respOf (packetBytes opcode tag target flags status payload) =
      { status := status, clamped := bit flags 2, payload := payload }) ∧
  (∀ (s : State) (r : EvRec) (first : Bool) (j : Nat), j < 2 ^ 32 →
    slotValid (journalBytes s r first j) = true ∧ slotJseq (journalBytes s r first j) = j ∧ (journalBytes s r first j).length = 64)

/-- Whatever bytes a plan is carved from, its regions stand in page order inside pages 16 to 511, none empty, each with a
type of the table, no more pages than its type may have and an owner valid for it; no two share a page, and no owner has
two of one type (R62–R65). -/
def Obligations.CarvedPlanIsOrderly : Prop :=
  ∀ b : List Byte,
    ((carve b).1.Pairwise (fun x y => x.first + x.pages ≤ y.first)) ∧
    ((carve b).1.Pairwise (fun x y => ¬ (x.kind = y.kind ∧ x.owner = y.owner ∧ x.ownerUp = y.ownerUp))) ∧
    ∀ r ∈ (carve b).1, 1 ≤ r.kind ∧ r.kind ≤ 6 ∧ 16 ≤ r.first ∧ 1 ≤ r.pages ∧ r.first + r.pages ≤ 512 ∧
      r.pages ≤ maxPages r.kind ∧ validOwner r = true

/-- A command that only reads, whether it is admitted or barred, leaves every port, engine and the plan, both feeds and the
budget, every power path, converter and PD engine, the Crock and the Sieve as they were (R351, R361, R383). -/
def Obligations.ReadingCommandsLeaveTheChip : Prop :=
  ∀ (c : Cmd) (i : Instr) (s t : State), i ∈ readingCommands c → exec i s = .next t →
    SameChip s t
end

