-- ==== Sys2Proof/Laws/Bytes.lean ====
section
/-!
SUPPORT. Laws/Bytes.lean: byte order, CRC and digest lengths, and the fields of a paired line's copy.
-/

namespace Sys2Proof.Machine

/-- As many bytes as asked for. -/
theorem leBytes_length : ∀ n v, (leBytes n v).length = n := by
  intro n; induction n with
  | zero => intro v; rfl
  | succ n ih => intro v; simp [leBytes, ih]

/-- A number written little-endian reads back, reduced to its bytes (R14). -/
theorem leNat_leBytes : ∀ n v, leNat (leBytes n v) = v % 256 ^ n := by
  intro n; induction n with
  | zero => intro v; simp [leBytes, leNat, Nat.mod_one]
  | succ n ih =>
    intro v
    simp only [leBytes, leNat, ih, BitVec.toNat_ofNat]
    rw [show 256 ^ (n + 1) = 256 * 256 ^ n from by rw [Nat.pow_succ, Nat.mul_comm], Nat.mod_mul]

/-- One bit of a reflected CRC stays in its register. -/
theorem crcRBit_lt {poly c : Nat} (hp : poly < 2 ^ 32) (hc : c < 2 ^ 32) : crcRBit poly c < 2 ^ 32 := by
  unfold crcRBit; split
  · exact Nat.xor_lt_two_pow (by omega) hp
  · omega

/-- A CRC-32C is a 32-bit number. -/
theorem crc32c_lt (bs : List Byte) : crc32c bs < 2 ^ 32 := by
  have h : ∀ (l : List Byte) (c : Nat), c < 2 ^ 32 → l.foldl (crcStep 3) c < 2 ^ 32 := by
    intro l; induction l with
    | nil => exact fun _ h => h
    | cons b l ih =>
      intro c hc
      refine ih _ ?_
      show crcRByte _ c b < _
      unfold crcRByte
      have : (c ^^^ b.toNat) < 2 ^ 32 := Nat.xor_lt_two_pow hc (lt_trans b.isLt (by norm_num))
      iterate 8 refine crcRBit_lt (by norm_num) ?_
      exact this
  exact Nat.xor_lt_two_pow (h bs _ (by norm_num [crcInit])) (by norm_num)

/-- The slice at which a field stands is the field. -/
theorem slice_at {α} (a b c : List α) (off n : Nat) (h1 : a.length = off) (h2 : b.length = n) : slice (a ++ (b ++ c)) off n = b := by
  unfold slice; rw [List.drop_left' h1, List.take_left' h2]

/-- A paired line's copy is 16 bytes (R325). -/
theorem paired_len (v n : Nat) : (pairedBytes v n).length = 16 := by simp [pairedBytes, leBytes_length]

/-- Its value and its sequence number come first. -/
theorem paired_take (v n : Nat) : (pairedBytes v n).take 12 = leBytes 8 v ++ leBytes 4 n := by
  show List.take 12 ((leBytes 8 v ++ leBytes 4 n) ++ _) = _
  exact List.take_left' (by simp [leBytes_length])

/-- Its CRC comes last. -/
theorem paired_drop (v n : Nat) : (pairedBytes v n).drop 12 = leBytes 4 (crc32c (leBytes 8 v ++ leBytes 4 n)) := by
  show List.drop 12 ((leBytes 8 v ++ leBytes 4 n) ++ _) = _
  exact List.drop_left' (by simp [leBytes_length])

/-- A SHA-256 digest is 32 bytes. -/
theorem sha256_length (bs : List Byte) : (sha256 bs).length = 32 := by
  have h1 : ∀ (ks w v : List Nat), v.length = 8 → (shaRounds ks w v).length = 8 := by
    intro ks; induction ks with
    | nil => exact fun _ _ h => h
    | cons k ks ih => intro w v _; exact ih _ _ rfl
  have h2 : ∀ n bs (h : List Nat), h.length = 8 → (shaBlocks n bs h).length = 8 := by
    intro n; induction n with
    | zero => exact fun _ _ h => h
    | succ n ih => intro bs h hl; refine ih _ _ ?_; rw [List.length_zipWith, h1 _ _ _ hl, hl]; rfl
  have h3 : ∀ l : List Nat, (l.flatMap (beBytes 4)).length = 4 * l.length := by
    intro l; induction l with
    | nil => rfl
    | cons x l ih => rw [List.flatMap_cons, List.length_append, ih]; simp [beBytes, leBytes_length]; omega
  unfold sha256
  rw [h3, h2 _ _ _ rfl]

end Sys2Proof.Machine
end

