-- ==== Sys2Proof/Laws/Commands.lean ====
section
/-!
SUPPORT. Laws/Commands.lean: what the operations that many commands share do: answers, heard messages, frames, and the start
of a command of the reference (`admits_run`: one that is admitted runs its body between `begun` and `closed`).
-/

namespace Sys2Proof.Machine

/-! ### An answer at a hub's endpoint 0, and what it leaves -/

theorem answer_owns (s : State) (u v : Up) (a n) : (answer s u a).owns v n = s.owns v n := by cases u <;> rfl

theorem answer_spe (s : State) (u : Up) (a n) : (answer s u a).spe n = s.spe n := by cases u <;> rfl

theorem answer_port (s : State) (u : Up) (a n) : (answer s u a).port n = s.port n := by cases u <;> rfl

theorem answer_ports (s : State) (u : Up) (a) : (answer s u a).ports = s.ports := by cases u <;> rfl

theorem answer_vport (s : State) (u v : Up) (a n) : (answer s u a).vport v n = s.vport v n := by cases u <;> cases v <;> rfl

theorem answer_sys (s : State) (u : Up) (a) : (answer s u a).sys = s.sys := by cases u <;> rfl

theorem answer_up (s : State) (u : Up) (a) : (answer s u a).up u = { s.up u with ans := if s.psxOn then a else .none } := by cases u <;> rfl

theorem answer_ident (s : State) (u : Up) (a l) : (answer s u a).ident l = s.ident l := by cases u <;> cases l <;> rfl

theorem modView_owns (s : State) (u v : Up) (n m f) : (s.modView u m f).owns v n = s.owns v n := by unfold State.modView; split <;> cases u <;> rfl

theorem answer_allQuiet (s : State) (u : Up) (a v) : allQuiet (answer s u a) v = allQuiet s v := by cases u <;> rfl

theorem answer_ttPorts (s : State) (u : Up) (a n) : ttPorts (answer s u a) u n = ttPorts s u n := by cases u <;> rfl

theorem pending_up (s : State) (q) (u : Up) : ({ s with pending := q } : State).up u = s.up u := by cases u <;> rfl

/-! ### Port numbers -/

theorem port_lt {n : Nat} (h : isPort n = true) : 1 ≤ n ∧ n ≤ 32 := by simpa [isPort, between] using h

theorem hasUsb2 {n : Nat} (h : isPort n = true) : hasPort .usb2 n = true := by have := port_lt h; simp [hasPort]; omega

theorem ne33 {n : Nat} (h : isPort n = true) : n ≠ 33 := by have := port_lt h; omega

theorem nle34 {n : Nat} (h : isPort n = true) : ¬ 34 ≤ n := by have := port_lt h; omega

theorem nlt32 {n : Nat} (h : isPort n = true) : ¬ 32 < n := by have := port_lt h; omega

theorem ss_le {n : Nat} (h : hasPort .ss n = true) : 1 ≤ n ∧ n ≤ 8 := by simpa [hasPort] using h

/-! ### Upstreams under updates of ports -/

theorem modPort_up (s : State) (p f) (u : Up) : (s.modPort p f).up u = s.up u := by unfold State.modPort; split <;> cases u <;> rfl

theorem foldl_up {α} (u : Up) (f : State → α → State) (h : ∀ s x, (f s x).up u = s.up u) : ∀ (l : List α) (s : State), (l.foldl f s).up u = s.up u := by
  intro l; induction l with | nil => intro s; rfl | cons x xs ih => intro s; rw [List.foldl_cons, ih, h]

theorem sofKeep (u : Up) (uf : Nat) (s : State) (p : Nat) : (if s.owns u p then s.modPort p (fun q => { q with tt := ttTick (uf % 8 = 0) q.tt }) else s).up u = s.up u := by
  split
  · exact modPort_up _ _ _ _
  · rfl

/-! ### How a command ends -/

theorem ends_of {i : Instr} {s t u : State} (h : exec i s = leaves s u) (e : u = t) : Ends i s t := by rw [Ends, h, e]; rfl

theorem completes_of {i : Instr} {s u : State} {P : State → Prop} (h : exec i s = leaves s u) (e : P { u with pending := s.pending }) : Completes i s P := ⟨_, h, e⟩

/-! ### A message heard -/

theorem hears_receive {s : State} {h : PdHdr} (a : Hears s h) (soft f) : pdReceive s h soft f = f (heard s h) := by
  obtain ⟨h1, h2, h3⟩ := a; simp [pdReceive, heard, h1, h2, h3]

theorem ppc_modPde (s : State) (n m f) : (s.modPde n f).ppc m = s.ppc m := by unfold State.modPde; split <;> rfl

/-! ### A frame taken, and one turned away -/

theorem frame_ok (s : State) (l q : Nat) (f : Frame) (h1 : (s.link l).st = .up) (h2 : (s.link l).naked = false) (h3 : BitVec.ofNat 8 q = (s.link l).rxSeq + 1) :
 frameReceived l q f true true s = (routeFrame (sendWord (s.modLink l (fun k => { k with rxSeq := k.rxSeq + 1 })) l 0x20 [(s.link l).rxSeq + 1]) l f) := by
  have e1 : ¬ ((s.link l).st ≠ .up ∨ (s.link l).naked = true) := fun h => h.elim (fun x => x h1) (fun x => by rw [h2] at x; cases x)
  have e2 : ¬ (False ∨ BitVec.ofNat 8 q ≠ (s.link l).rxSeq + 1) := fun h => h.elim id (fun x => x h3)
  unfold frameReceived
  simp only [Bool.not_true, Bool.or_self, Bool.false_eq_true, false_and, if_false, if_neg e1, if_neg e2]

theorem frame_nak (s : State) (l q : Nat) (f : Frame) (h1 : (s.link l).st = .up) (h2 : (s.link l).naked = false) (h3 : BitVec.ofNat 8 q ≠ (s.link l).rxSeq + 1) :
 frameReceived l q f true true s = (sendWord (s.modLink l (fun k => { k with naked := true })) l 0x21 [(s.link l).rxSeq]) := by
  have e1 : ¬ ((s.link l).st ≠ .up ∨ (s.link l).naked = true) := fun h => h.elim (fun x => x h1) (fun x => by rw [h2] at x; cases x)
  have e2 : (False ∨ BitVec.ofNat 8 q ≠ (s.link l).rxSeq + 1) := .inr h3
  unfold frameReceived
  have e3 : ¬ (True ∧ BitVec.ofNat 8 q = (s.link l).rxSeq + 1) := fun h => h3 h.2
  simp only [Bool.not_true, Bool.or_self, Bool.false_eq_true, false_and, if_false, if_neg e1, if_pos e2, if_neg e3]

/-! ### A command that the MPC starts -/

theorem barred_rom {op priv foreign c s} (h : barred op priv foreign c s = none) :
    ¬ (s.sys.romOnly = true ∧ ¬ romOpcodes.contains op = true) := by
  intro x; simp only [barred, if_pos x] at h; cases h

theorem admits_run {s : State} {c : Cmd} {op : Nat} {priv : Bool} {foreign : State → Cmd → Bool} (a : Admits s c op priv foreign)
    (body : Cmd → State → State) : runCmd op priv foreign body c s = closed (body c (begun s c priv)) := by
  obtain ⟨h1, h2, h3⟩ := a
  have h8 : ¬ (c.opcode ≠ op ∨ heldBack s c = true) := by simp [h1, h2]
  unfold runCmd
  rw [if_neg h8, if_neg (barred_rom h3), h3]

theorem form_run {s : State} {c : Cmd} {op : Nat} {priv : Bool} {foreign : State → Cmd → Bool} {form : Bool} (h : form = true)
    (a : Admits s c op priv foreign) (body : Cmd → State → State) : runForm form op priv foreign body c s = closed (body c (begun s c priv)) := by
  subst h; exact admits_run a body

/-! ### Authentication -/

theorem raise_cmd (s : State) (a b d) : (raise s a b d).cmd = s.cmd := by
  unfold raise raiseAt captureRec suppressAll
  split
  · rfl
  · split
    · split <;> rfl
    · split <;> rfl

theorem authEvent_tr (s : State) (c k) (t : Transport) : (authEvent s c k).trState t = s.trState t := by
  unfold State.trState authEvent; rw [raise_cmd]

theorem authEvent_nonce (s : State) (c k) (t : Transport) : (authEvent s c k).nonce t = s.nonce t := by
  unfold State.nonce; rw [authEvent_tr]; unfold authEvent; rw [raise_cmd]

theorem nonce_of {s t : State} {tr : Transport} (h1 : t.cmd.nonceBase = s.cmd.nonceBase) (h2 : (t.trState tr).start = (s.trState tr).start)
    (h3 : (t.trState tr).accepted = (s.trState tr).accepted) : t.nonce tr = s.nonce tr := by
  unfold State.nonce; rw [h1, h2, h3]

/-! ### A transport's state -/

theorem modTr_self (s : State) (t : Transport) (f) : (s.modTr t f).trState t = { f (s.trState t) with tr := t } := by
  simp [State.modTr, State.trState]

theorem modTr_other (s : State) (t u : Transport) (f) (h : u ≠ t) : (s.modTr t f).trState u = s.trState u := by
  have hb : (t == u) = false := by simp [Ne.symm h]
  simp only [State.modTr, State.trState, List.find?_cons, hb]
  congr 1
  induction s.cmd.trs with
  | nil => rfl
  | cons x xs ih =>
    rw [List.filter_cons]
    by_cases hx : x.tr = u
    · have : (x.tr != t) = true := by simp [hx, h]
      rw [if_pos this, List.find?_cons, List.find?_cons]; simp [hx]
    · split
      · rw [List.find?_cons, List.find?_cons, ih]
      · rw [ih, List.find?_cons]; have : (x.tr == u) = false := by simp [hx]
        rw [this]

/-! ### A request that a hub function takes -/

theorem conf_has {x : Upstream} {fn : Fn} (h : configured x fn = true) : x.has fn = true := by simp [configured] at h; exact h.1

theorem present_of {s : State} {u : Up} {fn : Fn} (h : (s.up u).has fn = true) (hm : fn ≠ .mgmt ∨ ((s.up u).mgEnabled = true ∧ (s.up u).mgResetting = false)) (f : State → State) :
    present s u fn f = f s := by
  unfold present
  have e : ((s.up u).has fn && (fn != .mgmt || ((s.up u).mgEnabled && !(s.up u).mgResetting))) = true := by
    rw [h]; rcases hm with hm | ⟨h1, h2⟩
    · simp [hm]
    · simp [h1, h2]
  exact if_pos e

theorem onPort_of {s : State} {u : Up} {fn : Fn} {n : Nat} (h : configured (s.up u) fn = true) (hp : hasPort fn n = true) (f : State → State) :
    onPort s u fn n f = f (answer s u .ack) := by
  have hm : fn ≠ .mgmt := by intro e; subst e; cases hp
  unfold onPort; rw [present_of (conf_has h) (.inl hm)]; simp [h, hp]

theorem answer_answer (s : State) (u : Up) (a b) : answer (answer s u a) u b = answer s u b := by cases u <;> rfl

theorem answer_ans (s : State) (u : Up) (a) (h : s.psxOn = true) : ((answer s u a).up u).ans = a := by rw [answer_up]; simp [h]

theorem answer_psx (s : State) (u : Up) (a) : (answer s u a).psxOn = s.psxOn := by cases u <;> rfl

theorem answer_view (s : State) (u v : Up) (a n) : ((answer s u a).up v).view n = (s.up v).view n := by cases u <;> cases v <;> rfl

theorem answer_ssView (s : State) (u v : Up) (a n) : ((answer s u a).up v).ssView n = (s.up v).ssView n := by cases u <;> cases v <;> rfl

theorem answer_link (s : State) (u v : Up) (a) : ((answer s u a).up v).link = (s.up v).link := by cases u <;> cases v <;> rfl

theorem answer_isPair (s : State) (u : Up) (a) : (answer s u a).isPair = s.isPair := by cases u <;> rfl

theorem answer_pages (s : State) (u : Up) (a k p e) : (answer s u a).pages k p e = s.pages k p e := by cases u <;> rfl

/-! ### More of what shared operations leave as it was -/

theorem modSsView_owns (s : State) (u v : Up) (n m f) : (s.modSsView u m f).owns v n = s.owns v n := by
  unfold State.modSsView; split <;> cases u <;> rfl

theorem modPort_pages (s : State) (p k o u f) : (s.modPort p f).pages k o u = s.pages k o u := by
  unfold State.modPort; split <;> rfl

theorem raise_plan (s : State) (a b d) : (raise s a b d).plan = s.plan := by
  unfold raise raiseAt captureRec suppressAll
  (repeat' split) <;> rfl

theorem raise_ports (s : State) (a b d) : (raise s a b d).ports = s.ports := by
  unfold raise raiseAt captureRec suppressAll
  (repeat' split) <;> rfl

theorem locOf_virt (u : Up) (n : Nat) (h : 34 ≤ n) : locOf u n = .virt u n := by simp [locOf]; omega

theorem locOf_phys (u : Up) (n : Nat) (h : n ≤ 33) : locOf u n = .phys n := by simp [locOf]; omega

theorem hasPort_vport {n : Nat} (h : 34 ≤ n) (h2 : n ≤ 41) : hasPort .usb2 n = true := by simp [hasPort]; omega

theorem isUp_portOfUp (u : Up) : isUp (portOfUp u) = true := by cases u <;> rfl

end Sys2Proof.Machine
end

