-- ==== Sys2Proof/Laws/Frames.lean ====
section
/-!
SUPPORT. Laws/Frames.lean: what stands still while a command is begun, answered and closed, and while each of the commands
that only read runs (`readingCommands`).
-/

namespace Sys2Proof.Machine

/-- Every unit outside the transports, the counters and the upstreams stands as it does in `z`. -/
structure Still (z s : State) : Prop where
  ports : s.ports = z.ports
  spes : s.spes = z.spes
  vpA : s.vpA = z.vpA
  vpB : s.vpB = z.vpB
  plan : s.plan = z.plan
  pdes : s.pdes = z.pdes
  ppcs : s.ppcs = z.ppcs
  convs : s.convs = z.convs
  segA : s.segA = z.segA
  segB : s.segB = z.segB
  feedA : s.feedA = z.feedA
  feedB : s.feedB = z.feedB
  pba : s.pba = z.pba
  crock : s.crock = z.crock
  sieve : s.sieve = z.sieve
  pinned : s.sys.clPinned = z.sys.clPinned
  level : s.sys.cl = z.sys.cl

theorem Still.lift {z s : State} {tu ev cmd fab sys upA upB ports spes vpA vpB plan pdes ppcs convs segA segB feedA feedB pba pair crock sieve freeIdx pending} (h : Still z s) (h0 : ports = s.ports) (h1 : spes = s.spes) (h2 : vpA = s.vpA) (h3 : vpB = s.vpB) (h4 : plan = s.plan) (h5 : pdes = s.pdes) (h6 : ppcs = s.ppcs) (h7 : convs = s.convs) (h8 : segA = s.segA) (h9 : segB = s.segB) (h10 : feedA = s.feedA) (h11 : feedB = s.feedB) (h12 : pba = s.pba) (h13 : crock = s.crock) (h14 : sieve = s.sieve) (h15 : sys.clPinned = s.sys.clPinned) (h16 : sys.cl = s.sys.cl) : Still z (State.mk tu ev cmd fab sys upA upB ports spes vpA vpB plan pdes ppcs convs segA segB feedA feedB pba pair crock sieve freeIdx pending) :=
  ⟨h0.trans h.ports, h1.trans h.spes, h2.trans h.vpA, h3.trans h.vpB, h4.trans h.plan, h5.trans h.pdes, h6.trans h.ppcs, h7.trans h.convs, h8.trans h.segA, h9.trans h.segB, h10.trans h.feedA, h11.trans h.feedB, h12.trans h.pba, h13.trans h.crock, h14.trans h.sieve, h15.trans h.pinned, h16.trans h.level⟩

theorem Still.ite {z : State} {c : Prop} [Decidable c] {a b : State} (hb : Still z b) (ha : Still z b → Still z a) : Still z (if c then a else b) := by
  split
  · exact ha hb
  · exact hb

theorem Still.fold {z : State} {α} {f : State → α → State} (hf : ∀ s x, Still z s → Still z (f s x)) : ∀ (l : List α) (s : State), Still z s → Still z (l.foldl f s) := by
  intro l; induction l with
  | nil => exact fun _ h => h
  | cons x xs ih => exact fun s h => ih _ (hf s x h)

theorem Still.foldP {z : State} {α β} {f : β × State → α → β × State} (hf : ∀ s x, Still z s.2 → Still z (f s x).2) : ∀ (l : List α) (s : β × State), Still z s.2 → Still z (l.foldl f s).2 := by
  intro l; induction l with
  | nil => exact fun _ h => h
  | cons x xs ih => exact fun s h => ih _ (hf s x h)

theorem Still.step {z : State} {x b : State} (h : Still z x) (k : Still z x → Still z b) : Still z b := k h

theorem Still.stepP {z : State} {α} {x : α × State} {b : State} (h : Still z x.2) (k : Still z x.2 → Still z b) : Still z b := k h

theorem Still.stepF {z : State} {f : State → State} {b : State} (h : ∀ s, Still z s → Still z (f s)) (k : (∀ s, Still z s → Still z (f s)) → Still z b) : Still z b := k h

theorem Still.stepG {z : State} {α} {f : State → α × State} {b : State} (h : ∀ s, Still z s → Still z (f s).2) (k : (∀ s, Still z s → Still z (f s).2) → Still z b) : Still z b := k h

theorem Still.stepK {z : State} {α} {f : α → State} {b : State} (h : ∀ x, Still z (f x)) (k : (∀ x, Still z (f x)) → Still z b) : Still z b := k h

theorem still_State_modUp {z : State} (s : State) (u : Up) (f : Upstream → Upstream) (hs : Still z s) : Still z (State.modUp s u f) := by
  delta State.modUp
  repeat' first
    | with_reducible assumption | (intro _) | split
    | with_reducible refine Still.lift ?_ rfl rfl rfl rfl rfl rfl rfl rfl rfl rfl rfl rfl rfl rfl rfl rfl rfl

theorem still_State_modLink {z : State} (s : State) (l : Nat) (f : FabLink → FabLink) (hs : Still z s) : Still z (State.modLink s l f) := by
  delta State.modLink
  repeat' first
    | with_reducible assumption | (intro _)
    | with_reducible refine Still.lift ?_ rfl rfl rfl rfl rfl rfl rfl rfl rfl rfl rfl rfl rfl rfl rfl rfl rfl

theorem still_State_drawn {z : State} (s : State) (hs : Still z s) : Still z (State.drawn s) := by
  delta State.drawn
  repeat' first
    | with_reducible assumption | (intro _)
    | with_reducible refine Still.lift ?_ rfl rfl rfl rfl rfl rfl rfl rfl rfl rfl rfl rfl rfl rfl rfl rfl rfl

theorem still_suppressAll {z : State} (s : State) (r : EvRec) (hs : Still z s) : Still z (suppressAll s r) := by
  delta suppressAll
  repeat' first
    | with_reducible assumption | (intro _) | with_reducible refine Still.ite ?_ (fun hx => ?_) | split
    | with_reducible refine Still.lift ?_ rfl rfl rfl rfl rfl rfl rfl rfl rfl rfl rfl rfl rfl rfl rfl rfl rfl

theorem still_captureRec {z : State} (s : State) (r : EvRec) (hs : Still z s) : Still z (captureRec s r) := by
  delta captureRec
  repeat' first
    | with_reducible assumption | (intro _) | with_reducible refine Still.ite ?_ (fun hx => ?_)
    | (with_reducible first | apply still_suppressAll) | split
    | with_reducible refine Still.lift ?_ rfl rfl rfl rfl rfl rfl rfl rfl rfl rfl rfl rfl rfl rfl rfl rfl rfl

theorem still_raiseAt {z : State} (s : State) (t src code data : Nat) (hs : Still z s) : Still z (raiseAt s t src code data) := by
  delta raiseAt
  repeat' first
    | with_reducible assumption | (intro _) | with_reducible refine Still.ite ?_ (fun hx => ?_)
    | (with_reducible first | apply still_captureRec)

theorem still_raise {z : State} (s : State) (src code data : Nat) (hs : Still z s) : Still z (raise s src code data) := by
  delta raise
  repeat' first
    | with_reducible assumption | (intro _) | (with_reducible first | apply still_raiseAt)

theorem still_raiseUp {z : State} (s : State) (u : Up) (k code data : Nat) (hs : Still z s) : Still z (raiseUp s u k code data) := by
  delta raiseUp
  repeat' first
    | with_reducible assumption | (intro _) | (with_reducible first | apply still_raise)

theorem still_freeCredits {z : State} (s : State) (l c n : Nat) (hs : Still z s) : Still z (freeCredits s l c n) := by
  delta freeCredits
  repeat' first
    | with_reducible assumption | (intro _) | (with_reducible first | apply still_State_modLink)

theorem still_startFrame {z : State} (s : State) (l c : Nat) (hs : Still z s) : Still z (startFrame s l c) := by
  delta startFrame
  repeat' first
    | with_reducible assumption | (intro _)
    | ((fail_if_no_progress extract_lets -merge -useContext +onlyGivenNames x); (refine Still.step (x := x) ?_ (fun hx => ?_); on_goal 1 => subst x))
    | (with_reducible first | apply still_State_modLink | apply still_freeCredits) | split

theorem still_nextTurn {z : State} (s : State) (l : Nat) (hs : Still z s) : Still z (nextTurn s l) := by
  delta nextTurn
  repeat' first
    | with_reducible assumption | (intro _)
    | with_reducible refine Still.ite ?_ (fun hx => ?_) | (with_reducible first | apply still_State_modLink)

theorem still_settleMirror {z : State} (s : State) (l : Nat) (hs : Still z s) : Still z (settleMirror s l) := by
  delta settleMirror
  repeat' first
    | with_reducible assumption | (intro _) | with_reducible refine Still.ite ?_ (fun hx => ?_) | split
    | with_reducible refine Still.lift ?_ rfl rfl rfl rfl rfl rfl rfl rfl rfl rfl rfl rfl rfl rfl rfl rfl rfl

theorem still_pumpN {z : State} : ∀ (n : Nat) (s : State) (l : Nat), Still z s → Still z (pumpN n s l) := by
  intro n; induction n with
  | zero => exact fun _ _ h => h
  | succ n ih =>
    intro s l hs
    unfold pumpN
    repeat' first
      | with_reducible assumption | (intro _)
      | (fail_if_no_progress extract_lets -merge -useContext +onlyGivenNames x)
      | with_reducible refine Still.ite ?_ (fun hx => ?_)
      | (with_reducible first | apply ih | apply still_startFrame | apply still_nextTurn | apply still_State_modLink)

theorem still_pump {z : State} (s : State) (l : Nat) (hs : Still z s) : Still z (pump s l) := by
  have h : Still z (if (s.link l).st = .up then pumpN 1024 s l else s) := Still.ite hs (fun _ => still_pumpN _ _ _ hs)
  exact still_settleMirror _ _ (still_State_modLink _ _ _ h)

theorem still_queueOn {z : State} (s : State) (l : Nat) (f : Frame) (src : Option Nat) (hs : Still z s) : Still z (queueOn s l f src) := by
  delta queueOn
  repeat' first
    | with_reducible assumption | (intro _) | with_reducible refine Still.ite ?_ (fun hx => ?_)
    | (with_reducible first | apply still_State_modLink | apply still_freeCredits | apply still_pump) | split

theorem still_sendOn {z : State} (s : State) (l : Nat) (f : Frame) (hs : Still z s) : Still z (sendOn s l f) := by
  delta sendOn
  repeat' first
    | with_reducible assumption | (intro _) | (with_reducible first | apply still_queueOn)

theorem still_noRouteEvent {z : State} (s : State) (l dest : Nat) (hs : Still z s) : Still z (noRouteEvent s l dest) := by
  delta noRouteEvent
  repeat' first
    | with_reducible assumption | (intro _) | with_reducible refine Still.ite ?_ (fun hx => ?_)
    | (with_reducible first | apply still_raise) | split
    | with_reducible refine Still.lift ?_ rfl rfl rfl rfl rfl rfl rfl rfl rfl rfl rfl rfl rfl rfl rfl rfl rfl

theorem still_sendTo {z : State} (s : State) (vc kind dest kspec : Nat) (payload : List Byte) (hs : Still z s) : Still z (sendTo s vc kind dest kspec payload) := by
  delta sendTo
  repeat' first
    | with_reducible assumption | (intro _)
    | (fail_if_no_progress extract_lets -merge -useContext +onlyGivenNames x)
    | with_reducible refine Still.ite ?_ (fun hx => ?_) | with_reducible apply hf
    | (with_reducible first | apply still_sendOn | apply still_noRouteEvent | apply Still.fold | apply Still.foldP)
    | (fail_if_no_progress beta_reduce) | split

theorem still_sendLadle {z : State} (s : State) (vc kind kspec : Nat) (payload : List Byte) (hs : Still z s) : Still z (sendLadle s vc kind kspec payload) := by
  delta sendLadle
  repeat' first
    | with_reducible assumption | (intro _) | with_reducible refine Still.ite ?_ (fun hx => ?_)
    | (with_reducible first | apply still_sendOn)

theorem still_sendSegs {z : State} (s : State) (kind dest tag : Nat) (bs : List Byte) (hs : Still z s) : Still z (sendSegs s kind dest tag bs) := by
  delta sendSegs
  repeat' first
    | with_reducible assumption | (intro _)
    | (with_reducible first | apply still_sendTo | apply Still.fold)

theorem still_State_modTr {z : State} (s : State) (t : Transport) (f : TrState → TrState) (hs : Still z s) : Still z (State.modTr s t f) := by
  delta State.modTr
  repeat' first
    | with_reducible assumption | (intro _)
    | (fail_if_no_progress extract_lets -merge -useContext +onlyGivenNames x)
    | with_reducible refine Still.lift ?_ rfl rfl rfl rfl rfl rfl rfl rfl rfl rfl rfl rfl rfl rfl rfl rfl rfl

theorem still_mboPost {z : State} (s : State) (hs : Still z s) : Still z (mboPost s) := by
  delta mboPost
  repeat' first
    | with_reducible assumption | (intro _)
    | (fail_if_no_progress extract_lets -merge -useContext +onlyGivenNames x)
    | with_reducible refine Still.ite ?_ (fun hx => ?_) | split
    | with_reducible refine Still.lift ?_ rfl rfl rfl rfl rfl rfl rfl rfl rfl rfl rfl rfl rfl rfl rfl rfl rfl

theorem still_storePipe {z : State} (s : State) (u : Up) (bs : List Byte) (hs : Still z s) : Still z (storePipe s u bs) := by
  delta storePipe
  repeat' first
    | with_reducible assumption | (intro _)
    | ((fail_if_no_progress extract_lets -merge -useContext +onlyGivenNames x); (first | (refine Still.step (x := x) ?_ (fun hx => ?_); on_goal 1 => subst x) | skip))
    | with_reducible refine Still.ite ?_ (fun hx => ?_)
    | (with_reducible first | apply still_State_modUp | apply still_raiseUp)

theorem still_storeMbo {z : State} (s : State) (msgs : List (List Byte)) (hs : Still z s) : Still z (storeMbo s msgs) := by
  delta storeMbo
  repeat' first
    | with_reducible assumption | (intro _)
    | (fail_if_no_progress extract_lets -merge -useContext +onlyGivenNames x)
    | (with_reducible first | apply still_mboPost)
    | with_reducible refine Still.lift ?_ rfl rfl rfl rfl rfl rfl rfl rfl rfl rfl rfl rfl rfl rfl rfl rfl rfl

theorem still_deliver {z : State} (s : State) (c : Cmd) (bs : List Byte) (r : Resp) (hs : Still z s) : Still z (deliver s c bs r) := by
  delta deliver
  repeat' first
    | with_reducible assumption | (intro _)
    | (with_reducible first | apply still_sendLadle | apply still_sendSegs | apply still_storePipe | apply still_storeMbo | apply Still.fold | apply Still.foldP)
    | split

theorem still_discardResponse {z : State} (s : State) (c : Cmd) (hs : Still z s) : Still z (discardResponse s c) := by
  delta discardResponse
  repeat' first
    | with_reducible assumption | (intro _) | (with_reducible first | apply still_raiseUp) | split

theorem still_sendBack {z : State} (s : State) (c : Cmd) (bs : List Byte) (r : Resp) (hs : Still z s) : Still z (sendBack s c bs r) := by
  delta sendBack
  repeat' first
    | with_reducible assumption | (intro _) | with_reducible refine Still.ite ?_ (fun hx => ?_)
    | (with_reducible first | apply still_deliver | apply still_discardResponse)

theorem still_cacheResp {z : State} (s : State) (c : Cmd) (bs : List Byte) (hs : Still z s) : Still z (cacheResp s c bs) := by
  delta cacheResp
  repeat' first
    | with_reducible assumption | (intro _) | with_reducible refine Still.ite ?_ (fun hx => ?_)
    | (with_reducible first | apply still_State_modTr)

theorem still_respond {z : State} (s : State) (c : Cmd) (r : Resp) (hs : Still z s) : Still z (respond s c r) := by
  delta respond
  repeat' first
    | with_reducible assumption | (intro _)
    | (fail_if_no_progress extract_lets -merge -useContext +onlyGivenNames x)
    | (with_reducible first | apply still_sendBack | apply still_cacheResp)

theorem still_settleList {z : State} : ∀ (l k : List Cmd) (s : State), Still z s → Still z (settleList l k s).2 := by
  intro l; induction l with
  | nil => exact fun _ _ h => h
  | cons c cs ih =>
    intro k s hs
    unfold settleList
    repeat' first
      | with_reducible assumption | (intro _)
      | (fail_if_no_progress extract_lets -merge -useContext +onlyGivenNames x)
      | with_reducible refine Still.ite ?_ (fun hx => ?_)
      | (with_reducible first | apply ih | apply still_sendBack | apply still_respond) | split

theorem still_settleQueue {z : State} (s : State) (hs : Still z s) : Still z (settleQueue s) := by
  have h := still_settleList s.cmd.queue [] s hs
  exact ⟨h.ports, h.spes, h.vpA, h.vpB, h.plan, h.pdes, h.ppcs, h.convs, h.segA, h.segB, h.feedA, h.feedB, h.pba, h.crock, h.sieve, h.pinned, h.level⟩

theorem still_tellFirmware {z : State} (s : State) (ms : Nat) (hs : Still z s) : Still z (tellFirmware s ms) := by
  delta tellFirmware
  repeat' first
    | with_reducible assumption | (intro _) | with_reducible refine Still.ite ?_ (fun hx => ?_)
    | (with_reducible first | apply still_sendLadle) | split
    | with_reducible refine Still.lift ?_ rfl rfl rfl rfl rfl rfl rfl rfl rfl rfl rfl rfl rfl rfl rfl rfl rfl

theorem still_beginRestart {z : State} (s : State) (hs : Still z s) : Still z (beginRestart s) := by
  delta beginRestart
  repeat' first
    | with_reducible assumption | (intro _)
    | ((fail_if_no_progress extract_lets -merge -useContext +onlyGivenNames x); (first | (refine Still.step (x := x) ?_ (fun hx => ?_); on_goal 1 => subst x) | skip))
    | with_reducible refine Still.ite ?_ (fun hx => ?_)
    | (with_reducible first | apply still_raise | apply still_respond | apply still_tellFirmware | apply Still.fold | apply Still.foldP)
    | split | with_reducible refine Still.lift ?_ rfl rfl rfl rfl rfl rfl rfl rfl rfl rfl rfl rfl rfl rfl rfl rfl rfl

theorem still_claim {z : State} (s : State) (byHand : Option Nat) (hs : Still z s) : Still z (claim s byHand) := by
  delta claim
  repeat' first
    | with_reducible assumption | (intro _)
    | (fail_if_no_progress extract_lets -merge -useContext +onlyGivenNames x)
    | with_reducible refine Still.ite ?_ (fun hx => ?_) | split
    | with_reducible refine Still.lift ?_ rfl rfl rfl rfl rfl rfl rfl rfl rfl rfl rfl rfl rfl rfl rfl rfl rfl

theorem still_authEvent {z : State} (s : State) (c : Cmd) (code : Nat) (hs : Still z s) : Still z (authEvent s c code) := by
  delta authEvent
  repeat' first
    | with_reducible assumption | (intro _) | (with_reducible first | apply still_raise)

theorem still_authFailed {z : State} (s : State) (c : Cmd) (hs : Still z s) : Still z (authFailed s c) := by
  delta authFailed
  repeat' first
    | with_reducible assumption | (intro _) | with_reducible refine Still.ite ?_ (fun hx => ?_)
    | (with_reducible first | apply still_State_modTr | apply still_authEvent)

theorem still_authPassed {z : State} (s : State) (c : Cmd) (hs : Still z s) : Still z (authPassed s c) := by
  delta authPassed
  repeat' first
    | with_reducible assumption | (intro _) | (with_reducible first | apply still_State_modTr)

theorem still_authenticate {z : State} (s : State) (c : Cmd) (priv : Bool) (hs : Still z s) : Still z (authenticate s c priv).2 := by
  delta authenticate
  repeat' first
    | with_reducible assumption | (intro _) | with_reducible refine Still.ite ?_ (fun hx => ?_)
    | (with_reducible first | apply still_authEvent | apply still_authFailed | apply still_authPassed) | split

theorem still_taken {z : State} (s : State) (c : Cmd) (hs : Still z s) : Still z (taken s c) := by
  delta taken
  repeat' first
    | with_reducible assumption | (intro _)
    | with_reducible refine Still.lift ?_ rfl rfl rfl rfl rfl rfl rfl rfl rfl rfl rfl rfl rfl rfl rfl rfl rfl

theorem still_begun {z : State} (s : State) (c : Cmd) (priv : Bool) (hs : Still z s) : Still z (begun s c priv) := by
  delta begun
  repeat' first
    | with_reducible assumption | (intro _) | (with_reducible first | apply still_authenticate | apply still_taken)

theorem still_closed {z : State} (s : State) (hs : Still z s) : Still z (closed s) := by
  delta closed
  repeat' first
    | with_reducible assumption | (intro _)
    | (with_reducible first | apply still_settleQueue | apply still_beginRestart)

theorem still_runCmd {z : State} (op : Nat) (priv : Bool) (foreign : State → Cmd → Bool) (body : Cmd → State → State) (c : Cmd) (s : State) (hbody : ∀ x0 x1, Still z x1 → Still z (body x0 x1)) (hs : Still z s) : Still z (runCmd op priv foreign body c s) := by
  delta runCmd
  repeat' first
    | with_reducible assumption | (intro _)
    | ((fail_if_no_progress extract_lets -merge -useContext +onlyGivenNames x); (refine Still.step (x := x) ?_ (fun hx => ?_); on_goal 1 => subst x))
    | with_reducible refine Still.ite ?_ (fun hx => ?_)
    | (with_reducible first | apply still_respond | apply still_taken | apply still_begun | apply still_closed | apply hbody)
    | split

theorem still_runForm {z : State} (form : Bool) (op : Nat) (priv : Bool) (foreign : State → Cmd → Bool) (body : Cmd → State → State) (c : Cmd) (s : State) (hbody : ∀ x0 x1, Still z x1 → Still z (body x0 x1)) (hs : Still z s) : Still z (runForm form op priv foreign body c s) := by
  delta runForm
  repeat' first
    | with_reducible assumption | (intro _) | with_reducible refine Still.ite ?_ (fun hx => ?_)
    | (with_reducible first | apply still_runCmd)

theorem still_answering {z : State} (f : State → Cmd → Resp) (c : Cmd) (s : State) (hs : Still z s) : Still z (answering f c s) := by
  delta answering
  repeat' first
    | with_reducible assumption | (intro _) | (with_reducible first | apply still_respond)

theorem still_getBlock {z : State} (lo hi : Nat) (read : State → Nat → List Byte) (c : Cmd) (s : State) (hs : Still z s) : Still z (getBlock lo hi read c s) := by
  delta getBlock
  repeat' first
    | with_reducible assumption | (intro _)
    | (fail_if_no_progress extract_lets -merge -useContext +onlyGivenNames x)
    | (with_reducible first | apply still_respond)

theorem still_getWhole {z : State} (read : State → List Byte) (c : Cmd) (s : State) (hs : Still z s) : Still z (getWhole read c s) := by
  delta getWhole
  repeat' first
    | with_reducible assumption | (intro _) | (with_reducible first | apply still_respond)

theorem still_identify {z : State} (c : Cmd) (s : State) (hs : Still z s) : Still z (identify c s) := by
  delta identify
  repeat' first
    | with_reducible assumption | (intro _) | (with_reducible first | apply still_State_drawn | apply still_getWhole)

theorem still_keyStatus {z : State} (c : Cmd) (s : State) (hs : Still z s) : Still z (keyStatus c s) := by
  delta keyStatus
  repeat' first
    | with_reducible assumption | (intro _)
    | ((fail_if_no_progress extract_lets -merge -useContext +onlyGivenNames x); (refine Still.step (x := x) ?_ (fun hx => ?_); on_goal 1 => subst x))
    | (with_reducible first | apply still_getWhole)
    | with_reducible refine Still.lift ?_ rfl rfl rfl rfl rfl rfl rfl rfl rfl rfl rfl rfl rfl rfl rfl rfl rfl

theorem still_phyTuneGet {z : State} (c : Cmd) (s : State) (hs : Still z s) : Still z (phyTuneGet c s) := by
  delta phyTuneGet
  repeat' first
    | with_reducible assumption | (intro _)
    | (fail_if_no_progress extract_lets -merge -useContext +onlyGivenNames x)
    | (with_reducible first | apply still_respond)

theorem still_nodeList {z : State} (c : Cmd) (s : State) (hs : Still z s) : Still z (nodeList c s) := by
  delta nodeList
  repeat' first
    | with_reducible assumption | (intro _)
    | ((fail_if_no_progress extract_lets -merge -useContext +onlyGivenNames x); (first | (refine Still.step (x := x) ?_ (fun hx => ?_); on_goal 1 => subst x) | skip))
    | with_reducible refine Still.ite ?_ (fun hx => ?_)
    | (with_reducible first | apply still_respond | apply still_claim | apply Still.fold | apply Still.foldP) | split
    | with_reducible refine Still.lift ?_ rfl rfl rfl rfl rfl rfl rfl rfl rfl rfl rfl rfl rfl rfl rfl rfl rfl

theorem still_journalRead {z : State} (c : Cmd) (s : State) (hs : Still z s) : Still z (journalRead c s) := by
  delta journalRead
  repeat' first
    | with_reducible assumption | (intro _)
    | (fail_if_no_progress extract_lets -merge -useContext +onlyGivenNames x)
    | with_reducible refine Still.ite ?_ (fun hx => ?_)
    | (with_reducible first | apply still_State_drawn | apply still_respond)

theorem still_execNop {z : State} (c : Cmd) (s : State) (h : Still z s) : ∃ t, execNop c s = leaves s t ∧ Still z t := by
  delta execNop
  refine ⟨_, rfl, ?_⟩
  repeat' first
    | with_reducible assumption | (intro _) | (with_reducible first | apply still_runCmd | apply still_answering)

theorem still_execIdentify {z : State} (c : Cmd) (s : State) (h : Still z s) : ∃ t, execIdentify c s = leaves s t ∧ Still z t := by
  delta execIdentify
  refine ⟨_, rfl, ?_⟩
  repeat' first
    | with_reducible assumption | (intro _) | (with_reducible first | apply still_runCmd | apply still_identify)

theorem still_execSysStatus {z : State} (c : Cmd) (s : State) (h : Still z s) : ∃ t, execSysStatus c s = leaves s t ∧ Still z t := by
  delta execSysStatus
  refine ⟨_, rfl, ?_⟩
  repeat' first
    | with_reducible assumption | (intro _) | (with_reducible first | apply still_runCmd | apply still_getWhole)

theorem still_execPortStatus {z : State} (c : Cmd) (s : State) (h : Still z s) : ∃ t, execPortStatus c s = leaves s t ∧ Still z t := by
  delta execPortStatus
  refine ⟨_, rfl, ?_⟩
  repeat' first
    | with_reducible assumption | (intro _) | (with_reducible first | apply still_runCmd | apply still_answering)

theorem still_execPlanGet {z : State} (c : Cmd) (s : State) (h : Still z s) : ∃ t, execPlanGet c s = leaves s t ∧ Still z t := by
  delta execPlanGet
  refine ⟨_, rfl, ?_⟩
  repeat' first
    | with_reducible assumption | (intro _) | (with_reducible first | apply still_runCmd | apply still_answering)

theorem still_execIdmapGet {z : State} (c : Cmd) (s : State) (h : Still z s) : ∃ t, execIdmapGet c s = leaves s t ∧ Still z t := by
  delta execIdmapGet
  refine ⟨_, rfl, ?_⟩
  repeat' first
    | with_reducible assumption | (intro _) | with_reducible refine Still.ite ?_ (fun hx => ?_)
    | (with_reducible first | apply still_runCmd | apply still_answering)

theorem still_execCacheRead {z : State} (c : Cmd) (s : State) (h : Still z s) : ∃ t, execCacheRead c s = leaves s t ∧ Still z t := by
  delta execCacheRead
  refine ⟨_, rfl, ?_⟩
  repeat' first
    | with_reducible assumption | (intro _) | (with_reducible first | apply still_runCmd | apply still_answering)

theorem still_execPdStatus {z : State} (c : Cmd) (s : State) (h : Still z s) : ∃ t, execPdStatus c s = leaves s t ∧ Still z t := by
  delta execPdStatus
  refine ⟨_, rfl, ?_⟩
  repeat' first
    | with_reducible assumption | (intro _) | (with_reducible first | apply still_runCmd | apply still_getBlock)

theorem still_execPdCapsRead {z : State} (c : Cmd) (s : State) (h : Still z s) : ∃ t, execPdCapsRead c s = leaves s t ∧ Still z t := by
  delta execPdCapsRead
  refine ⟨_, rfl, ?_⟩
  repeat' first
    | with_reducible assumption | (intro _) | (with_reducible first | apply still_runCmd | apply still_answering)

theorem still_execPdSettingsGet {z : State} (c : Cmd) (s : State) (h : Still z s) : ∃ t, execPdSettingsGet c s = leaves s t ∧ Still z t := by
  delta execPdSettingsGet
  refine ⟨_, rfl, ?_⟩
  repeat' first
    | with_reducible assumption | (intro _) | (with_reducible first | apply still_runCmd | apply still_getBlock)

theorem still_execPpcSettingsGet {z : State} (c : Cmd) (s : State) (h : Still z s) : ∃ t, execPpcSettingsGet c s = leaves s t ∧ Still z t := by
  delta execPpcSettingsGet
  refine ⟨_, rfl, ?_⟩
  repeat' first
    | with_reducible assumption | (intro _) | (with_reducible first | apply still_runCmd | apply still_getBlock)

theorem still_execConverterStatus {z : State} (c : Cmd) (s : State) (h : Still z s) : ∃ t, execConverterStatus c s = leaves s t ∧ Still z t := by
  delta execConverterStatus
  refine ⟨_, rfl, ?_⟩
  repeat' first
    | with_reducible assumption | (intro _) | (with_reducible first | apply still_runCmd | apply still_getBlock)

theorem still_execFeedSettingsGet {z : State} (c : Cmd) (s : State) (h : Still z s) : ∃ t, execFeedSettingsGet c s = leaves s t ∧ Still z t := by
  delta execFeedSettingsGet
  refine ⟨_, rfl, ?_⟩
  repeat' first
    | with_reducible assumption | (intro _) | (with_reducible first | apply still_runCmd | apply still_getBlock)

theorem still_execPbaGlobalGet {z : State} (c : Cmd) (s : State) (h : Still z s) : ∃ t, execPbaGlobalGet c s = leaves s t ∧ Still z t := by
  delta execPbaGlobalGet
  refine ⟨_, rfl, ?_⟩
  repeat' first
    | with_reducible assumption | (intro _) | (with_reducible first | apply still_runCmd | apply still_getWhole)

theorem still_execPbaPortGet {z : State} (c : Cmd) (s : State) (h : Still z s) : ∃ t, execPbaPortGet c s = leaves s t ∧ Still z t := by
  delta execPbaPortGet
  refine ⟨_, rfl, ?_⟩
  repeat' first
    | with_reducible assumption | (intro _) | (with_reducible first | apply still_runCmd | apply still_getBlock)

theorem still_execBudgetStatus {z : State} (c : Cmd) (s : State) (h : Still z s) : ∃ t, execBudgetStatus c s = leaves s t ∧ Still z t := by
  delta execBudgetStatus
  refine ⟨_, rfl, ?_⟩
  repeat' first
    | with_reducible assumption | (intro _) | (with_reducible first | apply still_runCmd | apply still_getWhole)

theorem still_execPairStatus {z : State} (c : Cmd) (s : State) (h : Still z s) : ∃ t, execPairStatus c s = leaves s t ∧ Still z t := by
  delta execPairStatus
  refine ⟨_, rfl, ?_⟩
  repeat' first
    | with_reducible assumption | (intro _) | (with_reducible first | apply still_runCmd | apply still_getWhole)

theorem still_execPairSettingsGet {z : State} (c : Cmd) (s : State) (h : Still z s) : ∃ t, execPairSettingsGet c s = leaves s t ∧ Still z t := by
  delta execPairSettingsGet
  refine ⟨_, rfl, ?_⟩
  repeat' first
    | with_reducible assumption | (intro _) | (with_reducible first | apply still_runCmd | apply still_getWhole)

theorem still_execFabricSettingsGet {z : State} (c : Cmd) (s : State) (h : Still z s) : ∃ t, execFabricSettingsGet c s = leaves s t ∧ Still z t := by
  delta execFabricSettingsGet
  refine ⟨_, rfl, ?_⟩
  repeat' first
    | with_reducible assumption | (intro _) | (with_reducible first | apply still_runCmd | apply still_getWhole)

theorem still_execNodeList {z : State} (c : Cmd) (s : State) (h : Still z s) : ∃ t, execNodeList c s = leaves s t ∧ Still z t := by
  delta execNodeList
  refine ⟨_, rfl, ?_⟩
  repeat' first
    | with_reducible assumption | (intro _) | (with_reducible first | apply still_runCmd | apply still_nodeList)

theorem still_execEventFetchPeek {z : State} (c : Cmd) (s : State) (h : Still z s) : ∃ t, execEventFetchPeek c s = leaves s t ∧ Still z t := by
  delta execEventFetchPeek
  refine ⟨_, rfl, ?_⟩
  repeat' first
    | with_reducible assumption | (intro _) | (with_reducible first | apply still_runForm | apply still_answering)

theorem still_execQueueStatus {z : State} (c : Cmd) (s : State) (h : Still z s) : ∃ t, execQueueStatus c s = leaves s t ∧ Still z t := by
  delta execQueueStatus
  refine ⟨_, rfl, ?_⟩
  repeat' first
    | with_reducible assumption | (intro _) | (with_reducible first | apply still_runCmd | apply still_getWhole)

theorem still_execEventRouteGet {z : State} (c : Cmd) (s : State) (h : Still z s) : ∃ t, execEventRouteGet c s = leaves s t ∧ Still z t := by
  delta execEventRouteGet
  refine ⟨_, rfl, ?_⟩
  repeat' first
    | with_reducible assumption | (intro _) | (with_reducible first | apply still_runCmd | apply still_answering)

theorem still_execEventSettingsGet {z : State} (c : Cmd) (s : State) (h : Still z s) : ∃ t, execEventSettingsGet c s = leaves s t ∧ Still z t := by
  delta execEventSettingsGet
  refine ⟨_, rfl, ?_⟩
  repeat' first
    | with_reducible assumption | (intro _) | (with_reducible first | apply still_runCmd | apply still_getWhole)

theorem still_execTimeStatus {z : State} (c : Cmd) (s : State) (h : Still z s) : ∃ t, execTimeStatus c s = leaves s t ∧ Still z t := by
  delta execTimeStatus
  refine ⟨_, rfl, ?_⟩
  repeat' first
    | with_reducible assumption | (intro _) | (with_reducible first | apply still_runCmd | apply still_getWhole)

theorem still_execTimeSettingsGet {z : State} (c : Cmd) (s : State) (h : Still z s) : ∃ t, execTimeSettingsGet c s = leaves s t ∧ Still z t := by
  delta execTimeSettingsGet
  refine ⟨_, rfl, ?_⟩
  repeat' first
    | with_reducible assumption | (intro _) | (with_reducible first | apply still_runCmd | apply still_getWhole)

theorem still_execSofRead {z : State} (c : Cmd) (s : State) (h : Still z s) : ∃ t, execSofRead c s = leaves s t ∧ Still z t := by
  delta execSofRead
  refine ⟨_, rfl, ?_⟩
  repeat' first
    | with_reducible assumption | (intro _) | (with_reducible first | apply still_runCmd | apply still_answering)

theorem still_execCrockStatus {z : State} (c : Cmd) (s : State) (h : Still z s) : ∃ t, execCrockStatus c s = leaves s t ∧ Still z t := by
  delta execCrockStatus
  refine ⟨_, rfl, ?_⟩
  repeat' first
    | with_reducible assumption | (intro _) | (with_reducible first | apply still_runCmd | apply still_getWhole)

theorem still_execCrockRead {z : State} (c : Cmd) (s : State) (h : Still z s) : ∃ t, execCrockRead c s = leaves s t ∧ Still z t := by
  delta execCrockRead
  refine ⟨_, rfl, ?_⟩
  repeat' first
    | with_reducible assumption | (intro _) | (with_reducible first | apply still_runCmd | apply still_answering)

theorem still_execJournalRead {z : State} (c : Cmd) (s : State) (h : Still z s) : ∃ t, execJournalRead c s = leaves s t ∧ Still z t := by
  delta execJournalRead
  refine ⟨_, rfl, ?_⟩
  repeat' first
    | with_reducible assumption | (intro _) | (with_reducible first | apply still_runCmd | apply still_journalRead)

theorem still_execSieveGet {z : State} (c : Cmd) (s : State) (h : Still z s) : ∃ t, execSieveGet c s = leaves s t ∧ Still z t := by
  delta execSieveGet
  refine ⟨_, rfl, ?_⟩
  repeat' first
    | with_reducible assumption | (intro _) | (with_reducible first | apply still_runCmd | apply still_getBlock)

theorem still_execSieveStatus {z : State} (c : Cmd) (s : State) (h : Still z s) : ∃ t, execSieveStatus c s = leaves s t ∧ Still z t := by
  delta execSieveStatus
  refine ⟨_, rfl, ?_⟩
  repeat' first
    | with_reducible assumption | (intro _) | (with_reducible first | apply still_runCmd | apply still_getBlock)

theorem still_execProfileGet {z : State} (c : Cmd) (s : State) (h : Still z s) : ∃ t, execProfileGet c s = leaves s t ∧ Still z t := by
  delta execProfileGet
  refine ⟨_, rfl, ?_⟩
  repeat' first
    | with_reducible assumption | (intro _) | (with_reducible first | apply still_runCmd | apply still_getWhole)

theorem still_execClStatus {z : State} (c : Cmd) (s : State) (h : Still z s) : ∃ t, execClStatus c s = leaves s t ∧ Still z t := by
  delta execClStatus
  refine ⟨_, rfl, ?_⟩
  repeat' first
    | with_reducible assumption | (intro _) | (with_reducible first | apply still_runCmd | apply still_getWhole)

theorem still_execFwStatus {z : State} (c : Cmd) (s : State) (h : Still z s) : ∃ t, execFwStatus c s = leaves s t ∧ Still z t := by
  delta execFwStatus
  refine ⟨_, rfl, ?_⟩
  repeat' first
    | with_reducible assumption | (intro _) | (with_reducible first | apply still_runCmd | apply still_getWhole)

theorem still_execNonceRead {z : State} (c : Cmd) (s : State) (h : Still z s) : ∃ t, execNonceRead c s = leaves s t ∧ Still z t := by
  delta execNonceRead
  refine ⟨_, rfl, ?_⟩
  repeat' first
    | with_reducible assumption | (intro _) | (with_reducible first | apply still_runCmd | apply still_answering)

theorem still_execKeyStatus {z : State} (c : Cmd) (s : State) (h : Still z s) : ∃ t, execKeyStatus c s = leaves s t ∧ Still z t := by
  delta execKeyStatus
  refine ⟨_, rfl, ?_⟩
  repeat' first
    | with_reducible assumption | (intro _) | (with_reducible first | apply still_runCmd | apply still_keyStatus)

theorem still_execPhyTuneGet {z : State} (c : Cmd) (s : State) (h : Still z s) : ∃ t, execPhyTuneGet c s = leaves s t ∧ Still z t := by
  delta execPhyTuneGet
  refine ⟨_, rfl, ?_⟩
  repeat' first
    | with_reducible assumption | (intro _) | (with_reducible first | apply still_runCmd | apply still_phyTuneGet)

/-- What stands still is the same chip. -/
theorem Still.sameChip {z s : State} (h : Still z s) : SameChip z s :=
  ⟨⟨h.ports, h.spes, h.vpA, h.vpB, h.plan⟩, ⟨h.pdes, h.ppcs, h.convs, h.segA, h.segB⟩, ⟨h.feedA, h.feedB, h.pba⟩,
   ⟨h.crock, h.sieve⟩⟩

/-- A state stands as it does. -/
theorem Still.refl (z : State) : Still z z := by constructor <;> rfl

end Sys2Proof.Machine
end

