-- ==== Sys2Proof/Laws/Ladle.lean ====
section
/-!
SUPPORT. Laws/Ladle.lean: a turn of the Ladle (`shareState`, R226) changes the fabric interface and what the partner has been
told, and nothing else; where nothing is to be told, nothing changes.
-/

namespace Sys2Proof.Machine

/-- What has been told is no change. -/
theorem slowChanges_self (l : List SlowItem) : slowChanges l l = [] := by
  unfold slowChanges
  rw [if_pos rfl, List.nil_append, List.filter_eq_nil_iff]
  intro x h
  simp [h]

/-- Alone, or while the Ladle is down. -/
theorem shareState_idle (s : State) (h : s.isPair = false ∨ s.pair.ladle = false) : shareState s = s := by
  unfold shareState; rw [if_pos (by rcases h with h | h <;> simp [h])]

/-- Nothing new to tell. -/
theorem shareState_quiet (s : State) (h : slowChanges (slowNow s) s.pair.told = [])
    (h2 : s.mirrors = false ∨ (∀ x ∈ mirrorNow s, x ∈ s.pair.toldMirror)) : shareState s = s := by
  unfold shareState
  split
  · rfl
  · simp only [h, List.isEmpty_nil, if_true]
    rcases h2 with h2 | h2
    · simp [h2]
    · have : (mirrorNow s).filter (fun x => !s.pair.toldMirror.contains x) = [] := by
        rw [List.filter_eq_nil_iff]; intro x hx; simp [h2 x hx]
      rw [this]; simp

/-- What a turn of the Ladle leaves as it was. -/
def Told (z s : State) : Prop :=
  ∃ f a b c d, s = { z with fab := f, pair := { z.pair with told := a, sent := b, toldMirror := c, staged := d } }

theorem told_rfl (z : State) : Told z z := ⟨_, _, _, _, _, rfl⟩

theorem told_link {z s : State} (l f) (h : Told z s) : Told z (s.modLink l f) := by
  obtain ⟨a, b, c, d, e, rfl⟩ := h; exact ⟨_, _, _, _, _, rfl⟩

theorem told_free {z s : State} (i c n) (h : Told z s) : Told z (freeCredits s i c n) := by
  unfold freeCredits; exact told_link _ _ h

theorem told_start {z s : State} (l c) (h : Told z s) : Told z (startFrame s l c) := by
  unfold startFrame; split
  · exact h
  · split
    · exact told_link _ _ h
    · exact told_free _ _ _ (told_link _ _ h)

theorem told_pumpN {z : State} : ∀ n (s : State) l, Told z s → Told z (pumpN n s l) := by
  intro n; induction n with
  | zero => exact fun _ _ h => h
  | succ n ih =>
    intro s l h; unfold pumpN; simp only []
    split
    · exact ih _ _ (told_start _ _ h)
    · split
      · exact h
      · split
        · exact ih _ _ (told_start _ _ (told_link _ _ h))
        · exact ih _ _ (told_link _ _ h)

theorem told_settle {z s : State} (l) (h : Told z s) : Told z (settleMirror s l) := by
  unfold settleMirror; split
  · obtain ⟨a, b, c, d, e, rfl⟩ := h; exact ⟨_, _, _, _, _, rfl⟩
  · exact h

/-- A frame of this chip leaves on the Ladle. -/
theorem told_sendLadle {z s : State} (v k x p) (h : Told z s) : Told z (sendLadle s v k x p) := by
  unfold sendLadle; split
  · unfold sendOn queueOn; split
    · exact h
    · unfold pump; apply told_settle; apply told_link
      split
      · exact told_pumpN _ _ _ (told_link _ _ h)
      · exact told_link _ _ h
  · exact h

theorem told_slow {z s : State} (x) (h : Told z s) : Told z (sendSlow s x) := by
  unfold sendSlow; split
  · apply told_sendLadle; obtain ⟨a, b, c, d, e, rfl⟩ := h; exact ⟨_, _, _, _, _, rfl⟩
  · exact h

theorem told_mirror {z s : State} (x) (h : Told z s) : Told z (sendMirror s x) := by
  unfold sendMirror; split
  · apply told_sendLadle; obtain ⟨a, b, c, d, e, rfl⟩ := h; exact ⟨_, _, _, _, _, rfl⟩
  · exact h

theorem told_set {z s : State} (x y) (h : Told z s) : Told z { s with pair := { s.pair with told := x, toldMirror := y } } := by
  obtain ⟨a, b, c, d, e, rfl⟩ := h; exact ⟨_, _, _, _, _, rfl⟩

/-- The whole of what a turn of the Ladle can do. -/
theorem told_share (s : State) : Told s (shareState s) := by
  have h1 : Told s (if (slowChanges (slowNow s) s.pair.told).isEmpty then s
      else sendSlow { s with pair := { s.pair with told := slowNow s } } (slowChanges (slowNow s) s.pair.told)) := by
    split
    · exact told_rfl s
    · exact told_slow _ (told_set _ s.pair.toldMirror (told_rfl s))
  unfold shareState; split
  · exact told_rfl s
  · simp only []
    generalize (if (slowChanges (slowNow s) s.pair.told).isEmpty then s
      else sendSlow { s with pair := { s.pair with told := slowNow s } } (slowChanges (slowNow s) s.pair.told)) = u at h1 ⊢
    split
    · exact h1
    · split
      · exact h1
      · exact told_mirror _ (told_set u.pair.told _ h1)

/-- Whether the chip mirrors does not change. -/
theorem told_mirrors {z s : State} (h : Told z s) : s.mirrors = z.mirrors := by
  obtain ⟨a, b, c, d, e, rfl⟩ := h; rfl

/-- New slow state to tell, and nothing mirrored. -/
theorem share_tells (t : State) (h1 : t.isPair = true) (h2 : t.pair.ladle = true)
    (h4 : (slowChanges (slowNow t) t.pair.told).isEmpty = false)
    (h6 : (sendSlow { t with pair := { t.pair with told := slowNow t } } (slowChanges (slowNow t) t.pair.told)).mirrors = false) :
    shareState t = sendSlow { t with pair := { t.pair with told := slowNow t } } (slowChanges (slowNow t) t.pair.told) := by
  unfold shareState
  rw [if_neg (by simp [h1, h2])]
  simp only []
  rw [if_neg (c := (slowChanges (slowNow t) t.pair.told).isEmpty = true) (by rw [h4]; simp), if_pos (by rw [Bool.not_eq_true']; exact h6)]

end Sys2Proof.Machine
end

