-- ==== Sys2Proof/Laws/Line.lean ====
section
/-!
SUPPORT. Laws/Line.lean: the line code of a Giwald link (R250): the scrambler and its inverse, and that a block sent is the
block read.
-/

namespace Sys2Proof.Machine

/-- What the scrambler sends, the descrambler takes back, and both stand in the same state after (R250). -/
theorem descramble_scramble : ∀ n st w, descramble n st (scramble n st w).1 = (w % 2 ^ n, (scramble n st w).2)
  | 0, st, w => by simp [scramble, descramble, Nat.mod_one]
  | n + 1, st, w => by
    have ih := descramble_scramble n (scrPush st ((w + scrTaps st) % 2)) (w / 2)
    have h1 : ((w + scrTaps st) % 2 + 2 * (scramble n (scrPush st ((w + scrTaps st) % 2)) (w / 2)).1) % 2 = (w + scrTaps st) % 2 := by omega
    have h2 : ((w + scrTaps st) % 2 + 2 * (scramble n (scrPush st ((w + scrTaps st) % 2)) (w / 2)).1) / 2 = (scramble n (scrPush st ((w + scrTaps st) % 2)) (w / 2)).1 := by omega
    have h3 : ((w + scrTaps st) % 2 + 2 * (scramble n (scrPush st ((w + scrTaps st) % 2)) (w / 2)).1 + scrTaps st) % 2 = w % 2 := by omega
    simp only [scramble, descramble, h1, h2, h3, ih]
    have h4 : w % 2 + 2 * (w / 2 % 2 ^ n) = w % 2 ^ (n + 1) := by
      have := Nat.mod_mul (x := w) (a := 2) (b := 2 ^ n); rw [Nat.pow_succ, Nat.mul_comm (2 ^ n) 2]; omega
    rw [h4]

theorem scramble_lt : ∀ n st w, (scramble n st w).1 < 2 ^ n
  | 0, st, w => by simp [scramble]
  | n + 1, st, w => by
    have := scramble_lt n (scrPush st ((w + scrTaps st) % 2)) (w / 2)
    simp only [scramble, Nat.pow_succ]; omega

theorem leNat_lt_pow : ∀ bs : List Byte, leNat bs < 256 ^ bs.length
  | [] => by simp [leNat]
  | b :: bs => by
    have := leNat_lt_pow bs; have h := b.isLt
    simp only [leNat, List.length_cons, Nat.pow_succ]; omega

/-- Bytes read as a number and written again are those bytes. -/
theorem leBytes_of_leNat : ∀ bs : List Byte, leBytes bs.length (leNat bs) = bs
  | [] => rfl
  | b :: bs => by
    have ih := leBytes_of_leNat bs
    have h := b.isLt
    have e1 : BitVec.ofNat 8 (b.toNat + 256 * leNat bs) = b := by
      apply BitVec.eq_of_toNat_eq; simp only [BitVec.toNat_ofNat]; omega
    have e2 : (b.toNat + 256 * leNat bs) / 256 = leNat bs := by omega
    simp only [leNat, List.length_cons, leBytes, e1, e2, ih]

theorem descramble_sent (n st w head : Nat) (hh : head < 4) (hw : w < 2 ^ n) :
    (head + 4 * (scramble n st w).1) % 4 = head ∧
      descramble n st ((head + 4 * (scramble n st w).1) / 4) = (w, (scramble n st w).2) := by
  have h : (head + 4 * (scramble n st w).1) / 4 = (scramble n st w).1 := by omega
  exact ⟨by omega, by rw [h, descramble_scramble, Nat.mod_eq_of_lt hw]⟩

/-- A block sent is read with its sync header and its body (R250). -/
theorem line_read (st head : Nat) (body : List Byte) (hb : body.length = 8) (hh : head < 4) :
    (sendBlock st head body).1 % 4 = head ∧
      descramble 64 st ((sendBlock st head body).1 / 4) = (leNat body, (sendBlock st head body).2) := by
  have h := leNat_lt_pow body
  rw [hb, show (256 : Nat) ^ 8 = 2 ^ 64 by norm_num] at h
  rw [show sendBlock st head body = (head + 4 * (scramble 64 st (leNat body)).1, (scramble 64 st (leNat body)).2) from by delta sendBlock; exact rfl]
  exact descramble_sent _ st _ head hh h

theorem crc8Bit_lt (c : Nat) : crc8Bit c < 256 := by
  unfold crc8Bit; split
  · exact Nat.xor_lt_two_pow (n := 8) (by omega) (by decide)
  · omega

theorem crc8_lt (bs : List Byte) : crcOf 0 bs < 256 := by
  have h : ∀ (l : List Byte) (c : Nat), c < 256 → l.foldl (crcStep 0) c < 256 := by
    intro l; induction l with
    | nil => exact fun _ h => h
    | cons b l ih => intro c _; exact ih _ (crc8Bit_lt _)
  exact h bs 0 (by decide)

/-- A data block is read as the bytes it was sent with (R250). -/
theorem readBlock_data (st : Nat) (body : List Byte) (hb : body.length = 8) : readBlock st (sendBlock st 1 body).1 = (.data body, (sendBlock st 1 body).2) := by
  obtain ⟨h1, h2⟩ := line_read st 1 body hb (by decide)
  unfold readBlock; dsimp only; rw [h2]; dsimp only; rw [if_pos h1]
  have := leBytes_of_leNat body; rw [hb] at this; rw [this]

/-- A control block is read as the word it was sent with (R250). -/
theorem readBlock_word (st code : Nat) (arg : List Byte) (hc : code < 256) (ha : arg.length = 5) :
    readBlock st (sendBlock st 2 (wordBody code arg)).1 = (.word code arg, (sendBlock st 2 (wordBody code arg)).2) := by
  have e : wordCore code arg = leBytes 1 code ++ arg := by
    have : (arg ++ zeros (5 - arg.length)).take 5 = arg := by rw [List.take_left' ha]
    unfold wordCore; rw [this]
  have h8 : (wordBody code arg).length = 8 := by unfold wordBody; rw [e]; simp [leBytes_length, ha]
  obtain ⟨h1, h2⟩ := line_read st 2 (wordBody code arg) h8 (by decide)
  have h3 := leBytes_of_leNat (wordBody code arg); rw [h8] at h3
  have t1 : leNat ((wordBody code arg).take 1) = 0x1E := by rfl
  have t2 : slice (wordBody code arg) 1 6 = wordCore code arg := by
    unfold wordBody; rw [List.append_assoc]; exact slice_at _ _ _ 1 6 (leBytes_length _ _) (by rw [e]; simp [leBytes_length, ha])
  have t3 : slice (wordBody code arg) 7 1 = leBytes 1 (crcOf 0 (wordCore code arg)) := by
    unfold wordBody; rw [← List.append_nil (leBytes 1 (crcOf 0 (wordCore code arg)))]; exact slice_at _ _ _ 7 1 (by rw [e]; simp [leBytes_length, ha]) (leBytes_length _ _)
  have t4 : slice (wordBody code arg) 1 1 = leBytes 1 code := by
    unfold wordBody; rw [e, List.append_assoc, List.append_assoc]; exact slice_at _ _ _ 1 1 (leBytes_length _ _) (leBytes_length _ _)
  have t5 : slice (wordBody code arg) 2 5 = arg := by
    unfold wordBody; rw [e, ← List.append_assoc, List.append_assoc]; exact slice_at _ _ _ 2 5 (by simp [leBytes_length]) ha
  have t6 : crcOf 0 (slice (wordBody code arg) 1 6) = leNat (slice (wordBody code arg) 7 1) := by
    rw [t2, t3, leNat_leBytes, Nat.mod_eq_of_lt (by simpa using crc8_lt _)]
  unfold readBlock; dsimp only; rw [h2]; dsimp only; rw [h3, if_neg (by rw [h1]; decide), if_pos ⟨h1, t1⟩, if_pos t6, t4, t5, leNat_leBytes, Nat.mod_eq_of_lt (by simpa using hc)]

end Sys2Proof.Machine
end

