-- ==== Sys2Proof/Laws/Memory.lean ====
section
/-!
SUPPORT. Laws/Memory.lean: every operation on the Crock's cells keeps their canonical form, and the reset state has it
(R311, log entry 4).
-/

namespace Sys2Proof.Machine

/-- A canonical list from a higher address on is one from a lower address on. -/
theorem wfFrom_le : ∀ (m : List Host.Cell) {lo hi : Nat}, lo ≤ hi → Memory.wfFrom hi m = true → Memory.wfFrom lo m = true := by
  intro m; cases m with
  | nil => exact fun _ _ => rfl
  | cons x xs =>
    obtain ⟨a, b⟩ := x
    intro lo hi h w
    simp only [Memory.wfFrom, Bool.and_eq_true, decide_eq_true_eq] at *
    exact ⟨⟨⟨by omega, w.1.1.2⟩, w.1.2⟩, w.2⟩

/-- One byte written keeps the canonical form. -/
theorem wfFrom_writeCell : ∀ (m : List Host.Cell) {lo a : Nat} (b : Byte), lo ≤ a → a < 0x400000 → Memory.wfFrom lo m = true →
    Memory.wfFrom lo (writeCell m a b) = true := by
  intro m; induction m with
  | nil =>
    intro lo a b h1 h2 _
    unfold writeCell
    split
    · rfl
    · rename_i hb
      simpa [Memory.wfFrom, h1, h2] using hb
  | cons x xs ih =>
    obtain ⟨y, c⟩ := x
    intro lo a b h1 h2 w
    have w0 := w
    simp only [Memory.wfFrom, Bool.and_eq_true, decide_eq_true_eq] at w
    unfold writeCell
    split
    · rename_i e
      split
      · exact wfFrom_le xs (by omega) w.2
      · rename_i hb
        subst e
        simpa [Memory.wfFrom, h1, h2, w.2] using hb
    · split
      · split
        · exact w0
        · rename_i hb
          simp only [Memory.wfFrom, Bool.and_eq_true, decide_eq_true_eq]
          exact ⟨⟨⟨h1, h2⟩, by simpa using hb⟩, ⟨⟨by omega, w.1.1.2⟩, w.1.2⟩, w.2⟩
      · simp only [Memory.wfFrom, Bool.and_eq_true, decide_eq_true_eq]
        exact ⟨w.1, ih b (by omega) h2 w.2⟩

/-- Bytes written inside the 4 MiB keep the canonical form. -/
theorem wf_writeCells : ∀ (bs : List Byte) (m : List Host.Cell) (a : Nat), a + bs.length ≤ 0x400000 → Memory.wf m = true →
    Memory.wf (writeCells m a bs) = true := by
  intro bs; induction bs with
  | nil => exact fun _ _ _ h => h
  | cons b bs ih =>
    intro m a h w
    simp only [List.length_cons] at h
    exact ih _ _ (by omega) (wfFrom_writeCell m b (Nat.zero_le a) (by omega) w)

/-- Below its first address a canonical list reads as nothing written. -/
theorem readCell_lt : ∀ (m : List Host.Cell) {lo a : Nat}, a < lo → Memory.wfFrom lo m = true → readCell m a = 0 := by
  intro m; cases m with
  | nil => intro _ _ _ _; rfl
  | cons x xs =>
    obtain ⟨y, c⟩ := x; intro lo a h w
    simp only [Memory.wfFrom, Bool.and_eq_true, decide_eq_true_eq] at w
    unfold readCell; rw [if_neg (by omega), if_pos (by omega)]

/-- A byte written reads back, every other as before. -/
theorem read_writeCell : ∀ (m : List Host.Cell) {lo : Nat} (a : Nat) (b : Byte) (x : Nat), Memory.wfFrom lo m = true →
    readCell (writeCell m a b) x = if x = a then b else readCell m x := by
  intro m; induction m with
  | nil =>
    intro lo a b x _
    unfold writeCell
    by_cases hb : b = 0
    · simp [hb, readCell]
    · simp only [hb, if_false, readCell]
      by_cases h : a = x
      · simp [h]
      · rw [if_neg h, if_neg (show ¬ x = a from fun e => h e.symm)]; split <;> rfl
  | cons y m ih =>
    obtain ⟨y, c⟩ := y
    intro lo a b x w
    simp only [Memory.wfFrom, Bool.and_eq_true, decide_eq_true_eq] at w
    unfold writeCell
    by_cases h1 : y = a
    · subst h1
      rw [if_pos rfl]
      by_cases hb : b = 0
      · rw [if_pos hb]
        by_cases h : x = y
        · subst h; rw [if_pos rfl, readCell_lt m (by omega) w.2, hb]
        · rw [if_neg h]; conv_rhs => unfold readCell
          rw [if_neg (fun e => h e.symm)]
          split
          · exact readCell_lt m (by omega) w.2
          · rfl
      · rw [if_neg hb]; unfold readCell
        by_cases h : y = x
        · rw [if_pos h, if_pos h.symm]
        · rw [if_neg h, if_neg (show ¬ x = y from fun e => h e.symm)]; rw [if_neg h]
    · rw [if_neg h1]
      by_cases h2 : a < y
      · rw [if_pos h2]
        by_cases hb : b = 0
        · rw [if_pos hb]
          by_cases h : x = a
          · subst h; rw [if_pos rfl]; unfold readCell; rw [if_neg h1, if_pos h2, hb]
          · rw [if_neg h]
        · rw [if_neg hb]; conv_lhs => unfold readCell
          by_cases h : a = x
          · rw [if_pos h, if_pos h.symm]
          · rw [if_neg h, if_neg (show ¬ x = a from fun e => h e.symm)]
            split
            · rename_i h3; unfold readCell; rw [if_neg (by omega), if_pos (by omega)]
            · rfl
      · rw [if_neg h2]; conv_lhs => unfold readCell
        by_cases h : y = x
        · subst h; rw [if_pos rfl, if_neg h1]; unfold readCell; rw [if_pos rfl]
        · rw [if_neg h]
          by_cases h3 : x < y
          · rw [if_pos h3, if_neg (by omega)]; unfold readCell; rw [if_neg h, if_pos h3]
          · rw [if_neg h3, ih (lo := y + 1) a b x w.2]; conv_rhs => unfold readCell
            rw [if_neg h, if_neg h3]

/-- Bytes written inside the 4 MiB keep the form and read back, every other as before. -/
theorem writeCells_all : ∀ (bs : List Byte) (m : List Host.Cell) (a : Nat), a + bs.length ≤ 0x400000 → Memory.wf m = true →
    Memory.wf (writeCells m a bs) = true ∧ ∀ x, readCell (writeCells m a bs) x = if a ≤ x ∧ x < a + bs.length then bs.getD (x - a) 0 else readCell m x := by
  intro bs; induction bs with
  | nil => intro m a h w; exact ⟨w, fun x => by rw [if_neg (by simp)]; rfl⟩
  | cons b bs ih =>
    intro m a h w
    simp only [List.length_cons] at h
    have hw := wfFrom_writeCell m b (Nat.zero_le a) (by omega) w
    obtain ⟨h1, h2⟩ := ih (writeCell m a b) (a + 1) (by omega) hw
    refine ⟨h1, fun x => ?_⟩
    show readCell (writeCells (writeCell m a b) (a + 1) bs) x = _
    rw [h2 x, read_writeCell m a b x w]
    simp only [List.length_cons]
    by_cases e : x = a
    · subst e; rw [if_neg (by omega), if_pos rfl, if_pos (by omega)]; simp
    · rw [if_neg e]
      by_cases e2 : a + 1 ≤ x ∧ x < a + 1 + bs.length
      · rw [if_pos e2, if_pos (by omega)]
        have : x - a = (x - (a + 1)) + 1 := by omega
        rw [this]; rfl
      · rw [if_neg e2, if_neg (by omega)]

/-- As many bytes are read as asked for. -/
theorem readCells_length (m : List Host.Cell) : ∀ n a, (readCells m a n).length = n := by
  intro n; induction n with
  | zero => intro a; rfl
  | succ n ih => intro a; simp [readCells, ih]

/-- A run of bytes read one by one is what a longer read gives. -/
theorem readCells_eq {m : List Host.Cell} {bs : List Byte} : ∀ {a : Nat}, (∀ k, k < bs.length → readCell m (a + k) = bs.getD k 0) →
    readCells m a bs.length = bs := by
  induction bs with
  | nil => intro a _; rfl
  | cons b bs ih =>
    intro a h
    show readCell m a :: readCells m (a + 1) bs.length = _
    rw [ih (fun k hk => by have := h (k + 1) (by simpa using hk); rwa [show a + (k + 1) = a + 1 + k by omega] at this)]
    have := h 0 (by simp)
    simp at this; rw [this]

/-- Reads of the same bytes give the same. -/
theorem readCells_congr {m m' : List Host.Cell} : ∀ (n a : Nat), (∀ k, k < n → readCell m (a + k) = readCell m' (a + k)) → readCells m a n = readCells m' a n := by
  intro n; induction n with
  | zero => intro a _; rfl
  | succ n ih =>
    intro a h
    show readCell m a :: _ = readCell m' a :: _
    rw [ih (a + 1) (fun k hk => by have := h (k + 1) (by omega); rwa [show a + (k + 1) = a + 1 + k by omega] at this)]
    have := h 0 (by omega); simp at this; rw [this]

/-- Cells taken away leave the canonical form. -/
theorem wfFrom_filter (p : Host.Cell → Bool) : ∀ (m : List Host.Cell) (lo : Nat), Memory.wfFrom lo m = true → Memory.wfFrom lo (m.filter p) = true := by
  intro m; induction m with
  | nil => exact fun _ _ => rfl
  | cons x xs ih =>
    obtain ⟨a, b⟩ := x
    intro lo w
    simp only [Memory.wfFrom, Bool.and_eq_true, decide_eq_true_eq] at w
    rw [List.filter_cons]
    split
    · simp only [Memory.wfFrom, Bool.and_eq_true, decide_eq_true_eq]
      exact ⟨w.1, ih _ w.2⟩
    · exact ih _ (wfFrom_le xs (by omega) w.2)

/-- A partition erased keeps the canonical form. -/
theorem wf_eraseCells (m : List Host.Cell) (lo hi : Nat) (w : Memory.wf m = true) : Memory.wf (eraseCells m lo hi) = true :=
  wfFrom_filter _ m 0 w

/-- A write to the Crock keeps the canonical form, wherever it starts and however long it is. -/
theorem wf_crockWrite (s : State) (a : Nat) (bs : List Byte) (w : Memory.wf s.crock.mem = true) :
    Memory.wf (crockWrite s a bs).crock.mem = true := by
  show Memory.wf (writeCells _ _ _) = true
  by_cases h : a ≤ 0x400000
  · exact wf_writeCells _ _ _ (by simp only [List.length_take]; omega) w
  · have e : 0x400000 - a = 0 := by omega
    rw [e]; exact w

/-- A paired line written keeps the canonical form. -/
theorem wf_setPaired (s : State) (a v : Nat) (w : Memory.wf s.crock.mem = true) : Memory.wf (setPaired s a v).crock.mem = true := by
  unfold setPaired
  split
  · exact wf_crockWrite _ _ _ w
  · exact wf_crockWrite _ _ _ w

/-- The reset state's memory lists nothing. -/
theorem wf_reset : Memory.wf State.reset.crock.mem = true := rfl

end Sys2Proof.Machine
end

