-- ==== Sys2Proof/Laws/Sound.lean ====
section
/-!
SUPPORT. Laws/Sound.lean: the steps by which a state is shown to hold together (`Sound`): what a change of other fields
leaves, a choice, a fold, a local definition. The files SoundOps* apply them to the operations, SoundRows* to the commands.
-/

namespace Sys2Proof.Machine

theorem Sound.of {s t : State} (h : Sound s) (h1 : t.ports = s.ports := by rfl) (h2 : t.spes = s.spes := by rfl)
    (h3 : t.vpA = s.vpA := by rfl) (h4 : t.vpB = s.vpB := by rfl) (h5 : t.pdes = s.pdes := by rfl)
    (h6 : t.ppcs = s.ppcs := by rfl) (h7 : t.convs = s.convs := by rfl) (h8 : t.fab.links = s.fab.links := by rfl)
    (h9 : t.sieve = s.sieve := by rfl) (h10 : t.crock.mem = s.crock.mem := by rfl)
    (h11 : t.ev.capture = s.ev.capture := by rfl) (h12 : t.ev.qa = s.ev.qa := by rfl) (h13 : t.ev.qb = s.ev.qb := by rfl)
    (h14 : t.ev.qsb = s.ev.qsb := by rfl) (h15 : t.ev.qfab = s.ev.qfab := by rfl) (h16 : t.ev.qj = s.ev.qj := by rfl)
    (h17 : t.sys.aonBuf = s.sys.aonBuf := by rfl) : Sound t := by
  constructor
  · have a := h.shape; unfold Shape at *; rw [h1,h2,h3,h4,h5,h6,h7,h8,h9]; exact a
  · rw [h10]; exact h.cells
  · rw [h11]; exact h.capture
  · rw [h12]; exact h.queueA
  · rw [h13]; exact h.queueB
  · rw [h14]; exact h.sideband
  · rw [h15]; exact h.forward
  · rw [h16]; exact h.journal
  · rw [h17]; exact h.buffer
theorem Sound.lift {s : State} {tu ev cmd fab sys upA upB ports spes vpA vpB plan pdes ppcs convs segA segB feedA feedB pba pair crock sieve freeIdx pending} (h : Sound s) (h1 : ports = s.ports) (h2 : spes = s.spes) (h3 : vpA = s.vpA) (h4 : vpB = s.vpB)
    (h5 : pdes = s.pdes) (h6 : ppcs = s.ppcs) (h7 : convs = s.convs) (h8 : fab.links = s.fab.links) (h9 : sieve = s.sieve)
    (h10 : crock.mem = s.crock.mem) (h11 : ev.capture = s.ev.capture) (h12 : ev.qa = s.ev.qa) (h13 : ev.qb = s.ev.qb)
    (h14 : ev.qsb = s.ev.qsb) (h15 : ev.qfab = s.ev.qfab) (h16 : ev.qj = s.ev.qj) (h17 : sys.aonBuf = s.sys.aonBuf) :
    Sound (State.mk tu ev cmd fab sys upA upB ports spes vpA vpB plan pdes ppcs convs segA segB feedA feedB pba pair crock sieve freeIdx pending) :=
  h.of h1 h2 h3 h4 h5 h6 h7 h8 h9 h10 h11 h12 h13 h14 h15 h16 h17
theorem Sound.ite {c : Prop} [Decidable c] {a b : State} (hb : Sound b) (ha : Sound b → Sound a) : Sound (if c then a else b) := by
  split
  · exact ha hb
  · exact hb
theorem Sound.fold {α} {f : State → α → State} (hf : ∀ s x, Sound s → Sound (f s x)) : ∀ (l : List α) (s : State), Sound s → Sound (l.foldl f s) := by
  intro l; induction l with
  | nil => exact fun _ h => h
  | cons x xs ih => exact fun s h => ih _ (hf s x h)
theorem Sound.foldP {α β} {f : β × State → α → β × State} (hf : ∀ s x, Sound s.2 → Sound (f s x).2) : ∀ (l : List α) (s : β × State), Sound s.2 → Sound (l.foldl f s).2 := by
  intro l; induction l with
  | nil => exact fun _ h => h
  | cons x xs ih => exact fun s h => ih _ (hf s x h)
theorem Sound.step {x b : State} (h : Sound x) (k : Sound x → Sound b) : Sound b := k h
theorem Sound.stepP {α} {x : α × State} {b : State} (h : Sound x.2) (k : Sound x.2 → Sound b) : Sound b := k h

theorem Sound.stepF {f : State → State} {b : State} (h : ∀ s, Sound s → Sound (f s)) (k : (∀ s, Sound s → Sound (f s)) → Sound b) : Sound b := k h
theorem Sound.stepG {α} {f : State → α × State} {b : State} (h : ∀ s, Sound s → Sound (f s).2) (k : (∀ s, Sound s → Sound (f s).2) → Sound b) : Sound b := k h
theorem Sound.stepK {α} {f : α → State} {b : State} (h : ∀ x, Sound (f x)) (k : (∀ x, Sound (f x)) → Sound b) : Sound b := k h

end Sys2Proof.Machine
end

