-- ==== Sys2Proof/Laws/SoundOps1.lean ====
section
/-!
SUPPORT. Laws/SoundOps1.lean: the operations keep a state that holds together, part 1 of 8, in the order of the
model's files.
-/

namespace Sys2Proof.Machine

theorem sound_State_modUp (s : State) (u : Up) (f : Upstream → Upstream) (hs : Sound s) : Sound (State.modUp s u f) := by
  delta State.modUp
  repeat' first
    | with_reducible assumption | split
    | with_reducible refine Sound.lift ?_ rfl rfl rfl rfl rfl rfl rfl rfl rfl rfl rfl rfl rfl rfl rfl rfl rfl

theorem sound_State_modPort (s : State) (p : Nat) (f : Port → Port) (hs : Sound s) : Sound (s.modPort p f) := by
  unfold State.modPort
  split
  · exact hs
  · have h := hs.shape
    exact ⟨by simpa [Shape, modAt] using h, hs.cells, hs.capture, hs.queueA, hs.queueB, hs.sideband, hs.forward, hs.journal, hs.buffer⟩

theorem sound_State_modSpe (s : State) (p : Nat) (f : Spe → Spe) (hs : Sound s) : Sound (s.modSpe p f) := by
  unfold State.modSpe
  split
  · exact hs
  · have h := hs.shape
    exact ⟨by simpa [Shape, modAt] using h, hs.cells, hs.capture, hs.queueA, hs.queueB, hs.sideband, hs.forward, hs.journal, hs.buffer⟩

theorem sound_State_modVPort (s : State) (u : Up) (v : Nat) (f : VPort → VPort) (hs : Sound s) : Sound (s.modVPort u v f) := by
  unfold State.modVPort
  have h := hs.shape
  split
  · exact hs
  · cases u
    · exact ⟨by simpa [Shape, modAt] using h, hs.cells, hs.capture, hs.queueA, hs.queueB, hs.sideband, hs.forward, hs.journal, hs.buffer⟩
    · exact ⟨by simpa [Shape, modAt] using h, hs.cells, hs.capture, hs.queueA, hs.queueB, hs.sideband, hs.forward, hs.journal, hs.buffer⟩

theorem sound_State_modLink (s : State) (l : Nat) (f : FabLink → FabLink) (hs : Sound s) : Sound (s.modLink l f) := by
  have h := hs.shape
  exact ⟨by simpa [Shape, modAt, State.modLink] using h, hs.cells, hs.capture, hs.queueA, hs.queueB, hs.sideband, hs.forward, hs.journal, hs.buffer⟩

theorem sound_wakeDoze (s : State) (hs : Sound s) : Sound (wakeDoze s) := by
  delta wakeDoze
  repeat' first
    | with_reducible assumption | split
    | with_reducible refine Sound.lift ?_ rfl rfl rfl rfl rfl rfl rfl rfl rfl rfl rfl rfl rfl rfl rfl rfl rfl

theorem sound_ifActive (s t : State) (hs : Sound s) (ht : Sound t) : Sound (ifActive s t) := by
  delta ifActive
  repeat' first
    | with_reducible assumption | with_reducible refine Sound.ite ?_ (fun hx => ?_)

theorem sound_State_drawn (s : State) (hs : Sound s) : Sound (State.drawn s) := by
  delta State.drawn
  repeat' first
    | with_reducible assumption
    | with_reducible refine Sound.lift ?_ rfl rfl rfl rfl rfl rfl rfl rfl rfl rfl rfl rfl rfl rfl rfl rfl rfl

theorem sound_trainPhy (s : State) (n : Nat) (hs : Sound s) : Sound (trainPhy s n) := by
  delta trainPhy
  repeat' first
    | with_reducible assumption | (intro _)
    | (fail_if_no_progress extract_lets -merge -useContext +onlyGivenNames x)
    | with_reducible refine Sound.ite ?_ (fun hx => ?_) | with_reducible apply hf
    | (with_reducible first | apply sound_State_drawn) | (fail_if_no_progress beta_reduce) | split
    | with_reducible refine Sound.lift ?_ rfl rfl rfl rfl rfl rfl rfl rfl rfl rfl rfl rfl rfl rfl rfl rfl rfl

theorem coalAdd_length (r : EvRec) (k : Bool) : ∀ l m, coalAdd r k l = some m → m.length = l.length := by
  intro l; induction l with
  | nil => intro m h; cases h
  | cons c cs ih =>
    intro m h
    unfold coalAdd at h
    split at h
    · cases h; rfl
    · cases hc : coalAdd r k cs with
      | none => rw [hc] at h; cases h
      | some n => rw [hc] at h; cases h; exact congrArg (· + 1) (ih n hc)

theorem Fits.suppress {cap : Nat} {q : Queue} (h : Fits cap q) (r : EvRec) (k : Bool) : Fits cap (q.suppress r k) := by
  unfold Queue.suppress
  simp only
  split
  · rename_i cs hc; exact ⟨h.1, (coalAdd_length r k _ _ hc).trans_le h.2⟩
  · split
    · exact ⟨h.1, by simpa using ‹_›⟩
    · exact h

theorem Fits.push {cap : Nat} {q : Queue} (h : Fits cap q) (r : EvRec) (hn : q.recs.length < cap) : Fits cap (q.push r) :=
  ⟨by simpa [Queue.push] using hn, h.2⟩

theorem Fits.offer {cap : Nat} {q : Queue} (h : Fits cap q) (r : EvRec) : Fits cap (q.offer cap r) := by
  unfold Queue.offer
  split
  · exact h.suppress r false
  · rename_i hc; exact h.push r (by simp at hc; omega)

theorem Fits.makeRoom {cap : Nat} {q : Queue} (h : Fits cap q) (c : Nat) : Fits cap (q.makeRoom c) := by
  unfold Queue.makeRoom
  split
  · exact ⟨by have := h.1; simp only [List.length_drop]; omega, h.2⟩
  · exact h

theorem Fits.offerFab {q : Queue} (h : Fits 1024 q) (z : Bool) (r : EvRec) : Fits 1024 (q.offerFab z r) := by
  unfold Queue.offerFab
  extract_lets q1 n q2
  have h1 : Fits 1024 q1 := by
    subst q1; split
    · exact h
    · exact h.makeRoom _
  have h2 : Fits 1024 q2 := h1.offer _
  split
  · exact h2
  · exact h2

theorem Fits.pick {cap : Nat} {q p : Queue} {c : Prop} [Decidable c] (h : Fits cap q) (k : Fits cap p) : Fits cap (if c then p else q) := by
  split
  · exact k
  · exact h

theorem sound_suppressAll (s : State) (r : EvRec) (hs : Sound s) : Sound (suppressAll s r) :=
  ⟨hs.shape, hs.cells, hs.capture, hs.queueA.pick (hs.queueA.suppress r true), hs.queueB.pick (hs.queueB.suppress r true),
   hs.sideband.pick (hs.sideband.suppress r true), hs.forward.pick (hs.forward.suppress r true),
   hs.journal.pick (hs.journal.suppress r true), hs.buffer⟩

theorem insertRec_length (r : EvRec) : ∀ l, (insertRec r l).length = l.length + 1 := by
  intro l; induction l with
  | nil => rfl
  | cons x xs ih =>
    unfold insertRec; split
    · simp [ih]
    · rfl

theorem sound_captureRec (s : State) (r : EvRec) (hs : Sound s) : Sound (captureRec s r) := by
  unfold captureRec
  split
  · split
    · rename_i h
      exact ⟨hs.shape, hs.cells, hs.capture, hs.queueA, hs.queueB, hs.sideband, hs.forward, hs.journal, by simp only [insertRec_length]; omega⟩
    · exact hs.of
  · split
    · rename_i h
      exact ⟨hs.shape, hs.cells, by simp only [insertRec_length]; omega, hs.queueA, hs.queueB, hs.sideband, hs.forward, hs.journal, hs.buffer⟩
    · exact sound_suppressAll s r hs

theorem sound_raiseAt (s : State) (t src code data : Nat) (hs : Sound s) : Sound (raiseAt s t src code data) := by
  delta raiseAt
  repeat' first
    | with_reducible assumption | with_reducible refine Sound.ite ?_ (fun hx => ?_)
    | (with_reducible first | apply sound_captureRec)

theorem sound_raise (s : State) (src code data : Nat) (hs : Sound s) : Sound (raise s src code data) := by
  delta raise
  repeat' first
    | with_reducible assumption | (with_reducible first | apply sound_raiseAt)

theorem sound_raisePort (s : State) (p k code data : Nat) (hs : Sound s) : Sound (raisePort s p k code data) := by
  delta raisePort
  repeat' first
    | with_reducible assumption | (with_reducible first | apply sound_raise)

theorem sound_raiseUp (s : State) (u : Up) (k code data : Nat) (hs : Sound s) : Sound (raiseUp s u k code data) := by
  delta raiseUp
  repeat' first
    | with_reducible assumption | (with_reducible first | apply sound_raise)

theorem sound_deliverRec (s : State) (r : EvRec) (hs : Sound s) : Sound (deliverRec s r) :=
  ⟨hs.shape, hs.cells, hs.capture, hs.queueA.pick (hs.queueA.offer r), hs.queueB.pick (hs.queueB.offer r),
   hs.sideband.pick (hs.sideband.offer r), hs.forward.pick (hs.forward.offerFab _ r),
   hs.journal.pick (hs.journal.offer r), hs.buffer⟩

theorem sound_sendWord (s : State) (l code : Nat) (arg : List Byte) (hs : Sound s) : Sound (sendWord s l code arg) := by
  delta sendWord
  repeat' first
    | with_reducible assumption | (intro _) | (with_reducible first | apply sound_State_modLink)

theorem sound_freeCredits (s : State) (l c n : Nat) (hs : Sound s) : Sound (freeCredits s l c n) := by
  delta freeCredits
  repeat' first
    | with_reducible assumption | (intro _) | (with_reducible first | apply sound_State_modLink)

theorem sound_startFrame (s : State) (l c : Nat) (hs : Sound s) : Sound (startFrame s l c) := by
  delta startFrame
  repeat' first
    | with_reducible assumption | (intro _)
    | ((fail_if_no_progress extract_lets -merge -useContext +onlyGivenNames x); (refine Sound.step (x := x) ?_ (fun hx => ?_); on_goal 1 => subst x))
    | (with_reducible first | apply sound_State_modLink | apply sound_freeCredits) | split

theorem sound_nextTurn (s : State) (l : Nat) (hs : Sound s) : Sound (nextTurn s l) := by
  delta nextTurn
  repeat' first
    | with_reducible assumption | (intro _)
    | with_reducible refine Sound.ite ?_ (fun hx => ?_) | (with_reducible first | apply sound_State_modLink)

theorem sound_settleMirror (s : State) (l : Nat) (hs : Sound s) : Sound (settleMirror s l) := by
  delta settleMirror
  repeat' first
    | with_reducible assumption | with_reducible refine Sound.ite ?_ (fun hx => ?_) | split
    | with_reducible refine Sound.lift ?_ rfl rfl rfl rfl rfl rfl rfl rfl rfl rfl rfl rfl rfl rfl rfl rfl rfl

theorem sound_pumpN : ∀ (n : Nat) (s : State) (l : Nat), Sound s → Sound (pumpN n s l) := by
  intro n; induction n with
  | zero => exact fun _ _ h => h
  | succ n ih =>
    intro s l hs
    unfold pumpN
    repeat' first
      | with_reducible assumption | (intro _)
      | (fail_if_no_progress extract_lets -merge -useContext +onlyGivenNames x)
      | with_reducible refine Sound.ite ?_ (fun hx => ?_)
      | (with_reducible first | apply ih | apply sound_startFrame | apply sound_nextTurn | apply sound_State_modLink)

theorem sound_pump (s : State) (l : Nat) (hs : Sound s) : Sound (pump s l) := by
  have h : Sound (if (s.link l).st = .up then pumpN 1024 s l else s) := Sound.ite hs (fun _ => sound_pumpN _ _ _ hs)
  exact sound_settleMirror _ _ (sound_State_modLink _ _ _ h)

theorem sound_queueOn (s : State) (l : Nat) (f : Frame) (src : Option Nat) (hs : Sound s) : Sound (queueOn s l f src) := by
  delta queueOn
  repeat' first
    | with_reducible assumption | (intro _) | with_reducible refine Sound.ite ?_ (fun hx => ?_)
    | (with_reducible first | apply sound_State_modLink | apply sound_freeCredits | apply sound_pump) | split

theorem sound_sendOn (s : State) (l : Nat) (f : Frame) (hs : Sound s) : Sound (sendOn s l f) := by
  delta sendOn
  repeat' first
    | with_reducible assumption | (with_reducible first | apply sound_queueOn)

theorem sound_raiseLink (s : State) (l k code : Nat) (vc cause node count lseq uid : Nat) (hs : Sound s) : Sound (raiseLink s l k code vc cause node count lseq uid) := by
  delta raiseLink
  repeat' first
    | with_reducible assumption | (with_reducible first | apply sound_raise)

theorem sound_countDiscard (s : State) (l : Nat) (hs : Sound s) : Sound (countDiscard s l) := by
  delta countDiscard
  repeat' first
    | with_reducible assumption | (intro _) | (with_reducible first | apply sound_State_modLink)

theorem sound_noRouteEvent (s : State) (l dest : Nat) (hs : Sound s) : Sound (noRouteEvent s l dest) := by
  delta noRouteEvent
  repeat' first
    | with_reducible assumption | with_reducible refine Sound.ite ?_ (fun hx => ?_)
    | (with_reducible first | apply sound_raise) | split
    | with_reducible refine Sound.lift ?_ rfl rfl rfl rfl rfl rfl rfl rfl rfl rfl rfl rfl rfl rfl rfl rfl rfl

theorem sound_sendTo (s : State) (vc kind dest kspec : Nat) (payload : List Byte) (hs : Sound s) : Sound (sendTo s vc kind dest kspec payload) := by
  delta sendTo
  repeat' first
    | with_reducible assumption | (intro _)
    | (fail_if_no_progress extract_lets -merge -useContext +onlyGivenNames x)
    | with_reducible refine Sound.ite ?_ (fun hx => ?_) | with_reducible apply hf
    | (with_reducible first | apply sound_sendOn | apply sound_noRouteEvent | apply Sound.fold | apply Sound.foldP)
    | (fail_if_no_progress beta_reduce) | split

theorem sound_sendLadle (s : State) (vc kind kspec : Nat) (payload : List Byte) (hs : Sound s) : Sound (sendLadle s vc kind kspec payload) := by
  delta sendLadle
  repeat' first
    | with_reducible assumption | with_reducible refine Sound.ite ?_ (fun hx => ?_)
    | (with_reducible first | apply sound_sendOn)

theorem sound_sendSlow (s : State) (xs : List SlowItem) (hs : Sound s) : Sound (sendSlow s xs) := by
  delta sendSlow
  repeat' first
    | with_reducible assumption | with_reducible refine Sound.ite ?_ (fun hx => ?_)
    | (with_reducible first | apply sound_sendLadle) | split
    | with_reducible refine Sound.lift ?_ rfl rfl rfl rfl rfl rfl rfl rfl rfl rfl rfl rfl rfl rfl rfl rfl rfl

theorem sound_sendMirror (s : State) (xs : List MirrorItem) (hs : Sound s) : Sound (sendMirror s xs) := by
  delta sendMirror
  repeat' first
    | with_reducible assumption | with_reducible refine Sound.ite ?_ (fun hx => ?_)
    | (with_reducible first | apply sound_sendLadle) | split
    | with_reducible refine Sound.lift ?_ rfl rfl rfl rfl rfl rfl rfl rfl rfl rfl rfl rfl rfl rfl rfl rfl rfl

theorem sound_sendSegs (s : State) (kind dest tag : Nat) (bs : List Byte) (hs : Sound s) : Sound (sendSegs s kind dest tag bs) := by
  delta sendSegs
  repeat' first
    | with_reducible assumption | (intro _)
    | (with_reducible first | apply sound_sendTo | apply Sound.fold)

theorem sound_State_modTr (s : State) (t : Transport) (f : TrState → TrState) (hs : Sound s) : Sound (State.modTr s t f) := by
  delta State.modTr
  repeat' first
    | with_reducible assumption
    | (fail_if_no_progress extract_lets -merge -useContext +onlyGivenNames x)
    | with_reducible refine Sound.lift ?_ rfl rfl rfl rfl rfl rfl rfl rfl rfl rfl rfl rfl rfl rfl rfl rfl rfl

theorem sound_mboPost (s : State) (hs : Sound s) : Sound (mboPost s) := by
  delta mboPost
  repeat' first
    | with_reducible assumption
    | (fail_if_no_progress extract_lets -merge -useContext +onlyGivenNames x)
    | with_reducible refine Sound.ite ?_ (fun hx => ?_) | split
    | with_reducible refine Sound.lift ?_ rfl rfl rfl rfl rfl rfl rfl rfl rfl rfl rfl rfl rfl rfl rfl rfl rfl

theorem sound_storePipe (s : State) (u : Up) (bs : List Byte) (hs : Sound s) : Sound (storePipe s u bs) := by
  delta storePipe
  repeat' first
    | with_reducible assumption | (intro _)
    | ((fail_if_no_progress extract_lets -merge -useContext +onlyGivenNames x); (first | (refine Sound.step (x := x) ?_ (fun hx => ?_); on_goal 1 => subst x) | skip))
    | with_reducible refine Sound.ite ?_ (fun hx => ?_)
    | (with_reducible first | apply sound_State_modUp | apply sound_raiseUp)

theorem sound_storeMbo (s : State) (msgs : List (List Byte)) (hs : Sound s) : Sound (storeMbo s msgs) := by
  delta storeMbo
  repeat' first
    | with_reducible assumption
    | (fail_if_no_progress extract_lets -merge -useContext +onlyGivenNames x)
    | (with_reducible first | apply sound_mboPost)
    | with_reducible refine Sound.lift ?_ rfl rfl rfl rfl rfl rfl rfl rfl rfl rfl rfl rfl rfl rfl rfl rfl rfl

theorem sound_deliver (s : State) (c : Cmd) (bs : List Byte) (r : Resp) (hs : Sound s) : Sound (deliver s c bs r) := by
  delta deliver
  repeat' first
    | with_reducible assumption | (intro _)
    | (with_reducible first | apply sound_sendLadle | apply sound_sendSegs | apply sound_storePipe | apply sound_storeMbo | apply Sound.fold | apply Sound.foldP)
    | split

theorem sound_discardResponse (s : State) (c : Cmd) (hs : Sound s) : Sound (discardResponse s c) := by
  delta discardResponse
  repeat' first
    | with_reducible assumption | (with_reducible first | apply sound_raiseUp) | split

theorem sound_sendBack (s : State) (c : Cmd) (bs : List Byte) (r : Resp) (hs : Sound s) : Sound (sendBack s c bs r) := by
  delta sendBack
  repeat' first
    | with_reducible assumption | with_reducible refine Sound.ite ?_ (fun hx => ?_)
    | (with_reducible first | apply sound_deliver | apply sound_discardResponse)

theorem sound_cacheResp (s : State) (c : Cmd) (bs : List Byte) (hs : Sound s) : Sound (cacheResp s c bs) := by
  delta cacheResp
  repeat' first
    | with_reducible assumption | (intro _) | with_reducible refine Sound.ite ?_ (fun hx => ?_)
    | (with_reducible first | apply sound_State_modTr)

theorem sound_respond (s : State) (c : Cmd) (r : Resp) (hs : Sound s) : Sound (respond s c r) := by
  delta respond
  repeat' first
    | with_reducible assumption
    | (fail_if_no_progress extract_lets -merge -useContext +onlyGivenNames x)
    | (with_reducible first | apply sound_sendBack | apply sound_cacheResp)

theorem sound_addWait (s : State) (c : Cmd) (clamped : Bool) (hs : Sound s) : Sound (addWait s c clamped).2 := by
  delta addWait
  repeat' first
    | with_reducible assumption
    | with_reducible refine Sound.lift ?_ rfl rfl rfl rfl rfl rfl rfl rfl rfl rfl rfl rfl rfl rfl rfl rfl rfl

theorem sound_settleList : ∀ (l k : List Cmd) (s : State), Sound s → Sound (settleList l k s).2 := by
  intro l; induction l with
  | nil => exact fun _ _ h => h
  | cons c cs ih =>
    intro k s hs
    unfold settleList
    repeat' first
      | with_reducible assumption | (intro _)
      | (fail_if_no_progress extract_lets -merge -useContext +onlyGivenNames x)
      | with_reducible refine Sound.ite ?_ (fun hx => ?_)
      | (with_reducible first | apply ih | apply sound_sendBack | apply sound_respond) | split

theorem sound_settleQueue (s : State) (hs : Sound s) : Sound (settleQueue s) := by
  have h := sound_settleList s.cmd.queue [] s hs
  exact h.of

theorem sound_tellFirmware (s : State) (ms : Nat) (hs : Sound s) : Sound (tellFirmware s ms) := by
  delta tellFirmware
  repeat' first
    | with_reducible assumption | with_reducible refine Sound.ite ?_ (fun hx => ?_)
    | (with_reducible first | apply sound_sendLadle) | split
    | with_reducible refine Sound.lift ?_ rfl rfl rfl rfl rfl rfl rfl rfl rfl rfl rfl rfl rfl rfl rfl rfl rfl

theorem sound_beginRestart (s : State) (hs : Sound s) : Sound (beginRestart s) := by
  delta beginRestart
  repeat' first
    | with_reducible assumption | (intro _)
    | ((fail_if_no_progress extract_lets -merge -useContext +onlyGivenNames x); (first | (refine Sound.step (x := x) ?_ (fun hx => ?_); on_goal 1 => subst x) | skip))
    | with_reducible refine Sound.ite ?_ (fun hx => ?_)
    | (with_reducible first | apply sound_raise | apply sound_respond | apply sound_tellFirmware | apply Sound.fold | apply Sound.foldP)
    | split | with_reducible refine Sound.lift ?_ rfl rfl rfl rfl rfl rfl rfl rfl rfl rfl rfl rfl rfl rfl rfl rfl rfl

theorem sound_finishWait (s : State) (num : Nat) (r : Resp) (hs : Sound s) : Sound (finishWait s num r) := by
  delta finishWait
  repeat' first
    | with_reducible assumption
    | (with_reducible first | apply sound_respond | apply sound_settleQueue | apply sound_beginRestart) | split
    | with_reducible refine Sound.lift ?_ rfl rfl rfl rfl rfl rfl rfl rfl rfl rfl rfl rfl rfl rfl rfl rfl rfl

theorem sound_crockWrite (s : State) (a : Nat) (bs : List Byte) (hs : Sound s) : Sound (crockWrite s a bs) :=
  ⟨hs.shape, wf_crockWrite s a bs hs.cells, hs.capture, hs.queueA, hs.queueB, hs.sideband, hs.forward, hs.journal, hs.buffer⟩

theorem sound_setPaired (s : State) (a v : Nat) (hs : Sound s) : Sound (setPaired s a v) := by
  delta setPaired
  repeat' first
    | with_reducible assumption | with_reducible refine Sound.ite ?_ (fun hx => ?_)
    | (with_reducible first | apply sound_crockWrite) | split

theorem sound_setRate (s : State) (r : Int) (hs : Sound s) : Sound (setRate s r) := by
  delta setRate
  repeat' first
    | with_reducible assumption
    | with_reducible refine Sound.lift ?_ rfl rfl rfl rfl rfl rfl rfl rfl rfl rfl rfl rfl rfl rfl rfl rfl rfl

theorem sound_raiseSync (s : State) (code value : Nat) (hs : Sound s) : Sound (raiseSync s code value) := by
  delta raiseSync
  repeat' first
    | with_reducible assumption | (with_reducible first | apply sound_raise)

theorem sound_setSync (s : State) (x : Sync) (hs : Sound s) : Sound (setSync s x) := by
  delta setSync
  repeat' first
    | with_reducible assumption
    | ((fail_if_no_progress extract_lets -merge -useContext +onlyGivenNames x); (first | (refine Sound.step (x := x) ?_ (fun hx => ?_); on_goal 1 => subst x) | skip))
    | with_reducible refine Sound.ite ?_ (fun hx => ?_)
    | (with_reducible first | apply sound_raise | apply sound_raiseSync) | split
    | with_reducible refine Sound.lift ?_ rfl rfl rfl rfl rfl rfl rfl rfl rfl rfl rfl rfl rfl rfl rfl rfl rfl

theorem sound_setCapture (s : State) (l : List EvRec) (hl : l.length ≤ 64) (hs : Sound s) : Sound { s with ev := { s.ev with capture := l } } :=
  ⟨hs.shape, hs.cells, hl, hs.queueA, hs.queueB, hs.sideband, hs.forward, hs.journal, hs.buffer⟩

theorem sound_flushCapture (s : State) (hs : Sound s) : Sound (flushCapture s) :=
  Sound.fold (fun s r h => sound_deliverRec s r h) _ _ (sound_setCapture s [] (by simp) hs)

theorem sound_stepTime (s : State) (d : Int) (hs : Sound s) : Sound (stepTime s d) := by
  delta stepTime
  repeat' first
    | with_reducible assumption
    | ((fail_if_no_progress extract_lets -merge -useContext +onlyGivenNames x); (first | (refine Sound.step (x := x) ?_ (fun hx => ?_); on_goal 1 => subst x) | skip))
    | (with_reducible first | apply sound_raiseSync | apply sound_flushCapture)
    | with_reducible refine Sound.lift ?_ rfl rfl rfl rfl rfl rfl rfl rfl rfl rfl rfl rfl rfl rfl rfl rfl rfl

theorem sound_slew (s : State) (theta : Int) (clocks : Nat) (hs : Sound s) : Sound (slew s theta clocks) := by
  delta slew
  repeat' first
    | with_reducible assumption
    | ((fail_if_no_progress extract_lets -merge -useContext +onlyGivenNames x); (first | (refine Sound.step (x := x) ?_ (fun hx => ?_); on_goal 1 => subst x) | skip))
    | (with_reducible first | apply sound_State_drawn | apply sound_setRate)
    | with_reducible refine Sound.lift ?_ rfl rfl rfl rfl rfl rfl rfl rfl rfl rfl rfl rfl rfl rfl rfl rfl rfl

theorem sound_servo (s : State) (theta : Int) (clocks : Nat) (hs : Sound s) : Sound (servo s theta clocks) := by
  delta servo
  repeat' first
    | with_reducible assumption | (intro _)
    | ((fail_if_no_progress extract_lets -merge -useContext +onlyGivenNames x); (first | (refine Sound.step (x := x) ?_ (fun hx => ?_); on_goal 1 => subst x) | (refine Sound.stepF (f := x) ?_ (fun hf => ?_); on_goal 1 => subst x) | skip))
    | with_reducible refine Sound.ite ?_ (fun hx => ?_) | with_reducible apply hf
    | (with_reducible first | apply sound_setSync | apply sound_stepTime | apply sound_slew)
    | (fail_if_no_progress beta_reduce) | split
    | with_reducible refine Sound.lift ?_ rfl rfl rfl rfl rfl rfl rfl rfl rfl rfl rfl rfl rfl rfl rfl rfl rfl

theorem sound_rootSync (s : State) (hs : Sound s) : Sound (rootSync s) := by
  delta rootSync
  repeat' first
    | with_reducible assumption | with_reducible refine Sound.ite ?_ (fun hx => ?_)
    | (with_reducible first | apply sound_setSync)

theorem sound_setParent (s : State) (parent : Option Nat) (hs : Sound s) : Sound (setParent s parent) := by
  delta setParent
  repeat' first
    | with_reducible assumption
    | ((fail_if_no_progress extract_lets -merge -useContext +onlyGivenNames x); (first | (refine Sound.step (x := x) ?_ (fun hx => ?_); on_goal 1 => subst x) | skip))
    | with_reducible refine Sound.ite ?_ (fun hx => ?_)
    | (with_reducible first | apply sound_raiseSync | apply sound_rootSync) | split
    | with_reducible refine Sound.lift ?_ rfl rfl rfl rfl rfl rfl rfl rfl rfl rfl rfl rfl rfl rfl rfl rfl rfl

theorem sound_idle (s : State) (hs : Sound s) : Sound (idle s) := by
  delta idle
  repeat' first
    | with_reducible assumption
    | with_reducible refine Sound.lift ?_ rfl rfl rfl rfl rfl rfl rfl rfl rfl rfl rfl rfl rfl rfl rfl rfl rfl

theorem sound_setDie (s : State) (t : Int) (hs : Sound s) : Sound (setDie s t) := by
  delta setDie
  repeat' first
    | with_reducible assumption
    | with_reducible refine Sound.lift ?_ rfl rfl rfl rfl rfl rfl rfl rfl rfl rfl rfl rfl rfl rfl rfl rfl rfl

theorem sound_State_modPde (s : State) (n : Nat) (f : Pde → Pde) (hs : Sound s) : Sound (s.modPde n f) := by
  unfold State.modPde
  split
  · exact hs
  · have h := hs.shape
    exact ⟨by simpa [Shape, modAt] using h, hs.cells, hs.capture, hs.queueA, hs.queueB, hs.sideband, hs.forward, hs.journal, hs.buffer⟩

theorem sound_State_modPpc (s : State) (n : Nat) (f : Ppc → Ppc) (hs : Sound s) : Sound (s.modPpc n f) := by
  unfold State.modPpc
  split
  · exact hs
  · have h := hs.shape
    exact ⟨by simpa [Shape, modAt] using h, hs.cells, hs.capture, hs.queueA, hs.queueB, hs.sideband, hs.forward, hs.journal, hs.buffer⟩

theorem sound_State_modConv (s : State) (n : Nat) (f : Converter → Converter) (hs : Sound s) : Sound (s.modConv n f) := by
  unfold State.modConv
  split
  · exact hs
  · have h := hs.shape
    exact ⟨by simpa [Shape, modAt] using h, hs.cells, hs.capture, hs.queueA, hs.queueB, hs.sideband, hs.forward, hs.journal, hs.buffer⟩

theorem sound_State_modSeg (s : State) (b : Bool) (f : Segment → Segment) (hs : Sound s) : Sound (State.modSeg s b f) := by
  delta State.modSeg
  repeat' first
    | with_reducible assumption | with_reducible refine Sound.ite ?_ (fun hx => ?_) | split
    | with_reducible refine Sound.lift ?_ rfl rfl rfl rfl rfl rfl rfl rfl rfl rfl rfl rfl rfl rfl rfl rfl rfl

theorem sound_State_modFeed (s : State) (b : Bool) (f : Feed → Feed) (hs : Sound s) : Sound (State.modFeed s b f) := by
  delta State.modFeed
  repeat' first
    | with_reducible assumption | with_reducible refine Sound.ite ?_ (fun hx => ?_) | split
    | with_reducible refine Sound.lift ?_ rfl rfl rfl rfl rfl rfl rfl rfl rfl rfl rfl rfl rfl rfl rfl rfl rfl

theorem sound_State_modPb (s : State) (n : Nat) (f : PbaPort → PbaPort) (hs : Sound s) : Sound (State.modPb s n f) := by
  delta State.modPb
  repeat' first
    | with_reducible assumption | with_reducible refine Sound.ite ?_ (fun hx => ?_) | split
    | with_reducible refine Sound.lift ?_ rfl rfl rfl rfl rfl rfl rfl rfl rfl rfl rfl rfl rfl rfl rfl rfl rfl

theorem sound_pbaTrigger (s : State) (cause : Nat) (hs : Sound s) : Sound (pbaTrigger s cause) := by
  delta pbaTrigger
  repeat' first
    | with_reducible assumption | split
    | with_reducible refine Sound.lift ?_ rfl rfl rfl rfl rfl rfl rfl rfl rfl rfl rfl rfl rfl rfl rfl rfl rfl

theorem sound_segNext (s : State) (b : Bool) (hs : Sound s) : Sound (segNext s b) := by
  delta segNext
  repeat' first
    | with_reducible assumption | (intro _)
    | (fail_if_no_progress extract_lets -merge -useContext +onlyGivenNames x)
    | with_reducible refine Sound.ite ?_ (fun hx => ?_) | (with_reducible first | apply sound_State_modSeg) | split

theorem sound_orderWrite (s : State) (n code value : Nat) (hs : Sound s) : Sound (orderWrite s n code value) := by
  delta orderWrite
  repeat' first
    | with_reducible assumption | (intro _) | with_reducible refine Sound.ite ?_ (fun hx => ?_)
    | (with_reducible first | apply sound_State_modSeg | apply sound_segNext)

theorem sound_setVout (s : State) (n mv : Nat) (hs : Sound s) : Sound (setVout s n mv) := by
  delta setVout
  repeat' first
    | with_reducible assumption | (with_reducible first | apply sound_orderWrite)

theorem sound_setOp (s : State) (n : Nat) (on : Bool) (hs : Sound s) : Sound (setOp s n on) := by
  delta setOp
  repeat' first
    | with_reducible assumption | with_reducible refine Sound.ite ?_ (fun hx => ?_)
    | (with_reducible first | apply sound_orderWrite)

theorem sound_setCc (s : State) (n : Nat) (pps : Option Nat) (hs : Sound s) : Sound (setCc s n pps) := by
  delta setCc
  repeat' first
    | with_reducible assumption | (intro _) | with_reducible refine Sound.ite ?_ (fun hx => ?_)
    | (with_reducible first | apply sound_State_modConv | apply sound_orderWrite) | split

theorem sound_setSlew (s : State) (n : Nat) (hs : Sound s) : Sound (setSlew s n) := by
  delta setSlew
  repeat' first
    | with_reducible assumption | with_reducible refine Sound.ite ?_ (fun hx => ?_)
    | (with_reducible first | apply sound_slew | apply sound_orderWrite)

theorem sound_dropContract (s : State) (n : Nat) (hs : Sound s) : Sound (dropContract s n) := by
  delta dropContract
  repeat' first
    | with_reducible assumption | (intro _) | (with_reducible first | apply sound_State_modPde | apply sound_setCc)

theorem sound_relimit (s : State) (n : Nat) (hs : Sound s) : Sound (relimit s n) := by
  delta relimit
  repeat' first
    | with_reducible assumption | (intro _) | (with_reducible first | apply sound_State_modPpc)

theorem sound_applyLimit (s : State) (n : Nat) (hs : Sound s) : Sound (applyLimit s n) := by
  delta applyLimit
  repeat' first
    | with_reducible assumption | (intro _)
    | (fail_if_no_progress extract_lets -merge -useContext +onlyGivenNames x)
    | (with_reducible first | apply sound_State_modPpc | apply sound_relimit)

theorem sound_powerEvent (s : State) (n k code : Nat) (old : Ppc) (cool : Nat) (hs : Sound s) : Sound (powerEvent s n k code old cool) := by
  delta powerEvent
  repeat' first
    | with_reducible assumption
    | (fail_if_no_progress extract_lets -merge -useContext +onlyGivenNames x)
    | with_reducible refine Sound.ite ?_ (fun hx => ?_)
    | (with_reducible first | apply sound_raisePort | apply sound_raiseUp)

theorem sound_State_modPx (s : State) (l : Loc) (f : Proxy → Proxy) (hs : Sound s) : Sound (State.modPx s l f) := by
  delta State.modPx
  repeat' first
    | with_reducible assumption | (intro _)
    | (with_reducible first | apply sound_State_modPort | apply sound_State_modVPort) | split

theorem sound_State_modId (s : State) (l : Loc) (f : Ident → Ident) (hs : Sound s) : Sound (State.modId s l f) := by
  delta State.modId
  repeat' first
    | with_reducible assumption | (intro _)
    | (with_reducible first | apply sound_State_modPort | apply sound_State_modVPort) | split

theorem sound_State_modView (s : State) (u : Up) (n : Nat) (f : PortView → PortView) (hs : Sound s) : Sound (State.modView s u n f) := by
  delta State.modView
  repeat' first
    | with_reducible assumption | (intro _) | with_reducible refine Sound.ite ?_ (fun hx => ?_)
    | (with_reducible first | apply sound_State_modUp)

theorem sound_State_modSsView (s : State) (u : Up) (n : Nat) (f : SsView → SsView) (hs : Sound s) : Sound (State.modSsView s u n f) := by
  delta State.modSsView
  repeat' first
    | with_reducible assumption | (intro _) | with_reducible refine Sound.ite ?_ (fun hx => ?_)
    | (with_reducible first | apply sound_State_modUp)

theorem sound_syncConn (s : State) (u : Up) (n : Nat) (hs : Sound s) : Sound (syncConn s u n) := by
  delta syncConn
  repeat' first
    | with_reducible assumption | (intro _)
    | (fail_if_no_progress extract_lets -merge -useContext +onlyGivenNames x)
    | with_reducible refine Sound.ite ?_ (fun hx => ?_) | (with_reducible first | apply sound_State_modView)

theorem sound_syncPort (s : State) (p : Nat) (hs : Sound s) : Sound (syncPort s p) := by
  delta syncPort
  repeat' first
    | with_reducible assumption | (with_reducible first | apply sound_syncConn)

theorem sound_syncSs (s : State) (u : Up) (n : Nat) (hs : Sound s) : Sound (syncSs s u n) := by
  delta syncSs
  repeat' first
    | with_reducible assumption | (intro _)
    | (fail_if_no_progress extract_lets -merge -useContext +onlyGivenNames x)
    | with_reducible refine Sound.ite ?_ (fun hx => ?_) | (with_reducible first | apply sound_State_modSsView)

theorem sound_syncSsPort (s : State) (p : Nat) (hs : Sound s) : Sound (syncSsPort s p) := by
  delta syncSsPort
  repeat' first
    | with_reducible assumption | with_reducible refine Sound.ite ?_ (fun hx => ?_)
    | (with_reducible first | apply sound_syncSs)

theorem sound_setChange (s : State) (p : Nat) (f : PortView → PortView) (hs : Sound s) : Sound (setChange s p f) := by
  delta setChange
  repeat' first
    | with_reducible assumption | (with_reducible first | apply sound_State_modView) | split

theorem sound_settleWire (s : State) (p : Nat) (hs : Sound s) : Sound (settleWire s p) := by
  delta settleWire
  repeat' first
    | with_reducible assumption
    | (fail_if_no_progress extract_lets -merge -useContext +onlyGivenNames x)
    | with_reducible refine Sound.ite ?_ (fun hx => ?_) | split
    | with_reducible refine Sound.lift ?_ rfl rfl rfl rfl rfl rfl rfl rfl rfl rfl rfl rfl rfl rfl rfl rfl rfl

theorem sound_resumeEvent (s : State) (p : Nat) (r : Resume) (code : Nat) (hs : Sound s) : Sound (resumeEvent s p r code) := by
  delta resumeEvent
  repeat' first
    | with_reducible assumption | (with_reducible first | apply sound_raiseAt)

theorem sound_abandonResume (s : State) (p : Nat) (hs : Sound s) : Sound (abandonResume s p) := by
  delta abandonResume
  repeat' first
    | with_reducible assumption | (intro _)
    | (with_reducible first | apply sound_State_modPort | apply sound_resumeEvent) | split

theorem sound_ownerEvent (s : State) (p code : Nat) (old : Owner) (cause discarded : Nat) (hs : Sound s) : Sound (ownerEvent s p code old cause discarded) := by
  delta ownerEvent
  repeat' first
    | with_reducible assumption
    | (fail_if_no_progress extract_lets -merge -useContext +onlyGivenNames x)
    | with_reducible refine Sound.ite ?_ (fun hx => ?_) | (with_reducible first | apply sound_raisePort)

theorem sound_recharge (s : State) (p : Nat) (hs : Sound s) : Sound (recharge s p) := by
  delta recharge
  repeat' first
    | with_reducible assumption | (intro _)
    | (fail_if_no_progress extract_lets -merge -useContext +onlyGivenNames x)
    | (with_reducible first | apply sound_State_modPort) | split

theorem sound_State_modTun (s : State) (l : Loc) (f : Tunnel → Tunnel) (hs : Sound s) : Sound (State.modTun s l f) := by
  delta State.modTun
  repeat' first
    | with_reducible assumption | (intro _)
    | (with_reducible first | apply sound_State_modPort | apply sound_State_modVPort) | split

theorem sound_sendTun (s : State) (l : Loc) (top ep : Nat) (payload : List Byte) (keep : Bool) (hs : Sound s) : Sound (sendTun s l top ep payload keep) := by
  delta sendTun
  repeat' first
    | with_reducible assumption | (intro _)
    | ((fail_if_no_progress extract_lets -merge -useContext +onlyGivenNames x); (first | (refine Sound.step (x := x) ?_ (fun hx => ?_); on_goal 1 => subst x) | skip))
    | with_reducible refine Sound.ite ?_ (fun hx => ?_)
    | (with_reducible first | apply sound_sendTo | apply sound_State_modTun)

theorem sound_ackTun (s : State) (l : Loc) (ep : Nat) (seq : BitVec 16) (hs : Sound s) : Sound (ackTun s l ep seq) := by
  delta ackTun
  repeat' first
    | with_reducible assumption
    | (fail_if_no_progress extract_lets -merge -useContext +onlyGivenNames x)
    | with_reducible refine Sound.ite ?_ (fun hx => ?_) | (with_reducible first | apply sound_sendTo)

theorem sound_freeVPort (s : State) (u : Up) (n : Nat) (hs : Sound s) : Sound (freeVPort s u n) := by
  delta freeVPort
  repeat' first
    | with_reducible assumption | (intro _)
    | ((fail_if_no_progress extract_lets -merge -useContext +onlyGivenNames x); (first | (refine Sound.step (x := x) ?_ (fun hx => ?_); on_goal 1 => subst x) | skip))
    | with_reducible refine Sound.ite ?_ (fun hx => ?_)
    | (with_reducible first | apply sound_State_modVPort | apply sound_raiseUp | apply sound_syncConn)

theorem sound_State_modSieve (s : State) (c : Nat) (f : SieveCh → SieveCh) (hs : Sound s) : Sound (s.modSieve c f) := by
  have h := hs.shape
  exact ⟨by simpa [Shape, modAt, State.modSieve] using h, hs.cells, hs.capture, hs.queueA, hs.queueB, hs.sideband, hs.forward, hs.journal, hs.buffer⟩

theorem sound_setSeal (s : State) (n : Nat) (ref : Option Nat) (buf : List Byte) (hs : Sound s) : Sound (setSeal s n ref buf) := by
  delta setSeal
  repeat' first
    | with_reducible assumption | (intro _) | (with_reducible first | apply sound_State_modPx)

theorem sound_rearm (s : State) (n : Nat) (hs : Sound s) : Sound (rearm s n) := by
  delta rearm
  repeat' first
    | with_reducible assumption | (intro _) | (with_reducible first | apply sound_State_modPx)

theorem sound_raiseSieve (s : State) (n code expected got : Nat) (hs : Sound s) : Sound (raiseSieve s n code expected got) := by
  delta raiseSieve
  repeat' first
    | with_reducible assumption | (with_reducible first | apply sound_raise)

theorem sound_judgeSum (s : State) (n expected got : Nat) (equal : Bool) (hs : Sound s) : Sound (judgeSum s n expected got equal) := by
  delta judgeSum
  repeat' first
    | with_reducible assumption | (intro _)
    | ((fail_if_no_progress extract_lets -merge -useContext +onlyGivenNames x); (refine Sound.step (x := x) ?_ (fun hx => ?_); on_goal 1 => subst x))
    | with_reducible refine Sound.ite ?_ (fun hx => ?_)
    | (with_reducible first | apply sound_State_modSieve | apply sound_raiseSieve)

theorem sound_aliveValue (s : State) (n : Nat) (ref : Option Nat) (v : Nat) (hs : Sound s) : Sound (aliveValue s n ref v) := by
  delta aliveValue
  repeat' first
    | with_reducible assumption | (intro _)
    | ((fail_if_no_progress extract_lets -merge -useContext +onlyGivenNames x); (first | (refine Sound.step (x := x) ?_ (fun hx => ?_); on_goal 1 => subst x) | skip))
    | with_reducible refine Sound.ite ?_ (fun hx => ?_)
    | (with_reducible first | apply sound_State_modSieve | apply sound_raiseSieve) | split

theorem sound_sealUnit (s : State) (n : Nat) (unit : List Byte) (hs : Sound s) : Sound (sealUnit s n unit).2 := by
  delta sealUnit
  repeat' first
    | with_reducible assumption
    | ((fail_if_no_progress extract_lets -merge -useContext +onlyGivenNames x); (first | (refine Sound.step (x := x) ?_ (fun hx => ?_); on_goal 1 => subst x) | skip))
    | with_reducible refine Sound.ite ?_ (fun hx => ?_)
    | (with_reducible first | apply sound_setSeal | apply sound_judgeSum | apply sound_aliveValue) | split

theorem sound_sealSees (s : State) (n mps : Nat) (data : List Byte) (hs : Sound s) : Sound (sealSees s n mps data).2 := by
  delta sealSees
  repeat' first
    | with_reducible assumption
    | ((fail_if_no_progress extract_lets -merge -useContext +onlyGivenNames x); (first | (refine Sound.step (x := x) ?_ (fun hx => ?_); on_goal 1 => subst x) | (refine Sound.step (x := x.2) ?_ (fun hx => ?_); on_goal 1 => subst x) | skip))
    | with_reducible refine Sound.ite ?_ (fun hx => ?_)
    | (with_reducible first | apply sound_setSeal | apply sound_sealUnit) | split

theorem sound_sealPacket (s : State) (l : Loc) (ep mps : Nat) (data : List Byte) (hs : Sound s) : Sound (sealPacket s l ep mps data).2 := by
  delta sealPacket
  repeat' first
    | with_reducible assumption | (intro _)
    | ((fail_if_no_progress extract_lets -merge -useContext +onlyGivenNames x); (first | (refine Sound.step (x := x.2) ?_ (fun hx => ?_); on_goal 1 => subst x) | skip))
    | with_reducible refine Sound.ite ?_ (fun hx => ?_)
    | (with_reducible first | apply sound_sealSees | apply Sound.fold | apply Sound.foldP) | split

theorem sound_countSealed (s : State) (l : Loc) (bytes : Nat) (hs : Sound s) : Sound (countSealed s l bytes) := by
  delta countSealed
  repeat' first
    | with_reducible assumption | (intro _) | (with_reducible first | apply sound_State_modPort) | split

theorem sound_sieveTake (s : State) (n : Nat) (bs : List Byte) (hs : Sound s) : Sound (sieveTake s n bs) := by
  delta sieveTake
  repeat' first
    | with_reducible assumption | (intro _)
    | (fail_if_no_progress extract_lets -merge -useContext +onlyGivenNames x)
    | with_reducible refine Sound.ite ?_ (fun hx => ?_)
    | (with_reducible first | apply sound_State_modSieve | apply sound_aliveValue | apply Sound.fold)

theorem sound_sieveEnd (s : State) (n : Nat) (hs : Sound s) : Sound (sieveEnd s n).2 := by
  delta sieveEnd
  repeat' first
    | with_reducible assumption | (intro _)
    | (fail_if_no_progress extract_lets -merge -useContext +onlyGivenNames x)
    | (with_reducible first | apply sound_State_modSieve | apply sound_judgeSum)

theorem sound_startWireReset (s : State) (p : Nat) (hs : Sound s) : Sound (startWireReset s p) := by
  delta startWireReset
  repeat' first
    | with_reducible assumption | (intro _) | with_reducible refine Sound.ite ?_ (fun hx => ?_)
    | (with_reducible first | apply sound_State_modPort | apply sound_abandonResume)

theorem sound_startFill (s : State) (p : Nat) (hs : Sound s) : Sound (startFill s p) := by
  delta startFill
  repeat' first
    | with_reducible assumption | (intro _)
    | (with_reducible first | apply sound_State_modPort | apply sound_startWireReset)

theorem sound_setLife (s : State) (l : Loc) (st : Life) (hs : Sound s) : Sound (setLife s l st) := by
  delta setLife
  repeat' first
    | with_reducible assumption | (intro _)
    | (with_reducible first | apply sound_State_modPort | apply sound_State_modVPort) | split

theorem sound_startRefill (s : State) (p : Nat) (real : Bool) (wait : Nat) (hs : Sound s) : Sound (startRefill s p real wait) := by
  delta startRefill
  repeat' first
    | with_reducible assumption | (intro _)
    | (with_reducible first | apply sound_State_modPort | apply sound_startWireReset)

theorem sound_startResume (s : State) (p left : Nat) (host follows : Bool) (delta : Option Int) (hs : Sound s) : Sound (startResume s p left host follows delta) := by
  delta startResume
  repeat' first
    | with_reducible assumption | (intro _)
    | (fail_if_no_progress extract_lets -merge -useContext +onlyGivenNames x)
    | with_reducible refine Sound.ite ?_ (fun hx => ?_)
    | (with_reducible first | apply sound_State_modPort | apply sound_State_drawn)

theorem sound_mergeResume (s : State) (p : Nat) (host follows : Bool) (hs : Sound s) : Sound (mergeResume s p host follows) := by
  delta mergeResume
  repeat' first
    | with_reducible assumption | (intro _) | with_reducible refine Sound.ite ?_ (fun hx => ?_)
    | (with_reducible first | apply sound_State_modPort)

theorem sound_endResume (s : State) (p : Nat) (hs : Sound s) : Sound (endResume s p) := by
  delta endResume
  repeat' first
    | with_reducible assumption | (intro _)
    | ((fail_if_no_progress extract_lets -merge -useContext +onlyGivenNames x); (first | (refine Sound.step (x := x) ?_ (fun hx => ?_); on_goal 1 => subst x) | skip))
    | with_reducible refine Sound.ite ?_ (fun hx => ?_)
    | (with_reducible first | apply sound_State_modPort | apply sound_setChange | apply sound_settleWire | apply sound_resumeEvent | apply sound_sendTun)
    | split

theorem sound_unfollow (s : State) (p : Nat) (hs : Sound s) : Sound (unfollow s p) := by
  delta unfollow
  repeat' first
    | with_reducible assumption | (intro _) | with_reducible refine Sound.ite ?_ (fun hx => ?_)
    | (with_reducible first | apply sound_State_modPort | apply sound_endResume) | split

theorem sound_markSusp (s : State) (p : Nat) (hs : Sound s) : Sound (markSusp s p) := by
  delta markSusp
  repeat' first
    | with_reducible assumption | (intro _)
    | (fail_if_no_progress extract_lets -merge -useContext +onlyGivenNames x)
    | (with_reducible first | apply sound_State_modPort)

theorem sound_driveUpK (s : State) (u : Up) (p : Nat) (hs : Sound s) : Sound (driveUpK s u p) := by
  delta driveUpK
  repeat' first
    | with_reducible assumption | (intro _)
    | (fail_if_no_progress extract_lets -merge -useContext +onlyGivenNames x)
    | with_reducible refine Sound.ite ?_ (fun hx => ?_)
    | (with_reducible first | apply sound_State_modUp | apply sound_raiseUp)

theorem sound_linkTrains (s : State) (n : Nat) (st : Link) (hs : Sound s) : Sound (linkTrains s n st) := by
  delta linkTrains
  repeat' first
    | with_reducible assumption | (with_reducible first | apply sound_trainPhy) | split

theorem sound_setUpLink (s : State) (u : Up) (st : Link) (byHost : Bool) (hs : Sound s) : Sound (setUpLink s u st byHost) := by
  delta setUpLink
  repeat' first
    | with_reducible assumption | (intro _)
    | (fail_if_no_progress extract_lets -merge -useContext +onlyGivenNames x)
    | with_reducible refine Sound.ite ?_ (fun hx => ?_)
    | (with_reducible first | apply sound_State_modUp | apply sound_raiseUp | apply sound_linkTrains)

theorem sound_ssHubWake (s : State) (p cause : Nat) (hs : Sound s) : Sound (ssHubWake s p cause) := by
  delta ssHubWake
  repeat' first
    | with_reducible assumption
    | (fail_if_no_progress extract_lets -merge -useContext +onlyGivenNames x)
    | with_reducible refine Sound.ite ?_ (fun hx => ?_) | (with_reducible first | apply sound_setUpLink) | split

theorem sound_setLink (s : State) (p : Nat) (st : Link) (byHost : Bool) (hs : Sound s) : Sound (setLink s p st byHost) := by
  delta setLink
  repeat' first
    | with_reducible assumption | (intro _)
    | ((fail_if_no_progress extract_lets -merge -useContext +onlyGivenNames x); (first | (refine Sound.step (x := x) ?_ (fun hx => ?_); on_goal 1 => subst x) | skip))
    | with_reducible refine Sound.ite ?_ (fun hx => ?_)
    | (with_reducible first | apply sound_State_modSpe | apply sound_raise | apply sound_State_modSsView | apply sound_syncSsPort | apply sound_linkTrains | apply sound_ssHubWake)
    | split

theorem sound_setEff (s : State) (p : Nat) (eff : Mode) (hs : Sound s) : Sound (setEff s p eff) := by
  delta setEff
  repeat' first
    | with_reducible assumption | (intro _)
    | ((fail_if_no_progress extract_lets -merge -useContext +onlyGivenNames x); (refine Sound.step (x := x) ?_ (fun hx => ?_); on_goal 1 => subst x))
    | with_reducible refine Sound.ite ?_ (fun hx => ?_)
    | (with_reducible first | apply sound_State_modPort | apply sound_setLink)

theorem sound_vacate (s : State) (p : Nat) (hs : Sound s) : Sound (vacate s p) := by
  delta vacate
  repeat' first
    | with_reducible assumption | (intro _) | (with_reducible first | apply sound_State_modPort | apply sound_setEff)

theorem sound_setLinkN (s : State) (n : Nat) (st : Link) (byHost : Bool) (hs : Sound s) : Sound (setLinkN s n st byHost) := by
  delta setLinkN
  repeat' first
    | with_reducible assumption | with_reducible refine Sound.ite ?_ (fun hx => ?_)
    | (with_reducible first | apply sound_setUpLink | apply sound_setLink)

theorem sound_ownerChanged (s : State) (p : Nat) (hs : Sound s) : Sound (ownerChanged s p) := by
  delta ownerChanged
  repeat' first
    | with_reducible assumption
    | (with_reducible first | apply sound_syncPort | apply sound_syncSsPort | apply sound_recharge | apply sound_unfollow | apply sound_markSusp)

theorem sound_park (s : State) (p cause : Nat) (disc : Nat) (dst : Option Up) (hs : Sound s) : Sound (park s p cause disc dst) := by
  delta park
  repeat' first
    | with_reducible assumption | (intro _)
    | ((fail_if_no_progress extract_lets -merge -useContext +onlyGivenNames x); (first | (refine Sound.step (x := x) ?_ (fun hx => ?_); on_goal 1 => subst x) | skip))
    | with_reducible refine Sound.ite ?_ (fun hx => ?_)
    | (with_reducible first | apply sound_State_modPort | apply sound_ownerEvent | apply sound_ownerChanged)

theorem sound_presentTo (s : State) (p : Nat) (u : Up) (code : Nat) (disc : Nat) (hs : Sound s) : Sound (presentTo s p u code disc) := by
  delta presentTo
  repeat' first
    | with_reducible assumption | (intro _)
    | ((fail_if_no_progress extract_lets -merge -useContext +onlyGivenNames x); (first | (refine Sound.step (x := x) ?_ (fun hx => ?_); on_goal 1 => subst x) | skip))
    | with_reducible refine Sound.ite ?_ (fun hx => ?_)
    | (with_reducible first | apply sound_State_modPort | apply sound_ownerEvent | apply sound_ownerChanged | apply sound_park)

theorem sound_unpark (s : State) (u : Up) (p : Nat) (hs : Sound s) : Sound (unpark s u p) := by
  delta unpark
  repeat' first
    | with_reducible assumption
    | (fail_if_no_progress extract_lets -merge -useContext +onlyGivenNames x)
    | with_reducible refine Sound.ite ?_ (fun hx => ?_) | (with_reducible first | apply sound_presentTo)

theorem sound_homeCheck (s : State) (p : Nat) (hs : Sound s) : Sound (homeCheck s p) := by
  delta homeCheck
  repeat' first
    | with_reducible assumption
    | (fail_if_no_progress extract_lets -merge -useContext +onlyGivenNames x)
    | with_reducible refine Sound.ite ?_ (fun hx => ?_)
    | (with_reducible first | apply sound_ownerChanged | apply sound_park) | split

theorem sound_endLend (s : State) (p code : Nat) (hs : Sound s) : Sound (endLend s p code) := by
  delta endLend
  repeat' first
    | with_reducible assumption | (intro _)
    | ((fail_if_no_progress extract_lets -merge -useContext +onlyGivenNames x); (first | (refine Sound.step (x := x) ?_ (fun hx => ?_); on_goal 1 => subst x) | skip))
    | with_reducible refine Sound.ite ?_ (fun hx => ?_)
    | (with_reducible first | apply sound_State_modPort | apply sound_finishWait | apply sound_ownerEvent | apply sound_homeCheck)

theorem sound_endOnDetach (s : State) (p : Nat) (hs : Sound s) : Sound (endOnDetach s p) := by
  delta endOnDetach
  repeat' first
    | with_reducible assumption | (intro _)
    | ((fail_if_no_progress extract_lets -merge -useContext +onlyGivenNames x); (first | (refine Sound.step (x := x) ?_ (fun hx => ?_); on_goal 1 => subst x) | skip))
    | with_reducible refine Sound.ite ?_ (fun hx => ?_)
    | (with_reducible first | apply sound_State_modPort | apply sound_finishWait | apply sound_ownerEvent | apply sound_sendTun)
    | split

theorem sound_loseDevice (s : State) (p : Nat) (st : Dpe) (hs : Sound s) : Sound (loseDevice s p st) := by
  delta loseDevice
  repeat' first
    | with_reducible assumption | (intro _)
    | ((fail_if_no_progress extract_lets -merge -useContext +onlyGivenNames x); (first | (refine Sound.step (x := x) ?_ (fun hx => ?_); on_goal 1 => subst x) | skip))
    | with_reducible refine Sound.ite ?_ (fun hx => ?_)
    | (with_reducible first | apply sound_State_modPort | apply sound_idle | apply sound_syncPort | apply sound_settleWire | apply sound_abandonResume | apply sound_recharge | apply sound_sendTun | apply sound_vacate | apply sound_endLend | apply sound_endOnDetach)

theorem sound_dpeUnpower (s : State) (p : Nat) (hs : Sound s) : Sound (dpeUnpower s p) := by
  delta dpeUnpower
  repeat' first
    | with_reducible assumption | (intro _)
    | ((fail_if_no_progress extract_lets -merge -useContext +onlyGivenNames x); (refine Sound.step (x := x) ?_ (fun hx => ?_); on_goal 1 => subst x))
    | with_reducible refine Sound.ite ?_ (fun hx => ?_)
    | (with_reducible first | apply sound_State_modSpe | apply sound_setLink | apply sound_loseDevice)

theorem sound_dpePower (s : State) (p : Nat) (hs : Sound s) : Sound (dpePower s p) := by
  delta dpePower
  repeat' first
    | with_reducible assumption | (intro _)
    | ((fail_if_no_progress extract_lets -merge -useContext +onlyGivenNames x); (refine Sound.step (x := x) ?_ (fun hx => ?_); on_goal 1 => subst x))
    | with_reducible refine Sound.ite ?_ (fun hx => ?_)
    | (with_reducible first | apply sound_State_modPort | apply sound_recharge | apply sound_setLink) | split

theorem sound_pdEventWith (s : State) (n code : Nat) (req : Option (Nat × Nat)) (cause : Nat) (hs : Sound s) : Sound (pdEventWith s n code req cause) := by
  delta pdEventWith
  repeat' first
    | with_reducible assumption | with_reducible refine Sound.ite ?_ (fun hx => ?_)
    | (with_reducible first | apply sound_raisePort | apply sound_raiseUp) | split

theorem sound_pdEvent (s : State) (n code : Nat) (cause : Nat) (hs : Sound s) : Sound (pdEvent s n code cause) := by
  delta pdEvent
  repeat' first
    | with_reducible assumption | (with_reducible first | apply sound_pdEventWith)

theorem sound_pdStop (s : State) (n : Nat) (hs : Sound s) : Sound (pdStop s n) := by
  delta pdStop
  repeat' first
    | with_reducible assumption | (intro _)
    | ((fail_if_no_progress extract_lets -merge -useContext +onlyGivenNames x); (first | (refine Sound.step (x := x) ?_ (fun hx => ?_); on_goal 1 => subst x) | skip))
    | with_reducible refine Sound.ite ?_ (fun hx => ?_)
    | (with_reducible first | apply sound_State_modPde | apply sound_pbaTrigger | apply sound_dropContract)

theorem sound_pdForget (s : State) (n : Nat) (hs : Sound s) : Sound (pdForget s n) := by
  delta pdForget
  repeat' first
    | with_reducible assumption | (intro _)
    | (with_reducible first | apply sound_State_modPde | apply sound_State_modPb)

theorem sound_enterCheck (s : State) (n : Nat) (hs : Sound s) : Sound (enterCheck s n) := by
  delta enterCheck
  repeat' first
    | with_reducible assumption | (intro _)
    | ((fail_if_no_progress extract_lets -merge -useContext +onlyGivenNames x); (refine Sound.step (x := x) ?_ (fun hx => ?_); on_goal 1 => subst x))
    | (with_reducible first | apply sound_State_modPpc | apply sound_setVout | apply sound_setOp | apply sound_applyLimit)

theorem sound_tryOn (s : State) (n : Nat) (hs : Sound s) : Sound (tryOn s n) := by
  delta tryOn
  repeat' first
    | with_reducible assumption | with_reducible refine Sound.ite ?_ (fun hx => ?_)
    | (with_reducible first | apply sound_enterCheck) | split

theorem sound_vbusOn (s : State) (n : Nat) (hs : Sound s) : Sound (vbusOn s n) := by
  delta vbusOn
  repeat' first
    | with_reducible assumption | (intro _) | (with_reducible first | apply sound_State_modPpc | apply sound_tryOn)

theorem sound_linkDown (s : State) (n : Nat) (hs : Sound s) : Sound (linkDown s n) := by
  delta linkDown
  repeat' first
    | with_reducible assumption | with_reducible refine Sound.ite ?_ (fun hx => ?_)
    | (with_reducible first | apply sound_dpeUnpower)

theorem sound_idleConverter (s : State) (n : Nat) (hs : Sound s) : Sound (idleConverter s n) := by
  delta idleConverter
  repeat' first
    | with_reducible assumption | (with_reducible first | apply sound_setVout | apply sound_setOp)

theorem sound_vbusOff (s : State) (n : Nat) (hs : Sound s) : Sound (vbusOff s n) := by
  delta vbusOff
  repeat' first
    | with_reducible assumption | (intro _)
    | ((fail_if_no_progress extract_lets -merge -useContext +onlyGivenNames x); (refine Sound.step (x := x) ?_ (fun hx => ?_); on_goal 1 => subst x))
    | (with_reducible first | apply sound_State_modPde | apply sound_State_modPpc | apply sound_setVout | apply sound_linkDown | apply sound_idleConverter)
    | split

theorem sound_vconnOn (s : State) (n : Nat) (hs : Sound s) : Sound (vconnOn s n) := by
  delta vconnOn
  repeat' first
    | with_reducible assumption | (intro _)
    | (fail_if_no_progress extract_lets -merge -useContext +onlyGivenNames x)
    | with_reducible refine Sound.ite ?_ (fun hx => ?_) | (with_reducible first | apply sound_State_modPde)

theorem sound_attachSource (s : State) (n : Nat) (hs : Sound s) : Sound (attachSource s n) := by
  delta attachSource
  repeat' first
    | with_reducible assumption | (intro _)
    | ((fail_if_no_progress extract_lets -merge -useContext +onlyGivenNames x); (refine Sound.step (x := x) ?_ (fun hx => ?_); on_goal 1 => subst x))
    | with_reducible refine Sound.ite ?_ (fun hx => ?_)
    | (with_reducible first | apply sound_State_modPde | apply sound_vbusOn | apply sound_vconnOn)

theorem sound_powerOff (s : State) (n : Nat) (hs : Sound s) : Sound (powerOff s n) := by
  delta powerOff
  repeat' first
    | with_reducible assumption | (intro _)
    | ((fail_if_no_progress extract_lets -merge -useContext +onlyGivenNames x); (refine Sound.step (x := x) ?_ (fun hx => ?_); on_goal 1 => subst x))
    | with_reducible refine Sound.ite ?_ (fun hx => ?_)
    | (with_reducible first | apply sound_State_modPde | apply sound_pdStop | apply sound_vbusOff) | split

theorem sound_powerOn (s : State) (n : Nat) (hs : Sound s) : Sound (powerOn s n) := by
  delta powerOn
  repeat' first
    | with_reducible assumption | with_reducible refine Sound.ite ?_ (fun hx => ?_)
    | (with_reducible first | apply sound_tryOn | apply sound_vbusOn | apply sound_attachSource | apply sound_powerOff)
    | split

theorem sound_overCurrent (s : State) (p : Nat) (hs : Sound s) : Sound (overCurrent s p) := by
  delta overCurrent
  repeat' first
    | with_reducible assumption | (intro _)
    | ((fail_if_no_progress extract_lets -merge -useContext +onlyGivenNames x); (refine Sound.step (x := x) ?_ (fun hx => ?_); on_goal 1 => subst x))
    | with_reducible refine Sound.ite ?_ (fun hx => ?_)
    | (with_reducible first | apply sound_State_modView | apply sound_State_modSsView | apply sound_driveUpK | apply sound_ssHubWake)
    | split

theorem sound_trip (s : State) (n k code : Nat) (hs : Sound s) : Sound (trip s n k code) := by
  delta trip
  repeat' first
    | with_reducible assumption | (intro _)
    | ((fail_if_no_progress extract_lets -merge -useContext +onlyGivenNames x); (first | (refine Sound.step (x := x) ?_ (fun hx => ?_); on_goal 1 => subst x) | skip))
    | with_reducible refine Sound.ite ?_ (fun hx => ?_)
    | (with_reducible first | apply sound_State_modPde | apply sound_State_modPpc | apply sound_powerEvent | apply sound_syncPort | apply sound_pdStop | apply sound_linkDown | apply sound_overCurrent)

theorem sound_clearedChange (s : State) (p : Nat) (auto : Bool) (hs : Sound s) : Sound (clearedChange s p auto) := by
  delta clearedChange
  repeat' first
    | with_reducible assumption | (intro _)
    | ((fail_if_no_progress extract_lets -merge -useContext +onlyGivenNames x); (refine Sound.step (x := x) ?_ (fun hx => ?_); on_goal 1 => subst x))
    | with_reducible refine Sound.ite ?_ (fun hx => ?_)
    | (with_reducible first | apply sound_State_modView | apply sound_State_modSsView | apply sound_ssHubWake) | split

theorem sound_clearTrip (s : State) (n : Nat) (hs : Sound s) : Sound (clearTrip s n) := by
  delta clearTrip
  repeat' first
    | with_reducible assumption | (intro _)
    | ((fail_if_no_progress extract_lets -merge -useContext +onlyGivenNames x); (first | (refine Sound.step (x := x) ?_ (fun hx => ?_); on_goal 1 => subst x) | skip))
    | with_reducible refine Sound.ite ?_ (fun hx => ?_)
    | (with_reducible first | apply sound_State_modPpc | apply sound_pbaTrigger | apply sound_powerEvent | apply sound_syncPort | apply sound_tryOn | apply sound_vbusOn | apply sound_idleConverter | apply sound_vconnOn | apply sound_attachSource | apply sound_clearedChange)
    | split

theorem sound_clearHappening (s : State) (n : Nat) (hs : Sound s) : Sound (clearHappening s n) := by
  delta clearHappening
  repeat' first
    | with_reducible assumption | (intro _)
    | (fail_if_no_progress extract_lets -merge -useContext +onlyGivenNames x)
    | with_reducible refine Sound.ite ?_ (fun hx => ?_)
    | (with_reducible first | apply sound_State_modPpc | apply sound_clearTrip)

end Sys2Proof.Machine
end

