-- ==== Sys2Proof/Laws/SoundOps2.lean ====
section
/-!
SUPPORT. Laws/SoundOps2.lean: the operations keep a state that holds together, part 2 of 8, in the order of the
model's files.
-/

namespace Sys2Proof.Machine

theorem sound_ppcRequest (s : State) (p : Nat) (on : Bool) (hs : Sound s) : Sound (ppcRequest s p on) := by
  delta ppcRequest
  repeat' first
    | with_reducible assumption
    | ((fail_if_no_progress extract_lets -merge -useContext +onlyGivenNames x); (refine Sound.step (x := x) ?_ (fun hx => ?_); on_goal 1 => subst x))
    | with_reducible refine Sound.ite ?_ (fun hx => ?_)
    | (with_reducible first | apply sound_pbaTrigger | apply sound_powerOff | apply sound_powerOn | apply sound_clearHappening)

theorem sound_budgetEvent (s : State) (cause : Nat) (hs : Sound s) : Sound (budgetEvent s cause) := by
  delta budgetEvent
  repeat' first
    | with_reducible assumption | (with_reducible first | apply sound_raise)

theorem sound_shortfallEvent (s : State) (port reason : Nat) (hs : Sound s) : Sound (shortfallEvent s port reason) := by
  delta shortfallEvent
  repeat' first
    | with_reducible assumption | with_reducible refine Sound.ite ?_ (fun hx => ?_)
    | (with_reducible first | apply sound_raise)

theorem sound_setBudget (s : State) (cause : Nat) (hs : Sound s) : Sound (setBudget s cause) := by
  delta setBudget
  repeat' first
    | with_reducible assumption
    | ((fail_if_no_progress extract_lets -merge -useContext +onlyGivenNames x); (first | (refine Sound.step (x := x) ?_ (fun hx => ?_); on_goal 1 => subst x) | skip))
    | with_reducible refine Sound.ite ?_ (fun hx => ?_) | (with_reducible first | apply sound_budgetEvent) | split
    | with_reducible refine Sound.lift ?_ rfl rfl rfl rfl rfl rfl rfl rfl rfl rfl rfl rfl rfl rfl rfl rfl rfl

theorem sound_releaseIncreases (f : State → Nat → Nat → State) (hf : ∀ s n m, Sound s → Sound (f s n m)) :
    ∀ (l : List Nat) (s : State), Sound s → Sound (releaseIncreases f l s) := by
  intro l; induction l with
  | nil => exact fun _ h => h
  | cons n l ih =>
    intro s hs
    unfold releaseIncreases
    repeat' first
      | with_reducible assumption | (intro _)
      | (fail_if_no_progress extract_lets -merge -useContext +onlyGivenNames x)
      | with_reducible refine Sound.ite ?_ (fun hx => ?_)
      | (with_reducible first | apply ih | apply hf | apply sound_State_modPb)

theorem sound_startTimer (s : State) (n : Nat) (t : PdTimer) (hs : Sound s) : Sound (startTimer s n t) := by
  delta startTimer
  repeat' first
    | with_reducible assumption | (intro _) | (with_reducible first | apply sound_State_modPde)

theorem sound_stopTimer (s : State) (n : Nat) (t : PdTimer) (hs : Sound s) : Sound (stopTimer s n t) := by
  delta stopTimer
  repeat' first
    | with_reducible assumption | (intro _) | (with_reducible first | apply sound_State_modPde)

theorem sound_send (s : State) (n : Nat) (m : PdMsg) (hs : Sound s) : Sound (send s n m) := by
  delta send
  repeat' first
    | with_reducible assumption | (intro _) | (with_reducible first | apply sound_State_modPde)

theorem sound_sendNext (s : State) (n : Nat) (hs : Sound s) : Sound (sendNext s n) := by
  delta sendNext
  repeat' first
    | with_reducible assumption | (intro _) | (with_reducible first | apply sound_State_modPde)

theorem sound_unsupported (s : State) (n : Nat) (hs : Sound s) : Sound (unsupported s n) := by
  delta unsupported
  repeat' first
    | with_reducible assumption | with_reducible refine Sound.ite ?_ (fun hx => ?_)
    | (with_reducible first | apply sound_send)

theorem sound_swapFails (s : State) (n : Nat) (cause : Nat) (hs : Sound s) : Sound (swapFails s n cause) := by
  delta swapFails
  repeat' first
    | with_reducible assumption | (intro _)
    | ((fail_if_no_progress extract_lets -merge -useContext +onlyGivenNames x); (first | (refine Sound.step (x := x) ?_ (fun hx => ?_); on_goal 1 => subst x) | skip))
    | with_reducible refine Sound.ite ?_ (fun hx => ?_)
    | (with_reducible first | apply sound_State_modPde | apply sound_State_modPpc | apply sound_pdEvent | apply sound_pdStop | apply sound_vbusOff)
    | split

theorem sound_hardReset (s : State) (n : Nat) (hs : Sound s) : Sound (hardReset s n) := by
  delta hardReset
  repeat' first
    | with_reducible assumption | (intro _)
    | ((fail_if_no_progress extract_lets -merge -useContext +onlyGivenNames x); (first | (refine Sound.step (x := x) ?_ (fun hx => ?_); on_goal 1 => subst x) | skip))
    | with_reducible refine Sound.ite ?_ (fun hx => ?_)
    | (with_reducible first | apply sound_State_modPde | apply sound_pbaTrigger | apply sound_dropContract | apply sound_startTimer)

theorem sound_giveUp (s : State) (n : Nat) (hs : Sound s) : Sound (giveUp s n) := by
  delta giveUp
  repeat' first
    | with_reducible assumption | (intro _)
    | ((fail_if_no_progress extract_lets -merge -useContext +onlyGivenNames x); (refine Sound.step (x := x) ?_ (fun hx => ?_); on_goal 1 => subst x))
    | with_reducible refine Sound.ite ?_ (fun hx => ?_)
    | (with_reducible first | apply sound_State_modPde | apply sound_State_modPpc | apply sound_pdEvent | apply sound_pdStop | apply sound_vbusOn | apply sound_vbusOff)

theorem sound_sendHardReset (s : State) (n : Nat) (cause : Nat) (hs : Sound s) : Sound (sendHardReset s n cause) := by
  delta sendHardReset
  repeat' first
    | with_reducible assumption | (intro _)
    | ((fail_if_no_progress extract_lets -merge -useContext +onlyGivenNames x); (refine Sound.step (x := x) ?_ (fun hx => ?_); on_goal 1 => subst x))
    | with_reducible refine Sound.ite ?_ (fun hx => ?_)
    | (with_reducible first | apply sound_State_modPde | apply sound_pdEvent | apply sound_startTimer | apply sound_swapFails | apply sound_hardReset | apply sound_giveUp)
    | split

theorem sound_sendSoftReset (s : State) (n : Nat) (hs : Sound s) : Sound (sendSoftReset s n) := by
  delta sendSoftReset
  repeat' first
    | with_reducible assumption | (intro _)
    | ((fail_if_no_progress extract_lets -merge -useContext +onlyGivenNames x); (refine Sound.step (x := x) ?_ (fun hx => ?_); on_goal 1 => subst x))
    | (with_reducible first | apply sound_State_modPde | apply sound_pdEvent | apply sound_send)

theorem sound_protocolError (s : State) (n : Nat) (hs : Sound s) : Sound (protocolError s n) := by
  delta protocolError
  repeat' first
    | with_reducible assumption
    | (fail_if_no_progress extract_lets -merge -useContext +onlyGivenNames x)
    | with_reducible refine Sound.ite ?_ (fun hx => ?_)
    | (with_reducible first | apply sound_sendHardReset | apply sound_sendSoftReset) | split

theorem sound_sendCaps (s : State) (n : Nat) (hs : Sound s) : Sound (sendCaps s n) := by
  delta sendCaps
  repeat' first
    | with_reducible assumption | (intro _)
    | ((fail_if_no_progress extract_lets -merge -useContext +onlyGivenNames x); (first | (refine Sound.step (x := x) ?_ (fun hx => ?_); on_goal 1 => subst x) | skip))
    | (with_reducible first | apply sound_State_modPde | apply sound_send)

theorem sound_startup (s : State) (n : Nat) (hs : Sound s) : Sound (startup s n) := by
  delta startup
  repeat' first
    | with_reducible assumption | (intro _)
    | ((fail_if_no_progress extract_lets -merge -useContext +onlyGivenNames x); (first | (refine Sound.step (x := x) ?_ (fun hx => ?_); on_goal 1 => subst x) | skip))
    | with_reducible refine Sound.ite ?_ (fun hx => ?_)
    | (with_reducible first | apply sound_State_modPde | apply sound_sendCaps)

theorem sound_markCaps (s : State) (n : Nat) (hs : Sound s) : Sound (markCaps s n) := by
  delta markCaps
  repeat' first
    | with_reducible assumption | (intro _)
    | (fail_if_no_progress extract_lets -merge -useContext +onlyGivenNames x)
    | with_reducible refine Sound.ite ?_ (fun hx => ?_) | (with_reducible first | apply sound_State_modPde)

theorem sound_runOwn (s : State) (n : Nat) (hs : Sound s) : Sound (runOwn s n) := by
  delta runOwn
  repeat' first
    | with_reducible assumption | (intro _)
    | ((fail_if_no_progress extract_lets -merge -useContext +onlyGivenNames x); (first | (refine Sound.step (x := x) ?_ (fun hx => ?_); on_goal 1 => subst x) | skip))
    | with_reducible refine Sound.ite ?_ (fun hx => ?_)
    | (with_reducible first | apply sound_State_modPde | apply sound_send | apply sound_sendSoftReset | apply sound_sendCaps)
    | split

theorem sound_startOwn (s : State) (n : Nat) (hs : Sound s) : Sound (startOwn s n) := by
  delta startOwn
  repeat' first
    | with_reducible assumption | (intro _)
    | (fail_if_no_progress extract_lets -merge -useContext +onlyGivenNames x)
    | with_reducible refine Sound.ite ?_ (fun hx => ?_)
    | (with_reducible first | apply sound_State_modPde | apply sound_startTimer | apply sound_runOwn)

theorem sound_amsEnd (s : State) (n : Nat) (hs : Sound s) : Sound (amsEnd s n) := by
  delta amsEnd
  repeat' first
    | with_reducible assumption | (intro _)
    | ((fail_if_no_progress extract_lets -merge -useContext +onlyGivenNames x); (refine Sound.step (x := x) ?_ (fun hx => ?_); on_goal 1 => subst x))
    | with_reducible refine Sound.ite ?_ (fun hx => ?_)
    | (with_reducible first | apply sound_State_modPde | apply sound_pdEvent | apply sound_startOwn)

theorem sound_pdReceive (s : State) (h : PdHdr) (soft : Bool) (f : State → State) (hs : Sound s) (hf : ∀ x0, Sound x0 → Sound (f x0)) : Sound (pdReceive s h soft f) := by
  delta pdReceive
  repeat' first
    | with_reducible assumption | (intro _)
    | ((fail_if_no_progress extract_lets -merge -useContext +onlyGivenNames x); (first | (refine Sound.step (x := x) ?_ (fun hx => ?_); on_goal 1 => subst x) | skip))
    | with_reducible refine Sound.ite ?_ (fun hx => ?_)
    | (with_reducible first | apply sound_State_modPde | apply sound_stopTimer | apply hf)

theorem sound_asSource (s : State) (n : Nat) (f g : State → State) (hs : Sound s) (hf : ∀ x0, Sound x0 → Sound (f x0)) (hg : ∀ x0, Sound x0 → Sound (g x0)) : Sound (asSource s n f g) := by
  delta asSource
  repeat' first
    | with_reducible assumption | (intro _) | with_reducible refine Sound.ite ?_ (fun hx => ?_)
    | (with_reducible first | apply hf | apply hg)

theorem sound_holdSink (s : State) (n : Nat) (hs : Sound s) : Sound (holdSink s n) := by
  delta holdSink
  repeat' first
    | with_reducible assumption | (intro _) | (with_reducible first | apply sound_State_modPde)

theorem sound_holdSinks (s : State) (hs : Sound s) : Sound (holdSinks s) := by
  delta holdSinks
  repeat' first
    | with_reducible assumption | (intro _) | with_reducible refine Sound.ite ?_ (fun hx => ?_)
    | (with_reducible first | apply sound_holdSink | apply Sound.fold | apply Sound.foldP) | split

theorem sound_attachSink (s : State) (n : Nat) (hs : Sound s) : Sound (attachSink s n) := by
  delta attachSink
  repeat' first
    | with_reducible assumption | (intro _)
    | ((fail_if_no_progress extract_lets -merge -useContext +onlyGivenNames x); (refine Sound.step (x := x) ?_ (fun hx => ?_); on_goal 1 => subst x))
    | (with_reducible first | apply sound_State_modPde | apply sound_State_modPpc | apply sound_pbaTrigger)

theorem sound_rdSeen (n v1 v2 : Nat) (s : State) (hs : Sound s) : Sound (rdSeen n v1 v2 s) := by
  delta rdSeen
  repeat' first
    | with_reducible assumption | (intro _) | with_reducible refine Sound.ite ?_ (fun hx => ?_)
    | (with_reducible first | apply sound_State_modPde | apply sound_holdSink) | split

theorem sound_sourceAttached (s : State) (n : Nat) (hs : Sound s) : Sound (sourceAttached s n) := by
  delta sourceAttached
  repeat' first
    | with_reducible assumption
    | (with_reducible first | apply sound_pbaTrigger | apply sound_pdEvent | apply sound_attachSource)

theorem sound_attachQualified (n : Nat) (vsafe5V : Bool) (s : State) (hs : Sound s) : Sound (attachQualified n vsafe5V s) := by
  delta attachQualified
  repeat' first
    | with_reducible assumption | (intro _)
    | (fail_if_no_progress extract_lets -merge -useContext +onlyGivenNames x)
    | with_reducible refine Sound.ite ?_ (fun hx => ?_)
    | (with_reducible first | apply sound_State_modPde | apply sound_holdSink | apply sound_attachSink | apply sound_sourceAttached)
    | split

theorem sound_rdLost (n : Nat) (s : State) (hs : Sound s) : Sound (rdLost n s) := by
  delta rdLost
  repeat' first
    | with_reducible assumption | (intro _) | (with_reducible first | apply sound_State_modPde) | split

theorem sound_ccOpen (n : Nat) (s : State) (hs : Sound s) : Sound (ccOpen n s) := by
  delta ccOpen
  repeat' first
    | with_reducible assumption | (intro _)
    | ((fail_if_no_progress extract_lets -merge -useContext +onlyGivenNames x); (first | (refine Sound.step (x := x) ?_ (fun hx => ?_); on_goal 1 => subst x) | skip))
    | (with_reducible first | apply sound_State_modPde | apply sound_State_modPpc | apply sound_setVout | apply sound_powerEvent | apply sound_powerOff)
    | split

theorem sound_ccReturn (n : Nat) (s : State) (hs : Sound s) : Sound (ccReturn n s) := by
  delta ccReturn
  repeat' first
    | with_reducible assumption | (intro _)
    | ((fail_if_no_progress extract_lets -merge -useContext +onlyGivenNames x); (first | (refine Sound.step (x := x) ?_ (fun hx => ?_); on_goal 1 => subst x) | skip))
    | with_reducible refine Sound.ite ?_ (fun hx => ?_)
    | (with_reducible first | apply sound_State_modPde | apply sound_State_modPpc | apply sound_setVout | apply sound_sendHardReset | apply sound_ccOpen)
    | split

theorem sound_detachQualified (n : Nat) (s : State) (hs : Sound s) : Sound (detachQualified n s) := by
  delta detachQualified
  repeat' first
    | with_reducible assumption | (intro _)
    | (fail_if_no_progress extract_lets -merge -useContext +onlyGivenNames x)
    | with_reducible refine Sound.ite ?_ (fun hx => ?_) | with_reducible apply hf
    | (with_reducible first | apply sound_State_modPde | apply sound_pbaTrigger | apply sound_pdEvent | apply sound_pdStop | apply sound_pdForget | apply sound_vbusOff | apply sound_powerOff | apply sound_clearHappening)
    | (fail_if_no_progress beta_reduce) | split

theorem sound_accessoryIgnored (n : Nat) (s : State) (hs : Sound s) : Sound (accessoryIgnored n s) := by
  delta accessoryIgnored
  repeat' first
    | with_reducible assumption | (intro _) | with_reducible refine Sound.ite ?_ (fun hx => ?_)
    | (with_reducible first | apply sound_State_modPde | apply sound_pdEvent) | split

theorem sound_errorRecoveryEnd (n : Nat) (s : State) (hs : Sound s) : Sound (errorRecoveryEnd n s) := by
  delta errorRecoveryEnd
  repeat' first
    | with_reducible assumption | (intro _) | with_reducible refine Sound.ite ?_ (fun hx => ?_)
    | (with_reducible first | apply sound_State_modPde | apply sound_pbaTrigger | apply sound_pdForget) | split

theorem sound_discOver (s : State) (n : Nat) (hs : Sound s) : Sound (discOver s n) := by
  delta discOver
  repeat' first
    | with_reducible assumption | (intro _)
    | ((fail_if_no_progress extract_lets -merge -useContext +onlyGivenNames x); (first | (refine Sound.step (x := x) ?_ (fun hx => ?_); on_goal 1 => subst x) | skip))
    | with_reducible refine Sound.ite ?_ (fun hx => ?_)
    | (with_reducible first | apply sound_State_modPde | apply sound_sendCaps | apply sound_startup | apply sound_amsEnd)
    | split

theorem sound_vconnOvercurrent (n : Nat) (s : State) (hs : Sound s) : Sound (vconnOvercurrent n s) := by
  delta vconnOvercurrent
  repeat' first
    | with_reducible assumption | (intro _)
    | ((fail_if_no_progress extract_lets -merge -useContext +onlyGivenNames x); (refine Sound.step (x := x) ?_ (fun hx => ?_); on_goal 1 => subst x))
    | with_reducible refine Sound.ite ?_ (fun hx => ?_)
    | (with_reducible first | apply sound_State_modPde | apply sound_pdEvent | apply sound_markCaps | apply sound_discOver)

theorem sound_drpToggle (u : Up) (s : State) (hs : Sound s) : Sound (drpToggle u s) := by
  delta drpToggle
  repeat' first
    | with_reducible assumption | (intro _)
    | (fail_if_no_progress extract_lets -merge -useContext +onlyGivenNames x)
    | with_reducible refine Sound.ite ?_ (fun hx => ?_) | (with_reducible first | apply sound_State_modPde) | split

theorem sound_rpSeen (u : Up) (v1 v2 : Nat) (s : State) (hs : Sound s) : Sound (rpSeen u v1 v2 s) := by
  delta rpSeen
  repeat' first
    | with_reducible assumption | (intro _)
    | (fail_if_no_progress extract_lets -merge -useContext +onlyGivenNames x)
    | (with_reducible first | apply sound_State_modPde) | split

theorem sound_tryDebounce (u : Up) (vsafe5V : Bool) (s : State) (hs : Sound s) : Sound (tryDebounce u vsafe5V s) := by
  delta tryDebounce
  repeat' first
    | with_reducible assumption
    | (fail_if_no_progress extract_lets -merge -useContext +onlyGivenNames x)
    | with_reducible refine Sound.ite ?_ (fun hx => ?_)
    | (with_reducible first | apply sound_holdSink | apply sound_attachSink | apply sound_sourceAttached) | split

theorem sound_tryTimeout (u : Up) (s : State) (hs : Sound s) : Sound (tryTimeout u s) := by
  delta tryTimeout
  repeat' first
    | with_reducible assumption | (intro _)
    | ((fail_if_no_progress extract_lets -merge -useContext +onlyGivenNames x); (first | (refine Sound.stepK (f := x) ?_ (fun hf => ?_); on_goal 1 => subst x) | skip))
    | with_reducible refine Sound.ite ?_ (fun hx => ?_) | with_reducible apply hf
    | (with_reducible first | apply sound_State_modPde | apply sound_holdSink) | (fail_if_no_progress beta_reduce)
    | split

theorem sound_vbusBelowVsinkdisconnect (u : Up) (s : State) (hs : Sound s) : Sound (vbusBelowVsinkdisconnect u s) := by
  delta vbusBelowVsinkdisconnect
  repeat' first
    | with_reducible assumption | (intro _)
    | ((fail_if_no_progress extract_lets -merge -useContext +onlyGivenNames x); (first | (refine Sound.step (x := x) ?_ (fun hx => ?_); on_goal 1 => subst x) | skip))
    | with_reducible refine Sound.ite ?_ (fun hx => ?_)
    | (with_reducible first | apply sound_State_modPde | apply sound_State_modPpc | apply sound_pbaTrigger | apply sound_pdStop | apply sound_pdForget | apply sound_hardReset)
    | split

theorem sound_deadBatteryAttach (u : Up) (v1 v2 : Nat) (s : State) (hs : Sound s) : Sound (deadBatteryAttach u v1 v2 s) := by
  delta deadBatteryAttach
  repeat' first
    | with_reducible assumption | (intro _)
    | (fail_if_no_progress extract_lets -merge -useContext +onlyGivenNames x)
    | (with_reducible first | apply sound_State_modPde | apply sound_pdForget | apply sound_attachSink) | split

theorem sound_discDue (s : State) (n : Nat) (hs : Sound s) : Sound (discDue s n) := by
  delta discDue
  repeat' first
    | with_reducible assumption | (intro _)
    | ((fail_if_no_progress extract_lets -merge -useContext +onlyGivenNames x); (refine Sound.step (x := x) ?_ (fun hx => ?_); on_goal 1 => subst x))
    | with_reducible refine Sound.ite ?_ (fun hx => ?_)
    | (with_reducible first | apply sound_State_modPde | apply sound_startOwn | apply sound_amsEnd)

theorem sound_discSend (s : State) (n : Nat) (hs : Sound s) : Sound (discSend s n) := by
  delta discSend
  repeat' first
    | with_reducible assumption | (intro _) | (with_reducible first | apply sound_State_modPde | apply sound_send)

theorem sound_discTry (s : State) (n : Nat) (hs : Sound s) : Sound (discTry s n) := by
  delta discTry
  repeat' first
    | with_reducible assumption
    | (fail_if_no_progress extract_lets -merge -useContext +onlyGivenNames x)
    | with_reducible refine Sound.ite ?_ (fun hx => ?_)
    | (with_reducible first | apply sound_stopTimer | apply sound_startup | apply sound_discDue | apply sound_discSend)
    | split

theorem sound_discoverIdentityStart (n : Nat) (s : State) (hs : Sound s) : Sound (discoverIdentityStart n s) := by
  delta discoverIdentityStart
  repeat' first
    | with_reducible assumption | with_reducible refine Sound.ite ?_ (fun hx => ?_)
    | (with_reducible first | apply sound_startTimer | apply sound_stopTimer | apply sound_discTry)

theorem sound_discoverIdentityRetry (n : Nat) (s : State) (hs : Sound s) : Sound (discoverIdentityRetry n s) := by
  delta discoverIdentityRetry
  repeat' first
    | with_reducible assumption
    | (fail_if_no_progress extract_lets -merge -useContext +onlyGivenNames x)
    | with_reducible refine Sound.ite ?_ (fun hx => ?_)
    | (with_reducible first | apply sound_sendCaps | apply sound_startup | apply sound_discTry)

theorem sound_cableRead (s : State) (n rev : Nat) (c : Cable) (hs : Sound s) : Sound (cableRead s n rev c) := by
  delta cableRead
  repeat' first
    | with_reducible assumption | (intro _)
    | ((fail_if_no_progress extract_lets -merge -useContext +onlyGivenNames x); (refine Sound.step (x := x) ?_ (fun hx => ?_); on_goal 1 => subst x))
    | (with_reducible first | apply sound_State_modPde | apply sound_pdEvent | apply sound_stopTimer | apply sound_markCaps | apply sound_discOver)

theorem sound_cableIdentity (n id rev : Nat) (amps5 : Bool) (maxMv : Nat) (epr : Bool) (s : State) (hs : Sound s) : Sound (cableIdentity n id rev amps5 maxMv epr s) := by
  delta cableIdentity
  repeat' first
    | with_reducible assumption | (intro _)
    | ((fail_if_no_progress extract_lets -merge -useContext +onlyGivenNames x); (first | (refine Sound.step (x := x) ?_ (fun hx => ?_); on_goal 1 => subst x) | skip))
    | with_reducible refine Sound.ite ?_ (fun hx => ?_)
    | (with_reducible first | apply sound_State_modPde | apply sound_cableRead)

theorem sound_toReady (s : State) (n : Nat) (hs : Sound s) : Sound (toReady s n) := by
  delta toReady
  repeat' first
    | with_reducible assumption | (intro _)
    | ((fail_if_no_progress extract_lets -merge -useContext +onlyGivenNames x); (first | (refine Sound.step (x := x) ?_ (fun hx => ?_); on_goal 1 => subst x) | skip))
    | with_reducible refine Sound.ite ?_ (fun hx => ?_)
    | (with_reducible first | apply sound_State_modPde | apply sound_pbaTrigger | apply sound_pdEvent | apply sound_startTimer | apply sound_stopTimer | apply sound_startOwn | apply sound_amsEnd)

theorem sound_refused (s : State) (n : Nat) (hs : Sound s) : Sound (refused s n) := by
  delta refused
  repeat' first
    | with_reducible assumption | (intro _)
    | (fail_if_no_progress extract_lets -merge -useContext +onlyGivenNames x)
    | with_reducible refine Sound.ite ?_ (fun hx => ?_)
    | (with_reducible first | apply sound_State_modPde | apply sound_shortfallEvent | apply sound_sendHardReset | apply sound_amsEnd)
    | split

theorem sound_evalRequest (s : State) (n rdo : Nat) (copy : Option Nat) (rev : Nat) (hs : Sound s) : Sound (evalRequest s n rdo copy rev) := by
  delta evalRequest
  repeat' first
    | with_reducible assumption | (intro _)
    | ((fail_if_no_progress extract_lets -merge -useContext +onlyGivenNames x); (first | (refine Sound.step (x := x) ?_ (fun hx => ?_); on_goal 1 => subst x) | skip))
    | with_reducible refine Sound.ite ?_ (fun hx => ?_)
    | (with_reducible first | apply sound_State_modPde | apply sound_State_modPb | apply sound_pbaTrigger | apply sound_pdEventWith | apply sound_stopTimer | apply sound_send)
    | split

theorem sound_acceptSent (s : State) (n : Nat) (hs : Sound s) : Sound (acceptSent s n) := by
  delta acceptSent
  repeat' first
    | with_reducible assumption | (intro _)
    | (fail_if_no_progress extract_lets -merge -useContext +onlyGivenNames x)
    | with_reducible refine Sound.ite ?_ (fun hx => ?_)
    | (with_reducible first | apply sound_State_modPde | apply sound_startTimer | apply sound_send | apply sound_startup)
    | split

theorem sound_psRdySent (s : State) (n : Nat) (hs : Sound s) : Sound (psRdySent s n) := by
  delta psRdySent
  repeat' first
    | with_reducible assumption | (intro _)
    | ((fail_if_no_progress extract_lets -merge -useContext +onlyGivenNames x); (first | (refine Sound.step (x := x) ?_ (fun hx => ?_); on_goal 1 => subst x) | skip))
    | with_reducible refine Sound.ite ?_ (fun hx => ?_)
    | (with_reducible first | apply sound_State_modPde | apply sound_pbaTrigger | apply sound_pdEvent | apply sound_startTimer | apply sound_startup | apply sound_toReady)
    | split

theorem sound_sentOk (s : State) (n : Nat) (m : PdMsg) (hs : Sound s) : Sound (sentOk s n m) := by
  delta sentOk
  repeat' first
    | with_reducible assumption | (intro _)
    | ((fail_if_no_progress extract_lets -merge -useContext +onlyGivenNames x); (first | (refine Sound.step (x := x) ?_ (fun hx => ?_); on_goal 1 => subst x) | skip))
    | with_reducible refine Sound.ite ?_ (fun hx => ?_)
    | (with_reducible first | apply sound_State_modPde | apply sound_pdEvent | apply sound_startTimer | apply sound_stopTimer | apply sound_send | apply sound_sendCaps | apply sound_amsEnd | apply sound_refused | apply sound_acceptSent | apply sound_psRdySent)
    | split

theorem sound_goodcrc (n id : Nat) (sopPrime : Bool) (s : State) (hs : Sound s) : Sound (goodcrc n id sopPrime s) := by
  delta goodcrc
  repeat' first
    | with_reducible assumption | (intro _)
    | ((fail_if_no_progress extract_lets -merge -useContext +onlyGivenNames x); (first | (refine Sound.step (x := x) ?_ (fun hx => ?_); on_goal 1 => subst x) | skip))
    | with_reducible refine Sound.ite ?_ (fun hx => ?_)
    | (with_reducible first | apply sound_State_modPde | apply sound_sendNext | apply sound_sentOk) | split

theorem sound_capsFailed (s : State) (n : Nat) (hs : Sound s) : Sound (capsFailed s n) := by
  delta capsFailed
  repeat' first
    | with_reducible assumption | (intro _) | with_reducible refine Sound.ite ?_ (fun hx => ?_)
    | (with_reducible first | apply sound_State_modPde | apply sound_startTimer | apply sound_sendHardReset)

theorem sound_txFailed (s : State) (n : Nat) (m : PdMsg) (hs : Sound s) : Sound (txFailed s n m) := by
  delta txFailed
  repeat' first
    | with_reducible assumption | (intro _) | with_reducible refine Sound.ite ?_ (fun hx => ?_)
    | (with_reducible first | apply sound_State_modPde | apply sound_sendHardReset | apply sound_protocolError | apply sound_sendCaps | apply sound_amsEnd | apply sound_capsFailed)
    | split

theorem sound_crcReceiveTimerExpiry (n : Nat) (s : State) (hs : Sound s) : Sound (crcReceiveTimerExpiry n s) := by
  delta crcReceiveTimerExpiry
  repeat' first
    | with_reducible assumption | (intro _)
    | (fail_if_no_progress extract_lets -merge -useContext +onlyGivenNames x)
    | with_reducible refine Sound.ite ?_ (fun hx => ?_)
    | (with_reducible first | apply sound_State_modPde | apply sound_sendNext | apply sound_txFailed) | split

theorem sound_chunkRequest (h : PdHdr) (chunk : Nat) (s : State) (hs : Sound s) : Sound (chunkRequest h chunk s) := by
  delta chunkRequest
  repeat' first
    | with_reducible assumption | (intro _)
    | ((fail_if_no_progress extract_lets -merge -useContext +onlyGivenNames x); (refine Sound.step (x := x) ?_ (fun hx => ?_); on_goal 1 => subst x))
    | with_reducible refine Sound.ite ?_ (fun hx => ?_)
    | (with_reducible first | apply sound_State_modPde | apply sound_stopTimer | apply sound_send | apply sound_pdReceive)

theorem sound_chunkTimeout (n : Nat) (sender : Bool) (s : State) (hs : Sound s) : Sound (chunkTimeout n sender s) := by
  delta chunkTimeout
  repeat' first
    | with_reducible assumption | (intro _)
    | ((fail_if_no_progress extract_lets -merge -useContext +onlyGivenNames x); (refine Sound.step (x := x) ?_ (fun hx => ?_); on_goal 1 => subst x))
    | with_reducible refine Sound.ite ?_ (fun hx => ?_)
    | (with_reducible first | apply sound_State_modPde | apply sound_stopTimer | apply sound_sendCaps | apply sound_capsFailed)
    | split

theorem sound_sinktxWaitEnd (n : Nat) (s : State) (hs : Sound s) : Sound (sinktxWaitEnd n s) := by
  delta sinktxWaitEnd
  repeat' first
    | with_reducible assumption
    | ((fail_if_no_progress extract_lets -merge -useContext +onlyGivenNames x); (refine Sound.step (x := x) ?_ (fun hx => ?_); on_goal 1 => subst x))
    | with_reducible refine Sound.ite ?_ (fun hx => ?_)
    | (with_reducible first | apply sound_stopTimer | apply sound_runOwn)

theorem sound_request (h : PdHdr) (rdo : Nat) (s : State) (hs : Sound s) : Sound (request h rdo s) := by
  delta request
  repeat' first
    | with_reducible assumption | (intro _)
    | (fail_if_no_progress extract_lets -merge -useContext +onlyGivenNames x)
    | with_reducible refine Sound.ite ?_ (fun hx => ?_)
    | (with_reducible first | apply sound_sendHardReset | apply sound_protocolError | apply sound_sendCaps | apply sound_pdReceive | apply sound_asSource | apply sound_evalRequest)
    | split

theorem sound_eprRequest (h : PdHdr) (rdo pdo : Nat) (s : State) (hs : Sound s) : Sound (eprRequest h rdo pdo s) := by
  delta eprRequest
  repeat' first
    | with_reducible assumption | (intro _)
    | (fail_if_no_progress extract_lets -merge -useContext +onlyGivenNames x)
    | with_reducible refine Sound.ite ?_ (fun hx => ?_)
    | (with_reducible first | apply sound_protocolError | apply sound_sendCaps | apply sound_pdReceive | apply sound_evalRequest)
    | split

theorem sound_eprModeEnter (h : PdHdr) (s : State) (hs : Sound s) : Sound (eprModeEnter h s) := by
  delta eprModeEnter
  repeat' first
    | with_reducible assumption | (intro _)
    | (fail_if_no_progress extract_lets -merge -useContext +onlyGivenNames x)
    | with_reducible refine Sound.ite ?_ (fun hx => ?_)
    | (with_reducible first | apply sound_State_modPde | apply sound_pdEvent | apply sound_send | apply sound_unsupported | apply sound_pdReceive)

theorem sound_eprModeExit (h : PdHdr) (s : State) (hs : Sound s) : Sound (eprModeExit h s) := by
  delta eprModeExit
  repeat' first
    | with_reducible assumption | (intro _)
    | ((fail_if_no_progress extract_lets -merge -useContext +onlyGivenNames x); (first | (refine Sound.step (x := x) ?_ (fun hx => ?_); on_goal 1 => subst x) | skip))
    | with_reducible refine Sound.ite ?_ (fun hx => ?_)
    | (with_reducible first | apply sound_State_modPde | apply sound_pdEvent | apply sound_stopTimer | apply sound_sendHardReset | apply sound_sendCaps | apply sound_pdReceive)

theorem sound_getSourceCap (h : PdHdr) (s : State) (hs : Sound s) : Sound (getSourceCap h s) := by
  delta getSourceCap
  repeat' first
    | with_reducible assumption | (intro _)
    | (fail_if_no_progress extract_lets -merge -useContext +onlyGivenNames x)
    | with_reducible refine Sound.ite ?_ (fun hx => ?_)
    | (with_reducible first | apply sound_send | apply sound_unsupported | apply sound_protocolError | apply sound_sendCaps | apply sound_pdReceive | apply sound_asSource)
    | split

theorem sound_eprGetSourceCap (h : PdHdr) (s : State) (hs : Sound s) : Sound (eprGetSourceCap h s) := by
  delta eprGetSourceCap
  repeat' first
    | with_reducible assumption | (intro _)
    | (fail_if_no_progress extract_lets -merge -useContext +onlyGivenNames x)
    | with_reducible refine Sound.ite ?_ (fun hx => ?_)
    | (with_reducible first | apply sound_send | apply sound_unsupported | apply sound_sendCaps | apply sound_pdReceive)
    | split

theorem sound_extended (s : State) (n : Nat) (m : PdMsg) (hs : Sound s) : Sound (extended s n m) := by
  delta extended
  repeat' first
    | with_reducible assumption | with_reducible refine Sound.ite ?_ (fun hx => ?_)
    | (with_reducible first | apply sound_send | apply sound_unsupported)

theorem sound_eprKeepalive (h : PdHdr) (s : State) (hs : Sound s) : Sound (eprKeepalive h s) := by
  delta eprKeepalive
  repeat' first
    | with_reducible assumption | (intro _) | with_reducible refine Sound.ite ?_ (fun hx => ?_)
    | (with_reducible first | apply sound_unsupported | apply sound_pdReceive | apply sound_extended)

theorem sound_getSinkCap (h : PdHdr) (s : State) (hs : Sound s) : Sound (getSinkCap h s) := by
  delta getSinkCap
  repeat' first
    | with_reducible assumption | (intro _) | with_reducible refine Sound.ite ?_ (fun hx => ?_)
    | (with_reducible first | apply sound_send | apply sound_unsupported | apply sound_pdReceive)

theorem sound_getSourceCapExtended (h : PdHdr) (s : State) (hs : Sound s) : Sound (getSourceCapExtended h s) := by
  delta getSourceCapExtended
  repeat' first
    | with_reducible assumption | (intro _)
    | (with_reducible first | apply sound_unsupported | apply sound_pdReceive | apply sound_asSource | apply sound_extended)

theorem sound_getStatus (h : PdHdr) (s : State) (hs : Sound s) : Sound (getStatus h s) := by
  delta getStatus
  repeat' first
    | with_reducible assumption | (intro _)
    | (fail_if_no_progress extract_lets -merge -useContext +onlyGivenNames x)
    | with_reducible refine Sound.ite ?_ (fun hx => ?_)
    | (with_reducible first | apply sound_State_modPde | apply sound_send | apply sound_unsupported | apply sound_pdReceive)

theorem sound_getPpsStatus (h : PdHdr) (s : State) (hs : Sound s) : Sound (getPpsStatus h s) := by
  delta getPpsStatus
  repeat' first
    | with_reducible assumption | (intro _)
    | (fail_if_no_progress extract_lets -merge -useContext +onlyGivenNames x)
    | with_reducible refine Sound.ite ?_ (fun hx => ?_)
    | (with_reducible first | apply sound_unsupported | apply sound_pdReceive | apply sound_extended) | split

theorem sound_getSourceInfo (h : PdHdr) (s : State) (hs : Sound s) : Sound (getSourceInfo h s) := by
  delta getSourceInfo
  repeat' first
    | with_reducible assumption | (intro _)
    | (fail_if_no_progress extract_lets -merge -useContext +onlyGivenNames x)
    | (with_reducible first | apply sound_unsupported | apply sound_pdReceive | apply sound_asSource | apply sound_extended)

theorem sound_getRevision (h : PdHdr) (s : State) (hs : Sound s) : Sound (getRevision h s) := by
  delta getRevision
  repeat' first
    | with_reducible assumption | (intro _) | (with_reducible first | apply sound_pdReceive | apply sound_extended)

theorem sound_storeSrcCaps (s : State) (h : PdHdr) (pdos : List Nat) (hs : Sound s) : Sound (storeSrcCaps s h pdos) := by
  delta storeSrcCaps
  repeat' first
    | with_reducible assumption | (intro _)
    | (with_reducible first | apply sound_State_modPde)

theorem sound_sinkRequest (s : State) (n pos p : Nat) (hs : Sound s) : Sound (sinkRequest s n pos p) := by
  delta sinkRequest
  repeat' first
    | with_reducible assumption | (intro _)
    | (fail_if_no_progress extract_lets -merge -useContext +onlyGivenNames x)
    | (with_reducible first | apply sound_State_modPde | apply sound_send)

theorem sound_sourceCapabilities (h : PdHdr) (pdos : List Nat) (s : State) (hs : Sound s) : Sound (sourceCapabilities h pdos s) := by
  delta sourceCapabilities
  repeat' first
    | with_reducible assumption | (intro _)
    | ((fail_if_no_progress extract_lets -merge -useContext +onlyGivenNames x); (refine Sound.step (x := x) ?_ (fun hx => ?_); on_goal 1 => subst x))
    | (with_reducible first | apply sound_protocolError | apply sound_pdReceive | apply sound_asSource | apply sound_storeSrcCaps | apply sound_sinkRequest)
    | split

theorem sound_sinkCapabilities (h : PdHdr) (pdos : List Nat) (s : State) (hs : Sound s) : Sound (sinkCapabilities h pdos s) := by
  delta sinkCapabilities
  repeat' first
    | with_reducible assumption | (intro _)
    | ((fail_if_no_progress extract_lets -merge -useContext +onlyGivenNames x); (first | (refine Sound.step (x := x) ?_ (fun hx => ?_); on_goal 1 => subst x) | skip))
    | with_reducible refine Sound.ite ?_ (fun hx => ?_)
    | (with_reducible first | apply sound_State_modPde | apply sound_stopTimer | apply sound_amsEnd | apply sound_pdReceive)

theorem sound_accept (h : PdHdr) (s : State) (hs : Sound s) : Sound (accept h s) := by
  delta accept
  repeat' first
    | with_reducible assumption | (intro _)
    | ((fail_if_no_progress extract_lets -merge -useContext +onlyGivenNames x); (first | (refine Sound.step (x := x) ?_ (fun hx => ?_); on_goal 1 => subst x) | skip))
    | with_reducible refine Sound.ite ?_ (fun hx => ?_)
    | (with_reducible first | apply sound_State_modPde | apply sound_startTimer | apply sound_stopTimer | apply sound_protocolError | apply sound_startup | apply sound_pdReceive | apply sound_asSource)
    | split

theorem sound_declined (h : PdHdr) (s : State) (hs : Sound s) : Sound (declined h s) := by
  delta declined
  repeat' first
    | with_reducible assumption | (intro _)
    | (fail_if_no_progress extract_lets -merge -useContext +onlyGivenNames x)
    | with_reducible refine Sound.ite ?_ (fun hx => ?_)
    | (with_reducible first | apply sound_State_modPde | apply sound_stopTimer | apply sound_protocolError | apply sound_sendCaps | apply sound_amsEnd | apply sound_pdReceive)

theorem sound_waited (h : PdHdr) (s : State) (hs : Sound s) : Sound (waited h s) := by
  delta waited
  repeat' first
    | with_reducible assumption | (with_reducible first | apply sound_declined)

theorem sound_becomeSink (s : State) (n : Nat) (code : Nat) (hs : Sound s) : Sound (becomeSink s n code) := by
  delta becomeSink
  repeat' first
    | with_reducible assumption | (intro _)
    | ((fail_if_no_progress extract_lets -merge -useContext +onlyGivenNames x); (refine Sound.step (x := x) ?_ (fun hx => ?_); on_goal 1 => subst x))
    | (with_reducible first | apply sound_State_modPde | apply sound_State_modPpc | apply sound_pbaTrigger | apply sound_pdEvent)

theorem sound_psRdy (h : PdHdr) (s : State) (hs : Sound s) : Sound (psRdy h s) := by
  delta psRdy
  repeat' first
    | with_reducible assumption | (intro _)
    | ((fail_if_no_progress extract_lets -merge -useContext +onlyGivenNames x); (first | (refine Sound.step (x := x) ?_ (fun hx => ?_); on_goal 1 => subst x) | skip))
    | with_reducible refine Sound.ite ?_ (fun hx => ?_)
    | (with_reducible first | apply sound_raiseAt | apply sound_State_modPde | apply sound_State_modPpc | apply sound_pbaTrigger | apply sound_dropContract | apply sound_pdEvent | apply sound_vbusOn | apply sound_vconnOn | apply sound_stopTimer | apply sound_protocolError | apply sound_amsEnd | apply sound_pdReceive | apply sound_becomeSink)
    | split

theorem sound_softSwap (s : State) (n : Nat) (hs : Sound s) : Sound (softSwap s n) := by
  delta softSwap
  repeat' first
    | with_reducible assumption | (intro _)
    | ((fail_if_no_progress extract_lets -merge -useContext +onlyGivenNames x); (refine Sound.step (x := x) ?_ (fun hx => ?_); on_goal 1 => subst x))
    | with_reducible refine Sound.ite ?_ (fun hx => ?_)
    | (with_reducible first | apply sound_State_modPde | apply sound_State_modPpc | apply sound_vbusOn | apply sound_asSource)
    | split

theorem sound_softReset (h : PdHdr) (s : State) (hs : Sound s) : Sound (softReset h s) := by
  unfold softReset
  refine sound_pdReceive _ _ _ _ hs (fun t ht => ?_)
  exact sound_send _ _ _ (sound_asSource _ _ _ _ (sound_State_modPde _ _ _ (sound_softSwap _ _ (sound_pdEvent _ _ _ _ ht)))
    (fun t ht => sound_State_modPde _ _ _ ht) (fun t ht => ht))

theorem sound_hardReceived (s : State) (n : Nat) (hs : Sound s) : Sound (hardReceived s n) := by
  delta hardReceived
  repeat' first
    | with_reducible assumption
    | ((fail_if_no_progress extract_lets -merge -useContext +onlyGivenNames x); (refine Sound.step (x := x) ?_ (fun hx => ?_); on_goal 1 => subst x))
    | (with_reducible first | apply sound_pdEvent | apply sound_swapFails | apply sound_hardReset) | split

theorem sound_hardResetSignal (n : Nat) (s : State) (hs : Sound s) : Sound (hardResetSignal n s) := by
  delta hardResetSignal
  repeat' first
    | with_reducible assumption
    | (fail_if_no_progress extract_lets -merge -useContext +onlyGivenNames x)
    | with_reducible refine Sound.ite ?_ (fun hx => ?_)
    | (with_reducible first | apply sound_pdEvent | apply sound_startup | apply sound_hardReceived) | split

theorem sound_drSwap (h : PdHdr) (s : State) (hs : Sound s) : Sound (drSwap h s) := by
  delta drSwap
  repeat' first
    | with_reducible assumption | (intro _) | (with_reducible first | apply sound_send | apply sound_pdReceive)

theorem sound_takePrSwap (s : State) (n : Nat) (hs : Sound s) : Sound (takePrSwap s n) := by
  delta takePrSwap
  repeat' first
    | with_reducible assumption | (intro _)
    | (with_reducible first | apply sound_State_modPde | apply sound_send)

theorem sound_prSwap (h : PdHdr) (s : State) (hs : Sound s) : Sound (prSwap h s) := by
  delta prSwap
  repeat' first
    | with_reducible assumption | (intro _)
    | (fail_if_no_progress extract_lets -merge -useContext +onlyGivenNames x)
    | with_reducible refine Sound.ite ?_ (fun hx => ?_)
    | (with_reducible first | apply sound_send | apply sound_hardReset | apply sound_protocolError | apply sound_pdReceive | apply sound_takePrSwap)

theorem sound_frSwap (h : PdHdr) (s : State) (hs : Sound s) : Sound (frSwap h s) := by
  delta frSwap
  repeat' first
    | with_reducible assumption | (intro _)
    | (fail_if_no_progress extract_lets -merge -useContext +onlyGivenNames x)
    | with_reducible refine Sound.ite ?_ (fun hx => ?_)
    | (with_reducible first | apply sound_State_modPde | apply sound_stopTimer | apply sound_send | apply sound_unsupported | apply sound_protocolError | apply sound_pdReceive | apply sound_accept)
    | split

theorem sound_vconnSwap (h : PdHdr) (s : State) (hs : Sound s) : Sound (vconnSwap h s) := by
  delta vconnSwap
  repeat' first
    | with_reducible assumption | (intro _) | (with_reducible first | apply sound_unsupported | apply sound_pdReceive)

theorem sound_bist (h : PdHdr) (mode : Nat) (s : State) (hs : Sound s) : Sound (bist h mode s) := by
  delta bist
  repeat' first
    | with_reducible assumption | (intro _)
    | (fail_if_no_progress extract_lets -merge -useContext +onlyGivenNames x)
    | with_reducible refine Sound.ite ?_ (fun hx => ?_)
    | (with_reducible first | apply sound_State_modPde | apply sound_pdReceive)

theorem sound_alert (h : PdHdr) (ado : Nat) (s : State) (hs : Sound s) : Sound (alert h ado s) := by
  delta alert
  repeat' first
    | with_reducible assumption | (intro _) | (with_reducible first | apply sound_pdEventWith | apply sound_pdReceive)

theorem sound_notSupported (h : PdHdr) (s : State) (hs : Sound s) : Sound (notSupported h s) := by
  delta notSupported
  repeat' first
    | with_reducible assumption | (intro _)
    | ((fail_if_no_progress extract_lets -merge -useContext +onlyGivenNames x); (first | (refine Sound.step (x := x) ?_ (fun hx => ?_); on_goal 1 => subst x) | skip))
    | with_reducible refine Sound.ite ?_ (fun hx => ?_)
    | (with_reducible first | apply sound_State_modPde | apply sound_pdEvent | apply sound_stopTimer | apply sound_sendCaps | apply sound_amsEnd | apply sound_pdReceive)

theorem sound_ping (h : PdHdr) (s : State) (hs : Sound s) : Sound (ping h s) := by
  delta ping
  have hid : ∀ x : State, Sound x → Sound (id x) := fun _ h => h
  repeat' first
    | with_reducible assumption | (intro _)
    | with_reducible refine Sound.ite ?_ (fun hx => ?_) | (with_reducible first | apply hid | apply sound_pdReceive)

theorem sound_vendorDefined (h : PdHdr) (s : State) (hs : Sound s) : Sound (vendorDefined h s) := by
  delta vendorDefined
  repeat' first
    | with_reducible assumption | (intro _) | (with_reducible first | apply sound_unsupported | apply sound_pdReceive)

theorem sound_unsupportedMessage (h : PdHdr) (ext : Option (Nat × Nat)) (s : State) (hs : Sound s) : Sound (unsupportedMessage h ext s) := by
  delta unsupportedMessage
  repeat' first
    | with_reducible assumption | (intro _)
    | ((fail_if_no_progress extract_lets -merge -useContext +onlyGivenNames x); (first | (refine Sound.step (x := x) ?_ (fun hx => ?_); on_goal 1 => subst x) | skip))
    | with_reducible refine Sound.ite ?_ (fun hx => ?_)
    | (with_reducible first | apply sound_State_modPde | apply sound_stopTimer | apply sound_send | apply sound_unsupported | apply sound_pdReceive | apply sound_chunkRequest)
    | split

theorem sound_capsReadvertise (n : Nat) (s : State) (hs : Sound s) : Sound (capsReadvertise n s) := by
  delta capsReadvertise
  repeat' first
    | with_reducible assumption
    | ((fail_if_no_progress extract_lets -merge -useContext +onlyGivenNames x); (refine Sound.step (x := x) ?_ (fun hx => ?_); on_goal 1 => subst x))
    | (with_reducible first | apply sound_markCaps | apply sound_startOwn)

theorem sound_typecSendSourceCapExpiry (n : Nat) (s : State) (hs : Sound s) : Sound (typecSendSourceCapExpiry n s) := by
  delta typecSendSourceCapExpiry
  repeat' first
    | with_reducible assumption | (intro _)
    | ((fail_if_no_progress extract_lets -merge -useContext +onlyGivenNames x); (refine Sound.step (x := x) ?_ (fun hx => ?_); on_goal 1 => subst x))
    | with_reducible refine Sound.ite ?_ (fun hx => ?_)
    | (with_reducible first | apply sound_State_modPde | apply sound_pdEvent | apply sound_stopTimer | apply sound_sendCaps)

theorem sound_senderResponseExpiry (n : Nat) (s : State) (hs : Sound s) : Sound (senderResponseExpiry n s) := by
  delta senderResponseExpiry
  repeat' first
    | with_reducible assumption | (intro _)
    | ((fail_if_no_progress extract_lets -merge -useContext +onlyGivenNames x); (first | (refine Sound.step (x := x) ?_ (fun hx => ?_); on_goal 1 => subst x) | skip))
    | with_reducible refine Sound.ite ?_ (fun hx => ?_)
    | (with_reducible first | apply sound_State_modPde | apply sound_shortfallEvent | apply sound_stopTimer | apply sound_sendHardReset | apply sound_sendCaps | apply sound_amsEnd)
    | split

theorem sound_srcTransitionExpiry (n : Nat) (s : State) (hs : Sound s) : Sound (srcTransitionExpiry n s) := by
  delta srcTransitionExpiry
  repeat' first
    | with_reducible assumption | (intro _)
    | ((fail_if_no_progress extract_lets -merge -useContext +onlyGivenNames x); (first | (refine Sound.step (x := x) ?_ (fun hx => ?_); on_goal 1 => subst x) | skip))
    | with_reducible refine Sound.ite ?_ (fun hx => ?_)
    | (with_reducible first | apply sound_State_modPpc | apply sound_setVout | apply sound_setCc | apply sound_setSlew | apply sound_vbusOff | apply sound_stopTimer | apply sound_send | apply sound_psRdy)
    | split

theorem sound_hardOnExpiry (s : State) (n : Nat) (t : PdTimer) (cause : Nat) (hs : Sound s) : Sound (hardOnExpiry s n t cause) := by
  delta hardOnExpiry
  repeat' first
    | with_reducible assumption | with_reducible refine Sound.ite ?_ (fun hx => ?_)
    | (with_reducible first | apply sound_stopTimer | apply sound_sendHardReset)

theorem sound_psHardResetExpiry (n : Nat) (s : State) (hs : Sound s) : Sound (psHardResetExpiry n s) := by
  delta psHardResetExpiry
  repeat' first
    | with_reducible assumption | (intro _)
    | ((fail_if_no_progress extract_lets -merge -useContext +onlyGivenNames x); (first | (refine Sound.step (x := x) ?_ (fun hx => ?_); on_goal 1 => subst x) | skip))
    | with_reducible refine Sound.ite ?_ (fun hx => ?_)
    | (with_reducible first | apply sound_State_modPde | apply sound_vbusOff | apply sound_startTimer | apply sound_stopTimer)

theorem sound_vbusHeld (s : State) (n : Nat) (hs : Sound s) : Sound (vbusHeld s n) := by
  delta vbusHeld
  repeat' first
    | with_reducible assumption | (intro _) | with_reducible refine Sound.ite ?_ (fun hx => ?_)
    | (with_reducible first | apply sound_State_modPde | apply sound_pdEvent)

theorem sound_safe0VExpiry (n : Nat) (s : State) (hs : Sound s) : Sound (safe0VExpiry n s) := by
  delta safe0VExpiry
  repeat' first
    | with_reducible assumption | with_reducible refine Sound.ite ?_ (fun hx => ?_)
    | (with_reducible first | apply sound_startTimer | apply sound_stopTimer | apply sound_vbusHeld)

theorem sound_srcRecoverExpiry (n : Nat) (s : State) (hs : Sound s) : Sound (srcRecoverExpiry n s) := by
  delta srcRecoverExpiry
  repeat' first
    | with_reducible assumption
    | ((fail_if_no_progress extract_lets -merge -useContext +onlyGivenNames x); (refine Sound.step (x := x) ?_ (fun hx => ?_); on_goal 1 => subst x))
    | with_reducible refine Sound.ite ?_ (fun hx => ?_)
    | (with_reducible first | apply sound_vbusOn | apply sound_vconnOn | apply sound_stopTimer) | split

theorem sound_noResponseExpiry (n : Nat) (s : State) (hs : Sound s) : Sound (noResponseExpiry n s) := by
  delta noResponseExpiry
  repeat' first
    | with_reducible assumption | with_reducible refine Sound.ite ?_ (fun hx => ?_)
    | (with_reducible first | apply sound_stopTimer | apply sound_giveUp)

theorem sound_keepAliveExpiry (s : State) (n : Nat) (t : PdTimer) (cause : Nat) (hs : Sound s) : Sound (keepAliveExpiry s n t cause) := by
  delta keepAliveExpiry
  repeat' first
    | with_reducible assumption | with_reducible refine Sound.ite ?_ (fun hx => ?_)
    | (with_reducible first | apply sound_pdEvent | apply sound_stopTimer | apply sound_sendHardReset)

theorem sound_swapSourceStartExpiry (u : Up) (s : State) (hs : Sound s) : Sound (swapSourceStartExpiry u s) := by
  delta swapSourceStartExpiry
  repeat' first
    | with_reducible assumption
    | (fail_if_no_progress extract_lets -merge -useContext +onlyGivenNames x)
    | with_reducible refine Sound.ite ?_ (fun hx => ?_)
    | (with_reducible first | apply sound_stopTimer | apply sound_startup)

theorem sound_frsSignal (s : State) (n : Nat) (hs : Sound s) : Sound (frsSignal s n) := by
  delta frsSignal
  repeat' first
    | with_reducible assumption | (intro _)
    | (fail_if_no_progress extract_lets -merge -useContext +onlyGivenNames x)
    | with_reducible refine Sound.ite ?_ (fun hx => ?_)
    | (with_reducible first | apply sound_State_modPde | apply sound_startTimer)

theorem sound_frsSignalEnd (u : Up) (s : State) (hs : Sound s) : Sound (frsSignalEnd u s) := by
  delta frsSignalEnd
  repeat' first
    | with_reducible assumption | (intro _)
    | ((fail_if_no_progress extract_lets -merge -useContext +onlyGivenNames x); (first | (refine Sound.step (x := x) ?_ (fun hx => ?_); on_goal 1 => subst x) | skip))
    | with_reducible refine Sound.ite ?_ (fun hx => ?_)
    | (with_reducible first | apply sound_State_modPde | apply sound_pbaTrigger | apply sound_dropContract | apply sound_vbusOff | apply sound_startTimer | apply sound_stopTimer | apply sound_frsSignal)
    | split

theorem sound_frSwapWaitExpiry (u : Up) (s : State) (hs : Sound s) : Sound (frSwapWaitExpiry u s) := by
  delta frSwapWaitExpiry
  repeat' first
    | with_reducible assumption
    | (fail_if_no_progress extract_lets -merge -useContext +onlyGivenNames x)
    | with_reducible refine Sound.ite ?_ (fun hx => ?_)
    | (with_reducible first | apply sound_stopTimer | apply sound_swapFails)

theorem sound_hardResetCompleteExpiry (n : Nat) (s : State) (hs : Sound s) : Sound (hardResetCompleteExpiry n s) := by
  delta hardResetCompleteExpiry
  repeat' first
    | with_reducible assumption | (with_reducible first | apply sound_stopTimer)

theorem sound_vbusRequest (n : Nat) (s : State) (hs : Sound s) : Sound (vbusRequest n s) := by
  delta vbusRequest
  repeat' first
    | with_reducible assumption | (with_reducible first | apply sound_idle | apply sound_tryOn | apply sound_vbusOn)
    | split

theorem sound_offRequest (n : Nat) (s : State) (hs : Sound s) : Sound (offRequest n s) := by
  delta offRequest
  repeat' first
    | with_reducible assumption | (with_reducible first | apply sound_vbusOff)

theorem sound_converterCheckPass (n : Nat) (s : State) (hs : Sound s) : Sound (converterCheckPass n s) := by
  delta converterCheckPass
  repeat' first
    | with_reducible assumption | (intro _) | with_reducible refine Sound.ite ?_ (fun hx => ?_)
    | (with_reducible first | apply sound_slew | apply sound_State_modPpc) | split

theorem sound_converterNotReady (n : Nat) (s : State) (hs : Sound s) : Sound (converterNotReady n s) := by
  delta converterNotReady
  repeat' first
    | with_reducible assumption | (intro _)
    | (fail_if_no_progress extract_lets -merge -useContext +onlyGivenNames x)
    | with_reducible refine Sound.ite ?_ (fun hx => ?_)
    | (with_reducible first | apply sound_State_modPpc | apply sound_setOp | apply sound_powerEvent) | split

theorem sound_converterRetry (n : Nat) (s : State) (hs : Sound s) : Sound (converterRetry n s) := by
  delta converterRetry
  repeat' first
    | with_reducible assumption | (intro _)
    | (fail_if_no_progress extract_lets -merge -useContext +onlyGivenNames x)
    | with_reducible refine Sound.ite ?_ (fun hx => ?_)
    | (with_reducible first | apply sound_State_modPpc | apply sound_enterCheck | apply sound_idleConverter) | split

theorem sound_powerGood (n : Nat) (s : State) (hs : Sound s) : Sound (powerGood n s) := by
  delta powerGood
  repeat' first
    | with_reducible assumption | (intro _)
    | ((fail_if_no_progress extract_lets -merge -useContext +onlyGivenNames x); (first | (refine Sound.step (x := x) ?_ (fun hx => ?_); on_goal 1 => subst x) | skip))
    | with_reducible refine Sound.ite ?_ (fun hx => ?_)
    | (with_reducible first | apply sound_State_modPpc | apply sound_dpePower | apply sound_send | apply sound_startup | apply sound_psRdy)
    | split

theorem sound_psRdyEop (n : Nat) (s : State) (hs : Sound s) : Sound (psRdyEop n s) := by
  delta psRdyEop
  repeat' first
    | with_reducible assumption | (intro _)
    | (fail_if_no_progress extract_lets -merge -useContext +onlyGivenNames x)
    | with_reducible refine Sound.ite ?_ (fun hx => ?_)
    | (with_reducible first | apply sound_State_modPpc | apply sound_applyLimit)

theorem sound_slowTrip (n : Nat) (s : State) (hs : Sound s) : Sound (slowTrip n s) := by
  delta slowTrip
  repeat' first
    | with_reducible assumption | (intro _) | with_reducible refine Sound.ite ?_ (fun hx => ?_)
    | (with_reducible first | apply sound_State_modPpc | apply sound_trip)

theorem sound_undervoltTrip (n : Nat) (s : State) (hs : Sound s) : Sound (undervoltTrip n s) := by
  delta undervoltTrip
  repeat' first
    | with_reducible assumption | with_reducible refine Sound.ite ?_ (fun hx => ?_)
    | (with_reducible first | apply sound_trip)

theorem sound_turnOnTimeout (n : Nat) (s : State) (hs : Sound s) : Sound (turnOnTimeout n s) := by
  delta turnOnTimeout
  repeat' first
    | with_reducible assumption | with_reducible refine Sound.ite ?_ (fun hx => ?_)
    | (with_reducible first | apply sound_trip)

theorem sound_coolDownEnd (n : Nat) (s : State) (hs : Sound s) : Sound (coolDownEnd n s) := by
  delta coolDownEnd
  repeat' first
    | with_reducible assumption | (intro _)
    | ((fail_if_no_progress extract_lets -merge -useContext +onlyGivenNames x); (first | (refine Sound.step (x := x) ?_ (fun hx => ?_); on_goal 1 => subst x) | skip))
    | with_reducible refine Sound.ite ?_ (fun hx => ?_)
    | (with_reducible first | apply sound_State_modPpc | apply sound_clearTrip | apply sound_sourceAttached) | split

end Sys2Proof.Machine
end

