-- ==== Sys2Proof/Laws/SoundOps3.lean ====
section
/-!
SUPPORT. Laws/SoundOps3.lean: the operations keep a state that holds together, part 3 of 8, in the order of the
model's files.
-/

namespace Sys2Proof.Machine

theorem sound_tripCountReset (n : Nat) (s : State) (hs : Sound s) : Sound (tripCountReset n s) := by
  delta tripCountReset
  repeat' first
    | with_reducible assumption | (intro _) | (with_reducible first | apply sound_State_modPpc)

theorem sound_powerCycleOffEnd (n : Nat) (s : State) (hs : Sound s) : Sound (powerCycleOffEnd n s) := by
  delta powerCycleOffEnd
  repeat' first
    | with_reducible assumption | (intro _)
    | (fail_if_no_progress extract_lets -merge -useContext +onlyGivenNames x)
    | with_reducible refine Sound.ite ?_ (fun hx => ?_)
    | (with_reducible first | apply sound_State_modPpc | apply sound_powerOn | apply sound_clearTrip)

theorem sound_dischargeEnd (s : State) (n : Nat) (hs : Sound s) : Sound (dischargeEnd s n) := by
  delta dischargeEnd
  repeat' first
    | with_reducible assumption | (intro _)
    | ((fail_if_no_progress extract_lets -merge -useContext +onlyGivenNames x); (first | (refine Sound.step (x := x) ?_ (fun hx => ?_); on_goal 1 => subst x) | skip))
    | with_reducible refine Sound.ite ?_ (fun hx => ?_)
    | (with_reducible first | apply sound_State_modPpc | apply sound_tryOn | apply sound_idleConverter)

theorem sound_zeroVolts (s : State) (n : Nat) (hs : Sound s) : Sound (zeroVolts s n) := by
  delta zeroVolts
  repeat' first
    | with_reducible assumption | (intro _) | with_reducible refine Sound.ite ?_ (fun hx => ?_)
    | (with_reducible first | apply sound_State_modPde | apply sound_dropContract | apply sound_startTimer | apply sound_stopTimer | apply sound_send | apply sound_psRdy)
    | split

theorem sound_dischargeDone (n : Nat) (s : State) (hs : Sound s) : Sound (dischargeDone n s) := by
  delta dischargeDone
  repeat' first
    | with_reducible assumption | with_reducible refine Sound.ite ?_ (fun hx => ?_)
    | (with_reducible first | apply sound_dischargeEnd | apply sound_zeroVolts)

theorem sound_dischargeTimeout (n : Nat) (s : State) (hs : Sound s) : Sound (dischargeTimeout n s) := by
  delta dischargeTimeout
  repeat' first
    | with_reducible assumption | with_reducible refine Sound.ite ?_ (fun hx => ?_)
    | (with_reducible first | apply sound_vbusHeld | apply sound_dischargeEnd)

theorem sound_meterEvents (s : State) (n : Nat) (old : Ppc) (x : Sample) (hs : Sound s) : Sound (meterEvents s n old x) := by
  delta meterEvents
  repeat' first
    | with_reducible assumption | (intro _)
    | ((fail_if_no_progress extract_lets -merge -useContext +onlyGivenNames x); (first | (refine Sound.step (x := x) ?_ (fun hx => ?_); on_goal 1 => subst x) | skip))
    | with_reducible refine Sound.ite ?_ (fun hx => ?_)
    | (with_reducible first | apply sound_State_modPpc | apply sound_powerEvent)

theorem sound_judgeSample (s : State) (n : Nat) (x : Sample) (hs : Sound s) : Sound (judgeSample s n x) := by
  delta judgeSample
  repeat' first
    | with_reducible assumption | (intro _)
    | ((fail_if_no_progress extract_lets -merge -useContext +onlyGivenNames x); (first | (refine Sound.step (x := x) ?_ (fun hx => ?_); on_goal 1 => subst x) | skip))
    | with_reducible refine Sound.ite ?_ (fun hx => ?_)
    | (with_reducible first | apply sound_slew | apply sound_State_modPpc | apply sound_setOp | apply sound_powerEvent | apply sound_trip)
    | split

theorem sound_feedSettle (s : State) (b : Bool) (hs : Sound s) : Sound (feedSettle s b) := by
  delta feedSettle
  repeat' first
    | with_reducible assumption | (intro _)
    | ((fail_if_no_progress extract_lets -merge -useContext +onlyGivenNames x); (first | (refine Sound.step (x := x) ?_ (fun hx => ?_); on_goal 1 => subst x) | skip))
    | (with_reducible first | apply sound_State_modFeed | apply sound_pbaTrigger) | split
    | with_reducible refine Sound.lift ?_ rfl rfl rfl rfl rfl rfl rfl rfl rfl rfl rfl rfl rfl rfl rfl rfl rfl

theorem sound_feedSample (s : State) (b : Bool) (x : Sample) (wrapEvent : State → State) (hs : Sound s) (hwrapEvent : ∀ x0, Sound x0 → Sound (wrapEvent x0)) : Sound (feedSample s b x wrapEvent) := by
  delta feedSample
  repeat' first
    | with_reducible assumption | (intro _)
    | ((fail_if_no_progress extract_lets -merge -useContext +onlyGivenNames x); (first | (refine Sound.step (x := x) ?_ (fun hx => ?_); on_goal 1 => subst x) | skip))
    | with_reducible refine Sound.ite ?_ (fun hx => ?_)
    | (with_reducible first | apply sound_State_modFeed | apply sound_feedSettle | apply hwrapEvent)

theorem sound_feedEvent (s : State) (b : Bool) (k code : Nat) (hs : Sound s) : Sound (feedEvent s b k code) := by
  delta feedEvent
  repeat' first
    | with_reducible assumption | (with_reducible first | apply sound_raise)

theorem sound_meterSample (ch : Chan) (s : State) (hs : Sound s) : Sound (meterSample ch s) := by
  delta meterSample
  repeat' first
    | with_reducible assumption | (intro _)
    | ((fail_if_no_progress extract_lets -merge -useContext +onlyGivenNames x); (first | (refine Sound.step (x := x) ?_ (fun hx => ?_); on_goal 1 => subst x) | skip))
    | (with_reducible first | apply sound_State_modPpc | apply sound_meterEvents | apply sound_judgeSample | apply sound_feedSample | apply sound_feedEvent)
    | split | with_reducible refine Sound.lift ?_ rfl rfl rfl rfl rfl rfl rfl rfl rfl rfl rfl rfl rfl rfl rfl rfl rfl

theorem sound_initDone (s : State) (n : Nat) (st : CState) (hs : Sound s) : Sound (initDone s n st) := by
  delta initDone
  repeat' first
    | with_reducible assumption | (intro _)
    | ((fail_if_no_progress extract_lets -merge -useContext +onlyGivenNames x); (first | (refine Sound.step (x := x) ?_ (fun hx => ?_); on_goal 1 => subst x) | skip))
    | with_reducible refine Sound.ite ?_ (fun hx => ?_)
    | (with_reducible first | apply sound_finishWait | apply sound_State_modConv | apply sound_pbaTrigger)

theorem sound_convEvent (s : State) (b : Bool) (conv code kind : Nat) (hs : Sound s) : Sound (convEvent s b conv code kind) := by
  delta convEvent
  repeat' first
    | with_reducible assumption | (with_reducible first | apply sound_raise)

theorem sound_statusRead (s : State) (n w : Nat) (hs : Sound s) : Sound (statusRead s n w) := by
  delta statusRead
  repeat' first
    | with_reducible assumption | (intro _)
    | ((fail_if_no_progress extract_lets -merge -useContext +onlyGivenNames x); (first | (refine Sound.step (x := x) ?_ (fun hx => ?_); on_goal 1 => subst x) | skip))
    | with_reducible refine Sound.ite ?_ (fun hx => ?_)
    | (with_reducible first | apply sound_raise | apply sound_State_modConv | apply sound_trip)

theorem sound_txnOk (s : State) (b : Bool) (t : Txn) (data : Nat) (hs : Sound s) : Sound (txnOk s b t data) := by
  delta txnOk
  repeat' first
    | with_reducible assumption | (intro _)
    | ((fail_if_no_progress extract_lets -merge -useContext +onlyGivenNames x); (first | (refine Sound.step (x := x) ?_ (fun hx => ?_); on_goal 1 => subst x) | skip))
    | with_reducible refine Sound.ite ?_ (fun hx => ?_)
    | (with_reducible first | apply sound_slew | apply sound_State_modConv | apply sound_State_modSeg | apply sound_unsupported | apply sound_initDone | apply sound_convEvent | apply sound_statusRead)
    | split

theorem sound_txnFail (s : State) (b : Bool) (kind : Nat) (hs : Sound s) : Sound (txnFail s b kind) := by
  delta txnFail
  repeat' first
    | with_reducible assumption | (intro _)
    | ((fail_if_no_progress extract_lets -merge -useContext +onlyGivenNames x); (refine Sound.step (x := x) ?_ (fun hx => ?_); on_goal 1 => subst x))
    | with_reducible refine Sound.ite ?_ (fun hx => ?_)
    | (with_reducible first | apply sound_State_modConv | apply sound_State_modSeg | apply sound_segNext | apply sound_initDone | apply sound_convEvent)
    | split

theorem sound_txnSeen (s : State) (b : Bool) (t : BusTxn) (data : Nat) (hs : Sound s) : Sound (txnSeen s b t data) := by
  delta txnSeen
  repeat' first
    | with_reducible assumption | (intro _)
    | (fail_if_no_progress extract_lets -merge -useContext +onlyGivenNames x)
    | with_reducible refine Sound.ite ?_ (fun hx => ?_)
    | (with_reducible first | apply sound_slew | apply sound_State_modConv | apply sound_unsupported | apply sound_statusRead)

theorem sound_pmbusTransactionDone (b : Bool) (seen : Option BusTxn) (res : TxnRes) (s : State) (hs : Sound s) : Sound (pmbusTransactionDone b seen res s) := by
  delta pmbusTransactionDone
  repeat' first
    | with_reducible assumption | (intro _) | with_reducible refine Sound.ite ?_ (fun hx => ?_)
    | (with_reducible first | apply sound_State_modSeg | apply sound_segNext | apply sound_txnOk | apply sound_txnFail | apply sound_txnSeen)
    | split

theorem sound_pmbusInit (n : Nat) (s : State) (hs : Sound s) : Sound (pmbusInit n s) := by
  delta pmbusInit
  repeat' first
    | with_reducible assumption | (intro _) | with_reducible refine Sound.ite ?_ (fun hx => ?_)
    | (with_reducible first | apply sound_State_modConv | apply sound_segNext)

theorem sound_pmbusBusStuck (b : Bool) (s : State) (hs : Sound s) : Sound (pmbusBusStuck b s) := by
  delta pmbusBusStuck
  repeat' first
    | with_reducible assumption | (intro _)
    | (fail_if_no_progress extract_lets -merge -useContext +onlyGivenNames x)
    | with_reducible refine Sound.ite ?_ (fun hx => ?_)
    | (with_reducible first | apply sound_State_modSeg | apply sound_convEvent)

theorem sound_pmbusPoll (b : Bool) (s : State) (hs : Sound s) : Sound (pmbusPoll b s) := by
  delta pmbusPoll
  repeat' first
    | with_reducible assumption | (intro _) | with_reducible refine Sound.ite ?_ (fun hx => ?_)
    | (with_reducible first | apply sound_State_modSeg | apply sound_segNext) | split

theorem sound_pmbusAlert (b : Bool) (s : State) (hs : Sound s) : Sound (pmbusAlert b s) := by
  delta pmbusAlert
  repeat' first
    | with_reducible assumption | (intro _) | with_reducible refine Sound.ite ?_ (fun hx => ?_)
    | (with_reducible first | apply sound_State_modSeg | apply sound_segNext)

theorem sound_sinkPathIdealDiode (u : Up) (reverse : Bool) (s : State) (hs : Sound s) : Sound (sinkPathIdealDiode u reverse s) := by
  delta sinkPathIdealDiode
  repeat' first
    | with_reducible assumption | (intro _)
    | (fail_if_no_progress extract_lets -merge -useContext +onlyGivenNames x)
    | (with_reducible first | apply sound_State_modPpc) | split

theorem sound_shedPort (s : State) (n : Nat) (why : ShedWhy) (hs : Sound s) : Sound (shedPort s n why) := by
  delta shedPort
  repeat' first
    | with_reducible assumption | (intro _) | with_reducible refine Sound.ite ?_ (fun hx => ?_)
    | (with_reducible first | apply sound_State_modPb | apply sound_powerOff)

theorem sound_shedPorts (s : State) (why : ShedWhy) (l : List Nat) (hs : Sound s) : Sound (shedPorts s why l) := by
  delta shedPorts
  repeat' first
    | with_reducible assumption | (intro _)
    | (with_reducible first | apply sound_shedPort | apply Sound.fold)

theorem sound_ewAssert (s : State) (hs : Sound s) : Sound (ewAssert s) := by
  delta ewAssert
  repeat' first
    | with_reducible assumption | (intro _)
    | ((fail_if_no_progress extract_lets -merge -useContext +onlyGivenNames x); (first | (refine Sound.step (x := x) ?_ (fun hx => ?_); on_goal 1 => subst x) | skip))
    | (with_reducible first | apply sound_State_modPb | apply sound_frsSignal | apply sound_shedPorts | apply Sound.fold | apply Sound.foldP)
    | with_reducible refine Sound.lift ?_ rfl rfl rfl rfl rfl rfl rfl rfl rfl rfl rfl rfl rfl rfl rfl rfl rfl

theorem sound_unshed (s : State) (n : Nat) (hs : Sound s) : Sound (unshed s n) := by
  delta unshed
  repeat' first
    | with_reducible assumption | (intro _) | (with_reducible first | apply sound_State_modPb | apply sound_powerOn)

theorem sound_restoreClass (s : State) (why : ShedWhy) (c : Nat) (hs : Sound s) : Sound (restoreClass s why c) := by
  delta restoreClass
  repeat' first
    | with_reducible assumption | (intro _)
    | ((fail_if_no_progress extract_lets -merge -useContext +onlyGivenNames x); (first | (refine Sound.step (x := x) ?_ (fun hx => ?_); on_goal 1 => subst x) | skip))
    | with_reducible refine Sound.ite ?_ (fun hx => ?_)
    | (with_reducible first | apply sound_unshed | apply Sound.fold | apply Sound.foldP) | split
    | with_reducible refine Sound.lift ?_ rfl rfl rfl rfl rfl rfl rfl rfl rfl rfl rfl rfl rfl rfl rfl rfl rfl

theorem sound_ewDeassert (s : State) (hs : Sound s) : Sound (ewDeassert s) := by
  delta ewDeassert
  repeat' first
    | with_reducible assumption | (intro _)
    | ((fail_if_no_progress extract_lets -merge -useContext +onlyGivenNames x); (first | (refine Sound.step (x := x) ?_ (fun hx => ?_); on_goal 1 => subst x) | skip))
    | (with_reducible first | apply sound_State_modPb | apply sound_restoreClass | apply Sound.fold | apply Sound.foldP)
    | with_reducible refine Sound.lift ?_ rfl rfl rfl rfl rfl rfl rfl rfl rfl rfl rfl rfl rfl rfl rfl rfl rfl

theorem sound_feedShift (s : State) (hs : Sound s) : Sound (feedShift s) := by
  delta feedShift
  repeat' first
    | with_reducible assumption | (intro _)
    | (fail_if_no_progress extract_lets -merge -useContext +onlyGivenNames x)
    | with_reducible refine Sound.ite ?_ (fun hx => ?_)
    | (with_reducible first | apply sound_shedPorts | apply sound_restoreClass) | split
    | with_reducible refine Sound.lift ?_ rfl rfl rfl rfl rfl rfl rfl rfl rfl rfl rfl rfl rfl rfl rfl rfl rfl

theorem sound_ewEval (s : State) (was : Nat) (hs : Sound s) : Sound (ewEval s was) := by
  delta ewEval
  repeat' first
    | with_reducible assumption
    | (fail_if_no_progress extract_lets -merge -useContext +onlyGivenNames x)
    | with_reducible refine Sound.ite ?_ (fun hx => ?_)
    | (with_reducible first | apply sound_pbaTrigger | apply sound_ewAssert | apply sound_ewDeassert | apply sound_feedShift)

theorem sound_feedEnter (s : State) (b : Bool) (st : FeedSt) (gate : Bool) (ev : State → State) (hs : Sound s) (hev : ∀ x0, Sound x0 → Sound (ev x0)) : Sound (feedEnter s b st gate ev) := by
  delta feedEnter
  repeat' first
    | with_reducible assumption | (intro _)
    | ((fail_if_no_progress extract_lets -merge -useContext +onlyGivenNames x); (first | (refine Sound.step (x := x) ?_ (fun hx => ?_); on_goal 1 => subst x) | skip))
    | with_reducible refine Sound.ite ?_ (fun hx => ?_)
    | (with_reducible first | apply sound_State_modFeed | apply sound_ewEval | apply hev) | split
    | with_reducible refine Sound.lift ?_ rfl rfl rfl rfl rfl rfl rfl rfl rfl rfl rfl rfl rfl rfl rfl rfl rfl

theorem sound_feedAbsent (b : Bool) (s : State) (hs : Sound s) : Sound (feedAbsent b s) := by
  delta feedAbsent
  repeat' first
    | with_reducible assumption | (intro _)
    | ((fail_if_no_progress extract_lets -merge -useContext +onlyGivenNames x); (first | (refine Sound.step (x := x) ?_ (fun hx => ?_); on_goal 1 => subst x) | skip))
    | with_reducible refine Sound.ite ?_ (fun hx => ?_)
    | (with_reducible first | apply sound_State_modFeed | apply sound_holdSinks | apply sound_feedEvent | apply sound_feedEnter)
    | split

theorem sound_feedQualifyStart (b : Bool) (s : State) (hs : Sound s) : Sound (feedQualifyStart b s) := by
  delta feedQualifyStart
  repeat' first
    | with_reducible assumption | (intro _) | (with_reducible first | apply sound_State_modFeed) | split

theorem sound_feedQualified (b : Bool) (s : State) (hs : Sound s) : Sound (feedQualified b s) := by
  delta feedQualified
  repeat' first
    | with_reducible assumption | (intro _) | with_reducible refine Sound.ite ?_ (fun hx => ?_)
    | (with_reducible first | apply sound_State_modFeed | apply sound_feedEvent | apply sound_feedEnter) | split

theorem sound_feedWarning (b : Bool) (s : State) (hs : Sound s) : Sound (feedWarning b s) := by
  delta feedWarning
  repeat' first
    | with_reducible assumption | (intro _) | (with_reducible first | apply sound_feedEvent | apply sound_feedEnter)
    | split

theorem sound_feedWarningClear (b : Bool) (s : State) (hs : Sound s) : Sound (feedWarningClear b s) := by
  delta feedWarningClear
  repeat' first
    | with_reducible assumption | (intro _) | (with_reducible first | apply sound_feedEvent | apply sound_feedEnter)
    | split

theorem sound_feedOvervolt (b : Bool) (s : State) (hs : Sound s) : Sound (feedOvervolt b s) := by
  delta feedOvervolt
  repeat' first
    | with_reducible assumption | (intro _) | (with_reducible first | apply sound_feedEvent | apply sound_feedEnter)
    | split

theorem sound_feedOvReturn (b : Bool) (s : State) (hs : Sound s) : Sound (feedOvReturn b s) := by
  delta feedOvReturn
  repeat' first
    | with_reducible assumption | (intro _) | (with_reducible first | apply sound_feedEvent | apply sound_feedEnter)
    | split

theorem sound_feedReverseOff (b : Bool) (s : State) (hs : Sound s) : Sound (feedReverseOff b s) := by
  delta feedReverseOff
  repeat' first
    | with_reducible assumption | (intro _) | with_reducible refine Sound.ite ?_ (fun hx => ?_)
    | (with_reducible first | apply sound_State_modFeed | apply sound_feedEvent)

theorem sound_feedForwardReenable (b : Bool) (s : State) (hs : Sound s) : Sound (feedForwardReenable b s) := by
  delta feedForwardReenable
  repeat' first
    | with_reducible assumption | (intro _) | with_reducible refine Sound.ite ?_ (fun hx => ?_)
    | (with_reducible first | apply sound_State_modFeed | apply sound_feedEvent)

theorem sound_ocShed (s : State) (b : Bool) (c : Nat) (hs : Sound s) : Sound (ocShed s b c) := by
  delta ocShed
  repeat' first
    | with_reducible assumption | (intro _)
    | (fail_if_no_progress extract_lets -merge -useContext +onlyGivenNames x)
    | (with_reducible first | apply sound_State_modFeed | apply sound_pbaTrigger | apply sound_shedPorts)

theorem sound_feedOvercurrent (b : Bool) (s : State) (hs : Sound s) : Sound (feedOvercurrent b s) := by
  delta feedOvercurrent
  repeat' first
    | with_reducible assumption | (intro _)
    | ((fail_if_no_progress extract_lets -merge -useContext +onlyGivenNames x); (first | (refine Sound.step (x := x) ?_ (fun hx => ?_); on_goal 1 => subst x) | skip))
    | with_reducible refine Sound.ite ?_ (fun hx => ?_)
    | (with_reducible first | apply sound_State_modFeed | apply sound_feedEvent | apply sound_ocShed) | split
    | with_reducible refine Sound.lift ?_ rfl rfl rfl rfl rfl rfl rfl rfl rfl rfl rfl rfl rfl rfl rfl rfl rfl

theorem sound_feedOvercurrentShedStep (b : Bool) (s : State) (hs : Sound s) : Sound (feedOvercurrentShedStep b s) := by
  delta feedOvercurrentShedStep
  repeat' first
    | with_reducible assumption | (intro _)
    | (fail_if_no_progress extract_lets -merge -useContext +onlyGivenNames x)
    | with_reducible refine Sound.ite ?_ (fun hx => ?_)
    | (with_reducible first | apply sound_State_modFeed | apply sound_ocShed)

theorem sound_feedOvercurrentCleared (b : Bool) (s : State) (hs : Sound s) : Sound (feedOvercurrentCleared b s) := by
  delta feedOvercurrentCleared
  repeat' first
    | with_reducible assumption | (intro _)
    | ((fail_if_no_progress extract_lets -merge -useContext +onlyGivenNames x); (refine Sound.step (x := x) ?_ (fun hx => ?_); on_goal 1 => subst x))
    | with_reducible refine Sound.ite ?_ (fun hx => ?_)
    | (with_reducible first | apply sound_State_modFeed | apply sound_pbaTrigger | apply sound_feedEvent | apply sound_restoreClass)

theorem sound_restoreClassStep (why : ShedWhy) (s : State) (hs : Sound s) : Sound (restoreClassStep why s) := by
  delta restoreClassStep
  repeat' first
    | with_reducible assumption | (with_reducible first | apply sound_pbaTrigger | apply sound_restoreClass) | split

theorem sound_finishBudget (s : State) (hs : Sound s) : Sound (finishBudget s) := by
  delta finishBudget
  repeat' first
    | with_reducible assumption | (intro _)
    | (with_reducible first | apply sound_finishWait | apply Sound.fold | apply Sound.foldP) | split
    | with_reducible refine Sound.lift ?_ rfl rfl rfl rfl rfl rfl rfl rfl rfl rfl rfl rfl rfl rfl rfl rfl rfl

theorem sound_allocNotify (s : State) (n old : Nat) (hs : Sound s) : Sound (allocNotify s n old) := by
  delta allocNotify
  repeat' first
    | with_reducible assumption | (intro _)
    | ((fail_if_no_progress extract_lets -merge -useContext +onlyGivenNames x); (first | (refine Sound.step (x := x) ?_ (fun hx => ?_); on_goal 1 => subst x) | (refine Sound.stepF (f := x) ?_ (fun hf => ?_); on_goal 1 => subst x)))
    | with_reducible refine Sound.ite ?_ (fun hx => ?_) | with_reducible apply hf
    | (with_reducible first | apply sound_idle | apply sound_applyLimit | apply sound_idleConverter | apply sound_powerOff | apply sound_powerOn | apply sound_markCaps)
    | (fail_if_no_progress beta_reduce) | split
    | with_reducible refine Sound.lift ?_ rfl rfl rfl rfl rfl rfl rfl rfl rfl rfl rfl rfl rfl rfl rfl rfl rfl

theorem sound_applyDecreases (new : List Nat) : ∀ (l : List Nat) (s : State), Sound s → Sound (applyDecreases new l s) := by
  intro l; induction l with
  | nil => exact fun _ h => h
  | cons n l ih =>
    intro s hs
    unfold applyDecreases
    repeat' first
      | with_reducible assumption | (intro _)
      | ((fail_if_no_progress extract_lets -merge -useContext +onlyGivenNames x); (first | (refine Sound.step (x := x) ?_ (fun hx => ?_); on_goal 1 => subst x) | skip))
      | with_reducible refine Sound.ite ?_ (fun hx => ?_)
      | (with_reducible first | apply ih | apply sound_State_modPb | apply sound_allocNotify)

theorem sound_releaseAll (s : State) (hs : Sound s) : Sound (releaseAll s) := by
  delta releaseAll
  repeat' first
    | with_reducible assumption | with_reducible refine Sound.ite ?_ (fun hx => ?_)
    | (with_reducible first | apply sound_releaseIncreases | apply sound_allocNotify)

theorem sound_swapBack (s : State) (n : Nat) (hs : Sound s) : Sound (swapBack s n) := by
  delta swapBack
  repeat' first
    | with_reducible assumption | (intro _)
    | ((fail_if_no_progress extract_lets -merge -useContext +onlyGivenNames x); (first | (refine Sound.step (x := x) ?_ (fun hx => ?_); on_goal 1 => subst x) | skip))
    | with_reducible refine Sound.ite ?_ (fun hx => ?_) | (with_reducible first | apply sound_State_modPde) | split
    | with_reducible refine Sound.lift ?_ rfl rfl rfl rfl rfl rfl rfl rfl rfl rfl rfl rfl rfl rfl rfl rfl rfl

theorem sound_sinkFedStep (s : State) (hs : Sound s) : Sound (sinkFedStep s) := by
  delta sinkFedStep
  repeat' first
    | with_reducible assumption
    | (fail_if_no_progress extract_lets -merge -useContext +onlyGivenNames x)
    | with_reducible refine Sound.ite ?_ (fun hx => ?_) | split
    | with_reducible refine Sound.lift ?_ rfl rfl rfl rfl rfl rfl rfl rfl rfl rfl rfl rfl rfl rfl rfl rfl rfl

theorem sound_budgetStep (s : State) (cause : Nat) (hs : Sound s) : Sound (budgetStep s cause) := by
  delta budgetStep
  repeat' first
    | with_reducible assumption
    | ((fail_if_no_progress extract_lets -merge -useContext +onlyGivenNames x); (first | (refine Sound.step (x := x) ?_ (fun hx => ?_); on_goal 1 => subst x) | skip))
    | with_reducible refine Sound.ite ?_ (fun hx => ?_)
    | (with_reducible first | apply sound_budgetEvent | apply sound_restoreClass) | split
    | with_reducible refine Sound.lift ?_ rfl rfl rfl rfl rfl rfl rfl rfl rfl rfl rfl rfl rfl rfl rfl rfl rfl

theorem sound_allocRecompute (s : State) (hs : Sound s) : Sound (allocRecompute s) := by
  have h1 : Sound (ewEval { s with pba := { s.pba with table := ewTable s } } (healthy { s with pba := { s.pba with table := ewTable s } })) :=
    sound_ewEval _ _ (hs.lift rfl rfl rfl rfl rfl rfl rfl rfl rfl rfl rfl rfl rfl rfl rfl rfl rfl)
  have h2 := sound_sinkFedStep _ h1
  have h3 : ∀ t : State, Sound t → ∀ c, Sound (budgetStep { t with pba := { t.pba with trigger := none } } c) := fun t h c =>
    sound_budgetStep _ _ (h.lift rfl rfl rfl rfl rfl rfl rfl rfl rfl rfl rfl rfl rfl rfl rfl rfl rfl)
  have h4 := h3 _ h2
  have h5 : ∀ t : State, Sound t → ∀ (c : Prop) [Decidable c], Sound (finishBudget (swapBack (swapBack (if c then t else allPorts.foldl markCaps t) 33) 34)) :=
    fun t h c _ => sound_finishBudget _ (sound_swapBack _ _ (sound_swapBack _ _ (Sound.ite (Sound.fold sound_markCaps _ _ h) (fun _ => h))))
  exact h5 _ (sound_releaseAll _ (sound_applyDecreases _ _ _ (h4 _))) _

theorem sound_shedPlanRefresh (s : State) (hs : Sound s) : Sound (shedPlanRefresh s) := by
  delta shedPlanRefresh
  repeat' first
    | with_reducible assumption
    | with_reducible refine Sound.lift ?_ rfl rfl rfl rfl rfl rfl rfl rfl rfl rfl rfl rfl rfl rfl rfl rfl rfl

theorem sound_enforce (s : State) (n : Nat) (hs : Sound s) : Sound (enforce s n) := by
  delta enforce
  repeat' first
    | with_reducible assumption | with_reducible refine Sound.ite ?_ (fun hx => ?_)
    | (with_reducible first | apply sound_shortfallEvent | apply sound_sendHardReset)

theorem sound_committedOverBudget (s : State) (hs : Sound s) : Sound (committedOverBudget s) := by
  delta committedOverBudget
  repeat' first
    | with_reducible assumption | (intro _)
    | (fail_if_no_progress extract_lets -merge -useContext +onlyGivenNames x)
    | with_reducible refine Sound.ite ?_ (fun hx => ?_)
    | (with_reducible first | apply sound_shortfallEvent | apply sound_enforce | apply Sound.fold)

theorem sound_answer (s : State) (u : Up) (a : Ans) (hs : Sound s) : Sound (answer s u a) := by
  delta answer
  repeat' first
    | with_reducible assumption | (intro _) | with_reducible refine Sound.ite ?_ (fun hx => ?_)
    | (with_reducible first | apply sound_State_modUp)

theorem sound_present (s : State) (u : Up) (fn : Fn) (f : State → State) (hs : Sound s) (hf : ∀ x0, Sound x0 → Sound (f x0)) : Sound (present s u fn f) := by
  delta present
  repeat' first
    | with_reducible assumption | (intro _)
    | (fail_if_no_progress extract_lets -merge -useContext +onlyGivenNames x)
    | with_reducible refine Sound.ite ?_ (fun hx => ?_) | (with_reducible first | apply sound_answer | apply hf)

theorem sound_onPort (s : State) (u : Up) (fn : Fn) (n : Nat) (f : State → State) (hs : Sound s) (hf : ∀ x0, Sound x0 → Sound (f x0)) : Sound (onPort s u fn n f) := by
  delta onPort
  repeat' first
    | with_reducible assumption | (intro _) | with_reducible refine Sound.ite ?_ (fun hx => ?_)
    | (with_reducible first | apply sound_answer | apply sound_present | apply hf)

theorem sound_getPortStatus (u : Up) (fn : Fn) (n : Nat) (s : State) (hs : Sound s) : Sound (getPortStatus u fn n s) := by
  delta getPortStatus
  repeat' first
    | with_reducible assumption | (intro _) | (with_reducible first | apply sound_answer | apply sound_onPort)

theorem sound_dropResponses (s : State) (u : Up) (hs : Sound s) : Sound (dropResponses s u) := by
  delta dropResponses
  repeat' first
    | with_reducible assumption | (intro _)
    | ((fail_if_no_progress extract_lets -merge -useContext +onlyGivenNames x); (first | (refine Sound.step (x := x) ?_ (fun hx => ?_); on_goal 1 => subst x) | skip))
    | with_reducible refine Sound.ite ?_ (fun hx => ?_) | with_reducible apply hf
    | (with_reducible first | apply sound_State_modUp | apply sound_raiseUp | apply sound_State_modTr)
    | (fail_if_no_progress beta_reduce) | split
    | with_reducible refine Sound.lift ?_ rfl rfl rfl rfl rfl rfl rfl rfl rfl rfl rfl rfl rfl rfl rfl rfl rfl

theorem sound_resetMgmt (s : State) (u : Up) (hs : Sound s) : Sound (resetMgmt s u) := by
  delta resetMgmt
  repeat' first
    | with_reducible assumption | (intro _)
    | (with_reducible first | apply sound_State_modUp | apply sound_dropResponses)

theorem sound_hostReset (s : State) (u : Up) (l : Loc) (top : Nat) (hs : Sound s) : Sound (hostReset s u l top) := by
  delta hostReset
  repeat' first
    | with_reducible assumption | (intro _)
    | ((fail_if_no_progress extract_lets -merge -useContext +onlyGivenNames x); (refine Sound.step (x := x) ?_ (fun hx => ?_); on_goal 1 => subst x))
    | (with_reducible first | apply sound_State_modUp | apply sound_State_modPx | apply sound_State_modId | apply sound_State_modTun | apply sound_sendTun)
    | split

theorem sound_virtualReset (s : State) (u : Up) (l : Loc) (hs : Sound s) : Sound (virtualReset s u l) := by
  delta virtualReset
  repeat' first
    | with_reducible assumption | (intro _)
    | (with_reducible first | apply sound_State_modPx | apply sound_setLife | apply sound_hostReset)

theorem sound_realReset (s : State) (u : Up) (l : Loc) (hs : Sound s) : Sound (realReset s u l) := by
  delta realReset
  repeat' first
    | with_reducible assumption | (intro _)
    | ((fail_if_no_progress extract_lets -merge -useContext +onlyGivenNames x); (first | (refine Sound.step (x := x) ?_ (fun hx => ?_); on_goal 1 => subst x) | skip))
    | (with_reducible first | apply sound_State_modPx | apply sound_ownerEvent | apply sound_startRefill | apply sound_hostReset)
    | split

theorem sound_pxReset (s : State) (u : Up) (l : Loc) (hs : Sound s) : Sound (pxReset s u l) := by
  delta pxReset
  repeat' first
    | with_reducible assumption | (intro _)
    | (fail_if_no_progress extract_lets -merge -useContext +onlyGivenNames x)
    | with_reducible refine Sound.ite ?_ (fun hx => ?_)
    | (with_reducible first | apply sound_State_modPx | apply sound_virtualReset | apply sound_realReset)

theorem sound_emptyReset (s : State) (u : Up) (n : Nat) (hs : Sound s) : Sound (emptyReset s u n) := by
  delta emptyReset
  repeat' first
    | with_reducible assumption | (intro _) | (with_reducible first | apply sound_State_modView)

theorem sound_resetUsb2 (s : State) (u : Up) (n : Nat) (hs : Sound s) : Sound (resetUsb2 s u n) := by
  delta resetUsb2
  repeat' first
    | with_reducible assumption
    | (fail_if_no_progress extract_lets -merge -useContext +onlyGivenNames x)
    | with_reducible refine Sound.ite ?_ (fun hx => ?_)
    | (with_reducible first | apply sound_startWireReset | apply sound_resetMgmt | apply sound_pxReset | apply sound_emptyReset)
    | split

theorem sound_resetSs (s : State) (u : Up) (n : Nat) (hs : Sound s) : Sound (resetSs s u n) := by
  delta resetSs
  repeat' first
    | with_reducible assumption | (intro _) | with_reducible refine Sound.ite ?_ (fun hx => ?_)
    | (with_reducible first | apply sound_State_modSsView | apply sound_setLink)

theorem sound_setPortReset (u : Up) (fn : Fn) (n : Nat) (s : State) (hs : Sound s) : Sound (setPortReset u fn n s) := by
  delta setPortReset
  repeat' first
    | with_reducible assumption | (intro _)
    | (with_reducible first | apply sound_onPort | apply sound_resetUsb2 | apply sound_resetSs) | split

theorem sound_sleepEnter (s : State) (p code : Nat) (hs : Sound s) : Sound (sleepEnter s p code) := by
  delta sleepEnter
  repeat' first
    | with_reducible assumption
    | (fail_if_no_progress extract_lets -merge -useContext +onlyGivenNames x)
    | (with_reducible first | apply sound_State_drawn | apply sound_raisePort) | split

theorem sound_doSuspend (s : State) (p : Nat) (hs : Sound s) : Sound (doSuspend s p) := by
  delta doSuspend
  repeat' first
    | with_reducible assumption | (intro _)
    | (with_reducible first | apply sound_State_modPort | apply sound_sleepEnter)

theorem sound_suspendPhys (s : State) (u : Up) (p : Nat) (hs : Sound s) : Sound (suspendPhys s u p) := by
  delta suspendPhys
  repeat' first
    | with_reducible assumption | (intro _)
    | (fail_if_no_progress extract_lets -merge -useContext +onlyGivenNames x)
    | with_reducible refine Sound.ite ?_ (fun hx => ?_)
    | (with_reducible first | apply sound_State_modPort | apply sound_answer | apply sound_doSuspend) | split

theorem sound_setPortSuspend (u : Up) (n : Nat) (s : State) (hs : Sound s) : Sound (setPortSuspend u n s) := by
  delta setPortSuspend
  repeat' first
    | with_reducible assumption | (intro _) | with_reducible refine Sound.ite ?_ (fun hx => ?_)
    | (with_reducible first | apply sound_State_modUp | apply sound_State_modVPort | apply sound_sendTun | apply sound_answer | apply sound_onPort | apply sound_suspendPhys)

theorem sound_hostResume (s : State) (p : Nat) (follows : Bool) (hs : Sound s) : Sound (hostResume s p follows) := by
  delta hostResume
  repeat' first
    | with_reducible assumption
    | (fail_if_no_progress extract_lets -merge -useContext +onlyGivenNames x)
    | (with_reducible first | apply sound_startResume | apply sound_mergeResume) | split

theorem sound_clearPortSuspend (u : Up) (n : Nat) (s : State) (hs : Sound s) : Sound (clearPortSuspend u n s) := by
  delta clearPortSuspend
  repeat' first
    | with_reducible assumption | (intro _) | with_reducible refine Sound.ite ?_ (fun hx => ?_)
    | (with_reducible first | apply sound_State_modUp | apply sound_sendTun | apply sound_onPort | apply sound_hostResume)
    | split

theorem sound_viewDisable (s : State) (l : Loc) (hs : Sound s) : Sound (viewDisable s l) := by
  delta viewDisable
  repeat' first
    | with_reducible assumption | (intro _) | (with_reducible first | apply sound_State_modPx)

theorem sound_linkDisable (s : State) (p : Nat) (hs : Sound s) : Sound (linkDisable s p) := by
  delta linkDisable
  repeat' first
    | with_reducible assumption | (intro _) | with_reducible refine Sound.ite ?_ (fun hx => ?_)
    | (with_reducible first | apply sound_State_modPort | apply sound_idle | apply sound_settleWire)

theorem sound_clearPortEnable (u : Up) (n : Nat) (s : State) (hs : Sound s) : Sound (clearPortEnable u n s) := by
  delta clearPortEnable
  repeat' first
    | with_reducible assumption | (intro _)
    | (fail_if_no_progress extract_lets -merge -useContext +onlyGivenNames x)
    | with_reducible refine Sound.ite ?_ (fun hx => ?_)
    | (with_reducible first | apply sound_State_modUp | apply sound_onPort | apply sound_viewDisable | apply sound_linkDisable)
    | split

theorem sound_vportPower (s : State) (u : Up) (n : Nat) (hs : Sound s) : Sound (vportPower s u n) := by
  delta vportPower
  repeat' first
    | with_reducible assumption | (with_reducible first | apply sound_syncConn)

theorem sound_setPortPower (u : Up) (fn : Fn) (n : Nat) (s : State) (hs : Sound s) : Sound (setPortPower u fn n s) := by
  delta setPortPower
  repeat' first
    | with_reducible assumption | (intro _)
    | ((fail_if_no_progress extract_lets -merge -useContext +onlyGivenNames x); (refine Sound.step (x := x) ?_ (fun hx => ?_); on_goal 1 => subst x))
    | with_reducible refine Sound.ite ?_ (fun hx => ?_)
    | (with_reducible first | apply sound_State_modPort | apply sound_State_modView | apply sound_State_modSsView | apply sound_syncConn | apply sound_syncSs | apply sound_unpark | apply sound_ppcRequest | apply sound_onPort | apply sound_vportPower)
    | split

theorem sound_clearPortPower (u : Up) (fn : Fn) (n : Nat) (s : State) (hs : Sound s) : Sound (clearPortPower u fn n s) := by
  delta clearPortPower
  repeat' first
    | with_reducible assumption | (intro _)
    | ((fail_if_no_progress extract_lets -merge -useContext +onlyGivenNames x); (refine Sound.step (x := x) ?_ (fun hx => ?_); on_goal 1 => subst x))
    | with_reducible refine Sound.ite ?_ (fun hx => ?_)
    | (with_reducible first | apply sound_State_modPort | apply sound_State_modView | apply sound_State_modSsView | apply sound_syncConn | apply sound_syncSs | apply sound_ppcRequest | apply sound_onPort)
    | split

theorem sound_setPortTest (u : Up) (n : Nat) (sel : TestSel) (s : State) (hs : Sound s) : Sound (setPortTest u n sel s) := by
  delta setPortTest
  repeat' first
    | with_reducible assumption | (intro _) | with_reducible refine Sound.ite ?_ (fun hx => ?_)
    | (with_reducible first | apply sound_State_modPort | apply sound_answer | apply sound_onPort)

theorem sound_setPortIndicator (u : Up) (u_n : Nat) (s : State) (hs : Sound s) : Sound (setPortIndicator u u_n s) := by
  delta setPortIndicator
  repeat' first
    | with_reducible assumption | (with_reducible first | apply sound_answer)

theorem sound_clearPortC (u : Up) (fn : Fn) (n : Nat) (c : Change) (s : State) (hs : Sound s) : Sound (clearPortC u fn n c s) := by
  delta clearPortC
  repeat' first
    | with_reducible assumption | (intro _) | with_reducible refine Sound.ite ?_ (fun hx => ?_)
    | (with_reducible first | apply sound_State_modView | apply sound_State_modSsView | apply sound_answer | apply sound_onPort)
    | split

theorem sound_onTt (s : State) (u : Up) (n : Nat) (phys : State → Nat → State) (virt : State → State) (hs : Sound s) (hphys : ∀ x0 x1, Sound x0 → Sound (phys x0 x1)) (hvirt : ∀ x0, Sound x0 → Sound (virt x0)) : Sound (onTt s u n phys virt) := by
  delta onTt
  repeat' first
    | with_reducible assumption | (intro _) | with_reducible refine Sound.ite ?_ (fun hx => ?_)
    | (with_reducible first | apply sound_answer | apply sound_onPort | apply hphys | apply hvirt | apply Sound.fold)

theorem sound_clearTtBuffer (u : Up) (n addr ep : Nat) (s : State) (hs : Sound s) : Sound (clearTtBuffer u n addr ep s) := by
  delta clearTtBuffer
  repeat' first
    | with_reducible assumption | (intro _) | with_reducible refine Sound.ite ?_ (fun hx => ?_)
    | (with_reducible first | apply sound_State_modPort | apply sound_State_modVPort | apply sound_onTt)

theorem sound_resetTt (u : Up) (n : Nat) (s : State) (hs : Sound s) : Sound (resetTt u n s) := by
  delta resetTt
  repeat' first
    | with_reducible assumption | (intro _)
    | (with_reducible first | apply sound_State_modPort | apply sound_State_modVPort | apply sound_onTt)

theorem sound_stopTt (u : Up) (n : Nat) (s : State) (hs : Sound s) : Sound (stopTt u n s) := by
  delta stopTt
  repeat' first
    | with_reducible assumption | (intro _)
    | (with_reducible first | apply sound_State_modPort | apply sound_State_modVPort | apply sound_onTt)

theorem sound_getTtState (u : Up) (n wLength : Nat) (s : State) (hs : Sound s) : Sound (getTtState u n wLength s) := by
  delta getTtState
  repeat' first
    | with_reducible assumption | (intro _)
    | ((fail_if_no_progress extract_lets -merge -useContext +onlyGivenNames x); (first | (refine Sound.step (x := x) ?_ (fun hx => ?_); on_goal 1 => subst x) | skip))
    | with_reducible refine Sound.ite ?_ (fun hx => ?_)
    | (with_reducible first | apply sound_State_drawn | apply sound_answer | apply sound_onTt)

theorem sound_hostU0 (s : State) (p : Nat) (hs : Sound s) : Sound (hostU0 s p) := by
  delta hostU0
  repeat' first
    | with_reducible assumption | (intro _) | with_reducible refine Sound.ite ?_ (fun hx => ?_)
    | (with_reducible first | apply sound_State_modSpe | apply sound_setLink) | split

theorem sound_setLinkState (u : Up) (n : Nat) (st : Link) (s : State) (hs : Sound s) : Sound (setLinkState u n st s) := by
  delta setLinkState
  repeat' first
    | with_reducible assumption | (intro _) | with_reducible refine Sound.ite ?_ (fun hx => ?_)
    | (with_reducible first | apply sound_setLink | apply sound_answer | apply sound_onPort | apply sound_hostU0)
    | split

theorem sound_setBhReset (u : Up) (n : Nat) (s : State) (hs : Sound s) : Sound (setBhReset u n s) := by
  delta setBhReset
  repeat' first
    | with_reducible assumption | (intro _) | with_reducible refine Sound.ite ?_ (fun hx => ?_)
    | (with_reducible first | apply sound_State_modSpe | apply sound_onPort) | split

theorem sound_setU1Timeout (u : Up) (n value : Nat) (s : State) (hs : Sound s) : Sound (setU1Timeout u n value s) := by
  delta setU1Timeout
  repeat' first
    | with_reducible assumption | (intro _) | with_reducible refine Sound.ite ?_ (fun hx => ?_)
    | (with_reducible first | apply sound_State_modSpe | apply sound_onPort)

theorem sound_setU2Timeout (u : Up) (n value : Nat) (s : State) (hs : Sound s) : Sound (setU2Timeout u n value s) := by
  delta setU2Timeout
  repeat' first
    | with_reducible assumption | (intro _) | with_reducible refine Sound.ite ?_ (fun hx => ?_)
    | (with_reducible first | apply sound_State_modSpe | apply sound_onPort)

theorem sound_setWakeMask (u : Up) (n mask : Nat) (s : State) (hs : Sound s) : Sound (setWakeMask u n mask s) := by
  delta setWakeMask
  repeat' first
    | with_reducible assumption | (intro _)
    | (with_reducible first | apply sound_State_modSsView | apply sound_onPort)

theorem sound_getPortErrors (u : Up) (n : Nat) (s : State) (hs : Sound s) : Sound (getPortErrors u n s) := by
  delta getPortErrors
  repeat' first
    | with_reducible assumption | (intro _) | with_reducible refine Sound.ite ?_ (fun hx => ?_)
    | (with_reducible first | apply sound_State_modSpe | apply sound_answer | apply sound_onPort)

theorem sound_rechargeAll (s : State) (u : Up) (hs : Sound s) : Sound (rechargeAll s u) := by
  delta rechargeAll
  repeat' first
    | with_reducible assumption | (intro _) | with_reducible refine Sound.ite ?_ (fun hx => ?_)
    | (with_reducible first | apply sound_recharge | apply Sound.fold)

theorem sound_hubSetConfiguration (u : Up) (fn : Fn) (value : Nat) (s : State) (hs : Sound s) : Sound (hubSetConfiguration u fn value s) := by
  delta hubSetConfiguration
  repeat' first
    | with_reducible assumption | (intro _)
    | ((fail_if_no_progress extract_lets -merge -useContext +onlyGivenNames x); (refine Sound.step (x := x) ?_ (fun hx => ?_); on_goal 1 => subst x))
    | with_reducible refine Sound.ite ?_ (fun hx => ?_)
    | (with_reducible first | apply sound_State_modUp | apply sound_raiseUp | apply sound_answer | apply sound_present | apply sound_rechargeAll)
    | split

theorem sound_hubSetInterface (u : Up) (alt : Nat) (s : State) (hs : Sound s) : Sound (hubSetInterface u alt s) := by
  delta hubSetInterface
  repeat' first
    | with_reducible assumption | (intro _)
    | (fail_if_no_progress extract_lets -merge -useContext +onlyGivenNames x)
    | with_reducible refine Sound.ite ?_ (fun hx => ?_)
    | (with_reducible first | apply sound_State_modUp | apply sound_answer | apply sound_present)

theorem sound_hubGetDescriptor (u : Up) (fn : Fn) (kind index wLength : Nat) (s : State) (hs : Sound s) : Sound (hubGetDescriptor u fn kind index wLength s) := by
  delta hubGetDescriptor
  repeat' first
    | with_reducible assumption | (intro _) | with_reducible refine Sound.ite ?_ (fun hx => ?_)
    | (with_reducible first | apply sound_answer | apply sound_present) | split

theorem sound_hubLpmToken (u : Up) (besl : Nat) (s : State) (hs : Sound s) : Sound (hubLpmToken u besl s) := by
  delta hubLpmToken
  repeat' first
    | with_reducible assumption | (intro _) | with_reducible refine Sound.ite ?_ (fun hx => ?_)
    | (with_reducible first | apply sound_State_modUp | apply sound_raiseUp | apply sound_answer | apply sound_present)

theorem sound_hubSetFeature (u : Up) (f : HubFeature) (on : Bool) (s : State) (hs : Sound s) : Sound (hubSetFeature u f on s) := by
  delta hubSetFeature
  repeat' first
    | with_reducible assumption | (intro _)
    | (with_reducible first | apply sound_State_modUp | apply sound_answer | apply sound_present)

theorem sound_hubSetAddress (u : Up) (fn : Fn) (addr : Nat) (s : State) (hs : Sound s) : Sound (hubSetAddress u fn addr s) := by
  delta hubSetAddress
  repeat' first
    | with_reducible assumption | (intro _)
    | (with_reducible first | apply sound_State_modUp | apply sound_answer | apply sound_present)

theorem sound_answerD (s : State) (u : Up) (a : Ans) (hs : Sound s) : Sound (answerD s u a) := by
  delta answerD
  repeat' first
    | with_reducible assumption | (intro _) | with_reducible refine Sound.ite ?_ (fun hx => ?_)
    | (with_reducible first | apply sound_State_modUp)

theorem sound_ttGo (s : State) (u : Up) (p : Nat) (hs : Sound s) : Sound (ttGo s u p) := by
  delta ttGo
  repeat' first
    | with_reducible assumption | (intro _)
    | (fail_if_no_progress extract_lets -merge -useContext +onlyGivenNames x)
    | with_reducible refine Sound.ite ?_ (fun hx => ?_) | (with_reducible first | apply sound_State_modPort) | split

theorem sound_ttGoAll (s : State) (u : Up) (hs : Sound s) : Sound (ttGoAll s u) := by
  delta ttGoAll
  repeat' first
    | with_reducible assumption | (intro _) | with_reducible refine Sound.ite ?_ (fun hx => ?_)
    | (with_reducible first | apply sound_ttGo | apply Sound.fold)

theorem sound_sofPort (s : State) (u : Up) (p : Nat) (hs : Sound s) : Sound (sofPort s u p) := by
  delta sofPort
  repeat' first
    | with_reducible assumption | (intro _) | with_reducible refine Sound.ite ?_ (fun hx => ?_)
    | (with_reducible first | apply sound_State_modPort)

theorem sound_fnToken (s : State) (u : Up) (fn : Fn) (pid : Pid) (ep : Nat) (pkts : List Pkt) (hs : Sound s) : Sound (fnToken s u fn pid ep pkts) := by
  delta fnToken
  repeat' first
    | with_reducible assumption | (intro _)
    | (fail_if_no_progress extract_lets -merge -useContext +onlyGivenNames x)
    | with_reducible refine Sound.ite ?_ (fun hx => ?_)
    | (with_reducible first | apply sound_State_modUp | apply sound_answerD) | split

theorem sound_hsToken (u : Up) (pid : Pid) (addr ep : Nat) (pkts : List Pkt) (s : State) (hs : Sound s) : Sound (hsToken u pid addr ep pkts s) := by
  delta hsToken
  repeat' first
    | with_reducible assumption | (intro _)
    | ((fail_if_no_progress extract_lets -merge -useContext +onlyGivenNames x); (first | (refine Sound.step (x := x) ?_ (fun hx => ?_); on_goal 1 => subst x) | skip))
    | with_reducible refine Sound.ite ?_ (fun hx => ?_)
    | (with_reducible first | apply sound_State_modUp | apply sound_State_modPort | apply sound_sofPort | apply sound_fnToken | apply Sound.fold | apply Sound.foldP)
    | split

theorem sound_clearDup (s : State) (u : Up) (p addr : Nat) (hs : Sound s) : Sound (clearDup s u p addr) := by
  delta clearDup
  repeat' first
    | with_reducible assumption | (intro _)
    | ((fail_if_no_progress extract_lets -merge -useContext +onlyGivenNames x); (refine Sound.step (x := x) ?_ (fun hx => ?_); on_goal 1 => subst x))
    | with_reducible refine Sound.ite ?_ (fun hx => ?_)
    | (with_reducible first | apply sound_State_modPort | apply sound_State_modVPort | apply Sound.fold)

theorem sound_addressLearn (p addr : Nat) (s : State) (hs : Sound s) : Sound (addressLearn p addr s) := by
  delta addressLearn
  repeat' first
    | with_reducible assumption | (intro _)
    | ((fail_if_no_progress extract_lets -merge -useContext +onlyGivenNames x); (first | (refine Sound.step (x := x) ?_ (fun hx => ?_); on_goal 1 => subst x) | skip))
    | with_reducible refine Sound.ite ?_ (fun hx => ?_)
    | (with_reducible first | apply sound_State_modUp | apply sound_State_modPort | apply sound_clearDup) | split

theorem sound_sofReceived (u : Up) (frame uframe : Nat) (s : State) (hs : Sound s) : Sound (sofReceived u frame uframe s) := by
  delta sofReceived
  repeat' first
    | with_reducible assumption | (intro _)
    | ((fail_if_no_progress extract_lets -merge -useContext +onlyGivenNames x); (first | (refine Sound.step (x := x) ?_ (fun hx => ?_); on_goal 1 => subst x) | skip))
    | with_reducible refine Sound.ite ?_ (fun hx => ?_)
    | (with_reducible first | apply sound_State_modUp | apply sound_State_modPort | apply sound_ttGoAll | apply Sound.fold)

theorem sound_framePort (s : State) (u : Option Up) (p : Nat) (hs : Sound s) : Sound (framePort s u p) := by
  delta framePort
  repeat' first
    | with_reducible assumption | (intro _)
    | (fail_if_no_progress extract_lets -merge -useContext +onlyGivenNames x)
    | with_reducible refine Sound.ite ?_ (fun hx => ?_) | (with_reducible first | apply sound_State_modPort) | split

theorem sound_frameStart (u : Option Up) (s : State) (hs : Sound s) : Sound (frameStart u s) := by
  delta frameStart
  repeat' first
    | with_reducible assumption | (intro _)
    | (with_reducible first | apply sound_framePort | apply Sound.fold)

theorem sound_ssHubPacket (s : State) (u : Up) (bs : List Byte) (hs : Sound s) : Sound (ssHubPacket s u bs) := by
  delta ssHubPacket
  repeat' first
    | with_reducible assumption
    | (fail_if_no_progress extract_lets -merge -useContext +onlyGivenNames x)
    | with_reducible refine Sound.ite ?_ (fun hx => ?_) | (with_reducible first | apply sound_answerD) | split

theorem sound_ssHeaderPacket (u : Up) (down : Bool) (n : Nat) (bs : List Byte) (s : State) (hs : Sound s) : Sound (ssHeaderPacket u down n bs s) := by
  delta ssHeaderPacket
  repeat' first
    | with_reducible assumption | (intro _)
    | ((fail_if_no_progress extract_lets -merge -useContext +onlyGivenNames x); (first | (refine Sound.stepF (f := x) ?_ (fun hf => ?_); on_goal 1 => subst x) | skip))
    | with_reducible refine Sound.ite ?_ (fun hx => ?_) | with_reducible apply hf
    | (with_reducible first | apply sound_State_modUp | apply sound_State_modSpe | apply sound_setUpLink | apply sound_setLink | apply sound_ssHubPacket)
    | (fail_if_no_progress beta_reduce) | split

theorem sound_portUnderPlan (s : State) (old : List Region) (p : Nat) (hs : Sound s) : Sound (portUnderPlan s old p) := by
  delta portUnderPlan
  repeat' first
    | with_reducible assumption | (intro _)
    | ((fail_if_no_progress extract_lets -merge -useContext +onlyGivenNames x); (first | (refine Sound.step (x := x) ?_ (fun hx => ?_); on_goal 1 => subst x) | skip))
    | with_reducible refine Sound.ite ?_ (fun hx => ?_)
    | (with_reducible first | apply sound_State_modPort | apply sound_setEff)

theorem sound_vportUnderPlan (s : State) (old : List Region) (u : Up) (v : Nat) (hs : Sound s) : Sound (vportUnderPlan s old u v) := by
  delta vportUnderPlan
  repeat' first
    | with_reducible assumption | (intro _)
    | (fail_if_no_progress extract_lets -merge -useContext +onlyGivenNames x)
    | with_reducible refine Sound.ite ?_ (fun hx => ?_) | (with_reducible first | apply sound_State_modVPort)

theorem sound_applyPlan (s : State) (rs : List Region) (hs : Sound s) : Sound (applyPlan s rs) := by
  delta applyPlan
  repeat' first
    | with_reducible assumption | (intro _)
    | ((fail_if_no_progress extract_lets -merge -useContext +onlyGivenNames x); (first | (refine Sound.step (x := x) ?_ (fun hx => ?_); on_goal 1 => subst x) | skip))
    | (with_reducible first | apply sound_portUnderPlan | apply sound_vportUnderPlan | apply Sound.fold | apply Sound.foldP)
    | with_reducible refine Sound.lift ?_ rfl rfl rfl rfl rfl rfl rfl rfl rfl rfl rfl rfl rfl rfl rfl rfl rfl

theorem sound_wireOut (s : State) (p ep : Nat) (hs : Sound s) : Sound (wireOut s p ep) := by
  delta wireOut
  repeat' first
    | with_reducible assumption | (intro _) | with_reducible refine Sound.ite ?_ (fun hx => ?_)
    | (with_reducible first | apply sound_State_modPort | apply sound_ping) | split

theorem sound_wireIn (s : State) (p ep : Nat) (hs : Sound s) : Sound (wireIn s p ep) := by
  delta wireIn
  repeat' first
    | with_reducible assumption | (intro _) | (with_reducible first | apply sound_State_modPort)

theorem sound_endDraw (s : State) (p ep : Nat) (hs : Sound s) : Sound (endDraw s p ep) := by
  delta endDraw
  repeat' first
    | with_reducible assumption | (intro _)
    | (with_reducible first | apply sound_State_drawn | apply sound_State_modPx)

theorem sound_readOn (s : State) (p ep : Nat) (hs : Sound s) : Sound (readOn s p ep) := by
  delta readOn
  repeat' first
    | with_reducible assumption | with_reducible refine Sound.ite ?_ (fun hx => ?_)
    | (with_reducible first | apply sound_wireIn | apply sound_endDraw) | split

theorem sound_restartWire (s : State) (p : Nat) (hs : Sound s) : Sound (restartWire s p) := by
  delta restartWire
  repeat' first
    | with_reducible assumption | (intro _) | with_reducible refine Sound.ite ?_ (fun hx => ?_)
    | (with_reducible first | apply sound_wireOut | apply sound_readOn | apply Sound.fold)

theorem sound_afterResume (s : State) (p : Nat) (pxL1 : Bool) (hs : Sound s) : Sound (afterResume s p pxL1) := by
  delta afterResume
  repeat' first
    | with_reducible assumption | (intro _)
    | ((fail_if_no_progress extract_lets -merge -useContext +onlyGivenNames x); (first | (refine Sound.step (x := x) ?_ (fun hx => ?_); on_goal 1 => subst x) | skip))
    | with_reducible refine Sound.ite ?_ (fun hx => ?_)
    | (with_reducible first | apply sound_State_modPort | apply sound_restartWire)

theorem sound_eccBad (s : State) (e : EccErr) (hs : Sound s) : Sound (eccBad s e) := by
  delta eccBad
  repeat' first
    | with_reducible assumption | (intro _)
    | ((fail_if_no_progress extract_lets -merge -useContext +onlyGivenNames x); (first | (refine Sound.step (x := x) ?_ (fun hx => ?_); on_goal 1 => subst x) | skip))
    | with_reducible refine Sound.ite ?_ (fun hx => ?_)
    | (with_reducible first | apply sound_State_modUp | apply sound_State_modPort | apply sound_raise | apply sound_raisePort | apply sound_respond | apply sound_State_modPx | apply sound_State_modTun | apply sound_sendTun)
    | split | with_reducible refine Sound.lift ?_ rfl rfl rfl rfl rfl rfl rfl rfl rfl rfl rfl rfl rfl rfl rfl rfl rfl

theorem sound_scrubPass (single : Nat) (bad : List EccErr) (s : State) (hs : Sound s) : Sound (scrubPass single bad s) := by
  delta scrubPass
  repeat' first
    | with_reducible assumption | (intro _)
    | (with_reducible first | apply sound_eccBad | apply Sound.fold | apply Sound.foldP)
    | with_reducible refine Sound.lift ?_ rfl rfl rfl rfl rfl rfl rfl rfl rfl rfl rfl rfl rfl rfl rfl rfl rfl

theorem sound_setMode (s : State) (p : Nat) (m : Mode) (hs : Sound s) : Sound (setMode s p m) := by
  delta setMode
  repeat' first
    | with_reducible assumption | (intro _)
    | ((fail_if_no_progress extract_lets -merge -useContext +onlyGivenNames x); (refine Sound.step (x := x) ?_ (fun hx => ?_); on_goal 1 => subst x))
    | with_reducible refine Sound.ite ?_ (fun hx => ?_)
    | (with_reducible first | apply sound_State_modPort | apply sound_syncPort | apply sound_setEff)

theorem sound_profileModes (s : State) (hs : Sound s) : Sound (profileModes s) := by
  delta profileModes
  repeat' first
    | with_reducible assumption | (intro _) | with_reducible refine Sound.ite ?_ (fun hx => ?_)
    | (with_reducible first | apply sound_setMode | apply Sound.fold)

theorem sound_wakeForPort (s : State) (p : Nat) (hs : Sound s) : Sound (wakeForPort s p).2 := by
  delta wakeForPort
  repeat' first
    | with_reducible assumption | (with_reducible first | apply sound_driveUpK) | split

theorem sound_connect (p : Nat) (pullUpDp : Bool) (s : State) (hs : Sound s) : Sound (connect p pullUpDp s) := by
  delta connect
  repeat' first
    | with_reducible assumption | (intro _)
    | ((fail_if_no_progress extract_lets -merge -useContext +onlyGivenNames x); (first | (refine Sound.step (x := x) ?_ (fun hx => ?_); on_goal 1 => subst x) | (refine Sound.step (x := x.2) ?_ (fun hx => ?_); on_goal 1 => subst x) | skip))
    | with_reducible refine Sound.ite ?_ (fun hx => ?_)
    | (with_reducible first | apply sound_State_modPort | apply sound_wakeDoze | apply sound_raisePort | apply sound_syncPort | apply sound_ownerEvent | apply sound_startFill | apply sound_setEff | apply sound_wakeForPort)
    | split

theorem sound_disconnect (p : Nat) (s : State) (hs : Sound s) : Sound (disconnect p s) := by
  delta disconnect
  repeat' first
    | with_reducible assumption | (intro _)
    | ((fail_if_no_progress extract_lets -merge -useContext +onlyGivenNames x); (first | (refine Sound.step (x := x) ?_ (fun hx => ?_); on_goal 1 => subst x) | (refine Sound.step (x := x.2) ?_ (fun hx => ?_); on_goal 1 => subst x)))
    | with_reducible refine Sound.ite ?_ (fun hx => ?_)
    | (with_reducible first | apply sound_State_modSpe | apply sound_wakeDoze | apply sound_raisePort | apply sound_setLink | apply sound_loseDevice | apply sound_wakeForPort)
    | split

theorem sound_deviceChirp (p : Nat) (s : State) (hs : Sound s) : Sound (deviceChirp p s) := by
  delta deviceChirp
  repeat' first
    | with_reducible assumption | (intro _) | with_reducible refine Sound.ite ?_ (fun hx => ?_)
    | (with_reducible first | apply sound_State_modPort) | split

theorem sound_deviceChirpEnd (p : Nat) (inTime : Bool) (s : State) (hs : Sound s) : Sound (deviceChirpEnd p inTime s) := by
  delta deviceChirpEnd
  repeat' first
    | with_reducible assumption | (intro _) | with_reducible refine Sound.ite ?_ (fun hx => ?_)
    | (with_reducible first | apply sound_State_modPort) | split

theorem sound_resetEnd (p : Nat) (idle : Bool) (s : State) (hs : Sound s) : Sound (resetEnd p idle s) := by
  delta resetEnd
  repeat' first
    | with_reducible assumption | (intro _)
    | ((fail_if_no_progress extract_lets -merge -useContext +onlyGivenNames x); (first | (refine Sound.step (x := x) ?_ (fun hx => ?_); on_goal 1 => subst x) | skip))
    | with_reducible refine Sound.ite ?_ (fun hx => ?_)
    | (with_reducible first | apply sound_State_modUp | apply sound_State_modPort | apply sound_raisePort | apply sound_idle | apply sound_syncPort | apply sound_setChange | apply sound_settleWire | apply sound_markSusp)
    | split

end Sys2Proof.Machine
end

