-- ==== Sys2Proof/Laws/SoundOps4.lean ====
section
/-!
SUPPORT. Laws/SoundOps4.lean: the operations keep a state that holds together, part 4 of 8, in the order of the
model's files.
-/

namespace Sys2Proof.Machine

theorem sound_cdpVdpSrc (p : Nat) (present : Bool) (s : State) (hs : Sound s) : Sound (cdpVdpSrc p present s) := by
  delta cdpVdpSrc
  repeat' first
    | with_reducible assumption | (intro _) | with_reducible refine Sound.ite ?_ (fun hx => ?_)
    | (with_reducible first | apply sound_State_modPort)

theorem sound_upstreamSuspend (u : Up) (s : State) (hs : Sound s) : Sound (upstreamSuspend u s) := by
  delta upstreamSuspend
  repeat' first
    | with_reducible assumption | (intro _)
    | ((fail_if_no_progress extract_lets -merge -useContext +onlyGivenNames x); (refine Sound.step (x := x) ?_ (fun hx => ?_); on_goal 1 => subst x))
    | with_reducible refine Sound.ite ?_ (fun hx => ?_)
    | (with_reducible first | apply sound_State_modUp | apply sound_State_modPort | apply sound_raiseUp | apply Sound.fold)

theorem sound_enterL1 (s : State) (p besl : Nat) (hs : Sound s) : Sound (enterL1 s p besl) := by
  delta enterL1
  repeat' first
    | with_reducible assumption | (intro _)
    | (with_reducible first | apply sound_State_modPort | apply sound_sleepEnter) | split

theorem sound_deviceLpmAck (p besl : Nat) (s : State) (hs : Sound s) : Sound (deviceLpmAck p besl s) := by
  delta deviceLpmAck
  repeat' first
    | with_reducible assumption | (with_reducible first | apply sound_enterL1)

theorem sound_proxyLpmToken (u : Up) (n besl : Nat) (device : Hs) (s : State) (hs : Sound s) : Sound (proxyLpmToken u n besl device s) := by
  delta proxyLpmToken
  repeat' first
    | with_reducible assumption | (intro _)
    | ((fail_if_no_progress extract_lets -merge -useContext +onlyGivenNames x); (refine Sound.step (x := x) ?_ (fun hx => ?_); on_goal 1 => subst x))
    | with_reducible refine Sound.ite ?_ (fun hx => ?_)
    | (with_reducible first | apply sound_State_modPort | apply sound_answer | apply sound_enterL1) | split

theorem sound_startDeviceWake (s : State) (p left : Nat) (hs : Sound s) : Sound (startDeviceWake s p left) := by
  delta startDeviceWake
  repeat' first
    | with_reducible assumption
    | ((fail_if_no_progress extract_lets -merge -useContext +onlyGivenNames x); (refine Sound.step (x := x) ?_ (fun hx => ?_); on_goal 1 => subst x))
    | with_reducible refine Sound.ite ?_ (fun hx => ?_)
    | (with_reducible first | apply sound_sendTun | apply sound_startResume | apply sound_driveUpK) | split

theorem sound_deviceWake (p : Nat) (s : State) (hs : Sound s) : Sound (deviceWake p s) := by
  delta deviceWake
  repeat' first
    | with_reducible assumption
    | (fail_if_no_progress extract_lets -merge -useContext +onlyGivenNames x)
    | with_reducible refine Sound.ite ?_ (fun hx => ?_)
    | (with_reducible first | apply sound_wakeDoze | apply sound_raisePort | apply sound_mergeResume | apply sound_startDeviceWake)
    | split

theorem sound_resumePorts (s : State) (u : Up) (all : Bool) (hs : Sound s) : Sound (resumePorts s u all) := by
  delta resumePorts
  repeat' first
    | with_reducible assumption | (intro _) | with_reducible refine Sound.ite ?_ (fun hx => ?_)
    | (with_reducible first | apply sound_startResume | apply sound_mergeResume | apply Sound.fold | apply Sound.foldP)
    | split

theorem sound_hostK (u : Up) (s : State) (hs : Sound s) : Sound (hostK u s) := by
  delta hostK
  repeat' first
    | with_reducible assumption | (intro _)
    | ((fail_if_no_progress extract_lets -merge -useContext +onlyGivenNames x); (first | (refine Sound.step (x := x) ?_ (fun hx => ?_); on_goal 1 => subst x) | skip))
    | with_reducible refine Sound.ite ?_ (fun hx => ?_)
    | (with_reducible first | apply sound_State_modUp | apply sound_wakeDoze | apply sound_raiseUp | apply sound_resumePorts)
    | split

theorem sound_upstreamWakeDriveEnd (u : Up) (lineK : Bool) (s : State) (hs : Sound s) : Sound (upstreamWakeDriveEnd u lineK s) := by
  delta upstreamWakeDriveEnd
  repeat' first
    | with_reducible assumption | (intro _)
    | ((fail_if_no_progress extract_lets -merge -useContext +onlyGivenNames x); (first | (refine Sound.step (x := x) ?_ (fun hx => ?_); on_goal 1 => subst x) | skip))
    | with_reducible refine Sound.ite ?_ (fun hx => ?_)
    | (with_reducible first | apply sound_State_modUp | apply sound_raiseUp | apply sound_resumePorts | apply sound_hostK)
    | split

theorem sound_finishResume (s : State) (p : Nat) (hs : Sound s) : Sound (finishResume s p) := by
  delta finishResume
  repeat' first
    | with_reducible assumption | (intro _)
    | ((fail_if_no_progress extract_lets -merge -useContext +onlyGivenNames x); (refine Sound.step (x := x) ?_ (fun hx => ?_); on_goal 1 => subst x))
    | with_reducible refine Sound.ite ?_ (fun hx => ?_)
    | (with_reducible first | apply sound_State_modPort | apply sound_startRefill | apply sound_endResume | apply sound_park | apply sound_afterResume)
    | split

theorem sound_resumeKEnd (p : Nat) (s : State) (hs : Sound s) : Sound (resumeKEnd p s) := by
  delta resumeKEnd
  repeat' first
    | with_reducible assumption | (intro _) | with_reducible refine Sound.ite ?_ (fun hx => ?_)
    | (with_reducible first | apply sound_State_modPort | apply sound_finishResume) | split

theorem sound_eopPort (u : Up) (s : State) (p : Nat) (hs : Sound s) : Sound (eopPort u s p) := by
  delta eopPort
  repeat' first
    | with_reducible assumption | (intro _) | with_reducible refine Sound.ite ?_ (fun hx => ?_)
    | (with_reducible first | apply sound_State_modPort | apply sound_finishResume) | split

theorem sound_upstreamResumeEop (u : Up) (s : State) (hs : Sound s) : Sound (upstreamResumeEop u s) := by
  delta upstreamResumeEop
  repeat' first
    | with_reducible assumption | (intro _)
    | (with_reducible first | apply sound_State_modUp | apply sound_hostK | apply sound_eopPort | apply Sound.fold | apply Sound.foldP)
    | split

theorem sound_errorDisable (s : State) (p code : Nat) (hs : Sound s) : Sound (errorDisable s p code) := by
  delta errorDisable
  repeat' first
    | with_reducible assumption | (intro _)
    | ((fail_if_no_progress extract_lets -merge -useContext +onlyGivenNames x); (first | (refine Sound.step (x := x) ?_ (fun hx => ?_); on_goal 1 => subst x) | skip))
    | with_reducible refine Sound.ite ?_ (fun hx => ?_)
    | (with_reducible first | apply sound_State_modPort | apply sound_raisePort | apply sound_setChange | apply sound_startWireReset | apply sound_startRefill)
    | split

theorem sound_suspendDrainTimeout (p : Nat) (s : State) (hs : Sound s) : Sound (suspendDrainTimeout p s) := by
  delta suspendDrainTimeout
  repeat' first
    | with_reducible assumption | (intro _)
    | ((fail_if_no_progress extract_lets -merge -useContext +onlyGivenNames x); (first | (refine Sound.step (x := x) ?_ (fun hx => ?_); on_goal 1 => subst x) | skip))
    | with_reducible refine Sound.ite ?_ (fun hx => ?_)
    | (with_reducible first | apply sound_State_modPort | apply sound_sendTun | apply sound_answer) | split

theorem sound_mgmtResetDone (u : Up) (s : State) (hs : Sound s) : Sound (mgmtResetDone u s) := by
  delta mgmtResetDone
  repeat' first
    | with_reducible assumption | (intro _) | with_reducible refine Sound.ite ?_ (fun hx => ?_)
    | (with_reducible first | apply sound_State_modUp | apply sound_State_modView)

theorem sound_ssConnectMode (s : State) (n : Nat) (hs : Sound s) : Sound (ssConnectMode s n) := by
  delta ssConnectMode
  repeat' first
    | with_reducible assumption | with_reducible refine Sound.ite ?_ (fun hx => ?_)
    | (with_reducible first | apply sound_setEff)

theorem sound_rxDetectProbe (n : Nat) (found : Bool) (s : State) (hs : Sound s) : Sound (rxDetectProbe n found s) := by
  delta rxDetectProbe
  repeat' first
    | with_reducible assumption
    | ((fail_if_no_progress extract_lets -merge -useContext +onlyGivenNames x); (refine Sound.step (x := x) ?_ (fun hx => ?_); on_goal 1 => subst x))
    | with_reducible refine Sound.ite ?_ (fun hx => ?_)
    | (with_reducible first | apply sound_setLinkN | apply sound_ssConnectMode) | split

theorem sound_u3Event (s : State) (p : Nat) (r : Resume) (code : Nat) (hs : Sound s) : Sound (u3Event s p r code) := by
  delta u3Event
  repeat' first
    | with_reducible assumption | (with_reducible first | apply sound_raiseAt)

theorem sound_releaseHeld (s : State) (p : Nat) (hs : Sound s) : Sound (releaseHeld s p) := by
  delta releaseHeld
  repeat' first
    | with_reducible assumption | (intro _)
    | (fail_if_no_progress extract_lets -merge -useContext +onlyGivenNames x)
    | (with_reducible first | apply sound_State_modSpe)

theorem sound_releaseUpLink (s : State) (u : Up) (hs : Sound s) : Sound (releaseUpLink s u) := by
  delta releaseUpLink
  repeat' first
    | with_reducible assumption | (intro _)
    | (fail_if_no_progress extract_lets -merge -useContext +onlyGivenNames x)
    | with_reducible refine Sound.ite ?_ (fun hx => ?_)
    | (with_reducible first | apply sound_State_modUp | apply sound_State_modSpe | apply Sound.fold)

theorem sound_setGen (s : State) (n : Nat) (gen2 : Bool) (hs : Sound s) : Sound (setGen s n gen2) := by
  delta setGen
  repeat' first
    | with_reducible assumption | (intro _) | with_reducible refine Sound.ite ?_ (fun hx => ?_)
    | (with_reducible first | apply sound_State_modUp | apply sound_State_modSpe)

theorem sound_ssTrainingDone (n : Nat) (gen2 : Bool) (s : State) (hs : Sound s) : Sound (ssTrainingDone n gen2 s) := by
  delta ssTrainingDone
  repeat' first
    | with_reducible assumption | (intro _)
    | ((fail_if_no_progress extract_lets -merge -useContext +onlyGivenNames x); (first | (refine Sound.step (x := x) ?_ (fun hx => ?_); on_goal 1 => subst x) | skip))
    | with_reducible refine Sound.ite ?_ (fun hx => ?_)
    | (with_reducible first | apply sound_State_modSpe | apply sound_raise | apply sound_raiseUp | apply sound_State_modSsView | apply sound_setUpLink | apply sound_setLink | apply sound_setLinkN | apply sound_u3Event | apply sound_releaseHeld | apply sound_releaseUpLink | apply sound_setGen)
    | split

theorem sound_pollingTimeout (n : Nat) (lfps : Bool) (s : State) (hs : Sound s) : Sound (pollingTimeout n lfps s) := by
  delta pollingTimeout
  repeat' first
    | with_reducible assumption | (intro _)
    | ((fail_if_no_progress extract_lets -merge -useContext +onlyGivenNames x); (refine Sound.step (x := x) ?_ (fun hx => ?_); on_goal 1 => subst x))
    | with_reducible refine Sound.ite ?_ (fun hx => ?_)
    | (with_reducible first | apply sound_State_modSpe | apply sound_setUpLink | apply sound_setLink) | split

theorem sound_recoveryTimeout (n : Nat) (s : State) (hs : Sound s) : Sound (recoveryTimeout n s) := by
  delta recoveryTimeout
  repeat' first
    | with_reducible assumption | (intro _)
    | ((fail_if_no_progress extract_lets -merge -useContext +onlyGivenNames x); (first | (refine Sound.step (x := x) ?_ (fun hx => ?_); on_goal 1 => subst x) | (refine Sound.stepF (f := x) ?_ (fun hf => ?_); on_goal 1 => subst x)))
    | with_reducible refine Sound.ite ?_ (fun hx => ?_) | with_reducible apply hf
    | (with_reducible first | apply sound_State_modSpe | apply sound_raiseUp | apply sound_setUpLink | apply sound_setLink | apply sound_u3Event)
    | (fail_if_no_progress beta_reduce) | split

theorem sound_ssLinkError (n : Nat) (s : State) (hs : Sound s) : Sound (ssLinkError n s) := by
  delta ssLinkError
  repeat' first
    | with_reducible assumption | (intro _)
    | ((fail_if_no_progress extract_lets -merge -useContext +onlyGivenNames x); (first | (refine Sound.step (x := x) ?_ (fun hx => ?_); on_goal 1 => subst x) | skip))
    | with_reducible refine Sound.ite ?_ (fun hx => ?_)
    | (with_reducible first | apply sound_State_modUp | apply sound_State_modSpe | apply sound_raise | apply sound_raiseUp | apply sound_setLinkN)
    | split

theorem sound_lgoU1U2 (n : Nat) (lvl : Link) (s : State) (hs : Sound s) : Sound (lgoU1U2 n lvl s) := by
  delta lgoU1U2
  repeat' first
    | with_reducible assumption | with_reducible refine Sound.ite ?_ (fun hx => ?_)
    | (with_reducible first | apply sound_setLinkN) | split

theorem sound_u1U2IdleTimeout (n : Nat) (u2 accepted : Bool) (s : State) (hs : Sound s) : Sound (u1U2IdleTimeout n u2 accepted s) := by
  delta u1U2IdleTimeout
  repeat' first
    | with_reducible assumption
    | (fail_if_no_progress extract_lets -merge -useContext +onlyGivenNames x)
    | with_reducible refine Sound.ite ?_ (fun hx => ?_) | (with_reducible first | apply sound_setLink) | split

theorem sound_exitLfps (n : Nat) (s : State) (hs : Sound s) : Sound (exitLfps n s) := by
  delta exitLfps
  repeat' first
    | with_reducible assumption | with_reducible refine Sound.ite ?_ (fun hx => ?_)
    | (with_reducible first | apply sound_wakeDoze | apply sound_setLinkN) | split

theorem sound_lfpsWake (p : Nat) (s : State) (hs : Sound s) : Sound (lfpsWake p s) := by
  delta lfpsWake
  repeat' first
    | with_reducible assumption | (intro _)
    | ((fail_if_no_progress extract_lets -merge -useContext +onlyGivenNames x); (first | (refine Sound.step (x := x) ?_ (fun hx => ?_); on_goal 1 => subst x) | skip))
    | with_reducible refine Sound.ite ?_ (fun hx => ?_)
    | (with_reducible first | apply sound_State_modSpe | apply sound_wakeDoze | apply sound_raise | apply sound_setUpLink | apply sound_setLink)
    | split

theorem sound_u3WakeHandshakeTimeout (p : Nat) (s : State) (hs : Sound s) : Sound (u3WakeHandshakeTimeout p s) := by
  delta u3WakeHandshakeTimeout
  repeat' first
    | with_reducible assumption | (intro _) | with_reducible refine Sound.ite ?_ (fun hx => ?_)
    | (with_reducible first | apply sound_State_modSpe | apply sound_setLink | apply sound_u3Event) | split

theorem sound_warmResetDone (n : Nat) (s : State) (hs : Sound s) : Sound (warmResetDone n s) := by
  delta warmResetDone
  repeat' first
    | with_reducible assumption | (intro _)
    | ((fail_if_no_progress extract_lets -merge -useContext +onlyGivenNames x); (refine Sound.step (x := x) ?_ (fun hx => ?_); on_goal 1 => subst x))
    | with_reducible refine Sound.ite ?_ (fun hx => ?_)
    | (with_reducible first | apply sound_State_modSpe | apply sound_State_modSsView | apply sound_setUpLink | apply sound_setLink)
    | split

theorem sound_pushTun (s : State) (l : Loc) (ep : Nat) (hs : Sound s) : Sound (pushTun s l ep) := by
  delta pushTun
  repeat' first
    | with_reducible assumption | (intro _)
    | (fail_if_no_progress extract_lets -merge -useContext +onlyGivenNames x)
    | with_reducible refine Sound.ite ?_ (fun hx => ?_)
    | (with_reducible first | apply sound_State_modTun | apply sound_sendTun) | split

theorem sound_grantTun (s : State) (l : Loc) (ep n : Nat) (hs : Sound s) : Sound (grantTun s l ep n) := by
  delta grantTun
  repeat' first
    | with_reducible assumption | (intro _)
    | (fail_if_no_progress extract_lets -merge -useContext +onlyGivenNames x)
    | (with_reducible first | apply sound_State_modTun | apply sound_sendTun)

theorem sound_dropTun (s : State) (l : Loc) (hit : Nat → Bool) (hs : Sound s) : Sound (dropTun s l hit) := by
  delta dropTun
  repeat' first
    | with_reducible assumption | (intro _)
    | ((fail_if_no_progress extract_lets -merge -useContext +onlyGivenNames x); (refine Sound.step (x := x) ?_ (fun hx => ?_); on_goal 1 => subst x))
    | (with_reducible first | apply sound_State_modTun | apply sound_ackTun | apply sound_grantTun | apply Sound.fold)

theorem sound_wireSetup (s : State) (p : Nat) (b : List Byte) (hs : Sound s) : Sound (wireSetup s p b) := by
  delta wireSetup
  repeat' first
    | with_reducible assumption | (intro _) | (with_reducible first | apply sound_State_modPort)

theorem sound_wireRequest (s : State) (p : Nat) (b : List Byte) (hs : Sound s) : Sound (wireRequest s p b) := by
  delta wireRequest
  repeat' first
    | with_reducible assumption | (intro _)
    | ((fail_if_no_progress extract_lets -merge -useContext +onlyGivenNames x); (first | (refine Sound.step (x := x) ?_ (fun hx => ?_); on_goal 1 => subst x) | skip))
    | with_reducible refine Sound.ite ?_ (fun hx => ?_)
    | (with_reducible first | apply sound_State_modPort | apply sound_wireSetup)

theorem sound_noteHalt (s : State) (l : Loc) (b : List Byte) (hs : Sound s) : Sound (noteHalt s l b) := by
  delta noteHalt
  repeat' first
    | with_reducible assumption | (intro _)
    | (fail_if_no_progress extract_lets -merge -useContext +onlyGivenNames x)
    | with_reducible refine Sound.ite ?_ (fun hx => ?_)
    | (with_reducible first | apply sound_State_modPx | apply sound_dropTun)

theorem sound_forward (s : State) (l : Loc) (b : List Byte) (hs : Sound s) : Sound (forward s l b) := by
  delta forward
  repeat' first
    | with_reducible assumption | (intro _)
    | ((fail_if_no_progress extract_lets -merge -useContext +onlyGivenNames x); (refine Sound.step (x := x) ?_ (fun hx => ?_); on_goal 1 => subst x))
    | with_reducible refine Sound.ite ?_ (fun hx => ?_)
    | (with_reducible first | apply sound_State_modPx | apply sound_sendTun | apply sound_wireRequest | apply sound_noteHalt)
    | split

theorem sound_takeAddress (s : State) (u : Up) (n addr : Nat) (hs : Sound s) : Sound (takeAddress s u n addr) := by
  delta takeAddress
  repeat' first
    | with_reducible assumption | (intro _)
    | ((fail_if_no_progress extract_lets -merge -useContext +onlyGivenNames x); (refine Sound.step (x := x) ?_ (fun hx => ?_); on_goal 1 => subst x))
    | with_reducible refine Sound.ite ?_ (fun hx => ?_)
    | (with_reducible first | apply sound_State_modUp | apply sound_State_modId | apply sound_clearDup)

theorem sound_pxSetAddress (s : State) (u : Up) (n addr : Nat) (hs : Sound s) : Sound (pxSetAddress s u n addr) := by
  delta pxSetAddress
  repeat' first
    | with_reducible assumption | (intro _)
    | (with_reducible first | apply sound_State_modPx | apply sound_answer | apply sound_takeAddress)

theorem sound_takeSetup (s : State) (l : Loc) (b : List Byte) (hs : Sound s) : Sound (takeSetup s l b) := by
  delta takeSetup
  repeat' first
    | with_reducible assumption | (intro _)
    | (fail_if_no_progress extract_lets -merge -useContext +onlyGivenNames x)
    | with_reducible refine Sound.ite ?_ (fun hx => ?_) | with_reducible apply hf
    | (with_reducible first | apply sound_State_modPx | apply sound_forward) | (fail_if_no_progress beta_reduce)
    | split

theorem sound_pxSetup (s : State) (u : Up) (n : Nat) (b : List Byte) (hs : Sound s) : Sound (pxSetup s u n b) := by
  delta pxSetup
  repeat' first
    | with_reducible assumption | (with_reducible first | apply sound_answer | apply sound_takeSetup)

theorem sound_keepSetup (s : State) (l : Loc) (b : List Byte) (hs : Sound s) : Sound (keepSetup s l b) := by
  delta keepSetup
  repeat' first
    | with_reducible assumption | (intro _) | (with_reducible first | apply sound_State_modPx)

theorem sound_takeLater (s : State) (l : Loc) (hs : Sound s) : Sound (takeLater s l) := by
  delta takeLater
  repeat' first
    | with_reducible assumption | (intro _)
    | (fail_if_no_progress extract_lets -merge -useContext +onlyGivenNames x)
    | with_reducible refine Sound.ite ?_ (fun hx => ?_)
    | (with_reducible first | apply sound_State_modPx | apply sound_takeSetup)

theorem sound_grantAll (s : State) (l : Loc) (hit : Nat → Bool) (hs : Sound s) : Sound (grantAll s l hit) := by
  delta grantAll
  repeat' first
    | with_reducible assumption | (intro _)
    | (fail_if_no_progress extract_lets -merge -useContext +onlyGivenNames x)
    | with_reducible refine Sound.ite ?_ (fun hx => ?_) | with_reducible apply hf
    | (with_reducible first | apply sound_grantTun | apply Sound.fold)

theorem sound_setConfigured (s : State) (l : Loc) (v : Nat) (hs : Sound s) : Sound (setConfigured s l v) := by
  delta setConfigured
  repeat' first
    | with_reducible assumption | (intro _)
    | ((fail_if_no_progress extract_lets -merge -useContext +onlyGivenNames x); (first | (refine Sound.step (x := x) ?_ (fun hx => ?_); on_goal 1 => subst x) | skip))
    | with_reducible refine Sound.ite ?_ (fun hx => ?_)
    | (with_reducible first | apply sound_State_modPx | apply sound_State_modId | apply sound_State_modTun | apply sound_setLife | apply sound_dropTun | apply sound_grantAll)

theorem sound_setInterfaced (s : State) (l : Loc) (i alt : Nat) (hs : Sound s) : Sound (setInterfaced s l i alt) := by
  delta setInterfaced
  repeat' first
    | with_reducible assumption | (intro _)
    | ((fail_if_no_progress extract_lets -merge -useContext +onlyGivenNames x); (first | (refine Sound.step (x := x) ?_ (fun hx => ?_); on_goal 1 => subst x) | skip))
    | with_reducible apply hf
    | (with_reducible first | apply sound_State_modPx | apply sound_State_modTun | apply sound_dropTun | apply sound_grantAll)

theorem sound_requestDone (s : State) (l : Loc) (b : List Byte) (hs : Sound s) : Sound (requestDone s l b) := by
  delta requestDone
  repeat' first
    | with_reducible assumption | (intro _) | with_reducible refine Sound.ite ?_ (fun hx => ?_)
    | (with_reducible first | apply sound_State_modPx | apply sound_setConfigured | apply sound_setInterfaced)

theorem sound_ctrlDone (s : State) (l : Loc) (hs : Sound s) : Sound (ctrlDone s l) := by
  delta ctrlDone
  repeat' first
    | with_reducible assumption | (intro _)
    | ((fail_if_no_progress extract_lets -merge -useContext +onlyGivenNames x); (first | (refine Sound.step (x := x) ?_ (fun hx => ?_); on_goal 1 => subst x) | skip))
    | with_reducible refine Sound.ite ?_ (fun hx => ?_)
    | (with_reducible first | apply sound_State_modPx | apply sound_sendTun | apply sound_requestDone)

theorem sound_sendOpen (s : State) (p : Nat) (hs : Sound s) : Sound (sendOpen s p) := by
  delta sendOpen
  repeat' first
    | with_reducible assumption | (intro _)
    | (fail_if_no_progress extract_lets -merge -useContext +onlyGivenNames x)
    | (with_reducible first | apply sound_sendTun | apply Sound.fold)

theorem sound_reopen (s : State) (p : Nat) (hs : Sound s) : Sound (reopen s p) := by
  delta reopen
  repeat' first
    | with_reducible assumption | (with_reducible first | apply sound_sendTun | apply sound_sendOpen)

theorem sound_fallBack (s : State) (p cause : Nat) (hs : Sound s) : Sound (fallBack s p cause) := by
  delta fallBack
  repeat' first
    | with_reducible assumption | (intro _)
    | ((fail_if_no_progress extract_lets -merge -useContext +onlyGivenNames x); (first | (refine Sound.step (x := x) ?_ (fun hx => ?_); on_goal 1 => subst x) | skip))
    | with_reducible refine Sound.ite ?_ (fun hx => ?_)
    | (with_reducible first | apply sound_State_modPort | apply sound_finishWait | apply sound_syncPort | apply sound_setChange | apply sound_ownerEvent | apply sound_sendTun | apply sound_markSusp | apply sound_setEff | apply sound_endLend)

theorem sound_writeCache (s : State) (p : Nat) (bytes : List Byte) (n : Nat) (hs : Sound s) : Sound (writeCache s p bytes n) := by
  delta writeCache
  repeat' first
    | with_reducible assumption | (intro _)
    | (fail_if_no_progress extract_lets -merge -useContext +onlyGivenNames x)
    | with_reducible refine Sound.ite ?_ (fun hx => ?_) | (with_reducible first | apply sound_State_modPort)

theorem sound_showFilled (s : State) (p : Nat) (hs : Sound s) : Sound (showFilled s p) := by
  delta showFilled
  repeat' first
    | with_reducible assumption | (intro _)
    | ((fail_if_no_progress extract_lets -merge -useContext +onlyGivenNames x); (first | (refine Sound.step (x := x) ?_ (fun hx => ?_); on_goal 1 => subst x) | skip))
    | with_reducible refine Sound.ite ?_ (fun hx => ?_)
    | (with_reducible first | apply sound_State_modPort | apply sound_syncPort | apply sound_ownerEvent | apply sound_markSusp | apply sound_park)
    | split

theorem sound_finishFill (s : State) (p : Nat) (f : Fill) (hs : Sound s) : Sound (finishFill s p f) := by
  delta finishFill
  repeat' first
    | with_reducible assumption | (intro _)
    | ((fail_if_no_progress extract_lets -merge -useContext +onlyGivenNames x); (first | (refine Sound.step (x := x) ?_ (fun hx => ?_); on_goal 1 => subst x) | skip))
    | with_reducible refine Sound.ite ?_ (fun hx => ?_)
    | (with_reducible first | apply sound_State_modPort | apply sound_fallBack | apply sound_writeCache | apply sound_showFilled)

theorem sound_nextReq (s : State) (p : Nat) (f : Fill) (b : List Byte) (hs : Sound s) : Sound (nextReq s p f b) := by
  delta nextReq
  repeat' first
    | with_reducible assumption | (intro _) | (with_reducible first | apply sound_State_modPort)

theorem sound_descriptorsRead (s : State) (p : Nat) (f : Fill) (hs : Sound s) : Sound (descriptorsRead s p f) := by
  delta descriptorsRead
  repeat' first
    | with_reducible assumption | (intro _) | with_reducible refine Sound.ite ?_ (fun hx => ?_)
    | (with_reducible first | apply sound_State_modPort | apply sound_finishFill | apply sound_nextReq) | split

theorem sound_endRealReset (s : State) (p : Nat) (hs : Sound s) : Sound (endRealReset s p) := by
  delta endRealReset
  repeat' first
    | with_reducible assumption | (intro _)
    | (fail_if_no_progress extract_lets -merge -useContext +onlyGivenNames x)
    | with_reducible refine Sound.ite ?_ (fun hx => ?_)
    | (with_reducible first | apply sound_State_modPort | apply sound_setChange | apply sound_sendTun)

theorem sound_refillOwner (s : State) (p : Nat) (hs : Sound s) : Sound (refillOwner s p) := by
  delta refillOwner
  repeat' first
    | with_reducible assumption | with_reducible refine Sound.ite ?_ (fun hx => ?_)
    | (with_reducible first | apply sound_park) | split

theorem sound_refillSame (s : State) (p : Nat) (f : Fill) (hs : Sound s) : Sound (refillSame s p f) := by
  delta refillSame
  repeat' first
    | with_reducible assumption | (intro _)
    | ((fail_if_no_progress extract_lets -merge -useContext +onlyGivenNames x); (first | (refine Sound.step (x := x) ?_ (fun hx => ?_); on_goal 1 => subst x) | skip))
    | with_reducible refine Sound.ite ?_ (fun hx => ?_)
    | (with_reducible first | apply sound_State_modPort | apply sound_finishWait | apply sound_syncPort | apply sound_ownerEvent | apply sound_markSusp | apply sound_restartWire | apply sound_takeLater | apply sound_endRealReset | apply sound_refillOwner)

theorem sound_refillNew (s : State) (p : Nat) (f : Fill) (hs : Sound s) : Sound (refillNew s p f) := by
  delta refillNew
  repeat' first
    | with_reducible assumption | (intro _)
    | ((fail_if_no_progress extract_lets -merge -useContext +onlyGivenNames x); (first | (refine Sound.step (x := x) ?_ (fun hx => ?_); on_goal 1 => subst x) | skip))
    | with_reducible refine Sound.ite ?_ (fun hx => ?_)
    | (with_reducible first | apply sound_State_modPort | apply sound_finishWait | apply sound_syncPort | apply sound_setChange | apply sound_ownerEvent | apply sound_sendTun | apply sound_markSusp | apply sound_setEff | apply sound_endLend | apply sound_reopen | apply sound_writeCache | apply sound_endRealReset | apply sound_refillOwner)

theorem sound_settleSuspend (s : State) (p : Nat) (hs : Sound s) : Sound (settleSuspend s p) := by
  delta settleSuspend
  repeat' first
    | with_reducible assumption
    | ((fail_if_no_progress extract_lets -merge -useContext +onlyGivenNames x); (first | (refine Sound.step (x := x) ?_ (fun hx => ?_); on_goal 1 => subst x) | skip))
    | with_reducible refine Sound.ite ?_ (fun hx => ?_)
    | (with_reducible first | apply sound_sendTun | apply sound_answer | apply sound_doSuspend) | split

theorem sound_fillRequestDone (p : Nat) (data : List Byte) (s : State) (hs : Sound s) : Sound (fillRequestDone p data s) := by
  delta fillRequestDone
  repeat' first
    | with_reducible assumption | (intro _)
    | ((fail_if_no_progress extract_lets -merge -useContext +onlyGivenNames x); (first | (refine Sound.step (x := x) ?_ (fun hx => ?_); on_goal 1 => subst x) | skip))
    | with_reducible refine Sound.ite ?_ (fun hx => ?_)
    | (with_reducible first | apply sound_State_modPort | apply sound_nextReq | apply sound_descriptorsRead) | split

theorem sound_fillAttemptTimeout (p : Nat) (s : State) (hs : Sound s) : Sound (fillAttemptTimeout p s) := by
  delta fillAttemptTimeout
  repeat' first
    | with_reducible assumption | (intro _)
    | ((fail_if_no_progress extract_lets -merge -useContext +onlyGivenNames x); (refine Sound.step (x := x) ?_ (fun hx => ?_); on_goal 1 => subst x))
    | with_reducible refine Sound.ite ?_ (fun hx => ?_)
    | (with_reducible first | apply sound_State_modPort | apply sound_startWireReset | apply sound_fallBack) | split

theorem sound_tfillExpiry (p : Nat) (s : State) (hs : Sound s) : Sound (tfillExpiry p s) := by
  delta tfillExpiry
  repeat' first
    | with_reducible assumption | (with_reducible first | apply sound_fallBack) | split

theorem sound_refillDone (p : Nat) (s : State) (hs : Sound s) : Sound (refillDone p s) := by
  delta refillDone
  repeat' first
    | with_reducible assumption | with_reducible refine Sound.ite ?_ (fun hx => ?_)
    | (with_reducible first | apply sound_refillSame | apply sound_refillNew) | split

theorem sound_gated (s : State) (u : Up) (n ep : Nat) (f : State → State) (hs : Sound s) (hf : ∀ x0, Sound x0 → Sound (f x0)) : Sound (gated s u n ep f) := by
  delta gated
  repeat' first
    | with_reducible assumption | (intro _) | with_reducible refine Sound.ite ?_ (fun hx => ?_)
    | (with_reducible first | apply sound_answer | apply hf) | split

theorem sound_gatedSetup (s : State) (u : Up) (n : Nat) (b : List Byte) (f : State → State) (hs : Sound s) (hf : ∀ x0, Sound x0 → Sound (f x0)) : Sound (gatedSetup s u n b f) := by
  delta gatedSetup
  repeat' first
    | with_reducible assumption | (intro _)
    | (fail_if_no_progress extract_lets -merge -useContext +onlyGivenNames x)
    | with_reducible refine Sound.ite ?_ (fun hx => ?_)
    | (with_reducible first | apply sound_answer | apply sound_pxSetup | apply sound_keepSetup | apply hf) | split

theorem sound_proxySetAddress (u : Up) (n addr : Nat) (s : State) (hs : Sound s) : Sound (proxySetAddress u n addr s) := by
  delta proxySetAddress
  repeat' first
    | with_reducible assumption | (intro _) | (with_reducible first | apply sound_pxSetAddress | apply sound_gated)

theorem sound_proxyGetDescriptor (u : Up) (n kind index wLength : Nat) (s : State) (hs : Sound s) : Sound (proxyGetDescriptor u n kind index wLength s) := by
  delta proxyGetDescriptor
  repeat' first
    | with_reducible assumption | (intro _)
    | (fail_if_no_progress extract_lets -merge -useContext +onlyGivenNames x)
    | (with_reducible first | apply sound_State_modPx | apply sound_answer | apply sound_forward | apply sound_gatedSetup)
    | split

theorem sound_proxySetup (u : Up) (n : Nat) (setup : List Byte) (s : State) (hs : Sound s) : Sound (proxySetup u n setup s) := by
  delta proxySetup
  repeat' first
    | with_reducible assumption | (intro _) | (with_reducible first | apply sound_pxSetup | apply sound_gatedSetup)

theorem sound_clearFeatureEndpointHalt (u : Up) (n ep : Nat) (s : State) (hs : Sound s) : Sound (clearFeatureEndpointHalt u n ep s) := by
  delta clearFeatureEndpointHalt
  repeat' first
    | with_reducible assumption | (with_reducible first | apply sound_proxySetup)

theorem sound_virtualResetEnd (l : Loc) (s : State) (hs : Sound s) : Sound (virtualResetEnd l s) := by
  delta virtualResetEnd
  repeat' first
    | with_reducible assumption | (intro _)
    | ((fail_if_no_progress extract_lets -merge -useContext +onlyGivenNames x); (refine Sound.step (x := x) ?_ (fun hx => ?_); on_goal 1 => subst x))
    | with_reducible refine Sound.ite ?_ (fun hx => ?_)
    | (with_reducible first | apply sound_State_modPx | apply sound_State_modView) | split

theorem sound_resetWindowExpiry (l : Loc) (s : State) (hs : Sound s) : Sound (resetWindowExpiry l s) := by
  delta resetWindowExpiry
  repeat' first
    | with_reducible assumption | (intro _) | (with_reducible first | apply sound_State_modPx)

theorem sound_modCtrl (s : State) (l : Loc) (f : Ctrl → Ctrl) (hs : Sound s) : Sound (modCtrl s l f) := by
  delta modCtrl
  repeat' first
    | with_reducible assumption | (intro _) | (with_reducible first | apply sound_State_modPx)

theorem sound_wireStatus (s : State) (p : Nat) (hs : Sound s) : Sound (wireStatus s p) := by
  delta wireStatus
  repeat' first
    | with_reducible assumption | (intro _) | (with_reducible first | apply sound_State_modPort)

theorem sound_nextClear (s : State) (p : Nat) (hs : Sound s) : Sound (nextClear s p) := by
  delta nextClear
  repeat' first
    | with_reducible assumption | (intro _)
    | (with_reducible first | apply sound_State_modPx | apply sound_wireSetup | apply sound_modCtrl) | split

theorem sound_endWire (s : State) (p : Nat) (hs : Sound s) : Sound (endWire s p) := by
  delta endWire
  repeat' first
    | with_reducible assumption | (intro _)
    | (fail_if_no_progress extract_lets -merge -useContext +onlyGivenNames x)
    | with_reducible refine Sound.ite ?_ (fun hx => ?_)
    | (with_reducible first | apply sound_wireSetup | apply sound_modCtrl | apply sound_nextClear)

theorem sound_read0 (s : State) (p : Nat) (hs : Sound s) : Sound (read0 s p) := by
  delta read0
  repeat' first
    | with_reducible assumption | (intro _)
    | (fail_if_no_progress extract_lets -merge -useContext +onlyGivenNames x)
    | with_reducible refine Sound.ite ?_ (fun hx => ?_)
    | (with_reducible first | apply sound_wireIn | apply sound_modCtrl)

theorem sound_send0 (s : State) (p : Nat) (hs : Sound s) : Sound (send0 s p) := by
  delta send0
  repeat' first
    | with_reducible assumption | (intro _)
    | (fail_if_no_progress extract_lets -merge -useContext +onlyGivenNames x)
    | with_reducible refine Sound.ite ?_ (fun hx => ?_)
    | (with_reducible first | apply sound_State_modPort | apply sound_modCtrl | apply sound_wireStatus) | split

theorem sound_wake0 (s : State) (p : Nat) (hs : Sound s) : Sound (wake0 s p) := by
  delta wake0
  repeat' first
    | with_reducible assumption
    | (fail_if_no_progress extract_lets -merge -useContext +onlyGivenNames x)
    | with_reducible refine Sound.ite ?_ (fun hx => ?_)
    | (with_reducible first | apply sound_read0 | apply sound_send0)

theorem sound_wireDone (s : State) (p : Nat) (hs : Sound s) : Sound (wireDone s p) := by
  delta wireDone
  repeat' first
    | with_reducible assumption
    | ((fail_if_no_progress extract_lets -merge -useContext +onlyGivenNames x); (first | (refine Sound.step (x := x) ?_ (fun hx => ?_); on_goal 1 => subst x) | skip))
    | with_reducible refine Sound.ite ?_ (fun hx => ?_)
    | (with_reducible first | apply sound_ctrlDone | apply sound_settleSuspend | apply sound_endWire)

theorem sound_setupAcked (s : State) (p : Nat) (hs : Sound s) : Sound (setupAcked s p) := by
  delta setupAcked
  repeat' first
    | with_reducible assumption | (intro _)
    | ((fail_if_no_progress extract_lets -merge -useContext +onlyGivenNames x); (first | (refine Sound.step (x := x) ?_ (fun hx => ?_); on_goal 1 => subst x) | skip))
    | with_reducible refine Sound.ite ?_ (fun hx => ?_)
    | (with_reducible first | apply sound_modCtrl | apply sound_wireStatus | apply sound_read0 | apply sound_send0)

theorem sound_ackOut (s : State) (p ep : Nat) (hs : Sound s) : Sound (ackOut s p ep) := by
  delta ackOut
  repeat' first
    | with_reducible assumption | (intro _)
    | ((fail_if_no_progress extract_lets -merge -useContext +onlyGivenNames x); (refine Sound.step (x := x) ?_ (fun hx => ?_); on_goal 1 => subst x))
    | with_reducible refine Sound.ite ?_ (fun hx => ?_)
    | (with_reducible first | apply sound_State_modTun | apply sound_ackTun | apply sound_grantTun) | split

theorem sound_deviceAck0 (s : State) (p : Nat) (hs : Sound s) : Sound (deviceAck0 s p) := by
  delta deviceAck0
  repeat' first
    | with_reducible assumption | (intro _)
    | ((fail_if_no_progress extract_lets -merge -useContext +onlyGivenNames x); (first | (refine Sound.step (x := x) ?_ (fun hx => ?_); on_goal 1 => subst x) | skip))
    | with_reducible refine Sound.ite ?_ (fun hx => ?_)
    | (with_reducible first | apply sound_settleSuspend | apply sound_modCtrl | apply sound_endWire | apply sound_send0 | apply sound_wireDone | apply sound_setupAcked | apply sound_ackOut)

theorem sound_deviceIn0 (s : State) (p : Nat) (data : List Byte) (hs : Sound s) : Sound (deviceIn0 s p data) := by
  delta deviceIn0
  repeat' first
    | with_reducible assumption | (intro _)
    | ((fail_if_no_progress extract_lets -merge -useContext +onlyGivenNames x); (first | (refine Sound.step (x := x) ?_ (fun hx => ?_); on_goal 1 => subst x) | skip))
    | with_reducible refine Sound.ite ?_ (fun hx => ?_)
    | (with_reducible first | apply sound_sendTun | apply sound_settleSuspend | apply sound_modCtrl | apply sound_wireStatus | apply sound_endWire | apply sound_read0 | apply sound_wireDone)

theorem sound_deviceStall0 (s : State) (p : Nat) (hs : Sound s) : Sound (deviceStall0 s p) := by
  delta deviceStall0
  repeat' first
    | with_reducible assumption | (intro _)
    | ((fail_if_no_progress extract_lets -merge -useContext +onlyGivenNames x); (first | (refine Sound.step (x := x) ?_ (fun hx => ?_); on_goal 1 => subst x) | skip))
    | with_reducible refine Sound.ite ?_ (fun hx => ?_)
    | (with_reducible first | apply sound_sendTun | apply sound_settleSuspend | apply sound_modCtrl | apply sound_endWire | apply sound_ackOut)

theorem sound_forwardedDone (s : State) (l : Loc) (hs : Sound s) : Sound (forwardedDone s l) := by
  delta forwardedDone
  repeat' first
    | with_reducible assumption | (with_reducible first | apply sound_ctrlDone | apply sound_wireDone) | split

theorem sound_forwardedSetConfigurationDone (l : Loc) (s : State) (hs : Sound s) : Sound (forwardedSetConfigurationDone l s) := by
  delta forwardedSetConfigurationDone
  repeat' first
    | with_reducible assumption | with_reducible refine Sound.ite ?_ (fun hx => ?_)
    | (with_reducible first | apply sound_forwardedDone)

theorem sound_forwardedSetInterfaceDone (l : Loc) (s : State) (hs : Sound s) : Sound (forwardedSetInterfaceDone l s) := by
  delta forwardedSetInterfaceDone
  repeat' first
    | with_reducible assumption | with_reducible refine Sound.ite ?_ (fun hx => ?_)
    | (with_reducible first | apply sound_forwardedDone)

theorem sound_endHost (s : State) (l : Loc) (hs : Sound s) : Sound (endHost s l) := by
  delta endHost
  repeat' first
    | with_reducible assumption | (intro _)
    | ((fail_if_no_progress extract_lets -merge -useContext +onlyGivenNames x); (refine Sound.step (x := x) ?_ (fun hx => ?_); on_goal 1 => subst x))
    | (with_reducible first | apply sound_settleSuspend | apply sound_modCtrl) | split

theorem sound_pxOut0 (s : State) (u : Up) (l : Loc) (toggle : Bool) (data : List Byte) (hs : Sound s) : Sound (pxOut0 s u l toggle data) := by
  delta pxOut0
  repeat' first
    | with_reducible assumption | (intro _)
    | ((fail_if_no_progress extract_lets -merge -useContext +onlyGivenNames x); (first | (refine Sound.step (x := x) ?_ (fun hx => ?_); on_goal 1 => subst x) | skip))
    | with_reducible refine Sound.ite ?_ (fun hx => ?_)
    | (with_reducible first | apply sound_sendTun | apply sound_answer | apply sound_modCtrl | apply sound_wake0 | apply sound_endHost)
    | split

theorem sound_pxOut (s : State) (u : Up) (l : Loc) (ep : Nat) (toggle : Bool) (data : List Byte) (hs : Sound s) : Sound (pxOut s u l ep toggle data) := by
  delta pxOut
  repeat' first
    | with_reducible assumption | (intro _)
    | ((fail_if_no_progress extract_lets -merge -useContext +onlyGivenNames x); (refine Sound.step (x := x) ?_ (fun hx => ?_); on_goal 1 => subst x))
    | with_reducible refine Sound.ite ?_ (fun hx => ?_)
    | (with_reducible first | apply sound_State_modPx | apply sound_sealPacket | apply sound_answer | apply sound_wireOut | apply sound_pushTun)
    | split

theorem sound_wakePxL1 (s : State) (n : Nat) (hs : Sound s) : Sound (wakePxL1 s n) := by
  delta wakePxL1
  repeat' first
    | with_reducible assumption | with_reducible refine Sound.ite ?_ (fun hx => ?_)
    | (with_reducible first | apply sound_startResume)

theorem sound_hostOut (u : Up) (n ep : Nat) (toggle : Bool) (data : List Byte) (s : State) (hs : Sound s) : Sound (hostOut u n ep toggle data s) := by
  delta hostOut
  repeat' first
    | with_reducible assumption | (intro _) | with_reducible refine Sound.ite ?_ (fun hx => ?_)
    | (with_reducible first | apply sound_answer | apply sound_gated | apply sound_pxOut0 | apply sound_pxOut | apply sound_wakePxL1)

theorem sound_statusTaken (s : State) (u : Up) (l : Loc) (hs : Sound s) : Sound (statusTaken s u l) := by
  delta statusTaken
  repeat' first
    | with_reducible assumption
    | (fail_if_no_progress extract_lets -merge -useContext +onlyGivenNames x)
    | with_reducible refine Sound.ite ?_ (fun hx => ?_)
    | (with_reducible first | apply sound_takeAddress | apply sound_endHost)

theorem sound_pxIn0 (s : State) (u : Up) (l : Loc) (acked : Bool) (hs : Sound s) : Sound (pxIn0 s u l acked) := by
  delta pxIn0
  repeat' first
    | with_reducible assumption | (intro _)
    | ((fail_if_no_progress extract_lets -merge -useContext +onlyGivenNames x); (first | (refine Sound.step (x := x) ?_ (fun hx => ?_); on_goal 1 => subst x) | skip))
    | with_reducible refine Sound.ite ?_ (fun hx => ?_)
    | (with_reducible first | apply sound_answer | apply sound_modCtrl | apply sound_wake0 | apply sound_endHost | apply sound_statusTaken)
    | split

theorem sound_pxDraw (s : State) (u : Up) (l : Loc) (ep : Nat) (e : Ep) (hs : Sound s) : Sound (pxDraw s u l ep e) := by
  delta pxDraw
  repeat' first
    | with_reducible assumption | (intro _)
    | ((fail_if_no_progress extract_lets -merge -useContext +onlyGivenNames x); (refine Sound.step (x := x) ?_ (fun hx => ?_); on_goal 1 => subst x))
    | with_reducible refine Sound.ite ?_ (fun hx => ?_)
    | (with_reducible first | apply sound_State_drawn | apply sound_State_modPx | apply sound_sendTun | apply sound_answer | apply sound_wireIn)
    | split

theorem sound_pxIn (s : State) (u : Up) (l : Loc) (ep : Nat) (acked : Bool) (hs : Sound s) : Sound (pxIn s u l ep acked) := by
  delta pxIn
  repeat' first
    | with_reducible assumption | (intro _)
    | ((fail_if_no_progress extract_lets -merge -useContext +onlyGivenNames x); (refine Sound.step (x := x) ?_ (fun hx => ?_); on_goal 1 => subst x))
    | with_reducible refine Sound.ite ?_ (fun hx => ?_)
    | (with_reducible first | apply sound_State_drawn | apply sound_State_modPx | apply sound_answer | apply sound_readOn | apply sound_grantTun | apply sound_pxDraw)
    | split

theorem sound_hostIn (u : Up) (n ep : Nat) (acked : Bool) (s : State) (hs : Sound s) : Sound (hostIn u n ep acked s) := by
  delta hostIn
  repeat' first
    | with_reducible assumption | (intro _) | with_reducible refine Sound.ite ?_ (fun hx => ?_)
    | (with_reducible first | apply sound_answer | apply sound_gated | apply sound_wakePxL1 | apply sound_pxIn0 | apply sound_pxIn)

theorem sound_hostPing (u : Up) (n ep : Nat) (s : State) (hs : Sound s) : Sound (hostPing u n ep s) := by
  delta hostPing
  repeat' first
    | with_reducible assumption | (intro _)
    | (fail_if_no_progress extract_lets -merge -useContext +onlyGivenNames x)
    | with_reducible refine Sound.ite ?_ (fun hx => ?_)
    | (with_reducible first | apply sound_answer | apply sound_gated | apply sound_endHost) | split

theorem sound_stageEp (s : State) (p a : Nat) (ends : Bool) (hs : Sound s) : Sound (stageEp s p a ends) := by
  delta stageEp
  repeat' first
    | with_reducible assumption | with_reducible refine Sound.ite ?_ (fun hx => ?_)
    | (with_reducible first | apply sound_sendMirror) | split

theorem sound_deviceInData (p ep : Nat) (data : List Byte) (s : State) (hs : Sound s) : Sound (deviceInData p ep data s) := by
  delta deviceInData
  repeat' first
    | with_reducible assumption | (intro _)
    | ((fail_if_no_progress extract_lets -merge -useContext +onlyGivenNames x); (first | (refine Sound.step (x := x) ?_ (fun hx => ?_); on_goal 1 => subst x) | (refine Sound.step (x := x.2) ?_ (fun hx => ?_); on_goal 1 => subst x) | skip))
    | with_reducible refine Sound.ite ?_ (fun hx => ?_)
    | (with_reducible first | apply sound_State_modPx | apply sound_sealPacket | apply sound_countSealed | apply sound_endDraw | apply sound_readOn | apply sound_pushTun | apply sound_deviceIn0 | apply sound_stageEp)
    | split

theorem sound_deviceOutAck (p ep : Nat) (nyet : Bool) (s : State) (hs : Sound s) : Sound (deviceOutAck p ep nyet s) := by
  delta deviceOutAck
  repeat' first
    | with_reducible assumption | (intro _)
    | ((fail_if_no_progress extract_lets -merge -useContext +onlyGivenNames x); (first | (refine Sound.step (x := x) ?_ (fun hx => ?_); on_goal 1 => subst x) | skip))
    | with_reducible refine Sound.ite ?_ (fun hx => ?_)
    | (with_reducible first | apply sound_State_modPx | apply sound_ping | apply sound_wireOut | apply sound_settleSuspend | apply sound_ackOut | apply sound_deviceAck0 | apply sound_stageEp)
    | split

theorem sound_deviceStall (p ep : Nat) (s : State) (hs : Sound s) : Sound (deviceStall p ep s) := by
  delta deviceStall
  repeat' first
    | with_reducible assumption | (intro _)
    | ((fail_if_no_progress extract_lets -merge -useContext +onlyGivenNames x); (first | (refine Sound.step (x := x) ?_ (fun hx => ?_); on_goal 1 => subst x) | skip))
    | with_reducible refine Sound.ite ?_ (fun hx => ?_)
    | (with_reducible first | apply sound_State_modPort | apply sound_State_drawn | apply sound_State_modPx | apply sound_sendTun | apply sound_ping | apply sound_dropTun | apply sound_settleSuspend | apply sound_deviceStall0 | apply Sound.fold | apply Sound.foldP)
    | split

theorem sound_interruptInPoll (p ep : Nat) (s : State) (hs : Sound s) : Sound (interruptInPoll p ep s) := by
  delta interruptInPoll
  repeat' first
    | with_reducible assumption | (intro _)
    | ((fail_if_no_progress extract_lets -merge -useContext +onlyGivenNames x); (refine Sound.step (x := x) ?_ (fun hx => ?_); on_goal 1 => subst x))
    | with_reducible refine Sound.ite ?_ (fun hx => ?_)
    | (with_reducible first | apply sound_State_modPx | apply sound_wireIn) | split

theorem sound_planOver (before after : State) (_hb : Sound before) (hafter : Sound after) : Sound (planOver before after) := by
  delta planOver
  repeat' first
    | with_reducible assumption | (intro _)
    | ((fail_if_no_progress extract_lets -merge -useContext +onlyGivenNames x); (first | (refine Sound.step (x := x) ?_ (fun hx => ?_); on_goal 1 => subst x) | skip))
    | with_reducible refine Sound.ite ?_ (fun hx => ?_) | with_reducible apply hf
    | (with_reducible first | apply sound_restartWire | apply sound_takeLater | apply Sound.fold)

theorem sound_planApply (s : State) (hs : Sound s) : Sound (planApply s) := by
  delta planApply
  repeat' first
    | with_reducible assumption | with_reducible refine Sound.ite ?_ (fun hx => ?_)
    | (with_reducible first | apply sound_finishWait | apply sound_applyPlan | apply sound_planOver) | split

theorem sound_planApplyTimeout (s : State) (hs : Sound s) : Sound (planApplyTimeout s) := by
  delta planApplyTimeout
  repeat' first
    | with_reducible assumption | (with_reducible first | apply sound_finishWait | apply sound_planOver) | split
    | with_reducible refine Sound.lift ?_ rfl rfl rfl rfl rfl rfl rfl rfl rfl rfl rfl rfl rfl rfl rfl rfl rfl

theorem sound_ssplitPer (s : State) (u : Up) (p : Nat) (x : TtPer) (bytes : Nat) (hs : Sound s) : Sound (ssplitPer s u p x bytes) := by
  delta ssplitPer
  repeat' first
    | with_reducible assumption | (intro _)
    | (fail_if_no_progress extract_lets -merge -useContext +onlyGivenNames x)
    | with_reducible refine Sound.ite ?_ (fun hx => ?_)
    | (with_reducible first | apply sound_State_modPort | apply sound_answerD)

theorem sound_ssplitNp (s : State) (u : Up) (p : Nat) (x : TtBuf) (hs : Sound s) : Sound (ssplitNp s u p x) := by
  delta ssplitNp
  repeat' first
    | with_reducible assumption | (intro _)
    | ((fail_if_no_progress extract_lets -merge -useContext +onlyGivenNames x); (first | (refine Sound.step (x := x) ?_ (fun hx => ?_); on_goal 1 => subst x) | skip))
    | with_reducible refine Sound.ite ?_ (fun hx => ?_)
    | (with_reducible first | apply sound_State_modUp | apply sound_State_modPort | apply sound_answerD | apply sound_ttGo)

theorem sound_pxSplit (u : Up) (n addr ep : Nat) (periodic : Bool) (pid : Pid) (toggle : Bool) (data : List Byte) (s : State) (hs : Sound s) : Sound (pxSplit u n addr ep periodic pid toggle data s).2 := by
  delta pxSplit
  repeat' first
    | with_reducible assumption
    | ((fail_if_no_progress extract_lets -merge -useContext +onlyGivenNames x); (refine Sound.step (x := x) ?_ (fun hx => ?_); on_goal 1 => subst x))
    | with_reducible refine Sound.ite ?_ (fun hx => ?_)
    | (with_reducible first | apply sound_proxySetup | apply sound_hostOut | apply sound_hostIn) | split

theorem sound_ssplitPx (u : Up) (n addr ep : Nat) (periodic : Bool) (pid : Pid) (toggle : Bool) (data : List Byte) (s : State) (hs : Sound s) : Sound (ssplitPx u n addr ep periodic pid toggle data s) := by
  delta ssplitPx
  repeat' first
    | with_reducible assumption | (intro _)
    | ((fail_if_no_progress extract_lets -merge -useContext +onlyGivenNames x); (first | (refine Sound.step (x := x.2) ?_ (fun hx => ?_); on_goal 1 => subst x) | skip))
    | with_reducible refine Sound.ite ?_ (fun hx => ?_)
    | (with_reducible first | apply sound_State_modPort | apply sound_answerD | apply sound_pxSplit) | split

theorem sound_ttSsplit (u : Up) (n addr ep : Nat) (periodic : Bool) (pid : Pid) (ls toggle : Bool) (count : Nat) (data : List Byte) (s : State) (hs : Sound s) : Sound (ttSsplit u n addr ep periodic pid ls toggle count data s) := by
  delta ttSsplit
  repeat' first
    | with_reducible assumption
    | (fail_if_no_progress extract_lets -merge -useContext +onlyGivenNames x)
    | with_reducible refine Sound.ite ?_ (fun hx => ?_)
    | (with_reducible first | apply sound_answerD | apply sound_ssplitPer | apply sound_ssplitNp | apply sound_ssplitPx)
    | split

theorem sound_csplitPer (s : State) (u : Up) (p addr ep : Nat) (isIn : Bool) (hs : Sound s) : Sound (csplitPer s u p addr ep isIn) := by
  delta csplitPer
  repeat' first
    | with_reducible assumption | (intro _)
    | ((fail_if_no_progress extract_lets -merge -useContext +onlyGivenNames x); (refine Sound.stepK (f := x) ?_ (fun hf => ?_); on_goal 1 => subst x))
    | with_reducible refine Sound.ite ?_ (fun hx => ?_) | with_reducible apply hf
    | (with_reducible first | apply sound_State_modPort | apply sound_answerD) | (fail_if_no_progress beta_reduce)
    | split

theorem sound_csplitNp (s : State) (u : Up) (p addr ep : Nat) (isIn : Bool) (hs : Sound s) : Sound (csplitNp s u p addr ep isIn) := by
  delta csplitNp
  repeat' first
    | with_reducible assumption | (intro _) | with_reducible refine Sound.ite ?_ (fun hx => ?_)
    | (with_reducible first | apply sound_State_modPort | apply sound_answerD) | split

theorem sound_csplitPx (s : State) (u : Up) (n ep : Nat) (periodic isIn : Bool) (hs : Sound s) : Sound (csplitPx s u n ep periodic isIn) := by
  delta csplitPx
  repeat' first
    | with_reducible assumption | (intro _)
    | (fail_if_no_progress extract_lets -merge -useContext +onlyGivenNames x)
    | with_reducible refine Sound.ite ?_ (fun hx => ?_)
    | (with_reducible first | apply sound_State_modPort | apply sound_answerD) | split

theorem sound_ttCsplit (u : Up) (n addr ep : Nat) (periodic isIn : Bool) (s : State) (hs : Sound s) : Sound (ttCsplit u n addr ep periodic isIn s) := by
  delta ttCsplit
  repeat' first
    | with_reducible assumption | with_reducible refine Sound.ite ?_ (fun hx => ?_)
    | (with_reducible first | apply sound_answerD | apply sound_csplitPer | apply sound_csplitNp | apply sound_csplitPx)
    | split

theorem sound_ttTransactionDone (p addr ep : Nat) (periodic isIn : Bool) (r : TtRes) (s : State) (hs : Sound s) : Sound (ttTransactionDone p addr ep periodic isIn r s) := by
  delta ttTransactionDone
  repeat' first
    | with_reducible assumption | (intro _)
    | ((fail_if_no_progress extract_lets -merge -useContext +onlyGivenNames x); (refine Sound.step (x := x) ?_ (fun hx => ?_); on_goal 1 => subst x))
    | with_reducible refine Sound.ite ?_ (fun hx => ?_)
    | (with_reducible first | apply sound_State_modPort | apply sound_ttGoAll) | split

theorem sound_ttResultDiscard (p addr ep : Nat) (isIn : Bool) (s : State) (hs : Sound s) : Sound (ttResultDiscard p addr ep isIn s) := by
  delta ttResultDiscard
  repeat' first
    | with_reducible assumption | (intro _) | (with_reducible first | apply sound_State_modPort)

theorem sound_finishMove (s : State) (p : Nat) (d : Drain) (hs : Sound s) : Sound (finishMove s p d) := by
  delta finishMove
  repeat' first
    | with_reducible assumption | (intro _)
    | ((fail_if_no_progress extract_lets -merge -useContext +onlyGivenNames x); (first | (refine Sound.step (x := x) ?_ (fun hx => ?_); on_goal 1 => subst x) | skip))
    | with_reducible refine Sound.ite ?_ (fun hx => ?_)
    | (with_reducible first | apply sound_State_modPort | apply sound_finishWait | apply sound_ownerEvent | apply sound_ownerChanged | apply sound_park | apply sound_presentTo)
    | split

theorem sound_finishLendDrain (s : State) (p : Nat) (d : Drain) (hs : Sound s) : Sound (finishLendDrain s p d) := by
  delta finishLendDrain
  repeat' first
    | with_reducible assumption | (intro _)
    | ((fail_if_no_progress extract_lets -merge -useContext +onlyGivenNames x); (first | (refine Sound.step (x := x) ?_ (fun hx => ?_); on_goal 1 => subst x) | skip))
    | (with_reducible first | apply sound_State_modPort | apply sound_ownerChanged | apply sound_sendOpen)

end Sys2Proof.Machine
end

