-- ==== Sys2Proof/Laws/SoundOps5.lean ====
section
/-!
SUPPORT. Laws/SoundOps5.lean: the operations keep a state that holds together, part 5 of 8, in the order of the
model's files.
-/

namespace Sys2Proof.Machine

theorem sound_drainDonePhys (s : State) (p : Nat) (hs : Sound s) : Sound (drainDonePhys s p) := by
  delta drainDonePhys
  repeat' first
    | with_reducible assumption
    | (fail_if_no_progress extract_lets -merge -useContext +onlyGivenNames x)
    | with_reducible refine Sound.ite ?_ (fun hx => ?_)
    | (with_reducible first | apply sound_endLend | apply sound_finishMove | apply sound_finishLendDrain) | split

theorem sound_drainDone (l : Loc) (s : State) (hs : Sound s) : Sound (drainDone l s) := by
  delta drainDone
  repeat' first
    | with_reducible assumption | with_reducible refine Sound.ite ?_ (fun hx => ?_)
    | (with_reducible first | apply sound_finishWait | apply sound_sendTun | apply sound_freeVPort | apply sound_drainDonePhys)
    | split

theorem sound_drainTimeout (l : Loc) (s : State) (hs : Sound s) : Sound (drainTimeout l s) := by
  delta drainTimeout
  repeat' first
    | with_reducible assumption | (intro _)
    | ((fail_if_no_progress extract_lets -merge -useContext +onlyGivenNames x); (refine Sound.step (x := x) ?_ (fun hx => ?_); on_goal 1 => subst x))
    | with_reducible refine Sound.ite ?_ (fun hx => ?_)
    | (with_reducible first | apply sound_State_modPort | apply sound_State_modVPort | apply sound_finishWait | apply sound_sendTun | apply sound_endLend | apply sound_takeLater)
    | split

theorem sound_undoLend (s : State) (p : Nat) (r : Resp) (hs : Sound s) : Sound (undoLend s p r) := by
  delta undoLend
  repeat' first
    | with_reducible assumption | (intro _)
    | ((fail_if_no_progress extract_lets -merge -useContext +onlyGivenNames x); (first | (refine Sound.step (x := x) ?_ (fun hx => ?_); on_goal 1 => subst x) | skip))
    | with_reducible refine Sound.ite ?_ (fun hx => ?_)
    | (with_reducible first | apply sound_State_modPort | apply sound_finishWait | apply sound_homeCheck | apply sound_takeLater)
    | split

theorem sound_resumeAlone (s : State) (p : Nat) (hs : Sound s) : Sound (resumeAlone s p) := by
  delta resumeAlone
  repeat' first
    | with_reducible assumption | (intro _) | with_reducible refine Sound.ite ?_ (fun hx => ?_)
    | (with_reducible first | apply sound_State_modPort | apply sound_finishResume) | split

theorem sound_busResetTransparent (s : State) (p : Nat) (hs : Sound s) : Sound (busResetTransparent s p) := by
  delta busResetTransparent
  repeat' first
    | with_reducible assumption | (intro _)
    | (with_reducible first | apply sound_State_modPort | apply sound_syncPort | apply sound_resumeAlone) | split

theorem sound_busResetTranslated (s : State) (p : Nat) (hs : Sound s) : Sound (busResetTranslated s p) := by
  delta busResetTranslated
  repeat' first
    | with_reducible assumption | (intro _)
    | ((fail_if_no_progress extract_lets -merge -useContext +onlyGivenNames x); (first | (refine Sound.stepF (f := x) ?_ (fun hf => ?_); on_goal 1 => subst x) | skip))
    | with_reducible refine Sound.ite ?_ (fun hx => ?_) | with_reducible apply hf
    | (with_reducible first | apply sound_State_modPort | apply sound_sendTun | apply sound_park | apply sound_finishMove | apply sound_undoLend | apply sound_resumeAlone)
    | (fail_if_no_progress beta_reduce) | split

theorem sound_busResetPort (s : State) (p : Nat) (hs : Sound s) : Sound (busResetPort s p) := by
  delta busResetPort
  repeat' first
    | with_reducible assumption | (intro _)
    | ((fail_if_no_progress extract_lets -merge -useContext +onlyGivenNames x); (refine Sound.step (x := x) ?_ (fun hx => ?_); on_goal 1 => subst x))
    | with_reducible refine Sound.ite ?_ (fun hx => ?_)
    | (with_reducible first | apply sound_State_modPort | apply sound_loseDevice | apply sound_busResetTransparent | apply sound_busResetTranslated)
    | split

theorem sound_busResetVport (s : State) (u : Up) (v : Nat) (hs : Sound s) : Sound (busResetVport s u v) := by
  delta busResetVport
  repeat' first
    | with_reducible assumption | (intro _)
    | ((fail_if_no_progress extract_lets -merge -useContext +onlyGivenNames x); (first | (refine Sound.step (x := x) ?_ (fun hx => ?_); on_goal 1 => subst x) | skip))
    | with_reducible refine Sound.ite ?_ (fun hx => ?_)
    | (with_reducible first | apply sound_State_modVPort | apply sound_sendTun)

theorem sound_busReset (s : State) (u : Up) (link : UpLink) (code : Nat) (hs : Sound s) : Sound (busReset s u link code) := by
  delta busReset
  repeat' first
    | with_reducible assumption | (intro _)
    | ((fail_if_no_progress extract_lets -merge -useContext +onlyGivenNames x); (first | (refine Sound.step (x := x) ?_ (fun hx => ?_); on_goal 1 => subst x) | skip))
    | with_reducible refine Sound.ite ?_ (fun hx => ?_)
    | (with_reducible first | apply sound_State_modUp | apply sound_raiseUp | apply sound_dropResponses | apply sound_rechargeAll | apply sound_hostK | apply sound_busResetPort | apply sound_busResetVport | apply Sound.fold)

theorem sound_upstreamBusReset (u : Up) (hs : Bool) (s : State) (hh : Sound s) : Sound (upstreamBusReset u hs s) := by
  delta upstreamBusReset
  repeat' first
    | with_reducible assumption | (intro _)
    | (fail_if_no_progress extract_lets -merge -useContext +onlyGivenNames x)
    | with_reducible refine Sound.ite ?_ (fun hx => ?_) | (with_reducible first | apply sound_busReset)

theorem sound_upstreamConnectionLost (u : Up) (s : State) (hs : Sound s) : Sound (upstreamConnectionLost u s) := by
  delta upstreamConnectionLost
  repeat' first
    | with_reducible assumption | (with_reducible first | apply sound_setUpLink | apply sound_busReset)

theorem sound_lendPresented (u : Up) (v : Nat) (s : State) (hs : Sound s) : Sound (lendPresented u v s) := by
  delta lendPresented
  repeat' first
    | with_reducible assumption
    | ((fail_if_no_progress extract_lets -merge -useContext +onlyGivenNames x); (first | (refine Sound.step (x := x) ?_ (fun hx => ?_); on_goal 1 => subst x) | skip))
    | with_reducible refine Sound.ite ?_ (fun hx => ?_)
    | (with_reducible first | apply sound_State_modVPort | apply sound_raiseUp | apply sound_syncConn | apply sound_sendTun)

theorem sound_lendBorrowerTimeout (p : Nat) (s : State) (hs : Sound s) : Sound (lendBorrowerTimeout p s) := by
  delta lendBorrowerTimeout
  repeat' first
    | with_reducible assumption | (intro _)
    | ((fail_if_no_progress extract_lets -merge -useContext +onlyGivenNames x); (refine Sound.step (x := x) ?_ (fun hx => ?_); on_goal 1 => subst x))
    | with_reducible refine Sound.ite ?_ (fun hx => ?_)
    | (with_reducible first | apply sound_State_modPort | apply sound_finishWait | apply sound_takeLater | apply sound_undoLend)
    | split

theorem sound_lendHoldExpiry (l : Loc) (s : State) (hs : Sound s) : Sound (lendHoldExpiry l s) := by
  delta lendHoldExpiry
  repeat' first
    | with_reducible assumption
    | (fail_if_no_progress extract_lets -merge -useContext +onlyGivenNames x)
    | with_reducible refine Sound.ite ?_ (fun hx => ?_)
    | (with_reducible first | apply sound_finishWait | apply sound_sendTun | apply sound_freeVPort | apply sound_endLend | apply sound_undoLend)
    | split

theorem sound_refuseTun (s : State) (h : TunHdr) (why : Nat) (hs : Sound s) : Sound (refuseTun s h why) := by
  delta refuseTun
  repeat' first
    | with_reducible assumption | (with_reducible first | apply sound_sendTo)

theorem sound_tunUnknown (s : State) (h : TunHdr) (hs : Sound s) : Sound (tunUnknown s h) := by
  delta tunUnknown
  repeat' first
    | with_reducible assumption | (with_reducible first | apply sound_refuseTun)

theorem sound_onTun (s : State) (h : TunHdr) (late : Bool) (f : State → Loc → State) (hs : Sound s) (hf : ∀ x0 x1, Sound x0 → Sound (f x0 x1)) : Sound (onTun s h late f) := by
  delta onTun
  repeat' first
    | with_reducible assumption | (intro _)
    | ((fail_if_no_progress extract_lets -merge -useContext +onlyGivenNames x); (first | (refine Sound.step (x := x) ?_ (fun hx => ?_); on_goal 1 => subst x) | skip))
    | with_reducible refine Sound.ite ?_ (fun hx => ?_)
    | (with_reducible first | apply sound_State_modTun | apply sound_ackTun | apply sound_tunUnknown | apply hf)
    | split

theorem sound_tunDataOut (s : State) (p : Nat) (h : TunHdr) (data : List Byte) (hs : Sound s) : Sound (tunDataOut s p h data) := by
  delta tunDataOut
  repeat' first
    | with_reducible assumption | (intro _)
    | ((fail_if_no_progress extract_lets -merge -useContext +onlyGivenNames x); (first | (refine Sound.step (x := x) ?_ (fun hx => ?_); on_goal 1 => subst x) | (refine Sound.stepF (f := x) ?_ (fun hf => ?_); on_goal 1 => subst x) | skip))
    | with_reducible refine Sound.ite ?_ (fun hx => ?_) | with_reducible apply hf
    | (with_reducible first | apply sound_State_modPx | apply sound_State_modTun | apply sound_ackTun | apply sound_sealPacket | apply sound_wireOut | apply sound_grantTun | apply sound_modCtrl | apply sound_wake0)
    | (fail_if_no_progress beta_reduce) | split

theorem sound_tunDataIn (s : State) (l : Loc) (h : TunHdr) (data : List Byte) (hs : Sound s) : Sound (tunDataIn s l h data) := by
  delta tunDataIn
  repeat' first
    | with_reducible assumption | (intro _)
    | ((fail_if_no_progress extract_lets -merge -useContext +onlyGivenNames x); (first | (refine Sound.step (x := x) ?_ (fun hx => ?_); on_goal 1 => subst x) | (refine Sound.step (x := x.2) ?_ (fun hx => ?_); on_goal 1 => subst x)))
    | with_reducible refine Sound.ite ?_ (fun hx => ?_)
    | (with_reducible first | apply sound_State_modPx | apply sound_ackTun | apply sound_sealPacket | apply sound_grantTun | apply sound_modCtrl)
    | split

theorem sound_tunData (s : State) (l : Loc) (h : TunHdr) (data : List Byte) (hs : Sound s) : Sound (tunData s l h data) := by
  delta tunData
  repeat' first
    | with_reducible assumption | (with_reducible first | apply sound_tunDataOut | apply sound_tunDataIn) | split

theorem sound_tunDraw (s : State) (l : Loc) (ep : Nat) (hs : Sound s) : Sound (tunDraw s l ep) := by
  delta tunDraw
  repeat' first
    | with_reducible assumption | (intro _)
    | (with_reducible first | apply sound_State_drawn | apply sound_State_modPx | apply sound_readOn) | split

theorem sound_dataAcked (s : State) (l : Loc) (ep : Nat) (data : List Byte) (hs : Sound s) : Sound (dataAcked s l ep data) := by
  delta dataAcked
  repeat' first
    | with_reducible assumption | (intro _)
    | ((fail_if_no_progress extract_lets -merge -useContext +onlyGivenNames x); (refine Sound.step (x := x) ?_ (fun hx => ?_); on_goal 1 => subst x))
    | with_reducible refine Sound.ite ?_ (fun hx => ?_)
    | (with_reducible first | apply sound_State_drawn | apply sound_State_modPx | apply sound_readOn | apply sound_wake0)
    | split

theorem sound_reserved (s : State) (p : Nat) (hs : Sound s) : Sound (reserved s p) := by
  delta reserved
  repeat' first
    | with_reducible assumption | (intro _) | with_reducible refine Sound.ite ?_ (fun hx => ?_)
    | (with_reducible first | apply sound_State_modPort | apply sound_drainDonePhys) | split

theorem sound_tunAck (s : State) (l : Loc) (h : TunHdr) (hs : Sound s) : Sound (tunAck s l h) := by
  delta tunAck
  repeat' first
    | with_reducible assumption | (intro _)
    | ((fail_if_no_progress extract_lets -merge -useContext +onlyGivenNames x); (first | (refine Sound.step (x := x) ?_ (fun hx => ?_); on_goal 1 => subst x) | skip))
    | (with_reducible first | apply sound_State_modTun | apply sound_dataAcked | apply sound_reserved) | split

theorem sound_tunnelAck (h : TunHdr) (s : State) (hs : Sound s) : Sound (tunnelAck h s) := by
  delta tunnelAck
  repeat' first
    | with_reducible assumption | (with_reducible first | apply sound_tunUnknown | apply sound_tunAck) | split

theorem sound_tunCredit (s : State) (l : Loc) (ep total : Nat) (hs : Sound s) : Sound (tunCredit s l ep total) := by
  delta tunCredit
  repeat' first
    | with_reducible assumption | (intro _)
    | ((fail_if_no_progress extract_lets -merge -useContext +onlyGivenNames x); (refine Sound.step (x := x) ?_ (fun hx => ?_); on_goal 1 => subst x))
    | (with_reducible first | apply sound_State_modTun | apply sound_pushTun | apply Sound.fold)

theorem sound_tunSetup (s : State) (l : Loc) (b : List Byte) (hs : Sound s) : Sound (tunSetup s l b) := by
  delta tunSetup
  repeat' first
    | with_reducible assumption | with_reducible refine Sound.ite ?_ (fun hx => ?_)
    | (with_reducible first | apply sound_sendTun | apply sound_noteHalt | apply sound_forward | apply sound_keepSetup)
    | split

theorem sound_vportResetEnd (s : State) (u : Up) (v : Nat) (hs : Sound s) : Sound (vportResetEnd s u v) := by
  delta vportResetEnd
  repeat' first
    | with_reducible assumption | (intro _)
    | ((fail_if_no_progress extract_lets -merge -useContext +onlyGivenNames x); (refine Sound.step (x := x) ?_ (fun hx => ?_); on_goal 1 => subst x))
    | (with_reducible first | apply sound_State_modVPort | apply sound_State_modView)

theorem sound_suspAnswer (s : State) (u : Up) (v : Nat) (a : Ans) (susp : Bool) (hs : Sound s) : Sound (suspAnswer s u v a susp) := by
  delta suspAnswer
  repeat' first
    | with_reducible assumption | (intro _)
    | ((fail_if_no_progress extract_lets -merge -useContext +onlyGivenNames x); (first | (refine Sound.step (x := x) ?_ (fun hx => ?_); on_goal 1 => subst x) | skip))
    | with_reducible refine Sound.ite ?_ (fun hx => ?_)
    | (with_reducible first | apply sound_State_modVPort | apply sound_answer)

theorem sound_portResult (s : State) (u : Up) (v result : Nat) (hs : Sound s) : Sound (portResult s u v result) := by
  delta portResult
  repeat' first
    | with_reducible assumption | (intro _)
    | (with_reducible first | apply sound_State_modVPort | apply sound_State_modView | apply sound_suspAnswer) | split

theorem sound_epResult (s : State) (u : Up) (v ep result : Nat) (hs : Sound s) : Sound (epResult s u v ep result) := by
  delta epResult
  repeat' first
    | with_reducible assumption | (intro _)
    | (fail_if_no_progress extract_lets -merge -useContext +onlyGivenNames x)
    | with_reducible refine Sound.ite ?_ (fun hx => ?_)
    | (with_reducible first | apply sound_State_drawn | apply sound_State_modPx | apply sound_State_modTun | apply sound_ctrlDone | apply sound_modCtrl | apply sound_vportResetEnd)
    | split

theorem sound_tunResult (s : State) (l : Loc) (ep result : Nat) (hs : Sound s) : Sound (tunResult s l ep result) := by
  delta tunResult
  repeat' first
    | with_reducible assumption | (intro _) | with_reducible refine Sound.ite ?_ (fun hx => ?_)
    | (with_reducible first | apply sound_raisePort | apply sound_State_modPx | apply sound_dropTun | apply sound_portResult | apply sound_epResult)
    | split

theorem sound_tunReset (s : State) (l : Loc) (hs : Sound s) : Sound (tunReset s l) := by
  delta tunReset
  repeat' first
    | with_reducible assumption | (intro _)
    | ((fail_if_no_progress extract_lets -merge -useContext +onlyGivenNames x); (first | (refine Sound.step (x := x) ?_ (fun hx => ?_); on_goal 1 => subst x) | skip))
    | (with_reducible first | apply sound_State_modPx | apply sound_State_modId | apply sound_ownerEvent | apply sound_startRefill | apply sound_dropTun)
    | split

theorem sound_tunWake (s : State) (l : Loc) (hs : Sound s) : Sound (tunWake s l) := by
  delta tunWake
  repeat' first
    | with_reducible assumption | with_reducible refine Sound.ite ?_ (fun hx => ?_)
    | (with_reducible first | apply sound_driveUpK) | split

theorem sound_tunSuspend (s : State) (l : Loc) (hs : Sound s) : Sound (tunSuspend s l) := by
  delta tunSuspend
  repeat' first
    | with_reducible assumption | (intro _) | with_reducible refine Sound.ite ?_ (fun hx => ?_)
    | (with_reducible first | apply sound_State_modPort | apply sound_sendTun | apply sound_doSuspend) | split

theorem sound_tunResume (s : State) (l : Loc) (hs : Sound s) : Sound (tunResume s l) := by
  delta tunResume
  repeat' first
    | with_reducible assumption | (with_reducible first | apply sound_hostResume) | split

theorem sound_moreOpen (data : List Byte) (s : State) (l : Loc) (hs : Sound s) : Sound (moreOpen data s l) := by
  delta moreOpen
  repeat' first
    | with_reducible assumption | (intro _) | with_reducible refine Sound.ite ?_ (fun hx => ?_)
    | (with_reducible first | apply sound_State_modVPort | apply sound_syncConn | apply sound_State_modTun) | split

theorem sound_tunnelOpen (h : TunHdr) (data : List Byte) (s : State) (hs : Sound s) : Sound (tunnelOpen h data s) := by
  delta tunnelOpen
  repeat' first
    | with_reducible assumption | (intro _)
    | ((fail_if_no_progress extract_lets -merge -useContext +onlyGivenNames x); (first | (refine Sound.step (x := x) ?_ (fun hx => ?_); on_goal 1 => subst x) | skip))
    | with_reducible refine Sound.ite ?_ (fun hx => ?_)
    | (with_reducible first | apply sound_State_modVPort | apply sound_ackTun | apply sound_refuseTun | apply sound_tunUnknown | apply sound_onTun | apply sound_moreOpen)
    | split

theorem sound_tunOpenDone (s : State) (l : Loc) (hs : Sound s) : Sound (tunOpenDone s l) := by
  delta tunOpenDone
  repeat' first
    | with_reducible assumption | (intro _)
    | ((fail_if_no_progress extract_lets -merge -useContext +onlyGivenNames x); (first | (refine Sound.step (x := x) ?_ (fun hx => ?_); on_goal 1 => subst x) | skip))
    | with_reducible refine Sound.ite ?_ (fun hx => ?_)
    | (with_reducible first | apply sound_finishWait | apply sound_ownerEvent | apply sound_State_modTun) | split

theorem sound_recallVport (s : State) (u : Up) (v : Nat) (hs : Sound s) : Sound (recallVport s u v) := by
  delta recallVport
  repeat' first
    | with_reducible assumption | (intro _) | with_reducible refine Sound.ite ?_ (fun hx => ?_)
    | (with_reducible first | apply sound_State_modVPort | apply sound_drainDone)

theorem sound_lendOver (s : State) (l : Loc) (why : Nat) (hs : Sound s) : Sound (lendOver s l why) := by
  delta lendOver
  repeat' first
    | with_reducible assumption | (intro _)
    | (fail_if_no_progress extract_lets -merge -useContext +onlyGivenNames x)
    | with_reducible refine Sound.ite ?_ (fun hx => ?_)
    | (with_reducible first | apply sound_State_modPort | apply sound_finishWait | apply sound_freeVPort | apply sound_endLend | apply sound_drainDonePhys | apply sound_undoLend)
    | split

theorem sound_tunnelClose (h : TunHdr) (s : State) (hs : Sound s) : Sound (tunnelClose h s) := by
  unfold tunnelClose
  have h1 : ∀ l w, Sound (lendOver s l w) := fun l w => sound_lendOver _ _ _ hs
  repeat' first
  | exact hs
  | exact h1 _ _
  | exact sound_ackTun _ _ _ _ hs
  | exact sound_recallVport _ _ _ (sound_ackTun _ _ _ _ (sound_State_modTun _ _ _ hs))
  | split
  | extract_lets t q why first

theorem sound_resendHeld (s : State) (l : Loc) (hs : Sound s) : Sound (resendHeld s l) := by
  delta resendHeld
  repeat' first
    | with_reducible assumption | (intro _)
    | (fail_if_no_progress extract_lets -merge -useContext +onlyGivenNames x)
    | (with_reducible first | apply sound_sendTo | apply Sound.fold)

theorem sound_sendResync (s : State) (l : Loc) (hs : Sound s) : Sound (sendResync s l) := by
  delta sendResync
  repeat' first
    | with_reducible assumption | (intro _)
    | (fail_if_no_progress extract_lets -merge -useContext +onlyGivenNames x)
    | with_reducible refine Sound.ite ?_ (fun hx => ?_)
    | (with_reducible first | apply sound_sendTo | apply sound_State_modTun)

theorem sound_tunnelResync (h : TunHdr) (last : Nat) (s : State) (hs : Sound s) : Sound (tunnelResync h last s) := by
  delta tunnelResync
  repeat' first
    | with_reducible assumption | (intro _)
    | ((fail_if_no_progress extract_lets -merge -useContext +onlyGivenNames x); (first | (refine Sound.step (x := x) ?_ (fun hx => ?_); on_goal 1 => subst x) | skip))
    | with_reducible refine Sound.ite ?_ (fun hx => ?_)
    | (with_reducible first | apply sound_State_modTun | apply sound_tunUnknown | apply sound_tunAck | apply sound_resendHeld | apply sound_sendResync | apply Sound.fold | apply Sound.foldP)
    | split

theorem sound_tunDiscard (s : State) (l : Loc) (ep : Nat) (hs : Sound s) : Sound (tunDiscard s l ep) := by
  delta tunDiscard
  repeat' first
    | with_reducible assumption | (intro _)
    | ((fail_if_no_progress extract_lets -merge -useContext +onlyGivenNames x); (refine Sound.step (x := x) ?_ (fun hx => ?_); on_goal 1 => subst x))
    | with_reducible refine Sound.ite ?_ (fun hx => ?_)
    | (with_reducible first | apply sound_State_modPort | apply sound_State_modPx | apply sound_State_modId | apply sound_dropTun | apply sound_modCtrl)
    | split

theorem sound_tunnelUnackedTimeout (l : Loc) (s : State) (hs : Sound s) : Sound (tunnelUnackedTimeout l s) := by
  delta tunnelUnackedTimeout
  repeat' first
    | with_reducible assumption | with_reducible refine Sound.ite ?_ (fun hx => ?_)
    | (with_reducible first | apply sound_sendResync)

theorem sound_sendHere (s : State) (l kind : Nat) (bs : List Byte) (hs : Sound s) : Sound (sendHere s l kind bs) := by
  delta sendHere
  repeat' first
    | with_reducible assumption | (with_reducible first | apply sound_sendOn)

theorem sound_sendHello (s : State) (l : Nat) (hs : Sound s) : Sound (sendHello s l) := by
  delta sendHello
  repeat' first
    | with_reducible assumption | with_reducible refine Sound.ite ?_ (fun hx => ?_)
    | (with_reducible first | apply sound_sendHere)

theorem sound_flood (s : State) (a : Lsa) (but : Option Nat) (hs : Sound s) : Sound (flood s a but) := by
  delta flood
  repeat' first
    | with_reducible assumption | (intro _) | with_reducible refine Sound.ite ?_ (fun hx => ?_)
    | (with_reducible first | apply sound_sendHere | apply Sound.fold)

theorem sound_putLsa (s : State) (a : Lsa) (hs : Sound s) : Sound (putLsa s a) := by
  delta putLsa
  repeat' first
    | with_reducible assumption | (intro _)
    | with_reducible refine Sound.lift ?_ rfl rfl rfl rfl rfl rfl rfl rfl rfl rfl rfl rfl rfl rfl rfl rfl rfl

theorem sound_announce (s : State) (l : Nat) (hs : Sound s) : Sound (announce s l) := by
  delta announce
  repeat' first
    | with_reducible assumption | (intro _)
    | ((fail_if_no_progress extract_lets -merge -useContext +onlyGivenNames x); (first | (refine Sound.step (x := x) ?_ (fun hx => ?_); on_goal 1 => subst x) | skip))
    | with_reducible refine Sound.ite ?_ (fun hx => ?_)
    | (with_reducible first | apply sound_sendSlow | apply sound_flood | apply sound_putLsa) | split
    | with_reducible refine Sound.lift ?_ rfl rfl rfl rfl rfl rfl rfl rfl rfl rfl rfl rfl rfl rfl rfl rfl rfl

theorem sound_reclaim (s : State) (l : Nat) (hs : Sound s) : Sound (reclaim s l) := by
  delta reclaim
  repeat' first
    | with_reducible assumption
    | ((fail_if_no_progress extract_lets -merge -useContext +onlyGivenNames x); (first | (refine Sound.step (x := x) ?_ (fun hx => ?_); on_goal 1 => subst x) | skip))
    | with_reducible refine Sound.ite ?_ (fun hx => ?_)
    | (with_reducible first | apply sound_raiseLink | apply sound_announce) | split
    | with_reducible refine Sound.lift ?_ rfl rfl rfl rfl rfl rfl rfl rfl rfl rfl rfl rfl rfl rfl rfl rfl rfl

theorem sound_blockLock (l : Nat) (heads : List Nat) (ts : Nat) (s : State) (hs : Sound s) : Sound (blockLock l heads ts s) := by
  delta blockLock
  repeat' first
    | with_reducible assumption | (intro _)
    | ((fail_if_no_progress extract_lets -merge -useContext +onlyGivenNames x); (first | (refine Sound.stepK (f := x) ?_ (fun hf => ?_); on_goal 1 => subst x) | skip))
    | with_reducible refine Sound.ite ?_ (fun hx => ?_) | with_reducible apply hf
    | (with_reducible first | apply sound_State_modLink | apply sound_trainPhy) | (fail_if_no_progress beta_reduce)
    | split

theorem sound_tsExchangeDone (l : Nat) (t : TsWord) (s : State) (hs : Sound s) : Sound (tsExchangeDone l t s) := by
  delta tsExchangeDone
  repeat' first
    | with_reducible assumption | (intro _)
    | ((fail_if_no_progress extract_lets -merge -useContext +onlyGivenNames x); (first | (refine Sound.step (x := x) ?_ (fun hx => ?_); on_goal 1 => subst x) | skip))
    | with_reducible refine Sound.ite ?_ (fun hx => ?_)
    | (with_reducible first | apply sound_State_modLink | apply sound_raise) | split
    | with_reducible refine Sound.lift ?_ rfl rfl rfl rfl rfl rfl rfl rfl rfl rfl rfl rfl rfl rfl rfl rfl rfl

theorem sound_grantBuffers (s : State) (l : Nat) (hs : Sound s) : Sound (grantBuffers s l) := by
  delta grantBuffers
  repeat' first
    | with_reducible assumption | (intro _)
    | ((fail_if_no_progress extract_lets -merge -useContext +onlyGivenNames x); (refine Sound.step (x := x) ?_ (fun hx => ?_); on_goal 1 => subst x))
    | (with_reducible first | apply sound_State_modLink | apply sound_sendWord | apply Sound.fold)

theorem sound_enterRetrain (s : State) (l cause : Nat) (hs : Sound s) : Sound (enterRetrain s l cause) := by
  delta enterRetrain
  repeat' first
    | with_reducible assumption | (intro _)
    | ((fail_if_no_progress extract_lets -merge -useContext +onlyGivenNames x); (first | (refine Sound.step (x := x) ?_ (fun hx => ?_); on_goal 1 => subst x) | skip))
    | with_reducible refine Sound.ite ?_ (fun hx => ?_)
    | (with_reducible first | apply sound_State_modLink | apply sound_raiseLink)

theorem sound_replayBurst (s : State) (l : Nat) (hs : Sound s) : Sound (replayBurst s l) := by
  delta replayBurst
  repeat' first
    | with_reducible assumption | (intro _)
    | (fail_if_no_progress extract_lets -merge -useContext +onlyGivenNames x)
    | with_reducible refine Sound.ite ?_ (fun hx => ?_)
    | (with_reducible first | apply sound_State_modLink | apply sound_sendWord | apply sound_raiseLink | apply sound_enterRetrain)

theorem sound_linkCheckDone (l : Nat) (ok : Bool) (rtt : Nat) (s : State) (hs : Sound s) : Sound (linkCheckDone l ok rtt s) := by
  delta linkCheckDone
  repeat' first
    | with_reducible assumption | (intro _)
    | ((fail_if_no_progress extract_lets -merge -useContext +onlyGivenNames x); (first | (refine Sound.step (x := x) ?_ (fun hx => ?_); on_goal 1 => subst x) | skip))
    | with_reducible refine Sound.ite ?_ (fun hx => ?_)
    | (with_reducible first | apply sound_State_modLink | apply sound_pump | apply sound_raiseLink | apply sound_sendHello | apply sound_grantBuffers | apply sound_replayBurst)

theorem sound_lockLost (l : Nat) (silence : Bool) (heads : List Nat) (s : State) (hs : Sound s) : Sound (lockLost l silence heads s) := by
  delta lockLost
  repeat' first
    | with_reducible assumption | (intro _) | with_reducible refine Sound.ite ?_ (fun hx => ?_)
    | (with_reducible first | apply sound_State_modLink | apply sound_enterRetrain) | split

theorem sound_dropQueues (s : State) (l : Nat) (hs : Sound s) : Sound (dropQueues s l) := by
  delta dropQueues
  repeat' first
    | with_reducible assumption | (intro _)
    | ((fail_if_no_progress extract_lets -merge -useContext +onlyGivenNames x); (first | (refine Sound.step (x := x) ?_ (fun hx => ?_); on_goal 1 => subst x) | skip))
    | (with_reducible first | apply sound_State_modLink | apply sound_freeCredits | apply Sound.fold | apply Sound.foldP)
    | split

theorem sound_unusable (s : State) (l : Nat) (hs : Sound s) : Sound (unusable s l) := by
  delta unusable
  repeat' first
    | with_reducible assumption | (intro _)
    | ((fail_if_no_progress extract_lets -merge -useContext +onlyGivenNames x); (first | (refine Sound.step (x := x) ?_ (fun hx => ?_); on_goal 1 => subst x) | skip))
    | with_reducible refine Sound.ite ?_ (fun hx => ?_)
    | (with_reducible first | apply sound_State_modLink | apply sound_raiseLink | apply sound_announce)

theorem sound_fabLinkDown (s : State) (l cause : Nat) (st : LinkSt) (hs : Sound s) : Sound (fabLinkDown s l cause st) := by
  delta fabLinkDown
  repeat' first
    | with_reducible assumption | (intro _)
    | (with_reducible first | apply sound_State_modLink | apply sound_raiseLink | apply sound_dropQueues | apply sound_unusable)

theorem sound_retrainWindowExpiry (l : Nat) (s : State) (hs : Sound s) : Sound (retrainWindowExpiry l s) := by
  delta retrainWindowExpiry
  repeat' first
    | with_reducible assumption | with_reducible refine Sound.ite ?_ (fun hx => ?_)
    | (with_reducible first | apply sound_fabLinkDown)

theorem sound_sendBringUp (s : State) (l : Nat) (x : LinkSt) (hs : Sound s) : Sound (sendBringUp s l x) := by
  cases x with
  | acquire => exact sound_sendWord _ _ _ _ hs
  | train => exact sound_sendWord _ _ _ _ hs
  | check => exact sound_sendWord _ _ _ _ hs
  | _ => exact hs

theorem sound_linkWordSend (l : Nat) (s : State) (hs : Sound s) : Sound (linkWordSend l s) := by
  unfold linkWordSend
  simp only
  split
  · exact sound_sendBringUp _ _ _ hs
  · split
    · exact sound_sendWord _ _ _ _ hs.of
    · split
      · exact sound_sendWord _ _ _ _ hs
      · refine Sound.fold (fun s c h => ?_) _ _ hs
        split
        · exact h
        · exact sound_sendWord _ _ _ _ (sound_State_modLink _ _ _ h)

theorem sound_forwardBroadcast (s : State) (l : Nat) (f : Frame) (hs : Sound s) : Sound (forwardBroadcast s l f) := by
  delta forwardBroadcast
  repeat' first
    | with_reducible assumption | (intro _)
    | ((fail_if_no_progress extract_lets -merge -useContext +onlyGivenNames x); (first | (refine Sound.step (x := x) ?_ (fun hx => ?_); on_goal 1 => subst x) | (refine Sound.stepF (f := x) ?_ (fun hf => ?_); on_goal 1 => subst x)))
    | with_reducible refine Sound.ite ?_ (fun hx => ?_) | with_reducible apply hf
    | (with_reducible first | apply sound_freeCredits | apply sound_queueOn | apply sound_sendOn | apply sound_countDiscard | apply Sound.fold | apply Sound.foldP)
    | (fail_if_no_progress beta_reduce) | split

theorem sound_routeFrame (s : State) (l : Nat) (f : Frame) (hs : Sound s) : Sound (routeFrame s l f) := by
  have hf : ∀ t : State, Sound t → Sound (freeCredits t l f.vc (frameCredits f)) := fun t h => sound_freeCredits _ _ _ _ h
  have hd := sound_countDiscard s l hs
  unfold routeFrame
  simp only
  split
  · exact hf _ hd
  · split
    · exact hf _ hs
    · split
      · exact sound_forwardBroadcast _ _ _ hs
      · split
        · exact hf _ (sound_noRouteEvent _ _ _ hd)
        · split
          · exact hf _ hd
          · exact sound_queueOn _ _ _ _ hs

theorem sound_abortForward (s : State) (l : Nat) (f : Frame) (hs : Sound s) : Sound (abortForward s l f) := by
  delta abortForward
  repeat' first
    | with_reducible assumption | (intro _)
    | (fail_if_no_progress extract_lets -merge -useContext +onlyGivenNames x)
    | with_reducible refine Sound.ite ?_ (fun hx => ?_)
    | (with_reducible first | apply sound_State_modLink | apply sound_sendWord) | split

theorem sound_frameReceived (l lseq : Nat) (f : Frame) (lchkOk fcrcOk : Bool) (s : State) (hs : Sound s) : Sound (frameReceived l lseq f lchkOk fcrcOk s) := by
  delta frameReceived
  repeat' first
    | with_reducible assumption | (intro _)
    | ((fail_if_no_progress extract_lets -merge -useContext +onlyGivenNames x); (first | (refine Sound.step (x := x) ?_ (fun hx => ?_); on_goal 1 => subst x) | skip))
    | with_reducible refine Sound.ite ?_ (fun hx => ?_)
    | (with_reducible first | apply sound_State_modLink | apply sound_sendWord | apply sound_routeFrame | apply sound_abortForward)

theorem sound_ackThrough (s : State) (l lseq : Nat) (hs : Sound s) : Sound (ackThrough s l lseq) := by
  delta ackThrough
  repeat' first
    | with_reducible assumption | (intro _) | (with_reducible first | apply sound_State_modLink)

theorem sound_ackWord (l lseq : Nat) (s : State) (hs : Sound s) : Sound (ackWord l lseq s) := by
  delta ackWord
  repeat' first
    | with_reducible assumption | (with_reducible first | apply sound_pump | apply sound_ackThrough)

theorem sound_nakWord (l lseq : Nat) (s : State) (hs : Sound s) : Sound (nakWord l lseq s) := by
  delta nakWord
  repeat' first
    | with_reducible assumption | with_reducible refine Sound.ite ?_ (fun hx => ?_)
    | (with_reducible first | apply sound_pump | apply sound_replayBurst | apply sound_ackThrough)

theorem sound_replayWord (l : Nat) (u_lseq : Nat) (s : State) (hs : Sound s) : Sound (replayWord l u_lseq s) := by
  delta replayWord
  repeat' first
    | with_reducible assumption | (intro _) | (with_reducible first | apply sound_State_modLink)

theorem sound_abortWord (l vc credits : Nat) (s : State) (hs : Sound s) : Sound (abortWord l vc credits s) := by
  delta abortWord
  repeat' first
    | with_reducible assumption | (intro _)
    | (with_reducible first | apply sound_State_modLink | apply sound_freeCredits)

theorem sound_creditWord (l vc total : Nat) (s : State) (hs : Sound s) : Sound (creditWord l vc total s) := by
  delta creditWord
  repeat' first
    | with_reducible assumption | (intro _)
    | ((fail_if_no_progress extract_lets -merge -useContext +onlyGivenNames x); (refine Sound.step (x := x) ?_ (fun hx => ?_); on_goal 1 => subst x))
    | with_reducible refine Sound.ite ?_ (fun hx => ?_)
    | (with_reducible first | apply sound_State_modLink | apply sound_pump | apply sound_raiseLink)

theorem sound_retrainWord (l : Nat) (s : State) (hs : Sound s) : Sound (retrainWord l s) := by
  delta retrainWord
  repeat' first
    | with_reducible assumption | with_reducible refine Sound.ite ?_ (fun hx => ?_)
    | (with_reducible first | apply sound_enterRetrain)

theorem sound_replayTimerExpiry (l : Nat) (s : State) (hs : Sound s) : Sound (replayTimerExpiry l s) := by
  delta replayTimerExpiry
  repeat' first
    | with_reducible assumption | with_reducible refine Sound.ite ?_ (fun hx => ?_)
    | (with_reducible first | apply sound_pump | apply sound_replayBurst)

theorem sound_creditStallExpiry (l vc : Nat) (s : State) (hs : Sound s) : Sound (creditStallExpiry l vc s) := by
  delta creditStallExpiry
  repeat' first
    | with_reducible assumption | (intro _)
    | ((fail_if_no_progress extract_lets -merge -useContext +onlyGivenNames x); (first | (refine Sound.step (x := x) ?_ (fun hx => ?_); on_goal 1 => subst x) | skip))
    | (with_reducible first | apply sound_State_modLink | apply sound_freeCredits | apply sound_pump | apply sound_raiseLink | apply sound_countDiscard)
    | split

theorem sound_hello (l : Nat) (h : Hello) (s : State) (hs : Sound s) : Sound (hello l h s) := by
  delta hello
  repeat' first
    | with_reducible assumption | (intro _)
    | ((fail_if_no_progress extract_lets -merge -useContext +onlyGivenNames x); (first | (refine Sound.step (x := x) ?_ (fun hx => ?_); on_goal 1 => subst x) | skip))
    | with_reducible refine Sound.ite ?_ (fun hx => ?_)
    | (with_reducible first | apply sound_State_modLink | apply sound_raiseLink | apply sound_announce)

theorem sound_lsa (l : Nat) (a : Lsa) (s : State) (hs : Sound s) : Sound (lsa l a s) := by
  delta lsa
  repeat' first
    | with_reducible assumption | (intro _)
    | ((fail_if_no_progress extract_lets -merge -useContext +onlyGivenNames x); (first | (refine Sound.step (x := x) ?_ (fun hx => ?_); on_goal 1 => subst x) | skip))
    | with_reducible refine Sound.ite ?_ (fun hx => ?_)
    | (with_reducible first | apply sound_flood | apply sound_putLsa | apply sound_announce | apply sound_reclaim)
    | split | with_reducible refine Sound.lift ?_ rfl rfl rfl rfl rfl rfl rfl rfl rfl rfl rfl rfl rfl rfl rfl rfl rfl

theorem sound_lsaRefresh (s : State) (hs : Sound s) : Sound (lsaRefresh s) := by
  delta lsaRefresh
  repeat' first
    | with_reducible assumption | (intro _)
    | ((fail_if_no_progress extract_lets -merge -useContext +onlyGivenNames x); (first | (refine Sound.step (x := x) ?_ (fun hx => ?_); on_goal 1 => subst x) | skip))
    | with_reducible refine Sound.ite ?_ (fun hx => ?_)
    | (with_reducible first | apply sound_sendHello | apply sound_announce | apply sound_reclaim | apply Sound.fold)

theorem sound_lsaPurge (s : State) (hs : Sound s) : Sound (lsaPurge s) := by
  delta lsaPurge
  repeat' first
    | with_reducible assumption | (intro _)
    | (fail_if_no_progress extract_lets -merge -useContext +onlyGivenNames x)
    | with_reducible refine Sound.ite ?_ (fun hx => ?_) | with_reducible apply hf
    | (with_reducible first | apply sound_reclaim) | (fail_if_no_progress beta_reduce) | split
    | with_reducible refine Sound.lift ?_ rfl rfl rfl rfl rfl rfl rfl rfl rfl rfl rfl rfl rfl rfl rfl rfl rfl

theorem sound_linkUsable (l : Nat) (s : State) (hs : Sound s) : Sound (linkUsable l s) := by
  delta linkUsable
  repeat' first
    | with_reducible assumption | (intro _)
    | ((fail_if_no_progress extract_lets -merge -useContext +onlyGivenNames x); (first | (refine Sound.step (x := x) ?_ (fun hx => ?_); on_goal 1 => subst x) | skip))
    | with_reducible refine Sound.ite ?_ (fun hx => ?_)
    | (with_reducible first | apply sound_State_modLink | apply sound_announce | apply sound_reclaim)

theorem sound_nodeIdClaimSettle (s : State) (hs : Sound s) : Sound (nodeIdClaimSettle s) := by
  delta nodeIdClaimSettle
  repeat' first
    | with_reducible assumption
    | ((fail_if_no_progress extract_lets -merge -useContext +onlyGivenNames x); (first | (refine Sound.step (x := x) ?_ (fun hx => ?_); on_goal 1 => subst x) | skip))
    | with_reducible refine Sound.ite ?_ (fun hx => ?_)
    | (with_reducible first | apply sound_raiseLink | apply sound_setPaired) | split
    | with_reducible refine Sound.lift ?_ rfl rfl rfl rfl rfl rfl rfl rfl rfl rfl rfl rfl rfl rfl rfl rfl rfl

theorem sound_endForwarded (s : State) (hs : Sound s) : Sound (endForwarded s) := by
  delta endForwarded
  repeat' first
    | with_reducible assumption | (intro _) | with_reducible refine Sound.ite ?_ (fun hx => ?_)
    | (with_reducible first | apply sound_respond | apply Sound.fold | apply Sound.foldP) | split
    | with_reducible refine Sound.lift ?_ rfl rfl rfl rfl rfl rfl rfl rfl rfl rfl rfl rfl rfl rfl rfl rfl rfl

theorem sound_tunnelRoutes (s : State) (old : List RouteEnt) (hs : Sound s) : Sound (tunnelRoutes s old) := by
  delta tunnelRoutes
  repeat' first
    | with_reducible assumption | (intro _)
    | ((fail_if_no_progress extract_lets -merge -useContext +onlyGivenNames x); (first | (refine Sound.step (x := x) ?_ (fun hx => ?_); on_goal 1 => subst x) | skip))
    | with_reducible refine Sound.ite ?_ (fun hx => ?_)
    | (with_reducible first | apply sound_State_modTun | apply sound_sendResync | apply Sound.fold)

theorem sound_routeTables (s : State) (hs : Sound s) : Sound (routeTables s) := by
  delta routeTables
  repeat' first
    | with_reducible assumption | (intro _)
    | ((fail_if_no_progress extract_lets -merge -useContext +onlyGivenNames x); (first | (refine Sound.step (x := x) ?_ (fun hx => ?_); on_goal 1 => subst x) | skip))
    | with_reducible refine Sound.ite ?_ (fun hx => ?_)
    | (with_reducible first | apply sound_State_modLink | apply Sound.fold | apply Sound.foldP) | split
    | with_reducible refine Sound.lift ?_ rfl rfl rfl rfl rfl rfl rfl rfl rfl rfl rfl rfl rfl rfl rfl rfl rfl

theorem sound_routeEvents (s t : State) (l : Nat) (_hs : Sound s) (ht : Sound t) : Sound (routeEvents s t l) := by
  delta routeEvents
  repeat' first
    | with_reducible assumption | (intro _)
    | ((fail_if_no_progress extract_lets -merge -useContext +onlyGivenNames x); (first | (refine Sound.step (x := x) ?_ (fun hx => ?_); on_goal 1 => subst x) | skip))
    | with_reducible refine Sound.ite ?_ (fun hx => ?_)
    | (with_reducible first | apply sound_raiseLink | apply Sound.fold)

theorem sound_routeComputeDone (s : State) (hs : Sound s) : Sound (routeComputeDone s) := by
  delta routeComputeDone
  repeat' first
    | with_reducible assumption
    | ((fail_if_no_progress extract_lets -merge -useContext +onlyGivenNames x); (refine Sound.step (x := x) ?_ (fun hx => ?_); on_goal 1 => subst x))
    | with_reducible refine Sound.ite ?_ (fun hx => ?_)
    | (with_reducible first | apply sound_setParent | apply sound_endForwarded | apply sound_tunnelRoutes | apply sound_routeTables | apply sound_routeEvents)

theorem sound_enterSleep (s : State) (l : Nat) (hs : Sound s) : Sound (enterSleep s l) := by
  delta enterSleep
  repeat' first
    | with_reducible assumption | (intro _)
    | ((fail_if_no_progress extract_lets -merge -useContext +onlyGivenNames x); (refine Sound.step (x := x) ?_ (fun hx => ?_); on_goal 1 => subst x))
    | (with_reducible first | apply sound_State_modLink | apply sound_raiseLink | apply sound_unusable)

theorem sound_requestSleep (s : State) (l : Nat) (hs : Sound s) : Sound (requestSleep s l) := by
  delta requestSleep
  repeat' first
    | with_reducible assumption | (intro _) | with_reducible refine Sound.ite ?_ (fun hx => ?_)
    | (with_reducible first | apply sound_State_modLink | apply sound_sendWord)

theorem sound_sleepWord (l : Nat) (ack : Bool) (s : State) (hs : Sound s) : Sound (sleepWord l ack s) := by
  delta sleepWord
  repeat' first
    | with_reducible assumption
    | (fail_if_no_progress extract_lets -merge -useContext +onlyGivenNames x)
    | with_reducible refine Sound.ite ?_ (fun hx => ?_)
    | (with_reducible first | apply sound_sendWord | apply sound_enterSleep)

theorem sound_sendPattern (s : State) (l : Nat) (hs : Sound s) : Sound (sendPattern s l) := by
  delta sendPattern
  repeat' first
    | with_reducible assumption | (intro _)
    | (with_reducible first | apply sound_sendWord | apply Sound.fold)

theorem sound_wakePatternSend (l : Nat) (s : State) (hs : Sound s) : Sound (wakePatternSend l s) := by
  delta wakePatternSend
  repeat' first
    | with_reducible assumption | (intro _)
    | (fail_if_no_progress extract_lets -merge -useContext +onlyGivenNames x)
    | with_reducible refine Sound.ite ?_ (fun hx => ?_)
    | (with_reducible first | apply sound_State_modLink | apply sound_raiseLink | apply sound_sendPattern)

theorem sound_wakeSendTimeout (l : Nat) (s : State) (hs : Sound s) : Sound (wakeSendTimeout l s) := by
  delta wakeSendTimeout
  repeat' first
    | with_reducible assumption | (intro _) | (with_reducible first | apply sound_State_modLink)

theorem sound_wakeEnergy (l : Nat) (s : State) (hs : Sound s) : Sound (wakeEnergy l s) := by
  delta wakeEnergy
  repeat' first
    | with_reducible assumption | (intro _) | with_reducible refine Sound.ite ?_ (fun hx => ?_)
    | (with_reducible first | apply sound_State_modLink)

theorem sound_wakeProbeTimeout (l : Nat) (s : State) (hs : Sound s) : Sound (wakeProbeTimeout l s) := by
  delta wakeProbeTimeout
  repeat' first
    | with_reducible assumption | (intro _) | (with_reducible first | apply sound_State_modLink)

theorem Fits.settle {cap c : Nat} {q : Queue} (h : Fits cap q) : Fits cap (q.settle c) := by
  unfold Queue.settle
  split
  · exact h
  · exact h

theorem Fits.free {cap : Nat} {q : Queue} (h : Fits cap q) (c n : Nat) : Fits cap (q.free c n) :=
  Fits.settle ⟨by have := h.1; simp only [List.length_drop]; omega, h.2⟩

theorem queueCap_pos (i : QueueId) : 0 < queueCap i := by cases i <;> decide

theorem makeRoom_lt {cap : Nat} {q : Queue} (h : Fits cap q) (hc : ¬ cap + q.sent ≤ q.recs.length) (h0 : 0 < cap) :
    (q.makeRoom cap).recs.length < cap := by
  have := h.1
  unfold Queue.makeRoom
  split
  · simp only [List.length_drop]; omega
  · omega

theorem Fits.drainCoal {i : QueueId} {q : Queue} (h : Fits (queueCap i) q) (now node : Nat) (f : Nat → Bool) :
    Fits (queueCap i) (q.drainCoal (queueCap i) now node f) := by
  have h0 := queueCap_pos i
  unfold Queue.drainCoal
  split
  · exact h
  · rename_i hc
    split
    · rename_i c _
      have k : Fits (queueCap i) { q with coal := q.coal.erase c } := ⟨h.1, (List.length_erase_le).trans h.2⟩
      exact Fits.settle (Fits.push (k.makeRoom _) _ (makeRoom_lt k hc h0))
    · split
      · exact h.settle
      · have k : Fits (queueCap i) { q with lostNew := 0, lostIrq := false } := h
        exact Fits.settle (Fits.push (k.makeRoom _) _ (makeRoom_lt k hc h0))

theorem sound_State_modQueue (s : State) (i : QueueId) (f : Queue → Queue) (hf : ∀ q, Fits (queueCap i) q → Fits (queueCap i) (f q))
    (hs : Sound s) : Sound (s.modQueue i f) := by
  cases i
  · exact ⟨hs.shape, hs.cells, hs.capture, hf _ hs.queueA, hs.queueB, hs.sideband, hs.forward, hs.journal, hs.buffer⟩
  · exact ⟨hs.shape, hs.cells, hs.capture, hs.queueA, hf _ hs.queueB, hs.sideband, hs.forward, hs.journal, hs.buffer⟩
  · exact ⟨hs.shape, hs.cells, hs.capture, hs.queueA, hs.queueB, hf _ hs.sideband, hs.forward, hs.journal, hs.buffer⟩
  · exact ⟨hs.shape, hs.cells, hs.capture, hs.queueA, hs.queueB, hs.sideband, hf _ hs.forward, hs.journal, hs.buffer⟩
  · exact ⟨hs.shape, hs.cells, hs.capture, hs.queueA, hs.queueB, hs.sideband, hs.forward, hf _ hs.journal, hs.buffer⟩

theorem sound_mergeRec (s : State) (r : EvRec) (hs : Sound s) : Sound (mergeRec s r) := by
  delta mergeRec
  repeat' first
    | with_reducible assumption | with_reducible refine Sound.ite ?_ (fun hx => ?_)
    | (with_reducible first | apply sound_deliverRec) | split
    | with_reducible refine Sound.lift ?_ rfl rfl rfl rfl rfl rfl rfl rfl rfl rfl rfl rfl rfl rfl rfl rfl rfl

theorem sound_setExpected (s : State) (src v : Nat) (hs : Sound s) : Sound (setExpected s src v) := by
  delta setExpected
  repeat' first
    | with_reducible assumption
    | with_reducible refine Sound.lift ?_ rfl rfl rfl rfl rfl rfl rfl rfl rfl rfl rfl rfl rfl rfl rfl rfl rfl

theorem sound_askGap (s : State) (src first count : Nat) (hs : Sound s) : Sound (askGap s src first count) := by
  delta askGap
  repeat' first
    | with_reducible assumption
    | ((fail_if_no_progress extract_lets -merge -useContext +onlyGivenNames x); (first | (refine Sound.step (x := x) ?_ (fun hx => ?_); on_goal 1 => subst x) | skip))
    | (with_reducible first | apply sound_sendSegs)
    | with_reducible refine Sound.lift ?_ rfl rfl rfl rfl rfl rfl rfl rfl rfl rfl rfl rfl rfl rfl rfl rfl rfl

theorem sound_lostRemote (s : State) (src count : Nat) (hs : Sound s) : Sound (lostRemote s src count) := by
  delta lostRemote
  repeat' first
    | with_reducible assumption | with_reducible refine Sound.ite ?_ (fun hx => ?_)
    | (with_reducible first | apply sound_deliverRec)

theorem sound_gapAnswer (s : State) (src tag : Nat) (payload : List Byte) (hs : Sound s) : Sound (gapAnswer s src tag payload) := by
  delta gapAnswer
  repeat' first
    | with_reducible assumption | (intro _)
    | ((fail_if_no_progress extract_lets -merge -useContext +onlyGivenNames x); (first | (refine Sound.step (x := x) ?_ (fun hx => ?_); on_goal 1 => subst x) | skip))
    | with_reducible refine Sound.ite ?_ (fun hx => ?_)
    | (with_reducible first | apply sound_mergeRec | apply sound_askGap | apply sound_lostRemote | apply Sound.fold | apply Sound.foldP)
    | split | with_reducible refine Sound.lift ?_ rfl rfl rfl rfl rfl rfl rfl rfl rfl rfl rfl rfl rfl rfl rfl rfl rfl

theorem sound_putPlaced (s : State) (a : Nat) (bs : List Byte) (hs : Sound s) : Sound (putPlaced s a bs) := by
  delta putPlaced
  repeat' first
    | with_reducible assumption | (with_reducible first | apply sound_crockWrite)

theorem sound_markUsed (s : State) (a : Nat) (hs : Sound s) : Sound (markUsed s a) := by
  delta markUsed
  repeat' first
    | with_reducible assumption
    | ((fail_if_no_progress extract_lets -merge -useContext +onlyGivenNames x); (first | (refine Sound.step (x := x) ?_ (fun hx => ?_); on_goal 1 => subst x) | skip))
    | with_reducible refine Sound.ite ?_ (fun hx => ?_) | (with_reducible first | apply sound_raise) | split
    | with_reducible refine Sound.lift ?_ rfl rfl rfl rfl rfl rfl rfl rfl rfl rfl rfl rfl rfl rfl rfl rfl rfl

theorem sound_putLine (s : State) (a : Nat) (bs : List Byte) (hs : Sound s) : Sound (putLine s a bs) := by
  delta putLine
  repeat' first
    | with_reducible assumption | (intro _)
    | ((fail_if_no_progress extract_lets -merge -useContext +onlyGivenNames x); (first | (refine Sound.step (x := x) ?_ (fun hx => ?_); on_goal 1 => subst x) | skip))
    | with_reducible refine Sound.ite ?_ (fun hx => ?_)
    | (with_reducible first | apply sound_putPlaced | apply sound_markUsed) | split
    | with_reducible refine Sound.lift ?_ rfl rfl rfl rfl rfl rfl rfl rfl rfl rfl rfl rfl rfl rfl rfl rfl rfl

theorem sound_dropRecord (s : State) (hs : Sound s) : Sound (dropRecord s) := by
  delta dropRecord
  repeat' first
    | with_reducible assumption
    | with_reducible refine Sound.lift ?_ rfl rfl rfl rfl rfl rfl rfl rfl rfl rfl rfl rfl rfl rfl rfl rfl rfl

theorem sound_putFirst (s : State) (bs : List Byte) (hs : Sound s) : Sound (putFirst s bs) := by
  delta putFirst
  repeat' first
    | with_reducible assumption
    | ((fail_if_no_progress extract_lets -merge -useContext +onlyGivenNames x); (first | (refine Sound.step (x := x) ?_ (fun hx => ?_); on_goal 1 => subst x) | skip))
    | with_reducible refine Sound.ite ?_ (fun hx => ?_)
    | (with_reducible first | apply sound_raise | apply sound_putPlaced) | split
    | with_reducible refine Sound.lift ?_ rfl rfl rfl rfl rfl rfl rfl rfl rfl rfl rfl rfl rfl rfl rfl rfl rfl

theorem sound_failedOnce (s : State) (hs : Sound s) : Sound (failedOnce s) := by
  delta failedOnce
  repeat' first
    | with_reducible assumption
    | (fail_if_no_progress extract_lets -merge -useContext +onlyGivenNames x)
    | with_reducible refine Sound.lift ?_ rfl rfl rfl rfl rfl rfl rfl rfl rfl rfl rfl rfl rfl rfl rfl rfl rfl

theorem sound_putRing (s : State) (j : Nat) (bs : List Byte) (hs : Sound s) : Sound (putRing s j bs) := by
  delta putRing
  repeat' first
    | with_reducible assumption | (with_reducible first | apply sound_putPlaced)

theorem sound_writeRecord (s : State) (r : EvRec) (res : LineRes) (hs : Sound s) : Sound (writeRecord s r res) := by
  delta writeRecord
  repeat' first
    | with_reducible assumption
    | ((fail_if_no_progress extract_lets -merge -useContext +onlyGivenNames x); (first | (refine Sound.step (x := x) ?_ (fun hx => ?_); on_goal 1 => subst x) | skip))
    | with_reducible refine Sound.ite ?_ (fun hx => ?_)
    | (with_reducible first | apply sound_raise | apply sound_dropRecord | apply sound_putFirst | apply sound_failedOnce | apply sound_putRing)
    | split | with_reducible refine Sound.lift ?_ rfl rfl rfl rfl rfl rfl rfl rfl rfl rfl rfl rfl rfl rfl rfl rfl rfl

theorem sound_declareFault (s : State) (hs : Sound s) : Sound (declareFault s) := by
  delta declareFault
  repeat' first
    | with_reducible assumption
    | with_reducible refine Sound.lift ?_ rfl rfl rfl rfl rfl rfl rfl rfl rfl rfl rfl rfl rfl rfl rfl rfl rfl

theorem sound_journalRecordWrite (res : LineRes) (s : State) (hs : Sound s) : Sound (journalRecordWrite res s) := by
  delta journalRecordWrite
  repeat' first
    | with_reducible assumption | (intro _)
    | ((fail_if_no_progress extract_lets -merge -useContext +onlyGivenNames x); (refine Sound.step (x := x) ?_ (fun hx => ?_); on_goal 1 => subst x))
    | with_reducible refine Sound.ite ?_ (fun hx => ?_)
    | (with_reducible first | apply sound_State_modQueue | apply sound_dropRecord | apply sound_writeRecord | apply sound_declareFault | apply Fits.free | apply Fits.drainCoal | apply Fits.offer)
    | split

theorem sound_droppedReport (s : State) (hs : Sound s) : Sound (droppedReport s) := by
  delta droppedReport
  repeat' first
    | with_reducible assumption
    | (fail_if_no_progress extract_lets -merge -useContext +onlyGivenNames x)
    | with_reducible refine Sound.ite ?_ (fun hx => ?_) | (with_reducible first | apply sound_captureRec)

theorem sound_vddnvFall (s : State) (hs : Sound s) : Sound (vddnvFall s) := by
  delta vddnvFall
  repeat' first
    | with_reducible assumption
    | with_reducible refine Sound.lift ?_ rfl rfl rfl rfl rfl rfl rfl rfl rfl rfl rfl rfl rfl rfl rfl rfl rfl

theorem sound_lineDone (s : State) (hs : Sound s) : Sound (lineDone s) := by
  delta lineDone
  repeat' first
    | with_reducible assumption | with_reducible refine Sound.ite ?_ (fun hx => ?_)
    | (with_reducible first | apply sound_finishWait) | split
    | with_reducible refine Sound.lift ?_ rfl rfl rfl rfl rfl rfl rfl rfl rfl rfl rfl rfl rfl rfl rfl rfl rfl

theorem sound_badLine (s : State) (a : Nat) (bs : List Byte) (hs : Sound s) : Sound (badLine s a bs) := by
  delta badLine
  repeat' first
    | with_reducible assumption | with_reducible refine Sound.ite ?_ (fun hx => ?_)
    | (with_reducible first | apply sound_raise | apply sound_putLine) | split
    | with_reducible refine Sound.lift ?_ rfl rfl rfl rfl rfl rfl rfl rfl rfl rfl rfl rfl rfl rfl rfl rfl rfl

theorem sound_userLineWrite (res : LineRes) (s : State) (hs : Sound s) : Sound (userLineWrite res s) := by
  delta userLineWrite
  repeat' first
    | with_reducible assumption
    | ((fail_if_no_progress extract_lets -merge -useContext +onlyGivenNames x); (first | (refine Sound.step (x := x) ?_ (fun hx => ?_); on_goal 1 => subst x) | skip))
    | with_reducible refine Sound.ite ?_ (fun hx => ?_)
    | (with_reducible first | apply sound_putLine | apply sound_declareFault | apply sound_lineDone | apply sound_badLine)
    | split | with_reducible refine Sound.lift ?_ rfl rfl rfl rfl rfl rfl rfl rfl rfl rfl rfl rfl rfl rfl rfl rfl rfl

theorem sound_nextLineWrite (s : State) (hs : Sound s) : Sound (nextLineWrite s) := by
  delta nextLineWrite
  split
  · exact sound_userLineWrite _ _ (sound_State_drawn s hs)
  · exact hs

theorem sound_ffSlotZeroing (s : State) (hs : Sound s) : Sound (ffSlotZeroing s) := by
  delta ffSlotZeroing
  repeat' first
    | with_reducible assumption
    | ((fail_if_no_progress extract_lets -merge -useContext +onlyGivenNames x); (first | (refine Sound.step (x := x) ?_ (fun hx => ?_); on_goal 1 => subst x) | skip))
    | with_reducible refine Sound.ite ?_ (fun hx => ?_) | (with_reducible first | apply sound_putPlaced) | split
    | with_reducible refine Sound.lift ?_ rfl rfl rfl rfl rfl rfl rfl rfl rfl rfl rfl rfl rfl rfl rfl rfl rfl

theorem sound_clearFirstFaults (s : State) (hs : Sound s) : Sound (clearFirstFaults s) := by
  delta clearFirstFaults
  repeat' first
    | with_reducible assumption
    | ((fail_if_no_progress extract_lets -merge -useContext +onlyGivenNames x); (first | (refine Sound.step (x := x) ?_ (fun hx => ?_); on_goal 1 => subst x) | skip))
    | (with_reducible first | apply sound_setPaired)
    | with_reducible refine Sound.lift ?_ rfl rfl rfl rfl rfl rfl rfl rfl rfl rfl rfl rfl rfl rfl rfl rfl rfl

theorem sound_detectorFire (src code : Nat) (data : BitVec 96) (s : State) (hs : Sound s) : Sound (detectorFire src code data s) := by
  delta detectorFire
  repeat' first
    | with_reducible assumption | with_reducible refine Sound.ite ?_ (fun hx => ?_)
    | (with_reducible first | apply sound_raise)

theorem sound_recordToPartner (s : State) (r : EvRec) (hs : Sound s) : Sound (recordToPartner s r) := by
  delta recordToPartner
  repeat' first
    | with_reducible assumption | with_reducible refine Sound.ite ?_ (fun hx => ?_)
    | (with_reducible first | apply sound_sendSlow)

theorem sound_captureRelease (s : State) (hs : Sound s) : Sound (captureRelease s) := by
  unfold captureRelease
  split
  · exact hs
  · rename_i r rs e
    have h := hs.capture
    rw [e] at h
    exact sound_deliverRec _ _ (sound_recordToPartner _ _ (sound_setCapture s rs (by simp only [List.length_cons] at h; omega) hs))

theorem sound_coalescedStore (i : QueueId) (s : State) (hs : Sound s) : Sound (coalescedStore i s) := by
  delta coalescedStore
  repeat' first
    | with_reducible assumption | (intro _)
    | (with_reducible first | apply sound_State_modQueue | apply Fits.free | apply Fits.drainCoal)

theorem sound_eventPipeIn (u : Up) (s : State) (hs : Sound s) : Sound (eventPipeIn u s) := by
  delta eventPipeIn
  repeat' first
    | with_reducible assumption | (intro _)
    | (fail_if_no_progress extract_lets -merge -useContext +onlyGivenNames x)
    | with_reducible refine Sound.ite ?_ (fun hx => ?_)
    | (with_reducible first | apply sound_State_modUp | apply sound_answer)

theorem sound_eventPipeAck (u : Up) (s : State) (hs : Sound s) : Sound (eventPipeAck u s) := by
  delta eventPipeAck
  repeat' first
    | with_reducible assumption | (intro _)
    | (fail_if_no_progress extract_lets -merge -useContext +onlyGivenNames x)
    | with_reducible refine Sound.ite ?_ (fun hx => ?_)
    | (with_reducible first | apply sound_State_modUp | apply sound_State_modQueue | apply Fits.free)

theorem sound_passQuiet (s : State) (hs : Sound s) : Sound (passQuiet s) := sound_State_modQueue _ _ _ (fun _ h => h) hs

theorem sound_fabForwardSend (s : State) (hs : Sound s) : Sound (fabForwardSend s) := by
  unfold fabForwardSend
  have h1 := sound_passQuiet s hs
  have h : ∀ n, Sound ((passQuiet s).modQueue .fabric (fun q => { q with sent := q.sent + n })) := fun n =>
    sound_State_modQueue _ _ _ (fun _ h => h) h1
  simp only
  split
  · exact h1
  · split
    · exact h1
    · exact sound_sendTo _ _ _ _ _ _ (h _)

theorem sound_eventsFrame (src seq : Nat) (recs : List (List Byte)) (s : State) (hs : Sound s) : Sound (eventsFrame src seq recs s) := by
  delta eventsFrame
  repeat' first
    | with_reducible assumption | (intro _)
    | ((fail_if_no_progress extract_lets -merge -useContext +onlyGivenNames x); (first | (refine Sound.step (x := x) ?_ (fun hx => ?_); on_goal 1 => subst x) | skip))
    | with_reducible refine Sound.ite ?_ (fun hx => ?_)
    | (with_reducible first | apply sound_mergeRec | apply sound_setExpected | apply sound_askGap | apply Sound.fold)

theorem sound_passBefore (s : State) (r : EvRec) (hs : Sound s) : Sound (passBefore s r) := by
  unfold passBefore
  exact Sound.fold (fun s r h => sound_deliverRec s r h) _ _
    (sound_setCapture s _ (by have := hs.capture; simp only [List.length_drop]; omega) hs)

theorem sound_mergeHoldExpiry (s : State) (hs : Sound s) : Sound (mergeHoldExpiry s) := by
  delta mergeHoldExpiry
  repeat' first
    | with_reducible assumption | (intro _)
    | (with_reducible first | apply sound_deliverRec | apply sound_passBefore | apply Sound.fold | apply Sound.foldP)
    | with_reducible refine Sound.lift ?_ rfl rfl rfl rfl rfl rfl rfl rfl rfl rfl rfl rfl rfl rfl rfl rfl rfl

theorem sound_journalFrame (src seq : Nat) (recs : List (List Byte)) (s : State) (hs : Sound s) : Sound (journalFrame src seq recs s) :=
  Sound.fold (fun s _ h => sound_State_modQueue s .journal _ (fun _ hq => Fits.offer (cap := 256) hq _) h) _ _ hs

theorem sound_timeWord (s : State) (l type seq value : Nat) (hs : Sound s) : Sound (timeWord s l type seq value) := by
  delta timeWord
  repeat' first
    | with_reducible assumption | (with_reducible first | apply sound_sendWord)

theorem sound_timeReqSend (s : State) (hs : Sound s) : Sound (timeReqSend s) := by
  delta timeReqSend
  repeat' first
    | with_reducible assumption
    | (fail_if_no_progress extract_lets -merge -useContext +onlyGivenNames x)
    | with_reducible refine Sound.ite ?_ (fun hx => ?_) | (with_reducible first | apply sound_timeWord) | split
    | with_reducible refine Sound.lift ?_ rfl rfl rfl rfl rfl rfl rfl rfl rfl rfl rfl rfl rfl rfl rfl rfl rfl

end Sys2Proof.Machine
end

