-- ==== Sys2Proof/Laws/SoundOps6.lean ====
section
/-!
SUPPORT. Laws/SoundOps6.lean: the operations keep a state that holds together, part 6 of 8, in the order of the
model's files.
-/

namespace Sys2Proof.Machine

theorem sound_timeReq (l seq : Nat) (s : State) (hs : Sound s) : Sound (timeReq l seq s) := by
  delta timeReq
  repeat' first
    | with_reducible assumption
    | ((fail_if_no_progress extract_lets -merge -useContext +onlyGivenNames x); (refine Sound.step (x := x) ?_ (fun hx => ?_); on_goal 1 => subst x))
    | with_reducible refine Sound.ite ?_ (fun hx => ?_) | (with_reducible first | apply sound_timeWord)

theorem sound_onExchange (s : State) (l seq stage : Nat) (f : Exchange → Exchange) (hs : Sound s) : Sound (onExchange s l seq stage f) := by
  delta onExchange
  repeat' first
    | with_reducible assumption | with_reducible refine Sound.ite ?_ (fun hx => ?_) | split
    | with_reducible refine Sound.lift ?_ rfl rfl rfl rfl rfl rfl rfl rfl rfl rfl rfl rfl rfl rfl rfl rfl rfl

theorem sound_timeResp (l seq value : Nat) (s : State) (hs : Sound s) : Sound (timeResp l seq value s) := by
  delta timeResp
  repeat' first
    | with_reducible assumption | (intro _) | (with_reducible first | apply sound_onExchange)

theorem sound_timeRxstamp (l seq value : Nat) (s : State) (hs : Sound s) : Sound (timeRxstamp l seq value s) := by
  delta timeRxstamp
  repeat' first
    | with_reducible assumption | (intro _) | (with_reducible first | apply sound_onExchange)

theorem sound_timeHigh (l seq value : Nat) (s : State) (hs : Sound s) : Sound (timeHigh l seq value s) := by
  delta timeHigh
  repeat' first
    | with_reducible assumption | (intro _) | (with_reducible first | apply sound_onExchange)

theorem sound_timeStatusWord (l seq root stratum flags : Nat) (s : State) (hs : Sound s) : Sound (timeStatusWord l seq root stratum flags s) := by
  delta timeStatusWord
  repeat' first
    | with_reducible assumption
    | ((fail_if_no_progress extract_lets -merge -useContext +onlyGivenNames x); (first | (refine Sound.step (x := x) ?_ (fun hx => ?_); on_goal 1 => subst x) | skip))
    | with_reducible refine Sound.ite ?_ (fun hx => ?_) | (with_reducible first | apply sound_servo) | split
    | with_reducible refine Sound.lift ?_ rfl rfl rfl rfl rfl rfl rfl rfl rfl rfl rfl rfl rfl rfl rfl rfl rfl

theorem sound_holdoverTimeout (s : State) (hs : Sound s) : Sound (holdoverTimeout s) := by
  delta holdoverTimeout
  repeat' first
    | with_reducible assumption | with_reducible refine Sound.ite ?_ (fun hx => ?_)
    | (with_reducible first | apply sound_setSync)

theorem sound_holdoverLimit (s : State) (hs : Sound s) : Sound (holdoverLimit s) := by
  delta holdoverLimit
  repeat' first
    | with_reducible assumption | with_reducible refine Sound.ite ?_ (fun hx => ?_)
    | (with_reducible first | apply sound_raise)

theorem sound_ppsEdge (s : State) (off : Int) (hs : Sound s) : Sound (ppsEdge s off) := by
  delta ppsEdge
  repeat' first
    | with_reducible assumption
    | ((fail_if_no_progress extract_lets -merge -useContext +onlyGivenNames x); (first | (refine Sound.step (x := x) ?_ (fun hx => ?_); on_goal 1 => subst x) | skip))
    | with_reducible refine Sound.ite ?_ (fun hx => ?_)
    | (with_reducible first | apply sound_stepTime | apply sound_slew | apply sound_rootSync) | split
    | with_reducible refine Sound.lift ?_ rfl rfl rfl rfl rfl rfl rfl rfl rfl rfl rfl rfl rfl rfl rfl rfl rfl

theorem sound_applyEpoch (s : State) (value w : Nat) (hs : Sound s) : Sound (applyEpoch s value w) := by
  delta applyEpoch
  repeat' first
    | with_reducible assumption
    | ((fail_if_no_progress extract_lets -merge -useContext +onlyGivenNames x); (first | (refine Sound.step (x := x) ?_ (fun hx => ?_); on_goal 1 => subst x) | skip))
    | (with_reducible first | apply sound_finishWait | apply sound_stepTime)
    | with_reducible refine Sound.lift ?_ rfl rfl rfl rfl rfl rfl rfl rfl rfl rfl rfl rfl rfl rfl rfl rfl rfl

theorem sound_tsyncInEdge (s : State) (hs : Sound s) : Sound (tsyncInEdge s) := by
  delta tsyncInEdge
  repeat' first
    | with_reducible assumption
    | ((fail_if_no_progress extract_lets -merge -useContext +onlyGivenNames x); (first | (refine Sound.step (x := x) ?_ (fun hx => ?_); on_goal 1 => subst x) | skip))
    | with_reducible refine Sound.ite ?_ (fun hx => ?_)
    | (with_reducible first | apply sound_raise | apply sound_ppsEdge | apply sound_applyEpoch) | split
    | with_reducible refine Sound.lift ?_ rfl rfl rfl rfl rfl rfl rfl rfl rfl rfl rfl rfl rfl rfl rfl rfl rfl

theorem sound_pulseMissing (s : State) (hs : Sound s) : Sound (pulseMissing s) := by
  delta pulseMissing
  repeat' first
    | with_reducible assumption
    | ((fail_if_no_progress extract_lets -merge -useContext +onlyGivenNames x); (first | (refine Sound.step (x := x) ?_ (fun hx => ?_); on_goal 1 => subst x) | skip))
    | with_reducible refine Sound.ite ?_ (fun hx => ?_)
    | (with_reducible first | apply sound_raise | apply sound_rootSync) | split
    | with_reducible refine Sound.lift ?_ rfl rfl rfl rfl rfl rfl rfl rfl rfl rfl rfl rfl rfl rfl rfl rfl rfl

theorem sound_tsyncOutRise (s : State) (hs : Sound s) : Sound (tsyncOutRise s) := by
  delta tsyncOutRise
  repeat' first
    | with_reducible assumption | with_reducible refine Sound.ite ?_ (fun hx => ?_) | split
    | with_reducible refine Sound.lift ?_ rfl rfl rfl rfl rfl rfl rfl rfl rfl rfl rfl rfl rfl rfl rfl rfl rfl

theorem sound_tsyncOutFall (s : State) (hs : Sound s) : Sound (tsyncOutFall s) := by
  delta tsyncOutFall
  repeat' first
    | with_reducible assumption
    | with_reducible refine Sound.lift ?_ rfl rfl rfl rfl rfl rfl rfl rfl rfl rfl rfl rfl rfl rfl rfl rfl rfl

theorem sound_setPpc (s : State) (n : Nat) (bs : List Byte) (hs : Sound s) : Sound (setPpc s n bs).2 := by
  delta setPpc
  repeat' first
    | with_reducible assumption | (intro _)
    | ((fail_if_no_progress extract_lets -merge -useContext +onlyGivenNames x); (first | (refine Sound.step (x := x) ?_ (fun hx => ?_); on_goal 1 => subst x) | skip))
    | (with_reducible first | apply sound_State_modPpc | apply sound_relimit)

theorem sound_setPd (s : State) (n : Nat) (bs : List Byte) (hs : Sound s) : Sound (setPd s n bs).2 := by
  delta setPd
  repeat' first
    | with_reducible assumption | (intro _)
    | ((fail_if_no_progress extract_lets -merge -useContext +onlyGivenNames x); (first | (refine Sound.step (x := x) ?_ (fun hx => ?_); on_goal 1 => subst x) | skip))
    | with_reducible refine Sound.ite ?_ (fun hx => ?_)
    | (with_reducible first | apply sound_State_modPde | apply sound_relimit | apply sound_pdEvent | apply sound_stopTimer | apply sound_sendHardReset | apply sound_markCaps | apply sound_startOwn)
    | split

theorem sound_setPbaGlobal (s : State) (bs : List Byte) (hs : Sound s) : Sound (setPbaGlobal s bs).2 := by
  delta setPbaGlobal
  repeat' first
    | with_reducible assumption
    | (fail_if_no_progress extract_lets -merge -useContext +onlyGivenNames x)
    | with_reducible refine Sound.ite ?_ (fun hx => ?_) | split
    | with_reducible refine Sound.lift ?_ rfl rfl rfl rfl rfl rfl rfl rfl rfl rfl rfl rfl rfl rfl rfl rfl rfl

theorem sound_setPbaPort (s : State) (n : Nat) (room : Option Nat) (bs : List Byte) (hs : Sound s) : Sound (setPbaPort s n room bs).2 := by
  delta setPbaPort
  repeat' first
    | with_reducible assumption | (intro _)
    | (fail_if_no_progress extract_lets -merge -useContext +onlyGivenNames x)
    | (with_reducible first | apply sound_State_modPb)

theorem sound_setWire (s : State) (w : Nat) (hs : Sound s) : Sound (setWire s w) := by
  delta setWire
  repeat' first
    | with_reducible assumption | (intro _)
    | (fail_if_no_progress extract_lets -merge -useContext +onlyGivenNames x)
    | with_reducible refine Sound.ite ?_ (fun hx => ?_) | (with_reducible first | apply sound_profileModes) | split
    | with_reducible refine Sound.lift ?_ rfl rfl rfl rfl rfl rfl rfl rfl rfl rfl rfl rfl rfl rfl rfl rfl rfl

theorem sound_setPair (s : State) (bs : List Byte) (hs : Sound s) : Sound (setPair s bs).2 := by
  delta setPair
  repeat' first
    | with_reducible assumption
    | ((fail_if_no_progress extract_lets -merge -useContext +onlyGivenNames x); (first | (refine Sound.step (x := x) ?_ (fun hx => ?_); on_goal 1 => subst x) | skip))
    | with_reducible refine Sound.ite ?_ (fun hx => ?_) | (with_reducible first | apply sound_setWire) | split
    | with_reducible refine Sound.lift ?_ rfl rfl rfl rfl rfl rfl rfl rfl rfl rfl rfl rfl rfl rfl rfl rfl rfl

theorem sound_enableLink (s : State) (l : Nat) (hs : Sound s) : Sound (enableLink s l) := by
  delta enableLink
  repeat' first
    | with_reducible assumption | (intro _) | with_reducible refine Sound.ite ?_ (fun hx => ?_)
    | (with_reducible first | apply sound_State_modLink | apply sound_fabLinkDown) | split

theorem sound_setEmph (s : State) (l v : Nat) (hs : Sound s) : Sound (setEmph s l v) := by
  delta setEmph
  repeat' first
    | with_reducible assumption | (intro _)
    | ((fail_if_no_progress extract_lets -merge -useContext +onlyGivenNames x); (first | (refine Sound.step (x := x) ?_ (fun hx => ?_); on_goal 1 => subst x) | skip))
    | with_reducible refine Sound.ite ?_ (fun hx => ?_) | (with_reducible first | apply sound_enterRetrain) | split
    | with_reducible refine Sound.lift ?_ rfl rfl rfl rfl rfl rfl rfl rfl rfl rfl rfl rfl rfl rfl rfl rfl rfl

theorem sound_setFabric (s : State) (bs : List Byte) (hs : Sound s) : Sound (setFabric s bs).2 := by
  delta setFabric
  repeat' first
    | with_reducible assumption | (intro _)
    | ((fail_if_no_progress extract_lets -merge -useContext +onlyGivenNames x); (first | (refine Sound.step (x := x) ?_ (fun hx => ?_); on_goal 1 => subst x) | skip))
    | with_reducible apply hf
    | (with_reducible first | apply sound_lsaRefresh | apply sound_enableLink | apply sound_setEmph | apply Sound.fold | apply Sound.foldP)
    | (fail_if_no_progress beta_reduce)
    | with_reducible refine Sound.lift ?_ rfl rfl rfl rfl rfl rfl rfl rfl rfl rfl rfl rfl rfl rfl rfl rfl rfl

theorem sound_setEvent (s : State) (bs : List Byte) (hs : Sound s) : Sound (setEvent s bs).2 := by
  delta setEvent
  repeat' first
    | with_reducible assumption | (intro _)
    | (fail_if_no_progress extract_lets -merge -useContext +onlyGivenNames x)
    | with_reducible refine Sound.ite ?_ (fun hx => ?_) | split
    | with_reducible refine Sound.lift ?_ rfl rfl rfl rfl rfl rfl rfl rfl rfl rfl rfl rfl rfl rfl rfl rfl rfl

theorem sound_setRoute (s : State) (src v : Nat) (hs : Sound s) : Sound (setRoute s src v) := by
  delta setRoute
  repeat' first
    | with_reducible assumption
    | with_reducible refine Sound.lift ?_ rfl rfl rfl rfl rfl rfl rfl rfl rfl rfl rfl rfl rfl rfl rfl rfl rfl

theorem sound_setRoutes (s : State) (first : Nat) (bs : List Byte) (hs : Sound s) : Sound (setRoutes s first bs) := by
  delta setRoutes
  repeat' first
    | with_reducible assumption | (intro _) | with_reducible refine Sound.ite ?_ (fun hx => ?_)
    | (with_reducible first | apply sound_setRoute | apply Sound.fold)

theorem sound_setTime (s : State) (bs : List Byte) (hs : Sound s) : Sound (setTime s bs).2 := by
  delta setTime
  repeat' first
    | with_reducible assumption | (intro _)
    | ((fail_if_no_progress extract_lets -merge -useContext +onlyGivenNames x); (first | (refine Sound.step (x := x) ?_ (fun hx => ?_); on_goal 1 => subst x) | skip))
    | with_reducible refine Sound.ite ?_ (fun hx => ?_) | with_reducible apply hf
    | (with_reducible first | apply sound_rootSync) | (fail_if_no_progress beta_reduce) | split
    | with_reducible refine Sound.lift ?_ rfl rfl rfl rfl rfl rfl rfl rfl rfl rfl rfl rfl rfl rfl rfl rfl rfl

theorem sound_setSieve (s : State) (n : Nat) (c : SieveCh) (hs : Sound s) : Sound (setSieve s n c) := by
  delta setSieve
  repeat' first
    | with_reducible assumption | (intro _)
    | ((fail_if_no_progress extract_lets -merge -useContext +onlyGivenNames x); (refine Sound.step (x := x) ?_ (fun hx => ?_); on_goal 1 => subst x))
    | (with_reducible first | apply sound_State_modSieve | apply sound_rearm)

theorem sound_setPhy (s : State) (n : Nat) (bs : List Byte) (hs : Sound s) : Sound (setPhy s n bs).2 := by
  delta setPhy
  repeat' first
    | with_reducible assumption | (intro _)
    | ((fail_if_no_progress extract_lets -merge -useContext +onlyGivenNames x); (first | (refine Sound.step (x := x) ?_ (fun hx => ?_); on_goal 1 => subst x) | skip))
    | with_reducible refine Sound.ite ?_ (fun hx => ?_) | (with_reducible first | apply sound_setEmph) | split
    | with_reducible refine Sound.lift ?_ rfl rfl rfl rfl rfl rfl rfl rfl rfl rfl rfl rfl rfl rfl rfl rfl rfl

theorem sound_setProfileBlock (s : State) (bs : List Byte) (hs : Sound s) : Sound (setProfileBlock s bs) := by
  delta setProfileBlock
  repeat' first
    | with_reducible assumption | (intro _)
    | (fail_if_no_progress extract_lets -merge -useContext +onlyGivenNames x)
    | with_reducible refine Sound.ite ?_ (fun hx => ?_) | with_reducible apply hf | (fail_if_no_progress beta_reduce)
    | split | with_reducible refine Sound.lift ?_ rfl rfl rfl rfl rfl rfl rfl rfl rfl rfl rfl rfl rfl rfl rfl rfl rfl

theorem sound_setPortEntry (s : State) (n : Nat) (bs : List Byte) (hs : Sound s) : Sound (setPortEntry s n bs) := by
  delta setPortEntry
  repeat' first
    | with_reducible assumption | (intro _)
    | ((fail_if_no_progress extract_lets -merge -useContext +onlyGivenNames x); (first | (refine Sound.step (x := x) ?_ (fun hx => ?_); on_goal 1 => subst x) | skip))
    | with_reducible refine Sound.ite ?_ (fun hx => ?_)
    | (with_reducible first | apply sound_State_modPort | apply sound_idle | apply sound_State_modPde | apply sound_State_modPpc | apply sound_State_modConv | apply sound_relimit | apply sound_recharge | apply sound_setMode)

theorem sound_applyBlock (s : State) (opcode sel : Nat) (bs : List Byte) (hs : Sound s) : Sound (applyBlock s opcode sel bs) := by
  delta applyBlock
  repeat' first
    | with_reducible assumption | (intro _) | with_reducible refine Sound.ite ?_ (fun hx => ?_)
    | (with_reducible first | apply sound_State_modPort | apply sound_State_modPde | apply sound_State_modFeed | apply sound_relimit | apply sound_setMode | apply sound_setPpc | apply sound_setPbaGlobal | apply sound_setPbaPort | apply sound_setPair | apply sound_setFabric | apply sound_setEvent | apply sound_setRoutes | apply sound_setTime | apply sound_setSieve | apply sound_setProfileBlock | apply sound_setPortEntry)
    | split | with_reducible refine Sound.lift ?_ rfl rfl rfl rfl rfl rfl rfl rfl rfl rfl rfl rfl rfl rfl rfl rfl rfl

theorem sound_setKey (s : State) (k : Nat) (key : Option (List Byte)) (hs : Sound s) : Sound (setKey s k key) := by
  delta setKey
  repeat' first
    | with_reducible assumption
    | (fail_if_no_progress extract_lets -merge -useContext +onlyGivenNames x)
    | (with_reducible first | apply sound_crockWrite)

theorem sound_setChoice (s : State) (i : Nat) (v : Bool) (hs : Sound s) : Sound (setChoice s i v) := by
  delta setChoice
  repeat' first
    | with_reducible assumption
    | (fail_if_no_progress extract_lets -merge -useContext +onlyGivenNames x)
    | (with_reducible first | apply sound_setPaired)

theorem sound_fwEvent (s : State) (code cause us : Nat) (hs : Sound s) : Sound (fwEvent s code cause us) := by
  delta fwEvent
  repeat' first
    | with_reducible assumption | (with_reducible first | apply sound_raise)

theorem sound_startBank (s : State) (b : Bool) (cause : Nat) (activated : Bool) (hs : Sound s) : Sound (startBank s b cause activated) := by
  delta startBank
  repeat' first
    | with_reducible assumption
    | (fail_if_no_progress extract_lets -merge -useContext +onlyGivenNames x)
    | with_reducible refine Sound.lift ?_ rfl rfl rfl rfl rfl rfl rfl rfl rfl rfl rfl rfl rfl rfl rfl rfl rfl

theorem sound_startRom (s : State) (hs : Sound s) : Sound (startRom s) := by
  delta startRom
  repeat' first
    | with_reducible assumption
    | with_reducible refine Sound.lift ?_ rfl rfl rfl rfl rfl rfl rfl rfl rfl rfl rfl rfl rfl rfl rfl rfl rfl

theorem sound_bootFirmware (s : State) (hs : Sound s) : Sound (bootFirmware s) := by
  delta bootFirmware
  repeat' first
    | with_reducible assumption | (with_reducible first | apply sound_startBank | apply sound_startRom) | split

theorem sound_applyPorts (s : State) (i off size opcode : Nat) (hs : Sound s) : Sound (applyPorts s i off size opcode) := by
  delta applyPorts
  repeat' first
    | with_reducible assumption | (intro _)
    | (with_reducible first | apply sound_applyBlock | apply Sound.fold)

theorem sound_applyIdentity (s : State) (b : List Byte) (hs : Sound s) : Sound (applyIdentity s b) := by
  delta applyIdentity
  repeat' first
    | with_reducible assumption
    | (fail_if_no_progress extract_lets -merge -useContext +onlyGivenNames x)
    | with_reducible refine Sound.lift ?_ rfl rfl rfl rfl rfl rfl rfl rfl rfl rfl rfl rfl rfl rfl rfl rfl rfl

theorem sound_applyBoard (s : State) (b : List Byte) (hs : Sound s) : Sound (applyBoard s b) := by
  delta applyBoard
  repeat' first
    | with_reducible assumption | (intro _)
    | ((fail_if_no_progress extract_lets -merge -useContext +onlyGivenNames x); (first | (refine Sound.step (x := x) ?_ (fun hx => ?_); on_goal 1 => subst x) | skip))
    | with_reducible refine Sound.ite ?_ (fun hx => ?_) | with_reducible apply hf
    | (with_reducible first | apply sound_raise) | (fail_if_no_progress beta_reduce) | split
    | with_reducible refine Sound.lift ?_ rfl rfl rfl rfl rfl rfl rfl rfl rfl rfl rfl rfl rfl rfl rfl rfl rfl

theorem sound_nameConverters (s : State) (hs : Sound s) : Sound (nameConverters s) := by
  delta nameConverters
  repeat' first
    | with_reducible assumption | (intro _) | with_reducible refine Sound.ite ?_ (fun hx => ?_)
    | (with_reducible first | apply sound_raise | apply sound_State_modConv | apply Sound.fold)

theorem sound_applyImage (s : State) (i : Nat) (hs : Sound s) : Sound (applyImage s i) := by
  delta applyImage
  repeat' first
    | with_reducible assumption
    | ((fail_if_no_progress extract_lets -merge -useContext +onlyGivenNames x); (first | (refine Sound.step (x := x) ?_ (fun hx => ?_); on_goal 1 => subst x) | skip))
    | (with_reducible first | apply sound_raise | apply sound_applyBlock | apply sound_applyPorts | apply sound_applyIdentity | apply sound_applyBoard | apply sound_nameConverters)
    | split | with_reducible refine Sound.lift ?_ rfl rfl rfl rfl rfl rfl rfl rfl rfl rfl rfl rfl rfl rfl rfl rfl rfl

theorem sound_judgeImage (s : State) (i : Nat) (hs : Sound s) : Sound (judgeImage s i).2 := by
  delta judgeImage
  repeat' first
    | with_reducible assumption
    | (fail_if_no_progress extract_lets -merge -useContext +onlyGivenNames x)
    | with_reducible refine Sound.ite ?_ (fun hx => ?_) | (with_reducible first | apply sound_raise) | split

theorem sound_bootImage (s : State) (hs : Sound s) : Sound (bootImage s) := by
  unfold bootImage
  have h : ∀ (t : State) i, Sound t → Sound (judgeImage t i).2 := fun t i => sound_judgeImage t i
  simp only
  have h1 := h s (b2n (s.choice 3)) hs
  split
  · rename_i e; rw [e] at h1; exact sound_applyImage _ _ h1
  · rename_i e; rw [e] at h1
    have h2 := h _ (1 - b2n (s.choice 3)) h1
    split
    · rename_i e2; rw [e2] at h2; exact sound_applyImage _ _ h2
    · rename_i e2; rw [e2] at h2; exact h2

theorem sound_fixLevel (s : State) (hs : Sound s) : Sound (fixLevel s) := by
  delta fixLevel
  repeat' first
    | with_reducible assumption
    | ((fail_if_no_progress extract_lets -merge -useContext +onlyGivenNames x); (first | (refine Sound.step (x := x) ?_ (fun hx => ?_); on_goal 1 => subst x) | skip))
    | with_reducible refine Sound.ite ?_ (fun hx => ?_) | (with_reducible first | apply sound_raise) | split
    | with_reducible refine Sound.lift ?_ rfl rfl rfl rfl rfl rfl rfl rfl rfl rfl rfl rfl rfl rfl rfl rfl rfl

theorem sound_reinitLines (s : State) (hs : Sound s) : Sound (reinitLines s) := by
  delta reinitLines
  repeat' first
    | with_reducible assumption | (intro _) | with_reducible refine Sound.ite ?_ (fun hx => ?_)
    | (with_reducible first | apply sound_crockWrite | apply Sound.fold)

theorem sound_scanJournal (s : State) (hs : Sound s) : Sound (scanJournal s) := by
  delta scanJournal
  repeat' first
    | with_reducible assumption | (intro _)
    | (fail_if_no_progress extract_lets -merge -useContext +onlyGivenNames x)
    | with_reducible refine Sound.ite ?_ (fun hx => ?_)
    | (with_reducible first | apply Sound.fold | apply Sound.foldP) | split
    | with_reducible refine Sound.lift ?_ rfl rfl rfl rfl rfl rfl rfl rfl rfl rfl rfl rfl rfl rfl rfl rfl rfl

theorem sound_strapEvent (s : State) (hs : Sound s) : Sound (strapEvent s) := by
  delta strapEvent
  repeat' first
    | with_reducible assumption | with_reducible refine Sound.ite ?_ (fun hx => ?_)
    | (with_reducible first | apply sound_raise)

theorem sound_bootStage (s : State) (n : Nat) (hs : Sound s) : Sound (bootStage s n) := by
  delta bootStage
  repeat' first
    | with_reducible assumption
    | with_reducible refine Sound.lift ?_ rfl rfl rfl rfl rfl rfl rfl rfl rfl rfl rfl rfl rfl rfl rfl rfl rfl

theorem sound_journalScan (s : State) (hs : Sound s) : Sound (journalScan s) := by
  delta journalScan
  repeat' first
    | with_reducible assumption | (intro _)
    | ((fail_if_no_progress extract_lets -merge -useContext +onlyGivenNames x); (first | (refine Sound.step (x := x) ?_ (fun hx => ?_); on_goal 1 => subst x) | skip))
    | with_reducible refine Sound.ite ?_ (fun hx => ?_)
    | (with_reducible first | apply sound_profileModes | apply sound_enableLink | apply sound_bootFirmware | apply sound_bootImage | apply sound_fixLevel | apply sound_reinitLines | apply sound_scanJournal | apply sound_strapEvent | apply sound_bootStage | apply Sound.fold | apply Sound.foldP)
    | split | with_reducible refine Sound.lift ?_ rfl rfl rfl rfl rfl rfl rfl rfl rfl rfl rfl rfl rfl rfl rfl rfl rfl

theorem fits_new (cap : Nat) : Fits cap {} := ⟨Nat.zero_le _, Nat.zero_le _⟩

theorem sound_chipReset (s : State) (hs : Sound s) : Sound (chipReset s) :=
  ⟨by simp [chipReset, Shape], hs.cells, Nat.zero_le _, fits_new _, fits_new _, fits_new _, fits_new _, fits_new _, Nat.zero_le _⟩

theorem sound_raisePair (s : State) (src code : Nat) (dur cause : Nat) (hs : Sound s) : Sound (raisePair s src code dur cause) := by
  delta raisePair
  repeat' first
    | with_reducible assumption | (with_reducible first | apply sound_raise)

theorem sound_setPairSt (s : State) (x : PairSt) (hs : Sound s) : Sound (setPairSt s x) := by
  delta setPairSt
  repeat' first
    | with_reducible assumption
    | with_reducible refine Sound.lift ?_ rfl rfl rfl rfl rfl rfl rfl rfl rfl rfl rfl rfl rfl rfl rfl rfl rfl

theorem sound_degrade (s : State) (cause : Nat) (hs : Sound s) : Sound (degrade s cause) := by
  delta degrade
  repeat' first
    | with_reducible assumption | with_reducible refine Sound.ite ?_ (fun hx => ?_) | split
    | with_reducible refine Sound.lift ?_ rfl rfl rfl rfl rfl rfl rfl rfl rfl rfl rfl rfl rfl rfl rfl rfl rfl

theorem sound_claim (s : State) (byHand : Option Nat) (hs : Sound s) : Sound (claim s byHand) := by
  delta claim
  repeat' first
    | with_reducible assumption
    | (fail_if_no_progress extract_lets -merge -useContext +onlyGivenNames x)
    | with_reducible refine Sound.ite ?_ (fun hx => ?_) | split
    | with_reducible refine Sound.lift ?_ rfl rfl rfl rfl rfl rfl rfl rfl rfl rfl rfl rfl rfl rfl rfl rfl rfl

theorem sound_resetPartner (s : State) (hs : Sound s) : Sound (resetPartner s) := by
  delta resetPartner
  repeat' first
    | with_reducible assumption
    | ((fail_if_no_progress extract_lets -merge -useContext +onlyGivenNames x); (first | (refine Sound.step (x := x) ?_ (fun hx => ?_); on_goal 1 => subst x) | skip))
    | (with_reducible first | apply sound_raisePair)
    | with_reducible refine Sound.lift ?_ rfl rfl rfl rfl rfl rfl rfl rfl rfl rfl rfl rfl rfl rfl rfl rfl rfl

theorem sound_dropPartnerLinks (s : State) (hs : Sound s) : Sound (dropPartnerLinks s) := by
  delta dropPartnerLinks
  repeat' first
    | with_reducible assumption
    | ((fail_if_no_progress extract_lets -merge -useContext +onlyGivenNames x); (first | (refine Sound.step (x := x) ?_ (fun hx => ?_); on_goal 1 => subst x) | skip))
    | with_reducible refine Sound.ite ?_ (fun hx => ?_) | (with_reducible first | apply sound_announce) | split
    | with_reducible refine Sound.lift ?_ rfl rfl rfl rfl rfl rfl rfl rfl rfl rfl rfl rfl rfl rfl rfl rfl rfl

theorem sound_partnerGone (s : State) (hs : Sound s) : Sound (partnerGone s) := by
  delta partnerGone
  repeat' first
    | with_reducible assumption
    | ((fail_if_no_progress extract_lets -merge -useContext +onlyGivenNames x); (first | (refine Sound.step (x := x) ?_ (fun hx => ?_); on_goal 1 => subst x) | skip))
    | (with_reducible first | apply sound_raisePair | apply sound_claim | apply sound_dropPartnerLinks) | split
    | with_reducible refine Sound.lift ?_ rfl rfl rfl rfl rfl rfl rfl rfl rfl rfl rfl rfl rfl rfl rfl rfl rfl

theorem sound_survivePort (s : State) (p : Nat) (hs : Sound s) : Sound (survivePort s p) := by
  delta survivePort
  repeat' first
    | with_reducible assumption | (intro _)
    | (fail_if_no_progress extract_lets -merge -useContext +onlyGivenNames x)
    | with_reducible refine Sound.ite ?_ (fun hx => ?_) | (with_reducible first | apply sound_State_modPort)

theorem sound_surviveLink (s : State) (n : Nat) (hs : Sound s) : Sound (surviveLink s n) := by
  delta surviveLink
  repeat' first
    | with_reducible assumption | (intro _)
    | ((fail_if_no_progress extract_lets -merge -useContext +onlyGivenNames x); (refine Sound.step (x := x) ?_ (fun hx => ?_); on_goal 1 => subst x))
    | with_reducible refine Sound.ite ?_ (fun hx => ?_)
    | (with_reducible first | apply sound_State_modSpe | apply sound_setLinkN) | split

theorem sound_rewriteConverter (s : State) (n : Nat) (hs : Sound s) : Sound (rewriteConverter s n) := by
  delta rewriteConverter
  repeat' first
    | with_reducible assumption | with_reducible refine Sound.ite ?_ (fun hx => ?_)
    | (with_reducible first | apply sound_setVout | apply sound_setOp)

theorem sound_recoverSeg (s : State) (b : Bool) (hs : Sound s) : Sound (recoverSeg s b) := by
  delta recoverSeg
  repeat' first
    | with_reducible assumption | (intro _) | (with_reducible first | apply sound_State_modSeg)

theorem sound_rearmSeals (s : State) (l : Loc) (hs : Sound s) : Sound (rearmSeals s l) := by
  delta rearmSeals
  repeat' first
    | with_reducible assumption | (intro _) | (with_reducible first | apply sound_State_modPx)

theorem sound_takeOver (s : State) (hs : Sound s) : Sound (takeOver s) := by
  delta takeOver
  repeat' first
    | with_reducible assumption | (intro _)
    | ((fail_if_no_progress extract_lets -merge -useContext +onlyGivenNames x); (first | (refine Sound.step (x := x) ?_ (fun hx => ?_); on_goal 1 => subst x) | skip))
    | (with_reducible first | apply sound_announce | apply sound_reclaim | apply sound_survivePort | apply sound_surviveLink | apply sound_rewriteConverter | apply sound_recoverSeg | apply sound_rearmSeals | apply Sound.fold | apply Sound.foldP)
    | with_reducible refine Sound.lift ?_ rfl rfl rfl rfl rfl rfl rfl rfl rfl rfl rfl rfl rfl rfl rfl rfl rfl

theorem sound_startClears (s : State) (p : Nat) (hs : Sound s) : Sound (startClears s p) := by
  delta startClears
  repeat' first
    | with_reducible assumption | with_reducible refine Sound.ite ?_ (fun hx => ?_)
    | (with_reducible first | apply sound_nextClear)

theorem sound_resendPd (s : State) (n : Nat) (hs : Sound s) : Sound (resendPd s n) := by
  delta resendPd
  repeat' first
    | with_reducible assumption | (intro _)
    | (fail_if_no_progress extract_lets -merge -useContext +onlyGivenNames x)
    | with_reducible refine Sound.ite ?_ (fun hx => ?_) | (with_reducible first | apply sound_State_modPde)

theorem sound_resyncLends (s : State) (hs : Sound s) : Sound (resyncLends s) := by
  delta resyncLends
  repeat' first
    | with_reducible assumption | (intro _)
    | ((fail_if_no_progress extract_lets -merge -useContext +onlyGivenNames x); (first | (refine Sound.step (x := x) ?_ (fun hx => ?_); on_goal 1 => subst x) | skip))
    | with_reducible refine Sound.ite ?_ (fun hx => ?_) | with_reducible apply hf
    | (with_reducible first | apply sound_sendResync | apply Sound.fold)

theorem sound_slowPairSet (s : State) (bs : List Byte) (hs : Sound s) : Sound (slowPairSet s bs) := by
  delta slowPairSet
  repeat' first
    | with_reducible assumption
    | ((fail_if_no_progress extract_lets -merge -useContext +onlyGivenNames x); (first | (refine Sound.step (x := x) ?_ (fun hx => ?_); on_goal 1 => subst x) | skip))
    | with_reducible refine Sound.ite ?_ (fun hx => ?_)
    | (with_reducible first | apply sound_raise | apply sound_applyBlock)

theorem sound_slowClaim (s : State) (id nodeId : Nat) (fixed tentative : Bool) (hs : Sound s) : Sound (slowClaim s id nodeId fixed tentative) := by
  delta slowClaim
  repeat' first
    | with_reducible assumption
    | ((fail_if_no_progress extract_lets -merge -useContext +onlyGivenNames x); (first | (refine Sound.step (x := x) ?_ (fun hx => ?_); on_goal 1 => subst x) | skip))
    | with_reducible refine Sound.ite ?_ (fun hx => ?_)
    | (with_reducible first | apply sound_setPaired | apply sound_claim) | split
    | with_reducible refine Sound.lift ?_ rfl rfl rfl rfl rfl rfl rfl rfl rfl rfl rfl rfl rfl rfl rfl rfl rfl

theorem sound_slowSpe (s : State) (n link : Nat) (gen2 : Bool) (hs : Sound s) : Sound (slowSpe s n link gen2) := by
  delta slowSpe
  repeat' first
    | with_reducible assumption | (intro _) | with_reducible refine Sound.ite ?_ (fun hx => ?_)
    | (with_reducible first | apply sound_State_modUp | apply sound_State_modSpe)

theorem sound_sendSync (s : State) (hs : Sound s) : Sound (sendSync s) := by
  delta sendSync
  repeat' first
    | with_reducible assumption | with_reducible refine Sound.ite ?_ (fun hx => ?_)
    | (with_reducible first | apply sound_sendLadle) | split
    | with_reducible refine Sound.lift ?_ rfl rfl rfl rfl rfl rfl rfl rfl rfl rfl rfl rfl rfl rfl rfl rfl rfl

theorem sound_shareState (s : State) (hs : Sound s) : Sound (shareState s) := by
  delta shareState
  repeat' first
    | with_reducible assumption | (intro _)
    | ((fail_if_no_progress extract_lets -merge -useContext +onlyGivenNames x); (first | (refine Sound.step (x := x) ?_ (fun hx => ?_); on_goal 1 => subst x) | skip))
    | with_reducible refine Sound.ite ?_ (fun hx => ?_)
    | (with_reducible first | apply sound_sendSlow | apply sound_sendMirror) | split
    | with_reducible refine Sound.lift ?_ rfl rfl rfl rfl rfl rfl rfl rfl rfl rfl rfl rfl rfl rfl rfl rfl rfl

theorem sound_rest (s : State) (hs : Sound s) : Sound (rest s) := by
  delta rest
  repeat' first
    | with_reducible assumption | (with_reducible first | apply sound_idle | apply sound_shareState)

theorem sound_slowPrimary (s : State) (uid : Nat) (serial : List Byte) (hs : Sound s) : Sound (slowPrimary s uid serial) := by
  delta slowPrimary
  repeat' first
    | with_reducible assumption
    | ((fail_if_no_progress extract_lets -merge -useContext +onlyGivenNames x); (first | (refine Sound.step (x := x) ?_ (fun hx => ?_); on_goal 1 => subst x) | skip))
    | with_reducible refine Sound.ite ?_ (fun hx => ?_) | (with_reducible first | apply sound_raise) | split
    | with_reducible refine Sound.lift ?_ rfl rfl rfl rfl rfl rfl rfl rfl rfl rfl rfl rfl rfl rfl rfl rfl rfl

theorem sound_slowItem (s : State) (x : SlowItem) (hs : Sound s) : Sound (slowItem s x) := by
  delta slowItem
  repeat' first
    | with_reducible assumption | (intro _)
    | ((fail_if_no_progress extract_lets -merge -useContext +onlyGivenNames x); (first | (refine Sound.step (x := x) ?_ (fun hx => ?_); on_goal 1 => subst x) | skip))
    | with_reducible refine Sound.ite ?_ (fun hx => ?_)
    | (with_reducible first | apply sound_State_modPort | apply sound_State_modVPort | apply sound_captureRec | apply sound_sendSlow | apply sound_State_modTr | apply sound_storePipe | apply sound_setPaired | apply sound_State_modPb | apply sound_State_modTun | apply sound_profileModes | apply sound_applyBlock | apply sound_claim | apply sound_slowPairSet | apply sound_slowClaim | apply sound_slowSpe | apply sound_sendSync | apply sound_slowPrimary)
    | split | with_reducible refine Sound.lift ?_ rfl rfl rfl rfl rfl rfl rfl rfl rfl rfl rfl rfl rfl rfl rfl rfl rfl

theorem sound_startHandover (s : State) (rejoin : Bool) (wait : Option Nat) (hs : Sound s) : Sound (startHandover s rejoin wait) := by
  delta startHandover
  repeat' first
    | with_reducible assumption
    | (fail_if_no_progress extract_lets -merge -useContext +onlyGivenNames x)
    | with_reducible refine Sound.lift ?_ rfl rfl rfl rfl rfl rfl rfl rfl rfl rfl rfl rfl rfl rfl rfl rfl rfl

theorem sound_rejoinCheck (s : State) (hs : Sound s) : Sound (rejoinCheck s) := by
  delta rejoinCheck
  repeat' first
    | with_reducible assumption | with_reducible refine Sound.ite ?_ (fun hx => ?_)
    | (with_reducible first | apply sound_raisePair | apply sound_startHandover) | split
    | with_reducible refine Sound.lift ?_ rfl rfl rfl rfl rfl rfl rfl rfl rfl rfl rfl rfl rfl rfl rfl rfl rfl

theorem sound_insertion (s : State) (hs : Sound s) : Sound (insertion s) := by
  delta insertion
  repeat' first
    | with_reducible assumption | (with_reducible first | apply sound_raisePair)
    | with_reducible refine Sound.lift ?_ rfl rfl rfl rfl rfl rfl rfl rfl rfl rfl rfl rfl rfl rfl rfl rfl rfl

theorem sound_endHandWaits (s : State) (f : Cmd → Resp) (hs : Sound s) : Sound (endHandWaits s f) := by
  delta endHandWaits
  repeat' first
    | with_reducible assumption | (intro _)
    | (with_reducible first | apply sound_finishWait | apply Sound.fold | apply Sound.foldP) | split
    | with_reducible refine Sound.lift ?_ rfl rfl rfl rfl rfl rfl rfl rfl rfl rfl rfl rfl rfl rfl rfl rfl rfl

theorem sound_dropMoved (s : State) (hs : Sound s) : Sound (dropMoved s) := by
  delta dropMoved
  repeat' first
    | with_reducible assumption | (intro _)
    | ((fail_if_no_progress extract_lets -merge -useContext +onlyGivenNames x); (first | (refine Sound.step (x := x) ?_ (fun hx => ?_); on_goal 1 => subst x) | skip))
    | with_reducible refine Sound.ite ?_ (fun hx => ?_) | (with_reducible first | apply sound_State_modUp) | split
    | with_reducible refine Sound.lift ?_ rfl rfl rfl rfl rfl rfl rfl rfl rfl rfl rfl rfl rfl rfl rfl rfl rfl

theorem sound_dueReset (s : State) (h : Hand) (hs : Sound s) : Sound (dueReset s h) := by
  delta dueReset
  repeat' first
    | with_reducible assumption | (intro _) | with_reducible refine Sound.ite ?_ (fun hx => ?_)
    | (with_reducible first | apply sound_finishWait | apply Sound.fold | apply Sound.foldP) | split
    | with_reducible refine Sound.lift ?_ rfl rfl rfl rfl rfl rfl rfl rfl rfl rfl rfl rfl rfl rfl rfl rfl rfl

theorem sound_startSequence (s : State) (hs : Sound s) : Sound (startSequence s) := by
  delta startSequence
  repeat' first
    | with_reducible assumption
    | with_reducible refine Sound.lift ?_ rfl rfl rfl rfl rfl rfl rfl rfl rfl rfl rfl rfl rfl rfl rfl rfl rfl

theorem sound_wakeSource (s : State) (hs : Sound s) : Sound (wakeSource s) := by
  delta wakeSource
  repeat' first
    | with_reducible assumption | with_reducible refine Sound.ite ?_ (fun hx => ?_)
    | (with_reducible first | apply sound_wakeDoze | apply sound_startSequence) | split

theorem sound_bankEvent (s : State) (code bank map : Nat) (hs : Sound s) : Sound (bankEvent s code bank map) := by
  delta bankEvent
  repeat' first
    | with_reducible assumption | (with_reducible first | apply sound_raise)

theorem sound_reinitEntry (s : State) (p : Nat) (hs : Sound s) : Sound (reinitEntry s p) := by
  delta reinitEntry
  repeat' first
    | with_reducible assumption | (intro _)
    | (with_reducible first | apply sound_State_modPort | apply sound_profileModes | apply sound_setPortEntry) | split

theorem sound_reinitPort (s : State) (p : Nat) (hs : Sound s) : Sound (reinitPort s p) := by
  delta reinitPort
  repeat' first
    | with_reducible assumption | (intro _)
    | ((fail_if_no_progress extract_lets -merge -useContext +onlyGivenNames x); (first | (refine Sound.step (x := x) ?_ (fun hx => ?_); on_goal 1 => subst x) | skip))
    | with_reducible refine Sound.ite ?_ (fun hx => ?_)
    | (with_reducible first | apply sound_State_modPort | apply sound_setChange | apply sound_startFill | apply sound_setEff | apply sound_loseDevice | apply sound_reinitEntry)

theorem sound_reinitRecords (s : State) (p : Nat) (hs : Sound s) : Sound (reinitRecords s p) := by
  delta reinitRecords
  repeat' first
    | with_reducible assumption | (intro _)
    | (with_reducible first | apply sound_State_modPpc | apply sound_reinitEntry)

theorem sound_reinitFabric (s : State) (hs : Sound s) : Sound (reinitFabric s) := by
  delta reinitFabric
  repeat' first
    | with_reducible assumption | (intro _)
    | ((fail_if_no_progress extract_lets -merge -useContext +onlyGivenNames x); (first | (refine Sound.step (x := x) ?_ (fun hx => ?_); on_goal 1 => subst x) | skip))
    | with_reducible refine Sound.ite ?_ (fun hx => ?_)
    | (with_reducible first | apply sound_State_modLink | apply sound_setSync | apply sound_freeVPort | apply sound_endLend | apply sound_unusable | apply sound_claim | apply Sound.fold | apply Sound.foldP)
    | split | with_reducible refine Sound.lift ?_ rfl rfl rfl rfl rfl rfl rfl rfl rfl rfl rfl rfl rfl rfl rfl rfl rfl

theorem sound_reinitSettings (s : State) (hs : Sound s) : Sound (reinitSettings s) := by
  delta reinitSettings
  repeat' first
    | with_reducible assumption
    | ((fail_if_no_progress extract_lets -merge -useContext +onlyGivenNames x); (refine Sound.step (x := x) ?_ (fun hx => ?_); on_goal 1 => subst x))
    | (with_reducible first | apply sound_applyBlock | apply sound_applyPorts) | split

theorem sound_freshFirmware (s : State) (b : Bool) (cause : Nat) (hs : Sound s) : Sound (freshFirmware s b cause) := by
  delta freshFirmware
  repeat' first
    | with_reducible assumption | (intro _)
    | ((fail_if_no_progress extract_lets -merge -useContext +onlyGivenNames x); (first | (refine Sound.step (x := x) ?_ (fun hx => ?_); on_goal 1 => subst x) | skip))
    | (with_reducible first | apply sound_respond | apply sound_tellFirmware | apply sound_fwEvent | apply sound_startBank | apply Sound.fold | apply Sound.foldP)
    | with_reducible refine Sound.lift ?_ rfl rfl rfl rfl rfl rfl rfl rfl rfl rfl rfl rfl rfl rfl rfl rfl rfl

theorem sound_reinitBank (s : State) (bank : Nat) (hib : Bool) (hs : Sound s) : Sound (reinitBank s bank hib) := by
  delta reinitBank
  repeat' first
    | with_reducible assumption | (intro _)
    | ((fail_if_no_progress extract_lets -merge -useContext +onlyGivenNames x); (first | (refine Sound.step (x := x) ?_ (fun hx => ?_); on_goal 1 => subst x) | skip))
    | with_reducible refine Sound.ite ?_ (fun hx => ?_)
    | (with_reducible first | apply sound_upstreamConnectionLost | apply sound_bankEvent | apply sound_reinitPort | apply sound_reinitRecords | apply sound_reinitFabric | apply sound_reinitSettings | apply sound_freshFirmware | apply Sound.fold | apply Sound.foldP)
    | split

theorem sound_checkBanks (s : State) (failed : List Nat) (hib : Bool) (hs : Sound s) : Sound (checkBanks s failed hib) := by
  delta checkBanks
  repeat' first
    | with_reducible assumption | (intro _)
    | ((fail_if_no_progress extract_lets -merge -useContext +onlyGivenNames x); (first | (refine Sound.step (x := x) ?_ (fun hx => ?_); on_goal 1 => subst x) | skip))
    | with_reducible refine Sound.ite ?_ (fun hx => ?_)
    | (with_reducible first | apply sound_reinitBank | apply Sound.fold | apply Sound.foldP) | split
    | with_reducible refine Sound.lift ?_ rfl rfl rfl rfl rfl rfl rfl rfl rfl rfl rfl rfl rfl rfl rfl rfl rfl

theorem sound_deliverAon (s : State) (hs : Sound s) : Sound (deliverAon s) := by
  unfold deliverAon
  have h0 : Sound { s with sys := { s.sys with aonBuf := [], aonLost := 0 } } :=
    ⟨hs.shape, hs.cells, hs.capture, hs.queueA, hs.queueB, hs.sideband, hs.forward, hs.journal, by simp⟩
  have h1 := Sound.fold (fun s r h => sound_captureRec s r h) s.sys.aonBuf _ h0
  extract_lets n s1
  split
  · exact h1
  · exact sound_raise _ _ _ _ h1

theorem sound_hibernatePort (s : State) (n : Nat) (hs : Sound s) : Sound (hibernatePort s n) := by
  delta hibernatePort
  repeat' first
    | with_reducible assumption | (intro _)
    | ((fail_if_no_progress extract_lets -merge -useContext +onlyGivenNames x); (refine Sound.step (x := x) ?_ (fun hx => ?_); on_goal 1 => subst x))
    | with_reducible refine Sound.ite ?_ (fun hx => ?_)
    | (with_reducible first | apply sound_idle | apply sound_State_modPde | apply sound_State_modPpc | apply sound_pdStop | apply sound_pdForget | apply sound_linkDown)

theorem sound_attachAfresh (s : State) (n : Nat) (hs : Sound s) : Sound (attachAfresh s n) := by
  delta attachAfresh
  repeat' first
    | with_reducible assumption | (intro _) | (with_reducible first | apply sound_State_modPde | apply sound_tryOn)

theorem sound_hibernate (s : State) (hs : Sound s) : Sound (hibernate s) := by
  delta hibernate
  repeat' first
    | with_reducible assumption | (intro _)
    | ((fail_if_no_progress extract_lets -merge -useContext +onlyGivenNames x); (first | (refine Sound.step (x := x) ?_ (fun hx => ?_); on_goal 1 => subst x) | skip))
    | with_reducible refine Sound.ite ?_ (fun hx => ?_)
    | (with_reducible first | apply sound_enterSleep | apply sound_hibernatePort | apply Sound.fold | apply Sound.foldP)
    | split | with_reducible refine Sound.lift ?_ rfl rfl rfl rfl rfl rfl rfl rfl rfl rfl rfl rfl rfl rfl rfl rfl rfl

theorem sound_mapPorts (s : State) (f : Port → Port) (hs : Sound s) : Sound { s with ports := s.ports.map f } := by
  have h := hs.shape
  exact ⟨by simpa [Shape] using h, hs.cells, hs.capture, hs.queueA, hs.queueB, hs.sideband, hs.forward, hs.journal, hs.buffer⟩

theorem sound_wakeUp (s : State) (failed : List Nat) (hs : Sound s) : Sound (wakeUp s failed) := by
  delta wakeUp
  repeat' first
    | with_reducible assumption | (intro _)
    | ((fail_if_no_progress extract_lets -merge -useContext +onlyGivenNames x); (first | (refine Sound.step (x := x) ?_ (fun hx => ?_); on_goal 1 => subst x) | skip))
    | with_reducible refine Sound.ite ?_ (fun hx => ?_)
    | (with_reducible first | apply sound_mapPorts | apply sound_deliverAon | apply sound_checkBanks | apply sound_setSync | apply sound_State_modLink | apply sound_pbaTrigger | apply sound_attachAfresh | apply Sound.fold)
    | split | with_reducible refine Sound.lift ?_ rfl rfl rfl rfl rfl rfl rfl rfl rfl rfl rfl rfl rfl rfl rfl rfl rfl

theorem sound_domainReset (s : State) (why : Held) (hs : Sound s) : Sound (domainReset s why) := by
  have h := sound_chipReset s hs
  exact ⟨h.shape, h.cells, h.capture, h.queueA, h.queueB, h.sideband, h.forward, h.journal, hs.buffer⟩

theorem sound_startDeadFeed (s : State) (hs : Sound s) : Sound (startDeadFeed s) := by
  delta startDeadFeed
  repeat' first
    | with_reducible assumption | (intro _)
    | ((fail_if_no_progress extract_lets -merge -useContext +onlyGivenNames x); (first | (refine Sound.step (x := x) ?_ (fun hx => ?_); on_goal 1 => subst x) | skip))
    | (with_reducible first | apply sound_State_modPde | apply Sound.fold | apply Sound.foldP)
    | with_reducible refine Sound.lift ?_ rfl rfl rfl rfl rfl rfl rfl rfl rfl rfl rfl rfl rfl rfl rfl rfl rfl

theorem sound_pinReset (s : State) (hs : Sound s) : Sound (pinReset s) := by
  delta pinReset
  repeat' first
    | with_reducible assumption
    | ((fail_if_no_progress extract_lets -merge -useContext +onlyGivenNames x); (first | (refine Sound.step (x := x) ?_ (fun hx => ?_); on_goal 1 => subst x) | skip))
    | (with_reducible first | apply sound_chipReset)
    | with_reducible refine Sound.lift ?_ rfl rfl rfl rfl rfl rfl rfl rfl rfl rfl rfl rfl rfl rfl rfl rfl rfl

theorem sound_coldBoot (s : State) (hs : Sound s) : Sound (coldBoot s) := by
  delta coldBoot
  repeat' first
    | with_reducible assumption
    | (fail_if_no_progress extract_lets -merge -useContext +onlyGivenNames x)
    | with_reducible refine Sound.ite ?_ (fun hx => ?_) | (with_reducible first | apply sound_deliverAon) | split
    | with_reducible refine Sound.lift ?_ rfl rfl rfl rfl rfl rfl rfl rfl rfl rfl rfl rfl rfl rfl rfl rfl rfl

theorem sound_sampleStraps (s : State) (straps : Nat) (hs : Sound s) : Sound (sampleStraps s straps) := by
  delta sampleStraps
  repeat' first
    | with_reducible assumption
    | with_reducible refine Sound.lift ?_ rfl rfl rfl rfl rfl rfl rfl rfl rfl rfl rfl rfl rfl rfl rfl rfl rfl

theorem sound_awaitRails (s : State) (hs : Sound s) : Sound (awaitRails s) := by
  delta awaitRails
  repeat' first
    | with_reducible assumption
    | with_reducible refine Sound.lift ?_ rfl rfl rfl rfl rfl rfl rfl rfl rfl rfl rfl rfl rfl rfl rfl rfl rfl

theorem sound_powerGone (s : State) (hs : Sound s) : Sound (powerGone s) := by
  delta powerGone
  repeat' first
    | with_reducible assumption | (intro _)
    | ((fail_if_no_progress extract_lets -merge -useContext +onlyGivenNames x); (first | (refine Sound.step (x := x) ?_ (fun hx => ?_); on_goal 1 => subst x) | skip))
    | with_reducible refine Sound.ite ?_ (fun hx => ?_)
    | (with_reducible first | apply sound_startDeadFeed | apply sound_pinReset) | split
    | with_reducible refine Sound.lift ?_ rfl rfl rfl rfl rfl rfl rfl rfl rfl rfl rfl rfl rfl rfl rfl rfl rfl

theorem sound_usbStops (s : State) (hs : Sound s) : Sound (usbStops s) := by
  delta usbStops
  repeat' first
    | with_reducible assumption | (intro _)
    | ((fail_if_no_progress extract_lets -merge -useContext +onlyGivenNames x); (refine Sound.step (x := x) ?_ (fun hx => ?_); on_goal 1 => subst x))
    | (with_reducible first | apply sound_setUpLink | apply sound_setLink | apply Sound.fold)

theorem sound_fallBackClock (s : State) (hs : Sound s) : Sound (fallBackClock s) := by
  delta fallBackClock
  repeat' first
    | with_reducible assumption
    | ((fail_if_no_progress extract_lets -merge -useContext +onlyGivenNames x); (first | (refine Sound.step (x := x) ?_ (fun hx => ?_); on_goal 1 => subst x) | skip))
    | with_reducible refine Sound.ite ?_ (fun hx => ?_)
    | (with_reducible first | apply sound_raise | apply sound_setSync | apply sound_usbStops) | split
    | with_reducible refine Sound.lift ?_ rfl rfl rfl rfl rfl rfl rfl rfl rfl rfl rfl rfl rfl rfl rfl rfl rfl

theorem sound_resumeFill (s : State) (p : Nat) (hs : Sound s) : Sound (resumeFill s p) := by
  delta resumeFill
  repeat' first
    | with_reducible assumption | with_reducible refine Sound.ite ?_ (fun hx => ?_)
    | (with_reducible first | apply sound_startWireReset) | split

theorem sound_trainAgain (s : State) (p : Nat) (hs : Sound s) : Sound (trainAgain s p) := by
  delta trainAgain
  repeat' first
    | with_reducible assumption | with_reducible refine Sound.ite ?_ (fun hx => ?_)
    | (with_reducible first | apply sound_setLink)

theorem sound_restoreClock (s : State) (hs : Sound s) : Sound (restoreClock s) := by
  delta restoreClock
  repeat' first
    | with_reducible assumption | (intro _)
    | ((fail_if_no_progress extract_lets -merge -useContext +onlyGivenNames x); (first | (refine Sound.step (x := x) ?_ (fun hx => ?_); on_goal 1 => subst x) | skip))
    | with_reducible refine Sound.ite ?_ (fun hx => ?_) | with_reducible apply hf
    | (with_reducible first | apply sound_raise | apply sound_rootSync | apply sound_setUpLink | apply sound_resumeFill | apply sound_trainAgain | apply Sound.fold | apply Sound.foldP)
    | (fail_if_no_progress beta_reduce) | split
    | with_reducible refine Sound.lift ?_ rfl rfl rfl rfl rfl rfl rfl rfl rfl rfl rfl rfl rfl rfl rfl rfl rfl

theorem sound_frefGone (s : State) (hs : Sound s) : Sound (frefGone s) := by
  delta frefGone
  repeat' first
    | with_reducible assumption | (intro _)
    | (with_reducible first | apply sound_State_modLink | apply sound_raise | apply sound_fabLinkDown | apply Sound.fold | apply Sound.foldP)
    | split | with_reducible refine Sound.lift ?_ rfl rfl rfl rfl rfl rfl rfl rfl rfl rfl rfl rfl rfl rfl rfl rfl rfl

theorem sound_dozeEnter (s : State) (hs : Sound s) : Sound (dozeEnter s) := by
  delta dozeEnter
  repeat' first
    | with_reducible assumption | (intro _)
    | ((fail_if_no_progress extract_lets -merge -useContext +onlyGivenNames x); (first | (refine Sound.step (x := x) ?_ (fun hx => ?_); on_goal 1 => subst x) | skip))
    | with_reducible refine Sound.ite ?_ (fun hx => ?_)
    | (with_reducible first | apply sound_setSync | apply sound_requestSleep | apply Sound.fold | apply Sound.foldP)
    | split | with_reducible refine Sound.lift ?_ rfl rfl rfl rfl rfl rfl rfl rfl rfl rfl rfl rfl rfl rfl rfl rfl rfl

theorem sound_dozeWake (failed : List Nat) (s : State) (hs : Sound s) : Sound (dozeWake failed s) := by
  delta dozeWake
  repeat' first
    | with_reducible assumption
    | ((fail_if_no_progress extract_lets -merge -useContext +onlyGivenNames x); (first | (refine Sound.step (x := x) ?_ (fun hx => ?_); on_goal 1 => subst x) | skip))
    | with_reducible refine Sound.ite ?_ (fun hx => ?_)
    | (with_reducible first | apply sound_rootSync | apply sound_checkBanks) | split
    | with_reducible refine Sound.lift ?_ rfl rfl rfl rfl rfl rfl rfl rfl rfl rfl rfl rfl rfl rfl rfl rfl rfl

theorem sound_hibernateEnter (s : State) (hs : Sound s) : Sound (hibernateEnter s) := by
  delta hibernateEnter
  repeat' first
    | with_reducible assumption | with_reducible refine Sound.ite ?_ (fun hx => ?_)
    | (with_reducible first | apply sound_hibernate)

theorem sound_hibernateWake (src : HibWake) (s : State) (hs : Sound s) : Sound (hibernateWake src s) := by
  delta hibernateWake
  repeat' first
    | with_reducible assumption | with_reducible refine Sound.ite ?_ (fun hx => ?_)
    | (with_reducible first | apply sound_wakeSource | apply sound_hibernate) | split

theorem sound_wakeRailsValid (failed : List Nat) (s : State) (hs : Sound s) : Sound (wakeRailsValid failed s) := by
  delta wakeRailsValid
  repeat' first
    | with_reducible assumption | with_reducible refine Sound.ite ?_ (fun hx => ?_)
    | (with_reducible first | apply sound_hibernate | apply sound_wakeUp | apply sound_coldBoot) | split
    | with_reducible refine Sound.lift ?_ rfl rfl rfl rfl rfl rfl rfl rfl rfl rfl rfl rfl rfl rfl rfl rfl rfl

theorem sound_wakeRailFail (rail : Nat) (s : State) (hs : Sound s) : Sound (wakeRailFail rail s) := by
  delta wakeRailFail
  repeat' first
    | with_reducible assumption
    | ((fail_if_no_progress extract_lets -merge -useContext +onlyGivenNames x); (first | (refine Sound.step (x := x) ?_ (fun hx => ?_); on_goal 1 => subst x) | skip))
    | with_reducible refine Sound.ite ?_ (fun hx => ?_) | (with_reducible first | apply sound_raise) | split
    | with_reducible refine Sound.lift ?_ rfl rfl rfl rfl rfl rfl rfl rfl rfl rfl rfl rfl rfl rfl rfl rfl rfl

theorem sound_regenRetry (s : State) (hs : Sound s) : Sound (regenRetry s) := by
  delta regenRetry
  repeat' first
    | with_reducible assumption | with_reducible refine Sound.ite ?_ (fun hx => ?_) | split
    | with_reducible refine Sound.lift ?_ rfl rfl rfl rfl rfl rfl rfl rfl rfl rfl rfl rfl rfl rfl rfl rfl rfl

theorem sound_bankRestoreFromPartner (bank : Nat) (ok : Bool) (s : State) (hs : Sound s) : Sound (bankRestoreFromPartner bank ok s) := by
  delta bankRestoreFromPartner
  repeat' first
    | with_reducible assumption | (intro _)
    | ((fail_if_no_progress extract_lets -merge -useContext +onlyGivenNames x); (first | (refine Sound.step (x := x) ?_ (fun hx => ?_); on_goal 1 => subst x) | skip))
    | with_reducible refine Sound.ite ?_ (fun hx => ?_)
    | (with_reducible first | apply sound_bankEvent | apply sound_reinitBank) | split
    | with_reducible refine Sound.lift ?_ rfl rfl rfl rfl rfl rfl rfl rfl rfl rfl rfl rfl rfl rfl rfl rfl rfl

theorem sound_bankRestoreTimeout (s : State) (hs : Sound s) : Sound (bankRestoreTimeout s) := by
  delta bankRestoreTimeout
  repeat' first
    | with_reducible assumption | (intro _) | with_reducible refine Sound.ite ?_ (fun hx => ?_)
    | (with_reducible first | apply sound_reinitBank | apply Sound.fold | apply Sound.foldP) | split
    | with_reducible refine Sound.lift ?_ rfl rfl rfl rfl rfl rfl rfl rfl rfl rfl rfl rfl rfl rfl rfl rfl rfl

theorem sound_aonTimerWake (s : State) (hs : Sound s) : Sound (aonTimerWake s) := by
  delta aonTimerWake
  repeat' first
    | with_reducible assumption | with_reducible refine Sound.ite ?_ (fun hx => ?_)
    | (with_reducible first | apply sound_wakeSource | apply sound_hibernate) | split

theorem sound_gpioEdge (n : Nat) (rise : Bool) (s : State) (hs : Sound s) : Sound (gpioEdge n rise s) := by
  delta gpioEdge
  repeat' first
    | with_reducible assumption
    | ((fail_if_no_progress extract_lets -merge -useContext +onlyGivenNames x); (first | (refine Sound.step (x := x) ?_ (fun hx => ?_); on_goal 1 => subst x) | skip))
    | with_reducible refine Sound.ite ?_ (fun hx => ?_)
    | (with_reducible first | apply sound_raise | apply sound_wakeSource) | split
    | with_reducible refine Sound.lift ?_ rfl rfl rfl rfl rfl rfl rfl rfl rfl rfl rfl rfl rfl rfl rfl rfl rfl

theorem sound_hibernateSmbusAccess (write : Bool) (offset : Nat) (s : State) (hs : Sound s) : Sound (hibernateSmbusAccess write offset s) := by
  delta hibernateSmbusAccess
  repeat' first
    | with_reducible assumption | with_reducible refine Sound.ite ?_ (fun hx => ?_)
    | (with_reducible first | apply sound_wakeSource | apply sound_hibernate) | split

theorem sound_wakePatternSeen (l : Nat) (s : State) (hs : Sound s) : Sound (wakePatternSeen l s) := by
  delta wakePatternSeen
  repeat' first
    | with_reducible assumption | (intro _)
    | (fail_if_no_progress extract_lets -merge -useContext +onlyGivenNames x)
    | with_reducible refine Sound.ite ?_ (fun hx => ?_)
    | (with_reducible first | apply sound_State_modLink | apply sound_raiseLink | apply sound_wakeSource)

theorem sound_tsyncIn (s : State) (hs : Sound s) : Sound (tsyncIn s) := by
  delta tsyncIn
  repeat' first
    | with_reducible assumption
    | ((fail_if_no_progress extract_lets -merge -useContext +onlyGivenNames x); (refine Sound.step (x := x) ?_ (fun hx => ?_); on_goal 1 => subst x))
    | with_reducible refine Sound.ite ?_ (fun hx => ?_)
    | (with_reducible first | apply sound_tsyncInEdge | apply sound_wakeSource)

theorem sound_xtalRestart (runs : Bool) (s : State) (hs : Sound s) : Sound (xtalRestart runs s) := by
  delta xtalRestart
  repeat' first
    | with_reducible assumption | with_reducible refine Sound.ite ?_ (fun hx => ?_)
    | (with_reducible first | apply sound_restoreClock)

theorem sound_frefLost (s : State) (hs : Sound s) : Sound (frefLost s) := by
  delta frefLost
  repeat' first
    | with_reducible assumption | with_reducible refine Sound.ite ?_ (fun hx => ?_)
    | (with_reducible first | apply sound_frefGone)

theorem sound_frefRestored (s : State) (hs : Sound s) : Sound (frefRestored s) := by
  delta frefRestored
  repeat' first
    | with_reducible assumption | with_reducible refine Sound.ite ?_ (fun hx => ?_)
    | (with_reducible first | apply sound_raise) | split
    | with_reducible refine Sound.lift ?_ rfl rfl rfl rfl rfl rfl rfl rfl rfl rfl rfl rfl rfl rfl rfl rfl rfl

theorem sound_railOutOfWindow (rail : Nat) (high : Bool) (mv : Nat) (s : State) (hs : Sound s) : Sound (railOutOfWindow rail high mv s) := by
  delta railOutOfWindow
  repeat' first
    | with_reducible assumption
    | ((fail_if_no_progress extract_lets -merge -useContext +onlyGivenNames x); (first | (refine Sound.step (x := x) ?_ (fun hx => ?_); on_goal 1 => subst x) | skip))
    | with_reducible refine Sound.ite ?_ (fun hx => ?_)
    | (with_reducible first | apply sound_raise | apply sound_domainReset) | split
    | with_reducible refine Sound.lift ?_ rfl rfl rfl rfl rfl rfl rfl rfl rfl rfl rfl rfl rfl rfl rfl rfl rfl

theorem sound_railReturned (rail mv : Nat) (s : State) (hs : Sound s) : Sound (railReturned rail mv s) := by
  delta railReturned
  repeat' first
    | with_reducible assumption
    | ((fail_if_no_progress extract_lets -merge -useContext +onlyGivenNames x); (first | (refine Sound.step (x := x) ?_ (fun hx => ?_); on_goal 1 => subst x) | skip))
    | with_reducible refine Sound.ite ?_ (fun hx => ?_)
    | (with_reducible first | apply sound_raise | apply sound_coldBoot) | split
    | with_reducible refine Sound.lift ?_ rfl rfl rfl rfl rfl rfl rfl rfl rfl rfl rfl rfl rfl rfl rfl rfl rfl

theorem sound_vaonLoss (s : State) (hs : Sound s) : Sound (vaonLoss s) := by
  delta vaonLoss
  repeat' first
    | with_reducible assumption | (with_reducible first | apply sound_powerGone)

theorem sound_resetNLow (s : State) (hs : Sound s) : Sound (resetNLow s) := by
  delta resetNLow
  repeat' first
    | with_reducible assumption | with_reducible refine Sound.ite ?_ (fun hx => ?_)
    | (with_reducible first | apply sound_pinReset)

theorem sound_resetNRelease (straps : Nat) (railsOk : Bool) (s : State) (hs : Sound s) : Sound (resetNRelease straps railsOk s) := by
  delta resetNRelease
  repeat' first
    | with_reducible assumption
    | ((fail_if_no_progress extract_lets -merge -useContext +onlyGivenNames x); (first | (refine Sound.step (x := x) ?_ (fun hx => ?_); on_goal 1 => subst x) | skip))
    | with_reducible refine Sound.ite ?_ (fun hx => ?_)
    | (with_reducible first | apply sound_coldBoot | apply sound_sampleStraps | apply sound_awaitRails) | split
    | with_reducible refine Sound.lift ?_ rfl rfl rfl rfl rfl rfl rfl rfl rfl rfl rfl rfl rfl rfl rfl rfl rfl

theorem sound_powerUp (straps : Nat) (resetHigh : Bool) (s : State) (hs : Sound s) : Sound (powerUp straps resetHigh s) := by
  delta powerUp
  repeat' first
    | with_reducible assumption | (intro _)
    | ((fail_if_no_progress extract_lets -merge -useContext +onlyGivenNames x); (first | (refine Sound.step (x := x) ?_ (fun hx => ?_); on_goal 1 => subst x) | skip))
    | with_reducible refine Sound.ite ?_ (fun hx => ?_)
    | (with_reducible first | apply sound_setPaired | apply sound_coldBoot | apply sound_sampleStraps | apply sound_awaitRails)
    | split | with_reducible refine Sound.lift ?_ rfl rfl rfl rfl rfl rfl rfl rfl rfl rfl rfl rfl rfl rfl rfl rfl rfl

theorem sound_chipResetDelayExpiry (s : State) (hs : Sound s) : Sound (chipResetDelayExpiry s) := by
  delta chipResetDelayExpiry
  repeat' first
    | with_reducible assumption | with_reducible refine Sound.ite ?_ (fun hx => ?_)
    | (with_reducible first | apply sound_pinReset | apply sound_awaitRails) | split

theorem sound_firmwareDone (s : State) (hs : Sound s) : Sound (firmwareDone s) := by
  delta firmwareDone
  repeat' first
    | with_reducible assumption
    | ((fail_if_no_progress extract_lets -merge -useContext +onlyGivenNames x); (first | (refine Sound.step (x := x) ?_ (fun hx => ?_); on_goal 1 => subst x) | skip))
    | with_reducible refine Sound.ite ?_ (fun hx => ?_)
    | (with_reducible first | apply sound_tellFirmware | apply sound_fwEvent | apply sound_bootStage) | split
    | with_reducible refine Sound.lift ?_ rfl rfl rfl rfl rfl rfl rfl rfl rfl rfl rfl rfl rfl rfl rfl rfl rfl

theorem sound_unverify (s : State) (b : Bool) (hs : Sound s) : Sound (unverify s b) := by
  delta unverify
  repeat' first
    | with_reducible assumption | with_reducible refine Sound.ite ?_ (fun hx => ?_) | split
    | with_reducible refine Sound.lift ?_ rfl rfl rfl rfl rfl rfl rfl rfl rfl rfl rfl rfl rfl rfl rfl rfl rfl

theorem sound_firmwareWatchdog (s : State) (hs : Sound s) : Sound (firmwareWatchdog s) := by
  delta firmwareWatchdog
  repeat' first
    | with_reducible assumption
    | ((fail_if_no_progress extract_lets -merge -useContext +onlyGivenNames x); (first | (refine Sound.step (x := x) ?_ (fun hx => ?_); on_goal 1 => subst x) | skip))
    | with_reducible refine Sound.ite ?_ (fun hx => ?_)
    | (with_reducible first | apply sound_raise | apply sound_setChoice | apply sound_fwEvent | apply sound_startBank | apply sound_startRom | apply sound_unverify)
    | split | with_reducible refine Sound.lift ?_ rfl rfl rfl rfl rfl rfl rfl rfl rfl rfl rfl rfl rfl rfl rfl rfl rfl

theorem sound_watchdogRestart (s : State) (hs : Sound s) : Sound (watchdogRestart s) := by
  delta watchdogRestart
  repeat' first
    | with_reducible assumption | with_reducible refine Sound.ite ?_ (fun hx => ?_)
    | (with_reducible first | apply sound_raise | apply sound_freshFirmware)

theorem sound_deadFeedStart (u_u : Up) (s : State) (hs : Sound s) : Sound (deadFeedStart u_u s) := by
  delta deadFeedStart
  repeat' first
    | with_reducible assumption
    | ((fail_if_no_progress extract_lets -merge -useContext +onlyGivenNames x); (first | (refine Sound.step (x := x) ?_ (fun hx => ?_); on_goal 1 => subst x) | skip))
    | (with_reducible first | apply sound_startDeadFeed) | split
    | with_reducible refine Sound.lift ?_ rfl rfl rfl rfl rfl rfl rfl rfl rfl rfl rfl rfl rfl rfl rfl rfl rfl

theorem sound_deadFeedRegen (u : Up) (s : State) (hs : Sound s) : Sound (deadFeedRegen u s) := by
  delta deadFeedRegen
  repeat' first
    | with_reducible assumption
    | ((fail_if_no_progress extract_lets -merge -useContext +onlyGivenNames x); (first | (refine Sound.step (x := x) ?_ (fun hx => ?_); on_goal 1 => subst x) | skip))
    | with_reducible refine Sound.ite ?_ (fun hx => ?_) | (with_reducible first | apply sound_awaitRails) | split
    | with_reducible refine Sound.lift ?_ rfl rfl rfl rfl rfl rfl rfl rfl rfl rfl rfl rfl rfl rfl rfl rfl rfl

theorem sound_deadFeedStop (s : State) (hs : Sound s) : Sound (deadFeedStop s) := by
  delta deadFeedStop
  repeat' first
    | with_reducible assumption
    | ((fail_if_no_progress extract_lets -merge -useContext +onlyGivenNames x); (first | (refine Sound.step (x := x) ?_ (fun hx => ?_); on_goal 1 => subst x) | skip))
    | with_reducible refine Sound.ite ?_ (fun hx => ?_)
    | (with_reducible first | apply sound_awaitRails | apply sound_powerGone) | split
    | with_reducible refine Sound.lift ?_ rfl rfl rfl rfl rfl rfl rfl rfl rfl rfl rfl rfl rfl rfl rfl rfl rfl

theorem sound_thermalWarning (enter : Bool) (temp : Int) (s : State) (hs : Sound s) : Sound (thermalWarning enter temp s) := by
  delta thermalWarning
  repeat' first
    | with_reducible assumption | (intro _)
    | ((fail_if_no_progress extract_lets -merge -useContext +onlyGivenNames x); (first | (refine Sound.step (x := x) ?_ (fun hx => ?_); on_goal 1 => subst x) | skip))
    | with_reducible refine Sound.ite ?_ (fun hx => ?_)
    | (with_reducible first | apply sound_raise | apply sound_setDie | apply sound_State_modPde | apply Sound.fold | apply Sound.foldP)
    | split | with_reducible refine Sound.lift ?_ rfl rfl rfl rfl rfl rfl rfl rfl rfl rfl rfl rfl rfl rfl rfl rfl rfl

end Sys2Proof.Machine
end

