-- ==== Sys2Proof/Laws/SoundOps7.lean ====
section
/-!
SUPPORT. Laws/SoundOps7.lean: the operations keep a state that holds together, part 7 of 8, in the order of the
model's files.
-/

namespace Sys2Proof.Machine

theorem sound_thermalShutdown (temp : Int) (s : State) (hs : Sound s) : Sound (thermalShutdown temp s) := by
  delta thermalShutdown
  repeat' first
    | with_reducible assumption
    | ((fail_if_no_progress extract_lets -merge -useContext +onlyGivenNames x); (first | (refine Sound.step (x := x) ?_ (fun hx => ?_); on_goal 1 => subst x) | skip))
    | with_reducible refine Sound.ite ?_ (fun hx => ?_)
    | (with_reducible first | apply sound_captureRec | apply sound_setDie | apply sound_writeRecord | apply sound_domainReset)
    | split | with_reducible refine Sound.lift ?_ rfl rfl rfl rfl rfl rfl rfl rfl rfl rfl rfl rfl rfl rfl rfl rfl rfl

theorem sound_thermalRecovery (temp : Int) (s : State) (hs : Sound s) : Sound (thermalRecovery temp s) := by
  delta thermalRecovery
  repeat' first
    | with_reducible assumption
    | ((fail_if_no_progress extract_lets -merge -useContext +onlyGivenNames x); (first | (refine Sound.step (x := x) ?_ (fun hx => ?_); on_goal 1 => subst x) | skip))
    | with_reducible refine Sound.ite ?_ (fun hx => ?_)
    | (with_reducible first | apply sound_setDie | apply sound_coldBoot) | split
    | with_reducible refine Sound.lift ?_ rfl rfl rfl rfl rfl rfl rfl rfl rfl rfl rfl rfl rfl rfl rfl rfl rfl

theorem sound_proxyL1Idle (p : Nat) (device : Hs) (s : State) (hs : Sound s) : Sound (proxyL1Idle p device s) := by
  delta proxyL1Idle
  repeat' first
    | with_reducible assumption | (intro _)
    | ((fail_if_no_progress extract_lets -merge -useContext +onlyGivenNames x); (first | (refine Sound.step (x := x) ?_ (fun hx => ?_); on_goal 1 => subst x) | skip))
    | with_reducible refine Sound.ite ?_ (fun hx => ?_)
    | (with_reducible first | apply sound_State_modPort | apply sound_enterL1) | split

theorem sound_upU1U2Idle (u : Up) (u2 accepted : Bool) (s : State) (hs : Sound s) : Sound (upU1U2Idle u u2 accepted s) := by
  delta upU1U2Idle
  repeat' first
    | with_reducible assumption
    | (fail_if_no_progress extract_lets -merge -useContext +onlyGivenNames x)
    | with_reducible refine Sound.ite ?_ (fun hx => ?_) | (with_reducible first | apply sound_setUpLink)

theorem sound_undefer (s : State) (hs : Sound s) : Sound (undefer s) := by
  delta undefer
  repeat' first
    | with_reducible assumption | with_reducible refine Sound.ite ?_ (fun hx => ?_)
    | (with_reducible first | apply sound_setPairSt)

theorem sound_hbEdge (s : State) (hs : Sound s) : Sound (hbEdge s) := by
  delta hbEdge
  repeat' first
    | with_reducible assumption
    | ((fail_if_no_progress extract_lets -merge -useContext +onlyGivenNames x); (first | (refine Sound.step (x := x) ?_ (fun hx => ?_); on_goal 1 => subst x) | skip))
    | with_reducible refine Sound.ite ?_ (fun hx => ?_)
    | (with_reducible first | apply sound_insertion | apply sound_wakeSource | apply sound_hibernate | apply sound_undefer)
    | split | with_reducible refine Sound.lift ?_ rfl rfl rfl rfl rfl rfl rfl rfl rfl rfl rfl rfl rfl rfl rfl rfl rfl

theorem sound_hbOutWatchdog (s : State) (hs : Sound s) : Sound (hbOutWatchdog s) := by
  delta hbOutWatchdog
  repeat' first
    | with_reducible assumption | with_reducible refine Sound.ite ?_ (fun hx => ?_) | split
    | with_reducible refine Sound.lift ?_ rfl rfl rfl rfl rfl rfl rfl rfl rfl rfl rfl rfl rfl rfl rfl rfl rfl

theorem sound_refuseHand (s : State) (hs : Sound s) : Sound (refuseHand s) := by
  delta refuseHand
  repeat' first
    | with_reducible assumption | (intro _) | with_reducible refine Sound.ite ?_ (fun hx => ?_)
    | (with_reducible first | apply sound_endHandWaits)

theorem sound_partnerLost (live : Bool) (s : State) (hs : Sound s) : Sound (partnerLost live s) := by
  delta partnerLost
  repeat' first
    | with_reducible assumption | with_reducible refine Sound.ite ?_ (fun hx => ?_)
    | (with_reducible first | apply sound_raisePair | apply sound_degrade | apply sound_partnerGone | apply sound_refuseHand)
    | split | with_reducible refine Sound.lift ?_ rfl rfl rfl rfl rfl rfl rfl rfl rfl rfl rfl rfl rfl rfl rfl rfl rfl

theorem sound_judgeLevel (s : State) (st : Nat) (hs : Sound s) : Sound (judgeLevel s st) := by
  delta judgeLevel
  repeat' first
    | with_reducible assumption | with_reducible refine Sound.ite ?_ (fun hx => ?_)
    | (with_reducible first | apply sound_raisePair) | split
    | with_reducible refine Sound.lift ?_ rfl rfl rfl rfl rfl rfl rfl rfl rfl rfl rfl rfl rfl rfl rfl rfl rfl

theorem sound_liveWord (st seq : Nat) (s : State) (hs : Sound s) : Sound (liveWord st seq s) := by
  delta liveWord
  repeat' first
    | with_reducible assumption
    | ((fail_if_no_progress extract_lets -merge -useContext +onlyGivenNames x); (first | (refine Sound.step (x := x) ?_ (fun hx => ?_); on_goal 1 => subst x) | skip))
    | with_reducible refine Sound.ite ?_ (fun hx => ?_)
    | (with_reducible first | apply sound_raisePair | apply sound_hibernate | apply sound_undefer | apply sound_judgeLevel)
    | split | with_reducible refine Sound.lift ?_ rfl rfl rfl rfl rfl rfl rfl rfl rfl rfl rfl rfl rfl rfl rfl rfl rfl

theorem sound_claimResample (s : State) (hs : Sound s) : Sound (claimResample s) := by
  delta claimResample
  repeat' first
    | with_reducible assumption | with_reducible refine Sound.ite ?_ (fun hx => ?_)
    | (with_reducible first | apply sound_resetPartner) | split
    | with_reducible refine Sound.lift ?_ rfl rfl rfl rfl rfl rfl rfl rfl rfl rfl rfl rfl rfl rfl rfl rfl rfl

theorem sound_claimWon (s : State) (hs : Sound s) : Sound (claimWon s) := by
  delta claimWon
  repeat' first
    | with_reducible assumption
    | (fail_if_no_progress extract_lets -merge -useContext +onlyGivenNames x)
    | with_reducible refine Sound.ite ?_ (fun hx => ?_) | (with_reducible first | apply sound_takeOver) | split
    | with_reducible refine Sound.lift ?_ rfl rfl rfl rfl rfl rfl rfl rfl rfl rfl rfl rfl rfl rfl rfl rfl rfl

theorem sound_deferralEnd (s : State) (hs : Sound s) : Sound (deferralEnd s) := by
  delta deferralEnd
  repeat' first
    | with_reducible assumption | with_reducible refine Sound.ite ?_ (fun hx => ?_)
    | (with_reducible first | apply sound_resetPartner) | split
    | with_reducible refine Sound.lift ?_ rfl rfl rfl rfl rfl rfl rfl rfl rfl rfl rfl rfl rfl rfl rfl rfl rfl

theorem sound_partnerResetPulseEnd (s : State) (hs : Sound s) : Sound (partnerResetPulseEnd s) := by
  delta partnerResetPulseEnd
  repeat' first
    | with_reducible assumption
    | ((fail_if_no_progress extract_lets -merge -useContext +onlyGivenNames x); (first | (refine Sound.step (x := x) ?_ (fun hx => ?_); on_goal 1 => subst x) | skip))
    | with_reducible refine Sound.ite ?_ (fun hx => ?_)
    | (with_reducible first | apply sound_raisePair | apply sound_resetPartner) | split
    | with_reducible refine Sound.lift ?_ rfl rfl rfl rfl rfl rfl rfl rfl rfl rfl rfl rfl rfl rfl rfl rfl rfl

theorem sound_answerMoved (s : State) (hs : Sound s) : Sound (answerMoved s) := by
  delta answerMoved
  repeat' first
    | with_reducible assumption | (intro _)
    | ((fail_if_no_progress extract_lets -merge -useContext +onlyGivenNames x); (first | (refine Sound.step (x := x) ?_ (fun hx => ?_); on_goal 1 => subst x) | skip))
    | (with_reducible first | apply sound_respond | apply Sound.fold | apply Sound.foldP)
    | with_reducible refine Sound.lift ?_ rfl rfl rfl rfl rfl rfl rfl rfl rfl rfl rfl rfl rfl rfl rfl rfl rfl

theorem sound_takeoverPsxActive (s : State) (hs : Sound s) : Sound (takeoverPsxActive s) := by
  delta takeoverPsxActive
  repeat' first
    | with_reducible assumption | (intro _)
    | ((fail_if_no_progress extract_lets -merge -useContext +onlyGivenNames x); (first | (refine Sound.step (x := x) ?_ (fun hx => ?_); on_goal 1 => subst x) | skip))
    | with_reducible refine Sound.ite ?_ (fun hx => ?_)
    | (with_reducible first | apply sound_raisePair | apply sound_startClears | apply sound_resendPd | apply sound_resyncLends | apply sound_answerMoved | apply Sound.fold | apply Sound.foldP)
    | split | with_reducible refine Sound.lift ?_ rfl rfl rfl rfl rfl rfl rfl rfl rfl rfl rfl rfl rfl rfl rfl rfl rfl

theorem sound_pairSelfTestDone (failed : Nat) (s : State) (hs : Sound s) : Sound (pairSelfTestDone failed s) := by
  delta pairSelfTestDone
  repeat' first
    | with_reducible assumption
    | ((fail_if_no_progress extract_lets -merge -useContext +onlyGivenNames x); (first | (refine Sound.step (x := x) ?_ (fun hx => ?_); on_goal 1 => subst x) | skip))
    | with_reducible refine Sound.ite ?_ (fun hx => ?_)
    | (with_reducible first | apply sound_raise | apply sound_setPairSt | apply sound_claim) | split
    | with_reducible refine Sound.lift ?_ rfl rfl rfl rfl rfl rfl rfl rfl rfl rfl rfl rfl rfl rfl rfl rfl rfl

theorem sound_bootWaitExpiry (s : State) (hs : Sound s) : Sound (bootWaitExpiry s) := by
  delta bootWaitExpiry
  repeat' first
    | with_reducible assumption | with_reducible refine Sound.ite ?_ (fun hx => ?_)
    | (with_reducible first | apply sound_claim)

theorem sound_tkoInEdge (level : Bool) (s : State) (hs : Sound s) : Sound (tkoInEdge level s) := by
  delta tkoInEdge
  repeat' first
    | with_reducible assumption
    | ((fail_if_no_progress extract_lets -merge -useContext +onlyGivenNames x); (first | (refine Sound.step (x := x) ?_ (fun hx => ?_); on_goal 1 => subst x) | skip))
    | with_reducible refine Sound.ite ?_ (fun hx => ?_)
    | (with_reducible first | apply sound_setPairSt | apply sound_claim) | split
    | with_reducible refine Sound.lift ?_ rfl rfl rfl rfl rfl rfl rfl rfl rfl rfl rfl rfl rfl rfl rfl rfl rfl

theorem sound_fullSyncDone (s : State) (hs : Sound s) : Sound (fullSyncDone s) := by
  delta fullSyncDone
  repeat' first
    | with_reducible assumption
    | ((fail_if_no_progress extract_lets -merge -useContext +onlyGivenNames x); (first | (refine Sound.step (x := x) ?_ (fun hx => ?_); on_goal 1 => subst x) | skip))
    | with_reducible refine Sound.ite ?_ (fun hx => ?_)
    | (with_reducible first | apply sound_raise | apply sound_raisePair | apply sound_rejoinCheck) | split
    | with_reducible refine Sound.lift ?_ rfl rfl rfl rfl rfl rfl rfl rfl rfl rfl rfl rfl rfl rfl rfl rfl rfl

theorem sound_followActive (s : State) (hs : Sound s) : Sound (followActive s) := by
  delta followActive
  repeat' first
    | with_reducible assumption | with_reducible refine Sound.ite ?_ (fun hx => ?_)
    | (with_reducible first | apply sound_setParent)

theorem sound_ladleUp (s : State) (hs : Sound s) : Sound (ladleUp s) := by
  delta ladleUp
  repeat' first
    | with_reducible assumption
    | ((fail_if_no_progress extract_lets -merge -useContext +onlyGivenNames x); (first | (refine Sound.step (x := x) ?_ (fun hx => ?_); on_goal 1 => subst x) | skip))
    | with_reducible refine Sound.ite ?_ (fun hx => ?_)
    | (with_reducible first | apply sound_raise | apply sound_sendSlow | apply sound_sendSync | apply sound_followActive)
    | split | with_reducible refine Sound.lift ?_ rfl rfl rfl rfl rfl rfl rfl rfl rfl rfl rfl rfl rfl rfl rfl rfl rfl

theorem sound_ladleDown (s : State) (hs : Sound s) : Sound (ladleDown s) := by
  delta ladleDown
  repeat' first
    | with_reducible assumption
    | ((fail_if_no_progress extract_lets -merge -useContext +onlyGivenNames x); (first | (refine Sound.step (x := x) ?_ (fun hx => ?_); on_goal 1 => subst x) | skip))
    | with_reducible refine Sound.ite ?_ (fun hx => ?_)
    | (with_reducible first | apply sound_raise | apply sound_partnerGone | apply sound_refuseHand) | split
    | with_reducible refine Sound.lift ?_ rfl rfl rfl rfl rfl rfl rfl rfl rfl rfl rfl rfl rfl rfl rfl rfl rfl

theorem sound_digestSend (s : State) (hs : Sound s) : Sound (digestSend s) := by
  delta digestSend
  repeat' first
    | with_reducible assumption | with_reducible refine Sound.ite ?_ (fun hx => ?_)
    | (with_reducible first | apply sound_State_drawn | apply sound_sendLadle)

theorem sound_digestFrame (mismatch : List Nat) (s : State) (hs : Sound s) : Sound (digestFrame mismatch s) := by
  delta digestFrame
  repeat' first
    | with_reducible assumption | (intro _)
    | ((fail_if_no_progress extract_lets -merge -useContext +onlyGivenNames x); (first | (refine Sound.step (x := x) ?_ (fun hx => ?_); on_goal 1 => subst x) | skip))
    | with_reducible refine Sound.ite ?_ (fun hx => ?_)
    | (with_reducible first | apply sound_raise | apply sound_sendSlow | apply Sound.fold | apply Sound.foldP) | split
    | with_reducible refine Sound.lift ?_ rfl rfl rfl rfl rfl rfl rfl rfl rfl rfl rfl rfl rfl rfl rfl rfl rfl

theorem sound_slowFrame (items : List SlowItem) (s : State) (hs : Sound s) : Sound (slowFrame items s) := by
  delta slowFrame
  repeat' first
    | with_reducible assumption | (intro _) | with_reducible refine Sound.ite ?_ (fun hx => ?_)
    | (with_reducible first | apply sound_slowItem | apply Sound.fold)

theorem sound_syncFrame (items : List SlowItem) (s : State) (hs : Sound s) : Sound (syncFrame items s) := by
  delta syncFrame
  repeat' first
    | with_reducible assumption | (intro _) | with_reducible refine Sound.ite ?_ (fun hx => ?_)
    | (with_reducible first | apply sound_slowItem | apply Sound.fold)

theorem sound_mirrorItem (s : State) (x : MirrorItem) (hs : Sound s) : Sound (mirrorItem s x) := by
  delta mirrorItem
  repeat' first
    | with_reducible assumption | (intro _)
    | (with_reducible first | apply sound_State_modPort | apply sound_State_modPx | apply sound_State_modTun) | split

theorem sound_mirrorFrame (items : List MirrorItem) (s : State) (hs : Sound s) : Sound (mirrorFrame items s) := by
  delta mirrorFrame
  repeat' first
    | with_reducible assumption | (intro _)
    | ((fail_if_no_progress extract_lets -merge -useContext +onlyGivenNames x); (first | (refine Sound.step (x := x) ?_ (fun hx => ?_); on_goal 1 => subst x) | skip))
    | with_reducible refine Sound.ite ?_ (fun hx => ?_)
    | (with_reducible first | apply sound_sendSlow | apply sound_mirrorItem | apply Sound.fold | apply Sound.foldP)
    | split | with_reducible refine Sound.lift ?_ rfl rfl rfl rfl rfl rfl rfl rfl rfl rfl rfl rfl rfl rfl rfl rfl rfl

theorem sound_mirrorStall (s : State) (hs : Sound s) : Sound (mirrorStall s) := by
  delta mirrorStall
  repeat' first
    | with_reducible assumption | (intro _)
    | ((fail_if_no_progress extract_lets -merge -useContext +onlyGivenNames x); (first | (refine Sound.step (x := x) ?_ (fun hx => ?_); on_goal 1 => subst x) | skip))
    | with_reducible refine Sound.ite ?_ (fun hx => ?_)
    | (with_reducible first | apply sound_State_modLink | apply sound_raise | apply sound_degrade) | split
    | with_reducible refine Sound.lift ?_ rfl rfl rfl rfl rfl rfl rfl rfl rfl rfl rfl rfl rfl rfl rfl rfl rfl

theorem sound_handoverQuietPoint (s : State) (hs : Sound s) : Sound (handoverQuietPoint s) := by
  delta handoverQuietPoint
  repeat' first
    | with_reducible assumption | (intro _)
    | ((fail_if_no_progress extract_lets -merge -useContext +onlyGivenNames x); (first | (refine Sound.step (x := x) ?_ (fun hx => ?_); on_goal 1 => subst x) | skip))
    | with_reducible refine Sound.ite ?_ (fun hx => ?_)
    | (with_reducible first | apply sound_sendLadle | apply sound_dropMoved | apply sound_dueReset | apply sound_refuseHand)
    | split | with_reducible refine Sound.lift ?_ rfl rfl rfl rfl rfl rfl rfl rfl rfl rfl rfl rfl rfl rfl rfl rfl rfl

theorem sound_handoverWaitExpiry (s : State) (hs : Sound s) : Sound (handoverWaitExpiry s) := by
  delta handoverWaitExpiry
  repeat' first
    | with_reducible assumption | (intro _)
    | ((fail_if_no_progress extract_lets -merge -useContext +onlyGivenNames x); (first | (refine Sound.step (x := x) ?_ (fun hx => ?_); on_goal 1 => subst x) | skip))
    | with_reducible refine Sound.ite ?_ (fun hx => ?_) | (with_reducible first | apply sound_endHandWaits) | split
    | with_reducible refine Sound.lift ?_ rfl rfl rfl rfl rfl rfl rfl rfl rfl rfl rfl rfl rfl rfl rfl rfl rfl

theorem sound_releaseSeg (s : State) (b : Bool) (hs : Sound s) : Sound (releaseSeg s b) := by
  delta releaseSeg
  repeat' first
    | with_reducible assumption | (intro _) | (with_reducible first | apply sound_State_modSeg)

theorem sound_handoverRelease (s : State) (hs : Sound s) : Sound (handoverRelease s) := by
  delta handoverRelease
  repeat' first
    | with_reducible assumption
    | ((fail_if_no_progress extract_lets -merge -useContext +onlyGivenNames x); (first | (refine Sound.step (x := x) ?_ (fun hx => ?_); on_goal 1 => subst x) | skip))
    | with_reducible refine Sound.ite ?_ (fun hx => ?_)
    | (with_reducible first | apply sound_claim | apply sound_followActive | apply sound_releaseSeg) | split
    | with_reducible refine Sound.lift ?_ rfl rfl rfl rfl rfl rfl rfl rfl rfl rfl rfl rfl rfl rfl rfl rfl rfl

theorem sound_handoverFrame (rejoin : Bool) (s : State) (hs : Sound s) : Sound (handoverFrame rejoin s) := by
  delta handoverFrame
  repeat' first
    | with_reducible assumption
    | ((fail_if_no_progress extract_lets -merge -useContext +onlyGivenNames x); (first | (refine Sound.step (x := x) ?_ (fun hx => ?_); on_goal 1 => subst x) | skip))
    | with_reducible refine Sound.ite ?_ (fun hx => ?_) | (with_reducible first | apply sound_claim) | split
    | with_reducible refine Sound.lift ?_ rfl rfl rfl rfl rfl rfl rfl rfl rfl rfl rfl rfl rfl rfl rfl rfl rfl

theorem sound_handoverGateRelease (dur : Option Nat) (s : State) (hs : Sound s) : Sound (handoverGateRelease dur s) := by
  delta handoverGateRelease
  repeat' first
    | with_reducible assumption | (intro _)
    | ((fail_if_no_progress extract_lets -merge -useContext +onlyGivenNames x); (first | (refine Sound.step (x := x) ?_ (fun hx => ?_); on_goal 1 => subst x) | skip))
    | with_reducible refine Sound.ite ?_ (fun hx => ?_)
    | (with_reducible first | apply sound_raisePair | apply sound_endHandWaits) | split
    | with_reducible refine Sound.lift ?_ rfl rfl rfl rfl rfl rfl rfl rfl rfl rfl rfl rfl rfl rfl rfl rfl rfl

theorem sound_rejoinTimerExpiry (s : State) (hs : Sound s) : Sound (rejoinTimerExpiry s) := by
  delta rejoinTimerExpiry
  repeat' first
    | with_reducible assumption | with_reducible refine Sound.ite ?_ (fun hx => ?_)
    | (with_reducible first | apply sound_rejoinCheck) | split
    | with_reducible refine Sound.lift ?_ rfl rfl rfl rfl rfl rfl rfl rfl rfl rfl rfl rfl rfl rfl rfl rfl rfl

theorem sound_handoverRetry (s : State) (hs : Sound s) : Sound (handoverRetry s) := by
  delta handoverRetry
  repeat' first
    | with_reducible assumption | with_reducible refine Sound.ite ?_ (fun hx => ?_)
    | (with_reducible first | apply sound_rejoinCheck) | split
    | with_reducible refine Sound.lift ?_ rfl rfl rfl rfl rfl rfl rfl rfl rfl rfl rfl rfl rfl rfl rfl rfl rfl

theorem sound_pairWakeDetectTimeout (s : State) (hs : Sound s) : Sound (pairWakeDetectTimeout s) := by
  delta pairWakeDetectTimeout
  repeat' first
    | with_reducible assumption
    | ((fail_if_no_progress extract_lets -merge -useContext +onlyGivenNames x); (first | (refine Sound.step (x := x) ?_ (fun hx => ?_); on_goal 1 => subst x) | skip))
    | with_reducible refine Sound.ite ?_ (fun hx => ?_) | (with_reducible first | apply sound_partnerLost) | split
    | with_reducible refine Sound.lift ?_ rfl rfl rfl rfl rfl rfl rfl rfl rfl rfl rfl rfl rfl rfl rfl rfl rfl

theorem sound_authEvent (s : State) (c : Cmd) (code : Nat) (hs : Sound s) : Sound (authEvent s c code) := by
  delta authEvent
  repeat' first
    | with_reducible assumption | (with_reducible first | apply sound_raise)

theorem sound_authFailed (s : State) (c : Cmd) (hs : Sound s) : Sound (authFailed s c) := by
  delta authFailed
  repeat' first
    | with_reducible assumption | (intro _) | with_reducible refine Sound.ite ?_ (fun hx => ?_)
    | (with_reducible first | apply sound_State_modTr | apply sound_authEvent)

theorem sound_authPassed (s : State) (c : Cmd) (hs : Sound s) : Sound (authPassed s c) := by
  delta authPassed
  repeat' first
    | with_reducible assumption | (intro _) | (with_reducible first | apply sound_State_modTr)

theorem sound_authenticate (s : State) (c : Cmd) (priv : Bool) (hs : Sound s) : Sound (authenticate s c priv).2 := by
  delta authenticate
  repeat' first
    | with_reducible assumption | with_reducible refine Sound.ite ?_ (fun hx => ?_)
    | (with_reducible first | apply sound_authEvent | apply sound_authFailed | apply sound_authPassed) | split

theorem sound_taken (s : State) (c : Cmd) (hs : Sound s) : Sound (taken s c) := by
  delta taken
  repeat' first
    | with_reducible assumption
    | with_reducible refine Sound.lift ?_ rfl rfl rfl rfl rfl rfl rfl rfl rfl rfl rfl rfl rfl rfl rfl rfl rfl

theorem sound_begun (s : State) (c : Cmd) (priv : Bool) (hs : Sound s) : Sound (begun s c priv) := by
  delta begun
  repeat' first
    | with_reducible assumption | (with_reducible first | apply sound_authenticate | apply sound_taken)

theorem sound_closed (s : State) (hs : Sound s) : Sound (closed s) := by
  delta closed
  repeat' first
    | with_reducible assumption | (with_reducible first | apply sound_settleQueue | apply sound_beginRestart)

theorem sound_runCmd (op : Nat) (priv : Bool) (foreign : State → Cmd → Bool) (body : Cmd → State → State) (c : Cmd) (s : State) (hbody : ∀ x0 x1, Sound x1 → Sound (body x0 x1)) (hs : Sound s) : Sound (runCmd op priv foreign body c s) := by
  delta runCmd
  repeat' first
    | with_reducible assumption | (intro _)
    | ((fail_if_no_progress extract_lets -merge -useContext +onlyGivenNames x); (refine Sound.step (x := x) ?_ (fun hx => ?_); on_goal 1 => subst x))
    | with_reducible refine Sound.ite ?_ (fun hx => ?_)
    | (with_reducible first | apply sound_respond | apply sound_taken | apply sound_begun | apply sound_closed | apply hbody)
    | split

theorem sound_runForm (form : Bool) (op : Nat) (priv : Bool) (foreign : State → Cmd → Bool) (body : Cmd → State → State) (c : Cmd) (s : State) (hbody : ∀ x0 x1, Sound x1 → Sound (body x0 x1)) (hs : Sound s) : Sound (runForm form op priv foreign body c s) := by
  delta runForm
  repeat' first
    | with_reducible assumption | (intro _) | with_reducible refine Sound.ite ?_ (fun hx => ?_)
    | (with_reducible first | apply sound_runCmd)

theorem sound_answering (f : State → Cmd → Resp) (c : Cmd) (s : State) (hs : Sound s) : Sound (answering f c s) := by
  delta answering
  repeat' first
    | with_reducible assumption | (with_reducible first | apply sound_respond)

theorem sound_shareBlock (s : State) (op sel : Nat) (bs : List Byte) (hs : Sound s) : Sound (shareBlock s op sel bs) := by
  delta shareBlock
  repeat' first
    | with_reducible assumption | with_reducible refine Sound.ite ?_ (fun hx => ?_)
    | (with_reducible first | apply sound_sendSlow)

theorem sound_setBlock (op lo hi : Nat) (write : State → Nat → List Byte → Bool × State) (read : State → Nat → List Byte) (c : Cmd) (s : State) (hwrite : ∀ x0 x1 x2, Sound x0 → Sound (write x0 x1 x2).2) (hs : Sound s) : Sound (setBlock op lo hi write read c s) := by
  delta setBlock
  repeat' first
    | with_reducible assumption | (intro _)
    | ((fail_if_no_progress extract_lets -merge -useContext +onlyGivenNames x); (first | (refine Sound.step (x := x) ?_ (fun hx => ?_); on_goal 1 => subst x) | (refine Sound.step (x := x.2) ?_ (fun hx => ?_); on_goal 1 => subst x) | skip))
    | (with_reducible first | apply sound_respond | apply sound_shareBlock | apply hwrite)

theorem sound_getBlock (lo hi : Nat) (read : State → Nat → List Byte) (c : Cmd) (s : State) (hs : Sound s) : Sound (getBlock lo hi read c s) := by
  delta getBlock
  repeat' first
    | with_reducible assumption
    | (fail_if_no_progress extract_lets -merge -useContext +onlyGivenNames x)
    | (with_reducible first | apply sound_respond)

theorem sound_setWhole (op : Nat) (write : State → List Byte → Bool × State) (read : State → List Byte) (c : Cmd) (s : State) (hwrite : ∀ x0 x1, Sound x0 → Sound (write x0 x1).2) (hs : Sound s) : Sound (setWhole op write read c s) := by
  delta setWhole
  repeat' first
    | with_reducible assumption | (intro _)
    | ((fail_if_no_progress extract_lets -merge -useContext +onlyGivenNames x); (first | (refine Sound.step (x := x) ?_ (fun hx => ?_); on_goal 1 => subst x) | (refine Sound.step (x := x.2) ?_ (fun hx => ?_); on_goal 1 => subst x)))
    | (with_reducible first | apply sound_respond | apply sound_shareBlock | apply hwrite)

theorem sound_getWhole (read : State → List Byte) (c : Cmd) (s : State) (hs : Sound s) : Sound (getWhole read c s) := by
  delta getWhole
  repeat' first
    | with_reducible assumption | (with_reducible first | apply sound_respond)

theorem sound_identify (c : Cmd) (s : State) (hs : Sound s) : Sound (identify c s) := by
  delta identify
  repeat' first
    | with_reducible assumption | (with_reducible first | apply sound_State_drawn | apply sound_getWhole)

theorem sound_cmdChipReset (c : Cmd) (s : State) (hs : Sound s) : Sound (cmdChipReset c s) := by
  delta cmdChipReset
  repeat' first
    | with_reducible assumption
    | ((fail_if_no_progress extract_lets -merge -useContext +onlyGivenNames x); (first | (refine Sound.step (x := x) ?_ (fun hx => ?_); on_goal 1 => subst x) | (refine Sound.step (x := x.2) ?_ (fun hx => ?_); on_goal 1 => subst x) | skip))
    | with_reducible refine Sound.ite ?_ (fun hx => ?_)
    | (with_reducible first | apply sound_respond | apply sound_addWait | apply sound_startHandover) | split
    | with_reducible refine Sound.lift ?_ rfl rfl rfl rfl rfl rfl rfl rfl rfl rfl rfl rfl rfl rfl rfl rfl rfl

theorem sound_configSelect (c : Cmd) (s : State) (hs : Sound s) : Sound (configSelect c s) := by
  delta configSelect
  repeat' first
    | with_reducible assumption
    | (fail_if_no_progress extract_lets -merge -useContext +onlyGivenNames x)
    | with_reducible refine Sound.ite ?_ (fun hx => ?_)
    | (with_reducible first | apply sound_respond | apply sound_setChoice)

theorem sound_profileSet (c : Cmd) (s : State) (hs : Sound s) : Sound (profileSet c s) := by
  delta profileSet
  repeat' first
    | with_reducible assumption
    | ((fail_if_no_progress extract_lets -merge -useContext +onlyGivenNames x); (first | (refine Sound.step (x := x) ?_ (fun hx => ?_); on_goal 1 => subst x) | skip))
    | with_reducible refine Sound.ite ?_ (fun hx => ?_)
    | (with_reducible first | apply sound_sendSlow | apply sound_respond | apply sound_pbaTrigger | apply sound_profileModes)
    | split | with_reducible refine Sound.lift ?_ rfl rfl rfl rfl rfl rfl rfl rfl rfl rfl rfl rfl rfl rfl rfl rfl rfl

theorem sound_clPin (c : Cmd) (s : State) (hs : Sound s) : Sound (clPin c s) := by
  delta clPin
  repeat' first
    | with_reducible assumption
    | ((fail_if_no_progress extract_lets -merge -useContext +onlyGivenNames x); (first | (refine Sound.step (x := x) ?_ (fun hx => ?_); on_goal 1 => subst x) | skip))
    | with_reducible refine Sound.ite ?_ (fun hx => ?_)
    | (with_reducible first | apply sound_sendSlow | apply sound_respond | apply sound_setPaired) | split
    | with_reducible refine Sound.lift ?_ rfl rfl rfl rfl rfl rfl rfl rfl rfl rfl rfl rfl rfl rfl rfl rfl rfl

theorem sound_setVerified (s : State) (b : Bool) (hs : Sound s) : Sound (setVerified s b) := by
  delta setVerified
  repeat' first
    | with_reducible assumption
    | with_reducible refine Sound.lift ?_ rfl rfl rfl rfl rfl rfl rfl rfl rfl rfl rfl rfl rfl rfl rfl rfl rfl

theorem sound_fwVerify (c : Cmd) (s : State) (hs : Sound s) : Sound (fwVerify c s) := by
  delta fwVerify
  repeat' first
    | with_reducible assumption
    | (fail_if_no_progress extract_lets -merge -useContext +onlyGivenNames x)
    | with_reducible refine Sound.ite ?_ (fun hx => ?_)
    | (with_reducible first | apply sound_respond | apply sound_authEvent | apply sound_setVerified)

theorem sound_orderRestart (c : Cmd) (clamped : Bool) (bank : Bool) (cause : Nat) (s : State) (hs : Sound s) : Sound (orderRestart c clamped bank cause s) := by
  delta orderRestart
  repeat' first
    | with_reducible assumption
    | ((fail_if_no_progress extract_lets -merge -useContext +onlyGivenNames x); (first | (refine Sound.step (x := x) ?_ (fun hx => ?_); on_goal 1 => subst x) | skip))
    | with_reducible refine Sound.ite ?_ (fun hx => ?_)
    | (with_reducible first | apply sound_respond | apply sound_setChoice) | split
    | with_reducible refine Sound.lift ?_ rfl rfl rfl rfl rfl rfl rfl rfl rfl rfl rfl rfl rfl rfl rfl rfl rfl

theorem sound_fwActivate (c : Cmd) (s : State) (hs : Sound s) : Sound (fwActivate c s) := by
  delta fwActivate
  repeat' first
    | with_reducible assumption
    | (fail_if_no_progress extract_lets -merge -useContext +onlyGivenNames x)
    | with_reducible refine Sound.ite ?_ (fun hx => ?_)
    | (with_reducible first | apply sound_respond | apply sound_orderRestart)

theorem sound_keyWrite (c : Cmd) (s : State) (hs : Sound s) : Sound (keyWrite c s) := by
  delta keyWrite
  repeat' first
    | with_reducible assumption
    | (fail_if_no_progress extract_lets -merge -useContext +onlyGivenNames x)
    | with_reducible refine Sound.ite ?_ (fun hx => ?_)
    | (with_reducible first | apply sound_respond | apply sound_setKey)

theorem sound_keyStatus (c : Cmd) (s : State) (hs : Sound s) : Sound (keyStatus c s) := by
  delta keyStatus
  repeat' first
    | with_reducible assumption | (intro _)
    | ((fail_if_no_progress extract_lets -merge -useContext +onlyGivenNames x); (refine Sound.step (x := x) ?_ (fun hx => ?_); on_goal 1 => subst x))
    | (with_reducible first | apply sound_getWhole)
    | with_reducible refine Sound.lift ?_ rfl rfl rfl rfl rfl rfl rfl rfl rfl rfl rfl rfl rfl rfl rfl rfl rfl

theorem sound_selfTest (failed : Nat) (c : Cmd) (s : State) (hs : Sound s) : Sound (selfTest failed c s) := by
  delta selfTest
  repeat' first
    | with_reducible assumption
    | (fail_if_no_progress extract_lets -merge -useContext +onlyGivenNames x)
    | with_reducible refine Sound.ite ?_ (fun hx => ?_)
    | (with_reducible first | apply sound_raise | apply sound_respond)

theorem sound_clearErrors (s : State) (hs : Sound s) : Sound (clearErrors s) := by
  have h := hs.shape
  exact ⟨by simpa [Shape, clearErrors] using h, hs.cells, hs.capture, hs.queueA, hs.queueB, hs.sideband, hs.forward, hs.journal, hs.buffer⟩

theorem sound_errorCounters (c : Cmd) (s : State) (hs : Sound s) : Sound (errorCounters c s) := by
  delta errorCounters
  repeat' first
    | with_reducible assumption
    | (fail_if_no_progress extract_lets -merge -useContext +onlyGivenNames x)
    | with_reducible refine Sound.ite ?_ (fun hx => ?_)
    | (with_reducible first | apply sound_respond | apply sound_clearErrors)

theorem sound_diagTrigger (c : Cmd) (s : State) (hs : Sound s) : Sound (diagTrigger c s) := by
  delta diagTrigger
  repeat' first
    | with_reducible assumption
    | (fail_if_no_progress extract_lets -merge -useContext +onlyGivenNames x)
    | (with_reducible first | apply sound_raise | apply sound_respond)

theorem sound_phyTuneGet (c : Cmd) (s : State) (hs : Sound s) : Sound (phyTuneGet c s) := by
  delta phyTuneGet
  repeat' first
    | with_reducible assumption
    | (fail_if_no_progress extract_lets -merge -useContext +onlyGivenNames x)
    | (with_reducible first | apply sound_respond)

theorem sound_phyTuneSet (c : Cmd) (s : State) (hs : Sound s) : Sound (phyTuneSet c s) := by
  delta phyTuneSet
  repeat' first
    | with_reducible assumption
    | ((fail_if_no_progress extract_lets -merge -useContext +onlyGivenNames x); (first | (refine Sound.step (x := x.2) ?_ (fun hx => ?_); on_goal 1 => subst x) | skip))
    | (with_reducible first | apply sound_respond | apply sound_setPhy)

theorem sound_startDrain (s : State) (p : Nat) (d : Drain) (hs : Sound s) : Sound (startDrain s p d) := by
  delta startDrain
  repeat' first
    | with_reducible assumption | (intro _)
    | (fail_if_no_progress extract_lets -merge -useContext +onlyGivenNames x)
    | with_reducible refine Sound.ite ?_ (fun hx => ?_)
    | (with_reducible first | apply sound_State_modPort | apply sound_finishMove | apply sound_drainDonePhys)

theorem sound_portMove (c : Cmd) (s : State) (hs : Sound s) : Sound (portMove c s) := by
  delta portMove
  repeat' first
    | with_reducible assumption
    | ((fail_if_no_progress extract_lets -merge -useContext +onlyGivenNames x); (first | (refine Sound.step (x := x.2) ?_ (fun hx => ?_); on_goal 1 => subst x) | skip))
    | with_reducible refine Sound.ite ?_ (fun hx => ?_)
    | (with_reducible first | apply sound_respond | apply sound_addWait | apply sound_startDrain)

theorem sound_resetTransparent (s : State) (p : Nat) (hs : Sound s) : Sound (resetTransparent s p) := by
  delta resetTransparent
  repeat' first
    | with_reducible assumption | (intro _) | with_reducible refine Sound.ite ?_ (fun hx => ?_)
    | (with_reducible first | apply sound_State_modPort | apply sound_syncPort | apply sound_startWireReset | apply sound_setLink)

theorem sound_resetTranslated (s : State) (p : Nat) (hs : Sound s) : Sound (resetTranslated s p) := by
  delta resetTranslated
  repeat' first
    | with_reducible assumption | (intro _)
    | ((fail_if_no_progress extract_lets -merge -useContext +onlyGivenNames x); (refine Sound.step (x := x) ?_ (fun hx => ?_); on_goal 1 => subst x))
    | (with_reducible first | apply sound_State_modPort | apply sound_syncPort | apply sound_startRefill)

theorem sound_portReset (c : Cmd) (s : State) (hs : Sound s) : Sound (portReset c s) := by
  delta portReset
  repeat' first
    | with_reducible assumption
    | ((fail_if_no_progress extract_lets -merge -useContext +onlyGivenNames x); (first | (refine Sound.step (x := x) ?_ (fun hx => ?_); on_goal 1 => subst x) | skip))
    | with_reducible refine Sound.ite ?_ (fun hx => ?_)
    | (with_reducible first | apply sound_respond | apply sound_ownerEvent | apply sound_resetTransparent | apply sound_resetTranslated)

theorem sound_planSet (c : Cmd) (s : State) (hs : Sound s) : Sound (planSet c s) := by
  delta planSet
  repeat' first
    | with_reducible assumption
    | ((fail_if_no_progress extract_lets -merge -useContext +onlyGivenNames x); (first | (refine Sound.step (x := x) ?_ (fun hx => ?_); on_goal 1 => subst x) | (refine Sound.step (x := x.2) ?_ (fun hx => ?_); on_goal 1 => subst x) | skip))
    | with_reducible refine Sound.ite ?_ (fun hx => ?_)
    | (with_reducible first | apply sound_respond | apply sound_addWait) | split
    | with_reducible refine Sound.lift ?_ rfl rfl rfl rfl rfl rfl rfl rfl rfl rfl rfl rfl rfl rfl rfl rfl rfl

theorem sound_modeSet (c : Cmd) (s : State) (hs : Sound s) : Sound (modeSet c s) := by
  delta modeSet
  repeat' first
    | with_reducible assumption | (intro _)
    | ((fail_if_no_progress extract_lets -merge -useContext +onlyGivenNames x); (first | (refine Sound.step (x := x) ?_ (fun hx => ?_); on_goal 1 => subst x) | skip))
    | with_reducible refine Sound.ite ?_ (fun hx => ?_)
    | (with_reducible first | apply sound_State_modPort | apply sound_respond | apply sound_setMode | apply sound_shareBlock)

theorem sound_portRefill (c : Cmd) (s : State) (hs : Sound s) : Sound (portRefill c s) := by
  delta portRefill
  repeat' first
    | with_reducible assumption | (intro _)
    | ((fail_if_no_progress extract_lets -merge -useContext +onlyGivenNames x); (first | (refine Sound.step (x := x.2) ?_ (fun hx => ?_); on_goal 1 => subst x) | skip))
    | with_reducible refine Sound.ite ?_ (fun hx => ?_)
    | (with_reducible first | apply sound_State_modPort | apply sound_respond | apply sound_addWait | apply sound_startRefill | apply sound_wakePxL1)

theorem sound_lend (c : Cmd) (s : State) (hs : Sound s) : Sound (lend c s) := by
  delta lend
  repeat' first
    | with_reducible assumption | (intro _)
    | ((fail_if_no_progress extract_lets -merge -useContext +onlyGivenNames x); (first | (refine Sound.step (x := x) ?_ (fun hx => ?_); on_goal 1 => subst x) | (refine Sound.step (x := x.2) ?_ (fun hx => ?_); on_goal 1 => subst x) | skip))
    | with_reducible refine Sound.ite ?_ (fun hx => ?_)
    | (with_reducible first | apply sound_State_modPort | apply sound_respond | apply sound_addWait | apply sound_sendTun | apply sound_wakePxL1 | apply sound_drainDonePhys)
    | split

theorem sound_lendEndRecall (c : Cmd) (s : State) (hs : Sound s) : Sound (lendEndRecall c s) := by
  delta lendEndRecall
  repeat' first
    | with_reducible assumption | (intro _)
    | ((fail_if_no_progress extract_lets -merge -useContext +onlyGivenNames x); (first | (refine Sound.step (x := x.2) ?_ (fun hx => ?_); on_goal 1 => subst x) | skip))
    | with_reducible refine Sound.ite ?_ (fun hx => ?_)
    | (with_reducible first | apply sound_State_modPort | apply sound_respond | apply sound_addWait | apply sound_sendTun | apply sound_endLend)

theorem sound_lendEndRelease (c : Cmd) (s : State) (hs : Sound s) : Sound (lendEndRelease c s) := by
  delta lendEndRelease
  repeat' first
    | with_reducible assumption | (intro _)
    | ((fail_if_no_progress extract_lets -merge -useContext +onlyGivenNames x); (first | (refine Sound.step (x := x.2) ?_ (fun hx => ?_); on_goal 1 => subst x) | skip))
    | with_reducible refine Sound.ite ?_ (fun hx => ?_)
    | (with_reducible first | apply sound_State_modVPort | apply sound_respond | apply sound_addWait | apply sound_freeVPort | apply sound_drainDone)

theorem sound_errorRecover (s : State) (n : Nat) (hs : Sound s) : Sound (errorRecover s n) := by
  delta errorRecover
  repeat' first
    | with_reducible assumption | (intro _)
    | ((fail_if_no_progress extract_lets -merge -useContext +onlyGivenNames x); (refine Sound.step (x := x) ?_ (fun hx => ?_); on_goal 1 => subst x))
    | (with_reducible first | apply sound_State_modPde | apply sound_State_modPpc | apply sound_pdStop | apply sound_vbusOff)

theorem sound_startAction (s : State) (n action : Nat) (hs : Sound s) : Sound (startAction s n action) := by
  delta startAction
  repeat' first
    | with_reducible assumption | (intro _)
    | (with_reducible first | apply sound_State_modPde | apply sound_sendHardReset | apply sound_startOwn | apply sound_errorRecover)
    | split

theorem sound_pdAction (c : Cmd) (s : State) (hs : Sound s) : Sound (pdAction c s) := by
  delta pdAction
  repeat' first
    | with_reducible assumption
    | (fail_if_no_progress extract_lets -merge -useContext +onlyGivenNames x)
    | with_reducible refine Sound.ite ?_ (fun hx => ?_)
    | (with_reducible first | apply sound_respond | apply sound_startAction)

theorem sound_runAction (action : Nat) (c : Cmd) (s : State) (hs : Sound s) : Sound (runAction action c s) := by
  delta runAction
  repeat' first
    | with_reducible assumption | (intro _) | (with_reducible first | apply sound_runForm | apply sound_pdAction)

theorem sound_portPowerCycle (c : Cmd) (s : State) (hs : Sound s) : Sound (portPowerCycle c s) := by
  delta portPowerCycle
  repeat' first
    | with_reducible assumption | (intro _)
    | ((fail_if_no_progress extract_lets -merge -useContext +onlyGivenNames x); (first | (refine Sound.step (x := x) ?_ (fun hx => ?_); on_goal 1 => subst x) | skip))
    | with_reducible refine Sound.ite ?_ (fun hx => ?_)
    | (with_reducible first | apply sound_respond | apply sound_State_modPpc | apply sound_powerOff)

theorem sound_clearMeter (s : State) (clear n : Nat) (hs : Sound s) : Sound (clearMeter s clear n) := by
  delta clearMeter
  repeat' first
    | with_reducible assumption | (intro _)
    | (fail_if_no_progress extract_lets -merge -useContext +onlyGivenNames x)
    | with_reducible refine Sound.ite ?_ (fun hx => ?_) | with_reducible apply hf
    | (with_reducible first | apply sound_State_modPpc | apply sound_State_modFeed)

theorem sound_meterRead (c : Cmd) (s : State) (hs : Sound s) : Sound (meterRead c s) := by
  delta meterRead
  repeat' first
    | with_reducible assumption | (intro _)
    | (fail_if_no_progress extract_lets -merge -useContext +onlyGivenNames x)
    | with_reducible refine Sound.ite ?_ (fun hx => ?_)
    | (with_reducible first | apply sound_respond | apply sound_clearMeter | apply Sound.fold)

theorem sound_converterInit (c : Cmd) (s : State) (hs : Sound s) : Sound (converterInit c s) := by
  delta converterInit
  repeat' first
    | with_reducible assumption | (intro _)
    | ((fail_if_no_progress extract_lets -merge -useContext +onlyGivenNames x); (first | (refine Sound.step (x := x) ?_ (fun hx => ?_); on_goal 1 => subst x) | (refine Sound.step (x := x.2) ?_ (fun hx => ?_); on_goal 1 => subst x) | skip))
    | with_reducible refine Sound.ite ?_ (fun hx => ?_)
    | (with_reducible first | apply sound_respond | apply sound_addWait | apply sound_State_modConv | apply sound_initDone | apply sound_pmbusInit)

theorem sound_awaitBudget (s : State) (w : Nat) (hs : Sound s) : Sound (awaitBudget s w) := by
  delta awaitBudget
  repeat' first
    | with_reducible assumption
    | with_reducible refine Sound.lift ?_ rfl rfl rfl rfl rfl rfl rfl rfl rfl rfl rfl rfl rfl rfl rfl rfl rfl

theorem sound_feedSettingsSet (c : Cmd) (s : State) (hs : Sound s) : Sound (feedSettingsSet c s) := by
  delta feedSettingsSet
  repeat' first
    | with_reducible assumption | (intro _)
    | ((fail_if_no_progress extract_lets -merge -useContext +onlyGivenNames x); (first | (refine Sound.step (x := x) ?_ (fun hx => ?_); on_goal 1 => subst x) | (refine Sound.step (x := x.2) ?_ (fun hx => ?_); on_goal 1 => subst x) | skip))
    | (with_reducible first | apply sound_addWait | apply sound_State_modFeed | apply sound_shareBlock | apply sound_awaitBudget)
    | split

theorem sound_pbaGlobalSet (c : Cmd) (s : State) (hs : Sound s) : Sound (pbaGlobalSet c s) := by
  delta pbaGlobalSet
  repeat' first
    | with_reducible assumption
    | ((fail_if_no_progress extract_lets -merge -useContext +onlyGivenNames x); (first | (refine Sound.step (x := x) ?_ (fun hx => ?_); on_goal 1 => subst x) | (refine Sound.step (x := x.2) ?_ (fun hx => ?_); on_goal 1 => subst x)))
    | (with_reducible first | apply sound_addWait | apply sound_pbaTrigger | apply sound_setPbaGlobal | apply sound_shareBlock | apply sound_awaitBudget)

theorem sound_pbaPortSet (c : Cmd) (s : State) (hs : Sound s) : Sound (pbaPortSet c s) := by
  delta pbaPortSet
  repeat' first
    | with_reducible assumption
    | ((fail_if_no_progress extract_lets -merge -useContext +onlyGivenNames x); (first | (refine Sound.step (x := x) ?_ (fun hx => ?_); on_goal 1 => subst x) | (refine Sound.step (x := x.2) ?_ (fun hx => ?_); on_goal 1 => subst x) | skip))
    | (with_reducible first | apply sound_addWait | apply sound_pbaTrigger | apply sound_setPbaPort | apply sound_shareBlock | apply sound_awaitBudget)

theorem sound_pairSettingsSet (c : Cmd) (s : State) (hs : Sound s) : Sound (pairSettingsSet c s) := by
  delta pairSettingsSet
  repeat' first
    | with_reducible assumption | with_reducible refine Sound.ite ?_ (fun hx => ?_)
    | (with_reducible first | apply sound_respond | apply sound_setPair | apply sound_setWhole)

theorem sound_handover (c : Cmd) (s : State) (hs : Sound s) : Sound (handover c s) := by
  delta handover
  repeat' first
    | with_reducible assumption
    | ((fail_if_no_progress extract_lets -merge -useContext +onlyGivenNames x); (refine Sound.step (x := x.2) ?_ (fun hx => ?_); on_goal 1 => subst x))
    | with_reducible refine Sound.ite ?_ (fun hx => ?_)
    | (with_reducible first | apply sound_respond | apply sound_addWait | apply sound_startHandover) | split

theorem sound_pairRelay (c : Cmd) (s : State) (hs : Sound s) : Sound (pairRelay c s) := by
  delta pairRelay
  repeat' first
    | with_reducible assumption | (intro _)
    | ((fail_if_no_progress extract_lets -merge -useContext +onlyGivenNames x); (refine Sound.step (x := x.2) ?_ (fun hx => ?_); on_goal 1 => subst x))
    | with_reducible refine Sound.ite ?_ (fun hx => ?_)
    | (with_reducible first | apply sound_sendLadle | apply sound_respond | apply sound_addWait | apply Sound.fold)

theorem sound_clearLink (s : State) (l : Nat) (hs : Sound s) : Sound (clearLink s l) := by
  delta clearLink
  repeat' first
    | with_reducible assumption | (intro _) | (with_reducible first | apply sound_State_modLink)

theorem sound_fabricStatus (c : Cmd) (s : State) (hs : Sound s) : Sound (fabricStatus c s) := by
  delta fabricStatus
  repeat' first
    | with_reducible assumption | (intro _)
    | (fail_if_no_progress extract_lets -merge -useContext +onlyGivenNames x)
    | with_reducible refine Sound.ite ?_ (fun hx => ?_)
    | (with_reducible first | apply sound_respond | apply sound_clearLink | apply Sound.fold)

theorem sound_nodeList (c : Cmd) (s : State) (hs : Sound s) : Sound (nodeList c s) := by
  delta nodeList
  repeat' first
    | with_reducible assumption | (intro _)
    | ((fail_if_no_progress extract_lets -merge -useContext +onlyGivenNames x); (first | (refine Sound.step (x := x) ?_ (fun hx => ?_); on_goal 1 => subst x) | skip))
    | with_reducible refine Sound.ite ?_ (fun hx => ?_)
    | (with_reducible first | apply sound_respond | apply sound_claim | apply Sound.fold | apply Sound.foldP) | split
    | with_reducible refine Sound.lift ?_ rfl rfl rfl rfl rfl rfl rfl rfl rfl rfl rfl rfl rfl rfl rfl rfl rfl

theorem fits_fetchFreed {q : Queue} (h : Fits 1024 q) (asks : Bool) (hit : Option Nat) : Fits 1024 (fetchFreed q asks hit) := by
  unfold fetchFreed
  split
  · exact h.free _ _
  · exact h

theorem sound_eventFetch (c : Cmd) (s : State) (hs : Sound s) : Sound (eventFetch c s) :=
  sound_respond _ _ _ (sound_State_modQueue s .sideband _ (fun _ _ => fits_fetchFreed hs.sideband _ _) hs)

theorem sound_eventRouteSet (c : Cmd) (s : State) (hs : Sound s) : Sound (eventRouteSet c s) := by
  delta eventRouteSet
  repeat' first
    | with_reducible assumption | (intro _)
    | ((fail_if_no_progress extract_lets -merge -useContext +onlyGivenNames x); (first | (refine Sound.step (x := x) ?_ (fun hx => ?_); on_goal 1 => subst x) | skip))
    | (with_reducible first | apply sound_respond | apply sound_setRoutes | apply sound_shareBlock)

theorem sound_timeEpoch (c : Cmd) (s : State) (hs : Sound s) : Sound (timeEpoch c s) := by
  delta timeEpoch
  repeat' first
    | with_reducible assumption
    | ((fail_if_no_progress extract_lets -merge -useContext +onlyGivenNames x); (first | (refine Sound.step (x := x) ?_ (fun hx => ?_); on_goal 1 => subst x) | skip))
    | with_reducible refine Sound.ite ?_ (fun hx => ?_)
    | (with_reducible first | apply sound_respond | apply sound_stepTime)

theorem sound_timeEpochAtPps (c : Cmd) (s : State) (hs : Sound s) : Sound (timeEpochAtPps c s) := by
  delta timeEpochAtPps
  repeat' first
    | with_reducible assumption
    | ((fail_if_no_progress extract_lets -merge -useContext +onlyGivenNames x); (first | (refine Sound.step (x := x) ?_ (fun hx => ?_); on_goal 1 => subst x) | (refine Sound.step (x := x.2) ?_ (fun hx => ?_); on_goal 1 => subst x) | skip))
    | with_reducible refine Sound.ite ?_ (fun hx => ?_)
    | (with_reducible first | apply sound_respond | apply sound_addWait) | split
    | with_reducible refine Sound.lift ?_ rfl rfl rfl rfl rfl rfl rfl rfl rfl rfl rfl rfl rfl rfl rfl rfl rfl

theorem sound_writeUserLine (x : Nat × State) (l : Nat × List Byte) (hx : Sound x.2) : Sound (writeUserLine x l).2 := by
  delta writeUserLine
  repeat' first
    | with_reducible assumption | with_reducible refine Sound.ite ?_ (fun hx => ?_)
    | (with_reducible first | apply sound_putLine) | split
    | with_reducible refine Sound.lift ?_ rfl rfl rfl rfl rfl rfl rfl rfl rfl rfl rfl rfl rfl rfl rfl rfl rfl

theorem sound_crockWriteCmd (c : Cmd) (s : State) (hs : Sound s) : Sound (crockWriteCmd c s) := by
  delta crockWriteCmd
  repeat' first
    | with_reducible assumption | (intro _)
    | ((fail_if_no_progress extract_lets -merge -useContext +onlyGivenNames x); (first | (refine Sound.step (x := x) ?_ (fun hx => ?_); on_goal 1 => subst x) | (refine Sound.step (x := x.2) ?_ (fun hx => ?_); on_goal 1 => subst x) | skip))
    | with_reducible refine Sound.ite ?_ (fun hx => ?_)
    | (with_reducible first | apply sound_respond | apply sound_addWait | apply sound_putLine | apply sound_unverify | apply sound_writeUserLine | apply Sound.fold | apply Sound.foldP)
    | split | with_reducible refine Sound.lift ?_ rfl rfl rfl rfl rfl rfl rfl rfl rfl rfl rfl rfl rfl rfl rfl rfl rfl

theorem sound_journalRead (c : Cmd) (s : State) (hs : Sound s) : Sound (journalRead c s) := by
  delta journalRead
  repeat' first
    | with_reducible assumption | (intro _)
    | (fail_if_no_progress extract_lets -merge -useContext +onlyGivenNames x)
    | with_reducible refine Sound.ite ?_ (fun hx => ?_)
    | (with_reducible first | apply sound_State_drawn | apply sound_respond)

theorem sound_ffClear (c : Cmd) (s : State) (hs : Sound s) : Sound (ffClear c s) := by
  delta ffClear
  repeat' first
    | with_reducible assumption | (intro _)
    | (fail_if_no_progress extract_lets -merge -useContext +onlyGivenNames x)
    | (with_reducible first | apply sound_respond | apply sound_clearFirstFaults)

theorem sound_eraseUser (s : State) (lo hi : Nat) (hs : Sound s) : Sound (eraseUser s lo hi) := by
  refine ⟨hs.shape, ?_, hs.capture, hs.queueA, hs.queueB, hs.sideband, hs.forward, hs.journal, hs.buffer⟩
  show Memory.wf (List.foldl _ _ _) = true
  have h : ∀ (l : List Nat) (m : List Host.Cell), Memory.wf m = true →
      Memory.wf (l.foldl (fun m a => eraseCells m (placed s.crock a) (placed s.crock a + 16)) m) = true := by
    intro l; induction l with
    | nil => exact fun _ h => h
    | cons x xs ih => exact fun m h => ih _ (wfFrom_filter _ m 0 h)
  exact h _ _ (wfFrom_filter _ _ 0 hs.cells)

theorem sound_userErase (c : Cmd) (s : State) (hs : Sound s) : Sound (userErase c s) := by
  delta userErase
  repeat' first
    | with_reducible assumption | (intro _)
    | ((fail_if_no_progress extract_lets -merge -useContext +onlyGivenNames x); (first | (refine Sound.step (x := x) ?_ (fun hx => ?_); on_goal 1 => subst x) | skip))
    | (with_reducible first | apply sound_respond | apply sound_userLineWrite | apply sound_eraseUser | apply Sound.fold | apply Sound.foldP)
    | with_reducible refine Sound.lift ?_ rfl rfl rfl rfl rfl rfl rfl rfl rfl rfl rfl rfl rfl rfl rfl rfl rfl

theorem sound_sieveSet (c : Cmd) (s : State) (hs : Sound s) : Sound (sieveSet c s) := by
  delta sieveSet
  repeat' first
    | with_reducible assumption
    | ((fail_if_no_progress extract_lets -merge -useContext +onlyGivenNames x); (first | (refine Sound.step (x := x) ?_ (fun hx => ?_); on_goal 1 => subst x) | skip))
    | with_reducible refine Sound.ite ?_ (fun hx => ?_)
    | (with_reducible first | apply sound_respond | apply sound_setSieve | apply sound_shareBlock)

theorem sound_sieveFeed (c : Cmd) (s : State) (hs : Sound s) : Sound (sieveFeed c s) := by
  delta sieveFeed
  repeat' first
    | with_reducible assumption | (intro _)
    | (fail_if_no_progress extract_lets -merge -useContext +onlyGivenNames x)
    | with_reducible refine Sound.ite ?_ (fun hx => ?_)
    | (with_reducible first | apply sound_respond | apply sound_sieveTake)

theorem sound_sieveFinish (c : Cmd) (s : State) (hs : Sound s) : Sound (sieveFinish c s) := by
  delta sieveFinish
  repeat' first
    | with_reducible assumption
    | ((fail_if_no_progress extract_lets -merge -useContext +onlyGivenNames x); (first | (refine Sound.step (x := x.2) ?_ (fun hx => ?_); on_goal 1 => subst x) | skip))
    | with_reducible refine Sound.ite ?_ (fun hx => ?_)
    | (with_reducible first | apply sound_respond | apply sound_sieveEnd)

theorem sound_badCheck (s : State) (c : Cmd) (detail : Nat) (hs : Sound s) : Sound (badCheck s c detail) := by
  delta badCheck
  repeat' first
    | with_reducible assumption
    | (fail_if_no_progress extract_lets -merge -useContext +onlyGivenNames x)
    | (with_reducible first | apply sound_sendBack)

theorem sound_abandonAsm (s : State) (tr : Transport) (ftag : Nat) (hs : Sound s) : Sound (abandonAsm s tr ftag) := by
  delta abandonAsm
  repeat' first
    | with_reducible assumption | (intro _) | (with_reducible first | apply sound_State_modTr | apply sound_badCheck)
    | split

theorem sound_assemble (s : State) (c : Cmd) (frag : Bool) (hs : Sound s) : Sound (assemble s c frag).2 := by
  delta assemble
  repeat' first
    | with_reducible assumption | (intro _)
    | ((fail_if_no_progress extract_lets -merge -useContext +onlyGivenNames x); (first | (refine Sound.step (x := x) ?_ (fun hx => ?_); on_goal 1 => subst x) | (refine Sound.stepG (f := x) ?_ (fun hf => ?_); on_goal 1 => subst x) | skip))
    | with_reducible refine Sound.ite ?_ (fun hx => ?_) | with_reducible apply hf
    | (with_reducible first | apply sound_State_modTr | apply sound_abandonAsm) | (fail_if_no_progress beta_reduce)
    | split

theorem sound_forwardCmd (s : State) (c : Cmd) (bs : List Byte) (hs : Sound s) : Sound (forwardCmd s c bs) := by
  delta forwardCmd
  repeat' first
    | with_reducible assumption | (intro _)
    | (fail_if_no_progress extract_lets -merge -useContext +onlyGivenNames x)
    | with_reducible refine Sound.ite ?_ (fun hx => ?_) | (with_reducible first | apply sound_sendSegs) | split
    | with_reducible refine Sound.lift ?_ rfl rfl rfl rfl rfl rfl rfl rfl rfl rfl rfl rfl rfl rfl rfl rfl rfl

theorem sound_broadcast (s : State) (bs : List Byte) (hs : Sound s) : Sound (broadcast s bs) := by
  delta broadcast
  repeat' first
    | with_reducible assumption
    | (fail_if_no_progress extract_lets -merge -useContext +onlyGivenNames x)
    | (with_reducible first | apply sound_sendSegs)
    | with_reducible refine Sound.lift ?_ rfl rfl rfl rfl rfl rfl rfl rfl rfl rfl rfl rfl rfl rfl rfl rfl rfl

theorem sound_toMpc (s : State) (c : Cmd) (hs : Sound s) : Sound (toMpc s c) := by
  delta toMpc
  repeat' first
    | with_reducible assumption
    | ((fail_if_no_progress extract_lets -merge -useContext +onlyGivenNames x); (first | (refine Sound.step (x := x) ?_ (fun hx => ?_); on_goal 1 => subst x) | skip))
    | with_reducible refine Sound.ite ?_ (fun hx => ?_)
    | (with_reducible first | apply sound_respond | apply sound_settleQueue | apply sound_wakeSource) | split
    | with_reducible refine Sound.lift ?_ rfl rfl rfl rfl rfl rfl rfl rfl rfl rfl rfl rfl rfl rfl rfl rfl rfl

theorem sound_routeCmd (s : State) (c : Cmd) (bs : List Byte) (hs : Sound s) : Sound (routeCmd s c bs) := by
  delta routeCmd
  repeat' first
    | with_reducible assumption | with_reducible refine Sound.ite ?_ (fun hx => ?_)
    | (with_reducible first | apply sound_respond | apply sound_forwardCmd | apply sound_broadcast | apply sound_toMpc)

theorem sound_frontEnd (s : State) (tr : Transport) (ftag : Nat) (mute : Bool) (bs : List Byte) (hs : Sound s) : Sound (frontEnd s tr ftag mute bs) := by
  delta frontEnd
  repeat' first
    | with_reducible assumption
    | ((fail_if_no_progress extract_lets -merge -useContext +onlyGivenNames x); (first | (refine Sound.step (x := x.2) ?_ (fun hx => ?_); on_goal 1 => subst x) | skip))
    | with_reducible refine Sound.ite ?_ (fun hx => ?_)
    | (with_reducible first | apply sound_sendBack | apply sound_badCheck | apply sound_assemble | apply sound_routeCmd)
    | split

theorem sound_usbCommandTransfer (u : Up) (bs : List Byte) (s : State) (hs : Sound s) : Sound (usbCommandTransfer u bs s) := by
  delta usbCommandTransfer
  repeat' first
    | with_reducible assumption | with_reducible refine Sound.ite ?_ (fun hx => ?_)
    | (with_reducible first | apply sound_answer | apply sound_frontEnd)

theorem sound_responsePipeIn (u : Up) (s : State) (hs : Sound s) : Sound (responsePipeIn u s) := by
  delta responsePipeIn
  repeat' first
    | with_reducible assumption | (intro _)
    | (fail_if_no_progress extract_lets -merge -useContext +onlyGivenNames x)
    | with_reducible refine Sound.ite ?_ (fun hx => ?_)
    | (with_reducible first | apply sound_State_modUp | apply sound_answer) | split

theorem sound_modMb (s : State) (f : Mailbox → Mailbox) (hs : Sound s) : Sound (modMb s f) := by
  delta modMb
  repeat' first
    | with_reducible assumption
    | with_reducible refine Sound.lift ?_ rfl rfl rfl rfl rfl rfl rfl rfl rfl rfl rfl rfl rfl rfl rfl rfl rfl

theorem sound_windowByte (s : State) (off : Nat) (b : Byte) (hs : Sound s) : Sound (windowByte s off b) := by
  delta windowByte
  repeat' first
    | with_reducible assumption | (intro _) | with_reducible refine Sound.ite ?_ (fun hx => ?_)
    | (with_reducible first | apply sound_modMb)

theorem sound_windowWrite : ∀ (bs : List Byte) (a : Nat) (s : State), Sound s → Sound (windowWrite bs a s) := by
  intro bs; induction bs with
  | nil => exact fun _ _ h => h
  | cons b bs ih =>
    intro a s hs
    unfold windowWrite
    repeat' first
      | with_reducible assumption | (intro _)
      | (fail_if_no_progress extract_lets -merge -useContext +onlyGivenNames x)
      | with_reducible refine Sound.ite ?_ (fun hx => ?_) | (with_reducible first | apply ih | apply sound_windowByte)

theorem sound_mbiAnswer (s : State) (seq result : Nat) (hs : Sound s) : Sound (mbiAnswer s seq result) := by
  delta mbiAnswer
  repeat' first
    | with_reducible assumption | (intro _) | (with_reducible first | apply sound_modMb)

theorem sound_mbiCtrlGo (smbus : Bool) (ctrl len : Nat) (message : List Byte) (s : State) (hs : Sound s) : Sound (mbiCtrlGo smbus ctrl len message s) := by
  delta mbiCtrlGo
  repeat' first
    | with_reducible assumption | (intro _)
    | ((fail_if_no_progress extract_lets -merge -useContext +onlyGivenNames x); (first | (refine Sound.step (x := x) ?_ (fun hx => ?_); on_goal 1 => subst x) | skip))
    | with_reducible refine Sound.ite ?_ (fun hx => ?_)
    | (with_reducible first | apply sound_frontEnd | apply sound_modMb | apply sound_windowWrite | apply sound_mbiAnswer)

theorem sound_mbiCtrlSync (ctrl : Nat) (s : State) (hs : Sound s) : Sound (mbiCtrlSync ctrl s) := by
  delta mbiCtrlSync
  repeat' first
    | with_reducible assumption | (intro _)
    | ((fail_if_no_progress extract_lets -merge -useContext +onlyGivenNames x); (first | (refine Sound.step (x := x) ?_ (fun hx => ?_); on_goal 1 => subst x) | skip))
    | with_reducible refine Sound.ite ?_ (fun hx => ?_) | with_reducible apply hf
    | (with_reducible first | apply sound_State_modTr | apply sound_modMb | apply sound_mbiAnswer)

theorem sound_mboNext (s : State) (hs : Sound s) : Sound (mboNext s) := by
  delta mboNext
  repeat' first
    | with_reducible assumption | (intro _) | (with_reducible first | apply sound_mboPost | apply sound_modMb)

theorem sound_mboAck (value : Nat) (s : State) (hs : Sound s) : Sound (mboAck value s) := by
  delta mboAck
  repeat' first
    | with_reducible assumption | (intro _)
    | ((fail_if_no_progress extract_lets -merge -useContext +onlyGivenNames x); (first | (refine Sound.step (x := x) ?_ (fun hx => ?_); on_goal 1 => subst x) | skip))
    | with_reducible refine Sound.ite ?_ (fun hx => ?_)
    | (with_reducible first | apply sound_modMb | apply sound_mboNext)

theorem sound_mboTimeout (s : State) (hs : Sound s) : Sound (mboTimeout s) := by
  delta mboTimeout
  repeat' first
    | with_reducible assumption | (intro _)
    | (fail_if_no_progress extract_lets -merge -useContext +onlyGivenNames x)
    | with_reducible refine Sound.ite ?_ (fun hx => ?_)
    | (with_reducible first | apply sound_modMb | apply sound_mboNext)

theorem sound_smbusAlertResponse (s : State) (hs : Sound s) : Sound (smbusAlertResponse s) := by
  delta smbusAlertResponse
  repeat' first
    | with_reducible assumption | (intro _)
    | (fail_if_no_progress extract_lets -merge -useContext +onlyGivenNames x)
    | with_reducible refine Sound.ite ?_ (fun hx => ?_) | (with_reducible first | apply sound_modMb)

theorem sound_joinSegs (s : State) (src tag seg : Nat) (response : Bool) (bs : List Byte) (hs : Sound s) : Sound (joinSegs s src tag seg response bs).2 := by
  delta joinSegs
  repeat' first
    | with_reducible assumption | (intro _)
    | (fail_if_no_progress extract_lets -merge -useContext +onlyGivenNames x)
    | with_reducible refine Sound.ite ?_ (fun hx => ?_) | with_reducible apply hf
    | (with_reducible first | apply sound_rest) | (fail_if_no_progress beta_reduce) | split
    | with_reducible refine Sound.lift ?_ rfl rfl rfl rfl rfl rfl rfl rfl rfl rfl rfl rfl rfl rfl rfl rfl rfl

theorem sound_dropSegs (s : State) (src tag : Nat) (response : Bool) (hs : Sound s) : Sound (dropSegs s src tag response) := by
  delta dropSegs
  repeat' first
    | with_reducible assumption | (intro _)
    | (fail_if_no_progress extract_lets -merge -useContext +onlyGivenNames x)
    | (with_reducible first | apply sound_rest)
    | with_reducible refine Sound.lift ?_ rfl rfl rfl rfl rfl rfl rfl rfl rfl rfl rfl rfl rfl rfl rfl rfl rfl

theorem sound_commandFrame (src tag seg : Nat) (last toAll : Bool) (bs : List Byte) (s : State) (hs : Sound s) : Sound (commandFrame src tag seg last toAll bs s) := by
  delta commandFrame
  repeat' first
    | with_reducible assumption
    | ((fail_if_no_progress extract_lets -merge -useContext +onlyGivenNames x); (refine Sound.step (x := x.2) ?_ (fun hx => ?_); on_goal 1 => subst x))
    | with_reducible refine Sound.ite ?_ (fun hx => ?_)
    | (with_reducible first | apply sound_frontEnd | apply sound_joinSegs | apply sound_dropSegs) | split

end Sys2Proof.Machine
end

