-- ==== Sys2Proof/Laws/SoundOps8.lean ====
section
/-!
SUPPORT. Laws/SoundOps8.lean: the operations keep a state that holds together, part 8 of 8, in the order of the
model's files.
-/

namespace Sys2Proof.Machine

theorem sound_takeResponse (s : State) (src tag : Nat) (all : List Byte) (hs : Sound s) : Sound (takeResponse s src tag all) := by
  delta takeResponse
  repeat' first
    | with_reducible assumption | (intro _)
    | ((fail_if_no_progress extract_lets -merge -useContext +onlyGivenNames x); (first | (refine Sound.step (x := x) ?_ (fun hx => ?_); on_goal 1 => subst x) | skip))
    | with_reducible refine Sound.ite ?_ (fun hx => ?_)
    | (with_reducible first | apply sound_sendBack | apply sound_cacheResp | apply sound_gapAnswer) | split
    | with_reducible refine Sound.lift ?_ rfl rfl rfl rfl rfl rfl rfl rfl rfl rfl rfl rfl rfl rfl rfl rfl rfl

theorem sound_responseFrame (src tag seg : Nat) (last : Bool) (bs : List Byte) (s : State) (hs : Sound s) : Sound (responseFrame src tag seg last bs s) := by
  delta responseFrame
  repeat' first
    | with_reducible assumption
    | ((fail_if_no_progress extract_lets -merge -useContext +onlyGivenNames x); (refine Sound.step (x := x.2) ?_ (fun hx => ?_); on_goal 1 => subst x))
    | with_reducible refine Sound.ite ?_ (fun hx => ?_)
    | (with_reducible first | apply sound_joinSegs | apply sound_dropSegs | apply sound_takeResponse) | split

theorem sound_cmdWaitExpiry (tag : Nat) (s : State) (hs : Sound s) : Sound (cmdWaitExpiry tag s) := by
  delta cmdWaitExpiry
  repeat' first
    | with_reducible assumption | (intro _) | (with_reducible first | apply sound_respond) | split
    | with_reducible refine Sound.lift ?_ rfl rfl rfl rfl rfl rfl rfl rfl rfl rfl rfl rfl rfl rfl rfl rfl rfl

theorem sound_takeRelayed (s : State) (outer : Nat) (response : Bool) (all : List Byte) (hs : Sound s) : Sound (takeRelayed s outer response all) := by
  delta takeRelayed
  repeat' first
    | with_reducible assumption | with_reducible refine Sound.ite ?_ (fun hx => ?_)
    | (with_reducible first | apply sound_finishWait | apply sound_frontEnd) | split

theorem sound_partnerCmdFrame (seg : Nat) (last response : Bool) (outer : Nat) (bs : List Byte) (s : State) (hs : Sound s) : Sound (partnerCmdFrame seg last response outer bs s) := by
  delta partnerCmdFrame
  repeat' first
    | with_reducible assumption | (intro _)
    | ((fail_if_no_progress extract_lets -merge -useContext +onlyGivenNames x); (first | (refine Sound.stepK (f := x) ?_ (fun hf => ?_); on_goal 1 => subst x) | skip))
    | with_reducible refine Sound.ite ?_ (fun hx => ?_) | with_reducible apply hf
    | (with_reducible first | apply sound_rest | apply sound_takeRelayed) | (fail_if_no_progress beta_reduce) | split
    | with_reducible refine Sound.lift ?_ rfl rfl rfl rfl rfl rfl rfl rfl rfl rfl rfl rfl rfl rfl rfl rfl rfl

theorem sound_relayTimeout (s : State) (hs : Sound s) : Sound (relayTimeout s) := by
  delta relayTimeout
  repeat' first
    | with_reducible assumption | (intro _) | (with_reducible first | apply sound_finishWait) | split

end Sys2Proof.Machine
end

