-- ==== Sys2Proof/Laws/SoundRows1.lean ====
section
/-!
SUPPORT. Laws/SoundRows1.lean: every command keeps a state that holds together, part 1 of 2.
-/

namespace Sys2Proof.Machine

theorem sound_execRdSeen (n v1 v2 : Nat) (s : State) (hk : Sound s) : Keeps s (execRdSeen n v1 v2 s) := by
  delta execRdSeen
  refine ⟨_, rfl, ?_⟩
  repeat' first
    | with_reducible assumption | (intro _) | (with_reducible first | apply sound_rdSeen)

theorem sound_execAttachQualified (n : Nat) (vsafe5V : Bool) (s : State) (hk : Sound s) : Keeps s (execAttachQualified n vsafe5V s) := by
  delta execAttachQualified
  refine ⟨_, rfl, ?_⟩
  repeat' first
    | with_reducible assumption | (intro _) | (with_reducible first | apply sound_attachQualified)

theorem sound_execRdLost (n : Nat) (s : State) (hk : Sound s) : Keeps s (execRdLost n s) := by
  delta execRdLost
  refine ⟨_, rfl, ?_⟩
  repeat' first
    | with_reducible assumption | (intro _) | (with_reducible first | apply sound_rdLost)

theorem sound_execCcOpen (n : Nat) (s : State) (hk : Sound s) : Keeps s (execCcOpen n s) := by
  delta execCcOpen
  refine ⟨_, rfl, ?_⟩
  repeat' first
    | with_reducible assumption | (intro _) | (with_reducible first | apply sound_ccOpen)

theorem sound_execCcReturn (n : Nat) (s : State) (hk : Sound s) : Keeps s (execCcReturn n s) := by
  delta execCcReturn
  refine ⟨_, rfl, ?_⟩
  repeat' first
    | with_reducible assumption | (intro _) | (with_reducible first | apply sound_ccReturn)

theorem sound_execDetachQualified (n : Nat) (s : State) (hk : Sound s) : Keeps s (execDetachQualified n s) := by
  delta execDetachQualified
  refine ⟨_, rfl, ?_⟩
  repeat' first
    | with_reducible assumption | (intro _) | (with_reducible first | apply sound_detachQualified)

theorem sound_execAccessoryIgnored (n : Nat) (s : State) (hk : Sound s) : Keeps s (execAccessoryIgnored n s) := by
  delta execAccessoryIgnored
  refine ⟨_, rfl, ?_⟩
  repeat' first
    | with_reducible assumption | (intro _) | (with_reducible first | apply sound_accessoryIgnored)

theorem sound_execErrorRecoveryEnd (n : Nat) (s : State) (hk : Sound s) : Keeps s (execErrorRecoveryEnd n s) := by
  delta execErrorRecoveryEnd
  refine ⟨_, rfl, ?_⟩
  repeat' first
    | with_reducible assumption | (intro _) | (with_reducible first | apply sound_errorRecoveryEnd)

theorem sound_execVconnOvercurrent (n : Nat) (s : State) (hk : Sound s) : Keeps s (execVconnOvercurrent n s) := by
  delta execVconnOvercurrent
  refine ⟨_, rfl, ?_⟩
  repeat' first
    | with_reducible assumption | (intro _) | (with_reducible first | apply sound_vconnOvercurrent)

theorem sound_execDrpToggle (u : Up) (s : State) (hk : Sound s) : Keeps s (execDrpToggle u s) := by
  delta execDrpToggle
  refine ⟨_, rfl, ?_⟩
  repeat' first
    | with_reducible assumption | (intro _) | (with_reducible first | apply sound_drpToggle)

theorem sound_execRpSeen (u : Up) (v : CcVolts) (s : State) (hk : Sound s) : Keeps s (execRpSeen u v s) := by
  delta execRpSeen
  refine ⟨_, rfl, ?_⟩
  repeat' first
    | with_reducible assumption | (intro _) | (with_reducible first | apply sound_rpSeen)

theorem sound_execTryDebounce (u : Up) (vsafe5V : Bool) (s : State) (hk : Sound s) : Keeps s (execTryDebounce u vsafe5V s) := by
  delta execTryDebounce
  refine ⟨_, rfl, ?_⟩
  repeat' first
    | with_reducible assumption | (intro _) | (with_reducible first | apply sound_tryDebounce)

theorem sound_execTryTimeout (u : Up) (s : State) (hk : Sound s) : Keeps s (execTryTimeout u s) := by
  delta execTryTimeout
  refine ⟨_, rfl, ?_⟩
  repeat' first
    | with_reducible assumption | (intro _) | (with_reducible first | apply sound_tryTimeout)

theorem sound_execVbusBelowVsinkdisconnect (u : Up) (s : State) (hk : Sound s) : Keeps s (execVbusBelowVsinkdisconnect u s) := by
  delta execVbusBelowVsinkdisconnect
  refine ⟨_, rfl, ?_⟩
  repeat' first
    | with_reducible assumption | (intro _) | (with_reducible first | apply sound_vbusBelowVsinkdisconnect)

theorem sound_execDeadBatteryAttach (u : Up) (v : CcVolts) (s : State) (hk : Sound s) : Keeps s (execDeadBatteryAttach u v s) := by
  delta execDeadBatteryAttach
  refine ⟨_, rfl, ?_⟩
  repeat' first
    | with_reducible assumption | (intro _) | (with_reducible first | apply sound_deadBatteryAttach)

theorem sound_execDiscoverIdentityStart (n : Nat) (s : State) (hk : Sound s) : Keeps s (execDiscoverIdentityStart n s) := by
  delta execDiscoverIdentityStart
  refine ⟨_, rfl, ?_⟩
  repeat' first
    | with_reducible assumption | (intro _) | (with_reducible first | apply sound_discoverIdentityStart)

theorem sound_execDiscoverIdentityRetry (n : Nat) (s : State) (hk : Sound s) : Keeps s (execDiscoverIdentityRetry n s) := by
  delta execDiscoverIdentityRetry
  refine ⟨_, rfl, ?_⟩
  repeat' first
    | with_reducible assumption | (intro _) | (with_reducible first | apply sound_discoverIdentityRetry)

theorem sound_execCableIdentity (n id rev : Nat) (amps5 : Bool) (maxMv : Nat) (epr : Bool) (s : State) (hk : Sound s) : Keeps s (execCableIdentity n id rev amps5 maxMv epr s) := by
  delta execCableIdentity
  refine ⟨_, rfl, ?_⟩
  repeat' first
    | with_reducible assumption | (intro _) | (with_reducible first | apply sound_cableIdentity)

theorem sound_execGoodcrc (n id : Nat) (sopPrime : Bool) (s : State) (hk : Sound s) : Keeps s (execGoodcrc n id sopPrime s) := by
  delta execGoodcrc
  refine ⟨_, rfl, ?_⟩
  repeat' first
    | with_reducible assumption | (intro _) | (with_reducible first | apply sound_goodcrc)

theorem sound_execCrcReceiveTimerExpiry (n : Nat) (s : State) (hk : Sound s) : Keeps s (execCrcReceiveTimerExpiry n s) := by
  delta execCrcReceiveTimerExpiry
  refine ⟨_, rfl, ?_⟩
  repeat' first
    | with_reducible assumption | (intro _) | (with_reducible first | apply sound_crcReceiveTimerExpiry)

theorem sound_execChunkRequest (h : PdHdr) (chunk : Nat) (s : State) (hk : Sound s) : Keeps s (execChunkRequest h chunk s) := by
  delta execChunkRequest
  refine ⟨_, rfl, ?_⟩
  repeat' first
    | with_reducible assumption | (intro _) | (with_reducible first | apply sound_chunkRequest)

theorem sound_execChunkTimeout (n : Nat) (sender : Bool) (s : State) (hk : Sound s) : Keeps s (execChunkTimeout n sender s) := by
  delta execChunkTimeout
  refine ⟨_, rfl, ?_⟩
  repeat' first
    | with_reducible assumption | (intro _) | (with_reducible first | apply sound_chunkTimeout)

theorem sound_execSinktxWaitEnd (n : Nat) (s : State) (hk : Sound s) : Keeps s (execSinktxWaitEnd n s) := by
  delta execSinktxWaitEnd
  refine ⟨_, rfl, ?_⟩
  repeat' first
    | with_reducible assumption | (intro _) | (with_reducible first | apply sound_sinktxWaitEnd)

theorem sound_execRequest (h : PdHdr) (rdo : Nat) (s : State) (hk : Sound s) : Keeps s (execRequest h rdo s) := by
  delta execRequest
  refine ⟨_, rfl, ?_⟩
  repeat' first
    | with_reducible assumption | (intro _) | (with_reducible first | apply sound_request)

theorem sound_execEprRequest (h : PdHdr) (rdo pdo : Nat) (s : State) (hk : Sound s) : Keeps s (execEprRequest h rdo pdo s) := by
  delta execEprRequest
  refine ⟨_, rfl, ?_⟩
  repeat' first
    | with_reducible assumption | (intro _) | (with_reducible first | apply sound_eprRequest)

theorem sound_execEprModeEnter (h : PdHdr) (u_pdp : Nat) (s : State) (hk : Sound s) : Keeps s (execEprModeEnter h u_pdp s) := by
  delta execEprModeEnter
  refine ⟨_, rfl, ?_⟩
  repeat' first
    | with_reducible assumption | (intro _) | (with_reducible first | apply sound_eprModeEnter)

theorem sound_execEprModeExit (h : PdHdr) (s : State) (hk : Sound s) : Keeps s (execEprModeExit h s) := by
  delta execEprModeExit
  refine ⟨_, rfl, ?_⟩
  repeat' first
    | with_reducible assumption | (intro _) | (with_reducible first | apply sound_eprModeExit)

theorem sound_execGetSourceCap (h : PdHdr) (s : State) (hk : Sound s) : Keeps s (execGetSourceCap h s) := by
  delta execGetSourceCap
  refine ⟨_, rfl, ?_⟩
  repeat' first
    | with_reducible assumption | (intro _) | (with_reducible first | apply sound_getSourceCap)

theorem sound_execEprGetSourceCap (h : PdHdr) (s : State) (hk : Sound s) : Keeps s (execEprGetSourceCap h s) := by
  delta execEprGetSourceCap
  refine ⟨_, rfl, ?_⟩
  repeat' first
    | with_reducible assumption | (intro _) | (with_reducible first | apply sound_eprGetSourceCap)

theorem sound_execEprKeepalive (h : PdHdr) (s : State) (hk : Sound s) : Keeps s (execEprKeepalive h s) := by
  delta execEprKeepalive
  refine ⟨_, rfl, ?_⟩
  repeat' first
    | with_reducible assumption | (intro _) | (with_reducible first | apply sound_eprKeepalive)

theorem sound_execGetSinkCap (h : PdHdr) (s : State) (hk : Sound s) : Keeps s (execGetSinkCap h s) := by
  delta execGetSinkCap
  refine ⟨_, rfl, ?_⟩
  repeat' first
    | with_reducible assumption | (intro _) | (with_reducible first | apply sound_getSinkCap)

theorem sound_execGetSourceCapExtended (h : PdHdr) (s : State) (hk : Sound s) : Keeps s (execGetSourceCapExtended h s) := by
  delta execGetSourceCapExtended
  refine ⟨_, rfl, ?_⟩
  repeat' first
    | with_reducible assumption | (intro _) | (with_reducible first | apply sound_getSourceCapExtended)

theorem sound_execGetStatus (h : PdHdr) (s : State) (hk : Sound s) : Keeps s (execGetStatus h s) := by
  delta execGetStatus
  refine ⟨_, rfl, ?_⟩
  repeat' first
    | with_reducible assumption | (intro _) | (with_reducible first | apply sound_getStatus)

theorem sound_execGetPpsStatus (h : PdHdr) (s : State) (hk : Sound s) : Keeps s (execGetPpsStatus h s) := by
  delta execGetPpsStatus
  refine ⟨_, rfl, ?_⟩
  repeat' first
    | with_reducible assumption | (intro _) | (with_reducible first | apply sound_getPpsStatus)

theorem sound_execGetSourceInfo (h : PdHdr) (s : State) (hk : Sound s) : Keeps s (execGetSourceInfo h s) := by
  delta execGetSourceInfo
  refine ⟨_, rfl, ?_⟩
  repeat' first
    | with_reducible assumption | (intro _) | (with_reducible first | apply sound_getSourceInfo)

theorem sound_execGetRevision (h : PdHdr) (s : State) (hk : Sound s) : Keeps s (execGetRevision h s) := by
  delta execGetRevision
  refine ⟨_, rfl, ?_⟩
  repeat' first
    | with_reducible assumption | (intro _) | (with_reducible first | apply sound_getRevision)

theorem sound_execSourceCapabilities (h : PdHdr) (pdos : List Nat) (s : State) (hk : Sound s) : Keeps s (execSourceCapabilities h pdos s) := by
  delta execSourceCapabilities
  refine ⟨_, rfl, ?_⟩
  repeat' first
    | with_reducible assumption | (intro _) | (with_reducible first | apply sound_sourceCapabilities)

theorem sound_execSinkCapabilities (h : PdHdr) (pdos : List Nat) (s : State) (hk : Sound s) : Keeps s (execSinkCapabilities h pdos s) := by
  delta execSinkCapabilities
  refine ⟨_, rfl, ?_⟩
  repeat' first
    | with_reducible assumption | (intro _) | (with_reducible first | apply sound_sinkCapabilities)

theorem sound_execAccept (h : PdHdr) (s : State) (hk : Sound s) : Keeps s (execAccept h s) := by
  delta execAccept
  refine ⟨_, rfl, ?_⟩
  repeat' first
    | with_reducible assumption | (intro _) | (with_reducible first | apply sound_accept)

theorem sound_execReject (h : PdHdr) (s : State) (hk : Sound s) : Keeps s (execReject h s) := by
  delta execReject
  refine ⟨_, rfl, ?_⟩
  repeat' first
    | with_reducible assumption | (intro _) | (with_reducible first | apply sound_declined)

theorem sound_execWait (h : PdHdr) (s : State) (hk : Sound s) : Keeps s (execWait h s) := by
  delta execWait
  refine ⟨_, rfl, ?_⟩
  repeat' first
    | with_reducible assumption | (intro _) | (with_reducible first | apply sound_waited)

theorem sound_execPsRdy (h : PdHdr) (s : State) (hk : Sound s) : Keeps s (execPsRdy h s) := by
  delta execPsRdy
  refine ⟨_, rfl, ?_⟩
  repeat' first
    | with_reducible assumption | (intro _) | (with_reducible first | apply sound_psRdy)

theorem sound_execSoftReset (h : PdHdr) (s : State) (hk : Sound s) : Keeps s (execSoftReset h s) := by
  delta execSoftReset
  refine ⟨_, rfl, ?_⟩
  repeat' first
    | with_reducible assumption | (intro _) | (with_reducible first | apply sound_softReset)

theorem sound_execHardResetSignal (n : Nat) (s : State) (hk : Sound s) : Keeps s (execHardResetSignal n s) := by
  delta execHardResetSignal
  refine ⟨_, rfl, ?_⟩
  repeat' first
    | with_reducible assumption | (intro _) | (with_reducible first | apply sound_hardResetSignal)

theorem sound_execDrSwap (h : PdHdr) (s : State) (hk : Sound s) : Keeps s (execDrSwap h s) := by
  delta execDrSwap
  refine ⟨_, rfl, ?_⟩
  repeat' first
    | with_reducible assumption | (intro _) | (with_reducible first | apply sound_drSwap)

theorem sound_execPrSwap (h : PdHdr) (s : State) (hk : Sound s) : Keeps s (execPrSwap h s) := by
  delta execPrSwap
  refine ⟨_, rfl, ?_⟩
  repeat' first
    | with_reducible assumption | (intro _) | (with_reducible first | apply sound_prSwap)

theorem sound_execFrSwap (h : PdHdr) (s : State) (hk : Sound s) : Keeps s (execFrSwap h s) := by
  delta execFrSwap
  refine ⟨_, rfl, ?_⟩
  repeat' first
    | with_reducible assumption | (intro _) | (with_reducible first | apply sound_frSwap)

theorem sound_execVconnSwap (h : PdHdr) (s : State) (hk : Sound s) : Keeps s (execVconnSwap h s) := by
  delta execVconnSwap
  refine ⟨_, rfl, ?_⟩
  repeat' first
    | with_reducible assumption | (intro _) | (with_reducible first | apply sound_vconnSwap)

theorem sound_execBist (h : PdHdr) (mode : Nat) (s : State) (hk : Sound s) : Keeps s (execBist h mode s) := by
  delta execBist
  refine ⟨_, rfl, ?_⟩
  repeat' first
    | with_reducible assumption | (intro _) | (with_reducible first | apply sound_bist)

theorem sound_execAlert (h : PdHdr) (ado : Nat) (s : State) (hk : Sound s) : Keeps s (execAlert h ado s) := by
  delta execAlert
  refine ⟨_, rfl, ?_⟩
  repeat' first
    | with_reducible assumption | (intro _) | (with_reducible first | apply sound_alert)

theorem sound_execNotSupported (h : PdHdr) (s : State) (hk : Sound s) : Keeps s (execNotSupported h s) := by
  delta execNotSupported
  refine ⟨_, rfl, ?_⟩
  repeat' first
    | with_reducible assumption | (intro _) | (with_reducible first | apply sound_notSupported)

theorem sound_execPing (h : PdHdr) (s : State) (hk : Sound s) : Keeps s (execPing h s) := by
  delta execPing
  refine ⟨_, rfl, ?_⟩
  repeat' first
    | with_reducible assumption | (intro _) | (with_reducible first | apply sound_ping)

theorem sound_execVendorDefined (h : PdHdr) (u_vdos : List Nat) (s : State) (hk : Sound s) : Keeps s (execVendorDefined h u_vdos s) := by
  delta execVendorDefined
  refine ⟨_, rfl, ?_⟩
  repeat' first
    | with_reducible assumption | (intro _) | (with_reducible first | apply sound_vendorDefined)

theorem sound_execUnsupportedMessage (m : OtherMsg) (s : State) (hk : Sound s) : Keeps s (execUnsupportedMessage m s) := by
  delta execUnsupportedMessage
  refine ⟨_, rfl, ?_⟩
  repeat' first
    | with_reducible assumption | (intro _) | (with_reducible first | apply sound_unsupportedMessage)

theorem sound_execCapsReadvertise (n : Nat) (s : State) (hk : Sound s) : Keeps s (execCapsReadvertise n s) := by
  delta execCapsReadvertise
  refine ⟨_, rfl, ?_⟩
  repeat' first
    | with_reducible assumption | (intro _) | (with_reducible first | apply sound_capsReadvertise)

theorem sound_execTypecSendSourceCapExpiry (n : Nat) (s : State) (hk : Sound s) : Keeps s (execTypecSendSourceCapExpiry n s) := by
  delta execTypecSendSourceCapExpiry
  refine ⟨_, rfl, ?_⟩
  repeat' first
    | with_reducible assumption | (intro _) | (with_reducible first | apply sound_typecSendSourceCapExpiry)

theorem sound_execSenderResponseExpiry (n : Nat) (s : State) (hk : Sound s) : Keeps s (execSenderResponseExpiry n s) := by
  delta execSenderResponseExpiry
  refine ⟨_, rfl, ?_⟩
  repeat' first
    | with_reducible assumption | (intro _) | (with_reducible first | apply sound_senderResponseExpiry)

theorem sound_execSrcTransitionExpiry (n : Nat) (s : State) (hk : Sound s) : Keeps s (execSrcTransitionExpiry n s) := by
  delta execSrcTransitionExpiry
  refine ⟨_, rfl, ?_⟩
  repeat' first
    | with_reducible assumption | (intro _) | (with_reducible first | apply sound_srcTransitionExpiry)

theorem sound_execSrcSettleExpiry (n : Nat) (s : State) (hk : Sound s) : Keeps s (execSrcSettleExpiry n s) := by
  delta execSrcSettleExpiry
  refine ⟨_, rfl, ?_⟩
  repeat' first
    | with_reducible assumption | (intro _) | (with_reducible first | apply sound_hardOnExpiry)

theorem sound_execPsHardResetExpiry (n : Nat) (s : State) (hk : Sound s) : Keeps s (execPsHardResetExpiry n s) := by
  delta execPsHardResetExpiry
  refine ⟨_, rfl, ?_⟩
  repeat' first
    | with_reducible assumption | (intro _) | (with_reducible first | apply sound_psHardResetExpiry)

theorem sound_execSafe0vExpiry (n : Nat) (s : State) (hk : Sound s) : Keeps s (execSafe0vExpiry n s) := by
  delta execSafe0vExpiry
  refine ⟨_, rfl, ?_⟩
  repeat' first
    | with_reducible assumption | (intro _) | (with_reducible first | apply sound_safe0VExpiry)

theorem sound_execSrcRecoverExpiry (n : Nat) (s : State) (hk : Sound s) : Keeps s (execSrcRecoverExpiry n s) := by
  delta execSrcRecoverExpiry
  refine ⟨_, rfl, ?_⟩
  repeat' first
    | with_reducible assumption | (intro _) | (with_reducible first | apply sound_srcRecoverExpiry)

theorem sound_execNoResponseExpiry (n : Nat) (s : State) (hk : Sound s) : Keeps s (execNoResponseExpiry n s) := by
  delta execNoResponseExpiry
  refine ⟨_, rfl, ?_⟩
  repeat' first
    | with_reducible assumption | (intro _) | (with_reducible first | apply sound_noResponseExpiry)

theorem sound_execEnterEprExpiry (n : Nat) (s : State) (hk : Sound s) : Keeps s (execEnterEprExpiry n s) := by
  delta execEnterEprExpiry
  refine ⟨_, rfl, ?_⟩
  repeat' first
    | with_reducible assumption | (intro _) | (with_reducible first | apply sound_hardOnExpiry)

theorem sound_execSourceEprKeepaliveExpiry (n : Nat) (s : State) (hk : Sound s) : Keeps s (execSourceEprKeepaliveExpiry n s) := by
  delta execSourceEprKeepaliveExpiry
  refine ⟨_, rfl, ?_⟩
  repeat' first
    | with_reducible assumption | (intro _) | (with_reducible first | apply sound_keepAliveExpiry)

theorem sound_execPpsTimeoutExpiry (n : Nat) (s : State) (hk : Sound s) : Keeps s (execPpsTimeoutExpiry n s) := by
  delta execPpsTimeoutExpiry
  refine ⟨_, rfl, ?_⟩
  repeat' first
    | with_reducible assumption | (intro _) | (with_reducible first | apply sound_keepAliveExpiry)

theorem sound_execPsSourceOffExpiry (u : Up) (s : State) (hk : Sound s) : Keeps s (execPsSourceOffExpiry u s) := by
  delta execPsSourceOffExpiry
  refine ⟨_, rfl, ?_⟩
  repeat' first
    | with_reducible assumption | (intro _) | (with_reducible first | apply sound_hardOnExpiry)

theorem sound_execPsSourceOnExpiry (u : Up) (s : State) (hk : Sound s) : Keeps s (execPsSourceOnExpiry u s) := by
  delta execPsSourceOnExpiry
  refine ⟨_, rfl, ?_⟩
  repeat' first
    | with_reducible assumption | (intro _) | (with_reducible first | apply sound_hardOnExpiry)

theorem sound_execSwapSourceStartExpiry (u : Up) (s : State) (hk : Sound s) : Keeps s (execSwapSourceStartExpiry u s) := by
  delta execSwapSourceStartExpiry
  refine ⟨_, rfl, ?_⟩
  repeat' first
    | with_reducible assumption | (intro _) | (with_reducible first | apply sound_swapSourceStartExpiry)

theorem sound_execFrsSignalEnd (u : Up) (s : State) (hk : Sound s) : Keeps s (execFrsSignalEnd u s) := by
  delta execFrsSignalEnd
  refine ⟨_, rfl, ?_⟩
  repeat' first
    | with_reducible assumption | (intro _) | (with_reducible first | apply sound_frsSignalEnd)

theorem sound_execFrSwapWaitExpiry (u : Up) (s : State) (hk : Sound s) : Keeps s (execFrSwapWaitExpiry u s) := by
  delta execFrSwapWaitExpiry
  refine ⟨_, rfl, ?_⟩
  repeat' first
    | with_reducible assumption | (intro _) | (with_reducible first | apply sound_frSwapWaitExpiry)

theorem sound_execHardResetCompleteExpiry (n : Nat) (s : State) (hk : Sound s) : Keeps s (execHardResetCompleteExpiry n s) := by
  delta execHardResetCompleteExpiry
  refine ⟨_, rfl, ?_⟩
  repeat' first
    | with_reducible assumption | (intro _) | (with_reducible first | apply sound_hardResetCompleteExpiry)

theorem sound_execVbusRequest (n : Nat) (s : State) (hk : Sound s) : Keeps s (execVbusRequest n s) := by
  delta execVbusRequest
  refine ⟨_, rfl, ?_⟩
  repeat' first
    | with_reducible assumption | (intro _) | (with_reducible first | apply sound_vbusRequest)

theorem sound_execOffRequest (n : Nat) (s : State) (hk : Sound s) : Keeps s (execOffRequest n s) := by
  delta execOffRequest
  refine ⟨_, rfl, ?_⟩
  repeat' first
    | with_reducible assumption | (intro _) | (with_reducible first | apply sound_offRequest)

theorem sound_execConverterCheckPass (n : Nat) (s : State) (hk : Sound s) : Keeps s (execConverterCheckPass n s) := by
  delta execConverterCheckPass
  refine ⟨_, rfl, ?_⟩
  repeat' first
    | with_reducible assumption | (intro _) | (with_reducible first | apply sound_converterCheckPass)

theorem sound_execConverterNotReady (n : Nat) (s : State) (hk : Sound s) : Keeps s (execConverterNotReady n s) := by
  delta execConverterNotReady
  refine ⟨_, rfl, ?_⟩
  repeat' first
    | with_reducible assumption | (intro _) | (with_reducible first | apply sound_converterNotReady)

theorem sound_execConverterRetry (n : Nat) (s : State) (hk : Sound s) : Keeps s (execConverterRetry n s) := by
  delta execConverterRetry
  refine ⟨_, rfl, ?_⟩
  repeat' first
    | with_reducible assumption | (intro _) | (with_reducible first | apply sound_converterRetry)

theorem sound_execPowerGood (n : Nat) (s : State) (hk : Sound s) : Keeps s (execPowerGood n s) := by
  delta execPowerGood
  refine ⟨_, rfl, ?_⟩
  repeat' first
    | with_reducible assumption | (intro _) | (with_reducible first | apply sound_powerGood)

theorem sound_execPsRdyEop (n : Nat) (s : State) (hk : Sound s) : Keeps s (execPsRdyEop n s) := by
  delta execPsRdyEop
  refine ⟨_, rfl, ?_⟩
  repeat' first
    | with_reducible assumption | (intro _) | (with_reducible first | apply sound_psRdyEop)

theorem sound_execSlowTrip (n : Nat) (s : State) (hk : Sound s) : Keeps s (execSlowTrip n s) := by
  delta execSlowTrip
  refine ⟨_, rfl, ?_⟩
  repeat' first
    | with_reducible assumption | (intro _) | (with_reducible first | apply sound_slowTrip)

theorem sound_execFastTrip (n : Nat) (s : State) (hk : Sound s) : Keeps s (execFastTrip n s) := by
  delta execFastTrip
  refine ⟨_, rfl, ?_⟩
  repeat' first
    | with_reducible assumption | (intro _) | (with_reducible first | apply sound_trip)

theorem sound_execReverseTrip (n : Nat) (s : State) (hk : Sound s) : Keeps s (execReverseTrip n s) := by
  delta execReverseTrip
  refine ⟨_, rfl, ?_⟩
  repeat' first
    | with_reducible assumption | (intro _) | (with_reducible first | apply sound_trip)

theorem sound_execUndervoltTrip (n : Nat) (s : State) (hk : Sound s) : Keeps s (execUndervoltTrip n s) := by
  delta execUndervoltTrip
  refine ⟨_, rfl, ?_⟩
  repeat' first
    | with_reducible assumption | (intro _) | (with_reducible first | apply sound_undervoltTrip)

theorem sound_execTurnOnTimeout (n : Nat) (s : State) (hk : Sound s) : Keeps s (execTurnOnTimeout n s) := by
  delta execTurnOnTimeout
  refine ⟨_, rfl, ?_⟩
  repeat' first
    | with_reducible assumption | (intro _) | (with_reducible first | apply sound_turnOnTimeout)

theorem sound_execCoolDownEnd (n : Nat) (s : State) (hk : Sound s) : Keeps s (execCoolDownEnd n s) := by
  delta execCoolDownEnd
  refine ⟨_, rfl, ?_⟩
  repeat' first
    | with_reducible assumption | (intro _) | (with_reducible first | apply sound_coolDownEnd)

theorem sound_execTripCountReset (n : Nat) (s : State) (hk : Sound s) : Keeps s (execTripCountReset n s) := by
  delta execTripCountReset
  refine ⟨_, rfl, ?_⟩
  repeat' first
    | with_reducible assumption | (intro _) | (with_reducible first | apply sound_tripCountReset)

theorem sound_execPowerCycleOffEnd (n : Nat) (s : State) (hk : Sound s) : Keeps s (execPowerCycleOffEnd n s) := by
  delta execPowerCycleOffEnd
  refine ⟨_, rfl, ?_⟩
  repeat' first
    | with_reducible assumption | (intro _) | (with_reducible first | apply sound_powerCycleOffEnd)

theorem sound_execDischargeDone (n : Nat) (s : State) (hk : Sound s) : Keeps s (execDischargeDone n s) := by
  delta execDischargeDone
  refine ⟨_, rfl, ?_⟩
  repeat' first
    | with_reducible assumption | (intro _) | (with_reducible first | apply sound_dischargeDone)

theorem sound_execDischargeTimeout (n : Nat) (s : State) (hk : Sound s) : Keeps s (execDischargeTimeout n s) := by
  delta execDischargeTimeout
  refine ⟨_, rfl, ?_⟩
  repeat' first
    | with_reducible assumption | (intro _) | (with_reducible first | apply sound_dischargeTimeout)

theorem sound_execMeterSample (ch : Chan) (s : State) (hk : Sound s) : Keeps s (execMeterSample ch s) := by
  delta execMeterSample
  refine ⟨_, rfl, ?_⟩
  repeat' first
    | with_reducible assumption | (intro _) | (with_reducible first | apply sound_meterSample)

theorem sound_execPmbusTransactionDone (segB : Bool) (e : TxnEnd) (s : State) (hk : Sound s) : Keeps s (execPmbusTransactionDone segB e s) := by
  delta execPmbusTransactionDone
  refine ⟨_, rfl, ?_⟩
  repeat' first
    | with_reducible assumption | (intro _) | (with_reducible first | apply sound_pmbusTransactionDone)

theorem sound_execPmbusInit (n : Nat) (s : State) (hk : Sound s) : Keeps s (execPmbusInit n s) := by
  delta execPmbusInit
  refine ⟨_, rfl, ?_⟩
  repeat' first
    | with_reducible assumption | (intro _) | (with_reducible first | apply sound_pmbusInit)

theorem sound_execPmbusBusStuck (segB : Bool) (s : State) (hk : Sound s) : Keeps s (execPmbusBusStuck segB s) := by
  delta execPmbusBusStuck
  refine ⟨_, rfl, ?_⟩
  repeat' first
    | with_reducible assumption | (intro _) | (with_reducible first | apply sound_pmbusBusStuck)

theorem sound_execPmbusClockStretchTimeout (segB : Bool) (s : State) (hk : Sound s) : Keeps s (execPmbusClockStretchTimeout segB s) := by
  delta execPmbusClockStretchTimeout
  refine ⟨_, rfl, ?_⟩
  repeat' first
    | with_reducible assumption | (intro _) | (with_reducible first | apply sound_txnFail)

theorem sound_execPmbusPoll (segB : Bool) (s : State) (hk : Sound s) : Keeps s (execPmbusPoll segB s) := by
  delta execPmbusPoll
  refine ⟨_, rfl, ?_⟩
  repeat' first
    | with_reducible assumption | (intro _) | (with_reducible first | apply sound_pmbusPoll)

theorem sound_execPmbusAlert (segB : Bool) (s : State) (hk : Sound s) : Keeps s (execPmbusAlert segB s) := by
  delta execPmbusAlert
  refine ⟨_, rfl, ?_⟩
  repeat' first
    | with_reducible assumption | (intro _) | (with_reducible first | apply sound_pmbusAlert)

theorem sound_execSinkPathIdealDiode (u : Up) (reverse : Bool) (s : State) (hk : Sound s) : Keeps s (execSinkPathIdealDiode u reverse s) := by
  delta execSinkPathIdealDiode
  refine ⟨_, rfl, ?_⟩
  repeat' first
    | with_reducible assumption | (intro _) | (with_reducible first | apply sound_sinkPathIdealDiode)

theorem sound_execFeedAbsent (feedB : Bool) (s : State) (hk : Sound s) : Keeps s (execFeedAbsent feedB s) := by
  delta execFeedAbsent
  refine ⟨_, rfl, ?_⟩
  repeat' first
    | with_reducible assumption | (intro _) | (with_reducible first | apply sound_feedAbsent)

theorem sound_execFeedQualifyStart (feedB : Bool) (s : State) (hk : Sound s) : Keeps s (execFeedQualifyStart feedB s) := by
  delta execFeedQualifyStart
  refine ⟨_, rfl, ?_⟩
  repeat' first
    | with_reducible assumption | (intro _) | (with_reducible first | apply sound_feedQualifyStart)

theorem sound_execFeedQualified (feedB : Bool) (s : State) (hk : Sound s) : Keeps s (execFeedQualified feedB s) := by
  delta execFeedQualified
  refine ⟨_, rfl, ?_⟩
  repeat' first
    | with_reducible assumption | (intro _) | (with_reducible first | apply sound_feedQualified)

theorem sound_execFeedWarning (feedB : Bool) (s : State) (hk : Sound s) : Keeps s (execFeedWarning feedB s) := by
  delta execFeedWarning
  refine ⟨_, rfl, ?_⟩
  repeat' first
    | with_reducible assumption | (intro _) | (with_reducible first | apply sound_feedWarning)

theorem sound_execFeedWarningClear (feedB : Bool) (s : State) (hk : Sound s) : Keeps s (execFeedWarningClear feedB s) := by
  delta execFeedWarningClear
  refine ⟨_, rfl, ?_⟩
  repeat' first
    | with_reducible assumption | (intro _) | (with_reducible first | apply sound_feedWarningClear)

theorem sound_execFeedOvervolt (feedB : Bool) (s : State) (hk : Sound s) : Keeps s (execFeedOvervolt feedB s) := by
  delta execFeedOvervolt
  refine ⟨_, rfl, ?_⟩
  repeat' first
    | with_reducible assumption | (intro _) | (with_reducible first | apply sound_feedOvervolt)

theorem sound_execFeedOvReturn (feedB : Bool) (s : State) (hk : Sound s) : Keeps s (execFeedOvReturn feedB s) := by
  delta execFeedOvReturn
  refine ⟨_, rfl, ?_⟩
  repeat' first
    | with_reducible assumption | (intro _) | (with_reducible first | apply sound_feedOvReturn)

theorem sound_execFeedReverseOff (feedB : Bool) (s : State) (hk : Sound s) : Keeps s (execFeedReverseOff feedB s) := by
  delta execFeedReverseOff
  refine ⟨_, rfl, ?_⟩
  repeat' first
    | with_reducible assumption | (intro _) | (with_reducible first | apply sound_feedReverseOff)

theorem sound_execFeedForwardReenable (feedB : Bool) (s : State) (hk : Sound s) : Keeps s (execFeedForwardReenable feedB s) := by
  delta execFeedForwardReenable
  refine ⟨_, rfl, ?_⟩
  repeat' first
    | with_reducible assumption | (intro _) | (with_reducible first | apply sound_feedForwardReenable)

theorem sound_execFeedOvercurrent (feedB : Bool) (s : State) (hk : Sound s) : Keeps s (execFeedOvercurrent feedB s) := by
  delta execFeedOvercurrent
  refine ⟨_, rfl, ?_⟩
  repeat' first
    | with_reducible assumption | (intro _) | (with_reducible first | apply sound_feedOvercurrent)

theorem sound_execFeedOvercurrentShedStep (feedB : Bool) (s : State) (hk : Sound s) : Keeps s (execFeedOvercurrentShedStep feedB s) := by
  delta execFeedOvercurrentShedStep
  refine ⟨_, rfl, ?_⟩
  repeat' first
    | with_reducible assumption | (intro _) | (with_reducible first | apply sound_feedOvercurrentShedStep)

theorem sound_execFeedOvercurrentCleared (feedB : Bool) (s : State) (hk : Sound s) : Keeps s (execFeedOvercurrentCleared feedB s) := by
  delta execFeedOvercurrentCleared
  refine ⟨_, rfl, ?_⟩
  repeat' first
    | with_reducible assumption | (intro _) | (with_reducible first | apply sound_feedOvercurrentCleared)

theorem sound_execRestoreClassStep (why : ShedWhy) (s : State) (hk : Sound s) : Keeps s (execRestoreClassStep why s) := by
  delta execRestoreClassStep
  refine ⟨_, rfl, ?_⟩
  repeat' first
    | with_reducible assumption | (intro _) | (with_reducible first | apply sound_restoreClassStep)

theorem sound_execAllocRecompute (s : State) (hk : Sound s) : Keeps s (execAllocRecompute s) := by
  delta execAllocRecompute
  refine ⟨_, rfl, ?_⟩
  repeat' first
    | with_reducible assumption | (intro _) | (with_reducible first | apply sound_allocRecompute)

theorem sound_execShedPlanRefresh (s : State) (hk : Sound s) : Keeps s (execShedPlanRefresh s) := by
  delta execShedPlanRefresh
  refine ⟨_, rfl, ?_⟩
  repeat' first
    | with_reducible assumption | (intro _) | (with_reducible first | apply sound_shedPlanRefresh)

theorem sound_execPendingIncreaseRelease (s : State) (hk : Sound s) : Keeps s (execPendingIncreaseRelease s) := by
  delta execPendingIncreaseRelease
  refine ⟨_, rfl, ?_⟩
  repeat' first
    | with_reducible assumption | (intro _) | (with_reducible first | apply sound_releaseAll)

theorem sound_execCommittedOverBudget (s : State) (hk : Sound s) : Keeps s (execCommittedOverBudget s) := by
  delta execCommittedOverBudget
  refine ⟨_, rfl, ?_⟩
  repeat' first
    | with_reducible assumption | (intro _) | (with_reducible first | apply sound_committedOverBudget)

theorem sound_execGetPortStatus (u : Up) (fn : Fn) (n : Nat) (s : State) (hk : Sound s) : Keeps s (execGetPortStatus u fn n s) := by
  delta execGetPortStatus
  refine ⟨_, rfl, ?_⟩
  repeat' first
    | with_reducible assumption | (intro _) | (with_reducible first | apply sound_getPortStatus)

theorem sound_execSetPortFeaturePortReset (u : Up) (fn : Fn) (n : Nat) (s : State) (hk : Sound s) : Keeps s (execSetPortFeaturePortReset u fn n s) := by
  delta execSetPortFeaturePortReset
  refine ⟨_, rfl, ?_⟩
  repeat' first
    | with_reducible assumption | (intro _) | (with_reducible first | apply sound_setPortReset)

theorem sound_execSetPortFeaturePortSuspend (u : Up) (n : Nat) (s : State) (hk : Sound s) : Keeps s (execSetPortFeaturePortSuspend u n s) := by
  delta execSetPortFeaturePortSuspend
  refine ⟨_, rfl, ?_⟩
  repeat' first
    | with_reducible assumption | (intro _) | (with_reducible first | apply sound_setPortSuspend)

theorem sound_execClearPortFeaturePortSuspend (u : Up) (n : Nat) (s : State) (hk : Sound s) : Keeps s (execClearPortFeaturePortSuspend u n s) := by
  delta execClearPortFeaturePortSuspend
  refine ⟨_, rfl, ?_⟩
  repeat' first
    | with_reducible assumption | (intro _) | (with_reducible first | apply sound_clearPortSuspend)

theorem sound_execClearPortFeaturePortEnable (u : Up) (n : Nat) (s : State) (hk : Sound s) : Keeps s (execClearPortFeaturePortEnable u n s) := by
  delta execClearPortFeaturePortEnable
  refine ⟨_, rfl, ?_⟩
  repeat' first
    | with_reducible assumption | (intro _) | (with_reducible first | apply sound_clearPortEnable)

theorem sound_execSetPortFeaturePortPower (u : Up) (fn : Fn) (n : Nat) (s : State) (hk : Sound s) : Keeps s (execSetPortFeaturePortPower u fn n s) := by
  delta execSetPortFeaturePortPower
  refine ⟨_, rfl, ?_⟩
  repeat' first
    | with_reducible assumption | (intro _) | (with_reducible first | apply sound_setPortPower)

theorem sound_execClearPortFeaturePortPower (u : Up) (fn : Fn) (n : Nat) (s : State) (hk : Sound s) : Keeps s (execClearPortFeaturePortPower u fn n s) := by
  delta execClearPortFeaturePortPower
  refine ⟨_, rfl, ?_⟩
  repeat' first
    | with_reducible assumption | (intro _) | (with_reducible first | apply sound_clearPortPower)

theorem sound_execSetPortFeaturePortTest (u : Up) (n : Nat) (sel : TestSel) (s : State) (hk : Sound s) : Keeps s (execSetPortFeaturePortTest u n sel s) := by
  delta execSetPortFeaturePortTest
  refine ⟨_, rfl, ?_⟩
  repeat' first
    | with_reducible assumption | (intro _) | (with_reducible first | apply sound_setPortTest)

theorem sound_execSetPortFeaturePortIndicator (u : Up) (n : Nat) (s : State) (hk : Sound s) : Keeps s (execSetPortFeaturePortIndicator u n s) := by
  delta execSetPortFeaturePortIndicator
  refine ⟨_, rfl, ?_⟩
  repeat' first
    | with_reducible assumption | (intro _) | (with_reducible first | apply sound_setPortIndicator)

theorem sound_execClearPortFeatureC (u : Up) (fn : Fn) (n : Nat) (c : Change) (s : State) (hk : Sound s) : Keeps s (execClearPortFeatureC u fn n c s) := by
  delta execClearPortFeatureC
  refine ⟨_, rfl, ?_⟩
  repeat' first
    | with_reducible assumption | (intro _) | (with_reducible first | apply sound_clearPortC)

theorem sound_execClearTtBuffer (u : Up) (n addr ep : Nat) (s : State) (hk : Sound s) : Keeps s (execClearTtBuffer u n addr ep s) := by
  delta execClearTtBuffer
  refine ⟨_, rfl, ?_⟩
  repeat' first
    | with_reducible assumption | (intro _) | (with_reducible first | apply sound_clearTtBuffer)

theorem sound_execResetTt (u : Up) (n : Nat) (s : State) (hk : Sound s) : Keeps s (execResetTt u n s) := by
  delta execResetTt
  refine ⟨_, rfl, ?_⟩
  repeat' first
    | with_reducible assumption | (intro _) | (with_reducible first | apply sound_resetTt)

theorem sound_execStopTt (u : Up) (n : Nat) (s : State) (hk : Sound s) : Keeps s (execStopTt u n s) := by
  delta execStopTt
  refine ⟨_, rfl, ?_⟩
  repeat' first
    | with_reducible assumption | (intro _) | (with_reducible first | apply sound_stopTt)

theorem sound_execGetTtState (u : Up) (n wLength : Nat) (s : State) (hk : Sound s) : Keeps s (execGetTtState u n wLength s) := by
  delta execGetTtState
  refine ⟨_, rfl, ?_⟩
  repeat' first
    | with_reducible assumption | (intro _) | (with_reducible first | apply sound_getTtState)

theorem sound_execSetPortFeaturePortLinkState (u : Up) (n : Nat) (st : Link) (s : State) (hk : Sound s) : Keeps s (execSetPortFeaturePortLinkState u n st s) := by
  delta execSetPortFeaturePortLinkState
  refine ⟨_, rfl, ?_⟩
  repeat' first
    | with_reducible assumption | (intro _) | (with_reducible first | apply sound_setLinkState)

theorem sound_execSetPortFeatureBhPortReset (u : Up) (n : Nat) (s : State) (hk : Sound s) : Keeps s (execSetPortFeatureBhPortReset u n s) := by
  delta execSetPortFeatureBhPortReset
  refine ⟨_, rfl, ?_⟩
  repeat' first
    | with_reducible assumption | (intro _) | (with_reducible first | apply sound_setBhReset)

theorem sound_execSetPortFeaturePortU1Timeout (u : Up) (n value : Nat) (s : State) (hk : Sound s) : Keeps s (execSetPortFeaturePortU1Timeout u n value s) := by
  delta execSetPortFeaturePortU1Timeout
  refine ⟨_, rfl, ?_⟩
  repeat' first
    | with_reducible assumption | (intro _) | (with_reducible first | apply sound_setU1Timeout)

theorem sound_execSetPortFeaturePortU2Timeout (u : Up) (n value : Nat) (s : State) (hk : Sound s) : Keeps s (execSetPortFeaturePortU2Timeout u n value s) := by
  delta execSetPortFeaturePortU2Timeout
  refine ⟨_, rfl, ?_⟩
  repeat' first
    | with_reducible assumption | (intro _) | (with_reducible first | apply sound_setU2Timeout)

theorem sound_execSetPortFeatureRemoteWakeMask (u : Up) (n mask : Nat) (s : State) (hk : Sound s) : Keeps s (execSetPortFeatureRemoteWakeMask u n mask s) := by
  delta execSetPortFeatureRemoteWakeMask
  refine ⟨_, rfl, ?_⟩
  repeat' first
    | with_reducible assumption | (intro _) | (with_reducible first | apply sound_setWakeMask)

theorem sound_execGetPortErrorCount (u : Up) (n : Nat) (s : State) (hk : Sound s) : Keeps s (execGetPortErrorCount u n s) := by
  delta execGetPortErrorCount
  refine ⟨_, rfl, ?_⟩
  repeat' first
    | with_reducible assumption | (intro _) | (with_reducible first | apply sound_getPortErrors)

theorem sound_execHubSetConfiguration (u : Up) (fn : Fn) (value : Nat) (s : State) (hk : Sound s) : Keeps s (execHubSetConfiguration u fn value s) := by
  delta execHubSetConfiguration
  refine ⟨_, rfl, ?_⟩
  repeat' first
    | with_reducible assumption | (intro _) | (with_reducible first | apply sound_hubSetConfiguration)

theorem sound_execHubSetInterface (u : Up) (alt : Nat) (s : State) (hk : Sound s) : Keeps s (execHubSetInterface u alt s) := by
  delta execHubSetInterface
  refine ⟨_, rfl, ?_⟩
  repeat' first
    | with_reducible assumption | (intro _) | (with_reducible first | apply sound_hubSetInterface)

theorem sound_execHubGetDescriptor (u : Up) (fn : Fn) (kind index wLength : Nat) (s : State) (hk : Sound s) : Keeps s (execHubGetDescriptor u fn kind index wLength s) := by
  delta execHubGetDescriptor
  refine ⟨_, rfl, ?_⟩
  repeat' first
    | with_reducible assumption | (intro _) | (with_reducible first | apply sound_hubGetDescriptor)

theorem sound_execHubLpmToken (u : Up) (besl : Nat) (s : State) (hk : Sound s) : Keeps s (execHubLpmToken u besl s) := by
  delta execHubLpmToken
  refine ⟨_, rfl, ?_⟩
  repeat' first
    | with_reducible assumption | (intro _) | (with_reducible first | apply sound_hubLpmToken)

theorem sound_execHubSetFeature (u : Up) (f : HubFeature) (on : Bool) (s : State) (hk : Sound s) : Keeps s (execHubSetFeature u f on s) := by
  delta execHubSetFeature
  refine ⟨_, rfl, ?_⟩
  repeat' first
    | with_reducible assumption | (intro _) | (with_reducible first | apply sound_hubSetFeature)

theorem sound_execHubSetAddress (u : Up) (fn : Fn) (addr : Nat) (s : State) (hk : Sound s) : Keeps s (execHubSetAddress u fn addr s) := by
  delta execHubSetAddress
  refine ⟨_, rfl, ?_⟩
  repeat' first
    | with_reducible assumption | (intro _) | (with_reducible first | apply sound_hubSetAddress)

theorem sound_execHsToken (u : Up) (t : HsTxn) (addr ep : Nat) (s : State) (hk : Sound s) : Keeps s (execHsToken u t addr ep s) := by
  delta execHsToken
  refine ⟨_, rfl, ?_⟩
  repeat' first
    | with_reducible assumption | (intro _) | (with_reducible first | apply sound_hsToken)

theorem sound_execAddressLearn (p addr : Nat) (s : State) (hk : Sound s) : Keeps s (execAddressLearn p addr s) := by
  delta execAddressLearn
  refine ⟨_, rfl, ?_⟩
  repeat' first
    | with_reducible assumption | (intro _) | (with_reducible first | apply sound_addressLearn)

theorem sound_execSofReceived (u : Up) (frame uframe : Nat) (s : State) (hk : Sound s) : Keeps s (execSofReceived u frame uframe s) := by
  delta execSofReceived
  refine ⟨_, rfl, ?_⟩
  repeat' first
    | with_reducible assumption | (intro _) | (with_reducible first | apply sound_sofReceived)

theorem sound_execFrameStart (u : Option Up) (s : State) (hk : Sound s) : Keeps s (execFrameStart u s) := by
  delta execFrameStart
  refine ⟨_, rfl, ?_⟩
  repeat' first
    | with_reducible assumption | (intro _) | (with_reducible first | apply sound_frameStart)

theorem sound_execSsHeaderPacket (u : Up) (down : Bool) (n : Nat) (bs : List Byte) (s : State) (hk : Sound s) : Keeps s (execSsHeaderPacket u down n bs s) := by
  delta execSsHeaderPacket
  refine ⟨_, rfl, ?_⟩
  repeat' first
    | with_reducible assumption | (intro _)
    | (with_reducible first | apply sound_ifActive | apply sound_ssHeaderPacket)

theorem sound_execScrubPass (single : Nat) (bad : List EccErr) (s : State) (hk : Sound s) : Keeps s (execScrubPass single bad s) := by
  delta execScrubPass
  refine ⟨_, rfl, ?_⟩
  repeat' first
    | with_reducible assumption | (intro _) | (with_reducible first | apply sound_scrubPass)

theorem sound_execConnect (p : Nat) (pullUpDp : Bool) (s : State) (hk : Sound s) : Keeps s (execConnect p pullUpDp s) := by
  delta execConnect
  refine ⟨_, rfl, ?_⟩
  repeat' first
    | with_reducible assumption | (intro _) | (with_reducible first | apply sound_connect)

theorem sound_execDisconnect (p : Nat) (s : State) (hk : Sound s) : Keeps s (execDisconnect p s) := by
  delta execDisconnect
  refine ⟨_, rfl, ?_⟩
  repeat' first
    | with_reducible assumption | (intro _) | (with_reducible first | apply sound_disconnect)

theorem sound_execDeviceChirp (p : Nat) (s : State) (hk : Sound s) : Keeps s (execDeviceChirp p s) := by
  delta execDeviceChirp
  refine ⟨_, rfl, ?_⟩
  repeat' first
    | with_reducible assumption | (intro _) | (with_reducible first | apply sound_deviceChirp)

theorem sound_execDeviceChirpEnd (p : Nat) (inTime : Bool) (s : State) (hk : Sound s) : Keeps s (execDeviceChirpEnd p inTime s) := by
  delta execDeviceChirpEnd
  refine ⟨_, rfl, ?_⟩
  repeat' first
    | with_reducible assumption | (intro _) | (with_reducible first | apply sound_deviceChirpEnd)

theorem sound_execResetEnd (p : Nat) (idle : Bool) (s : State) (hk : Sound s) : Keeps s (execResetEnd p idle s) := by
  delta execResetEnd
  refine ⟨_, rfl, ?_⟩
  repeat' first
    | with_reducible assumption | (intro _) | (with_reducible first | apply sound_idle | apply sound_resetEnd)

theorem sound_execCdpVdpSrc (p : Nat) (present : Bool) (s : State) (hk : Sound s) : Keeps s (execCdpVdpSrc p present s) := by
  delta execCdpVdpSrc
  refine ⟨_, rfl, ?_⟩
  repeat' first
    | with_reducible assumption | (intro _) | (with_reducible first | apply sound_present | apply sound_cdpVdpSrc)

theorem sound_execUpstreamSuspend (u : Up) (s : State) (hk : Sound s) : Keeps s (execUpstreamSuspend u s) := by
  delta execUpstreamSuspend
  refine ⟨_, rfl, ?_⟩
  repeat' first
    | with_reducible assumption | (intro _) | (with_reducible first | apply sound_upstreamSuspend)

theorem sound_execDeviceLpmAck (p besl : Nat) (s : State) (hk : Sound s) : Keeps s (execDeviceLpmAck p besl s) := by
  delta execDeviceLpmAck
  refine ⟨_, rfl, ?_⟩
  repeat' first
    | with_reducible assumption | (intro _) | (with_reducible first | apply sound_deviceLpmAck)

theorem sound_execProxyLpmToken (u : Up) (n besl : Nat) (device : Hs) (s : State) (hk : Sound s) : Keeps s (execProxyLpmToken u n besl device s) := by
  delta execProxyLpmToken
  refine ⟨_, rfl, ?_⟩
  repeat' first
    | with_reducible assumption | (intro _) | (with_reducible first | apply sound_proxyLpmToken)

theorem sound_execDeviceWake (p : Nat) (s : State) (hk : Sound s) : Keeps s (execDeviceWake p s) := by
  delta execDeviceWake
  refine ⟨_, rfl, ?_⟩
  repeat' first
    | with_reducible assumption | (intro _) | (with_reducible first | apply sound_deviceWake)

theorem sound_execHostK (u : Up) (s : State) (hk : Sound s) : Keeps s (execHostK u s) := by
  delta execHostK
  refine ⟨_, rfl, ?_⟩
  repeat' first
    | with_reducible assumption | (intro _) | (with_reducible first | apply sound_hostK)

theorem sound_execUpstreamWakeDriveEnd (u : Up) (lineK : Bool) (s : State) (hk : Sound s) : Keeps s (execUpstreamWakeDriveEnd u lineK s) := by
  delta execUpstreamWakeDriveEnd
  refine ⟨_, rfl, ?_⟩
  repeat' first
    | with_reducible assumption | (intro _) | (with_reducible first | apply sound_upstreamWakeDriveEnd)

theorem sound_execResumeKEnd (p : Nat) (s : State) (hk : Sound s) : Keeps s (execResumeKEnd p s) := by
  delta execResumeKEnd
  refine ⟨_, rfl, ?_⟩
  repeat' first
    | with_reducible assumption | (intro _) | (with_reducible first | apply sound_resumeKEnd)

theorem sound_execUpstreamResumeEop (u : Up) (s : State) (hk : Sound s) : Keeps s (execUpstreamResumeEop u s) := by
  delta execUpstreamResumeEop
  refine ⟨_, rfl, ?_⟩
  repeat' first
    | with_reducible assumption | (intro _) | (with_reducible first | apply sound_upstreamResumeEop)

theorem sound_execBabble (p : Nat) (s : State) (hk : Sound s) : Keeps s (execBabble p s) := by
  delta execBabble
  refine ⟨_, rfl, ?_⟩
  repeat' first
    | with_reducible assumption | (intro _) | (with_reducible first | apply sound_errorDisable)

theorem sound_execLossOfActivity (p : Nat) (s : State) (hk : Sound s) : Keeps s (execLossOfActivity p s) := by
  delta execLossOfActivity
  refine ⟨_, rfl, ?_⟩
  repeat' first
    | with_reducible assumption | (intro _) | (with_reducible first | apply sound_errorDisable)

theorem sound_execPortError (p : Nat) (s : State) (hk : Sound s) : Keeps s (execPortError p s) := by
  delta execPortError
  refine ⟨_, rfl, ?_⟩
  repeat' first
    | with_reducible assumption | (intro _) | (with_reducible first | apply sound_errorDisable)

theorem sound_execSuspendDrainTimeout (p : Nat) (s : State) (hk : Sound s) : Keeps s (execSuspendDrainTimeout p s) := by
  delta execSuspendDrainTimeout
  refine ⟨_, rfl, ?_⟩
  repeat' first
    | with_reducible assumption | (intro _) | (with_reducible first | apply sound_suspendDrainTimeout)

theorem sound_execMgmtResetDone (u : Up) (s : State) (hk : Sound s) : Keeps s (execMgmtResetDone u s) := by
  delta execMgmtResetDone
  refine ⟨_, rfl, ?_⟩
  repeat' first
    | with_reducible assumption | (intro _) | (with_reducible first | apply sound_mgmtResetDone)

theorem sound_execRxDetectProbe (n : Nat) (found : Bool) (s : State) (hk : Sound s) : Keeps s (execRxDetectProbe n found s) := by
  delta execRxDetectProbe
  refine ⟨_, rfl, ?_⟩
  repeat' first
    | with_reducible assumption | (intro _)
    | (with_reducible first | apply sound_ifActive | apply sound_rxDetectProbe)

theorem sound_execSsTrainingDone (t : Trained) (s : State) (hk : Sound s) : Keeps s (execSsTrainingDone t s) := by
  delta execSsTrainingDone
  refine ⟨_, rfl, ?_⟩
  repeat' first
    | with_reducible assumption | (intro _)
    | (with_reducible first | apply sound_ifActive | apply sound_ssTrainingDone)

theorem sound_execPollingTimeout (n : Nat) (lfps : Bool) (s : State) (hk : Sound s) : Keeps s (execPollingTimeout n lfps s) := by
  delta execPollingTimeout
  refine ⟨_, rfl, ?_⟩
  repeat' first
    | with_reducible assumption | (intro _)
    | (with_reducible first | apply sound_ifActive | apply sound_pollingTimeout)

theorem sound_execRecoveryTimeout (n : Nat) (s : State) (hk : Sound s) : Keeps s (execRecoveryTimeout n s) := by
  delta execRecoveryTimeout
  refine ⟨_, rfl, ?_⟩
  repeat' first
    | with_reducible assumption | (intro _)
    | (with_reducible first | apply sound_ifActive | apply sound_recoveryTimeout)

theorem sound_execSsLinkError (n : Nat) (s : State) (hk : Sound s) : Keeps s (execSsLinkError n s) := by
  delta execSsLinkError
  refine ⟨_, rfl, ?_⟩
  repeat' first
    | with_reducible assumption | (intro _) | (with_reducible first | apply sound_ifActive | apply sound_ssLinkError)

theorem sound_execLgoU1U2 (n : Nat) (lvl : Link) (s : State) (hk : Sound s) : Keeps s (execLgoU1U2 n lvl s) := by
  delta execLgoU1U2
  refine ⟨_, rfl, ?_⟩
  repeat' first
    | with_reducible assumption | (intro _) | (with_reducible first | apply sound_ifActive | apply sound_lgoU1U2)

theorem sound_execU1U2IdleTimeout (n : Nat) (u2 accepted : Bool) (s : State) (hk : Sound s) : Keeps s (execU1U2IdleTimeout n u2 accepted s) := by
  delta execU1U2IdleTimeout
  refine ⟨_, rfl, ?_⟩
  repeat' first
    | with_reducible assumption | (intro _)
    | (with_reducible first | apply sound_ifActive | apply sound_u1U2IdleTimeout)

theorem sound_execExitLfps (n : Nat) (s : State) (hk : Sound s) : Keeps s (execExitLfps n s) := by
  delta execExitLfps
  refine ⟨_, rfl, ?_⟩
  repeat' first
    | with_reducible assumption | (intro _) | (with_reducible first | apply sound_ifActive | apply sound_exitLfps)

theorem sound_execLfpsWake (p : Nat) (s : State) (hk : Sound s) : Keeps s (execLfpsWake p s) := by
  delta execLfpsWake
  refine ⟨_, rfl, ?_⟩
  repeat' first
    | with_reducible assumption | (intro _) | (with_reducible first | apply sound_ifActive | apply sound_lfpsWake)

theorem sound_execU3WakeHandshakeTimeout (p : Nat) (s : State) (hk : Sound s) : Keeps s (execU3WakeHandshakeTimeout p s) := by
  delta execU3WakeHandshakeTimeout
  refine ⟨_, rfl, ?_⟩
  repeat' first
    | with_reducible assumption | (intro _)
    | (with_reducible first | apply sound_ifActive | apply sound_u3WakeHandshakeTimeout)

theorem sound_execWarmResetDone (n : Nat) (s : State) (hk : Sound s) : Keeps s (execWarmResetDone n s) := by
  delta execWarmResetDone
  refine ⟨_, rfl, ?_⟩
  repeat' first
    | with_reducible assumption | (intro _)
    | (with_reducible first | apply sound_ifActive | apply sound_warmResetDone)

theorem sound_execFillRequestDone (p : Nat) (data : List Byte) (s : State) (hk : Sound s) : Keeps s (execFillRequestDone p data s) := by
  delta execFillRequestDone
  refine ⟨_, rfl, ?_⟩
  repeat' first
    | with_reducible assumption | (intro _) | (with_reducible first | apply sound_fillRequestDone)

theorem sound_execFillAttemptTimeout (p : Nat) (s : State) (hk : Sound s) : Keeps s (execFillAttemptTimeout p s) := by
  delta execFillAttemptTimeout
  refine ⟨_, rfl, ?_⟩
  repeat' first
    | with_reducible assumption | (intro _) | (with_reducible first | apply sound_fillAttemptTimeout)

theorem sound_execTfillExpiry (p : Nat) (s : State) (hk : Sound s) : Keeps s (execTfillExpiry p s) := by
  delta execTfillExpiry
  refine ⟨_, rfl, ?_⟩
  repeat' first
    | with_reducible assumption | (intro _) | (with_reducible first | apply sound_tfillExpiry)

theorem sound_execRefillDone (p : Nat) (s : State) (hk : Sound s) : Keeps s (execRefillDone p s) := by
  delta execRefillDone
  refine ⟨_, rfl, ?_⟩
  repeat' first
    | with_reducible assumption | (intro _) | (with_reducible first | apply sound_refillDone)

theorem sound_execProxySetAddress (u : Up) (n addr : Nat) (s : State) (hk : Sound s) : Keeps s (execProxySetAddress u n addr s) := by
  delta execProxySetAddress
  refine ⟨_, rfl, ?_⟩
  repeat' first
    | with_reducible assumption | (intro _) | (with_reducible first | apply sound_proxySetAddress)

theorem sound_execProxyGetDescriptor (u : Up) (n kind index wLength : Nat) (s : State) (hk : Sound s) : Keeps s (execProxyGetDescriptor u n kind index wLength s) := by
  delta execProxyGetDescriptor
  refine ⟨_, rfl, ?_⟩
  repeat' first
    | with_reducible assumption | (intro _) | (with_reducible first | apply sound_proxyGetDescriptor)

theorem sound_execProxySetup (u : Up) (n : Nat) (setup : List Byte) (s : State) (hk : Sound s) : Keeps s (execProxySetup u n setup s) := by
  delta execProxySetup
  refine ⟨_, rfl, ?_⟩
  repeat' first
    | with_reducible assumption | (intro _) | (with_reducible first | apply sound_proxySetup)

theorem sound_execClearFeatureEndpointHalt (u : Up) (n ep : Nat) (s : State) (hk : Sound s) : Keeps s (execClearFeatureEndpointHalt u n ep s) := by
  delta execClearFeatureEndpointHalt
  refine ⟨_, rfl, ?_⟩
  repeat' first
    | with_reducible assumption | (intro _) | (with_reducible first | apply sound_clearFeatureEndpointHalt)

theorem sound_execVirtualResetEnd (l : Loc) (s : State) (hk : Sound s) : Keeps s (execVirtualResetEnd l s) := by
  delta execVirtualResetEnd
  refine ⟨_, rfl, ?_⟩
  repeat' first
    | with_reducible assumption | (intro _) | (with_reducible first | apply sound_virtualResetEnd)

theorem sound_execResetWindowExpiry (l : Loc) (s : State) (hk : Sound s) : Keeps s (execResetWindowExpiry l s) := by
  delta execResetWindowExpiry
  refine ⟨_, rfl, ?_⟩
  repeat' first
    | with_reducible assumption | (intro _) | (with_reducible first | apply sound_resetWindowExpiry)

theorem sound_execForwardedSetConfigurationDone (l : Loc) (s : State) (hk : Sound s) : Keeps s (execForwardedSetConfigurationDone l s) := by
  delta execForwardedSetConfigurationDone
  refine ⟨_, rfl, ?_⟩
  repeat' first
    | with_reducible assumption | (intro _) | (with_reducible first | apply sound_forwardedSetConfigurationDone)

theorem sound_execForwardedSetInterfaceDone (l : Loc) (s : State) (hk : Sound s) : Keeps s (execForwardedSetInterfaceDone l s) := by
  delta execForwardedSetInterfaceDone
  refine ⟨_, rfl, ?_⟩
  repeat' first
    | with_reducible assumption | (intro _) | (with_reducible first | apply sound_forwardedSetInterfaceDone)

theorem sound_execHostOut (u : Up) (n ep : Nat) (toggle : Bool) (data : List Byte) (s : State) (hk : Sound s) : Keeps s (execHostOut u n ep toggle data s) := by
  delta execHostOut
  refine ⟨_, rfl, ?_⟩
  repeat' first
    | with_reducible assumption | (intro _) | (with_reducible first | apply sound_hostOut)

theorem sound_execHostIn (u : Up) (n ep : Nat) (acked : Bool) (s : State) (hk : Sound s) : Keeps s (execHostIn u n ep acked s) := by
  delta execHostIn
  refine ⟨_, rfl, ?_⟩
  repeat' first
    | with_reducible assumption | (intro _) | (with_reducible first | apply sound_hostIn)

theorem sound_execHostPing (u : Up) (n ep : Nat) (s : State) (hk : Sound s) : Keeps s (execHostPing u n ep s) := by
  delta execHostPing
  refine ⟨_, rfl, ?_⟩
  repeat' first
    | with_reducible assumption | (intro _) | (with_reducible first | apply sound_hostPing)

theorem sound_execDeviceInData (p ep : Nat) (data : List Byte) (s : State) (hk : Sound s) : Keeps s (execDeviceInData p ep data s) := by
  delta execDeviceInData
  refine ⟨_, rfl, ?_⟩
  repeat' first
    | with_reducible assumption | (intro _) | (with_reducible first | apply sound_deviceInData)

theorem sound_execDeviceOutAck (p : Nat) (e : EpAck) (s : State) (hk : Sound s) : Keeps s (execDeviceOutAck p e s) := by
  delta execDeviceOutAck
  refine ⟨_, rfl, ?_⟩
  repeat' first
    | with_reducible assumption | (intro _) | (with_reducible first | apply sound_deviceOutAck)

theorem sound_execDeviceStall (p ep : Nat) (s : State) (hk : Sound s) : Keeps s (execDeviceStall p ep s) := by
  delta execDeviceStall
  refine ⟨_, rfl, ?_⟩
  repeat' first
    | with_reducible assumption | (intro _) | (with_reducible first | apply sound_deviceStall)

theorem sound_execInterruptInPoll (p ep : Nat) (s : State) (hk : Sound s) : Keeps s (execInterruptInPoll p ep s) := by
  delta execInterruptInPoll
  refine ⟨_, rfl, ?_⟩
  repeat' first
    | with_reducible assumption | (intro _) | (with_reducible first | apply sound_interruptInPoll)

theorem sound_execPlanApply (s : State) (hk : Sound s) : Keeps s (execPlanApply s) := by
  delta execPlanApply
  refine ⟨_, rfl, ?_⟩
  repeat' first
    | with_reducible assumption | (intro _) | (with_reducible first | apply sound_planApply)

theorem sound_execPlanApplyTimeout (s : State) (hk : Sound s) : Keeps s (execPlanApplyTimeout s) := by
  delta execPlanApplyTimeout
  refine ⟨_, rfl, ?_⟩
  repeat' first
    | with_reducible assumption | (intro _) | (with_reducible first | apply sound_planApplyTimeout)

theorem sound_execTtSsplit (u : Up) (n addr ep : Nat) (periodic : Bool) (pid : Pid) (ls toggle : Bool) (count : Nat) (data : List Byte) (s : State) (hk : Sound s) : Keeps s (execTtSsplit u n addr ep periodic pid ls toggle count data s) := by
  delta execTtSsplit
  refine ⟨_, rfl, ?_⟩
  repeat' first
    | with_reducible assumption | (intro _) | (with_reducible first | apply sound_ttSsplit)

theorem sound_execTtCsplit (u : Up) (n addr ep : Nat) (periodic isIn : Bool) (s : State) (hk : Sound s) : Keeps s (execTtCsplit u n addr ep periodic isIn s) := by
  delta execTtCsplit
  refine ⟨_, rfl, ?_⟩
  repeat' first
    | with_reducible assumption | (intro _) | (with_reducible first | apply sound_ttCsplit)

theorem sound_execTtTransactionDone (p addr ep : Nat) (periodic isIn : Bool) (res : TtRes) (s : State) (hk : Sound s) : Keeps s (execTtTransactionDone p addr ep periodic isIn res s) := by
  delta execTtTransactionDone
  refine ⟨_, rfl, ?_⟩
  repeat' first
    | with_reducible assumption | (intro _) | (with_reducible first | apply sound_ttTransactionDone)

theorem sound_execTtResultDiscard (p addr ep : Nat) (isIn : Bool) (s : State) (hk : Sound s) : Keeps s (execTtResultDiscard p addr ep isIn s) := by
  delta execTtResultDiscard
  refine ⟨_, rfl, ?_⟩
  repeat' first
    | with_reducible assumption | (intro _) | (with_reducible first | apply sound_ttResultDiscard)

theorem sound_execDrainDone (l : Loc) (s : State) (hk : Sound s) : Keeps s (execDrainDone l s) := by
  delta execDrainDone
  refine ⟨_, rfl, ?_⟩
  repeat' first
    | with_reducible assumption | (intro _) | (with_reducible first | apply sound_drainDone)

theorem sound_execDrainTimeout (l : Loc) (s : State) (hk : Sound s) : Keeps s (execDrainTimeout l s) := by
  delta execDrainTimeout
  refine ⟨_, rfl, ?_⟩
  repeat' first
    | with_reducible assumption | (intro _) | (with_reducible first | apply sound_drainTimeout)

theorem sound_execUpstreamBusReset (u : Up) (hs : Bool) (s : State) (hk : Sound s) : Keeps s (execUpstreamBusReset u hs s) := by
  delta execUpstreamBusReset
  refine ⟨_, rfl, ?_⟩
  repeat' first
    | with_reducible assumption | (intro _) | (with_reducible first | apply sound_upstreamBusReset)

theorem sound_execUpstreamConnectionLost (u : Up) (s : State) (hk : Sound s) : Keeps s (execUpstreamConnectionLost u s) := by
  delta execUpstreamConnectionLost
  refine ⟨_, rfl, ?_⟩
  repeat' first
    | with_reducible assumption | (intro _) | (with_reducible first | apply sound_upstreamConnectionLost)

theorem sound_execLendPresented (u : Up) (v : Nat) (s : State) (hk : Sound s) : Keeps s (execLendPresented u v s) := by
  delta execLendPresented
  refine ⟨_, rfl, ?_⟩
  repeat' first
    | with_reducible assumption | (intro _) | (with_reducible first | apply sound_lendPresented)

theorem sound_execLendBorrowerTimeout (p : Nat) (s : State) (hk : Sound s) : Keeps s (execLendBorrowerTimeout p s) := by
  delta execLendBorrowerTimeout
  refine ⟨_, rfl, ?_⟩
  repeat' first
    | with_reducible assumption | (intro _) | (with_reducible first | apply sound_lendBorrowerTimeout)

theorem sound_execLendHoldExpiry (l : Loc) (s : State) (hk : Sound s) : Keeps s (execLendHoldExpiry l s) := by
  delta execLendHoldExpiry
  refine ⟨_, rfl, ?_⟩
  repeat' first
    | with_reducible assumption | (intro _) | (with_reducible first | apply sound_lendHoldExpiry)

theorem sound_execTunnelData (h : TunHdr) (data : List Byte) (s : State) (hk : Sound s) : Keeps s (execTunnelData h data s) := by
  delta execTunnelData
  refine ⟨_, rfl, ?_⟩
  repeat' first
    | with_reducible assumption | (intro _) | (with_reducible first | apply sound_onTun | apply sound_tunData)

theorem sound_execTunnelDraw (h : TunHdr) (s : State) (hk : Sound s) : Keeps s (execTunnelDraw h s) := by
  delta execTunnelDraw
  refine ⟨_, rfl, ?_⟩
  repeat' first
    | with_reducible assumption | (intro _) | (with_reducible first | apply sound_onTun | apply sound_tunDraw)

theorem sound_execTunnelAck (h : TunHdr) (s : State) (hk : Sound s) : Keeps s (execTunnelAck h s) := by
  delta execTunnelAck
  refine ⟨_, rfl, ?_⟩
  repeat' first
    | with_reducible assumption | (intro _) | (with_reducible first | apply sound_tunnelAck)

theorem sound_execTunnelCredit (h : TunHdr) (total : Nat) (s : State) (hk : Sound s) : Keeps s (execTunnelCredit h total s) := by
  delta execTunnelCredit
  refine ⟨_, rfl, ?_⟩
  repeat' first
    | with_reducible assumption | (intro _) | (with_reducible first | apply sound_onTun | apply sound_tunCredit)

theorem sound_execTunnelSetup (h : TunHdr) (setup : List Byte) (s : State) (hk : Sound s) : Keeps s (execTunnelSetup h setup s) := by
  delta execTunnelSetup
  refine ⟨_, rfl, ?_⟩
  repeat' first
    | with_reducible assumption | (intro _) | (with_reducible first | apply sound_onTun | apply sound_tunSetup)

theorem sound_execTunnelResult (h : TunHdr) (result : Nat) (s : State) (hk : Sound s) : Keeps s (execTunnelResult h result s) := by
  delta execTunnelResult
  refine ⟨_, rfl, ?_⟩
  repeat' first
    | with_reducible assumption | (intro _) | (with_reducible first | apply sound_onTun | apply sound_tunResult)

theorem sound_execTunnelReset (h : TunHdr) (s : State) (hk : Sound s) : Keeps s (execTunnelReset h s) := by
  delta execTunnelReset
  refine ⟨_, rfl, ?_⟩
  repeat' first
    | with_reducible assumption | (intro _) | (with_reducible first | apply sound_onTun | apply sound_tunReset)

theorem sound_execTunnelWake (h : TunHdr) (s : State) (hk : Sound s) : Keeps s (execTunnelWake h s) := by
  delta execTunnelWake
  refine ⟨_, rfl, ?_⟩
  repeat' first
    | with_reducible assumption | (intro _) | (with_reducible first | apply sound_onTun | apply sound_tunWake)

theorem sound_execTunnelSuspend (h : TunHdr) (s : State) (hk : Sound s) : Keeps s (execTunnelSuspend h s) := by
  delta execTunnelSuspend
  refine ⟨_, rfl, ?_⟩
  repeat' first
    | with_reducible assumption | (intro _) | (with_reducible first | apply sound_onTun | apply sound_tunSuspend)

theorem sound_execTunnelResume (h : TunHdr) (s : State) (hk : Sound s) : Keeps s (execTunnelResume h s) := by
  delta execTunnelResume
  refine ⟨_, rfl, ?_⟩
  repeat' first
    | with_reducible assumption | (intro _) | (with_reducible first | apply sound_onTun | apply sound_tunResume)

theorem sound_execTunnelOpen (h : TunHdr) (data : List Byte) (s : State) (hk : Sound s) : Keeps s (execTunnelOpen h data s) := by
  delta execTunnelOpen
  refine ⟨_, rfl, ?_⟩
  repeat' first
    | with_reducible assumption | (intro _) | (with_reducible first | apply sound_tunnelOpen)

theorem sound_execTunnelOpenDone (h : TunHdr) (s : State) (hk : Sound s) : Keeps s (execTunnelOpenDone h s) := by
  delta execTunnelOpenDone
  refine ⟨_, rfl, ?_⟩
  repeat' first
    | with_reducible assumption | (intro _) | (with_reducible first | apply sound_onTun | apply sound_tunOpenDone)

theorem sound_execTunnelClose (h : TunHdr) (s : State) (hk : Sound s) : Keeps s (execTunnelClose h s) := by
  delta execTunnelClose
  refine ⟨_, rfl, ?_⟩
  repeat' first
    | with_reducible assumption | (intro _) | (with_reducible first | apply sound_tunnelClose)

theorem sound_execTunnelResync (h : TunHdr) (last : Nat) (s : State) (hk : Sound s) : Keeps s (execTunnelResync h last s) := by
  delta execTunnelResync
  refine ⟨_, rfl, ?_⟩
  repeat' first
    | with_reducible assumption | (intro _) | (with_reducible first | apply sound_tunnelResync)

theorem sound_execTunnelDiscard (h : TunHdr) (s : State) (hk : Sound s) : Keeps s (execTunnelDiscard h s) := by
  delta execTunnelDiscard
  refine ⟨_, rfl, ?_⟩
  repeat' first
    | with_reducible assumption | (intro _) | (with_reducible first | apply sound_onTun | apply sound_tunDiscard)

theorem sound_execTunnelUnackedTimeout (l : Loc) (s : State) (hk : Sound s) : Keeps s (execTunnelUnackedTimeout l s) := by
  delta execTunnelUnackedTimeout
  refine ⟨_, rfl, ?_⟩
  repeat' first
    | with_reducible assumption | (intro _) | (with_reducible first | apply sound_tunnelUnackedTimeout)

theorem sound_execBlockLock (k : LockSeen) (s : State) (hk : Sound s) : Keeps s (execBlockLock k s) := by
  delta execBlockLock
  refine ⟨_, rfl, ?_⟩
  repeat' first
    | with_reducible assumption | (intro _) | (with_reducible first | apply sound_blockLock)

theorem sound_execTsExchangeDone (l : Nat) (ts : TsWord) (s : State) (hk : Sound s) : Keeps s (execTsExchangeDone l ts s) := by
  delta execTsExchangeDone
  refine ⟨_, rfl, ?_⟩
  repeat' first
    | with_reducible assumption | (intro _) | (with_reducible first | apply sound_tsExchangeDone)

theorem sound_execLinkCheckDone (l : Nat) (ok : Bool) (rtt : Nat) (s : State) (hk : Sound s) : Keeps s (execLinkCheckDone l ok rtt s) := by
  delta execLinkCheckDone
  refine ⟨_, rfl, ?_⟩
  repeat' first
    | with_reducible assumption | (intro _) | (with_reducible first | apply sound_linkCheckDone)

theorem sound_execLockLost (l : Nat) (w : LossSeen) (s : State) (hk : Sound s) : Keeps s (execLockLost l w s) := by
  delta execLockLost
  refine ⟨_, rfl, ?_⟩
  repeat' first
    | with_reducible assumption | (intro _) | (with_reducible first | apply sound_lockLost)

theorem sound_execRetrainWindowExpiry (l : Nat) (s : State) (hk : Sound s) : Keeps s (execRetrainWindowExpiry l s) := by
  delta execRetrainWindowExpiry
  refine ⟨_, rfl, ?_⟩
  repeat' first
    | with_reducible assumption | (intro _) | (with_reducible first | apply sound_retrainWindowExpiry)

theorem sound_execLinkWordSend (l : Nat) (s : State) (hk : Sound s) : Keeps s (execLinkWordSend l s) := by
  delta execLinkWordSend
  refine ⟨_, rfl, ?_⟩
  repeat' first
    | with_reducible assumption | (intro _) | (with_reducible first | apply sound_linkWordSend)

theorem sound_execFrameReceived (l lseq : Nat) (f : Frame) (lchkOk fcrcOk : Bool) (s : State) (hk : Sound s) : Keeps s (execFrameReceived l lseq f lchkOk fcrcOk s) := by
  delta execFrameReceived
  refine ⟨_, rfl, ?_⟩
  repeat' first
    | with_reducible assumption | (intro _) | (with_reducible first | apply sound_frameReceived)

theorem sound_execAckWord (l lseq : Nat) (s : State) (hk : Sound s) : Keeps s (execAckWord l lseq s) := by
  delta execAckWord
  refine ⟨_, rfl, ?_⟩
  repeat' first
    | with_reducible assumption | (intro _) | (with_reducible first | apply sound_ackWord)

theorem sound_execNakWord (l lseq : Nat) (s : State) (hk : Sound s) : Keeps s (execNakWord l lseq s) := by
  delta execNakWord
  refine ⟨_, rfl, ?_⟩
  repeat' first
    | with_reducible assumption | (intro _) | (with_reducible first | apply sound_nakWord)

theorem sound_execReplayWord (l lseq : Nat) (s : State) (hk : Sound s) : Keeps s (execReplayWord l lseq s) := by
  delta execReplayWord
  refine ⟨_, rfl, ?_⟩
  repeat' first
    | with_reducible assumption | (intro _) | (with_reducible first | apply sound_replayWord)

theorem sound_execAbortWord (l vc credits : Nat) (s : State) (hk : Sound s) : Keeps s (execAbortWord l vc credits s) := by
  delta execAbortWord
  refine ⟨_, rfl, ?_⟩
  repeat' first
    | with_reducible assumption | (intro _) | (with_reducible first | apply sound_abortWord)

theorem sound_execCreditWord (l vc total : Nat) (s : State) (hk : Sound s) : Keeps s (execCreditWord l vc total s) := by
  delta execCreditWord
  refine ⟨_, rfl, ?_⟩
  repeat' first
    | with_reducible assumption | (intro _) | (with_reducible first | apply sound_creditWord)

theorem sound_execRetrainWord (l : Nat) (s : State) (hk : Sound s) : Keeps s (execRetrainWord l s) := by
  delta execRetrainWord
  refine ⟨_, rfl, ?_⟩
  repeat' first
    | with_reducible assumption | (intro _) | (with_reducible first | apply sound_retrainWord)

theorem sound_execReplayTimerExpiry (l : Nat) (s : State) (hk : Sound s) : Keeps s (execReplayTimerExpiry l s) := by
  delta execReplayTimerExpiry
  refine ⟨_, rfl, ?_⟩
  repeat' first
    | with_reducible assumption | (intro _) | (with_reducible first | apply sound_replayTimerExpiry)

theorem sound_execCreditStallExpiry (l vc : Nat) (s : State) (hk : Sound s) : Keeps s (execCreditStallExpiry l vc s) := by
  delta execCreditStallExpiry
  refine ⟨_, rfl, ?_⟩
  repeat' first
    | with_reducible assumption | (intro _) | (with_reducible first | apply sound_creditStallExpiry)

theorem sound_execHello (l : Nat) (h : Hello) (s : State) (hk : Sound s) : Keeps s (execHello l h s) := by
  delta execHello
  refine ⟨_, rfl, ?_⟩
  repeat' first
    | with_reducible assumption | (intro _) | (with_reducible first | apply sound_hello)

theorem sound_execLsa (l : Nat) (a : Lsa) (s : State) (hk : Sound s) : Keeps s (execLsa l a s) := by
  delta execLsa
  refine ⟨_, rfl, ?_⟩
  repeat' first
    | with_reducible assumption | (intro _) | (with_reducible first | apply sound_lsa)

theorem sound_execLsaRefresh (s : State) (hk : Sound s) : Keeps s (execLsaRefresh s) := by
  delta execLsaRefresh
  refine ⟨_, rfl, ?_⟩
  repeat' first
    | with_reducible assumption | (intro _) | (with_reducible first | apply sound_lsaRefresh)

theorem sound_execLsaPurge (s : State) (hk : Sound s) : Keeps s (execLsaPurge s) := by
  delta execLsaPurge
  refine ⟨_, rfl, ?_⟩
  repeat' first
    | with_reducible assumption | (intro _) | (with_reducible first | apply sound_lsaPurge)

theorem sound_execLinkUsable (l : Nat) (s : State) (hk : Sound s) : Keeps s (execLinkUsable l s) := by
  delta execLinkUsable
  refine ⟨_, rfl, ?_⟩
  repeat' first
    | with_reducible assumption | (intro _) | (with_reducible first | apply sound_linkUsable)

theorem sound_execNodeIdClaimSettle (s : State) (hk : Sound s) : Keeps s (execNodeIdClaimSettle s) := by
  delta execNodeIdClaimSettle
  refine ⟨_, rfl, ?_⟩
  repeat' first
    | with_reducible assumption | (intro _) | (with_reducible first | apply sound_nodeIdClaimSettle)

theorem sound_execRouteComputeDone (s : State) (hk : Sound s) : Keeps s (execRouteComputeDone s) := by
  delta execRouteComputeDone
  refine ⟨_, rfl, ?_⟩
  repeat' first
    | with_reducible assumption | (intro _) | (with_reducible first | apply sound_routeComputeDone)

theorem sound_execSleepWord (l : Nat) (ack : Bool) (s : State) (hk : Sound s) : Keeps s (execSleepWord l ack s) := by
  delta execSleepWord
  refine ⟨_, rfl, ?_⟩
  repeat' first
    | with_reducible assumption | (intro _) | (with_reducible first | apply sound_sleepWord)

theorem sound_execWakePatternSend (l : Nat) (s : State) (hk : Sound s) : Keeps s (execWakePatternSend l s) := by
  delta execWakePatternSend
  refine ⟨_, rfl, ?_⟩
  repeat' first
    | with_reducible assumption | (intro _) | (with_reducible first | apply sound_wakePatternSend)

theorem sound_execWakeSendTimeout (l : Nat) (s : State) (hk : Sound s) : Keeps s (execWakeSendTimeout l s) := by
  delta execWakeSendTimeout
  refine ⟨_, rfl, ?_⟩
  repeat' first
    | with_reducible assumption | (intro _) | (with_reducible first | apply sound_wakeSendTimeout)

theorem sound_execWakeEnergy (l : Nat) (s : State) (hk : Sound s) : Keeps s (execWakeEnergy l s) := by
  delta execWakeEnergy
  refine ⟨_, rfl, ?_⟩
  repeat' first
    | with_reducible assumption | (intro _) | (with_reducible first | apply sound_wakeEnergy)

theorem sound_execWakeProbeTimeout (l : Nat) (s : State) (hk : Sound s) : Keeps s (execWakeProbeTimeout l s) := by
  delta execWakeProbeTimeout
  refine ⟨_, rfl, ?_⟩
  repeat' first
    | with_reducible assumption | (intro _) | (with_reducible first | apply sound_wakeProbeTimeout)

theorem sound_execJournalRecordWrite (res : LineRes) (s : State) (hk : Sound s) : Keeps s (execJournalRecordWrite res s) := by
  delta execJournalRecordWrite
  refine ⟨_, rfl, ?_⟩
  repeat' first
    | with_reducible assumption | (intro _) | (with_reducible first | apply sound_journalRecordWrite)

theorem sound_execDroppedReport (s : State) (hk : Sound s) : Keeps s (execDroppedReport s) := by
  delta execDroppedReport
  refine ⟨_, rfl, ?_⟩
  repeat' first
    | with_reducible assumption | (intro _) | (with_reducible first | apply sound_droppedReport)

theorem sound_execVddnvFall (s : State) (hk : Sound s) : Keeps s (execVddnvFall s) := by
  delta execVddnvFall
  refine ⟨_, rfl, ?_⟩
  repeat' first
    | with_reducible assumption | (intro _) | (with_reducible first | apply sound_vddnvFall)

theorem sound_execUserLineWrite (s : State) (hk : Sound s) : Keeps s (execUserLineWrite s) := by
  delta execUserLineWrite
  refine ⟨_, rfl, ?_⟩
  repeat' first
    | with_reducible assumption | (intro _) | (with_reducible first | apply sound_nextLineWrite)

theorem sound_execFfSlotZeroing (s : State) (hk : Sound s) : Keeps s (execFfSlotZeroing s) := by
  delta execFfSlotZeroing
  refine ⟨_, rfl, ?_⟩
  repeat' first
    | with_reducible assumption | (intro _) | (with_reducible first | apply sound_ffSlotZeroing)

theorem sound_execDetectorFire (src code : Nat) (data : BitVec 96) (s : State) (hk : Sound s) : Keeps s (execDetectorFire src code data s) := by
  delta execDetectorFire
  refine ⟨_, rfl, ?_⟩
  repeat' first
    | with_reducible assumption | (intro _) | (with_reducible first | apply sound_detectorFire)

theorem sound_execCaptureRelease (s : State) (hk : Sound s) : Keeps s (execCaptureRelease s) := by
  delta execCaptureRelease
  refine ⟨_, rfl, ?_⟩
  repeat' first
    | with_reducible assumption | (intro _) | (with_reducible first | apply sound_captureRelease)

theorem sound_execCoalescedStore (q : QueueId) (s : State) (hk : Sound s) : Keeps s (execCoalescedStore q s) := by
  delta execCoalescedStore
  refine ⟨_, rfl, ?_⟩
  repeat' first
    | with_reducible assumption | (intro _) | (with_reducible first | apply sound_coalescedStore)

theorem sound_execEventPipeIn (u : Up) (s : State) (hk : Sound s) : Keeps s (execEventPipeIn u s) := by
  delta execEventPipeIn
  refine ⟨_, rfl, ?_⟩
  repeat' first
    | with_reducible assumption | (intro _) | (with_reducible first | apply sound_eventPipeIn)

theorem sound_execEventPipeAck (u : Up) (s : State) (hk : Sound s) : Keeps s (execEventPipeAck u s) := by
  delta execEventPipeAck
  refine ⟨_, rfl, ?_⟩
  repeat' first
    | with_reducible assumption | (intro _) | (with_reducible first | apply sound_eventPipeAck)

theorem sound_execFabForwardSend (s : State) (hk : Sound s) : Keeps s (execFabForwardSend s) := by
  delta execFabForwardSend
  refine ⟨_, rfl, ?_⟩
  repeat' first
    | with_reducible assumption | (intro _) | (with_reducible first | apply sound_fabForwardSend)

theorem sound_execEventsFrame (src seq : Nat) (recs : List (List Byte)) (s : State) (hk : Sound s) : Keeps s (execEventsFrame src seq recs s) := by
  delta execEventsFrame
  refine ⟨_, rfl, ?_⟩
  repeat' first
    | with_reducible assumption | (intro _) | (with_reducible first | apply sound_eventsFrame)

theorem sound_execMergeHoldExpiry (s : State) (hk : Sound s) : Keeps s (execMergeHoldExpiry s) := by
  delta execMergeHoldExpiry
  refine ⟨_, rfl, ?_⟩
  repeat' first
    | with_reducible assumption | (intro _) | (with_reducible first | apply sound_mergeHoldExpiry)

end Sys2Proof.Machine
end

