-- ==== Sys2Proof/Laws/SoundRows2.lean ====
section
/-!
SUPPORT. Laws/SoundRows2.lean: every command keeps a state that holds together, part 2 of 2.
-/

namespace Sys2Proof.Machine

theorem sound_execJournalFrame (src seq : Nat) (recs : List (List Byte)) (s : State) (hk : Sound s) : Keeps s (execJournalFrame src seq recs s) := by
  delta execJournalFrame
  refine ⟨_, rfl, ?_⟩
  repeat' first
    | with_reducible assumption | (intro _) | (with_reducible first | apply sound_journalFrame)

theorem sound_execTimeReqSend (s : State) (hk : Sound s) : Keeps s (execTimeReqSend s) := by
  delta execTimeReqSend
  refine ⟨_, rfl, ?_⟩
  repeat' first
    | with_reducible assumption | (intro _) | (with_reducible first | apply sound_timeReqSend)

theorem sound_execTimeReq (l seq : Nat) (s : State) (hk : Sound s) : Keeps s (execTimeReq l seq s) := by
  delta execTimeReq
  refine ⟨_, rfl, ?_⟩
  repeat' first
    | with_reducible assumption | (intro _) | (with_reducible first | apply sound_timeReq)

theorem sound_execTimeResp (l seq value : Nat) (s : State) (hk : Sound s) : Keeps s (execTimeResp l seq value s) := by
  delta execTimeResp
  refine ⟨_, rfl, ?_⟩
  repeat' first
    | with_reducible assumption | (intro _) | (with_reducible first | apply sound_timeResp)

theorem sound_execTimeRxstamp (l seq value : Nat) (s : State) (hk : Sound s) : Keeps s (execTimeRxstamp l seq value s) := by
  delta execTimeRxstamp
  refine ⟨_, rfl, ?_⟩
  repeat' first
    | with_reducible assumption | (intro _) | (with_reducible first | apply sound_timeRxstamp)

theorem sound_execTimeHigh (l seq value : Nat) (s : State) (hk : Sound s) : Keeps s (execTimeHigh l seq value s) := by
  delta execTimeHigh
  refine ⟨_, rfl, ?_⟩
  repeat' first
    | with_reducible assumption | (intro _) | (with_reducible first | apply sound_timeHigh)

theorem sound_execTimeStatusWord (l seq root stratum flags : Nat) (s : State) (hk : Sound s) : Keeps s (execTimeStatusWord l seq root stratum flags s) := by
  delta execTimeStatusWord
  refine ⟨_, rfl, ?_⟩
  repeat' first
    | with_reducible assumption | (intro _) | (with_reducible first | apply sound_timeStatusWord)

theorem sound_execHoldoverTimeout (s : State) (hk : Sound s) : Keeps s (execHoldoverTimeout s) := by
  delta execHoldoverTimeout
  refine ⟨_, rfl, ?_⟩
  repeat' first
    | with_reducible assumption | (intro _) | (with_reducible first | apply sound_holdoverTimeout)

theorem sound_execHoldoverLimit (s : State) (hk : Sound s) : Keeps s (execHoldoverLimit s) := by
  delta execHoldoverLimit
  refine ⟨_, rfl, ?_⟩
  repeat' first
    | with_reducible assumption | (intro _) | (with_reducible first | apply sound_holdoverLimit)

theorem sound_execPulseMissing (s : State) (hk : Sound s) : Keeps s (execPulseMissing s) := by
  delta execPulseMissing
  refine ⟨_, rfl, ?_⟩
  repeat' first
    | with_reducible assumption | (intro _) | (with_reducible first | apply sound_pulseMissing)

theorem sound_execTsyncOutRise (s : State) (hk : Sound s) : Keeps s (execTsyncOutRise s) := by
  delta execTsyncOutRise
  refine ⟨_, rfl, ?_⟩
  repeat' first
    | with_reducible assumption | (intro _) | (with_reducible first | apply sound_tsyncOutRise)

theorem sound_execTsyncOutFall (s : State) (hk : Sound s) : Keeps s (execTsyncOutFall s) := by
  delta execTsyncOutFall
  refine ⟨_, rfl, ?_⟩
  repeat' first
    | with_reducible assumption | (intro _) | (with_reducible first | apply sound_tsyncOutFall)

theorem sound_execJournalScan (s : State) (hk : Sound s) : Keeps s (execJournalScan s) := by
  delta execJournalScan
  refine ⟨_, rfl, ?_⟩
  repeat' first
    | with_reducible assumption | (intro _) | (with_reducible first | apply sound_journalScan)

theorem sound_execDozeEnter (s : State) (hk : Sound s) : Keeps s (execDozeEnter s) := by
  delta execDozeEnter
  refine ⟨_, rfl, ?_⟩
  repeat' first
    | with_reducible assumption | (intro _) | (with_reducible first | apply sound_dozeEnter)

theorem sound_execDozeWake (failed : List Nat) (s : State) (hk : Sound s) : Keeps s (execDozeWake failed s) := by
  delta execDozeWake
  refine ⟨_, rfl, ?_⟩
  repeat' first
    | with_reducible assumption | (intro _) | (with_reducible first | apply sound_dozeWake)

theorem sound_execHibernateEnter (s : State) (hk : Sound s) : Keeps s (execHibernateEnter s) := by
  delta execHibernateEnter
  refine ⟨_, rfl, ?_⟩
  repeat' first
    | with_reducible assumption | (intro _) | (with_reducible first | apply sound_hibernateEnter)

theorem sound_execHibernateWake (src : HibWake) (s : State) (hk : Sound s) : Keeps s (execHibernateWake src s) := by
  delta execHibernateWake
  refine ⟨_, rfl, ?_⟩
  repeat' first
    | with_reducible assumption | (intro _) | (with_reducible first | apply sound_hibernateWake)

theorem sound_execWakeRailsValid (failed : List Nat) (s : State) (hk : Sound s) : Keeps s (execWakeRailsValid failed s) := by
  delta execWakeRailsValid
  refine ⟨_, rfl, ?_⟩
  repeat' first
    | with_reducible assumption | (intro _) | (with_reducible first | apply sound_wakeRailsValid)

theorem sound_execWakeRailFail (rail : Nat) (s : State) (hk : Sound s) : Keeps s (execWakeRailFail rail s) := by
  delta execWakeRailFail
  refine ⟨_, rfl, ?_⟩
  repeat' first
    | with_reducible assumption | (intro _) | (with_reducible first | apply sound_wakeRailFail)

theorem sound_execRegenRetry (s : State) (hk : Sound s) : Keeps s (execRegenRetry s) := by
  delta execRegenRetry
  refine ⟨_, rfl, ?_⟩
  repeat' first
    | with_reducible assumption | (intro _) | (with_reducible first | apply sound_regenRetry)

theorem sound_execBankRestoreFromPartner (bank : Nat) (ok : Bool) (s : State) (hk : Sound s) : Keeps s (execBankRestoreFromPartner bank ok s) := by
  delta execBankRestoreFromPartner
  refine ⟨_, rfl, ?_⟩
  repeat' first
    | with_reducible assumption | (intro _) | (with_reducible first | apply sound_bankRestoreFromPartner)

theorem sound_execBankRestoreTimeout (s : State) (hk : Sound s) : Keeps s (execBankRestoreTimeout s) := by
  delta execBankRestoreTimeout
  refine ⟨_, rfl, ?_⟩
  repeat' first
    | with_reducible assumption | (intro _) | (with_reducible first | apply sound_bankRestoreTimeout)

theorem sound_execAonTimerWake (s : State) (hk : Sound s) : Keeps s (execAonTimerWake s) := by
  delta execAonTimerWake
  refine ⟨_, rfl, ?_⟩
  repeat' first
    | with_reducible assumption | (intro _) | (with_reducible first | apply sound_aonTimerWake)

theorem sound_execGpioEdge (n : Nat) (rise : Bool) (s : State) (hk : Sound s) : Keeps s (execGpioEdge n rise s) := by
  delta execGpioEdge
  refine ⟨_, rfl, ?_⟩
  repeat' first
    | with_reducible assumption | (intro _) | (with_reducible first | apply sound_gpioEdge)

theorem sound_execHibernateSmbusAccess (write : Bool) (offset : Nat) (s : State) (hk : Sound s) : Keeps s (execHibernateSmbusAccess write offset s) := by
  delta execHibernateSmbusAccess
  refine ⟨_, rfl, ?_⟩
  repeat' first
    | with_reducible assumption | (intro _) | (with_reducible first | apply sound_hibernateSmbusAccess)

theorem sound_execWakePatternSeen (l : Nat) (s : State) (hk : Sound s) : Keeps s (execWakePatternSeen l s) := by
  delta execWakePatternSeen
  refine ⟨_, rfl, ?_⟩
  repeat' first
    | with_reducible assumption | (intro _) | (with_reducible first | apply sound_wakePatternSeen)

theorem sound_execTsyncInEdge (s : State) (hk : Sound s) : Keeps s (execTsyncInEdge s) := by
  delta execTsyncInEdge
  refine ⟨_, rfl, ?_⟩
  repeat' first
    | with_reducible assumption | (intro _) | (with_reducible first | apply sound_tsyncIn)

theorem sound_execXtalFail (s : State) (hk : Sound s) : Keeps s (execXtalFail s) := by
  delta execXtalFail
  refine ⟨_, rfl, ?_⟩
  repeat' first
    | with_reducible assumption | (intro _) | (with_reducible first | apply sound_fallBackClock)

theorem sound_execXtalStop (s : State) (hk : Sound s) : Keeps s (execXtalStop s) := by
  delta execXtalStop
  refine ⟨_, rfl, ?_⟩
  repeat' first
    | with_reducible assumption | (intro _) | (with_reducible first | apply sound_fallBackClock)

theorem sound_execXtalRestart (runs : Bool) (s : State) (hk : Sound s) : Keeps s (execXtalRestart runs s) := by
  delta execXtalRestart
  refine ⟨_, rfl, ?_⟩
  repeat' first
    | with_reducible assumption | (intro _) | (with_reducible first | apply sound_xtalRestart)

theorem sound_execFrefLost (s : State) (hk : Sound s) : Keeps s (execFrefLost s) := by
  delta execFrefLost
  refine ⟨_, rfl, ?_⟩
  repeat' first
    | with_reducible assumption | (intro _) | (with_reducible first | apply sound_frefLost)

theorem sound_execFrefRestored (s : State) (hk : Sound s) : Keeps s (execFrefRestored s) := by
  delta execFrefRestored
  refine ⟨_, rfl, ?_⟩
  repeat' first
    | with_reducible assumption | (intro _) | (with_reducible first | apply sound_frefRestored)

theorem sound_execRailOutOfWindow (rail : Nat) (high : Bool) (mv : Nat) (s : State) (hk : Sound s) : Keeps s (execRailOutOfWindow rail high mv s) := by
  delta execRailOutOfWindow
  refine ⟨_, rfl, ?_⟩
  repeat' first
    | with_reducible assumption | (intro _) | (with_reducible first | apply sound_railOutOfWindow)

theorem sound_execRailReturned (rail mv : Nat) (s : State) (hk : Sound s) : Keeps s (execRailReturned rail mv s) := by
  delta execRailReturned
  refine ⟨_, rfl, ?_⟩
  repeat' first
    | with_reducible assumption | (intro _) | (with_reducible first | apply sound_railReturned)

theorem sound_execVaonLoss (s : State) (hk : Sound s) : Keeps s (execVaonLoss s) := by
  delta execVaonLoss
  refine ⟨_, rfl, ?_⟩
  repeat' first
    | with_reducible assumption | (intro _) | (with_reducible first | apply sound_vaonLoss)

theorem sound_execResetNLow (s : State) (hk : Sound s) : Keeps s (execResetNLow s) := by
  delta execResetNLow
  refine ⟨_, rfl, ?_⟩
  repeat' first
    | with_reducible assumption | (intro _) | (with_reducible first | apply sound_resetNLow)

theorem sound_execResetNRelease (straps : Nat) (railsOk : Bool) (s : State) (hk : Sound s) : Keeps s (execResetNRelease straps railsOk s) := by
  delta execResetNRelease
  refine ⟨_, rfl, ?_⟩
  repeat' first
    | with_reducible assumption | (intro _) | (with_reducible first | apply sound_resetNRelease)

theorem sound_execPowerUp (straps : Nat) (resetHigh : Bool) (s : State) (hk : Sound s) : Keeps s (execPowerUp straps resetHigh s) := by
  delta execPowerUp
  refine ⟨_, rfl, ?_⟩
  repeat' first
    | with_reducible assumption | (intro _) | (with_reducible first | apply sound_powerUp)

theorem sound_execChipResetDelayExpiry (s : State) (hk : Sound s) : Keeps s (execChipResetDelayExpiry s) := by
  delta execChipResetDelayExpiry
  refine ⟨_, rfl, ?_⟩
  repeat' first
    | with_reducible assumption | (intro _) | (with_reducible first | apply sound_chipResetDelayExpiry)

theorem sound_execFirmwareDone (s : State) (hk : Sound s) : Keeps s (execFirmwareDone s) := by
  delta execFirmwareDone
  refine ⟨_, rfl, ?_⟩
  repeat' first
    | with_reducible assumption | (intro _) | (with_reducible first | apply sound_firmwareDone)

theorem sound_execFirmwareWatchdog (s : State) (hk : Sound s) : Keeps s (execFirmwareWatchdog s) := by
  delta execFirmwareWatchdog
  refine ⟨_, rfl, ?_⟩
  repeat' first
    | with_reducible assumption | (intro _) | (with_reducible first | apply sound_firmwareWatchdog)

theorem sound_execWatchdogRestart (s : State) (hk : Sound s) : Keeps s (execWatchdogRestart s) := by
  delta execWatchdogRestart
  refine ⟨_, rfl, ?_⟩
  repeat' first
    | with_reducible assumption | (intro _) | (with_reducible first | apply sound_watchdogRestart)

theorem sound_execDeadFeedStart (u : Up) (s : State) (hk : Sound s) : Keeps s (execDeadFeedStart u s) := by
  delta execDeadFeedStart
  refine ⟨_, rfl, ?_⟩
  repeat' first
    | with_reducible assumption | (intro _) | (with_reducible first | apply sound_deadFeedStart)

theorem sound_execDeadFeedRegen (u : Up) (s : State) (hk : Sound s) : Keeps s (execDeadFeedRegen u s) := by
  delta execDeadFeedRegen
  refine ⟨_, rfl, ?_⟩
  repeat' first
    | with_reducible assumption | (intro _) | (with_reducible first | apply sound_deadFeedRegen)

theorem sound_execDeadFeedStop (s : State) (hk : Sound s) : Keeps s (execDeadFeedStop s) := by
  delta execDeadFeedStop
  refine ⟨_, rfl, ?_⟩
  repeat' first
    | with_reducible assumption | (intro _) | (with_reducible first | apply sound_deadFeedStop)

theorem sound_execThermalWarning (enter : Bool) (temp : Int) (s : State) (hk : Sound s) : Keeps s (execThermalWarning enter temp s) := by
  delta execThermalWarning
  refine ⟨_, rfl, ?_⟩
  repeat' first
    | with_reducible assumption | (intro _) | (with_reducible first | apply sound_thermalWarning)

theorem sound_execThermalShutdown (temp : Int) (s : State) (hk : Sound s) : Keeps s (execThermalShutdown temp s) := by
  delta execThermalShutdown
  refine ⟨_, rfl, ?_⟩
  repeat' first
    | with_reducible assumption | (intro _) | (with_reducible first | apply sound_thermalShutdown)

theorem sound_execThermalRecovery (temp : Int) (s : State) (hk : Sound s) : Keeps s (execThermalRecovery temp s) := by
  delta execThermalRecovery
  refine ⟨_, rfl, ?_⟩
  repeat' first
    | with_reducible assumption | (intro _) | (with_reducible first | apply sound_thermalRecovery)

theorem sound_execProxyL1Idle (p : Nat) (device : Hs) (s : State) (hk : Sound s) : Keeps s (execProxyL1Idle p device s) := by
  delta execProxyL1Idle
  refine ⟨_, rfl, ?_⟩
  repeat' first
    | with_reducible assumption | (intro _) | (with_reducible first | apply sound_proxyL1Idle)

theorem sound_execUpU1U2Idle (u : Up) (u2 accepted : Bool) (s : State) (hk : Sound s) : Keeps s (execUpU1U2Idle u u2 accepted s) := by
  delta execUpU1U2Idle
  refine ⟨_, rfl, ?_⟩
  repeat' first
    | with_reducible assumption | (intro _) | (with_reducible first | apply sound_upU1U2Idle)

theorem sound_execHbEdge (s : State) (hk : Sound s) : Keeps s (execHbEdge s) := by
  delta execHbEdge
  refine ⟨_, rfl, ?_⟩
  repeat' first
    | with_reducible assumption | (intro _) | (with_reducible first | apply sound_hbEdge)

theorem sound_execHbOutWatchdog (s : State) (hk : Sound s) : Keeps s (execHbOutWatchdog s) := by
  delta execHbOutWatchdog
  refine ⟨_, rfl, ?_⟩
  repeat' first
    | with_reducible assumption | (intro _) | (with_reducible first | apply sound_hbOutWatchdog)

theorem sound_execPartnerLost (live : Bool) (s : State) (hk : Sound s) : Keeps s (execPartnerLost live s) := by
  delta execPartnerLost
  refine ⟨_, rfl, ?_⟩
  repeat' first
    | with_reducible assumption | (intro _) | (with_reducible first | apply sound_partnerLost)

theorem sound_execLiveWord (st seq : Nat) (s : State) (hk : Sound s) : Keeps s (execLiveWord st seq s) := by
  delta execLiveWord
  refine ⟨_, rfl, ?_⟩
  repeat' first
    | with_reducible assumption | (intro _) | (with_reducible first | apply sound_liveWord)

theorem sound_execClaimResample (s : State) (hk : Sound s) : Keeps s (execClaimResample s) := by
  delta execClaimResample
  refine ⟨_, rfl, ?_⟩
  repeat' first
    | with_reducible assumption | (intro _) | (with_reducible first | apply sound_claimResample)

theorem sound_execClaimWon (s : State) (hk : Sound s) : Keeps s (execClaimWon s) := by
  delta execClaimWon
  refine ⟨_, rfl, ?_⟩
  repeat' first
    | with_reducible assumption | (intro _) | (with_reducible first | apply sound_claimWon)

theorem sound_execDeferralEnd (s : State) (hk : Sound s) : Keeps s (execDeferralEnd s) := by
  delta execDeferralEnd
  refine ⟨_, rfl, ?_⟩
  repeat' first
    | with_reducible assumption | (intro _) | (with_reducible first | apply sound_deferralEnd)

theorem sound_execPartnerResetPulseEnd (s : State) (hk : Sound s) : Keeps s (execPartnerResetPulseEnd s) := by
  delta execPartnerResetPulseEnd
  refine ⟨_, rfl, ?_⟩
  repeat' first
    | with_reducible assumption | (intro _) | (with_reducible first | apply sound_partnerResetPulseEnd)

theorem sound_execTakeoverPsxActive (s : State) (hk : Sound s) : Keeps s (execTakeoverPsxActive s) := by
  delta execTakeoverPsxActive
  refine ⟨_, rfl, ?_⟩
  repeat' first
    | with_reducible assumption | (intro _) | (with_reducible first | apply sound_takeoverPsxActive)

theorem sound_execPairSelfTestDone (failed : Nat) (s : State) (hk : Sound s) : Keeps s (execPairSelfTestDone failed s) := by
  delta execPairSelfTestDone
  refine ⟨_, rfl, ?_⟩
  repeat' first
    | with_reducible assumption | (intro _) | (with_reducible first | apply sound_pairSelfTestDone)

theorem sound_execBootWaitExpiry (s : State) (hk : Sound s) : Keeps s (execBootWaitExpiry s) := by
  delta execBootWaitExpiry
  refine ⟨_, rfl, ?_⟩
  repeat' first
    | with_reducible assumption | (intro _) | (with_reducible first | apply sound_bootWaitExpiry)

theorem sound_execTkoInEdge (level : Bool) (s : State) (hk : Sound s) : Keeps s (execTkoInEdge level s) := by
  delta execTkoInEdge
  refine ⟨_, rfl, ?_⟩
  repeat' first
    | with_reducible assumption | (intro _) | (with_reducible first | apply sound_tkoInEdge)

theorem sound_execFullSyncDone (s : State) (hk : Sound s) : Keeps s (execFullSyncDone s) := by
  delta execFullSyncDone
  refine ⟨_, rfl, ?_⟩
  repeat' first
    | with_reducible assumption | (intro _) | (with_reducible first | apply sound_fullSyncDone)

theorem sound_execLadleUp (s : State) (hk : Sound s) : Keeps s (execLadleUp s) := by
  delta execLadleUp
  refine ⟨_, rfl, ?_⟩
  repeat' first
    | with_reducible assumption | (intro _) | (with_reducible first | apply sound_ladleUp)

theorem sound_execLadleDown (s : State) (hk : Sound s) : Keeps s (execLadleDown s) := by
  delta execLadleDown
  refine ⟨_, rfl, ?_⟩
  repeat' first
    | with_reducible assumption | (intro _) | (with_reducible first | apply sound_ladleDown)

theorem sound_execDigestSend (s : State) (hk : Sound s) : Keeps s (execDigestSend s) := by
  delta execDigestSend
  refine ⟨_, rfl, ?_⟩
  repeat' first
    | with_reducible assumption | (intro _) | (with_reducible first | apply sound_digestSend)

theorem sound_execDigestFrame (mismatch : List Nat) (s : State) (hk : Sound s) : Keeps s (execDigestFrame mismatch s) := by
  delta execDigestFrame
  refine ⟨_, rfl, ?_⟩
  repeat' first
    | with_reducible assumption | (intro _) | (with_reducible first | apply sound_digestFrame)

theorem sound_execSlowFrame (items : List SlowItem) (s : State) (hk : Sound s) : Keeps s (execSlowFrame items s) := by
  delta execSlowFrame
  refine ⟨_, rfl, ?_⟩
  repeat' first
    | with_reducible assumption | (intro _) | (with_reducible first | apply sound_slowFrame)

theorem sound_execSyncFrame (items : List SlowItem) (s : State) (hk : Sound s) : Keeps s (execSyncFrame items s) := by
  delta execSyncFrame
  refine ⟨_, rfl, ?_⟩
  repeat' first
    | with_reducible assumption | (intro _) | (with_reducible first | apply sound_syncFrame)

theorem sound_execMirrorFrame (items : List MirrorItem) (s : State) (hk : Sound s) : Keeps s (execMirrorFrame items s) := by
  delta execMirrorFrame
  refine ⟨_, rfl, ?_⟩
  repeat' first
    | with_reducible assumption | (intro _) | (with_reducible first | apply sound_mirrorFrame)

theorem sound_execMirrorStall (s : State) (hk : Sound s) : Keeps s (execMirrorStall s) := by
  delta execMirrorStall
  refine ⟨_, rfl, ?_⟩
  repeat' first
    | with_reducible assumption | (intro _) | (with_reducible first | apply sound_mirrorStall)

theorem sound_execHandoverQuietPoint (s : State) (hk : Sound s) : Keeps s (execHandoverQuietPoint s) := by
  delta execHandoverQuietPoint
  refine ⟨_, rfl, ?_⟩
  repeat' first
    | with_reducible assumption | (intro _) | (with_reducible first | apply sound_handoverQuietPoint)

theorem sound_execHandoverWaitExpiry (s : State) (hk : Sound s) : Keeps s (execHandoverWaitExpiry s) := by
  delta execHandoverWaitExpiry
  refine ⟨_, rfl, ?_⟩
  repeat' first
    | with_reducible assumption | (intro _) | (with_reducible first | apply sound_handoverWaitExpiry)

theorem sound_execHandoverRelease (s : State) (hk : Sound s) : Keeps s (execHandoverRelease s) := by
  delta execHandoverRelease
  refine ⟨_, rfl, ?_⟩
  repeat' first
    | with_reducible assumption | (intro _) | (with_reducible first | apply sound_handoverRelease)

theorem sound_execHandoverFrame (rejoin : Bool) (s : State) (hk : Sound s) : Keeps s (execHandoverFrame rejoin s) := by
  delta execHandoverFrame
  refine ⟨_, rfl, ?_⟩
  repeat' first
    | with_reducible assumption | (intro _) | (with_reducible first | apply sound_handoverFrame)

theorem sound_execHandoverGateRelease (dur : Option Nat) (s : State) (hk : Sound s) : Keeps s (execHandoverGateRelease dur s) := by
  delta execHandoverGateRelease
  refine ⟨_, rfl, ?_⟩
  repeat' first
    | with_reducible assumption | (intro _) | (with_reducible first | apply sound_handoverGateRelease)

theorem sound_execRejoinTimerExpiry (s : State) (hk : Sound s) : Keeps s (execRejoinTimerExpiry s) := by
  delta execRejoinTimerExpiry
  refine ⟨_, rfl, ?_⟩
  repeat' first
    | with_reducible assumption | (intro _) | (with_reducible first | apply sound_rejoinTimerExpiry)

theorem sound_execHandoverRetry (s : State) (hk : Sound s) : Keeps s (execHandoverRetry s) := by
  delta execHandoverRetry
  refine ⟨_, rfl, ?_⟩
  repeat' first
    | with_reducible assumption | (intro _) | (with_reducible first | apply sound_handoverRetry)

theorem sound_execPairWakeDetectTimeout (s : State) (hk : Sound s) : Keeps s (execPairWakeDetectTimeout s) := by
  delta execPairWakeDetectTimeout
  refine ⟨_, rfl, ?_⟩
  repeat' first
    | with_reducible assumption | (intro _) | (with_reducible first | apply sound_pairWakeDetectTimeout)

theorem sound_execNop (c : Cmd) (s : State) (hk : Sound s) : Keeps s (execNop c s) := by
  delta execNop
  refine ⟨_, rfl, ?_⟩
  repeat' first
    | with_reducible assumption | (intro _) | (with_reducible first | apply sound_runCmd | apply sound_answering)

theorem sound_execIdentify (c : Cmd) (s : State) (hk : Sound s) : Keeps s (execIdentify c s) := by
  delta execIdentify
  refine ⟨_, rfl, ?_⟩
  repeat' first
    | with_reducible assumption | (intro _) | (with_reducible first | apply sound_runCmd | apply sound_identify)

theorem sound_execSysStatus (c : Cmd) (s : State) (hk : Sound s) : Keeps s (execSysStatus c s) := by
  delta execSysStatus
  refine ⟨_, rfl, ?_⟩
  repeat' first
    | with_reducible assumption | (intro _) | (with_reducible first | apply sound_runCmd | apply sound_getWhole)

theorem sound_execChipReset (c : Cmd) (s : State) (hk : Sound s) : Keeps s (execChipReset c s) := by
  delta execChipReset
  refine ⟨_, rfl, ?_⟩
  repeat' first
    | with_reducible assumption | (intro _) | (with_reducible first | apply sound_runCmd | apply sound_cmdChipReset)

theorem sound_execConfigSelect (c : Cmd) (s : State) (hk : Sound s) : Keeps s (execConfigSelect c s) := by
  delta execConfigSelect
  refine ⟨_, rfl, ?_⟩
  repeat' first
    | with_reducible assumption | (intro _) | (with_reducible first | apply sound_runCmd | apply sound_configSelect)

theorem sound_execProfileGet (c : Cmd) (s : State) (hk : Sound s) : Keeps s (execProfileGet c s) := by
  delta execProfileGet
  refine ⟨_, rfl, ?_⟩
  repeat' first
    | with_reducible assumption | (intro _) | (with_reducible first | apply sound_runCmd | apply sound_getWhole)

theorem sound_execProfileSet (c : Cmd) (s : State) (hk : Sound s) : Keeps s (execProfileSet c s) := by
  delta execProfileSet
  refine ⟨_, rfl, ?_⟩
  repeat' first
    | with_reducible assumption | (intro _) | (with_reducible first | apply sound_runCmd | apply sound_profileSet)

theorem sound_execClStatus (c : Cmd) (s : State) (hk : Sound s) : Keeps s (execClStatus c s) := by
  delta execClStatus
  refine ⟨_, rfl, ?_⟩
  repeat' first
    | with_reducible assumption | (intro _) | (with_reducible first | apply sound_runCmd | apply sound_getWhole)

theorem sound_execClPin (c : Cmd) (s : State) (hk : Sound s) : Keeps s (execClPin c s) := by
  delta execClPin
  refine ⟨_, rfl, ?_⟩
  repeat' first
    | with_reducible assumption | (intro _) | (with_reducible first | apply sound_runCmd | apply sound_clPin)

theorem sound_execFwStatus (c : Cmd) (s : State) (hk : Sound s) : Keeps s (execFwStatus c s) := by
  delta execFwStatus
  refine ⟨_, rfl, ?_⟩
  repeat' first
    | with_reducible assumption | (intro _) | (with_reducible first | apply sound_runCmd | apply sound_getWhole)

theorem sound_execFwVerify (c : Cmd) (s : State) (hk : Sound s) : Keeps s (execFwVerify c s) := by
  delta execFwVerify
  refine ⟨_, rfl, ?_⟩
  repeat' first
    | with_reducible assumption | (intro _) | (with_reducible first | apply sound_runCmd | apply sound_fwVerify)

theorem sound_execFwActivate (c : Cmd) (s : State) (hk : Sound s) : Keeps s (execFwActivate c s) := by
  delta execFwActivate
  refine ⟨_, rfl, ?_⟩
  repeat' first
    | with_reducible assumption | (intro _) | (with_reducible first | apply sound_runCmd | apply sound_fwActivate)

theorem sound_execFwRestart (c : Cmd) (s : State) (hk : Sound s) : Keeps s (execFwRestart c s) := by
  delta execFwRestart
  refine ⟨_, rfl, ?_⟩
  repeat' first
    | with_reducible assumption | (intro _) | (with_reducible first | apply sound_runCmd | apply sound_orderRestart)

theorem sound_execNonceRead (c : Cmd) (s : State) (hk : Sound s) : Keeps s (execNonceRead c s) := by
  delta execNonceRead
  refine ⟨_, rfl, ?_⟩
  repeat' first
    | with_reducible assumption | (intro _) | (with_reducible first | apply sound_runCmd | apply sound_answering)

theorem sound_execKeyWrite (c : Cmd) (s : State) (hk : Sound s) : Keeps s (execKeyWrite c s) := by
  delta execKeyWrite
  refine ⟨_, rfl, ?_⟩
  repeat' first
    | with_reducible assumption | (intro _) | (with_reducible first | apply sound_runForm | apply sound_keyWrite)

theorem sound_execKeyClear (c : Cmd) (s : State) (hk : Sound s) : Keeps s (execKeyClear c s) := by
  delta execKeyClear
  refine ⟨_, rfl, ?_⟩
  repeat' first
    | with_reducible assumption | (intro _) | (with_reducible first | apply sound_runForm | apply sound_keyWrite)

theorem sound_execKeyStatus (c : Cmd) (s : State) (hk : Sound s) : Keeps s (execKeyStatus c s) := by
  delta execKeyStatus
  refine ⟨_, rfl, ?_⟩
  repeat' first
    | with_reducible assumption | (intro _) | (with_reducible first | apply sound_runCmd | apply sound_keyStatus)

theorem sound_execSelfTest (c : Cmd) (failed : Nat) (s : State) (hk : Sound s) : Keeps s (execSelfTest c failed s) := by
  delta execSelfTest
  refine ⟨_, rfl, ?_⟩
  repeat' first
    | with_reducible assumption | (intro _) | (with_reducible first | apply sound_runCmd | apply sound_selfTest)

theorem sound_execErrorCounters (c : Cmd) (s : State) (hk : Sound s) : Keeps s (execErrorCounters c s) := by
  delta execErrorCounters
  refine ⟨_, rfl, ?_⟩
  repeat' first
    | with_reducible assumption | (intro _) | (with_reducible first | apply sound_runCmd | apply sound_errorCounters)

theorem sound_execDiagTrigger (c : Cmd) (s : State) (hk : Sound s) : Keeps s (execDiagTrigger c s) := by
  delta execDiagTrigger
  refine ⟨_, rfl, ?_⟩
  repeat' first
    | with_reducible assumption | (intro _) | (with_reducible first | apply sound_runCmd | apply sound_diagTrigger)

theorem sound_execPhyTuneGet (c : Cmd) (s : State) (hk : Sound s) : Keeps s (execPhyTuneGet c s) := by
  delta execPhyTuneGet
  refine ⟨_, rfl, ?_⟩
  repeat' first
    | with_reducible assumption | (intro _) | (with_reducible first | apply sound_runCmd | apply sound_phyTuneGet)

theorem sound_execPhyTuneSet (c : Cmd) (s : State) (hk : Sound s) : Keeps s (execPhyTuneSet c s) := by
  delta execPhyTuneSet
  refine ⟨_, rfl, ?_⟩
  repeat' first
    | with_reducible assumption | (intro _) | (with_reducible first | apply sound_runCmd | apply sound_phyTuneSet)

theorem sound_execPortStatus (c : Cmd) (s : State) (hk : Sound s) : Keeps s (execPortStatus c s) := by
  delta execPortStatus
  refine ⟨_, rfl, ?_⟩
  repeat' first
    | with_reducible assumption | (intro _) | (with_reducible first | apply sound_runCmd | apply sound_answering)

theorem sound_execPortMove (c : Cmd) (s : State) (hk : Sound s) : Keeps s (execPortMove c s) := by
  delta execPortMove
  refine ⟨_, rfl, ?_⟩
  repeat' first
    | with_reducible assumption | (intro _) | (with_reducible first | apply sound_runCmd | apply sound_portMove)

theorem sound_execPortReset (c : Cmd) (s : State) (hk : Sound s) : Keeps s (execPortReset c s) := by
  delta execPortReset
  refine ⟨_, rfl, ?_⟩
  repeat' first
    | with_reducible assumption | (intro _) | (with_reducible first | apply sound_runCmd | apply sound_portReset)

theorem sound_execPlanSet (c : Cmd) (s : State) (hk : Sound s) : Keeps s (execPlanSet c s) := by
  delta execPlanSet
  refine ⟨_, rfl, ?_⟩
  repeat' first
    | with_reducible assumption | (intro _) | (with_reducible first | apply sound_runCmd | apply sound_planSet)

theorem sound_execPlanGet (c : Cmd) (s : State) (hk : Sound s) : Keeps s (execPlanGet c s) := by
  delta execPlanGet
  refine ⟨_, rfl, ?_⟩
  repeat' first
    | with_reducible assumption | (intro _) | (with_reducible first | apply sound_runCmd | apply sound_answering)

theorem sound_execModeSet (c : Cmd) (s : State) (hk : Sound s) : Keeps s (execModeSet c s) := by
  delta execModeSet
  refine ⟨_, rfl, ?_⟩
  repeat' first
    | with_reducible assumption | (intro _) | (with_reducible first | apply sound_runCmd | apply sound_modeSet)

theorem sound_execIdmapGet (c : Cmd) (s : State) (hk : Sound s) : Keeps s (execIdmapGet c s) := by
  delta execIdmapGet
  refine ⟨_, rfl, ?_⟩
  repeat' first
    | with_reducible assumption | (intro _) | with_reducible refine Sound.ite ?_ (fun hx => ?_)
    | (with_reducible first | apply sound_runCmd | apply sound_answering)

theorem sound_execCacheRead (c : Cmd) (s : State) (hk : Sound s) : Keeps s (execCacheRead c s) := by
  delta execCacheRead
  refine ⟨_, rfl, ?_⟩
  repeat' first
    | with_reducible assumption | (intro _) | (with_reducible first | apply sound_runCmd | apply sound_answering)

theorem sound_execPortRefill (c : Cmd) (s : State) (hk : Sound s) : Keeps s (execPortRefill c s) := by
  delta execPortRefill
  refine ⟨_, rfl, ?_⟩
  repeat' first
    | with_reducible assumption | (intro _) | (with_reducible first | apply sound_runCmd | apply sound_portRefill)

theorem sound_execLend (c : Cmd) (s : State) (hk : Sound s) : Keeps s (execLend c s) := by
  delta execLend
  refine ⟨_, rfl, ?_⟩
  repeat' first
    | with_reducible assumption | (intro _) | (with_reducible first | apply sound_runCmd | apply sound_lend)

theorem sound_execLendEndRecall (c : Cmd) (s : State) (hk : Sound s) : Keeps s (execLendEndRecall c s) := by
  delta execLendEndRecall
  refine ⟨_, rfl, ?_⟩
  repeat' first
    | with_reducible assumption | (intro _) | (with_reducible first | apply sound_runForm | apply sound_lendEndRecall)

theorem sound_execLendEndRelease (c : Cmd) (s : State) (hk : Sound s) : Keeps s (execLendEndRelease c s) := by
  delta execLendEndRelease
  refine ⟨_, rfl, ?_⟩
  repeat' first
    | with_reducible assumption | (intro _)
    | (with_reducible first | apply sound_runForm | apply sound_lendEndRelease)

theorem sound_execPdStatus (c : Cmd) (s : State) (hk : Sound s) : Keeps s (execPdStatus c s) := by
  delta execPdStatus
  refine ⟨_, rfl, ?_⟩
  repeat' first
    | with_reducible assumption | (intro _) | (with_reducible first | apply sound_runCmd | apply sound_getBlock)

theorem sound_execPdCapsRead (c : Cmd) (s : State) (hk : Sound s) : Keeps s (execPdCapsRead c s) := by
  delta execPdCapsRead
  refine ⟨_, rfl, ?_⟩
  repeat' first
    | with_reducible assumption | (intro _) | (with_reducible first | apply sound_runCmd | apply sound_answering)

theorem sound_execPdSettingsGet (c : Cmd) (s : State) (hk : Sound s) : Keeps s (execPdSettingsGet c s) := by
  delta execPdSettingsGet
  refine ⟨_, rfl, ?_⟩
  repeat' first
    | with_reducible assumption | (intro _) | (with_reducible first | apply sound_runCmd | apply sound_getBlock)

theorem sound_execPdSettingsSet (c : Cmd) (s : State) (hk : Sound s) : Keeps s (execPdSettingsSet c s) := by
  delta execPdSettingsSet
  refine ⟨_, rfl, ?_⟩
  repeat' first
    | with_reducible assumption | (intro _)
    | (with_reducible first | apply sound_setPd | apply sound_runCmd | apply sound_setBlock)

theorem sound_execPdActionRenegotiate (c : Cmd) (s : State) (hk : Sound s) : Keeps s (execPdActionRenegotiate c s) := by
  delta execPdActionRenegotiate
  refine ⟨_, rfl, ?_⟩
  repeat' first
    | with_reducible assumption | (intro _) | (with_reducible first | apply sound_runAction)

theorem sound_execPdActionSoftReset (c : Cmd) (s : State) (hk : Sound s) : Keeps s (execPdActionSoftReset c s) := by
  delta execPdActionSoftReset
  refine ⟨_, rfl, ?_⟩
  repeat' first
    | with_reducible assumption | (intro _) | (with_reducible first | apply sound_runAction)

theorem sound_execPdActionHardReset (c : Cmd) (s : State) (hk : Sound s) : Keeps s (execPdActionHardReset c s) := by
  delta execPdActionHardReset
  refine ⟨_, rfl, ?_⟩
  repeat' first
    | with_reducible assumption | (intro _) | (with_reducible first | apply sound_runAction)

theorem sound_execPdActionErrorRecovery (c : Cmd) (s : State) (hk : Sound s) : Keeps s (execPdActionErrorRecovery c s) := by
  delta execPdActionErrorRecovery
  refine ⟨_, rfl, ?_⟩
  repeat' first
    | with_reducible assumption | (intro _) | (with_reducible first | apply sound_runAction)

theorem sound_execPdActionPrSwap (c : Cmd) (s : State) (hk : Sound s) : Keeps s (execPdActionPrSwap c s) := by
  delta execPdActionPrSwap
  refine ⟨_, rfl, ?_⟩
  repeat' first
    | with_reducible assumption | (intro _) | (with_reducible first | apply sound_runAction)

theorem sound_execPdActionGetSinkCap (c : Cmd) (s : State) (hk : Sound s) : Keeps s (execPdActionGetSinkCap c s) := by
  delta execPdActionGetSinkCap
  refine ⟨_, rfl, ?_⟩
  repeat' first
    | with_reducible assumption | (intro _) | (with_reducible first | apply sound_runAction)

theorem sound_execPdActionWaitingStart (n : Nat) (s : State) (hk : Sound s) : Keeps s (execPdActionWaitingStart n s) := by
  delta execPdActionWaitingStart
  refine ⟨_, rfl, ?_⟩
  repeat' first
    | with_reducible assumption | (intro _) | with_reducible refine Sound.ite ?_ (fun hx => ?_)
    | (with_reducible first | apply sound_startOwn)

theorem sound_execPpcSettingsGet (c : Cmd) (s : State) (hk : Sound s) : Keeps s (execPpcSettingsGet c s) := by
  delta execPpcSettingsGet
  refine ⟨_, rfl, ?_⟩
  repeat' first
    | with_reducible assumption | (intro _) | (with_reducible first | apply sound_runCmd | apply sound_getBlock)

theorem sound_execPpcSettingsSet (c : Cmd) (s : State) (hk : Sound s) : Keeps s (execPpcSettingsSet c s) := by
  delta execPpcSettingsSet
  refine ⟨_, rfl, ?_⟩
  repeat' first
    | with_reducible assumption | (intro _)
    | (with_reducible first | apply sound_setPpc | apply sound_runCmd | apply sound_setBlock)

theorem sound_execPortPowerCycle (c : Cmd) (s : State) (hk : Sound s) : Keeps s (execPortPowerCycle c s) := by
  delta execPortPowerCycle
  refine ⟨_, rfl, ?_⟩
  repeat' first
    | with_reducible assumption | (intro _) | (with_reducible first | apply sound_runCmd | apply sound_portPowerCycle)

theorem sound_execMeterRead (c : Cmd) (s : State) (hk : Sound s) : Keeps s (execMeterRead c s) := by
  delta execMeterRead
  refine ⟨_, rfl, ?_⟩
  repeat' first
    | with_reducible assumption | (intro _) | (with_reducible first | apply sound_runCmd | apply sound_meterRead)

theorem sound_execConverterStatus (c : Cmd) (s : State) (hk : Sound s) : Keeps s (execConverterStatus c s) := by
  delta execConverterStatus
  refine ⟨_, rfl, ?_⟩
  repeat' first
    | with_reducible assumption | (intro _) | (with_reducible first | apply sound_runCmd | apply sound_getBlock)

theorem sound_execConverterInit (c : Cmd) (s : State) (hk : Sound s) : Keeps s (execConverterInit c s) := by
  delta execConverterInit
  refine ⟨_, rfl, ?_⟩
  repeat' first
    | with_reducible assumption | (intro _) | (with_reducible first | apply sound_runCmd | apply sound_converterInit)

theorem sound_execFeedSettingsGet (c : Cmd) (s : State) (hk : Sound s) : Keeps s (execFeedSettingsGet c s) := by
  delta execFeedSettingsGet
  refine ⟨_, rfl, ?_⟩
  repeat' first
    | with_reducible assumption | (intro _) | (with_reducible first | apply sound_runCmd | apply sound_getBlock)

theorem sound_execFeedSettingsSet (c : Cmd) (s : State) (hk : Sound s) : Keeps s (execFeedSettingsSet c s) := by
  delta execFeedSettingsSet
  refine ⟨_, rfl, ?_⟩
  repeat' first
    | with_reducible assumption | (intro _)
    | (with_reducible first | apply sound_runCmd | apply sound_feedSettingsSet)

theorem sound_execPbaGlobalGet (c : Cmd) (s : State) (hk : Sound s) : Keeps s (execPbaGlobalGet c s) := by
  delta execPbaGlobalGet
  refine ⟨_, rfl, ?_⟩
  repeat' first
    | with_reducible assumption | (intro _) | (with_reducible first | apply sound_runCmd | apply sound_getWhole)

theorem sound_execPbaGlobalSet (c : Cmd) (s : State) (hk : Sound s) : Keeps s (execPbaGlobalSet c s) := by
  delta execPbaGlobalSet
  refine ⟨_, rfl, ?_⟩
  repeat' first
    | with_reducible assumption | (intro _) | (with_reducible first | apply sound_runCmd | apply sound_pbaGlobalSet)

theorem sound_execPbaPortGet (c : Cmd) (s : State) (hk : Sound s) : Keeps s (execPbaPortGet c s) := by
  delta execPbaPortGet
  refine ⟨_, rfl, ?_⟩
  repeat' first
    | with_reducible assumption | (intro _) | (with_reducible first | apply sound_runCmd | apply sound_getBlock)

theorem sound_execPbaPortSet (c : Cmd) (s : State) (hk : Sound s) : Keeps s (execPbaPortSet c s) := by
  delta execPbaPortSet
  refine ⟨_, rfl, ?_⟩
  repeat' first
    | with_reducible assumption | (intro _) | (with_reducible first | apply sound_runCmd | apply sound_pbaPortSet)

theorem sound_execBudgetStatus (c : Cmd) (s : State) (hk : Sound s) : Keeps s (execBudgetStatus c s) := by
  delta execBudgetStatus
  refine ⟨_, rfl, ?_⟩
  repeat' first
    | with_reducible assumption | (intro _) | (with_reducible first | apply sound_runCmd | apply sound_getWhole)

theorem sound_execPairStatus (c : Cmd) (s : State) (hk : Sound s) : Keeps s (execPairStatus c s) := by
  delta execPairStatus
  refine ⟨_, rfl, ?_⟩
  repeat' first
    | with_reducible assumption | (intro _) | (with_reducible first | apply sound_runCmd | apply sound_getWhole)

theorem sound_execPairSettingsGet (c : Cmd) (s : State) (hk : Sound s) : Keeps s (execPairSettingsGet c s) := by
  delta execPairSettingsGet
  refine ⟨_, rfl, ?_⟩
  repeat' first
    | with_reducible assumption | (intro _) | (with_reducible first | apply sound_runCmd | apply sound_getWhole)

theorem sound_execPairSettingsSet (c : Cmd) (s : State) (hk : Sound s) : Keeps s (execPairSettingsSet c s) := by
  delta execPairSettingsSet
  refine ⟨_, rfl, ?_⟩
  repeat' first
    | with_reducible assumption | (intro _)
    | (with_reducible first | apply sound_runCmd | apply sound_pairSettingsSet)

theorem sound_execHandover (c : Cmd) (s : State) (hk : Sound s) : Keeps s (execHandover c s) := by
  delta execHandover
  refine ⟨_, rfl, ?_⟩
  repeat' first
    | with_reducible assumption | (intro _) | (with_reducible first | apply sound_runCmd | apply sound_handover)

theorem sound_execPairRelay (c : Cmd) (s : State) (hk : Sound s) : Keeps s (execPairRelay c s) := by
  delta execPairRelay
  refine ⟨_, rfl, ?_⟩
  repeat' first
    | with_reducible assumption | (intro _) | (with_reducible first | apply sound_runCmd | apply sound_pairRelay)

theorem sound_execFabricStatus (c : Cmd) (s : State) (hk : Sound s) : Keeps s (execFabricStatus c s) := by
  delta execFabricStatus
  refine ⟨_, rfl, ?_⟩
  repeat' first
    | with_reducible assumption | (intro _) | (with_reducible first | apply sound_runCmd | apply sound_fabricStatus)

theorem sound_execFabricSettingsGet (c : Cmd) (s : State) (hk : Sound s) : Keeps s (execFabricSettingsGet c s) := by
  delta execFabricSettingsGet
  refine ⟨_, rfl, ?_⟩
  repeat' first
    | with_reducible assumption | (intro _) | (with_reducible first | apply sound_runCmd | apply sound_getWhole)

theorem sound_execFabricSettingsSet (c : Cmd) (s : State) (hk : Sound s) : Keeps s (execFabricSettingsSet c s) := by
  delta execFabricSettingsSet
  refine ⟨_, rfl, ?_⟩
  repeat' first
    | with_reducible assumption | (intro _)
    | (with_reducible first | apply sound_setFabric | apply sound_runCmd | apply sound_setWhole)

theorem sound_execNodeList (c : Cmd) (s : State) (hk : Sound s) : Keeps s (execNodeList c s) := by
  delta execNodeList
  refine ⟨_, rfl, ?_⟩
  repeat' first
    | with_reducible assumption | (intro _) | (with_reducible first | apply sound_runCmd | apply sound_nodeList)

theorem sound_execEventFetch (c : Cmd) (s : State) (hk : Sound s) : Keeps s (execEventFetch c s) := by
  delta execEventFetch
  refine ⟨_, rfl, ?_⟩
  repeat' first
    | with_reducible assumption | (intro _) | (with_reducible first | apply sound_runForm | apply sound_eventFetch)

theorem sound_execEventFetchPeek (c : Cmd) (s : State) (hk : Sound s) : Keeps s (execEventFetchPeek c s) := by
  delta execEventFetchPeek
  refine ⟨_, rfl, ?_⟩
  repeat' first
    | with_reducible assumption | (intro _) | (with_reducible first | apply sound_runForm | apply sound_answering)

theorem sound_execQueueStatus (c : Cmd) (s : State) (hk : Sound s) : Keeps s (execQueueStatus c s) := by
  delta execQueueStatus
  refine ⟨_, rfl, ?_⟩
  repeat' first
    | with_reducible assumption | (intro _) | (with_reducible first | apply sound_runCmd | apply sound_getWhole)

theorem sound_execEventRouteGet (c : Cmd) (s : State) (hk : Sound s) : Keeps s (execEventRouteGet c s) := by
  delta execEventRouteGet
  refine ⟨_, rfl, ?_⟩
  repeat' first
    | with_reducible assumption | (intro _) | (with_reducible first | apply sound_runCmd | apply sound_answering)

theorem sound_execEventRouteSet (c : Cmd) (s : State) (hk : Sound s) : Keeps s (execEventRouteSet c s) := by
  delta execEventRouteSet
  refine ⟨_, rfl, ?_⟩
  repeat' first
    | with_reducible assumption | (intro _) | (with_reducible first | apply sound_runCmd | apply sound_eventRouteSet)

theorem sound_execEventSettingsGet (c : Cmd) (s : State) (hk : Sound s) : Keeps s (execEventSettingsGet c s) := by
  delta execEventSettingsGet
  refine ⟨_, rfl, ?_⟩
  repeat' first
    | with_reducible assumption | (intro _) | (with_reducible first | apply sound_runCmd | apply sound_getWhole)

theorem sound_execEventSettingsSet (c : Cmd) (s : State) (hk : Sound s) : Keeps s (execEventSettingsSet c s) := by
  delta execEventSettingsSet
  refine ⟨_, rfl, ?_⟩
  repeat' first
    | with_reducible assumption | (intro _)
    | (with_reducible first | apply sound_setEvent | apply sound_runCmd | apply sound_setWhole)

theorem sound_execTimeStatus (c : Cmd) (s : State) (hk : Sound s) : Keeps s (execTimeStatus c s) := by
  delta execTimeStatus
  refine ⟨_, rfl, ?_⟩
  repeat' first
    | with_reducible assumption | (intro _) | (with_reducible first | apply sound_runCmd | apply sound_getWhole)

theorem sound_execTimeSettingsGet (c : Cmd) (s : State) (hk : Sound s) : Keeps s (execTimeSettingsGet c s) := by
  delta execTimeSettingsGet
  refine ⟨_, rfl, ?_⟩
  repeat' first
    | with_reducible assumption | (intro _) | (with_reducible first | apply sound_runCmd | apply sound_getWhole)

theorem sound_execTimeSettingsSet (c : Cmd) (s : State) (hk : Sound s) : Keeps s (execTimeSettingsSet c s) := by
  delta execTimeSettingsSet
  refine ⟨_, rfl, ?_⟩
  repeat' first
    | with_reducible assumption | (intro _)
    | (with_reducible first | apply sound_setTime | apply sound_runCmd | apply sound_setWhole)

theorem sound_execTimeEpoch (c : Cmd) (s : State) (hk : Sound s) : Keeps s (execTimeEpoch c s) := by
  delta execTimeEpoch
  refine ⟨_, rfl, ?_⟩
  repeat' first
    | with_reducible assumption | (intro _) | (with_reducible first | apply sound_runForm | apply sound_timeEpoch)

theorem sound_execTimeEpochAtPps (c : Cmd) (s : State) (hk : Sound s) : Keeps s (execTimeEpochAtPps c s) := by
  delta execTimeEpochAtPps
  refine ⟨_, rfl, ?_⟩
  repeat' first
    | with_reducible assumption | (intro _)
    | (with_reducible first | apply sound_runForm | apply sound_timeEpochAtPps)

theorem sound_execSofRead (c : Cmd) (s : State) (hk : Sound s) : Keeps s (execSofRead c s) := by
  delta execSofRead
  refine ⟨_, rfl, ?_⟩
  repeat' first
    | with_reducible assumption | (intro _) | (with_reducible first | apply sound_runCmd | apply sound_answering)

theorem sound_execCrockStatus (c : Cmd) (s : State) (hk : Sound s) : Keeps s (execCrockStatus c s) := by
  delta execCrockStatus
  refine ⟨_, rfl, ?_⟩
  repeat' first
    | with_reducible assumption | (intro _) | (with_reducible first | apply sound_runCmd | apply sound_getWhole)

theorem sound_execCrockRead (c : Cmd) (s : State) (hk : Sound s) : Keeps s (execCrockRead c s) := by
  delta execCrockRead
  refine ⟨_, rfl, ?_⟩
  repeat' first
    | with_reducible assumption | (intro _) | (with_reducible first | apply sound_runCmd | apply sound_answering)

theorem sound_execCrockWrite (c : Cmd) (s : State) (hk : Sound s) : Keeps s (execCrockWrite c s) := by
  delta execCrockWrite
  refine ⟨_, rfl, ?_⟩
  repeat' first
    | with_reducible assumption | (intro _) | (with_reducible first | apply sound_runCmd | apply sound_crockWriteCmd)

theorem sound_execJournalRead (c : Cmd) (s : State) (hk : Sound s) : Keeps s (execJournalRead c s) := by
  delta execJournalRead
  refine ⟨_, rfl, ?_⟩
  repeat' first
    | with_reducible assumption | (intro _) | (with_reducible first | apply sound_runCmd | apply sound_journalRead)

theorem sound_execFfClear (c : Cmd) (s : State) (hk : Sound s) : Keeps s (execFfClear c s) := by
  delta execFfClear
  refine ⟨_, rfl, ?_⟩
  repeat' first
    | with_reducible assumption | (intro _) | (with_reducible first | apply sound_runCmd | apply sound_ffClear)

theorem sound_execUserErase (c : Cmd) (s : State) (hk : Sound s) : Keeps s (execUserErase c s) := by
  delta execUserErase
  refine ⟨_, rfl, ?_⟩
  repeat' first
    | with_reducible assumption | (intro _) | (with_reducible first | apply sound_runCmd | apply sound_userErase)

theorem sound_execSieveGet (c : Cmd) (s : State) (hk : Sound s) : Keeps s (execSieveGet c s) := by
  delta execSieveGet
  refine ⟨_, rfl, ?_⟩
  repeat' first
    | with_reducible assumption | (intro _) | (with_reducible first | apply sound_runCmd | apply sound_getBlock)

theorem sound_execSieveSet (c : Cmd) (s : State) (hk : Sound s) : Keeps s (execSieveSet c s) := by
  delta execSieveSet
  refine ⟨_, rfl, ?_⟩
  repeat' first
    | with_reducible assumption | (intro _) | (with_reducible first | apply sound_runCmd | apply sound_sieveSet)

theorem sound_execSieveFeed (c : Cmd) (s : State) (hk : Sound s) : Keeps s (execSieveFeed c s) := by
  delta execSieveFeed
  refine ⟨_, rfl, ?_⟩
  repeat' first
    | with_reducible assumption | (intro _) | (with_reducible first | apply sound_runCmd | apply sound_sieveFeed)

theorem sound_execSieveFinish (c : Cmd) (s : State) (hk : Sound s) : Keeps s (execSieveFinish c s) := by
  delta execSieveFinish
  refine ⟨_, rfl, ?_⟩
  repeat' first
    | with_reducible assumption | (intro _) | (with_reducible first | apply sound_runCmd | apply sound_sieveFinish)

theorem sound_execSieveStatus (c : Cmd) (s : State) (hk : Sound s) : Keeps s (execSieveStatus c s) := by
  delta execSieveStatus
  refine ⟨_, rfl, ?_⟩
  repeat' first
    | with_reducible assumption | (intro _) | (with_reducible first | apply sound_runCmd | apply sound_getBlock)

theorem sound_execUsbCommandTransfer (u : Up) (bs : List Byte) (s : State) (hk : Sound s) : Keeps s (execUsbCommandTransfer u bs s) := by
  delta execUsbCommandTransfer
  refine ⟨_, rfl, ?_⟩
  repeat' first
    | with_reducible assumption | (intro _) | (with_reducible first | apply sound_usbCommandTransfer)

theorem sound_execResponsePipeIn (u : Up) (s : State) (hk : Sound s) : Keeps s (execResponsePipeIn u s) := by
  delta execResponsePipeIn
  refine ⟨_, rfl, ?_⟩
  repeat' first
    | with_reducible assumption | (intro _) | (with_reducible first | apply sound_responsePipeIn)

theorem sound_execFragmentAssemblyTimeout (t : Transport) (s : State) (hk : Sound s) : Keeps s (execFragmentAssemblyTimeout t s) := by
  delta execFragmentAssemblyTimeout
  refine ⟨_, rfl, ?_⟩
  repeat' first
    | with_reducible assumption | (intro _) | (with_reducible first | apply sound_abandonAsm)

theorem sound_execAuthLockoutEnd (t : Transport) (s : State) (hk : Sound s) : Keeps s (execAuthLockoutEnd t s) := by
  delta execAuthLockoutEnd
  refine ⟨_, rfl, ?_⟩
  repeat' first
    | with_reducible assumption | (intro _) | with_reducible refine Sound.ite ?_ (fun hx => ?_)
    | (with_reducible first | apply sound_State_modTr)

theorem sound_execSidebandWindowWrite (u_smbus : Bool) (offset : Nat) (bs : List Byte) (s : State) (hk : Sound s) : Keeps s (execSidebandWindowWrite u_smbus offset bs s) := by
  delta execSidebandWindowWrite
  refine ⟨_, rfl, ?_⟩
  repeat' first
    | with_reducible assumption | (intro _) | with_reducible refine Sound.ite ?_ (fun hx => ?_)
    | (with_reducible first | apply sound_windowWrite)

theorem sound_execMbiCtrlGo (smbus : Bool) (ctrl len : Nat) (message : List Byte) (s : State) (hk : Sound s) : Keeps s (execMbiCtrlGo smbus ctrl len message s) := by
  delta execMbiCtrlGo
  refine ⟨_, rfl, ?_⟩
  repeat' first
    | with_reducible assumption | (intro _) | (with_reducible first | apply sound_mbiCtrlGo)

theorem sound_execMbiCtrlSync (ctrl : Nat) (s : State) (hk : Sound s) : Keeps s (execMbiCtrlSync ctrl s) := by
  delta execMbiCtrlSync
  refine ⟨_, rfl, ?_⟩
  repeat' first
    | with_reducible assumption | (intro _) | (with_reducible first | apply sound_mbiCtrlSync)

theorem sound_execMboAck (value : Nat) (s : State) (hk : Sound s) : Keeps s (execMboAck value s) := by
  delta execMboAck
  refine ⟨_, rfl, ?_⟩
  repeat' first
    | with_reducible assumption | (intro _) | (with_reducible first | apply sound_mboAck)

theorem sound_execMboTimeout (s : State) (hk : Sound s) : Keeps s (execMboTimeout s) := by
  delta execMboTimeout
  refine ⟨_, rfl, ?_⟩
  repeat' first
    | with_reducible assumption | (intro _) | (with_reducible first | apply sound_mboTimeout)

theorem sound_execSmbusAlertResponse (s : State) (hk : Sound s) : Keeps s (execSmbusAlertResponse s) := by
  delta execSmbusAlertResponse
  refine ⟨_, rfl, ?_⟩
  repeat' first
    | with_reducible assumption | (intro _) | (with_reducible first | apply sound_smbusAlertResponse)

theorem sound_execSmbusTimeout (s : State) (hk : Sound s) : Keeps s (execSmbusTimeout s) := by
  delta execSmbusTimeout
  refine ⟨_, rfl, ?_⟩
  repeat' first
    | with_reducible assumption | (intro _) | (with_reducible first | apply sound_modMb)

theorem sound_execCommandFrame (src tag seg : Nat) (last toAll : Bool) (bs : List Byte) (s : State) (hk : Sound s) : Keeps s (execCommandFrame src tag seg last toAll bs s) := by
  delta execCommandFrame
  refine ⟨_, rfl, ?_⟩
  repeat' first
    | with_reducible assumption | (intro _) | (with_reducible first | apply sound_commandFrame)

theorem sound_execResponseFrame (src tag seg : Nat) (last : Bool) (bs : List Byte) (s : State) (hk : Sound s) : Keeps s (execResponseFrame src tag seg last bs s) := by
  delta execResponseFrame
  refine ⟨_, rfl, ?_⟩
  repeat' first
    | with_reducible assumption | (intro _) | (with_reducible first | apply sound_responseFrame)

theorem sound_execCmdWaitExpiry (tag : Nat) (s : State) (hk : Sound s) : Keeps s (execCmdWaitExpiry tag s) := by
  delta execCmdWaitExpiry
  refine ⟨_, rfl, ?_⟩
  repeat' first
    | with_reducible assumption | (intro _) | (with_reducible first | apply sound_cmdWaitExpiry)

theorem sound_execPartnerCmdFrame (seg : Nat) (last response : Bool) (outer : Nat) (bs : List Byte) (s : State) (hk : Sound s) : Keeps s (execPartnerCmdFrame seg last response outer bs s) := by
  delta execPartnerCmdFrame
  refine ⟨_, rfl, ?_⟩
  repeat' first
    | with_reducible assumption | (intro _) | (with_reducible first | apply sound_partnerCmdFrame)

theorem sound_execRelayTimeout (s : State) (hk : Sound s) : Keeps s (execRelayTimeout s) := by
  delta execRelayTimeout
  refine ⟨_, rfl, ?_⟩
  repeat' first
    | with_reducible assumption | (intro _) | (with_reducible first | apply sound_relayTimeout)

end Sys2Proof.Machine
end

