-- ==== Sys2Proof/Laws/State.lean ====
section
/-!
SUPPORT. Laws/State.lean: for every update of one part of the state, which fields it leaves (one lemma per field), and that
the part itself then reads as it was written, its neighbours as before.
-/

namespace Sys2Proof.Machine

variable (s : State)

/-! ### modUp: an upstream -/

@[simp] theorem modUp_tu (u : Up) (f : Upstream → Upstream) : (s.modUp u f).tu = s.tu := by cases u <;> rfl
@[simp] theorem modUp_ev (u : Up) (f : Upstream → Upstream) : (s.modUp u f).ev = s.ev := by cases u <;> rfl
@[simp] theorem modUp_cmd (u : Up) (f : Upstream → Upstream) : (s.modUp u f).cmd = s.cmd := by cases u <;> rfl
@[simp] theorem modUp_fab (u : Up) (f : Upstream → Upstream) : (s.modUp u f).fab = s.fab := by cases u <;> rfl
@[simp] theorem modUp_sys (u : Up) (f : Upstream → Upstream) : (s.modUp u f).sys = s.sys := by cases u <;> rfl
@[simp] theorem modUp_ports (u : Up) (f : Upstream → Upstream) : (s.modUp u f).ports = s.ports := by cases u <;> rfl
@[simp] theorem modUp_spes (u : Up) (f : Upstream → Upstream) : (s.modUp u f).spes = s.spes := by cases u <;> rfl
@[simp] theorem modUp_vpA (u : Up) (f : Upstream → Upstream) : (s.modUp u f).vpA = s.vpA := by cases u <;> rfl
@[simp] theorem modUp_vpB (u : Up) (f : Upstream → Upstream) : (s.modUp u f).vpB = s.vpB := by cases u <;> rfl
@[simp] theorem modUp_plan (u : Up) (f : Upstream → Upstream) : (s.modUp u f).plan = s.plan := by cases u <;> rfl
@[simp] theorem modUp_pdes (u : Up) (f : Upstream → Upstream) : (s.modUp u f).pdes = s.pdes := by cases u <;> rfl
@[simp] theorem modUp_ppcs (u : Up) (f : Upstream → Upstream) : (s.modUp u f).ppcs = s.ppcs := by cases u <;> rfl
@[simp] theorem modUp_convs (u : Up) (f : Upstream → Upstream) : (s.modUp u f).convs = s.convs := by cases u <;> rfl
@[simp] theorem modUp_segA (u : Up) (f : Upstream → Upstream) : (s.modUp u f).segA = s.segA := by cases u <;> rfl
@[simp] theorem modUp_segB (u : Up) (f : Upstream → Upstream) : (s.modUp u f).segB = s.segB := by cases u <;> rfl
@[simp] theorem modUp_feedA (u : Up) (f : Upstream → Upstream) : (s.modUp u f).feedA = s.feedA := by cases u <;> rfl
@[simp] theorem modUp_feedB (u : Up) (f : Upstream → Upstream) : (s.modUp u f).feedB = s.feedB := by cases u <;> rfl
@[simp] theorem modUp_pba (u : Up) (f : Upstream → Upstream) : (s.modUp u f).pba = s.pba := by cases u <;> rfl
@[simp] theorem modUp_pair (u : Up) (f : Upstream → Upstream) : (s.modUp u f).pair = s.pair := by cases u <;> rfl
@[simp] theorem modUp_crock (u : Up) (f : Upstream → Upstream) : (s.modUp u f).crock = s.crock := by cases u <;> rfl
@[simp] theorem modUp_sieve (u : Up) (f : Upstream → Upstream) : (s.modUp u f).sieve = s.sieve := by cases u <;> rfl
@[simp] theorem modUp_freeIdx (u : Up) (f : Upstream → Upstream) : (s.modUp u f).freeIdx = s.freeIdx := by cases u <;> rfl
@[simp] theorem modUp_pending (u : Up) (f : Upstream → Upstream) : (s.modUp u f).pending = s.pending := by cases u <;> rfl

/-! ### modPort: a physical port -/

@[simp] theorem modPort_tu (p : Nat) (f : Port → Port) : (s.modPort p f).tu = s.tu := by unfold State.modPort; split <;> rfl
@[simp] theorem modPort_ev (p : Nat) (f : Port → Port) : (s.modPort p f).ev = s.ev := by unfold State.modPort; split <;> rfl
@[simp] theorem modPort_cmd (p : Nat) (f : Port → Port) : (s.modPort p f).cmd = s.cmd := by unfold State.modPort; split <;> rfl
@[simp] theorem modPort_fab (p : Nat) (f : Port → Port) : (s.modPort p f).fab = s.fab := by unfold State.modPort; split <;> rfl
@[simp] theorem modPort_sys (p : Nat) (f : Port → Port) : (s.modPort p f).sys = s.sys := by unfold State.modPort; split <;> rfl
@[simp] theorem modPort_upA (p : Nat) (f : Port → Port) : (s.modPort p f).upA = s.upA := by unfold State.modPort; split <;> rfl
@[simp] theorem modPort_upB (p : Nat) (f : Port → Port) : (s.modPort p f).upB = s.upB := by unfold State.modPort; split <;> rfl
@[simp] theorem modPort_spes (p : Nat) (f : Port → Port) : (s.modPort p f).spes = s.spes := by unfold State.modPort; split <;> rfl
@[simp] theorem modPort_vpA (p : Nat) (f : Port → Port) : (s.modPort p f).vpA = s.vpA := by unfold State.modPort; split <;> rfl
@[simp] theorem modPort_vpB (p : Nat) (f : Port → Port) : (s.modPort p f).vpB = s.vpB := by unfold State.modPort; split <;> rfl
@[simp] theorem modPort_plan (p : Nat) (f : Port → Port) : (s.modPort p f).plan = s.plan := by unfold State.modPort; split <;> rfl
@[simp] theorem modPort_pdes (p : Nat) (f : Port → Port) : (s.modPort p f).pdes = s.pdes := by unfold State.modPort; split <;> rfl
@[simp] theorem modPort_ppcs (p : Nat) (f : Port → Port) : (s.modPort p f).ppcs = s.ppcs := by unfold State.modPort; split <;> rfl
@[simp] theorem modPort_convs (p : Nat) (f : Port → Port) : (s.modPort p f).convs = s.convs := by unfold State.modPort; split <;> rfl
@[simp] theorem modPort_segA (p : Nat) (f : Port → Port) : (s.modPort p f).segA = s.segA := by unfold State.modPort; split <;> rfl
@[simp] theorem modPort_segB (p : Nat) (f : Port → Port) : (s.modPort p f).segB = s.segB := by unfold State.modPort; split <;> rfl
@[simp] theorem modPort_feedA (p : Nat) (f : Port → Port) : (s.modPort p f).feedA = s.feedA := by unfold State.modPort; split <;> rfl
@[simp] theorem modPort_feedB (p : Nat) (f : Port → Port) : (s.modPort p f).feedB = s.feedB := by unfold State.modPort; split <;> rfl
@[simp] theorem modPort_pba (p : Nat) (f : Port → Port) : (s.modPort p f).pba = s.pba := by unfold State.modPort; split <;> rfl
@[simp] theorem modPort_pair (p : Nat) (f : Port → Port) : (s.modPort p f).pair = s.pair := by unfold State.modPort; split <;> rfl
@[simp] theorem modPort_crock (p : Nat) (f : Port → Port) : (s.modPort p f).crock = s.crock := by unfold State.modPort; split <;> rfl
@[simp] theorem modPort_sieve (p : Nat) (f : Port → Port) : (s.modPort p f).sieve = s.sieve := by unfold State.modPort; split <;> rfl
@[simp] theorem modPort_freeIdx (p : Nat) (f : Port → Port) : (s.modPort p f).freeIdx = s.freeIdx := by unfold State.modPort; split <;> rfl
@[simp] theorem modPort_pending (p : Nat) (f : Port → Port) : (s.modPort p f).pending = s.pending := by unfold State.modPort; split <;> rfl

/-! ### modSpe: a SuperSpeed port engine -/

@[simp] theorem modSpe_tu (p : Nat) (f : Spe → Spe) : (s.modSpe p f).tu = s.tu := by unfold State.modSpe; split <;> rfl
@[simp] theorem modSpe_ev (p : Nat) (f : Spe → Spe) : (s.modSpe p f).ev = s.ev := by unfold State.modSpe; split <;> rfl
@[simp] theorem modSpe_cmd (p : Nat) (f : Spe → Spe) : (s.modSpe p f).cmd = s.cmd := by unfold State.modSpe; split <;> rfl
@[simp] theorem modSpe_fab (p : Nat) (f : Spe → Spe) : (s.modSpe p f).fab = s.fab := by unfold State.modSpe; split <;> rfl
@[simp] theorem modSpe_sys (p : Nat) (f : Spe → Spe) : (s.modSpe p f).sys = s.sys := by unfold State.modSpe; split <;> rfl
@[simp] theorem modSpe_upA (p : Nat) (f : Spe → Spe) : (s.modSpe p f).upA = s.upA := by unfold State.modSpe; split <;> rfl
@[simp] theorem modSpe_upB (p : Nat) (f : Spe → Spe) : (s.modSpe p f).upB = s.upB := by unfold State.modSpe; split <;> rfl
@[simp] theorem modSpe_ports (p : Nat) (f : Spe → Spe) : (s.modSpe p f).ports = s.ports := by unfold State.modSpe; split <;> rfl
@[simp] theorem modSpe_vpA (p : Nat) (f : Spe → Spe) : (s.modSpe p f).vpA = s.vpA := by unfold State.modSpe; split <;> rfl
@[simp] theorem modSpe_vpB (p : Nat) (f : Spe → Spe) : (s.modSpe p f).vpB = s.vpB := by unfold State.modSpe; split <;> rfl
@[simp] theorem modSpe_plan (p : Nat) (f : Spe → Spe) : (s.modSpe p f).plan = s.plan := by unfold State.modSpe; split <;> rfl
@[simp] theorem modSpe_pdes (p : Nat) (f : Spe → Spe) : (s.modSpe p f).pdes = s.pdes := by unfold State.modSpe; split <;> rfl
@[simp] theorem modSpe_ppcs (p : Nat) (f : Spe → Spe) : (s.modSpe p f).ppcs = s.ppcs := by unfold State.modSpe; split <;> rfl
@[simp] theorem modSpe_convs (p : Nat) (f : Spe → Spe) : (s.modSpe p f).convs = s.convs := by unfold State.modSpe; split <;> rfl
@[simp] theorem modSpe_segA (p : Nat) (f : Spe → Spe) : (s.modSpe p f).segA = s.segA := by unfold State.modSpe; split <;> rfl
@[simp] theorem modSpe_segB (p : Nat) (f : Spe → Spe) : (s.modSpe p f).segB = s.segB := by unfold State.modSpe; split <;> rfl
@[simp] theorem modSpe_feedA (p : Nat) (f : Spe → Spe) : (s.modSpe p f).feedA = s.feedA := by unfold State.modSpe; split <;> rfl
@[simp] theorem modSpe_feedB (p : Nat) (f : Spe → Spe) : (s.modSpe p f).feedB = s.feedB := by unfold State.modSpe; split <;> rfl
@[simp] theorem modSpe_pba (p : Nat) (f : Spe → Spe) : (s.modSpe p f).pba = s.pba := by unfold State.modSpe; split <;> rfl
@[simp] theorem modSpe_pair (p : Nat) (f : Spe → Spe) : (s.modSpe p f).pair = s.pair := by unfold State.modSpe; split <;> rfl
@[simp] theorem modSpe_crock (p : Nat) (f : Spe → Spe) : (s.modSpe p f).crock = s.crock := by unfold State.modSpe; split <;> rfl
@[simp] theorem modSpe_sieve (p : Nat) (f : Spe → Spe) : (s.modSpe p f).sieve = s.sieve := by unfold State.modSpe; split <;> rfl
@[simp] theorem modSpe_freeIdx (p : Nat) (f : Spe → Spe) : (s.modSpe p f).freeIdx = s.freeIdx := by unfold State.modSpe; split <;> rfl
@[simp] theorem modSpe_pending (p : Nat) (f : Spe → Spe) : (s.modSpe p f).pending = s.pending := by unfold State.modSpe; split <;> rfl

/-! ### modVPort: a virtual port -/

@[simp] theorem modVPort_tu (u : Up) (v : Nat) (f : VPort → VPort) : (s.modVPort u v f).tu = s.tu := by cases u <;> (unfold State.modVPort; split <;> rfl)
@[simp] theorem modVPort_ev (u : Up) (v : Nat) (f : VPort → VPort) : (s.modVPort u v f).ev = s.ev := by cases u <;> (unfold State.modVPort; split <;> rfl)
@[simp] theorem modVPort_cmd (u : Up) (v : Nat) (f : VPort → VPort) : (s.modVPort u v f).cmd = s.cmd := by cases u <;> (unfold State.modVPort; split <;> rfl)
@[simp] theorem modVPort_fab (u : Up) (v : Nat) (f : VPort → VPort) : (s.modVPort u v f).fab = s.fab := by cases u <;> (unfold State.modVPort; split <;> rfl)
@[simp] theorem modVPort_sys (u : Up) (v : Nat) (f : VPort → VPort) : (s.modVPort u v f).sys = s.sys := by cases u <;> (unfold State.modVPort; split <;> rfl)
@[simp] theorem modVPort_upA (u : Up) (v : Nat) (f : VPort → VPort) : (s.modVPort u v f).upA = s.upA := by cases u <;> (unfold State.modVPort; split <;> rfl)
@[simp] theorem modVPort_upB (u : Up) (v : Nat) (f : VPort → VPort) : (s.modVPort u v f).upB = s.upB := by cases u <;> (unfold State.modVPort; split <;> rfl)
@[simp] theorem modVPort_ports (u : Up) (v : Nat) (f : VPort → VPort) : (s.modVPort u v f).ports = s.ports := by cases u <;> (unfold State.modVPort; split <;> rfl)
@[simp] theorem modVPort_spes (u : Up) (v : Nat) (f : VPort → VPort) : (s.modVPort u v f).spes = s.spes := by cases u <;> (unfold State.modVPort; split <;> rfl)
@[simp] theorem modVPort_plan (u : Up) (v : Nat) (f : VPort → VPort) : (s.modVPort u v f).plan = s.plan := by cases u <;> (unfold State.modVPort; split <;> rfl)
@[simp] theorem modVPort_pdes (u : Up) (v : Nat) (f : VPort → VPort) : (s.modVPort u v f).pdes = s.pdes := by cases u <;> (unfold State.modVPort; split <;> rfl)
@[simp] theorem modVPort_ppcs (u : Up) (v : Nat) (f : VPort → VPort) : (s.modVPort u v f).ppcs = s.ppcs := by cases u <;> (unfold State.modVPort; split <;> rfl)
@[simp] theorem modVPort_convs (u : Up) (v : Nat) (f : VPort → VPort) : (s.modVPort u v f).convs = s.convs := by cases u <;> (unfold State.modVPort; split <;> rfl)
@[simp] theorem modVPort_segA (u : Up) (v : Nat) (f : VPort → VPort) : (s.modVPort u v f).segA = s.segA := by cases u <;> (unfold State.modVPort; split <;> rfl)
@[simp] theorem modVPort_segB (u : Up) (v : Nat) (f : VPort → VPort) : (s.modVPort u v f).segB = s.segB := by cases u <;> (unfold State.modVPort; split <;> rfl)
@[simp] theorem modVPort_feedA (u : Up) (v : Nat) (f : VPort → VPort) : (s.modVPort u v f).feedA = s.feedA := by cases u <;> (unfold State.modVPort; split <;> rfl)
@[simp] theorem modVPort_feedB (u : Up) (v : Nat) (f : VPort → VPort) : (s.modVPort u v f).feedB = s.feedB := by cases u <;> (unfold State.modVPort; split <;> rfl)
@[simp] theorem modVPort_pba (u : Up) (v : Nat) (f : VPort → VPort) : (s.modVPort u v f).pba = s.pba := by cases u <;> (unfold State.modVPort; split <;> rfl)
@[simp] theorem modVPort_pair (u : Up) (v : Nat) (f : VPort → VPort) : (s.modVPort u v f).pair = s.pair := by cases u <;> (unfold State.modVPort; split <;> rfl)
@[simp] theorem modVPort_crock (u : Up) (v : Nat) (f : VPort → VPort) : (s.modVPort u v f).crock = s.crock := by cases u <;> (unfold State.modVPort; split <;> rfl)
@[simp] theorem modVPort_sieve (u : Up) (v : Nat) (f : VPort → VPort) : (s.modVPort u v f).sieve = s.sieve := by cases u <;> (unfold State.modVPort; split <;> rfl)
@[simp] theorem modVPort_freeIdx (u : Up) (v : Nat) (f : VPort → VPort) : (s.modVPort u v f).freeIdx = s.freeIdx := by cases u <;> (unfold State.modVPort; split <;> rfl)
@[simp] theorem modVPort_pending (u : Up) (v : Nat) (f : VPort → VPort) : (s.modVPort u v f).pending = s.pending := by cases u <;> (unfold State.modVPort; split <;> rfl)

/-! ### modLink: a fabric link -/

@[simp] theorem modLink_tu (l : Nat) (f : FabLink → FabLink) : (s.modLink l f).tu = s.tu := rfl
@[simp] theorem modLink_ev (l : Nat) (f : FabLink → FabLink) : (s.modLink l f).ev = s.ev := rfl
@[simp] theorem modLink_cmd (l : Nat) (f : FabLink → FabLink) : (s.modLink l f).cmd = s.cmd := rfl
@[simp] theorem modLink_sys (l : Nat) (f : FabLink → FabLink) : (s.modLink l f).sys = s.sys := rfl
@[simp] theorem modLink_upA (l : Nat) (f : FabLink → FabLink) : (s.modLink l f).upA = s.upA := rfl
@[simp] theorem modLink_upB (l : Nat) (f : FabLink → FabLink) : (s.modLink l f).upB = s.upB := rfl
@[simp] theorem modLink_ports (l : Nat) (f : FabLink → FabLink) : (s.modLink l f).ports = s.ports := rfl
@[simp] theorem modLink_spes (l : Nat) (f : FabLink → FabLink) : (s.modLink l f).spes = s.spes := rfl
@[simp] theorem modLink_vpA (l : Nat) (f : FabLink → FabLink) : (s.modLink l f).vpA = s.vpA := rfl
@[simp] theorem modLink_vpB (l : Nat) (f : FabLink → FabLink) : (s.modLink l f).vpB = s.vpB := rfl
@[simp] theorem modLink_plan (l : Nat) (f : FabLink → FabLink) : (s.modLink l f).plan = s.plan := rfl
@[simp] theorem modLink_pdes (l : Nat) (f : FabLink → FabLink) : (s.modLink l f).pdes = s.pdes := rfl
@[simp] theorem modLink_ppcs (l : Nat) (f : FabLink → FabLink) : (s.modLink l f).ppcs = s.ppcs := rfl
@[simp] theorem modLink_convs (l : Nat) (f : FabLink → FabLink) : (s.modLink l f).convs = s.convs := rfl
@[simp] theorem modLink_segA (l : Nat) (f : FabLink → FabLink) : (s.modLink l f).segA = s.segA := rfl
@[simp] theorem modLink_segB (l : Nat) (f : FabLink → FabLink) : (s.modLink l f).segB = s.segB := rfl
@[simp] theorem modLink_feedA (l : Nat) (f : FabLink → FabLink) : (s.modLink l f).feedA = s.feedA := rfl
@[simp] theorem modLink_feedB (l : Nat) (f : FabLink → FabLink) : (s.modLink l f).feedB = s.feedB := rfl
@[simp] theorem modLink_pba (l : Nat) (f : FabLink → FabLink) : (s.modLink l f).pba = s.pba := rfl
@[simp] theorem modLink_pair (l : Nat) (f : FabLink → FabLink) : (s.modLink l f).pair = s.pair := rfl
@[simp] theorem modLink_crock (l : Nat) (f : FabLink → FabLink) : (s.modLink l f).crock = s.crock := rfl
@[simp] theorem modLink_sieve (l : Nat) (f : FabLink → FabLink) : (s.modLink l f).sieve = s.sieve := rfl
@[simp] theorem modLink_freeIdx (l : Nat) (f : FabLink → FabLink) : (s.modLink l f).freeIdx = s.freeIdx := rfl
@[simp] theorem modLink_pending (l : Nat) (f : FabLink → FabLink) : (s.modLink l f).pending = s.pending := rfl

/-! ### modPde: a PD engine -/

@[simp] theorem modPde_tu (n : Nat) (f : Pde → Pde) : (s.modPde n f).tu = s.tu := by unfold State.modPde; split <;> rfl
@[simp] theorem modPde_ev (n : Nat) (f : Pde → Pde) : (s.modPde n f).ev = s.ev := by unfold State.modPde; split <;> rfl
@[simp] theorem modPde_cmd (n : Nat) (f : Pde → Pde) : (s.modPde n f).cmd = s.cmd := by unfold State.modPde; split <;> rfl
@[simp] theorem modPde_fab (n : Nat) (f : Pde → Pde) : (s.modPde n f).fab = s.fab := by unfold State.modPde; split <;> rfl
@[simp] theorem modPde_sys (n : Nat) (f : Pde → Pde) : (s.modPde n f).sys = s.sys := by unfold State.modPde; split <;> rfl
@[simp] theorem modPde_upA (n : Nat) (f : Pde → Pde) : (s.modPde n f).upA = s.upA := by unfold State.modPde; split <;> rfl
@[simp] theorem modPde_upB (n : Nat) (f : Pde → Pde) : (s.modPde n f).upB = s.upB := by unfold State.modPde; split <;> rfl
@[simp] theorem modPde_ports (n : Nat) (f : Pde → Pde) : (s.modPde n f).ports = s.ports := by unfold State.modPde; split <;> rfl
@[simp] theorem modPde_spes (n : Nat) (f : Pde → Pde) : (s.modPde n f).spes = s.spes := by unfold State.modPde; split <;> rfl
@[simp] theorem modPde_vpA (n : Nat) (f : Pde → Pde) : (s.modPde n f).vpA = s.vpA := by unfold State.modPde; split <;> rfl
@[simp] theorem modPde_vpB (n : Nat) (f : Pde → Pde) : (s.modPde n f).vpB = s.vpB := by unfold State.modPde; split <;> rfl
@[simp] theorem modPde_plan (n : Nat) (f : Pde → Pde) : (s.modPde n f).plan = s.plan := by unfold State.modPde; split <;> rfl
@[simp] theorem modPde_ppcs (n : Nat) (f : Pde → Pde) : (s.modPde n f).ppcs = s.ppcs := by unfold State.modPde; split <;> rfl
@[simp] theorem modPde_convs (n : Nat) (f : Pde → Pde) : (s.modPde n f).convs = s.convs := by unfold State.modPde; split <;> rfl
@[simp] theorem modPde_segA (n : Nat) (f : Pde → Pde) : (s.modPde n f).segA = s.segA := by unfold State.modPde; split <;> rfl
@[simp] theorem modPde_segB (n : Nat) (f : Pde → Pde) : (s.modPde n f).segB = s.segB := by unfold State.modPde; split <;> rfl
@[simp] theorem modPde_feedA (n : Nat) (f : Pde → Pde) : (s.modPde n f).feedA = s.feedA := by unfold State.modPde; split <;> rfl
@[simp] theorem modPde_feedB (n : Nat) (f : Pde → Pde) : (s.modPde n f).feedB = s.feedB := by unfold State.modPde; split <;> rfl
@[simp] theorem modPde_pba (n : Nat) (f : Pde → Pde) : (s.modPde n f).pba = s.pba := by unfold State.modPde; split <;> rfl
@[simp] theorem modPde_pair (n : Nat) (f : Pde → Pde) : (s.modPde n f).pair = s.pair := by unfold State.modPde; split <;> rfl
@[simp] theorem modPde_crock (n : Nat) (f : Pde → Pde) : (s.modPde n f).crock = s.crock := by unfold State.modPde; split <;> rfl
@[simp] theorem modPde_sieve (n : Nat) (f : Pde → Pde) : (s.modPde n f).sieve = s.sieve := by unfold State.modPde; split <;> rfl
@[simp] theorem modPde_freeIdx (n : Nat) (f : Pde → Pde) : (s.modPde n f).freeIdx = s.freeIdx := by unfold State.modPde; split <;> rfl
@[simp] theorem modPde_pending (n : Nat) (f : Pde → Pde) : (s.modPde n f).pending = s.pending := by unfold State.modPde; split <;> rfl

/-! ### modPpc: a port power controller -/

@[simp] theorem modPpc_tu (n : Nat) (f : Ppc → Ppc) : (s.modPpc n f).tu = s.tu := by unfold State.modPpc; split <;> rfl
@[simp] theorem modPpc_ev (n : Nat) (f : Ppc → Ppc) : (s.modPpc n f).ev = s.ev := by unfold State.modPpc; split <;> rfl
@[simp] theorem modPpc_cmd (n : Nat) (f : Ppc → Ppc) : (s.modPpc n f).cmd = s.cmd := by unfold State.modPpc; split <;> rfl
@[simp] theorem modPpc_fab (n : Nat) (f : Ppc → Ppc) : (s.modPpc n f).fab = s.fab := by unfold State.modPpc; split <;> rfl
@[simp] theorem modPpc_sys (n : Nat) (f : Ppc → Ppc) : (s.modPpc n f).sys = s.sys := by unfold State.modPpc; split <;> rfl
@[simp] theorem modPpc_upA (n : Nat) (f : Ppc → Ppc) : (s.modPpc n f).upA = s.upA := by unfold State.modPpc; split <;> rfl
@[simp] theorem modPpc_upB (n : Nat) (f : Ppc → Ppc) : (s.modPpc n f).upB = s.upB := by unfold State.modPpc; split <;> rfl
@[simp] theorem modPpc_ports (n : Nat) (f : Ppc → Ppc) : (s.modPpc n f).ports = s.ports := by unfold State.modPpc; split <;> rfl
@[simp] theorem modPpc_spes (n : Nat) (f : Ppc → Ppc) : (s.modPpc n f).spes = s.spes := by unfold State.modPpc; split <;> rfl
@[simp] theorem modPpc_vpA (n : Nat) (f : Ppc → Ppc) : (s.modPpc n f).vpA = s.vpA := by unfold State.modPpc; split <;> rfl
@[simp] theorem modPpc_vpB (n : Nat) (f : Ppc → Ppc) : (s.modPpc n f).vpB = s.vpB := by unfold State.modPpc; split <;> rfl
@[simp] theorem modPpc_plan (n : Nat) (f : Ppc → Ppc) : (s.modPpc n f).plan = s.plan := by unfold State.modPpc; split <;> rfl
@[simp] theorem modPpc_pdes (n : Nat) (f : Ppc → Ppc) : (s.modPpc n f).pdes = s.pdes := by unfold State.modPpc; split <;> rfl
@[simp] theorem modPpc_convs (n : Nat) (f : Ppc → Ppc) : (s.modPpc n f).convs = s.convs := by unfold State.modPpc; split <;> rfl
@[simp] theorem modPpc_segA (n : Nat) (f : Ppc → Ppc) : (s.modPpc n f).segA = s.segA := by unfold State.modPpc; split <;> rfl
@[simp] theorem modPpc_segB (n : Nat) (f : Ppc → Ppc) : (s.modPpc n f).segB = s.segB := by unfold State.modPpc; split <;> rfl
@[simp] theorem modPpc_feedA (n : Nat) (f : Ppc → Ppc) : (s.modPpc n f).feedA = s.feedA := by unfold State.modPpc; split <;> rfl
@[simp] theorem modPpc_feedB (n : Nat) (f : Ppc → Ppc) : (s.modPpc n f).feedB = s.feedB := by unfold State.modPpc; split <;> rfl
@[simp] theorem modPpc_pba (n : Nat) (f : Ppc → Ppc) : (s.modPpc n f).pba = s.pba := by unfold State.modPpc; split <;> rfl
@[simp] theorem modPpc_pair (n : Nat) (f : Ppc → Ppc) : (s.modPpc n f).pair = s.pair := by unfold State.modPpc; split <;> rfl
@[simp] theorem modPpc_crock (n : Nat) (f : Ppc → Ppc) : (s.modPpc n f).crock = s.crock := by unfold State.modPpc; split <;> rfl
@[simp] theorem modPpc_sieve (n : Nat) (f : Ppc → Ppc) : (s.modPpc n f).sieve = s.sieve := by unfold State.modPpc; split <;> rfl
@[simp] theorem modPpc_freeIdx (n : Nat) (f : Ppc → Ppc) : (s.modPpc n f).freeIdx = s.freeIdx := by unfold State.modPpc; split <;> rfl
@[simp] theorem modPpc_pending (n : Nat) (f : Ppc → Ppc) : (s.modPpc n f).pending = s.pending := by unfold State.modPpc; split <;> rfl

/-! ### modConv: a converter -/

@[simp] theorem modConv_tu (n : Nat) (f : Converter → Converter) : (s.modConv n f).tu = s.tu := by unfold State.modConv; split <;> rfl
@[simp] theorem modConv_ev (n : Nat) (f : Converter → Converter) : (s.modConv n f).ev = s.ev := by unfold State.modConv; split <;> rfl
@[simp] theorem modConv_cmd (n : Nat) (f : Converter → Converter) : (s.modConv n f).cmd = s.cmd := by unfold State.modConv; split <;> rfl
@[simp] theorem modConv_fab (n : Nat) (f : Converter → Converter) : (s.modConv n f).fab = s.fab := by unfold State.modConv; split <;> rfl
@[simp] theorem modConv_sys (n : Nat) (f : Converter → Converter) : (s.modConv n f).sys = s.sys := by unfold State.modConv; split <;> rfl
@[simp] theorem modConv_upA (n : Nat) (f : Converter → Converter) : (s.modConv n f).upA = s.upA := by unfold State.modConv; split <;> rfl
@[simp] theorem modConv_upB (n : Nat) (f : Converter → Converter) : (s.modConv n f).upB = s.upB := by unfold State.modConv; split <;> rfl
@[simp] theorem modConv_ports (n : Nat) (f : Converter → Converter) : (s.modConv n f).ports = s.ports := by unfold State.modConv; split <;> rfl
@[simp] theorem modConv_spes (n : Nat) (f : Converter → Converter) : (s.modConv n f).spes = s.spes := by unfold State.modConv; split <;> rfl
@[simp] theorem modConv_vpA (n : Nat) (f : Converter → Converter) : (s.modConv n f).vpA = s.vpA := by unfold State.modConv; split <;> rfl
@[simp] theorem modConv_vpB (n : Nat) (f : Converter → Converter) : (s.modConv n f).vpB = s.vpB := by unfold State.modConv; split <;> rfl
@[simp] theorem modConv_plan (n : Nat) (f : Converter → Converter) : (s.modConv n f).plan = s.plan := by unfold State.modConv; split <;> rfl
@[simp] theorem modConv_pdes (n : Nat) (f : Converter → Converter) : (s.modConv n f).pdes = s.pdes := by unfold State.modConv; split <;> rfl
@[simp] theorem modConv_ppcs (n : Nat) (f : Converter → Converter) : (s.modConv n f).ppcs = s.ppcs := by unfold State.modConv; split <;> rfl
@[simp] theorem modConv_segA (n : Nat) (f : Converter → Converter) : (s.modConv n f).segA = s.segA := by unfold State.modConv; split <;> rfl
@[simp] theorem modConv_segB (n : Nat) (f : Converter → Converter) : (s.modConv n f).segB = s.segB := by unfold State.modConv; split <;> rfl
@[simp] theorem modConv_feedA (n : Nat) (f : Converter → Converter) : (s.modConv n f).feedA = s.feedA := by unfold State.modConv; split <;> rfl
@[simp] theorem modConv_feedB (n : Nat) (f : Converter → Converter) : (s.modConv n f).feedB = s.feedB := by unfold State.modConv; split <;> rfl
@[simp] theorem modConv_pba (n : Nat) (f : Converter → Converter) : (s.modConv n f).pba = s.pba := by unfold State.modConv; split <;> rfl
@[simp] theorem modConv_pair (n : Nat) (f : Converter → Converter) : (s.modConv n f).pair = s.pair := by unfold State.modConv; split <;> rfl
@[simp] theorem modConv_crock (n : Nat) (f : Converter → Converter) : (s.modConv n f).crock = s.crock := by unfold State.modConv; split <;> rfl
@[simp] theorem modConv_sieve (n : Nat) (f : Converter → Converter) : (s.modConv n f).sieve = s.sieve := by unfold State.modConv; split <;> rfl
@[simp] theorem modConv_freeIdx (n : Nat) (f : Converter → Converter) : (s.modConv n f).freeIdx = s.freeIdx := by unfold State.modConv; split <;> rfl
@[simp] theorem modConv_pending (n : Nat) (f : Converter → Converter) : (s.modConv n f).pending = s.pending := by unfold State.modConv; split <;> rfl

/-! ### modSeg: a PMBus segment -/

@[simp] theorem modSeg_tu (b : Bool) (f : Segment → Segment) : (s.modSeg b f).tu = s.tu := by cases b <;> rfl
@[simp] theorem modSeg_ev (b : Bool) (f : Segment → Segment) : (s.modSeg b f).ev = s.ev := by cases b <;> rfl
@[simp] theorem modSeg_cmd (b : Bool) (f : Segment → Segment) : (s.modSeg b f).cmd = s.cmd := by cases b <;> rfl
@[simp] theorem modSeg_fab (b : Bool) (f : Segment → Segment) : (s.modSeg b f).fab = s.fab := by cases b <;> rfl
@[simp] theorem modSeg_sys (b : Bool) (f : Segment → Segment) : (s.modSeg b f).sys = s.sys := by cases b <;> rfl
@[simp] theorem modSeg_upA (b : Bool) (f : Segment → Segment) : (s.modSeg b f).upA = s.upA := by cases b <;> rfl
@[simp] theorem modSeg_upB (b : Bool) (f : Segment → Segment) : (s.modSeg b f).upB = s.upB := by cases b <;> rfl
@[simp] theorem modSeg_ports (b : Bool) (f : Segment → Segment) : (s.modSeg b f).ports = s.ports := by cases b <;> rfl
@[simp] theorem modSeg_spes (b : Bool) (f : Segment → Segment) : (s.modSeg b f).spes = s.spes := by cases b <;> rfl
@[simp] theorem modSeg_vpA (b : Bool) (f : Segment → Segment) : (s.modSeg b f).vpA = s.vpA := by cases b <;> rfl
@[simp] theorem modSeg_vpB (b : Bool) (f : Segment → Segment) : (s.modSeg b f).vpB = s.vpB := by cases b <;> rfl
@[simp] theorem modSeg_plan (b : Bool) (f : Segment → Segment) : (s.modSeg b f).plan = s.plan := by cases b <;> rfl
@[simp] theorem modSeg_pdes (b : Bool) (f : Segment → Segment) : (s.modSeg b f).pdes = s.pdes := by cases b <;> rfl
@[simp] theorem modSeg_ppcs (b : Bool) (f : Segment → Segment) : (s.modSeg b f).ppcs = s.ppcs := by cases b <;> rfl
@[simp] theorem modSeg_convs (b : Bool) (f : Segment → Segment) : (s.modSeg b f).convs = s.convs := by cases b <;> rfl
@[simp] theorem modSeg_feedA (b : Bool) (f : Segment → Segment) : (s.modSeg b f).feedA = s.feedA := by cases b <;> rfl
@[simp] theorem modSeg_feedB (b : Bool) (f : Segment → Segment) : (s.modSeg b f).feedB = s.feedB := by cases b <;> rfl
@[simp] theorem modSeg_pba (b : Bool) (f : Segment → Segment) : (s.modSeg b f).pba = s.pba := by cases b <;> rfl
@[simp] theorem modSeg_pair (b : Bool) (f : Segment → Segment) : (s.modSeg b f).pair = s.pair := by cases b <;> rfl
@[simp] theorem modSeg_crock (b : Bool) (f : Segment → Segment) : (s.modSeg b f).crock = s.crock := by cases b <;> rfl
@[simp] theorem modSeg_sieve (b : Bool) (f : Segment → Segment) : (s.modSeg b f).sieve = s.sieve := by cases b <;> rfl
@[simp] theorem modSeg_freeIdx (b : Bool) (f : Segment → Segment) : (s.modSeg b f).freeIdx = s.freeIdx := by cases b <;> rfl
@[simp] theorem modSeg_pending (b : Bool) (f : Segment → Segment) : (s.modSeg b f).pending = s.pending := by cases b <;> rfl

/-! ### modFeed: a feed -/

@[simp] theorem modFeed_tu (b : Bool) (f : Feed → Feed) : (s.modFeed b f).tu = s.tu := by cases b <;> rfl
@[simp] theorem modFeed_ev (b : Bool) (f : Feed → Feed) : (s.modFeed b f).ev = s.ev := by cases b <;> rfl
@[simp] theorem modFeed_cmd (b : Bool) (f : Feed → Feed) : (s.modFeed b f).cmd = s.cmd := by cases b <;> rfl
@[simp] theorem modFeed_fab (b : Bool) (f : Feed → Feed) : (s.modFeed b f).fab = s.fab := by cases b <;> rfl
@[simp] theorem modFeed_sys (b : Bool) (f : Feed → Feed) : (s.modFeed b f).sys = s.sys := by cases b <;> rfl
@[simp] theorem modFeed_upA (b : Bool) (f : Feed → Feed) : (s.modFeed b f).upA = s.upA := by cases b <;> rfl
@[simp] theorem modFeed_upB (b : Bool) (f : Feed → Feed) : (s.modFeed b f).upB = s.upB := by cases b <;> rfl
@[simp] theorem modFeed_ports (b : Bool) (f : Feed → Feed) : (s.modFeed b f).ports = s.ports := by cases b <;> rfl
@[simp] theorem modFeed_spes (b : Bool) (f : Feed → Feed) : (s.modFeed b f).spes = s.spes := by cases b <;> rfl
@[simp] theorem modFeed_vpA (b : Bool) (f : Feed → Feed) : (s.modFeed b f).vpA = s.vpA := by cases b <;> rfl
@[simp] theorem modFeed_vpB (b : Bool) (f : Feed → Feed) : (s.modFeed b f).vpB = s.vpB := by cases b <;> rfl
@[simp] theorem modFeed_plan (b : Bool) (f : Feed → Feed) : (s.modFeed b f).plan = s.plan := by cases b <;> rfl
@[simp] theorem modFeed_pdes (b : Bool) (f : Feed → Feed) : (s.modFeed b f).pdes = s.pdes := by cases b <;> rfl
@[simp] theorem modFeed_ppcs (b : Bool) (f : Feed → Feed) : (s.modFeed b f).ppcs = s.ppcs := by cases b <;> rfl
@[simp] theorem modFeed_convs (b : Bool) (f : Feed → Feed) : (s.modFeed b f).convs = s.convs := by cases b <;> rfl
@[simp] theorem modFeed_segA (b : Bool) (f : Feed → Feed) : (s.modFeed b f).segA = s.segA := by cases b <;> rfl
@[simp] theorem modFeed_segB (b : Bool) (f : Feed → Feed) : (s.modFeed b f).segB = s.segB := by cases b <;> rfl
@[simp] theorem modFeed_pba (b : Bool) (f : Feed → Feed) : (s.modFeed b f).pba = s.pba := by cases b <;> rfl
@[simp] theorem modFeed_pair (b : Bool) (f : Feed → Feed) : (s.modFeed b f).pair = s.pair := by cases b <;> rfl
@[simp] theorem modFeed_crock (b : Bool) (f : Feed → Feed) : (s.modFeed b f).crock = s.crock := by cases b <;> rfl
@[simp] theorem modFeed_sieve (b : Bool) (f : Feed → Feed) : (s.modFeed b f).sieve = s.sieve := by cases b <;> rfl
@[simp] theorem modFeed_freeIdx (b : Bool) (f : Feed → Feed) : (s.modFeed b f).freeIdx = s.freeIdx := by cases b <;> rfl
@[simp] theorem modFeed_pending (b : Bool) (f : Feed → Feed) : (s.modFeed b f).pending = s.pending := by cases b <;> rfl

/-! ### modPb: the arbiter's block of a port -/

@[simp] theorem modPb_tu (n : Nat) (f : PbaPort → PbaPort) : (s.modPb n f).tu = s.tu := by unfold State.modPb; split <;> rfl
@[simp] theorem modPb_ev (n : Nat) (f : PbaPort → PbaPort) : (s.modPb n f).ev = s.ev := by unfold State.modPb; split <;> rfl
@[simp] theorem modPb_cmd (n : Nat) (f : PbaPort → PbaPort) : (s.modPb n f).cmd = s.cmd := by unfold State.modPb; split <;> rfl
@[simp] theorem modPb_fab (n : Nat) (f : PbaPort → PbaPort) : (s.modPb n f).fab = s.fab := by unfold State.modPb; split <;> rfl
@[simp] theorem modPb_sys (n : Nat) (f : PbaPort → PbaPort) : (s.modPb n f).sys = s.sys := by unfold State.modPb; split <;> rfl
@[simp] theorem modPb_upA (n : Nat) (f : PbaPort → PbaPort) : (s.modPb n f).upA = s.upA := by unfold State.modPb; split <;> rfl
@[simp] theorem modPb_upB (n : Nat) (f : PbaPort → PbaPort) : (s.modPb n f).upB = s.upB := by unfold State.modPb; split <;> rfl
@[simp] theorem modPb_ports (n : Nat) (f : PbaPort → PbaPort) : (s.modPb n f).ports = s.ports := by unfold State.modPb; split <;> rfl
@[simp] theorem modPb_spes (n : Nat) (f : PbaPort → PbaPort) : (s.modPb n f).spes = s.spes := by unfold State.modPb; split <;> rfl
@[simp] theorem modPb_vpA (n : Nat) (f : PbaPort → PbaPort) : (s.modPb n f).vpA = s.vpA := by unfold State.modPb; split <;> rfl
@[simp] theorem modPb_vpB (n : Nat) (f : PbaPort → PbaPort) : (s.modPb n f).vpB = s.vpB := by unfold State.modPb; split <;> rfl
@[simp] theorem modPb_plan (n : Nat) (f : PbaPort → PbaPort) : (s.modPb n f).plan = s.plan := by unfold State.modPb; split <;> rfl
@[simp] theorem modPb_pdes (n : Nat) (f : PbaPort → PbaPort) : (s.modPb n f).pdes = s.pdes := by unfold State.modPb; split <;> rfl
@[simp] theorem modPb_ppcs (n : Nat) (f : PbaPort → PbaPort) : (s.modPb n f).ppcs = s.ppcs := by unfold State.modPb; split <;> rfl
@[simp] theorem modPb_convs (n : Nat) (f : PbaPort → PbaPort) : (s.modPb n f).convs = s.convs := by unfold State.modPb; split <;> rfl
@[simp] theorem modPb_segA (n : Nat) (f : PbaPort → PbaPort) : (s.modPb n f).segA = s.segA := by unfold State.modPb; split <;> rfl
@[simp] theorem modPb_segB (n : Nat) (f : PbaPort → PbaPort) : (s.modPb n f).segB = s.segB := by unfold State.modPb; split <;> rfl
@[simp] theorem modPb_feedA (n : Nat) (f : PbaPort → PbaPort) : (s.modPb n f).feedA = s.feedA := by unfold State.modPb; split <;> rfl
@[simp] theorem modPb_feedB (n : Nat) (f : PbaPort → PbaPort) : (s.modPb n f).feedB = s.feedB := by unfold State.modPb; split <;> rfl
@[simp] theorem modPb_pair (n : Nat) (f : PbaPort → PbaPort) : (s.modPb n f).pair = s.pair := by unfold State.modPb; split <;> rfl
@[simp] theorem modPb_crock (n : Nat) (f : PbaPort → PbaPort) : (s.modPb n f).crock = s.crock := by unfold State.modPb; split <;> rfl
@[simp] theorem modPb_sieve (n : Nat) (f : PbaPort → PbaPort) : (s.modPb n f).sieve = s.sieve := by unfold State.modPb; split <;> rfl
@[simp] theorem modPb_freeIdx (n : Nat) (f : PbaPort → PbaPort) : (s.modPb n f).freeIdx = s.freeIdx := by unfold State.modPb; split <;> rfl
@[simp] theorem modPb_pending (n : Nat) (f : PbaPort → PbaPort) : (s.modPb n f).pending = s.pending := by unfold State.modPb; split <;> rfl

/-! ### modQueue: an event queue -/

@[simp] theorem modQueue_tu (i : QueueId) (f : Queue → Queue) : (s.modQueue i f).tu = s.tu := by cases i <;> rfl
@[simp] theorem modQueue_cmd (i : QueueId) (f : Queue → Queue) : (s.modQueue i f).cmd = s.cmd := by cases i <;> rfl
@[simp] theorem modQueue_fab (i : QueueId) (f : Queue → Queue) : (s.modQueue i f).fab = s.fab := by cases i <;> rfl
@[simp] theorem modQueue_sys (i : QueueId) (f : Queue → Queue) : (s.modQueue i f).sys = s.sys := by cases i <;> rfl
@[simp] theorem modQueue_upA (i : QueueId) (f : Queue → Queue) : (s.modQueue i f).upA = s.upA := by cases i <;> rfl
@[simp] theorem modQueue_upB (i : QueueId) (f : Queue → Queue) : (s.modQueue i f).upB = s.upB := by cases i <;> rfl
@[simp] theorem modQueue_ports (i : QueueId) (f : Queue → Queue) : (s.modQueue i f).ports = s.ports := by cases i <;> rfl
@[simp] theorem modQueue_spes (i : QueueId) (f : Queue → Queue) : (s.modQueue i f).spes = s.spes := by cases i <;> rfl
@[simp] theorem modQueue_vpA (i : QueueId) (f : Queue → Queue) : (s.modQueue i f).vpA = s.vpA := by cases i <;> rfl
@[simp] theorem modQueue_vpB (i : QueueId) (f : Queue → Queue) : (s.modQueue i f).vpB = s.vpB := by cases i <;> rfl
@[simp] theorem modQueue_plan (i : QueueId) (f : Queue → Queue) : (s.modQueue i f).plan = s.plan := by cases i <;> rfl
@[simp] theorem modQueue_pdes (i : QueueId) (f : Queue → Queue) : (s.modQueue i f).pdes = s.pdes := by cases i <;> rfl
@[simp] theorem modQueue_ppcs (i : QueueId) (f : Queue → Queue) : (s.modQueue i f).ppcs = s.ppcs := by cases i <;> rfl
@[simp] theorem modQueue_convs (i : QueueId) (f : Queue → Queue) : (s.modQueue i f).convs = s.convs := by cases i <;> rfl
@[simp] theorem modQueue_segA (i : QueueId) (f : Queue → Queue) : (s.modQueue i f).segA = s.segA := by cases i <;> rfl
@[simp] theorem modQueue_segB (i : QueueId) (f : Queue → Queue) : (s.modQueue i f).segB = s.segB := by cases i <;> rfl
@[simp] theorem modQueue_feedA (i : QueueId) (f : Queue → Queue) : (s.modQueue i f).feedA = s.feedA := by cases i <;> rfl
@[simp] theorem modQueue_feedB (i : QueueId) (f : Queue → Queue) : (s.modQueue i f).feedB = s.feedB := by cases i <;> rfl
@[simp] theorem modQueue_pba (i : QueueId) (f : Queue → Queue) : (s.modQueue i f).pba = s.pba := by cases i <;> rfl
@[simp] theorem modQueue_pair (i : QueueId) (f : Queue → Queue) : (s.modQueue i f).pair = s.pair := by cases i <;> rfl
@[simp] theorem modQueue_crock (i : QueueId) (f : Queue → Queue) : (s.modQueue i f).crock = s.crock := by cases i <;> rfl
@[simp] theorem modQueue_sieve (i : QueueId) (f : Queue → Queue) : (s.modQueue i f).sieve = s.sieve := by cases i <;> rfl
@[simp] theorem modQueue_freeIdx (i : QueueId) (f : Queue → Queue) : (s.modQueue i f).freeIdx = s.freeIdx := by cases i <;> rfl
@[simp] theorem modQueue_pending (i : QueueId) (f : Queue → Queue) : (s.modQueue i f).pending = s.pending := by cases i <;> rfl

/-! ### modTr: a transport -/

@[simp] theorem modTr_tu (t : Transport) (f : TrState → TrState) : (s.modTr t f).tu = s.tu := rfl
@[simp] theorem modTr_ev (t : Transport) (f : TrState → TrState) : (s.modTr t f).ev = s.ev := rfl
@[simp] theorem modTr_fab (t : Transport) (f : TrState → TrState) : (s.modTr t f).fab = s.fab := rfl
@[simp] theorem modTr_sys (t : Transport) (f : TrState → TrState) : (s.modTr t f).sys = s.sys := rfl
@[simp] theorem modTr_upA (t : Transport) (f : TrState → TrState) : (s.modTr t f).upA = s.upA := rfl
@[simp] theorem modTr_upB (t : Transport) (f : TrState → TrState) : (s.modTr t f).upB = s.upB := rfl
@[simp] theorem modTr_ports (t : Transport) (f : TrState → TrState) : (s.modTr t f).ports = s.ports := rfl
@[simp] theorem modTr_spes (t : Transport) (f : TrState → TrState) : (s.modTr t f).spes = s.spes := rfl
@[simp] theorem modTr_vpA (t : Transport) (f : TrState → TrState) : (s.modTr t f).vpA = s.vpA := rfl
@[simp] theorem modTr_vpB (t : Transport) (f : TrState → TrState) : (s.modTr t f).vpB = s.vpB := rfl
@[simp] theorem modTr_plan (t : Transport) (f : TrState → TrState) : (s.modTr t f).plan = s.plan := rfl
@[simp] theorem modTr_pdes (t : Transport) (f : TrState → TrState) : (s.modTr t f).pdes = s.pdes := rfl
@[simp] theorem modTr_ppcs (t : Transport) (f : TrState → TrState) : (s.modTr t f).ppcs = s.ppcs := rfl
@[simp] theorem modTr_convs (t : Transport) (f : TrState → TrState) : (s.modTr t f).convs = s.convs := rfl
@[simp] theorem modTr_segA (t : Transport) (f : TrState → TrState) : (s.modTr t f).segA = s.segA := rfl
@[simp] theorem modTr_segB (t : Transport) (f : TrState → TrState) : (s.modTr t f).segB = s.segB := rfl
@[simp] theorem modTr_feedA (t : Transport) (f : TrState → TrState) : (s.modTr t f).feedA = s.feedA := rfl
@[simp] theorem modTr_feedB (t : Transport) (f : TrState → TrState) : (s.modTr t f).feedB = s.feedB := rfl
@[simp] theorem modTr_pba (t : Transport) (f : TrState → TrState) : (s.modTr t f).pba = s.pba := rfl
@[simp] theorem modTr_pair (t : Transport) (f : TrState → TrState) : (s.modTr t f).pair = s.pair := rfl
@[simp] theorem modTr_crock (t : Transport) (f : TrState → TrState) : (s.modTr t f).crock = s.crock := rfl
@[simp] theorem modTr_sieve (t : Transport) (f : TrState → TrState) : (s.modTr t f).sieve = s.sieve := rfl
@[simp] theorem modTr_freeIdx (t : Transport) (f : TrState → TrState) : (s.modTr t f).freeIdx = s.freeIdx := rfl
@[simp] theorem modTr_pending (t : Transport) (f : TrState → TrState) : (s.modTr t f).pending = s.pending := rfl

/-! ### modSieve: a Sieve channel -/

@[simp] theorem modSieve_tu (c : Nat) (f : SieveCh → SieveCh) : (s.modSieve c f).tu = s.tu := rfl
@[simp] theorem modSieve_ev (c : Nat) (f : SieveCh → SieveCh) : (s.modSieve c f).ev = s.ev := rfl
@[simp] theorem modSieve_cmd (c : Nat) (f : SieveCh → SieveCh) : (s.modSieve c f).cmd = s.cmd := rfl
@[simp] theorem modSieve_fab (c : Nat) (f : SieveCh → SieveCh) : (s.modSieve c f).fab = s.fab := rfl
@[simp] theorem modSieve_sys (c : Nat) (f : SieveCh → SieveCh) : (s.modSieve c f).sys = s.sys := rfl
@[simp] theorem modSieve_upA (c : Nat) (f : SieveCh → SieveCh) : (s.modSieve c f).upA = s.upA := rfl
@[simp] theorem modSieve_upB (c : Nat) (f : SieveCh → SieveCh) : (s.modSieve c f).upB = s.upB := rfl
@[simp] theorem modSieve_ports (c : Nat) (f : SieveCh → SieveCh) : (s.modSieve c f).ports = s.ports := rfl
@[simp] theorem modSieve_spes (c : Nat) (f : SieveCh → SieveCh) : (s.modSieve c f).spes = s.spes := rfl
@[simp] theorem modSieve_vpA (c : Nat) (f : SieveCh → SieveCh) : (s.modSieve c f).vpA = s.vpA := rfl
@[simp] theorem modSieve_vpB (c : Nat) (f : SieveCh → SieveCh) : (s.modSieve c f).vpB = s.vpB := rfl
@[simp] theorem modSieve_plan (c : Nat) (f : SieveCh → SieveCh) : (s.modSieve c f).plan = s.plan := rfl
@[simp] theorem modSieve_pdes (c : Nat) (f : SieveCh → SieveCh) : (s.modSieve c f).pdes = s.pdes := rfl
@[simp] theorem modSieve_ppcs (c : Nat) (f : SieveCh → SieveCh) : (s.modSieve c f).ppcs = s.ppcs := rfl
@[simp] theorem modSieve_convs (c : Nat) (f : SieveCh → SieveCh) : (s.modSieve c f).convs = s.convs := rfl
@[simp] theorem modSieve_segA (c : Nat) (f : SieveCh → SieveCh) : (s.modSieve c f).segA = s.segA := rfl
@[simp] theorem modSieve_segB (c : Nat) (f : SieveCh → SieveCh) : (s.modSieve c f).segB = s.segB := rfl
@[simp] theorem modSieve_feedA (c : Nat) (f : SieveCh → SieveCh) : (s.modSieve c f).feedA = s.feedA := rfl
@[simp] theorem modSieve_feedB (c : Nat) (f : SieveCh → SieveCh) : (s.modSieve c f).feedB = s.feedB := rfl
@[simp] theorem modSieve_pba (c : Nat) (f : SieveCh → SieveCh) : (s.modSieve c f).pba = s.pba := rfl
@[simp] theorem modSieve_pair (c : Nat) (f : SieveCh → SieveCh) : (s.modSieve c f).pair = s.pair := rfl
@[simp] theorem modSieve_crock (c : Nat) (f : SieveCh → SieveCh) : (s.modSieve c f).crock = s.crock := rfl
@[simp] theorem modSieve_freeIdx (c : Nat) (f : SieveCh → SieveCh) : (s.modSieve c f).freeIdx = s.freeIdx := rfl
@[simp] theorem modSieve_pending (c : Nat) (f : SieveCh → SieveCh) : (s.modSieve c f).pending = s.pending := rfl

/-! ### drawn: a free value drawn -/

@[simp] theorem drawn_tu : s.drawn.tu = s.tu := rfl
@[simp] theorem drawn_ev : s.drawn.ev = s.ev := rfl
@[simp] theorem drawn_cmd : s.drawn.cmd = s.cmd := rfl
@[simp] theorem drawn_fab : s.drawn.fab = s.fab := rfl
@[simp] theorem drawn_sys : s.drawn.sys = s.sys := rfl
@[simp] theorem drawn_upA : s.drawn.upA = s.upA := rfl
@[simp] theorem drawn_upB : s.drawn.upB = s.upB := rfl
@[simp] theorem drawn_ports : s.drawn.ports = s.ports := rfl
@[simp] theorem drawn_spes : s.drawn.spes = s.spes := rfl
@[simp] theorem drawn_vpA : s.drawn.vpA = s.vpA := rfl
@[simp] theorem drawn_vpB : s.drawn.vpB = s.vpB := rfl
@[simp] theorem drawn_plan : s.drawn.plan = s.plan := rfl
@[simp] theorem drawn_pdes : s.drawn.pdes = s.pdes := rfl
@[simp] theorem drawn_ppcs : s.drawn.ppcs = s.ppcs := rfl
@[simp] theorem drawn_convs : s.drawn.convs = s.convs := rfl
@[simp] theorem drawn_segA : s.drawn.segA = s.segA := rfl
@[simp] theorem drawn_segB : s.drawn.segB = s.segB := rfl
@[simp] theorem drawn_feedA : s.drawn.feedA = s.feedA := rfl
@[simp] theorem drawn_feedB : s.drawn.feedB = s.feedB := rfl
@[simp] theorem drawn_pba : s.drawn.pba = s.pba := rfl
@[simp] theorem drawn_pair : s.drawn.pair = s.pair := rfl
@[simp] theorem drawn_crock : s.drawn.crock = s.crock := rfl
@[simp] theorem drawn_sieve : s.drawn.sieve = s.sieve := rfl
@[simp] theorem drawn_pending : s.drawn.pending = s.pending := rfl

/-! ### A part reads as it was written, its neighbours as before -/

theorem getD_modAt {α} (l : List α) (i : Nat) (f : α → α) (d : α) (h : i < l.length) : (modAt l i f).getD i d = f (l.getD i d) := by
  simp [modAt, List.getD_eq_getElem?_getD, List.getElem?_eq_getElem h]

theorem getD_modAt_ne {α} (l : List α) (i j : Nat) (f : α → α) (d : α) (h : i ≠ j) : (modAt l i f).getD j d = l.getD j d := by
  simp [modAt, List.getD_eq_getElem?_getD, h]

@[simp] theorem up_modUp (u : Up) (f : Upstream → Upstream) : (s.modUp u f).up u = f (s.up u) := by cases u <;> rfl

theorem up_modUp_ne {u v : Up} (f : Upstream → Upstream) (h : u ≠ v) : (s.modUp u f).up v = s.up v := by
  cases u <;> cases v <;> first | rfl | exact absurd rfl h

@[simp] theorem seg_modSeg (b : Bool) (f : Segment → Segment) : (s.modSeg b f).seg b = f (s.seg b) := by cases b <;> rfl

@[simp] theorem feed_modFeed (b : Bool) (f : Feed → Feed) : (s.modFeed b f).feed b = f (s.feed b) := by cases b <;> rfl

@[simp] theorem queue_modQueue (i : QueueId) (f : Queue → Queue) : (s.modQueue i f).queue i = f (s.queue i) := by cases i <;> rfl

theorem queue_modQueue_ne {i j : QueueId} (f : Queue → Queue) (h : i ≠ j) : (s.modQueue i f).queue j = s.queue j := by
  cases i <;> cases j <;> first | rfl | exact absurd rfl h

theorem port_modPort {n : Nat} (f : Port → Port) (h : 1 ≤ n) (hl : n ≤ s.ports.length) : (s.modPort n f).port n = f (s.port n) := by
  unfold State.modPort
  rw [if_neg (by omega)]
  exact getD_modAt _ _ f _ (by omega)

theorem port_modPort_ne {n k : Nat} (f : Port → Port) (h : n ≠ k) (hk : 1 ≤ k) : (s.modPort n f).port k = s.port k := by
  unfold State.modPort
  split
  · rfl
  · exact getD_modAt_ne _ _ _ f _ (by omega)

theorem spe_modSpe {n : Nat} (f : Spe → Spe) (h : 1 ≤ n) (hl : n ≤ s.spes.length) : (s.modSpe n f).spe n = f (s.spe n) := by
  unfold State.modSpe
  rw [if_neg (by omega)]
  exact getD_modAt _ _ f _ (by omega)

theorem spe_modSpe_ne {n k : Nat} (f : Spe → Spe) (h : n ≠ k) (hk : 1 ≤ k) : (s.modSpe n f).spe k = s.spe k := by
  unfold State.modSpe
  split
  · rfl
  · exact getD_modAt_ne _ _ _ f _ (by omega)

theorem pde_modPde {n : Nat} (f : Pde → Pde) (h : 1 ≤ n) (hl : n ≤ s.pdes.length) : (s.modPde n f).pde n = f (s.pde n) := by
  unfold State.modPde
  rw [if_neg (by omega)]
  exact getD_modAt _ _ f _ (by omega)

theorem pde_modPde_ne {n k : Nat} (f : Pde → Pde) (h : n ≠ k) (hk : 1 ≤ k) : (s.modPde n f).pde k = s.pde k := by
  unfold State.modPde
  split
  · rfl
  · exact getD_modAt_ne _ _ _ f _ (by omega)

theorem ppc_modPpc {n : Nat} (f : Ppc → Ppc) (h : 1 ≤ n) (hl : n ≤ s.ppcs.length) : (s.modPpc n f).ppc n = f (s.ppc n) := by
  unfold State.modPpc
  rw [if_neg (by omega)]
  exact getD_modAt _ _ f _ (by omega)

theorem ppc_modPpc_ne {n k : Nat} (f : Ppc → Ppc) (h : n ≠ k) (hk : 1 ≤ k) : (s.modPpc n f).ppc k = s.ppc k := by
  unfold State.modPpc
  split
  · rfl
  · exact getD_modAt_ne _ _ _ f _ (by omega)

theorem conv_modConv {n : Nat} (f : Converter → Converter) (h : 1 ≤ n) (hl : n ≤ s.convs.length) : (s.modConv n f).conv n = f (s.conv n) := by
  unfold State.modConv
  rw [if_neg (by omega)]
  exact getD_modAt _ _ f _ (by omega)

theorem conv_modConv_ne {n k : Nat} (f : Converter → Converter) (h : n ≠ k) (hk : 1 ≤ k) : (s.modConv n f).conv k = s.conv k := by
  unfold State.modConv
  split
  · rfl
  · exact getD_modAt_ne _ _ _ f _ (by omega)

theorem pb_modPb {n : Nat} (f : PbaPort → PbaPort) (h : 1 ≤ n) (hl : n ≤ s.pba.ports.length) : (s.modPb n f).pb n = f (s.pb n) := by
  unfold State.modPb
  rw [if_neg (by omega)]
  exact getD_modAt _ _ f _ (by omega)

theorem pb_modPb_ne {n k : Nat} (f : PbaPort → PbaPort) (h : n ≠ k) (hk : 1 ≤ k) : (s.modPb n f).pb k = s.pb k := by
  unfold State.modPb
  split
  · rfl
  · exact getD_modAt_ne _ _ _ f _ (by omega)

theorem link_modLink {l : Nat} (f : FabLink → FabLink) (h : l < s.fab.links.length) : (s.modLink l f).link l = f (s.link l) :=
  getD_modAt _ _ f _ h

theorem link_modLink_ne {l k : Nat} (f : FabLink → FabLink) (h : l ≠ k) : (s.modLink l f).link k = s.link k :=
  getD_modAt_ne _ _ _ f _ h

theorem sieveCh_modSieve {c : Nat} (f : SieveCh → SieveCh) (h : c < s.sieve.length) : (s.modSieve c f).sieveCh c = f (s.sieveCh c) :=
  getD_modAt _ _ f _ h

theorem sieveCh_modSieve_ne {c k : Nat} (f : SieveCh → SieveCh) (h : c ≠ k) : (s.modSieve c f).sieveCh k = s.sieveCh k :=
  getD_modAt_ne _ _ _ f _ h

theorem trState_modTr (t : Transport) (f : TrState → TrState) : (s.modTr t f).trState t = { f (s.trState t) with tr := t } := by
  simp [State.modTr, State.trState]

theorem trState_modTr_ne (t u : Transport) (f) (h : u ≠ t) : (s.modTr t f).trState u = s.trState u := by
  have hb : (t == u) = false := by simp [Ne.symm h]
  simp only [State.modTr, State.trState, List.find?_cons, hb]
  congr 1
  induction s.cmd.trs with
  | nil => rfl
  | cons x xs ih =>
    rw [List.filter_cons]
    by_cases hx : x.tr = u
    · have : (x.tr != t) = true := by simp [hx, h]
      rw [if_pos this, List.find?_cons, List.find?_cons]; simp [hx]
    · split
      · rw [List.find?_cons, List.find?_cons, ih]
      · rw [ih, List.find?_cons]; have : (x.tr == u) = false := by simp [hx]
        rw [this]

end Sys2Proof.Machine
end

