-- ==== Sys2Proof/Laws/Strict.lean ====
section
/-!
SUPPORT. Laws/Strict.lean: the CRC's and the digest's loops with every value computed before the next step. They are equal to
the model's loops; the tests use them on strings of thousands of bytes.
-/

namespace Sys2Proof.Laws
open Sys2Proof.Machine

/-- The continuation gets a number that is computed. -/
def forced {α : Type} (n : Nat) (k : Nat → α) : α :=
  match n with
  | 0 => k 0
  | m + 1 => k (m + 1)

theorem forced_eq {α : Type} (n : Nat) (k : Nat → α) : forced n k = k n := by cases n <;> rfl

/-- A fold over bytes, strict in its register. -/
def foldStrict (f : Nat → Byte → Nat) : List Byte → Nat → Nat
  | [], a => a
  | x :: xs, a => forced (f a x) (fun b => foldStrict f xs b)

theorem foldl_eq_strict (f : Nat → Byte → Nat) : ∀ xs a, xs.foldl f a = foldStrict f xs a := by
  intro xs; induction xs with
  | nil => intro a; rfl
  | cons x xs ih => intro a; rw [foldStrict, forced_eq, ← ih]; rfl

/-- The rounds of SHA-256, strict in the two new variables and the new word of the schedule. -/
def roundsStrict : List Nat → List Nat → List Nat → (List Nat → List Nat) → List Nat
  | k :: ks, w, [a, b, c, d, e, f, g, h], q =>
    forced (h + (ror32 6 e ^^^ ror32 11 e ^^^ ror32 25 e) + ((e &&& f) ^^^ ((2 ^ 32 - 1 - e) &&& g)) + k + w.getD 0 0)
      fun t =>
    forced ((t + ((ror32 2 a ^^^ ror32 13 a ^^^ ror32 22 a) + ((a &&& b) ^^^ (a &&& c) ^^^ (b &&& c)))) % 2 ^ 32) fun a' =>
    forced ((d + t) % 2 ^ 32) fun e' =>
    forced (shaNextW w) fun n =>
    roundsStrict ks (w.drop 1 ++ [n]) [a', a, b, c, e', e, f, g] q
  | ks, w, v, q => q (shaRounds ks w v)

theorem roundsStrict_eq (q : List Nat → List Nat) : ∀ ks w v, roundsStrict ks w v q = q (shaRounds ks w v) := by
  intro ks; induction ks with
  | nil => intro w v; rfl
  | cons k ks ih =>
    intro w v
    unfold roundsStrict
    split
    · next he =>
        cases he
        simp only [forced_eq, ih]
        rfl
    · rfl

/-- The blocks of SHA-256 over strict rounds. -/
def blocksStrict : Nat → List Byte → List Nat → List Nat
  | 0, _, h => h
  | n + 1, bs, h => roundsStrict shaK (shaWords 16 (bs.take 64)) h
      (fun v => blocksStrict n (bs.drop 64) (List.zipWith (fun x y => (x + y) % 2 ^ 32) h v))

theorem shaBlocks_eq_strict : ∀ n bs h, shaBlocks n bs h = blocksStrict n bs h := by
  intro n; induction n with
  | zero => intro bs h; rfl
  | succ n ih => intro bs h; rw [shaBlocks, blocksStrict, roundsStrict_eq, ih]

/-- A byte that no cell lists reads as 0. -/
theorem readCell_clear {lo hi : Nat} : ∀ (m : List Host.Cell), m.all (fun x => decide (x.1 < lo) || decide (hi ≤ x.1)) = true →
    ∀ a, lo ≤ a → a < hi → readCell m a = 0 := by
  intro m; induction m with
  | nil => intro _ _ _ _; rfl
  | cons x xs ih =>
    obtain ⟨y, b⟩ := x
    intro h a h1 h2
    simp only [List.all_cons, Bool.and_eq_true, Bool.or_eq_true, decide_eq_true_eq] at h
    unfold readCell
    rw [if_neg (by omega)]
    split
    · rfl
    · exact ih h.2 a h1 h2

/-- A stretch that lists nothing reads as zeros. -/
theorem readCells_clear (m : List Host.Cell) : ∀ n a, m.all (fun x => decide (x.1 < a) || decide (a + n ≤ x.1)) = true →
    readCells m a n = zeros n := by
  intro n a h
  have : ∀ k b, a ≤ b → b + k ≤ a + n → readCells m b k = zeros k := by
    intro k; induction k with
    | zero => intro b _ _; rfl
    | succ k ih =>
      intro b h1 h2
      rw [readCells, readCell_clear m h b h1 (by omega), ih (b + 1) (by omega) (by omega)]
      rfl
  exact this n a (Nat.le_refl a) (Nat.le_refl _)

end Sys2Proof.Laws
end

