-- ==== Sys2Proof/Machine/BallMap.lean ====
section
/-!
DEFINITION. Machine/BallMap.lean: the ball grid: which signal or supply each of the 784 balls carries (R458–R464). Rows are
counted by number as R458 does: row 1 is A, row 6 F, row 9 J, row 14 P, row 15 T, row 19 Y, row 23 AD, row 28 AJ.
-/

namespace Sys2Proof.Machine

/-- A signal of a downstream port (R460, R461). -/
inductive PortSig where
  | dp | dm | cc1 | cc2 | vbs | cvs | isp | isn | gate | dsch | txp | txn | rxp | rxn
  deriving DecidableEq, Repr

/-- A signal of UA or UB (R462). -/
inductive UpSig where
  | dp | dm | cc1 | cc2 | vbs | cvs | isp | isn | gsrc | gsnk | txp | txn | rxp | rxn | vin
  deriving DecidableEq, Repr

/-- A rail (R464, R468). -/
inductive Rail where
  | vdd | vddp | vddh | vdda | vddnv | vaon | vddio
  deriving DecidableEq, Repr

/-- What a ball carries (R459). -/
inductive BallSig where
  | port (p : Nat) (x : PortSig)
  | up (b : Bool) (x : UpSig)
  /-- L0–L3: TX or RX, P or N -/
  | fab (l : Nat) (rx n : Bool)
  | fref (n : Bool)
  /-- FA or FB: SNS, ISP, ISN, GATE, PFW_N by number 0–4 -/
  | feed (b : Bool) (k : Nat)
  | busSns
  /-- PMA or PMB: CLK, DAT, ALERT_N, EN by number 0–3 -/
  | pmbus (b : Bool) (k : Nat)
  /-- XI, XO, TSYNC_IN, TSYNC_OUT by number 0–3 -/
  | clock (k : Nat)
  /-- SPI_SCK, SPI_CS_N, SPI_SDI, SPI_SDO, SMB_CLK, SMB_DAT, SMB_ALERT_N, IRQ_N, RESET_N, PGOOD by number 0–9 -/
  | side (k : Nat)
  /-- HB_OUT, HB_IN, TKO_OUT, TKO_IN by number 0–3 -/
  | pair (k : Nat)
  | gpio (k : Nat)
  | strap (k : Nat)
  /-- TCK, TMS, TDI, TDO, TRST_N by number 0–4 -/
  | jtag (k : Nat)
  | vconn (k : Nat)
  | regen
  | rail (r : Rail)
  | gnd
  deriving DecidableEq, Repr

/-! ### Port blocks (R460, R461) -/

/-- The along index of port n's block. -/
def alongOf (n : Nat) : Nat :=
  let i := (n - 1) % 8
  6 + 2 * i + (if 4 ≤ i then 2 else 0)

/-- Row and column of the ball at along index t and depth d on side s. -/
def sideBall (s t d : Nat) : Nat × Nat :=
  match s with
  | 0 => (d, t)
  | 1 => (t, 29 - d)
  | 2 => (29 - d, 29 - t)
  | _ => (29 - t, d)

/-- Depth of a USB 2.0 port signal, and whether it stands at the along index or after it. -/
def sigPlace : PortSig → Option (Nat × Nat)
  | .dp => some (1, 0) | .dm => some (1, 1) | .cc1 => some (2, 0) | .cc2 => some (2, 1) | .vbs => some (3, 0)
  | .cvs => some (3, 1) | .isp => some (4, 0) | .isn => some (4, 1) | .gate => some (5, 0) | .dsch => some (5, 1)
  | _ => none

/-- Row and column of a port's signal; the SuperSpeed pairs exist on ports 1–8 (R461). -/
def portBall (n : Nat) (x : PortSig) : Option (Nat × Nat) :=
  match sigPlace x with
  | some (d, k) => if 1 ≤ n ∧ n ≤ 32 then some (sideBall ((n - 1) / 8) (alongOf n + k) d) else none
  | none =>
    if 1 ≤ n ∧ n ≤ 8 then
      match x with
      | .txp => some (6, alongOf n) | .txn => some (6, alongOf n + 1)
      | .rxp => some (8, alongOf n) | .rxn => some (8, alongOf n + 1)
      | _ => none
    else none

/-- The signals of a port. -/
def portSigs : List PortSig :=
  [.dp, .dm, .cc1, .cc2, .vbs, .cvs, .isp, .isn, .gate, .dsch, .txp, .txn, .rxp, .rxn]

/-- Every port's balls. -/
def portBalls : List ((Nat × Nat) × BallSig) :=
  ((List.range 32).map (· + 1)).flatMap (fun n =>
    portSigs.filterMap (fun x => (portBall n x).map (fun b => (b, BallSig.port n x))))

/-! ### Corners (R462) and gaps (R463) -/

/-- Balls in successive columns of a row. -/
def rowOf (r c : Nat) (xs : List BallSig) : List ((Nat × Nat) × BallSig) := xs.mapIdx (fun i x => ((r, c + i), x))

def topLeft : List ((Nat × Nat) × BallSig) :=
  rowOf 1 1 [.gnd, .up false .dp, .up false .dm, .up false .cc1, .up false .cc2]
    ++ rowOf 2 1 [.up false .txp, .gnd, .up false .vbs, .up false .vin, .up false .gsrc]
    ++ rowOf 3 1 [.up false .txn, .up false .rxp, .up false .rxn, .up false .cvs, .up false .gsnk]
    ++ rowOf 4 1 [.clock 0, .clock 1, .up false .isp, .up false .isn, .pair 3]
    ++ rowOf 5 1 [.clock 2, .clock 3, .pair 0, .pair 1, .pair 2]

def bottomLeft : List ((Nat × Nat) × BallSig) :=
  rowOf 24 1 [.jtag 0, .jtag 1, .jtag 2, .jtag 3, .jtag 4]
    ++ rowOf 25 1 [.strap 0, .strap 1, .strap 2, .strap 3, .up true .isn]
    ++ rowOf 26 1 [.up true .txn, .up true .rxp, .up true .rxn, .up true .cvs, .up true .isp]
    ++ rowOf 27 1 [.up true .txp, .gnd, .up true .vbs, .up true .vin, .up true .gsnk]
    ++ rowOf 28 1 [.up true .gsrc, .up true .dp, .up true .dm, .up true .cc1, .up true .cc2]

def topRight : List ((Nat × Nat) × BallSig) :=
  rowOf 1 24 [.fab 0 false false, .fab 0 false true, .gnd, .fab 1 false false, .fab 1 false true]
    ++ rowOf 2 24 [.fab 0 true false, .fab 0 true true, .gnd, .fab 1 true false, .fab 1 true true]
    ++ rowOf 3 24 [.gnd, .fref false, .fref true, .gnd, .gnd]
    ++ rowOf 4 24 [.fab 2 false false, .fab 2 false true, .gnd, .fab 3 false false, .fab 3 false true]
    ++ rowOf 5 24 [.fab 2 true false, .fab 2 true true, .gnd, .fab 3 true false, .fab 3 true true]

def bottomRight : List ((Nat × Nat) × BallSig) :=
  rowOf 24 24 [.feed false 0, .feed false 1, .feed false 2, .feed false 4, .regen]
    ++ rowOf 25 24 [.feed false 3, .gnd, .busSns, .gnd, .feed true 4]
    ++ rowOf 26 24 [.feed true 3, .feed true 0, .feed true 1, .feed true 2, .gnd]
    ++ rowOf 27 24 [.pmbus false 0, .pmbus false 1, .pmbus false 2, .pmbus false 3, .gnd]
    ++ rowOf 28 24 [.pmbus true 0, .pmbus true 1, .pmbus true 2, .pmbus true 3, .gnd]

/-- The two balls of a gap at one depth, in the order of R463's columns: along indices 14 and 15. -/
def gapOf (s d : Nat) (a b : BallSig) : List ((Nat × Nat) × BallSig) := [(sideBall s 14 d, a), (sideBall s 15 d, b)]

def gaps : List ((Nat × Nat) × BallSig) :=
  gapOf 0 1 (.vconn 0) (.vconn 0) ++ gapOf 0 2 (.side 0) (.side 1) ++ gapOf 0 3 (.side 2) (.side 3)
    ++ gapOf 0 4 (.side 4) (.side 5) ++ gapOf 0 5 (.side 6) .gnd
    ++ gapOf 1 1 (.vconn 1) (.vconn 1) ++ gapOf 1 2 (.side 7) (.side 8) ++ gapOf 1 3 (.side 9) .gnd
    ++ gapOf 1 4 (.gpio 0) (.gpio 1) ++ gapOf 1 5 (.gpio 2) (.gpio 3)
    ++ gapOf 2 1 (.vconn 2) (.vconn 2) ++ gapOf 2 2 (.gpio 4) (.gpio 5) ++ gapOf 2 3 (.gpio 6) (.gpio 7)
    ++ gapOf 2 4 (.gpio 8) (.gpio 9) ++ gapOf 2 5 (.gpio 10) .gnd
    ++ gapOf 3 1 (.vconn 3) (.vconn 3) ++ gapOf 3 2 (.gpio 11) (.gpio 12) ++ gapOf 3 3 (.gpio 13) (.gpio 14)
    ++ gapOf 3 4 (.gpio 15) .gnd ++ gapOf 3 5 .gnd .gnd

/-! ### The inner block (R464) -/

/-- The rail of an inner ball of rows 9–23, columns 6–23, or ground. -/
def innerRail (r c : Nat) : Option Rail :=
  let even := c % 2 == 0
  let four (x : Rail) : Option Rail :=
    if (8 ≤ c && c ≤ 11) || (13 ≤ c && c ≤ 16) || (18 ≤ c && c ≤ 21) then some x else none
  if r = 9 then (if even && c ≤ 22 then some .vdda else none)
  else if r = 10 ∨ r = 22 then (if even && c ≤ 22 then some .vddh else none)
  else if r = 23 then (if even && c ≤ 22 then some .vddio else none)
  else if c = 6 then some (if r ≤ 17 then .vdda else .vaon)
  else if c = 23 then some (if r ≤ 17 then .vddio else .vddnv)
  else if r = 11 ∨ r = 21 then (if even && c != 14 then some .vddh else none)
  else if r = 12 ∨ r = 20 then (if even then some .vddp else none)
  else if r = 13 ∨ r = 19 then four .vddp
  else four .vdd

/-- Every ball that is not of the inner block or of rows F–H. -/
def outerBalls : List ((Nat × Nat) × BallSig) :=
  portBalls ++ topLeft ++ bottomLeft ++ topRight ++ bottomRight ++ gaps

/-- What the ball at a row and column carries; the balls of rows F–H that carry no pair are ground (R461). -/
def ballAt (r c : Nat) : Option BallSig :=
  if 9 ≤ r ∧ r ≤ 23 ∧ 6 ≤ c ∧ c ≤ 23 then some ((innerRail r c).elim .gnd .rail)
  else
    match outerBalls.find? (fun x => x.1 == (r, c)) with
    | some x => some x.2
    | none => if 6 ≤ r ∧ r ≤ 8 ∧ 6 ≤ c ∧ c ≤ 23 then some .gnd else none

end Sys2Proof.Machine
end

