-- ==== Sys2Proof/Machine/Balls.lean ====
section
/-!
DEFINITION. Machine/Balls.lean: what the chip drives on its balls, as a function of its state (R17, R229–R232, R423, R465,
R470, R475). A line that a chip does not drive floats, `none` here.
-/

namespace Sys2Proof.Machine

/-! ### Port line drivers (R224, R231) -/

/-- The port line drivers are enabled: the port domains run, and TKO gives the chip the right to drive (R231, R423, R470). -/
def State.lineDrivers (s : State) : Bool := s.meterRuns && s.drives

/-- Pn_DP and Pn_DM: what the DPE puts on the wire of port p. -/
def State.usbOut (s : State) (p : Nat) : Option Wire := if s.lineDrivers then some (s.port p).wire else none

/-- UA_ or UB_DP and DM: what the upstream answers its host. -/
def State.upOut (s : State) (u : Up) : Option Ans := if s.lineDrivers then some (s.up u).ans else none

/-- A sink's or a dead-battery port's CC state presents Rd (R134, R138, R139). -/
def presentsRd : Cc → Bool
  | .unattachedSnk => true | .attachWaitSnk => true | .trySnk => true | .tryWaitSnk => true | .attachedSnk => true
  | .deadBattery => true
  | _ => false

/-- In HIBERNATE the CC watch of the chip that was ACTIVE at entry presents Rp Default on the downstream ports with a CC use
(R421, R422). -/
def State.ccWatch (s : State) (n : Nat) : Bool :=
  s.sys.pstate == .hibernate && s.sys.power.ccWake && decide (1 ≤ n ∧ n ≤ 32) && (s.pde n).ccUse != 0
    && (!s.isPair || s.pair.tkoOut)

/-- The PDE of port n drives its CC balls: UA and UB also in DEAD-FEED before REGEN (R413, R423). -/
def State.ccDrives (s : State) (n : Nat) : Bool :=
  s.lineDrivers || (isUp n && s.sys.pstate == .deadFeed && s.drives)

/-- Rp level on the CC balls of port n: 0 Default, 1 1.5 A, 2 3.0 A. -/
def State.rpOut (s : State) (n : Nat) : Option Nat :=
  if s.ccWatch n then some 0
  else if s.ccDrives n && rpLevel s n != 3 then some (rpLevel s n) else none

/-- Rd on the CC balls of UA or UB: the PDE's, or the dead-battery clamp's, which needs no supply (R139, R421, R423). -/
def State.rdOut (s : State) (n : Nat) : Bool :=
  isUp n && (match s.sys.pstate with
    | .off => true | .hibernate => true
    | _ => s.sys.held != .no || (s.ccDrives n && presentsRd (s.pde n).cc))

/-- The VCONN switch of port n is closed. -/
def State.vconnOut (s : State) (n : Nat) : Bool := s.lineDrivers && (s.pde n).vconn

/-- The PD message on the CC line of port n, with the GoodCRC it awaits. -/
def State.bmcOut (s : State) (n : Nat) : Option PdMsg := if s.ccDrives n then (s.pde n).tx else none

/-- Pn_DSCH. -/
def State.dschOut (s : State) (n : Nat) : Bool := s.lineDrivers && decide (n ≤ 32) && (s.ppc n).dsch

/-- The transaction on a PMBus segment. -/
def State.pmbusOut (s : State) (b : Bool) : Option Txn :=
  if s.lineDrivers then (s.seg b).cur.map (·.1) else none

/-! ### Gates (R166, R195, R231): not gated by TKO -/

/-- Pn_GATE, UA_GSRC and UB_GSRC. -/
def State.gateOut (s : State) (n : Nat) : Bool := s.meterRuns && s.drivesGates && (s.ppc n).gate

/-- UA_GSNK and UB_GSNK, in DEAD-FEED from the dead-feed regulator. -/
def State.gsnkOut (s : State) (n : Nat) : Bool :=
  (s.meterRuns || s.sys.pstate == .deadFeed) && s.drivesGates && (s.ppc n).gsnk

/-- FA_GATE and FB_GATE: each chip's own (R220). -/
def State.feedGateOut (s : State) (b : Bool) : Bool := s.meterRuns && (s.feed b).gate

/-- FA_PFW_N and FB_PFW_N pulled low; also in HIBERNATE (R423). -/
def State.pfwOut (s : State) (b : Bool) : Bool := s.sys.pstate == .hibernate || s.pfwLow b

/-! ### The wires of a pair (R229, R232, R422, R475) -/

/-- HB_OUT carries the square wave. -/
def State.hbOutBall (s : State) : Bool := s.isPair && s.meterRuns && s.pair.hbOut

/-- TKO_OUT: a single chip drives it active from the start of its port domains; in HIBERNATE it keeps its level (R422). -/
def State.tkoOutBall (s : State) : Bool :=
  if s.isPair then s.pair.tkoOut && (s.meterRuns || s.sys.pstate == .hibernate) else s.meterRuns

/-- GPIO15 of a paired chip drives the partner's RESET_N low for 5.0 µs (R220, R232). -/
def State.partnerResetBall (s : State) : Bool :=
  s.isPair && s.pair.resetOut && decide (s.ticks < s.pair.resetAt + 5000)

/-! ### Others -/

/-- PMA_EN and PMB_EN (R223); float unless the METER island runs. -/
def State.pmEnBall (s : State) : Bool := s.segEn

/-- TSYNC_OUT (R291). -/
def State.tsyncOutBall (s : State) : Bool := s.meterRuns && s.tu.out

/-- IRQ_N low: by R306, in HIBERNATE for WAKE_FAIL alone (R421, R423). -/
def State.irqBall (s : State) : Bool :=
  match s.sys.pstate with
  | .off => false
  | .hibernate => s.sys.wakeFail
  | .deadFeed => s.sys.regen && s.irqLow
  | _ => s.sys.held == .no && s.irqLow

end Sys2Proof.Machine
end

