-- ==== Sys2Proof/Tests/Slice0.lean ====
section
/-!
SUPPORT. Tests/Slice0.lean: values that the specification works out, ill-formed commands that the checks refuse, and for every
statement states and operands that meet its hypotheses.
-/

open Sys2Proof.Machine

namespace Sys2Proof.Tests

set_option Elab.async false

/-! ### Values that the specification works out -/

/-- The Check and Empty values of the four CRCs (R330). -/
theorem test_crc_values : (List.range 4).map (fun p => crcOf p (asciiBytes "123456789")) = [0xF4, 0xB4C8, 0xCBF43926, 0xE3069283] ∧
    (List.range 4).map (fun p => crcOf p []) = [0, 0, 0, 0] := by decide +kernel

/-- SHA-256 of "abc", the example of FIPS 180-4. -/
theorem test_sha256_abc : beWord (sha256 (asciiBytes "abc")) =
    0xba7816bf8f01cfea414140de5dae2223b00361a396177a9cb410ff61f20015ad := by decide +kernel

/-- "Trip figures for a 48 V port": ILIM, VLIM and VFT of a contract of 3.00 A over 4 mΩ (R172, R173). -/
theorem test_trip_figures : ilimOf { rshunt := 4000, ic := 3000, icAlloc := 1500, icMv := 48000 } 50 = 3750 ∧
    vlimCode { rshunt := 4000, ilim := 3750 } = 480 ∧ vftCode { rshunt := 4000, ilim := 3750 } = 240 := by decide +kernel

/-- "The plan for lane 7": port 5's DESC region is cut to one page, port 1's TT_NP region overlaps and is empty (R65). -/
theorem test_plan_lane7 : carve (leBytes 4 0x0901 ++ [(3, 5, 16, 16), (4, 5, 32, 2), (3, 1, 33, 4), (4, 1, 37, 1), (3, 12, 38, 8),
      (4, 12, 46, 1), (1, 9, 47, 1), (2, 9, 48, 1), (1, 1, 40, 1)].flatMap
      (fun x => entryBytes { kind := x.1, owner := x.2.1, first := x.2.2.1, pages := x.2.2.2 })) =
    ([(3, 5, 16, 16), (4, 5, 32, 1), (3, 1, 33, 4), (4, 1, 37, 1), (3, 12, 38, 8), (4, 12, 46, 1), (1, 9, 47, 1), (2, 9, 48, 1)].map
      (fun x => { kind := x.1, owner := x.2.1, first := x.2.2.1, pages := x.2.2.2 }), true) := by decide +kernel

/-- The printer's 16 pages: 2, 63, 63 and 2 buffers (R69). -/
theorem test_printer_buffers : (divide 65536 [{ addr := 0, kind := 0, mps := 64 }, { addr := 1, kind := 2, mps := 512 },
      { addr := 0x82, kind := 2, mps := 512 }, { addr := 0x83, kind := 3, mps := 64 }]).map (·.bufs) = [2, 63, 63, 2] := by decide +kernel

/-- "A trip stamped in store time": θ is 37 ns and PATH_DELAY 150 ns (R288). -/
theorem test_exchange : theta { t1 := 1000000000, t2lo := 1000000113, t3lo := 1000002113, t4 := 1000002300 } 0 = 37 ∧
    pathDelay { t1 := 1000000000, t2lo := 1000000113, t3lo := 1000002113, t4 := 1000002300 } = 150 := by decide +kernel

/-- "A torn record at lane 7": JSEQ 1,000,006 has slot 16,966 at 0x2A9180 (R320, R321). -/
theorem test_ring_slot : ringSlot 1000006 = 16966 ∧ slotAddr 16966 = 0x2A9180 := by decide

/-- "Lane 7's budget": settings of its ports. -/
def lane7 : State :=
  let port (n cls pin : Nat) (s : State) : State := s.modPb n (fun b => { b with cls := cls, pin := pin })
  let s := { State.reset with
    feedA := { State.reset.feedA with st := .on, set := { State.reset.feedA.set with pmax := 460 } },
    feedB := { State.reset.feedB with st := .on, set := { State.reset.feedB.set with pmax := 460 } } }
  port 33 0 60 (port 1 0 0 (port 12 0 0 (port 5 1 0 (port 20 1 150 (port 3 2 0 (port 9 3 0 (port 24 6 0 (port 28 7 0 s))))))))

/-- Its demands in W. -/
def lane7Demand (n : Nat) : Nat :=
  match n with
  | 33 => watts 60 | 1 => watts 36 | 12 => watts 45 | 5 => watts 120 | 20 => watts 240 | 3 => watts 30 | 9 => watts 10
  | 24 => watts 15 | 28 => watts 15 | _ => 0

/-- B is 418.0 W, the allocations are those of the table (R204, R208), and with BUDGET_CAP 394.0 W the printer has 48.0 W. -/
theorem test_lane7_budget : budgetNow lane7 = 4180 ∧
    [33, 34, 1, 12, 5, 20, 3, 9, 24, 28].map (getA (allocate lane7 lane7Demand 4180)) =
      [600, 0, 360, 450, 720, 1500, 150, 100, 150, 150] ∧
    getA (allocate lane7 lane7Demand 3940) 5 = 480 := by decide +kernel

/-- PIN_FLOOR is 241.05 W, and either feed alone covers it, so the table marks only "none" (R214). -/
theorem test_lane7_pin_floor : pinFloor lane7 = 2410 ∧ ewTable lane7 = 1 := by decide +kernel

/-- "Pinning lane 7's printer": with a pin of 80 W the printer has 80.0 W and the payment terminal 37.0 W; PIN_FLOOR is
325.26 W (R206, R208, R214). -/
theorem test_lane7_pin : [5, 1, 12].map (getA (allocate (lane7.modPb 5 (fun b => { b with pin := 80 })) lane7Demand 4180)) =
    [800, 360, 370] ∧ pinFloor (lane7.modPb 5 (fun b => { b with pin := 80 })) = 3252 := by decide +kernel

/-- No word of the opcode table spells a command: it gives no row bits. -/
theorem test_no_words : decodeTableWord 16 0x1234 = none ∧ State.reset.withFetchWord 16 0x1234 = State.reset := ⟨rfl, rfl⟩

/-- On an empty queue the block idles: TIME advances by 4 ns (R283; log entry 5). -/
theorem test_idle_tick : (match step { State.reset with sys := { State.reset.sys with pstate := .active } } with
    | .next t => t.tu.count == State.reset.tu.count + BitVec.ofNat 96 (4 * 2 ^ 32)
    | _ => false) = true := by decide +kernel

/-- How many balls of the inner block carry each rail, and how many ground (R464); the five outer rings have 460 balls, and the
SuperSpeed pairs 32 (R458, R461). -/
theorem test_ball_counts :
    let inner := (List.range 15).flatMap (fun r => (List.range 18).map (fun c => innerRail (9 + r) (6 + c)))
    [some .vdd, some .vddp, some .vddh, some .vdda, some .vddio, some .vaon, some .vddnv, none].map (fun x => inner.count x) =
      [60, 40, 32, 16, 16, 4, 4, 98] ∧ outerBalls.length = 460 + 32 := by decide +kernel

/-- The balls of lane 7's ports 5, 12 and 20 (R460, R461). -/
theorem test_port_balls :
    [PortSig.dp, .dm, .cc1, .gate, .txp, .rxn].map (portBall 5) =
      [some (1, 16), some (1, 17), some (2, 16), some (5, 16), some (6, 16), some (8, 17)] ∧
    [PortSig.dp, .dm, .cc2, .isp, .dsch, .txp].map (portBall 12) =
      [some (12, 28), some (13, 28), some (13, 27), some (12, 25), some (13, 24), none] ∧
    [PortSig.dp, .dm, .vbs, .gate].map (portBall 20) = [some (28, 17), some (28, 16), some (26, 17), some (24, 17)] := by decide +kernel

/-- What a receiver descrambles is what was scrambled, from its 59th bit on whatever its state was (R250). -/
theorem test_scrambler : (descramble 64 0x123456789abcdef (scramble 64 0x123456789abcdef 0x0F3248A50B1D3248).1).1 = 0x0F3248A50B1D3248 ∧
    (descramble 64 0 (scramble 64 0x123456789abcdef 0x0F3248A50B1D3248).1).1 / 2 ^ 58 = 0x0F3248A50B1D3248 / 2 ^ 58 := by decide +kernel

/-! ### Well-formed and ill-formed commands: one ill-formed term for each check, which the check refuses -/

def many (n : Nat) : List Byte := zeros n
def pd : PdHdr := { port := 34, id := 7, rev := 2 }
def tun : TunHdr := { src := 1, toLender := false, up := .a, vport := 34, ep := 1, tseq := 0 }
def ts : TsWord := { link := 3, ladle := false, role := 0, cl := 1, node := 1 }
def ad : Lsa := { uid := 1, seq := 0, claim := 0, fixed := false, rootPrio := 0, cl := 1, links := [] }
def hi : Hello := { uid := 1, claim := 0, link := 0, role := 0, active := true }
def fr : Frame := { vc := 0, kind := 0, hops := 1, down := false, dest := 2, src := 1, kspec := 0, payload := [] }
def sm : Sample := { vbus := 0, vconv := 0, ibus := 0, reg := 0, full := false }
def pk (op : Nat) : Cmd := { tr := .smbus, opcode := op, tag := 1, target := 0, auth := false, noresp := false, payload := [] }

/-- Fields of a packet outside their widths (R339), each alone. -/
theorem smoke_packet : (pk 0).wf = true ∧ { pk 0 with tr := .fabric 241 }.wf = false ∧ (pk 65536).wf = false ∧
    { pk 0 with tag := 65536 }.wf = false ∧ { pk 0 with target := 256 }.wf = false ∧ { pk 0 with payload := many 4089 }.wf = false ∧
    { pk 0 with ftag := 65536 }.wf = false ∧ { pk 0 with rsv := 16 }.wf = false := by decide +kernel

/-- Fields of a Giwald frame outside their widths (R257), each alone. -/
theorem smoke_frame : fr.wf = true ∧ { fr with vc := 4 }.wf = false ∧ { fr with kind := 64 }.wf = false ∧
    { fr with hops := 128 }.wf = false ∧ { fr with dest := 256 }.wf = false ∧ { fr with src := 256 }.wf = false ∧
    { fr with kspec := 536870912 }.wf = false ∧ { fr with payload := many 1025 }.wf = false := by decide +kernel

/-- Headers of tunnel frames and of PD messages (R141, R274). -/
theorem smoke_headers : tun.wf = true ∧ { tun with src := 241 }.wf = false ∧ { tun with vport := 42 }.wf = false ∧
    { tun with ep := 16 }.wf = false ∧ { tun with tseq := 65536 }.wf = false ∧
    pd.wf = true ∧ { pd with port := 35 }.wf = false ∧ { pd with id := 8 }.wf = false ∧ { pd with rev := 3 }.wf = false := by decide

/-- What a neighbour says (R252, R265). -/
theorem smoke_neighbour : ts.wf = true ∧ { ts with link := 4 }.wf = false ∧ { ts with role := 4 }.wf = false ∧
    { ts with cl := 256 }.wf = false ∧ { ts with node := 256 }.wf = false ∧
    hi.wf = true ∧ { hi with uid := 2 ^ 64 }.wf = false ∧ { hi with claim := 256 }.wf = false ∧ { hi with link := 4 }.wf = false ∧
    { hi with role := 4 }.wf = false ∧
    ad.wf = true ∧ { ad with uid := 2 ^ 64 }.wf = false ∧ { ad with seq := 2 ^ 32 }.wf = false ∧ { ad with claim := 256 }.wf = false ∧
    { ad with links := List.replicate 9 { link := 0, secondary := false, nbrUid := 2, nbrLink := 0, active := true } }.wf = false ∧
    { ad with links := [{ link := 4, secondary := false, nbrUid := 2, nbrLink := 0, active := true }] }.wf = false := by decide

/-- Places, channels and results. -/
theorem smoke_places : (Loc.virt .a 42).wf = false ∧ (Loc.phys 33).wf = false ∧ (Transport.fabric 0).wf = false ∧
    (Chan.path 35 sm).wf = false ∧ (Chan.vconn 4 0).wf = false ∧ (Chan.reference 15 0).wf = false ∧ (TxnRes.ok 65536).wf = false ∧
    (TtRes.data true (many 1024)).wf = false ∧ (TtRes.part (many 1024)).wf = false ∧
    EccErr.wf { kind := 3, owner := 1, up := .a, ep := 16 } = false ∧ BusTxn.wf { conv := 127, code := 255, value := 65535 } = true ∧
    BusTxn.wf { conv := 128, code := 0, value := 0 } = false ∧ BusTxn.wf { conv := 0, code := 256, value := 0 } = false ∧
    BusTxn.wf { conv := 0, code := 0, value := 65536 } = false := by decide +kernel

/-- Items of the Ladle. -/
theorem smoke_items : (SlowItem.ident 33 (many 16) [] 0 []).wf = false ∧ (SlowItem.ident 1 [] [] 0 []).wf = false ∧
    (SlowItem.alloc 35 0 false false).wf = false ∧ (SlowItem.block 65536 0 []).wf = false ∧ (SlowItem.record (many 31)).wf = false ∧
    (SlowItem.command { pk 0 with rsv := 16 }).wf = false ∧ (SlowItem.port 33 0 0 0 []).wf = false ∧
    (SlowItem.port 1 128 0 0 []).wf = false ∧ (SlowItem.port 1 0 10 0 []).wf = false ∧ (SlowItem.port 1 0 0 4 []).wf = false ∧
    (SlowItem.ask 33).wf = false ∧ (SlowItem.claim 241 1 true false).wf = false ∧ (SlowItem.claim 1 241 true false).wf = false ∧
    (SlowItem.spe 11 0 false).wf = false ∧ (SlowItem.spe 1 12 false).wf = false ∧ (SlowItem.lend (.phys 33) 1 .a 0 true).wf = false ∧
    (SlowItem.lend (.phys 1) 241 .a 0 true).wf = false ∧ (SlowItem.lend (.phys 1) 1 .a 42 true).wf = false ∧
    (SlowItem.vport .a 42 true true false 0 (many 16) [] 0 []).wf = false ∧
    (SlowItem.vport .a 34 true true false 33 (many 16) [] 0 []).wf = false ∧
    (SlowItem.vport .a 34 true true false 0 [] [] 0 []).wf = false ∧
    (MirrorItem.endpoint (.phys 33) 1 false []).wf = false ∧ (MirrorItem.endpoint (.phys 1) 16 false []).wf = false ∧
    (MirrorItem.tunnel (.phys 33) 0 0).wf = false ∧ (MirrorItem.line 33 0 false).wf = false ∧ (MirrorItem.line 1 10 false).wf = false := by
  decide

/-! Packets of each opcode; the same with another opcode; the same with a reserved flag outside its width. -/

theorem smoke_opcodes1 :
  ([.nop (pk 0x0000), .identify (pk 0x0001), .sysStatus (pk 0x0002), .chipReset (pk 0x0003), .configSelect (pk 0x0004),
    .portStatus (pk 0x0100), .portMove (pk 0x0101), .portReset (pk 0x0102), .planSet (pk 0x0200), .planGet (pk 0x0201),
    .modeSet (pk 0x0202), .idmapGet (pk 0x0203), .cacheRead (pk 0x0204), .portRefill (pk 0x0205), .lend (pk 0x0206),
    .lendEndRecall (pk 0x0207), .lendEndRelease (pk 0x0207), .pdStatus (pk 0x0300), .pdCapsRead (pk 0x0301),
    .pdSettingsGet (pk 0x0302), .pdSettingsSet (pk 0x0303), .pdActionRenegotiate (pk 0x0304),
    .pdActionSoftReset (pk 0x0304), .pdActionHardReset (pk 0x0304), .pdActionErrorRecovery (pk 0x0304),
    .pdActionPrSwap (pk 0x0304), .pdActionGetSinkCap (pk 0x0304), .ppcSettingsGet (pk 0x0400),
    .ppcSettingsSet (pk 0x0401), .portPowerCycle (pk 0x0402), .meterRead (pk 0x0403), .converterStatus (pk 0x0404),
    .converterInit (pk 0x0405), .feedSettingsGet (pk 0x0500), .feedSettingsSet (pk 0x0501), .pbaGlobalGet (pk 0x0502),
    .pbaGlobalSet (pk 0x0503), .pbaPortGet (pk 0x0504), .pbaPortSet (pk 0x0505), .budgetStatus (pk 0x0506),
    .pairStatus (pk 0x0600), .pairSettingsGet (pk 0x0601), .pairSettingsSet (pk 0x0602), .handover (pk 0x0603),
    .pairRelay (pk 0x0604), .fabricStatus (pk 0x0700), .fabricSettingsGet (pk 0x0701), .fabricSettingsSet (pk 0x0702),
    .nodeList (pk 0x0703), .eventFetch (pk 0x0800), .eventFetchPeek (pk 0x0800), .queueStatus (pk 0x0801),
    .eventRouteGet (pk 0x0802), .eventRouteSet (pk 0x0803), .eventSettingsGet (pk 0x0804), .eventSettingsSet (pk 0x0805),
    .timeStatus (pk 0x0900), .timeSettingsGet (pk 0x0901), .timeSettingsSet (pk 0x0902), .timeEpoch (pk 0x0903)] : List Instr).all Instr.wf = true := by decide +kernel

theorem smoke_opcodes2 :
  ([.timeEpochAtPps (pk 0x0903), .sofRead (pk 0x0904), .crockStatus (pk 0x0A00), .crockRead (pk 0x0A01),
    .crockWrite (pk 0x0A02), .journalRead (pk 0x0A03), .ffClear (pk 0x0A04), .userErase (pk 0x0A05),
    .sieveGet (pk 0x0B00), .sieveSet (pk 0x0B01), .sieveFeed (pk 0x0B02), .sieveFinish (pk 0x0B03),
    .sieveStatus (pk 0x0B04), .profileGet (pk 0x0C00), .profileSet (pk 0x0C01), .clStatus (pk 0x0C02), .clPin (pk 0x0C03),
    .fwStatus (pk 0x0D00), .fwVerify (pk 0x0D01), .fwActivate (pk 0x0D02), .fwRestart (pk 0x0D03), .nonceRead (pk 0x0D04),
    .keyWrite (pk 0x0D05), .keyClear (pk 0x0D05), .keyStatus (pk 0x0D06), .selfTest (pk 0x0E00) 0,
    .errorCounters (pk 0x0E01), .diagTrigger (pk 0x0E02), .phyTuneGet (pk 0x0E03), .phyTuneSet (pk 0x0E04)] : List Instr).all Instr.wf = true := by decide +kernel

theorem smoke_otherOpcodes1 :
  ([.nop (pk 65535), .identify (pk 65535), .sysStatus (pk 65535), .chipReset (pk 65535), .configSelect (pk 65535),
    .portStatus (pk 65535), .portMove (pk 65535), .portReset (pk 65535), .planSet (pk 65535), .planGet (pk 65535),
    .modeSet (pk 65535), .idmapGet (pk 65535), .cacheRead (pk 65535), .portRefill (pk 65535), .lend (pk 65535),
    .lendEndRecall (pk 65535), .lendEndRelease (pk 65535), .pdStatus (pk 65535), .pdCapsRead (pk 65535),
    .pdSettingsGet (pk 65535), .pdSettingsSet (pk 65535), .pdActionRenegotiate (pk 65535), .pdActionSoftReset (pk 65535),
    .pdActionHardReset (pk 65535), .pdActionErrorRecovery (pk 65535), .pdActionPrSwap (pk 65535),
    .pdActionGetSinkCap (pk 65535), .ppcSettingsGet (pk 65535), .ppcSettingsSet (pk 65535), .portPowerCycle (pk 65535),
    .meterRead (pk 65535), .converterStatus (pk 65535), .converterInit (pk 65535), .feedSettingsGet (pk 65535),
    .feedSettingsSet (pk 65535), .pbaGlobalGet (pk 65535), .pbaGlobalSet (pk 65535), .pbaPortGet (pk 65535),
    .pbaPortSet (pk 65535), .budgetStatus (pk 65535), .pairStatus (pk 65535), .pairSettingsGet (pk 65535),
    .pairSettingsSet (pk 65535), .handover (pk 65535), .pairRelay (pk 65535), .fabricStatus (pk 65535),
    .fabricSettingsGet (pk 65535), .fabricSettingsSet (pk 65535), .nodeList (pk 65535), .eventFetch (pk 65535),
    .eventFetchPeek (pk 65535), .queueStatus (pk 65535), .eventRouteGet (pk 65535), .eventRouteSet (pk 65535),
    .eventSettingsGet (pk 65535), .eventSettingsSet (pk 65535), .timeStatus (pk 65535), .timeSettingsGet (pk 65535),
    .timeSettingsSet (pk 65535), .timeEpoch (pk 65535)] : List Instr).all (fun i => !i.wf) = true := by decide +kernel

theorem smoke_otherOpcodes2 :
  ([.timeEpochAtPps (pk 65535), .sofRead (pk 65535), .crockStatus (pk 65535), .crockRead (pk 65535),
    .crockWrite (pk 65535), .journalRead (pk 65535), .ffClear (pk 65535), .userErase (pk 65535), .sieveGet (pk 65535),
    .sieveSet (pk 65535), .sieveFeed (pk 65535), .sieveFinish (pk 65535), .sieveStatus (pk 65535), .profileGet (pk 65535),
    .profileSet (pk 65535), .clStatus (pk 65535), .clPin (pk 65535), .fwStatus (pk 65535), .fwVerify (pk 65535),
    .fwActivate (pk 65535), .fwRestart (pk 65535), .nonceRead (pk 65535), .keyWrite (pk 65535), .keyClear (pk 65535),
    .keyStatus (pk 65535), .selfTest (pk 65535) 0, .errorCounters (pk 65535), .diagTrigger (pk 65535),
    .phyTuneGet (pk 65535), .phyTuneSet (pk 65535)] : List Instr).all (fun i => !i.wf) = true := by decide +kernel

theorem smoke_packets1 :
  ([.nop { pk 0x0000 with rsv := 16 }, .identify { pk 0x0001 with rsv := 16 }, .sysStatus { pk 0x0002 with rsv := 16 },
    .chipReset { pk 0x0003 with rsv := 16 }, .configSelect { pk 0x0004 with rsv := 16 },
    .portStatus { pk 0x0100 with rsv := 16 }, .portMove { pk 0x0101 with rsv := 16 },
    .portReset { pk 0x0102 with rsv := 16 }, .planSet { pk 0x0200 with rsv := 16 }, .planGet { pk 0x0201 with rsv := 16 },
    .modeSet { pk 0x0202 with rsv := 16 }, .idmapGet { pk 0x0203 with rsv := 16 },
    .cacheRead { pk 0x0204 with rsv := 16 }, .portRefill { pk 0x0205 with rsv := 16 }, .lend { pk 0x0206 with rsv := 16 },
    .lendEndRecall { pk 0x0207 with rsv := 16 }, .lendEndRelease { pk 0x0207 with rsv := 16 },
    .pdStatus { pk 0x0300 with rsv := 16 }, .pdCapsRead { pk 0x0301 with rsv := 16 },
    .pdSettingsGet { pk 0x0302 with rsv := 16 }, .pdSettingsSet { pk 0x0303 with rsv := 16 },
    .pdActionRenegotiate { pk 0x0304 with rsv := 16 }, .pdActionSoftReset { pk 0x0304 with rsv := 16 },
    .pdActionHardReset { pk 0x0304 with rsv := 16 }, .pdActionErrorRecovery { pk 0x0304 with rsv := 16 },
    .pdActionPrSwap { pk 0x0304 with rsv := 16 }, .pdActionGetSinkCap { pk 0x0304 with rsv := 16 },
    .ppcSettingsGet { pk 0x0400 with rsv := 16 }, .ppcSettingsSet { pk 0x0401 with rsv := 16 },
    .portPowerCycle { pk 0x0402 with rsv := 16 }, .meterRead { pk 0x0403 with rsv := 16 },
    .converterStatus { pk 0x0404 with rsv := 16 }, .converterInit { pk 0x0405 with rsv := 16 },
    .feedSettingsGet { pk 0x0500 with rsv := 16 }, .feedSettingsSet { pk 0x0501 with rsv := 16 },
    .pbaGlobalGet { pk 0x0502 with rsv := 16 }, .pbaGlobalSet { pk 0x0503 with rsv := 16 },
    .pbaPortGet { pk 0x0504 with rsv := 16 }, .pbaPortSet { pk 0x0505 with rsv := 16 },
    .budgetStatus { pk 0x0506 with rsv := 16 }, .pairStatus { pk 0x0600 with rsv := 16 },
    .pairSettingsGet { pk 0x0601 with rsv := 16 }, .pairSettingsSet { pk 0x0602 with rsv := 16 },
    .handover { pk 0x0603 with rsv := 16 }, .pairRelay { pk 0x0604 with rsv := 16 },
    .fabricStatus { pk 0x0700 with rsv := 16 }, .fabricSettingsGet { pk 0x0701 with rsv := 16 },
    .fabricSettingsSet { pk 0x0702 with rsv := 16 }, .nodeList { pk 0x0703 with rsv := 16 },
    .eventFetch { pk 0x0800 with rsv := 16 }, .eventFetchPeek { pk 0x0800 with rsv := 16 },
    .queueStatus { pk 0x0801 with rsv := 16 }, .eventRouteGet { pk 0x0802 with rsv := 16 },
    .eventRouteSet { pk 0x0803 with rsv := 16 }, .eventSettingsGet { pk 0x0804 with rsv := 16 },
    .eventSettingsSet { pk 0x0805 with rsv := 16 }, .timeStatus { pk 0x0900 with rsv := 16 },
    .timeSettingsGet { pk 0x0901 with rsv := 16 }, .timeSettingsSet { pk 0x0902 with rsv := 16 },
    .timeEpoch { pk 0x0903 with rsv := 16 }] : List Instr).all (fun i => !i.wf) = true := by decide +kernel

theorem smoke_packets2 :
  ([.timeEpochAtPps { pk 0x0903 with rsv := 16 }, .sofRead { pk 0x0904 with rsv := 16 },
    .crockStatus { pk 0x0A00 with rsv := 16 }, .crockRead { pk 0x0A01 with rsv := 16 },
    .crockWrite { pk 0x0A02 with rsv := 16 }, .journalRead { pk 0x0A03 with rsv := 16 },
    .ffClear { pk 0x0A04 with rsv := 16 }, .userErase { pk 0x0A05 with rsv := 16 },
    .sieveGet { pk 0x0B00 with rsv := 16 }, .sieveSet { pk 0x0B01 with rsv := 16 },
    .sieveFeed { pk 0x0B02 with rsv := 16 }, .sieveFinish { pk 0x0B03 with rsv := 16 },
    .sieveStatus { pk 0x0B04 with rsv := 16 }, .profileGet { pk 0x0C00 with rsv := 16 },
    .profileSet { pk 0x0C01 with rsv := 16 }, .clStatus { pk 0x0C02 with rsv := 16 }, .clPin { pk 0x0C03 with rsv := 16 },
    .fwStatus { pk 0x0D00 with rsv := 16 }, .fwVerify { pk 0x0D01 with rsv := 16 },
    .fwActivate { pk 0x0D02 with rsv := 16 }, .fwRestart { pk 0x0D03 with rsv := 16 },
    .nonceRead { pk 0x0D04 with rsv := 16 }, .keyWrite { pk 0x0D05 with rsv := 16 },
    .keyClear { pk 0x0D05 with rsv := 16 }, .keyStatus { pk 0x0D06 with rsv := 16 },
    .selfTest { pk 0x0E00 with rsv := 16 } 0, .errorCounters { pk 0x0E01 with rsv := 16 },
    .diagTrigger { pk 0x0E02 with rsv := 16 }, .phyTuneGet { pk 0x0E03 with rsv := 16 },
    .phyTuneSet { pk 0x0E04 with rsv := 16 }] : List Instr).all (fun i => !i.wf) = true := by decide +kernel

/-! The other commands that have a check, well-formed; and each check of each broken alone. -/

theorem smoke_operands1 :
  ([.pdActionWaitingStart 1, .powerCycleOffEnd 1, .usbCommandTransfer .a [], .fragmentAssemblyTimeout .smbus,
    .authLockoutEnd .smbus, .sidebandWindowWrite false 0 [], .mbiCtrlGo false 0 0 [], .mbiCtrlSync 0, .mboAck 0,
    .hibernateSmbusAccess false 0, .commandFrame 1 0 0 false false (many 1), .responseFrame 1 0 0 false (many 1),
    .cmdWaitExpiry 0, .partnerCmdFrame 0 false false 0 [], .getPortStatus .a .usb2 1, .setPortFeaturePortReset .a .usb2 1,
    .setPortFeaturePortSuspend .a 1, .clearPortFeaturePortSuspend .a 1, .clearPortFeaturePortEnable .a 1,
    .setPortFeaturePortPower .a .usb2 1, .clearPortFeaturePortPower .a .usb2 1, .setPortFeaturePortTest .a 1 .testJ,
    .setPortFeaturePortIndicator .a 1, .clearPortFeatureC .a .usb2 1 .reset, .clearTtBuffer .a 1 0 1, .resetTt .a 1,
    .getTtState .a 1 0, .stopTt .a 1, .setPortFeaturePortLinkState .a 1 .u0, .setPortFeatureBhPortReset .a 1,
    .setPortFeaturePortU1Timeout .a 1 0, .setPortFeaturePortU2Timeout .a 1 0, .setPortFeatureRemoteWakeMask .a 1 0,
    .getPortErrorCount .a 1, .hubSetConfiguration .a .usb2 0, .hubSetInterface .a 0, .hubGetDescriptor .a .usb2 0 0 0,
    .hubLpmToken .a 0, .hsToken .a ⟨.out, []⟩ 0 1, .addressLearn 1 0, .sofReceived .a 0 0, .ssHeaderPacket .a false 1 [],
    .ttSsplit .a 1 0 1 false .out false false 0 [], .ttCsplit .a 1 0 1 false false,
    .ttTransactionDone 1 0 1 false false .busError, .ttResultDiscard 1 0 1 false, .scrubPass 0 [], .connect 1 false,
    .disconnect 1, .deviceChirp 1, .deviceChirpEnd 1 false, .resetEnd 1 false, .cdpVdpSrc 1 false, .deviceLpmAck 1 0,
    .proxyLpmToken .a 1 0 .ack, .deviceWake 1, .resumeKEnd 1, .babble 1, .lossOfActivity 1, .portError 1] : List Instr).all Instr.wf = true := by decide +kernel

theorem smoke_operands2 :
  ([.rxDetectProbe 1 false, .ssTrainingDone ⟨1, false⟩, .pollingTimeout 1 false, .recoveryTimeout 1, .ssLinkError 1,
    .lgoU1U2 1 .u1, .u1U2IdleTimeout 1 false false, .exitLfps 1, .lfpsWake 1, .u3WakeHandshakeTimeout 1, .warmResetDone 1,
    .fillRequestDone 1 [], .fillAttemptTimeout 1, .tfillExpiry 1, .proxySetAddress .a 1 0, .proxyGetDescriptor .a 1 0 0 0,
    .proxySetup .a 1 (many 8), .forwardedSetConfigurationDone (.phys 1), .forwardedSetInterfaceDone (.phys 1),
    .clearFeatureEndpointHalt .a 1 1, .virtualResetEnd (.phys 1), .resetWindowExpiry (.phys 1), .refillDone 1,
    .hostOut .a 1 1 false [], .hostIn .a 1 1 false, .hostPing .a 1 1, .deviceInData 1 1 [], .deviceOutAck 1 ⟨1, false⟩,
    .deviceStall 1 1, .interruptInPoll 1 1, .drainDone (.phys 1), .drainTimeout (.phys 1), .lendPresented .a 34,
    .lendBorrowerTimeout 1, .lendHoldExpiry (.phys 1), .tunnelData tun [], .tunnelDraw tun, .tunnelAck tun,
    .tunnelCredit tun 0, .tunnelSetup tun (many 8), .tunnelResult tun 0, .tunnelReset tun, .tunnelWake tun,
    .tunnelSuspend tun, .tunnelResume tun, .tunnelOpen tun [], .tunnelOpenDone tun, .tunnelClose tun, .tunnelResync tun 0,
    .tunnelDiscard tun, .tunnelUnackedTimeout (.phys 1), .rdSeen 1 0 0, .attachQualified 1 false, .rdLost 1, .ccOpen 1,
    .detachQualified 1, .accessoryIgnored 1, .errorRecoveryEnd 1, .vconnOvercurrent 1, .goodcrc 1 0 false] : List Instr).all Instr.wf = true := by decide +kernel

theorem smoke_operands3 :
  ([.crcReceiveTimerExpiry 1, .chunkRequest pd 0, .chunkTimeout 1 false, .sinktxWaitEnd 1, .request pd 0,
    .eprRequest pd 0 0, .eprModeEnter pd 0, .eprModeExit pd, .getSourceCap pd, .eprGetSourceCap pd, .eprKeepalive pd,
    .getSinkCap pd, .getSourceCapExtended pd, .getStatus pd, .getPpsStatus pd, .getSourceInfo pd, .getRevision pd,
    .sourceCapabilities pd [], .sinkCapabilities pd [], .accept pd, .reject pd, .wait pd, .psRdy pd, .softReset pd,
    .hardResetSignal 1, .drSwap pd, .prSwap pd, .frSwap pd, .vconnSwap pd, .bist pd 0, .alert pd 0, .notSupported pd,
    .ping pd, .vendorDefined pd [0], .unsupportedMessage ⟨pd, none⟩, .discoverIdentityStart 1, .discoverIdentityRetry 1,
    .cableIdentity 1 0 0 false 0 false, .capsReadvertise 1, .typecSendSourceCapExpiry 1, .senderResponseExpiry 1,
    .srcTransitionExpiry 1, .srcSettleExpiry 1, .psHardResetExpiry 1, .safe0vExpiry 1, .srcRecoverExpiry 1,
    .noResponseExpiry 1, .enterEprExpiry 1, .sourceEprKeepaliveExpiry 1, .ppsTimeoutExpiry 1, .vbusRequest 1,
    .offRequest 1, .converterCheckPass 1, .converterNotReady 1, .converterRetry 1, .meterSample (.path 1 sm),
    .powerGood 1, .slowTrip 1, .fastTrip 1, .reverseTrip 1] : List Instr).all Instr.wf = true := by decide +kernel

theorem smoke_operands4 :
  ([.undervoltTrip 1, .turnOnTimeout 1, .ccReturn 1, .psRdyEop 1, .coolDownEnd 1, .tripCountReset 1, .dischargeDone 1,
    .dischargeTimeout 1, .pmbusInit 1, .pmbusTransactionDone false ⟨none, .ok 0⟩, .liveWord 0 0, .slowFrame [],
    .mirrorFrame [], .syncFrame [], .blockLock ⟨3, [], 0⟩, .tsExchangeDone 3 ts, .linkCheckDone 3 false 0,
    .lockLost 3 ⟨false, []⟩, .retrainWindowExpiry 3, .linkWordSend 3, .frameReceived 3 0 fr false false, .ackWord 3 0,
    .nakWord 3 0, .replayWord 3 0, .abortWord 3 3 0, .creditWord 3 3 0, .retrainWord 3, .replayTimerExpiry 3, .hello 3 hi,
    .lsa 3 ad, .linkUsable 3, .creditStallExpiry 3 3, .sleepWord 3 false, .wakePatternSend 3, .wakeSendTimeout 3,
    .wakeEnergy 3, .wakePatternSeen 3, .wakeProbeTimeout 3, .timeReq 3 0, .timeResp 3 0 0, .timeRxstamp 3 0 0,
    .timeHigh 3 0 0, .detectorFire 0 0 0, .eventsFrame 1 0 [many 32], .journalFrame 1 0 [many 64], .dozeWake [],
    .wakeRailsValid [], .bankRestoreFromPartner 0 false, .gpioEdge 0 false, .resetNRelease 0 false, .powerUp 0 false,
    .proxyL1Idle 1 .ack, .timeStatusWord 3 0 0 0 0, .hubSetAddress .a .usb2 0, .hardResetCompleteExpiry 1,
    .suspendDrainTimeout 1] : List Instr).all Instr.wf = true := by decide +kernel

theorem smoke_refused1 :
  ([.pdActionWaitingStart 35, .powerCycleOffEnd 35, .usbCommandTransfer .a (many 8193),
    .fragmentAssemblyTimeout (.fabric 0), .authLockoutEnd (.fabric 0), .sidebandWindowWrite false 256 [],
    .mbiCtrlGo false 256 0 [], .mbiCtrlGo false 0 256 [], .mbiCtrlGo false 0 0 (many 93), .mbiCtrlSync 256, .mboAck 256,
    .hibernateSmbusAccess false 256, .commandFrame 241 0 0 false false (many 1),
    .commandFrame 1 65536 0 false false (many 1), .commandFrame 1 0 5 false false (many 1),
    .commandFrame 1 0 0 false false [], .responseFrame 241 0 0 false (many 1), .responseFrame 1 65536 0 false (many 1),
    .responseFrame 1 0 5 false (many 1), .responseFrame 1 0 0 false [], .cmdWaitExpiry 65536,
    .partnerCmdFrame 5 false false 0 [], .partnerCmdFrame 0 false false 65536 [],
    .partnerCmdFrame 0 false false 0 (many 1025), .getPortStatus .a .usb2 42, .setPortFeaturePortReset .a .usb2 42,
    .setPortFeaturePortSuspend .a 42, .clearPortFeaturePortSuspend .a 42, .clearPortFeaturePortEnable .a 42,
    .setPortFeaturePortPower .a .usb2 42, .clearPortFeaturePortPower .a .usb2 42, .setPortFeaturePortTest .a 42 .testJ,
    .setPortFeaturePortIndicator .a 42, .clearPortFeatureC .a .usb2 42 .reset, .clearTtBuffer .a 42 0 1,
    .clearTtBuffer .a 1 128 1, .clearTtBuffer .a 1 0 16, .resetTt .a 42, .getTtState .a 42 0, .getTtState .a 1 65536,
    .stopTt .a 42, .setPortFeaturePortLinkState .a 9 .u0, .setPortFeatureBhPortReset .a 9,
    .setPortFeaturePortU1Timeout .a 9 0, .setPortFeaturePortU1Timeout .a 1 256, .setPortFeaturePortU2Timeout .a 9 0,
    .setPortFeaturePortU2Timeout .a 1 256, .setPortFeatureRemoteWakeMask .a 9 0, .setPortFeatureRemoteWakeMask .a 1 256,
    .getPortErrorCount .a 9, .hubSetConfiguration .a .usb2 256, .hubSetInterface .a 2, .hubGetDescriptor .a .usb2 256 0 0,
    .hubGetDescriptor .a .usb2 0 256 0, .hubGetDescriptor .a .usb2 0 0 65536, .hubLpmToken .a 16,
    .hsToken .a ⟨.out, []⟩ 128 1, .hsToken .a ⟨.out, []⟩ 0 16,
    .hsToken .a ⟨.out, List.replicate 3 { up := false, bs := [] }⟩ 0 1, .addressLearn 33 0] : List Instr).all (fun i => !i.wf) = true := by decide +kernel

theorem smoke_refused2 :
  ([.addressLearn 1 128, .sofReceived .a 2048 0, .sofReceived .a 0 8, .ssHeaderPacket .a false 9 [],
    .ttSsplit .a 42 0 1 false .out false false 0 [], .ttSsplit .a 1 128 1 false .out false false 0 [],
    .ttSsplit .a 1 0 16 false .out false false 0 [], .ttSsplit .a 1 0 1 false .out false false 1024 [],
    .ttSsplit .a 1 0 1 false .out false false 0 (many 1024), .ttCsplit .a 42 0 1 false false,
    .ttCsplit .a 1 128 1 false false, .ttCsplit .a 1 0 16 false false, .ttTransactionDone 33 0 1 false false .busError,
    .ttTransactionDone 1 128 1 false false .busError, .ttTransactionDone 1 0 16 false false .busError,
    .ttTransactionDone 1 0 1 false false (.data true (zeros 1024)), .ttResultDiscard 33 0 1 false,
    .ttResultDiscard 1 128 1 false, .ttResultDiscard 1 0 16 false,
    .scrubPass 0 [{ kind := 3, owner := 1, up := .a, ep := 16 }], .connect 33 false, .disconnect 33, .deviceChirp 33,
    .deviceChirpEnd 33 false, .resetEnd 33 false, .cdpVdpSrc 33 false, .deviceLpmAck 33 0, .deviceLpmAck 1 16,
    .proxyLpmToken .a 42 0 .ack, .proxyLpmToken .a 1 32 .ack, .deviceWake 33, .resumeKEnd 33, .babble 33,
    .lossOfActivity 33, .portError 33, .rxDetectProbe 11 false, .ssTrainingDone ⟨11, false⟩, .pollingTimeout 11 false,
    .recoveryTimeout 11, .ssLinkError 11, .lgoU1U2 11 .u1, .lgoU1U2 1 .u0, .u1U2IdleTimeout 11 false false, .exitLfps 11,
    .lfpsWake 33, .u3WakeHandshakeTimeout 33, .warmResetDone 11, .fillRequestDone 33 [], .fillRequestDone 1 (many 65536),
    .fillAttemptTimeout 33, .tfillExpiry 33, .proxySetAddress .a 42 0, .proxySetAddress .a 1 128,
    .proxyGetDescriptor .a 42 0 0 0, .proxyGetDescriptor .a 1 256 0 0, .proxyGetDescriptor .a 1 0 256 0,
    .proxyGetDescriptor .a 1 0 0 65536, .proxySetup .a 42 (many 8), .proxySetup .a 1 [],
    .forwardedSetConfigurationDone (.phys 33)] : List Instr).all (fun i => !i.wf) = true := by decide +kernel

theorem smoke_refused3 :
  ([.forwardedSetInterfaceDone (.phys 33), .clearFeatureEndpointHalt .a 42 1, .clearFeatureEndpointHalt .a 1 16,
    .virtualResetEnd (.phys 33), .resetWindowExpiry (.phys 33), .refillDone 33, .hostOut .a 42 1 false [],
    .hostOut .a 1 16 false [], .hostOut .a 1 1 false (many 1025), .hostIn .a 42 1 false, .hostIn .a 1 16 false,
    .hostPing .a 42 1, .hostPing .a 1 16, .deviceInData 33 1 [], .deviceInData 1 16 [], .deviceInData 1 1 (many 1025),
    .deviceOutAck 33 ⟨1, false⟩, .deviceOutAck 1 ⟨16, false⟩, .deviceStall 33 1, .deviceStall 1 16, .interruptInPoll 33 1,
    .interruptInPoll 1 16, .drainDone (.phys 33), .drainTimeout (.phys 33), .lendPresented .a 42, .lendBorrowerTimeout 33,
    .lendHoldExpiry (.phys 33), .tunnelData { tun with src := 0 } [], .tunnelData tun (many 1025),
    .tunnelDraw { tun with src := 0 }, .tunnelAck { tun with src := 0 }, .tunnelCredit { tun with src := 0 } 0,
    .tunnelCredit tun 65536, .tunnelSetup { tun with src := 0 } (many 8), .tunnelSetup tun [],
    .tunnelResult { tun with src := 0 } 0, .tunnelResult tun 256, .tunnelReset { tun with src := 0 },
    .tunnelWake { tun with src := 0 }, .tunnelSuspend { tun with src := 0 }, .tunnelResume { tun with src := 0 },
    .tunnelOpen { tun with src := 0 } [], .tunnelOpen tun (many 1025), .tunnelOpenDone { tun with src := 0 },
    .tunnelClose { tun with src := 0 }, .tunnelResync { tun with src := 0 } 0, .tunnelResync tun 65536,
    .tunnelDiscard { tun with src := 0 }, .tunnelUnackedTimeout (.phys 33), .rdSeen 35 0 0, .attachQualified 35 false,
    .rdLost 35, .ccOpen 35, .detachQualified 35, .accessoryIgnored 35, .errorRecoveryEnd 35, .vconnOvercurrent 35,
    .goodcrc 35 0 false, .goodcrc 1 8 false, .crcReceiveTimerExpiry 35] : List Instr).all (fun i => !i.wf) = true := by decide +kernel

theorem smoke_refused4 :
  ([.chunkRequest { pd with id := 8 } 0, .chunkRequest pd 16, .chunkTimeout 35 false, .sinktxWaitEnd 35,
    .request { pd with id := 8 } 0, .request pd 4294967296, .eprRequest { pd with id := 8 } 0 0,
    .eprRequest pd 4294967296 0, .eprRequest pd 0 4294967296, .eprModeEnter { pd with id := 8 } 0, .eprModeEnter pd 256,
    .eprModeExit { pd with id := 8 }, .getSourceCap { pd with id := 8 }, .eprGetSourceCap { pd with id := 8 },
    .eprKeepalive { pd with id := 8 }, .getSinkCap { pd with id := 8 }, .getSourceCapExtended { pd with id := 8 },
    .getStatus { pd with id := 8 }, .getPpsStatus { pd with id := 8 }, .getSourceInfo { pd with id := 8 },
    .getRevision { pd with id := 8 }, .sourceCapabilities { pd with id := 8 } [],
    .sourceCapabilities pd (List.replicate 12 0), .sourceCapabilities pd [4294967296],
    .sinkCapabilities { pd with id := 8 } [], .sinkCapabilities pd (List.replicate 12 0),
    .sinkCapabilities pd [4294967296], .accept { pd with id := 8 }, .reject { pd with id := 8 },
    .wait { pd with id := 8 }, .psRdy { pd with id := 8 }, .softReset { pd with id := 8 }, .hardResetSignal 35,
    .drSwap { pd with id := 8 }, .prSwap { pd with id := 8 }, .frSwap { pd with id := 8 }, .vconnSwap { pd with id := 8 },
    .bist { pd with id := 8 } 0, .bist pd 16, .alert { pd with id := 8 } 0, .alert pd 4294967296,
    .notSupported { pd with id := 8 }, .ping { pd with id := 8 }, .vendorDefined { pd with id := 8 } [0],
    .vendorDefined pd [], .vendorDefined pd [4294967296], .unsupportedMessage ⟨{ pd with id := 8 }, none⟩,
    .discoverIdentityStart 35, .discoverIdentityRetry 35, .cableIdentity 35 0 0 false 0 false,
    .cableIdentity 1 65536 0 false 0 false, .cableIdentity 1 0 4 false 0 false, .capsReadvertise 35,
    .typecSendSourceCapExpiry 35, .senderResponseExpiry 35, .srcTransitionExpiry 35, .srcSettleExpiry 35,
    .psHardResetExpiry 35, .safe0vExpiry 35, .srcRecoverExpiry 35] : List Instr).all (fun i => !i.wf) = true := by decide +kernel

theorem smoke_refused5 :
  ([.noResponseExpiry 35, .enterEprExpiry 35, .sourceEprKeepaliveExpiry 35, .ppsTimeoutExpiry 35, .vbusRequest 35,
    .offRequest 35, .converterCheckPass 35, .converterNotReady 35, .converterRetry 35, .meterSample (.path 35 sm),
    .powerGood 35, .slowTrip 35, .fastTrip 35, .reverseTrip 35, .undervoltTrip 35, .turnOnTimeout 35, .ccReturn 35,
    .psRdyEop 35, .coolDownEnd 35, .tripCountReset 35, .dischargeDone 35, .dischargeTimeout 35, .pmbusInit 35,
    .pmbusTransactionDone false ⟨some { conv := 128, code := 0, value := 0 }, .ok 0⟩,
    .pmbusTransactionDone false ⟨none, .ok 65536⟩, .liveWord 16 0, .liveWord 0 256, .slowFrame [.alloc 35 0 false false],
    .mirrorFrame [.tunnel (.phys 33) 0 0], .syncFrame [.alloc 35 0 false false], .blockLock ⟨4, [], 0⟩, .blockLock ⟨3, [4], 0⟩,
    .tsExchangeDone 4 ts, .tsExchangeDone 3 { ts with link := 4 }, .linkCheckDone 4 false 0, .lockLost 4 ⟨false, []⟩,
    .lockLost 3 ⟨false, [4]⟩, .retrainWindowExpiry 4, .linkWordSend 4, .frameReceived 4 0 fr false false,
    .frameReceived 3 256 fr false false, .frameReceived 3 0 { fr with hops := 128 } false false, .ackWord 4 0,
    .ackWord 3 256, .nakWord 4 0, .nakWord 3 256, .replayWord 4 0, .replayWord 3 256, .abortWord 4 3 0, .abortWord 3 4 0,
    .abortWord 3 3 65536, .creditWord 4 3 0, .creditWord 3 4 0, .creditWord 3 3 65536, .retrainWord 4,
    .replayTimerExpiry 4, .hello 4 hi, .hello 3 { hi with claim := 256 }, .lsa 4 ad, .lsa 3 { ad with claim := 256 }] : List Instr).all (fun i => !i.wf) = true := by decide +kernel

theorem smoke_refused6 :
  ([.linkUsable 4, .creditStallExpiry 4 3, .creditStallExpiry 3 4, .sleepWord 4 false, .wakePatternSend 4,
    .wakeSendTimeout 4, .wakeEnergy 4, .wakePatternSeen 4, .wakeProbeTimeout 4, .timeReq 4 0, .timeReq 3 256,
    .timeResp 4 0 0, .timeResp 3 256 0, .timeResp 3 0 4294967296, .timeRxstamp 4 0 0, .timeRxstamp 3 256 0,
    .timeRxstamp 3 0 4294967296, .timeHigh 4 0 0, .timeHigh 3 256 0, .timeHigh 3 0 4294967296, .detectorFire 448 0 0,
    .detectorFire 0 65536 0, .eventsFrame 241 0 [many 32], .eventsFrame 1 65536 [many 32], .eventsFrame 1 0 [],
    .eventsFrame 1 0 [many 31], .journalFrame 241 0 [many 64], .journalFrame 1 65536 [many 64], .journalFrame 1 0 [],
    .journalFrame 1 0 [many 63], .dozeWake [16], .wakeRailsValid [16], .bankRestoreFromPartner 16 false,
    .gpioEdge 16 false, .resetNRelease 16 false, .powerUp 16 false, .proxyL1Idle 33 .ack, .timeStatusWord 4 0 0 0 0,
    .timeStatusWord 3 256 0 0 0, .timeStatusWord 3 0 256 0 0, .timeStatusWord 3 0 0 256 0, .timeStatusWord 3 0 0 0 256,
    .hubSetAddress .a .usb2 128, .hardResetCompleteExpiry 35, .suspendDrainTimeout 33] : List Instr).all (fun i => !i.wf) = true := by decide +kernel

/-! ### Pieces of the states below -/

/-- A command key. -/
def aKey : List Byte := zeros 32

/-- The key stored in slot 0, and a nonce known on upstream A. -/
def keyIn (s : State) : State :=
  { setKey s 0 (some aKey) with cmd := { s.cmd with trs := [{ tr := .usb .a, start := some 0 }] } }

/-- The state after reset with a key. -/
def keyed : State := keyIn State.reset

/-- A packet of upstream A without a tag. -/
def plain (op : Nat) (params : List Byte) : Cmd :=
  { tr := .usb .a, opcode := op, tag := 1, target := 0, auth := false, noresp := false, payload := params }

/-- A packet of upstream A with its tag. -/
def signed (s : State) (op : Nat) (params : List Byte) : Cmd :=
  let c := { plain op (params ++ zeros 16) with auth := true }
  { c with payload := params ++ tagOf s c aKey }

/-- The checks of a packet as closed facts. -/
theorem admits {s : State} {c : Cmd} {op : Nat} {priv : Bool} {foreign : State → Cmd → Bool}
    (h : c.opcode = op ∧ heldBack s c = false ∧ barred op priv foreign c s = none) : Admits s c op priv foreign := h
def passed (s : State) (op : Nat) (params : List Byte) : State := authPassed (taken s (signed s op params)) (signed s op params)
theorem signed_passes {s : State} {op : Nat} {params : List Byte} (h : (s.trState (.usb .a)).locked = false ∧ s.key 0 = some aKey ∧
    s.cmd.queue = []) : authenticate (taken s (signed s op params)) (signed s op params) true = (none, passed s op params) := by
  obtain ⟨hl, hk, hq⟩ := h
  have tk : taken s (signed s op params) = s := by
    unfold taken
    rw [show s.cmd.queue.erase (signed s op params) = s.cmd.queue by rw [hq]; rfl]
  have len : ∀ s c k, (tagOf s c k).length = 16 := fun s c k => by
    rw [tagOf, List.length_take, hmac, sha256_length]; rfl
  have pl : (signed s op params).payload.length = params.length + 16 := by simp [signed, len]
  have pr : (signed s op params).params = ({ plain op (params ++ zeros 16) with auth := true } : Cmd).params := by
    simp [signed, Cmd.params, len, plain, zeros]
  have tg : tagOf s (signed s op params) aKey = tagOf s { plain op (params ++ zeros 16) with auth := true } aKey := by
    unfold tagOf
    rw [pl, pr]
    simp [signed, plain, zeros, cmdFlags]
  unfold passed
  rw [tk]
  unfold authenticate
  rw [show (s.trState (signed s op params).tr).locked = false from hl, show (signed s op params).auth = true from rfl, hk, pl]
  have dr : (signed s op params).payload.drop (params.length + 16 - 16) = tagOf s (signed s op params) aKey := by
    rw [tg, Nat.add_sub_cancel]
    exact List.drop_left' rfl
  rw [Nat.add_sub_cancel] at dr
  simp [dr]
theorem begins {s : State} {op : Nat} {params : List Byte} (h : (s.trState (.usb .a)).locked = false ∧ s.key 0 = some aKey ∧
    s.cmd.queue = []) : begun s (signed s op params) true = passed s op params := by
  rw [begun, signed_passes h]
theorem signs {s : State} {op : Nat} {params : List Byte} {foreign : State → Cmd → Bool}
    (h : ((s.trState (.usb .a)).locked = false ∧ s.key 0 = some aKey ∧ s.cmd.queue = []) ∧ s.cmd.waits = [] ∧
      (s.sys.romOnly = false ∨ romOpcodes.contains op = true) ∧
      (passive (passed s op params) op || foreign (passed s op params) (signed s op params)) = false) :
    Admits s (signed s op params) op true foreign := by
  obtain ⟨a, w, r, f⟩ := h
  refine ⟨rfl, ?_, ?_⟩
  · unfold heldBack
    rw [w, a.2.2]
    rfl
  · unfold barred
    rw [if_neg (by rintro ⟨h1, h2⟩; obtain r | r := r <;> simp_all), signed_passes a, begins a]
    simp only [f]
    rfl

/-- The checks of a message as closed facts. -/
theorem hears {s : State} {h : PdHdr} (a : h.port ≠ 0 ∧ (s.pde h.port).live = true ∧ (s.pde h.port).rxId ≠ some h.id) :
    Hears s h := a

/-- The header of a tunnel frame. -/
def aTun (lender : Bool) (ep tseq : Nat) : TunHdr := { src := 0, toLender := lender, up := .a, vport := 34, ep := ep, tseq := tseq }

/-- A fragment of a packet. -/
def frag : List Byte := packetBytes 0 1 0 8 0 []

/-- An assembly of a packet with its first fragment. -/
def asm0 (op : Nat) : Assembly := { opcode := op, tag := 1, target := 0, auth := false, noresp := false, rsv := 0, payload := [] }

/-- A HELLO. -/
def aHello (uid link : Nat) : Hello := { uid := uid, claim := 0, link := link, role := 0, active := true }

/-- An LSA. -/
def aLsa (uid seq : Nat) : Lsa := { uid := uid, seq := seq, claim := 2, fixed := true, rootPrio := 1, cl := 1, links := [] }

/-- An LSA as held. -/
def heldLsa (uid seq : Nat) : HeldLsa := { lsa := aLsa uid seq, at_ := 0 }

/-- An event record. -/
def aRec : EvRec := { time := 0, source := 1, node := 1, severity := 4, cls := 0, code := 1, data := 0 }

/-- A frame for node 2. -/
def aFrame : Frame := { vc := 0, kind := 0, hops := 1, down := false, dest := 2, src := 1, kspec := 0, payload := [] }

/-- A verification key. -/
def aKeyX : List Byte := leBytes 32 0xb9105a38376f0955da0f7d67316014e5ceb40f8a2a1c16e3df22aeaee1d32e5f
  ++ leBytes 32 0xaac3d528c1862e8a2ac41331979b1d82dcdcc7ba197b0b370a1ef5e2d850cf61

/-- A firmware image of one byte, signed. -/
def anImage (sig : Nat) : List Byte :=
  let head := leBytes 4 0x0F3248A5 ++ zeros 4 ++ leBytes 4 1 ++ [1, 1, 0, 0] ++ sha256 [5]
  head ++ leBytes 32 sig ++ leBytes 32 (beWord (sha256 head)) ++ zeros 16 ++ [5]

/-- A bank that holds it, and its key in slot 1. -/
def imaged (s : State) (b : Bool) : State :=
  crockWrite (setKey s 1 (some aKeyX)) (bankBase b) (anImage 0xe6c0171b6220b44d9b59b168d86f58a38eb1561a3dfe640abc946227f8713f2f)

/-- The state after reset holds together. -/
theorem sound_reset : Sound State.reset :=
  have fits : ∀ n, Fits n {} := fun n => ⟨Nat.zero_le n, Nat.zero_le 64⟩
  ⟨⟨rfl, rfl, rfl, rfl, rfl, rfl, rfl, rfl, rfl⟩, rfl, Nat.zero_le _, fits _, fits _, fits _, fits _, fits _, Nat.zero_le _⟩

/-- No paired line is valid after reset. -/
theorem reset_paired : ∀ w n hi, pairedLine State.reset plNode = some (w, n, hi) → n + 1 < 2 ^ 32 := by
  have h : pairedLine State.reset plNode = none := by decide +kernel
  intro w n hi e
  rw [h] at e
  cases e

/-- The 64-byte header of a configuration image of 4,352 bytes whose body is zeros. -/
def imgHead (tag crc : Nat) : List Byte :=
  leBytes 4 0x0B1D3248 ++ [1, 0, 0, 0] ++ leBytes 4 0x1100 ++ zeros 4 ++ leBytes 16 tag ++ zeros 28 ++ leBytes 4 crc

/-- The checks of an image from facts about its bytes. -/
theorem check_passes (s : State) (h body k : List Byte) (n crc : Nat)
    (e1 : s.crockRead (imageBase 0) 64 = h) (e2 : s.crockRead (imageBase 0 + 64) n = body)
    (l : leNat (slice h 8 4) - 64 = n) (l1 : 0x1100 ≤ leNat (slice h 8 4)) (l2 : leNat (slice h 8 4) ≤ 0x10000)
    (c1 : leNat (slice h 60 4) = crc) (c2 : crc32c (h.take 60 ++ body) = crc)
    (f : leNat (h.take 4) = 0x0B1D3248 ∧ leNat (slice h 4 1) = 1 ∧ leNat (slice h 5 1) = 0)
    (hk : s.key 0 = none ∨ (s.key 0 = some k ∧ (hmac k (h.take 16 ++ slice h 32 28 ++ body)).take 16 == slice h 16 16)) :
    imageCheck s 0 = 0 := by
  unfold imageCheck
  simp only [e1, f, l, e2, c1, c2]
  rw [if_neg (by simp), if_neg (by omega), if_neg (by simp)]
  obtain h | ⟨h, ht⟩ := hk
  · simp only [h]; rfl
  · simp only [h, ht]; rfl

/-- A body that lists nothing reads as zeros. -/
theorem body_clear (s : State) (hm : s.crock.bad.isEmpty = true)
    (hb : s.crock.mem.all (fun x => decide (x.1 < 0x180040) || decide (0x180040 + 4288 ≤ x.1)) = true) (n : Nat) (hn : n = 4288) :
    s.crockRead (imageBase 0 + 64) n = zeros n := by
  subst hn
  rw [State.crockRead, if_pos hm, show imageBase 0 + 64 = 0x180040 from rfl, Laws.readCells_clear _ _ _ hb]
/-- What a test asks of a state that holds an image whose body is all zeros. -/
theorem image_passes (s : State) (h k : List Byte) (crc : Nat) (hm : s.crock.bad.isEmpty = true)
    (hb : s.crock.mem.all (fun x => decide (x.1 < 0x180040) || decide (0x180040 + 4288 ≤ x.1)) = true)
    (e1 : s.crockRead (imageBase 0) 64 = h) (l : leNat (slice h 8 4) = 0x1100) (c1 : leNat (slice h 60 4) = crc)
    (c2 : crcOut 3 (Laws.foldStrict (crcStep 3) (h.take 60 ++ zeros 4288) (crcInit 3)) = crc)
    (f : leNat (h.take 4) = 0x0B1D3248 ∧ leNat (slice h 4 1) = 1 ∧ leNat (slice h 5 1) = 0)
    (hk : s.key 0 = none ∨ (s.key 0 = some k ∧ (hmac k (h.take 16 ++ slice h 32 28 ++ zeros 4288)).take 16 == slice h 16 16)) :
    imageCheck s 0 = 0 :=
  check_passes s h (zeros 4288) k 4288 crc e1 (body_clear s hm hb 4288 rfl) (by omega) (by omega) (by omega) c1
    (by rw [crc32c, crcOf, Laws.foldl_eq_strict, c2]) f hk

/-- An image 0 that passes is the one that is applied. -/
theorem boots (s : State) (e : s.choice 3 = false) (c : imageCheck s 0 = 0) : bootImage s = applyImage s 0 := by
  have j : judgeImage s 0 = (true, s) := by
    unfold judgeImage
    simp only [c, if_true]
  have e' : b2n (s.choice 3) = 0 := by rw [e]; rfl
  unfold bootImage
  simp only [e', j]

/-- Image 0 with a header. -/
def withImage (s : State) (h : List Byte) : State := crockWrite s 0x180000 h

/-- Its header under the command key. -/
def keyedHead : List Byte := imgHead 0xf8fc3ad37be47786e6feb7ee302c4860 0xf5a8b0ad

/-- Image 0 under the command key. -/
def keyedImage : State := withImage keyed keyedHead

/-- CONFIG_SELECT of image 0. -/
def saved : Cmd := signed keyedImage 0x0004 []

/-- Its tag. -/
theorem tag_of_zeros : (hmac aKey (keyedHead.take 16 ++ slice keyedHead 32 28 ++ zeros 4288)).take 16 == slice keyedHead 16 16 := by
  unfold hmac sha256
  simp only [Laws.shaBlocks_eq_strict]
  decide +kernel
theorem crc_of_zeros : crcOut 3 (Laws.foldStrict (crcStep 3) (keyedHead.take 60 ++ zeros 4288) (crcInit 3)) = 0xf5a8b0ad := by
  decide +kernel
theorem keyed_passes (s : State) (hm : s.crock.bad.isEmpty = true)
    (hb : s.crock.mem.all (fun x => decide (x.1 < 0x180040) || decide (0x180040 + 4288 ≤ x.1)) = true)
    (e1 : s.crockRead (imageBase 0) 64 = keyedHead) (hk : s.key 0 = some aKey) : imageCheck s 0 = 0 :=
  image_passes s keyedHead aKey 0xf5a8b0ad hm hb e1 (by decide +kernel) (by decide +kernel) crc_of_zeros (by decide +kernel)
    (.inr ⟨hk, tag_of_zeros⟩)

/-- It passes when the command runs. -/
theorem saved_passes : imageCheck (passed keyedImage 0x0004 []) 0 = 0 :=
  keyed_passes _ (by decide +kernel) (by decide +kernel) (by decide +kernel) (by decide +kernel)

/-- The command names image 0. -/
theorem saved_image : (args saved 1 [parElse 0 8 0 1 0]).1 0 = 0 := by decide +kernel

/-- A chip that boots with image 0 and no key. -/
def booting : State := { keyedImage with crock.scanned := false }

/-- After the scan. -/
def scanned : State := bootStage (strapEvent (reinitLines (scanJournal booting))) 1

/-- Image 0 passes at boot. -/
theorem scanned_passes : imageCheck scanned 0 = 0 :=
  keyed_passes _ (by decide +kernel) (by decide +kernel) (by decide +kernel) (by decide +kernel)

/-- It is the one applied. -/
theorem scanned_boots : bootImage scanned = applyImage scanned 0 := boots scanned (by decide +kernel) scanned_passes

/-! ### States and operands that meet the hypotheses of the statements -/

/-- What Obligations.HubReadingRequests asks of states and operands is met, clause by clause, part 1. -/
theorem witness_HubReadingRequests_1 :
    (∃ (s : State) (u : Up) (fn : Fn) (n : Nat), fn ≠ .mgmt ∧ (s.up u).has fn = true ∧
     (configured (s.up u) fn = false ∨ hasPort fn n = false)) ∧
    (∃ (s : State) (u : Up) (n : Nat) (c : _), configured (s.up u) .usb2 = true ∧ hasPort .usb2 n = true ∧
     hasChange .usb2 c = true) ∧
    (∃ (s : State) (u : Up) (n : Nat) (c : _), configured (s.up u) .ss = true ∧ hasPort .ss n = true ∧
     hasChange .ss c = true) ∧
    (∃ (s : State) (u : Up) (n : Nat), configured (s.up u) .ss = true ∧ hasPort .ss n = true ∧ s.owns u n = true) :=
  ⟨⟨State.reset.modUp .a (fun x => { x with link := .hs }), .a, .usb2, 1, by decide +kernel, by decide +kernel,
   by decide +kernel⟩,
   ⟨State.reset.modUp .a (fun x => { x with hubCfg := 1, link := .hs }), .a, 1, .connection, by decide +kernel,
   by decide +kernel, by decide +kernel⟩,
   ⟨State.reset.modUp .a (fun x => { x with ssCfg := 1, ssLink := .u0 }), .a, 1, .connection, by decide +kernel,
   by decide +kernel, by decide +kernel⟩,
   ⟨(State.reset.modUp .a (fun x => { x with ssCfg := 1, ssLink := .u0 })).modPort 1 (fun x => { x with id.owner := .upA }),
   .a, 1, by decide +kernel, by decide +kernel, by decide +kernel⟩⟩

/-- What Obligations.HubReadingRequests asks of states and operands is met, clause by clause, part 2. -/
theorem witness_HubReadingRequests_2 :
    (∃ (s : State) (u : Up) (n : Nat), configured (s.up u) .ss = true ∧ hasPort .ss n = true ∧ s.owns u n = false) ∧
    (∃ (s : State) (u : Up) (n : Nat) (p : Nat) (ps : _), configured (s.up u) .usb2 = true ∧ isPort n = true ∧
     s.psxOn = true ∧ ttPorts s u n = p :: ps) ∧
    (∃ (s : State) (u : Up) (n : Nat), configured (s.up u) .usb2 = true ∧ isPort n = true ∧ s.psxOn = true ∧
     ttPorts s u n = []) ∧
    (∃ (s : State) (u : Up) (n : Nat), configured (s.up u) .usb2 = true ∧ 34 ≤ n ∧ n ≤ 41 ∧ s.psxOn = true ∧
     (s.vport u n).shown = true) :=
  ⟨⟨(State.reset.modUp .a (fun x => { x with ssCfg := 1, ssLink := .u0 })).modPort 1 (fun x => { x with id.owner := .upB }),
   .a, 1, by decide +kernel, by decide +kernel, by decide +kernel⟩,
   ⟨State.reset.modUp .a (fun x => { x with hubCfg := 1, link := .hs }), .a, 1, 1, _, by decide +kernel, by decide +kernel,
   by decide +kernel, rfl⟩,
   ⟨State.reset.modUp .a (fun x => { x with hubCfg := 1, link := .hs }), .a, 2, by decide +kernel, by decide +kernel,
   by decide +kernel, by decide +kernel⟩,
   ⟨(State.reset.modUp .a (fun x => { x with hubCfg := 1, link := .hs })).modVPort .a 34 (fun x => { x with shown := true }),
   .a, 34, by decide +kernel, by decide +kernel, by decide +kernel, by decide +kernel, by decide +kernel⟩⟩

/-- What Obligations.HubReadingRequests asks of states and operands is met, clause by clause, part 3. -/
theorem witness_HubReadingRequests_3 :
    ∃ (s : State) (u : Up) (fn : Fn) (kind : _) (index : _) (d : _), (s.up u).has fn = true ∧
     (fn ≠ .mgmt ∨ ((s.up u).mgEnabled = true ∧ (s.up u).mgResetting = false)) ∧
     ((kind = 0x29 ∨ kind = 0x2A → configured (s.up u) fn = true)) ∧ descOf s u fn kind index = some d :=
  ⟨State.reset.modUp .a (fun x => { x with link := .hs }), .a, .usb2, 1, 0, _, by decide +kernel, by decide +kernel,
   by decide +kernel, rfl⟩

/-- What Obligations.HubSettingRequests asks of states and operands is met, clause by clause, part 1. -/
theorem witness_HubSettingRequests_1 :
    (∃ (s : State) (u : Up) (n : Nat), configured (s.up u) .usb2 = true ∧ isPort n = true ∧ s.owns u n = true ∧
     (s.port n).id.eff = .transparent ∧
     ((s.port n).dpe = .enabled ∨ (s.port n).dpe = .disabled ∨ (s.port n).dpe = .suspended ∨ (s.port n).dpe = .sleeping ∨ (s.port n).dpe = .resuming)) ∧
    (∃ (s : State) (u : Up) (n : Nat), configured (s.up u) .usb2 = true ∧ isPort n = true ∧ s.owns u n = false) ∧
    (∃ (s : State) (u : Up) (n : Nat), configured (s.up u) .usb2 = true ∧ isPort n = true ∧ s.owns u n = true ∧
     (s.port n).id.eff = .transparent ∧ ((s.port n).dpe = .unpowered ∨ (s.port n).dpe = .disconnected)) ∧
    (∃ (s : State) (u : Up) (n : Nat), configured (s.up u) .usb2 = true ∧ isPort n = true ∧ s.owns u n = true ∧
     ((s.port n).dpe = .enabled ∧
     ((s.port n).id.eff = .transparent ∨ (s.port n).px.drained = true) ∨ (s.port n).dpe = .sleeping)) :=
  ⟨⟨(State.reset.modUp .a (fun x => { x with hubCfg := 1, link := .hs })).modPort 1 (fun x => { x with id.owner := .upA, id.eff := .transparent, dpe := .enabled }),
   .a, 1, by decide +kernel, by decide +kernel, by decide +kernel, by decide +kernel, by decide +kernel⟩,
   ⟨(State.reset.modUp .a (fun x => { x with hubCfg := 1, link := .hs })).modPort 1 (fun x => { x with id.owner := .upB }),
   .a, 1, by decide +kernel, by decide +kernel, by decide +kernel⟩,
   ⟨(State.reset.modUp .a (fun x => { x with hubCfg := 1, link := .hs })).modPort 1 (fun x => { x with id.owner := .upA, id.eff := .transparent, dpe := .unpowered }),
   .a, 1, by decide +kernel, by decide +kernel, by decide +kernel, by decide +kernel, by decide +kernel⟩,
   ⟨(State.reset.modUp .a (fun x => { x with hubCfg := 1, link := .hs })).modPort 1 (fun x => { x with id.owner := .upA, dpe := .sleeping }),
   .a, 1, by decide +kernel, by decide +kernel, by decide +kernel, by decide +kernel⟩⟩

/-- What Obligations.HubSettingRequests asks of states and operands is met, clause by clause, part 2. -/
theorem witness_HubSettingRequests_2 :
    (∃ (s : State) (u : Up) (n : Nat), configured (s.up u) .usb2 = true ∧ isPort n = true ∧ s.owns u n = true ∧
     (s.port n).dpe = .enabled ∧ (s.port n).id.eff = .translated ∧ (s.port n).px.drained = false) ∧
    (∃ (s : State) (u : Up) (n : Nat), configured (s.up u) .usb2 = true ∧ isPort n = true ∧ s.owns u n = true ∧
     (s.port n).dpe = .resuming) ∧
    (∃ (s : State) (u : Up) (n : Nat), configured (s.up u) .usb2 = true ∧ isPort n = true ∧ s.owns u n = true ∧
     ((s.port n).dpe = .suspended ∨ (s.port n).dpe = .sleeping)) ∧
    (∃ (s : State) (u : Up) (n : Nat), configured (s.up u) .usb2 = true ∧ isPort n = true ∧ s.owns u n = true ∧
     (s.port n).dpe ≠ .suspended ∧ (s.port n).dpe ≠ .sleeping ∧ (s.port n).dpe ≠ .resuming) :=
  ⟨⟨(State.reset.modUp .a (fun x => { x with hubCfg := 1, link := .hs })).modPort 1 (fun x => { x with id.owner := .upA, dpe := .enabled, id.eff := .translated, px.ctrl.active := true, px.ctrl.forwarded := true }),
   .a, 1, by decide +kernel, by decide +kernel, by decide +kernel, by decide +kernel, by decide +kernel, by decide +kernel⟩,
   ⟨(State.reset.modUp .a (fun x => { x with hubCfg := 1, link := .hs })).modPort 1 (fun x => { x with id.owner := .upA, dpe := .resuming }),
   .a, 1, by decide +kernel, by decide +kernel, by decide +kernel, by decide +kernel⟩,
   ⟨(State.reset.modUp .a (fun x => { x with hubCfg := 1, link := .hs })).modPort 1 (fun x => { x with id.owner := .upA, dpe := .suspended }),
   .a, 1, by decide +kernel, by decide +kernel, by decide +kernel, by decide +kernel⟩,
   ⟨(State.reset.modUp .a (fun x => { x with hubCfg := 1, link := .hs })).modPort 1 (fun x => { x with id.owner := .upA }),
   .a, 1, by decide +kernel, by decide +kernel, by decide +kernel, by decide +kernel, by decide +kernel, by decide +kernel⟩⟩

/-- What Obligations.HubSettingRequests asks of states and operands is met, clause by clause, part 3. -/
theorem witness_HubSettingRequests_3 :
    (∃ (s : State) (u : Up) (n : Nat), configured (s.up u) .usb2 = true ∧ isPort n = true ∧ s.owns u n = true ∧
     (s.port n).id.eff = .transparent ∧
     ((s.port n).dpe = .enabled ∨ (s.port n).dpe = .sleeping ∨ (s.port n).dpe = .suspended ∨ (s.port n).dpe = .resuming)) ∧
    (∃ (s : State) (u : Up) (n : Nat), configured (s.up u) .usb2 = true ∧ isPort n = true ∧ s.owns u n = true ∧
     (s.port n).id.eff = .translated ∧ (s.port n).id.st ≠ .vacant ∧ (s.port n).id.st ≠ .filling) ∧
    (∃ (s : State) (u : Up) (n : Nat) (sel : TestSel), configured (s.up u) .usb2 = true ∧ isPort n = true ∧ sel ≠ .other ∧
     allQuiet s u = true ∧ s.owns u n = true) ∧
    (∃ (s : State) (u : Up) (n : Nat) (sel : TestSel), configured (s.up u) .usb2 = true ∧ hasPort .usb2 n = true ∧
     (32 < n ∨ sel = .other ∨ allQuiet s u = false)) :=
  ⟨⟨(State.reset.modUp .a (fun x => { x with hubCfg := 1, link := .hs })).modPort 1 (fun x => { x with id.owner := .upA, id.eff := .transparent, dpe := .enabled }),
   .a, 1, by decide +kernel, by decide +kernel, by decide +kernel, by decide +kernel, by decide +kernel⟩,
   ⟨(State.reset.modUp .a (fun x => { x with hubCfg := 1, link := .hs })).modPort 1 (fun x => { x with id.owner := .upA, id.eff := .translated, id.st := .presented }),
   .a, 1, by decide +kernel, by decide +kernel, by decide +kernel, by decide +kernel, by decide +kernel, by decide +kernel⟩,
   ⟨(State.reset.modUp .a (fun x => { x with hubCfg := 1, link := .hs })).modPort 1 (fun x => { x with id.owner := .upA }),
   .a, 1, .testJ, by decide +kernel, by decide +kernel, by decide +kernel, by decide +kernel, by decide +kernel⟩,
   ⟨State.reset.modUp .a (fun x => { x with hubCfg := 1, link := .hs }), .a, 33, .other, by decide +kernel,
   by decide +kernel, by decide +kernel⟩⟩

/-- What Obligations.HubSettingRequests asks of states and operands is met, clause by clause, part 4. -/
theorem witness_HubSettingRequests_4 :
    (∃ (s : State) (u : Up) (value : _), (s.up u).has .usb2 = true ∧ value ≤ 1) ∧
    (∃ (s : State) (u : Up) (value : _), (s.up u).has .mgmt = true ∧ (s.up u).mgEnabled = true ∧
     (s.up u).mgResetting = false ∧ value ≤ 1) ∧
    (∃ (s : State) (u : Up), (s.up u).has .usb2 = true ∧ (s.up u).hubCfg ≠ 0) ∧
    (∃ (s : State) (u : Up), (s.up u).has .usb2 = true ∧ hubMayL1 s u = true) :=
  ⟨⟨State.reset.modUp .a (fun x => { x with link := .hs }), .a, 0, by decide +kernel, by decide +kernel⟩,
   ⟨State.reset.modUp .a (fun x => { x with link := .hs, mgEnabled := true, mgResetting := false }), .a, 0,
   by decide +kernel, by decide +kernel, by decide +kernel, by decide +kernel⟩,
   ⟨State.reset.modUp .a (fun x => { x with link := .hs, hubCfg := 1 }), .a, by decide +kernel, by decide +kernel⟩,
   ⟨State.reset.modUp .a (fun x => { x with link := .hs }), .a, by decide +kernel, by decide +kernel⟩⟩

/-- What Obligations.HubSettingRequests asks of states and operands is met, clause by clause, part 5. -/
theorem witness_HubSettingRequests_5 :
    (∃ (s : State) (u : Up), (s.up u).has .usb2 = true ∧ hubMayL1 s u = false) ∧
    (∃ (s : State) (u : Up) (addr : _), (s.up u).has .usb2 = true ∧ addr < 128) ∧
    (∃ (s : State) (u : Up) (addr : _), (s.up u).has .mgmt = true ∧ (s.up u).mgEnabled = true ∧
     (s.up u).mgResetting = false ∧ addr < 128) ∧
    (∃ (s : State) (u : Up), (s.up u).mgResetting = true) :=
  ⟨⟨State.reset.modUp .a (fun x => { x with link := .hs, respPipe := [[]] }), .a, by decide +kernel, by decide +kernel⟩,
   ⟨State.reset.modUp .a (fun x => { x with link := .hs }), .a, 1, by decide +kernel, by decide +kernel⟩,
   ⟨State.reset.modUp .a (fun x => { x with link := .hs, mgEnabled := true, mgResetting := false }), .a, 1,
   by decide +kernel, by decide +kernel, by decide +kernel, by decide +kernel⟩,
   ⟨State.reset.modUp .a (fun x => { x with mgResetting := true }), .a, by decide +kernel⟩⟩

/-- What Obligations.SuperSpeedPortRequests asks of states and operands is met, clause by clause, part 1. -/
theorem witness_SuperSpeedPortRequests_1 :
    (∃ (s : State) (u : Up) (n : Nat), configured (s.up u) .ss = true ∧ hasPort .ss n = true ∧
     (s.owns u n = false ∨ (s.spe n).st ≠ .u0)) ∧
    (∃ (s : State) (u : Up) (n : Nat), configured (s.up u) .ss = true ∧ hasPort .ss n = true ∧ s.owns u n = true ∧
     (s.port n).id.eff = .transparent ∧ (s.spe n).st = .u0) ∧
    (∃ (s : State) (u : Up) (n : Nat), configured (s.up u) .ss = true ∧ hasPort .ss n = true ∧ s.owns u n = true ∧
     (s.port n).id.eff = .transparent ∧ (s.spe n).exit = none ∧ ((s.spe n).st = .u1 ∨ (s.spe n).st = .u2)) ∧
    (∃ (s : State) (u : Up) (n : Nat), configured (s.up u) .ss = true ∧ hasPort .ss n = true ∧ s.owns u n = true ∧
     (s.port n).id.eff = .transparent ∧ (s.spe n).exit = none ∧ (s.spe n).st = .u3) :=
  ⟨⟨(State.reset.modUp .a (fun x => { x with ssCfg := 1, ssLink := .u0 })).modPort 1 (fun x => { x with id.owner := .upB }),
   .a, 1, by decide +kernel, by decide +kernel, by decide +kernel⟩,
   ⟨((State.reset.modUp .a (fun x => { x with ssCfg := 1, ssLink := .u0 })).modPort 1 (fun x => { x with id.owner := .upA, id.eff := .transparent })).modSpe 1 (fun x => { x with st := .u0 }),
   .a, 1, by decide +kernel, by decide +kernel, by decide +kernel, by decide +kernel, by decide +kernel⟩,
   ⟨((State.reset.modUp .a (fun x => { x with ssCfg := 1, ssLink := .u0 })).modPort 1 (fun x => { x with id.owner := .upA, id.eff := .transparent })).modSpe 1 (fun x => { x with exit := none, st := .u1 }),
   .a, 1, by decide +kernel, by decide +kernel, by decide +kernel, by decide +kernel, by decide +kernel, by decide +kernel⟩,
   ⟨((State.reset.modUp .a (fun x => { x with ssCfg := 1, ssLink := .u0 })).modPort 1 (fun x => { x with id.owner := .upA, id.eff := .transparent })).modSpe 1 (fun x => { x with exit := none, st := .u3 }),
   .a, 1, by decide +kernel, by decide +kernel, by decide +kernel, by decide +kernel, by decide +kernel, by decide +kernel⟩⟩

/-- What Obligations.SuperSpeedPortRequests asks of states and operands is met, clause by clause, part 2. -/
theorem witness_SuperSpeedPortRequests_2 :
    (∃ (s : State) (u : Up) (n : Nat), configured (s.up u) .ss = true ∧ hasPort .ss n = true ∧ s.owns u n = true ∧
     (s.port n).id.eff = .transparent ∧ (s.spe n).st ≠ .ssInactive ∧ (s.spe n).st ≠ .compliance ∧ (s.spe n).st ≠ .loopback) ∧
    (∃ (s : State) (u : Up) (n : Nat), configured (s.up u) .ss = true ∧ hasPort .ss n = true ∧ s.owns u n = true ∧
     (s.port n).id.eff = .transparent ∧ (s.spe n).st = .ssDisabled) ∧
    (∃ (s : State) (u : Up) (n : Nat), configured (s.up u) .ss = true ∧ hasPort .ss n = true ∧ s.owns u n = true ∧
     (s.port n).id.eff = .translated) ∧
    (∃ (s : State) (u : Up) (n : Nat), configured (s.up u) .ss = true ∧ hasPort .ss n = true ∧ s.owns u n = true ∧
     ((s.spe n).st = .ssInactive ∨ (s.spe n).st = .compliance ∨ (s.spe n).st = .loopback)) :=
  ⟨⟨(State.reset.modUp .a (fun x => { x with ssCfg := 1, ssLink := .u0 })).modPort 1 (fun x => { x with id.owner := .upA, id.eff := .transparent }),
   .a, 1, by decide +kernel, by decide +kernel, by decide +kernel, by decide +kernel, by decide +kernel, by decide +kernel,
   by decide +kernel⟩,
   ⟨((State.reset.modUp .a (fun x => { x with ssCfg := 1, ssLink := .u0 })).modPort 1 (fun x => { x with id.owner := .upA, id.eff := .transparent })).modSpe 1 (fun x => { x with st := .ssDisabled }),
   .a, 1, by decide +kernel, by decide +kernel, by decide +kernel, by decide +kernel, by decide +kernel⟩,
   ⟨(State.reset.modUp .a (fun x => { x with ssCfg := 1, ssLink := .u0 })).modPort 1 (fun x => { x with id.owner := .upA, id.eff := .translated }),
   .a, 1, by decide +kernel, by decide +kernel, by decide +kernel, by decide +kernel⟩,
   ⟨((State.reset.modUp .a (fun x => { x with ssCfg := 1, ssLink := .u0 })).modPort 1 (fun x => { x with id.owner := .upA })).modSpe 1 (fun x => { x with st := .ssInactive }),
   .a, 1, by decide +kernel, by decide +kernel, by decide +kernel, by decide +kernel⟩⟩

/-- What Obligations.SuperSpeedPortRequests asks of states and operands is met, clause by clause, part 3. -/
theorem witness_SuperSpeedPortRequests_3 :
    (∃ (s : State) (u : Up) (n : Nat), configured (s.up u) .ss = true ∧ hasPort .ss n = true ∧ s.owns u n = false) ∧
    (∃ (s : State) (u : Up) (value : _), (s.up u).has .ss = true ∧ value ≤ 1) ∧
    (∃ (s : State) (u : Up) (addr : _), (s.up u).has .ss = true ∧ addr < 128) :=
  ⟨⟨(State.reset.modUp .a (fun x => { x with ssCfg := 1, ssLink := .u0 })).modPort 1 (fun x => { x with id.owner := .upB }),
   .a, 1, by decide +kernel, by decide +kernel, by decide +kernel⟩,
   ⟨State.reset.modUp .a (fun x => { x with ssLink := .u0 }), .a, 0, by decide +kernel, by decide +kernel⟩,
   ⟨State.reset.modUp .a (fun x => { x with ssLink := .u0 }), .a, 1, by decide +kernel, by decide +kernel⟩⟩

/-- What Obligations.HighSpeedPathAndFrames asks of states and operands is met, clause by clause, part 1. -/
theorem witness_HighSpeedPathAndFrames_1 :
    (∃ (s : State) (u : Up) (pid : Pid) (addr : _) (p : Nat), pid ≠ .sof ∧ tokenPort s u addr = some p) ∧
    (∃ (s : State) (u : Up), tokenPort s u (s.up u).hubAddr = none ∧ (s.up u).has .usb2 = true ∧ (s.up u).bus = .active ∧
     (s.up u).hubCfg ≠ 0 ∧ (changeMap (s.up u)).all (· == 0) = true) ∧
    (∃ (s : State) (u : Up), tokenPort s u (s.up u).hubAddr = none ∧ (s.up u).has .usb2 = true ∧ (s.up u).bus = .active ∧
     (s.up u).hubCfg ≠ 0 ∧ (changeMap (s.up u)).all (· == 0) = false) ∧
    (∃ (s : State) (u : Up) (pid : Pid) (addr : _), pid ≠ .sof ∧ tokenPort s u addr = none ∧ addr ≠ (s.up u).hubAddr ∧
     addr ≠ (s.up u).mgAddr) :=
  ⟨⟨(State.reset.modUp .a (fun x => { x with link := .hs })).modPort 1 (fun x => { x with id.owner := .upA, dpe := .enabled, id.speed := .hs, addr := 1 }),
   .a, .out, 1, 1, by decide +kernel, by decide +kernel⟩,
   ⟨State.reset.modUp .a (fun x => { x with link := .hs, bus := .active, hubCfg := 1 }), .a, by decide +kernel,
   by decide +kernel, by decide +kernel, by decide +kernel, by decide +kernel⟩,
   ⟨State.reset.modUp .a (fun x => { x with link := .hs, hubCfg := 1, views := [{ cConn := true }] }), .a,
   by decide +kernel, by decide +kernel, by decide +kernel, by decide +kernel, by decide +kernel⟩,
   ⟨State.reset, .a, .out, 1, by decide +kernel, by decide +kernel, by decide +kernel, by decide +kernel⟩⟩

/-- What Obligations.HighSpeedPathAndFrames asks of states and operands is met, clause by clause, part 2. -/
theorem witness_HighSpeedPathAndFrames_2 :
    (∃ (s : State) (p : Nat) (addr : _) (u : Up), (s.port p).id.eff = .transparent ∧ ownerUp (s.port p) = some u ∧
     addr < 128) ∧
    (∃ (s : State) (u : Up) (p : Nat), s.owns u p = true ∧ (s.port p).dpe = .enabled ∧ (s.port p).busSusp = false ∧
     s.sys.clockFallback = false ∧ (s.port p).id.eff = .transparent ∧
     ((s.port p).id.speed = .fs ∨ (s.port p).id.speed = .ls)) ∧
    (∃ (s : State) (u : Up) (n : Nat), s.chipActive = true ∧ (s.up u).has .ss = true ∧ hasPort .ss n = true ∧
     s.owns u n = true ∧ (s.spe n).st = .u0) ∧
    (∃ (s : State) (u : Up) (n : Nat), s.chipActive = true ∧ (s.up u).has .ss = true ∧ hasPort .ss n = true ∧
     s.owns u n = true ∧ ((s.spe n).st = .u1 ∨ (s.spe n).st = .u2)) :=
  ⟨⟨State.reset.modPort 1 (fun x => { x with id.eff := .transparent, id.owner := .upA }), 1, 1, .a, by decide +kernel,
   by decide +kernel, by decide +kernel⟩,
   ⟨({ State.reset with sys.clockFallback := false : State }).modPort 1 (fun x => { x with id.owner := .upA, dpe := .enabled, busSusp := false, id.eff := .transparent, id.speed := .fs }),
   .a, 1, by decide +kernel, by decide +kernel, by decide +kernel, by decide +kernel, by decide +kernel, by decide +kernel⟩,
   ⟨((State.reset.modUp .a (fun x => { x with ssLink := .u0 })).modPort 1 (fun x => { x with id.owner := .upA })).modSpe 1 (fun x => { x with st := .u0 }),
   .a, 1, by decide +kernel, by decide +kernel, by decide +kernel, by decide +kernel, by decide +kernel⟩,
   ⟨((State.reset.modUp .a (fun x => { x with ssLink := .u0 })).modPort 1 (fun x => { x with id.owner := .upA })).modSpe 1 (fun x => { x with st := .u1 }),
   .a, 1, by decide +kernel, by decide +kernel, by decide +kernel, by decide +kernel, by decide +kernel⟩⟩

/-- What Obligations.HighSpeedPathAndFrames asks of states and operands is met, clause by clause, part 3. -/
theorem witness_HighSpeedPathAndFrames_3 :
    ∃ (s : State) (u : Up) (n : Nat), s.chipActive = true ∧ (s.up u).has .ss = true ∧ hasPort .ss n = true ∧
     s.owns u n = true ∧ (s.up u).ssLink = .u0 :=
  ⟨(State.reset.modUp .a (fun x => { x with ssLink := .u0 })).modPort 1 (fun x => { x with id.owner := .upA }), .a, 1,
   by decide +kernel, by decide +kernel, by decide +kernel, by decide +kernel, by decide +kernel⟩

/-- What Obligations.PlanAndScrubber asks of states and operands is met, clause by clause. -/
theorem witness_PlanAndScrubber :
    (∃ (s : State) (rs : _) (w : _) (cl : _), s.plan.next = some (rs, w, cl) ∧ planDrained s rs = true) ∧
    (∃ (s : State), s.plan.next = none) ∧
    (∃ (s : State) (rs : _) (w : _) (cl : _), s.plan.next = some (rs, w, cl) ∧ planDrained s rs = false) :=
  ⟨⟨{ State.reset with plan.next := some ([], 0, false) : State }, [], 0, false, rfl, by decide +kernel⟩,
   ⟨{ State.reset with plan.next := none : State }, by decide +kernel⟩,
   ⟨({ State.reset with plan.next := some ([{ kind := 1, owner := 1, pages := 7 }], 0, false) : State }).modPort 1 (fun x => { x with tt.np := [{ addr := 1 }] }), [{ kind := 1, owner := 1, pages := 7 }], 0, false,
   rfl, by decide +kernel⟩⟩

/-- What Obligations.PortConnectResetSuspend asks of states and operands is met, clause by clause, part 1. -/
theorem witness_PortConnectResetSuspend_1 :
    (∃ (s : State) (p : Nat), (s.port p).dpe = .disconnected ∧ (s.port p).chargeNow ≠ 1 ∧ effMode s p = .transparent ∧
     (s.port p).id.mode = .transparent) ∧
    (∃ (s : State) (p : Nat), (s.port p).dpe = .disconnected ∧ (s.port p).chargeNow ≠ 1 ∧ effMode s p = .translated) ∧
    (∃ (s : State) (p : Nat), (s.port p).dpe ≠ .unpowered ∧ (s.port p).dpe ≠ .disconnected ∧ (s.port p).dpe ≠ .testing ∧
     8 < p) ∧
    (∃ (s : State) (p : Nat), ((s.port p).dpe = .unpowered ∨ (s.port p).dpe = .disconnected ∨ (s.port p).dpe = .testing)) :=
  ⟨⟨State.reset.modPort 1 (fun x => { x with dpe := .disconnected, id.mode := .transparent }), 1, by decide +kernel,
   by decide +kernel, by decide +kernel, by decide +kernel⟩,
   ⟨({ State.reset with plan.regions := [{ kind := 4, owner := 1, pages := 1 }] : State }).modPort 1 (fun x => { x with dpe := .disconnected, id.mode := .translated }), 1,
   by decide +kernel, by decide +kernel, by decide +kernel⟩,
   ⟨State.reset.modPort 32 (fun x => { x with dpe := .enabled }), 32, by decide +kernel, by decide +kernel,
   by decide +kernel, by decide +kernel⟩,
   ⟨State.reset.modPort 1 (fun x => { x with dpe := .unpowered }), 1, by decide +kernel⟩⟩

/-- What Obligations.PortConnectResetSuspend asks of states and operands is met, clause by clause, part 2. -/
theorem witness_PortConnectResetSuspend_2 :
    (∃ (s : State) (p : Nat), (s.port p).dpe = .resetting ∧ (s.port p).chirp = 1) ∧
    (∃ (s : State) (p : Nat) (u : Up), (s.port p).dpe = .resetting ∧ (s.port p).chirp = 2 ∧ (s.port p).fill = none ∧
     (s.port p).cmdReset = false ∧ ownerUp (s.port p) = some u) ∧
    (∃ (s : State) (p : Nat), (s.port p).chargeNow = 2) ∧
    (∃ (s : State) (p : Nat) (besl : _), (s.port p).dpe = .enabled ∧ besl < 16) :=
  ⟨⟨State.reset.modPort 1 (fun x => { x with dpe := .resetting, chirp := 1 }), 1, by decide +kernel, by decide +kernel⟩,
   ⟨State.reset.modPort 1 (fun x => { x with dpe := .resetting, chirp := 2, fill := none, cmdReset := false, id.owner := .upA }), 1,
   .a, by decide +kernel, by decide +kernel, by decide +kernel, by decide +kernel, by decide +kernel⟩,
   ⟨State.reset.modPort 1 (fun x => { x with chargeNow := 2 }), 1, by decide +kernel⟩,
   ⟨State.reset.modPort 1 (fun x => { x with dpe := .enabled }), 1, 0, by decide +kernel, by decide +kernel⟩⟩

/-- What Obligations.PortConnectResetSuspend asks of states and operands is met, clause by clause, part 3. -/
theorem witness_PortConnectResetSuspend_3 :
    (∃ (s : State) (u : Up) (n : Nat), s.owns u n = true ∧ (s.port n).id.eff = .translated ∧ (s.port n).dpe = .enabled ∧
     isPort n = true ∧ ((s.port n).id.st = .presented ∨ (s.port n).id.st = .live) ∧ (s.port n).px.heldBytes = 0 ∧
     (s.port n).px.ctrl.active = false ∧ viewSilent (s.px (locOf u n)) = false) ∧
    (∃ (s : State) (u : Up) (n : Nat), viewSilent (s.px (locOf u n)) = true) ∧
    (∃ (s : State) (p : Nat) (left : _), (s.port p).dpe ≠ .resuming ∧ leftOf (s.port p) = some left ∧
     wakeBlocked s p = false) ∧
    (∃ (s : State) (p : Nat) (left : _), (s.port p).dpe ≠ .resuming ∧ leftOf (s.port p) = some left ∧ wakeBlocked s p = true) :=
  ⟨⟨State.reset.modPort 1 (fun x => { x with id.owner := .upA, id.eff := .translated, dpe := .enabled, id.st := .presented, px.ctrl.active := false }),
   .a, 1, by decide +kernel, by decide +kernel, by decide +kernel, by decide +kernel, by decide +kernel, by decide +kernel,
   by decide +kernel, by decide +kernel⟩,
   ⟨State.reset.modPort 1 (fun x => { x with px.viewDis := true }), .a, 1, by decide +kernel⟩,
   ⟨State.reset.modPort 1 (fun x => { x with dpe := .suspended }), 1, 0, by decide +kernel, by decide +kernel,
   by decide +kernel⟩,
   ⟨(State.reset.modPort 1 (fun x => { x with dpe := .suspended })).modUp .a (fun x => { x with bus := .suspended }), 1, 0,
   by decide +kernel, by decide +kernel, by decide +kernel⟩⟩

/-- What Obligations.PortConnectResetSuspend asks of states and operands is met, clause by clause, part 4. -/
theorem witness_PortConnectResetSuspend_4 :
    (∃ (s : State) (p : Nat), (s.port p).dpe = .resuming) ∧
    (∃ (s : State) (u : Up), ((s.up u).bus = .suspended ∨ (s.up u).bus = .l1) ∧ (s.up u).kDrive = none) ∧
    (∃ (s : State) (u : Up) (p : Nat) (t : _), (s.up u).kDrive = some (p, t) ∧ p ≤ 32) ∧
    (∃ (s : State) (p : Nat) (r : _), (s.port p).resume = some r ∧ followsK s p r = false) :=
  ⟨⟨State.reset.modPort 1 (fun x => { x with dpe := .resuming }), 1, by decide +kernel⟩,
   ⟨State.reset.modUp .a (fun x => { x with bus := .suspended, kDrive := none }), .a, by decide +kernel, by decide +kernel⟩,
   ⟨State.reset.modUp .a (fun x => { x with kDrive := some (1, 0) }), .a, 1, 0, rfl, by decide +kernel⟩,
   ⟨State.reset.modPort 1 (fun x => { x with resume := some {} }), 1, {}, rfl, by decide +kernel⟩⟩

/-- What Obligations.PortConnectResetSuspend asks of states and operands is met, clause by clause, part 5. -/
theorem witness_PortConnectResetSuspend_5 :
    (∃ (s : State) (p : Nat) (r : _), (s.port p).resume = some r ∧ followsK s p r = true) ∧
    (∃ (s : State) (u : Up), (s.up u).bus = .resuming) ∧
    (∃ (s : State) (u : Up) (p : Nat) (r : _), s.owns u p = true ∧ (s.port p).resume = some r ∧ r.follows = true) ∧
    (∃ (s : State) (p : Nat), (s.port p).dpe = .enabled ∧ (s.port p).id.eff = .transparent) :=
  ⟨⟨(State.reset.modUp .a (fun x => { x with bus := .resuming })).modPort 1 (fun x => { x with id.owner := .upA, resume := some { follows := true } }), 1, { follows := true },
   rfl, by decide +kernel⟩,
   ⟨State.reset.modUp .a (fun x => { x with bus := .resuming }), .a, by decide +kernel⟩,
   ⟨State.reset.modPort 1 (fun x => { x with id.owner := .upA, resume := some { follows := true } }),
   .a, 1, { follows := true }, by decide +kernel, rfl, by decide +kernel⟩,
   ⟨State.reset.modPort 1 (fun x => { x with dpe := .enabled, id.eff := .transparent }), 1, by decide +kernel,
   by decide +kernel⟩⟩

/-- What Obligations.PortConnectResetSuspend asks of states and operands is met, clause by clause, part 6. -/
theorem witness_PortConnectResetSuspend_6 :
    (∃ (s : State) (p : Nat), (s.port p).dpe = .enabled ∧ (s.port p).id.eff = .translated ∧
     ((s.port p).id.st = .presented ∨ (s.port p).id.st = .live) ∧ s.pages 4 p 0 ≠ 0) ∧
    (∃ (s : State) (p : Nat) (u : Up), (s.port p).suspWait = true ∧ ownerUp (s.port p) = some u) ∧
    (∃ (s : State) (p : Nat), (s.port p).suspWait = true ∧ (s.port p).id.owner = .lent) ∧
    (∃ (s : State) (p : Nat), l1Ready s p = true) :=
  ⟨⟨State.reset.modPort 1 (fun x => { x with dpe := .enabled, id.eff := .translated, id.st := .presented }), 1,
   by decide +kernel, by decide +kernel, by decide +kernel, by decide +kernel⟩,
   ⟨State.reset.modPort 1 (fun x => { x with suspWait := true, id.owner := .upA }), 1, .a, by decide +kernel,
   by decide +kernel⟩,
   ⟨State.reset.modPort 1 (fun x => { x with suspWait := true, id.owner := .lent }), 1, by decide +kernel,
   by decide +kernel⟩,
   ⟨({ State.reset with sys.profile := .economy : State }).modPort 1 (fun x => { x with id.eff := .translated, id.st := .live, id.speed := .hs, dpe := .enabled, ownerL1 := some 0 }), 1,
   by decide +kernel⟩⟩

/-- What Obligations.SuperSpeedLinkStates asks of states and operands is met, clause by clause, part 1. -/
theorem witness_SuperSpeedLinkStates_1 :
    (∃ (s : State) (n : Nat), s.chipActive = true ∧ 8 < n ∧ s.sys.role ≠ 3 ∧ linkOf s n = .rxDetect) ∧
    (∃ (s : State) (n : Nat), s.chipActive = true ∧ n ≤ 8 ∧ linkOf s n = .rxDetect ∧
     ((ssConnectMode s n).port n).id.eff = .transparent) ∧
    (∃ (s : State) (n : Nat), s.chipActive = true ∧ linkOf s n = .polling ∧ 8 < n) ∧
    (∃ (s : State) (n : Nat), s.chipActive = true ∧ linkOf s n = .recovery ∧ n ≤ 8 ∧ (s.spe n).exit = none) :=
  ⟨⟨State.reset.modUp .a (fun x => { x with ssLink := .rxDetect }), 9, by decide +kernel, by decide +kernel,
   by decide +kernel, by decide +kernel⟩,
   ⟨State.reset.modSpe 1 (fun x => { x with st := .rxDetect }), 1, by decide +kernel, by decide +kernel, by decide +kernel,
   by decide +kernel⟩,
   ⟨State.reset.modUp .a (fun x => { x with ssLink := .polling }), 9, by decide +kernel, by decide +kernel,
   by decide +kernel⟩,
   ⟨State.reset.modSpe 1 (fun x => { x with st := .recovery, exit := none }), 1, by decide +kernel, by decide +kernel,
   by decide +kernel, by decide +kernel⟩⟩

/-- What Obligations.SuperSpeedLinkStates asks of states and operands is met, clause by clause, part 2. -/
theorem witness_SuperSpeedLinkStates_2 :
    (∃ (s : State) (n : Nat), s.chipActive = true ∧ linkOf s n = .polling ∧ n ≤ 8 ∧ (s.spe n).firstLfps = true) ∧
    (∃ (s : State) (n : Nat), s.chipActive = true ∧ (linkOf s n = .recovery ∨ linkOf s n = .hotReset) ∧ 8 < n) ∧
    (∃ (s : State) (n : Nat), s.chipActive = true ∧ (linkOf s n = .recovery ∨ linkOf s n = .hotReset) ∧ n ≤ 8 ∧
     (s.spe n).exit = none) ∧
    (∃ (s : State) (n : Nat), s.chipActive = true ∧ linkOf s n = .u0 ∧ (8 < n ∨ (s.spe n).u1To ≠ 0)) :=
  ⟨⟨State.reset.modSpe 1 (fun x => { x with st := .polling, firstLfps := true }), 1, by decide +kernel, by decide +kernel,
   by decide +kernel, by decide +kernel⟩,
   ⟨State.reset.modUp .a (fun x => { x with ssLink := .recovery }), 9, by decide +kernel, by decide +kernel,
   by decide +kernel⟩,
   ⟨State.reset.modSpe 1 (fun x => { x with st := .recovery, exit := none }), 1, by decide +kernel, by decide +kernel,
   by decide +kernel, by decide +kernel⟩,
   ⟨State.reset.modUp .a (fun x => { x with ssLink := .u0 }), 9, by decide +kernel, by decide +kernel, by decide +kernel⟩⟩

/-- What Obligations.SuperSpeedLinkStates asks of states and operands is met, clause by clause, part 3. -/
theorem witness_SuperSpeedLinkStates_3 :
    (∃ (s : State) (n : Nat), s.chipActive = true ∧ linkOf s n = .u0 ∧ (8 < n ∨ (s.spe n).u2To ≠ 0)) ∧
    (∃ (s : State) (n : Nat), s.chipActive = true ∧ linkOf s n = .u0 ∧ 8 < n) ∧
    (∃ (s : State) (n : Nat), s.chipActive = true ∧ linkOf s n = .u0 ∧ n ≤ 8 ∧ (s.spe n).u1To = 0) ∧
    (∃ (s : State) (n : Nat), s.chipActive = true ∧ linkOf s n = .u0 ∧ n ≤ 8 ∧ (s.spe n).u2To = 0) :=
  ⟨⟨State.reset.modUp .a (fun x => { x with ssLink := .u0 }), 9, by decide +kernel, by decide +kernel, by decide +kernel⟩,
   ⟨State.reset.modUp .a (fun x => { x with ssLink := .u0 }), 9, by decide +kernel, by decide +kernel, by decide +kernel⟩,
   ⟨State.reset.modSpe 1 (fun x => { x with st := .u0, u1To := 0 }), 1, by decide +kernel, by decide +kernel,
   by decide +kernel, by decide +kernel⟩,
   ⟨State.reset.modSpe 1 (fun x => { x with st := .u0, u2To := 0 }), 1, by decide +kernel, by decide +kernel,
   by decide +kernel, by decide +kernel⟩⟩

/-- What Obligations.SuperSpeedLinkStates asks of states and operands is met, clause by clause, part 4. -/
theorem witness_SuperSpeedLinkStates_4 :
    (∃ (s : State) (n : Nat), s.chipActive = true ∧ linkOf s n = .u0 ∧ n ≤ 8 ∧ 1 ≤ (s.spe n).u1To ∧ (s.spe n).u1To ≤ 0x7F) ∧
    (∃ (s : State) (n : Nat), s.chipActive = true ∧ linkOf s n = .u0 ∧ n ≤ 8 ∧ 1 ≤ (s.spe n).u2To ∧ (s.spe n).u2To ≤ 0x7F) ∧
    (∃ (s : State) (n : Nat), s.chipActive = true ∧ (linkOf s n = .u1 ∨ linkOf s n = .u2)) ∧
    (∃ (s : State) (n : Nat), s.chipActive = true ∧ linkOf s n = .u3 ∧ 8 < n) :=
  ⟨⟨State.reset.modSpe 1 (fun x => { x with st := .u0, u1To := 1 }), 1, by decide +kernel, by decide +kernel,
   by decide +kernel, by decide +kernel, by decide +kernel⟩,
   ⟨State.reset.modSpe 1 (fun x => { x with st := .u0, u2To := 1 }), 1, by decide +kernel, by decide +kernel,
   by decide +kernel, by decide +kernel, by decide +kernel⟩,
   ⟨State.reset.modSpe 1 (fun x => { x with st := .u1 }), 1, by decide +kernel, by decide +kernel⟩,
   ⟨State.reset.modUp .a (fun x => { x with ssLink := .u3 }), 9, by decide +kernel, by decide +kernel, by decide +kernel⟩⟩

/-- What Obligations.SuperSpeedLinkStates asks of states and operands is met, clause by clause, part 5. -/
theorem witness_SuperSpeedLinkStates_5 :
    (∃ (s : State) (p : Nat) (u : Up), s.chipActive = true ∧ p ≤ 8 ∧ (s.spe p).exit = none ∧ (s.spe p).st = .u3 ∧
     ownerUp (s.port p) = some u ∧ (s.up u).ssLink = .u3 ∧ (s.up u).ssWake = false) ∧
    (∃ (s : State) (p : Nat), s.chipActive = true ∧ p ≤ 8 ∧ (s.spe p).exit = none ∧ (s.spe p).st = .u3 ∧
     ((∀ u, ownerUp (s.port p) = some u → (s.up u).ssLink = .u3 → (s.up u).ssWake = true))) ∧
    (∃ (s : State) (p : Nat) (r : _), s.chipActive = true ∧ p ≤ 8 ∧ (s.spe p).exit = some r) ∧
    (∃ (s : State) (n : Nat), s.chipActive = true ∧ n ≤ 8 ∧ (s.spe n).warm = true) :=
  ⟨⟨((State.reset.modSpe 1 (fun x => { x with exit := none, st := .u3 })).modPort 1 (fun x => { x with id.owner := .upA })).modUp .a (fun x => { x with ssLink := .u3, ssWake := false }), 1,
   .a, by decide +kernel, by decide +kernel, by decide +kernel, by decide +kernel, by decide +kernel, by decide +kernel,
   by decide +kernel⟩,
   ⟨State.reset.modSpe 1 (fun x => { x with exit := none, st := .u3 }), 1, by decide +kernel, by decide +kernel,
   by decide +kernel, by decide +kernel, by decide +kernel⟩,
   ⟨State.reset.modSpe 1 (fun x => { x with exit := some {} }), 1, {}, by decide +kernel, by decide +kernel, rfl⟩,
   ⟨State.reset.modSpe 1 (fun x => { x with warm := true }), 1, by decide +kernel, by decide +kernel, by decide +kernel⟩⟩

/-- What Obligations.SuperSpeedLinkStates asks of states and operands is met, clause by clause, part 6. -/
theorem witness_SuperSpeedLinkStates_6 :
    (∃ (s : State) (u : Up), (s.up u).ssLink = .u0 ∧ (s.up u).u1En = true ∧ upU1Eff s ≠ 0 ∧ ssPortsRest s u = true) ∧
    (∃ (s : State) (u : Up), ((s.up u).ssLink = .u0 ∨ (s.up u).ssLink = .u1) ∧ (s.up u).u2En = true ∧ upU2Eff s ≠ 0 ∧
     ssPortsRest s u = true) :=
  ⟨⟨({ State.reset with sys.profile := .economy : State }).modUp .a (fun x => { x with ssLink := .u0, u1En := true }), .a,
   by decide +kernel, by decide +kernel, by decide +kernel, by decide +kernel⟩,
   ⟨({ State.reset with sys.upU2 := some 4 : State }).modUp .a (fun x => { x with ssLink := .u0, u2En := true }), .a,
   by decide +kernel, by decide +kernel, by decide +kernel, by decide +kernel⟩⟩

/-- What Obligations.FillsAndControlRequests asks of states and operands is met, clause by clause, part 1. -/
theorem witness_FillsAndControlRequests_1 :
    (∃ (s : State) (p : Nat) (f : _), (s.port p).fill = some f ∧ f.step = 3) ∧
    (∃ (s : State) (p : Nat) (f : _), (s.port p).fill = some f ∧ f.step = 5 ∧ f.whole = false) ∧
    (∃ (s : State) (p : Nat) (f : _), (s.port p).fill = some f ∧ f.step = 5 ∧ f.whole = true) ∧
    (∃ (s : State) (p : Nat) (f : _), (s.port p).fill = some f ∧ f.tries < 3 ∧ f.step ≠ 1 ∧ f.req ≠ []) :=
  ⟨⟨State.reset.modPort 1 (fun x => { x with fill := some { step := 3 } }), 1, { step := 3 }, rfl, by decide +kernel⟩,
   ⟨State.reset.modPort 1 (fun x => { x with fill := some { step := 5, whole := false } }), 1, { step := 5, whole := false },
   rfl, by decide +kernel, by decide +kernel⟩,
   ⟨State.reset.modPort 1 (fun x => { x with fill := some { step := 5, whole := true } }), 1, { step := 5, whole := true },
   rfl, by decide +kernel, by decide +kernel⟩,
   ⟨State.reset.modPort 1 (fun x => { x with fill := some { step := 3, req := [1] } }), 1, { step := 3, req := [1] }, rfl,
   by decide +kernel, by decide +kernel, by decide +kernel⟩⟩

/-- What Obligations.FillsAndControlRequests asks of states and operands is met, clause by clause, part 2. -/
theorem witness_FillsAndControlRequests_2 :
    (∃ (s : State) (p : Nat) (f : _), (s.port p).fill = some f ∧ f.tries < 3 ∧ f.step = 1) ∧
    (∃ (s : State) (p : Nat) (f : _), (s.port p).fill = some f ∧ 3 ≤ f.tries) ∧
    (∃ (s : State) (p : Nat) (f : _), (s.port p).fill = some f ∧ f.refill = true ∧ f.step = 7) ∧
    (∃ (s : State) (u : Up) (n : Nat), gate s u n = .silent) :=
  ⟨⟨State.reset.modPort 1 (fun x => { x with fill := some { step := 1 } }), 1, { step := 1 }, rfl, by decide +kernel,
   by decide +kernel⟩,
   ⟨State.reset.modPort 1 (fun x => { x with fill := some { tries := 3 } }), 1, { tries := 3 }, rfl, by decide +kernel⟩,
   ⟨State.reset.modPort 1 (fun x => { x with fill := some { refill := true, step := 7 } }), 1, { refill := true, step := 7 },
   rfl, by decide +kernel, by decide +kernel⟩,
   ⟨State.reset, .a, 1, by decide +kernel⟩⟩

/-- What Obligations.FillsAndControlRequests asks of states and operands is met, clause by clause, part 3. -/
theorem witness_FillsAndControlRequests_3 :
    (∃ (s : State) (u : Up) (n : Nat) (kind : _) (index : _) (len : _) (a : _), gate s u n = .serve ∧
     pxBlocked s (locOf u n) = false ∧ proxyDesc s (locOf u n) kind index len = some a) ∧
    (∃ (s : State) (u : Up) (n : Nat) (kind : _) (index : _) (len : _), gate s u n = .serve ∧
     pxBlocked s (locOf u n) = false ∧ proxyDesc s (locOf u n) kind index len = none) ∧
    (∃ (s : State) (u : Up) (n : Nat), n ≤ 33 ∧ gate s u n = .nak) ∧
    (∃ (s : State) (p : Nat), awaits s (.phys p) isSetConfig = true) :=
  ⟨⟨State.reset.modPort 1 (fun x => { x with id.owner := .upA, id.eff := .translated, id.st := .presented, cacheOk := true, cache := zeros 18 }),
   .a, 1, 1, 0, 0, _, by decide +kernel, by decide +kernel, rfl⟩,
   ⟨State.reset.modPort 1 (fun x => { x with id.owner := .upA, id.eff := .translated, id.st := .presented }),
   .a, 1, 1, 0, 0, by decide +kernel, by decide +kernel, by decide +kernel⟩,
   ⟨State.reset.modPort 1 (fun x => { x with id.owner := .upA, id.eff := .translated, id.st := .refilling }), .a, 1,
   by decide +kernel, by decide +kernel⟩,
   ⟨State.reset.modPort 1 (fun x => { x with px.ctrl := { active := true, forwarded := true, setup := [0, 9, 1, 0, 0, 0, 0, 0] } }), 1,
   by decide +kernel⟩⟩

/-- What Obligations.FillsAndControlRequests asks of states and operands is met, clause by clause, part 4. -/
theorem witness_FillsAndControlRequests_4 :
    (∃ (s : State) (u : Up) (v : Nat), awaits s (.virt u v) isSetConfig = true) ∧
    (∃ (s : State) (p : Nat), awaits s (.phys p) isSetIface = true) ∧
    (∃ (s : State) (u : Up) (v : Nat), awaits s (.virt u v) isSetIface = true) ∧
    (∃ (b : _), isSetConfig b = true) :=
  ⟨⟨State.reset.modVPort .a 34 (fun x => { x with px.ctrl := { active := true, forwarded := true, setup := [0, 9, 1, 0, 0, 0, 0, 0] } }),
   .a, 34, by decide +kernel⟩,
   ⟨State.reset.modPort 1 (fun x => { x with px.ctrl := { active := true, forwarded := true, setup := [1, 11, 1, 0, 0, 0, 0, 0] } }), 1,
   by decide +kernel⟩,
   ⟨State.reset.modVPort .a 34 (fun x => { x with px.ctrl := { active := true, forwarded := true, setup := [1, 11, 1, 0, 0, 0, 0, 0] } }),
   .a, 34, by decide +kernel⟩,
   ⟨[0, 9, 1, 0, 0, 0, 0, 0], by decide +kernel⟩⟩

/-- What Obligations.FillsAndControlRequests asks of states and operands is met, clause by clause, part 5. -/
theorem witness_FillsAndControlRequests_5 :
    (∃ (b : _), isSetConfig b = false ∧ isSetIface b = true) ∧
    (∃ (s : State) (l : _), (s.px l).vreset = true) :=
  ⟨⟨[1, 11, 1, 0, 0, 0, 0, 0], by decide +kernel, by decide +kernel⟩,
   ⟨State.reset.modPx (((.phys 1))) (fun x => { x with vreset := true }), (.phys 1), by decide +kernel⟩⟩

/-- What Obligations.ProxyTransactions asks of states and operands is met, clause by clause, part 1. -/
theorem witness_ProxyTransactions_1 :
    (∃ (s : State) (u : Up) (n : Nat) (ep : _), gate s u n = .serve ∧ ep ≠ 0 ∧ inPxL1 s n = false ∧
     s.pxPages (locOf u n) = 0) ∧
    (∃ (s : State) (u : Up) (n : Nat) (ep : _) (e : _), gate s u n = .serve ∧ ep ≠ 0 ∧ inPxL1 s n = false ∧
     s.pxPages (locOf u n) ≠ 0 ∧ (s.px (locOf u n)).ep ep = some e ∧ e.halted = true) ∧
    (∃ (s : State) (u : Up) (n : Nat) (ep : _) (toggle : Bool) (e : _), gate s u n = .serve ∧ ep ≠ 0 ∧ inPxL1 s n = false ∧
     s.pxPages (locOf u n) ≠ 0 ∧ (s.px (locOf u n)).ep ep = some e ∧ e.halted = false ∧ e.bufs ≠ 0 ∧ toggle ≠ e.hostTog) ∧
    (∃ (s : State) (u : Up) (n : Nat) (ep : _) (e : _), gate s u n = .serve ∧ ep ≠ 0 ∧ inPxL1 s n = false ∧
     s.pxPages (locOf u n) ≠ 0 ∧ (s.px (locOf u n)).ep ep = some e ∧ e.halted = false ∧ e.held.length < e.bufs ∧
     pxBlocked s (locOf u n) = false) :=
  ⟨⟨({ State.reset with plan.regions := [] : State }).modPort 1 (fun x => { x with id.owner := .upA, id.eff := .translated, id.st := .presented }),
   .a, 1, 1, by decide +kernel, by decide +kernel, by decide +kernel, by decide +kernel⟩,
   ⟨({ State.reset with plan.regions := [{ kind := 3, owner := 1, pages := 2 }] : State }).modPort 1 (fun x => { x with id.owner := .upA, id.eff := .translated, id.st := .presented, px.eps := [{ halted := true, addr := 1 }] }),
   .a, 1, 1, { halted := true, addr := 1 }, by decide +kernel, by decide +kernel, by decide +kernel, by decide +kernel,
   by decide +kernel, by decide +kernel⟩,
   ⟨({ State.reset with plan.regions := [{ kind := 3, owner := 1, pages := 2 }] : State }).modPort 1 (fun x => { x with id.owner := .upA, id.eff := .translated, id.st := .presented, px.eps := [{ addr := 1, bufs := 1, hostTog := true }] }),
   .a, 1, 1, false, { addr := 1, bufs := 1, hostTog := true }, by decide +kernel, by decide +kernel, by decide +kernel,
   by decide +kernel, by decide +kernel, by decide +kernel, by decide +kernel, by decide +kernel⟩,
   ⟨({ State.reset with plan.regions := [{ kind := 3, owner := 1, pages := 2 }] : State }).modPort 1 (fun x => { x with id.owner := .upA, id.eff := .translated, id.st := .presented, px.eps := [{ addr := 1, bufs := 1 }] }),
   .a, 1, 1, { addr := 1, bufs := 1 }, by decide +kernel, by decide +kernel, by decide +kernel, by decide +kernel,
   by decide +kernel, by decide +kernel, by decide +kernel, by decide +kernel⟩⟩

/-- What Obligations.ProxyTransactions asks of states and operands is met, clause by clause, part 2. -/
theorem witness_ProxyTransactions_2 :
    (∃ (s : State) (u : Up) (n : Nat) (ep : _) (e : _), gate s u n = .serve ∧ ep ≠ 0 ∧ inPxL1 s n = false ∧
     s.pxPages (locOf u n) ≠ 0 ∧ (s.px (locOf u n)).ep ep = some e ∧ e.halted = false ∧ e.bufs ≤ e.held.length) ∧
    (∃ (s : State) (u : Up) (n : Nat) (ep : _) (e : _), gate s u n = .serve ∧ ep ≠ 0 ∧ inPxL1 s n = false ∧
     s.pxPages (locOf u n) ≠ 0 ∧ (s.px (locOf u n)).ep (ep + 128) = some e ∧ e.held = []) ∧
    (∃ (e : Ep), e.halted = false ∧ (e.bufs = 0 ∨ e.drawn = true)) ∧
    (∃ (s : State) (u : Up) (n : Nat) (ep : _) (e : _) (b : _) (bs : _), gate s u n = .serve ∧ ep ≠ 0 ∧
     inPxL1 s n = false ∧ s.pxPages (locOf u n) ≠ 0 ∧ (s.px (locOf u n)).ep (ep + 128) = some e ∧ e.held = b :: bs) :=
  ⟨⟨({ State.reset with plan.regions := [{ kind := 3, owner := 1, pages := 2 }] : State }).modPort 1 (fun x => { x with id.owner := .upA, id.eff := .translated, id.st := .presented, px.eps := [{ halted := false, addr := 1 }] }),
   .a, 1, 1, { halted := false, addr := 1 }, by decide +kernel, by decide +kernel, by decide +kernel, by decide +kernel,
   by decide +kernel, by decide +kernel, by decide +kernel⟩,
   ⟨({ State.reset with plan.regions := [{ kind := 3, owner := 1, pages := 2 }] : State }).modPort 1 (fun x => { x with id.owner := .upA, id.eff := .translated, id.st := .presented, px.eps := [{ held := [], addr := 129 }] }),
   .a, 1, 1, { held := [], addr := 129 }, by decide +kernel, by decide +kernel, by decide +kernel, by decide +kernel,
   by decide +kernel, by decide +kernel⟩,
   ⟨{ bufs := 0 }, by decide +kernel, by decide +kernel⟩,
   ⟨({ State.reset with plan.regions := [{ kind := 3, owner := 1, pages := 2 }] : State }).modPort 1 (fun x => { x with id.owner := .upA, id.eff := .translated, id.st := .presented, px.eps := [{ addr := 129, bufs := 1, held := [[1]] }] }),
   .a, 1, 1, { addr := 129, bufs := 1, held := [[1]] }, [1], [], by decide +kernel, by decide +kernel, by decide +kernel,
   by decide +kernel, by decide +kernel, rfl⟩⟩

/-- What Obligations.ProxyTransactions asks of states and operands is met, clause by clause, part 3. -/
theorem witness_ProxyTransactions_3 :
    (∃ (s : State) (p : Nat) (ep : _) (e : _), ep ≠ 0 ∧ (s.port p).px.ep (ep + 128) = some e ∧ e.bufs ≤ e.held.length) ∧
    (∃ (s : State) (p : Nat) (ep : _) (data : List Byte) (e : _), ep ≠ 0 ∧ (s.port p).px.ep (ep + 128) = some e ∧
     e.held.length < e.bufs ∧ stageRoom s p data.length = false) ∧
    (∃ (s : State) (p : Nat) (ep : _) (data : List Byte) (e : _), ep ≠ 0 ∧ (s.port p).px.ep (ep + 128) = some e ∧
     e.held.length < e.bufs ∧ stageRoom s p data.length = true) ∧
    (∃ (s : State) (p : Nat) (ep : _) (e : _) (nyet : _), ep ≠ 0 ∧ (s.port p).px.ep ep = some e ∧ e.held ≠ [] ∧
     (e.ping = false ∨ nyet = true)) :=
  ⟨⟨State.reset.modPort 1 (fun x => { x with px.eps := [{ addr := 129 }] }), 1, 1, { addr := 129 }, by decide +kernel,
   by decide +kernel, by decide +kernel⟩,
   ⟨({ State.reset with pair.st := .active, pair.partner := 2, pair.ladle := true, sys.role := 1, pair.set.wire := 0xFFFFFFFF, plan.regions := [{ kind := 6, pages := 1 }] : State }).modPort 1 (fun x => { x with id.eff := .translated, px.eps := [{ addr := 129, bufs := 1 }] }), 1, 1, List.replicate 4097 0, { addr := 129, bufs := 1 },
   by decide +kernel, by decide +kernel, by decide +kernel, by decide +kernel⟩,
   ⟨State.reset.modPort 1 (fun x => { x with px.eps := [{ addr := 129, bufs := 1 }] }), 1, 1, [], { addr := 129, bufs := 1 },
   by decide +kernel, by decide +kernel, by decide +kernel, by decide +kernel⟩,
   ⟨State.reset.modPort 1 (fun x => { x with px.eps := [{ addr := 1, bufs := 1, held := [[1]] }] }), 1, 1, { addr := 1, bufs := 1, held := [[1]] }, false,
   by decide +kernel, by decide +kernel, by decide +kernel, by decide +kernel⟩⟩

/-- What Obligations.ProxyTransactions asks of states and operands is met, clause by clause, part 4. -/
theorem witness_ProxyTransactions_4 :
    (∃ (s : State) (p : Nat) (ep : _) (e : _), ep ≠ 0 ∧ (s.port p).px.ep ep = some e ∧ e.held ≠ [] ∧ e.ping = true) ∧
    (∃ (s : State) (p : Nat), (s.port p).px.ctrl.onWire = true ∧ (s.port p).px.ctrl.wireOnly = true) ∧
    (∃ (s : State) (p : Nat) (ep : _) (e : _), ep ≠ 0 ∧ ep < 128 ∧ stalled (s.port p) ep = ep ∧ (s.port p).px.ep ep = some e) ∧
    (∃ (s : State) (p : Nat) (ep : _) (e : _), (s.port p).px.ep (ep + 128) = some e ∧ e.kind = 3 ∧ 0 < e.pollLeft) :=
  ⟨⟨State.reset.modPort 1 (fun x => { x with px.eps := [{ addr := 1, bufs := 1, held := [[1]], ping := true }] }), 1, 1, { addr := 1, bufs := 1, held := [[1]], ping := true },
   by decide +kernel, by decide +kernel, by decide +kernel, by decide +kernel⟩,
   ⟨State.reset.modPort 1 (fun x => { x with px.ctrl.onWire := true, px.ctrl.wireOnly := true }), 1, by decide +kernel,
   by decide +kernel⟩,
   ⟨State.reset.modPort 1 (fun x => { x with px.eps := [{ addr := 1 }] }), 1, 1, { addr := 1 }, by decide +kernel,
   by decide +kernel, by decide +kernel, by decide +kernel⟩,
   ⟨State.reset.modPort 1 (fun x => { x with px.eps := [{ addr := 129, kind := 3, pollLeft := 1 }] }), 1, 1, { addr := 129, kind := 3, pollLeft := 1 },
   by decide +kernel, by decide +kernel, by decide +kernel⟩⟩

/-- What Obligations.TransactionTranslators asks of states and operands is met, clause by clause, part 1. -/
theorem witness_TransactionTranslators_1 :
    (∃ (s : State) (u : Up) (n : Nat), isPort n = true ∧ s.owns u n = true ∧ (s.up u).link = .hs ∧
     (s.port n).id.eff = .transparent ∧ planBlocks s 1 n 0 = false ∧ (s.port n).tt.np.length < 4 * s.pages 1 n 0) ∧
    (∃ (s : State) (u : Up) (n : Nat), isPort n = true ∧ s.owns u n = true ∧ (s.up u).link = .hs ∧
     (s.port n).id.eff = .transparent ∧ 4 * s.pages 1 n 0 ≤ (s.port n).tt.np.length) ∧
    (∃ (s : State) (u : Up) (n : Nat) (ls : Bool) (count : _), isPort n = true ∧ s.owns u n = true ∧ (s.up u).link = .hs ∧
     (s.port n).id.eff = .transparent ∧ planBlocks s 2 n 0 = false ∧ 0 < s.pages 2 n 0 ∧ (s.port n).tt.stopped = false ∧
     withinR54 s u n (if ls then 8 * count else count) = true) ∧
    (∃ (s : State) (u : Up) (n : Nat) (ls : Bool) (count : _), isPort n = true ∧ s.owns u n = true ∧ (s.up u).link = .hs ∧
     (s.port n).id.eff = .transparent ∧ planBlocks s 2 n 0 = false ∧
     withinR54 s u n (if ls then 8 * count else count) = false) :=
  ⟨⟨({ State.reset with plan.regions := [{ kind := 1, owner := 1, pages := 1 }] : State }).modUp .a (fun x => { x with link := .hs }),
   .a, 1, by decide +kernel, by decide +kernel, by decide +kernel, by decide +kernel, by decide +kernel, by decide +kernel⟩,
   ⟨(State.reset.modUp .a (fun x => { x with link := .hs })).modPort 1 (fun x => { x with id.owner := .upA, id.eff := .transparent, tt.np := [{}, {}, {}, {}, {}, {}, {}, {}, {}, {}, {}, {}, {}, {}, {}, {}] }),
   .a, 1, by decide +kernel, by decide +kernel, by decide +kernel, by decide +kernel, by decide +kernel⟩,
   ⟨(State.reset.modPort 1 (fun x => { x with id.owner := .upA, id.eff := .transparent, tt.stopped := false })).modUp .a (fun x => { x with link := .hs }),
   .a, 1, false, 1, by decide +kernel, by decide +kernel, by decide +kernel, by decide +kernel, by decide +kernel,
   by decide +kernel, by decide +kernel, by decide +kernel⟩,
   ⟨(State.reset.modPort 1 (fun x => { x with id.owner := .upA, id.eff := .transparent })).modUp .a (fun x => { x with link := .hs }),
   .a, 1, false, 189, by decide +kernel, by decide +kernel, by decide +kernel, by decide +kernel, by decide +kernel,
   by decide +kernel⟩⟩

/-- What Obligations.TransactionTranslators asks of states and operands is met, clause by clause, part 2. -/
theorem witness_TransactionTranslators_2 :
    (∃ (s : State) (u : Up) (n : Nat), isPort n = true ∧ s.owns u n = true ∧ (s.up u).link = .hs ∧
     (s.port n).id.eff = .translated ∧ planBlocks s 1 n 0 = false ∧ s.pages 1 n 0 ≠ 0 ∧ gate s u n ≠ .silent) ∧
    (∃ (s : State) (u : Up) (n : Nat) (addr : _) (ep : _) (isIn : Bool) (x : _), isPort n = true ∧ s.owns u n = true ∧
     (s.up u).link = .hs ∧ (s.port n).id.eff = .transparent ∧
     (s.port n).tt.np.find? (fun x => x.addr == addr && x.ep == ep && x.isIn == isIn) = some x ∧ x.res = none) ∧
    (∃ (s : State) (u : Up) (n : Nat) (addr : _) (ep : _) (isIn : Bool) (x : _) (r : _), isPort n = true ∧
     s.owns u n = true ∧ (s.up u).link = .hs ∧ (s.port n).id.eff = .transparent ∧
     (s.port n).tt.np.find? (fun x => x.addr == addr && x.ep == ep && x.isIn == isIn) = some x ∧ x.res = some r) ∧
    (∃ (s : State) (u : Up) (n : Nat) (addr : _) (ep : _) (isIn : Bool) (x : _) (r : _), isPort n = true ∧
     s.owns u n = true ∧ (s.up u).link = .hs ∧ (s.port n).id.eff = .transparent ∧
     (s.port n).tt.per.find? (fun x => x.addr == addr && x.ep == ep && x.isIn == isIn) = some x ∧ x.dropped = false ∧
     x.res = some r ∧ isPart r = false) :=
  ⟨⟨(({ State.reset with plan.regions := [{ kind := 1, owner := 1, pages := 1 }] : State }).modUp .a (fun x => { x with link := .hs })).modPort 1 (fun x => { x with id.owner := .upA, id.eff := .translated, id.st := .presented }),
   .a, 1, by decide +kernel, by decide +kernel, by decide +kernel, by decide +kernel, by decide +kernel, by decide +kernel,
   by decide +kernel⟩,
   ⟨(State.reset.modUp .a (fun x => { x with link := .hs })).modPort 1 (fun x => { x with id.owner := .upA, id.eff := .transparent, tt.np := [{ addr := 1, ep := 1 }] }),
   .a, 1, 1, 1, false, { addr := 1, ep := 1 }, by decide +kernel, by decide +kernel, by decide +kernel, by decide +kernel,
   by decide +kernel, by decide +kernel⟩,
   ⟨(State.reset.modUp .a (fun x => { x with link := .hs })).modPort 1 (fun x => { x with id.owner := .upA, id.eff := .transparent, tt.np := [{ addr := 1, ep := 1, res := some .busError }] }),
   .a, 1, 1, 1, false, { addr := 1, ep := 1, res := some .busError }, .busError, by decide +kernel, by decide +kernel,
   by decide +kernel, by decide +kernel, rfl, rfl⟩,
   ⟨(State.reset.modUp .a (fun x => { x with link := .hs })).modPort 1 (fun x => { x with id.owner := .upA, id.eff := .transparent, tt.per := [{ addr := 1, ep := 1, res := some .busError }] }),
   .a, 1, 1, 1, false, { addr := 1, ep := 1, res := some .busError }, .busError, by decide +kernel, by decide +kernel,
   by decide +kernel, by decide +kernel, by decide +kernel, by decide +kernel, rfl, by decide +kernel⟩⟩

/-- What Obligations.TransactionTranslators asks of states and operands is met, clause by clause, part 3. -/
theorem witness_TransactionTranslators_3 :
    (∃ (s : State) (u : Up) (n : Nat) (addr : _) (ep : _) (isIn : Bool), isPort n = true ∧ s.owns u n = true ∧
     (s.up u).link = .hs ∧ (s.port n).id.eff = .transparent ∧ planBlocks s 2 n 0 = false ∧
     (s.port n).tt.per.find? (fun x => x.addr == addr && x.ep == ep && x.isIn == isIn) = none) ∧
    (∃ (s : State) (u : Up) (n : Nat) (ep : _) (isIn : Bool) (a : _), isPort n = true ∧ s.owns u n = true ∧
     (s.up u).link = .hs ∧ (s.port n).id.eff = .translated ∧ gate s u n ≠ .silent ∧
     (s.port n).tt.pxAns.find? (·.1 == if isIn then ep + 128 else ep) = some a) ∧
    (∃ (s : State) (p : Nat) (addr : _) (ep : _) (isIn : Bool) (r : _), (s.port p).tt.run = some { periodic := false, addr := addr, ep := ep, isIn := isIn } ∧
     isPart r = false) ∧
    (∃ (s : State) (p : Nat) (addr : _) (ep : _) (isIn : Bool), (s.port p).tt.run = some { periodic := true, addr := addr, ep := ep, isIn := isIn }) :=
  ⟨⟨(State.reset.modPort 1 (fun x => { x with id.owner := .upA, id.eff := .transparent })).modUp .a (fun x => { x with link := .hs }),
   .a, 1, 1, 1, false, by decide +kernel, by decide +kernel, by decide +kernel, by decide +kernel, by decide +kernel,
   by decide +kernel⟩,
   ⟨(State.reset.modUp .a (fun x => { x with link := .hs })).modPort 1 (fun x => { x with id.owner := .upA, id.eff := .translated, id.st := .presented, tt.pxAns := [(1, .ack)] }),
   .a, 1, 1, false, _, by decide +kernel, by decide +kernel, by decide +kernel, by decide +kernel, by decide +kernel, rfl⟩,
   ⟨State.reset.modPort 1 (fun x => { x with tt.run := some { periodic := false, addr := 1, ep := 1, isIn := false } }), 1, 1, 1, false, .busError,
   rfl, by decide +kernel⟩,
   ⟨State.reset.modPort 1 (fun x => { x with tt.run := some { periodic := true, addr := 1, ep := 1, isIn := false } }), 1, 1, 1, false,
   rfl⟩⟩

/-- What Obligations.TransactionTranslators asks of states and operands is met, clause by clause, part 4. -/
theorem witness_TransactionTranslators_4 :
    ∃ (s : State) (p : Nat) (addr : _) (ep : _) (per : Bool) (isIn : Bool), (s.port p).tt.run ≠ some { periodic := per, addr := addr, ep := ep, isIn := isIn } :=
  ⟨State.reset, 1, 1, 1, false, false, by decide +kernel⟩

/-- What Obligations.DrainsAndBusReset asks of states and operands is met, clause by clause, part 1. -/
theorem witness_DrainsAndBusReset_1 :
    (∃ (s : State) (p : Nat) (d : _), (s.port p).drain = some d ∧ (s.port p).px.drained = true ∧ d.what = 0) ∧
    (∃ (s : State) (p : Nat) (d : _), (s.port p).drain = some d ∧ (s.port p).px.drained = true ∧ d.what = 1 ∧ d.ready = true) ∧
    (∃ (s : State) (p : Nat) (d : _), (s.port p).drain = some d ∧ (s.port p).px.drained = true ∧ d.what = 2 ∧ d.ready = true) ∧
    (∃ (s : State) (p : Nat) (d : _), (s.port p).drain = some d ∧ ((s.port p).px.drained = false ∨ (d.what ≠ 0 ∧
     d.ready = false))) :=
  ⟨⟨State.reset.modPort 1 (fun x => { x with drain := some { what := 0 } }), 1, { what := 0 }, rfl, by decide +kernel,
   by decide +kernel⟩,
   ⟨State.reset.modPort 1 (fun x => { x with drain := some { what := 1, ready := true } }), 1, { what := 1, ready := true },
   rfl, by decide +kernel, by decide +kernel, by decide +kernel⟩,
   ⟨State.reset.modPort 1 (fun x => { x with drain := some { what := 2, ready := true } }), 1, { what := 2, ready := true },
   rfl, by decide +kernel, by decide +kernel, by decide +kernel⟩,
   ⟨State.reset.modPort 1 (fun x => { x with drain := some { what := 1 } }), 1, { what := 1 }, rfl, by decide +kernel⟩⟩

/-- What Obligations.DrainsAndBusReset asks of states and operands is met, clause by clause, part 2. -/
theorem witness_DrainsAndBusReset_2 :
    (∃ (s : State) (u : Up) (v : Nat) (d : _), (s.vport u v).drain = some d ∧ (s.vport u v).px.drained = true) ∧
    (∃ (s : State) (p : Nat) (d : _), (s.port p).drain = some d ∧ d.what = 0 ∧ (s.port p).id.st = .draining) ∧
    (∃ (s : State), s.sys.role ≠ 3) ∧
    (∃ (s : State), s.sys.role = 3) :=
  ⟨⟨State.reset.modVPort .a 34 (fun x => { x with drain := some {} }), .a, 34, {}, rfl, by decide +kernel⟩,
   ⟨State.reset.modPort 1 (fun x => { x with drain := some { what := 0 }, id.st := .draining }), 1, { what := 0 }, rfl,
   by decide +kernel, by decide +kernel⟩,
   ⟨State.reset, by decide +kernel⟩,
   ⟨{ State.reset with sys.role := 3 : State }, by decide +kernel⟩⟩

/-- What Obligations.DrainsAndBusReset asks of states and operands is met, clause by clause, part 3. -/
theorem witness_DrainsAndBusReset_3 :
    (∃ (s : State) (p : Nat), ((s.modPort p (fun q => { q with tt := resetTt1 q.tt })).port p).dpe = .testing) ∧
    (∃ (s : State) (p : Nat), ((s.port p).dpe = .unpowered ∨ (s.port p).dpe = .disconnected)) ∧
    (∃ (s : State) (p : Nat), ((s.port p).dpe = .enabled ∨ (s.port p).dpe = .suspended ∨ (s.port p).dpe = .sleeping ∨ (s.port p).dpe = .resetting)) ∧
    (∃ (s : State) (p : Nat), (s.port p).dpe ≠ .resuming ∧
     ((s.port p).id.st = .presented ∨ (s.port p).id.st = .live ∨ (s.port p).id.st = .parked)) :=
  ⟨⟨State.reset.modPort 1 (fun x => { x with dpe := .testing }), 1, by decide +kernel⟩,
   ⟨State.reset.modPort 1 (fun x => { x with dpe := .unpowered }), 1, by decide +kernel⟩,
   ⟨State.reset.modPort 1 (fun x => { x with dpe := .enabled }), 1, by decide +kernel⟩,
   ⟨State.reset.modPort 1 (fun x => { x with id.st := .presented }), 1, by decide +kernel, by decide +kernel⟩⟩

/-- What Obligations.DrainsAndBusReset asks of states and operands is met, clause by clause, part 4. -/
theorem witness_DrainsAndBusReset_4 :
    (∃ (s : State) (p : Nat) (d : _), (s.port p).id.st = .draining ∧ (s.port p).drain = some d ∧ d.what ≠ 0) ∧
    (∃ (s : State) (p : Nat), (s.port p).id.st = .filling) :=
  ⟨⟨State.reset.modPort 1 (fun x => { x with id.st := .draining, drain := some { what := 1 } }), 1, { what := 1 },
   by decide +kernel, rfl, by decide +kernel⟩,
   ⟨State.reset.modPort 1 (fun x => { x with id.st := .filling }), 1, by decide +kernel⟩⟩

/-- What Obligations.LendsAndTunnel asks of states and operands is met, clause by clause, part 1. -/
theorem witness_LendsAndTunnel_1 :
    (∃ (s : State) (h : _) (l : _) (q : _), tunLoc s h = some l ∧ q = BitVec.ofNat 16 h.tseq ∧ (q = (s.tun l).rxSeq + 1)) ∧
    (∃ (s : State) (h : TunHdr) (l : _) (q : _), tunLoc s h = some l ∧ q = BitVec.ofNat 16 h.tseq ∧
     q ≠ (s.tun l).rxSeq + 1 ∧ tunSeen (s.tun l) q = true ∧ (s.tun l).rxPend.any (fun x => x.2 == q) = false) ∧
    (∃ (s : State) (h : TunHdr) (l : _) (q : _), tunLoc s h = some l ∧ q = BitVec.ofNat 16 h.tseq ∧
     q ≠ (s.tun l).rxSeq + 1 ∧ tunSeen (s.tun l) q = false) ∧
    (∃ (s : State) (p : Nat) (h : TunHdr) (e : _), h.ep ≠ 0 ∧ (s.port p).px.ep h.ep = some e ∧ e.halted = true) :=
  ⟨⟨State.reset.modPort 1 (fun x => { x with tun.node := 2, tun.vport := 34, tun.rxSeq := 0 }), { src := 2, toLender := true, up := .a, vport := 34, ep := 1, tseq := 1 }, (.phys 1), _,
   by decide +kernel, rfl, rfl⟩,
   ⟨State.reset.modPort 1 (fun x => { x with tun := { vport := 34, rxSeq := 5 } }), aTun true 1 4, .phys 1, _,
   by decide +kernel, rfl, by decide +kernel, by decide +kernel, by decide +kernel⟩,
   ⟨State.reset.modPort 1 (fun x => { x with tun := { vport := 34, rxSeq := 5 } }), aTun true 1 9, .phys 1, _,
   by decide +kernel, rfl, by decide +kernel, by decide +kernel⟩,
   ⟨State.reset.modPort 1 (fun x => { x with px.eps := [{ halted := true, addr := 1 }] }), 1, aTun true 1 0, { halted := true, addr := 1 },
   by decide +kernel, by decide +kernel, by decide +kernel⟩⟩

/-- What Obligations.LendsAndTunnel asks of states and operands is met, clause by clause, part 2. -/
theorem witness_LendsAndTunnel_2 :
    (∃ (h : TunHdr), h.ep % 128 ≠ 0) ∧
    (∃ (s : State) (p : Nat), (s.port p).id.st ≠ .refilling ∧ s.pages 3 p 0 ≠ 0) ∧
    (∃ (s : State) (p : Nat), (s.port p).id.st ≠ .refilling ∧ s.pages 3 p 0 = 0) ∧
    (∃ (s : State) (p : Nat), (s.port p).id.st = .refilling) :=
  ⟨⟨aTun true 1 0, by decide +kernel⟩,
   ⟨State.reset, 1, by decide +kernel, by decide +kernel⟩,
   ⟨{ State.reset with plan.regions := [] : State }, 1, by decide +kernel, by decide +kernel⟩,
   ⟨State.reset.modPort 1 (fun x => { x with id.st := .refilling }), 1, by decide +kernel⟩⟩

/-- What Obligations.LendsAndTunnel asks of states and operands is met, clause by clause, part 3. -/
theorem witness_LendsAndTunnel_3 :
    (∃ (s : State) (p : Nat), (s.port p).dpe = .enabled ∧ (s.port p).px.drained = true) ∧
    (∃ (s : State) (p : Nat), (s.port p).dpe = .enabled ∧ (s.port p).px.drained = false) ∧
    (∃ (s : State) (p : Nat), (s.port p).dpe = .suspended) ∧
    (∃ (s : State) (p : Nat), ((s.port p).dpe = .suspended ∨ (s.port p).dpe = .sleeping)) :=
  ⟨⟨State.reset.modPort 1 (fun x => { x with dpe := .enabled }), 1, by decide +kernel, by decide +kernel⟩,
   ⟨State.reset.modPort 1 (fun x => { x with dpe := .enabled, px.ctrl.active := true, px.ctrl.forwarded := true }), 1,
   by decide +kernel, by decide +kernel⟩,
   ⟨State.reset.modPort 1 (fun x => { x with dpe := .suspended }), 1, by decide +kernel⟩,
   ⟨State.reset.modPort 1 (fun x => { x with dpe := .suspended }), 1, by decide +kernel⟩⟩

/-- What Obligations.LendsAndTunnel asks of states and operands is met, clause by clause, part 4. -/
theorem witness_LendsAndTunnel_4 :
    (∃ (s : State) (u : Up), canWakeUp (s.up u) = true) ∧
    (∃ (s : State) (u : Up) (v : Nat), (s.vport u v).suspWait = true) ∧
    (∃ (ep : _), 128 < ep) ∧
    (∃ (s : State) (p : Nat) (w : _), (s.port p).tun.openWait = w ∧ w ≠ 0) :=
  ⟨⟨State.reset.modUp .a (fun x => { x with bus := .suspended, remoteWake := true }), .a, by decide +kernel⟩,
   ⟨State.reset.modVPort .a 34 (fun x => { x with suspWait := true }), .a, 34, by decide +kernel⟩,
   ⟨129, by decide +kernel⟩,
   ⟨State.reset.modPort 1 (fun x => { x with tun.openWait := 1 }), 1, _, rfl, by decide +kernel⟩⟩

/-- What Obligations.LendsAndTunnel asks of states and operands is met, clause by clause, part 5. -/
theorem witness_LendsAndTunnel_5 :
    (∃ (s : State) (h : TunHdr) (l : _) (x : _), tunLoc s h = some l ∧
     (s.tun l).held.find? (fun x => x.1 == BitVec.ofNat 16 h.tseq) = some x ∧ x.2.1 ≠ 0 ∧ x.2.1 ≠ 0xA) ∧
    (∃ (s : State) (h : TunHdr) (l : _) (x : _), tunLoc s h = some l ∧
     (s.tun l).held.find? (fun x => x.1 == BitVec.ofNat 16 h.tseq) = some x ∧ x.2.1 = 0) ∧
    (∃ (s : State) (h : TunHdr) (l : _), tunLoc s h = some l ∧
     (s.tun l).held.find? (fun x => x.1 == BitVec.ofNat 16 h.tseq) = none) ∧
    (∃ (s : State) (h : TunHdr), tunLoc s h = none ∧ h.toLender = false ∧ 34 ≤ h.vport ∧ h.vport ≤ 41 ∧
     s.pages 5 h.vport (ownerUpCode h.up) ≠ 0 ∧ (s.vport h.up h.vport).used = false ∧ (s.up h.up).link = .hs) :=
  ⟨⟨State.reset.modPort 1 (fun x => { x with tun := { vport := 34, held := [(0, 1, 1, [])] } }), aTun true 1 0, .phys 1, (0, 1, 1, []),
   by decide +kernel, rfl, by decide +kernel, by decide +kernel⟩,
   ⟨State.reset.modPort 1 (fun x => { x with tun := { vport := 34, held := [(0, 0, 1, [])] } }), aTun true 1 0, .phys 1, (0, 0, 1, []),
   by decide +kernel, by decide +kernel, by decide +kernel⟩,
   ⟨State.reset.modPort 1 (fun x => { x with tun := { vport := 34 } }), aTun true 1 0, .phys 1, by decide +kernel,
   by decide +kernel⟩,
   ⟨({ State.reset with plan.regions := [{ kind := 5, owner := 34, ownerUp := 1, pages := 1 }] : State }).modUp .a (fun x => { x with link := .hs }), aTun false 1 0,
   by decide +kernel, by decide +kernel, by decide +kernel, by decide +kernel, by decide +kernel, by decide +kernel,
   by decide +kernel⟩⟩

/-- What Obligations.LendsAndTunnel asks of states and operands is met, clause by clause, part 6. -/
theorem witness_LendsAndTunnel_6 :
    (∃ (s : State) (h : TunHdr), tunLoc s h = none ∧ h.toLender = false ∧ (s.vport h.up h.vport).used = true) ∧
    (∃ (s : State) (h : TunHdr), tunLoc s h = none ∧ h.toLender = false ∧ 34 ≤ h.vport ∧ h.vport ≤ 41 ∧
     s.pages 5 h.vport (ownerUpCode h.up) ≠ 0 ∧ (s.vport h.up h.vport).used = false ∧ (s.up h.up).link ≠ .hs) ∧
    (∃ (s : State) (h : TunHdr) (u : Up) (v : Nat), tunLoc s h = some (.virt u v) ∧
     (BitVec.ofNat 16 h.tseq = (s.tun (.virt u v)).rxSeq + 1) ∧ h.ep = 0) ∧
    (∃ (s : State) (h : TunHdr) (p : Nat), tunLoc s h = some (.phys p) ∧
     (BitVec.ofNat 16 h.tseq = (s.tun (.phys p)).rxSeq + 1) ∧ (s.port p).drain = none ∧ (s.port p).tun.openWait = 0) :=
  ⟨⟨State.reset.modVPort .a 34 (fun x => { x with used := true, tun.node := 9 }), aTun false 1 0, by decide +kernel,
   by decide +kernel, by decide +kernel⟩,
   ⟨{ State.reset with plan.regions := [{ kind := 5, owner := 34, ownerUp := 1, pages := 1 }] : State }, aTun false 1 0,
   by decide +kernel, by decide +kernel, by decide +kernel, by decide +kernel, by decide +kernel, by decide +kernel,
   by decide +kernel⟩,
   ⟨State.reset.modVPort .a 34 (fun x => { x with used := true }), aTun false 0 0, .a, 34, by decide +kernel,
   by decide +kernel, by decide +kernel⟩,
   ⟨State.reset.modPort 1 (fun x => { x with tun := { vport := 34 } }), aTun true 1 0, 1, by decide +kernel,
   by decide +kernel, by decide +kernel, by decide +kernel⟩⟩

/-- What Obligations.LendsAndTunnel asks of states and operands is met, clause by clause, part 7. -/
theorem witness_LendsAndTunnel_7 :
    (∃ (s : State) (h : _) (l : _), tunLoc s h = some l ∧ (s.tun l).held = [] ∧ (s.tun l).resync = true) ∧
    (∃ (s : State) (l : _), (s.tun l).held ≠ [] ∧ (s.tun l).vport ≠ 0) ∧
    (∃ (s : State) (u : Up) (v : Nat), (s.vport u v).used = true ∧ (s.vport u v).shown = false ∧
     openWhole (s.vport u v).tun.openBuf = true) ∧
    (∃ (s : State) (p : Nat) (d : _), (s.port p).drain = some d ∧ d.what = 2) :=
  ⟨⟨State.reset.modPort 1 (fun x => { x with tun.node := 2, tun.vport := 34, tun.resync := true }), { src := 2, toLender := true, up := .a, vport := 34, ep := 1, tseq := 1 }, (.phys 1),
   by decide +kernel, by decide +kernel, by decide +kernel⟩,
   ⟨State.reset.modPort 1 (fun x => { x with tun := { vport := 34, held := [(0, 0, 1, [])] } }), (.phys 1),
   by decide +kernel, by decide +kernel⟩,
   ⟨State.reset.modVPort .a 34 (fun x => { x with used := true, tun.openBuf := zeros 64 }), .a, 34, by decide +kernel,
   by decide +kernel, by decide +kernel⟩,
   ⟨State.reset.modPort 1 (fun x => { x with drain := some { what := 2 } }), 1, { what := 2 }, rfl, by decide +kernel⟩⟩

/-- What Obligations.LendsAndTunnel asks of states and operands is met, clause by clause, part 8. -/
theorem witness_LendsAndTunnel_8 :
    (∃ (s : State) (p : Nat) (d : _), (s.port p).drain = some d ∧ d.what = 1) ∧
    (∃ (s : State) (p : Nat), (s.port p).id.owner = .lent ∧ (s.port p).tun.route = false ∧ (s.port p).tun.openWait = 0) ∧
    (∃ (s : State) (p : Nat), (s.port p).id.owner = .lent ∧ (s.port p).tun.route = false ∧ (s.port p).tun.openWait ≠ 0) ∧
    (∃ (s : State) (u : Up) (v : Nat), (s.vport u v).used = true ∧ (s.vport u v).hidden = false ∧
     (s.vport u v).tun.route = false ∧ (s.vport u v).drain = none) :=
  ⟨⟨State.reset.modPort 1 (fun x => { x with drain := some { what := 1 } }), 1, { what := 1 }, rfl, by decide +kernel⟩,
   ⟨State.reset.modPort 1 (fun x => { x with id.owner := .lent, tun.route := false, tun.openWait := 0 }), 1,
   by decide +kernel, by decide +kernel, by decide +kernel⟩,
   ⟨State.reset.modPort 1 (fun x => { x with id.owner := .lent, tun.route := false, tun.openWait := 1 }), 1,
   by decide +kernel, by decide +kernel, by decide +kernel⟩,
   ⟨State.reset.modVPort .a 34 (fun x => { x with used := true, hidden := false, tun.route := false, drain := none }),
   .a, 34, by decide +kernel, by decide +kernel, by decide +kernel, by decide +kernel⟩⟩

/-- What Obligations.LendsAndTunnel asks of states and operands is met, clause by clause, part 9. -/
theorem witness_LendsAndTunnel_9 :
    (∃ (s : State) (u : Up) (v : Nat), (s.vport u v).used = true ∧ (s.vport u v).hidden = true ∧ (s.vport u v).drain = none) ∧
    (∃ (s : State) (u : Up) (n : Nat), configured (s.up u) .usb2 = true ∧ 34 ≤ n ∧ n ≤ 41 ∧ (s.vport u n).shown = true) ∧
    (∃ (s : State) (u : Up) (n : Nat), configured (s.up u) .usb2 = true ∧ 34 ≤ n ∧ n ≤ 41 ∧ (s.vport u n).shown = false) :=
  ⟨⟨State.reset.modVPort .a 34 (fun x => { x with used := true, hidden := true, drain := none }), .a, 34,
   by decide +kernel, by decide +kernel, by decide +kernel⟩,
   ⟨(State.reset.modUp .a (fun x => { x with hubCfg := 1, link := .hs })).modVPort .a 34 (fun x => { x with shown := true }),
   .a, 34, by decide +kernel, by decide +kernel, by decide +kernel, by decide +kernel⟩,
   ⟨(State.reset.modUp .a (fun x => { x with hubCfg := 1, link := .hs })).modVPort .a 34 (fun x => { x with shown := false }),
   .a, 34, by decide +kernel, by decide +kernel, by decide +kernel, by decide +kernel⟩⟩

/-- What Obligations.ConnectionAsSource asks of states and operands is met, clause by clause, part 1. -/
theorem witness_ConnectionAsSource_1 :
    (∃ (s : State) (n : Nat) (v1 : Nat) (v2 : Nat) (cc2 : _) (ra : _), (s.pde n).cc = .unattachedSrc ∧
     (isUp n = false ∨ mayToggle s = true) ∧ oneRd s n v1 v2 = some (cc2, ra)) ∧
    (∃ (s : State) (n : Nat) (v1 : Nat) (v2 : Nat), oneRd s n v1 v2 = none) ∧
    (∃ (s : State) (n : Nat) (v1 : Nat) (v2 : Nat), srcBand (rpLevel s n) v1 = .rd ∧ srcBand (rpLevel s n) v2 ≠ .rd) ∧
    (∃ (s : State) (n : Nat) (v1 : Nat) (v2 : Nat), srcBand (rpLevel s n) v1 = .rd ∧ srcBand (rpLevel s n) v2 = .rd) :=
  ⟨⟨State.reset.modPde 1 (fun x => { x with cc := .unattachedSrc }), 1, 1000, 3000, false, false, by decide +kernel,
   by decide +kernel, by decide +kernel⟩,
   ⟨State.reset, 1, 3000, 3000, by decide +kernel⟩,
   ⟨State.reset, 1, 1000, 3000, by decide +kernel, by decide +kernel⟩,
   ⟨State.reset, 1, 1000, 1000, by decide +kernel, by decide +kernel⟩⟩

/-- What Obligations.ConnectionAsSource asks of states and operands is met, clause by clause, part 2. -/
theorem witness_ConnectionAsSource_2 :
    (∃ (mv : _), mv < 200) ∧
    (∃ (mv : _), 200 ≤ mv ∧ mv < 1600) ∧
    (∃ (mv : _), 1600 ≤ mv) ∧
    (∃ (mv : _), mv < 400) :=
  ⟨⟨0, by decide +kernel⟩,
   ⟨200, by decide +kernel, by decide +kernel⟩,
   ⟨1600, by decide +kernel⟩,
   ⟨0, by decide +kernel⟩⟩

/-- What Obligations.ConnectionAsSource asks of states and operands is met, clause by clause, part 3. -/
theorem witness_ConnectionAsSource_3 :
    (∃ (mv : _), 400 ≤ mv ∧ mv < 1600) ∧
    (∃ (mv : _), mv < 800) ∧
    (∃ (mv : _), 800 ≤ mv ∧ mv < 2600) ∧
    (∃ (mv : _), 2600 ≤ mv) :=
  ⟨⟨400, by decide +kernel, by decide +kernel⟩,
   ⟨0, by decide +kernel⟩,
   ⟨800, by decide +kernel, by decide +kernel⟩,
   ⟨2600, by decide +kernel⟩⟩

/-- What Obligations.ConnectionAsSource asks of states and operands is met, clause by clause, part 4. -/
theorem witness_ConnectionAsSource_4 :
    (∃ (s : State) (n : Nat) (v1 : Nat) (v2 : Nat), isUp n = true ∧ mayToggle s = false ∧ (s.pde n).cc = .unattachedSrc ∧
     oneRd s n v1 v2 ≠ none) ∧
    (∃ (s : State) (n : Nat), isUp n = false ∧ (s.pde n).cc = .attachWaitSrc ∧ (s.ppc n).cool = 0) ∧
    (∃ (s : State) (n : Nat), isUp n = false ∧ (s.pde n).cc = .attachWaitSrc ∧ (s.ppc n).cool ≠ 0) ∧
    (∃ (s : State) (n : Nat), isUp n = true ∧ mayToggle s = true ∧ (s.pde n).cc = .attachWaitSrc ∧ (s.pde n).set.upTry = 2) :=
  ⟨⟨State.reset.modPde 33 (fun x => { x with cc := .unattachedSrc }), 33, 1000, 3000, by decide +kernel, by decide +kernel,
   by decide +kernel, by decide +kernel⟩,
   ⟨(State.reset.modPde 1 (fun x => { x with cc := .attachWaitSrc })).modPpc 1 (fun x => { x with cool := 0 }), 1,
   by decide +kernel, by decide +kernel, by decide +kernel⟩,
   ⟨(State.reset.modPde 1 (fun x => { x with cc := .attachWaitSrc })).modPpc 1 (fun x => { x with cool := 1 }), 1,
   by decide +kernel, by decide +kernel, by decide +kernel⟩,
   ⟨({ State.reset with feedA.st := .on : State }).modPde 33 (fun x => { x with cc := .attachWaitSrc, set.upTry := 2 }), 33,
   by decide +kernel, by decide +kernel, by decide +kernel, by decide +kernel⟩⟩

/-- What Obligations.ConnectionAsSource asks of states and operands is met, clause by clause, part 5. -/
theorem witness_ConnectionAsSource_5 :
    (∃ (s : State) (n : Nat), isUp n = true ∧ mayToggle s = true ∧ (s.pde n).cc = .attachWaitSrc ∧ (s.pde n).set.upTry ≠ 2) ∧
    (∃ (s : State) (n : Nat), isUp n = true ∧ mayToggle s = false ∧ (s.pde n).cc = .attachWaitSrc) ∧
    (∃ (s : State) (n : Nat), (s.pde n).cc = .attachedSrc ∧ (s.ppc n).st ≠ .transition) ∧
    (∃ (s : State) (n : Nat), (s.pde n).cc = .attachedSrc ∧ (s.ppc n).st = .transition) :=
  ⟨⟨({ State.reset with feedA.st := .on : State }).modPde 33 (fun x => { x with cc := .attachWaitSrc, set.upTry := 1 }), 33,
   by decide +kernel, by decide +kernel, by decide +kernel, by decide +kernel⟩,
   ⟨State.reset.modPde 33 (fun x => { x with cc := .attachWaitSrc }), 33, by decide +kernel, by decide +kernel,
   by decide +kernel⟩,
   ⟨State.reset.modPde 1 (fun x => { x with cc := .attachedSrc }), 1, by decide +kernel, by decide +kernel⟩,
   ⟨(State.reset.modPde 1 (fun x => { x with cc := .attachedSrc })).modPpc 1 (fun x => { x with st := .transition }), 1,
   by decide +kernel, by decide +kernel⟩⟩

/-- What Obligations.ConnectionAsSource asks of states and operands is met, clause by clause, part 6. -/
theorem witness_ConnectionAsSource_6 :
    (∃ (s : State) (n : Nat), (s.pde n).ccOpen = true ∧ (s.ppc n).st ≠ .frozen) ∧
    (∃ (s : State) (n : Nat), isUp n = false ∧
     ((s.pde n).cc = .attachedSrc ∨ (s.pde n).cc = .tripped ∨ (s.pde n).cc = .powerOff)) ∧
    (∃ (s : State) (n : Nat), isUp n = true ∧ (s.pde n).cc = .attachedSrc ∧ (s.pde n).swap = none) ∧
    (∃ (s : State) (n : Nat), (s.pde n).cc = .unattachedSrc ∧ (s.pde n).accTold = false) :=
  ⟨⟨State.reset.modPde 1 (fun x => { x with ccOpen := true }), 1, by decide +kernel, by decide +kernel⟩,
   ⟨State.reset.modPde 1 (fun x => { x with cc := .attachedSrc }), 1, by decide +kernel, by decide +kernel⟩,
   ⟨State.reset.modPde 33 (fun x => { x with cc := .attachedSrc, swap := none }), 33, by decide +kernel, by decide +kernel,
   by decide +kernel⟩,
   ⟨State.reset.modPde 1 (fun x => { x with cc := .unattachedSrc, accTold := false }), 1, by decide +kernel,
   by decide +kernel⟩⟩

/-- What Obligations.ConnectionAsSource asks of states and operands is met, clause by clause, part 7. -/
theorem witness_ConnectionAsSource_7 :
    (∃ (s : State) (n : Nat), (s.pde n).cc = .unattachedSrc ∧ (s.pde n).accTold = true) ∧
    (∃ (s : State) (n : Nat), (s.pde n).cc = .errorRecovery) ∧
    (∃ (s : State) (n : Nat), (s.pde n).vconn = true) ∧
    (∃ (s : State) (n : Nat), (s.pde n).vconn = false) :=
  ⟨⟨State.reset.modPde 1 (fun x => { x with cc := .unattachedSrc, accTold := true }), 1, by decide +kernel,
   by decide +kernel⟩,
   ⟨State.reset.modPde 1 (fun x => { x with cc := .errorRecovery }), 1, by decide +kernel⟩,
   ⟨State.reset.modPde 1 (fun x => { x with vconn := true }), 1, by decide +kernel⟩,
   ⟨State.reset.modPde 1 (fun x => { x with vconn := false }), 1, by decide +kernel⟩⟩

/-- What Obligations.ConnectionOfUpstreams asks of states and operands is met, clause by clause, part 1. -/
theorem witness_ConnectionOfUpstreams_1 :
    (∃ (s : State) (u : Up), (s.pde (portOfUp u)).cc = .unattachedSnk ∧ mayToggle s = true) ∧
    (∃ (s : State) (u : Up), (s.pde (portOfUp u)).cc = .unattachedSnk ∧ mayToggle s = false) ∧
    (∃ (s : State) (u : Up), (s.pde (portOfUp u)).cc = .unattachedSrc) ∧
    (∃ (mv : _), mv < 200) :=
  ⟨⟨({ State.reset with feedA.st := .on : State }).modPde 33 (fun x => { x with cc := .unattachedSnk }), .a,
   by decide +kernel, by decide +kernel⟩,
   ⟨State.reset.modPde (33) (fun x => { x with cc := .unattachedSnk }), .a, by decide +kernel, by decide +kernel⟩,
   ⟨State.reset.modPde (33) (fun x => { x with cc := .unattachedSrc }), .a, by decide +kernel⟩,
   ⟨0, by decide +kernel⟩⟩

/-- What Obligations.ConnectionOfUpstreams asks of states and operands is met, clause by clause, part 2. -/
theorem witness_ConnectionOfUpstreams_2 :
    (∃ (mv : _), 200 ≤ mv ∧ mv < 660) ∧
    (∃ (mv : _), 660 ≤ mv ∧ mv < 1230) ∧
    (∃ (mv : _), 1230 ≤ mv) ∧
    (∃ (v1 : Nat) (b : _), snkBand v1 = some b) :=
  ⟨⟨200, by decide +kernel, by decide +kernel⟩,
   ⟨660, by decide +kernel, by decide +kernel⟩,
   ⟨1230, by decide +kernel⟩,
   ⟨660, 1, rfl⟩⟩

/-- What Obligations.ConnectionOfUpstreams asks of states and operands is met, clause by clause, part 3. -/
theorem witness_ConnectionOfUpstreams_3 :
    (∃ (v1 : Nat) (v2 : Nat) (b : _), snkBand v1 = none ∧ snkBand v2 = some b) ∧
    (∃ (v1 : Nat) (v2 : Nat), snkBand v1 = none ∧ snkBand v2 = none) ∧
    (∃ (s : State) (u : Up) (v1 : Nat) (v2 : Nat) (cc2 : _) (band : Nat), rpOn v1 v2 = some (cc2, band) ∧
     (s.pde (portOfUp u)).cc = .unattachedSnk) ∧
    (∃ (s : State) (u : Up) (v1 : Nat) (v2 : Nat) (cc2 : _) (band : Nat), rpOn v1 v2 = some (cc2, band) ∧
     ((s.pde (portOfUp u)).cc = .attachedSnk ∨ (s.pde (portOfUp u)).cc = .attachWaitSnk)) :=
  ⟨⟨0, 1230, 2, by decide +kernel, rfl⟩,
   ⟨0, 199, by decide +kernel, by decide +kernel⟩,
   ⟨State.reset.modPde (33) (fun x => { x with cc := .unattachedSnk }), .a, 200, 0, false, 0, by decide +kernel,
   by decide +kernel⟩,
   ⟨State.reset.modPde (33) (fun x => { x with cc := .attachedSnk }), .a, 200, 0, false, 0, by decide +kernel,
   by decide +kernel⟩⟩

/-- What Obligations.ConnectionOfUpstreams asks of states and operands is met, clause by clause, part 4. -/
theorem witness_ConnectionOfUpstreams_4 :
    (∃ (s : State) (u : Up) (v1 : Nat) (v2 : Nat) (cc2 : _) (band : Nat), rpOn v1 v2 = some (cc2, band) ∧
     ((s.pde (portOfUp u)).cc = .tryWaitSnk ∨ (s.pde (portOfUp u)).cc = .trySnk)) ∧
    (∃ (s : State) (n : Nat), (s.pde n).cc = .attachWaitSnk ∧ (s.pde n).set.upTry ≠ 1) ∧
    (∃ (s : State) (n : Nat), (s.pde n).cc = .attachWaitSnk ∧ (s.pde n).set.upTry = 1 ∧ mayToggle s = true) ∧
    (∃ (s : State) (n : Nat), (s.pde n).cc = .tryWaitSnk) :=
  ⟨⟨State.reset.modPde (33) (fun x => { x with cc := .tryWaitSnk }), .a, 200, 0, false, 0, by decide +kernel,
   by decide +kernel⟩,
   ⟨State.reset.modPde 1 (fun x => { x with cc := .attachWaitSnk, set.upTry := 0 }), 1, by decide +kernel,
   by decide +kernel⟩,
   ⟨({ State.reset with feedA.st := .on : State }).modPde 1 (fun x => { x with cc := .attachWaitSnk, set.upTry := 1 }), 1,
   by decide +kernel, by decide +kernel, by decide +kernel⟩,
   ⟨State.reset.modPde 1 (fun x => { x with cc := .tryWaitSnk }), 1, by decide +kernel⟩⟩

/-- What Obligations.ConnectionOfUpstreams asks of states and operands is met, clause by clause, part 5. -/
theorem witness_ConnectionOfUpstreams_5 :
    (∃ (s : State) (u : Up), ((s.pde (portOfUp u)).cc = .trySrc ∨ (s.pde (portOfUp u)).cc = .tryWaitSrc) ∧
     mayToggle s = true) ∧
    (∃ (s : State) (u : Up), ((s.pde (portOfUp u)).cc = .trySrc ∨ (s.pde (portOfUp u)).cc = .tryWaitSrc) ∧
     mayToggle s = false) ∧
    (∃ (s : State) (u : Up), (s.pde (portOfUp u)).cc = .trySrc) ∧
    (∃ (s : State) (u : Up), ((s.pde (portOfUp u)).cc = .tryWaitSnk ∨ (s.pde (portOfUp u)).cc = .tryWaitSrc)) :=
  ⟨⟨({ State.reset with feedA.st := .on : State }).modPde 33 (fun x => { x with cc := .trySrc }), .a, by decide +kernel,
   by decide +kernel⟩,
   ⟨State.reset.modPde (33) (fun x => { x with cc := .trySrc }), .a, by decide +kernel, by decide +kernel⟩,
   ⟨State.reset.modPde (33) (fun x => { x with cc := .trySrc }), .a, by decide +kernel⟩,
   ⟨State.reset.modPde (33) (fun x => { x with cc := .tryWaitSnk }), .a, by decide +kernel⟩⟩

/-- What Obligations.ConnectionOfUpstreams asks of states and operands is met, clause by clause, part 6. -/
theorem witness_ConnectionOfUpstreams_6 :
    (∃ (s : State) (u : Up), (s.pde (portOfUp u)).cc = .trySnk ∧ mayToggle s = true) ∧
    (∃ (s : State) (u : Up), (s.pde (portOfUp u)).cc = .attachedSnk ∧ (s.pde (portOfUp u)).swap = none ∧
     (s.pde (portOfUp u)).pe ≠ .hardReset) ∧
    (∃ (s : State) (u : Up), (s.pde (portOfUp u)).cc = .attachedSnk ∧
     ((s.pde (portOfUp u)).swap ≠ none ∨ (s.pde (portOfUp u)).pe = .hardReset)) ∧
    (∃ (s : State) (u : Up) (v1 : Nat) (v2 : Nat) (cc2 : _) (band : Nat), s.sys.pstate ≠ .hibernate ∧
     (s.pde (portOfUp u)).cc = .deadBattery ∧ rpOn v1 v2 = some (cc2, band)) :=
  ⟨⟨({ State.reset with feedA.st := .on : State }).modPde 33 (fun x => { x with cc := .trySnk }), .a, by decide +kernel,
   by decide +kernel⟩,
   ⟨State.reset.modPde (33) (fun x => { x with cc := .attachedSnk, swap := none }), .a, by decide +kernel,
   by decide +kernel, by decide +kernel⟩,
   ⟨State.reset.modPde 33 (fun x => { x with cc := .attachedSnk, pe := .hardReset }), .a, by decide +kernel,
   by decide +kernel⟩,
   ⟨State.reset.modPde (33) (fun x => { x with cc := .deadBattery }), .a, 200, 0, false, 0, by decide +kernel,
   by decide +kernel, by decide +kernel⟩⟩

/-- What Obligations.ConnectionOfUpstreams asks of states and operands is met, clause by clause, part 7. -/
theorem witness_ConnectionOfUpstreams_7 :
    ∃ (s : State), s.sys.pstate = .hibernate :=
  ⟨{ State.reset with sys.pstate := .hibernate : State }, by decide +kernel⟩

/-- What Obligations.MessagesAndTheCable asks of states and operands is met, clause by clause, part 1. -/
theorem witness_MessagesAndTheCable_1 :
    (∃ (s : State) (n : Nat), (s.pde n).tx = some .discoverIdentity) ∧
    (∃ (s : State) (n : Nat) (m : _) (id : _), (s.pde n).tx = some m ∧ m ≠ .discoverIdentity ∧ id ≠ (s.pde n).txId) ∧
    (∃ (s : State) (n : Nat) (m : _), (s.pde n).tx = some m ∧ (s.pde n).retries < nRetry (s.pde n)) ∧
    (∃ (s : State) (n : Nat) (m : _), (s.pde n).tx = some m ∧ nRetry (s.pde n) ≤ (s.pde n).retries) :=
  ⟨⟨State.reset.modPde 1 (fun x => { x with tx := some .discoverIdentity }), 1, rfl⟩,
   ⟨State.reset.modPde 1 (fun x => { x with tx := some .psRdy }), 1, .psRdy, 1, rfl, by decide +kernel, by decide +kernel⟩,
   ⟨State.reset.modPde 1 (fun x => { x with tx := some .psRdy }), 1, .psRdy, rfl, by decide +kernel⟩,
   ⟨State.reset.modPde 1 (fun x => { x with tx := some .psRdy, retries := 2 }), 1, .psRdy, rfl, by decide +kernel⟩⟩

/-- What Obligations.MessagesAndTheCable asks of states and operands is met, clause by clause, part 2. -/
theorem witness_MessagesAndTheCable_2 :
    (∃ (d : Pde), d.rev = some 2) ∧
    (∃ (d : Pde) (r : _), r < 2 ∧ d.rev = some r) ∧
    (∃ (s : State) (h : PdHdr) (t : State), Hears s h ∧ t = heard s h ∧ runs t h.port .chunkSenderResponse = true) ∧
    (∃ (s : State) (n : Nat), runs s n .chunkSenderRequest = true) :=
  ⟨⟨{ rev := some 2 }, by decide +kernel⟩,
   ⟨{ rev := some 1 }, 1, by decide +kernel, rfl⟩,
   ⟨State.reset.modPde 1 (fun x => { x with cc := .attachedSrc, pe := .ready, timers := [.chunkSenderResponse] }), { port := 1, id := 0, rev := 2 }, _, hears (by decide +kernel),
   rfl, by decide +kernel⟩,
   ⟨State.reset.modPde 1 (fun x => { x with timers := [.chunkSenderRequest] }), 1, by decide +kernel⟩⟩

/-- What Obligations.MessagesAndTheCable asks of states and operands is met, clause by clause, part 3. -/
theorem witness_MessagesAndTheCable_3 :
    (∃ (s : State) (n : Nat), runs s n .chunkSenderResponse = true ∧
     ((stopTimer s n .chunkSenderResponse).pde n).pe = .sendCaps) ∧
    (∃ (s : State) (h : PdHdr) (size : _), Hears s h ∧ 26 < size) ∧
    (∃ (s : State) (h : PdHdr) (size : _), Hears s h ∧ size ≤ 26) ∧
    (∃ (s : State) (h : PdHdr) (t : State) (k : _), Hears s h ∧ t = heard s h ∧ k ≠ 0 ∧
     runs t h.port .chunkSenderRequest = false) :=
  ⟨⟨State.reset.modPde 1 (fun x => { x with timers := [.chunkSenderResponse], pe := .sendCaps }), 1, by decide +kernel,
   by decide +kernel⟩,
   ⟨State.reset.modPde 1 (fun x => { x with cc := .attachedSrc, pe := .ready }), { port := 1, id := 0, rev := 2 }, 27, hears (by decide +kernel),
   by decide +kernel⟩,
   ⟨State.reset.modPde 1 (fun x => { x with cc := .attachedSrc, pe := .ready }), { port := 1, id := 0, rev := 2 }, 26, hears (by decide +kernel),
   by decide +kernel⟩,
   ⟨State.reset.modPde 1 (fun x => { x with cc := .attachedSrc, pe := .ready }), { port := 1, id := 0, rev := 2 }, _, 1, hears (by decide +kernel),
   rfl, by decide +kernel, by decide +kernel⟩⟩

/-- What Obligations.MessagesAndTheCable asks of states and operands is met, clause by clause, part 4. -/
theorem witness_MessagesAndTheCable_4 :
    (∃ (s : State) (n : Nat), runs s n .sinkTx = true ∧ ((stopTimer s n .sinkTx).pde n).amsIdle = true) ∧
    (∃ (s : State) (n : Nat), runs s n .sinkTx = true ∧ ((stopTimer s n .sinkTx).pde n).amsIdle = false) ∧
    (∃ (s : State) (h : PdHdr), h.port ≠ 0 ∧ (s.pde h.port).live = true ∧ (s.pde h.port).rxId = some h.id) ∧
    (∃ (s : State) (n : Nat) (s1 : State), runs s n .vconnStable = true ∧
     s1 = startTimer (stopTimer s n .vconnStable) n .discoverIdentity ∧ (s1.pde n).vconn = true ∧ (s1.pde n).cable = none ∧
     (s1.pde n).discN < 20 ∧ (s1.pde n).pe = .startup) :=
  ⟨⟨State.reset.modPde 1 (fun x => { x with cc := .attachedSrc, pe := .ready, timers := [.sinkTx] }), 1, by decide +kernel,
   by decide +kernel⟩,
   ⟨State.reset.modPde 1 (fun x => { x with timers := [.sinkTx] }), 1, by decide +kernel, by decide +kernel⟩,
   ⟨State.reset.modPde 1 (fun x => { x with cc := .attachedSrc, pe := .ready, rxId := some 0 }), { port := 1, id := 0, rev := 2 },
   by decide +kernel, by decide +kernel, rfl⟩,
   ⟨State.reset.modPde 1 (fun x => { x with vconn := true, pe := .startup, timers := [.vconnStable] }), 1, _,
   by decide +kernel, rfl, by decide +kernel, by decide +kernel, by decide +kernel, by decide +kernel⟩⟩

/-- What Obligations.MessagesAndTheCable asks of states and operands is met, clause by clause, part 5. -/
theorem witness_MessagesAndTheCable_5 :
    (∃ (s : State) (n : Nat), runs s n .discoverIdentity = true ∧ (s.pde n).vconn = true ∧ (s.pde n).cable = none ∧
     (s.pde n).pe = .startup ∧ (s.pde n).discN < 2) ∧
    (∃ (s : State) (n : Nat), runs s n .discoverIdentity = true ∧ (s.pde n).vconn = true ∧ (s.pde n).cable = none ∧
     (s.pde n).pe = .startup ∧ 2 ≤ (s.pde n).discN) ∧
    (∃ (s : State) (n : Nat), runs s n .discoverIdentity = true ∧ (s.pde n).pe = .ready ∧ 20 ≤ (s.pde n).discN) ∧
    (∃ (s : State) (n : Nat) (s1 : State), runs s n .discoverIdentity = true ∧ (s.pde n).pe = .ready ∧
     (s.pde n).vconn = true ∧ (s.pde n).cable = none ∧ (s.pde n).discN < 20 ∧
     s1 = s.modPde n (fun d => { d with disc := 1 }) ∧ (s1.pde n).ng = false) :=
  ⟨⟨State.reset.modPde 1 (fun x => { x with timers := [.discoverIdentity], vconn := true, cable := none, pe := .startup }), 1,
   by decide +kernel, by decide +kernel, by decide +kernel, by decide +kernel, by decide +kernel⟩,
   ⟨State.reset.modPde 1 (fun x => { x with timers := [.discoverIdentity], vconn := true, cable := none, pe := .startup, discN := 2 }), 1,
   by decide +kernel, by decide +kernel, by decide +kernel, by decide +kernel, by decide +kernel⟩,
   ⟨State.reset.modPde 1 (fun x => { x with timers := [.discoverIdentity], pe := .ready, discN := 20 }), 1,
   by decide +kernel, by decide +kernel, by decide +kernel⟩,
   ⟨State.reset.modPde 1 (fun x => { x with timers := [.discoverIdentity], pe := .ready, vconn := true, cable := none, ng := false }), 1, _,
   by decide +kernel, by decide +kernel, by decide +kernel, by decide +kernel, by decide +kernel, rfl, by decide +kernel⟩⟩

/-- What Obligations.MessagesAndTheCable asks of states and operands is met, clause by clause, part 6. -/
theorem witness_MessagesAndTheCable_6 :
    (∃ (s : State) (n : Nat) (id : _), (s.pde n).vconn = true ∧ (s.pde n).cable = none ∧ 0 < (s.pde n).discN ∧
     (s.pde n).rxIdP ≠ some id) ∧
    (∃ (s : State) (n : Nat) (id : _), (s.pde n).vconn = true ∧ (s.pde n).rxIdP = some id) ∧
    (∃ (s : State) (n : Nat), (s.pde n).vconn = false) :=
  ⟨⟨State.reset.modPde 1 (fun x => { x with vconn := true, cable := none, discN := 1 }), 1, 1, by decide +kernel,
   by decide +kernel, by decide +kernel, by decide +kernel⟩,
   ⟨State.reset.modPde 1 (fun x => { x with vconn := true, rxIdP := some 0 }), 1, 0, by decide +kernel, rfl⟩,
   ⟨State.reset.modPde 1 (fun x => { x with vconn := false }), 1, by decide +kernel⟩⟩

/-- What Obligations.PowerNegotiation asks of states and operands is met, clause by clause, part 1. -/
theorem witness_PowerNegotiation_1 :
    (∃ (s : State) (h : PdHdr) (t : State), Hears s h ∧ t = heard s h ∧ (t.pde h.port).cc = .attachedSrc ∧
     (t.pde h.port).epr = false ∧ ((t.pde h.port).pe = .ready ∨ (t.pde h.port).pe = .sendCaps)) ∧
    (∃ (s : State) (h : PdHdr) (t : State), Hears s h ∧ t = heard s h ∧ (t.pde h.port).cc = .attachedSrc ∧
     (t.pde h.port).epr = true ∧ ((t.pde h.port).pe = .ready ∨ (t.pde h.port).pe = .sendCaps)) ∧
    (∃ (s : State) (n : Nat) (rdo : _) (copy : _) (c : _), (s.pde n).rev.isSome = true ∧ bit rdo 26 = false ∧
     judge (s.pde n) rdo copy = some c) ∧
    (∃ (rdo : _), rdo / 2 ^ 28 % 16 = 0) :=
  ⟨⟨State.reset.modPde 1 (fun x => { x with cc := .attachedSrc, pe := .ready, epr := false }), { port := 1, id := 0, rev := 2 }, _, hears (by decide +kernel),
   rfl, by decide +kernel, by decide +kernel, by decide +kernel⟩,
   ⟨State.reset.modPde 1 (fun x => { x with cc := .attachedSrc, pe := .ready, epr := true }), { port := 1, id := 0, rev := 2 }, _, hears (by decide +kernel),
   rfl, by decide +kernel, by decide +kernel, by decide +kernel⟩,
   ⟨State.reset.modPde 1 (fun x => { x with rev := some 2, caps := [0x0801912C] }), 1, 0x1004B12C, none, _,
   by decide +kernel, by decide +kernel, rfl⟩,
   ⟨0, by decide +kernel⟩⟩

/-- What Obligations.PowerNegotiation asks of states and operands is met, clause by clause, part 2. -/
theorem witness_PowerNegotiation_2 :
    (∃ (s : State) (h : PdHdr) (t : State), Hears s h ∧ t = heard s h ∧ (t.pde h.port).cc = .attachedSrc ∧
     (t.pde h.port).rev.getD 2 = 2 ∧ enterReason t h.port = 0) ∧
    (∃ (s : State) (h : PdHdr) (t : State), Hears s h ∧ t = heard s h ∧ (t.pde h.port).cc = .attachedSrc ∧
     (t.pde h.port).rev.getD 2 = 2 ∧ enterReason t h.port ≠ 0) ∧
    (∃ (s : State) (h : PdHdr) (t : State), Hears s h ∧ t = heard s h ∧
     ((t.pde h.port).cc ≠ .attachedSrc ∨ (t.pde h.port).rev.getD 2 ≠ 2)) ∧
    (∃ (s : State) (h : PdHdr) (t : State) (c : _), Hears s h ∧ t = heard s h ∧ (t.pde h.port).epr = true ∧
     (t.pde h.port).contract = some c ∧ 20000 < c.mv) :=
  ⟨⟨(State.reset.modPde 1 (fun x => { x with cc := .attachedSrc, pe := .ready, vconn := true, contract := some { eprCap := true }, cable := some { amps5 := true, maxMv := 50000, epr := true, rev := 2 } })).modPb 1 (fun x => { x with alloc := 280 }), { port := 1, id := 0, rev := 2 }, _, hears (by decide +kernel),
   rfl, by decide +kernel, by decide +kernel, by decide +kernel⟩,
   ⟨State.reset.modPde 1 (fun x => { x with cc := .attachedSrc, pe := .ready }), { port := 1, id := 0, rev := 2 }, _, hears (by decide +kernel),
   rfl, by decide +kernel, by decide +kernel, by decide +kernel⟩,
   ⟨State.reset.modPde 1 (fun x => { x with cc := .attachedSrc, pe := .ready, rev := some 1 }), { port := 1, id := 0, rev := 2 }, _, hears (by decide +kernel),
   rfl, by decide +kernel⟩,
   ⟨State.reset.modPde 1 (fun x => { x with cc := .attachedSrc, pe := .ready, epr := true, contract := some { mv := 28000 } }), { port := 1, id := 0, rev := 2 }, _, { mv := 28000 }, hears (by decide +kernel),
   rfl, by decide +kernel, rfl, by decide +kernel⟩⟩

/-- What Obligations.PowerNegotiation asks of states and operands is met, clause by clause, part 3. -/
theorem witness_PowerNegotiation_3 :
    (∃ (s : State) (h : PdHdr) (t : State) (c : _), Hears s h ∧ t = heard s h ∧ (t.pde h.port).epr = true ∧
     (t.pde h.port).contract = some c ∧ c.mv ≤ 20000) ∧
    (∃ (s : State) (h : PdHdr) (t : State), Hears s h ∧ t = heard s h ∧ (t.pde h.port).cc = .attachedSrc ∧
     (((t.pde h.port).pe = .ready ∧ (t.pde h.port).epr = false) ∨ (t.pde h.port).pe = .waitNewCaps)) ∧
    (∃ (s : State) (h : PdHdr) (t : State), Hears s h ∧ t = heard s h ∧ (t.pde h.port).cc = .attachedSrc ∧
     (t.pde h.port).pe = .ready ∧ (t.pde h.port).epr = true) ∧
    (∃ (s : State) (h : PdHdr) (t : State), Hears s h ∧ t = heard s h ∧ (t.pde h.port).cc ≠ .attachedSrc ∧
     feedPresent t = true) :=
  ⟨⟨State.reset.modPde 1 (fun x => { x with cc := .attachedSrc, pe := .ready, epr := true, contract := some {} }), { port := 1, id := 0, rev := 2 }, _, {}, hears (by decide +kernel),
   rfl, by decide +kernel, rfl, by decide +kernel⟩,
   ⟨State.reset.modPde 1 (fun x => { x with cc := .attachedSrc, pe := .ready }), { port := 1, id := 0, rev := 2 }, _, hears (by decide +kernel),
   rfl, by decide +kernel, by decide +kernel⟩,
   ⟨State.reset.modPde 1 (fun x => { x with cc := .attachedSrc, pe := .ready, epr := true }), { port := 1, id := 0, rev := 2 }, _, hears (by decide +kernel),
   rfl, by decide +kernel, by decide +kernel, by decide +kernel⟩,
   ⟨({ State.reset with feedA.st := .on : State }).modPde 1 (fun x => { x with cc := .attachedSnk, pe := .ready }), { port := 1, id := 0, rev := 2 }, _, hears (by decide +kernel),
   rfl, by decide +kernel, by decide +kernel⟩⟩

/-- What Obligations.PowerNegotiation asks of states and operands is met, clause by clause, part 4. -/
theorem witness_PowerNegotiation_4 :
    (∃ (s : State) (h : PdHdr) (t : State), Hears s h ∧ t = heard s h ∧ (t.pde h.port).cc ≠ .attachedSrc ∧
     feedPresent t = false) ∧
    (∃ (s : State) (h : PdHdr) (t : State), Hears s h ∧ t = heard s h ∧ isUp h.port = false ∧ (t.pde h.port).rev.getD 2 = 2) ∧
    (∃ (s : State) (h : PdHdr) (t : State), Hears s h ∧ t = heard s h ∧ (isUp h.port = true ∨ (t.pde h.port).rev.getD 2 ≠ 2)) ∧
    (∃ (s : State) (n : Nat), (s.pde n).rev.getD 2 = 2) :=
  ⟨⟨State.reset.modPde 1 (fun x => { x with cc := .attachedSnk, pe := .ready }), { port := 1, id := 0, rev := 2 }, _, hears (by decide +kernel),
   rfl, by decide +kernel, by decide +kernel⟩,
   ⟨State.reset.modPde 1 (fun x => { x with cc := .attachedSrc, pe := .ready }), { port := 1, id := 0, rev := 2 }, _, hears (by decide +kernel),
   rfl, by decide +kernel, by decide +kernel⟩,
   ⟨State.reset.modPde 33 (fun x => { x with cc := .attachedSrc, pe := .ready }), { port := 33, id := 0, rev := 2 }, _, hears (by decide +kernel),
   rfl, by decide +kernel⟩,
   ⟨State.reset, 1, by decide +kernel⟩⟩

/-- What Obligations.PowerNegotiation asks of states and operands is met, clause by clause, part 5. -/
theorem witness_PowerNegotiation_5 :
    ∃ (s : State) (n : Nat), (s.pde n).rev.getD 2 ≠ 2 :=
  ⟨State.reset.modPde 1 (fun x => { x with rev := some 1 }), 1, by decide +kernel⟩

/-- What Obligations.MessagesOfEveryPort asks of states and operands is met, clause by clause, part 1. -/
theorem witness_MessagesOfEveryPort_1 :
    (∃ (s : State) (h : PdHdr), Hears s h ∧ isUp h.port = true) ∧
    (∃ (s : State) (h : PdHdr), Hears s h ∧ isUp h.port = false) ∧
    (∃ (s : State) (h : PdHdr) (t : State) (c : _), Hears s h ∧ t = heard s h ∧ (t.pde h.port).cc = .attachedSrc ∧
     (t.pde h.port).rev.getD 2 = 2 ∧ (t.pde h.port).contract = some c ∧ c.kind = 1) ∧
    (∃ (s : State) (h : PdHdr) (t : State), Hears s h ∧ t = heard s h ∧
     ((t.pde h.port).contract = none ∨ (t.pde h.port).cc ≠ .attachedSrc)) :=
  ⟨⟨State.reset.modPde 33 (fun x => { x with cc := .attachedSrc, pe := .ready }), { port := 33, id := 0, rev := 2 }, hears (by decide +kernel),
   by decide +kernel⟩,
   ⟨State.reset.modPde 1 (fun x => { x with cc := .attachedSrc, pe := .ready }), { port := 1, id := 0, rev := 2 }, hears (by decide +kernel),
   by decide +kernel⟩,
   ⟨State.reset.modPde 1 (fun x => { x with cc := .attachedSrc, pe := .ready, contract := some { kind := 1 } }), { port := 1, id := 0, rev := 2 }, _, { kind := 1 }, hears (by decide +kernel),
   rfl, by decide +kernel, by decide +kernel, rfl, by decide +kernel⟩,
   ⟨State.reset.modPde 1 (fun x => { x with cc := .attachedSrc, pe := .ready, contract := none }), { port := 1, id := 0, rev := 2 }, _, hears (by decide +kernel),
   rfl, by decide +kernel⟩⟩

/-- What Obligations.MessagesOfEveryPort asks of states and operands is met, clause by clause, part 2. -/
theorem witness_MessagesOfEveryPort_2 :
    (∃ (s : State) (h : PdHdr) (t : State), Hears s h ∧ t = heard s h ∧ (t.pde h.port).rev.getD 2 ≠ 2) ∧
    (∃ (s : State) (h : PdHdr) (t : State), Hears s h ∧ t = heard s h ∧ (t.pde h.port).contract = none) ∧
    (∃ (s : State) (h : PdHdr) (t : State) (c : _), Hears s h ∧ t = heard s h ∧ (t.pde h.port).contract = some c ∧
     c.mv = 5000) ∧
    (∃ (s : State) (h : PdHdr) (t : State) (c : _), Hears s h ∧ t = heard s h ∧ (t.pde h.port).contract = some c ∧
     c.mv ≠ 5000) :=
  ⟨⟨State.reset.modPde 1 (fun x => { x with cc := .attachedSrc, pe := .ready, rev := some 1 }), { port := 1, id := 0, rev := 2 }, _, hears (by decide +kernel),
   rfl, by decide +kernel⟩,
   ⟨State.reset.modPde 1 (fun x => { x with cc := .attachedSrc, pe := .ready, contract := none }), { port := 1, id := 0, rev := 2 }, _, hears (by decide +kernel),
   rfl, by decide +kernel⟩,
   ⟨State.reset.modPde 1 (fun x => { x with cc := .attachedSrc, pe := .ready, contract := some {} }), { port := 1, id := 0, rev := 2 }, _, {}, hears (by decide +kernel),
   rfl, rfl, by decide +kernel⟩,
   ⟨State.reset.modPde 1 (fun x => { x with cc := .attachedSrc, pe := .ready, contract := some { mv := 9000 } }), { port := 1, id := 0, rev := 2 }, _, { mv := 9000 }, hears (by decide +kernel),
   rfl, rfl, by decide +kernel⟩⟩

/-- What Obligations.MessagesOfEveryPort asks of states and operands is met, clause by clause, part 3. -/
theorem witness_MessagesOfEveryPort_3 :
    (∃ (s : State) (h : PdHdr) (t : State), Hears s h ∧ t = heard s h ∧
     runs (pdEvent t h.port 0x17) h.port .senderResponse = false) ∧
    (∃ (s : State) (h : PdHdr) (t : State) (t1 : State), Hears s h ∧ t = heard s h ∧ t1 = pdEvent t h.port 0x17 ∧
     runs t1 h.port .senderResponse = true ∧ (t1.pde h.port).pe ≠ .sendCaps ∧ (t1.pde h.port).soft = false) :=
  ⟨⟨State.reset.modPde 1 (fun x => { x with cc := .attachedSrc, pe := .ready }), { port := 1, id := 0, rev := 2 }, _, hears (by decide +kernel),
   rfl, by decide +kernel⟩,
   ⟨State.reset.modPde 1 (fun x => { x with cc := .attachedSrc, pe := .ready, timers := [.senderResponse], soft := false }), { port := 1, id := 0, rev := 2 }, _, _, hears (by decide +kernel),
   rfl, rfl, by decide +kernel, by decide +kernel, by decide +kernel⟩⟩

/-- What Obligations.SinkAndSwapMessages asks of states and operands is met, clause by clause, part 1. -/
theorem witness_SinkAndSwapMessages_1 :
    (∃ (s : State) (h : PdHdr) (t : State) (pdos : _) (t1 : State), Hears s h ∧ t = heard s h ∧
     (t.pde h.port).cc = .attachedSnk ∧ t1 = storeSrcCaps t h pdos ∧ sinkChoice (t1.pde h.port).set.snkVmax 1 pdos = none) ∧
    (∃ (s : State) (h : PdHdr) (t : State) (pdos : _) (t1 : State) (pos : Nat) (p : Nat), Hears s h ∧ t = heard s h ∧
     (t.pde h.port).cc = .attachedSnk ∧ t1 = storeSrcCaps t h pdos ∧
     sinkChoice (t1.pde h.port).set.snkVmax 1 pdos = some (pos, p)) ∧
    (∃ (s : State) (h : PdHdr) (t : State), Hears s h ∧ t = heard s h ∧
     (isUp h.port = false ∨ runs t h.port .senderResponse = false)) ∧
    (∃ (s : State) (h : PdHdr) (t : State), Hears s h ∧ t = heard s h ∧ isUp h.port = true ∧
     runs t h.port .senderResponse = true) :=
  ⟨⟨State.reset.modPde 33 (fun x => { x with cc := .attachedSnk, pe := .ready }), { port := 33, id := 0, rev := 2 }, _, [], _, hears (by decide +kernel),
   rfl, by decide +kernel, rfl, by decide +kernel⟩,
   ⟨State.reset.modPde 33 (fun x => { x with cc := .attachedSnk, pe := .ready }), { port := 33, id := 0, rev := 2 }, _, [100 * 2 ^ 10 + 300], _, 1, 100 * 2 ^ 10 + 300, hears (by decide +kernel),
   rfl, by decide +kernel, rfl, by decide +kernel⟩,
   ⟨State.reset.modPde 1 (fun x => { x with cc := .attachedSrc, pe := .ready }), { port := 1, id := 0, rev := 2 }, _, hears (by decide +kernel),
   rfl, by decide +kernel⟩,
   ⟨State.reset.modPde 33 (fun x => { x with cc := .attachedSrc, pe := .ready, timers := [.senderResponse] }), { port := 33, id := 0, rev := 2 }, _, hears (by decide +kernel),
   rfl, by decide +kernel, by decide +kernel⟩⟩

/-- What Obligations.SinkAndSwapMessages asks of states and operands is met, clause by clause, part 2. -/
theorem witness_SinkAndSwapMessages_2 :
    (∃ (d : Pde), d.set.upFrs = false) ∧
    (∃ (s : State) (h : PdHdr) (t : State), Hears s h ∧ t = heard s h ∧ (t.pde h.port).soft = false ∧
     (t.pde h.port).swap = none ∧ (t.pde h.port).cc = .attachedSnk ∧ (t.pde h.port).pend.isSome = true ∧
     (t.pde h.port).accepted = false) ∧
    (∃ (s : State) (h : PdHdr) (t : State) (w : _), Hears s h ∧ t = heard s h ∧ (t.pde h.port).soft = false ∧
     (t.pde h.port).swap = some w ∧ w.fast = false ∧ w.stage = 0 ∧ runs t h.port .senderResponse = true) ∧
    (∃ (s : State) (h : PdHdr) (t : State) (t1 : State), Hears s h ∧ t = heard s h ∧ (t.pde h.port).soft = true ∧
     runs t h.port .senderResponse = true ∧
     t1 = stopTimer (t.modPde h.port (fun d => { d with soft := false })) h.port .senderResponse ∧
     (t1.pde h.port).cc = .attachedSrc) :=
  ⟨⟨{ set.upFrs := false }, by decide +kernel⟩,
   ⟨State.reset.modPde 33 (fun x => { x with cc := .attachedSnk, pe := .ready, pend := some { mv := 5000 } }), { port := 33, id := 0, rev := 2 }, _, hears (by decide +kernel),
   rfl, by decide +kernel, by decide +kernel, by decide +kernel, by decide +kernel, by decide +kernel⟩,
   ⟨State.reset.modPde 1 (fun x => { x with cc := .attachedSrc, pe := .ready, soft := false, swap := some { fast := false, stage := 0 }, timers := [.senderResponse] }), { port := 1, id := 0, rev := 2 }, _, { fast := false, stage := 0 }, hears (by decide +kernel),
   rfl, by decide +kernel, rfl, by decide +kernel, by decide +kernel, by decide +kernel⟩,
   ⟨State.reset.modPde 1 (fun x => { x with cc := .attachedSrc, pe := .ready, soft := true, timers := [.senderResponse] }), { port := 1, id := 0, rev := 2 }, _, _, hears (by decide +kernel),
   rfl, by decide +kernel, by decide +kernel, rfl, by decide +kernel⟩⟩

/-- What Obligations.SinkAndSwapMessages asks of states and operands is met, clause by clause, part 3. -/
theorem witness_SinkAndSwapMessages_3 :
    (∃ (s : State) (h : PdHdr) (t : State), Hears s h ∧ t = heard s h ∧ (t.pde h.port).soft = false ∧
     (t.pde h.port).pe ≠ .sendCaps ∧ runs t h.port .senderResponse = true) ∧
    (∃ (s : State) (h : PdHdr) (t : State), Hears s h ∧ t = heard s h ∧
     ((t.pde h.port).soft = true ∨ (t.pde h.port).pe = .sendCaps)) ∧
    (∃ (s : State) (h : PdHdr) (t : State), Hears s h ∧ t = heard s h ∧ (t.pde h.port).swap = none ∧
     (t.pde h.port).cc = .attachedSnk ∧ (t.pde h.port).accepted = true) ∧
    (∃ (s : State) (h : PdHdr) (t : State) (w : _), Hears s h ∧ t = heard s h ∧ (t.pde h.port).swap = some w ∧
     w.fast = false ∧ w.fromSource = true ∧ w.stage = 4) :=
  ⟨⟨State.reset.modPde 1 (fun x => { x with cc := .attachedSrc, pe := .ready, soft := false, timers := [.senderResponse] }), { port := 1, id := 0, rev := 2 }, _, hears (by decide +kernel),
   rfl, by decide +kernel, by decide +kernel, by decide +kernel⟩,
   ⟨State.reset.modPde 1 (fun x => { x with cc := .attachedSrc, pe := .ready, soft := true }), { port := 1, id := 0, rev := 2 }, _, hears (by decide +kernel),
   rfl, by decide +kernel⟩,
   ⟨State.reset.modPde 33 (fun x => { x with cc := .attachedSnk, pe := .ready, swap := none, accepted := true }), { port := 33, id := 0, rev := 2 }, _, hears (by decide +kernel),
   rfl, by decide +kernel, by decide +kernel, by decide +kernel⟩,
   ⟨State.reset.modPde 1 (fun x => { x with cc := .attachedSrc, pe := .ready, swap := some { fast := false, fromSource := true, stage := 4 } }), { port := 1, id := 0, rev := 2 }, _, { fast := false, fromSource := true, stage := 4 }, hears (by decide +kernel),
   rfl, rfl, by decide +kernel, by decide +kernel, by decide +kernel⟩⟩

/-- What Obligations.SinkAndSwapMessages asks of states and operands is met, clause by clause, part 4. -/
theorem witness_SinkAndSwapMessages_4 :
    (∃ (s : State) (h : PdHdr) (t : State) (w : _), Hears s h ∧ t = heard s h ∧ (t.pde h.port).swap = some w ∧
     w.fast = true ∧ w.stage = 4) ∧
    (∃ (s : State) (h : PdHdr) (t : State) (w : _), Hears s h ∧ t = heard s h ∧ (t.pde h.port).swap = some w ∧
     w.fast = false ∧ w.fromSource = false ∧ w.stage = 2) ∧
    (∃ (s : State) (h : PdHdr), Hears s h ∧ isUp h.port = false) ∧
    (∃ (s : State) (h : PdHdr) (t : State), Hears s h ∧ t = heard s h ∧ isUp h.port = true ∧ (t.pde h.port).swap = none ∧
     (t.pde h.port).soft = false ∧ (t.pde h.port).pe ≠ .hardReset ∧ (t.pde h.port).pe ≠ .toDefault ∧
     (t.pde h.port).cc = .attachedSrc ∧ (t.pde h.port).set.upPrSwap = true) :=
  ⟨⟨State.reset.modPde 1 (fun x => { x with cc := .attachedSrc, pe := .ready, swap := some { fast := true, stage := 4 } }), { port := 1, id := 0, rev := 2 }, _, { fast := true, stage := 4 }, hears (by decide +kernel),
   rfl, rfl, by decide +kernel, by decide +kernel⟩,
   ⟨State.reset.modPde 1 (fun x => { x with cc := .attachedSrc, pe := .ready, swap := some { fast := false, fromSource := false, stage := 2 } }), { port := 1, id := 0, rev := 2 }, _, { fast := false, fromSource := false, stage := 2 }, hears (by decide +kernel),
   rfl, rfl, by decide +kernel, by decide +kernel, by decide +kernel⟩,
   ⟨State.reset.modPde 1 (fun x => { x with cc := .attachedSrc, pe := .ready }), { port := 1, id := 0, rev := 2 }, hears (by decide +kernel),
   by decide +kernel⟩,
   ⟨State.reset.modPde 33 (fun x => { x with cc := .attachedSrc, pe := .ready, swap := none, soft := false, set.upPrSwap := true }), { port := 33, id := 0, rev := 2 }, _, hears (by decide +kernel),
   rfl, by decide +kernel, by decide +kernel, by decide +kernel, by decide +kernel, by decide +kernel, by decide +kernel,
   by decide +kernel⟩⟩

/-- What Obligations.SinkAndSwapMessages asks of states and operands is met, clause by clause, part 5. -/
theorem witness_SinkAndSwapMessages_5 :
    (∃ (s : State) (h : PdHdr) (t : State), Hears s h ∧ t = heard s h ∧ isUp h.port = true ∧ (t.pde h.port).swap = none ∧
     (t.pde h.port).soft = false ∧ (t.pde h.port).pe ≠ .hardReset ∧ (t.pde h.port).pe ≠ .toDefault ∧
     (t.pde h.port).cc = .attachedSrc ∧ (t.pde h.port).set.upPrSwap = false) ∧
    (∃ (s : State) (h : PdHdr) (t : State), Hears s h ∧ t = heard s h ∧ isUp h.port = true ∧ (t.pde h.port).swap = none ∧
     (t.pde h.port).soft = false ∧ (t.pde h.port).pe ≠ .hardReset ∧ (t.pde h.port).pe ≠ .toDefault ∧
     (t.pde h.port).cc = .attachedSnk ∧ t.pba.trigger.isSome = true) ∧
    (∃ (s : State) (h : PdHdr) (t : State), Hears s h ∧ t = heard s h ∧ isUp h.port = true ∧ (t.pde h.port).swap = none ∧
     (t.pde h.port).soft = false ∧ (t.pde h.port).pe ≠ .hardReset ∧ (t.pde h.port).pe ≠ .toDefault ∧
     (t.pde h.port).cc = .attachedSnk ∧ t.pba.trigger = none ∧ feedPresent t = true ∧ 150 ≤ allocAsSource t h.port) ∧
    (∃ (s : State) (h : PdHdr) (t : State), Hears s h ∧ t = heard s h ∧ isUp h.port = true ∧ (t.pde h.port).swap = none ∧
     (t.pde h.port).soft = false ∧ (t.pde h.port).pe ≠ .hardReset ∧ (t.pde h.port).pe ≠ .toDefault ∧
     (t.pde h.port).cc = .attachedSnk ∧ t.pba.trigger = none ∧ (feedPresent t = false ∨ allocAsSource t h.port < 150)) :=
  ⟨⟨State.reset.modPde 33 (fun x => { x with cc := .attachedSrc, pe := .ready, swap := none, soft := false, set.upPrSwap := false }), { port := 33, id := 0, rev := 2 }, _, hears (by decide +kernel),
   rfl, by decide +kernel, by decide +kernel, by decide +kernel, by decide +kernel, by decide +kernel, by decide +kernel,
   by decide +kernel⟩,
   ⟨({ State.reset with pba.trigger := some default : State }).modPde 33 (fun x => { x with cc := .attachedSnk, pe := .ready }), { port := 33, id := 0, rev := 2 }, _, hears (by decide +kernel),
   rfl, by decide +kernel, by decide +kernel, by decide +kernel, by decide +kernel, by decide +kernel, by decide +kernel,
   by decide +kernel⟩,
   ⟨({ State.reset with feedA.st := .on, feedA.set.pmax := 1000, pba.trigger := none : State }).modPde 33 (fun x => { x with cc := .attachedSnk, pe := .ready }), { port := 33, id := 0, rev := 2 }, _, hears (by decide +kernel),
   rfl, by decide +kernel, by decide +kernel, by decide +kernel, by decide +kernel, by decide +kernel, by decide +kernel,
   by decide +kernel, by decide +kernel, by decide +kernel⟩,
   ⟨({ State.reset with pba.trigger := none : State }).modPde 33 (fun x => { x with cc := .attachedSnk, pe := .ready, swap := none, soft := false }), { port := 33, id := 0, rev := 2 }, _, hears (by decide +kernel),
   rfl, by decide +kernel, by decide +kernel, by decide +kernel, by decide +kernel, by decide +kernel, by decide +kernel,
   by decide +kernel, by decide +kernel⟩⟩

/-- What Obligations.SinkAndSwapMessages asks of states and operands is met, clause by clause, part 6. -/
theorem witness_SinkAndSwapMessages_6 :
    ∃ (s : State) (h : PdHdr) (t : State) (w : _), Hears s h ∧ t = heard s h ∧ isUp h.port = true ∧
     (t.pde h.port).swap = some w ∧ w.fast = true ∧ w.stage = 1 :=
  ⟨State.reset.modPde 33 (fun x => { x with cc := .attachedSrc, pe := .ready, swap := some { fast := true, stage := 1 } }), { port := 33, id := 0, rev := 2 }, _, { fast := true, stage := 1 }, hears (by decide +kernel),
   rfl, by decide +kernel, rfl, by decide +kernel, by decide +kernel⟩

/-- What Obligations.ResetsOfTheProtocol asks of states and operands is met, clause by clause, part 1. -/
theorem witness_ResetsOfTheProtocol_1 :
    (∃ (s : State) (h : PdHdr), h.port ≠ 0 ∧ (s.pde h.port).live = true) ∧
    (∃ (s : State) (n : Nat) (w : _), (s.pde n).swap = some w ∧ w.fast = true) ∧
    (∃ (s : State) (n : Nat), (s.pde n).pe = .stopped ∧ (s.pde n).swap = none) ∧
    (∃ (s : State) (n : Nat), (s.pde n).pe = .disabled) :=
  ⟨⟨State.reset.modPde 1 (fun x => { x with cc := .attachedSrc, pe := .ready }), { port := 1, id := 0, rev := 2 },
   by decide +kernel, by decide +kernel⟩,
   ⟨State.reset.modPde 1 (fun x => { x with swap := some { fast := true } }), 1, { fast := true }, rfl, by decide +kernel⟩,
   ⟨State.reset.modPde 1 (fun x => { x with pe := .stopped, swap := none }), 1, by decide +kernel, by decide +kernel⟩,
   ⟨State.reset.modPde 1 (fun x => { x with pe := .disabled }), 1, by decide +kernel⟩⟩

/-- What Obligations.ResetsOfTheProtocol asks of states and operands is met, clause by clause, part 2. -/
theorem witness_ResetsOfTheProtocol_2 :
    (∃ (s : State) (n : Nat) (s1 : State), ((s.pde n).pe = .ready ∨ (s.pde n).pe = .sendCaps ∨ (s.pde n).pe = .transition ∨ (s.pde n).pe = .snkContract ∨ ((s.pde n).pe = .stopped ∧
     (s.pde n).swap.isSome = true)) ∧ s1 = swapFails (pdEvent s n 8) n 0 ∧ (s1.pde n).cc ≠ .deadBattery) ∧
    (∃ (s : State) (n : Nat), 2 < (s.pde n).hardN) ∧
    (∃ (s : State) (n : Nat), runs s n .noResponse = true) ∧
    (∃ (s : State) (n : Nat), (s.pde n).talked = true) :=
  ⟨⟨State.reset.modPde 1 (fun x => { x with pe := .ready }), 1, _, by decide +kernel, rfl, by decide +kernel⟩,
   ⟨State.reset.modPde 1 (fun x => { x with hardN := 3 }), 1, by decide +kernel⟩,
   ⟨State.reset.modPde 1 (fun x => { x with timers := [.noResponse] }), 1, by decide +kernel⟩,
   ⟨State.reset.modPde 1 (fun x => { x with talked := true }), 1, by decide +kernel⟩⟩

/-- What Obligations.ResetsOfTheProtocol asks of states and operands is met, clause by clause, part 3. -/
theorem witness_ResetsOfTheProtocol_3 :
    (∃ (s : State) (n : Nat), (s.pde n).talked = false) ∧
    (∃ (s : State) (n : Nat), runs s n .psHardReset = true) ∧
    (∃ (s : State) (n : Nat), runs s n .safe0V = true ∧ (s.pde n).heldTold = false) ∧
    (∃ (s : State) (n : Nat), runs s n .safe0V = true ∧ (s.pde n).heldTold = true) :=
  ⟨⟨State.reset.modPde 1 (fun x => { x with talked := false }), 1, by decide +kernel⟩,
   ⟨State.reset.modPde 1 (fun x => { x with timers := [.psHardReset] }), 1, by decide +kernel⟩,
   ⟨State.reset.modPde 1 (fun x => { x with timers := [.safe0V], heldTold := false }), 1, by decide +kernel,
   by decide +kernel⟩,
   ⟨State.reset.modPde 1 (fun x => { x with timers := [.safe0V], heldTold := true }), 1, by decide +kernel,
   by decide +kernel⟩⟩

/-- What Obligations.ResetsOfTheProtocol asks of states and operands is met, clause by clause, part 4. -/
theorem witness_ResetsOfTheProtocol_4 :
    (∃ (s : State) (n : Nat), runs s n .srcRecover = true ∧ ((stopTimer s n .srcRecover).pde n).cc = .attachedSrc) ∧
    (∃ (s : State) (n : Nat), runs s n .noResponse = false) ∧
    (∃ (s : State) (n : Nat), runs s n .psHardReset = false) ∧
    (∃ (s : State) (n : Nat), runs s n .safe0V = false) :=
  ⟨⟨State.reset.modPde 1 (fun x => { x with timers := [.srcRecover], cc := .attachedSrc }), 1, by decide +kernel,
   by decide +kernel⟩,
   ⟨State.reset, 1, by decide +kernel⟩,
   ⟨State.reset, 1, by decide +kernel⟩,
   ⟨State.reset, 1, by decide +kernel⟩⟩

/-- What Obligations.ResetsOfTheProtocol asks of states and operands is met, clause by clause, part 5. -/
theorem witness_ResetsOfTheProtocol_5 :
    ∃ (s : State) (n : Nat), runs s n .srcRecover = false :=
  ⟨State.reset, 1, by decide +kernel⟩

/-- What Obligations.TimersOfTheProtocol asks of states and operands is met, clause by clause, part 1. -/
theorem witness_TimersOfTheProtocol_1 :
    (∃ (s : State) (n : Nat) (s1 : State), s1 = markCaps s n ∧ (s1.pde n).amsIdle = true ∧ (s1.pde n).readv = true ∧
     (s1.pde n).avoids = false) ∧
    (∃ (s : State) (n : Nat) (s1 : State), s1 = markCaps s n ∧ (s1.pde n).amsIdle = true ∧ (s1.pde n).readv = true ∧
     (s1.pde n).avoids = true ∧ (s1.pde n).ng = false) ∧
    (∃ (s : State) (n : Nat) (s1 : State), s1 = markCaps s n ∧ (s1.pde n).amsIdle = false) ∧
    (∃ (s : State) (n : Nat), runs s n .typeCSendSourceCap = true ∧ 50 < ((stopTimer s n .typeCSendSourceCap).pde n).capsN) :=
  ⟨⟨State.reset.modPde 1 (fun x => { x with cc := .attachedSrc, pe := .ready, readv := true }), 1, _, rfl,
   by decide +kernel, by decide +kernel, by decide +kernel⟩,
   ⟨State.reset.modPde 1 (fun x => { x with cc := .attachedSrc, pe := .ready, readv := true, rev := some 2, contract := some {} }), 1, _,
   rfl, by decide +kernel, by decide +kernel, by decide +kernel, by decide +kernel⟩,
   ⟨State.reset, 1, _, rfl, by decide +kernel⟩,
   ⟨State.reset.modPde 1 (fun x => { x with timers := [.typeCSendSourceCap], capsN := 51 }), 1, by decide +kernel,
   by decide +kernel⟩⟩

/-- What Obligations.TimersOfTheProtocol asks of states and operands is met, clause by clause, part 2. -/
theorem witness_TimersOfTheProtocol_2 :
    (∃ (s : State) (n : Nat), runs s n .typeCSendSourceCap = true ∧ ((stopTimer s n .typeCSendSourceCap).pde n).capsN ≤ 50) ∧
    (∃ (s : State) (n : Nat) (s1 : State), runs s n .senderResponse = true ∧ s1 = stopTimer s n .senderResponse ∧
     (s1.pde n).pe = .sendCaps ∧ contractPower s1 n ≤ tenths (s1.pb n).alloc) ∧
    (∃ (s : State) (n : Nat) (s1 : State), runs s n .senderResponse = true ∧ s1 = stopTimer s n .senderResponse ∧
     (s1.pde n).pe = .sendCaps ∧ tenths (s1.pb n).alloc < contractPower s1 n) ∧
    (∃ (s : State) (n : Nat) (s1 : State), runs s n .senderResponse = true ∧ s1 = stopTimer s n .senderResponse ∧
     (s1.pde n).pe ≠ .sendCaps ∧ (s1.pde n).soft = true) :=
  ⟨⟨State.reset.modPde 1 (fun x => { x with timers := [.typeCSendSourceCap] }), 1, by decide +kernel, by decide +kernel⟩,
   ⟨State.reset.modPde 1 (fun x => { x with timers := [.senderResponse], pe := .sendCaps }), 1, _, by decide +kernel, rfl,
   by decide +kernel, by decide +kernel⟩,
   ⟨State.reset.modPde 1 (fun x => { x with cc := .attachedSrc, pe := .sendCaps, timers := [.senderResponse], contract := some { ma := 3000 } }), 1, _,
   by decide +kernel, rfl, by decide +kernel, by decide +kernel⟩,
   ⟨State.reset.modPde 1 (fun x => { x with timers := [.senderResponse], soft := true }), 1, _, by decide +kernel, rfl,
   by decide +kernel, by decide +kernel⟩⟩

/-- What Obligations.TimersOfTheProtocol asks of states and operands is met, clause by clause, part 3. -/
theorem witness_TimersOfTheProtocol_3 :
    (∃ (s : State) (n : Nat) (s1 : State), runs s n .senderResponse = true ∧ s1 = stopTimer s n .senderResponse ∧
     (s1.pde n).pe = .ready ∧ (s1.pde n).soft = false ∧ (s1.pde n).cc = .attachedSrc) ∧
    (∃ (s : State) (n : Nat) (s1 : State) (c : _), runs s n .srcTransition = true ∧ s1 = stopTimer s n .srcTransition ∧
     (s1.pde n).swap = none ∧ (s1.pde n).contract = some c ∧ c.kind ≠ 1 ∧ ((setCc s1 n none).ppc n).mv = c.mv ∧
     ((setCc s1 n none).ppc n).pg = true ∧ ((setCc s1 n none).ppc n).st = .on) ∧
    (∃ (s : State) (n : Nat) (s1 : State) (c : _), runs s n .srcTransition = true ∧ s1 = stopTimer s n .srcTransition ∧
     (s1.pde n).swap = none ∧ (s1.pde n).contract = some c ∧ c.kind ≠ 1 ∧ ((setCc s1 n none).ppc n).mv = c.mv ∧
     ((setCc s1 n none).ppc n).pg = false) ∧
    (∃ (s : State) (n : Nat) (s1 : State) (c : _) (s2 : State), runs s n .srcTransition = true ∧
     s1 = stopTimer s n .srcTransition ∧ (s1.pde n).swap = none ∧ (s1.pde n).contract = some c ∧ c.kind ≠ 1 ∧
     s2 = setCc s1 n none ∧ (s2.ppc n).mv ≠ c.mv ∧ (s2.ppc n).st = .on) :=
  ⟨⟨State.reset.modPde 1 (fun x => { x with timers := [.senderResponse], pe := .ready, soft := false, cc := .attachedSrc }), 1, _,
   by decide +kernel, rfl, by decide +kernel, by decide +kernel, by decide +kernel⟩,
   ⟨(State.reset.modPde 1 (fun x => { x with timers := [.srcTransition], contract := some {} })).modPpc 1 (fun x => { x with st := .on, pg := true }), 1, _, {},
   by decide +kernel, rfl, by decide +kernel, rfl, by decide +kernel, by decide +kernel, by decide +kernel,
   by decide +kernel⟩,
   ⟨State.reset.modPde 1 (fun x => { x with timers := [.srcTransition], contract := some {} }), 1, _, {},
   by decide +kernel, rfl, by decide +kernel, rfl, by decide +kernel, by decide +kernel, by decide +kernel⟩,
   ⟨(State.reset.modPde 1 (fun x => { x with timers := [.srcTransition], contract := some { mv := 9000 } })).modPpc 1 (fun x => { x with st := .on }), 1, _, { mv := 9000 }, _,
   by decide +kernel, rfl, by decide +kernel, rfl, by decide +kernel, rfl, by decide +kernel, by decide +kernel⟩⟩

/-- What Obligations.TimersOfTheProtocol asks of states and operands is met, clause by clause, part 4. -/
theorem witness_TimersOfTheProtocol_4 :
    (∃ (s : State) (n : Nat) (w : _), runs s n .srcTransition = true ∧ ((stopTimer s n .srcTransition).pde n).swap = some w) ∧
    (∃ (s : State) (n : Nat), runs s n .srcSettle = true) ∧
    (∃ (s : State) (n : Nat), runs s n .enterEpr = true) ∧
    (∃ (s : State) (n : Nat), runs s n .eprKeepAlive = true) :=
  ⟨⟨State.reset.modPde 1 (fun x => { x with timers := [.srcTransition], swap := some {} }), 1, {}, by decide +kernel, rfl⟩,
   ⟨State.reset.modPde 1 (fun x => { x with timers := [.srcSettle] }), 1, by decide +kernel⟩,
   ⟨State.reset.modPde 1 (fun x => { x with timers := [.enterEpr] }), 1, by decide +kernel⟩,
   ⟨State.reset.modPde 1 (fun x => { x with timers := [.eprKeepAlive] }), 1, by decide +kernel⟩⟩

/-- What Obligations.TimersOfTheProtocol asks of states and operands is met, clause by clause, part 5. -/
theorem witness_TimersOfTheProtocol_5 :
    (∃ (s : State) (n : Nat), runs s n .ppsTimeout = true) ∧
    (∃ (s : State) (n : Nat), runs s n .srcSettle = false) ∧
    (∃ (s : State) (n : Nat), runs s n .enterEpr = false) ∧
    (∃ (s : State) (n : Nat), runs s n .eprKeepAlive = false) :=
  ⟨⟨State.reset.modPde 1 (fun x => { x with timers := [.ppsTimeout] }), 1, by decide +kernel⟩,
   ⟨State.reset, 1, by decide +kernel⟩,
   ⟨State.reset, 1, by decide +kernel⟩,
   ⟨State.reset, 1, by decide +kernel⟩⟩

/-- What Obligations.TimersOfTheProtocol asks of states and operands is met, clause by clause, part 6. -/
theorem witness_TimersOfTheProtocol_6 :
    (∃ (s : State) (n : Nat), runs s n .ppsTimeout = false) ∧
    (∃ (s : State) (n : Nat), runs s n .senderResponse = false) ∧
    (∃ (s : State) (n : Nat), runs s n .srcTransition = false) ∧
    (∃ (s : State) (u : Up) (n : _), n = portOfUp u ∧ runs s n .psSourceOff = true) :=
  ⟨⟨State.reset, 1, by decide +kernel⟩,
   ⟨State.reset, 1, by decide +kernel⟩,
   ⟨State.reset, 1, by decide +kernel⟩,
   ⟨State.reset.modPde 33 (fun x => { x with timers := [.psSourceOff] }), .a, _, rfl, by decide +kernel⟩⟩

/-- What Obligations.TimersOfTheProtocol asks of states and operands is met, clause by clause, part 7. -/
theorem witness_TimersOfTheProtocol_7 :
    (∃ (s : State) (u : Up) (n : _), n = portOfUp u ∧ runs s n .psSourceOn = true) ∧
    (∃ (s : State) (u : Up) (n : _), n = portOfUp u ∧ runs s n .swapSourceStart = true) ∧
    (∃ (s : State) (u : Up) (n : _), n = portOfUp u ∧ runs s n .frSwapWait = true) ∧
    (∃ (s : State) (u : Up) (n : _) (w : _), n = portOfUp u ∧ (s.pde n).swap = some w ∧ runs s n .frsSignal = true) :=
  ⟨⟨State.reset.modPde 33 (fun x => { x with timers := [.psSourceOn] }), .a, _, rfl, by decide +kernel⟩,
   ⟨State.reset.modPde 33 (fun x => { x with timers := [.swapSourceStart] }), .a, _, rfl, by decide +kernel⟩,
   ⟨State.reset.modPde 33 (fun x => { x with timers := [.frSwapWait] }), .a, _, rfl, by decide +kernel⟩,
   ⟨State.reset.modPde 33 (fun x => { x with timers := [.frsSignal], swap := some { fast := true } }),
   .a, _, { fast := true }, rfl, rfl, by decide +kernel⟩⟩

/-- What Obligations.PowerPaths asks of states and operands is met, clause by clause, part 1. -/
theorem witness_PowerPaths_1 :
    (∃ (s : State) (n : Nat), (s.pde n).cc = .attachedSrc) ∧
    (∃ (s : State) (n : Nat), (s.pde n).cc = .idle) ∧
    (∃ (s : State) (n : Nat), (s.ppc n).st = .off ∧ vbusWanted s n = true) ∧
    (∃ (s : State) (n : Nat), (s.ppc n).st = .off ∧ vbusWanted s n = false) :=
  ⟨⟨State.reset.modPde 1 (fun x => { x with cc := .attachedSrc }), 1, by decide +kernel⟩,
   ⟨State.reset.modPde 1 (fun x => { x with cc := .idle }), 1, by decide +kernel⟩,
   ⟨(State.reset.modPb 1 (fun x => { x with alloc := 75 })).modPpc 1 (fun x => { x with st := .off, req := true }), 1,
   by decide +kernel, by decide +kernel⟩,
   ⟨State.reset.modPpc 1 (fun x => { x with st := .off }), 1, by decide +kernel, by decide +kernel⟩⟩

/-- What Obligations.PowerPaths asks of states and operands is met, clause by clause, part 2. -/
theorem witness_PowerPaths_2 :
    (∃ (s : State) (n : Nat) (s1 : State), s1 = s.modPpc n (fun q => { q with req := false }) ∧
     ((s1.ppc n).st = .on ∨ (s1.ppc n).st = .ramp ∨ (s1.ppc n).st = .transition ∨ (s1.ppc n).st = .frozen)) ∧
    (∃ (s : State) (n : Nat) (s1 : State), s1 = s.modPpc n (fun q => { q with req := false }) ∧ (s1.ppc n).st = .convCheck) ∧
    (∃ (s : State) (n : Nat) (s1 : State), s1 = s.modPpc n (fun q => { q with req := false }) ∧
     ((s1.ppc n).st = .off ∨ (s1.ppc n).st = .tripped ∨ (s1.ppc n).st = .discharge)) ∧
    (∃ (s : State) (n : Nat), (s.ppc n).st = .convCheck ∧ (s.ppc n).retryWait = false) :=
  ⟨⟨State.reset.modPpc 1 (fun x => { x with st := .on }), 1, _, rfl, by decide +kernel⟩,
   ⟨State.reset.modPpc 1 (fun x => { x with st := .convCheck }), 1, _, rfl, by decide +kernel⟩,
   ⟨State.reset.modPpc 1 (fun x => { x with st := .off }), 1, _, rfl, by decide +kernel⟩,
   ⟨State.reset.modPpc 1 (fun x => { x with st := .convCheck, retryWait := false }), 1, by decide +kernel,
   by decide +kernel⟩⟩

/-- What Obligations.PowerPaths asks of states and operands is met, clause by clause, part 3. -/
theorem witness_PowerPaths_3 :
    (∃ (s : State) (n : Nat), (s.ppc n).st = .convCheck ∧ (s.ppc n).retryWait = true ∧ vbusWanted s n = true) ∧
    (∃ (s : State) (n : Nat), (s.ppc n).st = .convCheck ∧ (s.ppc n).retryWait = true ∧ vbusWanted s n = false) ∧
    (∃ (s : State) (n : Nat) (s1 : State), (s.ppc n).fault = 0 ∧ (s.ppc n).st = .transition ∧
     s1 = s.modPpc n (fun q => { q with st := .on, pg := true, under := false, dsch := false }) ∧
     (s1.pde n).pe = .transition ∧ runs s1 n .srcTransition = false) ∧
    (∃ (s : State) (n : Nat) (s1 : State), (s.ppc n).fault = 0 ∧ (s.ppc n).st = .transition ∧
     s1 = s.modPpc n (fun q => { q with st := .on, pg := true, under := false, dsch := false }) ∧
     ((s1.pde n).pe ≠ .transition ∨ runs s1 n .srcTransition = true)) :=
  ⟨⟨(State.reset.modPpc 1 (fun x => { x with st := .convCheck, retryWait := true, req := true })).modPb 1 (fun x => { x with alloc := 25 }), 1,
   by decide +kernel, by decide +kernel, by decide +kernel⟩,
   ⟨State.reset.modPpc 1 (fun x => { x with st := .convCheck, retryWait := true }), 1, by decide +kernel,
   by decide +kernel, by decide +kernel⟩,
   ⟨(State.reset.modPde 1 (fun x => { x with pe := .transition })).modPpc 1 (fun x => { x with st := .transition }), 1, _,
   by decide +kernel, by decide +kernel, rfl, by decide +kernel, by decide +kernel⟩,
   ⟨State.reset.modPpc 1 (fun x => { x with fault := 0, st := .transition }), 1, _, by decide +kernel, by decide +kernel,
   rfl, by decide +kernel⟩⟩

/-- What Obligations.PowerPaths asks of states and operands is met, clause by clause, part 4. -/
theorem witness_PowerPaths_4 :
    (∃ (s : State) (n : Nat) (s1 : State), (s.ppc n).fault = 0 ∧ (s.ppc n).st = .ramp ∧ isUp n = false ∧
     s1 = dpePower (s.modPpc n (fun q => { q with st := .on, pg := true, under := false, slewHeld := if q.halved then q.slewHeld else false })) n ∧
     (s1.pde n).cc = .attachedSrc ∧ (s1.pde n).swap = none ∧ ((s1.pde n).pe = .stopped ∨ (s1.pde n).pe = .toDefault)) ∧
    (∃ (s : State) (n : Nat) (s1 : State), (s.ppc n).fault = 0 ∧ (s.ppc n).st = .ramp ∧ isUp n = false ∧
     s1 = dpePower (s.modPpc n (fun q => { q with st := .on, pg := true, under := false, slewHeld := if q.halved then q.slewHeld else false })) n ∧
     (s1.pde n).cc = .idle) ∧
    (∃ (s : State) (n : Nat), (s.ppc n).fault ≠ 0) ∧
    (∃ (s : State) (n : Nat), (s.pde n).tx = some .psRdy ∧ (s.pde n).pe = .transition) :=
  ⟨⟨(State.reset.modPde 1 (fun x => { x with cc := .attachedSrc, pe := .stopped })).modPpc 1 (fun x => { x with st := .ramp }), 1, _,
   by decide +kernel, by decide +kernel, by decide +kernel, rfl, by decide +kernel, by decide +kernel, by decide +kernel⟩,
   ⟨(State.reset.modPde 1 (fun x => { x with cc := .idle })).modPpc 1 (fun x => { x with st := .ramp }), 1, _,
   by decide +kernel, by decide +kernel, by decide +kernel, rfl, by decide +kernel⟩,
   ⟨State.reset.modPpc 1 (fun x => { x with fault := 1 }), 1, by decide +kernel⟩,
   ⟨State.reset.modPde 1 (fun x => { x with tx := some .psRdy, pe := .transition }), 1, rfl, by decide +kernel⟩⟩

/-- What Obligations.PowerPaths asks of states and operands is met, clause by clause, part 5. -/
theorem witness_PowerPaths_5 :
    (∃ (s : State) (n : Nat), (s.pde n).pe ≠ .transition) ∧
    (∃ (s : State) (n : Nat), (s.ppc n).dsch = true) ∧
    (∃ (s : State) (n : Nat), (s.ppc n).dsch = false) ∧
    (∃ (s : State) (n : Nat), (s.ppc n).st ≠ .discharge) :=
  ⟨⟨State.reset, 1, by decide +kernel⟩,
   ⟨State.reset.modPpc 1 (fun x => { x with dsch := true }), 1, by decide +kernel⟩,
   ⟨State.reset.modPpc 1 (fun x => { x with dsch := false }), 1, by decide +kernel⟩,
   ⟨State.reset, 1, by decide +kernel⟩⟩

/-- What Obligations.PowerPaths asks of states and operands is met, clause by clause, part 6. -/
theorem witness_PowerPaths_6 :
    (∃ (s : State) (n : Nat), runs s n .safe0V = true) ∧
    (∃ (s : State) (n : Nat), runs s n .safe0V = false ∧ (s.pde n).swap = none) ∧
    (∃ (s : State) (u : Up), (s.pde (portOfUp u)).cc = .attachedSnk) ∧
    (∃ (s : State) (u : Up), (s.pde (portOfUp u)).cc ≠ .attachedSnk) :=
  ⟨⟨State.reset.modPde 1 (fun x => { x with timers := [.safe0V] }), 1, by decide +kernel⟩,
   ⟨State.reset.modPde 1 (fun x => { x with swap := none }), 1, by decide +kernel, by decide +kernel⟩,
   ⟨State.reset.modPde (33) (fun x => { x with cc := .attachedSnk }), .a, by decide +kernel⟩,
   ⟨State.reset, .a, by decide +kernel⟩⟩

/-- What Obligations.PowerPaths asks of states and operands is met, clause by clause, part 7. -/
theorem witness_PowerPaths_7 :
    (∃ (s : State) (n : Nat) (w : _), (s.ppc n).cycle = some w ∧ (s.ppc n).cool = 0) ∧
    (∃ (s : State) (n : Nat), (s.ppc n).cool ≠ 0) :=
  ⟨⟨State.reset.modPpc 1 (fun x => { x with cycle := some 1 }), 1, 1, rfl, by decide +kernel⟩,
   ⟨State.reset.modPpc 1 (fun x => { x with cool := 1 }), 1, by decide +kernel⟩⟩

/-- What Obligations.TripsAndMeters asks of states and operands is met, clause by clause, part 1. -/
theorem witness_TripsAndMeters_1 :
    (∃ (s : State) (n : Nat), (s.ppc n).st = .on) ∧
    (∃ (s : State) (n : Nat), (s.ppc n).st ≠ .on) ∧
    (∃ (s : State) (n : Nat), (s.ppc n).st = .ramp) ∧
    (∃ (s : State) (n : Nat), (s.ppc n).st ≠ .ramp) :=
  ⟨⟨State.reset.modPpc 1 (fun x => { x with st := .on }), 1, by decide +kernel⟩,
   ⟨State.reset, 1, by decide +kernel⟩,
   ⟨State.reset.modPpc 1 (fun x => { x with st := .ramp }), 1, by decide +kernel⟩,
   ⟨State.reset, 1, by decide +kernel⟩⟩

/-- What Obligations.TripsAndMeters asks of states and operands is met, clause by clause, part 2. -/
theorem witness_TripsAndMeters_2 :
    (∃ (s : State) (n : Nat), (s.ppc n).gate = false) ∧
    (∃ (s : State) (n : Nat), (s.ppc n).gate = true ∧ isUp n = true) ∧
    (∃ (s : State) (n : Nat), (s.ppc n).gate = true ∧ isUp n = false) ∧
    (∃ (q : Ppc), q.set.auto = true) :=
  ⟨⟨State.reset, 1, by decide +kernel⟩,
   ⟨State.reset.modPpc 33 (fun x => { x with st := .on }), 33, by decide +kernel, by decide +kernel⟩,
   ⟨State.reset.modPpc 1 (fun x => { x with st := .on }), 1, by decide +kernel, by decide +kernel⟩,
   ⟨{ set.auto := true }, by decide +kernel⟩⟩

/-- What Obligations.TripsAndMeters asks of states and operands is met, clause by clause, part 3. -/
theorem witness_TripsAndMeters_3 :
    (∃ (q : Ppc), q.set.auto = false) ∧
    (∃ (s : State) (n : Nat) (s1 : State), (s.ppc n).cool ≠ 0 ∧ (s.ppc n).clear = false ∧ (s.ppc n).set.auto = false ∧
     s1 = s.modPpc n (fun q => { q with cool := 0 }) ∧ (s1.pde n).cc ≠ .attachWaitCool) ∧
    (∃ (s : State) (n : Nat) (s1 : State), (s.ppc n).cool ≠ 0 ∧ (s.ppc n).clear = false ∧ (s.ppc n).set.auto = false ∧
     s1 = s.modPpc n (fun q => { q with cool := 0 }) ∧ (s1.pde n).cc = .attachWaitCool) ∧
    (∃ (s : State) (n : Nat) (s1 : State), (s.ppc n).cool ≠ 0 ∧ ((s.ppc n).clear = true ∨ (s.ppc n).set.auto = true) ∧
     s1 = clearTrip (s.modPpc n (fun q => { q with cool := 0 })) n ∧ (s1.pde n).cc ≠ .attachWaitCool) :=
  ⟨⟨{ set.auto := false }, by decide +kernel⟩,
   ⟨State.reset.modPpc 1 (fun x => { x with cool := 1, clear := false, set.auto := false }), 1, _, by decide +kernel,
   by decide +kernel, by decide +kernel, rfl, by decide +kernel⟩,
   ⟨(State.reset.modPpc 1 (fun x => { x with cool := 1 })).modPde 1 (fun x => { x with cc := .attachWaitCool }), 1, _,
   by decide +kernel, by decide +kernel, by decide +kernel, rfl, by decide +kernel⟩,
   ⟨State.reset.modPpc 1 (fun x => { x with cool := 1, clear := true }), 1, _, by decide +kernel, by decide +kernel, rfl,
   by decide +kernel⟩⟩

/-- What Obligations.TripsAndMeters asks of states and operands is met, clause by clause, part 4. -/
theorem witness_TripsAndMeters_4 :
    (∃ (s : State) (n : Nat), (s.ppc n).cool = 0) ∧
    (∃ (reg : _), reg ≤ 16) :=
  ⟨⟨State.reset.modPpc 1 (fun x => { x with cool := 0 }), 1, by decide +kernel⟩,
   ⟨16, by decide +kernel⟩⟩

/-- What Obligations.ConvertersAndSegments asks of states and operands is met, clause by clause, part 1. -/
theorem witness_ConvertersAndSegments_1 :
    (∃ (s : State) (n : Nat), s.chipActive = true ∧ convUsable s n = true) ∧
    (∃ (s : State) (n : Nat), (s.chipActive = false ∨ convUsable s n = false)) ∧
    (∃ (s : State) (n : Nat), ((s.conv n).addr = 0 ∨ (s.conv n).addr = 0x0C)) ∧
    (∃ (t : Txn), t.prio ≠ 1 ∧ t.code = 0x21) :=
  ⟨⟨State.reset.modConv 1 (fun x => { x with addr := 16 }), 1, by decide +kernel, by decide +kernel⟩,
   ⟨{ State.reset with pair.st := .standby, sys.role := 1 : State }, 1, by decide +kernel⟩,
   ⟨State.reset.modConv 1 (fun x => { x with addr := 0 }), 1, by decide +kernel⟩,
   ⟨{ conv := 1, code := 0x21, value := 5000, prio := 0 }, by decide +kernel, by decide +kernel⟩⟩

/-- What Obligations.ConvertersAndSegments asks of states and operands is met, clause by clause, part 2. -/
theorem witness_ConvertersAndSegments_2 :
    (∃ (t : Txn), t.prio ≠ 1 ∧ t.code = 0x27) ∧
    (∃ (t : Txn), t.prio ≠ 1 ∧ t.code = 1) ∧
    (∃ (t : Txn), t.prio ≠ 1 ∧ t.code = 0x79) ∧
    (∃ (s : State) (b : _) (t : _) (k : _), (s.seg b).cur = some (t, k) ∧ k < 2) :=
  ⟨⟨{ conv := 1, code := 0x27, value := 5000, prio := 0 }, by decide +kernel, by decide +kernel⟩,
   ⟨{ conv := 1, code := 1, value := 128, prio := 0 }, by decide +kernel, by decide +kernel⟩,
   ⟨{ conv := 1, code := 0x79, value := 0, prio := 3 }, by decide +kernel, by decide +kernel⟩,
   ⟨State.reset.modSeg false (fun x => { x with cur := some ({ conv := 1, code := 0x79, value := 0, prio := 3 }, 1) }), false, _, _,
   rfl, by decide +kernel⟩⟩

/-- What Obligations.ConvertersAndSegments asks of states and operands is met, clause by clause, part 3. -/
theorem witness_ConvertersAndSegments_3 :
    (∃ (s : State) (b : _) (t : Txn) (k : _) (res : TxnRes) (kind : _), (s.seg b).cur = some (t, k) ∧ 2 ≤ k ∧ t.prio ≠ 1 ∧
     ((res = .addressNack ∧ kind = 1) ∨ (res = .dataNack ∧ kind = 2) ∨ (res = TxnRes.pec ∧ kind = 3))) ∧
    (∃ (s : State) (b : _), (s.seg b).cur = none ∧ s.chipActive = true) ∧
    (∃ (s : State) (b : _) (t : BusTxn), (s.seg b).cur = none ∧ s.chipActive = false ∧ onSegB t.conv = b ∧ t.code = 0x21) ∧
    (∃ (s : State) (b : _) (t : BusTxn), (s.seg b).cur = none ∧ s.chipActive = false ∧ onSegB t.conv = b ∧ t.code = 1) :=
  ⟨⟨State.reset.modSeg false (fun x => { x with cur := some ({ conv := 1, code := 0x79, value := 0, prio := 3 }, 2) }), false, { conv := 1, code := 0x79, value := 0, prio := 3 }, 2, .pec, 3,
   rfl, by decide +kernel, by decide +kernel, by decide +kernel⟩,
   ⟨State.reset.modSeg false (fun x => { x with cur := none }), false, by decide +kernel, by decide +kernel⟩,
   ⟨({ State.reset with pair.st := .standby, sys.role := 1 : State }).modSeg false (fun x => { x with cur := none }), false, { conv := 1, code := 0x21, value := 5000 },
   by decide +kernel, by decide +kernel, by decide +kernel, by decide +kernel⟩,
   ⟨({ State.reset with pair.st := .standby, sys.role := 1 : State }).modSeg false (fun x => { x with cur := none }), false, { conv := 1, code := 1, value := 128 },
   by decide +kernel, by decide +kernel, by decide +kernel, by decide +kernel⟩⟩

/-- What Obligations.ConvertersAndSegments asks of states and operands is met, clause by clause, part 4. -/
theorem witness_ConvertersAndSegments_4 :
    (∃ (s : State) (b : _) (t : BusTxn), (s.seg b).cur = none ∧ s.chipActive = false ∧ onSegB t.conv = b ∧ t.code = 0x79) ∧
    (∃ (s : State) (b : _) (r : TxnRes), (s.seg b).cur = none ∧ s.chipActive = false ∧ (∀ d, r ≠ .ok d)) ∧
    (∃ (s : State) (n : Nat) (w : _) (s1 : State), s1 = s.modConv n (fun c => { c with status := w }) ∧
     anyBit w [5, 4, 3, 13] = true ∧ (s1.ppc n).gate = true) ∧
    (∃ (s : State) (n : Nat) (w : _) (s1 : State), s1 = s.modConv n (fun c => { c with status := w }) ∧
     anyBit w [5, 4, 3, 13] = true ∧ (s1.ppc n).gate = false) :=
  ⟨⟨({ State.reset with pair.st := .standby, sys.role := 1 : State }).modSeg false (fun x => { x with cur := none }), false, { conv := 1, code := 0x79, value := 0 },
   by decide +kernel, by decide +kernel, by decide +kernel, by decide +kernel⟩,
   ⟨({ State.reset with pair.st := .standby, sys.role := 1 : State }).modSeg false (fun x => { x with cur := none }), false, .pec,
   by decide +kernel, by decide +kernel, fun _ h => by cases h⟩,
   ⟨State.reset.modPpc 1 (fun x => { x with st := .on }), 1, 32, _, rfl, by decide +kernel, by decide +kernel⟩,
   ⟨State.reset, 1, 32, _, rfl, by decide +kernel, by decide +kernel⟩⟩

/-- What Obligations.ConvertersAndSegments asks of states and operands is met, clause by clause, part 5. -/
theorem witness_ConvertersAndSegments_5 :
    (∃ (s : State) (b : _) (t : _) (k : _), s.chipActive = true ∧ (s.seg b).cur = some (t, k)) ∧
    (∃ (s : State) (b : _) (n : Nat), s.chipActive = true ∧ nextPoll s b (s.seg b).polled = some n) :=
  ⟨⟨State.reset.modSeg false (fun x => { x with cur := some ({ conv := 1, code := 0x79, value := 0, prio := 3 }, 0) }), false, { conv := 1, code := 0x79, value := 0, prio := 3 }, 0,
   by decide +kernel, rfl⟩,
   ⟨State.reset.modConv 1 (fun x => { x with addr := 16 }), false, 1, by decide +kernel, by decide +kernel⟩⟩

/-- What Obligations.FeedsAndOvercurrent asks of states and operands is met, clause by clause, part 1. -/
theorem witness_FeedsAndOvercurrent_1 :
    (∃ (s : State) (b : _), (s.feed b).st = .absent) ∧
    (∃ (s : State) (b : _), (s.feed b).st ≠ .absent) ∧
    (∃ (s : State) (b : _), (s.feed b).st = .qualifying ∧ (s.feed b).present = false) ∧
    (∃ (s : State), s.sys.pstate ≠ .deadFeed) :=
  ⟨⟨State.reset.modFeed false (fun x => { x with st := .absent }), false, by decide +kernel⟩,
   ⟨{ State.reset with feedA.st := .on : State }, false, by decide +kernel⟩,
   ⟨State.reset.modFeed false (fun x => { x with st := .qualifying, present := false }), false, by decide +kernel,
   by decide +kernel⟩,
   ⟨State.reset, by decide +kernel⟩⟩

/-- What Obligations.FeedsAndOvercurrent asks of states and operands is met, clause by clause, part 2. -/
theorem witness_FeedsAndOvercurrent_2 :
    (∃ (s : State) (b : _), ((s.feed b).st = .qualifying ∨ (s.feed b).st = .on ∨ (s.feed b).st = .warning) ∧
     (s.feed b).present = true) ∧
    (∃ (s : State) (b : _), (s.feed b).st = .ovOff ∧ (s.feed b).present = true) ∧
    (∃ (s : State) (b : _), (s.feed b).st = .on) ∧
    (∃ (s : State) (b : _), (s.feed b).st = .warning) :=
  ⟨⟨State.reset.modFeed false (fun x => { x with st := .qualifying, present := true }), false, by decide +kernel,
   by decide +kernel⟩,
   ⟨State.reset.modFeed false (fun x => { x with st := .ovOff, present := true }), false, by decide +kernel,
   by decide +kernel⟩,
   ⟨State.reset.modFeed false (fun x => { x with st := .on }), false, by decide +kernel⟩,
   ⟨State.reset.modFeed false (fun x => { x with st := .warning }), false, by decide +kernel⟩⟩

/-- What Obligations.FeedsAndOvercurrent asks of states and operands is met, clause by clause, part 3. -/
theorem witness_FeedsAndOvercurrent_3 :
    (∃ (s : State) (b : _), (s.feed b).st ≠ .ovOff) ∧
    (∃ (s : State) (b : _), ((s.feed b).st = .on ∨ (s.feed b).st = .warning) ∧ (s.feed b).gate = true) ∧
    (∃ (s : State) (b : _), ((s.feed b).st = .on ∨ (s.feed b).st = .warning) ∧ (s.feed b).gate = false) ∧
    (∃ (s : State) (b : _), ((s.feed b).st = .on ∨ (s.feed b).st = .warning) ∧
     ((s.feed b).overCur = false ∨ (s.feed b).ocNext = 0)) :=
  ⟨⟨State.reset, false, by decide +kernel⟩,
   ⟨State.reset.modFeed false (fun x => { x with st := .on, gate := true }), false, by decide +kernel, by decide +kernel⟩,
   ⟨State.reset.modFeed false (fun x => { x with st := .on }), false, by decide +kernel, by decide +kernel⟩,
   ⟨State.reset.modFeed false (fun x => { x with st := .on, overCur := false }), false, by decide +kernel,
   by decide +kernel⟩⟩

/-- What Obligations.FeedsAndOvercurrent asks of states and operands is met, clause by clause, part 4. -/
theorem witness_FeedsAndOvercurrent_4 :
    (∃ (s : State) (b : _), (s.feed b).overCur = true ∧ (s.feed b).ocNext ≠ 0 ∧
     pAvg (s.feed b).meter * 100 < ((s.feed b).set.pmax * 95000 : Nat)) ∧
    (∃ (s : State) (b : _), (s.feed b).overCur = true ∧ (s.feed b).ocNext ≠ 0 ∧
     ((s.feed b).set.pmax * 95000 : Nat) ≤ pAvg (s.feed b).meter * 100) ∧
    (∃ (s : State) (b : _), (s.feed b).overCur = false) ∧
    (∃ (s : State) (b : _) (s1 : State), (s.feed b).overCur = true ∧
     s1 = feedEvent (s.modFeed b (fun f => { f with overCur := false, ocNext := 0 })) b 3 2 ∧
     (s1.pba.ew = true ∨ anyOverCur s1 = true)) :=
  ⟨⟨State.reset.modFeed false (fun x => { x with overCur := true, ocNext := 1, set.pmax := 1 }), false, by decide +kernel,
   by decide +kernel, by decide +kernel⟩,
   ⟨State.reset.modFeed false (fun x => { x with overCur := true, ocNext := 1 }), false, by decide +kernel,
   by decide +kernel, by decide +kernel⟩,
   ⟨State.reset.modFeed false (fun x => { x with overCur := false }), false, by decide +kernel⟩,
   ⟨({ State.reset with pba.ew := true : State }).modFeed false (fun x => { x with overCur := true }), false, _,
   by decide +kernel, rfl, by decide +kernel⟩⟩

/-- What Obligations.FeedsAndOvercurrent asks of states and operands is met, clause by clause, part 5. -/
theorem witness_FeedsAndOvercurrent_5 :
    ∃ (s : State) (b : _) (s1 : State), (s.feed b).overCur = true ∧
     s1 = feedEvent (s.modFeed b (fun f => { f with overCur := false, ocNext := 0 })) b 3 2 ∧ s1.pba.ew = false ∧
     anyOverCur s1 = false :=
  ⟨({ State.reset with pba.ew := false : State }).modFeed false (fun x => { x with overCur := true }), false, _,
   by decide +kernel, rfl, by decide +kernel, by decide +kernel⟩

/-- What Obligations.BudgetSteps asks of states and operands is met, clause by clause, part 1. -/
theorem witness_BudgetSteps_1 :
    (∃ (s : State), s.chipActive = false) ∧
    (∃ (s : State), sinkFedNow s = s.pba.sinkFed) ∧
    (∃ (s : State) (why : _) (c : _), s.pba.restores.find? (·.1 == why) = some (why, c)) ∧
    (∃ (s : State) (why : _), s.pba.restores.find? (·.1 == why) = none) :=
  ⟨⟨{ State.reset with pair.st := .standby, sys.role := 1 : State }, by decide +kernel⟩,
   ⟨State.reset, by decide +kernel⟩,
   ⟨{ State.reset with pba.restores := [(.ew, 2)] : State }, .ew, 2, by decide +kernel⟩,
   ⟨State.reset, .overcurrent, by decide +kernel⟩⟩

/-- What Obligations.BudgetSteps asks of states and operands is met, clause by clause, part 2. -/
theorem witness_BudgetSteps_2 :
    (∃ (s : State), committedW s ≤ tenths s.pba.budget) ∧
    (∃ (s : State) (p : Nat), tenths s.pba.budget < committedW s ∧
     (classOrder s).find? (fun n => decide (tenths (s.pb n).alloc < contractPower s n)) = some p) ∧
    (∃ (s : State) (n : Nat), s.chipActive = true ∧ tenths (s.pb n).alloc < contractPower s n) ∧
    (∃ (s : State) (n : Nat), contractPower s n ≤ tenths (s.pb n).alloc) :=
  ⟨⟨State.reset, by decide +kernel⟩,
   ⟨State.reset.modPde 1 (fun x => { x with contract := some { mv := 5000, ma := 3000 } }), 1, by decide +kernel,
   by decide +kernel⟩,
   ⟨State.reset.modPde 1 (fun x => { x with contract := some { ma := 3000 } }), 1, by decide +kernel, by decide +kernel⟩,
   ⟨State.reset, 1, by decide +kernel⟩⟩

/-- What Obligations.BudgetSteps asks of states and operands is met, clause by clause, part 3. -/
theorem witness_BudgetSteps_3 :
    (∃ (s : State) (n : Nat), (s.pb n).shed = true) ∧
    (∃ (s : State) (n : Nat), (s.pb n).shed = false) :=
  ⟨⟨State.reset.modPb 1 (fun x => { x with shed := true }), 1, by decide +kernel⟩,
   ⟨State.reset.modPb 1 (fun x => { x with shed := false }), 1, by decide +kernel⟩⟩

/-- What Obligations.PairLossAndClaims asks of states and operands is met, clause by clause, part 1. -/
theorem witness_PairLossAndClaims_1 :
    (∃ (s : State), s.isPair = true ∧ s.sys.pstate = .active ∧ s.pair.lost = false) ∧
    (∃ (s : State), s.isPair = true ∧ s.sys.pstate = .hibernate) ∧
    (∃ (s : State), s.isPair = true ∧ s.sys.pstate = .active ∧ s.pair.lost = true) ∧
    (∃ (s : State), s.pair.st ≠ .deferring) :=
  ⟨⟨{ State.reset with sys.role := 1, sys.pstate := .active, pair.lost := false : State }, by decide +kernel,
   by decide +kernel, by decide +kernel⟩,
   ⟨{ State.reset with sys.role := 1, sys.pstate := .hibernate : State }, by decide +kernel, by decide +kernel⟩,
   ⟨{ State.reset with sys.role := 1, sys.pstate := .active, pair.lost := true : State }, by decide +kernel,
   by decide +kernel, by decide +kernel⟩,
   ⟨State.reset, by decide +kernel⟩⟩

/-- What Obligations.PairLossAndClaims asks of states and operands is met, clause by clause, part 2. -/
theorem witness_PairLossAndClaims_2 :
    (∃ (s : State), s.isPair = false) ∧
    (∃ (s : State), takesPart s = true ∧ (s.pair.detectOff = true ∨ s.pair.lost = true)) ∧
    (∃ (s : State) (s1 : State), s1 = dropPartnerLinks (raisePair { s with pair := { s.pair with hbOk := false, live := false, lost := true, partner := 15, rejoin := none, rejoinDone := false, synced := false } } 435 1 0 1) ∧
     (s1.pair.st = .standby ∨ s1.pair.st = .syncing)) ∧
    (∃ (s : State) (s1 : State), s1 = dropPartnerLinks (raisePair { s with pair := { s.pair with hbOk := false, live := false, lost := true, partner := 15, rejoin := none, rejoinDone := false, synced := false } } 435 1 0 1) ∧
     s1.pair.st = .active) :=
  ⟨⟨State.reset, by decide +kernel⟩,
   ⟨{ State.reset with pair.st := .standby, pair.lost := true, sys.role := 1 : State }, by decide +kernel,
   by decide +kernel⟩,
   ⟨{ State.reset with pair.st := .standby : State }, _, rfl, by decide +kernel⟩,
   ⟨{ State.reset with pair.st := .active : State }, _, rfl, by decide +kernel⟩⟩

/-- What Obligations.PairLossAndClaims asks of states and operands is met, clause by clause, part 3. -/
theorem witness_PairLossAndClaims_3 :
    (∃ (s : State), s.pair.tkoIn = true ∧ s.sys.role = 2) ∧
    (∃ (s : State), (s.pair.tkoIn = false ∨ s.sys.role ≠ 2)) ∧
    (∃ (s : State), takesPart s = true ∧ s.pair.detectOff = false ∧ s.pair.lost = false ∧ s.pair.ladle = true) ∧
    (∃ (s : State) (st : _), s.isPair = true ∧ s.pair.ladle = true ∧ st % 16 ≠ 9) :=
  ⟨⟨{ State.reset with pair.tkoIn := true, sys.role := 2 : State }, by decide +kernel, by decide +kernel⟩,
   ⟨{ State.reset with pair.tkoIn := false : State }, by decide +kernel⟩,
   ⟨{ State.reset with sys.role := 1, pair.st := .standby, pair.ladle := true : State }, by decide +kernel,
   by decide +kernel, by decide +kernel, by decide +kernel⟩,
   ⟨{ State.reset with sys.role := 1, pair.ladle := true : State }, 0, by decide +kernel, by decide +kernel,
   by decide +kernel⟩⟩

/-- What Obligations.PairLossAndClaims asks of states and operands is met, clause by clause, part 4. -/
theorem witness_PairLossAndClaims_4 :
    (∃ (s : State), s.pair.partnerCl = s.sys.cl ∧ s.pair.cause ≠ 5) ∧
    (∃ (s : State), s.pair.st = .claiming ∧ s.pair.tkoIn = true) ∧
    (∃ (s : State), s.pair.st = .deferring ∧ s.pair.tkoIn = false) ∧
    (∃ (s : State), s.pair.st = .deferring ∧ s.pair.tkoIn = true) :=
  ⟨⟨{ State.reset with pair.partnerCl := 1 : State }, by decide +kernel, by decide +kernel⟩,
   ⟨{ State.reset with pair.st := .claiming, pair.tkoIn := true : State }, by decide +kernel, by decide +kernel⟩,
   ⟨{ State.reset with pair.st := .deferring, pair.tkoIn := false : State }, by decide +kernel, by decide +kernel⟩,
   ⟨{ State.reset with pair.st := .deferring, pair.tkoIn := true : State }, by decide +kernel, by decide +kernel⟩⟩

/-- What Obligations.PairLossAndClaims asks of states and operands is met, clause by clause, part 5. -/
theorem witness_PairLossAndClaims_5 :
    (∃ (s : State), s.pair.st = .claiming ∧ s.pair.tkoIn = false ∧ s.pair.byHand = none) ∧
    (∃ (s : State), s.pair.st = .partnerReset ∧ s.pair.tkoIn = false) ∧
    (∃ (s : State), s.pair.st = .partnerReset ∧ s.pair.tkoIn = true ∧ s.pair.resets < 3) ∧
    (∃ (s : State), s.pair.st = .partnerReset ∧ s.pair.tkoIn = true ∧ 3 ≤ s.pair.resets) :=
  ⟨⟨{ State.reset with pair.st := .claiming, pair.tkoIn := false, pair.byHand := none : State }, by decide +kernel,
   by decide +kernel, by decide +kernel⟩,
   ⟨{ State.reset with pair.st := .partnerReset, pair.tkoIn := false : State }, by decide +kernel, by decide +kernel⟩,
   ⟨{ State.reset with pair.st := .partnerReset, pair.tkoIn := true : State }, by decide +kernel, by decide +kernel,
   by decide +kernel⟩,
   ⟨{ State.reset with pair.st := .partnerReset, pair.tkoIn := true, pair.resets := 3 : State }, by decide +kernel,
   by decide +kernel, by decide +kernel⟩⟩

/-- What Obligations.PairLossAndClaims asks of states and operands is met, clause by clause, part 6. -/
theorem witness_PairLossAndClaims_6 :
    (∃ (s : State), s.pair.st = .active ∧ s.pair.psx = false ∧ s.pair.byHand = none ∧ s.pair.resets = 0) ∧
    (∃ (s : State) (h : _), s.pair.st = .active ∧ s.pair.psx = false ∧ s.pair.byHand = some h ∧ h ≠ 4) ∧
    (∃ (s : State), s.pair.st ≠ .active) ∧
    (∃ (s : State) (failed : Bool), s.isPair = true ∧ s.pair.st = .boot ∧ failed ≠ 0) :=
  ⟨⟨{ State.reset with pair.st := .active, pair.psx := false, pair.byHand := none, pair.resets := 0 : State },
   by decide +kernel, by decide +kernel, by decide +kernel, by decide +kernel⟩,
   ⟨{ State.reset with pair.st := .active, pair.psx := false, pair.byHand := some 1 : State }, 1, by decide +kernel,
   by decide +kernel, rfl, by decide +kernel⟩,
   ⟨State.reset, by decide +kernel⟩,
   ⟨{ State.reset with sys.role := 1, pair.st := .boot : State }, 1, by decide +kernel, by decide +kernel,
   by decide +kernel⟩⟩

/-- What Obligations.PairLossAndClaims asks of states and operands is met, clause by clause, part 7. -/
theorem witness_PairLossAndClaims_7 :
    (∃ (s : State), s.pair.st = .waitPrimary ∧ s.pair.tkoIn = false) ∧
    (∃ (s : State), (s.pair.st ≠ .waitPrimary ∨ s.pair.tkoIn = true)) ∧
    (∃ (s : State), s.pair.st = .claiming ∧ s.sys.role = 2) ∧
    (∃ (s : State), s.pair.st = .standby ∧ s.pair.byHand.isSome = true) :=
  ⟨⟨{ State.reset with pair.st := .waitPrimary, pair.tkoIn := false : State }, by decide +kernel, by decide +kernel⟩,
   ⟨State.reset, by decide +kernel⟩,
   ⟨{ State.reset with pair.st := .claiming, sys.role := 2 : State }, by decide +kernel, by decide +kernel⟩,
   ⟨{ State.reset with pair.st := .standby, pair.byHand := some 1 : State }, by decide +kernel, by decide +kernel⟩⟩

/-- What Obligations.PairLossAndClaims asks of states and operands is met, clause by clause, part 8. -/
theorem witness_PairLossAndClaims_8 :
    (∃ (s : State), s.isPair = true ∧ s.pair.detectOff = true ∧ s.pair.hbOk = true) ∧
    (∃ (s : State), s.isPair = true ∧ s.pair.detectOff = true ∧ s.pair.hbOk = false) :=
  ⟨⟨{ State.reset with sys.role := 1, pair.detectOff := true, pair.hbOk := true : State }, by decide +kernel,
   by decide +kernel, by decide +kernel⟩,
   ⟨{ State.reset with sys.role := 1, pair.detectOff := true, pair.hbOk := false : State }, by decide +kernel,
   by decide +kernel, by decide +kernel⟩⟩

/-- What Obligations.PairLadleAndHandover asks of states and operands is met, clause by clause, part 1. -/
theorem witness_PairLadleAndHandover_1 :
    (∃ (s : State) (s1 : State), s.isPair = true ∧ s.pair.ladle = false ∧
     s1 = raise { s with pair := { s.pair with ladle := true, syncReq := true, synced := false, told := [], toldMirror := [] } } 383 1 0 ∧
     s1.pair.st = .active) ∧
    (∃ (s : State) (s1 : State), s.isPair = true ∧ s.pair.ladle = false ∧
     s1 = raise { s with pair := { s.pair with ladle := true, syncReq := true, synced := false, told := [], toldMirror := [] } } 383 1 0 ∧
     s1.pair.st ≠ .active ∧ s1.chipActive = true) ∧
    (∃ (s : State) (s1 : State), s.isPair = true ∧ s.pair.ladle = false ∧
     s1 = raise { s with pair := { s.pair with ladle := true, syncReq := true, synced := false, told := [], toldMirror := [] } } 383 1 0 ∧
     s1.pair.st ≠ .active ∧ s1.chipActive = false) ∧
    (∃ (s : State), s.pair.ladle = true ∧ s.chipActive = false) :=
  ⟨⟨{ State.reset with sys.role := 1, pair.ladle := false, pair.st := .active : State }, _, by decide +kernel,
   by decide +kernel, rfl, by decide +kernel⟩,
   ⟨{ State.reset with sys.role := 1, pair.ladle := false, pair.st := .handingOver : State }, _, by decide +kernel,
   by decide +kernel, rfl, by decide +kernel, by decide +kernel⟩,
   ⟨{ State.reset with sys.role := 1, pair.ladle := false, pair.st := .standby : State }, _, by decide +kernel,
   by decide +kernel, rfl, by decide +kernel, by decide +kernel⟩,
   ⟨{ State.reset with pair.ladle := true, pair.st := .standby, sys.role := 1 : State }, by decide +kernel,
   by decide +kernel⟩⟩

/-- What Obligations.PairLadleAndHandover asks of states and operands is met, clause by clause, part 2. -/
theorem witness_PairLadleAndHandover_2 :
    (∃ (s : State), s.isPair = true ∧ s.pair.ladle = true ∧ s.pair.cause ≠ 3 ∧ s.pair.st ≠ .standby) ∧
    (∃ (s : State), s.isPair = true ∧ s.pair.ladle = true ∧ s.pair.cause ≠ 3 ∧ s.pair.st = .standby) ∧
    (∃ (s : State), s.isPair = true ∧ s.pair.ladle = true ∧ s.pair.cause = 3 ∧ takesPart s = true ∧ s.pair.lost = false ∧
     s.pair.detectOff = false ∧ s.pair.st = .active) ∧
    (∃ (s : State), s.isPair = true ∧ s.pair.ladle = true ∧ s.pair.partnerCl = s.sys.cl ∧ s.degraded = false ∧
     s.pair.st = .syncing ∧ s.pair.cause = 0) :=
  ⟨⟨{ State.reset with sys.role := 1, pair.ladle := true : State }, by decide +kernel, by decide +kernel,
   by decide +kernel, by decide +kernel⟩,
   ⟨{ State.reset with sys.role := 1, pair.ladle := true, pair.st := .standby : State }, by decide +kernel,
   by decide +kernel, by decide +kernel, by decide +kernel⟩,
   ⟨{ State.reset with sys.role := 1, pair.ladle := true, pair.cause := 3, pair.lost := false, pair.detectOff := false, pair.st := .active : State },
   by decide +kernel, by decide +kernel, by decide +kernel, by decide +kernel, by decide +kernel, by decide +kernel,
   by decide +kernel⟩,
   ⟨{ State.reset with sys.role := 1, pair.ladle := true, pair.partnerCl := 1, pair.st := .syncing, plan.regions := [{ kind := 6, pages := 1 }] : State },
   by decide +kernel, by decide +kernel, by decide +kernel, by decide +kernel, by decide +kernel, by decide +kernel⟩⟩

/-- What Obligations.PairLadleAndHandover asks of states and operands is met, clause by clause, part 3. -/
theorem witness_PairLadleAndHandover_3 :
    (∃ (s : State), s.isPair = true ∧ s.pair.partnerCl ≠ s.sys.cl) ∧
    (∃ (s : State), s.isPair = true ∧ s.chipActive = true ∧ s.pair.ladle = true) ∧
    (∃ (s : State), (s.chipActive = false ∨ s.pair.ladle = false)) ∧
    (∃ (s : State), s.isPair = true ∧ s.chipActive = false) :=
  ⟨⟨{ State.reset with sys.role := 1 : State }, by decide +kernel, by decide +kernel⟩,
   ⟨{ State.reset with sys.role := 1, pair.ladle := true, pair.st := .active : State }, by decide +kernel,
   by decide +kernel, by decide +kernel⟩,
   ⟨{ State.reset with pair.st := .standby, sys.role := 1 : State }, by decide +kernel⟩,
   ⟨{ State.reset with sys.role := 1, pair.st := .standby : State }, by decide +kernel, by decide +kernel⟩⟩

/-- What Obligations.PairLadleAndHandover asks of states and operands is met, clause by clause, part 4. -/
theorem witness_PairLadleAndHandover_4 :
    (∃ (s : State), s.isPair = false) ∧
    (∃ (s : State) (h : _), s.pair.hand = some h ∧ s.pair.st = .active ∧
     (s.cmd.waits.any (fun w => !h.waits.contains w.num) = true ∨ quietPoint s = false)) ∧
    (∃ (s : State) (h : _), s.pair.hand = some h ∧ s.pair.st = .active ∧
     s.cmd.waits.any (fun w => !h.waits.contains w.num) = false ∧ quietPoint s = true ∧ partnerReady s = false) ∧
    (∃ (s : State) (h : _), s.pair.hand = some h ∧ s.pair.st = .active ∧
     s.cmd.waits.any (fun w => !h.waits.contains w.num) = false ∧ quietPoint s = true ∧ partnerReady s = true) :=
  ⟨⟨State.reset, by decide +kernel⟩,
   ⟨{ State.reset with pair.st := .active, pair.hand := some {}, pair.staged := [.tunnel (.phys 1) 0 0] : State }, {}, rfl,
   by decide +kernel, by decide +kernel⟩,
   ⟨{ State.reset with pair.hand := some {}, pair.st := .active : State }, {}, rfl, by decide +kernel, by decide +kernel,
   by decide +kernel, by decide +kernel⟩,
   ⟨{ State.reset with pair.hand := some {}, pair.st := .active, pair.partner := 3, plan.regions := [{ kind := 6, pages := 1 }] : State }, {},
   rfl, by decide +kernel, by decide +kernel, by decide +kernel, by decide +kernel⟩⟩

/-- What Obligations.PairLadleAndHandover asks of states and operands is met, clause by clause, part 5. -/
theorem witness_PairLadleAndHandover_5 :
    (∃ (s : State) (h : _), s.pair.hand = some h ∧ s.pair.st = .active ∧ h.rejoin = false) ∧
    (∃ (s : State), s.pair.st = .handingOver) ∧
    (∃ (s : State), s.pair.st = .standby ∧ s.pair.tkoIn = true) ∧
    (∃ (s : State), s.pair.st = .standby ∧ s.pair.tkoIn = false) :=
  ⟨⟨{ State.reset with pair.hand := some {}, pair.st := .active : State }, {}, rfl, by decide +kernel, by decide +kernel⟩,
   ⟨{ State.reset with pair.st := .handingOver : State }, by decide +kernel⟩,
   ⟨{ State.reset with pair.st := .standby, pair.tkoIn := true : State }, by decide +kernel, by decide +kernel⟩,
   ⟨{ State.reset with pair.st := .standby, pair.tkoIn := false : State }, by decide +kernel, by decide +kernel⟩⟩

/-- What Obligations.PairLadleAndHandover asks of states and operands is met, clause by clause, part 6. -/
theorem witness_PairLadleAndHandover_6 :
    (∃ (s : State), s.pair.gates = true ∧ s.pair.hand = none) ∧
    (∃ (s : State), s.pair.gates = false) ∧
    (∃ (s : State), (s.pair.rejoin = none ∨ s.frozen = true)) ∧
    (∃ (s : State) (e : _), s.pair.rejoin = some e ∧ s.frozen = false) :=
  ⟨⟨{ State.reset with pair.gates := true, pair.hand := none : State }, by decide +kernel, by decide +kernel⟩,
   ⟨{ State.reset with pair.gates := false : State }, by decide +kernel⟩,
   ⟨{ State.reset with pair.rejoin := none : State }, by decide +kernel⟩,
   ⟨{ State.reset with pair.rejoin := some 1 : State }, 1, rfl, by decide +kernel⟩⟩

/-- What Obligations.PairLadleAndHandover asks of states and operands is met, clause by clause, part 7. -/
theorem witness_PairLadleAndHandover_7 :
    (∃ (s : State), s.pair.retry = true) ∧
    (∃ (s : State), s.pair.retry = false) :=
  ⟨⟨{ State.reset with pair.retry := true : State }, by decide +kernel⟩,
   ⟨{ State.reset with pair.retry := false : State }, by decide +kernel⟩⟩

/-- What Obligations.FabricLinks asks of states and operands is met, clause by clause, part 1. -/
theorem witness_FabricLinks_1 :
    (∃ (body : List Byte), body.length = 8) ∧
    (∃ (code : _) (arg : List Byte), code < 256 ∧ arg.length = 5) ∧
    (∃ (line : _), (line % 4 = 0 ∨ line % 4 = 3)) ∧
    (∃ (s : State) (l : _) (heads : _) (ts : _), headsLock heads = true ∧ 8 ≤ ts ∧ (s.link l).st = .acquire) :=
  ⟨⟨zeros 8, by decide +kernel⟩,
   ⟨255, zeros 5, by decide +kernel, by decide +kernel⟩,
   ⟨3, by decide +kernel⟩,
   ⟨State.reset.modLink 0 (fun x => { x with st := .acquire }), 0, List.replicate 64 1, 8, by decide +kernel,
   by decide +kernel, by decide +kernel⟩⟩

/-- What Obligations.FabricLinks asks of states and operands is met, clause by clause, part 2. -/
theorem witness_FabricLinks_2 :
    (∃ (s : State) (l : _) (heads : _) (ts : _), headsLock heads = true ∧ 8 ≤ ts ∧ (s.link l).st = .retrain) ∧
    (∃ (s : State) (l : _) (heads : _) (ts : _), headsLock heads = true ∧ 8 ≤ ts ∧ (s.link l).st = .up) ∧
    (∃ (heads : _) (ts : _), (headsLock heads = false ∨ ts < 8)) ∧
    (∃ (s : State) (l : _) (t : _), (s.link l).st = .train ∧ tsAgrees s l t = true ∧ t.ladle = false) :=
  ⟨⟨State.reset.modLink 0 (fun x => { x with st := .retrain }), 0, List.replicate 64 2, 8, by decide +kernel,
   by decide +kernel, by decide +kernel⟩,
   ⟨State.reset.modLink 0 (fun x => { x with st := .up }), 0, List.replicate 64 1, 8, by decide +kernel, by decide +kernel,
   by decide +kernel⟩,
   ⟨[], 0, by decide +kernel⟩,
   ⟨State.reset.modLink 0 (fun x => { x with st := .train }), 0, { link := 0, ladle := false, role := 0, cl := 1, node := 2 },
   by decide +kernel, by decide +kernel, by decide +kernel⟩⟩

/-- What Obligations.FabricLinks asks of states and operands is met, clause by clause, part 3. -/
theorem witness_FabricLinks_3 :
    (∃ (s : State) (l : _) (t : _), (s.link l).st = .train ∧ tsAgrees s l t = true ∧ t.ladle = true) ∧
    (∃ (s : State) (l : _) (t : _), (s.link l).st = .train ∧ tsAgrees s l t = false ∧ (s.link l).modeTold = true) ∧
    (∃ (s : State) (l : _) (t : _), (s.link l).st = .train ∧ tsAgrees s l t = false ∧ (s.link l).modeTold = false) ∧
    (∃ (s : State) (l : _), (s.link l).st = .check) :=
  ⟨⟨({ State.reset with sys.role := 1 : State }).modLink 0 (fun x => { x with st := .train }), 0, { link := 0, ladle := true, role := 2, cl := 1, node := 0 },
   by decide +kernel, by decide +kernel, by decide +kernel⟩,
   ⟨State.reset.modLink 0 (fun x => { x with st := .train, modeTold := true }), 0, { link := 0, ladle := true, role := 0, cl := 1, node := 2 },
   by decide +kernel, by decide +kernel, by decide +kernel⟩,
   ⟨State.reset.modLink 0 (fun x => { x with st := .train }), 0, { link := 0, ladle := true, role := 2, cl := 1, node := 0 },
   by decide +kernel, by decide +kernel, by decide +kernel⟩,
   ⟨State.reset.modLink 0 (fun x => { x with st := .check }), 0, by decide +kernel⟩⟩

/-- What Obligations.FabricLinks asks of states and operands is met, clause by clause, part 4. -/
theorem witness_FabricLinks_4 :
    (∃ (s : State) (l : _), ((s.link l).st = .check ∨ (s.link l).st = .train)) ∧
    (∃ (hs : _), headsLost hs = false) ∧
    (∃ (s : State) (l : _), (s.link l).st ≠ .retrain) ∧
    (∃ (s : State) (l : _), (s.link l).st = .up ∧ (s.link l).ladle = false ∧ (s.link l).freed.all (· == 0) = true) :=
  ⟨⟨State.reset.modLink 0 (fun x => { x with st := .check }), 0, by decide +kernel⟩,
   ⟨List.replicate 64 1, by decide +kernel⟩,
   ⟨State.reset, 0, by decide +kernel⟩,
   ⟨State.reset.modLink 0 (fun x => { x with st := .up, ladle := false }), 0, by decide +kernel, by decide +kernel,
   by decide +kernel⟩⟩

/-- What Obligations.FabricLinks asks of states and operands is met, clause by clause, part 5. -/
theorem witness_FabricLinks_5 :
    (∃ (s : State) (l : _), (s.link l).st = .up ∧ (s.link l).ladle = true ∧ (s.link l).freed.all (· == 0) = true) ∧
    (∃ (s : State) (l : _) (q : _), (s.link l).st = .up ∧ (s.link l).naked = false ∧
     (BitVec.ofNat 8 q = (s.link l).rxSeq + 1)) ∧
    (∃ (s : State) (l : _) (q : _), (s.link l).st = .up ∧ (s.link l).naked = false ∧ BitVec.ofNat 8 q ≠ (s.link l).rxSeq + 1) ∧
    (∃ (s : State) (l : _), (s.link l).st = .up ∧ (s.link l).naked = true) :=
  ⟨⟨State.reset.modLink 0 (fun x => { x with st := .up, ladle := true }), 0, by decide +kernel, by decide +kernel,
   by decide +kernel⟩,
   ⟨State.reset.modLink 0 (fun x => { x with st := .up, naked := false }), 0, 0, by decide +kernel, by decide +kernel,
   by decide +kernel⟩,
   ⟨State.reset.modLink 0 (fun x => { x with st := .up, naked := false }), 0, 5, by decide +kernel, by decide +kernel,
   by decide +kernel⟩,
   ⟨State.reset.modLink 0 (fun x => { x with st := .up, naked := true }), 0, by decide +kernel, by decide +kernel⟩⟩

/-- What Obligations.FabricLinks asks of states and operands is met, clause by clause, part 6. -/
theorem witness_FabricLinks_6 :
    (∃ (s : State) (l : _) (vc : _) (n : Nat) (s1 : State), s1 = pump (s.modLink l (fun k => { k with vcs := modAt k.vcs vc (fun v => { v with granted := n % 65536 }) })) l ∧
     (s1.link l).stalled = false) ∧
    (∃ (s : State) (l : _) (vc : _) (n : Nat) (s1 : State), s1 = pump (s.modLink l (fun k => { k with vcs := modAt k.vcs vc (fun v => { v with granted := n % 65536 }) })) l ∧
     (s1.link l).stalled = true ∧ ((s1.link l).vcs.getD vc {}).waitFrom = none) ∧
    (∃ (s : State) (l : _), (s.link l).st = .up ∧ (s.link l).replay ≠ []) ∧
    (∃ (s : State) (l : _), (s.link l).st ≠ .up) :=
  ⟨⟨State.reset.modLink 0 (fun x => { x with stalled := false }), 0, 0, 1, _, rfl, by decide +kernel⟩,
   ⟨State.reset.modLink 0 (fun x => { x with stalled := true }), 0, 0, 1, _, rfl, by decide +kernel, by decide +kernel⟩,
   ⟨State.reset.modLink 0 (fun x => { x with st := .up, replay := [(1, aFrame)] }), 0, by decide +kernel, by decide +kernel⟩,
   ⟨State.reset, 0, by decide +kernel⟩⟩

/-- What Obligations.FabricLinks asks of states and operands is met, clause by clause, part 7. -/
theorem witness_FabricLinks_7 :
    (∃ (s : State) (l : _) (vc : _) (f : _) (q : _) (t0 : _), (s.link l).ladle = false ∧
     ((s.link l).vcs.getD vc {}).waitFrom = some t0 ∧ (((s.link l).vcs.getD vc {}).q = (f, none) :: q)) ∧
    (∃ (s : State) (l : _), (s.link l).st = .up ∧ (s.link l).sleepReq = true) ∧
    (∃ (s : State) (l : _), (s.link l).st = .sleep ∧ (s.link l).waking = false ∧
     (s.link l).vcs.any (fun v => !v.q.isEmpty) = true) ∧
    (∃ (s : State) (l : _), (s.link l).st ≠ .sleep) :=
  ⟨⟨State.reset.modLink 0 (fun x => { x with vcs := [{ q := [(aFrame, none)], waitFrom := some 0 }] }), 0, 0, aFrame, [], 0,
   by decide +kernel, by decide +kernel, by decide +kernel⟩,
   ⟨State.reset.modLink 0 (fun x => { x with st := .up, sleepReq := true }), 0, by decide +kernel, by decide +kernel⟩,
   ⟨State.reset.modLink 0 (fun x => { x with st := .sleep, vcs := [{ q := [(aFrame, none)] }] }), 0, by decide +kernel,
   by decide +kernel, by decide +kernel⟩,
   ⟨State.reset, 0, by decide +kernel⟩⟩

/-- What Obligations.FabricLinks asks of states and operands is met, clause by clause, part 8. -/
theorem witness_FabricLinks_8 :
    ∃ (s : State) (l : _), (s.link l).st = .sleep ∧ bit s.fab.wakeEn l = true :=
  ⟨State.reset.modLink 0 (fun x => { x with st := .sleep }), 0, by decide +kernel, by decide +kernel⟩

/-- What Obligations.FabricRouting asks of states and operands is met, clause by clause, part 1. -/
theorem witness_FabricRouting_1 :
    (∃ (s : State) (l : _), s.fabUp l = false) ∧
    (∃ (s : State) (l : _) (h : Hello), s.fabUp l = true ∧ (s.link l).nbrUid = h.uid ∧ (s.link l).usable = false) ∧
    (∃ (s : State) (l : _) (h : Hello), s.fabUp l = true ∧ (s.link l).nbrUid = h.uid ∧ (s.link l).nbrLink = h.link % 4) ∧
    (∃ (s : State) (l : _) (h : Hello), s.fabUp l = true ∧ (s.link l).nbrUid = h.uid ∧ (s.link l).nbrLink ≠ h.link % 4 ∧
     (s.link l).usable = true) :=
  ⟨⟨State.reset, 0, by decide +kernel⟩,
   ⟨State.reset.modLink 0 (fun x => { x with st := .up, nbrUid := 5 }), 0, aHello 5 0, by decide +kernel,
   by decide +kernel, by decide +kernel⟩,
   ⟨State.reset.modLink 0 (fun x => { x with st := .up, nbrUid := 5, nbrLink := 3 }), 0, aHello 5 3, by decide +kernel,
   by decide +kernel, by decide +kernel⟩,
   ⟨State.reset.modLink 0 (fun x => { x with st := .up, nbrUid := 5, nbrLink := 3, usable := true }), 0, aHello 5 2,
   by decide +kernel, by decide +kernel, by decide +kernel, by decide +kernel⟩⟩

/-- What Obligations.FabricRouting asks of states and operands is met, clause by clause, part 2. -/
theorem witness_FabricRouting_2 :
    (∃ (s : State) (l : _) (h : Hello), s.fabUp l = true ∧ (s.link l).nbrUid = 0 ∧ h.uid ≠ 0 ∧ (s.link l).usable = false) ∧
    (∃ (s : State) (l : _) (h : Hello), s.fabUp l = true ∧ (s.link l).nbrUid ≠ 0 ∧ (s.link l).nbrUid ≠ h.uid ∧
     (s.link l).usable = true) ∧
    (∃ (s : State) (l : _) (a : Lsa) (h : _), s.fabUp l = true ∧ a.uid ≠ s.nodeUid ∧
     s.fab.lsas.find? (fun h => h.lsa.uid == a.uid) = some h ∧ h.lsa.seq < a.seq) ∧
    (∃ (s : State) (l : _) (a : Lsa) (h : _), s.fabUp l = true ∧ a.uid ≠ s.nodeUid ∧
     s.fab.lsas.find? (fun h => h.lsa.uid == a.uid) = some h ∧ a.seq ≤ h.lsa.seq) :=
  ⟨⟨State.reset.modLink 0 (fun x => { x with st := .up, nbrUid := 0, usable := false }), 0, aHello 5 0, by decide +kernel,
   by decide +kernel, by decide +kernel, by decide +kernel⟩,
   ⟨State.reset.modLink 0 (fun x => { x with st := .up, nbrUid := 5, usable := true }), 0, aHello 6 0, by decide +kernel,
   by decide +kernel, by decide +kernel, by decide +kernel⟩,
   ⟨({ State.reset with sys.role := 2, pair.primaryUid := some 7, fab.lsas := [heldLsa 5 1] : State }).modLink 0 (fun x => { x with st := .up }), 0, aLsa 5 2, heldLsa 5 1,
   by decide +kernel, by decide +kernel, rfl, by decide +kernel⟩,
   ⟨({ State.reset with sys.role := 2, pair.primaryUid := some 7, fab.lsas := [heldLsa 5 1] : State }).modLink 0 (fun x => { x with st := .up }), 0, aLsa 5 1, heldLsa 5 1,
   by decide +kernel, by decide +kernel, rfl, by decide +kernel⟩⟩

/-- What Obligations.FabricRouting asks of states and operands is met, clause by clause, part 3. -/
theorem witness_FabricRouting_3 :
    (∃ (s : State) (l : _) (a : Lsa), s.fabUp l = true ∧ a.uid ≠ s.nodeUid ∧
     s.fab.lsas.find? (fun h => h.lsa.uid == a.uid) = none ∧ s.fab.lsas.length < 240) ∧
    (∃ (s : State) (l : _) (a : Lsa), s.fabUp l = true ∧ a.uid ≠ s.nodeUid ∧
     s.fab.lsas.find? (fun h => h.lsa.uid == a.uid) = none ∧ 240 ≤ s.fab.lsas.length) ∧
    (∃ (s : State) (l : _) (a : Lsa), s.fabUp l = true ∧ a.uid = s.nodeUid ∧ a.seq ≤ s.fab.lsaSeq.toNat) ∧
    (∃ (s : State) (l : _) (a : Lsa) (s1 : State), s.fabUp l = true ∧ a.uid = s.nodeUid ∧
     s1 = { s with fab := { s.fab with lsaSeq := BitVec.ofNat 32 a.seq } } ∧ s.fab.lsaSeq.toNat < a.seq ∧
     s1.chipActive = true) :=
  ⟨⟨({ State.reset with sys.role := 2, pair.primaryUid := some 7 : State }).modLink 0 (fun x => { x with st := .up }), 0, aLsa 5 1,
   by decide +kernel, by decide +kernel, by decide +kernel, by decide +kernel⟩,
   ⟨({ State.reset with sys.role := 2, pair.primaryUid := some 7, fab.lsas := List.replicate 240 (heldLsa 6 1) : State }).modLink 0 (fun x => { x with st := .up }), 0, aLsa 5 1,
   by decide +kernel, by decide +kernel, by decide +kernel, by decide +kernel⟩,
   ⟨({ State.reset with sys.role := 2, pair.primaryUid := some 7 : State }).modLink 0 (fun x => { x with st := .up }), 0, aLsa 7 0,
   by decide +kernel, by decide +kernel, by decide +kernel⟩,
   ⟨({ State.reset with sys.role := 2, pair.st := .active, pair.primaryUid := some 7 : State }).modLink 0 (fun x => { x with st := .up }), 0, aLsa 7 1, _,
   by decide +kernel, by decide +kernel, rfl, by decide +kernel, by decide +kernel⟩⟩

/-- What Obligations.FabricRouting asks of states and operands is met, clause by clause, part 4. -/
theorem witness_FabricRouting_4 :
    (∃ (s : State) (l : _) (a : Lsa) (s1 : State), s.fabUp l = true ∧ a.uid = s.nodeUid ∧
     s1 = { s with fab := { s.fab with lsaSeq := BitVec.ofNat 32 a.seq } } ∧ s.fab.lsaSeq.toNat < a.seq ∧
     s1.chipActive = false) ∧
    (∃ (s : State) (s1 : State) (l : _), s1 = linkNumbers.foldl sendHello s ∧ (l = (linkNumbers.find? s1.fabUp).getD 0) ∧
     (s1.fab.lsaSeq = (reclaim s1 l).fab.lsaSeq)) ∧
    (∃ (s : State) (s1 : State) (l : _), s1 = linkNumbers.foldl sendHello s ∧ (l = (linkNumbers.find? s1.fabUp).getD 0) ∧
     s1.fab.lsaSeq ≠ (reclaim s1 l).fab.lsaSeq) ∧
    (∃ (s : State), ((∀ h ∈ s.fab.lsas, h.lsa.uid = s.nodeUid ∨ (s.ticks < h.at_ + 4 * s.fab.lsaRefresh * 10000000 ∧
     h.gone = none)))) :=
  ⟨⟨({ State.reset with sys.role := 2, pair.st := .standby, pair.primaryUid := some 7 : State }).modLink 0 (fun x => { x with st := .up }), 0, aLsa 7 1, _,
   by decide +kernel, by decide +kernel, rfl, by decide +kernel, by decide +kernel⟩,
   ⟨{ State.reset with sys.role := 1, pair.st := .standby : State }, _, _, rfl, rfl, by decide +kernel⟩,
   ⟨State.reset, _, _, rfl, rfl, by decide +kernel⟩,
   ⟨State.reset, by decide +kernel⟩⟩

/-- What Obligations.FabricRouting asks of states and operands is met, clause by clause, part 5. -/
theorem witness_FabricRouting_5 :
    (∃ (s : State) (h : _), s.fab.lsas = [h] ∧ h.lsa.uid ≠ s.nodeUid ∧ h.at_ + 4 * s.fab.lsaRefresh * 10000000 ≤ s.ticks) ∧
    (∃ (s : State) (l : _) (s1 : State), s.fabUp l = true ∧ (s.link l).fresh = true ∧
     s1 = s.modLink l (fun k => { k with usable := true, fresh := false }) ∧ s1.fab.lsaSeq ≠ (reclaim s1 l).fab.lsaSeq) ∧
    (∃ (s : State) (l : _) (s1 : State), s.fabUp l = true ∧ (s.link l).fresh = true ∧
     s1 = s.modLink l (fun k => { k with usable := true, fresh := false }) ∧ (s1.fab.lsaSeq = (reclaim s1 l).fab.lsaSeq)) ∧
    (∃ (s : State) (l : _), (s.link l).fresh = false) :=
  ⟨⟨{ State.reset with sys.role := 2, pair.primaryUid := some 7, fab.lsaRefresh := 0, fab.lsas := [heldLsa 5 1] : State }, heldLsa 5 1,
   by decide +kernel, by decide +kernel, by decide +kernel⟩,
   ⟨State.reset.modLink 0 (fun x => { x with st := .up, fresh := true }), 0, _, by decide +kernel, by decide +kernel, rfl,
   by decide +kernel⟩,
   ⟨({ State.reset with sys.role := 1, pair.st := .standby : State }).modLink 0 (fun x => { x with st := .up, fresh := true }), 0, _,
   by decide +kernel, by decide +kernel, rfl, by decide +kernel⟩,
   ⟨State.reset.modLink 0 (fun x => { x with fresh := false }), 0, by decide +kernel⟩⟩

/-- What Obligations.FabricRouting asks of states and operands is met, clause by clause, part 6. -/
theorem witness_FabricRouting_6 :
    (∃ (s : State), (s.fab.tentative = false ∨ s.chipActive = false)) ∧
    (∃ (s : State), s.fab.tentative = true ∧ s.chipActive = true) ∧
    (∃ (s : State) (t : State), t = tunnelRoutes (endForwarded (routeEvents s (routeTables s) (s.fab.changed.getD 0))) s.fab.table ∧
     t.chipActive = true) ∧
    (∃ (s : State) (t : State), t = tunnelRoutes (endForwarded (routeEvents s (routeTables s) (s.fab.changed.getD 0))) s.fab.table ∧
     t.chipActive = false) :=
  ⟨⟨{ State.reset with fab.tentative := false : State }, by decide +kernel⟩,
   ⟨{ State.reset with fab.tentative := true : State }, by decide +kernel, by decide +kernel⟩,
   ⟨{ State.reset with sys.role := 2, pair.primaryUid := some 5, pair.st := .active : State }, _, rfl, by decide +kernel⟩,
   ⟨{ State.reset with sys.role := 2, pair.st := .standby, pair.primaryUid := some 7 : State }, _, rfl, by decide +kernel⟩⟩

/-- What Obligations.FabricRouting asks of states and operands is met, clause by clause, part 7. -/
theorem witness_FabricRouting_7 :
    ∃ (s : State) (l : _), (s.link l).usable = true ∧ s.chipActive = true ∧ (s.link l).nbrReserve = false :=
  ⟨State.reset.modLink 0 (fun x => { x with usable := true }), 0, by decide +kernel, by decide +kernel, by decide +kernel⟩

/-- What Obligations.TimeExchangeAndPulse asks of states and operands is met, clause by clause, part 1. -/
theorem witness_TimeExchangeAndPulse_1 :
    (∃ (s : State), s.tu.hasParent = true ∧ (s.link s.tu.parent).st = .up) ∧
    (∃ (s : State), (s.tu.hasParent = false ∨ (s.link s.tu.parent).st ≠ .up)) ∧
    (∃ (s : State) (l : _), (s.link l).st ≠ .up) ∧
    (∃ (s : State) (l : _), (s.link l).st = .up) :=
  ⟨⟨({ State.reset with tu.hasParent := true : State }).modLink 0 (fun x => { x with st := .up }), by decide +kernel,
   by decide +kernel⟩,
   ⟨{ State.reset with tu.hasParent := false : State }, by decide +kernel⟩,
   ⟨State.reset, 0, by decide +kernel⟩,
   ⟨State.reset.modLink 0 (fun x => { x with st := .up }), 0, by decide +kernel⟩⟩

/-- What Obligations.TimeExchangeAndPulse asks of states and operands is met, clause by clause, part 2. -/
theorem witness_TimeExchangeAndPulse_2 :
    (∃ (s : State) (l : _), s.tu.hasParent = true ∧ s.tu.parent = l ∧ s.tu.ex.stage = 1) ∧
    (∃ (s : State) (l : _), s.tu.hasParent = true ∧ s.tu.parent = l ∧ s.tu.ex.stage = 2) ∧
    (∃ (s : State) (l : _), s.tu.hasParent = true ∧ s.tu.parent = l ∧ s.tu.ex.stage = 3) ∧
    (∃ (s : State) (l : _) (q : _), s.tu.hasParent = true ∧ s.tu.parent = l ∧ (s.tu.ex.seq ≠ q ∨ s.tu.ex.stage ≠ 1)) :=
  ⟨⟨{ State.reset with tu.hasParent := true, tu.parent := 0, tu.ex.stage := 1 : State }, 0, by decide +kernel,
   by decide +kernel, by decide +kernel⟩,
   ⟨{ State.reset with tu.hasParent := true, tu.parent := 0, tu.ex.stage := 2 : State }, 0, by decide +kernel,
   by decide +kernel, by decide +kernel⟩,
   ⟨{ State.reset with tu.hasParent := true, tu.parent := 0, tu.ex.stage := 3 : State }, 0, by decide +kernel,
   by decide +kernel, by decide +kernel⟩,
   ⟨{ State.reset with tu.hasParent := true, tu.parent := 0 : State }, 0, 0, by decide +kernel, by decide +kernel,
   by decide +kernel⟩⟩

/-- What Obligations.TimeExchangeAndPulse asks of states and operands is met, clause by clause, part 3. -/
theorem witness_TimeExchangeAndPulse_3 :
    (∃ (s : State) (l : _) (q : _), s.tu.hasParent = true ∧ s.tu.parent = l ∧ (s.tu.ex.seq ≠ q ∨ s.tu.ex.stage ≠ 2)) ∧
    (∃ (s : State) (l : _) (q : _), s.tu.hasParent = true ∧ s.tu.parent = l ∧ (s.tu.ex.seq ≠ q ∨ s.tu.ex.stage ≠ 3)) ∧
    (∃ (s : State) (l : _) (q : _), s.tu.hasParent = true ∧ s.tu.parent = l ∧ (s.tu.ex.seq ≠ q ∨ s.tu.ex.stage ≠ 4)) ∧
    (∃ (s : State) (l : _), (s.tu.hasParent = false ∨ s.tu.parent ≠ l)) :=
  ⟨⟨{ State.reset with tu.hasParent := true, tu.parent := 0 : State }, 0, 0, by decide +kernel, by decide +kernel,
   by decide +kernel⟩,
   ⟨{ State.reset with tu.hasParent := true, tu.parent := 0 : State }, 0, 0, by decide +kernel, by decide +kernel,
   by decide +kernel⟩,
   ⟨{ State.reset with tu.hasParent := true, tu.parent := 0 : State }, 0, 0, by decide +kernel, by decide +kernel,
   by decide +kernel⟩,
   ⟨{ State.reset with tu.hasParent := false : State }, 0, by decide +kernel⟩⟩

/-- What Obligations.TimeExchangeAndPulse asks of states and operands is met, clause by clause, part 4. -/
theorem witness_TimeExchangeAndPulse_4 :
    (∃ (s : State) (l : _) (fl : _), s.tu.hasParent = true ∧ s.tu.parent = l ∧ s.tu.ex.stage = 4 ∧ bit fl 2 = true) ∧
    (∃ (s : State) (l : _) (fl : _), s.tu.hasParent = true ∧ s.tu.parent = l ∧ s.tu.ex.stage = 4 ∧ bit fl 2 = false) ∧
    (∃ (x : Exchange) (t2 : Int) (t3 : Int), (t2, t3) = exchangeTimes x) ∧
    (∃ (x : Exchange), x.t2lo ≤ x.t3lo) :=
  ⟨⟨{ State.reset with tu.hasParent := true, tu.parent := 0, tu.ex.stage := 4 : State }, 0, 4, by decide +kernel,
   by decide +kernel, by decide +kernel, by decide +kernel⟩,
   ⟨{ State.reset with tu.hasParent := true, tu.parent := 0, tu.ex.stage := 4 : State }, 0, 0, by decide +kernel,
   by decide +kernel, by decide +kernel, by decide +kernel⟩,
   ⟨{}, 0, 0, by decide +kernel⟩,
   ⟨{ t2lo := 5, t3lo := 5 }, by decide +kernel⟩⟩

/-- What Obligations.TimeExchangeAndPulse asks of states and operands is met, clause by clause, part 5. -/
theorem witness_TimeExchangeAndPulse_5 :
    (∃ (x : Exchange), x.t3lo < x.t2lo) ∧
    (∃ (s : State) (th : Int), s.tu.sync = .locked ∧ th.natAbs ≤ 1000) ∧
    (∃ (s : State) (th : Int), s.tu.sync = .acquiring ∧ s.tu.stepEn = true ∧ 1000 < th.natAbs) ∧
    (∃ (s : State), s.tu.hasParent = true ∧ s.tu.sync = .locked) :=
  ⟨⟨{ t2lo := 6, t3lo := 5 }, by decide +kernel⟩,
   ⟨{ State.reset with tu.sync := .locked : State }, -1000, by decide +kernel, by decide +kernel⟩,
   ⟨{ State.reset with tu.sync := .acquiring, tu.stepEn := true : State }, 1001, by decide +kernel, by decide +kernel,
   by decide +kernel⟩,
   ⟨{ State.reset with tu.hasParent := true, tu.sync := .locked : State }, by decide +kernel, by decide +kernel⟩⟩

/-- What Obligations.TimeExchangeAndPulse asks of states and operands is met, clause by clause, part 6. -/
theorem witness_TimeExchangeAndPulse_6 :
    (∃ (s : State), (s.tu.hasParent = false ∨ s.tu.sync ≠ .locked)) ∧
    (∃ (s : State) (x : _), x ≠ s.tu.sync ∧ x ≠ .locked ∧ s.tu.sync ≠ .locked) ∧
    (∃ (s : State) (x : _), x ≠ s.tu.sync ∧ x ≠ .locked ∧ s.tu.sync = .locked) ∧
    (∃ (s : State), s.tu.sync = .holdover) :=
  ⟨⟨{ State.reset with tu.hasParent := false : State }, by decide +kernel⟩,
   ⟨State.reset, .acquiring, by decide +kernel, by decide +kernel, by decide +kernel⟩,
   ⟨{ State.reset with tu.sync := .locked : State }, .holdover, by decide +kernel, by decide +kernel, by decide +kernel⟩,
   ⟨{ State.reset with tu.sync := .holdover : State }, by decide +kernel⟩⟩

/-- What Obligations.TimeExchangeAndPulse asks of states and operands is met, clause by clause, part 7. -/
theorem witness_TimeExchangeAndPulse_7 :
    (∃ (s : State), s.tu.sync ≠ .holdover) ∧
    (∃ (s : State), edgeRejected s = true) ∧
    (∃ (s : State) (s1 : State) (s2 : State), edgeRejected s = false ∧ s.sys.power.tsyncWake = false ∧
     s1 = raise s 444 1 (uns 32 (wholeSecond (edgeTime s))) ∧
     s2 = { s1 with tu := { s1.tu with lastEdge := some (edgeTime s) } } ∧ s2.tu.epoch = none ∧ s2.tu.srcPps = false) ∧
    (∃ (s : State) (s1 : State) (s2 : State), edgeRejected s = false ∧ s.sys.power.tsyncWake = false ∧
     s1 = raise s 444 1 (uns 32 (wholeSecond (edgeTime s))) ∧
     s2 = { s1 with tu := { s1.tu with lastEdge := some (edgeTime s) } } ∧ s2.tu.epoch = none ∧ s2.tu.isRoot = true ∧
     s2.tu.srcPps = true) :=
  ⟨⟨State.reset, by decide +kernel⟩,
   ⟨{ State.reset with tu.lastEdge := some 5 : State }, by decide +kernel⟩,
   ⟨{ State.reset with sys.power.tsyncWake := false, tu.epoch := none, tu.srcPps := false : State }, _, _,
   by decide +kernel, by decide +kernel, rfl, rfl, by decide +kernel, by decide +kernel⟩,
   ⟨{ State.reset with sys.power.tsyncWake := false, tu.epoch := none, tu.isRoot := true, tu.srcPps := true : State }, _, _,
   by decide +kernel, by decide +kernel, rfl, rfl, by decide +kernel, by decide +kernel, by decide +kernel⟩⟩

/-- What Obligations.TimeExchangeAndPulse asks of states and operands is met, clause by clause, part 8. -/
theorem witness_TimeExchangeAndPulse_8 :
    (∃ (s : State) (s1 : State) (s2 : State) (v : Nat) (w : _), edgeRejected s = false ∧ s.sys.power.tsyncWake = false ∧
     s1 = raise s 444 1 (uns 32 (wholeSecond (edgeTime s))) ∧
     s2 = { s1 with tu := { s1.tu with lastEdge := some (edgeTime s) } } ∧ s2.tu.epoch = some (v, w)) ∧
    (∃ (s : State) (s1 : State) (s2 : State), edgeRejected s = false ∧ s.sys.power.tsyncWake = true ∧
     s1 = raise s 444 1 (uns 32 (wholeSecond (edgeTime s))) ∧
     s2 = { s1 with tu := { s1.tu with lastEdge := some (edgeTime s) } } ∧ s2.tu.epoch = none ∧ s2.tu.srcPps = false) ∧
    (∃ (s : State), s.tu.lastEdge = none) ∧
    (∃ (s : State) (t : _), s.tu.lastEdge = some t) :=
  ⟨⟨{ State.reset with sys.power.tsyncWake := false, tu.epoch := some (5, 0) : State }, _, _, 5, 0, by decide +kernel,
   by decide +kernel, rfl, rfl, rfl⟩,
   ⟨{ State.reset with sys.power.tsyncWake := true, tu.epoch := none, tu.srcPps := false : State }, _, _,
   by decide +kernel, by decide +kernel, rfl, rfl, by decide +kernel, by decide +kernel⟩,
   ⟨{ State.reset with tu.lastEdge := none : State }, by decide +kernel⟩,
   ⟨{ State.reset with tu.lastEdge := some 7 : State }, 7, rfl⟩⟩

/-- What Obligations.TimeExchangeAndPulse asks of states and operands is met, clause by clause, part 9. -/
theorem witness_TimeExchangeAndPulse_9 :
    (∃ (s : State) (s1 : State), s1 = raise { s with tu := { s.tu with ppsLocked := false, edges := 0 } } 444 2 0 ∧
     (s1.tu.isRoot = false ∨ s1.tu.srcPps = false)) ∧
    (∃ (s : State) (s1 : State), s1 = raise { s with tu := { s.tu with ppsLocked := false, edges := 0 } } 444 2 0 ∧
     s1.tu.isRoot = true ∧ s1.tu.srcPps = true ∧ s1.tu.ppsLocked = false ∧ s1.sys.clockFallback = false) ∧
    (∃ (s : State), s.tu.outEn = true ∧ s.tu.sync ≠ .freeRun) ∧
    (∃ (s : State), (s.tu.outEn = false ∨ s.tu.sync = .freeRun)) :=
  ⟨⟨{ State.reset with tu.isRoot := false : State }, _, rfl, by decide +kernel⟩,
   ⟨{ State.reset with tu.isRoot := true, tu.srcPps := true, tu.ppsLocked := false, sys.clockFallback := false : State }, _,
   rfl, by decide +kernel, by decide +kernel, by decide +kernel, by decide +kernel⟩,
   ⟨{ State.reset with tu.outEn := true, tu.sync := .locked : State }, by decide +kernel, by decide +kernel⟩,
   ⟨{ State.reset with tu.outEn := false : State }, by decide +kernel⟩⟩

/-- What Obligations.EventPath asks of states and operands is met, clause by clause, part 1. -/
theorem witness_EventPath_1 :
    (∃ (s : State) (src : _), (evSevMax src).isSome = true ∧ s.route src ≠ 0) ∧
    (∃ (s : State) (src : _), (s.route src = 0 ∨ evSevMax src = none)) ∧
    (∃ (s : State), s.aonOnly = false ∧ s.ev.capture.length < 64) ∧
    (∃ (s : State), s.aonOnly = false ∧ 64 ≤ s.ev.capture.length) :=
  ⟨⟨State.reset, 0, by decide +kernel, by decide +kernel⟩,
   ⟨{ State.reset with ev.routes := [(256, 0)] : State }, 256, by decide +kernel⟩,
   ⟨State.reset, by decide +kernel, by decide +kernel⟩,
   ⟨{ State.reset with ev.capture := List.replicate 64 aRec : State }, by decide +kernel, by decide +kernel⟩⟩

/-- What Obligations.EventPath asks of states and operands is met, clause by clause, part 2. -/
theorem witness_EventPath_2 :
    (∃ (q : Queue) (cap : _), q.recs.length < cap ∧ q.coal = []) ∧
    (∃ (s : State) (r : _) (rs : _), s.ev.capture = r :: rs ∧ (s.chipActive = true ∨ r.partner = true)) ∧
    (∃ (s : State) (r : _) (rs : _) (s1 : State), s.ev.capture = r :: rs ∧
     s1 = { s with ev := { s.ev with capture := rs } } ∧ s1.chipActive = false ∧ r.partner = false) ∧
    (∃ (s : State), s.ev.capture = []) :=
  ⟨⟨{}, 1, by decide +kernel, by decide +kernel⟩,
   ⟨{ State.reset with ev.capture := [aRec] : State }, aRec, [], rfl, by decide +kernel⟩,
   ⟨{ State.reset with ev.capture := [aRec], pair.st := .standby, sys.role := 1 : State }, aRec, [], _, rfl, rfl,
   by decide +kernel, by decide +kernel⟩,
   ⟨{ State.reset with ev.capture := [] : State }, by decide +kernel⟩⟩

/-- What Obligations.EventPath asks of states and operands is met, clause by clause, part 3. -/
theorem witness_EventPath_3 :
    (∃ (q : Queue) (cap : _) (c : _), q.recs.length < cap ∧ q.sent = 0 ∧ oldestCoal q.coal = some c) ∧
    (∃ (q : Queue) (cap : _), cap + q.sent ≤ q.recs.length) ∧
    (∃ (s : State) (u : Up), mgmtPipes s u = false) ∧
    (∃ (s : State) (u : Up), mgmtPipes s u = true ∧ (s.up u).evOffered = 0 ∧ (s.queue (upQueue u)).recs = []) :=
  ⟨⟨{ coal := [{ source := 1, capture := false, count := 1, first := 0, last := 0, lastCode := 1, severity := 4 }] }, 1, _,
   by decide +kernel, rfl, rfl⟩,
   ⟨{}, 0, by decide +kernel⟩,
   ⟨State.reset, .a, by decide +kernel⟩,
   ⟨(State.reset.modUp .a (fun x => { x with mgCfg := 1, link := .hs, evOffered := 0 })).modQueue ((upQueue .a)) (fun x => { x with recs := [] }),
   .a, by decide +kernel, by decide +kernel, by decide +kernel⟩⟩

/-- What Obligations.EventPath asks of states and operands is met, clause by clause, part 4. -/
theorem witness_EventPath_4 :
    (∃ (s : State) (u : Up), mgmtPipes s u = true ∧ (s.up u).evOffered = 0 ∧ (s.queue (upQueue u)).recs ≠ []) ∧
    (∃ (s : State) (u : Up) (n : Nat), mgmtPipes s u = true ∧ (s.up u).evOffered = n ∧ n ≠ 0) ∧
    (∃ (s : State) (u : Up), (s.up u).evOffered ≠ 0) ∧
    (∃ (s : State) (r : _) (rs : _), s.ev.fabDest ≠ 0 ∧ (s.ev.qfab.recs.drop s.ev.qfab.sent).takeWhile (·.quiet) = [] ∧
     ((s.ev.qfab.recs.drop s.ev.qfab.sent).takeWhile (fun r => !r.quiet)).take 32 = r :: rs) :=
  ⟨⟨({ State.reset with ev.qa.recs := [aRec] : State }).modUp .a (fun x => { x with mgCfg := 1, link := .hs }), .a,
   by decide +kernel, by decide +kernel, by decide +kernel⟩,
   ⟨State.reset.modUp .a (fun x => { x with mgCfg := 1, link := .hs, evOffered := 1 }), .a, 1, by decide +kernel, rfl,
   by decide +kernel⟩,
   ⟨State.reset.modUp .a (fun x => { x with evOffered := 1 }), .a, by decide +kernel⟩,
   ⟨{ State.reset with ev.fabDest := 1, ev.qfab.recs := [aRec] : State }, aRec, [], by decide +kernel, by decide +kernel,
   rfl⟩⟩

/-- What Obligations.EventPath asks of states and operands is met, clause by clause, part 5. -/
theorem witness_EventPath_5 :
    (∃ (s : State), (s.ev.fabDest = 0 ∨ s.ev.qfab.recs.drop s.ev.qfab.sent = [])) ∧
    (∃ (s : State), s.ev.collect = false) ∧
    (∃ (s : State) (src : _) (q : _), s.ev.collect = true ∧ (s.expected src = none ∨ s.expected src = some (q % 65536)) ∧
     q < 65536) ∧
    (∃ (s : State) (src : _) (q : _) (e : _) (gap : _), s.ev.collect = true ∧ s.expected src = some e ∧
     (gap = (q + 65536 - e) % 65536) ∧ 0 < gap ∧ gap < 32768) :=
  ⟨⟨{ State.reset with ev.fabDest := 0 : State }, by decide +kernel⟩,
   ⟨{ State.reset with ev.collect := false : State }, by decide +kernel⟩,
   ⟨{ State.reset with ev.collect := true : State }, 0, 0, by decide +kernel, by decide +kernel, by decide +kernel⟩,
   ⟨{ State.reset with ev.collect := true, ev.senders := [(2, 5)] : State }, 2, 6, 5, 1, by decide +kernel, rfl, rfl,
   by decide +kernel, by decide +kernel⟩⟩

/-- What Obligations.EventPath asks of states and operands is met, clause by clause, part 6. -/
theorem witness_EventPath_6 :
    (∃ (s : State), s.ev.lastOut = none) ∧
    (∃ (s : State) (r : _) (x : _), s.ev.lastOut = some x ∧ keyLe r x = true) :=
  ⟨⟨{ State.reset with ev.lastOut := none : State }, by decide +kernel⟩,
   ⟨{ State.reset with ev.lastOut := some aRec : State }, aRec, aRec, rfl, by decide +kernel⟩⟩

/-- What Obligations.CrockAndJournal asks of states and operands is met, clause by clause, part 1. -/
theorem witness_CrockAndJournal_1 :
    (∃ (s : State) (r : _) (rs : _) (res : LineRes) (s1 : State), s.ev.qj.recs = r :: rs ∧
     (s.crock.nvOk = true ∨ s.crock.fault = true) ∧ res ≠ .controllerFault ∧
     s1 = s.modQueue .journal (fun q => q.free 256 1) ∧ s1.crock.fault = false) ∧
    (∃ (s : State) (r : _) (rs : _) (res : LineRes) (s1 : State), s.ev.qj.recs = r :: rs ∧
     (s.crock.nvOk = true ∨ s.crock.fault = true) ∧ res ≠ .controllerFault ∧
     s1 = s.modQueue .journal (fun q => q.free 256 1) ∧ s1.crock.fault = true) ∧
    (∃ (s : State), (s.ev.qj.recs = [] ∨ (s.crock.nvOk = false ∧ s.crock.fault = false))) ∧
    (∃ (s : State) (r : EvRec), (r.severity < 4 ∨ 1024 ≤ s.crock.ffNext)) :=
  ⟨⟨{ State.reset with ev.qj.recs := [aRec], crock.nvOk := true : State }, aRec, [], .good, _, rfl, by decide +kernel,
   by decide +kernel, rfl, by decide +kernel⟩,
   ⟨{ State.reset with ev.qj.recs := [aRec], crock.fault := true : State }, aRec, [], .good, _, rfl, by decide +kernel,
   by decide +kernel, rfl, by decide +kernel⟩,
   ⟨{ State.reset with ev.qj.recs := [] : State }, by decide +kernel⟩,
   ⟨State.reset, { aRec with severity := 3 }, by decide +kernel⟩⟩

/-- What Obligations.CrockAndJournal asks of states and operands is met, clause by clause, part 2. -/
theorem witness_CrockAndJournal_2 :
    (∃ (s : State) (r : EvRec), 4 ≤ r.severity ∧ s.crock.ffNext < 1024) ∧
    (∃ (s : State) (r : EvRec) (s1 : State), r.severity < 4 ∧ s1 = failedOnce s ∧ s1.crock.bad.length < 512) ∧
    (∃ (s : State) (r : EvRec) (s1 : State), r.severity < 4 ∧ s1 = failedOnce s ∧ 512 ≤ s1.crock.bad.length) ∧
    (∃ (s : State), s.crock.fault = true ∧ 0 < s.crock.dropped) :=
  ⟨⟨State.reset, aRec, by decide +kernel, by decide +kernel⟩,
   ⟨State.reset, { aRec with severity := 3 }, _, by decide +kernel, rfl, by decide +kernel⟩,
   ⟨{ State.reset with crock.bad := List.replicate 512 0 : State }, { aRec with severity := 3 }, _, by decide +kernel, rfl,
   by decide +kernel⟩,
   ⟨{ State.reset with crock.fault := true, crock.dropped := 1 : State }, by decide +kernel, by decide +kernel⟩⟩

/-- What Obligations.CrockAndJournal asks of states and operands is met, clause by clause, part 3. -/
theorem witness_CrockAndJournal_3 :
    (∃ (s : State), (s.crock.fault = false ∨ s.crock.dropped = 0)) ∧
    (∃ (s : State) (a : _) (bs : _) (rest : _), (s.crock.lineWait = (a, bs) :: rest) ∧ s.crock.nvOk = true) ∧
    (∃ s : State, s.crock.lineWait ≠ [] ∧ s.crock.nvOk = true) ∧
    (∃ (a : _), inUser a = true) :=
  ⟨⟨{ State.reset with crock.fault := false : State }, by decide +kernel⟩,
   ⟨{ State.reset with crock.lineWait := [(0x3B0000, [])], crock.nvOk := true : State }, 0x3B0000, [], [], rfl,
   by decide +kernel⟩,
   ⟨{ State.reset with crock.lineWait := [(0x3B0000, [])], crock.nvOk := true : State }, by decide +kernel,
   by decide +kernel⟩,
   ⟨0x3B0000, by decide +kernel⟩⟩

/-- What Obligations.CrockAndJournal asks of states and operands is met, clause by clause, part 4. -/
theorem witness_CrockAndJournal_4 :
    (∃ (s : State), s.crock.bad.length < 512) ∧
    (∃ (s : State), s.crock.writes = []) ∧
    (∃ (s : State) (num : _) (n : Nat) (resp : _) (rest : _), (s.crock.writes = (num, n + 2, resp) :: rest)) ∧
    (∃ (s : State) (num : _) (resp : _) (rest : _), (s.crock.writes = (num, 1, resp) :: rest)) :=
  ⟨⟨State.reset, by decide +kernel⟩,
   ⟨{ State.reset with crock.writes := [] : State }, by decide +kernel⟩,
   ⟨{ State.reset with crock.writes := [(7, 3, [])] : State }, 7, 1, [], [], rfl⟩,
   ⟨{ State.reset with crock.writes := [(7, 1, [])] : State }, 7, [], [], rfl⟩⟩

/-- What Obligations.CrockAndJournal asks of states and operands is met, clause by clause, part 5. -/
theorem witness_CrockAndJournal_5 :
    (∃ (s : State), (s.crock.nvOk = false ∨ s.crock.lineWait = [])) ∧
    (∃ (s : State), (s.crock.nvOk = false ∨ s.crock.ffZero = [])) ∧
    (∃ (s : State) (k : _) (rest : _) (s1 : State), s.crock.ffZero = k :: rest ∧ s.crock.nvOk = true ∧
     s1 = { s with crock := { s.crock with ffZero := rest } } ∧ ffFree s1 k = true) ∧
    (∃ (s : State) (k : _) (rest : _) (s1 : State), s.crock.ffZero = k :: rest ∧ s.crock.nvOk = true ∧
     s1 = { s with crock := { s.crock with ffZero := rest } } ∧ ffFree s1 k = false) :=
  ⟨⟨{ State.reset with crock.nvOk := false : State }, by decide +kernel⟩,
   ⟨{ State.reset with crock.nvOk := false : State }, by decide +kernel⟩,
   ⟨{ State.reset with crock.ffZero := [0], crock.nvOk := true : State }, 0, [], _, rfl, by decide +kernel, rfl,
   by decide +kernel⟩,
   ⟨crockWrite { State.reset with crock.ffZero := [0], crock.nvOk := true } 0x1A0000 (journalBytes State.reset aRec true 0), 0, [], _,
   rfl, rfl, rfl, by decide +kernel⟩⟩

/-- What Obligations.CrockAndJournal asks of states and operands is met, clause by clause, part 6. -/
theorem witness_CrockAndJournal_6 :
    (∃ (s : State), s.crock.scanned = true) ∧
    (∃ (s : State) (s1 : State) (s2 : State), s.crock.scanned = false ∧
     s1 = bootStage (fixLevel (bootStage (bootImage (bootStage (strapEvent (reinitLines (scanJournal s))) 1)) 2)) 3 ∧
     s1.sys.image.isSome = true ∧ s2 = profileModes s1 ∧ s2.sys.image.isSome = true) ∧
    (∃ (s : State) (s1 : State) (s2 : State), s.crock.scanned = false ∧
     s1 = bootStage (fixLevel (bootStage (bootImage (bootStage (strapEvent (reinitLines (scanJournal s))) 1)) 2)) 3 ∧
     s1.sys.image = none ∧ s2 = profileModes (linkNumbers.foldl enableLink s1) ∧ s2.sys.image = none) :=
  ⟨⟨{ State.reset with crock.scanned := true : State }, by decide +kernel⟩,
   ⟨booting, bootStage (fixLevel (bootStage (applyImage scanned 0) 2)) 3, _,
   by decide +kernel, congrArg (fun x => bootStage (fixLevel (bootStage x 2)) 3) scanned_boots.symm, by decide +kernel,
   rfl, by decide +kernel⟩,
   ⟨{ State.reset with crock.scanned := false : State }, _, _, by decide +kernel, rfl, by decide +kernel, rfl,
   by decide +kernel⟩⟩

/-- What Obligations.SleepAndWake asks of states and operands is met, clause by clause, part 1. -/
theorem witness_SleepAndWake_1 :
    (∃ (s : State), s.sys.pstate = .active ∧ s.sys.power.dozeEn = true ∧ quiet s = true ∧ s.sys.held = .no ∧
     s.sys.waking = false ∧ s.inDeadFeed = false ∧ s.sys.power.dozeSleep = false) ∧
    (∃ (s : State) (s1 : State) (s2 : State), s.sys.pstate = .active ∧ s.sys.power.dozeEn = true ∧ quiet s = true ∧
     s.sys.held = .no ∧ s.sys.waking = false ∧ s.inDeadFeed = false ∧
     s1 = { s with sys := { s.sys with pstate := .doze, banks := dozeBanks s } } ∧ s.sys.power.dozeSleep = true ∧
     s2 = linkNumbers.foldl (fun s l => if (s.link l).ladle then s else requestSleep s l) s1 ∧ s2.tu.sync ≠ .freeRun) ∧
    (∃ (s : State) (s1 : State) (s2 : State), s.sys.pstate = .active ∧ s.sys.power.dozeEn = true ∧ quiet s = true ∧
     s.sys.held = .no ∧ s.sys.waking = false ∧ s.inDeadFeed = false ∧
     s1 = { s with sys := { s.sys with pstate := .doze, banks := dozeBanks s } } ∧ s.sys.power.dozeSleep = true ∧
     s2 = linkNumbers.foldl (fun s l => if (s.link l).ladle then s else requestSleep s l) s1 ∧ s2.tu.sync = .freeRun) ∧
    (∃ (s : State), (s.sys.pstate ≠ .active ∨ s.sys.power.dozeEn = false ∨ quiet s = false ∨ s.sys.waking = true)) :=
  ⟨⟨{ State.reset with sys.power.dozeEn := true : State }, by decide +kernel, by decide +kernel, by decide +kernel,
   by decide +kernel, by decide +kernel, by decide +kernel, by decide +kernel⟩,
   ⟨{ State.reset with sys.power.dozeSleep := true, tu.sync := .locked : State }, _, _, by decide +kernel,
   by decide +kernel, by decide +kernel, by decide +kernel, by decide +kernel, by decide +kernel, rfl, by decide +kernel,
   rfl, by decide +kernel⟩,
   ⟨{ State.reset with sys.pstate := .active, sys.power.dozeEn := true, sys.held := .no, sys.waking := false, sys.power.dozeSleep := true, tu.sync := .freeRun : State }, _, _,
   by decide +kernel, by decide +kernel, by decide +kernel, by decide +kernel, by decide +kernel, by decide +kernel, rfl,
   by decide +kernel, rfl, by decide +kernel⟩,
   ⟨{ State.reset with sys.waking := true : State }, by decide +kernel⟩⟩

/-- What Obligations.SleepAndWake asks of states and operands is met, clause by clause, part 2. -/
theorem witness_SleepAndWake_2 :
    (∃ (s : State) (s1 : State), s.sys.pstate = .doze ∧
     s1 = { s with sys := { s.sys with pstate := .active, waking := false } } ∧ s1.tu.isRoot = false) ∧
    (∃ (s : State) (s1 : State), s.sys.pstate = .doze ∧
     s1 = { s with sys := { s.sys with pstate := .active, waking := false } } ∧ s1.tu.isRoot = true) ∧
    (∃ (s : State), s.sys.pstate ≠ .doze) ∧
    (∃ (s : State), (s.sys.pstate = .active ∨ s.sys.pstate = .doze) ∧ s.sys.power.hibEn = true ∧ s.sys.held = .no ∧
     s.sys.waking = false ∧ quiet s = true ∧ hibQuiet s = true) :=
  ⟨⟨{ State.reset with sys.pstate := .doze, tu.isRoot := false : State }, _, by decide +kernel, rfl, by decide +kernel⟩,
   ⟨{ State.reset with sys.pstate := .doze, tu.isRoot := true : State }, _, by decide +kernel, rfl, by decide +kernel⟩,
   ⟨State.reset, by decide +kernel⟩,
   ⟨{ State.reset with sys.pstate := .active, sys.power.hibEn := true, sys.held := .no, sys.waking := false : State },
   by decide +kernel, by decide +kernel, by decide +kernel, by decide +kernel, by decide +kernel, by decide +kernel⟩⟩

/-- What Obligations.SleepAndWake asks of states and operands is met, clause by clause, part 3. -/
theorem witness_SleepAndWake_3 :
    (∃ (s : State), (s.sys.power.hibEn = false ∨ quiet s = false ∨ hibQuiet s = false ∨ s.sys.waking = true)) ∧
    (∃ (s : State) (src : _), s.sys.pstate = .hibernate ∧ hibWakes s src = true ∧ s.sys.waking = false) ∧
    (∃ (s : State) (src : HibWake), (s.sys.pstate ≠ .hibernate ∨ hibWakes s src = false ∨ s.sys.waking = true)) ∧
    (∃ (s : State), s.sys.pstate = .hibernate ∧ s.sys.power.aonWake ≠ 0 ∧ s.sys.waking = false) :=
  ⟨⟨{ State.reset with sys.power.hibEn := false : State }, by decide +kernel⟩,
   ⟨{ State.reset with sys.pstate := .hibernate : State }, .bmc, by decide +kernel, by decide +kernel, by decide +kernel⟩,
   ⟨State.reset, .bmc, by decide +kernel⟩,
   ⟨{ State.reset with sys.pstate := .hibernate, sys.power.aonWake := 1, sys.waking := false : State }, by decide +kernel,
   by decide +kernel, by decide +kernel⟩⟩

/-- What Obligations.SleepAndWake asks of states and operands is met, clause by clause, part 4. -/
theorem witness_SleepAndWake_4 :
    (∃ (s : State), (s.sys.pstate ≠ .hibernate ∨ s.sys.power.aonWake = 0)) ∧
    (∃ (s : State) (w : _) (o : _), (s.sys.pstate ≠ .hibernate ∨ (w = false ∧ o ≤ 0x3F))) ∧
    (∃ (s : State), s.sys.regen = true ∧ s.sys.held = .rails ∧ s.sys.railsOut.contains 4 = false) ∧
    (∃ (s : State), s.sys.regen = true ∧ s.sys.held = .rails ∧ s.sys.railsOut.contains 4 = true) :=
  ⟨⟨State.reset, by decide +kernel⟩,
   ⟨State.reset, true, 0, by decide +kernel⟩,
   ⟨{ State.reset with sys.regen := true, sys.held := .rails : State }, by decide +kernel, by decide +kernel,
   by decide +kernel⟩,
   ⟨{ State.reset with sys.regen := true, sys.held := .rails, sys.railsOut := [4] : State }, by decide +kernel,
   by decide +kernel, by decide +kernel⟩⟩

/-- What Obligations.SleepAndWake asks of states and operands is met, clause by clause, part 5. -/
theorem witness_SleepAndWake_5 :
    (∃ (s : State), s.sys.regen = true ∧ s.sys.held = .no ∧ s.sys.pstate = .hibernate ∧ s.sys.waking = true) ∧
    (∃ (s : State), awaiting s = true ∧ s.sys.regen = true ∧ s.sys.attempts < 3) ∧
    (∃ (s : State), awaiting s = true ∧ s.sys.regen = true ∧ 3 ≤ s.sys.attempts) ∧
    (∃ (s : State), (awaiting s = false ∨ s.sys.regen = false)) :=
  ⟨⟨{ State.reset with sys.regen := true, sys.held := .no, sys.pstate := .hibernate, sys.waking := true : State },
   by decide +kernel, by decide +kernel, by decide +kernel, by decide +kernel⟩,
   ⟨{ State.reset with sys.regen := true, sys.held := .rails : State }, by decide +kernel, by decide +kernel,
   by decide +kernel⟩,
   ⟨{ State.reset with sys.regen := true, sys.held := .rails, sys.attempts := 3 : State }, by decide +kernel,
   by decide +kernel, by decide +kernel⟩,
   ⟨State.reset, by decide +kernel⟩⟩

/-- What Obligations.SleepAndWake asks of states and operands is met, clause by clause, part 6. -/
theorem witness_SleepAndWake_6 :
    (∃ (s : State), awaiting s = true ∧ s.sys.regen = false ∧ 0 < s.sys.attempts) ∧
    (∃ (s : State), (awaiting s = false ∨ s.sys.regen = true ∨ s.sys.attempts = 0)) ∧
    (∃ (s : State) (b : _) (x : _), s.sys.bankWait.find? (fun x => x.1 == b) = some x) ∧
    (∃ (s : State) (b : _), s.sys.bankWait.find? (fun x => x.1 == b) = none) :=
  ⟨⟨{ State.reset with sys.regen := false, sys.held := .rails, sys.attempts := 1 : State }, by decide +kernel,
   by decide +kernel, by decide +kernel⟩,
   ⟨State.reset, by decide +kernel⟩,
   ⟨{ State.reset with sys.bankWait := [(1, true)] : State }, 1, (1, true), rfl⟩,
   ⟨State.reset, 14, by decide +kernel⟩⟩

/-- What Obligations.SleepAndWake asks of states and operands is met, clause by clause, part 7. -/
theorem witness_SleepAndWake_7 :
    (∃ (k : _), k < 8) ∧
    (∃ (s : State), s.pair.ladle = false) ∧
    (∃ (s : State), s.pair.ladle = true) ∧
    (∃ (s : State) (n : Nat) (r : _) (s1 : State), s1 = raise { s with sys := { s.sys with gpio := s.sys.gpio % 65536 - at_ (n % 16) (bits (s.sys.gpio % 65536) (n % 16) (n % 16)) + at_ (n % 16) (b2n r) } } 443 (if r then 1 else 2) (n % 16) ∧
     bit s1.sys.power.gpioWake (n % 16) = false) :=
  ⟨⟨7, by decide +kernel⟩,
   ⟨{ State.reset with pair.ladle := false : State }, by decide +kernel⟩,
   ⟨{ State.reset with pair.ladle := true : State }, by decide +kernel⟩,
   ⟨State.reset, 1, true, _, rfl, by decide +kernel⟩⟩

/-- What Obligations.SleepAndWake asks of states and operands is met, clause by clause, part 8. -/
theorem witness_SleepAndWake_8 :
    (∃ (s : State) (n : Nat) (r : _) (s1 : State), s1 = raise { s with sys := { s.sys with gpio := s.sys.gpio % 65536 - at_ (n % 16) (bits (s.sys.gpio % 65536) (n % 16) (n % 16)) + at_ (n % 16) (b2n r) } } 443 (if r then 1 else 2) (n % 16) ∧
     bit s1.sys.power.gpioWake (n % 16) = true) ∧
    (∃ (s : State), s.sys.waking = false ∧ s.sys.pstate = .doze) ∧
    (∃ (s : State) (l : _), (s.link l).st = .sleep ∧ (s.link l).probing = true) ∧
    (∃ (s : State) (l : _), ((s.link l).st ≠ .sleep ∨ (s.link l).probing = false)) :=
  ⟨⟨{ State.reset with sys.power.gpioWake := 2 : State }, 1, true, _, rfl, by decide +kernel⟩,
   ⟨{ State.reset with sys.waking := false, sys.pstate := .doze : State }, by decide +kernel, by decide +kernel⟩,
   ⟨State.reset.modLink 0 (fun x => { x with st := .sleep, probing := true }), 0, by decide +kernel, by decide +kernel⟩,
   ⟨State.reset, 0, by decide +kernel⟩⟩

/-- What Obligations.ClocksRailsAndResets asks of states and operands is met, clause by clause, part 1. -/
theorem witness_ClocksRailsAndResets_1 :
    (∃ (s : State) (s1 : State), s.sys.xtal = true ∧
     s1 = raise { s with sys := { s.sys with xtal := false, clockFallback := true } } 422 1 0 ∧ s1.tu.sync = .locked ∧
     s1.tu.hasParent = true) ∧
    (∃ (s : State) (s1 : State), s.sys.xtal = true ∧
     s1 = raise { s with sys := { s.sys with xtal := false, clockFallback := true } } 422 1 0 ∧ s1.tu.sync ≠ .freeRun ∧
     s1.tu.hasParent = false) ∧
    (∃ (s : State) (s1 : State), s.sys.xtal = true ∧
     s1 = raise { s with sys := { s.sys with xtal := false, clockFallback := true } } 422 1 0 ∧ s1.tu.sync = .freeRun) ∧
    (∃ (s : State), s.sys.xtal = false) :=
  ⟨⟨{ State.reset with sys.xtal := true, tu.sync := .locked, tu.hasParent := true : State }, _, by decide +kernel, rfl,
   by decide +kernel, by decide +kernel⟩,
   ⟨{ State.reset with sys.xtal := true, tu.sync := .locked : State }, _, by decide +kernel, rfl, by decide +kernel,
   by decide +kernel⟩,
   ⟨{ State.reset with sys.xtal := true, tu.sync := .freeRun : State }, _, by decide +kernel, rfl, by decide +kernel⟩,
   ⟨{ State.reset with sys.xtal := false : State }, by decide +kernel⟩⟩

/-- What Obligations.ClocksRailsAndResets asks of states and operands is met, clause by clause, part 2. -/
theorem witness_ClocksRailsAndResets_2 :
    (∃ (s : State), s.sys.fref = true) ∧
    (∃ (s : State), s.sys.fref = false) ∧
    (∃ (s : State) (r : _) (b : Bool) (mv : _), railNeeded s r = true ∧ s.sys.railsOut.contains r = false ∧
     railBeyond r b mv = true ∧ s.sys.held = .no) ∧
    (∃ (s : State) (r : _) (b : Bool) (mv : _), (railNeeded s r = false ∨ s.sys.railsOut.contains r = true ∨ railBeyond r b mv = false)) :=
  ⟨⟨{ State.reset with sys.fref := true : State }, by decide +kernel⟩,
   ⟨{ State.reset with sys.fref := false : State }, by decide +kernel⟩,
   ⟨{ State.reset with sys.held := .no : State }, 4, false, 3101, by decide +kernel, by decide +kernel, by decide +kernel,
   by decide +kernel⟩,
   ⟨State.reset, 4, true, 3498, by decide +kernel⟩⟩

/-- What Obligations.ClocksRailsAndResets asks of states and operands is met, clause by clause, part 3. -/
theorem witness_ClocksRailsAndResets_3 :
    (∃ (s : State) (r : _) (mv : _), (s.sys.railsOut.contains r = false ∨ railValid r mv = false)) ∧
    (∃ (s : State) (r : _) (mv : _) (s1 : State), s.sys.railsOut.contains r = true ∧ railValid r mv = true ∧ r ≠ 6 ∧
     s1 = raise { s with sys := { s.sys with railsOut := s.sys.railsOut.erase r } } 423 3 (railData r mv) ∧
     s1.sys.railsOut = [] ∧ s1.sys.held = .railOut) ∧
    (∃ (s : State) (r : _) (mv : _) (s1 : State), s.sys.railsOut.contains r = true ∧ railValid r mv = true ∧ r ≠ 6 ∧
     s1 = raise { s with sys := { s.sys with railsOut := s.sys.railsOut.erase r } } 423 3 (railData r mv) ∧
     (s1.sys.railsOut ≠ [] ∨ s1.sys.held ≠ .railOut)) ∧
    (∃ (s : State) (mv : _) (s1 : State) (s2 : State), s.sys.railsOut.contains 6 = true ∧ railValid 6 mv = true ∧
     s1 = { s with sys := { s.sys with railsOut := s.sys.railsOut.erase 6 }, crock := { s.crock with nvOk := true, fault := decide (16 ≤ s.crock.failing) } } ∧
     s2 = raise s1 423 3 (railData 6 mv) ∧ s2.sys.held ≠ .railOut) :=
  ⟨⟨State.reset, 0, 0, by decide +kernel⟩,
   ⟨{ State.reset with sys.railsOut := [0], sys.held := .railOut : State }, 0, 750, _, by decide +kernel,
   by decide +kernel, by decide +kernel, rfl, by decide +kernel, by decide +kernel⟩,
   ⟨{ State.reset with sys.railsOut := [0] : State }, 0, 720, _, by decide +kernel, by decide +kernel, by decide +kernel,
   rfl, by decide +kernel⟩,
   ⟨{ State.reset with sys.railsOut := [6] : State }, 1890, _, _, by decide +kernel, by decide +kernel, rfl, rfl,
   by decide +kernel⟩⟩

/-- What Obligations.ClocksRailsAndResets asks of states and operands is met, clause by clause, part 4. -/
theorem witness_ClocksRailsAndResets_4 :
    (∃ (s : State), s.sys.deadReg = false) ∧
    (∃ (s : State), s.sys.deadReg = true) ∧
    (∃ (s : State), s.sys.railsOut.contains 4 = false) ∧
    (∃ (s : State), s.sys.railsOut.contains 4 = true) :=
  ⟨⟨{ State.reset with sys.deadReg := false : State }, by decide +kernel⟩,
   ⟨{ State.reset with sys.deadReg := true : State }, by decide +kernel⟩,
   ⟨State.reset, by decide +kernel⟩,
   ⟨{ State.reset with sys.railsOut := [4] : State }, by decide +kernel⟩⟩

/-- What Obligations.ClocksRailsAndResets asks of states and operands is met, clause by clause, part 5. -/
theorem witness_ClocksRailsAndResets_5 :
    (∃ (s : State), s.sys.held = .resetN ∧ (s.sys.pstate ≠ .deadFeed ∨ s.sys.regen = true)) ∧
    (∃ (s : State), s.sys.held = .resetN ∧ s.sys.pstate = .deadFeed ∧ s.sys.regen = false) ∧
    (∃ (s : State), s.sys.held ≠ .resetN) ∧
    (∃ (s : State), s.sys.pstate = .off) :=
  ⟨⟨{ State.reset with sys.held := .resetN : State }, by decide +kernel, by decide +kernel⟩,
   ⟨{ State.reset with sys.held := .resetN, sys.pstate := .deadFeed, sys.regen := false : State }, by decide +kernel,
   by decide +kernel, by decide +kernel⟩,
   ⟨State.reset, by decide +kernel⟩,
   ⟨{ State.reset with sys.pstate := .off : State }, by decide +kernel⟩⟩

/-- What Obligations.ClocksRailsAndResets asks of states and operands is met, clause by clause, part 6. -/
theorem witness_ClocksRailsAndResets_6 :
    (∃ (s : State), s.sys.pstate ≠ .off ∧ s.sys.railsOut.contains 5 = true ∧ s.sys.held = .resetN ∧ s.sys.regen = true) ∧
    (∃ (s : State), s.sys.pstate ≠ .off ∧ s.sys.railsOut.contains 5 = true ∧ (s.sys.held ≠ .resetN ∨ s.sys.regen = false)) ∧
    (∃ (s : State), s.sys.pstate ≠ .off ∧ s.sys.railsOut.contains 5 = false) ∧
    (∃ (s : State) (d : _), s.sys.resetDue = some d ∧ (s.isPair = false ∨ s.chipActive = false)) :=
  ⟨⟨{ State.reset with sys.railsOut := [5], sys.held := .resetN, sys.regen := true : State }, by decide +kernel,
   by decide +kernel, by decide +kernel, by decide +kernel⟩,
   ⟨{ State.reset with sys.railsOut := [5] : State }, by decide +kernel, by decide +kernel, by decide +kernel⟩,
   ⟨State.reset, by decide +kernel, by decide +kernel⟩,
   ⟨{ State.reset with sys.resetDue := some 5 : State }, 5, rfl, by decide +kernel⟩⟩

/-- What Obligations.ClocksRailsAndResets asks of states and operands is met, clause by clause, part 7. -/
theorem witness_ClocksRailsAndResets_7 :
    ∃ (s : State), (s.sys.resetDue = none ∨ (s.isPair = true ∧ s.chipActive = true)) :=
  ⟨{ State.reset with sys.resetDue := none : State }, by decide +kernel⟩

/-- What Obligations.FirmwareDeadFeedAndHeat asks of states and operands is met, clause by clause, part 1. -/
theorem witness_FirmwareDeadFeedAndHeat_1 :
    (∃ (s : State) (f : _), s.sys.fw = some f ∧ (f.cause ≠ 3 ∨ f.oldBank = s.sys.bankB)) ∧
    (∃ (s : State) (f : _), s.sys.fw = some f ∧ f.cause = 3 ∧ f.oldBank ≠ s.sys.bankB) ∧
    (∃ (s : State), s.sys.fw = none) ∧
    (∃ (s : State) (f : _) (s1 : State), s.sys.fw = some f ∧
     s1 = unverify (setChoice (setChoice (raise s 429 1 0) (badBit s.sys.bankB) true) 0 (!s.sys.bankB)) s.sys.bankB ∧
     bankCheck s1 (!s.sys.bankB) = 0) :=
  ⟨⟨{ State.reset with sys.fw := some { at_ := 0, cause := 1, oldBank := false, activated := false } : State }, { at_ := 0, cause := 1, oldBank := false, activated := false },
   rfl, by decide +kernel⟩,
   ⟨{ State.reset with sys.fw := some { at_ := 0, cause := 3, oldBank := true, activated := false } : State }, { at_ := 0, cause := 3, oldBank := true, activated := false },
   rfl, by decide +kernel, by decide +kernel⟩,
   ⟨{ State.reset with sys.fw := none : State }, by decide +kernel⟩,
   ⟨imaged { State.reset with sys.fw := some { at_ := 0, cause := 1, oldBank := false, activated := false } } true, { at_ := 0, cause := 1, oldBank := false, activated := false }, _,
   rfl, rfl, by decide +kernel⟩⟩

/-- What Obligations.FirmwareDeadFeedAndHeat asks of states and operands is met, clause by clause, part 2. -/
theorem witness_FirmwareDeadFeedAndHeat_2 :
    (∃ (s : State) (f : _) (s1 : State), s.sys.fw = some f ∧
     s1 = unverify (setChoice (setChoice (raise s 429 1 0) (badBit s.sys.bankB) true) 0 (!s.sys.bankB)) s.sys.bankB ∧
     bankCheck s1 (!s.sys.bankB) ≠ 0) ∧
    (∃ (s : State), s.sys.fwUp = true) ∧
    (∃ (s : State), s.sys.fwUp = false) ∧
    (∃ (s : State), s.sys.pstate ≠ .off) :=
  ⟨⟨{ State.reset with sys.fw := some { at_ := 0, cause := 1, oldBank := false, activated := false } : State }, { at_ := 0, cause := 1, oldBank := false, activated := false }, _,
   rfl, rfl, by decide +kernel⟩,
   ⟨{ State.reset with sys.fwUp := true : State }, by decide +kernel⟩,
   ⟨{ State.reset with sys.fwUp := false : State }, by decide +kernel⟩,
   ⟨State.reset, by decide +kernel⟩⟩

/-- What Obligations.FirmwareDeadFeedAndHeat asks of states and operands is met, clause by clause, part 3. -/
theorem witness_FirmwareDeadFeedAndHeat_3 :
    (∃ (s : State), s.sys.pstate = .off) ∧
    (∃ (s : State) (u : Up) (c : _), s.sys.pstate = .deadFeed ∧ (s.pde (portOfUp u)).cc = .attachedSnk ∧
     (s.pde (portOfUp u)).contract = some c ∧ s.sys.regen = false ∧ 9000 ≤ c.mv ∧ 15000000 ≤ c.power) ∧
    (∃ (s : State) (u : Up) (c : _), s.sys.pstate = .deadFeed ∧ (s.pde (portOfUp u)).cc = .attachedSnk ∧
     (s.pde (portOfUp u)).contract = some c ∧ (s.sys.regen = true ∨ c.mv < 9000 ∨ c.power < 15000000)) ∧
    (∃ (s : State) (u : Up), (s.sys.pstate ≠ .deadFeed ∨ (s.pde (portOfUp u)).cc ≠ .attachedSnk ∨ (s.pde (portOfUp u)).contract = none)) :=
  ⟨⟨{ State.reset with sys.pstate := .off : State }, by decide +kernel⟩,
   ⟨({ State.reset with sys.pstate := .deadFeed, sys.regen := false : State }).modPde 33 (fun x => { x with cc := .attachedSnk, contract := some { mv := 9000, ma := 2000 } }),
   .a, { mv := 9000, ma := 2000 }, by decide +kernel, by decide +kernel, rfl, by decide +kernel, by decide +kernel,
   by decide +kernel⟩,
   ⟨({ State.reset with sys.pstate := .deadFeed, sys.regen := true : State }).modPde (33) (fun x => { x with cc := .attachedSnk, contract := some {} }),
   .a, {}, by decide +kernel, by decide +kernel, rfl, by decide +kernel⟩,
   ⟨State.reset, .a, by decide +kernel⟩⟩

/-- What Obligations.FirmwareDeadFeedAndHeat asks of states and operands is met, clause by clause, part 4. -/
theorem witness_FirmwareDeadFeedAndHeat_4 :
    (∃ (s : State), s.sys.railsOut.contains 5 = true) ∧
    (∃ (s : State), s.sys.railsOut.contains 5 = false ∧ (s.sys.pstate ≠ .deadFeed ∨ s.sys.regen = true)) ∧
    (∃ (t : _), 1050 ≤ t) ∧
    (∃ (t : _), t ≤ 1000) :=
  ⟨⟨{ State.reset with sys.railsOut := [5] : State }, by decide +kernel⟩,
   ⟨State.reset, by decide +kernel, by decide +kernel⟩,
   ⟨1050, by decide +kernel⟩,
   ⟨1000, by decide +kernel⟩⟩

/-- What Obligations.FirmwareDeadFeedAndHeat asks of states and operands is met, clause by clause, part 5. -/
theorem witness_FirmwareDeadFeedAndHeat_5 :
    (∃ (t : _), t < 1050) ∧
    (∃ (t : _), 1000 < t) ∧
    (∃ (t : _), t < 1200) ∧
    (∃ (s : State) (t : _) (s0 : _) (s1 : State) (r : _), 1200 ≤ t ∧ s0 = setDie s t ∧
     s1 = { s0 with sys := { s0.sys with thermal := 2 } } ∧ r = mkRec s1 s1.now 421 1 (tempData t) ∧
     (bit r.rb 4 && !s1.crock.fault && s1.crock.nvOk) = true) :=
  ⟨⟨1049, by decide +kernel⟩,
   ⟨1001, by decide +kernel⟩,
   ⟨1199, by decide +kernel⟩,
   ⟨State.reset, 1200, _, _, _, by decide +kernel, rfl, rfl, rfl, by decide +kernel⟩⟩

/-- What Obligations.FirmwareDeadFeedAndHeat asks of states and operands is met, clause by clause, part 6. -/
theorem witness_FirmwareDeadFeedAndHeat_6 :
    (∃ (s : State) (t : _) (s0 : _) (s1 : State) (r : _), 1200 ≤ t ∧ s0 = setDie s t ∧
     s1 = { s0 with sys := { s0.sys with thermal := 2 } } ∧ r = mkRec s1 s1.now 421 1 (tempData t) ∧
     (bit r.rb 4 && !s1.crock.fault && s1.crock.nvOk) = false) ∧
    (∃ (s : State) (t : _), s.sys.held = .hot ∧ 950 < t) ∧
    (∃ (s : State) (t : _), s.sys.held = .hot ∧ t ≤ 950 ∧ s.sys.railsOut = []) ∧
    (∃ (s : State) (t : _), s.sys.held = .hot ∧ t ≤ 950 ∧ s.sys.railsOut ≠ []) :=
  ⟨⟨{ State.reset with crock.nvOk := false : State }, 1200, _, _, _, by decide +kernel, rfl, rfl, rfl, by decide +kernel⟩,
   ⟨{ State.reset with sys.held := .hot : State }, 951, by decide +kernel, by decide +kernel⟩,
   ⟨{ State.reset with sys.held := .hot, sys.railsOut := [] : State }, 950, by decide +kernel, by decide +kernel,
   by decide +kernel⟩,
   ⟨{ State.reset with sys.held := .hot, sys.railsOut := [0] : State }, 950, by decide +kernel, by decide +kernel,
   by decide +kernel⟩⟩

/-- What Obligations.FirmwareDeadFeedAndHeat asks of states and operands is met, clause by clause, part 7. -/
theorem witness_FirmwareDeadFeedAndHeat_7 :
    (∃ (s : State), s.sys.held ≠ .hot) ∧
    (∃ (s : State) (p : Nat) (d : Hs), l1Ready s p = true ∧ d ≠ .ack) ∧
    (∃ (s : State) (p : Nat), l1Ready s p = false) ∧
    (∃ (s : State) (u : Up), ssPortsRest s u = true ∧ (s.up u).u1En = true ∧ upU1Eff s ≠ 0 ∧ (s.up u).ssLink = .u0) :=
  ⟨⟨State.reset, by decide +kernel⟩,
   ⟨({ State.reset with sys.proxyL1 := some 1 : State }).modPort 1 (fun x => { x with id.owner := .upA, id.eff := .translated, id.st := .live, id.speed := .hs, dpe := .enabled, ownerL1 := some 0 }), 1, .nyet,
   by decide +kernel, by decide +kernel⟩,
   ⟨State.reset, 1, by decide +kernel⟩,
   ⟨({ State.reset with sys.upU1 := some 20 : State }).modUp .a (fun x => { x with u1En := true, ssLink := .u0 }), .a,
   by decide +kernel, by decide +kernel, by decide +kernel, by decide +kernel⟩⟩

/-- What Obligations.FirmwareDeadFeedAndHeat asks of states and operands is met, clause by clause, part 8. -/
theorem witness_FirmwareDeadFeedAndHeat_8 :
    (∃ (s : State) (u : Up), ssPortsRest s u = true ∧ (s.up u).u2En = true ∧ upU2Eff s ≠ 0 ∧
     ((s.up u).ssLink = .u0 ∨ (s.up u).ssLink = .u1)) ∧
    (∃ (s : State) (u : Up), ssPortsRest s u = false) ∧
    (∃ (s : State), s.sys.upU1 = none) ∧
    (∃ (s : State) (v : Nat), s.sys.upU1 = some v) :=
  ⟨⟨({ State.reset with sys.upU2 := some 4 : State }).modUp .a (fun x => { x with u2En := true, ssLink := .u0 }), .a,
   by decide +kernel, by decide +kernel, by decide +kernel, by decide +kernel⟩,
   ⟨(State.reset.modSpe 1 (fun x => { x with st := .u0 })).modPort 1 (fun x => { x with id.owner := .upA }), .a,
   by decide +kernel⟩,
   ⟨{ State.reset with sys.upU1 := none : State }, by decide +kernel⟩,
   ⟨{ State.reset with sys.upU1 := some 20 : State }, 20, rfl⟩⟩

/-- What Obligations.FirmwareDeadFeedAndHeat asks of states and operands is met, clause by clause, part 9. -/
theorem witness_FirmwareDeadFeedAndHeat_9 :
    (∃ (s : State), s.sys.upU2 = none) ∧
    (∃ (s : State) (v : Nat), s.sys.upU2 = some v) :=
  ⟨⟨{ State.reset with sys.upU2 := none : State }, by decide +kernel⟩,
   ⟨{ State.reset with sys.upU2 := some 4 : State }, 4, rfl⟩⟩

/-- What Obligations.FrontEndAndPipes asks of states and operands is met, clause by clause, part 1. -/
theorem witness_FrontEndAndPipes_1 :
    (∃ (s : State) (u : Up) (bs : List Byte), mgmtPipes s u = true ∧ commandBytes s u + min bs.length 4104 ≤ 8192) ∧
    (∃ (s : State) (u : Up) (bs : List Byte), mgmtPipes s u = true ∧ 8192 < commandBytes s u + min bs.length 4104) ∧
    (∃ (s : State) (u : Up), mgmtPipes s u = false) ∧
    (∃ (bs : _), (bs.length < 16 ∨ 4088 < leNat (slice bs 6 2) ∨ leNat (slice bs 6 2) ≠ bs.length - 16)) :=
  ⟨⟨State.reset.modUp .a (fun x => { x with mgCfg := 1, link := .hs }), .a, [], by decide +kernel, by decide +kernel⟩,
   ⟨({ State.reset with cmd.queue := [{ plain 0 (zeros 4088) with target := 9 }, { plain 0 (zeros 4088) with target := 9 }] : State }).modUp .a (fun x => { x with mgCfg := 1, link := .hs }),
   .a, [1], by decide +kernel, by decide +kernel⟩,
   ⟨State.reset, .a, by decide +kernel⟩,
   ⟨[], by decide +kernel⟩⟩

/-- What Obligations.FrontEndAndPipes asks of states and operands is met, clause by clause, part 2. -/
theorem witness_FrontEndAndPipes_2 :
    (∃ (bs : _), 16 ≤ bs.length ∧ leNat (slice bs 6 2) ≤ 4088 ∧ leNat (slice bs 6 2) = bs.length - 16 ∧
     leNat (slice bs 12 4) ≠ crc32c (bs.take 12 ++ bs.drop 16)) ∧
    (∃ (bs : _), 16 ≤ bs.length ∧ leNat (slice bs 6 2) ≤ 4088 ∧ leNat (slice bs 6 2) = bs.length - 16 ∧
     leNat (slice bs 12 4) = crc32c (bs.take 12 ++ bs.drop 16)) ∧
    (∃ (bs : _) (d : _), packetFault bs = some d ∧ d ≠ 2) ∧
    (∃ (bs : _), packetFault bs = some 2) :=
  ⟨⟨zeros 16, by decide +kernel, by decide +kernel, by decide +kernel, by decide +kernel⟩,
   ⟨packetBytes 0 1 0 0 0 [], by decide +kernel, by decide +kernel, by decide +kernel, by decide +kernel⟩,
   ⟨[], 3, rfl, by decide +kernel⟩,
   ⟨[1, 0, 0, 0, 0, 0, 0, 0, 0, 0, 0, 0] ++ leBytes 4 (crc32c [1, 0, 0, 0, 0, 0, 0, 0, 0, 0, 0, 0]), by decide +kernel⟩⟩

/-- What Obligations.FrontEndAndPipes asks of states and operands is met, clause by clause, part 3. -/
theorem witness_FrontEndAndPipes_3 :
    (∃ (s : State) (tr : Transport) (ft : _) (mu : _) (bs : _) (x : _), packetFault bs = none ∧ fragOf bs = false ∧
     dupOf s (readPacket tr ft mu bs) = some x) ∧
    (∃ (s : State) (tr : Transport) (ft : _) (mu : _) (bs : _), packetFault bs = none ∧ fragOf bs = false ∧
     dupOf s (readPacket tr ft mu bs) = none ∧ (s.trState (readPacket tr ft mu bs).tr).asm = none) ∧
    (∃ (s : State) (tr : Transport) (ft : _) (mu : _) (bs : _) (c : _), packetFault bs = none ∧ fragOf bs = true ∧
     c = readPacket tr ft mu bs ∧ (s.trState c.tr).asm = none) ∧
    (∃ (s : State) (tr : Transport) (ft : _) (mu : _) (bs : _) (c : Cmd) (a : _), packetFault bs = none ∧
     fragOf bs = true ∧ c = readPacket tr ft mu bs ∧ (s.trState c.tr).asm = some a ∧ a.tag = c.tag ∧ a.opcode ≠ c.opcode) :=
  ⟨⟨{ State.reset with cmd.trs := [{ tr := .spi, cache := [{ tag := 1, opcode := 0, crc := crc32c ((packetBytes 0 1 0 0 0 []).take 12), at_ := 0, resp := [] }] }] }, .spi, 0, false, packetBytes 0 1 0 0 0 [], { tag := 1, opcode := 0, crc := crc32c ((packetBytes 0 1 0 0 0 []).take 12), at_ := 0, resp := [] },
   by decide +kernel, by decide +kernel, by decide +kernel⟩,
   ⟨State.reset, .spi, 0, false, packetBytes 0 1 0 0 0 [], by decide +kernel, by decide +kernel, by decide +kernel,
   by decide +kernel⟩,
   ⟨State.reset, .spi, 0, false, frag, _, by decide +kernel, by decide +kernel, rfl, by decide +kernel⟩,
   ⟨{ State.reset with cmd.trs := [{ tr := .spi, asm := some (asm0 5) }] : State }, .spi, 0, false, frag, _, asm0 5,
   by decide +kernel, by decide +kernel, rfl, rfl, by decide +kernel, by decide +kernel⟩⟩

/-- What Obligations.FrontEndAndPipes asks of states and operands is met, clause by clause, part 4. -/
theorem witness_FrontEndAndPipes_4 :
    (∃ (s : State) (tr : Transport) (ft : _) (mu : _) (bs : _) (c : Cmd) (a : _), packetFault bs = none ∧
     fragOf bs = true ∧ c = readPacket tr ft mu bs ∧ (s.trState c.tr).asm = some a ∧ a.tag = c.tag ∧ a.opcode = c.opcode ∧
     (a.payload ++ c.payload).length ≤ 4088) ∧
    (∃ (s : State) (c : Cmd), (c.target = 0 ∨ c.target = s.fab.nodeId) ∧ s.sys.fwUp = true ∧ s.sys.pstate ≠ .doze) ∧
    (∃ (s : State) (c : Cmd), (c.target = 0 ∨ c.target = s.fab.nodeId) ∧ s.sys.fwUp = true ∧ s.sys.pstate = .doze) ∧
    (∃ (s : State) (c : Cmd), c.target = 0 ∧ s.sys.fwUp = false ∧ s.sys.romOnly = false) :=
  ⟨⟨{ State.reset with cmd.trs := [{ tr := .spi, asm := some (asm0 0) }] : State }, .spi, 0, false, frag, _, asm0 0,
   by decide +kernel, by decide +kernel, rfl, rfl, by decide +kernel, by decide +kernel, by decide +kernel⟩,
   ⟨{ State.reset with sys.fwUp := true : State }, plain 0 [], by decide +kernel, by decide +kernel, by decide +kernel⟩,
   ⟨{ State.reset with sys.fwUp := true, sys.pstate := .doze : State }, plain 0 [], by decide +kernel, by decide +kernel,
   by decide +kernel⟩,
   ⟨{ State.reset with sys.fwUp := false, sys.romOnly := false : State }, plain 0 [], by decide +kernel, by decide +kernel,
   by decide +kernel⟩⟩

/-- What Obligations.FrontEndAndPipes asks of states and operands is met, clause by clause, part 5. -/
theorem witness_FrontEndAndPipes_5 :
    (∃ (s : State) (c : Cmd), c.target ≠ 0 ∧ c.target ≠ s.fab.nodeId ∧ c.target ≤ 240 ∧ s.hasRoute c.target = false) ∧
    (∃ (s : State) (c : Cmd), c.target ≠ 0 ∧ c.target ≠ s.fab.nodeId ∧ c.target ≤ 240 ∧ s.hasRoute c.target = true) ∧
    (∃ (s : State) (c : Cmd), c.target = 255 ∧ s.fab.nodeId ≠ 255 ∧ c.mute = false ∧
     (c.auth = true ∨ privileged c.opcode = true)) ∧
    (∃ (s : State) (c : Cmd), c.target = 255 ∧ s.fab.nodeId ≠ 255 ∧ c.mute = false ∧ c.auth = false ∧
     privileged c.opcode = false) :=
  ⟨⟨State.reset, { plain 0 [] with target := 9 }, by decide +kernel, by decide +kernel, by decide +kernel,
   by decide +kernel⟩,
   ⟨{ State.reset with fab.nodeId := 1, fab.table := [{ dest := 9, upHop := some 0, dnHop := none, hops := 1 }] : State }, { plain 0 [] with target := 9 },
   by decide +kernel, by decide +kernel, by decide +kernel, by decide +kernel⟩,
   ⟨State.reset, { plain 0x0D01 [] with target := 255, auth := true }, by decide +kernel, by decide +kernel,
   by decide +kernel, by decide +kernel⟩,
   ⟨State.reset, { plain 0 [] with target := 255 }, by decide +kernel, by decide +kernel, by decide +kernel,
   by decide +kernel, by decide +kernel⟩⟩

/-- What Obligations.FrontEndAndPipes asks of states and operands is met, clause by clause, part 6. -/
theorem witness_FrontEndAndPipes_6 :
    (∃ (s : State) (c : Cmd), 240 < c.target ∧ c.target ≠ 255 ∧ c.target ≠ s.fab.nodeId) ∧
    (∃ (s : State) (u : Up), mgmtPipes s u = true ∧ (s.up u).respPipe = []) ∧
    (∃ (s : State) (u : Up) (b : _) (bs : _), mgmtPipes s u = true ∧ (s.up u).respPipe = b :: bs) ∧
    (∃ (s : State) (t : Transport), (s.trState t).asm = none) :=
  ⟨⟨State.reset, { plain 0 [] with target := 241 }, by decide +kernel, by decide +kernel, by decide +kernel⟩,
   ⟨State.reset.modUp .a (fun x => { x with mgCfg := 1, link := .hs, respPipe := [] }), .a, by decide +kernel,
   by decide +kernel⟩,
   ⟨State.reset.modUp .a (fun x => { x with mgCfg := 1, link := .hs, respPipe := [[1]] }), .a, [1], [], by decide +kernel,
   rfl⟩,
   ⟨State.reset, .spi, by decide +kernel⟩⟩

/-- What Obligations.FrontEndAndPipes asks of states and operands is met, clause by clause, part 7. -/
theorem witness_FrontEndAndPipes_7 :
    (∃ (s : State) (t : Transport) (a : _), (s.trState t).asm = some a) ∧
    (∃ (s : State) (t : Transport), (s.trState t).locked = true) ∧
    (∃ (s : State) (t : Transport), (s.trState t).locked = false) ∧
    (∃ (s : State) (seg : _), seg ≠ 0 ∧ s.cmd.segs = []) :=
  ⟨⟨{ State.reset with cmd.trs := [{ tr := .spi, asm := some (asm0 0) }] : State }, .spi, asm0 0, rfl⟩,
   ⟨{ State.reset with cmd.trs := [{ tr := .spi, locked := true }] : State }, .spi, by decide +kernel⟩,
   ⟨State.reset, .spi, by decide +kernel⟩,
   ⟨{ State.reset with cmd.segs := [] : State }, 1, by decide +kernel, by decide +kernel⟩⟩

/-- What Obligations.FrontEndAndPipes asks of states and operands is met, clause by clause, part 8. -/
theorem witness_FrontEndAndPipes_8 :
    (∃ (s : State) (src : _) (tag : _) (x : _), s.cmd.fwd.find? (fun x => x.fabTag == tag && x.node == src && !x.done) = some x) ∧
    (∃ (s : State) (src : _) (tag : _) (all : _), s.cmd.fwd.find? (fun x => x.fabTag == tag && x.node == src && !x.done) = none ∧
     (respOf all).status ≠ stOk) ∧
    (∃ (s : State) (tag : _), s.cmd.fwd.find? (fun x => x.fabTag == tag && !x.done) = none) ∧
    (∃ (s : State) (tag : _) (x : _), s.cmd.fwd.find? (fun x => x.fabTag == tag && !x.done) = some x) :=
  ⟨⟨{ State.reset with cmd.fwd := [{ fabTag := 0, node := 2, cmd := plain 0 [], at_ := 0 }] : State }, 2, 0, { fabTag := 0, node := 2, cmd := plain 0 [], at_ := 0 },
   rfl⟩,
   ⟨State.reset, 0, 0, zeros 10 ++ [1, 0, 0, 0, 0, 0], by decide +kernel, by decide +kernel⟩,
   ⟨State.reset, 0, by decide +kernel⟩,
   ⟨{ State.reset with cmd.fwd := [{ fabTag := 0, node := 2, cmd := plain 0 [], at_ := 0 }] : State }, 0, _, rfl⟩⟩

/-- What Obligations.FrontEndAndPipes asks of states and operands is met, clause by clause, part 9. -/
theorem witness_FrontEndAndPipes_9 :
    (∃ (s : State), s.isPair = false) ∧
    (∃ (s : State) (o : _) (s1 : State) (w : _), s.isPair = true ∧
     s1 = { s with cmd := { s.cmd with relayIn := s.cmd.relayIn.filter (fun x => !(x.1 == o && x.2.1 == true)) } } ∧
     relayWait s1 o = some w) ∧
    (∃ (s : State) (w : _), s.cmd.waits.find? (fun w => w.cmd.opcode == 0x0604) = some w) ∧
    (∃ (s : State), s.cmd.waits.find? (fun w => w.cmd.opcode == 0x0604) = none) :=
  ⟨⟨State.reset, by decide +kernel⟩,
   ⟨{ State.reset with sys.role := 1, cmd.waits := [{ num := 1, cmd := plain 0x0604 [] }] : State }, 0, _, { num := 1, cmd := plain 0x0604 [] },
   by decide +kernel, rfl, rfl⟩,
   ⟨{ State.reset with cmd.waits := [{ num := 1, cmd := plain 0x0604 [] }] : State }, _, rfl⟩,
   ⟨State.reset, by decide +kernel⟩⟩

/-- What Obligations.SidebandMailboxes asks of states and operands is met, clause by clause, part 1. -/
theorem witness_SidebandMailboxes_1 :
    (∃ (s : State), windowOpen s = false) ∧
    (∃ (off : _), off ≤ 0xFF) ∧
    (∃ (off : _), 0xFF < off) ∧
    (∃ (off : _), off < 0x29) :=
  ⟨⟨{ State.reset with sys.pstate := .hibernate : State }, by decide +kernel⟩,
   ⟨0, by decide +kernel⟩,
   ⟨256, by decide +kernel⟩,
   ⟨0, by decide +kernel⟩⟩

/-- What Obligations.SidebandMailboxes asks of states and operands is met, clause by clause, part 2. -/
theorem witness_SidebandMailboxes_2 :
    (∃ (off : _), 0xA0 ≤ off) ∧
    (∃ (b : Byte), b.toNat < 64) ∧
    (∃ (off : _), 0x44 ≤ off ∧ off ≤ 0x9F) ∧
    (∃ (s : State) (ctrl : _) (len : _) (msg : List Byte) (s1 : State), windowOpen s = true ∧
     s1 = windowWrite (msg.take 92) 0x44 (modMb s (fun m => { m with mbiCtrl := mbiKept ctrl, mbiLen := len % 256 })) ∧
     mbiResult s1 (ctrl % 16) (len % 256) ≠ 1) :=
  ⟨⟨160, by decide +kernel⟩,
   ⟨63, by decide +kernel⟩,
   ⟨68, by decide +kernel, by decide +kernel⟩,
   ⟨State.reset, 0, 0, [], _, by decide +kernel, rfl, by decide +kernel⟩⟩

/-- What Obligations.SidebandMailboxes asks of states and operands is met, clause by clause, part 3. -/
theorem witness_SidebandMailboxes_3 :
    (∃ (s : State) (ctrl : _) (len : _) (msg : List Byte) (s1 : State), windowOpen s = true ∧
     s1 = windowWrite (msg.take 92) 0x44 (modMb s (fun m => { m with mbiCtrl := mbiKept ctrl, mbiLen := len % 256 })) ∧
     mbiResult s1 (ctrl % 16) (len % 256) = 1) ∧
    (∃ (s : State) (q : _), q ≠ s.cmd.mb.lastSeq ∧ q ≠ (s.cmd.mb.lastSeq + 1) % 16) ∧
    (∃ (s : State) (q : _), q ≠ s.cmd.mb.lastSeq ∧ (q = (s.cmd.mb.lastSeq + 1) % 16)) ∧
    (∃ (s : State) (v : Nat), windowOpen s = true ∧ 128 ≤ s.cmd.mb.mboCtrl ∧ bit v 7 = true ∧ v % 16 = s.cmd.mb.mboSeq) :=
  ⟨⟨State.reset, 1, 16, zeros 16, _, by decide +kernel, rfl, by decide +kernel⟩,
   ⟨State.reset, 2, by decide +kernel, by decide +kernel⟩,
   ⟨State.reset, _, by decide +kernel, rfl⟩,
   ⟨{ State.reset with cmd.mb.mboCtrl := 128 : State }, 128, by decide +kernel, by decide +kernel, by decide +kernel,
   by decide +kernel⟩⟩

/-- What Obligations.SidebandMailboxes asks of states and operands is met, clause by clause, part 4. -/
theorem witness_SidebandMailboxes_4 :
    (∃ (s : State) (v : Nat), windowOpen s = true ∧ (s.cmd.mb.mboCtrl < 128 ∨ bit v 7 = false ∨ v % 16 ≠ s.cmd.mb.mboSeq)) ∧
    (∃ (s : State), s.cmd.mb.mboWait = []) ∧
    (∃ (s : State) (x : _) (xs : _), s.cmd.mb.mboWait = x :: xs) ∧
    (∃ (s : State), s.cmd.mb.mboCtrl < 128) :=
  ⟨⟨State.reset, 34, by decide +kernel, by decide +kernel⟩,
   ⟨{ State.reset with cmd.mb.mboWait := [] : State }, by decide +kernel⟩,
   ⟨{ State.reset with cmd.mb.mboWait := [[1]] : State }, [1], [], rfl⟩,
   ⟨State.reset, by decide +kernel⟩⟩

/-- What Obligations.SidebandMailboxes asks of states and operands is met, clause by clause, part 5. -/
theorem witness_SidebandMailboxes_5 :
    (∃ (s : State), 128 ≤ s.cmd.mb.mboCtrl ∧ s.cmd.mb.mboTries < 3) ∧
    (∃ (s : State), 128 ≤ s.cmd.mb.mboCtrl ∧ 3 ≤ s.cmd.mb.mboTries) ∧
    (∃ (s : State), windowOpen s = true ∧ alertLow s = true) ∧
    (∃ (s : State), (windowOpen s = false ∨ alertLow s = false)) :=
  ⟨⟨{ State.reset with cmd.mb.mboCtrl := 128 : State }, by decide +kernel, by decide +kernel⟩,
   ⟨{ State.reset with cmd.mb.mboCtrl := 128, cmd.mb.mboTries := 3 : State }, by decide +kernel, by decide +kernel⟩,
   ⟨{ State.reset with cmd.mb.mboCtrl := 128 : State }, by decide +kernel, by decide +kernel⟩,
   ⟨State.reset, by decide +kernel⟩⟩

/-- What Obligations.SystemCommands asks of states and operands is met, clause by clause, part 1. -/
theorem witness_SystemCommands_1 :
    (∃ (s : State) (c : Cmd), Admits s c 0x0000 false free_) ∧
    (∃ (s : State) (c : Cmd), Admits s c 0x0001 false free_) ∧
    (∃ (s : State) (c : Cmd), Admits s c 0x0002 false free_) ∧
    (∃ (s : State) (c : Cmd), Admits s c 0x0C00 false free_) :=
  ⟨⟨State.reset, plain 0x0000 [], admits (by decide +kernel)⟩,
   ⟨State.reset, plain 0x0001 [], admits (by decide +kernel)⟩,
   ⟨State.reset, plain 0x0002 [], admits (by decide +kernel)⟩,
   ⟨State.reset, plain 0x0C00 [], admits (by decide +kernel)⟩⟩

/-- What Obligations.SystemCommands asks of states and operands is met, clause by clause, part 2. -/
theorem witness_SystemCommands_2 :
    (∃ (s : State) (c : Cmd), Admits s c 0x0C02 false free_) ∧
    (∃ (s : State) (c : Cmd), Admits s c 0x0D00 false free_) ∧
    (∃ (s : State) (c : Cmd), Admits s c 0x0D04 false free_) ∧
    (∃ (s : State) (c : Cmd), Admits s c 0x0D06 false free_) :=
  ⟨⟨State.reset, plain 0x0C02 [], admits (by decide +kernel)⟩,
   ⟨State.reset, plain 0x0D00 [], admits (by decide +kernel)⟩,
   ⟨State.reset, plain 0x0D04 [], admits (by decide +kernel)⟩,
   ⟨State.reset, plain 0x0D06 [], admits (by decide +kernel)⟩⟩

/-- What Obligations.SystemCommands asks of states and operands is met, clause by clause, part 3. -/
theorem witness_SystemCommands_3 :
    (∃ (s : State) (c : Cmd) (t : State), Admits s c 0x0003 true free_ ∧ t = begun s c true ∧
     (t.isPair = false ∨ t.chipActive = false)) ∧
    (∃ (s : State) (c : Cmd) (t : State), Admits s c 0x0003 true free_ ∧ t = begun s c true ∧ t.isPair = true ∧
     t.chipActive = true ∧ partnerReady t = true) ∧
    (∃ (s : State) (c : Cmd) (t : State), Admits s c 0x0003 true free_ ∧ t = begun s c true ∧ t.isPair = true ∧
     t.chipActive = true ∧ partnerReady t = false) ∧
    (∃ (s : State) (c : Cmd) (t : State) (i : _), Admits s c 0x0004 true free_ ∧ t = begun s c true ∧
     i = args c 1 [parElse 0 8 0 1 0] ∧ imageCheck t (i.1 0) = 0) :=
  ⟨⟨keyed, signed keyed 0x0003 [], _, signs (by decide +kernel), (begins (by decide +kernel)).symm, by decide +kernel⟩,
   ⟨keyIn { State.reset with sys.role := 1, pair.st := .active, pair.partner := 3, plan.regions := [{ kind := 6, pages := 1 }] }, signed (keyIn { State.reset with sys.role := 1, pair.st := .active, pair.partner := 3, plan.regions := [{ kind := 6, pages := 1 }] }) 0x0003 [], _, signs (by decide +kernel), (begins (by decide +kernel)).symm,
   by decide +kernel, by decide +kernel, by decide +kernel⟩,
   ⟨keyIn { State.reset with sys.role := 1, pair.st := .active }, signed (keyIn { State.reset with sys.role := 1, pair.st := .active }) 0x0003 [], _, signs (by decide +kernel), (begins (by decide +kernel)).symm,
   by decide +kernel, by decide +kernel, by decide +kernel⟩,
   ⟨keyedImage, saved, _, _, signs (by decide +kernel), (begins (by decide +kernel)).symm, rfl,
   by rw [saved_image]; exact saved_passes⟩⟩

/-- What Obligations.SystemCommands asks of states and operands is met, clause by clause, part 4. -/
theorem witness_SystemCommands_4 :
    (∃ (s : State) (c : Cmd) (t : State) (i : _), Admits s c 0x0004 true free_ ∧ t = begun s c true ∧
     i = args c 1 [parElse 0 8 0 1 0] ∧ imageCheck t (i.1 0) ≠ 0) ∧
    (∃ (s : State) (c : Cmd) (t : State) (n : _) (t1 : State), Admits s c 0x0C01 true free_ ∧ t = begun s c true ∧
     n = args c 1 [parElse 0 8 0 3 0] ∧ t1 = profileModes { t with sys := { t.sys with profile := profileOf (n.1 0) } } ∧
     (t1.isPair && t1.chipActive) = false) ∧
    (∃ (s : State) (c : Cmd) (t : State) (n : _) (t1 : State), Admits s c 0x0C01 true free_ ∧ t = begun s c true ∧
     n = args c 1 [parElse 0 8 0 3 0] ∧ t1 = profileModes { t with sys := { t.sys with profile := profileOf (n.1 0) } } ∧
     (t1.isPair && t1.chipActive) = true) ∧
    (∃ (s : State) (c : Cmd) (t : State) (n : _), Admits s c 0x0C03 true free_ ∧ t = begun s c true ∧
     n = args c 1 [parAny 0 8 t.sys.cl] ∧ 1 < n.1 0) :=
  ⟨⟨keyed, signed keyed 0x0004 [], _, _, signs (by decide +kernel), (begins (by decide +kernel)).symm, rfl,
   by decide +kernel⟩,
   ⟨keyed, signed keyed 0x0C01 [], _, _, _, signs (by decide +kernel), (begins (by decide +kernel)).symm, rfl, rfl,
   by decide +kernel⟩,
   ⟨keyIn { State.reset with sys.role := 1, pair.st := .active }, signed (keyIn { State.reset with sys.role := 1, pair.st := .active }) 0x0C01 [], _, _, _, signs (by decide +kernel), (begins (by decide +kernel)).symm,
   rfl, rfl, by decide +kernel⟩,
   ⟨keyed, signed keyed 0x0C03 [2], _, _, signs (by decide +kernel), (begins (by decide +kernel)).symm, rfl,
   by decide +kernel⟩⟩

/-- What Obligations.SystemCommands asks of states and operands is met, clause by clause, part 5. -/
theorem witness_SystemCommands_5 :
    (∃ (s : State) (c : Cmd) (t : State) (n : _) (t1 : State), Admits s c 0x0C03 true free_ ∧ t = begun s c true ∧
     n = args c 1 [parAny 0 8 t.sys.cl] ∧ n.1 0 = 1 ∧
     t1 = setPaired { t with sys := { t.sys with clPinned := 1 } } plLevel 1 ∧ (t1.isPair && t1.chipActive) = false) ∧
    (∃ (s : State) (c : Cmd) (t : State) (n : _) (t1 : State), Admits s c 0x0C03 true free_ ∧ t = begun s c true ∧
     n = args c 1 [parAny 0 8 t.sys.cl] ∧ n.1 0 = 0 ∧ t1 = { t with sys := { t.sys with clPinned := 0 } } ∧
     (t1.isPair && t1.chipActive) = false) ∧
    (∃ (s : State) (c : Cmd) (t : State) (b : _) (d : _), Admits s c 0x0D01 false free_ ∧ t = begun s c false ∧
     b = bankArg t c ∧ d = bankCheck t b.1 ∧ d = 0) ∧
    (∃ (s : State) (c : Cmd) (t : State) (b : _) (d : _), Admits s c 0x0D01 false free_ ∧ t = begun s c false ∧
     b = bankArg t c ∧ d = bankCheck t b.1 ∧ d = 3) :=
  ⟨⟨keyed, signed keyed 0x0C03 [], _, _, _, signs (by decide +kernel), (begins (by decide +kernel)).symm, rfl,
   by decide +kernel, rfl, by decide +kernel⟩,
   ⟨keyed, signed keyed 0x0C03 [0], _, _, _, signs (by decide +kernel), (begins (by decide +kernel)).symm, rfl,
   by decide +kernel, rfl, by decide +kernel⟩,
   ⟨imaged State.reset true, plain 0x0D01 [], _, _, _, admits (by decide +kernel), rfl, rfl, rfl, by decide +kernel⟩,
   ⟨crockWrite (setKey State.reset 1 (some aKeyX)) (bankBase true) (anImage 0), plain 0x0D01 [], _, _, _, admits (by decide +kernel),
   rfl, rfl, rfl, by decide +kernel⟩⟩

/-- What Obligations.SystemCommands asks of states and operands is met, clause by clause, part 6. -/
theorem witness_SystemCommands_6 :
    (∃ (s : State) (c : Cmd) (t : State) (b : _) (d : _), Admits s c 0x0D01 false free_ ∧ t = begun s c false ∧
     b = bankArg t c ∧ d = bankCheck t b.1 ∧ d ≠ 0 ∧ d ≠ 3) ∧
    (∃ (s : State) (c : Cmd) (t : State) (b : _), Admits s c 0x0D02 true free_ ∧ t = begun s c true ∧ b = bankArg t c ∧
     (if b.1 then t.sys.verified.2 else t.sys.verified.1) = false) ∧
    (∃ (s : State) (c : Cmd) (t : State) (b : _), Admits s c 0x0D02 true free_ ∧ t = begun s c true ∧ b = bankArg t c ∧
     (if b.1 then t.sys.verified.2 else t.sys.verified.1) = true ∧ (t.isPair = false ∨ t.pair.partnerFw = none)) ∧
    (∃ (s : State) (c : Cmd) (t : State), Admits s c 0x0D03 true free_ ∧ t = begun s c true ∧
     (t.isPair = false ∨ t.pair.partnerFw = none)) :=
  ⟨⟨State.reset, plain 0x0D01 [], _, _, _, admits (by decide +kernel), rfl, rfl, rfl, by decide +kernel, by decide +kernel⟩,
   ⟨keyed, signed keyed 0x0D02 [], _, _, signs (by decide +kernel), (begins (by decide +kernel)).symm, rfl,
   by decide +kernel⟩,
   ⟨keyIn { State.reset with sys.verified := (true, true) }, signed (keyIn { State.reset with sys.verified := (true, true) }) 0x0D02 [], _, _, signs (by decide +kernel), (begins (by decide +kernel)).symm,
   rfl, by decide +kernel, by decide +kernel⟩,
   ⟨keyed, signed keyed 0x0D03 [], _, signs (by decide +kernel), (begins (by decide +kernel)).symm, by decide +kernel⟩⟩

/-- What Obligations.SystemCommands asks of states and operands is met, clause by clause, part 7. -/
theorem witness_SystemCommands_7 :
    (∃ (s : State) (c : Cmd) (t : State) (e : _), Admits s c 0x0D03 true free_ ∧ t = begun s c true ∧ t.isPair = true ∧
     t.pair.partnerFw = some e) ∧
    (∃ (s : State) (c : Cmd) (t : State) (k : _) (b : _), Admits s c 0x0D05 true free_ ∧ t = begun s c true ∧
     (k = (keyArgs c).1 0) ∧ (b = (c.params.drop 4).take (keyLen k)) ∧ ((k ≠ 0 ∨ bySideband c = true)) ∧
     ((k = 0 ∨ runningSlot t ≠ some k ∨ t.key k = none)) ∧ (keyArgs c).1 1 = 0 ∧ keyGood k b = true) ∧
    (∃ (s : State) (c : Cmd) (t : State) (k : _) (b : _), Admits s c 0x0D05 true free_ ∧ t = begun s c true ∧
     (k = (keyArgs c).1 0) ∧ (b = (c.params.drop 4).take (keyLen k)) ∧ ((k ≠ 0 ∨ bySideband c = true)) ∧
     ((k = 0 ∨ runningSlot t ≠ some k ∨ t.key k = none)) ∧ (keyArgs c).1 1 = 0 ∧ keyGood k b = false) ∧
    (∃ (s : State) (c : Cmd) (t : State) (k : _), Admits s c 0x0D05 true free_ ∧ t = begun s c true ∧
     (k = (keyArgs c).1 0) ∧ ((k ≠ 0 ∨ bySideband c = true)) ∧ ((k = 0 ∨ runningSlot t ≠ some k ∨ t.key k = none)) ∧
     (keyArgs c).1 1 = 1) :=
  ⟨⟨keyIn { State.reset with sys.role := 1, pair.partnerFw := some 0 }, signed (keyIn { State.reset with sys.role := 1, pair.partnerFw := some 0 }) 0x0D03 [], _, 0, signs (by decide +kernel), (begins (by decide +kernel)).symm,
   by decide +kernel, by decide +kernel⟩,
   ⟨keyed, signed keyed 0x0D05 ([1, 0, 0, 0] ++ aKeyX), _, _, _, signs (by decide +kernel), (begins (by decide +kernel)).symm,
   rfl, rfl, by decide +kernel, by decide +kernel, by decide +kernel, by decide +kernel⟩,
   ⟨keyed, signed keyed 0x0D05 [1], _, _, _, signs (by decide +kernel), (begins (by decide +kernel)).symm, rfl, rfl,
   by decide +kernel, by decide +kernel, by decide +kernel, by decide +kernel⟩,
   ⟨keyed, signed keyed 0x0D05 [1, 1], _, _, signs (by decide +kernel), (begins (by decide +kernel)).symm, rfl,
   by decide +kernel, by decide +kernel, by decide +kernel⟩⟩

/-- What Obligations.SystemCommands asks of states and operands is met, clause by clause, part 8. -/
theorem witness_SystemCommands_8 :
    (∃ (s : State) (c : Cmd) (k : _), Admits s c 0x0D05 true free_ ∧ (k = (keyArgs c).1 0) ∧ k = 0 ∧ bySideband c = false ∧
     (keyArgs c).1 1 = 0) ∧
    (∃ (s : State) (c : Cmd) (t : State) (k : _), Admits s c 0x0D05 true free_ ∧ t = begun s c true ∧
     (k = (keyArgs c).1 0) ∧ k ≠ 0 ∧ (t.key k).isSome = true ∧ runningSlot t = some k ∧ (keyArgs c).1 1 = 1) ∧
    (∃ (s : State) (c : Cmd), Admits s c 0x0E00 false free_) ∧
    (∃ (s : State) (c : Cmd) (m : _), Admits s c 0x0E01 false free_ ∧ m = args c 1 [parAny 0 1 0] ∧ m.1 0 = 0) :=
  ⟨⟨keyed, signed keyed 0x0D05 [], _, signs (by decide +kernel), rfl, by decide +kernel, by decide +kernel,
   by decide +kernel⟩,
   ⟨keyIn (setKey (crockWrite { State.reset with sys.romOnly := false } (bankBase false) (anImage 0)) 1 (some aKeyX)), signed (keyIn (setKey (crockWrite { State.reset with sys.romOnly := false } (bankBase false) (anImage 0)) 1 (some aKeyX))) 0x0D05 [1, 1], _, _, signs (by decide +kernel), (begins (by decide +kernel)).symm,
   rfl, by decide +kernel, by decide +kernel, by decide +kernel, by decide +kernel⟩,
   ⟨State.reset, plain 0x0E00 [], admits (by decide +kernel)⟩,
   ⟨State.reset, plain 0x0E01 [], _, admits (by decide +kernel), rfl, by decide +kernel⟩⟩

/-- What Obligations.SystemCommands asks of states and operands is met, clause by clause, part 9. -/
theorem witness_SystemCommands_9 :
    (∃ (s : State) (c : Cmd) (m : _), Admits s c 0x0E01 false free_ ∧ m = args c 1 [parAny 0 1 0] ∧ m.1 0 = 1 ∧
     (c.auth = true ∨ cmdUp c = none)) ∧
    (∃ (s : State) (c : Cmd) (m : _) (u : Up), Admits s c 0x0E01 false free_ ∧ m = args c 1 [parAny 0 1 0] ∧ m.1 0 = 1 ∧
     c.auth = false ∧ cmdUp c = some u) ∧
    (∃ (s : State) (c : Cmd), Admits s c 0x0E02 false free_) ∧
    (∃ (s : State) (c : Cmd), Admits s c 0x0E03 false free_) :=
  ⟨⟨keyed, { plain 0x0E01 [1] with tr := .smbus }, _, admits (by decide +kernel), rfl, by decide +kernel, by decide +kernel⟩,
   ⟨State.reset, plain 0x0E01 [1], _, .a, admits (by decide +kernel), rfl, by decide +kernel, by decide +kernel,
   by decide +kernel⟩,
   ⟨State.reset, plain 0x0E02 [], admits (by decide +kernel)⟩,
   ⟨State.reset, plain 0x0E03 [], admits (by decide +kernel)⟩⟩

/-- What Obligations.SystemCommands asks of states and operands is met, clause by clause, part 10. -/
theorem witness_SystemCommands_10 :
    ∃ (s : State) (c : Cmd), Admits s c 0x0E04 true free_ :=
  ⟨keyed, signed keyed 0x0E04 [], signs (by decide +kernel)⟩

/-- What Obligations.PortCommands asks of states and operands is met, clause by clause, part 1. -/
theorem witness_PortCommands_1 :
    (∃ (s : State) (c : Cmd), Admits s c 0x0100 false free_) ∧
    (∃ (s : State) (c : Cmd), Admits s c 0x0201 false free_) ∧
    (∃ (s : State) (c : Cmd), Admits s c 0x0204 false free_) ∧
    (∃ (s : State) (c : Cmd), Admits s c 0x0203 false free_) :=
  ⟨⟨State.reset, plain 0x0100 [], admits (by decide +kernel)⟩,
   ⟨State.reset, plain 0x0201 [], admits (by decide +kernel)⟩,
   ⟨State.reset, plain 0x0204 [], admits (by decide +kernel)⟩,
   ⟨State.reset, plain 0x0203 [], admits (by decide +kernel)⟩⟩

/-- What Obligations.PortCommands asks of states and operands is met, clause by clause, part 2. -/
theorem witness_PortCommands_2 :
    (∃ (s : State) (c : Cmd), s.pages 4 ((args c 6 [par 0 8 1 1 32, parAny 16 16 0, parAny 32 16 4088]).1 0) 0 = 0) ∧
    (∃ (s : State) (c : Cmd) (t : State) (a : _) (p : _), Admits s c 0x0101 false (fun s c => foreignPort s c (portArg c)) ∧
     t = begun s c false ∧ a = args c 3 [par 0 8 1 1 32, newOwner, parAny 16 1 1] ∧ p = a.1 0 ∧ (t.port p).id.owner = .lent) ∧
    (∃ (s : State) (c : Cmd) (t : State) (a : _) (p : _), Admits s c 0x0101 false (fun s c => foreignPort s c (portArg c)) ∧
     t = begun s c false ∧ a = args c 3 [par 0 8 1 1 32, newOwner, parAny 16 1 1] ∧ p = a.1 0 ∧
     (t.port p).id.owner ≠ .lent ∧ portBusy (t.port p) = true) ∧
    (∃ (s : State) (c : Cmd) (t : State) (a : _) (p : _) (o : _), Admits s c 0x0101 false (fun s c => foreignPort s c (portArg c)) ∧
     t = begun s c false ∧ a = args c 3 [par 0 8 1 1 32, newOwner, parAny 16 1 1] ∧ p = a.1 0 ∧ o = ownerOf (a.1 1) ∧
     (t.port p).id.owner ≠ .lent ∧ portBusy (t.port p) = false ∧ (t.port p).id.owner = o) :=
  ⟨⟨{ State.reset with plan.regions := [] : State }, plain 0 [], by decide +kernel⟩,
   ⟨State.reset.modPort 1 (fun x => { x with id.owner := .lent }), { plain 0x0101 [] with tr := .smbus }, _, _, _, admits (by decide +kernel),
   rfl, rfl, rfl, by decide +kernel⟩,
   ⟨State.reset.modPort 1 (fun x => { x with id.st := .draining }), plain 0x0101 [], _, _, _, admits (by decide +kernel),
   rfl, rfl, rfl, by decide +kernel, by decide +kernel⟩,
   ⟨State.reset.modPort 1 (fun x => { x with id.owner := .upA }), plain 0x0101 [1, 0], _, _, _, _, admits (by decide +kernel),
   rfl, rfl, rfl, rfl, by decide +kernel, by decide +kernel, by decide +kernel⟩⟩

/-- What Obligations.PortCommands asks of states and operands is met, clause by clause, part 3. -/
theorem witness_PortCommands_3 :
    (∃ (s : State) (c : Cmd) (t : State) (a : _) (p : _) (o : _), Admits s c 0x0101 false (fun s c => foreignPort s c (portArg c)) ∧
     t = begun s c false ∧ a = args c 3 [par 0 8 1 1 32, newOwner, parAny 16 1 1] ∧ p = a.1 0 ∧ o = ownerOf (a.1 1) ∧
     (t.port p).id.owner ≠ .lent ∧ portBusy (t.port p) = false ∧ (t.port p).id.owner ≠ o) ∧
    (∃ (s : State) (p : Nat), (s.port p).id.eff = .translated ∧ ((s.port p).id.st = .presented ∨ (s.port p).id.st = .live)) ∧
    (∃ (s : State) (p : Nat), (s.port p).drain = none) ∧
    (∃ (s : State) (p : Nat) (d : _), (s.port p).drain = some d ∧ (s.port p).px.drained = false) :=
  ⟨⟨State.reset, plain 0x0101 [], _, _, _, _, admits (by decide +kernel), rfl, rfl, rfl, rfl, by decide +kernel,
   by decide +kernel, by decide +kernel⟩,
   ⟨State.reset.modPort 1 (fun x => { x with id.eff := .translated, id.st := .presented }), 1, by decide +kernel,
   by decide +kernel⟩,
   ⟨State.reset.modPort 1 (fun x => { x with drain := none }), 1, by decide +kernel⟩,
   ⟨State.reset.modPort 1 (fun x => { x with drain := some {}, px.ctrl.active := true, px.ctrl.forwarded := true }), 1, {},
   rfl, by decide +kernel⟩⟩

/-- What Obligations.PortCommands asks of states and operands is met, clause by clause, part 4. -/
theorem witness_PortCommands_4 :
    (∃ (s : State) (p : Nat) (d : _), (s.port p).drain = some d ∧ d.what ≠ 0 ∧ d.ready = false) ∧
    (∃ (s : State) (p : Nat) (d : _), (s.port p).drain = some d ∧ d.what = 1 ∧ d.ready = true ∧ (s.port p).px.drained = true) ∧
    (∃ (s : State) (p : Nat) (d : _), (s.port p).drain = some d ∧ d.what = 0 ∧ (s.port p).px.drained = true) ∧
    (∃ (s : State) (c : Cmd) (t : State) (a : _) (p : _), Admits s c 0x0102 false (fun s c => foreignPort s c (portArg c)) ∧
     t = begun s c false ∧ a = args c 1 [par 0 8 1 1 32] ∧ p = a.1 0 ∧ (t.port p).id.st ≠ .filling ∧
     (t.port p).id.owner ≠ .lent ∧ (t.port p).dpe ≠ .testing ∧ portBusy (t.port p) = false ∧
     (t.port p).id.eff = .translated ∧ (t.port p).id.st ≠ .vacant) :=
  ⟨⟨State.reset.modPort 1 (fun x => { x with drain := some { what := 1 } }), 1, { what := 1 }, rfl, by decide +kernel,
   by decide +kernel⟩,
   ⟨State.reset.modPort 1 (fun x => { x with drain := some { what := 1, ready := true } }), 1, { what := 1, ready := true },
   rfl, by decide +kernel, by decide +kernel, by decide +kernel⟩,
   ⟨State.reset.modPort 1 (fun x => { x with drain := some { what := 0 } }), 1, { what := 0 }, rfl, by decide +kernel,
   by decide +kernel⟩,
   ⟨State.reset.modPort 1 (fun x => { x with id.eff := .translated, id.st := .presented }), plain 0x0102 [], _, _, _, admits (by decide +kernel),
   rfl, rfl, rfl, by decide +kernel, by decide +kernel, by decide +kernel, by decide +kernel, by decide +kernel,
   by decide +kernel⟩⟩

/-- What Obligations.PortCommands asks of states and operands is met, clause by clause, part 5. -/
theorem witness_PortCommands_5 :
    (∃ (s : State) (c : Cmd) (t : State) (a : _) (p : _), Admits s c 0x0102 false (fun s c => foreignPort s c (portArg c)) ∧
     t = begun s c false ∧ a = args c 1 [par 0 8 1 1 32] ∧ p = a.1 0 ∧ (t.port p).id.st ≠ .filling ∧
     (t.port p).id.owner ≠ .lent ∧ (t.port p).dpe ≠ .testing ∧ portBusy (t.port p) = false ∧
     (t.port p).id.eff = .transparent ∧ vacantNow t p = false) ∧
    (∃ (s : State) (c : Cmd) (t : State) (a : _) (p : _), Admits s c 0x0102 false (fun s c => foreignPort s c (portArg c)) ∧
     t = begun s c false ∧ a = args c 1 [par 0 8 1 1 32] ∧ p = a.1 0 ∧ (t.port p).id.st ≠ .filling ∧
     (t.port p).id.owner ≠ .lent ∧ (t.port p).dpe ≠ .testing ∧ portBusy (t.port p) = false ∧
     (t.port p).id.eff = .transparent ∧ vacantNow t p = true) ∧
    (∃ (s : State) (c : Cmd) (t : State) (a : _) (p : _), Admits s c 0x0102 false (fun s c => foreignPort s c (portArg c)) ∧
     t = begun s c false ∧ a = args c 1 [par 0 8 1 1 32] ∧ p = a.1 0 ∧
     ((t.port p).id.st = .filling ∨ (t.port p).id.owner = .lent ∨ (t.port p).dpe = .testing ∨ ((t.port p).id.eff = .translated ∧
     (t.port p).id.st = .vacant))) ∧
    (∃ (s : State) (p : Nat), (s.port p).id.eff = .transparent ∧ 8 < p) :=
  ⟨⟨State.reset.modPort 1 (fun x => { x with id.eff := .transparent, dpe := .enabled }), plain 0x0102 [], _, _, _, admits (by decide +kernel),
   rfl, rfl, rfl, by decide +kernel, by decide +kernel, by decide +kernel, by decide +kernel, by decide +kernel,
   by decide +kernel⟩,
   ⟨State.reset.modPort 1 (fun x => { x with id.eff := .transparent }), plain 0x0102 [], _, _, _, admits (by decide +kernel),
   rfl, rfl, rfl, by decide +kernel, by decide +kernel, by decide +kernel, by decide +kernel, by decide +kernel,
   by decide +kernel⟩,
   ⟨State.reset.modPort 1 (fun x => { x with id.st := .filling }), plain 0x0102 [], _, _, _, admits (by decide +kernel),
   rfl, rfl, rfl, by decide +kernel⟩,
   ⟨State.reset.modPort 32 (fun x => { x with id.eff := .transparent }), 32, by decide +kernel, by decide +kernel⟩⟩

/-- What Obligations.PortCommands asks of states and operands is met, clause by clause, part 6. -/
theorem witness_PortCommands_6 :
    (∃ (s : State) (c : Cmd) (t : State), Admits s c 0x0200 false planForeign ∧ t = begun s c false ∧ t.plan.next = none) ∧
    (∃ (s : State) (c : Cmd) (t : State), Admits s c 0x0200 false planForeign ∧ t = begun s c false ∧
     t.plan.next.isSome = true) ∧
    (∃ (c : Cmd), c.params = []) ∧
    (∃ (c : Cmd), c.params ≠ []) :=
  ⟨⟨{ State.reset with plan.next := none : State }, plain 0x0200 [], _, admits (by decide +kernel), rfl, by decide +kernel⟩,
   ⟨{ State.reset with plan.next := some ([], 0, false) : State }, plain 0x0200 [], _, admits (by decide +kernel), rfl,
   by decide +kernel⟩,
   ⟨plain 0 [], by decide +kernel⟩,
   ⟨plain 0 [1], by decide +kernel⟩⟩

/-- What Obligations.PortCommands asks of states and operands is met, clause by clause, part 7. -/
theorem witness_PortCommands_7 :
    (∃ (s : State) (c : Cmd) (t : State) (a : _), Admits s c 0x0202 false (fun s c => foreignPort s c (portArg c)) ∧
     t = begun s c false ∧
     a = args c 2 [par 0 8 1 1 32, parElse 8 8 (defaultMode t (portArg c)) 1 (defaultMode t (portArg c))] ∧ (¬ (a.1 1 = 1 ∧
     t.pages 4 (portArg c) 0 = 0))) ∧
    (∃ (s : State) (c : Cmd) (t : State) (a : _), Admits s c 0x0202 false (fun s c => foreignPort s c (portArg c)) ∧
     t = begun s c false ∧
     a = args c 2 [par 0 8 1 1 32, parElse 8 8 (defaultMode t (portArg c)) 1 (defaultMode t (portArg c))] ∧ a.1 1 = 1 ∧
     t.pages 4 (portArg c) 0 = 0) ∧
    (∃ (s : State) (c : Cmd) (t : State) (a : _) (p : _), Admits s c 0x0205 false (fun s c => foreignPort s c (portArg c)) ∧
     t = begun s c false ∧ a = args c 1 [par 0 8 1 1 32] ∧ p = a.1 0 ∧ (t.port p).dpe ≠ .testing ∧
     (t.port p).id.eff = .translated ∧ ((t.port p).id.st = .presented ∨ (t.port p).id.st = .live) ∧ t.pages 4 p 0 = 0) ∧
    (∃ (s : State) (c : Cmd) (t : State) (a : _) (p : _), Admits s c 0x0205 false (fun s c => foreignPort s c (portArg c)) ∧
     t = begun s c false ∧ a = args c 1 [par 0 8 1 1 32] ∧ p = a.1 0 ∧ (t.port p).dpe ≠ .testing ∧
     (t.port p).id.eff = .translated ∧ ((t.port p).id.st = .presented ∨ (t.port p).id.st = .live) ∧ t.pages 4 p 0 ≠ 0 ∧
     (t.port p).refillNext.isSome = true) :=
  ⟨⟨State.reset, plain 0x0202 [], _, _, admits (by decide +kernel), rfl, rfl, by decide +kernel⟩,
   ⟨{ State.reset with plan.regions := [] : State }, plain 0x0202 [1, 1], _, _, admits (by decide +kernel), rfl, rfl,
   by decide +kernel, by decide +kernel⟩,
   ⟨({ State.reset with plan.regions := [] : State }).modPort 1 (fun x => { x with id.eff := .translated, id.st := .live }), plain 0x0205 [], _, _, _, admits (by decide +kernel),
   rfl, rfl, rfl, by decide +kernel, by decide +kernel, by decide +kernel, by decide +kernel⟩,
   ⟨State.reset.modPort 1 (fun x => { x with id.eff := .translated, id.st := .presented, refillNext := some default }), plain 0x0205 [], _, _, _, admits (by decide +kernel),
   rfl, rfl, rfl, by decide +kernel, by decide +kernel, by decide +kernel, by decide +kernel, by decide +kernel⟩⟩

/-- What Obligations.PortCommands asks of states and operands is met, clause by clause, part 8. -/
theorem witness_PortCommands_8 :
    (∃ (s : State) (c : Cmd) (t : State) (a : _) (p : _), Admits s c 0x0205 false (fun s c => foreignPort s c (portArg c)) ∧
     t = begun s c false ∧ a = args c 1 [par 0 8 1 1 32] ∧ p = a.1 0 ∧ (t.port p).dpe ≠ .testing ∧
     (t.port p).id.eff = .translated ∧ ((t.port p).id.st = .presented ∨ (t.port p).id.st = .live) ∧ t.pages 4 p 0 ≠ 0 ∧
     (t.port p).refillNext = none ∧ (t.port p).pxL1 = false) ∧
    (∃ (s : State) (c : Cmd) (t : State) (a : _) (p : _), Admits s c 0x0205 false (fun s c => foreignPort s c (portArg c)) ∧
     t = begun s c false ∧ a = args c 1 [par 0 8 1 1 32] ∧ p = a.1 0 ∧ (t.port p).dpe ≠ .testing ∧
     (t.port p).id.eff = .translated ∧ ((t.port p).id.st = .presented ∨ (t.port p).id.st = .live) ∧ t.pages 4 p 0 ≠ 0 ∧
     (t.port p).refillNext = none ∧ (t.port p).pxL1 = true) ∧
    (∃ (s : State) (c : Cmd) (t : State) (a : _) (p : _), Admits s c 0x0205 false (fun s c => foreignPort s c (portArg c)) ∧
     t = begun s c false ∧ a = args c 1 [par 0 8 1 1 32] ∧ p = a.1 0 ∧
     ((t.port p).id.eff = .transparent ∨ (t.port p).dpe = .testing ∨ ((t.port p).id.st ≠ .presented ∧
     (t.port p).id.st ≠ .live))) ∧
    (∃ (s : State) (c : Cmd) (t : State) (a : _) (p : _), Admits s c 0x0206 false (fun s c => foreignPort s c (portArg c)) ∧
     t = begun s c false ∧ a = args c 4 [par 0 8 1 1 32, parAny 8 8 0, parAny 16 1 0, par 24 8 34 34 41] ∧ p = a.1 0 ∧
     lendRefusal t p (a.1 1) = none) :=
  ⟨⟨State.reset.modPort 1 (fun x => { x with id.eff := .translated, id.st := .presented, refillNext := none, pxL1 := false }), plain 0x0205 [], _, _, _, admits (by decide +kernel),
   rfl, rfl, rfl, by decide +kernel, by decide +kernel, by decide +kernel, by decide +kernel, by decide +kernel,
   by decide +kernel⟩,
   ⟨State.reset.modPort 1 (fun x => { x with id.eff := .translated, id.st := .presented, refillNext := none, pxL1 := true }), plain 0x0205 [], _, _, _, admits (by decide +kernel),
   rfl, rfl, rfl, by decide +kernel, by decide +kernel, by decide +kernel, by decide +kernel, by decide +kernel,
   by decide +kernel⟩,
   ⟨State.reset.modPort 1 (fun x => { x with id.eff := .transparent }), plain 0x0205 [], _, _, _, admits (by decide +kernel),
   rfl, rfl, rfl, by decide +kernel⟩,
   ⟨({ State.reset with fab.nodeId := 1, fab.table := [{ dest := 2, upHop := some 0, dnHop := some 0, hops := 1 }], plan.regions := [{ kind := 3, owner := 1, pages := 2 }] : State }).modPort 1 (fun x => { x with id.eff := .translated, id.st := .live }), plain 0x0206 [1, 2], _, _, _, admits (by decide +kernel),
   rfl, rfl, rfl, by decide +kernel⟩⟩

/-- What Obligations.PortCommands asks of states and operands is met, clause by clause, part 9. -/
theorem witness_PortCommands_9 :
    (∃ (s : State) (c : Cmd) (t : State) (a : _) (st : _), Admits s c 0x0206 false (fun s c => foreignPort s c (portArg c)) ∧
     t = begun s c false ∧ a = args c 4 [par 0 8 1 1 32, parAny 8 8 0, parAny 16 1 0, par 24 8 34 34 41] ∧
     lendRefusal t (a.1 0) (a.1 1) = some st) ∧
    (∃ (s : State) (n : Nat), n ≠ 0 ∧ n ≠ s.fab.nodeId ∧ (240 < n ∨ s.hasRoute n = false)) ∧
    (∃ (s : State) (p : Nat) (n : Nat), n ≠ 0 ∧ n ≠ s.fab.nodeId ∧ n ≤ 240 ∧ s.hasRoute n = true ∧
     ((s.port p).id.eff = .transparent ∨ (s.port p).id.st = .vacant ∨ portBusy (s.port p) = true ∨ (s.port p).id.owner = .lent)) ∧
    (∃ (s : State) (c : Cmd) (t : State) (a : _) (p : _), (lendEndArgs c).1 0 = 0 ∧ Admits s c 0x0207 false recallForeign ∧
     t = begun s c false ∧ a = lendEndArgs c ∧ p = a.1 1 ∧ (t.port p).id.owner ≠ .lent) :=
  ⟨⟨State.reset, plain 0x0206 [], _, _, stRefusedState, admits (by decide +kernel), rfl, rfl, by decide +kernel⟩,
   ⟨State.reset, 241, by decide +kernel, by decide +kernel, by decide +kernel⟩,
   ⟨({ State.reset with fab.nodeId := 1, fab.table := [{ dest := 9, upHop := some 0, dnHop := none, hops := 1 }] : State }).modPort 1 (fun x => { x with id.eff := .transparent }), 1, 9,
   by decide +kernel, by decide +kernel, by decide +kernel, by decide +kernel, by decide +kernel⟩,
   ⟨State.reset, plain 0x0207 [], _, _, _, by decide +kernel, admits (by decide +kernel), rfl, rfl, rfl, by decide +kernel⟩⟩

/-- What Obligations.PortCommands asks of states and operands is met, clause by clause, part 10. -/
theorem witness_PortCommands_10 :
    (∃ (s : State) (c : Cmd) (t : State) (a : _) (p : _), (lendEndArgs c).1 0 = 0 ∧ Admits s c 0x0207 false recallForeign ∧
     t = begun s c false ∧ a = lendEndArgs c ∧ p = a.1 1 ∧ (t.port p).id.owner = .lent ∧
     (portBusy (t.port p) = true ∨ (t.port p).tun.openWait ≠ 0)) ∧
    (∃ (s : State) (c : Cmd) (t : State) (a : _) (p : _), (lendEndArgs c).1 0 = 0 ∧ Admits s c 0x0207 false recallForeign ∧
     t = begun s c false ∧ a = lendEndArgs c ∧ p = a.1 1 ∧ (t.port p).id.owner = .lent ∧ portBusy (t.port p) = false ∧
     (t.port p).tun.openWait = 0 ∧ t.hasRoute (t.port p).tun.node = false) ∧
    (∃ (s : State) (c : Cmd) (t : State) (a : _) (p : _), (lendEndArgs c).1 0 = 0 ∧ Admits s c 0x0207 false recallForeign ∧
     t = begun s c false ∧ a = lendEndArgs c ∧ p = a.1 1 ∧ (t.port p).id.owner = .lent ∧ portBusy (t.port p) = false ∧
     (t.port p).tun.openWait = 0 ∧ t.hasRoute (t.port p).tun.node = true) ∧
    (∃ (s : State) (c : Cmd) (t : State) (a : _) (u : _) (x : _), (lendEndArgs c).1 0 = 1 ∧
     Admits s c 0x0207 false (fun _ c => foreignUp c (releaseUp c)) ∧ t = begun s c false ∧ a = lendEndArgs c ∧
     u = releaseUp c ∧ x = t.vport u (a.1 3) ∧ x.used = false) :=
  ⟨⟨State.reset.modPort 1 (fun x => { x with id.owner := .lent, id.st := .draining }), plain 0x0207 [], _, _, _,
   by decide +kernel, admits (by decide +kernel), rfl, rfl, rfl, by decide +kernel, .inl (by decide +kernel)⟩,
   ⟨State.reset.modPort 1 (fun x => { x with id.owner := .lent, tun.openWait := 0 }), plain 0x0207 [], _, _, _,
   by decide +kernel, admits (by decide +kernel), rfl, rfl, rfl, by decide +kernel, by decide +kernel, by decide +kernel,
   by decide +kernel⟩,
   ⟨({ State.reset with fab.nodeId := 1, fab.table := [{ dest := 9, upHop := some 0, dnHop := none, hops := 1 }] : State }).modPort 1 (fun x => { x with id.owner := .lent, tun.node := 9 }), plain 0x0207 [], _, _, _,
   by decide +kernel, admits (by decide +kernel), rfl, rfl, rfl, by decide +kernel, by decide +kernel, by decide +kernel,
   by decide +kernel⟩,
   ⟨State.reset, plain 0x0207 [1], _, _, _, _, by decide +kernel, admits (by decide +kernel), rfl, rfl, rfl, rfl,
   by decide +kernel⟩⟩

/-- What Obligations.PortCommands asks of states and operands is met, clause by clause, part 11. -/
theorem witness_PortCommands_11 :
    (∃ (s : State) (c : Cmd) (t : State) (a : _) (u : _) (x : _), (lendEndArgs c).1 0 = 1 ∧
     Admits s c 0x0207 false (fun _ c => foreignUp c (releaseUp c)) ∧ t = begun s c false ∧ a = lendEndArgs c ∧
     u = releaseUp c ∧ x = t.vport u (a.1 3) ∧ x.used = true ∧ x.drain.isSome = true) ∧
    (∃ (s : State) (c : Cmd) (t : State) (a : _) (u : _) (x : _), (lendEndArgs c).1 0 = 1 ∧
     Admits s c 0x0207 false (fun _ c => foreignUp c (releaseUp c)) ∧ t = begun s c false ∧ a = lendEndArgs c ∧
     u = releaseUp c ∧ x = t.vport u (a.1 3) ∧ x.used = true ∧ x.drain = none ∧ t.hasRoute x.tun.node = false) ∧
    (∃ (s : State) (c : Cmd) (t : State) (a : _) (u : _) (x : _), (lendEndArgs c).1 0 = 1 ∧
     Admits s c 0x0207 false (fun _ c => foreignUp c (releaseUp c)) ∧ t = begun s c false ∧ a = lendEndArgs c ∧
     u = releaseUp c ∧ x = t.vport u (a.1 3) ∧ x.used = true ∧ x.drain = none ∧ t.hasRoute x.tun.node = true) :=
  ⟨⟨State.reset.modVPort .a 34 (fun x => { x with used := true, drain := some {} }), plain 0x0207 [1], _, _, _, _,
   by decide +kernel, admits (by decide +kernel), rfl, rfl, rfl, rfl, by decide +kernel, by decide +kernel⟩,
   ⟨State.reset.modVPort .a 34 (fun x => { x with used := true }), plain 0x0207 [1], _, _, _, _,
   by decide +kernel, admits (by decide +kernel), rfl, rfl, rfl, rfl, by decide +kernel, by decide +kernel,
   by decide +kernel⟩,
   ⟨({ State.reset with fab.nodeId := 1, fab.table := [{ dest := 9, upHop := some 0, dnHop := none, hops := 1 }] : State }).modVPort .a 34 (fun x => { x with used := true, tun.node := 9 }), plain 0x0207 [1], _, _, _, _,
   by decide +kernel, admits (by decide +kernel), rfl, rfl, rfl, rfl, by decide +kernel, by decide +kernel,
   by decide +kernel⟩⟩

/-- What Obligations.PowerCommands asks of states and operands is met, clause by clause, part 1. -/
theorem witness_PowerCommands_1 :
    (∃ (s : State) (c : Cmd), Admits s c 0x0300 false free_) ∧
    (∃ (s : State) (c : Cmd), Admits s c 0x0301 false free_) ∧
    (∃ (s : State) (c : Cmd), Admits s c 0x0302 false free_) :=
  ⟨⟨State.reset, plain 0x0300 [], admits (by decide +kernel)⟩,
   ⟨State.reset, plain 0x0301 [], admits (by decide +kernel)⟩,
   ⟨State.reset, plain 0x0302 [], admits (by decide +kernel)⟩⟩

/-- What Obligations.PowerCommands asks of states and operands is met, clause by clause, part 2. -/
theorem witness_PowerCommands_2 :
    (∃ (s : State) (c : Cmd), Admits s c 0x0400 false free_) ∧
    (∃ (s : State) (c : Cmd), Admits s c 0x0404 false free_) ∧
    (∃ (s : State) (c : Cmd), Admits s c 0x0502 false free_) :=
  ⟨⟨State.reset, plain 0x0400 [], admits (by decide +kernel)⟩,
   ⟨State.reset, plain 0x0404 [], admits (by decide +kernel)⟩,
   ⟨State.reset, plain 0x0502 [], admits (by decide +kernel)⟩⟩

/-- What Obligations.PowerCommands asks of states and operands is met, clause by clause, part 3. -/
theorem witness_PowerCommands_3 :
    (∃ (s : State) (c : Cmd), Admits s c 0x0504 false free_) ∧
    (∃ (s : State) (c : Cmd), Admits s c 0x0506 false free_) ∧
    (∃ (s : State) (c : Cmd), Admits s c 0x0500 false free_) :=
  ⟨⟨State.reset, plain 0x0504 [], admits (by decide +kernel)⟩,
   ⟨State.reset, plain 0x0506 [], admits (by decide +kernel)⟩,
   ⟨State.reset, plain 0x0500 [], admits (by decide +kernel)⟩⟩

/-- What Obligations.PowerCommands asks of states and operands is met, clause by clause, part 4. -/
theorem witness_PowerCommands_4 :
    (∃ (s : State) (c : Cmd), Admits s c 0x0303 true free_) ∧
    (∃ (s : State) (c : Cmd), Admits s c 0x0401 true free_) ∧
    (∃ (s : State) (c : Cmd) (t : State) (n : _), Admits s c 0x0304 false (fun s c => foreignSel s c ((actionArgs c).1 0)) ∧
     t = begun s c false ∧ (n = (actionArgs c).1 0) ∧ (actionArgs c).1 1 = 0 ∧ actionRefused t n 0 = true) :=
  ⟨⟨keyed, signed keyed 0x0303 [], signs (by decide +kernel)⟩,
   ⟨keyed, signed keyed 0x0401 [], signs (by decide +kernel)⟩,
   ⟨State.reset, plain 0x0304 [], _, _, admits (by decide +kernel), rfl, rfl, by decide +kernel, by decide +kernel⟩⟩

/-- What Obligations.PowerCommands asks of states and operands is met, clause by clause, part 5. -/
theorem witness_PowerCommands_5 :
    (∃ (s : State) (c : Cmd) (t : State) (n : _), Admits s c 0x0304 false (fun s c => foreignSel s c ((actionArgs c).1 0)) ∧
     t = begun s c false ∧ (n = (actionArgs c).1 0) ∧ (actionArgs c).1 1 = 1 ∧ actionRefused t n 1 = true) ∧
    (∃ (s : State) (c : Cmd) (t : State) (n : _), Admits s c 0x0304 false (fun s c => foreignSel s c ((actionArgs c).1 0)) ∧
     t = begun s c false ∧ (n = (actionArgs c).1 0) ∧ (actionArgs c).1 1 = 2 ∧ actionRefused t n 2 = true) ∧
    (∃ (s : State) (c : Cmd) (t : State) (n : _), Admits s c 0x0304 false (fun s c => foreignSel s c ((actionArgs c).1 0)) ∧
     t = begun s c false ∧ (n = (actionArgs c).1 0) ∧ (actionArgs c).1 1 = 3 ∧ actionRefused t n 3 = true) :=
  ⟨⟨State.reset, plain 0x0304 [1, 1], _, _, admits (by decide +kernel), rfl, rfl, by decide +kernel, by decide +kernel⟩,
   ⟨State.reset, plain 0x0304 [1, 2], _, _, admits (by decide +kernel), rfl, rfl, by decide +kernel, by decide +kernel⟩,
   ⟨State.reset, plain 0x0304 [1, 3], _, _, admits (by decide +kernel), rfl, rfl, by decide +kernel, by decide +kernel⟩⟩

/-- What Obligations.PowerCommands asks of states and operands is met, clause by clause, part 6. -/
theorem witness_PowerCommands_6 :
    (∃ (s : State) (c : Cmd) (t : State) (n : _), Admits s c 0x0304 false (fun s c => foreignSel s c ((actionArgs c).1 0)) ∧
     t = begun s c false ∧ (n = (actionArgs c).1 0) ∧ (actionArgs c).1 1 = 4 ∧ actionRefused t n 4 = true) ∧
    (∃ (s : State) (c : Cmd) (t : State) (n : _), Admits s c 0x0304 false (fun s c => foreignSel s c ((actionArgs c).1 0)) ∧
     t = begun s c false ∧ (n = (actionArgs c).1 0) ∧ (actionArgs c).1 1 = 5 ∧ actionRefused t n 5 = true) ∧
    (∃ (s : State) (c : Cmd) (t : State) (n : _), Admits s c 0x0304 false (fun s c => foreignSel s c ((actionArgs c).1 0)) ∧
     t = begun s c false ∧ (n = (actionArgs c).1 0) ∧ (t.pde n).action = none ∧ (actionArgs c).1 1 = 0 ∧
     actionRefused t n 0 = false) :=
  ⟨⟨State.reset, plain 0x0304 [1, 4], _, _, admits (by decide +kernel), rfl, rfl, by decide +kernel, by decide +kernel⟩,
   ⟨State.reset, plain 0x0304 [1, 5], _, _, admits (by decide +kernel), rfl, rfl, by decide +kernel, by decide +kernel⟩,
   ⟨State.reset.modPde 1 (fun x => { x with contract := some {} }), plain 0x0304 [1, 0], _, _, admits (by decide +kernel),
   rfl, rfl, by decide +kernel, by decide +kernel, by decide +kernel⟩⟩

/-- What Obligations.PowerCommands asks of states and operands is met, clause by clause, part 7. -/
theorem witness_PowerCommands_7 :
    (∃ (s : State) (c : Cmd) (t : State) (n : _), Admits s c 0x0304 false (fun s c => foreignSel s c ((actionArgs c).1 0)) ∧
     t = begun s c false ∧ (n = (actionArgs c).1 0) ∧ (t.pde n).action = none ∧ (actionArgs c).1 1 = 1 ∧
     actionRefused t n 1 = false) ∧
    (∃ (s : State) (c : Cmd) (t : State) (n : _), Admits s c 0x0304 false (fun s c => foreignSel s c ((actionArgs c).1 0)) ∧
     t = begun s c false ∧ (n = (actionArgs c).1 0) ∧ (t.pde n).action = none ∧ (actionArgs c).1 1 = 4 ∧
     actionRefused t n 4 = false) ∧
    (∃ (s : State) (c : Cmd) (t : State) (n : _), Admits s c 0x0304 false (fun s c => foreignSel s c ((actionArgs c).1 0)) ∧
     t = begun s c false ∧ (n = (actionArgs c).1 0) ∧ (t.pde n).action = none ∧ (actionArgs c).1 1 = 5 ∧
     actionRefused t n 5 = false) :=
  ⟨⟨State.reset.modPde 1 (fun x => { x with contract := some {} }), plain 0x0304 [1, 1], _, _, admits (by decide +kernel),
   rfl, rfl, by decide +kernel, by decide +kernel, by decide +kernel⟩,
   ⟨State.reset.modPde 33 (fun x => { x with cc := .attachedSrc, set.upPrSwap := true }), { plain 0x0304 [33, 4] with tr := .smbus }, _, _, admits (by decide +kernel),
   rfl, rfl, by decide +kernel, by decide +kernel, by decide +kernel⟩,
   ⟨State.reset.modPde 33 (fun x => { x with cc := .attachedSrc, contract := some {} }), { plain 0x0304 [33, 5] with tr := .smbus }, _, _, admits (by decide +kernel),
   rfl, rfl, by decide +kernel, by decide +kernel, by decide +kernel⟩⟩

/-- What Obligations.PowerCommands asks of states and operands is met, clause by clause, part 8. -/
theorem witness_PowerCommands_8 :
    (∃ (s : State) (c : Cmd) (t : State) (n : _), Admits s c 0x0304 false (fun s c => foreignSel s c ((actionArgs c).1 0)) ∧
     t = begun s c false ∧ (n = (actionArgs c).1 0) ∧ (t.pde n).action.isSome = true ∧ (actionArgs c).1 1 = 0 ∧
     actionRefused t n 0 = false) ∧
    (∃ (s : State) (c : Cmd) (t : State) (n : _), Admits s c 0x0304 false (fun s c => foreignSel s c ((actionArgs c).1 0)) ∧
     t = begun s c false ∧ (n = (actionArgs c).1 0) ∧ (actionArgs c).1 1 = 2 ∧ actionRefused t n 2 = false) ∧
    (∃ (s : State) (c : Cmd) (t : State) (n : _), Admits s c 0x0304 false (fun s c => foreignSel s c ((actionArgs c).1 0)) ∧
     t = begun s c false ∧ (n = (actionArgs c).1 0) ∧ (actionArgs c).1 1 = 3 ∧ actionRefused t n 3 = false) :=
  ⟨⟨State.reset.modPde 1 (fun x => { x with contract := some {}, action := some 0 }), plain 0x0304 [1, 0], _, _, admits (by decide +kernel),
   rfl, rfl, by decide +kernel, by decide +kernel, by decide +kernel⟩,
   ⟨State.reset.modPde 1 (fun x => { x with cc := .attachedSrc }), plain 0x0304 [1, 2], _, _, admits (by decide +kernel),
   rfl, rfl, by decide +kernel, by decide +kernel⟩,
   ⟨State.reset.modPde 1 (fun x => { x with cc := .attachedSrc }), plain 0x0304 [1, 3], _, _, admits (by decide +kernel),
   rfl, rfl, by decide +kernel, by decide +kernel⟩⟩

/-- What Obligations.PowerCommands asks of states and operands is met, clause by clause, part 9. -/
theorem witness_PowerCommands_9 :
    (∃ (s : State) (n : Nat), (s.pde n).action.isSome = true ∧ (s.pde n).amsIdle = false) ∧
    (∃ (s : State) (n : Nat), (s.pde n).action.isSome = true ∧ (s.pde n).amsIdle = true ∧ (s.pde n).avoids = true ∧
     (s.pde n).ng = false) ∧
    (∃ (s : State) (n : Nat), (s.pde n).action.isSome = true ∧ (s.pde n).amsIdle = true ∧
     ((s.pde n).avoids = false ∨ (s.pde n).ng = true)) :=
  ⟨⟨State.reset.modPde 1 (fun x => { x with action := some default }), 1, by decide +kernel, by decide +kernel⟩,
   ⟨State.reset.modPde 1 (fun x => { x with cc := .attachedSrc, pe := .ready, contract := some {}, rev := some 2, action := some 0 }), 1,
   by decide +kernel, by decide +kernel, by decide +kernel, by decide +kernel⟩,
   ⟨State.reset.modPde 1 (fun x => { x with pe := .ready, action := some 0 }), 1, by decide +kernel, by decide +kernel,
   by decide +kernel⟩⟩

/-- What Obligations.PowerCommands asks of states and operands is met, clause by clause, part 10. -/
theorem witness_PowerCommands_10 :
    (∃ (s : State) (n : Nat), (s.pde n).action = none) ∧
    (∃ (s : State) (c : Cmd), Admits s c 0x0402 false (fun s c => foreignPort s c (portArg c))) ∧
    (∃ (s : State) (c : Cmd) (a : _) (l : _), Admits s c 0x0403 false free_ ∧ a = span c 3 1 36 1 [parAny 16 2 0] ∧
     (l = (List.range a.2.2.1).map (fun i => a.2.1 + i)) ∧ l.isEmpty = false) :=
  ⟨⟨State.reset.modPde 1 (fun x => { x with action := none }), 1, by decide +kernel⟩,
   ⟨State.reset, plain 0x0402 [], admits (by decide +kernel)⟩,
   ⟨State.reset, plain 0x0403 [], _, _, admits (by decide +kernel), rfl, rfl, by decide +kernel⟩⟩

/-- What Obligations.PowerCommands asks of states and operands is met, clause by clause, part 11. -/
theorem witness_PowerCommands_11 :
    (∃ (s : State) (c : Cmd) (a : _) (l : _), Admits s c 0x0403 false free_ ∧ a = span c 3 1 36 1 [parAny 16 2 0] ∧
     (l = (List.range a.2.2.1).map (fun i => a.2.1 + i)) ∧ l.isEmpty = true) ∧
    (∃ (s : State) (c : Cmd) (t : State) (a : _) (n : _), Admits s c 0x0405 true free_ ∧ t = begun s c true ∧
     a = args c 1 [selPar 1 34] ∧ n = a.1 0 ∧
     ((t.conv n).cst = .unnamed ∨ (t.ppc n).st = .ramp ∨ (t.ppc n).st = .on ∨ (t.ppc n).st = .transition ∨ (t.ppc n).st = .frozen)) ∧
    (∃ (s : State) (c : Cmd) (t : State) (a : _) (n : _), Admits s c 0x0405 true free_ ∧ t = begun s c true ∧
     a = args c 1 [selPar 1 34] ∧ n = a.1 0 ∧ (t.ppc n).st ≠ .ramp ∧ (t.ppc n).st ≠ .on ∧ (t.ppc n).st ≠ .transition ∧
     (t.ppc n).st ≠ .frozen ∧ (t.conv n).cst ≠ .unnamed ∧ (t.conv n).wait ≠ 0) :=
  ⟨⟨State.reset, plain 0x0403 [1, 0], _, _, admits (by decide +kernel), rfl, rfl, by decide +kernel⟩,
   ⟨keyIn (State.reset.modConv 1 (fun x => { x with cst := .unnamed })), signed (keyIn (State.reset.modConv 1 (fun x => { x with cst := .unnamed }))) 0x0405 [], _, _, _, signs (by decide +kernel), (begins (by decide +kernel)).symm,
   rfl, rfl, by decide +kernel⟩,
   ⟨keyIn (State.reset.modConv 1 (fun x => { x with wait := 1, cst := .ready })), signed (keyIn (State.reset.modConv 1 (fun x => { x with wait := 1, cst := .ready }))) 0x0405 [], _, _, _, signs (by decide +kernel), (begins (by decide +kernel)).symm,
   rfl, rfl, by decide +kernel, by decide +kernel, by decide +kernel, by decide +kernel, by decide +kernel,
   by decide +kernel⟩⟩

/-- What Obligations.PowerCommands asks of states and operands is met, clause by clause, part 12. -/
theorem witness_PowerCommands_12 :
    (∃ (s : State) (c : Cmd) (t : State) (a : _) (n : _) (w : _) (t1 : State), Admits s c 0x0405 true free_ ∧
     t = begun s c true ∧ a = args c 1 [selPar 1 34] ∧ n = a.1 0 ∧ (t.ppc n).st ≠ .ramp ∧ (t.ppc n).st ≠ .on ∧
     (t.ppc n).st ≠ .transition ∧ (t.ppc n).st ≠ .frozen ∧ (t.conv n).cst ≠ .unnamed ∧ w = addWait t c a.2 ∧
     t1 = w.2.modConv n (fun x => { x with wait := w.1 }) ∧ (t.conv n).wait = 0 ∧ convUsable t1 n = false) ∧
    (∃ (s : State) (c : Cmd) (t : State) (a : _) (n : _) (w : _) (t1 : State), Admits s c 0x0405 true free_ ∧
     t = begun s c true ∧ a = args c 1 [selPar 1 34] ∧ n = a.1 0 ∧ (t.ppc n).st ≠ .ramp ∧ (t.ppc n).st ≠ .on ∧
     (t.ppc n).st ≠ .transition ∧ (t.ppc n).st ≠ .frozen ∧ (t.conv n).cst ≠ .unnamed ∧ w = addWait t c a.2 ∧
     t1 = w.2.modConv n (fun x => { x with wait := w.1 }) ∧ (t.conv n).wait = 0 ∧ convUsable t1 n = true ∧
     (t.conv n).init = 0) ∧
    (∃ (s : State) (c : Cmd) (t : State) (a : _) (n : _) (w : _) (t1 : State), Admits s c 0x0405 true free_ ∧
     t = begun s c true ∧ a = args c 1 [selPar 1 34] ∧ n = a.1 0 ∧ (t.ppc n).st ≠ .ramp ∧ (t.ppc n).st ≠ .on ∧
     (t.ppc n).st ≠ .transition ∧ (t.ppc n).st ≠ .frozen ∧ (t.conv n).cst ≠ .unnamed ∧ w = addWait t c a.2 ∧
     t1 = w.2.modConv n (fun x => { x with wait := w.1 }) ∧ (t.conv n).wait = 0 ∧ convUsable t1 n = true ∧
     (t.conv n).init ≠ 0) :=
  ⟨⟨keyIn (State.reset.modConv 1 (fun x => { x with cst := .ready })), signed (keyIn (State.reset.modConv 1 (fun x => { x with cst := .ready }))) 0x0405 [], _, _, _, _, _, signs (by decide +kernel), (begins (by decide +kernel)).symm,
   rfl, rfl, by decide +kernel, by decide +kernel, by decide +kernel, by decide +kernel, by decide +kernel, rfl, rfl,
   by decide +kernel, by decide +kernel⟩,
   ⟨keyIn (State.reset.modConv 1 (fun x => { x with cst := .ready, addr := 0x10 })), signed (keyIn (State.reset.modConv 1 (fun x => { x with cst := .ready, addr := 0x10 }))) 0x0405 [], _, _, _, _, _, signs (by decide +kernel), (begins (by decide +kernel)).symm,
   rfl, rfl, by decide +kernel, by decide +kernel, by decide +kernel, by decide +kernel, by decide +kernel, rfl, rfl,
   by decide +kernel, by decide +kernel, by decide +kernel⟩,
   ⟨keyIn (State.reset.modConv 1 (fun x => { x with cst := .ready, addr := 0x10, init := 1 })), signed (keyIn (State.reset.modConv 1 (fun x => { x with cst := .ready, addr := 0x10, init := 1 }))) 0x0405 [], _, _, _, _, _, signs (by decide +kernel), (begins (by decide +kernel)).symm,
   rfl, rfl, by decide +kernel, by decide +kernel, by decide +kernel, by decide +kernel, by decide +kernel, rfl, rfl,
   by decide +kernel, by decide +kernel, by decide +kernel⟩⟩

/-- What Obligations.PowerCommands asks of states and operands is met, clause by clause, part 13. -/
theorem witness_PowerCommands_13 :
    (∃ (s : State) (c : Cmd), Admits s c 0x0501 true free_) ∧
    (∃ (s : State) (c : Cmd), Admits s c 0x0503 true free_) ∧
    (∃ (s : State) (c : Cmd), Admits s c 0x0505 false (fun s c => foreignSel s c (selector c.params 1 34))) :=
  ⟨⟨keyed, signed keyed 0x0501 [], signs (by decide +kernel)⟩,
   ⟨keyed, signed keyed 0x0503 [], signs (by decide +kernel)⟩,
   ⟨State.reset, plain 0x0505 [], admits (by decide +kernel)⟩⟩

/-- What Obligations.PairAndFabricCommands asks of states and operands is met, clause by clause, part 1. -/
theorem witness_PairAndFabricCommands_1 :
    (∃ (s : State) (c : Cmd), Admits s c 0x0600 false free_) ∧
    (∃ (s : State) (c : Cmd), Admits s c 0x0601 false free_) ∧
    (∃ (s : State) (c : Cmd), Admits s c 0x0701 false free_) ∧
    (∃ (s : State) (c : Cmd) (t : State), Admits s c 0x0602 true free_ ∧ t = begun s c true ∧ t.isPair = false) :=
  ⟨⟨State.reset, plain 0x0600 [], admits (by decide +kernel)⟩,
   ⟨State.reset, plain 0x0601 [], admits (by decide +kernel)⟩,
   ⟨State.reset, plain 0x0701 [], admits (by decide +kernel)⟩,
   ⟨keyed, signed keyed 0x0602 [], _, signs (by decide +kernel), (begins (by decide +kernel)).symm, by decide +kernel⟩⟩

/-- What Obligations.PairAndFabricCommands asks of states and operands is met, clause by clause, part 2. -/
theorem witness_PairAndFabricCommands_2 :
    (∃ (s : State) (c : Cmd) (t : State), Admits s c 0x0602 true free_ ∧ t = begun s c true ∧ t.isPair = true) ∧
    (∃ (s : State) (c : Cmd) (t : State), Admits s c 0x0603 true free_ ∧ t = begun s c true ∧ t.isPair = false) ∧
    (∃ (s : State) (c : Cmd) (t : State), Admits s c 0x0603 true free_ ∧ t = begun s c true ∧ t.isPair = true ∧
     partnerReady t = false) ∧
    (∃ (s : State) (c : Cmd) (t : State) (k : _), Admits s c 0x0603 true free_ ∧ t = begun s c true ∧ t.isPair = true ∧
     partnerReady t = true ∧ t.pair.partnerFw = some k) :=
  ⟨⟨keyIn { State.reset with sys.role := 1, pair.st := .active }, signed (keyIn { State.reset with sys.role := 1, pair.st := .active }) 0x0602 [], _, signs (by decide +kernel), (begins (by decide +kernel)).symm,
   by decide +kernel⟩,
   ⟨keyed, signed keyed 0x0603 [], _, signs (by decide +kernel), (begins (by decide +kernel)).symm, by decide +kernel⟩,
   ⟨keyIn { State.reset with sys.role := 1, pair.st := .active }, signed (keyIn { State.reset with sys.role := 1, pair.st := .active }) 0x0603 [], _, signs (by decide +kernel), (begins (by decide +kernel)).symm,
   by decide +kernel, by decide +kernel⟩,
   ⟨keyIn { State.reset with sys.role := 1, pair.st := .active, pair.partner := 3, plan.regions := [{ kind := 6, pages := 1 }], pair.partnerFw := some 0 }, signed (keyIn { State.reset with sys.role := 1, pair.st := .active, pair.partner := 3, plan.regions := [{ kind := 6, pages := 1 }], pair.partnerFw := some 0 }) 0x0603 [], _, 0, signs (by decide +kernel), (begins (by decide +kernel)).symm,
   by decide +kernel, by decide +kernel, by decide +kernel⟩⟩

/-- What Obligations.PairAndFabricCommands asks of states and operands is met, clause by clause, part 3. -/
theorem witness_PairAndFabricCommands_3 :
    (∃ (s : State) (c : Cmd) (t : State), Admits s c 0x0603 true free_ ∧ t = begun s c true ∧ t.isPair = true ∧
     partnerReady t = true ∧ t.pair.partnerFw = none) ∧
    (∃ (s : State) (c : Cmd) (t : State), Admits s c 0x0604 false free_ ∧ t = begun s c false ∧ t.isPair = false) ∧
    (∃ (s : State) (c : Cmd) (t : State), Admits s c 0x0604 false free_ ∧ t = begun s c false ∧ t.isPair = true ∧
     t.pair.ladle = false) ∧
    (∃ (s : State) (c : Cmd) (t : State), Admits s c 0x0604 false free_ ∧ t = begun s c false ∧ t.isPair = true ∧
     t.pair.ladle = true ∧ innerBarred c.params = true) :=
  ⟨⟨keyIn { State.reset with sys.role := 1, pair.st := .active, pair.partner := 3, plan.regions := [{ kind := 6, pages := 1 }] }, signed (keyIn { State.reset with sys.role := 1, pair.st := .active, pair.partner := 3, plan.regions := [{ kind := 6, pages := 1 }] }) 0x0603 [], _, signs (by decide +kernel), (begins (by decide +kernel)).symm,
   by decide +kernel, by decide +kernel, by decide +kernel⟩,
   ⟨State.reset, plain 0x0604 [], _, admits (by decide +kernel), rfl, by decide +kernel⟩,
   ⟨{ State.reset with sys.role := 1, pair.ladle := false : State }, plain 0x0604 [], _, admits (by decide +kernel), rfl,
   by decide +kernel, by decide +kernel⟩,
   ⟨{ State.reset with sys.role := 1, pair.ladle := true : State }, plain 0x0604 [0, 0, 4, 6], _, admits (by decide +kernel),
   rfl, by decide +kernel, by decide +kernel, by decide +kernel⟩⟩

/-- What Obligations.PairAndFabricCommands asks of states and operands is met, clause by clause, part 4. -/
theorem witness_PairAndFabricCommands_4 :
    (∃ (s : State) (c : Cmd) (t : State), Admits s c 0x0604 false free_ ∧ t = begun s c false ∧ t.isPair = true ∧
     t.pair.ladle = true ∧ innerBarred c.params = false) ∧
    (∃ (s : State) (c : Cmd) (a : _), Admits s c 0x0700 false free_ ∧ a = span c 3 0 3 4 [parAny 16 1 0] ∧ a.1 2 = 1) ∧
    (∃ (s : State) (c : Cmd) (a : _), Admits s c 0x0700 false free_ ∧ a = span c 3 0 3 4 [parAny 16 1 0] ∧ a.1 2 ≠ 1) ∧
    (∃ (s : State) (c : Cmd), Admits s c 0x0702 true free_) :=
  ⟨⟨{ State.reset with sys.role := 1, pair.ladle := true : State }, plain 0x0604 [], _, admits (by decide +kernel), rfl,
   by decide +kernel, by decide +kernel, by decide +kernel⟩,
   ⟨State.reset, plain 0x0700 [0, 0, 1], _, admits (by decide +kernel), rfl, by decide +kernel⟩,
   ⟨State.reset, plain 0x0700 [], _, admits (by decide +kernel), rfl, by decide +kernel⟩,
   ⟨keyed, signed keyed 0x0702 [], signs (by decide +kernel)⟩⟩

/-- What Obligations.PairAndFabricCommands asks of states and operands is met, clause by clause, part 5. -/
theorem witness_PairAndFabricCommands_5 :
    (∃ (s : State), (s.isPair && s.chipActive) = true) ∧
    (∃ (s : State), (s.isPair && s.chipActive) = false) ∧
    (∃ (s : State) (c : Cmd) (a : _), Admits s c 0x0703 false free_ ∧ a = args c 2 [parAny 0 8 0, parAny 8 8 255] ∧
     a.1 1 = 0) ∧
    (∃ (s : State) (c : Cmd) (t : State) (a : _) (n : _) (ls : List Lsa) (l : _), Admits s c 0x0703 false free_ ∧
     t = begun s c false ∧ a = args c 2 [parAny 0 8 0, parAny 8 8 255] ∧ a.1 1 ≠ 0 ∧ n = min (a.1 1) (replyRoom c / 16) ∧
     (ls = (t.fab.lsas.map (fun h => if h.lsa.uid = t.nodeUid then { h.lsa with claim := t.fab.nodeId } else h.lsa)).foldl (fun l x => insertNode x l) []) ∧
     (l = ((ls.drop (a.1 0)).take n).mapIdx (fun i x => nodeEntry t (fabGraph t) (Config.freeNat (t.freeIdx + i)) x))) :=
  ⟨⟨{ State.reset with sys.role := 1, pair.st := .active : State }, by decide +kernel⟩,
   ⟨State.reset, by decide +kernel⟩,
   ⟨State.reset, plain 0x0703 [0, 0], _, admits (by decide +kernel), rfl, by decide +kernel⟩,
   ⟨State.reset, plain 0x0703 [], _, _, _, _, _, admits (by decide +kernel), rfl, rfl, by decide +kernel, rfl, rfl, rfl⟩⟩

/-- What Obligations.EventAndTimeCommands asks of states and operands is met, clause by clause, part 1. -/
theorem witness_EventAndTimeCommands_1 :
    (∃ (s : State) (c : Cmd), Admits s c 0x0801 false free_) ∧
    (∃ (s : State) (c : Cmd), Admits s c 0x0802 false free_) ∧
    (∃ (s : State) (c : Cmd), Admits s c 0x0804 false free_) ∧
    (∃ (s : State) (c : Cmd), Admits s c 0x0900 false free_) :=
  ⟨⟨State.reset, plain 0x0801 [], admits (by decide +kernel)⟩,
   ⟨State.reset, plain 0x0802 [], admits (by decide +kernel)⟩,
   ⟨State.reset, plain 0x0804 [], admits (by decide +kernel)⟩,
   ⟨State.reset, plain 0x0900 [], admits (by decide +kernel)⟩⟩

/-- What Obligations.EventAndTimeCommands asks of states and operands is met, clause by clause, part 2. -/
theorem witness_EventAndTimeCommands_2 :
    (∃ (s : State) (c : Cmd), Admits s c 0x0901 false free_) ∧
    (∃ (s : State) (c : Cmd), Admits s c 0x0904 false free_) ∧
    (∃ (s : State) (c : Cmd), Admits s c 0x0800 false free_ ∧ peeks c = true) ∧
    (∃ (s : State) (c : Cmd), Admits s c 0x0800 false free_ ∧ peeks c = false) :=
  ⟨⟨State.reset, plain 0x0901 [], admits (by decide +kernel)⟩,
   ⟨State.reset, plain 0x0904 [], admits (by decide +kernel)⟩,
   ⟨State.reset, plain 0x0800 [0], admits (by decide +kernel), by decide +kernel⟩,
   ⟨State.reset, plain 0x0800 [], admits (by decide +kernel), by decide +kernel⟩⟩

/-- What Obligations.EventAndTimeCommands asks of states and operands is met, clause by clause, part 3. -/
theorem witness_EventAndTimeCommands_3 :
    (∃ (s : State) (c : Cmd), Admits s c 0x0803 false free_) ∧
    (∃ (s : State) (c : Cmd), Admits s c 0x0805 true free_) ∧
    (∃ (s : State) (c : Cmd), Admits s c 0x0902 true free_) ∧
    (∃ (s : State) (c : Cmd) (t : State), (epochArgs s c).1 1 = 0 ∧ Admits s c 0x0903 true free_ ∧ t = begun s c true ∧
     t.tu.isRoot = false) :=
  ⟨⟨State.reset, plain 0x0803 [], admits (by decide +kernel)⟩,
   ⟨keyed, signed keyed 0x0805 [], signs (by decide +kernel)⟩,
   ⟨keyed, signed keyed 0x0902 [], signs (by decide +kernel)⟩,
   ⟨keyIn ({ State.reset with tu.isRoot := false : State }), signed (keyIn ({ State.reset with tu.isRoot := false : State })) 0x0903 [], _,
   by decide +kernel, signs (by decide +kernel), (begins (by decide +kernel)).symm, by decide +kernel⟩⟩

/-- What Obligations.EventAndTimeCommands asks of states and operands is met, clause by clause, part 4. -/
theorem witness_EventAndTimeCommands_4 :
    (∃ (s : State) (c : Cmd) (t : State), (epochArgs s c).1 1 = 0 ∧ Admits s c 0x0903 true free_ ∧ t = begun s c true ∧
     t.tu.isRoot = true) ∧
    (∃ (s : State) (c : Cmd) (t : State), (epochArgs s c).1 1 = 1 ∧ Admits s c 0x0903 true free_ ∧ t = begun s c true ∧
     t.tu.isRoot = false) ∧
    (∃ (s : State) (c : Cmd) (t : State), (epochArgs s c).1 1 = 1 ∧ Admits s c 0x0903 true free_ ∧ t = begun s c true ∧
     t.tu.isRoot = true ∧ t.tu.ppsLocked = false) ∧
    (∃ (s : State) (c : Cmd) (t : State), (epochArgs s c).1 1 = 1 ∧ Admits s c 0x0903 true free_ ∧ t = begun s c true ∧
     t.tu.isRoot = true ∧ t.tu.ppsLocked = true ∧ t.tu.epoch.isSome = true) :=
  ⟨⟨keyIn ({ State.reset with tu.isRoot := true : State }), signed (keyIn ({ State.reset with tu.isRoot := true : State })) 0x0903 [], _,
   by decide +kernel, signs (by decide +kernel), (begins (by decide +kernel)).symm, by decide +kernel⟩,
   ⟨keyIn ({ State.reset with tu.isRoot := false : State }), signed (keyIn ({ State.reset with tu.isRoot := false : State })) 0x0903 (zeros 8 ++ [1]), _,
   by decide +kernel, signs (by decide +kernel), (begins (by decide +kernel)).symm, by decide +kernel⟩,
   ⟨keyIn ({ State.reset with tu.isRoot := true, tu.ppsLocked := false : State }), signed (keyIn ({ State.reset with tu.isRoot := true, tu.ppsLocked := false : State })) 0x0903 (zeros 8 ++ [1]), _,
   by decide +kernel, signs (by decide +kernel), (begins (by decide +kernel)).symm, by decide +kernel, by decide +kernel⟩,
   ⟨keyIn { State.reset with tu.isRoot := true, tu.ppsLocked := true, tu.epoch := some (5, 0) }, signed (keyIn { State.reset with tu.isRoot := true, tu.ppsLocked := true, tu.epoch := some (5, 0) }) 0x0903 (zeros 8 ++ [1]), _,
   by decide +kernel, signs (by decide +kernel), (begins (by decide +kernel)).symm, by decide +kernel, by decide +kernel,
   by decide +kernel⟩⟩

/-- What Obligations.EventAndTimeCommands asks of states and operands is met, clause by clause, part 5. -/
theorem witness_EventAndTimeCommands_5 :
    ∃ (s : State) (c : Cmd) (t : State), (epochArgs s c).1 1 = 1 ∧ Admits s c 0x0903 true free_ ∧ t = begun s c true ∧
     t.tu.isRoot = true ∧ t.tu.ppsLocked = true ∧ t.tu.epoch = none :=
  ⟨keyIn ({ State.reset with tu.isRoot := true, tu.ppsLocked := true, tu.epoch := none : State }), signed (keyIn ({ State.reset with tu.isRoot := true, tu.ppsLocked := true, tu.epoch := none : State })) 0x0903 (zeros 8 ++ [1]), _,
   by decide +kernel, signs (by decide +kernel), (begins (by decide +kernel)).symm, by decide +kernel, by decide +kernel,
   by decide +kernel⟩

/-- What Obligations.CrockAndSieveCommands asks of states and operands is met, clause by clause, part 1. -/
theorem witness_CrockAndSieveCommands_1 :
    (∃ (s : State) (c : Cmd), Admits s c 0x0A00 false free_) ∧
    (∃ (s : State) (c : Cmd), Admits s c 0x0A01 false free_) ∧
    (∃ (s : State) (c : Cmd), Admits s c 0x0A03 false free_) ∧
    (∃ (s : State) (c : Cmd), Admits s c 0x0B00 false free_) :=
  ⟨⟨State.reset, plain 0x0A00 [], admits (by decide +kernel)⟩,
   ⟨State.reset, plain 0x0A01 [], admits (by decide +kernel)⟩,
   ⟨State.reset, plain 0x0A03 [], admits (by decide +kernel)⟩,
   ⟨State.reset, plain 0x0B00 [], admits (by decide +kernel)⟩⟩

/-- What Obligations.CrockAndSieveCommands asks of states and operands is met, clause by clause, part 2. -/
theorem witness_CrockAndSieveCommands_2 :
    (∃ (s : State) (c : Cmd), Admits s c 0x0B04 false free_) ∧
    (∃ (s : State) (c : Cmd) (part : _) (priv : _), priv = decide ((writeArgs c).1 0 < 4) ∧ Admits s c 0x0A02 priv free_ ∧
     (part = (writeArgs c).1 0) ∧ (part = 4 ∨ part = 5 ∨ part = 7)) ∧
    (∃ (s : State) (c : Cmd) (t : State) (part : _) (priv : _), priv = decide ((writeArgs c).1 0 < 4) ∧
     Admits s c 0x0A02 priv free_ ∧ t = begun s c priv ∧ (part = (writeArgs c).1 0) ∧
     (¬ (part = 4 ∨ part = 5 ∨ part = 7)) ∧ partInUse t part = true) ∧
    (∃ (s : State) (c : Cmd) (t : State) (part : _) (priv : _), priv = decide ((writeArgs c).1 0 < 4) ∧
     Admits s c 0x0A02 priv free_ ∧ t = begun s c priv ∧ (part = (writeArgs c).1 0) ∧
     (¬ (part = 4 ∨ part = 5 ∨ part = 7)) ∧ partInUse t part = false ∧ t.crock.fault = true) :=
  ⟨⟨State.reset, plain 0x0B04 [], admits (by decide +kernel)⟩,
   ⟨State.reset, plain 0x0A02 [4], _, _, rfl, admits (by decide +kernel), rfl, .inl (by decide +kernel)⟩,
   ⟨keyed, signed keyed 0x0A02 [0], _, _, _, rfl, admits (by decide +kernel), rfl, rfl, by decide +kernel,
   by decide +kernel⟩,
   ⟨{ State.reset with crock.fault := true : State }, plain 0x0A02 [], _, _, _, rfl, admits (by decide +kernel), rfl, rfl,
   by decide +kernel, by decide +kernel, by decide +kernel⟩⟩

/-- What Obligations.CrockAndSieveCommands asks of states and operands is met, clause by clause, part 3. -/
theorem witness_CrockAndSieveCommands_3 :
    (∃ (s : State) (c : Cmd) (t : State) (part : _) (size : _) (off : _) (data : List Byte) (priv : _), priv = decide ((writeArgs c).1 0 < 4) ∧
     Admits s c 0x0A02 priv free_ ∧ t = begun s c priv ∧ (part = (writeArgs c).1 0) ∧ (size = (partBase part).2) ∧
     off = min ((writeArgs c).1 1) size ∧ (data = (c.params.drop 8).take (size - off)) ∧
     (¬ (part = 4 ∨ part = 5 ∨ part = 7)) ∧ partInUse t part = false ∧ t.crock.fault = false ∧ part ≠ 6 ∧ data ≠ []) ∧
    (∃ (s : State) (c : Cmd) (t : State) (part : _) (size : _) (base : _) (off : _) (data : List Byte) (priv : _) (r : _), priv = decide ((writeArgs c).1 0 < 4) ∧
     Admits s c 0x0A02 priv free_ ∧ t = begun s c priv ∧ (part = (writeArgs c).1 0) ∧ (base = (partBase part).1) ∧
     (size = (partBase part).2) ∧ off = min ((writeArgs c).1 1) size ∧ (data = (c.params.drop 8).take (size - off)) ∧
     (¬ (part = 4 ∨ part = 5 ∨ part = 7)) ∧ partInUse t part = false ∧ t.crock.fault = false ∧ part = 6 ∧
     (r = (linesOf (lineBytes t) (data.length + 1) (base + off) data).foldl writeUserLine (0, t)) ∧ r.1 = 0) ∧
    (∃ (s : State) (c : Cmd) (t : State) (part : _) (size : _) (base : _) (off : _) (data : List Byte) (priv : _) (r : _), priv = decide ((writeArgs c).1 0 < 4) ∧
     Admits s c 0x0A02 priv free_ ∧ t = begun s c priv ∧ (part = (writeArgs c).1 0) ∧ (base = (partBase part).1) ∧
     (size = (partBase part).2) ∧ off = min ((writeArgs c).1 1) size ∧ (data = (c.params.drop 8).take (size - off)) ∧
     (¬ (part = 4 ∨ part = 5 ∨ part = 7)) ∧ partInUse t part = false ∧ t.crock.fault = false ∧ part = 6 ∧
     (r = (linesOf (lineBytes t) (data.length + 1) (base + off) data).foldl writeUserLine (0, t)) ∧ r.1 ≠ 0) ∧
    (∃ (s : State) (c : Cmd), Admits s c 0x0A04 true free_) :=
  ⟨⟨keyed, signed keyed 0x0A02 ([1] ++ zeros 7 ++ [9]), _, _, _, _, _, _, rfl, admits (by decide +kernel), rfl, rfl, rfl,
   rfl, rfl, by decide +kernel, by decide +kernel, by decide +kernel, by decide +kernel, by decide +kernel⟩,
   ⟨{ State.reset with crock.fault := false : State }, plain 0x0A02 [], _, _, _, _, _, _, _, _,
   rfl, admits (by decide +kernel), rfl, rfl, rfl, rfl, rfl, rfl, by decide +kernel, by decide +kernel, by decide +kernel,
   rfl, rfl, by decide +kernel⟩,
   ⟨{ State.reset with crock.lineAt := [((partBase 6).1, 0)] : State }, plain 0x0A02 ([6] ++ zeros 7 ++ [9]), _, _, _, _, _, _, _, _,
   rfl, admits (by decide +kernel), rfl, rfl, rfl, rfl, rfl, rfl, by decide +kernel, by decide +kernel, by decide +kernel,
   by decide +kernel, rfl, by decide +kernel⟩,
   ⟨keyed, signed keyed 0x0A04 [], signs (by decide +kernel)⟩⟩

/-- What Obligations.CrockAndSieveCommands asks of states and operands is met, clause by clause, part 4. -/
theorem witness_CrockAndSieveCommands_4 :
    (∃ (s : State) (c : Cmd), Admits s c 0x0A05 false free_) ∧
    (∃ (s : State) (c : Cmd) (t : State) (r : _), Admits s c 0x0B01 false sealForeign ∧ t = begun s c false ∧
     r = sieveAsked t c ∧ (r.1.mode = 3 ∧ (r.1.port = 0 ∨ (r.1.port ≤ 32 ∧ (t.port r.1.port).id.eff = .transparent)))) ∧
    (∃ (s : State) (c : Cmd) (t : State) (r : _), Admits s c 0x0B01 false sealForeign ∧ t = begun s c false ∧
     r = sieveAsked t c ∧ (¬ (r.1.mode = 3 ∧ (r.1.port = 0 ∨ (r.1.port ≤ 32 ∧ (t.port r.1.port).id.eff = .transparent))))) ∧
    (∃ (s : State) (c : Cmd) (t : State) (n : _) (ch : _), Admits s c 0x0B02 false free_ ∧ t = begun s c false ∧
     (n = (selPar 0 7).read c.params) ∧ ch = t.sieveCh n.1 ∧ (ch.mode ≠ 1 ∧ ch.mode ≠ 2)) :=
  ⟨⟨State.reset, plain 0x0A05 [], admits (by decide +kernel)⟩,
   ⟨State.reset, plain 0x0B01 [0, 0, 0, 0, 3], _, _, admits (by decide +kernel), rfl, rfl, by decide +kernel⟩,
   ⟨State.reset, plain 0x0B01 [], _, _, admits (by decide +kernel), rfl, rfl, by decide +kernel⟩,
   ⟨State.reset, plain 0x0B02 [], _, _, _, admits (by decide +kernel), rfl, rfl, rfl, by decide +kernel⟩⟩

/-- What Obligations.CrockAndSieveCommands asks of states and operands is met, clause by clause, part 5. -/
theorem witness_CrockAndSieveCommands_5 :
    (∃ (s : State) (c : Cmd) (t : State) (n : _) (ch : _), Admits s c 0x0B02 false free_ ∧ t = begun s c false ∧
     (n = (selPar 0 7).read c.params) ∧ ch = t.sieveCh n.1 ∧ (ch.mode = 1 ∨ ch.mode = 2)) ∧
    (∃ (s : State) (c : Cmd) (t : State) (n : _) (ch : _), Admits s c 0x0B03 false free_ ∧ t = begun s c false ∧
     n = args c 1 [selPar 0 7] ∧ ch = t.sieveCh (n.1 0) ∧ ch.mode ≠ 1) ∧
    (∃ (s : State) (c : Cmd) (t : State) (n : _) (ch : _), Admits s c 0x0B03 false free_ ∧ t = begun s c false ∧
     n = args c 1 [selPar 0 7] ∧ ch = t.sieveCh (n.1 0) ∧ ch.mode = 1) :=
  ⟨⟨{ State.reset with sieve := List.replicate 8 { mode := 1 } }, plain 0x0B02 [], _, _, _, admits (by decide +kernel),
   rfl, rfl, rfl, .inl (by decide +kernel)⟩,
   ⟨State.reset, plain 0x0B03 [], _, _, _, admits (by decide +kernel), rfl, rfl, rfl, by decide +kernel⟩,
   ⟨{ State.reset with sieve := List.replicate 8 { mode := 1 } }, plain 0x0B03 [], _, _, _, admits (by decide +kernel),
   rfl, rfl, rfl, by decide +kernel⟩⟩

/-- What Obligations.StepTakesFrontCommand asks of states and operands is met, clause by clause, part 1. -/
theorem witness_StepTakesFrontCommand_1 :
    (∃ (c : Instr) (q : List Instr) (s : State), s.pending = c :: q) ∧
    (∃ (s : State), s.pending = [] ∧ (s.isPair = false ∨ s.pair.ladle = false)) ∧
    (∃ (s : State), s.pending = [] ∧ slowChanges (slowNow s) s.pair.told = [] ∧
     (s.mirrors = false ∨ (∀ x ∈ mirrorNow s, x ∈ s.pair.toldMirror))) ∧
    (∃ (s : State), s.pending = [] ∧ s.isPair = true ∧ s.pair.ladle = true ∧ s.mirrors = false ∧
     slowChanges (slowNow s) s.pair.told ≠ []) :=
  ⟨⟨_, [], { State.reset with pending := [.tsyncInEdge] : State }, rfl⟩,
   ⟨State.reset, by decide +kernel, by decide +kernel⟩,
   ⟨{ State.reset with sys.role := 2, pair.st := .standby, pair.told := ownItems { State.reset with sys.role := 2, pair.st := .standby } : State },
   rfl, by decide +kernel, .inl (by decide +kernel)⟩,
   ⟨{ State.reset with sys.role := 1, pair.ladle := true : State }, by decide +kernel, by decide +kernel,
   by decide +kernel, by decide +kernel, by decide +kernel⟩⟩

/-- What Obligations.StepTakesFrontCommand asks of states and operands is met, clause by clause, part 2. -/
theorem witness_StepTakesFrontCommand_2 :
    (∃ (s : State), (s.sys.held = .resetN ∨ s.sys.pstate = .off)) ∧
    (∃ (s : State), s.sys.held = .no ∧ s.sys.pstate = .hibernate) ∧
    (∃ (s : State), s.sys.held = .no ∧ s.sys.pstate ≠ .off ∧ s.sys.pstate ≠ .hibernate ∧
     (s.sys.pstate ≠ .deadFeed ∨ s.sys.regen = true)) :=
  ⟨⟨{ State.reset with sys.held := .resetN : State }, by decide +kernel⟩,
   ⟨{ State.reset with sys.held := .no, sys.pstate := .hibernate : State }, by decide +kernel, by decide +kernel⟩,
   ⟨{ State.reset with sys.held := .no : State }, by decide +kernel, by decide +kernel, by decide +kernel,
   by decide +kernel⟩⟩

/-- What Obligations.QueueWorkedOff asks of states and operands is met, clause by clause. -/
theorem witness_QueueWorkedOff :
    ∃ (l : List Instr) (m : List Instr) (s : State), s.pending = l ++ m :=
  ⟨[.tsyncInEdge], [], { State.reset with pending := [.tsyncInEdge] : State }, by decide +kernel⟩

/-- What Obligations.StepKeepsSound asks of states and operands is met, clause by clause. -/
theorem witness_StepKeepsSound :
    ∃ (s : State) (t : State), Sound s ∧ WaitsWellFormed s ∧ step s = .next t :=
  ⟨State.reset, _, sound_reset, (by intro c h; cases h), rfl⟩

/-- What Obligations.CrockWriteReadsBack asks of states and operands is met, clause by clause. -/
theorem witness_CrockWriteReadsBack :
    (∃ (s : State) (a : Nat) (bs : List Byte) (k : _), Memory.wf s.crock.mem = true ∧ k < bs.length ∧ a + k < 0x400000) ∧
    (∃ (s : State) (a : Nat) (bs : List Byte) (x : _), Memory.wf s.crock.mem = true ∧ (x < a ∨ a + bs.length ≤ x)) :=
  ⟨⟨State.reset, 0x3FFFFF, [1], 0, by decide +kernel, by decide +kernel, by decide +kernel⟩,
   ⟨State.reset, 0x3FFFFF, [1], 0, by decide +kernel, by decide +kernel⟩⟩

/-- What Obligations.PairedLineReadsBack asks of states and operands is met, clause by clause. -/
theorem witness_PairedLineReadsBack :
    ∃ (s : State) (a : Nat) (v : Nat), Memory.wf s.crock.mem = true ∧ s.crock.bad = [] ∧ a + 32 ≤ 0x400000 ∧ v < 2 ^ 64 ∧
     ((∀ w n hi, pairedLine s a = some (w, n, hi) → n + 1 < 2 ^ 32)) :=
  ⟨{ State.reset with crock.bad := [] : State }, plNode, 2 ^ 64 - 1, by decide +kernel, by decide +kernel,
   by decide +kernel, by decide +kernel, reset_paired⟩

/-- What Obligations.QueueStatusReturnsTheBlocks asks of states and operands is met, clause by clause. -/
theorem witness_QueueStatusReturnsTheBlocks :
    ∃ (s : State) (c : Cmd), Admits s c 0x0801 false free_ :=
  ⟨State.reset, plain 0x0801 [], admits (by decide +kernel)⟩

/-- What Obligations.SofReadReturnsBlockAndNow asks of states and operands is met, clause by clause. -/
theorem witness_SofReadReturnsBlockAndNow :
    (∃ (s : State) (c : Cmd), Admits s c 0x0904 false free_ ∧ c.params = []) ∧
    (∃ (s : State) (c : Cmd) (rest : _), Admits s c 0x0904 false free_ ∧ c.params = 0 :: rest) ∧
    (∃ (s : State) (c : Cmd) (rest : _), Admits s c 0x0904 false free_ ∧ c.params = 1 :: rest) :=
  ⟨⟨State.reset, plain 0x0904 [], admits (by decide +kernel), by decide +kernel⟩,
   ⟨State.reset, plain 0x0904 [0], [], admits (by decide +kernel), rfl⟩,
   ⟨State.reset, plain 0x0904 [1], [], admits (by decide +kernel), rfl⟩⟩

/-- What Obligations.KeyStatusReturnsFourEntries asks of states and operands is met, clause by clause. -/
theorem witness_KeyStatusReturnsFourEntries :
    (∃ (s : State) (c : Cmd), Admits s c 0x0D06 false free_) ∧
    (∃ (t : State) (k : Nat) (x : _), t.key k = some x) :=
  ⟨⟨State.reset, plain 0x0D06 [], admits (by decide +kernel)⟩,
   ⟨keyed, 0, aKey, by decide +kernel⟩⟩

/-- What Obligations.UnimplementedLevelIsRefused asks of states and operands is met, clause by clause. -/
theorem witness_UnimplementedLevelIsRefused :
    ∃ (s : State) (c : Cmd) (t : State) (n : _), Admits s c 0x0C03 true free_ ∧ t = begun s c true ∧
     (n = (args c 1 [parAny 0 8 t.sys.cl]).1 0) ∧ 1 < n :=
  ⟨keyed, signed keyed 0x0C03 [2], _, 2, signs (by decide +kernel), (begins (by decide +kernel)).symm, by decide +kernel,
   by decide +kernel⟩

/-- What Obligations.SwapsAreRejected asks of states and operands is met, clause by clause. -/
theorem witness_SwapsAreRejected :
    ∃ (s : State) (h : PdHdr), Hears s h ∧ isUp h.port = false :=
  ⟨State.reset.modPde 1 (fun x => { x with cc := .attachedSrc, pe := .ready }), { port := 1, id := 0, rev := 2 }, hears (by decide +kernel),
   by decide +kernel⟩

/-- What Obligations.AuthenticationIsJudged asks of states and operands is met, clause by clause, part 1. -/
theorem witness_AuthenticationIsJudged_1 :
    (∃ (s : State) (c : Cmd), c.auth = false ∧ provisioning s c = false) ∧
    (∃ (s : State) (c : Cmd), c.auth = false ∧ provisioning s c = true) ∧
    (∃ (s : State) (c : Cmd), c.auth = true ∧ (s.trState c.tr).locked = true) ∧
    (∃ (s : State) (c : Cmd) (k : _), c.auth = true ∧ (s.trState c.tr).locked = false ∧ s.key 0 = some k ∧
     16 ≤ c.payload.length ∧ c.payload.drop (c.payload.length - 16) = tagOf s c k) :=
  ⟨⟨State.reset, plain 0 [], by decide +kernel, by decide +kernel⟩,
   ⟨State.reset, { plain 0x0D05 [] with tr := .smbus }, by decide +kernel, by decide +kernel⟩,
   ⟨{ State.reset with cmd.trs := [{ tr := .usb .a, locked := true }] : State }, { plain 0 [] with auth := true },
   by decide +kernel, by decide +kernel⟩,
   ⟨keyed, signed keyed 0 [], aKey, by decide +kernel, by decide +kernel, by decide +kernel, by decide +kernel,
   by decide +kernel⟩⟩

/-- What Obligations.AuthenticationIsJudged asks of states and operands is met, clause by clause, part 2. -/
theorem witness_AuthenticationIsJudged_2 :
    ∃ (s : State) (c : Cmd) (k : _), c.auth = true ∧ (s.trState c.tr).locked = false ∧ s.key 0 = some k ∧
     (¬ (16 ≤ c.payload.length ∧ c.payload.drop (c.payload.length - 16) = tagOf s c k)) :=
  ⟨keyed, { plain 0 (zeros 16) with auth := true }, aKey, by decide +kernel, by decide +kernel, by decide +kernel,
   by decide +kernel⟩

/-- What Obligations.BarredCommandsAreAnswered asks of states and operands is met, clause by clause, part 1. -/
theorem witness_BarredCommandsAreAnswered_1 :
    (∃ (op : _) (priv : _) (foreign : _) (c : Cmd) (s : State) (st : _) (d : _), c.opcode = op ∧ heldBack s c = false ∧
     barred op priv foreign c s = some (st, d) ∧ ((s.sys.romOnly = false ∨ romOpcodes.contains op = true))) ∧
    (∃ (op : _) (c : Cmd) (s : State), c.opcode = op ∧ heldBack s c = false ∧ s.sys.romOnly = true ∧
     romOpcodes.contains op = false) ∧
    (∃ (op : _) (c : Cmd) (s : State), (c.opcode ≠ op ∨ heldBack s c = true)) ∧
    (∃ (c : Cmd) (s : State), s.sys.romOnly = false ∧ c.auth = false ∧ provisioning (taken s c) c = false) :=
  ⟨⟨1, true, free_, plain 1 [], State.reset, stAuthRequired, 0, by decide +kernel, by decide +kernel, by decide +kernel,
   by decide +kernel⟩,
   ⟨0x0100, plain 0x0100 [], { State.reset with sys.romOnly := true : State }, by decide +kernel, by decide +kernel,
   by decide +kernel, by decide +kernel⟩,
   ⟨1, plain 0 [], State.reset, by decide +kernel⟩,
   ⟨plain 1 [], State.reset, by decide +kernel, by decide +kernel, by decide +kernel⟩⟩

/-- What Obligations.BarredCommandsAreAnswered asks of states and operands is met, clause by clause, part 2. -/
theorem witness_BarredCommandsAreAnswered_2 :
    (∃ (foreign : State → Cmd → Bool) (c : Cmd) (s : State), s.sys.romOnly = false ∧ c.auth = false ∧
     foreign (taken s c) c = true) ∧
    (∃ (op : _) (c : Cmd) (s : State), s.sys.romOnly = false ∧ c.auth = false ∧ passive (taken s c) op = true) :=
  ⟨⟨(fun _ _ => true), plain 1 [], State.reset, by decide +kernel, by decide +kernel, by decide +kernel⟩,
   ⟨0x0101, plain 0x0101 [], { State.reset with sys.role := 1 : State }, by decide +kernel, by decide +kernel,
   by decide +kernel⟩⟩

/-- What Obligations.PacketsAndRecordsReadBack asks of states and operands is met, clause by clause. -/
theorem witness_PacketsAndRecordsReadBack :
    (∃ (opcode : Nat) (tag : Nat) (target : Nat) (flags : Nat) (status : Nat) (payload : List Byte), opcode < 2 ^ 16 ∧
     tag < 2 ^ 16 ∧ target < 2 ^ 8 ∧ flags < 2 ^ 8 ∧ status < 2 ^ 16 ∧ payload.length ≤ 4088) ∧
    (∃ (j : Nat), j < 2 ^ 32) :=
  ⟨⟨0xFFFF, 0xFFFF, 0xFF, 0xFF, 0xFFFF, [], by decide +kernel, by decide +kernel, by decide +kernel, by decide +kernel,
   by decide +kernel, by decide +kernel⟩,
   ⟨0xFFFFFFFF, by decide +kernel⟩⟩

/-- What Obligations.ReadingCommandsLeaveTheChip asks of states and operands is met, clause by clause. -/
theorem witness_ReadingCommandsLeaveTheChip :
    ∃ (c : Cmd) (i : Instr) (s : State) (t : State), i ∈ readingCommands c ∧ exec i s = .next t :=
  ⟨plain 0 [], .nop (plain 0 []), State.reset, _, by decide +kernel, rfl⟩

end Sys2Proof.Tests
end

section
/-!
The statements of 00_scope.md. A refused pin (R7) is the branch of CL_PIN above CL_MAX, which only answers, with the general
fact that an answered command leaves the levels (`still_answered`). A rejected swap (R2) is the body that runs once a message
is heard (`hears_receive`).
-/

namespace Sys2Proof.Machine

/-! ### A command that is only answered -/

/-- The frame of every refusal: from start to end, nothing but transports, counters and upstreams moves. -/
theorem still_answered (s : State) (c : Cmd) (priv : Bool) (r : Resp) : Still s (closed (respond (begun s c priv) c r)) :=
  still_closed _ (still_respond _ c r (still_begun s c priv (.refl s)))

/-! ### CL_PIN above CL_MAX (R7, R403) -/

theorem exec_clPin (c : Cmd) (s : State) : exec (.clPin c) s = leaves s (runCmd 0x0C03 true free_ clPin c s) := rfl

theorem ends_clPin {s : State} {c : Cmd} (a : Admits s c 0x0C03 true free_) :
    Ends (.clPin c) s (closed (clPin c (begun s c true))) :=
  ends_of (exec_clPin c s) (admits_run a clPin)

/-- CL_MAX of this stepping is 1; the DETAIL of the refusal is the level in force. -/
theorem clPin_above {c : Cmd} {t : State} (h : 1 < (args c 1 [parAny 0 8 t.sys.cl]).1 0) :
    clPin c t = respond t c (.fail stNotAtCompat t.sys.cl) := by
  unfold clPin
  exact if_pos h

/-- Settles O54: the branch of CL_PIN above CL_MAX only answers, and an answer leaves both levels. -/
theorem unimplementedLevelIsRefused : Obligations.UnimplementedLevelIsRefused := by
  rintro s c t n a rfl rfl hn
  have still := still_answered s c true (.fail stNotAtCompat (begun s c true).sys.cl)
  refine ⟨?_, still.pinned, still.level⟩
  rw [← clPin_above hn]
  exact ends_clPin a

/-! ### DR_Swap and PR_Swap (R2) -/

theorem exec_drSwap (h : PdHdr) (s : State) : exec (.drSwap h) s = leaves s (drSwap h s) := rfl

theorem exec_prSwap (h : PdHdr) (s : State) : exec (.prSwap h) s = leaves s (prSwap h s) := rfl

theorem drSwap_rejected {s : State} {h : PdHdr} (a : Hears s h) : drSwap h s = send (heard s h) h.port .reject :=
  hears_receive a false _

/-- Downstream, neither the port's role nor a swap or reset in progress is looked at. -/
theorem prSwap_rejected {s : State} {h : PdHdr} (a : Hears s h) (hd : isUp h.port = false) :
    prSwap h s = send (heard s h) h.port .reject := by
  unfold prSwap
  rw [hears_receive a, hd]
  rfl

/-- Settles O55: a swap that is heard runs its body, which for a DR_Swap, and for a PR_Swap downstream, is Reject. -/
theorem swapsAreRejected : Obligations.SwapsAreRejected :=
  ⟨fun s h a => ends_of (exec_drSwap h s) (drSwap_rejected a),
   fun s h a hd => ends_of (exec_prSwap h s) (prSwap_rejected a hd)⟩

end Sys2Proof.Machine
end

section
/-!
The statements of 14_commands_fabric_records.md. Each command is admitted, so that its body alone runs (`admits_run`), and its
body is one answer. SOF_READ turns on how a map of one byte reads its parameter (`args_nil`, `args_cons`); KEY_STATUS on an
entry's two halves, a flag word and a fingerprint (`keyEntry_eq`).
-/

namespace Sys2Proof.Machine

/-! ### QUEUE_STATUS (R391) -/

theorem exec_queueStatus (c : Cmd) (s : State) :
    exec (.queueStatus c) s = leaves s (runCmd 0x0801 false free_ (getWhole queueStatusBytes) c s) := rfl

theorem getWhole_queueStatus (c : Cmd) (t : State) :
    getWhole queueStatusBytes c t = respond t c (.ok
      (t.ev.qa.status ++ t.ev.qb.status ++ t.ev.qsb.status ++ t.ev.qfab.status ++ leBytes 1 t.ev.capture.length)
      (!c.params.isEmpty)) := rfl

/-- Settles O51: the body of QUEUE_STATUS is the answer with the four blocks and the occupancy. -/
theorem queueStatusReturnsTheBlocks : Obligations.QueueStatusReturnsTheBlocks := by
  rintro s c t a rfl
  rw [← getWhole_queueStatus]
  exact ends_of (exec_queueStatus c s) (admits_run a (getWhole queueStatusBytes))

/-! ### A map of one byte (R343) -/

/-- A parameter wholly beyond the end of the payload takes its default, and CLAMPED stays clear (R10). -/
theorem Par.read_nil (p : Par) : p.read [] = (p.dflt, false) := if_pos (Nat.zero_le _)

/-- A byte is a parameter's value when the parameter fills the byte. -/
theorem Par.read_byte {p : Par} (lo : p.lo = 0) (w : p.w = 8) (b : Byte) :
    p.read [b] = (p.fix b.toNat, p.fix b.toNat != b.toNat) := by
  have value : leNat [b] / 2 ^ p.lo % 2 ^ p.w = b.toNat := by
    have := b.isLt
    simp only [leNat, lo, w]
    omega
  unfold Par.read
  rw [if_neg (by simp [lo]), if_neg (by simp [lo, w]), value]

theorem args_nil {c : Cmd} (h : c.params = []) (p : Par) : (args c 1 [p]).1 0 = p.dflt ∧ (args c 1 [p]).2 = false := by
  simp [args, blockPars, readPars, h, Par.read_nil]

/-- Bytes past the first set CLAMPED, and so does a first byte that the parameter does not keep. -/
theorem args_cons {c : Cmd} {b : Byte} {rest : List Byte} (h : c.params = b :: rest) {p : Par} (lo : p.lo = 0) (w : p.w = 8) :
    (args c 1 [p]).1 0 = p.fix b.toNat ∧ (args c 1 [p]).2 = ((p.fix b.toNat != b.toNat) || !rest.isEmpty) := by
  cases rest <;> simp [args, blockPars, readPars, h, Par.read_byte lo w]

/-! ### SOF_READ (R395) -/

theorem exec_sofRead (c : Cmd) (s : State) : exec (.sofRead c) s = leaves s (runCmd 0x0904 false free_ (answering sofRead) c s) :=
  rfl

theorem ends_sofRead {s : State} {c : Cmd} (a : Admits s c 0x0904 false free_) :
    Ends (.sofRead c) s (closed (respond (begun s c false) c (sofRead (begun s c false) c))) :=
  ends_of (exec_sofRead c s) (admits_run a (answering sofRead))

theorem sofRead_eq (t : State) (c : Cmd) :
    sofRead t c = .ok (sofBytes t (if (args c 1 [parElse 0 8 0 1 0]).1 0 = 1 then .b else .a) ++ leBytes 8 t.now)
      (args c 1 [parElse 0 8 0 1 0]).2 := rfl

theorem sofRead_nil {c : Cmd} (t : State) (h : c.params = []) : sofRead t c = .ok (sofBytes t .a ++ leBytes 8 t.now) := by
  obtain ⟨up, clamped⟩ := args_nil h (parElse 0 8 0 1 0)
  rw [sofRead_eq, up, clamped]
  rfl

/-- An UP of 0 or 1 stands, so that only bytes past it set CLAMPED. -/
theorem sofRead_cons {c : Cmd} {b : Byte} {rest : List Byte} (t : State) (h : c.params = b :: rest) (hb : b.toNat ≤ 1) :
    sofRead t c = .ok (sofBytes t (if b.toNat = 1 then .b else .a) ++ leBytes 8 t.now) (!rest.isEmpty) := by
  have stands : (parElse 0 8 0 1 0).fix b.toNat = b.toNat := if_neg (Nat.not_lt.mpr hb)
  obtain ⟨up, clamped⟩ := args_cons h (p := parElse 0 8 0 1 0) rfl rfl
  rw [sofRead_eq, up, clamped, stands, bne_self_eq_false, Bool.false_or]

/-- Settles O52: UP reads as 0 from an empty payload and as byte 0 otherwise; A and B both stand. -/
theorem sofReadReturnsBlockAndNow : Obligations.SofReadReturnsBlockAndNow := by
  rintro s c t a rfl
  have ends := ends_sofRead a
  refine ⟨fun h => ?_, fun rest h => ?_, fun rest h => ?_⟩
  · rwa [sofRead_nil _ h] at ends
  · rwa [sofRead_cons _ h (by decide)] at ends
  · rwa [sofRead_cons _ h (by decide)] at ends

/-! ### KEY_STATUS (R409) -/

theorem exec_keyStatus (c : Cmd) (s : State) : exec (.keyStatus c) s = leaves s (runCmd 0x0D06 false free_ keyStatus c s) := rfl

/-- The answer with the four entries; the free numbers that the empty slots may have taken are passed. -/
theorem keyStatus_eq (c : Cmd) (t : State) {r : State}
    (h : r = respond t c (.ok (keyEntry t 0 ++ keyEntry t 1 ++ keyEntry t 2 ++ keyEntry t 3) (!c.params.isEmpty))) :
    keyStatus c t = { r with freeIdx := r.freeIdx + 4 } := by
  subst h
  rfl

/-- Bits 127:64 of a slot's entry: the first 8 bytes of the key's SHA-256, free for an empty slot. -/
def fingerprint (t : State) (k : Nat) : List Byte :=
  match t.key k with
  | some x => (sha256 x).take 8
  | none => leBytes 8 (Config.freeNat (t.freeIdx + k))

theorem fingerprint_length (t : State) (k : Nat) : (fingerprint t k).length = 8 := by
  unfold fingerprint
  split
  · rw [List.length_take, sha256_length]
    rfl
  · exact leBytes_length _ _

theorem fingerprint_of_key {t : State} {k : Nat} {x : List Byte} (h : t.key k = some x) : fingerprint t k = (sha256 x).take 8 := by
  rw [fingerprint, h]

/-- An entry is its flag word, PRESENT and IN_USE, and its fingerprint. -/
theorem keyEntry_eq (t : State) (k : Nat) :
    keyEntry t k = leBytes 8 (b2n (t.key k).isSome + 2 * b2n (runningSlot t == some k)) ++ fingerprint t k := by
  cases h : t.key k <;> simp [keyEntry, fingerprint, h, b2n]

/-- Settles O53: the body of KEY_STATUS is the answer with four entries, and an entry is cut after its flag word. -/
theorem keyStatusReturnsFourEntries : Obligations.KeyStatusReturnsFourEntries := by
  refine ⟨?_, fun t k => ⟨?_, ?_, fun x h => ?_⟩⟩
  · rintro s c t r a rfl hr
    rw [← keyStatus_eq c _ hr]
    exact ends_of (exec_keyStatus c s) (admits_run a keyStatus)
  · rw [keyEntry_eq, List.length_append, leBytes_length, fingerprint_length]
  · rw [keyEntry_eq, List.take_left' (leBytes_length _ _)]
  · rw [keyEntry_eq, List.drop_left' (leBytes_length _ _), fingerprint_of_key h]

end Sys2Proof.Machine
end

section
/-!
The queue and the invariant of every step (10_time_and_events.md, 12_command_transport.md). Every command's meaning is `leaves`
of some state, so no command stops the block and none touches the queue (`exec_leaves`); every command keeps a state that
holds together (`exec_keeps_sound`, from the laws of the single commands), and so does an idle step (`sound_rest`).
-/

namespace Sys2Proof.Machine

/-! ### What every command has in common -/

/-- Each command's meaning changes the state and leaves the queue alone. -/
theorem exec_leaves (i : Instr) (s : State) : ∃ u, exec i s = leaves s u := by
  cases i <;> exact ⟨_, rfl⟩

/-- Settles O46: a command that leaves a state ends, and `leaves` restores the queue. -/
theorem everyCommandEnds : Obligations.EveryCommandEnds := by
  intro i s
  obtain ⟨u, h⟩ := exec_leaves i s
  exact ⟨_, h, rfl⟩

/-! ### The queue is worked off (log entry 5) -/

theorem step_of_pending {s : State} {c : Instr} {q : List Instr} (h : s.pending = c :: q) :
    step s = exec c { s with pending := q } := by
  unfold step
  rw [h]

theorem step_of_empty {s : State} (h : s.pending = []) : step s = .next (rest s) := by
  unfold step
  rw [h]

/-- A step on a queue that holds a command takes it off. -/
theorem step_pops {s : State} {c : Instr} {q : List Instr} (h : s.pending = c :: q) :
    ∃ t, step s = .next t ∧ t.pending = q := by
  obtain ⟨t, ht, hq⟩ := everyCommandEnds c { s with pending := q }
  exact ⟨t, (step_of_pending h).trans ht, hq⟩

theorem run_succ {s t : State} (h : step s = .next t) (k : Nat) :
    Sys2Proof.core.run (k + 1) s = Sys2Proof.core.run k t := by
  have core : Sys2Proof.core.step s = .next t := h
  simp only [Host.Core.run, core]

/-- Settles O47, by induction on the commands before `m`. -/
theorem queueWorkedOff : Obligations.QueueWorkedOff := by
  intro l
  induction l with
  | nil => exact fun m s h => ⟨s, rfl, h⟩
  | cons c l ih =>
    intro m s h
    obtain ⟨t, step_t, pending_t⟩ := step_pops h
    obtain ⟨u, run_u, pending_u⟩ := ih m t pending_t
    exact ⟨u, (run_succ step_t l.length).trans run_u, pending_u⟩

/-! ### Every step keeps the state sound -/

/-- Every command keeps a state that holds together: one law for each row of the opcode table. -/
theorem exec_keeps_sound (i : Instr) (s : State) (sound : Sound s) : Keeps s (exec i s) := by
  cases i with
  | nop c => exact sound_execNop c s sound
  | identify c => exact sound_execIdentify c s sound
  | sysStatus c => exact sound_execSysStatus c s sound
  | chipReset c => exact sound_execChipReset c s sound
  | chipResetDelayExpiry => exact sound_execChipResetDelayExpiry s sound
  | configSelect c => exact sound_execConfigSelect c s sound
  | portStatus c => exact sound_execPortStatus c s sound
  | portMove c => exact sound_execPortMove c s sound
  | portReset c => exact sound_execPortReset c s sound
  | planSet c => exact sound_execPlanSet c s sound
  | planGet c => exact sound_execPlanGet c s sound
  | modeSet c => exact sound_execModeSet c s sound
  | idmapGet c => exact sound_execIdmapGet c s sound
  | cacheRead c => exact sound_execCacheRead c s sound
  | portRefill c => exact sound_execPortRefill c s sound
  | lend c => exact sound_execLend c s sound
  | lendEndRecall c => exact sound_execLendEndRecall c s sound
  | lendEndRelease c => exact sound_execLendEndRelease c s sound
  | pdStatus c => exact sound_execPdStatus c s sound
  | pdCapsRead c => exact sound_execPdCapsRead c s sound
  | pdSettingsGet c => exact sound_execPdSettingsGet c s sound
  | pdSettingsSet c => exact sound_execPdSettingsSet c s sound
  | pdActionRenegotiate c => exact sound_execPdActionRenegotiate c s sound
  | pdActionSoftReset c => exact sound_execPdActionSoftReset c s sound
  | pdActionHardReset c => exact sound_execPdActionHardReset c s sound
  | pdActionErrorRecovery c => exact sound_execPdActionErrorRecovery c s sound
  | pdActionPrSwap c => exact sound_execPdActionPrSwap c s sound
  | pdActionGetSinkCap c => exact sound_execPdActionGetSinkCap c s sound
  | pdActionWaitingStart n => exact sound_execPdActionWaitingStart n s sound
  | ppcSettingsGet c => exact sound_execPpcSettingsGet c s sound
  | ppcSettingsSet c => exact sound_execPpcSettingsSet c s sound
  | portPowerCycle c => exact sound_execPortPowerCycle c s sound
  | powerCycleOffEnd n => exact sound_execPowerCycleOffEnd n s sound
  | meterRead c => exact sound_execMeterRead c s sound
  | converterStatus c => exact sound_execConverterStatus c s sound
  | converterInit c => exact sound_execConverterInit c s sound
  | feedSettingsGet c => exact sound_execFeedSettingsGet c s sound
  | feedSettingsSet c => exact sound_execFeedSettingsSet c s sound
  | pbaGlobalGet c => exact sound_execPbaGlobalGet c s sound
  | pbaGlobalSet c => exact sound_execPbaGlobalSet c s sound
  | pbaPortGet c => exact sound_execPbaPortGet c s sound
  | pbaPortSet c => exact sound_execPbaPortSet c s sound
  | budgetStatus c => exact sound_execBudgetStatus c s sound
  | pairStatus c => exact sound_execPairStatus c s sound
  | pairSettingsGet c => exact sound_execPairSettingsGet c s sound
  | pairSettingsSet c => exact sound_execPairSettingsSet c s sound
  | handover c => exact sound_execHandover c s sound
  | pairRelay c => exact sound_execPairRelay c s sound
  | fabricStatus c => exact sound_execFabricStatus c s sound
  | fabricSettingsGet c => exact sound_execFabricSettingsGet c s sound
  | fabricSettingsSet c => exact sound_execFabricSettingsSet c s sound
  | nodeList c => exact sound_execNodeList c s sound
  | eventFetch c => exact sound_execEventFetch c s sound
  | eventFetchPeek c => exact sound_execEventFetchPeek c s sound
  | queueStatus c => exact sound_execQueueStatus c s sound
  | eventRouteGet c => exact sound_execEventRouteGet c s sound
  | eventRouteSet c => exact sound_execEventRouteSet c s sound
  | eventSettingsGet c => exact sound_execEventSettingsGet c s sound
  | eventSettingsSet c => exact sound_execEventSettingsSet c s sound
  | timeStatus c => exact sound_execTimeStatus c s sound
  | timeSettingsGet c => exact sound_execTimeSettingsGet c s sound
  | timeSettingsSet c => exact sound_execTimeSettingsSet c s sound
  | timeEpoch c => exact sound_execTimeEpoch c s sound
  | timeEpochAtPps c => exact sound_execTimeEpochAtPps c s sound
  | sofRead c => exact sound_execSofRead c s sound
  | crockStatus c => exact sound_execCrockStatus c s sound
  | crockRead c => exact sound_execCrockRead c s sound
  | crockWrite c => exact sound_execCrockWrite c s sound
  | journalRead c => exact sound_execJournalRead c s sound
  | ffClear c => exact sound_execFfClear c s sound
  | userErase c => exact sound_execUserErase c s sound
  | sieveGet c => exact sound_execSieveGet c s sound
  | sieveSet c => exact sound_execSieveSet c s sound
  | sieveFeed c => exact sound_execSieveFeed c s sound
  | sieveFinish c => exact sound_execSieveFinish c s sound
  | sieveStatus c => exact sound_execSieveStatus c s sound
  | profileGet c => exact sound_execProfileGet c s sound
  | profileSet c => exact sound_execProfileSet c s sound
  | clStatus c => exact sound_execClStatus c s sound
  | clPin c => exact sound_execClPin c s sound
  | fwStatus c => exact sound_execFwStatus c s sound
  | fwVerify c => exact sound_execFwVerify c s sound
  | fwActivate c => exact sound_execFwActivate c s sound
  | fwRestart c => exact sound_execFwRestart c s sound
  | nonceRead c => exact sound_execNonceRead c s sound
  | keyWrite c => exact sound_execKeyWrite c s sound
  | keyClear c => exact sound_execKeyClear c s sound
  | keyStatus c => exact sound_execKeyStatus c s sound
  | selfTest c failed => exact sound_execSelfTest c failed s sound
  | errorCounters c => exact sound_execErrorCounters c s sound
  | diagTrigger c => exact sound_execDiagTrigger c s sound
  | phyTuneGet c => exact sound_execPhyTuneGet c s sound
  | phyTuneSet c => exact sound_execPhyTuneSet c s sound
  | usbCommandTransfer u bs => exact sound_execUsbCommandTransfer u bs s sound
  | responsePipeIn u => exact sound_execResponsePipeIn u s sound
  | fragmentAssemblyTimeout t => exact sound_execFragmentAssemblyTimeout t s sound
  | authLockoutEnd t => exact sound_execAuthLockoutEnd t s sound
  | sidebandWindowWrite smbus offset bs => exact sound_execSidebandWindowWrite smbus offset bs s sound
  | mbiCtrlGo smbus ctrl len message => exact sound_execMbiCtrlGo smbus ctrl len message s sound
  | mbiCtrlSync ctrl => exact sound_execMbiCtrlSync ctrl s sound
  | mboAck value => exact sound_execMboAck value s sound
  | mboTimeout => exact sound_execMboTimeout s sound
  | smbusAlertResponse => exact sound_execSmbusAlertResponse s sound
  | smbusTimeout => exact sound_execSmbusTimeout s sound
  | hibernateSmbusAccess write offset => exact sound_execHibernateSmbusAccess write offset s sound
  | commandFrame src tag seg last toAll bs => exact sound_execCommandFrame src tag seg last toAll bs s sound
  | responseFrame src tag seg last bs => exact sound_execResponseFrame src tag seg last bs s sound
  | cmdWaitExpiry tag => exact sound_execCmdWaitExpiry tag s sound
  | partnerCmdFrame seg last response outer bs => exact sound_execPartnerCmdFrame seg last response outer bs s sound
  | relayTimeout => exact sound_execRelayTimeout s sound
  | getPortStatus u fn n => exact sound_execGetPortStatus u fn n s sound
  | setPortFeaturePortReset u fn n => exact sound_execSetPortFeaturePortReset u fn n s sound
  | setPortFeaturePortSuspend u n => exact sound_execSetPortFeaturePortSuspend u n s sound
  | clearPortFeaturePortSuspend u n => exact sound_execClearPortFeaturePortSuspend u n s sound
  | clearPortFeaturePortEnable u n => exact sound_execClearPortFeaturePortEnable u n s sound
  | setPortFeaturePortPower u fn n => exact sound_execSetPortFeaturePortPower u fn n s sound
  | clearPortFeaturePortPower u fn n => exact sound_execClearPortFeaturePortPower u fn n s sound
  | setPortFeaturePortTest u n sel => exact sound_execSetPortFeaturePortTest u n sel s sound
  | setPortFeaturePortIndicator u n => exact sound_execSetPortFeaturePortIndicator u n s sound
  | clearPortFeatureC u fn n c => exact sound_execClearPortFeatureC u fn n c s sound
  | clearTtBuffer u n addr ep => exact sound_execClearTtBuffer u n addr ep s sound
  | resetTt u n => exact sound_execResetTt u n s sound
  | getTtState u n wLength => exact sound_execGetTtState u n wLength s sound
  | stopTt u n => exact sound_execStopTt u n s sound
  | setPortFeaturePortLinkState u n st => exact sound_execSetPortFeaturePortLinkState u n st s sound
  | setPortFeatureBhPortReset u n => exact sound_execSetPortFeatureBhPortReset u n s sound
  | setPortFeaturePortU1Timeout u n value => exact sound_execSetPortFeaturePortU1Timeout u n value s sound
  | setPortFeaturePortU2Timeout u n value => exact sound_execSetPortFeaturePortU2Timeout u n value s sound
  | setPortFeatureRemoteWakeMask u n mask => exact sound_execSetPortFeatureRemoteWakeMask u n mask s sound
  | getPortErrorCount u n => exact sound_execGetPortErrorCount u n s sound
  | hubSetConfiguration u fn value => exact sound_execHubSetConfiguration u fn value s sound
  | hubSetInterface u alt => exact sound_execHubSetInterface u alt s sound
  | hubGetDescriptor u fn kind index wLength => exact sound_execHubGetDescriptor u fn kind index wLength s sound
  | hubLpmToken u besl => exact sound_execHubLpmToken u besl s sound
  | hsToken u t addr ep => exact sound_execHsToken u t addr ep s sound
  | addressLearn p addr => exact sound_execAddressLearn p addr s sound
  | sofReceived u frame uframe => exact sound_execSofReceived u frame uframe s sound
  | frameStart u => exact sound_execFrameStart u s sound
  | ssHeaderPacket u down n bs => exact sound_execSsHeaderPacket u down n bs s sound
  | ttSsplit u n addr ep periodic pid ls toggle count data => exact sound_execTtSsplit u n addr ep periodic pid ls toggle count data s sound
  | ttCsplit u n addr ep periodic isIn => exact sound_execTtCsplit u n addr ep periodic isIn s sound
  | ttTransactionDone p addr ep periodic isIn res => exact sound_execTtTransactionDone p addr ep periodic isIn res s sound
  | ttResultDiscard p addr ep isIn => exact sound_execTtResultDiscard p addr ep isIn s sound
  | planApply => exact sound_execPlanApply s sound
  | planApplyTimeout => exact sound_execPlanApplyTimeout s sound
  | scrubPass single bad => exact sound_execScrubPass single bad s sound
  | connect p pullUpDp => exact sound_execConnect p pullUpDp s sound
  | disconnect p => exact sound_execDisconnect p s sound
  | deviceChirp p => exact sound_execDeviceChirp p s sound
  | deviceChirpEnd p inTime => exact sound_execDeviceChirpEnd p inTime s sound
  | resetEnd p idle => exact sound_execResetEnd p idle s sound
  | cdpVdpSrc p present => exact sound_execCdpVdpSrc p present s sound
  | upstreamSuspend u => exact sound_execUpstreamSuspend u s sound
  | deviceLpmAck p besl => exact sound_execDeviceLpmAck p besl s sound
  | proxyLpmToken u n besl device => exact sound_execProxyLpmToken u n besl device s sound
  | deviceWake p => exact sound_execDeviceWake p s sound
  | hostK u => exact sound_execHostK u s sound
  | upstreamWakeDriveEnd u lineK => exact sound_execUpstreamWakeDriveEnd u lineK s sound
  | resumeKEnd p => exact sound_execResumeKEnd p s sound
  | upstreamResumeEop u => exact sound_execUpstreamResumeEop u s sound
  | babble p => exact sound_execBabble p s sound
  | lossOfActivity p => exact sound_execLossOfActivity p s sound
  | portError p => exact sound_execPortError p s sound
  | rxDetectProbe n found => exact sound_execRxDetectProbe n found s sound
  | ssTrainingDone t => exact sound_execSsTrainingDone t s sound
  | pollingTimeout n lfps => exact sound_execPollingTimeout n lfps s sound
  | recoveryTimeout n => exact sound_execRecoveryTimeout n s sound
  | ssLinkError n => exact sound_execSsLinkError n s sound
  | lgoU1U2 n lvl => exact sound_execLgoU1U2 n lvl s sound
  | u1U2IdleTimeout n u2 accepted => exact sound_execU1U2IdleTimeout n u2 accepted s sound
  | exitLfps n => exact sound_execExitLfps n s sound
  | lfpsWake p => exact sound_execLfpsWake p s sound
  | u3WakeHandshakeTimeout p => exact sound_execU3WakeHandshakeTimeout p s sound
  | warmResetDone n => exact sound_execWarmResetDone n s sound
  | fillRequestDone p data => exact sound_execFillRequestDone p data s sound
  | fillAttemptTimeout p => exact sound_execFillAttemptTimeout p s sound
  | tfillExpiry p => exact sound_execTfillExpiry p s sound
  | proxySetAddress u n addr => exact sound_execProxySetAddress u n addr s sound
  | proxyGetDescriptor u n kind index wLength => exact sound_execProxyGetDescriptor u n kind index wLength s sound
  | proxySetup u n setup => exact sound_execProxySetup u n setup s sound
  | forwardedSetConfigurationDone l => exact sound_execForwardedSetConfigurationDone l s sound
  | forwardedSetInterfaceDone l => exact sound_execForwardedSetInterfaceDone l s sound
  | clearFeatureEndpointHalt u n ep => exact sound_execClearFeatureEndpointHalt u n ep s sound
  | virtualResetEnd l => exact sound_execVirtualResetEnd l s sound
  | resetWindowExpiry l => exact sound_execResetWindowExpiry l s sound
  | refillDone p => exact sound_execRefillDone p s sound
  | hostOut u n ep toggle data => exact sound_execHostOut u n ep toggle data s sound
  | hostIn u n ep acked => exact sound_execHostIn u n ep acked s sound
  | hostPing u n ep => exact sound_execHostPing u n ep s sound
  | deviceInData p ep data => exact sound_execDeviceInData p ep data s sound
  | deviceOutAck p e => exact sound_execDeviceOutAck p e s sound
  | deviceStall p ep => exact sound_execDeviceStall p ep s sound
  | interruptInPoll p ep => exact sound_execInterruptInPoll p ep s sound
  | drainDone l => exact sound_execDrainDone l s sound
  | drainTimeout l => exact sound_execDrainTimeout l s sound
  | upstreamBusReset u hs => exact sound_execUpstreamBusReset u hs s sound
  | upstreamConnectionLost u => exact sound_execUpstreamConnectionLost u s sound
  | lendPresented u v => exact sound_execLendPresented u v s sound
  | lendBorrowerTimeout p => exact sound_execLendBorrowerTimeout p s sound
  | lendHoldExpiry l => exact sound_execLendHoldExpiry l s sound
  | tunnelData h data => exact sound_execTunnelData h data s sound
  | tunnelDraw h => exact sound_execTunnelDraw h s sound
  | tunnelAck h => exact sound_execTunnelAck h s sound
  | tunnelCredit h total => exact sound_execTunnelCredit h total s sound
  | tunnelSetup h setup => exact sound_execTunnelSetup h setup s sound
  | tunnelResult h result => exact sound_execTunnelResult h result s sound
  | tunnelReset h => exact sound_execTunnelReset h s sound
  | tunnelWake h => exact sound_execTunnelWake h s sound
  | tunnelSuspend h => exact sound_execTunnelSuspend h s sound
  | tunnelResume h => exact sound_execTunnelResume h s sound
  | tunnelOpen h data => exact sound_execTunnelOpen h data s sound
  | tunnelOpenDone h => exact sound_execTunnelOpenDone h s sound
  | tunnelClose h => exact sound_execTunnelClose h s sound
  | tunnelResync h last => exact sound_execTunnelResync h last s sound
  | tunnelDiscard h => exact sound_execTunnelDiscard h s sound
  | tunnelUnackedTimeout l => exact sound_execTunnelUnackedTimeout l s sound
  | rdSeen n v1 v2 => exact sound_execRdSeen n v1 v2 s sound
  | attachQualified n vsafe5V => exact sound_execAttachQualified n vsafe5V s sound
  | rdLost n => exact sound_execRdLost n s sound
  | ccOpen n => exact sound_execCcOpen n s sound
  | detachQualified n => exact sound_execDetachQualified n s sound
  | accessoryIgnored n => exact sound_execAccessoryIgnored n s sound
  | errorRecoveryEnd n => exact sound_execErrorRecoveryEnd n s sound
  | vconnOvercurrent n => exact sound_execVconnOvercurrent n s sound
  | drpToggle u => exact sound_execDrpToggle u s sound
  | rpSeen u v => exact sound_execRpSeen u v s sound
  | tryDebounce u vsafe5V => exact sound_execTryDebounce u vsafe5V s sound
  | tryTimeout u => exact sound_execTryTimeout u s sound
  | vbusBelowVsinkdisconnect u => exact sound_execVbusBelowVsinkdisconnect u s sound
  | deadBatteryAttach u v => exact sound_execDeadBatteryAttach u v s sound
  | goodcrc n id sopPrime => exact sound_execGoodcrc n id sopPrime s sound
  | crcReceiveTimerExpiry n => exact sound_execCrcReceiveTimerExpiry n s sound
  | chunkRequest h chunk => exact sound_execChunkRequest h chunk s sound
  | chunkTimeout n sender => exact sound_execChunkTimeout n sender s sound
  | sinktxWaitEnd n => exact sound_execSinktxWaitEnd n s sound
  | request h rdo => exact sound_execRequest h rdo s sound
  | eprRequest h rdo pdo => exact sound_execEprRequest h rdo pdo s sound
  | eprModeEnter h pdp => exact sound_execEprModeEnter h pdp s sound
  | eprModeExit h => exact sound_execEprModeExit h s sound
  | getSourceCap h => exact sound_execGetSourceCap h s sound
  | eprGetSourceCap h => exact sound_execEprGetSourceCap h s sound
  | eprKeepalive h => exact sound_execEprKeepalive h s sound
  | getSinkCap h => exact sound_execGetSinkCap h s sound
  | getSourceCapExtended h => exact sound_execGetSourceCapExtended h s sound
  | getStatus h => exact sound_execGetStatus h s sound
  | getPpsStatus h => exact sound_execGetPpsStatus h s sound
  | getSourceInfo h => exact sound_execGetSourceInfo h s sound
  | getRevision h => exact sound_execGetRevision h s sound
  | sourceCapabilities h pdos => exact sound_execSourceCapabilities h pdos s sound
  | sinkCapabilities h pdos => exact sound_execSinkCapabilities h pdos s sound
  | accept h => exact sound_execAccept h s sound
  | reject h => exact sound_execReject h s sound
  | wait h => exact sound_execWait h s sound
  | psRdy h => exact sound_execPsRdy h s sound
  | softReset h => exact sound_execSoftReset h s sound
  | hardResetSignal n => exact sound_execHardResetSignal n s sound
  | drSwap h => exact sound_execDrSwap h s sound
  | prSwap h => exact sound_execPrSwap h s sound
  | frSwap h => exact sound_execFrSwap h s sound
  | vconnSwap h => exact sound_execVconnSwap h s sound
  | bist h mode => exact sound_execBist h mode s sound
  | alert h ado => exact sound_execAlert h ado s sound
  | notSupported h => exact sound_execNotSupported h s sound
  | ping h => exact sound_execPing h s sound
  | vendorDefined h vdos => exact sound_execVendorDefined h vdos s sound
  | unsupportedMessage m => exact sound_execUnsupportedMessage m s sound
  | discoverIdentityStart n => exact sound_execDiscoverIdentityStart n s sound
  | discoverIdentityRetry n => exact sound_execDiscoverIdentityRetry n s sound
  | cableIdentity n id rev amps5 maxMv epr => exact sound_execCableIdentity n id rev amps5 maxMv epr s sound
  | capsReadvertise n => exact sound_execCapsReadvertise n s sound
  | typecSendSourceCapExpiry n => exact sound_execTypecSendSourceCapExpiry n s sound
  | senderResponseExpiry n => exact sound_execSenderResponseExpiry n s sound
  | srcTransitionExpiry n => exact sound_execSrcTransitionExpiry n s sound
  | srcSettleExpiry n => exact sound_execSrcSettleExpiry n s sound
  | psHardResetExpiry n => exact sound_execPsHardResetExpiry n s sound
  | safe0vExpiry n => exact sound_execSafe0vExpiry n s sound
  | srcRecoverExpiry n => exact sound_execSrcRecoverExpiry n s sound
  | noResponseExpiry n => exact sound_execNoResponseExpiry n s sound
  | enterEprExpiry n => exact sound_execEnterEprExpiry n s sound
  | sourceEprKeepaliveExpiry n => exact sound_execSourceEprKeepaliveExpiry n s sound
  | ppsTimeoutExpiry n => exact sound_execPpsTimeoutExpiry n s sound
  | psSourceOffExpiry u => exact sound_execPsSourceOffExpiry u s sound
  | psSourceOnExpiry u => exact sound_execPsSourceOnExpiry u s sound
  | swapSourceStartExpiry u => exact sound_execSwapSourceStartExpiry u s sound
  | frsSignalEnd u => exact sound_execFrsSignalEnd u s sound
  | frSwapWaitExpiry u => exact sound_execFrSwapWaitExpiry u s sound
  | vbusRequest n => exact sound_execVbusRequest n s sound
  | offRequest n => exact sound_execOffRequest n s sound
  | converterCheckPass n => exact sound_execConverterCheckPass n s sound
  | converterNotReady n => exact sound_execConverterNotReady n s sound
  | converterRetry n => exact sound_execConverterRetry n s sound
  | meterSample ch => exact sound_execMeterSample ch s sound
  | powerGood n => exact sound_execPowerGood n s sound
  | slowTrip n => exact sound_execSlowTrip n s sound
  | fastTrip n => exact sound_execFastTrip n s sound
  | reverseTrip n => exact sound_execReverseTrip n s sound
  | undervoltTrip n => exact sound_execUndervoltTrip n s sound
  | turnOnTimeout n => exact sound_execTurnOnTimeout n s sound
  | ccReturn n => exact sound_execCcReturn n s sound
  | psRdyEop n => exact sound_execPsRdyEop n s sound
  | coolDownEnd n => exact sound_execCoolDownEnd n s sound
  | tripCountReset n => exact sound_execTripCountReset n s sound
  | dischargeDone n => exact sound_execDischargeDone n s sound
  | dischargeTimeout n => exact sound_execDischargeTimeout n s sound
  | pmbusInit n => exact sound_execPmbusInit n s sound
  | pmbusTransactionDone segB e => exact sound_execPmbusTransactionDone segB e s sound
  | pmbusBusStuck segB => exact sound_execPmbusBusStuck segB s sound
  | pmbusClockStretchTimeout segB => exact sound_execPmbusClockStretchTimeout segB s sound
  | pmbusPoll segB => exact sound_execPmbusPoll segB s sound
  | pmbusAlert segB => exact sound_execPmbusAlert segB s sound
  | feedAbsent feedB => exact sound_execFeedAbsent feedB s sound
  | feedQualifyStart feedB => exact sound_execFeedQualifyStart feedB s sound
  | feedQualified feedB => exact sound_execFeedQualified feedB s sound
  | feedWarning feedB => exact sound_execFeedWarning feedB s sound
  | feedWarningClear feedB => exact sound_execFeedWarningClear feedB s sound
  | feedOvervolt feedB => exact sound_execFeedOvervolt feedB s sound
  | feedOvReturn feedB => exact sound_execFeedOvReturn feedB s sound
  | feedReverseOff feedB => exact sound_execFeedReverseOff feedB s sound
  | feedForwardReenable feedB => exact sound_execFeedForwardReenable feedB s sound
  | feedOvercurrent feedB => exact sound_execFeedOvercurrent feedB s sound
  | feedOvercurrentShedStep feedB => exact sound_execFeedOvercurrentShedStep feedB s sound
  | feedOvercurrentCleared feedB => exact sound_execFeedOvercurrentCleared feedB s sound
  | restoreClassStep why => exact sound_execRestoreClassStep why s sound
  | allocRecompute => exact sound_execAllocRecompute s sound
  | shedPlanRefresh => exact sound_execShedPlanRefresh s sound
  | pendingIncreaseRelease => exact sound_execPendingIncreaseRelease s sound
  | committedOverBudget => exact sound_execCommittedOverBudget s sound
  | hbEdge => exact sound_execHbEdge s sound
  | hbOutWatchdog => exact sound_execHbOutWatchdog s sound
  | partnerLost live => exact sound_execPartnerLost live s sound
  | liveWord st seq => exact sound_execLiveWord st seq s sound
  | claimResample => exact sound_execClaimResample s sound
  | claimWon => exact sound_execClaimWon s sound
  | deferralEnd => exact sound_execDeferralEnd s sound
  | partnerResetPulseEnd => exact sound_execPartnerResetPulseEnd s sound
  | takeoverPsxActive => exact sound_execTakeoverPsxActive s sound
  | pairSelfTestDone failed => exact sound_execPairSelfTestDone failed s sound
  | bootWaitExpiry => exact sound_execBootWaitExpiry s sound
  | fullSyncDone => exact sound_execFullSyncDone s sound
  | ladleUp => exact sound_execLadleUp s sound
  | ladleDown => exact sound_execLadleDown s sound
  | digestSend => exact sound_execDigestSend s sound
  | digestFrame mismatch => exact sound_execDigestFrame mismatch s sound
  | slowFrame items => exact sound_execSlowFrame items s sound
  | mirrorFrame items => exact sound_execMirrorFrame items s sound
  | syncFrame items => exact sound_execSyncFrame items s sound
  | mirrorStall => exact sound_execMirrorStall s sound
  | handoverQuietPoint => exact sound_execHandoverQuietPoint s sound
  | handoverWaitExpiry => exact sound_execHandoverWaitExpiry s sound
  | handoverRelease => exact sound_execHandoverRelease s sound
  | handoverFrame rejoin => exact sound_execHandoverFrame rejoin s sound
  | handoverGateRelease dur => exact sound_execHandoverGateRelease dur s sound
  | rejoinTimerExpiry => exact sound_execRejoinTimerExpiry s sound
  | handoverRetry => exact sound_execHandoverRetry s sound
  | blockLock k => exact sound_execBlockLock k s sound
  | tsExchangeDone l ts => exact sound_execTsExchangeDone l ts s sound
  | linkCheckDone l ok rtt => exact sound_execLinkCheckDone l ok rtt s sound
  | lockLost l w => exact sound_execLockLost l w s sound
  | retrainWindowExpiry l => exact sound_execRetrainWindowExpiry l s sound
  | linkWordSend l => exact sound_execLinkWordSend l s sound
  | frameReceived l lseq f lchkOk fcrcOk => exact sound_execFrameReceived l lseq f lchkOk fcrcOk s sound
  | ackWord l lseq => exact sound_execAckWord l lseq s sound
  | nakWord l lseq => exact sound_execNakWord l lseq s sound
  | replayWord l lseq => exact sound_execReplayWord l lseq s sound
  | abortWord l vc credits => exact sound_execAbortWord l vc credits s sound
  | creditWord l vc total => exact sound_execCreditWord l vc total s sound
  | retrainWord l => exact sound_execRetrainWord l s sound
  | replayTimerExpiry l => exact sound_execReplayTimerExpiry l s sound
  | hello l h => exact sound_execHello l h s sound
  | lsa l a => exact sound_execLsa l a s sound
  | lsaRefresh => exact sound_execLsaRefresh s sound
  | lsaPurge => exact sound_execLsaPurge s sound
  | linkUsable l => exact sound_execLinkUsable l s sound
  | nodeIdClaimSettle => exact sound_execNodeIdClaimSettle s sound
  | routeComputeDone => exact sound_execRouteComputeDone s sound
  | creditStallExpiry l vc => exact sound_execCreditStallExpiry l vc s sound
  | sleepWord l ack => exact sound_execSleepWord l ack s sound
  | wakePatternSend l => exact sound_execWakePatternSend l s sound
  | wakeSendTimeout l => exact sound_execWakeSendTimeout l s sound
  | wakeEnergy l => exact sound_execWakeEnergy l s sound
  | wakePatternSeen l => exact sound_execWakePatternSeen l s sound
  | wakeProbeTimeout l => exact sound_execWakeProbeTimeout l s sound
  | timeReqSend => exact sound_execTimeReqSend s sound
  | timeReq l seq => exact sound_execTimeReq l seq s sound
  | timeResp l seq value => exact sound_execTimeResp l seq value s sound
  | timeRxstamp l seq value => exact sound_execTimeRxstamp l seq value s sound
  | timeHigh l seq value => exact sound_execTimeHigh l seq value s sound
  | holdoverTimeout => exact sound_execHoldoverTimeout s sound
  | holdoverLimit => exact sound_execHoldoverLimit s sound
  | tsyncInEdge => exact sound_execTsyncInEdge s sound
  | pulseMissing => exact sound_execPulseMissing s sound
  | tsyncOutRise => exact sound_execTsyncOutRise s sound
  | tsyncOutFall => exact sound_execTsyncOutFall s sound
  | detectorFire src code data => exact sound_execDetectorFire src code data s sound
  | captureRelease => exact sound_execCaptureRelease s sound
  | coalescedStore q => exact sound_execCoalescedStore q s sound
  | eventPipeIn u => exact sound_execEventPipeIn u s sound
  | eventPipeAck u => exact sound_execEventPipeAck u s sound
  | fabForwardSend => exact sound_execFabForwardSend s sound
  | eventsFrame src seq recs => exact sound_execEventsFrame src seq recs s sound
  | mergeHoldExpiry => exact sound_execMergeHoldExpiry s sound
  | journalFrame src seq recs => exact sound_execJournalFrame src seq recs s sound
  | journalRecordWrite res => exact sound_execJournalRecordWrite res s sound
  | droppedReport => exact sound_execDroppedReport s sound
  | vddnvFall => exact sound_execVddnvFall s sound
  | userLineWrite => exact sound_execUserLineWrite s sound
  | ffSlotZeroing => exact sound_execFfSlotZeroing s sound
  | journalScan => exact sound_execJournalScan s sound
  | dozeEnter => exact sound_execDozeEnter s sound
  | dozeWake failed => exact sound_execDozeWake failed s sound
  | hibernateEnter => exact sound_execHibernateEnter s sound
  | hibernateWake src => exact sound_execHibernateWake src s sound
  | wakeRailsValid failed => exact sound_execWakeRailsValid failed s sound
  | wakeRailFail rail => exact sound_execWakeRailFail rail s sound
  | regenRetry => exact sound_execRegenRetry s sound
  | bankRestoreFromPartner bank ok => exact sound_execBankRestoreFromPartner bank ok s sound
  | aonTimerWake => exact sound_execAonTimerWake s sound
  | gpioEdge n rise => exact sound_execGpioEdge n rise s sound
  | xtalFail => exact sound_execXtalFail s sound
  | xtalRestart runs => exact sound_execXtalRestart runs s sound
  | xtalStop => exact sound_execXtalStop s sound
  | frefLost => exact sound_execFrefLost s sound
  | railOutOfWindow rail high mv => exact sound_execRailOutOfWindow rail high mv s sound
  | vaonLoss => exact sound_execVaonLoss s sound
  | resetNLow => exact sound_execResetNLow s sound
  | resetNRelease straps railsOk => exact sound_execResetNRelease straps railsOk s sound
  | powerUp straps resetHigh => exact sound_execPowerUp straps resetHigh s sound
  | firmwareDone => exact sound_execFirmwareDone s sound
  | firmwareWatchdog => exact sound_execFirmwareWatchdog s sound
  | deadFeedStart u => exact sound_execDeadFeedStart u s sound
  | deadFeedRegen u => exact sound_execDeadFeedRegen u s sound
  | thermalWarning enter temp => exact sound_execThermalWarning enter temp s sound
  | thermalShutdown temp => exact sound_execThermalShutdown temp s sound
  | thermalRecovery temp => exact sound_execThermalRecovery temp s sound
  | proxyL1Idle p device => exact sound_execProxyL1Idle p device s sound
  | upU1U2Idle u u2 accepted => exact sound_execUpU1U2Idle u u2 accepted s sound
  | timeStatusWord l seq root stratum flags => exact sound_execTimeStatusWord l seq root stratum flags s sound
  | tkoInEdge level => exact sound_execTkoInEdge level s sound
  | hubSetFeature u f on => exact sound_execHubSetFeature u f on s sound
  | hubSetAddress u fn addr => exact sound_execHubSetAddress u fn addr s sound
  | railReturned rail mv => exact sound_execRailReturned rail mv s sound
  | deadFeedStop => exact sound_execDeadFeedStop s sound
  | hardResetCompleteExpiry n => exact sound_execHardResetCompleteExpiry n s sound
  | watchdogRestart => exact sound_execWatchdogRestart s sound
  | pairWakeDetectTimeout => exact sound_execPairWakeDetectTimeout s sound
  | bankRestoreTimeout => exact sound_execBankRestoreTimeout s sound
  | mgmtResetDone u => exact sound_execMgmtResetDone u s sound
  | suspendDrainTimeout p => exact sound_execSuspendDrainTimeout p s sound
  | frefRestored => exact sound_execFrefRestored s sound
  | sinkPathIdealDiode u reverse => exact sound_execSinkPathIdealDiode u reverse s sound

theorem rest_pending (s : State) : (rest s).pending = s.pending := by
  obtain ⟨f, a, b, c, d, h⟩ := told_share (idle s)
  rw [rest, h]
  rfl

/-- The queue is no part of what holds the state together. -/
theorem Sound.requeue {s : State} (h : Sound s) (q : List Instr) : Sound { s with pending := q } := h.of

/-- Settles O48: a step on an empty queue idles; on any other it executes the command in front, and both keep `Sound`. -/
theorem stepKeepsSound : Obligations.StepKeepsSound := by
  intro s t sound waits
  cases queue : s.pending with
  | nil =>
    rw [step_of_empty queue]
    rintro ⟨⟩
    exact ⟨sound_rest s sound, fun c hc => waits c (rest_pending s ▸ hc)⟩
  | cons c q =>
    rw [step_of_pending queue]
    obtain ⟨u, hu, sound_u⟩ := exec_keeps_sound c _ (sound.requeue q)
    rw [hu]
    rintro ⟨⟩
    exact ⟨sound_u.requeue q, fun i hi => waits i (queue ▸ List.mem_cons_of_mem c hi)⟩

end Sys2Proof.Machine
end

section
/-!
Packets and journal records (R318, R322, R339, R342). Both are fields laid end to end before a CRC. A packet's header is
twelve bytes, so each field is cut from its own place (`packet_opcode` and the lemmas beside it), and what the CRC covers is
again the header and the payload (`packet_covered`). A journal record is 60 bytes and their CRC (`journalBody`).
-/

namespace Sys2Proof.Machine

/-- A field of `n` bytes reads back when its value fits them. -/
theorem leNat_leBytes_of_lt {n v : Nat} (h : v < 256 ^ n) : leNat (leBytes n v) = v := by
  rw [leNat_leBytes, Nat.mod_eq_of_lt h]

theorem leNat_leBytes_crc (bs : List Byte) : leNat (leBytes 4 (crc32c bs)) = crc32c bs :=
  leNat_leBytes_of_lt (lt_of_lt_of_eq (crc32c_lt bs) (by norm_num))

/-! ### The places of a packet's fields (R339) -/

section
variable (opcode tag target flags status : Nat) (payload : List Byte)

theorem packet_mark : slice (packetBytes opcode tag target flags status payload) 0 2 = [0xC5, 0x01] := rfl

theorem packet_opcode : slice (packetBytes opcode tag target flags status payload) 2 2 = leBytes 2 opcode := rfl

theorem packet_tag : slice (packetBytes opcode tag target flags status payload) 4 2 = leBytes 2 tag := rfl

theorem packet_len : slice (packetBytes opcode tag target flags status payload) 6 2 = leBytes 2 payload.length := rfl

theorem packet_target : slice (packetBytes opcode tag target flags status payload) 8 1 = leBytes 1 target := rfl

theorem packet_flags : slice (packetBytes opcode tag target flags status payload) 9 1 = leBytes 1 flags := rfl

theorem packet_status : slice (packetBytes opcode tag target flags status payload) 10 2 = leBytes 2 status := rfl

theorem packet_crc : slice (packetBytes opcode tag target flags status payload) 12 4 =
    leBytes 4 (crc32c (headBytes opcode tag payload.length target flags status ++ payload)) := rfl

theorem packet_payload : (packetBytes opcode tag target flags status payload).drop 16 = payload := rfl

/-- What the CRC covers is cut out of the packet again. -/
theorem packet_covered : (packetBytes opcode tag target flags status payload).take 12 ++
    (packetBytes opcode tag target flags status payload).drop 16 =
      headBytes opcode tag payload.length target flags status ++ payload := rfl

theorem packet_length : (packetBytes opcode tag target flags status payload).length = 16 + payload.length := by
  simp only [packetBytes, headBytes, List.length_append, leBytes_length, List.length_cons, List.length_nil]

/-- The front-end finds no fault with a packet that was built (R342). -/
theorem packetFault_packetBytes (h : payload.length ≤ 4088) :
    packetFault (packetBytes opcode tag target flags status payload) = none := by
  have len : leNat (leBytes 2 payload.length) = payload.length := leNat_leBytes_of_lt (by norm_num; omega)
  have size : ¬ (16 + payload.length < 16 ∨ 4088 < payload.length ∨ payload.length ≠ 16 + payload.length - 16) := by omega
  have mark : leNat [0xC5, 0x01] = 0x01C5 := rfl
  unfold packetFault
  rw [packet_len, packet_length, len, packet_crc, packet_covered, packet_mark, leNat_leBytes_crc, mark]
  simp only [if_neg size, ne_eq, not_true_eq_false, if_false]

/-- The command that a packet carries. -/
theorem readPacket_packetBytes (tr : Transport) (ftag : Nat) (mute : Bool) (op : opcode < 2 ^ 16) (tg : tag < 2 ^ 16)
    (tgt : target < 2 ^ 8) (fl : flags < 2 ^ 8) :
    readPacket tr ftag mute (packetBytes opcode tag target flags status payload) =
      { tr := tr, opcode := opcode, tag := tag, target := target, auth := bit flags 0, noresp := bit flags 1,
        payload := payload, ftag := ftag, rsv := bits flags 7 4,
        crc := some (crc32c (headBytes opcode tag payload.length target flags status ++ payload)), mute := mute } := by
  unfold readPacket
  rw [packet_opcode, packet_tag, packet_target, packet_flags, packet_crc, packet_payload, leNat_leBytes_crc,
    leNat_leBytes_of_lt (n := 2) op, leNat_leBytes_of_lt (n := 2) tg, leNat_leBytes_of_lt (n := 1) tgt,
    leNat_leBytes_of_lt (n := 1) fl]

/-- The response that a packet carries (R340). -/
theorem respOf_packetBytes (st : status < 2 ^ 16) (fl : flags < 2 ^ 8) :
    respOf (packetBytes opcode tag target flags status payload) =
      { status := status, clamped := bit flags 2, payload := payload } := by
  unfold respOf
  rw [packet_status, packet_flags, packet_payload, leNat_leBytes_of_lt (n := 2) st, leNat_leBytes_of_lt (n := 1) fl]

end

/-! ### A journal record (R318) -/

/-- The 28 bytes of a record's event. -/
def journalEvent (r : EvRec) (j : Nat) : List Byte :=
  leBytes 8 r.time ++ leBytes 2 r.source ++ leBytes 1 r.node ++ leBytes 1 (r.severity + 16 * r.cls)
    ++ leBytes 2 r.code ++ leBytes 2 (j % 65536) ++ leBytes 12 r.data.toNat

/-- The 56 bytes before the JSEQ: the event, its CRC and the context. -/
def journalHead (s : State) (r : EvRec) (first : Bool) (j : Nat) : List Byte :=
  journalEvent r j ++ leBytes 4 (crc32c (journalEvent r j)) ++ contextBytes s r first

/-- The 60 bytes before the JCRC. -/
def journalBody (s : State) (r : EvRec) (first : Bool) (j : Nat) : List Byte := journalHead s r first j ++ leBytes 4 j

theorem journalBytes_eq (s : State) (r : EvRec) (first : Bool) (j : Nat) :
    journalBytes s r first j = journalBody s r first j ++ leBytes 4 (crc32c (journalBody s r first j)) := rfl

theorem journalHead_length (s : State) (r : EvRec) (first : Bool) (j : Nat) : (journalHead s r first j).length = 56 := by
  simp only [journalHead, journalEvent, contextBytes, List.length_append, leBytes_length]

theorem journalBody_length (s : State) (r : EvRec) (first : Bool) (j : Nat) : (journalBody s r first j).length = 60 := by
  rw [journalBody, List.length_append, journalHead_length, leBytes_length]

/-- The JCRC stands behind the 60 bytes that it covers. -/
theorem slotValid_journalBytes (s : State) (r : EvRec) (first : Bool) (j : Nat) : slotValid (journalBytes s r first j) = true := by
  unfold slotValid
  rw [journalBytes_eq, List.drop_left' (journalBody_length s r first j), List.take_left' (journalBody_length s r first j),
    leNat_leBytes_crc, beq_self_eq_true]

theorem slotJseq_journalBytes (s : State) (r : EvRec) (first : Bool) {j : Nat} (h : j < 2 ^ 32) :
    slotJseq (journalBytes s r first j) = j := by
  unfold slotJseq
  rw [journalBytes_eq, journalBody, List.append_assoc,
    slice_at _ _ _ 56 4 (journalHead_length s r first j) (leBytes_length 4 j), leNat_leBytes_of_lt (n := 4) h]

/-- Settles O58: a packet's fields are cut from where they were laid, and a record's JCRC and JSEQ likewise. -/
theorem packetsAndRecordsReadBack : Obligations.PacketsAndRecordsReadBack := by
  refine ⟨fun tr ftag mute opcode tag target flags status payload op tg tgt fl st len =>
    ⟨packetFault_packetBytes opcode tag target flags status payload len, _,
      readPacket_packetBytes opcode tag target flags status payload tr ftag mute op tg tgt fl,
      respOf_packetBytes opcode tag target flags status payload st fl⟩, fun s r first j hj => ⟨?_, ?_, ?_⟩⟩
  · exact slotValid_journalBytes s r first j
  · exact slotJseq_journalBytes s r first hj
  · rw [journalBytes_eq, List.length_append, journalBody_length, leBytes_length]

end Sys2Proof.Machine
end

section
/-!
The Crock's bytes and its paired lines (R311, R325). What a read finds after a write is one equation (`readCell_crockWrite`).
A copy of a paired line that was written reads back with its count (`pairedCopy_written`), the other copy stands
(`pairedCopy_beside`), and the copy with the greater count is in force (`paired_of_low`, `paired_of_high`).
-/

namespace Sys2Proof.Machine

/-! ### Reading after a write (R311) -/

/-- A write reaches the addresses of its bytes inside the 4 MiB, and no others. -/
theorem readCell_crockWrite {s : State} (a : Nat) (bs : List Byte) (w : Memory.wf s.crock.mem = true) (x : Nat) :
    readCell (crockWrite s a bs).crock.mem x =
      if a ≤ x ∧ x < a + bs.length ∧ x < 0x400000 then bs.getD (x - a) 0 else readCell s.crock.mem x := by
  show readCell (writeCells s.crock.mem a (bs.take (0x400000 - a))) x = _
  by_cases inside : a ≤ 0x400000
  · have fits : a + (bs.take (0x400000 - a)).length ≤ 0x400000 := by rw [List.length_take]; omega
    rw [(writeCells_all _ _ a fits w).2 x, List.length_take]
    by_cases h : a ≤ x ∧ x < a + bs.length ∧ x < 0x400000
    · obtain ⟨low, high, last⟩ := h
      have early : x - a < 0x400000 - a := by omega
      rw [if_pos ⟨low, by omega⟩, if_pos ⟨low, high, last⟩, List.getD_eq_getElem?_getD, List.getD_eq_getElem?_getD,
        List.getElem?_take_of_lt early]
    · rw [if_neg h, if_neg (by omega)]
  · have nothing : 0x400000 - a = 0 := by omega
    rw [nothing, List.take_zero, if_neg (by omega)]
    rfl

/-- Settles O49: the three readings of one equation, and the law that a write keeps the canonical form. -/
theorem crockWriteReadsBack : Obligations.CrockWriteReadsBack := by
  intro s a bs w
  refine ⟨fun k hk last => ?_, fun x outside => ?_, wf_crockWrite s a bs w⟩
  · rw [readCell_crockWrite a bs w, if_pos ⟨by omega, by omega, last⟩, Nat.add_sub_cancel_left]
  · rw [readCell_crockWrite a bs w, if_neg (by omega)]

/-! ### Runs of bytes -/

theorem crockRead_of_good {s : State} (h : s.crock.bad = []) (a n : Nat) : s.crockRead a n = readCells s.crock.mem a n := by
  unfold State.crockRead
  rw [h, List.isEmpty_nil, if_pos rfl]

theorem crockRead_written {s : State} {a : Nat} {bs : List Byte} (w : Memory.wf s.crock.mem = true) (good : s.crock.bad = [])
    (fits : a + bs.length ≤ 0x400000) : (crockWrite s a bs).crockRead a bs.length = bs := by
  rw [crockRead_of_good (s := crockWrite s a bs) good]
  refine readCells_eq fun k hk => ?_
  rw [readCell_crockWrite a bs w, if_pos ⟨by omega, by omega, by omega⟩, Nat.add_sub_cancel_left]

theorem crockRead_beside {s : State} {a b n : Nat} {bs : List Byte} (w : Memory.wf s.crock.mem = true)
    (good : s.crock.bad = []) (apart : b + n ≤ a ∨ a + bs.length ≤ b) :
    (crockWrite s a bs).crockRead b n = s.crockRead b n := by
  rw [crockRead_of_good (s := crockWrite s a bs) good, crockRead_of_good good]
  refine readCells_congr n b fun k hk => ?_
  rw [readCell_crockWrite a bs w, if_neg (by omega)]

/-! ### The copies of a paired line (R325) -/

theorem pairedCopy_written {s : State} {a v n : Nat} (w : Memory.wf s.crock.mem = true) (good : s.crock.bad = [])
    (fits : a + 16 ≤ 0x400000) (hv : v < 2 ^ 64) (hn : n < 2 ^ 32) :
    pairedCopy (crockWrite s a (pairedBytes v n)) a = some (v, n) := by
  have read : (crockWrite s a (pairedBytes v n)).crockRead a 16 = pairedBytes v n := by
    have h := crockRead_written (a := a) (bs := pairedBytes v n) w good (by rw [paired_len]; exact fits)
    rwa [paired_len] at h
  have value : (pairedBytes v n).take 8 = leBytes 8 v := rfl
  have count : slice (pairedBytes v n) 8 4 = leBytes 4 n := rfl
  unfold pairedCopy
  rw [read]
  dsimp only
  rw [paired_drop, paired_take, leNat_leBytes_crc, if_pos rfl, value, count, leNat_leBytes_of_lt (n := 8) hv,
    leNat_leBytes_of_lt (n := 4) hn]

theorem pairedCopy_beside {s : State} {a b v n : Nat} (w : Memory.wf s.crock.mem = true) (good : s.crock.bad = [])
    (apart : b + 16 ≤ a ∨ a + 16 ≤ b) : pairedCopy (crockWrite s a (pairedBytes v n)) b = pairedCopy s b := by
  unfold pairedCopy
  rw [crockRead_beside w good (by rw [paired_len]; exact apart)]

/-- The lower copy is in force unless the upper has the greater count. -/
theorem paired_of_low {s : State} {a v n : Nat} (low : pairedCopy s a = some (v, n))
    (high : ∀ w m, pairedCopy s (a + 16) = some (w, m) → m ≤ n) : s.paired a = v := by
  unfold State.paired pairedLine
  rw [low]
  cases upper : pairedCopy s (a + 16) with
  | none => rfl
  | some x =>
    obtain ⟨w, m⟩ := x
    dsimp only
    rw [if_neg (Nat.not_lt.mpr (high w m upper))]
    rfl

/-- The upper copy is in force when the lower is invalid or has the smaller count. -/
theorem paired_of_high {s : State} {a v n : Nat} (high : pairedCopy s (a + 16) = some (v, n))
    (low : ∀ w m, pairedCopy s a = some (w, m) → m < n) : s.paired a = v := by
  unfold State.paired pairedLine
  rw [high]
  cases lower : pairedCopy s a with
  | none => rfl
  | some x =>
    obtain ⟨w, m⟩ := x
    dsimp only
    rw [if_pos (low w m lower)]
    rfl

/-- Which copies stand behind the line in force. -/
theorem pairedLine_cases (s : State) (a : Nat) :
    (∃ w n, pairedLine s a = some (w, n, true) ∧ pairedCopy s (a + 16) = some (w, n)) ∨
    (∃ w n, pairedLine s a = some (w, n, false) ∧ pairedCopy s a = some (w, n)) ∨
    (pairedLine s a = none ∧ pairedCopy s (a + 16) = none) := by
  unfold pairedLine
  cases lower : pairedCopy s a with
  | none =>
    cases upper : pairedCopy s (a + 16) with
    | none => exact .inr (.inr ⟨rfl, rfl⟩)
    | some y => exact .inl ⟨y.1, y.2, rfl, rfl⟩
  | some x =>
    cases upper : pairedCopy s (a + 16) with
    | none => exact .inr (.inl ⟨x.1, x.2, rfl, rfl⟩)
    | some y =>
      dsimp only
      split
      · exact .inl ⟨y.1, y.2, rfl, rfl⟩
      · exact .inr (.inl ⟨x.1, x.2, rfl, rfl⟩)

/-- Settles O50: the new copy replaces the one that is not in force, with a count one greater. -/
theorem pairedLineReadsBack : Obligations.PairedLineReadsBack := by
  intro s a v w good fits hv counts
  rcases pairedLine_cases s a with ⟨x, n, line, upper⟩ | ⟨x, n, line, lower⟩ | ⟨line, upper⟩
  · have hn := counts x n true line
    have written : setPaired s a v = crockWrite s a (pairedBytes v (n + 1)) := by simp only [setPaired, line, if_true]
    rw [written]
    refine paired_of_low (pairedCopy_written w good (by omega) hv hn) fun y m other => ?_
    rw [pairedCopy_beside w good (by omega), upper] at other
    cases other
    exact Nat.le_succ n
  · have hn := counts x n false line
    have written : setPaired s a v = crockWrite s (a + 16) (pairedBytes v (n + 1)) := by
      simp only [setPaired, line, Bool.false_eq_true, if_false]
    rw [written]
    refine paired_of_high (pairedCopy_written w good (by omega) hv hn) fun y m other => ?_
    rw [pairedCopy_beside w good (by omega), lower] at other
    cases other
    exact Nat.lt_succ_self n
  · have written : setPaired s a v = crockWrite s a (pairedBytes v 1) := by simp only [setPaired, line]
    rw [written]
    refine paired_of_low (pairedCopy_written w good (by omega) hv (by norm_num)) fun y m other => ?_
    rw [pairedCopy_beside w good (by omega), upper] at other
    cases other

end Sys2Proof.Machine
end

section
/-!
A carved plan (R62–R65). Every region that `carveOne` accepts is `Carved`, and any two are `Compatible`; the entries' fold
keeps both (`carveOne_orderly`). Sorting permutes the regions and puts them in order of first page (`sortRegions_perm`,
`sortRegions_sorted`), and compatible regions in that order do not share a page.
-/

namespace Sys2Proof.Machine

/-- What the rules of R63 and R65 ask of one region. -/
def Carved (r : Region) : Prop :=
  1 ≤ r.kind ∧ r.kind ≤ 6 ∧ 16 ≤ r.first ∧ 1 ≤ r.pages ∧ r.first + r.pages ≤ 512 ∧ r.pages ≤ maxPages r.kind ∧
    validOwner r = true

/-- The regions are for the same type of the same owner. -/
def Twin (x y : Region) : Prop := x.kind = y.kind ∧ x.owner = y.owner ∧ x.ownerUp = y.ownerUp

/-- Two regions share no page, and are not for the same type of the same owner. -/
def Compatible (x y : Region) : Prop := overlap x y = false ∧ ¬ Twin x y

theorem overlap_comm (x y : Region) : overlap x y = overlap y x := by
  unfold overlap
  exact Bool.and_comm _ _

theorem Compatible.symm {x y : Region} (h : Compatible x y) : Compatible y x := by
  obtain ⟨apart, other⟩ := h
  exact ⟨overlap_comm x y ▸ apart, fun ⟨kind, owner, up⟩ => other ⟨kind.symm, owner.symm, up.symm⟩⟩

/-- Compatible regions in order of first page do not reach into one another. -/
theorem Compatible.before {x y : Region} (h : Compatible x y) (hy : Carved y) (le : x.first ≤ y.first) :
    x.first + x.pages ≤ y.first := by
  obtain ⟨apart, -⟩ := h
  obtain ⟨-, -, -, pages, -⟩ := hy
  unfold overlap at apart
  simp only [Bool.and_eq_false_iff, decide_eq_false_iff_not] at apart
  omega

/-- The regions accepted so far. -/
def Orderly (l : List Region) : Prop := (∀ r ∈ l, Carved r) ∧ l.Pairwise Compatible

/-- The pages that an entry may have before it is compared with the others (R65). -/
def allowed (r : Region) : Nat :=
  if validOwner r then min (min r.pages (maxPages r.kind)) (512 - max 16 r.first) else 0

/-- What an entry would be given were nothing in its way. -/
def fitted (r : Region) : Region := { r with first := max 16 r.first, pages := allowed r }

/-- An entry shares a page with an accepted region or is its twin. -/
def clashes (l : List Region) (x : Region) : Bool :=
  l.any (fun y => overlap x y || (y.kind == x.kind && y.owner == x.owner && y.ownerUp == x.ownerUp))

theorem validOwner_fitted (r : Region) : validOwner (fitted r) = validOwner r := rfl

theorem carved_fitted {r : Region} (low : r.kind ≠ 0) (high : ¬ 6 < r.kind) (h : allowed r ≠ 0) : Carved (fitted r) := by
  have valid : validOwner r = true := by
    by_contra invalid
    exact h (if_neg invalid)
  have pages : allowed r = min (min r.pages (maxPages r.kind)) (512 - max 16 r.first) := if_pos valid
  refine ⟨?_, ?_, ?_, ?_, ?_, ?_, valid⟩ <;> (simp only [fitted]; omega)

/-- An entry that does not clash is compatible with every region accepted. -/
theorem compatible_of_not_clashes {l : List Region} {x : Region} (h : clashes l x = false) : ∀ y ∈ l, Compatible y x := by
  intro y hy
  simp only [clashes, List.any_eq_false, Bool.or_eq_true, Bool.and_eq_true, beq_iff_eq, not_or] at h
  obtain ⟨apart, other⟩ := h y hy
  refine ⟨overlap_comm x y ▸ Bool.eq_false_iff.mpr apart, fun ⟨kind, owner, up⟩ => other ⟨⟨kind, owner⟩, up⟩⟩

/-- An entry adds its fitted region, or none. -/
theorem carveOne_cases (acc : List Region × Bool) (r : Region) :
    (carveOne acc r).1 = acc.1 ∨
      r.kind ≠ 0 ∧ ¬ 6 < r.kind ∧ allowed r ≠ 0 ∧ clashes acc.1 (fitted r) = false ∧
        (carveOne acc r).1 = acc.1 ++ [fitted r] := by
  have eq : (carveOne acc r).1 = if r.kind = 0 then acc.1 else if 6 < r.kind then acc.1 else
      if (if clashes acc.1 (fitted r) then 0 else allowed r) = 0 then acc.1
      else acc.1 ++ [{ fitted r with pages := if clashes acc.1 (fitted r) then 0 else allowed r }] := by
    unfold carveOne
    split
    · rfl
    · split <;> rfl
  rw [eq]
  by_cases none : r.kind = 0
  · exact .inl (if_pos none)
  · by_cases unknown : 6 < r.kind
    · exact .inl (by rw [if_neg none, if_pos unknown])
    · rw [if_neg none, if_neg unknown]
      cases clash : clashes acc.1 (fitted r) with
      | true => exact .inl (by simp)
      | false =>
        by_cases empty : allowed r = 0
        · exact .inl (by simp [empty])
        · refine .inr ⟨none, unknown, empty, rfl, ?_⟩
          simp only [Bool.false_eq_true, if_false, if_neg empty]
          rfl

theorem carveOne_orderly {acc : List Region × Bool} (r : Region) (h : Orderly acc.1) : Orderly (carveOne acc r).1 := by
  rcases carveOne_cases acc r with same | ⟨none, unknown, empty, clash, added⟩
  · rwa [same]
  · obtain ⟨carved, pairs⟩ := h
    have new := carved_fitted none unknown empty
    rw [added]
    refine ⟨fun x hx => ?_, List.pairwise_append.mpr ⟨pairs, List.pairwise_singleton _ _, fun x hx y hy => ?_⟩⟩
    · rcases List.mem_append.mp hx with old | last
      · exact carved x old
      · exact List.mem_singleton.mp last ▸ new
    · exact List.mem_singleton.mp hy ▸ compatible_of_not_clashes clash x hx

theorem foldl_carveOne_orderly (rs : List Region) : ∀ acc : List Region × Bool, Orderly acc.1 →
    Orderly (rs.foldl carveOne acc).1 := by
  induction rs with
  | nil => exact fun _ h => h
  | cons r rs ih => exact fun acc h => ih _ (carveOne_orderly r h)

/-! ### Sorting -/

theorem insertRegion_perm (r : Region) : ∀ l : List Region, (insertRegion r l).Perm (r :: l) := by
  intro l
  induction l with
  | nil => exact .refl _
  | cons x xs ih =>
    unfold insertRegion
    split
    · exact (ih.cons x).trans (.swap r x xs)
    · exact .refl _

theorem insertRegion_sorted (r : Region) : ∀ l : List Region, l.Pairwise (fun x y => x.first ≤ y.first) →
    (insertRegion r l).Pairwise (fun x y => x.first ≤ y.first) := by
  intro l
  induction l with
  | nil => exact fun _ => List.pairwise_singleton _ _
  | cons x xs ih =>
    intro sorted
    obtain ⟨head, tail⟩ := List.pairwise_cons.mp sorted
    unfold insertRegion
    split
    · next le =>
      refine List.pairwise_cons.mpr ⟨fun y hy => ?_, ih tail⟩
      rcases List.mem_cons.mp ((insertRegion_perm r xs).mem_iff.mp hy) with rfl | old
      · exact le
      · exact head y old
    · next gt =>
      refine List.pairwise_cons.mpr ⟨fun y hy => ?_, sorted⟩
      rcases List.mem_cons.mp hy with rfl | old
      · omega
      · have := head y old
        omega

theorem foldl_insertRegion_perm (l : List Region) : ∀ acc : List Region,
    (l.foldl (fun a r => insertRegion r a) acc).Perm (acc ++ l) := by
  induction l with
  | nil => exact fun acc => by rw [List.append_nil]; exact .refl _
  | cons r l ih =>
    intro acc
    exact (ih (insertRegion r acc)).trans (((insertRegion_perm r acc).append_right l).trans List.perm_middle.symm)

theorem foldl_insertRegion_sorted (l : List Region) : ∀ acc : List Region, acc.Pairwise (fun x y => x.first ≤ y.first) →
    (l.foldl (fun a r => insertRegion r a) acc).Pairwise (fun x y => x.first ≤ y.first) := by
  induction l with
  | nil => exact fun _ h => h
  | cons r l ih => exact fun acc h => ih _ (insertRegion_sorted r acc h)

theorem sortRegions_perm (l : List Region) : (sortRegions l).Perm l := foldl_insertRegion_perm l []

theorem sortRegions_sorted (l : List Region) : (sortRegions l).Pairwise (fun x y => x.first ≤ y.first) :=
  foldl_insertRegion_sorted l [] .nil

theorem Orderly.sort {l : List Region} (h : Orderly l) : Orderly (sortRegions l) := by
  obtain ⟨carved, pairs⟩ := h
  have perm := sortRegions_perm l
  exact ⟨fun r hr => carved r (perm.mem_iff.mp hr), (perm.pairwise_iff Compatible.symm).mpr pairs⟩

theorem carve_orderly (b : List Byte) : Orderly (carve b).1 :=
  (foldl_carveOne_orderly _ _ ⟨fun _ h => absurd h List.not_mem_nil, .nil⟩).sort

theorem carve_sorted (b : List Byte) : (carve b).1.Pairwise (fun x y => x.first ≤ y.first) := sortRegions_sorted _

/-- Settles O59: the accepted regions are compatible, and in order of first page compatible regions follow one another. -/
theorem carvedPlanIsOrderly : Obligations.CarvedPlanIsOrderly := by
  intro b
  obtain ⟨carved, pairs⟩ := carve_orderly b
  refine ⟨?_, pairs.imp fun h => h.2, carved⟩
  exact (List.Pairwise.and (carve_sorted b) pairs).imp_of_mem fun _ hy ⟨le, compatible⟩ => compatible.before (carved _ hy) le

end Sys2Proof.Machine
end

section
/-!
The start of a command (R342–R351). The judgement of AUTH is one of five outcomes, and what it leaves of the transports'
counts follows from what `authPassed` and `authFailed` do to them; a command that is barred is answered with its status and
nothing else; and every reading command leaves the chip, by the law of its row (`reading_still`).
-/

namespace Sys2Proof.Machine

/-! ### Authentication (R347–R350) -/

theorem authenticate_open {s : State} {c : Cmd} (auth : c.auth = false) : authenticate s c false = (none, s) := by
  simp only [authenticate, auth, Bool.not_false, if_true, Bool.false_and, Bool.false_eq_true, if_false]

theorem authenticate_missing {s : State} {c : Cmd} (auth : c.auth = false) (prov : provisioning s c = false) :
    authenticate s c true = (some stAuthRequired, authEvent s c 2) := by
  simp only [authenticate, auth, prov, Bool.not_false, Bool.and_self, if_true]

theorem authenticate_provisioning {s : State} {c : Cmd} (auth : c.auth = false) (prov : provisioning s c = true) :
    authenticate s c true = (none, s) := by
  simp only [authenticate, auth, prov, Bool.not_false, Bool.not_true, Bool.and_false, if_true, Bool.false_eq_true, if_false]

theorem authenticate_locked {s : State} {c : Cmd} (priv : Bool) (auth : c.auth = true) (locked : (s.trState c.tr).locked = true) :
    authenticate s c priv = (some stAuthFailed, s) := by
  simp only [authenticate, auth, locked, Bool.not_true, Bool.false_eq_true, if_false, if_true]

/-- With a key in slot 0 the tag decides. -/
theorem authenticate_keyed {s : State} {c : Cmd} {k : List Byte} (priv : Bool) (auth : c.auth = true)
    (locked : (s.trState c.tr).locked = false) (key : s.key 0 = some k) :
    authenticate s c priv =
      if 16 ≤ c.payload.length ∧ c.payload.drop (c.payload.length - 16) = tagOf s c k then (none, authPassed s c)
      else (some stAuthFailed, authFailed s c) := by
  simp only [authenticate, auth, locked, key, Bool.not_true, Bool.false_eq_true, if_false]

theorem authPassed_self (s : State) (c : Cmd) : (authPassed s c).trState c.tr =
    { s.trState c.tr with accepted := (s.trState c.tr).accepted + 1, fails := 0, tr := c.tr } := modTr_self s c.tr _

/-- A number modulo 2^64 moved on by 1. -/
theorem authPassed_nonce (s : State) (c : Cmd) : (authPassed s c).nonce c.tr = (s.nonce c.tr + 1) % 2 ^ 64 := by
  unfold State.nonce
  rw [authPassed_self]
  show (_ + ((s.trState c.tr).accepted + 1)) % 2 ^ 64 = _
  rw [Nat.mod_add_mod, Nat.add_assoc]
  rfl

theorem authPassed_nonce_other {s : State} {c : Cmd} {tr : Transport} (h : tr ≠ c.tr) :
    (authPassed s c).nonce tr = s.nonce tr := by
  have same : (authPassed s c).trState tr = s.trState tr := modTr_other s c.tr tr _ h
  exact nonce_of rfl (by rw [same]) (by rw [same])

/-- A failure counts against the lockout: the eighth in a row locks the transport (R349). -/
def countFailure (t : TrState) : TrState :=
  if 7 ≤ t.fails then { t with fails := 0, locked := true } else { t with fails := t.fails + 1 }

/-- What counting a failure leaves of one transport's state is left of every transport's. -/
theorem counted_trState {α} {g : TrState → α} (s : State) (own tr : Transport)
    (h : ∀ t, g { countFailure t with tr := own } = g t) :
    g ((s.modTr own countFailure).trState tr) = g (s.trState tr) := by
  by_cases same : tr = own
  · rw [same, modTr_self, h]
  · rw [modTr_other s own tr _ same]

theorem authFailed_eq (s : State) (c : Cmd) : authFailed s c = authEvent (s.modTr c.tr countFailure) c 1 := rfl

theorem authFailed_self (s : State) (c : Cmd) : (authFailed s c).trState c.tr =
    { countFailure (s.trState c.tr) with tr := c.tr } := by
  rw [authFailed_eq, authEvent_tr, modTr_self]

theorem authFailed_nonce (s : State) (c : Cmd) (tr : Transport) : (authFailed s c).nonce tr = s.nonce tr := by
  rw [authFailed_eq, authEvent_nonce]
  refine nonce_of rfl (counted_trState (g := TrState.start) s c.tr tr fun t => ?_)
    (counted_trState (g := TrState.accepted) s c.tr tr fun t => ?_)
  · unfold countFailure
    split <;> rfl
  · unfold countFailure
    split <;> rfl

/-- Settles O56: each clause is one outcome of `authenticate`, with what it leaves of the counts. -/
theorem authenticationIsJudged : Obligations.AuthenticationIsJudged := by
  refine ⟨fun s c => authenticate_open, fun s c => authenticate_missing, fun s c => authenticate_provisioning,
    fun s c priv => authenticate_locked priv, fun s c priv k auth locked key len tag => ?_,
    fun s c priv k auth locked key wrong => ?_⟩
  · refine ⟨authPassed s c, ?_, authPassed_nonce s c, by rw [authPassed_self], fun tr h => authPassed_nonce_other h⟩
    rw [authenticate_keyed priv auth locked key, if_pos ⟨len, tag⟩]
  · refine ⟨authFailed s c, ?_, authFailed_nonce s c, ?_, ?_⟩
    · rw [authenticate_keyed priv auth locked key, if_neg wrong]
    · rw [authFailed_self]
      unfold countFailure
      split <;> rfl
    · rw [authFailed_self]
      unfold countFailure
      split
      · next h => exact (decide_eq_true h).symm
      · next h => exact locked.trans (decide_eq_false h).symm

/-! ### Barred commands (R342, R350, R351, R357, R437) -/

/-- Under the ROM only the ROM's opcodes pass the check before authentication. -/
theorem rom_passes {s : State} {op : Nat} (h : s.sys.romOnly = false ∨ romOpcodes.contains op = true) :
    ¬ (s.sys.romOnly = true ∧ ¬ romOpcodes.contains op = true) := by
  rintro ⟨rom, outside⟩
  rcases h with off | inside
  · exact Bool.false_ne_true (off.symm.trans rom)
  · exact outside inside

theorem runs_of {s : State} {c : Cmd} {op : Nat} (hop : c.opcode = op) (held : heldBack s c = false) :
    ¬ (c.opcode ≠ op ∨ heldBack s c = true) := by
  rintro (other | waits)
  · exact other hop
  · exact Bool.false_ne_true (held.symm.trans waits)

theorem runCmd_barred {op : Nat} {priv : Bool} {foreign : State → Cmd → Bool} {c : Cmd} {s : State} {st d : Nat}
    (body : Cmd → State → State) (hop : c.opcode = op) (held : heldBack s c = false)
    (bars : barred op priv foreign c s = some (st, d)) (rom : s.sys.romOnly = false ∨ romOpcodes.contains op = true) :
    runCmd op priv foreign body c s = closed (respond (begun s c priv) c (.fail st d)) := by
  unfold runCmd
  rw [if_neg (runs_of hop held), if_neg (rom_passes rom), bars]

theorem barred_of_rom {op : Nat} {s : State} (priv : Bool) (foreign : State → Cmd → Bool) (c : Cmd)
    (rom : s.sys.romOnly = true ∧ ¬ romOpcodes.contains op = true) : barred op priv foreign c s = some (stInternal, 2) := by
  unfold barred
  rw [if_pos rom]

theorem runCmd_rom {op : Nat} {c : Cmd} {s : State} (priv : Bool) (foreign : State → Cmd → Bool)
    (body : Cmd → State → State) (hop : c.opcode = op) (held : heldBack s c = false)
    (rom : s.sys.romOnly = true ∧ ¬ romOpcodes.contains op = true) :
    runCmd op priv foreign body c s = closed (respond (taken s c) c (.fail stInternal 2)) := by
  unfold runCmd
  rw [if_neg (runs_of hop held), if_pos rom, barred_of_rom priv foreign c rom]

theorem runCmd_skipped {op : Nat} {c : Cmd} {s : State} (priv : Bool) (foreign : State → Cmd → Bool)
    (body : Cmd → State → State) (h : c.opcode ≠ op ∨ heldBack s c = true) : runCmd op priv foreign body c s = s := by
  unfold runCmd
  rw [if_pos h]

theorem barred_unauthenticated {op : Nat} {c : Cmd} {s : State} (foreign : State → Cmd → Bool)
    (rom : s.sys.romOnly = false) (auth : c.auth = false) (prov : provisioning (taken s c) c = false) :
    barred op true foreign c s = some (stAuthRequired, 0) := by
  unfold barred
  rw [if_neg (rom_passes (.inl rom)), authenticate_missing auth prov]

/-- Without AUTH an unprivileged command is judged by ownership alone. -/
theorem barred_of_foreign {op : Nat} {c : Cmd} {s : State} {foreign : State → Cmd → Bool} (rom : s.sys.romOnly = false)
    (auth : c.auth = false) (h : passive (taken s c) op = true ∨ foreign (taken s c) c = true) :
    barred op false foreign c s = some (stNotOwner, 0) := by
  have judged : authenticate (taken s c) c false = (none, taken s c) := authenticate_open auth
  have start : begun s c false = taken s c := by rw [begun, judged]
  unfold barred
  rw [if_neg (rom_passes (.inl rom)), judged, start]
  exact if_pos (Bool.or_eq_true_iff.mpr h)

/-- Settles O57: `runCmd` answers the status of `barred`, and `barred` finds the first check that fails. -/
theorem barredCommandsAreAnswered : Obligations.BarredCommandsAreAnswered := by
  refine ⟨?_, ?_, ?_, ?_, ?_, ?_⟩
  · exact fun op priv foreign body c s st d hop held bars rom => runCmd_barred body hop held bars rom
  · exact fun op priv foreign body c s hop held rom outside =>
      runCmd_rom priv foreign body hop held ⟨rom, fun inside => Bool.false_ne_true (outside.symm.trans inside)⟩
  · exact fun op priv foreign body c s h => runCmd_skipped priv foreign body h
  · exact fun op foreign c s rom auth prov => barred_unauthenticated foreign rom auth prov
  · exact fun op foreign c s rom auth h => barred_of_foreign rom auth (.inr h)
  · exact fun op c s rom auth h => barred_of_foreign rom auth (.inl h)

/-! ### Commands that only read (R361, R383) -/

/-- Every reading command leaves a state in which only transports, counters and upstreams have moved. -/
theorem reading_still {c : Cmd} {i : Instr} (s : State) (h : i ∈ readingCommands c) :
    ∃ u, exec i s = leaves s u ∧ Still s u := by
  simp only [readingCommands, List.mem_append, List.mem_cons, List.not_mem_nil, or_false] at h
  rcases h with (rfl | rfl | rfl | rfl | rfl | rfl | rfl | rfl | rfl | rfl | rfl | rfl | rfl | rfl | rfl | rfl | rfl | rfl | rfl | rfl | rfl | rfl) |
      (rfl | rfl | rfl | rfl | rfl | rfl | rfl | rfl | rfl | rfl | rfl | rfl | rfl | rfl | rfl | rfl)
  · exact still_execNop c s (.refl s)
  · exact still_execIdentify c s (.refl s)
  · exact still_execSysStatus c s (.refl s)
  · exact still_execPortStatus c s (.refl s)
  · exact still_execPlanGet c s (.refl s)
  · exact still_execIdmapGet c s (.refl s)
  · exact still_execCacheRead c s (.refl s)
  · exact still_execPdStatus c s (.refl s)
  · exact still_execPdCapsRead c s (.refl s)
  · exact still_execPdSettingsGet c s (.refl s)
  · exact still_execPpcSettingsGet c s (.refl s)
  · exact still_execConverterStatus c s (.refl s)
  · exact still_execFeedSettingsGet c s (.refl s)
  · exact still_execPbaGlobalGet c s (.refl s)
  · exact still_execPbaPortGet c s (.refl s)
  · exact still_execBudgetStatus c s (.refl s)
  · exact still_execPairStatus c s (.refl s)
  · exact still_execPairSettingsGet c s (.refl s)
  · exact still_execFabricSettingsGet c s (.refl s)
  · exact still_execNodeList c s (.refl s)
  · exact still_execEventFetchPeek c s (.refl s)
  · exact still_execQueueStatus c s (.refl s)
  · exact still_execEventRouteGet c s (.refl s)
  · exact still_execEventSettingsGet c s (.refl s)
  · exact still_execTimeStatus c s (.refl s)
  · exact still_execTimeSettingsGet c s (.refl s)
  · exact still_execSofRead c s (.refl s)
  · exact still_execCrockStatus c s (.refl s)
  · exact still_execCrockRead c s (.refl s)
  · exact still_execJournalRead c s (.refl s)
  · exact still_execSieveGet c s (.refl s)
  · exact still_execSieveStatus c s (.refl s)
  · exact still_execProfileGet c s (.refl s)
  · exact still_execClStatus c s (.refl s)
  · exact still_execFwStatus c s (.refl s)
  · exact still_execNonceRead c s (.refl s)
  · exact still_execKeyStatus c s (.refl s)
  · exact still_execPhyTuneGet c s (.refl s)

/-- Settles O60: what a reading command leaves is `Still`, which covers every unit of `SameChip`. -/
theorem readingCommandsLeaveTheChip : Obligations.ReadingCommandsLeaveTheChip := by
  intro c i s t reads result
  obtain ⟨u, left, still⟩ := reading_still s reads
  rw [left] at result
  cases result
  exact (still.lift rfl rfl rfl rfl rfl rfl rfl rfl rfl rfl rfl rfl rfl rfl rfl rfl rfl).sameChip

end Sys2Proof.Machine
end

section
/-!
A step and the state after reset (10_time_and_events.md; log entries 4, 5 and 63). A step on an empty queue is the idle step
followed by a turn of the Ladle, whose cases the laws of `shareState` give; TIME is no part of what is told (`slowNow_idle`).
The reset state is closed data, so that each of its values is read off.
-/

namespace Sys2Proof.Machine

/-! ### A step on an empty queue -/

theorem slowNow_idle (s : State) : slowNow (idle s) = slowNow s := rfl

theorem mirrorNow_idle (s : State) : mirrorNow (idle s) = mirrorNow s := rfl

theorem step_idles {s : State} (h : s.pending = []) : step s = .next (shareState (idle s)) := step_of_empty h

theorem sendSlow_up {s : State} (h : s.pair.ladle = true) (xs : List SlowItem) :
    sendSlow s xs = sendLadle { s with pair := { s.pair with sent := xs } } 0 0x39 0 [] := by
  unfold sendSlow
  rw [if_pos h]

/-- With nothing mirrored, new slow state is all that a turn of the Ladle carries. -/
theorem shareState_slow {s : State} (pair : s.isPair = true) (ladle : s.pair.ladle = true) (alone : s.mirrors = false)
    (new : slowChanges (slowNow s) s.pair.told ≠ []) :
    shareState s = sendLadle { s with pair := { s.pair with told := slowNow s, sent := slowChanges (slowNow s) s.pair.told } }
      0 0x39 0 [] := by
  have quiet : (sendSlow { s with pair := { s.pair with told := slowNow s } } (slowChanges (slowNow s) s.pair.told)).mirrors = false :=
    (told_mirrors (told_slow _ (told_set (slowNow s) s.pair.toldMirror (told_rfl s)))).trans alone
  rw [share_tells s pair ladle (List.isEmpty_eq_false_iff.mpr new) quiet]
  rw [sendSlow_up (s := { s with pair := { s.pair with told := slowNow s } }) ladle]

/-! ### What TIME gains (R283, R284) -/

theorem idleGain_still {s : State} (h : s.sys.held = .resetN ∨ s.sys.pstate = .off) : idleGain s = 0 := by
  rcases h with held | off
  · simp only [idleGain, held]
  · cases held : s.sys.held <;> simp only [idleGain, held, off]

theorem idleGain_hibernate {s : State} (held : s.sys.held = .no) (h : s.sys.pstate = .hibernate) :
    idleGain s = (Config.rcPeriodFs * 4294967296 / 1000000 : Nat) := by
  simp only [idleGain, held, h]

theorem idleGain_runs {s : State} (held : s.sys.held = .no) (off : s.sys.pstate ≠ .off) (sleep : s.sys.pstate ≠ .hibernate)
    (h : s.sys.pstate ≠ .deadFeed ∨ s.sys.regen = true) : idleGain s = 4 * 2 ^ 32 + s.tu.rateAdj := by
  cases state : s.sys.pstate with
  | off => exact absurd state off
  | hibernate => exact absurd state sleep
  | deadFeed =>
    have regen : s.sys.regen = true := h.resolve_left (fun ne => ne state)
    simp only [idleGain, held, state, regen, if_true]
    rfl
  | active | trim | doze =>
    simp only [idleGain, held, state]
    rfl

/-- Settles O44: `step_of_pending` for a queue with a command, and the cases of a turn of the Ladle for an empty one. -/
theorem stepTakesFrontCommand : Obligations.StepTakesFrontCommand := by
  refine ⟨fun c q s h => step_of_pending h, ?_, fun s => ⟨idleGain_still, idleGain_hibernate, idleGain_runs⟩⟩
  rintro s t empty rfl
  have idles := step_idles empty
  refine ⟨idles, fun h => ?_, fun told mirrored => ?_, fun pair ladle alone new => ?_, ?_⟩
  · rw [idles, shareState_idle (idle s) h]
    rfl
  · rw [idles, shareState_quiet (idle s) told mirrored]
    rfl
  · rw [idles, shareState_slow (s := idle s) pair ladle alone new]
    rfl
  · obtain ⟨f, a, b, c, d, told⟩ := told_share (idle s)
    exact ⟨f, a, b, c, d, by rw [idles, told]; rfl⟩

/-! ### The state after reset -/

theorem sound_reset : Sound State.reset := by
  refine ⟨by unfold Shape; decide, rfl, by decide, ?_, ?_, ?_, ?_, ?_, by decide⟩ <;> (unfold Fits; decide)

theorem waits_reset : WaitsWellFormed State.reset := fun _ h => absurd h List.not_mem_nil

theorem ports_reset : ∀ q ∈ State.reset.ports, q = {} ∨ q = { id := { mode := .translated } } := by
  intro q h
  rcases List.mem_append.mp h with first | last
  · exact .inl (List.eq_of_mem_replicate first)
  · exact .inr (List.eq_of_mem_replicate last)

theorem pdes_reset : ∀ d ∈ State.reset.pdes,
    d = {} ∨ d = { ccUse := 2, cc := .unattachedSnk, set := { vmax := 20, imax := 30, epr := false } } := by
  intro d h
  rcases List.mem_append.mp h with down | up
  · exact .inl (List.eq_of_mem_replicate down)
  · exact .inr (List.eq_of_mem_replicate up)

theorem sieveCh_reset (n : Nat) : State.reset.sieveCh n = {} := by
  unfold State.sieveCh
  rw [List.getD_eq_getElem?_getD]
  show ((List.replicate 8 ({} : SieveCh))[n]?).getD {} = _
  rw [List.getElem?_replicate]
  split <;> rfl

/-- Settles O45: every list of the reset state repeats one value or two, and every other field is read off. -/
theorem resetState : Obligations.ResetState := by
  refine ⟨sound_reset, waits_reset, rfl, fun q h => ?_, rfl, fun e h => ?_, fun u => ?_, fun d h => ?_, fun q h => ?_,
    fun b => ?_, rfl, rfl, rfl, rfl, rfl, rfl, rfl, rfl, fun k (h : k ∈ List.replicate 4 ({} : FabLink)) => ?_, rfl, rfl, rfl, rfl, rfl, rfl,
    rfl, rfl, rfl, rfl,
    fun i => ?_, rfl, fun tr => ⟨rfl, rfl, rfl, rfl, rfl⟩, rfl, rfl, rfl, sieveCh_reset, fun n => ?_⟩
  · rcases ports_reset q h with rfl | rfl <;> decide
  · rw [List.eq_of_mem_replicate h]
    decide
  · cases u <;> decide
  · rcases pdes_reset d h with rfl | rfl <;> decide
  · rw [List.eq_of_mem_replicate h]
    decide
  · cases b <;> decide
  · rw [List.eq_of_mem_replicate h]
    decide
  · cases i <;> rfl
  · rw [sieveCh_reset]
    decide

end Sys2Proof.Machine
end

section
/-!
Requests to the hub functions (02_hub_data_path.md, 03_port_states.md). A request for a port that the function has is
acknowledged and then takes its effect (`onPort_of`); what that effect reads of the state is what was there before the
answer (`answer_reads`).
-/

namespace Sys2Proof.Machine

/-- What a request reads after its acknowledgement is as it was. -/
theorem answer_reads (s : State) (u : Up) (a : Ans) :
    (∀ b, answer (answer s u a) u b = answer s u b) ∧ (∀ v n, (answer s u a).owns v n = s.owns v n) ∧
    (∀ n, (answer s u a).port n = s.port n) ∧ (∀ n, (answer s u a).spe n = s.spe n) ∧
    (∀ v n, (answer s u a).vport v n = s.vport v n) ∧ (∀ v, allQuiet (answer s u a) v = allQuiet s v) ∧
    (∀ n, ttPorts (answer s u a) u n = ttPorts s u n) :=
  ⟨answer_answer s u a, fun v n => answer_owns s u v a n, answer_port s u a, answer_spe s u a,
   fun v n => answer_vport s u v a n, answer_allQuiet s u a, answer_ttPorts s u a⟩

theorem onPort_stall {s : State} {u : Up} {fn : Fn} {n : Nat} (present_ : (s.up u).has fn = true) (hub : fn ≠ .mgmt)
    (h : configured (s.up u) fn = false ∨ hasPort fn n = false) (f : State → State) : onPort s u fn n f = answer s u .stall := by
  have no : ¬ (configured (s.up u) fn && hasPort fn n) = true := by
    rcases h with h | h <;> simp [h]
  unfold onPort
  rw [present_of present_ (.inl hub), if_neg no]

theorem hasUsb2_33 : hasPort .usb2 33 = true := rfl

/-! ### Requests that only answer (R42, R56, R90, R95) -/

theorem answer_portStatus (s : State) (u : Up) (a : Ans) (n : Nat) : portStatus (answer s u a) u n = portStatus s u n := by
  cases u <;> rfl

theorem answer_ssStatus (s : State) (u : Up) (a : Ans) (n : Nat) : ssStatus (answer s u a) u n = ssStatus s u n := by
  cases u <;> rfl

theorem modSpe_answer (s : State) (u : Up) (a : Ans) (n : Nat) (f : Spe → Spe) (b : Ans) :
    answer ((answer s u a).modSpe n f) u b = answer (s.modSpe n f) u b := by
  unfold State.modSpe
  split <;> cases u <;> rfl

theorem answer_vttState (s : State) (u : Up) (a : Ans) (v : VPort) : vttState (answer s u a) v = vttState s v := by
  cases u <;> rfl

/-- The TT that Get_TT_State reads: that of the first port, an idle one where there is none. -/
def firstTt (s : State) : List Nat → Tt
  | p :: _ => (s.port p).tt
  | [] => {}

/-- Get_TT_State on a port of the function that is not port 33, with a PSX that answers. -/
theorem getTtState_acked {s : State} {u : Up} {n : Nat} (conf : configured (s.up u) .usb2 = true) (psx : s.psxOn = true)
    (has : hasPort .usb2 n = true) (h : n ≠ 33) (wLength : Nat) :
    getTtState u n wLength s = if 34 ≤ n ∧ (s.vport u n).shown then
        (answer s u (.data true ((vttState s (s.vport u n)).take wLength))).drawn
      else answer s u (.data true ((ttState (firstTt s (ttPorts s u n))).take wLength)) := by
  have keep : ∀ (l : List Nat) (t : State), l.foldl (fun s _ => s) t = t := by
    intro l
    induction l with
    | nil => exact fun _ => rfl
    | cons x l ih => exact ih
  have acked : onTt s u n (fun s _ => s) (fun s => s) = answer s u .ack := by
    unfold onTt
    rw [onPort_of conf has, if_neg h, keep, ite_self, ite_self]
  unfold getTtState
  rw [acked]
  dsimp only
  rw [answer_ans s u .ack psx, if_pos rfl]
  simp only [answer_reads, answer_vttState]
  cases ttPorts s u n <;> rfl

/-- Settles O1: each request is acknowledged and then answered; the answer reads what was there before. -/
theorem hubReadingRequests : Obligations.HubReadingRequests := by
  refine ⟨fun s u n conf has => ends_of rfl ?_, fun s u n conf has => ends_of rfl ?_,
    fun s u fn n hub present_ bad => ends_of rfl ?_, fun s u n => ends_of rfl rfl,
    fun s u n c conf has change => ends_of rfl ?_, fun s u n c conf has change => ends_of rfl ?_,
    fun s u n conf has owns => ends_of rfl ?_, fun s u n conf has owns => ends_of rfl ?_,
    fun s u n wLength p ps conf port psx ports => ends_of rfl ?_, fun s u n wLength conf port psx ports => ends_of rfl ?_,
    fun s u wLength conf psx => ends_of rfl ?_, fun s u n wLength conf low high psx shown => ends_of rfl ?_,
    fun s u fn kind index wLength d present_ ready hubClass desc => ends_of rfl ?_⟩
  · rw [getPortStatus, onPort_of conf has, answer_answer, answer_portStatus, answer_view]
  · rw [getPortStatus, onPort_of conf has, answer_answer, answer_ssStatus, answer_ssView]
  · rw [getPortStatus, onPort_stall present_ hub bad]
  · rw [clearPortC, onPort_of conf has, if_pos change]
  · rw [clearPortC, onPort_of conf has, if_pos change]
  · rw [getPortErrors, onPort_of conf has, answer_owns, if_pos owns, answer_spe, modSpe_answer]
  · rw [getPortErrors, onPort_of conf has, answer_owns, if_neg (by simp [owns]), answer_answer]
  · rw [getTtState_acked conf psx (hasUsb2 port) (ne33 port), if_neg (fun h => nle34 port h.1), ports]
    rfl
  · rw [getTtState_acked conf psx (hasUsb2 port) (ne33 port), if_neg (fun h => nle34 port h.1), ports]
    rfl
  · rw [getTtState, onTt, onPort_of conf hasUsb2_33, if_pos rfl, answer_answer, answer_ans s u .stall psx, if_neg (by decide)]
  · rw [getTtState_acked conf psx (hasPort_vport low high) (by omega), if_pos ⟨low, shown⟩]
  · have known : ¬ ((kind = 0x29 ∨ kind = 0x2A) ∧ ¬ configured (s.up u) fn = true) := fun h => h.2 (hubClass h.1)
    rw [hubGetDescriptor, present_of present_ ready, if_neg known, desc]

end Sys2Proof.Machine
end

section
/-!
Requests that change a port or a function of the USB 2.0 hub, and of the SuperSpeed hub (02_hub_data_path.md,
03_port_states.md). The number of a physical port is neither 33 nor a virtual port's (`ne33`, `nle34`), so that a request for
it comes down to the port's owner and state.
-/

namespace Sys2Proof.Machine

/-! ### The USB 2.0 hub: PORT_RESET and PORT_SUSPEND -/

theorem startWireReset_of {s : State} {u : Up} {n : Nat} (conf : configured (s.up u) .usb2 = true) (port : isPort n = true)
    (owns : s.owns u n = true) (eff : (s.port n).id.eff = .transparent)
    (dpe : (s.port n).dpe = .enabled ∨ (s.port n).dpe = .disabled ∨ (s.port n).dpe = .suspended ∨ (s.port n).dpe = .sleeping ∨
      (s.port n).dpe = .resuming) : setPortReset u .usb2 n s = startWireReset (answer s u .ack) n := by
  rw [setPortReset, onPort_of conf (hasUsb2 port)]
  rcases dpe with dpe | dpe | dpe | dpe | dpe <;>
    simp only [resetUsb2, ne33 port, nle34 port, answer_reads, owns, eff, dpe, if_true, if_false]

/-- A port without a device, and one that another upstream owns, has its reset's end at once. -/
theorem emptyReset_of {s : State} {u : Up} {n : Nat} (conf : configured (s.up u) .usb2 = true) (port : isPort n = true)
    (h : s.owns u n = false ∨ s.owns u n = true ∧ (s.port n).id.eff = .transparent ∧
      ((s.port n).dpe = .unpowered ∨ (s.port n).dpe = .disconnected)) :
    setPortReset u .usb2 n s = emptyReset (answer s u .ack) u n := by
  rw [setPortReset, onPort_of conf (hasUsb2 port)]
  rcases h with owns | ⟨owns, eff, dpe | dpe⟩
  · simp only [resetUsb2, ne33 port, nle34 port, answer_reads, owns, if_false, Bool.false_eq_true]
  all_goals simp only [resetUsb2, ne33 port, nle34 port, answer_reads, owns, eff, dpe, if_true, if_false]

theorem setPortSuspend_phys {s : State} {u : Up} {n : Nat} (conf : configured (s.up u) .usb2 = true) (port : isPort n = true) :
    setPortSuspend u n s = if s.owns u n then suspendPhys (answer s u .ack) u n else answer s u .ack := by
  rw [setPortSuspend, onPort_of conf (hasUsb2 port)]
  simp only [ne33 port, nle34 port, answer_reads, if_false]

theorem modPort_answer (s : State) (u : Up) (a : Ans) (n : Nat) (f : Port → Port) (b : Ans) :
    answer ((answer s u a).modPort n f) u b = answer (s.modPort n f) u b := by
  unfold State.modPort
  split <;> cases u <;> rfl

/-- A port that neither sleeps, is suspended nor resumes has nothing to resume. -/
theorem hostResume_idle {s : State} {n : Nat} (h : (s.port n).dpe ≠ .suspended ∧ (s.port n).dpe ≠ .sleeping ∧
    (s.port n).dpe ≠ .resuming ∧ (s.port n).dpe ≠ .enabled) (follows : Bool) : hostResume s n follows = s := by
  obtain ⟨susp, sleep, resuming, enabled⟩ := h
  have left : leftOf (s.port n) = none := by
    unfold leftOf
    split <;> first | contradiction | rfl
  simp only [hostResume, left]

theorem clearPortSuspend_phys {s : State} {u : Up} {n : Nat} (conf : configured (s.up u) .usb2 = true) (port : isPort n = true) :
    clearPortSuspend u n s = if s.owns u n then
        (if (s.port n).dpe = .enabled then answer s u .ack else hostResume (answer s u .ack) n false)
      else answer s u .ack := by
  rw [clearPortSuspend, onPort_of conf (hasUsb2 port)]
  simp only [ne33 port, nle34 port, answer_reads, if_false]
  cases (s.port n).dpe <;> rfl

theorem clearPortEnable_translated {s : State} {u : Up} {n : Nat} (conf : configured (s.up u) .usb2 = true)
    (port : isPort n = true) (owns : s.owns u n = true) (eff : (s.port n).id.eff = .translated)
    (st : (s.port n).id.st ≠ .vacant) (st' : (s.port n).id.st ≠ .filling) :
    clearPortEnable u n s = viewDisable (answer s u .ack) (.phys n) := by
  rw [clearPortEnable, onPort_of conf (hasUsb2 port)]
  simp only [ne33 port, nle34 port, answer_reads, owns, eff, if_false, if_true]

theorem clearPortEnable_transparent {s : State} {u : Up} {n : Nat} (conf : configured (s.up u) .usb2 = true)
    (port : isPort n = true) (owns : s.owns u n = true) (eff : (s.port n).id.eff = .transparent) :
    clearPortEnable u n s = linkDisable (answer s u .ack) n := by
  rw [clearPortEnable, onPort_of conf (hasUsb2 port)]
  simp only [ne33 port, nle34 port, answer_reads, owns, eff, if_false, if_true]

theorem clearPortEnable_foreign {s : State} {u : Up} {n : Nat} (conf : configured (s.up u) .usb2 = true)
    (port : isPort n = true) (owns : s.owns u n = false) : clearPortEnable u n s = answer s u .ack := by
  rw [clearPortEnable, onPort_of conf (hasUsb2 port)]
  simp only [ne33 port, nle34 port, answer_reads, owns, if_false, Bool.false_eq_true]

/-- Only a port that is enabled in some state, and not in a test, has a link to disable. -/
theorem linkDisable_up {s : State} {n : Nat} (h : (s.port n).dpe = .enabled ∨ (s.port n).dpe = .sleeping ∨
      (s.port n).dpe = .suspended ∨ (s.port n).dpe = .resuming) :
    linkDisable s n = settleWire (s.modPort n (fun q =>
      { q with dpe := .disabled, busSusp := false, resume := none, wire := .idle })) n := by
  have up : (dpeEnable (s.port n) && (s.port n).dpe != .testing) = true := by
    unfold dpeEnable
    rcases h with dpe | dpe | dpe | dpe <;> rw [dpe] <;> rfl
  exact if_pos up

/-! ### Settings of the ports and of the function -/

theorem setPortPower_phys {s : State} {u : Up} {n : Nat} (conf : configured (s.up u) .usb2 = true) (port : isPort n = true) :
    setPortPower u .usb2 n s = syncConn (unpark (if s.owns u n then
        ppcRequest (((answer s u .ack).modView u n (fun v => { v with power := true })).modPort n (fun q =>
          { q with powerReq := true })) n true
      else (answer s u .ack).modView u n (fun v => { v with power := true })) u n) u n := by
  rw [setPortPower, onPort_of conf (hasUsb2 port)]
  simp only [ne33 port, nle34 port, modView_owns, answer_reads, if_false]

theorem clearPortPower_phys {s : State} {u : Up} {n : Nat} (conf : configured (s.up u) .usb2 = true) (port : isPort n = true) :
    clearPortPower u .usb2 n s = syncConn (if s.owns u n then
        ppcRequest (((answer s u .ack).modView u n (fun v => { v with power := false })).modPort n (fun q =>
          { q with powerReq := false })) n false
      else (answer s u .ack).modView u n (fun v => { v with power := false })) u n := by
  have low : n ≤ 32 := (port_lt port).2
  rw [clearPortPower, onPort_of conf (hasUsb2 port)]
  simp only [ne33 port, low, decide_true, Bool.true_and, modView_owns, answer_reads, if_false]

theorem setPortTest_quiet {s : State} {u : Up} {n : Nat} {sel : TestSel} (conf : configured (s.up u) .usb2 = true)
    (port : isPort n = true) (known : sel ≠ .other) (quiet : allQuiet s u = true) (owns : s.owns u n = true) :
    setPortTest u n sel s = (answer s u .ack).modPort n (fun q =>
      { q with testView := (wireConn q, dpeEnable q), dpe := .testing, wire := .test sel }) := by
  rw [setPortTest, onPort_of conf (hasUsb2 port)]
  simp only [nlt32 port, known, answer_reads, quiet, owns, not_true, or_self, if_false, if_true]

theorem setPortTest_refused {s : State} {u : Up} {n : Nat} {sel : TestSel} (conf : configured (s.up u) .usb2 = true)
    (has : hasPort .usb2 n = true) (h : 32 < n ∨ sel = .other ∨ allQuiet s u = false) :
    setPortTest u n sel s = answer s u .stall := by
  have refused : 32 < n ∨ sel = .other ∨ ¬ allQuiet s u = true := h.imp_right (Or.imp_right (by simp))
  rw [setPortTest, onPort_of conf has]
  simp only [answer_reads, if_pos refused]

theorem onTt_phys {s : State} {u : Up} {n : Nat} (conf : configured (s.up u) .usb2 = true) (port : isPort n = true)
    (phys : State → Nat → State) (virt : State → State) :
    onTt s u n phys virt = (ttPorts s u n).foldl phys (answer s u .ack) := by
  rw [onTt, onPort_of conf (hasUsb2 port)]
  simp only [ne33 port, nle34 port, answer_reads, if_false]

theorem onTt_33 {s : State} {u : Up} (conf : configured (s.up u) .usb2 = true) (phys : State → Nat → State)
    (virt : State → State) : onTt s u 33 phys virt = answer s u .stall := by
  rw [onTt, onPort_of conf hasUsb2_33, if_pos rfl, answer_answer]

/-- Settles O2: a request for a physical port by its owner and state (`setPortSuspend_phys` and its neighbours), one for port
33 and one for the function by the branch of its own. -/
theorem hubSettingRequests : Obligations.HubSettingRequests := by
  refine ⟨fun s u n conf port owns eff dpe => ends_of rfl (startWireReset_of conf port owns eff dpe),
    fun s u n conf port owns => ends_of rfl (emptyReset_of conf port (.inl owns)),
    fun s u n conf port owns eff dpe => ends_of rfl (emptyReset_of conf port (.inr ⟨owns, eff, dpe⟩)),
    fun s u conf => ends_of rfl ?_, fun s u n conf port owns dpe => ends_of rfl ?_,
    fun s u n conf port owns dpe eff held => ends_of rfl ?_, fun s u n conf port owns dpe => ends_of rfl ?_,
    fun s u n conf port owns => ⟨ends_of rfl ?_, ends_of rfl ?_, ends_of rfl (clearPortEnable_foreign conf port owns)⟩,
    fun s u conf => ⟨ends_of rfl ?_, ends_of rfl ?_, ends_of rfl ?_⟩,
    fun s u n conf port owns dpe => ends_of rfl ?_, fun s u n conf port owns dpe => ends_of rfl ?_,
    fun s u n conf port owns susp sleep res => ends_of rfl ?_, fun s u n conf port owns eff dpe => ends_of rfl ?_,
    fun s u n conf port owns eff st st' => ends_of rfl (clearPortEnable_translated conf port owns eff st st'),
    fun s u n conf port owns => ⟨ends_of rfl ?_, ends_of rfl ?_⟩, fun s u n conf port owns => ⟨ends_of rfl ?_, ends_of rfl ?_⟩,
    fun s u conf => ⟨ends_of rfl ?_, ends_of rfl ?_⟩,
    fun s u n sel conf port known quiet owns => ends_of rfl (setPortTest_quiet conf port known quiet owns),
    fun s u n sel conf has h => ends_of rfl (setPortTest_refused conf has h),
    fun s u n addr ep conf port =>
      ⟨ends_of rfl (onTt_phys conf port _ _), ends_of rfl (onTt_phys conf port _ _), ends_of rfl (onTt_phys conf port _ _)⟩,
    fun s u addr ep conf => ⟨ends_of rfl (onTt_33 conf _ _), ends_of rfl (onTt_33 conf _ _), ends_of rfl (onTt_33 conf _ _)⟩,
    fun s u value has le => ends_of rfl ?_, fun s u value has en run le => ends_of rfl ?_,
    fun s u alt has conf which => ends_of rfl ?_, fun s u besl has may => ends_of rfl ?_,
    fun s u besl has may => ends_of rfl ?_, fun s u on has => ends_of rfl ?_, fun s u addr has lt => ends_of rfl ?_,
    fun s u addr has en run lt => ends_of rfl ?_, fun s u resetting => ends_of rfl ?_⟩
  · rw [setPortReset, onPort_of conf hasUsb2_33, resetUsb2, if_pos rfl]
  · rw [setPortSuspend_phys conf port, if_pos owns]
    rcases dpe with ⟨dpe, eff | drained⟩ | dpe
    · simp [suspendPhys, answer_reads, dpe, eff]
    · simp [suspendPhys, answer_reads, dpe, drained]
    · simp [suspendPhys, answer_reads, dpe]
  · rw [setPortSuspend_phys conf port, if_pos owns]
    simp [suspendPhys, answer_reads, dpe, eff, held, modPort_answer]
  · rw [setPortSuspend_phys conf port, if_pos owns]
    simp only [suspendPhys, answer_reads, dpe]
  · rw [setPortSuspend_phys conf port, owns]
    rfl
  · rw [clearPortSuspend_phys conf port, owns]
    rfl
  · rw [setPortSuspend, onPort_of conf hasUsb2_33, if_pos rfl]
  · rw [clearPortSuspend, onPort_of conf hasUsb2_33, if_pos rfl]
  · rw [clearPortEnable, onPort_of conf hasUsb2_33, if_pos rfl]
  · rw [clearPortSuspend_phys conf port, if_pos owns]
    rcases dpe with dpe | dpe <;> simp [hostResume, leftOf, answer_reads, dpe]
  · rw [clearPortSuspend_phys conf port, if_pos owns]
    simp [hostResume, answer_reads, dpe]
  · rw [clearPortSuspend_phys conf port, if_pos owns]
    split
    · rfl
    · next enabled => exact hostResume_idle (by simp [answer_port, *]) false
  · rw [clearPortEnable_transparent conf port owns eff, linkDisable_up (by rwa [answer_port])]
  · rw [setPortPower_phys conf port, if_pos owns]
  · rw [clearPortPower_phys conf port, if_pos owns]
  · rw [setPortPower_phys conf port, if_neg (by simp [owns])]
  · rw [clearPortPower_phys conf port, if_neg (by simp [owns])]
  · rw [setPortPower, onPort_of conf hasUsb2_33, if_pos rfl]
  · rw [clearPortPower, onPort_of conf hasUsb2_33, if_pos rfl]
  · rw [hubSetConfiguration, present_of has (.inl (by decide)), if_neg (by omega)]
  · rw [hubSetConfiguration, present_of has (.inr ⟨en, run⟩), if_neg (by omega)]
  · have fits : ¬ ((s.up u).hubCfg = 0 ∨ 1 < alt ∨ (alt = 1 ∧ (s.up u).link ≠ .hs)) := by
      rcases which with rfl | ⟨rfl, hs⟩ <;> simp_all
    rw [hubSetInterface, present_of has (.inl (by decide)), if_neg fits]
  · rw [hubLpmToken, present_of has (.inl (by decide)), if_pos may]
  · rw [hubLpmToken, present_of has (.inl (by decide)), if_neg (by simp [may])]
  · rw [hubSetFeature, present_of has (.inl (by decide))]
  · rw [hubSetAddress, present_of has (.inl (by decide)), Nat.mod_eq_of_lt lt]
  · rw [hubSetAddress, present_of has (.inr ⟨en, run⟩), Nat.mod_eq_of_lt lt]
  · rw [mgmtResetDone, resetting]
    rfl

end Sys2Proof.Machine
end

section
/-!
Requests to the SuperSpeed hub's ports (02_hub_data_path.md, 03_port_states.md). Each is acknowledged (`onPort_of`), and then
depends on the port's owner and its link's state, which are as they were before the answer (`answer_reads`).
-/

namespace Sys2Proof.Machine

/-- PORT_LINK_STATE on a port that the upstream owns: STALL to Rx.Detect on a translated one, the link's own branch on a
transparent one. -/
theorem setLinkState_translated {s : State} {u : Up} {n : Nat} (conf : configured (s.up u) .ss = true)
    (has : hasPort .ss n = true) (owns : s.owns u n = true) (eff : (s.port n).id.eff = .translated) :
    setLinkState u n .rxDetect s = answer s u .stall := by
  rw [setLinkState, onPort_of conf has]
  simp only [answer_reads, owns, eff, Bool.not_true, Bool.false_eq_true, if_false, if_true]

theorem setLinkState_low {s : State} {u : Up} {n : Nat} {st : Link} (conf : configured (s.up u) .ss = true)
    (has : hasPort .ss n = true) (owns : s.owns u n = true) (eff : (s.port n).id.eff = .transparent)
    (u0 : (s.spe n).st = .u0) (h : st = .u1 ∨ st = .u2 ∨ st = .u3) : setLinkState u n st s = setLink (answer s u .ack) n st true := by
  rw [setLinkState, onPort_of conf has]
  rcases h with rfl | rfl | rfl <;>
    simp only [answer_reads, owns, eff, u0, Bool.not_true, Bool.false_eq_true, if_false, if_true, reduceCtorEq]

theorem setLinkState_u0 {s : State} {u : Up} {n : Nat} (conf : configured (s.up u) .ss = true)
    (has : hasPort .ss n = true) (owns : s.owns u n = true) (eff : (s.port n).id.eff = .transparent) :
    setLinkState u n .u0 s = hostU0 (answer s u .ack) n := by
  rw [setLinkState, onPort_of conf has]
  simp only [answer_reads, owns, eff, Bool.not_true, Bool.false_eq_true, if_false, reduceCtorEq]

theorem setLinkState_disabled {s : State} {u : Up} {n : Nat} (conf : configured (s.up u) .ss = true)
    (has : hasPort .ss n = true) (owns : s.owns u n = true) (eff : (s.port n).id.eff = .transparent)
    (inactive : (s.spe n).st ≠ .ssInactive) (compliance : (s.spe n).st ≠ .compliance) (loopback : (s.spe n).st ≠ .loopback) :
    setLinkState u n .ssDisabled s = setLink (answer s u .ack) n .ssDisabled true := by
  rw [setLinkState, onPort_of conf has]
  simp only [answer_reads, owns, eff, Bool.not_true, Bool.false_eq_true, if_false, reduceCtorEq]

theorem setLinkState_rxDetect {s : State} {u : Up} {n : Nat} (conf : configured (s.up u) .ss = true)
    (has : hasPort .ss n = true) (owns : s.owns u n = true) (eff : (s.port n).id.eff = .transparent)
    (st : (s.spe n).st = .ssDisabled) : setLinkState u n .rxDetect s = setLink (answer s u .ack) n .rxDetect true := by
  rw [setLinkState, onPort_of conf has]
  simp only [answer_reads, owns, eff, st, Bool.not_true, Bool.false_eq_true, if_false, if_true, reduceCtorEq]

theorem setBhReset_owned {s : State} {u : Up} {n : Nat} (conf : configured (s.up u) .ss = true)
    (has : hasPort .ss n = true) (owns : s.owns u n = true)
    (h : (s.spe n).st = .ssInactive ∨ (s.spe n).st = .compliance ∨ (s.spe n).st = .loopback) :
    setBhReset u n s = (answer s u .ack).modSpe n (fun e => { e with warm := true }) := by
  rw [setBhReset, onPort_of conf has]
  rcases h with st | st | st <;> simp only [answer_reads, owns, st, if_true]

theorem resetSs_u0 {s : State} {u : Up} {n : Nat} (conf : configured (s.up u) .ss = true) (has : hasPort .ss n = true)
    (owns : s.owns u n = true) (st : (s.spe n).st = .u0) :
    setPortReset u .ss n s = setLink (answer s u .ack) n .hotReset true := by
  rw [setPortReset, onPort_of conf has]
  simp only [resetSs, answer_reads, owns, st, and_self, if_true]

theorem resetSs_empty {s : State} {u : Up} {n : Nat} (conf : configured (s.up u) .ss = true) (has : hasPort .ss n = true)
    (h : s.owns u n = false ∨ (s.spe n).st ≠ .u0) :
    setPortReset u .ss n s = (answer s u .ack).modSsView u n (fun v => { v with cReset := true }) := by
  have no : ¬ (s.owns u n = true ∧ (s.spe n).st = .u0) := by
    rintro ⟨owns, st⟩
    exact h.elim (fun foreign => Bool.false_ne_true (foreign.symm.trans owns)) (fun other => other st)
  rw [setPortReset, onPort_of conf has]
  simp only [resetSs, answer_reads, if_neg no]

theorem setPortPower_ss {s : State} {u : Up} {n : Nat} (conf : configured (s.up u) .ss = true) (has : hasPort .ss n = true) :
    setPortPower u .ss n s = syncSs (if s.owns u n then
        ppcRequest (((answer s u .ack).modSsView u n (fun v => { v with power := true })).modPort n (fun q =>
          { q with powerReq := true })) n true
      else (answer s u .ack).modSsView u n (fun v => { v with power := true })) u n := by
  rw [setPortPower, onPort_of conf has]
  simp only [modSsView_owns, answer_reads]

theorem clearPortPower_ss {s : State} {u : Up} {n : Nat} (conf : configured (s.up u) .ss = true) (has : hasPort .ss n = true) :
    clearPortPower u .ss n s = syncSs (if s.owns u n then
        ppcRequest (((answer s u .ack).modSsView u n (fun v => { v with power := false })).modPort n (fun q =>
          { q with powerReq := false })) n false
      else (answer s u .ack).modSsView u n (fun v => { v with power := false })) u n := by
  rw [clearPortPower, onPort_of conf has]
  simp only [modSsView_owns, answer_reads]

/-- Settles O3: an owned port by its link's state, a port that another upstream owns by the acknowledgement alone. -/
theorem superSpeedPortRequests : Obligations.SuperSpeedPortRequests := by
  refine ⟨fun s u n conf has owns st => ends_of rfl (resetSs_u0 conf has owns st),
    fun s u n conf has h => ends_of rfl (resetSs_empty conf has h),
    fun s u n st conf has owns eff u0 h => ends_of rfl (setLinkState_low conf has owns eff u0 h),
    fun s u n conf has owns eff idle st => ends_of rfl ?_, fun s u n conf has owns eff idle st => ends_of rfl ?_,
    fun s u n conf has owns eff a b c => ends_of rfl (setLinkState_disabled conf has owns eff a b c),
    fun s u n conf has owns eff st => ends_of rfl (setLinkState_rxDetect conf has owns eff st),
    fun s u n conf has owns eff => ends_of rfl (setLinkState_translated conf has owns eff),
    fun s u n conf has owns h => ends_of rfl (setBhReset_owned conf has owns h),
    fun s u n value conf has owns => ⟨ends_of rfl ?_, ends_of rfl ?_⟩,
    fun s u n st value conf has owns => ⟨ends_of rfl ?_, ends_of rfl ?_, ends_of rfl ?_, ends_of rfl ?_⟩,
    fun s u n mask conf has => ends_of rfl ?_, fun s u n conf has owns => ⟨ends_of rfl ?_, ends_of rfl ?_⟩,
    fun s u n conf has owns => ⟨ends_of rfl ?_, ends_of rfl ?_⟩, fun s u value has le => ends_of rfl ?_,
    fun s u on has => ⟨ends_of rfl ?_, ends_of rfl ?_, ends_of rfl ?_⟩, fun s u addr has lt => ends_of rfl ?_,
    rfl, rfl, rfl, rfl⟩
  · rw [setLinkState_u0 conf has owns eff]
    rcases st with st | st <;> simp only [hostU0, answer_reads, idle, st]
  · rw [setLinkState_u0 conf has owns eff]
    simp only [hostU0, answer_reads, idle, st]
    cases u <;> rfl
  · rw [setU1Timeout, onPort_of conf has, answer_owns, if_pos owns]
  · rw [setU2Timeout, onPort_of conf has, answer_owns, if_pos owns]
  · rw [setLinkState, onPort_of conf has, answer_owns, owns]
    rfl
  · rw [setBhReset, onPort_of conf has, answer_owns, owns]
    rfl
  · rw [setU1Timeout, onPort_of conf has, answer_owns, owns]
    rfl
  · rw [setU2Timeout, onPort_of conf has, answer_owns, owns]
    rfl
  · rw [setWakeMask, onPort_of conf has]
  · rw [setPortPower_ss conf has, if_pos owns]
  · rw [clearPortPower_ss conf has, if_pos owns]
  · rw [setPortPower_ss conf has, if_neg (by simp [owns])]
  · rw [clearPortPower_ss conf has, if_neg (by simp [owns])]
  · rw [hubSetConfiguration, present_of has (.inl (by decide)), if_neg (by omega)]
  · exact present_of has (.inl (by decide)) _
  · exact present_of has (.inl (by decide)) _
  · exact present_of has (.inl (by decide)) _
  · rw [hubSetAddress, present_of has (.inl (by decide)), Nat.mod_eq_of_lt lt]

end Sys2Proof.Machine
end

section
/-!
The repeat path, frames and SuperSpeed forwarding (R35, R45–R51, R58–R60, R94). A token that is no SOF goes to the port that
`tokenPort` finds (`hsToken_routed`), else to the hub function that has the address; a packet of the SuperSpeed path is taken
by the state of the link that it is for.
-/

namespace Sys2Proof.Machine

/-! ### Tokens (R35, R45, R91) -/

theorem hsToken_routed {s : State} {u : Up} {pid : Pid} {addr p : Nat} (sof : pid ≠ .sof) (route : tokenPort s u addr = some p)
    (ep : Nat) (pkts : List Pkt) : hsToken u pid addr ep pkts s = (s.modPort p (fun q => { q with
        wire := .xfer (decide ((s.up u).link = .fs ∧ q.id.speed = .ls)) pid addr ep (pkts.filter (fun k => !k.up)) })).modUp u
          (fun x => { x with fwd := (pkts.filter (·.up)).map (·.bs) }) := by
  cases pid with
  | sof => exact absurd rfl sof
  | _ => simp only [hsToken, route]

theorem hsToken_nowhere {s : State} {u : Up} {pid : Pid} {addr : Nat} (sof : pid ≠ .sof) (route : tokenPort s u addr = none)
    (hub : addr ≠ (s.up u).hubAddr) (mgmt : addr ≠ (s.up u).mgAddr) (ep : Nat) (pkts : List Pkt) :
    hsToken u pid addr ep pkts s = s := by
  cases pid with
  | sof => exact absurd rfl sof
  | _ => simp only [hsToken, route, hub, mgmt, false_and, if_false, ite_self]

/-- The interrupt poll of the status-change endpoint reaches the hub function. -/
theorem hsToken_poll {s : State} {u : Up} (route : tokenPort s u (s.up u).hubAddr = none) (has : (s.up u).has .usb2 = true)
    (bus : (s.up u).bus = .active) (conf : (s.up u).hubCfg ≠ 0) (pkts : List Pkt) :
    hsToken u .inn (s.up u).hubAddr 1 pkts s = if (changeMap (s.up u)).all (· == 0) then answerD s u .nak
      else (answerD s u (.data (s.up u).scTog (changeMap (s.up u)))).modUp u (fun x =>
        { x with scTog := if hostAcked pkts then !x.scTog else x.scTog }) := by
  simp only [hsToken, route, has, bus, fnToken, conf, ne_eq, not_false_eq_true, and_self, if_true]

/-! ### Addresses and frames (R46, R58–R60) -/

theorem addressLearn_transparent {s : State} {p addr : Nat} {u : Up} (eff : (s.port p).id.eff = .transparent)
    (owner : ownerUp (s.port p) = some u) (lt : addr < 128) :
    addressLearn p addr s =
      if (((clearDup s u p addr).modPort p (fun q => { q with addr := addr })).up u).defaultPort = p then
        ((clearDup s u p addr).modPort p (fun q => { q with addr := addr })).modUp u (fun x => { x with defaultPort := 0 })
      else (clearDup s u p addr).modPort p (fun q => { q with addr := addr }) := by
  simp only [addressLearn, eff, owner, Nat.mod_eq_of_lt lt]

theorem ttGo_up (s : State) (u v : Up) (p : Nat) : (ttGo s u p).up v = s.up v := by
  unfold ttGo
  dsimp only
  repeat' split
  all_goals first | rfl | exact modPort_up _ _ _ v

theorem ttGoAll_up (s : State) (u v : Up) : (ttGoAll s u).up v = s.up v := by
  refine foldl_up v _ (fun s p => ?_) ports32 s
  split
  · exact ttGo_up s u v p
  · rfl

theorem framePort_fsLs {s : State} {u : Up} {p : Nat} (owns : s.owns u p = true) (dpe : (s.port p).dpe = .enabled)
    (awake : (s.port p).busSusp = false) (clock : s.sys.clockFallback = false) (eff : (s.port p).id.eff = .transparent)
    (speed : (s.port p).id.speed = .fs ∨ (s.port p).id.speed = .ls) :
    framePort s (some u) p = s.modPort p (fun q => { q with
      tt := { q.tt with frame := (s.up u).frame }
      wire := if (s.port p).id.speed = .fs then .sof (s.up u).frame else .keepAlive }) := by
  have runs : ¬ (!sofFrom s (some u) p || (s.port p).dpe != .enabled || (s.port p).busSusp || s.sys.clockFallback) = true := by
    simp [sofFrom, owns, dpe, awake, clock]
  unfold framePort
  rcases speed with speed | speed <;> simp only [if_neg runs, eff, speed, if_true, if_false, reduceCtorEq]

/-! ### SuperSpeed packets (R51, R94) -/

theorem ssHeaderPacket_port {s : State} {u : Up} {n : Nat} (active : s.chipActive = true) (has : (s.up u).has .ss = true)
    (port : hasPort .ss n = true) (owns : s.owns u n = true) (down : Bool) (bs : List Byte) :
    ¬ (¬ (s.up u).has .ss = true ∧ (s.up u).ssLink ≠ .recovery) ∧ n ≠ 0 ∧ ¬ (8 < n ∨ ¬ s.owns u n = true) ∧
      ifActive s (ssHeaderPacket u down n bs s) = ssHeaderPacket u down n bs s := by
  have range := ss_le port
  refine ⟨fun h => h.1 has, by omega, ?_, if_pos active⟩
  rintro (high | foreign)
  · omega
  · exact foreign owns

/-- Settles O4: the routes of a token, the microframe timer's fields, which TTs taking up work leave, and the state of the
link that a packet is for. -/
theorem highSpeedPathAndFrames : Obligations.HighSpeedPathAndFrames := by
  refine ⟨fun s u pid addr ep pkts p sof route => ends_of rfl (hsToken_routed sof route ep pkts),
    fun s u addr ep pkts => ends_of rfl rfl, fun s u pkts route has bus conf quiet => ends_of rfl ?_,
    fun s u pkts route has bus conf changes => ends_of rfl ?_,
    fun s u pid addr ep pkts sof route hub mgmt => ends_of rfl (hsToken_nowhere sof route hub mgmt ep pkts),
    fun s p addr u eff owner lt => ⟨_, rfl, ends_of rfl (addressLearn_transparent eff owner lt)⟩,
    fun s u frame uframe => completes_of rfl ?_, fun s u => ends_of rfl rfl,
    fun s u p owns dpe awake clock eff speed => framePort_fsLs owns dpe awake clock eff speed,
    fun s u n bs active has port owns st => ends_of rfl ?_, fun s u n bs active has port owns st => ends_of rfl ?_,
    fun s u n bs active has port owns st => ends_of rfl ?_⟩
  · rw [hsToken_poll route has bus conf, if_pos quiet]
  · rw [hsToken_poll route has bus conf, changes]
    rfl
  · rw [pending_up, sofReceived, ttGoAll_up, foldl_up u _ (fun s p => sofKeep u uframe s p), up_modUp]
    exact ⟨rfl, rfl, rfl, rfl⟩
  all_goals
    obtain ⟨presents, some_, owned, acts⟩ := ssHeaderPacket_port active has port owns _ bs
    rw [acts, ssHeaderPacket, if_neg presents, if_neg some_, if_neg owned]
  · simp only [if_true, st]
  · rcases st with st | st <;> simp only [if_true, st]
  · simp only [Bool.false_eq_true, if_false, st]

end Sys2Proof.Machine
end

section
/-!
The buffer plan and the scrubber (R68, R70, R369): what waits in `plan.next` decides, and a word by the kind of its region.
-/

namespace Sys2Proof.Machine

theorem planApply_waiting {s : State} {rs : List Region} {w : Nat} {cl : Bool} (next : s.plan.next = some (rs, w, cl)) :
    planApply s = if planDrained s rs then planOver s (finishWait (applyPlan s rs) w (.ok (planUse rs) cl)) else s := by
  simp only [planApply, next]

/-- Settles O5: a plan that waits is applied once drained, and times out; each kind of region has its own branch of `eccBad`. -/
theorem planAndScrubber : Obligations.PlanAndScrubber := by
  refine ⟨fun s rs w cl next drained => ends_of rfl ?_, fun s next => ⟨ends_of rfl ?_, ends_of rfl ?_⟩,
    fun s rs w cl next held => ends_of rfl ?_, fun s rs w cl next => ends_of rfl ?_, fun s n bad => ends_of rfl rfl,
    fun s p up ep => ⟨_, rfl, rfl, rfl, rfl, rfl⟩⟩
  · rw [planApply_waiting next, if_pos drained]
  · simp only [planApply, next]
  · simp only [planApplyTimeout, next]
  · rw [planApply_waiting next, held]
    rfl
  · simp only [planApplyTimeout, next]

end Sys2Proof.Machine
end

section
/-!
The USB 2.0 port state machines (03_port_states.md): connect and disconnect, chirp and reset, suspend and L1, resume, errors.
Each row reads the port's state first; the clauses take its branches one by one.
-/

namespace Sys2Proof.Machine

/-! ### Connect and disconnect (R72, R73, R97) -/

/-- A device on a port whose MODE its EFF follows: no miss is counted and none is told. -/
theorem connect_match {s : State} {p : Nat} {eff : Mode} (dp : Bool) (dpe : (s.port p).dpe = .disconnected)
    (charge : (s.port p).chargeNow ≠ 1) (h : effMode s p = eff) (hit : eff = .translated ∨ (s.port p).id.mode = .transparent) :
    ∃ s1 s2 : State, s1 = setEff (s.modPort p (fun q => { q with
        dpe := .disabled, sofOn := true, id := { q.id with speed := if dp then .fs else .ls, fallback := 0 } })) p eff ∧
      s2 = raisePort (wakeForPort s1 p).2 p 0 1 (connectData ((wakeForPort s1 p).2.port p) (wakeForPort s1 p).1) ∧
      connect p dp s = wakeDoze (syncPort (if eff = .translated then startFill s2 p else s2) p) := by
  have miss : decide ((s.port p).id.mode = .translated ∧ eff = .transparent) = false := by
    rcases hit with rfl | mode
    · simp
    · simp [mode]
  refine ⟨_, _, rfl, rfl, ?_⟩
  simp only [connect, dpe, charge, h, miss, if_false, Bool.false_eq_true]

theorem disconnect_high {s : State} {p : Nat} (unpowered : (s.port p).dpe ≠ .unpowered)
    (disconnected : (s.port p).dpe ≠ .disconnected) (testing : (s.port p).dpe ≠ .testing) (high : 8 < p) :
    disconnect p s = wakeDoze (loseDevice (raisePort (wakeForPort s p).2 p 0 2
      (connectData ((wakeForPort s p).2.port p) (wakeForPort s p).1)) p .disconnected) := by
  unfold disconnect
  split
  · contradiction
  · contradiction
  · contradiction
  · exact if_pos high

theorem disconnect_absent {s : State} {p : Nat}
    (h : (s.port p).dpe = .unpowered ∨ (s.port p).dpe = .disconnected ∨ (s.port p).dpe = .testing) : disconnect p s = s := by
  rcases h with h | h | h <;> simp only [disconnect, h]

/-- A reset of a chirping device ends in ENABLED at HS, and the port takes address 0. -/
theorem resetEnd_hs {s : State} {p : Nat} {u : Up} (idle : Bool) (dpe : (s.port p).dpe = .resetting)
    (chirp : (s.port p).chirp = 2) (fill : (s.port p).fill = none) (cmd : (s.port p).cmdReset = false)
    (owner : ownerUp (s.port p) = some u) : resetEnd p idle s =
      syncPort (markSusp ((setChange (settleWire (s.modPort p (fun q => { q with
        dpe := .enabled, chirp := 0, wire := .idle, id := { q.id with speed := .hs } })) p) p
        (fun v => { v with cReset := true })).modUp u (fun x => { x with defaultPort := p })) p) p := by
  simp only [resetEnd, dpe, chirp, fill, cmd, owner, decide_true, Bool.true_or, if_true, if_false, Bool.false_eq_true,
    OfNat.ofNat_ne_one]

/-! ### L1 of a proxied device (R80, R123, R446) -/

theorem proxyLpmToken_silent {s : State} {u : Up} {n : Nat} (silent : viewSilent (s.px (locOf u n)) = true) (besl : Nat)
    (d : Hs) : proxyLpmToken u n besl d s = answer s u .none := if_pos silent

theorem proxyLpmToken_ack {s : State} {u : Up} {n : Nat} (besl : Nat) (owns : s.owns u n = true)
    (eff : (s.port n).id.eff = .translated) (dpe : (s.port n).dpe = .enabled) (port : isPort n = true)
    (st : (s.port n).id.st = .presented ∨ (s.port n).id.st = .live) (held : (s.port n).px.heldBytes = 0)
    (ctrl : (s.port n).px.ctrl.active = false) (speaks : viewSilent (s.px (locOf u n)) = false) :
    proxyLpmToken u n besl .ack s = answer ((enterL1 (s.modPort n (fun q => { q with wire := .lpm (besl % 32) }))
      n besl).modPort n (fun q => { q with ownerL1 := some (besl % 32) })) u .ack := by
  have asleep : ¬ (s.owns u n = true ∧ (s.port n).pxL1 = true ∧ (s.port n).dpe = .sleeping ∧ (s.port n).px.heldBytes = 0) := by
    rw [dpe]
    simp
  have free : ¬ (¬ s.owns u n = true ∨ (s.port n).id.eff ≠ .translated ∨ (s.port n).dpe ≠ .enabled
      ∨ ((s.port n).id.st ≠ .presented ∧ (s.port n).id.st ≠ .live)
      ∨ (s.port n).px.heldBytes ≠ 0 ∨ (s.port n).px.ctrl.active = true) := by
    rcases st with st | st <;> simp [owns, eff, dpe, held, ctrl, st]
  unfold proxyLpmToken
  rw [speaks, if_neg Bool.false_ne_true, if_neg (nle34 port), if_neg asleep, if_neg free]

/-! ### Resume (R83–R86) -/

theorem deviceWake_left {s : State} {p left : Nat} (resuming : (s.port p).dpe ≠ .resuming)
    (h : leftOf (s.port p) = some left) : deviceWake p s =
      if wakeBlocked s p then raisePort s p 6 5 (sleepData 0 false left (s.port p).id.owner.code 0 0)
      else wakeDoze (startDeviceWake s p left) := by
  unfold deviceWake
  dsimp only
  split
  · contradiction
  · rw [h]

theorem hostK_starts {s : State} {u : Up} (bus : (s.up u).bus = .suspended ∨ (s.up u).bus = .l1)
    (kDrive : (s.up u).kDrive = none) : hostK u s = wakeDoze (resumePorts (raiseUp (s.modUp u (fun x =>
      { x with bus := .resuming, hostK := true })) u 2 1 0) u ((s.up u).bus == .l1)) := by
  rcases bus with bus | bus <;> simp only [hostK, bus, kDrive, Option.isNone_none, if_true]

/-- The upstream's own drive ends on a line that the host holds at K. -/
theorem upstreamWakeDriveEnd_taken {s : State} {u : Up} {p : Nat} {t : Nat} (kDrive : (s.up u).kDrive = some (p, t))
    (phys : p ≤ 32) : ∃ s1 : State,
      s1 = (s.modUp u (fun x => { x with kDrive := none })).modUp u (fun x => { x with bus := .resuming, hostK := true }) ∧
      upstreamWakeDriveEnd u true s = resumePorts (raiseUp s1 u 2 2 (p + at_ 32 (uns 32
        ((s.ticks : Int) - ((s.port p).resume.map (·.start)).getD s.ticks)))) u ((s.up u).bus == .l1) := by
  have ticks (t : State) (f : Upstream → Upstream) : (t.modUp u f).ticks = t.ticks := by cases u <;> rfl
  refine ⟨_, rfl, ?_⟩
  simp only [upstreamWakeDriveEnd, kDrive, phys, if_true, ticks]

theorem resumeKEnd_of {s : State} {p : Nat} {r : Resume} (h : (s.port p).resume = some r) : resumeKEnd p s =
    if followsK s p r then s.modPort p (fun q => { q with resume := some { r with kOver := true } }) else finishResume s p := by
  simp only [resumeKEnd, h]

/-! ### Errors (R88) -/

theorem errorDisable_transparent {s : State} {p : Nat} (code : Nat) (dpe : (s.port p).dpe = .enabled)
    (eff : (s.port p).id.eff = .transparent) : errorDisable s p code = setChange ((raisePort s p 7 code 0).modPort p
      (fun q => { q with dpe := .disabled, busSusp := false })) p (fun v => { v with cEnable := true }) := by
  simp only [errorDisable, dpe, eff]

theorem pages_raised (s : State) (p k code data n o w : Nat) (f : Port → Port) :
    ((raisePort s p k code data).modPort p f).pages n o w = s.pages n o w := by
  rw [modPort_pages]
  unfold State.pages raisePort
  rw [raise_plan]

theorem errorDisable_translated {s : State} {p : Nat} (code : Nat) (dpe : (s.port p).dpe = .enabled)
    (eff : (s.port p).id.eff = .translated) (st : (s.port p).id.st = .presented ∨ (s.port p).id.st = .live)
    (desc : s.pages 4 p 0 ≠ 0) : errorDisable s p code = startRefill ((raisePort s p 7 code 0).modPort p
      (fun q => { q with dpe := .disabled, busSusp := false })) p false 0 := by
  rcases st with st | st <;> simp only [errorDisable, dpe, eff, pages_raised, desc, st, if_false]

/-! ### A suspend that waits for its drain (R78) -/

theorem suspendDrainTimeout_owned {s : State} {p : Nat} {u : Up} (waits : (s.port p).suspWait = true)
    (owner : ownerUp (s.port p) = some u) :
    suspendDrainTimeout p s = answer (s.modPort p (fun q => { q with suspWait := false })) u .stall := by
  unfold suspendDrainTimeout
  dsimp only
  rw [if_pos waits]
  unfold ownerUp at owner
  split at owner
  · next own =>
    cases owner
    rw [own]
  · next own =>
    cases owner
    rw [own]
  · cases owner

/-- Settles O6: each row by the state of its port or upstream. -/
theorem portConnectResetSuspend : Obligations.PortConnectResetSuspend := by
  refine ⟨fun s p dp dpe charge eff mode => ?_, fun s p dp dpe charge eff => ?_,
    fun s p a b c high => ends_of rfl (disconnect_high a b c high), fun s p h => ends_of rfl (disconnect_absent h),
    fun s p dpe => ends_of rfl ?_, fun s p dpe chirp => ⟨ends_of rfl ?_, ends_of rfl ?_⟩,
    fun s p u idle dpe chirp fill cmd owner => ⟨_, rfl, ends_of rfl (resetEnd_hs idle dpe chirp fill cmd owner)⟩,
    fun s p b charge => ends_of rfl (if_pos charge), fun s u => ends_of rfl rfl, fun s p besl dpe lt => ends_of rfl ?_,
    fun s u n besl owns eff dpe port st held ctrl speaks =>
      ends_of rfl (proxyLpmToken_ack besl owns eff dpe port st held ctrl speaks),
    fun s u n besl d silent => ends_of rfl (proxyLpmToken_silent silent besl d),
    fun s p left resuming h open_ => ends_of rfl ?_, fun s p left resuming h blocked => ends_of rfl ?_,
    fun s p dpe => ends_of rfl ?_, fun s u bus kDrive => ends_of rfl (hostK_starts bus kDrive),
    fun s u p t kDrive => ends_of rfl ?_, fun s u p t kDrive phys => ?_, fun s p r h free => ends_of rfl ?_,
    fun s p r h follows => ends_of rfl ?_, fun s u bus => ends_of rfl ?_, fun s u p r owns h follows => ?_,
    fun s p dpe eff => ⟨_, rfl, ends_of rfl (errorDisable_transparent 1 dpe eff),
      ends_of rfl (errorDisable_transparent 2 dpe eff), ends_of rfl (errorDisable_transparent 3 dpe eff)⟩,
    fun s p dpe eff st desc => ⟨_, rfl, ends_of rfl (errorDisable_translated 1 dpe eff st desc),
      ends_of rfl (errorDisable_translated 2 dpe eff st desc), ends_of rfl (errorDisable_translated 3 dpe eff st desc)⟩,
    fun s p u waits owner => ends_of rfl (suspendDrainTimeout_owned waits owner), fun s p waits lent => ends_of rfl ?_,
    fun s p ready => ⟨_, rfl, ends_of rfl (if_pos ready)⟩⟩
  · obtain ⟨s1, s2, h1, h2, h⟩ := connect_match dp dpe charge eff (.inr mode)
    exact ⟨s1, s2, h1, h2, ends_of rfl (h.trans (by rw [if_neg (by decide)]))⟩
  · obtain ⟨s1, s2, h1, h2, h⟩ := connect_match dp dpe charge eff (.inl rfl)
    exact ⟨s1, s2, h1, h2, ends_of rfl (h.trans (by rw [if_pos rfl]))⟩
  · simp only [deviceChirp, dpe]
  · simp only [deviceChirpEnd, dpe, chirp, and_self, if_true]
  · simp only [deviceChirpEnd, dpe, Bool.false_eq_true, and_false, if_false]
  · simp only [deviceLpmAck, enterL1, dpe, Nat.mod_eq_of_lt lt]
  · rw [deviceWake_left resuming h, open_]
    rfl
  · rw [deviceWake_left resuming h, if_pos blocked]
  · simp only [deviceWake, dpe]
  · simp only [upstreamWakeDriveEnd, kDrive, Bool.false_eq_true, if_false]
  · obtain ⟨s1, h1, h⟩ := upstreamWakeDriveEnd_taken kDrive phys
    exact ⟨s1, h1, ends_of rfl h⟩
  · rw [resumeKEnd_of h, free]
    rfl
  · rw [resumeKEnd_of h, if_pos follows]
  · simp only [upstreamResumeEop, bus]
  · simp only [eopPort, owns, h, follows, if_true]
  · simp only [suspendDrainTimeout, waits, lent, if_true]

end Sys2Proof.Machine
end

section
/-!
The SuperSpeed link states (R92–R97). On an ACTIVE chip a row runs its meaning (`ends_active`), which looks at the state of
the engine's link and at whose engine it is: a port's (1–8) or an upstream's (9, 10).
-/

namespace Sys2Proof.Machine

theorem ends_active {i : Instr} {s t u : State} (h : exec i s = leaves s (ifActive s u)) (active : s.chipActive = true)
    (e : u = t) : Ends i s t := ends_of h ((if_pos active).trans e)

theorem setLinkN_port {s : State} {n : Nat} (h : n ≤ 8) (st : Link) (b : Bool) : setLinkN s n st b = setLink s n st b :=
  if_pos h

theorem setLinkN_up {s : State} {n : Nat} (h : 8 < n) (st : Link) (b : Bool) :
    setLinkN s n st b = setUpLink s (upOfSpe n) st b := if_neg (by omega)

theorem ssConnectMode_up {s : State} {n : Nat} (h : 8 < n) : ssConnectMode s n = s := if_neg (by omega)

theorem rxDetectProbe_found {s : State} {n : Nat} (role : n ≤ 8 ∨ s.sys.role ≠ 3) (st : linkOf s n = .rxDetect)
    (eff : 8 < n ∨ ((ssConnectMode s n).port n).id.eff = .transparent) :
    rxDetectProbe n true s = setLinkN (ssConnectMode s n) n .polling false := by
  have takes : ¬ (8 < n ∧ s.sys.role = 3) := by omega
  have transparent : ¬ (n ≤ 8 ∧ ((ssConnectMode s n).port n).id.eff = .translated) := by
    rintro ⟨le, eff'⟩
    rcases eff with gt | eff
    · omega
    · rw [eff] at eff'
      cases eff'
  simp only [rxDetectProbe, if_neg takes, st, if_true, if_neg transparent]

theorem rxDetectProbe_none {s : State} {n : Nat} (st : linkOf s n = .rxDetect) : rxDetectProbe n false s = s := by
  unfold rxDetectProbe
  split
  · rfl
  · simp only [st, Bool.false_eq_true, if_false]

theorem recoveryTimeout_up {s : State} {n : Nat} (h : linkOf s n = .recovery ∨ linkOf s n = .hotReset) (up : 8 < n) :
    recoveryTimeout n s =
      raiseUp (setUpLink s (upOfSpe n) .ssInactive false) (upOfSpe n) 5 3 (s.up (upOfSpe n)).ssErrs := by
  have no : ¬ n ≤ 8 := by omega
  rcases h with st | st <;> simp only [recoveryTimeout, st, if_neg no]

theorem recoveryTimeout_port {s : State} {n : Nat} (h : linkOf s n = .recovery ∨ linkOf s n = .hotReset) (port : n ≤ 8)
    (idle : (s.spe n).exit = none) : recoveryTimeout n s = setLink s n .ssInactive false := by
  rcases h with st | st <;> simp only [recoveryTimeout, st, if_pos port, idle]

/-- A link that errs in U0 retrains. -/
theorem retrain_of_u0 (s : State) (n : Nat) :
    (match linkOf s n with | .u0 => setLinkN s n .recovery false | _ => s) =
      if linkOf s n = .u0 then setLinkN s n .recovery false else s := by
  cases linkOf s n <;> rfl

theorem lgoU1U2_taken {s : State} {n : Nat} {lvl : Link} (st : linkOf s n = .u0) (h : lvl = .u1 ∨ lvl = .u2 ∨ lvl = .u3)
    (may : 8 < n ∨ lvl = .u1 ∧ (s.spe n).u1To ≠ 0 ∨ lvl = .u2 ∧ (s.spe n).u2To ≠ 0) :
    lgoU1U2 n lvl s = setLinkN s n lvl false := by
  rcases h with rfl | rfl | rfl
  · have ok : ¬ (n ≤ 8 ∧ (s.spe n).u1To = 0) := by simp at may; omega
    simp only [lgoU1U2, st, if_neg ok]
  · have ok : ¬ (n ≤ 8 ∧ (s.spe n).u2To = 0) := by simp at may; omega
    simp only [lgoU1U2, st, if_neg ok]
  · have ok : ¬ n ≤ 8 := by simp at may; omega
    simp only [lgoU1U2, st, if_neg ok]

theorem lfpsWake_blocked {s : State} {p : Nat} {u : Up} (port : p ≤ 8) (idle : (s.spe p).exit = none)
    (st : (s.spe p).st = .u3) (owner : ownerUp (s.port p) = some u) (link : (s.up u).ssLink = .u3)
    (wake : (s.up u).ssWake = false) :
    lfpsWake p s = raise s (322 + (p - 1) * 4) 5 (sleepData 0 false 3 (s.port p).id.owner.code 0 0) := by
  have low : ¬ 8 < p := by omega
  simp only [lfpsWake, if_neg low, idle, st, owner, link, wake, beq_self_eq_true, Bool.not_false, Bool.and_self, if_true]

/-- The link's wake, once nothing blocks it: the exit is noted and the link leaves U3. -/
def wakeLink (s : State) (p : Nat) : State :=
  wakeDoze (setLink (s.modSpe p (fun e =>
    { e with exit := some { left := 3, host := false, start := s.ticks, stamp := s.now } })) p .recovery false)

/-- The upstream's link follows where it sleeps too. -/
def wakeOwnersLink (s : State) (p : Nat) : State :=
  match ownerUp (s.port p) with
  | some u => if (s.up u).ssLink = .u3 then setUpLink s u .recovery false else s
  | none => s

theorem lfpsWake_wakes {s : State} {p : Nat} (port : p ≤ 8) (idle : (s.spe p).exit = none) (st : (s.spe p).st = .u3)
    (may : ∀ u, ownerUp (s.port p) = some u → (s.up u).ssLink = .u3 → (s.up u).ssWake = true) :
    lfpsWake p s = wakeOwnersLink (wakeLink s p) p := by
  have low : ¬ 8 < p := by omega
  cases owner : ownerUp (s.port p) with
  | none =>
    simp only [lfpsWake, if_neg low, idle, st, owner, Bool.false_eq_true, if_false]
    rfl
  | some u =>
    have free : ((s.up u).ssLink == Link.u3 && !(s.up u).ssWake) = false := by
      cases link : (s.up u).ssLink with
      | u3 => simp [may u owner link]
      | _ => rfl
    simp only [lfpsWake, if_neg low, idle, st, owner, free, Bool.false_eq_true, if_false]
    rfl

theorem upU1U2Idle_enters {s : State} {u : Up} {u2 : Bool} (rest : ssPortsRest s u = true)
    (en : (if u2 then (s.up u).u2En && decide (upU2Eff s ≠ 0) else (s.up u).u1En && decide (upU1Eff s ≠ 0)) = true)
    (low : ((s.up u).ssLink == Link.u0 || (u2 && (s.up u).ssLink == Link.u1)) = true) :
    upU1U2Idle u u2 true s = setUpLink s u (if u2 then .u2 else .u1) false := by
  simp only [upU1U2Idle, en, low, rest, Bool.and_self, if_true]

/-- Settles O7: each row by the state of its engine's link. -/
theorem superSpeedLinkStates : Obligations.SuperSpeedLinkStates := by
  refine ⟨fun s n active up role st => ends_active rfl active ?_,
    fun s n active port st eff => ends_active rfl active (rxDetectProbe_found (.inl port) st (.inr eff)),
    fun s n active st => ends_active rfl active (rxDetectProbe_none st), fun s n g active st up => ends_active rfl active ?_,
    fun s n g active st port => ends_active rfl active ?_, fun s n g active st port idle => ends_active rfl active ?_,
    fun s n active st port first => ends_active rfl active ?_, fun s n lfps active st up => ends_active rfl active ?_,
    fun s n active st up => ends_active rfl active (recoveryTimeout_up st up),
    fun s n active st port idle => ends_active rfl active (recoveryTimeout_port st port idle),
    fun s n active port => ⟨_, _, rfl, rfl, ends_active rfl active ?_⟩,
    fun s n active up => ⟨_, _, rfl, rfl, ends_active rfl active ?_⟩,
    fun s n active st => ⟨fun h => ends_active rfl active ?_, fun h => ends_active rfl active ?_,
      fun h => ends_active rfl active (lgoU1U2_taken st (by simp) (.inl h))⟩,
    fun s n active st port => ⟨fun h => ends_active rfl active ?_, fun h => ends_active rfl active ?_⟩,
    fun s n active st port => ⟨fun low high => ends_active rfl active ?_, fun low high => ends_active rfl active ?_⟩,
    fun s n active st => ends_active rfl active ?_, fun s n active st up => ends_active rfl active ?_,
    fun s p u active port idle st owner link wake => ends_active rfl active (lfpsWake_blocked port idle st owner link wake),
    fun s p active port idle st may => ⟨_, rfl, ends_active rfl active (lfpsWake_wakes port idle st may)⟩,
    fun s p r active port exit => ends_active rfl active ?_, fun s n active up => ends_active rfl active ?_,
    fun s n active port warm => ⟨_, rfl, ends_active rfl active ?_⟩,
    fun s u st en eff rest => ends_of rfl (upU1U2Idle_enters (u2 := false) rest (by simp [en, eff]) (by simp [st])),
    fun s u st en eff rest => ends_of rfl (upU1U2Idle_enters (u2 := true) rest (by simp [en, eff]) (by simpa using st))⟩
  · rw [rxDetectProbe_found (.inr role) st (.inl up), ssConnectMode_up up]
  · have no : ¬ n ≤ 8 := by omega
    simp only [ssTrainingDone, st, if_neg no]
  · simp only [ssTrainingDone, st, if_pos port]
  · simp only [ssTrainingDone, st, if_pos port, idle]
  · simp only [pollingTimeout, st, if_pos port, first, and_self, if_true]
  · have no : ¬ n ≤ 8 := by omega
    simp only [pollingTimeout, st, if_neg no]
  · simp only [ssLinkError, if_pos port]
    exact retrain_of_u0 _ n
  · have no : ¬ n ≤ 8 := by omega
    simp only [ssLinkError, if_neg no]
    exact retrain_of_u0 _ n
  · exact lgoU1U2_taken st (by simp) (h.imp_right fun h => .inl ⟨rfl, h⟩)
  · exact lgoU1U2_taken st (by simp) (h.imp_right fun h => .inr ⟨rfl, h⟩)
  · simp only [lgoU1U2, st, port, h, and_self, if_true]
  · simp only [lgoU1U2, st, port, h, and_self, if_true]
  · simp only [u1U2IdleTimeout, st, port, low, high, Bool.false_eq_true, and_self, if_true, if_false]
  · simp only [u1U2IdleTimeout, st, port, low, high, and_self, if_true]
  · rcases st with st | st <;> simp only [exitLfps, st]
  · have no : ¬ n ≤ 8 := by omega
    simp only [exitLfps, st, if_neg no]
  · have low : ¬ 8 < p := by omega
    simp only [u3WakeHandshakeTimeout, if_neg low, exit]
  · have no : ¬ n ≤ 8 := by omega
    simp only [warmResetDone, if_neg no]
  · simp only [warmResetDone, if_pos port, warm, if_true] <;> rfl

end Sys2Proof.Machine
end

section
/-!
Fills, control requests and absorbed resets of a translated port (R98–R112, R115). A fill goes by the step that its record
stands at; a control request goes through the gate of its port (`gated_serve`, `gatedSetup_serve` and their neighbours).
-/

namespace Sys2Proof.Machine

/-! ### The gate of a translated port -/

theorem gated_serve {s : State} {u : Up} {n : Nat} (h : gate s u n = .serve) (ep : Nat) (f : State → State) :
    gated s u n ep f = f s := by simp only [gated, h]

theorem gated_silent {s : State} {u : Up} {n : Nat} (h : gate s u n = .silent) (ep : Nat) (f : State → State) :
    gated s u n ep f = answer s u .none := by simp only [gated, h]

theorem gatedSetup_serve {s : State} {u : Up} {n : Nat} (h : gate s u n = .serve) (free : pxBlocked s (locOf u n) = false)
    (b : List Byte) (f : State → State) : gatedSetup s u n b f = f s := by
  simp only [gatedSetup, h, free, Bool.false_eq_true, if_false]

/-- While a physical port's device refills or drains, a SETUP is kept. -/
theorem gatedSetup_nak {s : State} {u : Up} {n : Nat} (port : n ≤ 33) (h : gate s u n = .nak) (b : List Byte)
    (f : State → State) : gatedSetup s u n b f = keepSetup (answer s u .ack) (locOf u n) b := by
  rw [locOf_phys u n port]
  simp only [gatedSetup, h, locOf_phys u n port, Bool.false_eq_true, if_false]

theorem proxyGetDescriptor_serve {s : State} {u : Up} {n : Nat} (h : gate s u n = .serve)
    (free : pxBlocked s (locOf u n) = false) (kind index len : Nat) :
    proxyGetDescriptor u n kind index len s = ((proxyDesc s (locOf u n) kind index len).map fun a =>
      answer (s.modPx (locOf u n) (fun x => { x with ctrl := x.ctrl.cutOff })) u a).getD
        (forward (answer s u .ack) (locOf u n) (getDescSetup kind index len)) := by
  rw [proxyGetDescriptor, gatedSetup_serve h free]
  cases proxyDesc s (locOf u n) kind index len <;> rfl

theorem proxySetup_serve {s : State} {u : Up} {n : Nat} (h : gate s u n = .serve) (free : pxBlocked s (locOf u n) = false)
    (b : List Byte) : proxySetup u n b s = takeSetup (answer s u .ack) (locOf u n) b := by
  rw [proxySetup, gatedSetup_serve h free, pxSetup]

/-- Settles O8: a fill by the step of its record, a request by its port's gate, a reset's end by the proxy's marks. -/
theorem fillsAndControlRequests : Obligations.FillsAndControlRequests := by
  refine ⟨fun s p data f fill step => ends_of rfl ?_, fun s p data f fill step whole => ends_of rfl ?_,
    fun s p data f fill step whole => ⟨_, rfl, ends_of rfl ?_⟩, fun s p f fill tries step req => ⟨_, rfl, ends_of rfl ?_⟩,
    fun s p f fill tries step => ends_of rfl ?_, fun s p f fill tries => ends_of rfl ?_, fun s p f fill => ends_of rfl ?_,
    fun s p f fill refill step => ends_of rfl ?_, fun s u n addr h => ⟨_, rfl, ends_of rfl ?_⟩,
    fun s u n addr h => ends_of rfl (gated_silent h 0 _), fun s u n kind index len a h free desc => ends_of rfl ?_,
    fun s u n kind index len h free desc => ends_of rfl ?_,
    fun s u n setup h free => ends_of rfl (proxySetup_serve h free setup),
    fun s u n setup port h => ends_of rfl (gatedSetup_nak port h setup _),
    fun s u n ep h free => ends_of rfl (proxySetup_serve h free _), fun s p h => ends_of rfl (if_pos h),
    fun s u v h => ends_of rfl (if_pos h), fun s p h => ends_of rfl (if_pos h), fun s u v h => ends_of rfl (if_pos h),
    fun s l b set => if_pos set, fun s l b set iface => ?_, fun s l vreset => ⟨_, rfl, ends_of rfl ?_⟩,
    fun s l => ends_of rfl rfl⟩
  · simp only [fillRequestDone, fill, step]
  · simp only [fillRequestDone, fill, step, whole, Bool.false_eq_true, if_false]
  · simp only [fillRequestDone, fill, step, whole, if_true]
  · have some_ : f.req.isEmpty = false := List.isEmpty_eq_false_iff.mpr req
    simp only [fillAttemptTimeout, fill, tries, step, some_, Bool.false_eq_true, if_true, if_false]
  · simp only [fillAttemptTimeout, fill, tries, step, if_true]
  · simp only [fillAttemptTimeout, fill, Nat.not_lt.mpr tries, if_false]
  · simp only [tfillExpiry, fill]
  · simp only [refillDone, fill, refill, step, and_self, if_true]
  · rw [proxySetAddress, gated_serve h, pxSetAddress]
  · rw [proxyGetDescriptor_serve h free, desc]
    rfl
  · rw [proxyGetDescriptor_serve h free, desc]
    rfl
  · simp only [requestDone, set, iface, Bool.false_eq_true, if_false, if_true]
  · simp only [virtualResetEnd, vreset, if_true] <;> rfl

end Sys2Proof.Machine
end

section
/-!
Host and device transactions of a translated port's endpoints (R66, R110–R113). A host token that is served, for an endpoint
other than 0 of a device that is awake, is the proxy's own (`hostOut_serve`, `hostIn_serve`); what it finds is the endpoint's
record, and a row of the device side reads the same record.
-/

namespace Sys2Proof.Machine

section
variable {s : State} {u : Up} {n ep : Nat}

theorem hostOut_serve (h : gate s u n = .serve) (ne : ep ≠ 0) (awake : inPxL1 s n = false) (toggle : Bool)
    (data : List Byte) : hostOut u n ep toggle data s = pxOut s u (locOf u n) ep toggle data := by
  rw [hostOut, gated_serve h]
  simp only [awake, ne, Bool.false_eq_true, and_false, if_false]

theorem hostIn_serve (h : gate s u n = .serve) (ne : ep ≠ 0) (awake : inPxL1 s n = false) (acked : Bool) :
    hostIn u n ep acked s = pxIn s u (locOf u n) ep acked := by
  rw [hostIn, gated_serve h]
  simp only [awake, ne, Bool.false_eq_true, if_false]

/-- A PING with a region finds the endpoint's record. -/
theorem hostPing_serve {e : Ep} (h : gate s u n = .serve) (ne : ep ≠ 0) (pages : s.pxPages (locOf u n) ≠ 0)
    (found : (s.px (locOf u n)).ep ep = some e) : hostPing u n ep s = if e.halted then answer s u .stall
      else answer s u (if e.held.length < e.bufs ∧ !pxBlocked s (locOf u n) then .ack else .nak) := by
  rw [hostPing, gated_serve h]
  simp only [ne, pages, found, if_false]

theorem hostPing_empty (h : gate s u n = .serve) (ne : ep ≠ 0) (pages : s.pxPages (locOf u n) = 0) :
    hostPing u n ep s = answer s u .nak := by
  rw [hostPing, gated_serve h]
  simp only [ne, pages, if_true, if_false]

/-! ### Packets from the host (R110) -/

section
variable {e : Ep} {l : Loc}

theorem pxOut_halted (pages : s.pxPages l ≠ 0) (found : (s.px l).ep ep = some e) (halted : e.halted = true) (toggle : Bool)
    (data : List Byte) : pxOut s u l ep toggle data = answer s u .stall := by
  simp only [pxOut, pages, found, halted, if_false, if_true]

theorem pxOut_repeated (pages : s.pxPages l ≠ 0) (found : (s.px l).ep ep = some e) (halted : e.halted = false)
    (bufs : e.bufs ≠ 0) {toggle : Bool} (old : toggle ≠ e.hostTog) (data : List Byte) :
    pxOut s u l ep toggle data = answer s u .ack := by
  simp only [pxOut, pages, found, halted, bufs, old, Bool.false_eq_true, if_false, if_true, ne_eq, not_false_eq_true]

theorem pxOut_full (pages : s.pxPages l ≠ 0) (found : (s.px l).ep ep = some e) (halted : e.halted = false)
    (full : e.bufs ≤ e.held.length) (data : List Byte) : pxOut s u l ep e.hostTog data = answer s u .nak := by
  simp only [pxOut, pages, found, halted, full, Bool.false_eq_true, if_false, true_or, if_true, ne_eq, not_true_eq_false,
    ite_self]

/-- The state in which a packet has been stored and answered, and the seals have seen it. -/
def stored (s : State) (u : Up) (l : Loc) (ep : Nat) (e : Ep) (data : List Byte) : State :=
  (sealPacket (answer (s.modPx l (fun x => x.modEp ep (fun e => { e with held := e.held ++ [data], hostTog := !e.hostTog }))) u
    (if e.bufs ≤ e.held.length + 1 then .nyet else .ack)) l ep e.mps data).2

/-- After it is stored, a packet goes on to the wire or into the tunnel. -/
def passOn (s : State) (l : Loc) (ep : Nat) (e : Ep) : State :=
  match l with
  | .phys p => if e.held.isEmpty then wireOut s p ep else s
  | .virt _ _ => pushTun s l ep

theorem passOn_virt (s : State) (u : Up) {n : Nat} (ep : Nat) (e : Ep) (h : 34 ≤ n) :
    passOn s (locOf u n) ep e = pushTun s (locOf u n) ep := by
  rw [locOf_virt u n h]
  rfl

theorem passOn_phys (s : State) (u : Up) {n : Nat} (ep : Nat) (e : Ep) (h : n ≤ 33) :
    passOn s (locOf u n) ep e = if e.held.isEmpty then wireOut s n ep else s := by
  rw [locOf_phys u n h]
  rfl

theorem pxOut_stored (pages : s.pxPages l ≠ 0) (found : (s.px l).ep ep = some e) (halted : e.halted = false)
    (room : e.held.length < e.bufs) (free : pxBlocked s l = false) (data : List Byte) :
    pxOut s u l ep e.hostTog data = passOn (stored s u l ep e data) l ep e := by
  have bufs : e.bufs ≠ 0 := by omega
  have takes : ¬ (e.bufs ≤ e.held.length ∨ pxBlocked s l = true) := by rw [free]; simpa using room
  simp only [pxOut, pages, found, halted, bufs, if_neg takes, Bool.false_eq_true, if_false, ne_eq, not_true_eq_false]
  cases l <;> rfl

end

/-! ### Packets to the host (R110, R113) -/

/-- The endpoint's poll is noted: the device is polled for four more intervals. -/
def polled (s : State) (l : Loc) (ep : Nat) : State :=
  s.modPx l (fun x => x.modEp (ep + 128) (fun e => { e with pollLeft := 4 }))

/-- The host has taken the oldest packet. -/
def handedOver (s : State) (l : Loc) (ep : Nat) (b : List Byte) : State :=
  s.modPx l (fun x => x.modEp (ep + 128) (fun e =>
    { e with held := e.held.drop 1, hostTog := !e.hostTog, drawn := e.drawn && decide (e.mps ≤ b.length) }))

/-- The free buffer is the lender's to fill, or the device's. -/
def refilled (s : State) (l : Loc) (ep : Nat) : State :=
  match l with
  | .virt _ _ => grantTun s l (ep + 128) 1
  | .phys p => readOn s p ep

theorem refilled_virt (s : State) (u : Up) {n : Nat} (ep : Nat) (h : 34 ≤ n) :
    refilled s (locOf u n) ep = grantTun s (locOf u n) (ep + 128) 1 := by
  rw [locOf_virt u n h]
  rfl

theorem refilled_phys (s : State) (u : Up) {n : Nat} (ep : Nat) (h : n ≤ 33) : refilled s (locOf u n) ep = readOn s n ep := by
  rw [locOf_phys u n h]
  rfl

theorem pxIn_empty {l : Loc} {e : Ep} (pages : s.pxPages l ≠ 0) (found : (s.px l).ep (ep + 128) = some e)
    (held : e.held = []) (acked : Bool) : pxIn s u l ep acked = pxDraw (polled s l ep) u l ep e := by
  simp only [pxIn, pages, found, held, if_false, polled]

theorem pxIn_offered {l : Loc} {e : Ep} {b : List Byte} {bs : List (List Byte)} (pages : s.pxPages l ≠ 0)
    (found : (s.px l).ep (ep + 128) = some e) (held : e.held = b :: bs) :
    pxIn s u l ep false = answer (polled s l ep) u (.data e.hostTog b) := by
  simp only [pxIn, pages, found, held, if_false, polled, Bool.false_eq_true]

theorem pxIn_taken {l : Loc} {e : Ep} {b : List Byte} {bs : List (List Byte)} (pages : s.pxPages l ≠ 0)
    (found : (s.px l).ep (ep + 128) = some e) (held : e.held = b :: bs) :
    pxIn s u l ep true = refilled (handedOver (answer (polled s l ep) u (.data e.hostTog b)) l ep b) l ep := by
  simp only [pxIn, pages, found, held, if_false, if_true]
  cases l <;> rfl

theorem pxDraw_halted {e : Ep} (l : Loc) (ep : Nat) (h : e.halted = true) : pxDraw s u l ep e = answer s u .stall := if_pos h

theorem pxDraw_idle {e : Ep} (l : Loc) (ep : Nat) (halted : e.halted = false) (h : e.bufs = 0 ∨ e.drawn = true) :
    pxDraw s u l ep e = answer s u .nak := by
  have waits : pxBlocked (answer s u .nak) l = true ∨ e.bufs = 0 ∨ e.drawn = true ∨
      (!roomAt (answer s u .nak) l e.mps) = true := .inr (h.imp_right .inl)
  simp only [pxDraw, halted, if_pos waits, Bool.false_eq_true, if_false]

end

/-! ### The device's side (R111, R113, R228) -/

/-- After the seals' judgement `r` of a packet of the device: it is held for the host, unless a seal discards it. -/
def heldIn (r : Bool × State) (p ep : Nat) (data : List Byte) : State :=
  r.2.modPx (.phys p) (fun x => x.modEp (ep + 128) (fun e =>
    { e with held := if r.1 then e.held else e.held ++ [data], wireTog := !e.wireTog }))

/-- And then staged for the mirror, a discarded one counted. -/
def stagedIn (r : Bool × State) (p ep : Nat) (e : Ep) (data : List Byte) : State :=
  stageEp (if r.1 then countSealed (heldIn r p ep data) (.phys p) data.length else heldIn r p ep data) p (ep + 128)
    (decide (data.length < e.mps))

theorem deviceInData_held {s : State} {p ep : Nat} {data : List Byte} {e : Ep} (ne : ep ≠ 0)
    (found : (s.port p).px.ep (ep + 128) = some e) (room : e.held.length < e.bufs)
    (stage : stageRoom s p data.length = true) {r : Bool × State} (hr : r = sealPacket s (.phys p) (ep + 128) e.mps data) :
    deviceInData p ep data s = readOn (if ((stagedIn r p ep e data).port p).id.owner = .lent
      then pushTun (stagedIn r p ep e data) (.phys p) (ep + 128) else stagedIn r p ep e data) p ep := by
  have takes : ¬ e.bufs ≤ e.held.length := Nat.not_le.mpr room
  have staged : ¬ (!stageRoom s p data.length) = true := by rw [stage]; decide
  unfold deviceInData
  rw [if_neg ne, found]
  dsimp only
  rw [if_neg takes, if_neg staged, ← hr]
  rfl

theorem deviceStall_out {s : State} {p ep : Nat} {e : Ep} (ne : ep ≠ 0) (out : ep < 128)
    (names : stalled (s.port p) ep = ep) (found : (s.port p).px.ep ep = some e) : ∃ s1 : State,
      s1 = dropTun (s.modPort p (fun q => { q with
        discards := min 0xFFFFFFFF (q.discards + e.held.foldl (fun a b => a + b.length) 0)
        px := q.px.modEp ep (fun e => { e.discard with halted := true, ping := false }) })) (.phys p) (· == ep) ∧
      deviceStall p ep s = settleSuspend (if (s1.port p).id.owner = .lent then sendTun s1 (.phys p) 5 ep [1] else s1) p := by
  refine ⟨_, rfl, ?_⟩
  simp only [deviceStall, ne, names, found, Nat.not_le.mpr out, if_false]

theorem deviceOutAck_next {s : State} {p ep : Nat} {e : Ep} {nyet : Bool} (ne : ep ≠ 0)
    (found : (s.port p).px.ep ep = some e) (held : e.held ≠ []) (h : e.ping = false ∨ nyet = true) : ∃ s1 : State,
      s1 = stageEp (s.modPx (.phys p) (fun x => x.modEp ep (fun k => { k with
          held := k.held.drop 1, wireTog := !k.wireTog
          ping := nyet && (decide ((s.port p).id.speed = .hs) && e.kind == 2) }))) p ep
        (decide ((e.held.headD []).length < e.mps)) ∧
      deviceOutAck p ep nyet s =
        settleSuspend (wireOut (if (s1.port p).id.owner = .lent then ackOut s1 p ep else s1) p ep) p := by
  have some_ : e.held.isEmpty = false := List.isEmpty_eq_false_iff.mpr held
  have sent : ¬ (e.ping = true ∧ (!nyet) = true) := by
    rcases h with h | h <;> simp [h]
  refine ⟨_, rfl, ?_⟩
  simp only [deviceOutAck, ne, found, some_, if_neg sent, Bool.false_eq_true, if_false]

/-- Settles O9: host tokens by what the endpoint holds, device rows by its buffers and marks. -/
theorem proxyTransactions : Obligations.ProxyTransactions := by
  refine ⟨fun s u n ep toggle data h ne awake pages => ⟨ends_of rfl ?_, ends_of rfl (hostPing_empty h ne pages),
      fun acked => ends_of rfl ?_⟩,
    fun s u n ep toggle data e h ne awake pages found halted => ⟨ends_of rfl ?_, ends_of rfl ?_⟩,
    fun s u n ep toggle data e h ne awake pages found halted bufs old => ends_of rfl ?_,
    fun s u n ep data e h ne awake pages found halted room free =>
      ⟨stored s u (locOf u n) ep e data, rfl, fun virt => ends_of rfl ?_, fun phys => ends_of rfl ?_⟩,
    fun s u n ep data e h ne awake pages found halted full => ⟨ends_of rfl ?_, ends_of rfl ?_⟩,
    fun s u n ep e h ne pages found halted free room => ends_of rfl ?_,
    fun s u n ep e acked h ne awake pages found held => ends_of rfl ?_,
    fun s u l ep e halted => pxDraw_halted l ep halted, fun s u l ep e halted idle => pxDraw_idle l ep halted idle,
    fun s u n ep e b bs h ne awake pages found held => ends_of rfl ?_,
    fun s u n ep e b bs h ne awake pages found held =>
      ⟨handedOver (answer (polled s (locOf u n) ep) u (.data e.hostTog b)) (locOf u n) ep b, rfl,
        fun virt => ends_of rfl ?_, fun phys => ends_of rfl ?_⟩,
    fun s p ep data e ne found full => ends_of rfl ?_, fun s p ep data e ne found room stage => ends_of rfl ?_,
    fun s p ep data e r ne found room stage hr =>
      ⟨heldIn r p ep data, stagedIn r p ep e data, rfl, rfl, ends_of rfl ?_⟩,
    fun s p ep e nyet ne found held sent => ?_, fun s p ep e ne found held ping => ends_of rfl ?_,
    fun s p onWire wireOnly => ends_of rfl ?_, fun s p ep e ne out names found => ?_,
    fun s p ep e found kind left => ⟨_, rfl, ends_of rfl ?_⟩⟩
  · rw [hostOut_serve h ne awake]
    exact if_pos pages
  · rw [hostIn_serve h ne awake]
    exact if_pos pages
  · rw [hostOut_serve h ne awake, pxOut_halted pages found halted]
  · rw [hostPing_serve h ne pages found, if_pos halted]
  · rw [hostOut_serve h ne awake, pxOut_repeated pages found halted bufs old]
  · rw [hostOut_serve h ne awake, pxOut_stored pages found halted room free, passOn_virt _ u ep e virt]
  · rw [hostOut_serve h ne awake, pxOut_stored pages found halted room free, passOn_phys _ u ep e phys]
  · rw [hostOut_serve h ne awake, pxOut_full pages found halted full]
  · have no : ¬ (e.held.length < e.bufs ∧ (!pxBlocked s (locOf u n)) = true) := fun x => absurd x.1 (Nat.not_lt.mpr full)
    rw [hostPing_serve h ne pages found, halted, if_neg Bool.false_ne_true, if_neg no]
  · rw [hostPing_serve h ne pages found, halted, if_neg Bool.false_ne_true, if_pos ⟨room, by rw [free]; rfl⟩]
  · rw [hostIn_serve h ne awake, pxIn_empty pages found held, polled]
  · rw [hostIn_serve h ne awake, pxIn_offered pages found held, polled]
  · rw [hostIn_serve h ne awake, pxIn_taken pages found held, refilled_virt _ u ep virt]
  · rw [hostIn_serve h ne awake, pxIn_taken pages found held, refilled_phys _ u ep phys]
  · simp only [deviceInData, ne, found, full, if_false, if_true]
  · simp only [deviceInData, ne, found, Nat.not_le.mpr room, stage, Bool.not_false, if_false, if_true]
  · exact deviceInData_held ne found room stage hr
  · obtain ⟨s1, h1, acked⟩ := deviceOutAck_next ne found held sent
    exact ⟨s1, h1, ends_of rfl acked⟩
  · have some_ : e.held.isEmpty = false := List.isEmpty_eq_false_iff.mpr held
    simp only [deviceOutAck, ne, found, some_, ping, Bool.not_false, and_self, Bool.false_eq_true, if_false, if_true]
  · simp only [deviceStall, deviceStall0, onWire, wireOnly, Bool.not_true, Bool.false_eq_true, if_false, if_true]
  · obtain ⟨s1, h1, stalls⟩ := deviceStall_out ne out names found
    exact ⟨s1, h1, ends_of rfl stalls⟩
  · simp only [interruptInPoll, found, kind, left, and_self, if_true]

end Sys2Proof.Machine
end

section
/-!
Split transactions (R52–R54, R56, R113). A split for a port that the upstream owns at HS is the TT's or the proxy's
(`ttSsplit_owned`, `ttCsplit_owned`); a transaction that ends is the one that runs on the port's FS/LS bus.
-/

namespace Sys2Proof.Machine

section
variable {s : State} {u : Up} {n : Nat}

/-- The split names a port that the upstream owns at HS. -/
theorem split_reaches (port : isPort n = true) (owns : s.owns u n = true) (hs : (s.up u).link = .hs) :
    ¬ (n = 0 ∨ 32 < n ∨ ¬ s.owns u n = true ∨ (s.up u).link ≠ .hs) := by
  obtain ⟨low, high⟩ := port_lt port
  rintro (h | h | h | h)
  · omega
  · omega
  · exact h owns
  · exact h hs

/-! ### Start splits (R53, R54, R68) -/

theorem ttSsplit_np (port : isPort n = true) (owns : s.owns u n = true) (hs : (s.up u).link = .hs)
    (eff : (s.port n).id.eff = .transparent) (free : planBlocks s 1 n 0 = false) (addr ep : Nat) (pid : Pid) (ls tg : Bool)
    (count : Nat) (data : List Byte) : ttSsplit u n addr ep false pid ls tg count data s = ssplitNp s u n
      { addr := addr, ep := ep, isIn := decide (pid = .inn), setup := decide (pid = .setup), toggle := tg, data := data } := by
  unfold ttSsplit
  rw [if_neg (split_reaches port owns hs), if_neg (by simp [ttKind, free]), eff]
  rfl

theorem ttSsplit_per (port : isPort n = true) (owns : s.owns u n = true) (hs : (s.up u).link = .hs)
    (eff : (s.port n).id.eff = .transparent) (free : planBlocks s 2 n 0 = false) (addr ep : Nat) (pid : Pid) (ls tg : Bool)
    (count : Nat) (data : List Byte) : ttSsplit u n addr ep true pid ls tg count data s = ssplitPer s u n
      { addr := addr, ep := ep, isIn := decide (pid = .inn), toggle := tg, data := data } (if ls then 8 * count else count) := by
  unfold ttSsplit
  rw [if_neg (split_reaches port owns hs), if_neg (by simp [ttKind, free]), eff]
  rfl

/-- A non-periodic start split is turned away by a region that is full, and by one that waits for a plan. -/
theorem ttSsplit_full (port : isPort n = true) (owns : s.owns u n = true) (hs : (s.up u).link = .hs)
    (eff : (s.port n).id.eff = .transparent) (full : 4 * s.pages 1 n 0 ≤ (s.port n).tt.np.length) (addr ep : Nat) (pid : Pid)
    (ls tg : Bool) (count : Nat) (data : List Byte) :
    ttSsplit u n addr ep false pid ls tg count data s = answerD s u .nak := by
  cases waits : planBlocks s 1 n 0 with
  | true =>
    unfold ttSsplit
    rw [if_neg (split_reaches port owns hs), if_pos (by simp [ttKind, waits])]
  | false =>
    rw [ttSsplit_np port owns hs eff waits]
    exact if_neg (Nat.not_lt.mpr full)

/-- A periodic start split within the limits of R54 is taken up, one outside them is dropped. -/
theorem ssplitPer_within (x : TtPer) {bytes : Nat} (within : withinR54 s u n bytes = true) (pages : 0 < s.pages 2 n 0)
    (runs : (s.port n).tt.stopped = false) : ssplitPer s u n x bytes =
      answerD (s.modPort n (fun q => { q with tt := { q.tt with
        per := q.tt.per ++ [{ x with dropped := false }], ufBytes := q.tt.ufBytes + bytes, ufSplits := q.tt.ufSplits + 1,
        frBytes := q.tt.frBytes + bytes } })) u .none := by
  simp only [ssplitPer, within, pages, runs, decide_true, Bool.not_false, Bool.and_self, Bool.not_true, if_true]

theorem ssplitPer_outside (x : TtPer) {bytes : Nat} (outside : withinR54 s u n bytes = false) :
    ssplitPer s u n x bytes =
      answerD (s.modPort n (fun q => { q with tt := { q.tt with per := q.tt.per ++ [{ x with dropped := true }] } })) u .none := by
  simp only [ssplitPer, outside, Bool.false_and, Bool.not_false, Bool.false_eq_true, if_false]

theorem ttSsplit_px (port : isPort n = true) (owns : s.owns u n = true) (hs : (s.up u).link = .hs)
    (eff : (s.port n).id.eff = .translated) (free : planBlocks s 1 n 0 = false) (addr ep : Nat) (pid : Pid) (ls tg : Bool)
    (count : Nat) (data : List Byte) :
    ttSsplit u n addr ep false pid ls tg count data s = ssplitPx u n addr ep false pid tg data s := by
  unfold ttSsplit
  rw [if_neg (split_reaches port owns hs), if_neg (by simp [ttKind, free]), eff]

/-- The proxy's answer to a start split is kept for the endpoint's complete split. -/
theorem ssplitPx_kept (pages : s.pages 1 n 0 ≠ 0) (speaks : gate s u n ≠ .silent) (addr ep : Nat) (pid : Pid) (tg : Bool)
    (data : List Byte) : ∃ r : Ans × State, r = pxSplit u n addr ep false pid tg data s ∧
      ssplitPx u n addr ep false pid tg data s = answerD (r.2.modPort n (fun q => { q with tt := { q.tt with
        pxAns := (if pid = .inn then ep + 128 else ep, r.1) ::
          q.tt.pxAns.filter (·.1 != if pid = .inn then ep + 128 else ep) } })) u .ack := by
  refine ⟨_, rfl, ?_⟩
  unfold ssplitPx
  rw [if_neg (by simpa [ttKind] using pages)]
  split
  · contradiction
  · rfl

/-! ### Complete splits (R53, R113) -/

theorem ttCsplit_tt (port : isPort n = true) (owns : s.owns u n = true) (hs : (s.up u).link = .hs)
    (eff : (s.port n).id.eff = .transparent) (addr ep : Nat) (per isIn : Bool) :
    ttCsplit u n addr ep per isIn s = if per then csplitPer s u n addr ep isIn else csplitNp s u n addr ep isIn := by
  unfold ttCsplit
  rw [if_neg (split_reaches port owns hs), eff]

theorem ttCsplit_px (port : isPort n = true) (owns : s.owns u n = true) (hs : (s.up u).link = .hs)
    (eff : (s.port n).id.eff = .translated) (addr ep : Nat) (per isIn : Bool) :
    ttCsplit u n addr ep per isIn s = csplitPx s u n ep per isIn := by
  unfold ttCsplit
  rw [if_neg (split_reaches port owns hs), eff]

/-- The answer that the proxy kept is given once. -/
theorem csplitPx_given {ep : Nat} {isIn : Bool} {a : Nat × Ans} (speaks : gate s u n ≠ .silent)
    (kept : (s.port n).tt.pxAns.find? (·.1 == if isIn then ep + 128 else ep) = some a) :
    csplitPx s u n ep false isIn = answerD (s.modPort n (fun q => { q with tt := { q.tt with
      pxAns := q.tt.pxAns.filter (·.1 != if isIn then ep + 128 else ep) } })) u a.2 := by
  unfold csplitPx
  dsimp only
  rw [kept]
  cases h : gate s u n with
  | silent => exact absurd h speaks
  | nak => rfl
  | serve => rfl

end

/-- Settles O10: start splits by the plan's regions and the limits of R54, complete splits by the result found. -/
theorem transactionTranslators : Obligations.TransactionTranslators := by
  refine ⟨fun s u n addr ep pid ls tg count data port owns hs eff free room => ⟨_, rfl, ends_of rfl ?_⟩,
    fun s u n addr ep pid ls tg count data port owns hs eff full =>
      ends_of rfl (ttSsplit_full port owns hs eff full addr ep pid ls tg count data),
    fun s u n addr ep pid ls tg count data port owns hs eff free pages runs within => ends_of rfl ?_,
    fun s u n addr ep pid ls tg count data port owns hs eff free outside => ends_of rfl ?_,
    fun s u n addr ep pid ls tg count data port owns hs eff free pages speaks => ?_,
    fun s u n addr ep isIn x port owns hs eff found res => ends_of rfl ?_,
    fun s u n addr ep isIn x r port owns hs eff found res => ends_of rfl ?_,
    fun s u n addr ep isIn x r port owns hs eff found kept res whole => ends_of rfl ?_,
    fun s u n addr ep isIn port owns hs eff free none_ => ends_of rfl ?_,
    fun s u n addr ep isIn a port owns hs eff speaks kept => ends_of rfl ?_,
    fun s p addr ep isIn r run whole => ⟨_, rfl, ends_of rfl ?_⟩, fun s p addr ep isIn r run => ⟨_, rfl, ends_of rfl ?_⟩,
    fun s p addr ep per isIn r other => ends_of rfl (if_pos other), fun s p addr ep isIn => ends_of rfl rfl⟩
  · rw [ttSsplit_np port owns hs eff free]
    exact if_pos room
  · rw [ttSsplit_per port owns hs eff free, ssplitPer_within _ within pages runs]
  · rw [ttSsplit_per port owns hs eff free, ssplitPer_outside _ outside]
  · obtain ⟨r, hr, kept⟩ := ssplitPx_kept pages speaks addr ep pid tg data
    exact ⟨r, hr, ends_of rfl ((ttSsplit_px port owns hs eff free addr ep pid ls tg count data).trans kept)⟩
  · rw [ttCsplit_tt port owns hs eff]
    simp only [csplitNp, found, res, Bool.false_eq_true, if_false]
  · rw [ttCsplit_tt port owns hs eff]
    simp only [csplitNp, found, res, Bool.false_eq_true, if_false]
  · rw [ttCsplit_tt port owns hs eff]
    simp only [csplitPer, found, kept, res, whole, Bool.false_eq_true, if_false, if_true]
  · rw [ttCsplit_tt port owns hs eff]
    simp only [csplitPer, none_, free, Bool.false_eq_true, if_false, if_true]
  · rw [ttCsplit_px port owns hs eff, csplitPx_given speaks kept]
  · unfold ttTransactionDone
    exact (if_neg (not_not_intro run)).trans ((if_neg Bool.false_ne_true).trans (if_neg (by simp [whole])))
  · unfold ttTransactionDone
    exact (if_neg (not_not_intro run)).trans (if_pos rfl)

end Sys2Proof.Machine
end

section
/-!
Drains, bus reset and lost connection of an upstream (R18, R116–R118, R121, R125, R511). A drain's end goes by what the drain
is for; a bus reset acts on a port by its mode and state.
-/

namespace Sys2Proof.Machine

/-! ### A drain that finishes or times out (R116, R121, R125) -/

/-- A drain that has not finished, or waits for its other half, goes on. -/
theorem drainDonePhys_waits {s : State} {p : Nat} {d : Drain} (drain : (s.port p).drain = some d)
    (h : (s.port p).px.drained = false ∨ (d.what ≠ 0 ∧ d.ready = false)) : drainDonePhys s p = s := by
  rcases h with held | ⟨what, ready⟩
  · simp only [drainDonePhys, drain, held, Bool.not_false, if_true]
  · simp only [drainDonePhys, drain, if_neg what, ready, Bool.not_false, if_true, ite_self]

theorem drainTimeout_move {s : State} {p : Nat} {d : Drain} (drain : (s.port p).drain = some d) (what : d.what = 0) :
    drainTimeout (.phys p) s =
      takeLater (finishWait (s.modPort p (fun q => { q with
        drain := none, id := { q.id with st := if q.id.st = .draining then d.back else q.id.st } })) d.wait
        (.fail stBusy 2 10)) (.phys p) := by
  simp only [drainTimeout, drain, what, OfNat.zero_ne_ofNat, zero_ne_one, false_and, if_false]

theorem drainTimeout_lend {s : State} {p : Nat} {d : Drain} (drain : (s.port p).drain = some d) (what : d.what = 1) :
    drainTimeout (.phys p) s = takeLater (finishWait ((sendTun s (.phys p) 0xC 0 [] false).modPort p (fun q => { q with
      drain := none, id := { q.id with st := if q.id.st = .draining then d.back else q.id.st }, tun := {} })) d.wait
        (.fail stBusy 2 10)) (.phys p) := by
  simp only [drainTimeout, drain, what, OfNat.one_ne_ofNat, false_and, if_true, if_false]

/-! ### A bus reset, port by port (R71, R117) -/

theorem busResetTransparent_absent {s : State} {p : Nat} (h : (s.port p).dpe = .unpowered ∨ (s.port p).dpe = .disconnected) :
    busResetTransparent s p = s := by
  rcases h with h | h <;> simp only [busResetTransparent, h]

theorem busResetTransparent_present {s : State} {p : Nat}
    (h : (s.port p).dpe = .enabled ∨ (s.port p).dpe = .suspended ∨ (s.port p).dpe = .sleeping ∨ (s.port p).dpe = .resetting) :
    busResetTransparent s p = syncPort (s.modPort p (fun q => { q with
      dpe := .disabled, cmdReset := false, addr := 0, addrSeen := 0, busSusp := false })) p := by
  rcases h with h | h | h | h <;> simp only [busResetTransparent, h]

/-- A presented device whose port does not resume is parked. -/
theorem busResetTranslated_parks {s : State} {p : Nat} (free : (s.port p).dpe ≠ .resuming)
    (h : (s.port p).id.st = .presented ∨ (s.port p).id.st = .live ∨ (s.port p).id.st = .parked) :
    busResetTranslated s p = park s p 1 := by
  rcases h with h | h | h <;> simp only [busResetTranslated, h, if_neg free]

theorem busResetTranslated_draining {s : State} {p : Nat} {d : Drain} (st : (s.port p).id.st = .draining)
    (drain : (s.port p).drain = some d) : busResetTranslated s p =
      if d.what = 0 then finishMove s p d
      else park (undoLend (sendTun s (.phys p) 0xC 0 [] false) p (.fail stRefusedState)) p 1 := by
  simp only [busResetTranslated, st, drain]

/-- Settles O11: a drain by what it is for, a bus reset by the straps and by each port's mode and state. -/
theorem drainsAndBusReset : Obligations.DrainsAndBusReset := by
  refine ⟨fun s p d drain held what => ends_of rfl ?_, fun s p d drain held what ready => ends_of rfl ?_,
    fun s p d drain held what ready => ends_of rfl ?_, fun s p d drain h => ends_of rfl (drainDonePhys_waits drain h),
    fun s u v d drain held => ends_of rfl ?_, fun s p d drain what _ => ends_of rfl (drainTimeout_move drain what),
    fun s p d drain what => ends_of rfl (drainTimeout_lend drain what), fun s p d drain what ready => ends_of rfl ?_,
    fun s u v d drain => ends_of rfl ?_, fun s u hs role => ends_of rfl (if_neg role),
    fun s u hs role => ends_of rfl (if_pos role), fun s u => ends_of rfl rfl, fun s p testing => if_pos testing,
    fun s p h => busResetTransparent_absent h, fun s p h => busResetTransparent_present h,
    fun s p free h => busResetTranslated_parks free h,
    fun s p d st drain => ⟨fun what => (busResetTranslated_draining st drain).trans (if_pos what),
      fun what => (busResetTranslated_draining st drain).trans (if_neg what)⟩, fun s p st => ?_⟩
  · simp only [drainDone, drainDonePhys, drain, held, what, Bool.not_true, Bool.false_eq_true, if_true, if_false]
  · simp only [drainDone, drainDonePhys, drain, held, what, ready, Bool.not_true, Bool.false_eq_true, if_true, if_false,
      one_ne_zero]
  · simp only [drainDone, drainDonePhys, drain, held, what, ready, Bool.not_true, Bool.false_eq_true, if_false,
      OfNat.ofNat_ne_zero, OfNat.ofNat_ne_one]
  · simp only [drainDone, drain, held, if_true]
  · simp only [drainTimeout, drain, what, ready, and_self, if_true]
  · simp only [drainTimeout, drain]
  · simp only [busResetTranslated, st]

end Sys2Proof.Machine
end

section
/-!
Lends and their tunnel (R120–R127, R274, R275). A sequenced frame goes by its TSEQ (`onTun_next`, `onTun_again`,
`onTun_ahead`), then by the half of the lend that it is for; a request to a virtual port by whether the device is shown.
-/

namespace Sys2Proof.Machine

/-! ### A sequenced frame (R122, R275) -/

section
variable {s : State} {h : TunHdr} {l : Loc} {q : BitVec 16}

theorem onTun_unknown (none_ : tunLoc s h = none) (late : Bool) (f : State → Loc → State) :
    onTun s h late f = tunUnknown s h := by
  simp only [onTun, none_]

/-- The next frame is taken, and acknowledged unless its own meaning does that. -/
theorem onTun_next (loc : tunLoc s h = some l) (tseq : q = BitVec.ofNat 16 h.tseq) (next : q = (s.tun l).rxSeq + 1)
    (late : Bool) (f : State → Loc → State) : onTun s h late f =
      f (if late then s.modTun l (fun t => { t with rxSeq := q })
        else ackTun (s.modTun l (fun t => { t with rxSeq := q })) l h.ep q) l := by
  subst tseq
  simp only [onTun, loc, if_pos next]

/-- A frame taken before is acknowledged again, unless its packet still waits for the device. -/
theorem onTun_again (loc : tunLoc s h = some l) (tseq : q = BitVec.ofNat 16 h.tseq) (next : q ≠ (s.tun l).rxSeq + 1)
    (seen : tunSeen (s.tun l) q = true) (pend : (s.tun l).rxPend.any (fun x => x.2 == q) = false) (late : Bool)
    (f : State → Loc → State) : onTun s h late f = ackTun s l h.ep q := by
  subst tseq
  simp only [onTun, loc, if_neg next, seen, pend, Bool.not_false, Bool.and_self, if_true]

theorem onTun_ahead (loc : tunLoc s h = some l) (tseq : q = BitVec.ofNat 16 h.tseq) (next : q ≠ (s.tun l).rxSeq + 1)
    (seen : tunSeen (s.tun l) q = false) (late : Bool) (f : State → Loc → State) : onTun s h late f = s := by
  subst tseq
  simp only [onTun, loc, if_neg next, seen, Bool.false_and, Bool.false_eq_true, if_false]

end

/-! ### What a frame does at its half of the lend -/

theorem tunDataOut_halted {s : State} {p : Nat} {h : TunHdr} {e : Ep} (data : List Byte) (ep : h.ep ≠ 0)
    (entry : (s.port p).px.ep h.ep = some e) (halted : e.halted = true) : tunData s (.phys p) h data =
      grantTun (ackTun s (.phys p) h.ep (BitVec.ofNat 16 h.tseq)) (.phys p) h.ep 1 := by
  simp only [tunData, tunDataOut, if_neg ep, entry, halted, if_true]

theorem tunDataIn_held {s : State} {l : Loc} {h : TunHdr} {data : List Byte} {e : Ep} (ep : h.ep % 128 ≠ 0)
    (entry : ((ackTun s l h.ep (BitVec.ofNat 16 h.tseq)).px l).ep h.ep = some e)
    (unsealed : (sealPacket (ackTun s l h.ep (BitVec.ofNat 16 h.tseq)) l h.ep e.mps data).1 = false) :
    tunDataIn s l h data = (sealPacket (ackTun s l h.ep (BitVec.ofNat 16 h.tseq)) l h.ep e.mps data).2.modPx l
      (fun x => x.modEp h.ep (fun e => { e with held := e.held ++ [data] })) := by
  simp only [tunDataIn, if_neg ep, entry, unsealed, Bool.false_eq_true, if_false]

theorem tunSetup_ready {s : State} {p : Nat} (b : List Byte) (st : (s.port p).id.st ≠ .refilling) :
    tunSetup s (.phys p) b =
      if s.pages 3 p 0 = 0 then sendTun (noteHalt s (.phys p) b) (.phys p) 5 0 [1] else forward s (.phys p) b := if_neg st

theorem tunResume_sleeps {s : State} {p : Nat} (dpe : (s.port p).dpe = .suspended ∨ (s.port p).dpe = .sleeping) :
    tunResume s (.phys p) = hostResume s p false := by
  rcases dpe with dpe | dpe <;> simp only [tunResume, dpe]

theorem tunResult_stall (s : State) (u : Up) (v : Nat) {ep : Nat} (h : 128 < ep) : tunResult s (.virt u v) ep 1 =
    s.modPx (.virt u v) (fun x => x.modEp ep (fun e => { e with halted := true, drawn := false })) := by
  have not_port : ep ≠ 128 := by omega
  have not_zero : ep ≠ 0 := by omega
  have in_ : 128 ≤ ep := by omega
  simp only [tunResult, epResult, if_neg not_port, if_neg not_zero, if_pos in_]

theorem tunResult_suspended {s : State} {u : Up} {v : Nat} (waits : (s.vport u v).suspWait = true) :
    tunResult s (.virt u v) 128 2 =
      answer (s.modVPort u v (fun x => { x with suspWait := false, susp := true })) u .ack := if_pos waits

/-! ### Acknowledgements (R122) -/

theorem tunAck_other {s : State} {l : Loc} {h : TunHdr} {x : BitVec 16 × Nat × Nat × List Byte}
    (held : (s.tun l).held.find? (fun x => x.1 == BitVec.ofNat 16 h.tseq) = some x) (data : x.2.1 ≠ 0) (open_ : x.2.1 ≠ 0xA) :
    tunAck s l h = s.modTun l (fun t => { t with held := t.held.erase x }) := by
  unfold tunAck
  dsimp only
  rw [held]
  dsimp only
  split
  · contradiction
  · contradiction
  · rfl

theorem tunAck_data {s : State} {l : Loc} {h : TunHdr} {x : BitVec 16 × Nat × Nat × List Byte}
    (held : (s.tun l).held.find? (fun x => x.1 == BitVec.ofNat 16 h.tseq) = some x) (data : x.2.1 = 0) :
    tunAck s l h = dataAcked (s.modTun l (fun t => { t with held := t.held.erase x })) l x.2.2.1 x.2.2.2 := by
  simp only [tunAck, held, data]

theorem tunnelAck_known {s : State} {h : TunHdr} {l : Loc} (loc : tunLoc s h = some l) : tunnelAck h s = tunAck s l h := by
  simp only [tunnelAck, loc]

/-! ### Opening and closing a lend (R120, R121, R125) -/

theorem tunnelOpen_refused {s : State} {h : TunHdr} {why : Nat} (data : List Byte) (none_ : tunLoc s h = none)
    (borrower : h.toLender = false) (refusal : borrowRefusal s h.up h.vport = some why) :
    tunnelOpen h data s = refuseTun s h why := by
  simp only [tunnelOpen, none_, borrower, refusal, Bool.false_eq_true, if_false]

/-- The first OPEN reserves its virtual port. -/
theorem tunnelOpen_reserves {s : State} {h : TunHdr} (data : List Byte) (none_ : tunLoc s h = none)
    (borrower : h.toLender = false) (refusal : borrowRefusal s h.up h.vport = none) :
    tunnelOpen h data s = ackTun (s.modVPort h.up h.vport (fun x => { x with
      used := true
      tun := { node := h.src, own := s.fab.nodeId, up := h.up, vport := h.vport, rxSeq := BitVec.ofNat 16 h.tseq
               openBuf := data } })) (.virt h.up h.vport) 0 (BitVec.ofNat 16 h.tseq) := by
  simp only [tunnelOpen, none_, borrower, refusal, Bool.false_eq_true, if_false]

theorem borrowRefusal_used {s : State} {u : Up} {v : Nat} (used : (s.vport u v).used = true) : borrowRefusal s u v = some 0 :=
  if_pos (.inr (.inr (.inr used)))

theorem borrowRefusal_free {s : State} {u : Up} {v : Nat} (low : 34 ≤ v) (high : v ≤ 41)
    (pages : s.pages 5 v (ownerUpCode u) ≠ 0) (used : (s.vport u v).used = false) :
    borrowRefusal s u v = if (s.up u).link ≠ .hs then some 1 else none := by
  have room : ¬ (v < 34 ∨ 41 < v ∨ s.pages 5 v (ownerUpCode u) = 0 ∨ (s.vport u v).used = true) := by
    simp only [used, pages, Bool.false_eq_true, or_false]
    omega
  exact if_neg room

theorem tunnelClose_virt {s : State} {h : TunHdr} {u : Up} {v : Nat} (loc : tunLoc s h = some (.virt u v))
    (next : BitVec.ofNat 16 h.tseq = (s.tun (.virt u v)).rxSeq + 1) (ep : h.ep = 0) :
    tunnelClose h s = finishWait (freeVPort s u v) (((s.vport u v).drain.map (·.wait)).getD 0) (.ok []) := by
  simp only [tunnelClose, loc, ep, next, Nat.zero_mod, OfNat.zero_ne_ofNat, Bool.false_eq_true, or_self, if_true, if_false]
  rfl

/-- A lend in force is over at the lender with any CLOSE that it takes. -/
theorem lendOver_lender {s : State} {p : Nat} (drain : (s.port p).drain = none) (open_ : (s.port p).tun.openWait = 0)
    (why : Nat) : lendOver s (.phys p) why = endLend s p 5 := by
  simp only [lendOver, drain, open_, Option.map_none, reduceCtorEq, ne_eq, not_true, or_self, if_false]

theorem tunnelClose_phys {s : State} {h : TunHdr} {p : Nat} (loc : tunLoc s h = some (.phys p))
    (next : BitVec.ofNat 16 h.tseq = (s.tun (.phys p)).rxSeq + 1) (drain : (s.port p).drain = none)
    (open_ : (s.port p).tun.openWait = 0) : tunnelClose h s = endLend s p 5 := by
  have ends := lendOver_lender drain open_ (h.ep % 16)
  simp only [tunnelClose, loc, ends, if_pos next]
  split
  · rfl
  · split
    · contradiction
    · rfl

/-! ### Requests to a virtual port (R42, R57, R78, R126) -/

section
variable {s : State} {u : Up} {n : Nat}

theorem hasUsb2_virt (low : 34 ≤ n) (high : n ≤ 41) : hasPort .usb2 n = true := by
  simp only [hasPort, Bool.and_eq_true, decide_eq_true_eq]
  omega

variable (conf : configured (s.up u) .usb2 = true) (low : 34 ≤ n) (high : n ≤ 41)
include conf low high

theorem setPortSuspend_virt : setPortSuspend u n s =
    if (s.vport u n).shown then answer (sendTun ((answer s u .ack).modVPort u n (fun v =>
      { v with suspWait := true })) (.virt u n) 8 0 []) u .none else answer s u .ack := by
  have other : n ≠ 33 := by omega
  rw [setPortSuspend, onPort_of conf (hasUsb2_virt low high)]
  simp only [if_neg other, if_pos low, answer_reads]

theorem clearPortSuspend_virt : clearPortSuspend u n s =
    if (s.vport u n).shown then sendTun (answer s u .ack) (.virt u n) 9 0 [] else answer s u .ack := by
  have other : n ≠ 33 := by omega
  rw [clearPortSuspend, onPort_of conf (hasUsb2_virt low high)]
  simp only [if_neg other, if_pos low, answer_reads]

theorem clearPortEnable_virt : clearPortEnable u n s =
    if (s.vport u n).shown then viewDisable (answer s u .ack) (.virt u n) else answer s u .ack := by
  have other : n ≠ 33 := by omega
  rw [clearPortEnable, onPort_of conf (hasUsb2_virt low high)]
  simp only [if_neg other, if_pos low, answer_reads]

theorem setPortReset_hidden (shown : (s.vport u n).shown = false) :
    setPortReset u .usb2 n s = emptyReset (answer s u .ack) u n := by
  have other : n ≠ 33 := by omega
  rw [setPortReset, onPort_of conf (hasUsb2_virt low high)]
  simp only [resetUsb2, if_neg other, if_pos low, answer_reads, shown, Bool.false_and, Bool.not_false, if_true]

theorem onTt_virt (phys : State → Nat → State) (virt : State → State) (shown : (s.vport u n).shown = true) :
    onTt s u n phys virt = virt (answer s u .ack) := by
  have other : n ≠ 33 := by omega
  rw [onTt, onPort_of conf (hasUsb2_virt low high)]
  simp only [if_neg other, if_pos low, answer_reads, shown, if_true]

theorem setPortPower_virt : setPortPower u .usb2 n s =
    vportPower ((answer s u .ack).modView u n (fun v => { v with power := true })) u n := by
  have other : n ≠ 33 := by omega
  rw [setPortPower, onPort_of conf (hasUsb2_virt low high)]
  simp only [if_neg other, if_pos low]

theorem clearPortPower_virt : clearPortPower u .usb2 n s =
    syncConn ((answer s u .ack).modView u n (fun v => { v with power := false })) u n := by
  have other : n ≠ 33 := by omega
  have above : ¬ n ≤ 32 := by omega
  rw [clearPortPower, onPort_of conf (hasUsb2_virt low high)]
  simp only [if_neg other, above, decide_false, Bool.false_and, Bool.false_eq_true, if_false]

end

/-! ### Time limits of a lend (R120, R124, R127) -/

theorem lendBorrowerTimeout_lend {s : State} {p : Nat} {d : Drain} (drain : (s.port p).drain = some d) (what : d.what = 1) :
    lendBorrowerTimeout p s = takeLater (finishWait (s.modPort p (fun q => { q with
      drain := none
      id := { q.id with st := if q.id.st = .draining then d.back else q.id.st }
      tun := {} })) d.wait (.fail stTimeout (s.port p).tun.node)) (.phys p) := by
  simp only [lendBorrowerTimeout, undoLend, drain, what, OfNat.one_ne_ofNat, if_true, if_false]

theorem lendHoldExpiry_phys {s : State} {p : Nat} (owner : (s.port p).id.owner = .lent)
    (route : (s.port p).tun.route = false) : lendHoldExpiry (.phys p) s =
      if (s.port p).tun.openWait ≠ 0 then undoLend s p (.fail stTimeout (s.port p).tun.node) else endLend s p 10 := by
  simp only [lendHoldExpiry, owner, route, Bool.false_eq_true, not_false_eq_true, and_self, if_true]

/-- Settles O12: a frame by its TSEQ and its half of the lend, a request by whether the device is shown, a time limit by what
the lend waits for. -/
theorem lendsAndTunnel : Obligations.LendsAndTunnel := by
  refine ⟨fun s h total none_ => ⟨_, rfl, fun data => ends_of rfl (onTun_unknown none_ _ _),
      ends_of rfl (onTun_unknown none_ _ _), ends_of rfl (onTun_unknown none_ _ _), ends_of rfl ?_, ends_of rfl ?_,
      ends_of rfl ?_⟩,
    fun s h l q loc tseq next => ⟨_, _, rfl, rfl, fun data => ends_of rfl (onTun_next loc tseq next _ _),
      ends_of rfl (onTun_next loc tseq next _ _), fun total => ends_of rfl (onTun_next loc tseq next _ _),
      fun b => ends_of rfl (onTun_next loc tseq next _ _), fun r => ends_of rfl (onTun_next loc tseq next _ _),
      ends_of rfl (onTun_next loc tseq next _ _), ends_of rfl (onTun_next loc tseq next _ _),
      ends_of rfl (onTun_next loc tseq next _ _), ends_of rfl (onTun_next loc tseq next _ _), fun data => ends_of rfl ?_,
      ends_of rfl (onTun_next loc tseq next _ _), ends_of rfl (onTun_next loc tseq next _ _)⟩,
    fun s h l q loc tseq next seen pend => ⟨fun data => ends_of rfl (onTun_again loc tseq next seen pend _ _),
      fun r => ends_of rfl (onTun_again loc tseq next seen pend _ _),
      ends_of rfl (onTun_again loc tseq next seen pend _ _)⟩,
    fun s h l q loc tseq next seen => ⟨fun data => ends_of rfl (onTun_ahead loc tseq next seen _ _),
      fun b => ends_of rfl (onTun_ahead loc tseq next seen _ _), ends_of rfl (onTun_ahead loc tseq next seen _ _)⟩,
    fun s p h data e ep entry halted => tunDataOut_halted data ep entry halted,
    fun s u v h data e ep => ⟨_, rfl, tunDataIn_held ep⟩,
    fun s p b st => ⟨fun room => (tunSetup_ready b st).trans (if_neg room),
      fun empty => (tunSetup_ready b st).trans (if_pos empty)⟩, fun s p b st => if_pos st,
    fun s p => ⟨fun dpe held => ?_, fun dpe held => ?_, fun dpe => ?_, tunResume_sleeps⟩,
    fun s u v => ⟨fun may => if_pos may, rfl, tunResult_suspended⟩, fun s u v ep => tunResult_stall s u v,
    fun s p w wait open_ => ⟨_, rfl, ?_⟩,
    fun s h l x loc held data open_ => ends_of rfl ((tunnelAck_known loc).trans (tunAck_other held data open_)),
    fun s h l x loc held data => ends_of rfl ((tunnelAck_known loc).trans (tunAck_data held data)),
    fun s h l loc held => ends_of rfl ((tunnelAck_known loc).trans ?_),
    fun s h data none_ borrower low high pages used link => ⟨_, rfl, ends_of rfl (tunnelOpen_reserves data none_ borrower ?_)⟩,
    fun s h data none_ borrower used => ends_of rfl (tunnelOpen_refused data none_ borrower (borrowRefusal_used used)),
    fun s h data none_ borrower low high pages used link => ends_of rfl (tunnelOpen_refused data none_ borrower ?_),
    fun s h u v loc next ep => ends_of rfl (tunnelClose_virt loc next ep),
    fun s h p loc next drain open_ => ends_of rfl (tunnelClose_phys loc next drain open_),
    fun s h last l loc held asked => ends_of rfl ?_, fun s l held vport => ends_of rfl ?_, fun s l held => ends_of rfl ?_,
    fun s u v used shown whole => ⟨_, rfl, ends_of rfl ?_⟩, fun s p d drain what => ⟨_, rfl, ends_of rfl ?_⟩,
    fun s p d drain what => ends_of rfl (lendBorrowerTimeout_lend drain what),
    fun s p owner route open_ => ends_of rfl ((lendHoldExpiry_phys owner route).trans (if_neg (not_not_intro open_))),
    fun s p owner route open_ => ends_of rfl ((lendHoldExpiry_phys owner route).trans (if_pos open_)),
    fun s u v used hidden route drain => ends_of rfl ?_, fun s u v used hidden drain => ends_of rfl ?_,
    fun s u n conf low high shown => ⟨ends_of rfl ((setPortSuspend_virt conf low high).trans (if_pos shown)),
      ends_of rfl ((clearPortSuspend_virt conf low high).trans (if_pos shown)),
      ends_of rfl ((clearPortEnable_virt conf low high).trans (if_pos shown)),
      ends_of rfl (onTt_virt conf low high _ _ shown), ends_of rfl (onTt_virt conf low high _ _ shown)⟩,
    fun s u n ep conf low high shown => ends_of rfl ((onTt_virt conf low high _ _ shown).trans ?_),
    fun s u n conf low high shown => ⟨ends_of rfl ((setPortSuspend_virt conf low high).trans (if_neg (by simp [shown]))),
      ends_of rfl ((clearPortSuspend_virt conf low high).trans (if_neg (by simp [shown]))),
      ends_of rfl ((clearPortEnable_virt conf low high).trans (if_neg (by simp [shown]))),
      ends_of rfl (setPortReset_hidden conf low high shown)⟩,
    fun s u n conf low high => ⟨ends_of rfl (setPortPower_virt conf low high), ends_of rfl (clearPortPower_virt conf low high)⟩⟩
  · simp only [tunnelAck, none_]
    rfl
  · simp only [tunnelResync, none_]
    rfl
  · simp only [tunnelClose, none_]
  · rw [tunnelOpen, loc]
    exact onTun_next loc tseq next _ _
  · simp only [tunSuspend, dpe, held, if_true]
  · simp only [tunSuspend, dpe, held, Bool.false_eq_true, if_false]
  · simp only [tunSuspend, dpe]
  · subst wait
    simp only [tunOpenDone, if_neg open_]
  · simp only [tunAck, held]
  · rw [borrowRefusal_free low high pages used, if_neg (not_not_intro link)]
  · rw [borrowRefusal_free low high pages used, if_pos link]
  · simp only [tunnelResync, loc, held, asked, List.filter_nil, List.foldl_nil, if_true]
  · have some_ : (s.tun l).held.isEmpty = false := List.isEmpty_eq_false_iff.mpr held
    simp only [tunnelUnackedTimeout, sendResync, some_, if_neg vport, Bool.false_eq_true, if_false]
  · simp only [tunnelUnackedTimeout, held, List.isEmpty_nil, if_true]
  · simp only [lendPresented, used, shown, whole, Bool.false_eq_true, not_false_eq_true, and_self, if_true]
  · simp only [lendBorrowerTimeout, drain, if_pos what]
  · simp only [lendHoldExpiry, used, hidden, route, drain, Bool.false_eq_true, not_false_eq_true, and_self, and_false, if_true,
      if_false]
    rfl
  · simp only [lendHoldExpiry, used, hidden, drain, and_self, if_true]
    rfl
  · simp only [answer_reads, if_true]

end Sys2Proof.Machine
end

section
/-!
The CC layer as a source (R132–R139, R150, R184): the bands of the comparators, Rd on one wire, and each row by the state of
the CC layer. Whether a port may enter a source state is `maySource_of`'s question: a downstream port always, an upstream
while a feed is present.
-/

namespace Sys2Proof.Machine

section
variable {s : State} {n : Nat}

theorem maySource_of (h : isUp n = false ∨ mayToggle s = true) : maySource s n = true := by
  rcases h with h | h <;> simp only [maySource, h, Bool.not_false, Bool.true_or, Bool.or_true]

theorem maySource_held (up : isUp n = true) (held : mayToggle s = false) : maySource s n = false := by
  simp only [maySource, up, held, Bool.not_true, Bool.or_self]

/-! ### Bands of the CC comparators (R132) -/

theorem oneRd_cc1 {v1 v2 : Nat} (rd : srcBand (rpLevel s n) v1 = .rd) : oneRd s n v1 v2 =
    if srcBand (rpLevel s n) v2 ≠ .rd then some (false, srcBand (rpLevel s n) v2 == .ra) else none := by
  simp only [oneRd, rd, true_and, ne_eq, not_true, and_false, if_false]

theorem srcBand_of (level mv : Nat) {ra top : Nat} (hra : ra = match level with | 0 => 200 | 1 => 400 | _ => 800)
    (htop : top = if 2 ≤ level then 2600 else 1600) (order : ra < top) :
    (mv < ra → srcBand level mv = .ra) ∧ (ra ≤ mv → mv < top → srcBand level mv = .rd) ∧
      (top ≤ mv → srcBand level mv = .open_) := by
  have h : srcBand level mv = if mv < ra then .ra else if mv < top then .rd else .open_ := by
    subst hra htop
    rfl
  rw [h]
  exact ⟨fun low => if_pos low, fun low high => (if_neg (by omega)).trans (if_pos high),
    fun high => (if_neg (by omega)).trans (if_neg (by omega))⟩

/-! ### Attach, CC open and detach (R134, R138, R184) -/

theorem attachQualified_down (cc : (s.pde n).cc = .attachWaitSrc) (down : isUp n = false) (v : Bool) :
    attachQualified n v s = if (s.ppc n).cool ≠ 0 then s.modPde n (fun d => { d with cc := .attachWaitCool })
      else sourceAttached s n := by
  simp only [attachQualified, cc, maySource_of (.inl down), down, Bool.not_true, Bool.false_eq_true, if_false]

theorem attachQualified_up (cc : (s.pde n).cc = .attachWaitSrc) (up : isUp n = true) (may : mayToggle s = true) (v : Bool) :
    attachQualified n v s = if (s.pde n).set.upTry = 2 then s.modPde n (fun d => { d with cc := .trySnk })
      else sourceAttached s n := by
  simp only [attachQualified, cc, maySource_of (.inr may), up, Bool.not_true, Bool.false_eq_true, if_true, if_false]

theorem attachQualified_heldIn (cc : (s.pde n).cc = .attachWaitSrc) (up : isUp n = true) (held : mayToggle s = false)
    (v : Bool) : attachQualified n v s = holdSink s n := by
  simp only [attachQualified, cc, maySource_held up held, Bool.not_false, if_true]

theorem ccOpen_attached (cc : (s.pde n).cc = .attachedSrc) (st : (s.ppc n).st ≠ .transition) :
    ccOpen n s = s.modPde n (fun d => { d with ccOpen := true }) := by
  simp only [ccOpen, cc, ppc_modPde]

theorem ccReturn_still (open_ : (s.pde n).ccOpen = true) (st : (s.ppc n).st ≠ .frozen) :
    ccReturn n s = s.modPde n (fun d => { d with ccOpen := false }) := by
  simp only [ccReturn, open_, if_true, ppc_modPde]

theorem detachQualified_down (down : isUp n = false)
    (cc : (s.pde n).cc = .attachedSrc ∨ (s.pde n).cc = .tripped ∨ (s.pde n).cc = .powerOff) : detachQualified n s =
      pbaTrigger (clearHappening (vbusOff ((pdForget (pdEvent (pdStop s n) n 2) n).modPde n
        (fun d => { d with cc := .unattachedSrc })) n) n) 0 := by
  rcases cc with cc | cc | cc <;> simp only [detachQualified, cc, down, Bool.false_eq_true, if_false]

end

/-- Settles O13: each row by the state of the CC layer, and whether the port may enter a source state. -/
theorem connectionAsSource : Obligations.ConnectionAsSource := by
  refine ⟨fun s n v1 v2 cc2 ra cc may rd => ends_of rfl ?_, fun s n v1 v2 none_ => ends_of rfl ?_,
    fun s n v1 v2 rd => ⟨fun other => (oneRd_cc1 rd).trans (if_pos other),
      fun other => (oneRd_cc1 rd).trans (if_neg (not_not_intro other))⟩, fun mv => ?_,
    fun s n v1 v2 up held cc rd => ends_of rfl ?_,
    fun s n v down cc cool => ends_of rfl ((attachQualified_down cc down v).trans (if_neg (not_not_intro cool))),
    fun s n v down cc cool => ends_of rfl ((attachQualified_down cc down v).trans (if_pos cool)),
    fun s n v up may cc try_ => ends_of rfl ((attachQualified_up cc up may v).trans (if_pos try_)),
    fun s n v up may cc try_ => ends_of rfl ((attachQualified_up cc up may v).trans (if_neg try_)),
    fun s n v up held cc => ends_of rfl (attachQualified_heldIn cc up held v), fun s n cc => ends_of rfl ?_,
    fun s n cc st => ends_of rfl (ccOpen_attached cc st), fun s n cc st => ⟨_, rfl, ends_of rfl ?_⟩,
    fun s n open_ st => ends_of rfl (ccReturn_still open_ st), fun s n down cc => ends_of rfl (detachQualified_down down cc),
    fun s n up cc swap => ends_of rfl ?_, fun s n cc told => ends_of rfl ?_, fun s n cc told => ends_of rfl ?_,
    fun s n cc => ends_of rfl ?_, fun s n vconn => ends_of rfl (if_pos vconn), fun s n vconn => ends_of rfl ?_⟩
  · simp only [rdSeen, rd, cc, maySource_of may, if_true]
  · simp only [rdSeen, none_]
  · obtain ⟨a, b, c⟩ := srcBand_of 0 mv rfl rfl (by decide)
    obtain ⟨d, e, f⟩ := srcBand_of 1 mv rfl rfl (by decide)
    obtain ⟨g, h, i⟩ := srcBand_of 2 mv rfl rfl (by decide)
    exact ⟨a, b, c, d, e, f, g, h, i⟩
  · obtain ⟨⟨cc2, ra⟩, hrd⟩ := Option.ne_none_iff_exists'.mp rd
    simp only [rdSeen, hrd, cc, maySource_held up held, Bool.false_eq_true, if_false]
    rfl
  · simp only [rdLost, cc]
  · simp only [ccOpen, cc, ppc_modPde, st]
  · simp only [detachQualified, cc, up, swap, Option.isSome_none, Bool.false_eq_true, if_true, if_false]
  · simp only [accessoryIgnored, cc, told, Bool.false_eq_true, if_false]
  · simp only [accessoryIgnored, cc, told, if_true]
  · simp only [errorRecoveryEnd, cc]
  · simp only [vconnOvercurrent, vconn, Bool.false_eq_true, if_false]

end Sys2Proof.Machine
end

section
/-!
The CC layer of the upstreams (R132, R138, R139, R159, R424): the bands that a sink's wires show, and each row by the state of
the CC layer.
-/

namespace Sys2Proof.Machine

section
variable {s : State} {u : Up}

theorem rpSeen_keeps {v1 v2 band : Nat} {cc2 : Bool} (rp : rpOn v1 v2 = some (cc2, band))
    (cc : (s.pde (portOfUp u)).cc = .attachedSnk ∨ (s.pde (portOfUp u)).cc = .attachWaitSnk) :
    rpSeen u v1 v2 s = s.modPde (portOfUp u) (fun d => { d with srcRp := band }) := by
  rcases cc with cc | cc <;> simp only [rpSeen, rp, cc]

theorem rpSeen_try {v1 v2 band : Nat} {cc2 : Bool} (rp : rpOn v1 v2 = some (cc2, band))
    (cc : (s.pde (portOfUp u)).cc = .tryWaitSnk ∨ (s.pde (portOfUp u)).cc = .trySnk) :
    rpSeen u v1 v2 s = s.modPde (portOfUp u) (fun d => { d with cc2 := cc2, srcRp := band, ra := false }) := by
  rcases cc with cc | cc <;> simp only [rpSeen, rp, cc]

theorem attachQualified_sink {n : Nat} (cc : (s.pde n).cc = .attachWaitSnk) (try_ : (s.pde n).set.upTry ≠ 1) (v : Bool) :
    attachQualified n v s = if v then attachSink s n else s := by
  have no : ¬ ((s.pde n).set.upTry = 1 ∧ mayToggle s = true) := fun h => try_ h.1
  simp only [attachQualified, cc, if_neg no]

/-- A debounced Try state of the source attaches where the upstream may source. -/
theorem tryDebounce_source (cc : (s.pde (portOfUp u)).cc = .trySrc ∨ (s.pde (portOfUp u)).cc = .tryWaitSrc) (v : Bool) :
    tryDebounce u v s = if maySource s (portOfUp u) then sourceAttached s (portOfUp u) else holdSink s (portOfUp u) := by
  rcases cc with cc | cc <;> simp only [tryDebounce, cc]

theorem tryTimeout_ends (cc : (s.pde (portOfUp u)).cc = .tryWaitSnk ∨ (s.pde (portOfUp u)).cc = .tryWaitSrc) :
    tryTimeout u s = s.modPde (portOfUp u) (fun d => { d with cc := .unattachedSnk }) := by
  rcases cc with cc | cc <;> simp only [tryTimeout, cc]

theorem vbusLost_of (cc : (s.pde (portOfUp u)).cc = .attachedSnk) : vbusBelowVsinkdisconnect u s =
    if (s.pde (portOfUp u)).swap.isSome ∨ (s.pde (portOfUp u)).pe = .hardReset then s
    else pbaTrigger (((pdForget (pdStop s (portOfUp u)) (portOfUp u)).modPde (portOfUp u)
      (fun d => { d with cc := .unattachedSnk })).modPpc (portOfUp u) (fun q => { q with gsnk := false })) 0 := by
  simp only [vbusBelowVsinkdisconnect, cc]

theorem deadBatteryAttach_awake {v1 v2 band : Nat} {cc2 : Bool} (awake : s.sys.pstate ≠ .hibernate)
    (cc : (s.pde (portOfUp u)).cc = .deadBattery) (rp : rpOn v1 v2 = some (cc2, band)) : deadBatteryAttach u v1 v2 s =
      attachSink ((pdForget s (portOfUp u)).modPde (portOfUp u) (fun d => { d with cc2 := cc2, srcRp := band }))
        (portOfUp u) := by
  unfold deadBatteryAttach
  dsimp only
  rw [cc, rp]
  cases h : s.sys.pstate with
  | hibernate => contradiction
  | _ => rfl

theorem snkBand_of (mv : Nat) : (mv < 200 → snkBand mv = none) ∧ (200 ≤ mv → mv < 660 → snkBand mv = some 0) ∧
    (660 ≤ mv → mv < 1230 → snkBand mv = some 1) ∧ (1230 ≤ mv → snkBand mv = some 2) := by
  unfold snkBand
  refine ⟨fun h => if_pos h, fun low high => ?_, fun low high => ?_, fun low => ?_⟩
  · rw [if_neg (by omega), if_pos high]
  · rw [if_neg (by omega), if_neg (by omega), if_pos high]
  · rw [if_neg (by omega), if_neg (by omega), if_neg (by omega)]

end

/-- Settles O14: each row by the state of the upstream's CC layer. -/
theorem connectionOfUpstreams : Obligations.ConnectionOfUpstreams := by
  refine ⟨fun s u cc may => ends_of rfl ?_, fun s u cc held => ends_of rfl ?_, fun s u cc => ends_of rfl ?_, snkBand_of,
    fun v1 v2 b => ⟨fun one => ?_, fun one two => ?_⟩, fun s u v1 v2 one two => ends_of rfl ?_,
    fun s u v1 v2 cc2 band rp => ⟨fun cc => ends_of rfl ?_, fun cc => ends_of rfl (rpSeen_keeps rp cc),
      fun cc => ends_of rfl (rpSeen_try rp cc)⟩,
    fun s n cc try_ => ⟨ends_of rfl ?_, ends_of rfl ?_⟩, fun s n v cc try_ may => ends_of rfl ?_,
    fun s n cc => ends_of rfl ?_, fun s n => rfl,
    fun s u v cc may => ends_of rfl ((tryDebounce_source cc v).trans (if_pos (maySource_of (.inr may)))),
    fun s u v cc held => ends_of rfl ((tryDebounce_source cc v).trans (if_neg ?_)), fun s u cc => ends_of rfl ?_,
    fun s u cc => ends_of rfl ?_, fun s u cc => ends_of rfl (tryTimeout_ends cc), fun s u cc may => ends_of rfl ?_,
    fun s u cc swap pe => ends_of rfl ((vbusLost_of cc).trans (if_neg ?_)),
    fun s u cc h => ends_of rfl ((vbusLost_of cc).trans (if_pos (h.imp_left Option.isSome_iff_ne_none.mpr))),
    fun s u v1 v2 cc2 band awake cc rp => ends_of rfl (deadBatteryAttach_awake awake cc rp),
    fun s u v1 v2 asleep => ends_of rfl ?_⟩
  · simp only [drpToggle, cc, may, if_true]
  · simp only [drpToggle, cc, held, Bool.false_eq_true, if_false]
  · simp only [drpToggle, cc]
  · simp only [rpOn, one]
  · simp only [rpOn, one, two, Option.map_some]
  · simp only [rpSeen, rpOn, one, two, Option.map_none]
  · simp only [rpSeen, rp, cc]
  · exact (attachQualified_sink cc try_ true).trans (if_pos rfl)
  · exact (attachQualified_sink cc try_ false).trans (if_neg Bool.false_ne_true)
  · simp only [attachQualified, cc, try_, may, and_self, if_true]
  · simp only [attachQualified, cc, if_true]
  · rw [maySource_held (by cases u <;> rfl) held]
    exact Bool.false_ne_true
  · simp only [tryDebounce, cc, if_true]
  · simp only [tryTimeout, cc]
  · simp only [tryTimeout, cc, maySource_of (.inr may), if_true]
  · simp only [swap, pe, Option.isSome_none, Bool.false_eq_true, or_self, not_false_eq_true]
  · simp only [deadBatteryAttach, asleep]

end Sys2Proof.Machine
end

section
/-!
PD messages on the line (R140–R142, R148): GoodCRC and retries, chunks, a message received again, and the reading of the
cable. What a message heard does is `hears_receive`'s function; one received again is only acknowledged (`pdReceive_again`).
-/

namespace Sys2Proof.Machine

/-! ### Messages sent (R141) -/

section
variable {s : State} {n : Nat} {m : PdMsg}

/-- The GoodCRC of a message to the partner, and the next message goes. -/
theorem goodcrc_partner (tx : (s.pde n).tx = some m) (other : m ≠ .discoverIdentity) : goodcrc n (s.pde n).txId false s =
    sendNext (sentOk (s.modPde n (fun d => { d with tx := none, retries := 0, txId := (d.txId + 1) % 8 })) n m) n := by
  have prime : (m == PdMsg.discoverIdentity) = false := beq_false_of_ne other
  simp only [goodcrc, tx, prime, ne_eq, not_true, Bool.false_eq_true, or_self, if_false]

theorem goodcrc_wrong {id : Nat} (tx : (s.pde n).tx = some m) (other : m ≠ .discoverIdentity) (id_ : id ≠ (s.pde n).txId) :
    goodcrc n id false s = s := by
  have prime : (m == PdMsg.discoverIdentity) = false := beq_false_of_ne other
  simp only [goodcrc, tx, prime, Bool.false_eq_true, if_false, if_pos (Or.inr id_)]

theorem crcReceiveTimerExpiry_of (tx : (s.pde n).tx = some m) : crcReceiveTimerExpiry n s =
    if (s.pde n).retries < nRetry (s.pde n) then s.modPde n (fun d => { d with retries := d.retries + 1 })
    else sendNext (txFailed (s.modPde n (fun d => { d with tx := none, retries := 0 })) n m) n := by
  simp only [crcReceiveTimerExpiry, tx]

theorem nRetry_of (d : Pde) : (d.rev = some 2 → nRetry d = 2) ∧ (∀ r, r < 2 → d.rev = some r → nRetry d = 3) :=
  ⟨fun rev => if_pos (by rw [rev, Option.getD_some]),
   fun r lt rev => if_neg (by rw [rev, Option.getD_some]; omega)⟩

/-- SinkTxNG has stood long enough. -/
theorem sinktxWaitEnd_of (run : runs s n .sinkTx = true) : sinktxWaitEnd n s =
    if ((stopTimer s n .sinkTx).pde n).amsIdle then runOwn (stopTimer s n .sinkTx) n else stopTimer s n .sinkTx := if_pos run

end

/-! ### Messages received (R141) -/

theorem pdReceive_again {s : State} {h : PdHdr} (port : h.port ≠ 0) (live : (s.pde h.port).live = true)
    (seen : (s.pde h.port).rxId = some h.id) (f : State → State) :
    pdReceive s h false f = s.modPde h.port (fun d => { d with goodCrc := some h.id }) := by
  simp only [pdReceive, port, live, seen, Bool.not_true, Bool.not_false, Bool.false_eq_true, or_self, and_self, if_true,
    if_false]

theorem unsupportedMessage_first {s : State} {h : PdHdr} (hears : Hears s h) (size : Nat) :
    unsupportedMessage h (some (0, size)) s =
      if 26 < size then send ((stopTimer (heard s h) h.port .chunkSenderRequest).modPde h.port
        (fun d => { d with rxChunk := some 1 })) h.port (.chunkRequest 1)
      else unsupported ((stopTimer (heard s h) h.port .chunkSenderRequest).modPde h.port
        (fun d => { d with rxChunk := none })) h.port := by
  have due : chunkDue (heard s h) h.port 0 = true := rfl
  rw [unsupportedMessage, hears_receive hears]
  simp only [due, Bool.not_true, Bool.false_eq_true, if_false, Nat.zero_add, Nat.mul_one]

theorem unsupportedMessage_stray {s : State} {h : PdHdr} (hears : Hears s h) {k : Nat} (later : k ≠ 0)
    (stopped : runs (heard s h) h.port .chunkSenderRequest = false) (size : Nat) :
    unsupportedMessage h (some (k, size)) s = heard s h := by
  have due : chunkDue (heard s h) h.port k = false := by
    simp only [chunkDue, stopped, beq_false_of_ne later, Bool.false_and, Bool.or_self]
  rw [unsupportedMessage, hears_receive hears]
  simp only [due, Bool.not_false, if_true]

/-! ### The cable (R148) -/

section
variable {s : State} {n : Nat}

theorem discTry_of (vconn : (s.pde n).vconn = true) (cable : (s.pde n).cable = none) (left : (s.pde n).discN < 20) :
    ((s.pde n).pe = .startup → discTry s n = discSend s n) ∧ ((s.pde n).pe = .ready → discTry s n = discDue s n) := by
  have goes : ¬ ((!(s.pde n).vconn) = true ∨ (s.pde n).cable.isSome = true ∨ 20 ≤ (s.pde n).discN) := by
    simp only [vconn, cable, Bool.not_true, Option.isSome_none, Bool.false_eq_true, false_or]
    omega
  exact ⟨fun pe => by simp only [discTry, if_neg goes, pe], fun pe => by simp only [discTry, if_neg goes, pe]⟩

theorem discTry_over (h : 20 ≤ (s.pde n).discN) : discTry s n = stopTimer s n .discoverIdentity := if_pos (.inr (.inr h))

theorem discoverIdentityRetry_of (run : runs s n .discoverIdentity = true) : discoverIdentityRetry n s =
    if (s.pde n).pe = .startup ∧ (2 ≤ (s.pde n).discN ∨ !(s.pde n).vconn) then sendCaps s n else discTry s n := if_pos run

theorem discoverIdentityRetry_ready (run : runs s n .discoverIdentity = true) (pe : (s.pde n).pe = .ready) :
    discoverIdentityRetry n s = discTry s n := by
  rw [discoverIdentityRetry_of run, pe]
  exact if_neg (by simp)

/-- A cable's answer is acknowledged, and taken when it is the first one asked for. -/
theorem cableIdentity_of (vconn : (s.pde n).vconn = true) (id rev : Nat) (a5 : Bool) (mv : Nat) (epr : Bool) :
    cableIdentity n id rev a5 mv epr s =
      if (s.pde n).rxIdP ≠ some id ∧ (s.pde n).cable.isNone ∧ 0 < (s.pde n).discN then
        cableRead (s.modPde n (fun d => { d with goodCrc := some id, rxIdP := some id })) n rev
          { amps5 := a5, maxMv := mv, epr := epr && decide (50000 ≤ mv), rev := rev }
      else s.modPde n (fun d => { d with goodCrc := some id, rxIdP := some id }) := if_pos vconn

end

/-- Settles O15: a message sent by its GoodCRC, one received by whether it was heard before, the cable by its attempts. -/
theorem messagesAndTheCable : Obligations.MessagesAndTheCable := by
  refine ⟨fun s n m tx other => ⟨_, rfl, ends_of rfl (goodcrc_partner tx other)⟩, fun s n tx => ends_of rfl ?_,
    fun s n m id tx other id_ => ends_of rfl (goodcrc_wrong tx other id_),
    fun s n m tx left => ends_of rfl ((crcReceiveTimerExpiry_of tx).trans (if_pos left)),
    fun s n m tx left => ends_of rfl ((crcReceiveTimerExpiry_of tx).trans (if_neg (Nat.not_lt.mpr left))), nRetry_of,
    fun s h t hears ht run => ⟨_, _, rfl, rfl, ends_of rfl ?_⟩, fun s n run => ends_of rfl ?_,
    fun s n run pe => ends_of rfl ?_, fun s h t size t1 hears ht big ht1 => ends_of rfl ?_,
    fun s h t size hears ht small => ends_of rfl ?_, fun s h t k size hears ht later stopped => ends_of rfl ?_,
    fun s n run idle => ends_of rfl ((sinktxWaitEnd_of run).trans (if_pos idle)),
    fun s n run idle => ends_of rfl ((sinktxWaitEnd_of run).trans (if_neg (by simp [idle]))),
    fun s h port live seen => ⟨_, rfl, fun rdo => ends_of rfl ?_, ends_of rfl ?_,
      ends_of rfl (pdReceive_again port live seen _), ends_of rfl ?_, ends_of rfl ?_, ends_of rfl ?_,
      ends_of rfl (pdReceive_again port live seen _)⟩,
    fun s n s1 run hs1 vconn cable left pe => ends_of rfl ?_,
    fun s n run vconn cable pe left => ends_of rfl ?_, fun s n run vconn cable pe over_ => ends_of rfl ?_,
    fun s n run pe over_ => ends_of rfl ((discoverIdentityRetry_ready run pe).trans (discTry_over over_)),
    fun s n s1 run pe vconn cable left hs1 ng => ends_of rfl ?_,
    fun s n id rev a5 mv epr s1 vconn cable tried fresh hs1 => ends_of rfl ?_,
    fun s n id rev a5 mv epr vconn seen => ends_of rfl ((cableIdentity_of vconn id rev a5 mv epr).trans
      (if_neg fun h => h.1 seen)), fun s n id rev a5 mv epr vconn => ends_of rfl ?_⟩
  · have prime : (PdMsg.discoverIdentity == PdMsg.discoverIdentity) = true := beq_self_eq_true _
    simp only [goodcrc, tx, prime, ne_eq, not_true, or_self, if_true, if_false]
    rfl
  · subst ht
    rw [chunkRequest, hears_receive hears]
    simp only [run, and_self, if_true]
  · simp only [chunkTimeout, run, Bool.false_eq_true, if_true, if_false]
  · simp only [chunkTimeout, run, pe, if_true]
  · subst ht ht1
    exact (unsupportedMessage_first hears size).trans (if_pos big)
  · subst ht
    exact (unsupportedMessage_first hears size).trans (if_neg (by omega))
  · subst ht
    exact unsupportedMessage_stray hears later stopped size
  · rw [request, pdReceive_again port live seen]
  · rw [getSourceCap, pdReceive_again port live seen]
  · rw [accept, pdReceive_again port live seen]
  · rw [psRdy, pdReceive_again port live seen]
  · rw [prSwap, pdReceive_again port live seen]
  · subst hs1
    exact (if_pos run).trans ((discTry_of vconn cable left).1 pe)
  · have early : ¬ ((s.pde n).pe = .startup ∧ (2 ≤ (s.pde n).discN ∨ (!(s.pde n).vconn) = true)) := by
      simp only [vconn, Bool.not_true, Bool.false_eq_true, or_false]
      omega
    rw [discoverIdentityRetry_of run, if_neg early, (discTry_of vconn cable (by omega)).1 pe, discSend]
  · exact (discoverIdentityRetry_of run).trans (if_pos ⟨pe, .inl over_⟩)
  · subst hs1
    rw [discoverIdentityRetry_ready run pe, (discTry_of vconn cable left).2 pe]
    simp only [discDue, ng, Bool.false_eq_true, false_and, if_false]
  · subst hs1
    exact (cableIdentity_of vconn id rev a5 mv epr).trans (if_pos ⟨fresh, by rw [cable]; rfl, tried⟩)
  · exact if_neg (by simp [vconn])

end Sys2Proof.Machine
end

section
/-!
Requests, EPR and capabilities as a source hears them (R144, R145, R149, R152, R153): each message by the role of the port and
the state of its policy engine (`request_source` and its neighbours).
-/

namespace Sys2Proof.Machine

section
variable {s : State} {h : PdHdr} (hears : Hears s h)
include hears

theorem request_source (cc : ((heard s h).pde h.port).cc = .attachedSrc)
    (pe : ((heard s h).pde h.port).pe = .ready ∨ ((heard s h).pde h.port).pe = .sendCaps) (rdo : Nat) : request h rdo s =
      if ((heard s h).pde h.port).epr then sendHardReset (heard s h) h.port
      else evalRequest (heard s h) h.port rdo none h.rev := by
  rw [request, hears_receive hears, asSource, if_pos cc]
  rcases pe with pe | pe <;> simp only [pe]

theorem request_sink (cc : ((heard s h).pde h.port).cc ≠ .attachedSrc) (rdo : Nat) :
    request h rdo s = protocolError (heard s h) h.port := by
  rw [request, hears_receive hears, asSource, if_neg cc]

theorem eprRequest_epr (epr : ((heard s h).pde h.port).epr = true)
    (pe : ((heard s h).pde h.port).pe = .ready ∨ ((heard s h).pde h.port).pe = .sendCaps) (rdo pdo : Nat) :
    eprRequest h rdo pdo s = evalRequest (heard s h) h.port rdo (some pdo) h.rev := by
  rw [eprRequest, hears_receive hears, if_pos epr]
  rcases pe with pe | pe <;> simp only [pe]

theorem eprModeEnter_of : eprModeEnter h s =
    if ((heard s h).pde h.port).cc = .attachedSrc ∧ ((heard s h).pde h.port).rev.getD 2 = 2 then
      (if enterReason (heard s h) h.port = 0 then
        send ((heard s h).modPde h.port (fun d => { d with pe := .eprEntry })) h.port (.eprMode 2 0)
      else send (pdEvent (heard s h) h.port 5 (enterReason (heard s h) h.port)) h.port
        (.eprMode 4 (enterReason (heard s h) h.port)))
    else unsupported (heard s h) h.port := by
  rw [eprModeEnter, hears_receive hears]

/-- EPR ends with the contract in force at 20 V or less; above it, with a Hard Reset. -/
theorem eprModeExit_of {c : Contract} (epr : ((heard s h).pde h.port).epr = true)
    (contract : ((heard s h).pde h.port).contract = some c) : eprModeExit h s =
      if 20000 < c.mv then sendHardReset (heard s h) h.port
      else sendCaps (pdEvent (stopTimer ((heard s h).modPde h.port (fun d => { d with epr := false })) h.port .eprKeepAlive)
        h.port 0xC) h.port := by
  rw [eprModeExit, hears_receive hears]
  simp only [epr, contract, if_true]

theorem getSourceCap_offers (cc : ((heard s h).pde h.port).cc = .attachedSrc)
    (pe : (((heard s h).pde h.port).pe = .ready ∧ ((heard s h).pde h.port).epr = false) ∨
      ((heard s h).pde h.port).pe = .waitNewCaps) : getSourceCap h s = sendCaps (heard s h) h.port := by
  rw [getSourceCap, hears_receive hears, asSource, if_pos cc]
  rcases pe with ⟨pe, epr⟩ | pe
  · simp only [pe, epr, Bool.false_eq_true, if_false]
  · simp only [pe]

theorem getSourceCap_epr (cc : ((heard s h).pde h.port).cc = .attachedSrc) (pe : ((heard s h).pde h.port).pe = .ready)
    (epr : ((heard s h).pde h.port).epr = true) : getSourceCap h s =
      send (heard s h) h.port (.sourceCaps false (sprCaps (heard s h) h.port (((heard s h).pde h.port).rev.getD 2))) := by
  rw [getSourceCap, hears_receive hears, asSource, if_pos cc]
  simp only [pe, epr, if_true]

/-- An upstream sink answers with what it could source while a feed is present. -/
theorem getSourceCap_sink (cc : ((heard s h).pde h.port).cc ≠ .attachedSrc) : getSourceCap h s =
    if feedPresent (heard s h) then
      send (heard s h) h.port (.sourceCaps false (sprCaps (heard s h) h.port (((heard s h).pde h.port).rev.getD 2)))
    else unsupported (heard s h) h.port := by
  rw [getSourceCap, hears_receive hears, asSource, if_neg cc]

theorem eprKeepalive_of : eprKeepalive h s =
    if isUp h.port then unsupported (heard s h) h.port else extended (heard s h) h.port .eprKeepAliveAck := by
  rw [eprKeepalive, hears_receive hears]

end

/-- A request that is acceptable: the contract is taken and accepted. -/
theorem evalRequest_accepts {s : State} {n rdo : Nat} {copy : Option Nat} {c : Contract} (rev : Nat)
    (known : (s.pde n).rev.isSome = true) (mismatch : bit rdo 26 = false) (ok : judge (s.pde n) rdo copy = some c) :
    evalRequest s n rdo copy rev = send (pbaTrigger ((((stopTimer s n .senderResponse).modPde n (fun d => { d with
        mismatch := false
        lastReq := (rdo, if rdo / 2 ^ 28 % 16 = 0 then 0 else (s.pde n).caps.getD (rdo / 2 ^ 28 % 16 - 1) 0) })).modPb n
          (fun b => { b with mism := false })).modPde n (fun d =>
        { d with pe := .transition, contract := some c, pend := some c })) 0) n .accept := by
  have first : (s.pde n).rev.isNone = false := by rw [← Option.not_isSome, known]; rfl
  simp only [evalRequest, first, mismatch, ok, Bool.false_eq_true, false_and, if_false]

theorem judge_position0 (d : Pde) (rdo : Nat) (copy : Option Nat) (pos : rdo / 2 ^ 28 % 16 = 0) : judge d rdo copy = none := by
  simp only [judge, pos, if_true]

theorem unsupported_of (s : State) (n : Nat) : ((s.pde n).rev.getD 2 = 2 → unsupported s n = send s n .notSupported) ∧
    ((s.pde n).rev.getD 2 ≠ 2 → unsupported s n = send s n .reject) :=
  ⟨fun rev => by rw [unsupported, if_pos rev], fun rev => by rw [unsupported, if_neg rev]⟩

/-- Settles O16: each message by the role of the port and the state of its policy engine. -/
theorem powerNegotiation : Obligations.PowerNegotiation := by
  refine ⟨fun s h t rdo hears ht cc epr pe => ?_, fun s h t rdo hears ht cc epr pe => ?_,
    fun s h t rdo hears ht cc => ?_, fun s h t rdo pdo hears ht epr pe => ?_, fun s h t rdo pdo hears ht epr => ?_,
    fun s n rdo copy rev c s1 known mis ok hs1 => ?_, judge_position0, fun s h t pdp hears ht cc rev reason => ?_,
    fun s h t pdp hears ht cc rev reason => ?_, fun s h t pdp hears ht no => ?_,
    fun s h t c hears ht epr contract high => ?_, fun s h t c hears ht epr contract low => ?_,
    fun s h t hears ht epr => ?_, fun s h t hears ht cc pe => ?_, fun s h t hears ht cc pe epr => ?_,
    fun s h t hears ht cc feed => ?_, fun s h t hears ht cc feed => ?_, fun s h t hears ht epr pe => ?_,
    fun s h t hears ht epr => ?_, fun s h t hears ht down rev => ?_, fun s h t hears ht no => ?_, unsupported_of⟩
  case refine_6 =>
    subst hs1
    exact evalRequest_accepts rev known mis ok
  all_goals
    subst ht
    refine ends_of rfl ?_
  · exact (request_source hears cc pe rdo).trans (if_neg (by simp [epr]))
  · exact (request_source hears cc pe rdo).trans (if_pos epr)
  · exact request_sink hears cc rdo
  · exact eprRequest_epr hears epr pe rdo pdo
  · rw [eprRequest, hears_receive hears]
    exact if_neg (by simp [epr])
  · exact (eprModeEnter_of hears).trans ((if_pos ⟨cc, rev⟩).trans (if_pos reason))
  · exact (eprModeEnter_of hears).trans ((if_pos ⟨cc, rev⟩).trans (if_neg reason))
  · exact (eprModeEnter_of hears).trans (if_neg fun ⟨cc, rev⟩ => no.elim (· cc) (· rev))
  · exact (eprModeExit_of hears epr contract).trans (if_pos high)
  · exact (eprModeExit_of hears epr contract).trans (if_neg (Nat.not_lt.mpr low))
  · rw [eprModeExit, hears_receive hears]
    exact if_neg (by simp [epr])
  · exact getSourceCap_offers hears cc pe
  · exact getSourceCap_epr hears cc pe epr
  · exact (getSourceCap_sink hears cc).trans (if_pos feed)
  · exact (getSourceCap_sink hears cc).trans (if_neg (by simp [feed]))
  · rw [eprGetSourceCap, hears_receive hears]
    simp only [epr, pe, if_true]
  · rw [eprGetSourceCap, hears_receive hears]
    exact if_neg (by simp [epr])
  · exact (eprKeepalive_of hears).trans ((if_neg (by simp [down])).trans (if_pos rev))
  · rw [eprKeepalive_of hears]
    rcases no with up | rev
    · exact if_pos up
    · simp only [extended, if_neg rev, ite_self]

end Sys2Proof.Machine
end

section
/-!
Queries, refusals and messages without a rule (R1–R3, R136, R144, R145, R147, R163). A query is answered to a partner of
Revision 3.x, and refused to one of a lower revision (`extended_of`).
-/

namespace Sys2Proof.Machine

/-- An extended message answers a partner of Revision 3.x only. -/
theorem extended_of (s : State) (n : Nat) (m : PdMsg) :
    ((s.pde n).rev.getD 2 = 2 → extended s n m = send s n m) ∧
    ((s.pde n).rev.getD 2 ≠ 2 → extended s n m = send s n .reject) :=
  ⟨fun rev => if_pos rev, fun rev => (if_neg rev).trans ((unsupported_of s n).2 rev)⟩

section
variable {s : State} {h : PdHdr} (hears : Hears s h)
include hears

theorem getSinkCap_of : getSinkCap h s =
    if isUp h.port then send (heard s h) h.port (.sinkCaps (sinkCapsOf ((heard s h).pde h.port)))
    else unsupported (heard s h) h.port := by
  rw [getSinkCap, hears_receive hears]

theorem getStatus_of : getStatus h s =
    if ((heard s h).pde h.port).rev.getD 2 = 2 then
      send ((heard s h).modPde h.port (fun d => { d with ocp := false, otp := false })) h.port
        (.status (statusBytes (heard s h) h.port))
    else unsupported (heard s h) h.port := by
  rw [getStatus, hears_receive hears]

/-- PPS status is answered by a source in a PPS contract, and refused by every other port. -/
theorem getPpsStatus_contract {c : Contract} (contract : ((heard s h).pde h.port).contract = some c) : getPpsStatus h s =
    if c.kind = 1 ∧ ((heard s h).pde h.port).cc = .attachedSrc then
      extended (heard s h) h.port (.ppsStatus (leBytes 2 (((heard s h).ppc h.port).meter.vbus / 20) ++
        leBytes 1 (((heard s h).ppc h.port).meter.ibus.toNat / 50) ++ [0]))
    else unsupported (heard s h) h.port := by
  rw [getPpsStatus, hears_receive hears]
  simp only [contract]

theorem getPpsStatus_none (contract : ((heard s h).pde h.port).contract = none) :
    getPpsStatus h s = unsupported (heard s h) h.port := by
  rw [getPpsStatus, hears_receive hears]
  simp only [contract]

theorem getPpsStatus_refused (rev : ((heard s h).pde h.port).rev.getD 2 ≠ 2) :
    getPpsStatus h s = send (heard s h) h.port .reject := by
  have no := (unsupported_of (heard s h) h.port).2 rev
  cases contract : ((heard s h).pde h.port).contract with
  | none => rw [getPpsStatus_none hears contract, no]
  | some c => rw [getPpsStatus_contract hears contract, (extended_of _ _ _).2 rev, no, ite_self]

theorem getSourceInfo_of : getSourceInfo h s = asSource (heard s h) h.port
    (fun s => extended s h.port (.sourceInfo (at_ 16 (min ((s.pde h.port).set.vmax * (s.pde h.port).set.imax / 10) 240) +
      at_ 8 (min ((s.pb h.port).alloc / 10) 240) + min ((s.pb h.port).alloc / 10) 240)))
    (fun s => unsupported s h.port) := by
  rw [getSourceInfo, hears_receive hears]

theorem getSourceCapExtended_of : getSourceCapExtended h s = asSource (heard s h) h.port
    (fun s => extended s h.port (.sourceCapsExt (sourceCapsExt s h.port))) (fun s => unsupported s h.port) := by
  rw [getSourceCapExtended, hears_receive hears]

theorem bist_none {m : Nat} (mode : m = 5 ∨ m = 8) (contract : ((heard s h).pde h.port).contract = none) :
    bist h m s = (heard s h).modPde h.port (fun d => { d with bist := m }) := by
  rw [bist, hears_receive hears]
  simp only [contract, mode, and_self, if_true]

theorem bist_contract {m : Nat} {c : Contract} (mode : m = 5 ∨ m = 8)
    (contract : ((heard s h).pde h.port).contract = some c) : bist h m s =
      if c.mv = 5000 then (heard s h).modPde h.port (fun d => { d with bist := m }) else heard s h := by
  rw [bist, hears_receive hears]
  simp only [contract, mode, and_true, beq_iff_eq]

end

/-- An extended message, or its refusal where the port does not source, to a partner of a lower revision. -/
theorem asSource_refused {s : State} {n : Nat} (rev : (s.pde n).rev.getD 2 ≠ 2) (m : State → PdMsg) :
    asSource s n (fun s => extended s n (m s)) (fun s => unsupported s n) = send s n .reject := by
  rw [asSource, (extended_of s n (m s)).2 rev, (unsupported_of s n).2 rev, ite_self]

theorem asSource_extended {s : State} {n : Nat} (cc : (s.pde n).cc = .attachedSrc) (rev : (s.pde n).rev.getD 2 = 2)
    (m : State → PdMsg) : asSource s n (fun s => extended s n (m s)) (fun s => unsupported s n) = send s n (m s) := by
  rw [asSource, if_pos cc, (extended_of s n (m s)).1 rev]

/-- Settles O17: a query by the partner's revision and the port's role, every other message by its own rule. -/
theorem messagesOfEveryPort : Obligations.MessagesOfEveryPort := by
  refine ⟨fun s h t hears ht up => ?_, fun s h t hears ht down => ?_, fun s h t hears ht cc rev => ?_,
    fun s h t hears ht rev => ?_, fun s h t c hears ht cc rev contract kind => ?_, fun s h t hears ht no => ?_,
    fun s h t p hears ht cc rev hp => ?_, fun s h t hears ht rev => ?_, fun s h t hears ht rev => ?_,
    fun s h t hears ht => ?_, fun s h t hears ht rev => ?_, fun s h t hears ht rev => ?_, fun s h t hears ht => ?_,
    fun s h t m hears ht mode => ?_, fun s h t ado hears ht => ?_, fun s h t hears ht run => ?_,
    fun s h t t1 hears ht ht1 run pe soft => ?_⟩
  all_goals subst ht
  · exact ends_of rfl ((getSinkCap_of hears).trans (if_pos up))
  · exact ends_of rfl ((getSinkCap_of hears).trans (if_neg (by simp [down])))
  · exact ends_of rfl ((getSourceCapExtended_of hears).trans (asSource_extended cc rev _))
  · exact ends_of rfl ((getStatus_of hears).trans (if_pos rev))
  · refine ends_of rfl ((getPpsStatus_contract hears contract).trans ((if_pos ⟨kind, cc⟩).trans ?_))
    exact (extended_of _ _ _).1 rev
  · refine ends_of rfl ?_
    cases contract : ((heard s h).pde h.port).contract with
    | none => exact getPpsStatus_none hears contract
    | some c =>
      exact (getPpsStatus_contract hears contract).trans
        (if_neg fun ⟨_, cc⟩ => no.elim (fun none_ => by simp [contract] at none_) (· cc))
  · subst hp
    refine ends_of rfl ((getSourceInfo_of hears).trans ?_)
    exact (if_pos cc).trans ((extended_of _ _ _).1 rev)
  · refine ends_of rfl ?_
    rw [getRevision, hears_receive hears]
    exact (extended_of _ _ _).1 rev
  · refine ⟨ends_of rfl ((getSourceCapExtended_of hears).trans (asSource_refused rev _)),
      ends_of rfl ((getStatus_of hears).trans ((if_neg rev).trans ((unsupported_of _ _).2 rev))),
      ends_of rfl (getPpsStatus_refused hears rev), ends_of rfl ((getSourceInfo_of hears).trans (asSource_refused rev _)),
      ends_of rfl ?_⟩
    rw [getRevision, hears_receive hears]
    exact (extended_of _ _ _).2 rev
  · exact ends_of rfl (hears_receive hears _ _)
  · have refused := (unsupported_of (heard s h) h.port).1 rev
    refine ⟨ends_of rfl ((hears_receive hears _ _).trans refused),
      fun vdos => ends_of rfl ((hears_receive hears _ _).trans refused), ends_of rfl ?_⟩
    rw [unsupportedMessage, hears_receive hears, refused]
  · have refused := (unsupported_of (heard s h) h.port).2 rev
    refine ⟨ends_of rfl ((hears_receive hears _ _).trans refused),
      fun vdos => ends_of rfl ((hears_receive hears _ _).trans refused), ends_of rfl ?_⟩
    rw [unsupportedMessage, hears_receive hears, refused]
  · exact ends_of rfl (hears_receive hears _ _)
  · exact ⟨fun contract => ends_of rfl (bist_none hears mode contract),
      fun c contract mv => ends_of rfl ((bist_contract hears mode contract).trans (if_pos mv)),
      fun c contract mv => ends_of rfl ((bist_contract hears mode contract).trans (if_neg mv))⟩
  · refine ⟨fun contract => ends_of rfl ?_, fun c contract => ends_of rfl ?_⟩
    · rw [alert, hears_receive hears, contract]
    · rw [alert, hears_receive hears, contract]
  · refine ends_of rfl ?_
    rw [notSupported, hears_receive hears]
    exact if_neg (by simp [run])
  · subst ht1
    refine ends_of rfl ?_
    rw [notSupported, hears_receive hears]
    exact if_pos ⟨run, pe, by simp [soft]⟩

end Sys2Proof.Machine
end

section
/-!
A sink upstream's capabilities and contract, and the role swaps (R141, R145, R159–R161): each message by the swap in progress
and the role of the port.
-/

namespace Sys2Proof.Machine

section
variable {s : State} {h : PdHdr} (hears : Hears s h)
include hears

/-! ### The sink's capabilities and contract (R159) -/

theorem sourceCapabilities_source (cc : ((heard s h).pde h.port).cc = .attachedSrc) (pdos : List Nat) :
    sourceCapabilities h pdos s = protocolError (heard s h) h.port := by
  rw [sourceCapabilities, hears_receive hears, asSource, if_pos cc]

theorem sourceCapabilities_none {pdos : List Nat} (cc : ((heard s h).pde h.port).cc = .attachedSnk)
    (choice : sinkChoice ((storeSrcCaps (heard s h) h pdos).pde h.port).set.snkVmax 1 pdos = none) :
    sourceCapabilities h pdos s = storeSrcCaps (heard s h) h pdos := by
  rw [sourceCapabilities, hears_receive hears, asSource, if_neg (by simp [cc])]
  simp only [choice]

theorem sourceCapabilities_some {pdos : List Nat} {pos p : Nat} (cc : ((heard s h).pde h.port).cc = .attachedSnk)
    (choice : sinkChoice ((storeSrcCaps (heard s h) h pdos).pde h.port).set.snkVmax 1 pdos = some (pos, p)) :
    sourceCapabilities h pdos s = sinkRequest (storeSrcCaps (heard s h) h pdos) h.port pos p := by
  rw [sourceCapabilities, hears_receive hears, asSource, if_neg (by simp [cc])]
  simp only [choice]

theorem sinkCapabilities_of (pdos : List Nat) : sinkCapabilities h pdos s =
    if isUp h.port = true ∧ runs (heard s h) h.port .senderResponse = true then
      amsEnd ((stopTimer (heard s h) h.port .senderResponse).modPde h.port (fun d => { d with
        snkCaps := pdos, frs := ({ d with snkCaps := pdos } : Pde).frsArmed })) h.port
    else heard s h := by
  rw [sinkCapabilities, hears_receive hears]

/-! ### Accept, Reject, Wait (R145, R155, R160) -/

theorem accept_sink (soft : ((heard s h).pde h.port).soft = false) (swap : ((heard s h).pde h.port).swap = none)
    (cc : ((heard s h).pde h.port).cc = .attachedSnk) (pend : ((heard s h).pde h.port).pend.isSome = true)
    (accepted : ((heard s h).pde h.port).accepted = false) : accept h s =
      stopTimer ((heard s h).modPde h.port (fun d => { d with accepted := true })) h.port .senderResponse := by
  rw [accept, hears_receive hears]
  simp only [soft, swap, cc, pend, accepted, Bool.false_eq_true, Bool.not_false, false_and, and_self, if_true, if_false]

theorem accept_swap {w : Swap} (soft : ((heard s h).pde h.port).soft = false) (swap : ((heard s h).pde h.port).swap = some w)
    (slow : w.fast = false) (stage : w.stage = 0) (run : runs (heard s h) h.port .senderResponse = true) : accept h s =
      startTimer ((stopTimer (heard s h) h.port .senderResponse).modPde h.port
        (fun d => { d with swap := some { w with stage := 2 } })) h.port
        (if w.fromSource then .srcTransition else .psSourceOff) := by
  rw [accept, hears_receive hears]
  simp only [soft, swap, slow, stage, run, Bool.false_eq_true, Bool.not_false, false_and, and_self, if_true, if_false]

theorem accept_soft (soft : ((heard s h).pde h.port).soft = true) (run : runs (heard s h) h.port .senderResponse = true)
    (cc : ((stopTimer ((heard s h).modPde h.port (fun d => { d with soft := false })) h.port .senderResponse).pde
      h.port).cc = .attachedSrc) : accept h s =
      startup (stopTimer ((heard s h).modPde h.port (fun d => { d with soft := false })) h.port .senderResponse) h.port := by
  rw [accept, hears_receive hears]
  simp only [soft, run, and_self, if_true]
  exact if_pos cc

theorem declined_of : declined h s =
    if ((heard s h).pde h.port).soft = true ∨ ((heard s h).pde h.port).pe = .sendCaps then heard s h
    else if runs (heard s h) h.port .senderResponse = true then
      amsEnd (stopTimer ((heard s h).modPde h.port (fun d => { d with pend := none, accepted := false, swap := none })) h.port
        .senderResponse) h.port
    else if ((heard s h).pde h.port).cc = .attachedSnk ∧ ((heard s h).pde h.port).pend.isSome = true ∧
        (!((heard s h).pde h.port).accepted) = true then
      (heard s h).modPde h.port (fun d => { d with pend := none })
    else protocolError (heard s h) h.port := by
  rw [declined, hears_receive hears]

/-! ### PS_RDY (R159–R161) -/

theorem psRdy_contract (swap : ((heard s h).pde h.port).swap = none) (cc : ((heard s h).pde h.port).cc = .attachedSnk)
    (accepted : ((heard s h).pde h.port).accepted = true) : psRdy h s =
      pbaTrigger (amsEnd (pdEvent ((heard s h).modPde h.port (fun d => { d with
        contract := d.pend, pend := none, accepted := false, pe := .snkContract })) h.port 3) h.port) 0 := by
  rw [psRdy, hears_receive hears]
  simp only [swap, cc, accepted, and_self, if_true]

section
variable {w : Swap} (swap : ((heard s h).pde h.port).swap = some w)
include swap

theorem psRdy_fromSource (slow : w.fast = false) (from_ : w.fromSource = true) (stage : w.stage = 4) :
    psRdy h s = becomeSink (heard s h) h.port 0x13 := by
  rw [psRdy, hears_receive hears]
  simp only [swap, slow, from_, stage, Bool.false_eq_true, if_true, if_false]

theorem psRdy_fast (fast : w.fast = true) (stage : w.stage = 4) : psRdy h s =
    becomeSink (raiseAt (heard s h) w.at_ (360 + 12 * (upOfPort h.port).code) 0x14 (pdData (heard s h) h.port none 0))
      h.port 0x14 := by
  rw [psRdy, hears_receive hears]
  simp only [swap, fast, stage, if_true]

theorem psRdy_fromSink (slow : w.fast = false) (from_ : w.fromSource = false) (stage : w.stage = 2) : psRdy h s =
    vbusOn (vconnOn (pbaTrigger ((dropContract ((stopTimer (heard s h) h.port .psSourceOff).modPde h.port (fun d =>
      { d with cc := .attachedSrc, pe := .stopped, accepted := false, swap := some { w with stage := 3 } })) h.port).modPpc
        h.port (fun q => { q with gsnk := false })) 0) h.port) h.port := by
  rw [psRdy, hears_receive hears]
  simp only [swap, slow, from_, stage, Bool.false_eq_true, if_true, if_false]

theorem frSwap_signalled (up : isUp h.port = true) (fast : w.fast = true) (stage : w.stage = 1) : frSwap h s =
    send (stopTimer ((heard s h).modPde h.port (fun d => { d with swap := some { w with stage := 2 } })) h.port .frSwapWait)
      h.port .accept := by
  rw [frSwap, hears_receive hears]
  simp only [up, swap, fast, stage, and_self, if_true]

end

/-! ### PR_Swap and FR_Swap (R160, R161) -/

/-- An upstream with no swap or reset in progress answers a PR_Swap by its role. -/
theorem prSwap_up (up : isUp h.port = true) (swap : ((heard s h).pde h.port).swap = none)
    (soft : ((heard s h).pde h.port).soft = false) (hard : ((heard s h).pde h.port).pe ≠ .hardReset)
    (default_ : ((heard s h).pde h.port).pe ≠ .toDefault) : prSwap h s =
      if ((heard s h).pde h.port).cc = .attachedSnk ∧ (heard s h).pba.trigger.isSome = true then send (heard s h) h.port .wait
      else if mayPrSwap (heard s h) h.port = true then takePrSwap (heard s h) h.port
      else send (heard s h) h.port .reject := by
  rw [prSwap, hears_receive hears]
  simp only [up, swap, soft, hard, default_, Option.isSome_none, Bool.false_eq_true, or_self, if_true, if_false]

theorem prSwap_down (down : isUp h.port = false) : prSwap h s = send (heard s h) h.port .reject := by
  rw [prSwap, hears_receive hears]
  exact if_neg (by simp [down])

theorem frSwap_down (down : isUp h.port = false) : frSwap h s = unsupported (heard s h) h.port := by
  rw [frSwap, hears_receive hears]
  exact if_neg (by simp [down])

theorem frSwap_unasked (up : isUp h.port = true) (swap : ((heard s h).pde h.port).swap = none) :
    frSwap h s = protocolError (heard s h) h.port := by
  rw [frSwap, hears_receive hears]
  simp only [up, swap, if_true]

end

theorem mayPrSwap_source {s : State} {n : Nat} (cc : (s.pde n).cc = .attachedSrc) :
    mayPrSwap s n = (s.pde n).set.upPrSwap := if_pos cc

theorem mayPrSwap_sink {s : State} {n : Nat} (cc : (s.pde n).cc = .attachedSnk) :
    mayPrSwap s n = (feedPresent s && decide (150 ≤ allocAsSource s n)) := if_neg (by simp [cc])

/-- Settles O18: each message by the swap in progress and the role of the port. -/
theorem sinkAndSwapMessages : Obligations.SinkAndSwapMessages := by
  refine ⟨fun s h t pdos hears ht cc => ?_, fun s h t pdos t1 hears ht cc ht1 choice => ?_,
    fun s h t pdos t1 pos p hears ht cc ht1 choice => ?_, fun d pos p => rfl, fun s h t pdos hears ht no => ?_,
    fun s h t pdos t1 hears ht up run ht1 => ?_, fun d off => ?_, fun s h t hears ht soft swap cc pend accepted => ?_,
    fun s h t w hears ht soft swap slow stage run => ?_, fun s h t t1 hears ht soft run ht1 cc => ?_,
    fun s h t hears ht soft pe run => ?_, fun s h t hears ht waits => ?_, fun s h t hears ht swap cc accepted => ?_,
    fun s h t w hears ht swap slow from_ stage => ?_, fun s h t w hears ht swap fast stage => ?_,
    fun s h t w t1 hears ht swap slow from_ stage ht1 => ?_, fun s h t hears ht down => ?_,
    fun s h t hears ht up swap soft hard default_ cc => ?_, fun s h t hears ht up swap soft hard default_ cc => ?_,
    fun s h t hears ht down => ?_, fun s h t w hears ht up swap fast stage => ?_, fun s h t hears ht up swap => ?_⟩
  case refine_6 => simp only [Pde.frsArmed, off, Bool.and_false, Bool.false_and]
  all_goals subst ht
  · exact ends_of rfl (sourceCapabilities_source hears cc pdos)
  · subst ht1
    exact ends_of rfl (sourceCapabilities_none hears cc choice)
  · subst ht1
    exact ends_of rfl (sourceCapabilities_some hears cc choice)
  · exact ends_of rfl ((sinkCapabilities_of hears pdos).trans (if_neg (by rcases no with no | no <;> simp [no])))
  · subst ht1
    exact ends_of rfl ((sinkCapabilities_of hears pdos).trans (if_pos ⟨up, run⟩))
  · exact ends_of rfl (accept_sink hears soft swap cc pend accepted)
  · exact ends_of rfl (accept_swap hears soft swap slow stage run)
  · subst ht1
    exact ends_of rfl (accept_soft hears soft run cc)
  · have ends := (declined_of hears).trans ((if_neg (by simp [soft, pe])).trans (if_pos run))
    exact ⟨_, rfl, ends_of rfl ends, ends_of rfl ends⟩
  · have ends := (declined_of hears).trans (if_pos waits)
    exact ⟨ends_of rfl ends, ends_of rfl ends⟩
  · exact ends_of rfl (psRdy_contract hears swap cc accepted)
  · exact ends_of rfl (psRdy_fromSource hears swap slow from_ stage)
  · exact ends_of rfl (psRdy_fast hears swap fast stage)
  · subst ht1
    exact ends_of rfl (psRdy_fromSink hears swap slow from_ stage)
  · exact ends_of rfl (prSwap_down hears down)
  · have ends := (prSwap_up hears up swap soft hard default_).trans (if_neg (by simp [cc]))
    rw [mayPrSwap_source cc] at ends
    exact ⟨fun may => ends_of rfl (ends.trans (if_pos may)), fun may => ends_of rfl (ends.trans (if_neg (by simp [may])))⟩
  · have ends := prSwap_up hears up swap soft hard default_
    rw [mayPrSwap_sink cc] at ends
    refine ⟨fun busy => ends_of rfl (ends.trans (if_pos ⟨cc, busy⟩)),
      fun free feed power => ends_of rfl (ends.trans ((if_neg (by simp [free])).trans (if_pos (by simp [feed, power])))),
      fun free no => ends_of rfl (ends.trans ((if_neg (by simp [free])).trans (if_neg ?_)))⟩
    rcases no with feed | power
    · simp [feed]
    · simp [power]
  · exact ends_of rfl (frSwap_down hears down)
  · exact ends_of rfl (frSwap_signalled hears swap up fast stage)
  · exact ends_of rfl (frSwap_unasked hears up swap)

end Sys2Proof.Machine
end

section
/-!
Soft_Reset and Hard Reset (R140, R150, R151, R155–R157, R160, R162): what they end, and the timers that bring a Hard Reset to
its end. A timer that does not run has no end.
-/

namespace Sys2Proof.Machine

/-- A Soft_Reset is taken even with the MessageID of the message before. -/
theorem pdReceive_soft {s : State} {h : PdHdr} (port : h.port ≠ 0) (live : (s.pde h.port).live = true) (f : State → State) :
    pdReceive s h true f = f (heard s h) := by
  simp only [pdReceive, port, live, Bool.not_true, Bool.false_eq_true, or_self, and_false, if_false]
  rfl

section
variable {s : State} {n : Nat}

theorem softSwap_none (swap : (s.pde n).swap = none) : softSwap s n = s := by
  simp only [softSwap, swap]

theorem softSwap_fast {w : Swap} (swap : (s.pde n).swap = some w) (fast : w.fast = true) : softSwap s n = s := by
  simp only [softSwap, swap, fast, if_true]

theorem swapFails_none (swap : (s.pde n).swap = none) (cause : Nat) : swapFails s n cause = s := by
  simp only [swapFails, swap]

theorem sendHardReset_spent (h : 2 < (s.pde n).hardN) (cause : Nat) : sendHardReset s n cause = giveUp s n := if_pos h

theorem hardReceived_resets (cc : ((swapFails (pdEvent s n 8) n 0).pde n).cc ≠ .deadBattery) :
    hardReceived s n = hardReset (swapFails (pdEvent s n 8) n 0) n := by
  unfold hardReceived
  dsimp only
  split
  · contradiction
  · rfl

/-- A policy engine at work, or in the middle of a swap, takes a Hard Reset. -/
theorem hardResetSignal_taken (pe : (s.pde n).pe = .ready ∨ (s.pde n).pe = .sendCaps ∨ (s.pde n).pe = .transition ∨
      (s.pde n).pe = .snkContract ∨ ((s.pde n).pe = .stopped ∧ (s.pde n).swap.isSome = true)) :
    hardResetSignal n s = hardReceived s n := by
  rcases pe with pe | pe | pe | pe | ⟨pe, swap⟩
  case inr.inr.inr.inr => simp only [hardResetSignal, pe, swap, if_true]
  all_goals simp only [hardResetSignal, pe]

theorem giveUp_talked (talked : (s.pde n).talked = true) : giveUp s n = (vbusOff ((pdStop (pdEvent s n 0xA) n).modPde n
    (fun d => { d with cc := .errorRecovery, vconn := false })) n).modPpc n (fun q => { q with gsnk := false }) := if_pos talked

theorem giveUp_silent (silent : (s.pde n).talked = false) : giveUp s n =
    vbusOn ((pdStop (pdEvent s n 9) n).modPde n (fun d => { d with pe := .disabled })) n := if_neg (by simp [silent])

theorem psHardResetExpiry_runs {s1 : State} (run : runs s n .psHardReset = true)
    (hs1 : s1 = (stopTimer (stopTimer s n .psHardReset) n .hardResetComplete).modPde n (fun d =>
      { d with pe := .toDefault, vconn := false })) : psHardResetExpiry n s =
        startTimer (vbusOff s1 n) n (if (s1.ppc n).gate then .safe0V else .srcRecover) := by
  subst hs1
  refine (if_pos run).trans ?_
  dsimp only
  cases (State.ppc _ n).gate <;> rfl

theorem vbusHeld_of : vbusHeld s n = if (s.pde n).heldTold then s
    else pdEvent (s.modPde n (fun d => { d with heldTold := true })) n 0x12 := rfl

theorem srcRecoverExpiry_source (run : runs s n .srcRecover = true)
    (cc : ((stopTimer s n .srcRecover).pde n).cc = .attachedSrc) :
    srcRecoverExpiry n s = vbusOn (vconnOn (stopTimer s n .srcRecover) n) n := by
  simp only [srcRecoverExpiry, run, cc, if_true]

end

/-- Settles O19: a reset by the swap in progress and the policy engine's state, a timer by whether it runs. -/
theorem resetsOfTheProtocol : Obligations.ResetsOfTheProtocol := by
  refine ⟨fun s h t1 t2 port live ht1 ht2 => ends_of rfl ?_, fun s n swap => softSwap_none swap,
    fun s n w swap fast => softSwap_fast swap fast, fun s n pe swap => ends_of rfl ?_, fun s n pe => ends_of rfl ?_,
    fun s n s1 pe hs1 cc => ends_of rfl ?_, fun s n swap c => swapFails_none swap c,
    fun s n h c => sendHardReset_spent h c, fun s n run => ends_of rfl (if_pos run), fun s n talked => giveUp_talked talked,
    fun s n silent => giveUp_silent silent, fun s n run => ⟨_, rfl, ends_of rfl (psHardResetExpiry_runs run rfl)⟩,
    fun s n run told => ends_of rfl ?_, fun s n run told => ends_of rfl ?_,
    fun s n run cc => ends_of rfl (srcRecoverExpiry_source run cc), fun s n => ends_of rfl rfl,
    fun s n => ⟨fun off => ends_of rfl (if_neg (by simp [off])), fun off => ends_of rfl (if_neg (by simp [off])),
      fun off => ends_of rfl (if_neg (by simp [off])), fun off => ends_of rfl (if_neg (by simp [off]))⟩⟩
  · subst ht1 ht2
    rw [softReset, pdReceive_soft port live]
    rfl
  · simp only [hardResetSignal, pe, swap, Option.isSome_none, Bool.false_eq_true, if_false]
  · simp only [hardResetSignal, pe]
  · subst hs1
    rw [hardResetSignal_taken pe, hardReceived_resets cc]
  · rw [safe0VExpiry, if_pos run, vbusHeld_of, told]
    rfl
  · rw [safe0VExpiry, if_pos run, vbusHeld_of, if_pos told]

end Sys2Proof.Machine
end

section
/-!
The ends of the policy timers (R23, R150–R155, R160, R161, R163, R211). A timer that does not run has no end; one that runs
is stopped first, and its end goes by the policy engine's state.
-/

namespace Sys2Proof.Machine

section
variable {s s1 : State} {n : Nat}

/-! ### Readvertising (R150, R154) -/

/-- An AMS of the PDE's own starts at once where collision avoidance does not apply. -/
theorem startOwn_caps (idle : (s.pde n).amsIdle = true) (readv : (s.pde n).readv = true) (free : (s.pde n).avoids = false) :
    startOwn s n = sendCaps s n := by
  have due : (s.pde n).amsIdle = true ∧ ((s.pde n).readv = true ∨ (s.pde n).disc = 1 ∨ (s.pde n).snkDue = true ∨
    (s.pde n).action.isSome = true) := ⟨idle, .inl readv⟩
  have own : runOwn s n = sendCaps s n := by simp only [runOwn, readv, if_true]
  simp only [startOwn, if_pos due, free, own, Bool.false_eq_true, false_and, if_false]

theorem startOwn_avoids (idle : (s.pde n).amsIdle = true) (readv : (s.pde n).readv = true) (avoids : (s.pde n).avoids = true)
    (ng : (s.pde n).ng = false) : startOwn s n = startTimer (s.modPde n (fun d => { d with ng := true })) n .sinkTx := by
  have due : (s.pde n).amsIdle = true ∧ ((s.pde n).readv = true ∨ (s.pde n).disc = 1 ∨ (s.pde n).snkDue = true ∨
    (s.pde n).action.isSome = true) := ⟨idle, .inl readv⟩
  simp only [startOwn, if_pos due, avoids, ng, Bool.not_false, and_self, if_true]

theorem startOwn_busy (busy : (s.pde n).amsIdle = false) : startOwn s n = s := if_neg (by simp [busy])

theorem typecSendSourceCapExpiry_runs (run : runs s n .typeCSendSourceCap = true) : typecSendSourceCapExpiry n s =
    if 50 < ((stopTimer s n .typeCSendSourceCap).pde n).capsN then
      pdEvent ((stopTimer s n .typeCSendSourceCap).modPde n (fun d => { d with pe := .disabled })) n 9
    else sendCaps (stopTimer s n .typeCSendSourceCap) n := if_pos run

/-! ### No answer (R151, R155, R211) -/

theorem senderResponseExpiry_caps (run : runs s n .senderResponse = true) (hs1 : s1 = stopTimer s n .senderResponse)
    (pe : (s1.pde n).pe = .sendCaps) : senderResponseExpiry n s =
      sendHardReset (if tenths (s1.pb n).alloc < contractPower s1 n then shortfallEvent s1 n 1 else s1) n 1 := by
  subst hs1
  simp only [senderResponseExpiry, run, pe, if_true]

theorem senderResponseExpiry_other (run : runs s n .senderResponse = true) (hs1 : s1 = stopTimer s n .senderResponse)
    (pe : (s1.pde n).pe ≠ .sendCaps) : senderResponseExpiry n s =
      if (s1.pde n).soft = true ∨ ((s1.pde n).cc = .attachedSnk ∧ (s1.pde n).pend.isSome = true) then sendHardReset s1 n 1
      else amsEnd (s1.modPde n (fun d => { d with swap := none })) n := by
  subst hs1
  refine (if_pos run).trans ?_
  dsimp only
  split
  · contradiction
  · rfl

/-! ### The power transition (R23, R150, R183) -/

section
variable {c : Contract} (run : runs s n .srcTransition = true) (hs1 : s1 = stopTimer s n .srcTransition)
  (swap : (s1.pde n).swap = none) (contract : (s1.pde n).contract = some c) (kind : c.kind ≠ 1)
include run hs1 swap contract kind

/-- At the voltage in force PS_RDY goes once power is good. -/
theorem srcTransitionExpiry_same (mv : ((setCc s1 n none).ppc n).mv = c.mv) : srcTransitionExpiry n s =
    if ((setCc s1 n none).ppc n).pg = true ∧ ((setCc s1 n none).ppc n).st = .on then send (setCc s1 n none) n .psRdy
    else setCc s1 n none := by
  subst hs1
  refine (if_pos run).trans ?_
  simp only [swap, contract, if_neg kind, mv, if_true]

theorem srcTransitionExpiry_changes (mv : ((setCc s1 n none).ppc n).mv ≠ c.mv) (st : ((setCc s1 n none).ppc n).st = .on) :
    srcTransitionExpiry n s = setVout (setSlew (((setCc s1 n none).modPpc n (fun q => { q with
      st := .transition, pg := false, oldMv := q.mv, oldOv := q.ovSelf, mv := c.mv, safe5 := false, under := false })).modPpc n
        (fun q => { q with dsch := q.assist q.meter.vbus })) n) n c.mv := by
  subst hs1
  refine (if_pos run).trans ?_
  simp only [swap, contract, if_neg kind, if_neg (Ne.symm mv), st]

end

theorem srcTransitionExpiry_swap {w : Swap} (run : runs s n .srcTransition = true)
    (swap : ((stopTimer s n .srcTransition).pde n).swap = some w) :
    srcTransitionExpiry n s = vbusOff (stopTimer s n .srcTransition) n := by
  simp only [srcTransitionExpiry, run, swap, if_true]

theorem frsSignalEnd_runs {u : Up} {w : Swap} (hn : n = portOfUp u) (swap : (s.pde n).swap = some w)
    (run : runs s n .frsSignal = true) : frsSignalEnd u s =
      startTimer (pbaTrigger (vbusOff ((dropContract (stopTimer s n .frsSignal) n).modPde n (fun d =>
        { d with swap := some { w with stage := 1 } })) n) 0) n .frSwapWait := by
  subst hn
  simp only [frsSignalEnd, swap, run, if_true]

end

/-- Settles O20: a timer by whether it runs, then by the policy engine's state. -/
theorem timersOfTheProtocol : Obligations.TimersOfTheProtocol := by
  refine ⟨fun s n s1 hs1 idle readv free => ?_, fun s n s1 hs1 idle readv avoids ng => ?_, fun s n s1 hs1 busy => ?_,
    fun s n run many => ends_of rfl ((typecSendSourceCapExpiry_runs run).trans (if_pos many)),
    fun s n run few => ends_of rfl ((typecSendSourceCapExpiry_runs run).trans (if_neg (Nat.not_lt.mpr few))),
    fun s n s1 run hs1 pe enough => ends_of rfl ?_, fun s n s1 run hs1 pe short => ends_of rfl ?_,
    fun s n s1 run hs1 pe soft => ends_of rfl ((senderResponseExpiry_other run hs1 pe).trans (if_pos (.inl soft))),
    fun s n s1 run hs1 pe soft cc => ends_of rfl ((senderResponseExpiry_other run hs1 (by simp [pe])).trans
      (if_neg (by simp [soft, cc]))),
    fun s n s1 c run hs1 swap contract kind mv pg st =>
      ends_of rfl ((srcTransitionExpiry_same run hs1 swap contract kind mv).trans (if_pos ⟨pg, st⟩)),
    fun s n s1 c run hs1 swap contract kind mv pg =>
      ends_of rfl ((srcTransitionExpiry_same run hs1 swap contract kind mv).trans (if_neg (by simp [pg]))),
    fun s n s1 c s2 s3 run hs1 swap contract kind hs2 mv st hs3 => ?_,
    fun s n w run swap => ends_of rfl (srcTransitionExpiry_swap run swap),
    fun s n => ⟨fun run => ends_of rfl (if_pos run), fun run => ends_of rfl (if_pos run),
      fun run => ends_of rfl (if_pos run), fun run => ends_of rfl (if_pos run)⟩,
    fun s n => ⟨fun off => ends_of rfl (if_neg (by simp [off])), fun off => ends_of rfl (if_neg (by simp [off])),
      fun off => ends_of rfl (if_neg (by simp [off])), fun off => ends_of rfl (if_neg (by simp [off])),
      fun off => ends_of rfl (if_neg (by simp [off])), fun off => ends_of rfl (if_neg (by simp [off]))⟩,
    fun s u n hn => ?_, fun s u n w hn swap run => ends_of rfl (frsSignalEnd_runs hn swap run)⟩
  · subst hs1
    exact ends_of rfl (startOwn_caps idle readv free)
  · subst hs1
    exact ends_of rfl (startOwn_avoids idle readv avoids ng)
  · subst hs1
    exact ends_of rfl (startOwn_busy busy)
  · rw [senderResponseExpiry_caps run hs1 pe, if_neg (Nat.not_lt.mpr enough)]
  · rw [senderResponseExpiry_caps run hs1 pe, if_pos short]
  · subst hs2 hs3
    exact ends_of rfl (srcTransitionExpiry_changes run hs1 swap contract kind mv st)
  · subst hn
    exact ⟨fun run => ends_of rfl (if_pos run), fun run => ends_of rfl (if_pos run), fun run => ends_of rfl (if_pos run),
      fun run => ends_of rfl (if_pos run)⟩

end Sys2Proof.Machine
end

section
/-!
The power paths (R23, R150, R151, R160, R166, R167, R176, R179, R183, R186, R187, R377): turning one on and off, the converter
check, power-good and the discharge. Each row goes by the state of the path.
-/

namespace Sys2Proof.Machine

section
variable {s s1 : State} {n : Nat}

/-! ### On, off, and the converter check (R167) -/

theorem tryOn_off (st : (s.ppc n).st = .off) : tryOn s n = if vbusWanted s n then enterCheck s n else s := by
  simp only [tryOn, st]

/-- A path that stands on goes through its discharge. -/
theorem vbusOff_on (hs1 : s1 = s.modPpc n (fun q => { q with req := false }))
    (st : (s1.ppc n).st = .on ∨ (s1.ppc n).st = .ramp ∨ (s1.ppc n).st = .transition ∨ (s1.ppc n).st = .frozen) :
    vbusOff s n = setVout (linkDown ((s1.modPpc n (fun q => { q with
      st := .discharge, pg := false, dsch := true, under := false, ovSeen := false })).modPde n
        (fun d => { d with heldTold := false })) n) n 5000 := by
  subst hs1
  rcases st with st | st | st | st <;> simp only [vbusOff, st]

theorem vbusOff_check (hs1 : s1 = s.modPpc n (fun q => { q with req := false })) (st : (s1.ppc n).st = .convCheck) :
    vbusOff s n = idleConverter (s1.modPpc n (fun q => { q with st := .off, retryWait := false })) n := by
  subst hs1
  simp only [vbusOff, st]

theorem vbusOff_down (hs1 : s1 = s.modPpc n (fun q => { q with req := false }))
    (st : (s1.ppc n).st = .off ∨ (s1.ppc n).st = .tripped ∨ (s1.ppc n).st = .discharge) : vbusOff s n = s1 := by
  subst hs1
  rcases st with st | st | st <;> simp only [vbusOff, st]

theorem converterRetry_waits (st : (s.ppc n).st = .convCheck) (retry : (s.ppc n).retryWait = true) : converterRetry n s =
    if vbusWanted s n then enterCheck s n
    else idleConverter (s.modPpc n (fun q => { q with st := .off, retryWait := false })) n := by
  simp only [converterRetry, st, retry, if_true]

/-! ### Power-good (R71, R150, R183) -/

/-- The policy engine's part of power-good in a transition. -/
theorem powerGood_transition (idle : (s.ppc n).fault = 0) (st : (s.ppc n).st = .transition)
    (hs1 : s1 = s.modPpc n (fun q => { q with st := .on, pg := true, under := false, dsch := false })) :
    powerGood n s = if (s1.pde n).pe = .transition ∧ runs s1 n .srcTransition = false then send s1 n .psRdy else s1 := by
  subst hs1
  simp only [powerGood, idle, st, ne_eq, not_true, if_false]
  split
  · next pe =>
    rw [pe]
    split
    · next run => simp only [run, Bool.true_eq_false, and_false, if_false]
    · next run => simp only [run, true_and, if_true]
  · next other => exact (if_neg fun h => other h.1).symm

section
variable (idle : (s.ppc n).fault = 0) (st : (s.ppc n).st = .ramp) (down : isUp n = false)
  (hs1 : s1 = dpePower (s.modPpc n (fun q => { q with
    st := .on, pg := true, under := false, slewHeld := if q.halved then q.slewHeld else false })) n)
include idle st down hs1

/-- Power-good of a source whose policy engine waits for VBUS starts it. -/
theorem powerGood_starts (cc : (s1.pde n).cc = .attachedSrc) (swap : (s1.pde n).swap = none)
    (pe : (s1.pde n).pe = .stopped ∨ (s1.pde n).pe = .toDefault) : powerGood n s = startup s1 n := by
  subst hs1
  rcases pe with pe | pe <;>
    simp only [powerGood, idle, st, down, cc, swap, pe, ne_eq, not_true, Bool.false_eq_true, if_false]

theorem powerGood_plain (cc : (s1.pde n).cc = .idle) : powerGood n s = s1 := by
  subst hs1
  simp only [powerGood, idle, st, down, cc, ne_eq, not_true, Bool.false_eq_true, if_false]

end

/-! ### Discharge (R187) -/

theorem dischargeEnd_elsewhere (st : (s.ppc n).st ≠ .discharge) : dischargeEnd s n =
    s.modPpc n (fun q => { q with dsch := false, st := if q.st = .discharge then .off else q.st }) := if_neg st

theorem zeroVolts_waits (run : runs s n .safe0V = true) :
    zeroVolts s n = startTimer (stopTimer s n .safe0V) n .srcRecover := if_pos run

theorem zeroVolts_none (run : runs s n .safe0V = false) (swap : (s.pde n).swap = none) : zeroVolts s n = s := by
  simp only [zeroVolts, run, swap, Bool.false_eq_true, if_false]

end

/-- Settles O21: each row by the state of its path. -/
theorem powerPaths : Obligations.PowerPaths := by
  refine ⟨fun s n cc => ends_of rfl ?_, fun s n cc => ends_of rfl ?_, fun s n st want => (tryOn_off st).trans (if_pos want),
    fun s n st want => (tryOn_off st).trans (if_neg (by simp [want])), fun s n => rfl,
    fun s n s1 hs1 st => ends_of rfl (vbusOff_on hs1 st), fun s n s1 hs1 st => ends_of rfl (vbusOff_check hs1 st),
    fun s n s1 hs1 st => ends_of rfl (vbusOff_down hs1 st), fun s n st retry => ends_of rfl ?_,
    fun s n st retry => ends_of rfl ?_,
    fun s n st retry want => ends_of rfl ((converterRetry_waits st retry).trans (if_pos want)),
    fun s n st retry want => ends_of rfl ((converterRetry_waits st retry).trans (if_neg (by simp [want]))),
    fun s n s1 idle st hs1 => ⟨fun pe run => ends_of rfl ((powerGood_transition idle st hs1).trans (if_pos ⟨pe, run⟩)),
      fun no => ends_of rfl ((powerGood_transition idle st hs1).trans
        (if_neg fun ⟨pe, run⟩ => no.elim (· pe) (by simp [run])))⟩,
    fun s n s1 idle st down hs1 => ⟨fun cc swap pe => ends_of rfl (powerGood_starts idle st down hs1 cc swap pe),
      fun cc => ends_of rfl (powerGood_plain idle st down hs1 cc)⟩,
    fun s n busy => ends_of rfl (if_pos busy), fun s n tx pe => ends_of rfl (if_pos ⟨tx, pe⟩),
    fun s n pe => ends_of rfl (if_neg fun h => pe h.2),
    fun s n dsch => ⟨ends_of rfl (if_pos dsch), ends_of rfl (if_pos dsch)⟩,
    fun s n dsch => ⟨ends_of rfl (if_neg (by simp [dsch])), ends_of rfl (if_neg (by simp [dsch]))⟩,
    fun s n st => ⟨_, rfl, dischargeEnd_elsewhere st⟩, fun s n => ⟨zeroVolts_waits, zeroVolts_none⟩,
    fun s u r cc => ends_of rfl ?_, fun s u r cc => ends_of rfl ?_,
    fun s n w cycle cool => ends_of rfl (if_pos ⟨by rw [cycle]; rfl, cool⟩),
    fun s n cool => ends_of rfl (if_neg fun h => cool h.2)⟩
  · simp only [vbusRequest, cc, vbusOn]
  · simp only [vbusRequest, cc]
  · simp only [converterCheckPass, st, retry, Bool.false_eq_true, if_false]
  · simp only [converterNotReady, st, retry, Bool.false_eq_true, if_false]
  · simp only [sinkPathIdealDiode, cc]
  · unfold sinkPathIdealDiode
    dsimp only
    split
    · contradiction
    · rfl

end Sys2Proof.Machine
end

section
/-!
Trips and meters (R134, R158, R174–R177, R185, R186, R190, R191, R193, R194). A trip acts only with the gate raised
(`trip_gate`); a cool-down's end clears the trip in auto-retry mode or on a remembered happening.
-/

namespace Sys2Proof.Machine

section
variable {s s1 : State} {n : Nat}

theorem trip_closed (gate : (s.ppc n).gate = false) (k code : Nat) : trip s n k code = s := if_neg (by simp [gate])

/-- A path as a trip leaves it, before its event. -/
def tripPpc (s : State) (n k trips cool : Nat) : State :=
  s.modPpc n (fun q => { q with
    st := .tripped, pg := false, dsch := true, trips := trips, tripK := k, tripAt := s.ticks, cool := cool
    clear := false, under := false, ovSeen := false })

/-- The Alert that a trip leaves for a partner of Revision 3.x in a contract. -/
def tripAlert (d : Pde) : Option PdMsg :=
  if (d.contract.isSome && d.rev == some 2) = true then some (.alert 0x04000000) else none

/-- The PD layer as a trip leaves it. -/
def tripPde (s : State) (n : Nat) : State :=
  (pdStop s n).modPde n (fun d => { d with vconn := false, ocp := true, heldTold := false, tx := tripAlert (s.pde n) })

/-- The CC layer after a trip. -/
def tripCc : Cc → Cc
  | .attachedSrc => .tripped
  | c => c

theorem trip_gate (gate : (s.ppc n).gate = true) (k code : Nat) {trips cool : Nat} (htrips : trips = min 255 ((s.ppc n).trips + 1))
    (hcool : cool = coolFor (s.ppc n) trips)
    (hs1 : s1 = tripPde (powerEvent (tripPpc s n k trips cool) n k code (s.ppc n) cool) n) : trip s n k code =
      if isUp n then s1
      else syncPort (linkDown (overCurrent (s1.modPde n (fun d => { d with cc := tripCc d.cc })) n) n) n := by
  subst htrips hcool hs1
  exact if_pos gate

/-- A trip's cool-down ends: what clears the trip, then an attach that waited. -/
theorem coolDownEnd_of (cool : (s.ppc n).cool ≠ 0) (hs1 : s1 = if (s.ppc n).clear = true ∨ (s.ppc n).set.auto = true
      then clearTrip (s.modPpc n (fun q => { q with cool := 0 })) n else s.modPpc n (fun q => { q with cool := 0 })) :
    ((s1.pde n).cc = .attachWaitCool → coolDownEnd n s = sourceAttached s1 n) ∧
    ((s1.pde n).cc ≠ .attachWaitCool → coolDownEnd n s = s1) := by
  subst hs1
  refine ⟨fun cc => (if_neg cool).trans ?_, fun cc => (if_neg cool).trans ?_⟩
  · simp only [cc]
  · split
    · contradiction
    · rfl

end

theorem coolFor_of (q : Ppc) (n : Nat) :
    (q.set.auto = true → coolFor q n = min 32000 (q.set.tcool * 2 ^ (min 16 (n - 1)))) ∧
    (q.set.auto = false → coolFor q n = q.set.tcool) :=
  ⟨fun auto => if_pos auto, fun latch => if_neg (by simp [latch])⟩

/-- Settles O22: a trip by its gate, a cool-down's end by what clears the trip, a sample by its channel. -/
theorem tripsAndMeters : Obligations.TripsAndMeters := by
  refine ⟨fun s n gate => ⟨ends_of rfl (if_pos gate), ends_of rfl rfl, ends_of rfl rfl⟩, fun s n st => ends_of rfl (if_pos st),
    fun s n st => ends_of rfl (if_neg st), fun s n st => ends_of rfl (if_pos st), fun s n st => ends_of rfl (if_neg st),
    fun s n gate => ⟨ends_of rfl (if_neg (by simp [gate])), ends_of rfl (trip_closed gate 2 1),
      ends_of rfl (trip_closed gate 4 1)⟩,
    fun s n trips cool m s1 alert s2 gate htrips hcool hm hs1 halert hs2 => ?_, coolFor_of,
    fun s n s1 cool clear auto hs1 => ?_, fun s n s1 cool h hs1 cc => ?_, fun s n cool => ends_of rfl (if_pos cool),
    fun s n => ends_of rfl rfl, fun s n x s1 hs1 => ends_of rfl (by subst hs1; rfl),
    fun s t => ⟨ends_of rfl rfl, ends_of rfl rfl⟩, fun s k v => ⟨ends_of rfl rfl, ends_of rfl rfl⟩,
    fun m x now sink => ⟨rfl, rfl, rfl, rfl⟩, fun m x now => ⟨?_, ?_⟩, fun q reg _ => rfl⟩
  · have hs2' : s2 = tripPde (powerEvent (tripPpc s n 2 trips cool) n 2 1 (s.ppc n) cool) n := by
      subst hs2 halert hs1 hm
      rfl
    have ends := trip_gate gate 2 1 htrips hcool hs2'
    exact ⟨fun up => ends_of rfl (ends.trans (if_pos up)),
      fun down => ends_of rfl (ends.trans (if_neg (by simp [down])))⟩
  · have stays : ¬ ((s.ppc n).clear = true ∨ (s.ppc n).set.auto = true) := by simp [clear, auto]
    obtain ⟨waits, other⟩ := coolDownEnd_of cool (hs1.trans (if_neg stays).symm)
    exact ⟨fun cc => ends_of rfl (other cc), fun cc => ends_of rfl (waits cc)⟩
  · exact ends_of rfl ((coolDownEnd_of cool (hs1.trans (if_pos h).symm)).2 cc)
  · simp only [Meter.take, Bool.false_eq_true, if_false]
  · simp only [Meter.take, if_true]

end Sys2Proof.Machine
end

section
/-!
The PMBus segments (R168–R171, R224, R225): a transaction's end by what stands on the segment, its effect by its code, and who
hosts the segment.
-/

namespace Sys2Proof.Machine

section
variable {s s1 : State} {b : Bool} {t : Txn} {k : Nat}

theorem convUsable_unnamed {n : Nat} (h : (s.conv n).addr = 0 ∨ (s.conv n).addr = 0x0C) : convUsable s n = false := by
  rcases h with h | h <;> simp [convUsable, h]

/-! ### A transaction that the segment carries (R168–R170) -/

/-- A setpoint or a status outside the initialisation has its effect by its code. -/
theorem txnOk_plain (prio : t.prio ≠ 1) (d : Nat) :
    (t.code = 0x21 → txnOk s b t d = s.modConv t.conv (fun c => { c with vout := t.value })) ∧
    (t.code = 0x27 → txnOk s b t d = s.modConv t.conv (fun c => { c with slew := t.value / 100 })) ∧
    (t.code = 1 → txnOk s b t d = s.modConv t.conv (fun c => { c with on := t.value == 0x80 })) ∧
    (t.code = 0x79 → txnOk s b t d = statusRead s t.conv d) := by
  refine ⟨fun code => ?_, fun code => ?_, fun code => ?_, fun code => ?_⟩ <;> simp [txnOk, code, prio]

theorem txnDone_failed (cur : (s.seg b).cur = some (t, k)) (seen : Option BusTxn) {res : TxnRes} {kind : Nat}
    (h : (res = .addressNack ∧ kind = 1) ∨ (res = .dataNack ∧ kind = 2) ∨ (res = .pec ∧ kind = 3)) :
    pmbusTransactionDone b seen res s = txnFail s b kind := by
  rcases h with ⟨rfl, rfl⟩ | ⟨rfl, rfl⟩ | ⟨rfl, rfl⟩ <;> simp only [pmbusTransactionDone, cur]

theorem txnFail_again (cur : (s.seg b).cur = some (t, k)) (again : k < 2) (kind : Nat) :
    txnFail s b kind = s.modSeg b (fun g => { g with cur := some (t, k + 1) }) := by
  simp only [txnFail, cur, if_pos again]

/-- The third failure ends the transaction. -/
theorem txnFail_last (cur : (s.seg b).cur = some (t, k)) (last : 2 ≤ k) (prio : t.prio ≠ 1)
    (hs1 : s1 = s.modSeg b (fun g => { g with cur := none })) (kind : Nat) : txnFail s b kind =
      segNext ((convEvent s1 b t.conv t.code kind).modConv t.conv (fun c => { c with fails := min 65535 (c.fails + 1) })) b := by
  subst hs1
  simp only [txnFail, cur, if_neg (Nat.not_lt.mpr last), if_neg prio]

/-! ### A transaction of the partner (R224, R225) -/

theorem txnDone_hosts (none_ : (s.seg b).cur = none) (active : s.chipActive = true) (seen : Option BusTxn) (r : TxnRes) :
    pmbusTransactionDone b seen r s = s := by
  unfold pmbusTransactionDone
  rw [none_]
  cases seen with
  | none => rfl
  | some t =>
    cases r with
    | ok d => exact if_pos active
    | _ => rfl

theorem txnDone_listens {t : BusTxn} (none_ : (s.seg b).cur = none) (listens : s.chipActive = false) (d : Nat) :
    pmbusTransactionDone b (some t) (.ok d) s = txnSeen s b t d := by
  simp only [pmbusTransactionDone, none_, listens, Bool.false_eq_true, if_false]

theorem txnSeen_of {t : BusTxn} (seg : onSegB t.conv = b) (d : Nat) :
    (t.code = 0x21 → txnSeen s b t d = s.modConv t.conv (fun c => { c with vout := t.value, cst := .ready })) ∧
    (t.code = 1 → txnSeen s b t d = s.modConv t.conv (fun c => { c with on := t.value == 0x80 })) ∧
    (t.code = 0x79 → txnSeen s b t d = statusRead s t.conv d) := by
  refine ⟨fun code => ?_, fun code => ?_, fun code => ?_⟩ <;> simp [txnSeen, code, seg]

theorem txnDone_unheard {t : BusTxn} {r : TxnRes} (none_ : (s.seg b).cur = none) (fails : ∀ d, r ≠ .ok d) :
    pmbusTransactionDone b (some t) r s = s := by
  unfold pmbusTransactionDone
  rw [none_]
  cases r with
  | ok d => exact absurd rfl (fails d)
  | _ => rfl

/-- A status that stops the converter trips a path whose gate is raised. -/
theorem statusRead_stops {n w : Nat} (hs1 : s1 = s.modConv n (fun c => { c with status := w }))
    (stop : anyBit w [5, 4, 3, 13] = true) : statusRead s n w =
      if (s1.ppc n).gate = true then trip (raise s1 441 1 (n + at_ 16 w)) n 5 6 else raise s1 441 1 (n + at_ 16 w) := by
  subst hs1
  simp only [statusRead, stop, Bool.true_or, true_and, if_true]

end

/-- Settles O23: a transaction's end by what the segment carries, the rest by who hosts the segment. -/
theorem convertersAndSegments : Obligations.ConvertersAndSegments := by
  refine ⟨fun s n active usable => ends_of rfl (if_pos ⟨usable, active⟩), fun s n no => ends_of rfl (if_neg ?_),
    fun s n h => convUsable_unnamed h, fun s b seen t k d cur => ends_of rfl ?_, fun s b t d prio => txnOk_plain prio d,
    fun s b seen t k cur again => ⟨_, rfl,
      ends_of rfl ((txnDone_failed cur seen (.inl ⟨rfl, rfl⟩)).trans (txnFail_again cur again 1)),
      ends_of rfl ((txnDone_failed cur seen (.inr (.inl ⟨rfl, rfl⟩))).trans (txnFail_again cur again 2)),
      ends_of rfl ((txnDone_failed cur seen (.inr (.inr ⟨rfl, rfl⟩))).trans (txnFail_again cur again 3)),
      ends_of rfl (txnFail_again cur again 4)⟩,
    fun s b seen t k res kind s1 cur last prio h hs1 =>
      ends_of rfl ((txnDone_failed cur seen h).trans (txnFail_last cur last prio hs1 kind)),
    fun s b t k s1 cur last prio hs1 => ends_of rfl (txnFail_last cur last prio hs1 4),
    fun s b none_ active => ⟨fun seen r => ends_of rfl (txnDone_hosts none_ active seen r), ends_of rfl ?_⟩,
    fun s b t d none_ listens seg => ?_, fun s b t r none_ listens fails => ends_of rfl (txnDone_unheard none_ fails),
    fun s n w s1 hs1 => ⟨fun stop gate => (statusRead_stops hs1 stop).trans (if_pos gate),
      fun stop gate => (statusRead_stops hs1 stop).trans (if_neg (by simp [gate]))⟩,
    fun s b active none_ => ends_of rfl ?_, fun s b t k active cur => ends_of rfl ?_,
    fun s b n active next => ends_of rfl ?_, fun s b active => ends_of rfl (if_neg (by simp [active])),
    fun s b listens => ?_⟩
  · rcases no with no | no <;> simp [no]
  · simp only [pmbusTransactionDone, cur]
  · simp only [txnFail, none_]
  · obtain ⟨vout, op, status⟩ := txnSeen_of (s := s) seg d
    have seen := txnDone_listens (t := t) none_ listens d
    exact ⟨fun code => ends_of rfl (seen.trans (vout code)), fun code => ends_of rfl (seen.trans (op code)),
      fun code => ends_of rfl (seen.trans (status code))⟩
  · simp only [pmbusBusStuck, active, none_, Bool.not_true, Bool.false_eq_true, if_false]
  · simp only [pmbusBusStuck, active, cur, Bool.not_true, Bool.false_eq_true, if_false]
  · simp only [pmbusPoll, active, next, Bool.not_true, Bool.false_eq_true, if_false]
  · have no : (!s.chipActive) = true := by rw [listens]; rfl
    exact ⟨ends_of rfl (if_pos no), ends_of rfl (if_pos no), ends_of rfl (if_pos no)⟩

end Sys2Proof.Machine
end

section
/-!
The feeds (R139, R197–R199, R201, R216, R442): each row by the state of its feed, the diode by ON and WARNING, overcurrent by
the event that stands.
-/

namespace Sys2Proof.Machine

section
variable {s s1 : State} {b : Bool}

/-! ### The state machine of a feed (R197, R201) -/

/-- Outside DEAD-FEED a feed's new state only raises its events and has EW judged. -/
theorem feedEnter_alive (alive : s.sys.pstate ≠ .deadFeed) (st : FeedSt) (gate : Bool) (ev : State → State) :
    feedEnter s b st gate ev = ewEval (ev (s.modFeed b (fun f => { f with st := st, gate := gate }))) (healthy s) := by
  have no : ¬ (st = .on ∧ s.sys.pstate = .deadFeed ∧ s.sys.regen = true) := fun h => alive h.2.1
  simp only [feedEnter, modFeed_sys, if_neg no]

theorem feedAbsent_present (st : (s.feed b).st = .qualifying ∨ (s.feed b).st = .on ∨ (s.feed b).st = .warning)
    (present : (s.feed b).present = true) : feedAbsent b s = feedEnter s b .absent false
      (fun s => holdSinks (feedEvent (s.modFeed b (fun f => { f with present := false })) b 0 2)) := by
  rcases st with st | st | st <;> simp only [feedAbsent, st, present, if_true]

theorem feedOvervolt_opens (st : (s.feed b).st ≠ .ovOff) :
    feedOvervolt b s = feedEnter s b .ovOff false (fun s => feedEvent s b 4 1) := by
  unfold feedOvervolt
  split
  · contradiction
  · rfl

theorem feedOvReturn_none (st : (s.feed b).st ≠ .ovOff) : feedOvReturn b s = s := by
  unfold feedOvReturn
  split
  · contradiction
  · rfl

theorem feedQualifyStart_runs (st : (s.feed b).st ≠ .absent) : feedQualifyStart b s = s := by
  unfold feedQualifyStart
  split
  · contradiction
  · rfl

theorem diode_of (st : (s.feed b).st = .on ∨ (s.feed b).st = .warning) : diode (s.feed b) = true := by
  rcases st with st | st <;> simp only [diode, st, beq_self_eq_true, Bool.true_or, Bool.or_true]

/-! ### Overcurrent (R199) -/

theorem feedOvercurrent_starts (st : (s.feed b).st = .on ∨ (s.feed b).st = .warning)
    (h : (s.feed b).overCur = false ∨ (s.feed b).ocNext = 0)
    (hs1 : s1 = feedEvent (s.modFeed b (fun f => { f with overCur := true })) b 3 1) : feedOvercurrent b s =
      ocShed { s1 with pba := { s1.pba with restores := s1.pba.restores.filter (·.1 != .overcurrent) } } b 7 := by
  subst hs1
  exact if_pos ⟨diode_of st, h.imp_left fun off => by simp [off]⟩

theorem feedOvercurrent_stands (over_ : (s.feed b).overCur = true) (next : (s.feed b).ocNext ≠ 0) :
    feedOvercurrent b s = s := if_neg (by simp [over_, next])

theorem feedOvercurrentShedStep_on (over_ : (s.feed b).overCur = true) (next : (s.feed b).ocNext ≠ 0) :
    feedOvercurrentShedStep b s =
      if pAvg (s.feed b).meter * 100 < ((s.feed b).set.pmax * 95000 : Nat) then s.modFeed b (fun f => { f with ocNext := 0 })
      else ocShed s b ((s.feed b).ocNext - 1) := if_neg (by simp [over_, next])

theorem feedOvercurrentCleared_on (over_ : (s.feed b).overCur = true)
    (hs1 : s1 = feedEvent (s.modFeed b (fun f => { f with overCur := false, ocNext := 0 })) b 3 2) :
    feedOvercurrentCleared b s =
      if s1.pba.ew = true ∨ anyOverCur s1 = true then s1 else pbaTrigger (restoreClass s1 .overcurrent 0) 6 := by
  subst hs1
  exact if_pos over_

end

/-- Settles O24: each row by the state of its feed, overcurrent by the event that stands. -/
theorem feedsAndOvercurrent : Obligations.FeedsAndOvercurrent := by
  refine ⟨fun s b st => ⟨ends_of rfl ?_, ends_of rfl ?_⟩, fun s b st => ends_of rfl (feedQualifyStart_runs st),
    fun s b st => ⟨fun present => ends_of rfl ?_, ends_of rfl (feedOvervolt_opens (by simp [st])), ends_of rfl ?_,
      ends_of rfl (if_neg (by simp [diode, st]))⟩, fun s b gate ev st alive => feedEnter_alive alive st gate ev,
    fun s b st present => ends_of rfl (feedAbsent_present st present), fun s b st present => ends_of rfl ?_,
    fun s b st => ends_of rfl ?_, fun s b st => ends_of rfl ?_,
    fun s b st => ⟨ends_of rfl (feedOvervolt_opens st), ends_of rfl (feedOvReturn_none st)⟩,
    fun s b st => ⟨ends_of rfl ?_, ends_of rfl ?_⟩,
    fun s b st => ⟨fun gate => ends_of rfl (if_pos ⟨diode_of st, gate⟩),
      fun gate => ends_of rfl (if_pos ⟨diode_of st, by simp [gate]⟩), fun gate => ends_of rfl (if_neg (by simp [gate]))⟩,
    fun s b s1 st h hs1 => ends_of rfl (feedOvercurrent_starts st h hs1),
    fun s b over_ next => ends_of rfl (feedOvercurrent_stands over_ next), fun s b c => rfl,
    fun s b over_ next low => ends_of rfl ((feedOvercurrentShedStep_on over_ next).trans (if_pos low)),
    fun s b over_ next high => ends_of rfl ((feedOvercurrentShedStep_on over_ next).trans (if_neg (Int.not_lt.mpr high))),
    fun s b off => ⟨ends_of rfl (if_pos (by simp [off])), ends_of rfl (if_neg (by simp [off]))⟩,
    fun s b s1 over_ hs1 => ⟨fun stands => ends_of rfl ((feedOvercurrentCleared_on over_ hs1).trans (if_pos stands)),
      fun ew free => ends_of rfl ((feedOvercurrentCleared_on over_ hs1).trans (if_neg (by simp [ew, free])))⟩⟩
  · simp only [feedQualifyStart, st]
  · simp only [feedAbsent, st]
  · simp only [feedQualified, st]
  · simp only [feedWarning, st]
  · simp only [feedAbsent, st, present, if_true]
  · simp only [feedWarning, st]
  · simp only [feedWarningClear, st]
  · simp only [feedOvReturn, st]
  · simp only [feedOvervolt, st]

end Sys2Proof.Machine
end

section
/-!
The power budget (R202, R208–R211, R214, R215, R217, R218, R224): the computation of allocations step by step, and what a chip
that is not ACTIVE leaves undone.
-/

namespace Sys2Proof.Machine

section
variable {s : State}

theorem applyDecreases_idle (idle : s.chipActive = false) (new ns : List Nat) : applyDecreases new ns s = s := by
  cases ns with
  | nil => rfl
  | cons n ns => exact if_pos (by simp [idle])

theorem applyDecreases_cons (active : s.chipActive = true) (new : List Nat) (n : Nat) (ns : List Nat) :
    applyDecreases new (n :: ns) s = applyDecreases new ns (if getA new n < (s.pb n).alloc then
        allocNotify (s.modPb n (fun b => { b with target := getA new n, alloc := min b.alloc (getA new n) })) n (s.pb n).alloc
      else s.modPb n (fun b => { b with target := getA new n, alloc := min b.alloc (getA new n) })) :=
  if_neg (by simp [active])

theorem enforce_over {n : Nat} (active : s.chipActive = true) (over_ : tenths (s.pb n).alloc < contractPower s n) :
    enforce s n = sendHardReset (shortfallEvent s n 1) n := if_pos ⟨active, over_⟩

theorem committedOverBudget_over (over_ : tenths s.pba.budget < committedW s) : committedOverBudget s =
    allPorts.foldl enforce (shortfallEvent s (((classOrder s).find? (fun n =>
      decide (tenths (s.pb n).alloc < contractPower s n))).getD 0) 2) := if_pos over_

end

/-- Settles O25: each step of the computation by its definition, the rest by ACTIVE and by the power committed. -/
theorem budgetSteps : Obligations.BudgetSteps := by
  refine ⟨fun s s1 s2 s3 hs1 hs2 hs3 => ⟨_, _, rfl, rfl, ends_of rfl ?_⟩,
    fun s new idle => applyDecreases_idle idle new allPorts,
    fun s new n ns active => ⟨_, rfl, fun less => ?_, fun more => ?_⟩, fun s same => if_pos same, fun s => ends_of rfl rfl,
    fun s => ⟨fun active => ends_of rfl (if_pos active), fun idle => ends_of rfl (if_neg (by simp [idle]))⟩,
    fun s why c find => ends_of rfl ?_, fun s why find => ends_of rfl ?_,
    fun s within => ends_of rfl (if_neg (Nat.not_lt.mpr within)), fun s p over_ find => ends_of rfl ?_,
    fun s n => ⟨fun active over_ => enforce_over active over_, fun within => if_neg fun h => absurd h.2 (Nat.not_lt.mpr within)⟩,
    fun s n why => ⟨fun shed => if_pos shed, fun shed => if_neg (by simp [shed])⟩⟩
  · subst hs1 hs2 hs3
    rfl
  · rw [applyDecreases_cons active, if_pos less]
  · rw [applyDecreases_cons active, if_neg (Nat.not_lt.mpr more)]
  · simp only [restoreClassStep, find]
  · simp only [restoreClassStep, find]
  · rw [committedOverBudget_over over_, find]
    rfl

end Sys2Proof.Machine
end

section
/-!
Loss of a chip of a pair, claims and takeover (R221, R226, R229–R236, R239, R240, R242, R276, R422). Each row goes by the state
of the pair and by TKO_IN; a single chip leaves every one of them undone.
-/

namespace Sys2Proof.Machine

section
variable {s s1 : State}

/-! ### Heartbeat and loss (R229, R230) -/

theorem hbEdge_awake (pair : s.isPair = true) (awake : s.sys.pstate = .active) : hbEdge s =
    undefer (if s.pair.lost = true then insertion { s with pair := { s.pair with
        hbOk := true, hbAt := s.ticks, cause := if s.pair.cause = 3 then 0 else s.pair.cause } }
      else { s with pair := { s.pair with
        hbOk := true, hbAt := s.ticks, cause := if s.pair.cause = 3 then 0 else s.pair.cause } }) := by
  simp only [hbEdge, pair, awake, Bool.not_true, Bool.false_eq_true, if_false]

theorem partnerLost_of (part : takesPart s = true) (live : Bool) : partnerLost live s =
    if s.pair.detectOff = true ∨ s.pair.lost = true then { s with pair := { s.pair with hbOk := false } }
    else if (live && s.pair.ladle) = true then
      raisePair (degrade { s with pair := { s.pair with hbOk := false } } 3) 435 2
    else refuseHand (partnerGone s) := if_neg (by simp [part])

/-- A chip that takes part in the takeover is one of a pair. -/
theorem takesPart_single (single : s.isPair = false) : takesPart s = false := by
  simp only [takesPart, single, Bool.false_and]

/-- What a lost partner leaves, before a chip that listens claims. -/
theorem partnerGone_of (hs1 : s1 = dropPartnerLinks (raisePair { s with pair := { s.pair with
      hbOk := false, live := false, lost := true, partner := 15, rejoin := none, rejoinDone := false, synced := false } }
      435 1 0 1)) :
    (s1.pair.st = .standby ∨ s1.pair.st = .syncing → partnerGone s = claim s1 none) ∧
    (s1.pair.st = .active → partnerGone s = s1) := by
  subst hs1
  refine ⟨fun h => ?_, fun h => ?_⟩
  · rcases h with h | h <;> simp only [partnerGone, h]
  · simp only [partnerGone, h]

theorem claim_defers (tkoIn : s.pair.tkoIn = true) (role : s.sys.role = 2) (by_ : Option Nat) : claim s by_ =
    { s with pair := { s.pair with
      st := .deferring, tkoOut := false, byHand := by_, resets := 0, psx := false, partial_ := 0 } } := by
  simp only [claim, tkoIn, role, beq_self_eq_true, Bool.and_self, Bool.not_true, if_true]

theorem claim_claims (h : s.pair.tkoIn = false ∨ s.sys.role ≠ 2) (by_ : Option Nat) : claim s by_ =
    { s with pair := { s.pair with
      st := .claiming, tkoOut := true, byHand := by_, resets := 0, psx := false, partial_ := 0 } } := by
  have no : (s.pair.tkoIn && s.sys.role == 2) = false := by
    rcases h with h | h <;> simp [h]
  simp only [claim, no, Bool.not_false, Bool.false_eq_true, if_false]

theorem liveWord_alive {st : Nat} (pair : s.isPair = true) (ladle : s.pair.ladle = true) (st9 : st % 16 ≠ 9) (seq : Nat) :
    liveWord st seq s = undefer (judgeLevel { s with pair := { s.pair with
      partner := st % 16, live := true, liveRx := seq % 65536,
      detectOff := s.pair.detectOff && s.sys.pstate == .hibernate } } (st % 16)) := by
  simp only [liveWord, pair, ladle, st9, Bool.not_true, Bool.or_self, Bool.false_eq_true, false_and, if_false]

theorem judgeLevel_same (level : s.pair.partnerCl = s.sys.cl) (cause : s.pair.cause ≠ 5) (st : Nat) : judgeLevel s st = s := by
  simp only [judgeLevel, if_pos level, if_neg cause]

/-! ### Claims (R232, R235) -/

theorem partnerResetPulseEnd_active (st : s.pair.st = .partnerReset) (tkoIn : s.pair.tkoIn = true) : partnerResetPulseEnd s =
    if s.pair.resets < 3 then resetPartner { s with pair := { s.pair with resetOut := false } }
    else raisePair { s with pair := { s.pair with resetOut := false, st := .faulted, tkoOut := false, hbOut := false } }
      433 5 0 2 := by
  simp only [partnerResetPulseEnd, st, tkoIn, Bool.not_true, Bool.false_eq_true, if_false]

/-- The pair's self-test has passed: the chip synchronises, claims or waits. -/
theorem pairSelfTestDone_passed (pair : s.isPair = true) (st : s.pair.st = .boot) (hs1 : s1 = raise s 446 1 (sat 32 0)) :
    pairSelfTestDone 0 s =
      if s1.pair.tkoIn = true then setPairSt { s1 with pair := { s1.pair with hbOut := true } } .syncing
      else if s1.sys.role = 1 then claim { s1 with pair := { s1.pair with hbOut := true } } none
      else setPairSt { s1 with pair := { s1.pair with hbOut := true } } .waitPrimary := by
  subst hs1
  exact if_pos ⟨pair, st⟩

theorem pairSelfTestDone_failed {failed : Nat} (pair : s.isPair = true) (st : s.pair.st = .boot) (fails : failed ≠ 0)
    (hs1 : s1 = raise s 446 2 (sat 32 failed)) : pairSelfTestDone failed s = { s1 with
      sys := { s1.sys with selfTestFailed := true }
      pair := { s1.pair with st := .faulted, hbOut := false, tkoOut := false } } := by
  subst hs1
  simp only [pairSelfTestDone, pair, st, fails, and_self, ne_eq, not_false_eq_true, if_true, if_false]

/-! ### Takeover (R234, R236, R240) -/

theorem takeoverPsxActive_lost (st : s.pair.st = .active) (psx : s.pair.psx = false) (hand : s.pair.byHand = none)
    (resets : s.pair.resets = 0) {d : Nat} (hd : d = sat 32 (s.ticks - s.pair.hbAt))
    (hs1 : s1 = raisePair { s with pair := { s.pair with psx := true, lastDur := d, byHand := none } } 433 1 d 1) :
    takeoverPsxActive s = answerMoved (ports32.foldl startClears (resyncLends (allPorts.foldl resendPd s1))) := by
  subst hs1 hd
  simp only [takeoverPsxActive, st, psx, hand, resets, and_self, Option.isSome_none, Option.getD_none, Nat.lt_irrefl,
    Bool.false_eq_true, reduceCtorEq, if_true, if_false]

theorem takeoverPsxActive_hand {h : Nat} (st : s.pair.st = .active) (psx : s.pair.psx = false)
    (hand : s.pair.byHand = some h) (plain : h ≠ 4) {d : Nat} (hd : d = sat 32 (s.ticks - s.pair.handAt))
    (hs1 : s1 = raisePair { s with pair := { s.pair with psx := true, lastDur := d, byHand := none } } 433 3 d h) :
    takeoverPsxActive s = answerMoved (ports32.foldl startClears (resyncLends (allPorts.foldl resendPd s1))) := by
  subst hs1 hd
  simp only [takeoverPsxActive, st, psx, hand, plain, and_self, Option.isSome_some, Option.getD_some, Option.some.injEq,
    if_true, if_false]

end

/-- Settles O26: each row by the state of the pair and by TKO_IN. -/
theorem pairLossAndClaims : Obligations.PairLossAndClaims := by
  refine ⟨fun s pair awake lost => ends_of rfl ((hbEdge_awake pair awake).trans (by rw [if_neg (by simp [lost])])),
    fun s pair asleep => ends_of rfl ?_,
    fun s pair awake lost => ends_of rfl ((hbEdge_awake pair awake).trans (by rw [if_pos lost])),
    fun s => ⟨fun st => if_neg st, fun st => if_pos st⟩, fun s pair => ends_of rfl (if_pos pair), fun s single => ?_,
    fun s part detect lost => ends_of rfl ((partnerLost_of part false).trans (if_neg (by simp [detect, lost]))),
    fun s live part h => ends_of rfl ((partnerLost_of part live).trans (if_pos h)), fun s s1 hs1 => partnerGone_of hs1,
    fun s by_ => ⟨fun tkoIn role => claim_defers tkoIn role by_, fun h => claim_claims h by_⟩,
    fun s part detect lost ladle => ends_of rfl ((partnerLost_of part true).trans
      ((if_neg (by simp [detect, lost])).trans (if_pos ladle))),
    fun s st seq pair ladle st9 => ends_of rfl (liveWord_alive pair ladle st9 seq),
    fun s st level cause => judgeLevel_same level cause st, fun s st tkoIn => ends_of rfl ?_,
    fun s st tkoIn => ends_of rfl ?_, fun s => rfl, fun s st tkoIn => ⟨_, rfl, ends_of rfl ?_, ends_of rfl ?_⟩,
    fun s st tkoIn => ⟨ends_of rfl ?_, ends_of rfl ?_⟩, fun s st tkoIn hand => ends_of rfl ?_,
    fun s st tkoIn => ends_of rfl ?_, fun s st tkoIn => ends_of rfl ?_,
    fun s st tkoIn few => ends_of rfl ((partnerResetPulseEnd_active st tkoIn).trans (if_pos few)),
    fun s st tkoIn many => ends_of rfl ((partnerResetPulseEnd_active st tkoIn).trans (if_neg (Nat.not_lt.mpr many))),
    fun s d st psx hand resets hd => ⟨_, rfl, ends_of rfl (takeoverPsxActive_lost st psx hand resets hd rfl)⟩,
    fun s d h st psx hand plain hd => ⟨_, rfl, ends_of rfl (takeoverPsxActive_hand st psx hand plain hd rfl)⟩,
    fun s st => ends_of rfl (if_neg fun h => st h.1),
    fun s pair st => ⟨_, rfl, fun tkoIn => ends_of rfl ((pairSelfTestDone_passed pair st rfl).trans (if_pos tkoIn)),
      fun tkoIn role => ends_of rfl ((pairSelfTestDone_passed pair st rfl).trans
        ((if_neg (by simp [tkoIn])).trans (if_pos role))),
      fun tkoIn role => ends_of rfl ((pairSelfTestDone_passed pair st rfl).trans
        ((if_neg (by simp [tkoIn])).trans (if_neg role)))⟩,
    fun s failed s1 pair st fails hs1 => ends_of rfl (pairSelfTestDone_failed pair st fails hs1),
    fun s st tkoIn => ends_of rfl (if_pos ⟨st, tkoIn⟩),
    fun s no => ends_of rfl (if_neg fun ⟨st, tkoIn⟩ => no.elim (· st) (by simp [tkoIn])),
    fun s st => ends_of rfl ?_, fun s st role => ends_of rfl ?_, fun s st => ends_of rfl ?_, fun s st hand => ends_of rfl ?_,
    fun s level st => ends_of rfl ?_, fun s pair detect ok => ends_of rfl ?_, fun s pair detect ok => ends_of rfl ?_⟩
  · simp only [hbEdge, pair, asleep, Bool.not_true, Bool.false_eq_true, if_false]
  · have no : (!s.isPair) = true := by rw [single]; rfl
    exact ⟨ends_of rfl (if_neg (by simp [single])), ends_of rfl (if_pos no),
      ends_of rfl (if_pos (by simp [takesPart_single single])), ends_of rfl (if_pos (by simp [single])),
      ends_of rfl (if_pos (by simp [single])), ends_of rfl (if_neg (by simp [single]))⟩
  · simp only [claimResample, st, tkoIn, if_true]
  · simp only [claimResample, st, tkoIn, Bool.false_eq_true, if_false]
  · simp only [claimResample, st, tkoIn, Bool.false_eq_true, if_false]
  · simp only [deferralEnd, st, tkoIn, Bool.false_eq_true, if_false]
  · simp only [deferralEnd, st, tkoIn, if_true]
  · simp only [claimResample, st, tkoIn, if_true]
  · simp only [claimWon, st, tkoIn, hand, Option.isSome_none, Bool.false_eq_true, if_false]
  · simp only [claimWon, st, tkoIn, if_true]
  · simp only [partnerResetPulseEnd, st, tkoIn, Bool.not_false, if_true]
  · simp only [tkoInEdge, st, if_true]
  · simp only [tkoInEdge, st, role, beq_self_eq_true, Bool.and_self, if_true]
  · simp only [tkoInEdge, st, Bool.false_eq_true, if_false]
  · simp only [tkoInEdge, st, hand, Bool.not_false, Bool.and_self, if_true]
  · simp only [tkoInEdge, st]
  · simp only [pairWakeDetectTimeout, pair, detect, ok, and_self, if_true]
  · simp only [pairWakeDetectTimeout, pair, detect, ok, and_self, Bool.false_eq_true, if_true, if_false]

end Sys2Proof.Machine
end

section
/-!
The Ladle, synchronisation, handover and rejoin of a pair (R19–R21, R221, R224–R228, R238–R242, R268, R276, R277, R385). What
the ACTIVE chip owns its partner takes; a row of the pair leaves a single chip as it is.
-/

namespace Sys2Proof.Machine

section
variable {s s1 : State}

/-! ### The Ladle comes up and goes down (R221, R230, R238, R276, R277) -/

theorem ladleUp_of (pair : s.isPair = true) (down : s.pair.ladle = false) (hs1 : s1 = raise { s with pair := { s.pair with
      ladle := true, syncReq := true, synced := false, told := [], toldMirror := [] } } 383 1 0) : ladleUp s =
    if s1.pair.st = .active then sendSync s1
    else if s1.chipActive = true then s1
    else sendSlow { followActive s1 with pair := { (followActive s1).pair with told := ownItems (followActive s1) } }
      (.askSync :: ownItems (followActive s1)) := by
  subst hs1
  exact if_neg (by simp [pair, down])

theorem followActive_of (s : State) :
    (s.pair.ladle = true → s.chipActive = false → followActive s = setParent s (some 0)) ∧
    (s.chipActive = true → followActive s = s) :=
  ⟨fun ladle idle => if_pos (by simp [ladle, idle]), fun active => if_neg (by simp [active])⟩

/-- The Ladle falls on a chip with its heartbeat: ownership freezes. -/
theorem ladleDown_frozen (pair : s.isPair = true) (up : s.pair.ladle = true) (cause : s.pair.cause ≠ 3) : ladleDown s =
    refuseHand (raise { s with pair := { s.pair with
      ladle := false, live := false, synced := false
      st := if s.pair.st = .standby then .syncing else s.pair.st } } 383 2 0) := by
  have fault : (s.pair.cause == 3) = false := beq_false_of_ne cause
  simp only [ladleDown, pair, up, fault, Bool.not_true, Bool.or_self, Bool.false_and, Bool.false_eq_true, if_false]

/-- With the heartbeat lost before it, the partner is lost with the Ladle. -/
theorem ladleDown_lost (pair : s.isPair = true) (up : s.pair.ladle = true) (cause : s.pair.cause = 3)
    (part : takesPart s = true) (lost : s.pair.lost = false) (detect : s.pair.detectOff = false) : ladleDown s =
    refuseHand (partnerGone (raise { s with pair := { s.pair with
      ladle := false, live := false, synced := false
      st := if s.pair.st = .standby then .syncing else s.pair.st } } 383 2 0)) := by
  simp only [ladleDown, pair, up, cause, part, lost, detect, beq_self_eq_true, Bool.not_true, Bool.not_false, Bool.or_self,
    Bool.and_self, Bool.false_eq_true, if_true, if_false]

theorem fullSyncDone_whole (pair : s.isPair = true) (up : s.pair.ladle = true) (level : s.pair.partnerCl = s.sys.cl)
    (whole : s.degraded = false) (st : s.pair.st = .syncing) (cause : s.pair.cause = 0) : fullSyncDone s =
      rejoinCheck (raisePair { s with pair := { s.pair with st := .standby, synced := true, syncReq := false, cause := 0 } }
        434 2) := by
  have no : (0 : Nat) ≠ 3 := by decide
  simp only [fullSyncDone, pair, up, level, whole, st, cause, if_neg no, bne_self_eq_false, Bool.not_true, Bool.or_self,
    Bool.false_eq_true, if_true, if_false]

/-! ### Items taken (R226–R228) -/

theorem digestFrame_standby (pair : s.isPair = true) (idle : s.chipActive = false) (mismatch : List Nat) :
    digestFrame mismatch s = mismatch.foldl (fun s p =>
      sendSlow (raise { s with pair := { s.pair with digests := min 0xFFFFFFFF (s.pair.digests + 1) } } 383 5 0) [.ask p]) s :=
  if_pos (by simp [pair, idle])

theorem mirrorFrame_standby (pair : s.isPair = true) (idle : s.chipActive = false) (items : List MirrorItem)
    (hs1 : s1 = items.foldl mirrorItem s) : mirrorFrame items s =
      if (s1.pair.syncReq || s1.pair.synced) = true then s1
      else sendSlow { s1 with pair := { s1.pair with syncReq := true } } [.askSync] := by
  subst hs1
  exact if_pos (by simp [pair, idle])

/-- What only the ACTIVE chip answers, and what it does not take from its partner. -/
theorem slowItem_active (active : s.chipActive = true) (p n id nd : Nat) (f t : Bool) :
    slowItem s (.ask p) = sendSlow s [portItem s p] ∧ slowItem s .askSync = sendSync s ∧
    slowItem s (.alloc n 0 f t) = s ∧ slowItem s (.claim id nd f t) = s :=
  ⟨if_pos active, if_pos active, if_pos active, if_pos active⟩

/-! ### Handover (R240, R241) -/

/-- An ACTIVE chip with a handover waiting, at no quiet point. -/
theorem handoverQuietPoint_of {h : Hand} (hand : s.pair.hand = some h) (st : s.pair.st = .active) : handoverQuietPoint s =
    if (s.cmd.waits.any (fun w => !h.waits.contains w.num) || !quietPoint s) = true then s
    else if (!partnerReady s) = true then refuseHand s
    else
      { sendLadle (dropMoved { dueReset s h with pair := { (dueReset s h).pair with sent := movedItems (dueReset s h) } })
          0 0x3C (b2n h.rejoin) [] with
        pair := { (sendLadle (dropMoved { dueReset s h with pair :=
            { (dueReset s h).pair with sent := movedItems (dueReset s h) } }) 0 0x3C (b2n h.rejoin) []).pair with
          st := .handingOver
          handAt := (sendLadle (dropMoved { dueReset s h with pair :=
            { (dueReset s h).pair with sent := movedItems (dueReset s h) } }) 0 0x3C (b2n h.rejoin) []).ticks
          hand := some { h with waits := h.waits.filter (fun n => (dropMoved { dueReset s h with pair :=
            { (dueReset s h).pair with sent := movedItems (dueReset s h) } }).cmd.waits.any (fun w => w.num == n)) } } } := by
  unfold handoverQuietPoint
  rw [hand, st]

theorem handoverRelease_of {s2 : State} (st : s.pair.st = .handingOver) (hs1 : s1 = releaseSeg (releaseSeg s false) true)
    (hs2 : s2 = { s1 with pair := { s1.pair with st := .standby, tkoOut := false, gates := true, psx := false } }) :
    handoverRelease s = if s2.pair.lost = true then claim s2 none else followActive s2 := by
  subst hs1 hs2
  simp only [handoverRelease, st]

theorem handoverFrame_standby (st : s.pair.st = .standby) (r : Bool) : handoverFrame r s =
    if s.pair.tkoIn = true then { s with pair := { s.pair with byHand := some (if r then 4 else 3), handAt := s.ticks } }
    else claim { s with pair := { s.pair with byHand := some (if r then 4 else 3), handAt := s.ticks } }
      (some (if r then 4 else 3)) := by
  simp only [handoverFrame, st]

theorem handoverGateRelease_plain (gates : s.pair.gates = true) (hand : s.pair.hand = none) (d : Nat) :
    handoverGateRelease (some d) s =
      endHandWaits (raisePair { s with pair := { s.pair with gates := false, lastDur := sat 32 d } } 433 4 (sat 32 d) 3)
        (fun _ => .ok (leBytes 4 (sat 32 d))) := by
  simp only [handoverGateRelease, gates, hand, Option.map_none, Option.getD_none, Option.getD_some, Bool.false_eq_true, if_true,
    if_false]

end

/-- Settles O27: each row by the state of the pair, an item by whether the chip is ACTIVE. -/
theorem pairLadleAndHandover : Obligations.PairLadleAndHandover := by
  refine ⟨fun s s1 pair down hs1 => ⟨fun st => ends_of rfl ((ladleUp_of pair down hs1).trans (if_pos st)),
      fun st active => ends_of rfl ((ladleUp_of pair down hs1).trans ((if_neg st).trans (if_pos active))),
      fun st idle => ⟨_, rfl, ends_of rfl ((ladleUp_of pair down hs1).trans ((if_neg st).trans (if_neg (by simp [idle]))))⟩⟩,
    fun s => followActive_of s, fun s pair up cause st => ends_of rfl ?_, fun s pair up cause st => ends_of rfl ?_,
    fun s pair up cause part lost detect st => ends_of rfl ?_,
    fun s pair up level whole st cause => ends_of rfl (fullSyncDone_whole pair up level whole st cause),
    fun s pair level => ⟨ends_of rfl (if_pos (by simp [level])), fun items => ends_of rfl (if_neg fun h => level h.2)⟩,
    fun s pair active up => ends_of rfl (if_pos (by simp [pair, active, up])), fun s no => ends_of rfl (if_neg ?_),
    fun s pair idle => ends_of rfl (digestFrame_standby pair idle []),
    fun s p s1 pair idle hs1 => ends_of rfl (by subst hs1; exact digestFrame_standby pair idle [p]),
    fun s items pair => ends_of rfl (if_pos pair), fun s items pair level => ends_of rfl (if_pos ⟨pair, level⟩),
    fun s u bytes c ls => ⟨rfl, rfl, rfl⟩, fun s p n id nd f t active => slowItem_active active p n id nd f t,
    fun s n w f t idle => if_neg (by simp [idle]),
    fun s items pair idle => ⟨_, rfl, fun h => ends_of rfl ((mirrorFrame_standby pair idle items rfl).trans
        (if_pos (by simpa using h))),
      fun req synced => ends_of rfl ((mirrorFrame_standby pair idle items rfl).trans (if_neg (by simp [req, synced])))⟩,
    fun s l tx rx p d b => ⟨rfl, rfl⟩, fun s pair active => ends_of rfl (if_pos (by simp [pair, active])),
    fun s items => ⟨fun idle => ends_of rfl (if_neg (by simp [idle])), fun single => ends_of rfl (if_neg (by simp [single]))⟩,
    fun s h hand st busy => ends_of rfl ((handoverQuietPoint_of hand st).trans (if_pos (by simpa using busy))),
    fun s h hand st free quiet ready => ends_of rfl ((handoverQuietPoint_of hand st).trans
      ((if_neg (by rw [free, quiet]; decide)).trans (if_pos (by simp [ready])))),
    fun s h s1 s2 hand st free quiet ready hs1 hs2 => ⟨_, rfl, ends_of rfl ?_⟩,
    fun s h hand st plain => ends_of rfl ?_, fun s none_ => ⟨ends_of rfl ?_, ends_of rfl ?_⟩,
    fun s st => ⟨_, _, rfl, rfl, fun lost => ends_of rfl ((handoverRelease_of st rfl rfl).trans
        (if_neg fun h => Bool.false_ne_true (lost.symm.trans h))),
      fun lost => ends_of rfl ((handoverRelease_of st rfl rfl).trans (if_pos lost))⟩,
    fun s r st tkoIn => ends_of rfl ((handoverFrame_standby st r).trans (if_pos tkoIn)),
    fun s r st tkoIn => ends_of rfl ((handoverFrame_standby st r).trans (if_neg (by simp [tkoIn]))),
    fun s r st => ⟨ends_of rfl ?_, ends_of rfl ?_⟩,
    fun s d gates hand => ends_of rfl (handoverGateRelease_plain gates hand d),
    fun s d gates => ends_of rfl (if_neg (by simp [gates])), fun s no => ends_of rfl ?_,
    fun s e rejoin free => ends_of rfl ?_, fun s retry => ends_of rfl (if_pos retry),
    fun s retry => ends_of rfl (if_neg (by simp [retry]))⟩
  · rw [ladleDown_frozen pair up cause, if_neg st]
  · rw [ladleDown_frozen pair up cause, if_pos st]
  · have other : s.pair.st ≠ .standby := by simp [st]
    rw [ladleDown_lost pair up cause part lost detect, if_neg other]
  · rcases no with no | no <;> simp [no]
  · subst hs1 hs2
    exact (handoverQuietPoint_of hand st).trans
      ((if_neg (by rw [free, quiet]; decide)).trans (if_neg (by simp [ready])))
  · simp only [handoverWaitExpiry, hand, st, plain, Bool.false_eq_true, if_false]
  · simp only [handoverQuietPoint, none_]
  · simp only [handoverWaitExpiry, none_]
  · simp only [handoverFrame, st]
  · simp only [handoverRelease, st]
  · rcases no with none_ | frozen
    · simp only [rejoinTimerExpiry, none_]
    · unfold rejoinTimerExpiry
      split
      · rfl
      · exact if_pos frozen
  · simp only [rejoinTimerExpiry, rejoin, free, Bool.false_eq_true, if_false]

end Sys2Proof.Machine
end

section
/-! PROOF. The fabric links (O28): a row by the state of its link. -/

namespace Sys2Proof.Machine

/-! ### Blocks and bring-up -/

theorem readBlock_invalid (st line : Nat) (bad : line % 4 = 0 ∨ line % 4 = 3) : (readBlock st line).1 = .invalid := by
  have one : ¬ line % 4 = 1 := by omega
  have two : ¬ (line % 4 = 2 ∧ leNat ((leBytes 8 (descramble 64 st (line / 4)).1).take 1) = 0x1E) := fun h => by omega
  exact (if_neg one).trans (if_neg two)

theorem blockLock_locked {s : State} {l : Nat} {heads : List Nat} {ts : Nat} (lock : headsLock heads = true) (many : 8 ≤ ts) :
    ((s.link l).st = .acquire → blockLock l heads ts s =
      trainPhy (s.modLink l (fun k => { k with st := .train, modeTold := false })) (11 + l)) ∧
    ((s.link l).st = .retrain → blockLock l heads ts s = trainPhy (s.modLink l (fun k => { k with phase := .train })) (11 + l)) ∧
    ((s.link l).st = .up → blockLock l heads ts s = s) := by
  have enough : ¬ (!headsLock heads || decide (ts < 8)) = true := by simp [lock]; omega
  refine ⟨fun st => ?_, fun st => ?_, fun st => ?_⟩ <;>
  · refine (if_neg enough).trans ?_
    simp only [st]

theorem blockLock_short (s : State) (l : Nat) {heads : List Nat} {ts : Nat} (short : headsLock heads = false ∨ ts < 8) :
    blockLock l heads ts s = s := if_pos (by simpa using short)

/-- The words exchanged in TRAIN: the modes agree, or the mismatch is told once. -/
theorem tsExchangeDone_train {s : State} {l : Nat} (t : TsWord) (st : (s.link l).st = .train) : tsExchangeDone l t s =
    if tsAgrees s l t = true then
      let s := s.modLink l (fun k => { k with
        ladle := t.ladle, nbrLink := t.link % 4, nbrNode := t.node, nbrRole := t.role
        st := if k.st = .train then .check else k.st, phase := .check })
      if t.ladle then { s with pair := { s.pair with partnerCl := t.cl } } else s
    else if (s.link l).modeTold = true then s
    else raise (s.modLink l (fun k => { k with modeTold := true })) 442 5
      ((b2n (s.ladleMode l) + 2 * s.sys.role) + at_ 8 (b2n t.ladle + 2 * t.role)) :=
  if_neg (by simp [st])

theorem tsExchangeDone_agrees {s : State} {l : Nat} {t : TsWord} (st : (s.link l).st = .train) (agrees : tsAgrees s l t = true) :
    tsExchangeDone l t s = (let s := s.modLink l (fun k => { k with
        ladle := t.ladle, nbrLink := t.link % 4, nbrNode := t.node, nbrRole := t.role
        st := if k.st = .train then .check else k.st, phase := .check })
      if t.ladle then { s with pair := { s.pair with partnerCl := t.cl } } else s) :=
  (tsExchangeDone_train t st).trans (if_pos agrees)

theorem linkCheckDone_check {s : State} {l : Nat} (ok : Bool) (rtt : Nat) (st : (s.link l).st = .check) :
    linkCheckDone l ok rtt s =
      if ok = true then
        let s := s.modLink l (fun k => { k with
          st := .up, rtt := sat 16 rtt, txSeq := 0, rxSeq := 0xFF, replay := [], naked := false, burst := none, fresh := true })
        pump (sendHello (grantBuffers (raiseLink s l 0 1) l) l) l
      else s.modLink l (fun k => { k with st := .acquire }) := if_pos st

theorem lockLost_seen {s : State} {l : Nat} {silence : Bool} {heads : List Nat} (seen : silence = true ∨ headsLost heads = true) :
    ((s.link l).st = .up → lockLost l silence heads s = enterRetrain s l (if silence then 2 else 1)) ∧
    ((s.link l).st = .check ∨ (s.link l).st = .train →
      lockLost l silence heads s = s.modLink l (fun k => { k with st := .acquire })) := by
  have lost : ¬ (!silence && !headsLost heads) = true := by simpa [Decidable.or_iff_not_imp_left] using seen
  refine ⟨fun st => ?_, fun st => ?_⟩
  · refine (if_neg lost).trans ?_
    simp only [st]
  · refine (if_neg lost).trans ?_
    rcases st with st | st <;> simp only [st]

theorem lockLost_unseen (s : State) (l : Nat) {heads : List Nat} (kept : headsLost heads = false) :
    lockLost l false heads s = s := if_pos (by simp [kept])

/-! ### Words of a link -/

theorem linkWordSend_up {s : State} {l : Nat} (up : (s.link l).st = .up) (none_ : (s.link l).freed.all (· == 0) = true) :
    ((s.link l).ladle = false → linkWordSend l s = sendWord s l 0x00 []) ∧
    ((s.link l).ladle = true → linkWordSend l s = sendWord { s with pair := { s.pair with liveTx := s.pair.liveTx + 1 } } l 0x50
        (leBytes 1 s.pair.st.code ++ leBytes 2 s.pair.liveTx.toNat)) := by
  have no : ¬ (s.link l).st ≠ .up := fun h => h up
  exact ⟨fun ladle => (if_neg no).trans ((if_neg (by simp [ladle])).trans (if_pos none_)),
    fun ladle => (if_neg no).trans (if_pos ⟨ladle, none_⟩)⟩

theorem linkWordSend_bringUp {s : State} {l : Nat} (down : (s.link l).st ≠ .up) (first : (s.link l).st ≠ .retrain) :
    linkWordSend l s = sendBringUp s l (s.link l).st := by
  refine (if_pos down).trans ?_
  rw [if_neg first]

theorem frameReceived_naked {s : State} {l : Nat} (q : Nat) (f : Frame) (naked : (s.link l).naked = true) :
    frameReceived l q f true true s = s := by
  simp [frameReceived, naked]

theorem creditStallExpiry_ladle {s : State} {l : Nat} (vc : Nat) (ladle : (s.link l).ladle = true) :
    creditStallExpiry l vc s = s := by
  simp only [creditStallExpiry, ladle]

theorem creditStallExpiry_head {s : State} {l vc : Nat} {f : Frame} {q : List (Frame × Option Nat)} {t0 : Nat}
    (ladle : (s.link l).ladle = false) (wait : ((s.link l).vcs.getD vc {}).waitFrom = some t0)
    (head : ((s.link l).vcs.getD vc {}).q = (f, none) :: q) : creditStallExpiry l vc s =
      pump (raiseLink (raiseLink (countDiscard (s.modLink l (fun k => { k with
        vcs := modAt k.vcs vc (fun v => { v with q := q, waitFrom := none }), stalled := true })) l) l 3 1 vc) l 3 2 vc) l := by
  simp only [creditStallExpiry, ladle, wait, head]

/-- What arrives on a link that is not UP changes nothing. -/
theorem linkRows_notUp {s : State} {l : Nat} (down : (s.link l).st ≠ .up) : replayTimerExpiry l s = s ∧ retrainWord l s = s ∧
    (∀ q, nakWord l q s = s) ∧ (∀ a, sleepWord l a s = s) :=
  ⟨if_neg fun h => down h.1, if_neg down, fun _ => if_neg down, fun _ => if_pos down⟩

theorem sleepWord_up {s : State} {l : Nat} (up : (s.link l).st = .up) :
    sleepWord l false s = enterSleep (sendWord s l 0x61 [1]) l ∧
    ((s.link l).sleepReq = true → sleepWord l true s = enterSleep s l) := by
  have no : ¬ (s.link l).st ≠ .up := fun h => h up
  exact ⟨(if_neg no).trans (if_neg Bool.false_ne_true), fun req => (if_neg no).trans ((if_pos rfl).trans (if_pos req))⟩

/-- Settles O28: each row by the state of its link; a block by its sync header. -/
theorem fabricLinks : Obligations.FabricLinks := by
  refine ⟨fun st body full => readBlock_data st body full, fun st code arg hc ha => readBlock_word st code arg hc ha,
    readBlock_invalid, fun s l heads ts lock many => ⟨fun st => ends_of rfl ((blockLock_locked lock many).1 st),
      fun st => ends_of rfl ((blockLock_locked lock many).2.1 st), fun st => ends_of rfl ((blockLock_locked lock many).2.2 st)⟩,
    fun s l heads ts short => ends_of rfl (blockLock_short s l short), fun s l t s1 st agrees hs1 => ?_,
    fun s l t st differs told => ends_of rfl ((tsExchangeDone_train t st).trans
      ((if_neg (by simp [differs])).trans (if_pos told))),
    fun s l t st differs told => ends_of rfl ((tsExchangeDone_train t st).trans
      ((if_neg (by simp [differs])).trans (if_neg (by simp [told])))),
    fun s l rtt st => ends_of rfl ((linkCheckDone_check false rtt st).trans (if_neg Bool.false_ne_true)),
    fun s l rtt st => ⟨_, rfl, ends_of rfl ((linkCheckDone_check true rtt st).trans (if_pos rfl))⟩,
    fun s l b hs st seen => ends_of rfl ((lockLost_seen seen).1 st),
    fun s l b hs st seen => ends_of rfl ((lockLost_seen seen).2 st), fun s l hs kept => ends_of rfl (lockLost_unseen s l kept),
    fun s l st => ends_of rfl (if_pos st), fun s l st => ends_of rfl (if_neg st),
    fun s l up ladle none_ => ends_of rfl ((linkWordSend_up up none_).1 ladle),
    fun s l up ladle none_ => ends_of rfl ((linkWordSend_up up none_).2 ladle),
    fun s l => ⟨fun st => ends_of rfl ?_, fun st => ends_of rfl ?_, fun st => ends_of rfl ?_⟩,
    fun s l q f up naked next => ⟨_, rfl, ends_of rfl (frame_ok s l q f up naked next)⟩,
    fun s l q f up naked next => ends_of rfl (frame_nak s l q f up naked next),
    fun s l q f _ naked => ends_of rfl (frameReceived_naked q f naked), fun s l q => ends_of rfl rfl,
    fun s l q up => ends_of rfl (if_pos up), fun s l q => ends_of rfl rfl, fun s l vc n => ends_of rfl rfl,
    fun s l vc n s1 hs1 => ⟨fun free => ends_of rfl ?_, fun stalled moves => ends_of rfl ?_⟩,
    fun s l up => ends_of rfl (if_pos up), fun s l up held => ends_of rfl (if_pos ⟨up, by simpa using held⟩),
    fun s l down => ?_, fun s l vc ladle => ends_of rfl (creditStallExpiry_ladle vc ladle),
    fun s l vc f q t0 ladle wait head => ⟨_, rfl, ends_of rfl (creditStallExpiry_head ladle wait head)⟩,
    fun s l up => ends_of rfl (sleepWord_up up).1, fun s l up req => ends_of rfl ((sleepWord_up up).2 req),
    fun s l st waking waits => ends_of rfl (if_pos ⟨st, by simp [waking], waits⟩),
    fun s l st => ⟨ends_of rfl (if_neg fun h => st h.1), ends_of rfl (if_neg fun h => st h.1)⟩,
    fun s l => ⟨ends_of rfl rfl, ends_of rfl rfl⟩, fun s l st en => ends_of rfl (if_pos ⟨st, en⟩)⟩
  · subst hs1
    exact ⟨fun plain => ends_of rfl ((tsExchangeDone_agrees st agrees).trans (if_neg (by simp [plain]))),
      fun ladle => ends_of rfl ((tsExchangeDone_agrees st agrees).trans (if_pos ladle))⟩
  · rw [linkWordSend_bringUp (by simp [st]) (by simp [st]), st, sendBringUp]
  · rw [linkWordSend_bringUp (by simp [st]) (by simp [st]), st, sendBringUp]
  · rw [linkWordSend_bringUp (by simp [st]) (by simp [st]), st, sendBringUp]
  · subst hs1
    exact if_neg fun h => Bool.false_ne_true (free.symm.trans h.1)
  · subst hs1
    exact if_pos ⟨stalled, by rw [moves]; rfl⟩
  · obtain ⟨timer, retrain, nak, sleep⟩ := linkRows_notUp down
    exact ⟨ends_of rfl timer, ends_of rfl retrain, fun q => ends_of rfl (nak q), fun a => ends_of rfl (sleep a)⟩

end Sys2Proof.Machine
end

section
/-! PROOF. Discovery and routes of the fabric (O29). -/

namespace Sys2Proof.Machine

/-! ### HELLO and LSAs -/

/-- A HELLO on a fabric link that is UP: the neighbour's fields, the events of a changed UID, and the own LSA. -/
theorem hello_up {s : State} {l : Nat} (h : Hello) (up : s.fabUp l = true) : hello l h s =
    (let s1 := s.modLink l (fun k =>
      { k with nbrUid := h.uid, nbrNode := h.claim, nbrLink := h.link % 4, nbrRole := h.role, nbrReserve := !h.active })
    let s2 := if (s.link l).nbrUid ≠ h.uid then
        raiseLink (if (s.link l).nbrUid ≠ 0 then raiseLink s1 l 4 2 0 0 0 0 0 (s.link l).nbrUid else s1) l 4 1 0 0 0 0 0 h.uid
      else s1
    if (s.link l).usable ∧ ((s.link l).nbrUid ≠ h.uid ∨ (s.link l).nbrLink ≠ h.link % 4) then announce s2 l else s2) :=
  if_neg (by simp [up])

/-- An LSA of another node: the held one is compared by its number, and a new one needs room. -/
theorem lsa_other {s : State} {l : Nat} {a : Lsa} (up : s.fabUp l = true) (other : a.uid ≠ s.nodeUid) : lsa l a s =
    (let newer : Bool := match s.fab.lsas.find? (fun h => h.lsa.uid == a.uid) with
      | some h => decide (h.lsa.seq < a.seq)
      | none => decide (s.fab.lsas.length < 240)
    if !newer then s
    else reclaim (flood { putLsa s a with fab := { (putLsa s a).fab with changed := some l } } a (some l)) l) :=
  (if_neg (by simp [up])).trans (if_neg other)

theorem lsa_own {s : State} {l : Nat} {a : Lsa} (up : s.fabUp l = true) (own : a.uid = s.nodeUid) : lsa l a s =
    if s.fab.lsaSeq.toNat < a.seq then
      let s := { s with fab := { s.fab with lsaSeq := BitVec.ofNat 32 a.seq } }
      if s.chipActive then announce s l else flood (putLsa { s with fab := { s.fab with changed := some l } } a) a (some l)
    else s := (if_neg (by simp [up])).trans (if_pos own)

/-- An LSA that another node's held one judges. -/
theorem lsa_held {s : State} {l : Nat} {a : Lsa} {h : HeldLsa} (up : s.fabUp l = true) (other : a.uid ≠ s.nodeUid)
    (held : s.fab.lsas.find? (fun h => h.lsa.uid == a.uid) = some h) :
    (h.lsa.seq < a.seq → lsa l a s =
      reclaim (flood { putLsa s a with fab := { (putLsa s a).fab with changed := some l } } a (some l)) l) ∧
    (a.seq ≤ h.lsa.seq → lsa l a s = s) := by
  rw [lsa_other up other, held]
  exact ⟨fun newer => if_neg (by simpa using newer), fun older => if_pos (by simpa using older)⟩

theorem lsa_new {s : State} {l : Nat} {a : Lsa} (up : s.fabUp l = true) (other : a.uid ≠ s.nodeUid)
    (fresh : s.fab.lsas.find? (fun h => h.lsa.uid == a.uid) = none) :
    (s.fab.lsas.length < 240 → lsa l a s =
      reclaim (flood { putLsa s a with fab := { (putLsa s a).fab with changed := some l } } a (some l)) l) ∧
    (240 ≤ s.fab.lsas.length → lsa l a s = s) := by
  rw [lsa_other up other, fresh]
  exact ⟨fun room => if_neg (by simpa using room), fun full => if_pos (by simpa using full)⟩

/-- What is not an own LSA, aged or unreachable for long, is kept. -/
theorem lsaPurge_young {s : State} (young : ∀ h ∈ s.fab.lsas, h.lsa.uid = s.nodeUid ∨
    (s.ticks < h.at_ + 4 * s.fab.lsaRefresh * 10000000 ∧ h.gone = none)) : lsaPurge s = s := by
  refine if_pos (congrArg List.length (List.filter_eq_self.2 fun h held => ?_))
  rcases young h held with own | ⟨recent, there⟩
  · simp [own]
  · simp [recent, there]

theorem lsaPurge_aged {s : State} {h : HeldLsa} (one : s.fab.lsas = [h]) (other : h.lsa.uid ≠ s.nodeUid)
    (aged : h.at_ + 4 * s.fab.lsaRefresh * 10000000 ≤ s.ticks) : lsaPurge s =
      reclaim { s with fab := { s.fab with lsas := [], changed := some (s.fab.changed.getD 0) } } 0 := by
  have late : ¬ s.ticks < h.at_ + 4 * s.fab.lsaRefresh * 10000000 := by omega
  simp [lsaPurge, one, other, late]

/-- What a refresh and a link that becomes usable share: the claim is judged, and the own LSA goes out if that sent none. -/
theorem lsaRefresh_of {s s1 : State} {l : Nat} (hello : s1 = linkNumbers.foldl sendHello s)
    (first : l = (linkNumbers.find? s1.fabUp).getD 0) : lsaRefresh s =
      if (reclaim s1 l).fab.lsaSeq = s1.fab.lsaSeq then announce (reclaim s1 l) l else reclaim s1 l := by
  subst first hello
  rfl

theorem linkUsable_fresh {s s1 : State} {l : Nat} (up : s.fabUp l = true) (fresh : (s.link l).fresh = true)
    (h : s1 = s.modLink l (fun k => { k with usable := true, fresh := false })) : linkUsable l s =
      if (reclaim s1 l).fab.lsaSeq = s1.fab.lsaSeq then announce (reclaim s1 l) l else reclaim s1 l := by
  subst h
  exact if_pos ⟨up, fresh⟩

/-! ### Routes -/

theorem routeComputeDone_of {s t : State}
    (h : t = tunnelRoutes (endForwarded (routeEvents s (routeTables s) (s.fab.changed.getD 0))) s.fab.table) :
    routeComputeDone s = if t.chipActive = true then setParent t (((fabGraph s).parent s.nodeUid).map (·.xl)) else t := by
  rw [h, routeComputeDone]

theorem dirOf_usable {g : Graph} {own : Nat} {s : State} {l : Nat} (usable : (s.link l).usable = true)
    (active : s.chipActive = true) (reserve : (s.link l).nbrReserve = false) :
    dirOf g own s l = if g.up own (s.link l).nbrUid then 1 else 2 :=
  (if_neg (by simp [usable])).trans (if_neg (by simp [active, reserve]))

/-- Settles O29: a HELLO by what it changes, an LSA by whose it is and what is held, a claim by the chip's state. -/
theorem fabricRouting : Obligations.FabricRouting := by
  refine ⟨fun s l h down => ⟨ends_of rfl (if_pos (by simp [down])), fun a => ends_of rfl (if_pos (by simp [down])),
      ends_of rfl (if_neg (by simp [down]))⟩,
    fun s l h s1 up hs1 => ?_, fun s l a s1 up other hs1 => ?_, fun s l a s1 up own hs1 => ?_, fun s a => rfl,
    fun s s1 l hs1 hl => ?_, fun s young => ends_of rfl (lsaPurge_young young),
    fun s h one other aged => ends_of rfl (lsaPurge_aged one other aged), fun s l s1 up fresh hs1 => ?_,
    fun s l old => ends_of rfl (if_neg (by simp [old])),
    fun s no => ends_of rfl (if_pos (by simpa using no)), fun s l s1 tentative active hl hs1 => ends_of rfl ?_,
    fun s t ht => ?_, fun s => ⟨rfl, rfl, rfl, rfl, rfl, rfl, rfl⟩,
    fun g own s l => ⟨fun down => if_pos (by simp [down]), fun usable active reserve => dirOf_usable usable active reserve⟩⟩
  · subst hs1
    refine ⟨fun same off => ends_of rfl ((hello_up h up).trans ?_), fun same link => ends_of rfl ((hello_up h up).trans ?_),
      fun same link usable => ends_of rfl ((hello_up h up).trans ?_), fun first uid off => ends_of rfl ((hello_up h up).trans ?_),
      fun known other usable => ends_of rfl ((hello_up h up).trans ?_)⟩
    · exact (if_neg (by simp [off])).trans (if_neg (not_not.2 same))
    · exact (if_neg (by simp [same, link])).trans (if_neg (not_not.2 same))
    · refine (if_pos ⟨usable, .inr link⟩).trans ?_
      rw [if_neg (not_not.2 same)]
    · have other : (s.link l).nbrUid ≠ h.uid := fun h => uid (h.symm.trans first)
      refine (if_neg (by simp [off])).trans ((if_pos other).trans ?_)
      rw [if_neg (not_not.2 first)]
    · refine (if_pos ⟨usable, .inl other⟩).trans ?_
      rw [if_pos other, if_pos known]
  · subst hs1
    exact ⟨fun h held => ⟨fun newer => ends_of rfl ((lsa_held up other held).1 newer),
        fun older => ends_of rfl ((lsa_held up other held).2 older)⟩,
      fun fresh => ⟨fun room => ends_of rfl ((lsa_new up other fresh).1 room),
        fun full => ends_of rfl ((lsa_new up other fresh).2 full)⟩⟩
  · subst hs1
    exact ⟨fun older => ends_of rfl ((lsa_own up own).trans (if_neg (by omega))),
      fun later active => ends_of rfl ((lsa_own up own).trans ((if_pos later).trans (if_pos active))),
      fun later idle => ends_of rfl ((lsa_own up own).trans ((if_pos later).trans
        (if_neg fun h => Bool.false_ne_true (idle.symm.trans h))))⟩
  · exact ⟨fun same => ends_of rfl ((lsaRefresh_of hs1 hl).trans (if_pos same.symm)),
      fun changed => ends_of rfl ((lsaRefresh_of hs1 hl).trans (if_neg (Ne.symm changed)))⟩
  · exact ⟨fun changed => ends_of rfl ((linkUsable_fresh up fresh hs1).trans (if_neg (Ne.symm changed))),
      fun same => ends_of rfl ((linkUsable_fresh up fresh hs1).trans (if_pos same.symm))⟩
  · subst hl hs1
    simp only [nodeIdClaimSettle, tentative, active, Bool.not_true, Bool.or_self, Bool.false_eq_true, if_false]
  · exact ⟨fun active => ends_of rfl ((routeComputeDone_of ht).trans (if_pos active)),
      fun idle => ends_of rfl ((routeComputeDone_of ht).trans (if_neg (by simp [idle])))⟩

end Sys2Proof.Machine
end

section
/-! PROOF. The time unit (O30): the exchange with the parent, the servo and the TSYNC pins. -/

namespace Sys2Proof.Machine

/-! ### The exchange -/

/-- A word of the exchange, by whether it comes from the parent and in its place. -/
theorem onExchange_parent {s : State} {l : Nat} (has : s.tu.hasParent = true) (parent : s.tu.parent = l) (q stage : Nat)
    (f : Exchange → Exchange) : onExchange s l q stage f =
      if s.tu.ex.stage = stage ∧ s.tu.ex.seq = q then { s with tu := { s.tu with ex := f s.tu.ex } }
      else { s with tu := { s.tu with ex := { seq := s.tu.ex.seq } } } := if_pos ⟨has, parent⟩

theorem onExchange_astray {s : State} {l q stage : Nat} (has : s.tu.hasParent = true) (parent : s.tu.parent = l)
    (f : Exchange → Exchange) (astray : s.tu.ex.seq ≠ q ∨ s.tu.ex.stage ≠ stage) :
    onExchange s l q stage f = { s with tu := { s.tu with ex := { seq := s.tu.ex.seq } } } :=
  (onExchange_parent has parent q stage f).trans (if_neg fun h => astray.elim (fun x => x h.2) (fun x => x h.1))

theorem onExchange_stranger {s : State} {l : Nat} (q stage : Nat) (f : Exchange → Exchange)
    (stranger : s.tu.hasParent = false ∨ s.tu.parent ≠ l) : onExchange s l q stage f = s :=
  if_neg fun h => stranger.elim (fun x => Bool.false_ne_true (x.symm.trans h.1)) (fun x => x h.2)

theorem timeStatusWord_stranger {s : State} {l : Nat} (q r st fl : Nat)
    (stranger : s.tu.hasParent = false ∨ s.tu.parent ≠ l) : timeStatusWord l q r st fl s = s :=
  if_pos (by simpa using stranger)

/-- The STATUS word of the parent: the last of a whole exchange, or one that abandons it. -/
theorem timeStatusWord_parent {s : State} {l : Nat} (has : s.tu.hasParent = true) (parent : s.tu.parent = l)
    (q r st fl : Nat) : timeStatusWord l q r st fl s =
      if (!(s.tu.ex.stage == 4 && s.tu.ex.seq == q)) = true then { s with tu := { s.tu with ex := { seq := s.tu.ex.seq } } }
      else
        let s1 := { s with tu := { s.tu with ex := { seq := s.tu.ex.seq }, root := r % 256, stratum := min 255 (st + 1) } }
        let th := theta s.tu.ex (s.tu.asym.getD l 0)
        if bit fl 2 then s1
        else servo { s1 with tu := { s1.tu with offset := th, pathDelay := pathDelay s.tu.ex } } th exchangeClocks :=
  if_neg (by simp [has, parent])

theorem timeStatusWord_astray {s : State} {l q : Nat} (has : s.tu.hasParent = true) (parent : s.tu.parent = l) (r st fl : Nat)
    (astray : s.tu.ex.seq ≠ q ∨ s.tu.ex.stage ≠ 4) :
    timeStatusWord l q r st fl s = { s with tu := { s.tu with ex := { seq := s.tu.ex.seq } } } :=
  (timeStatusWord_parent has parent q r st fl).trans (if_pos (by simpa [or_comm, imp_iff_not_or] using astray))

theorem theta_of {x : Exchange} {t2 t3 : Int} (asym : Int) (h : (t2, t3) = exchangeTimes x) :
    theta x asym = (((x.t1 : Int) - t2) + ((x.t4 : Int) - t3) - asym) / 2 := by
  rw [theta, ← h]

theorem pathDelay_of {x : Exchange} {t2 t3 : Int} (h : (t2, t3) = exchangeTimes x) :
    pathDelay x = ((t2 - (x.t1 : Int)) + ((x.t4 : Int) - t3)) / 2 := by
  rw [pathDelay, ← h]

/-- t2 from its low half: the high half is t3's, or one less when t2's low half exceeds t3's. -/
theorem exchangeTimes_of {x : Exchange} {t3 : Int} (h : t3 = (x.t3hi * 2 ^ 32 + x.t3lo : Nat)) :
    (x.t2lo ≤ x.t3lo → exchangeTimes x = (t3 - x.t3lo + x.t2lo, t3)) ∧
    (x.t3lo < x.t2lo → exchangeTimes x = (t3 - x.t3lo + x.t2lo - 4294967296, t3)) := by
  subst h
  refine ⟨fun same => Prod.ext ((if_neg (by omega)).trans ?_) rfl, fun less => Prod.ext ((if_pos less).trans ?_) rfl⟩ <;>
  · push_cast
    ring

/-! ### The servo and SYNC_STATE -/

theorem servo_locked {s : State} {th : Int} (n : Nat) (locked : s.tu.sync = .locked) (near : th.natAbs ≤ 1000) :
    servo s th n = slew { s with tu := { s.tu with bad := 0 } } th n := by
  have far : decide (1000 < th.natAbs) = false := decide_eq_false (by omega)
  simp [servo, locked, far]

theorem setSync_same {s : State} {x : Sync} (same : s.tu.sync = x) (no : x ≠ .locked) : setSync s x = s := by
  subst same
  simp [setSync, no]

theorem servo_acquiring_far {s : State} {th : Int} (n : Nat) (acquiring : s.tu.sync = .acquiring) (en : s.tu.stepEn = true)
    (far : 1000 < th.natAbs) : servo s th n = stepTime { s with tu := { s.tu with good := 0 } } (-th) := by
  simp [servo, acquiring, far, en, setSync_same acquiring]

theorem setSync_new {s : State} {x : Sync} (new : x ≠ s.tu.sync) (no : x ≠ .locked) : setSync s x =
    (let s1 := { s with tu := { s.tu with
        sync := x, good := 0, bad := 0, heldAt := if x = .holdover then s.ticks else s.tu.heldAt } }
    let s2 := raiseSync s1 2 (syncValue s1)
    if s.tu.sync = .locked then raise s2 432 1 (x.code + at_ 32 (uns 32 s2.tu.offset)) else s2) := by
  simp [setSync, new, no]

/-! ### The TSYNC pins -/

theorem tsyncIn_rejected {s : State} (bad : edgeRejected s = true) : tsyncIn s = tsyncInEdge s := if_neg (by simp [bad])

theorem tsyncInEdge_rejected {s s1 : State} (bad : edgeRejected s = true)
    (h : s1 = raise s 444 3 (uns 32 (wholeSecond (edgeTime s)))) :
    tsyncInEdge s = { s1 with tu := { s1.tu with lastEdge := some (edgeTime s), edges := 0 } } := by
  subst h
  simp only [tsyncInEdge, bad, if_true]

/-- An accepted edge serves an armed epoch, disciplines a root in PPS mode, or is only captured. -/
theorem tsyncInEdge_accepted {s s1 s2 : State} (good : edgeRejected s = false)
    (h1 : s1 = raise s 444 1 (uns 32 (wholeSecond (edgeTime s))))
    (h2 : s2 = { s1 with tu := { s1.tu with lastEdge := some (edgeTime s) } }) :
    (∀ v w, s2.tu.epoch = some (v, w) → tsyncInEdge s = applyEpoch s2 v w) ∧
    (s2.tu.epoch = none → tsyncInEdge s =
      if s2.tu.isRoot = true ∧ s2.tu.srcPps = true then ppsEdge s2 (wholeSecond (edgeTime s)) else s2) := by
  subst h2 h1
  refine ⟨fun v w armed => ?_, fun free => ?_⟩
  · simp only [tsyncInEdge, good, Bool.false_eq_true, if_false]
    rw [armed]
  · simp only [tsyncInEdge, good, Bool.false_eq_true, if_false]
    rw [free]

theorem tsyncIn_asleep {s : State} (wake : s.sys.power.tsyncWake = false) : tsyncIn s = tsyncInEdge s :=
  if_neg (by simp [wake])

theorem edgeRejected_some {s : State} {t : Int} (last : s.tu.lastEdge = some t) :
    edgeRejected s = true ↔ 1000000 < (edgeTime s - t - 1000000000).natAbs := by
  rw [edgeRejected, last, decide_eq_true_iff]

/-- Settles O30: a word of the exchange by where it comes from and in which place, an edge by its distance from the last. -/
theorem timeExchangeAndPulse : Obligations.TimeExchangeAndPulse := by
  refine ⟨fun s q s1 has up hq hs1 => ends_of rfl ?_, fun s no => ends_of rfl (if_pos (by simpa using no)),
    fun s l q down => ends_of rfl (if_pos down), fun s l q s1 s2 s3 up hs1 hs2 hs3 => ends_of rfl ?_,
    fun s l ty q v => rfl,
    fun s l v has parent => ⟨fun st => ends_of rfl ?_, fun st => ends_of rfl ?_, fun st => ends_of rfl ?_⟩,
    fun s l q v t has parent ht => ?_, fun s l q v stranger => ⟨ends_of rfl (onExchange_stranger q 1 _ stranger),
      ends_of rfl (onExchange_stranger q 2 _ stranger), ends_of rfl (onExchange_stranger q 3 _ stranger),
      fun r st fl => ends_of rfl (timeStatusWord_stranger q r st fl stranger)⟩,
    fun s l r st fl s1 th has parent whole hs1 hth => ?_, fun x asym t2 t3 h => ⟨theta_of asym h, pathDelay_of h⟩,
    fun x t3 h => exchangeTimes_of h, fun s th n locked near => ⟨_, rfl, servo_locked n locked near⟩,
    fun s th n s1 acquiring en far hs1 => by subst hs1; exact servo_acquiring_far n acquiring en far,
    fun s has locked => ends_of rfl (if_pos ⟨has, locked⟩), fun s no => ends_of rfl (if_neg ?_),
    fun s x s1 new no hs1 => ?_, fun s st => ends_of rfl (if_pos st), fun s st => ends_of rfl (if_neg st),
    fun s s1 bad hs1 => ends_of rfl ((tsyncIn_rejected bad).trans (tsyncInEdge_rejected bad hs1)),
    fun s s1 s2 good wake hs1 hs2 => ?_, fun s s1 s2 good wake hs1 hs2 free plain => ends_of rfl ?_,
    fun s => ⟨fun first => by rw [edgeRejected, first], fun t last => edgeRejected_some last, rfl⟩,
    fun s s1 hs1 => ?_, fun s en sync => ends_of rfl (if_pos ⟨en, sync⟩), fun s no => ends_of rfl (if_neg ?_),
    fun s => ends_of rfl rfl⟩
  · subst hs1 hq
    exact if_neg (by simp [has, up])
  · subst hs3 hs2 hs1
    exact if_neg (by simp [up])
  · exact (onExchange_parent has parent _ 1 _).trans (if_pos ⟨st, rfl⟩)
  · exact (onExchange_parent has parent _ 2 _).trans (if_pos ⟨st, rfl⟩)
  · exact (onExchange_parent has parent _ 3 _).trans (if_pos ⟨st, rfl⟩)
  · subst ht
    exact ⟨fun astray => ends_of rfl (onExchange_astray has parent _ astray),
      fun astray => ends_of rfl (onExchange_astray has parent _ astray),
      fun astray => ends_of rfl (onExchange_astray has parent _ astray),
      fun r st fl astray => ends_of rfl (timeStatusWord_astray has parent r st fl astray)⟩
  · subst hth hs1
    have last : ¬ (!(s.tu.ex.stage == 4 && s.tu.ex.seq == s.tu.ex.seq)) = true := by simp [whole]
    exact ⟨fun free => ends_of rfl ((timeStatusWord_parent has parent _ r st fl).trans ((if_neg last).trans (if_pos free))),
      fun kept => ends_of rfl ((timeStatusWord_parent has parent _ r st fl).trans ((if_neg last).trans
        (if_neg (by simp [kept]))))⟩
  · rintro ⟨has, locked⟩
    exact no.elim (fun x => Bool.false_ne_true (x.symm.trans has)) (fun x => x locked)
  · subst hs1
    exact ⟨fun other => (setSync_new new no).trans (if_neg other), fun locked => (setSync_new new no).trans (if_pos locked)⟩
  · obtain ⟨armed, free⟩ := tsyncInEdge_accepted good hs1 hs2
    exact ⟨fun none_ plain => ends_of rfl ((tsyncIn_asleep wake).trans ((free none_).trans (if_neg (by simp [plain])))),
      fun none_ root pps => ends_of rfl ((tsyncIn_asleep wake).trans ((free none_).trans (if_pos ⟨root, pps⟩))),
      fun v w some_ => ends_of rfl ((tsyncIn_asleep wake).trans (armed v w some_))⟩
  · obtain ⟨_, accepted⟩ := tsyncInEdge_accepted good hs1 hs2
    refine (if_pos (by simp [good, wake])).trans (congrArg wakeSource ?_)
    exact (accepted free).trans (if_neg (by simp [plain]))
  · subst hs1
    refine ⟨fun no => ends_of rfl (if_neg ?_), fun root pps unlocked clock => ends_of rfl ((if_pos ⟨root, pps⟩).trans ?_)⟩
    · rintro ⟨root, pps⟩
      exact no.elim (fun x => Bool.false_ne_true (x.symm.trans root)) (fun x => Bool.false_ne_true (x.symm.trans pps))
    · rw [rootSync, if_neg fun h => Bool.false_ne_true (clock.symm.trans h), if_pos ⟨pps, by rw [unlocked]; decide⟩]
  · rintro ⟨en, sync⟩
    exact no.elim (fun x => Bool.false_ne_true (x.symm.trans en)) (fun x => sync x)

end Sys2Proof.Machine
end

section
/-! PROOF. The event path (O31): capture, the queues, the event pipe, forwarding and collection. -/

namespace Sys2Proof.Machine

/-! ### Capture and queues -/

theorem detectorFire_none {s : State} {src code : Nat} {data : BitVec 96} (no : s.route src = 0 ∨ evSevMax src = none) :
    detectorFire src code data s = s := by
  rcases no with quiet | never
  · unfold detectorFire
    split
    · rfl
    · exact if_pos quiet
  · exact if_pos (by rw [never]; rfl)

theorem captureRec_awake {s : State} (r : EvRec) (awake : s.aonOnly = false) : captureRec s r =
    if s.ev.capture.length < 64 then { s with ev := { s.ev with capture := insertRec r s.ev.capture } } else suppressAll s r :=
  if_neg (by simp [awake])

theorem offer_free {q : Queue} {cap : Nat} (r : EvRec) (room : q.recs.length < cap) (shut : q.coal = []) :
    q.offer cap r = { q with recs := q.recs ++ [{ r with qseq := q.next }], next := q.next + 1 } :=
  if_neg (by simp [shut, room])

theorem captureRelease_head {s : State} {r : EvRec} {rs : List EvRec} (head : s.ev.capture = r :: rs) :
    captureRelease s = deliverRec (recordToPartner { s with ev := { s.ev with capture := rs } } r) r := by
  simp only [captureRelease, head]

theorem makeRoom_fits {q : Queue} {cap : Nat} (fits : q.recs.length < cap) : q.makeRoom cap = q := if_neg fun h => by omega

theorem drainCoal_oldest {q : Queue} {cap : Nat} {c : Coal} (t n : Nat) (f : Nat → Bool) (room : q.recs.length < cap)
    (unsent : q.sent = 0) (oldest : oldestCoal q.coal = some c) : q.drainCoal cap t n f =
      (({ q with coal := q.coal.erase c } : Queue).push (coalRec n (f c.source) c)).settle cap := by
  have left : ¬ cap + q.sent ≤ q.recs.length := by omega
  simp only [Queue.drainCoal, if_neg left, oldest]
  exact congrArg (fun k => (Queue.push k (coalRec n (f c.source) c)).settle cap) (makeRoom_fits room)

/-! ### The event pipe -/

theorem eventPipeIn_open {s : State} {u : Up} (pipes : mgmtPipes s u = true) : eventPipeIn u s =
    (let n := if (s.up u).evOffered ≠ 0 then (s.up u).evOffered
      else min (s.queue (upQueue u)).recs.length (if (s.up u).link = .hs then 16 else 2)
    if n = 0 then answer s u .nak
    else answer (s.modUp u (fun x => { x with evOffered := n })) u
        (.data (s.up u).evToggle (((s.queue (upQueue u)).recs.take n).flatMap EvRec.bytes))) :=
  if_neg (by simp [pipes])

/-- A first packet takes the oldest records, 16 at HS and 2 at FS. -/
theorem eventPipeIn_first {s : State} {u : Up} {n : Nat} (pipes : mgmtPipes s u = true) (first : (s.up u).evOffered = 0)
    (h : n = min (s.queue (upQueue u)).recs.length (if (s.up u).link = .hs then 16 else 2)) : eventPipeIn u s =
      if n = 0 then answer s u .nak
      else answer (s.modUp u (fun x => { x with evOffered := n })) u
        (.data (s.up u).evToggle (((s.queue (upQueue u)).recs.take n).flatMap EvRec.bytes)) := by
  rw [eventPipeIn_open pipes, if_neg (not_not.2 first), ← h]

theorem eventPipeIn_again {s : State} {u : Up} {n : Nat} (pipes : mgmtPipes s u = true) (offered : (s.up u).evOffered = n)
    (some_ : n ≠ 0) : eventPipeIn u s = answer (s.modUp u (fun x => { x with evOffered := n })) u
        (.data (s.up u).evToggle (((s.queue (upQueue u)).recs.take n).flatMap EvRec.bytes)) := by
  rw [eventPipeIn_open pipes, offered, if_pos some_]
  exact if_neg some_

/-! ### The fabric-forward queue -/

/-- With no quiet record at the front nothing is passed over. -/
theorem passQuiet_none {s : State} (h : (s.ev.qfab.recs.drop s.ev.qfab.sent).takeWhile (·.quiet) = []) : passQuiet s = s := by
  simp only [passQuiet, State.modQueue, h, List.length_nil, Nat.add_zero]

theorem fabForwardSend_some {s : State} {r : EvRec} {rs : List EvRec} (dest : s.ev.fabDest ≠ 0)
    (front : (s.ev.qfab.recs.drop s.ev.qfab.sent).takeWhile (·.quiet) = [])
    (waits : ((s.ev.qfab.recs.drop s.ev.qfab.sent).takeWhile (fun r => !r.quiet)).take 32 = r :: rs) : fabForwardSend s =
      (let s1 := s.modQueue .fabric (fun q => { q with sent := q.sent + (r :: rs).length })
      sendTo s1 2 0x20 s1.ev.fabDest (at_ 13 r.qseq.toNat) ((r :: rs).flatMap EvRec.bytes)) := by
  simp only [fabForwardSend, passQuiet_none front, waits, if_neg dest]

theorem fabForwardSend_none {s : State} (no : s.ev.fabDest = 0 ∨ s.ev.qfab.recs.drop s.ev.qfab.sent = []) :
    fabForwardSend s = passQuiet s := by
  rcases no with dest | empty
  · unfold fabForwardSend
    dsimp only
    split
    · rfl
    · exact if_pos dest
  · have same : passQuiet s = s := passQuiet_none (by rw [empty]; rfl)
    simp only [fabForwardSend, same, empty, List.takeWhile_nil, List.take_nil]

/-! ### Collection -/

/-- An EVENTS frame on a collector, by the gap in its sender's sequence. -/
theorem eventsFrame_collect {s : State} (src q : Nat) (recs : List (List Byte)) (gap : Nat) (collect : s.ev.collect = true)
    (first : s.expected src = none → gap = 0) (later : ∀ e, s.expected src = some e → gap = (q + 65536 - e) % 65536) :
    eventsFrame src q recs s =
      (let s0 := if 0 < gap ∧ gap < 32768 then askGap s src ((q + 65536 - gap) % 65536) gap else s
      let s1 := setExpected s0 src (q + recs.length)
      recs.foldl (fun t b => mergeRec t { recOf b s1.remoteByte with remote := true }) s1) := by
  cases x : s.expected src with
  | none => simp only [eventsFrame, collect, Bool.not_true, Bool.false_eq_true, if_false, x, first x]
  | some e => simp only [eventsFrame, collect, Bool.not_true, Bool.false_eq_true, if_false, x, later e x]

theorem eventsFrame_inOrder {s s1 : State} {src q : Nat} {recs : List (List Byte)} (collect : s.ev.collect = true)
    (next : s.expected src = none ∨ s.expected src = some (q % 65536))
    (h : s1 = setExpected s src (q + recs.length)) : eventsFrame src q recs s =
      recs.foldl (fun t b => mergeRec t { recOf b s1.remoteByte with remote := true }) s1 := by
  subst h
  refine (eventsFrame_collect src q recs 0 collect (fun _ => rfl) fun e known => ?_).trans rfl
  have e_eq : e = q % 65536 := by simpa [known] using next
  omega

theorem eventsFrame_gap {s s1 : State} {src q e gap : Nat} {recs : List (List Byte)} (collect : s.ev.collect = true)
    (expected : s.expected src = some e) (hgap : gap = (q + 65536 - e) % 65536) (some_ : 0 < gap) (near : gap < 32768)
    (h : s1 = setExpected (askGap s src ((q + 65536 - gap) % 65536) gap) src (q + recs.length)) : eventsFrame src q recs s =
      recs.foldl (fun t b => mergeRec t { recOf b s1.remoteByte with remote := true }) s1 := by
  rw [eventsFrame_collect src q recs gap collect (by simp [expected]) (by simpa [expected] using hgap), if_pos ⟨some_, near⟩, h]

/-- Settles O31: a record by the room where it goes, a frame by the sender's sequence. -/
theorem eventPath : Obligations.EventPath := by
  refine ⟨fun s src code data sev route => ends_of rfl ?_, fun s src code data no => ends_of rfl (detectorFire_none no),
    fun s r awake => ⟨fun room => (captureRec_awake r awake).trans (if_pos room),
      fun full => (captureRec_awake r awake).trans (if_neg (by omega))⟩,
    fun s r => ⟨rfl, rfl, rfl, rfl⟩, fun q cap r room shut => offer_free r room shut,
    fun s r rs s1 head hs1 => ?_, fun s empty => ends_of rfl (by rw [captureRelease, empty]), fun s i => ends_of rfl rfl,
    fun q cap t n f c room unsent oldest => ⟨_, rfl, drainCoal_oldest t n f room unsent oldest⟩,
    fun q cap t n f full => if_pos full, fun s u shut => ends_of rfl (if_pos (by simp [shut])),
    fun s u pipes first empty => ends_of rfl ?_, fun s u n pipes first some_ hn => ends_of rfl ?_,
    fun s u n pipes offered some_ => ends_of rfl (eventPipeIn_again pipes offered some_),
    fun s u some_ => ends_of rfl (if_neg some_), fun s u none_ => ends_of rfl (if_pos none_),
    fun s r rs s1 dest front waits hs1 => ends_of rfl (by rw [fabForwardSend_some dest front waits, hs1]),
    fun s no => ends_of rfl (fabForwardSend_none no), fun s => ⟨rfl, rfl⟩,
    fun s src q recs off => ends_of rfl (if_pos (by simp [off])),
    fun s src q recs s1 collect next _ hs1 => ends_of rfl (eventsFrame_inOrder collect next hs1),
    fun s src q recs e gap s1 collect expected hgap some_ near hs1 =>
      ends_of rfl (eventsFrame_gap collect expected hgap some_ near hs1),
    fun s r => ⟨fun first => by rw [mergeRec, first], fun x last late => ?_⟩, fun s => ends_of rfl rfl,
    fun s src q recs => ends_of rfl rfl⟩
  · exact (if_neg (by simpa using Option.isSome_iff_ne_none.1 sev)).trans (if_neg route)
  · subst hs1
    exact ⟨fun own => ends_of rfl ((captureRelease_head head).trans (congrArg (deliverRec · r) (if_pos own))),
      fun idle local_ => ends_of rfl ((captureRelease_head head).trans (congrArg (deliverRec · r)
        (if_neg fun h => h.elim (fun x => Bool.false_ne_true (idle.symm.trans x)) (fun x => Bool.false_ne_true (local_.symm.trans x)))))⟩
  · exact (eventPipeIn_first pipes first rfl).trans (if_pos (by simp [empty]))
  · refine (eventPipeIn_first pipes first hn).trans (if_neg ?_)
    have pos : 0 < (s.queue (upQueue u)).recs.length := List.length_pos_iff.2 some_
    split at hn <;> omega
  · simp only [mergeRec, last, late, if_true]

end Sys2Proof.Machine
end

section
/-! PROOF. The journal writer, user-area lines, first-fault slots and the boot scan (O32). -/

namespace Sys2Proof.Machine

/-! ### The writer's buffer -/

/-- The writer takes a record when VDDNV is valid, or in an MRAM fault. -/
theorem journalRecordWrite_head {s s1 : State} {r : EvRec} {rs : List EvRec} (res : LineRes) (head : s.ev.qj.recs = r :: rs)
    (runs : s.crock.nvOk = true ∨ s.crock.fault = true) (h : s1 = s.modQueue .journal (fun q => q.free 256 1)) :
    journalRecordWrite res s =
      (let s2 := if res = .controllerFault then declareFault s1 else s1
      if s2.crock.fault then dropRecord s2 else writeRecord s2 r res) := by
  subst h
  have go : ¬ (!s.crock.nvOk && !s.crock.fault) = true := by simpa [Decidable.or_iff_not_imp_left] using runs
  simp only [journalRecordWrite, head, if_neg go]

theorem journalRecordWrite_none {s : State} (res : LineRes)
    (no : s.ev.qj.recs = [] ∨ (s.crock.nvOk = false ∧ s.crock.fault = false)) : journalRecordWrite res s = s := by
  unfold journalRecordWrite
  split
  · rfl
  next held =>
    obtain ⟨down, fault⟩ := no.resolve_left (by rw [held]; simp)
    exact if_pos (by simp [down, fault])

/-! ### A record written -/

theorem writeRecord_good {s : State} {r : EvRec} (first : Bool)
    (h : (decide (4 ≤ r.severity) && decide (s.crock.ffNext < 1024)) = first) : writeRecord s r .good =
      (let j := s.crock.jseqNext.toNat
      let bs := journalBytes s r first j
      let s0 := if first then putFirst s bs else s
      let s1 := putPlaced { s0 with crock := { s0.crock with failing := 0 } } (slotAddr (ringSlot j)) bs
      { s1 with crock := { s1.crock with
        jseqNext := s1.crock.jseqNext + 1, oldest := max s1.crock.oldest (j + 1 - 31744) } }) := by
  subst h
  rfl

/-- A record without a first-fault copy whose line fails twice: the next spare takes it, or it is dropped. -/
theorem writeRecord_remapped {s s1 : State} {r : EvRec} (low : r.severity < 4) (h : s1 = failedOnce s) :
    writeRecord s r .remapped =
      (let j := s.crock.jseqNext.toNat
      let a := slotAddr (ringSlot j)
      let s3 := if s1.crock.bad.length < 512 then
          let s2 := { s1 with crock := { s1.crock with bad := s1.crock.bad ++ [a] } }
          raise (putPlaced s2 a (journalBytes s r false j)) 426 1 (crockData s2 a)
        else raise (dropRecord s1) 426 1 (crockData (dropRecord s1) a)
      { s3 with crock := { s3.crock with
        jseqNext := s3.crock.jseqNext + 1, oldest := max s3.crock.oldest (j + 1 - 31744) } }) := by
  subst h
  have first : (decide (4 ≤ r.severity) && decide (s.crock.ffNext < 1024)) = false := by
    rw [decide_eq_false (by omega), Bool.false_and]
  simp only [writeRecord, first, Bool.false_eq_true, if_false, putRing]

/-! ### User-area lines and first-fault slots -/

theorem userLineWrite_head {s s1 : State} {a : Nat} {bs : List Byte} {rest : List (Nat × List Byte)}
    (head : s.crock.lineWait = (a, bs) :: rest) (nv : s.crock.nvOk = true)
    (h : s1 = { s with crock := { s.crock with lineWait := rest } }) :
    userLineWrite .good s = lineDone (putLine s1 a bs) ∧ userLineWrite .remapped s = lineDone (badLine s1 a bs) ∧
    userLineWrite .controllerFault s = lineDone (badLine (declareFault s1) a bs) := by
  subst h
  have go : ¬ (!s.crock.nvOk) = true := by simp [nv]
  refine ⟨?_, ?_, ?_⟩ <;> simp only [userLineWrite, head, if_neg go]

theorem lineDone_of (s : State) : (s.crock.writes = [] → lineDone s = s) ∧
    (∀ num n resp rest, s.crock.writes = (num, n + 2, resp) :: rest →
      lineDone s = { s with crock := { s.crock with writes := (num, n + 1, resp) :: rest } }) ∧
    (∀ num resp rest, s.crock.writes = (num, 1, resp) :: rest →
      lineDone s = finishWait { s with crock := { s.crock with writes := rest } } num (.ok resp)) := by
  refine ⟨fun empty => by rw [lineDone, empty], fun num n resp rest more => ?_, fun num resp rest last => ?_⟩
  · have many : 1 < n + 2 := by omega
    simp only [lineDone, more, if_pos many, show n + 2 - 1 = n + 1 from rfl]
  · simp only [lineDone, last, Nat.lt_irrefl, if_false]

theorem ffSlotZeroing_head {s s1 : State} {k : Nat} {rest : List Nat} (head : s.crock.ffZero = k :: rest)
    (nv : s.crock.nvOk = true) (h : s1 = { s with crock := { s.crock with ffZero := rest } }) :
    ffSlotZeroing s = if ffFree s1 k = true then putPlaced s1 (slotAddr k) (zeros 64) else s1 := by
  subst h
  have go : ¬ (!s.crock.nvOk) = true := by simp [nv]
  simp only [ffSlotZeroing, head, if_neg go]

theorem ffSlotZeroing_none {s : State} (no : s.crock.nvOk = false ∨ s.crock.ffZero = []) : ffSlotZeroing s = s := by
  unfold ffSlotZeroing
  split
  · rfl
  next held => exact if_pos (by simp [no.resolve_right (by rw [held]; simp)])

/-! ### The scan -/

/-- The boot after the scan: the links of a chip without an image, the profile's modes, the plan of the image. -/
theorem journalScan_first {s s1 : State} (first : s.crock.scanned = false)
    (h : s1 = bootStage (fixLevel (bootStage (bootImage (bootStage (strapEvent (reinitLines (scanJournal s))) 1)) 2)) 3) :
    journalScan s =
      (let a := if s1.sys.image.isNone then linkNumbers.foldl enableLink s1 else s1
      let b := profileModes a
      let c := if b.sys.image.isSome then { b with plan := { b.plan with regions := defaultPlan b } } else b
      bootFirmware (bootStage c 4)) := by
  rw [journalScan, if_neg (by simp [first]), h]

/-- Settles O32: a record by its severity and how its line takes it; a line by what waits. -/
theorem crockAndJournal : Obligations.CrockAndJournal := by
  refine ⟨fun s r rs res s1 head runs good hs1 => ?_, fun s r rs head runs => ends_of rfl ?_,
    fun s res no => ends_of rfl (journalRecordWrite_none res no), fun s => ⟨rfl, rfl⟩,
    fun s r j bs s1 plain hj hbs hs1 => ?_, fun s r j bs s1 s2 high room hj hbs hs1 hs2 => ?_,
    fun s r a bs s1 s2 s3 low ha hbs hs1 => ?_, fun s n hn => by rw [hn]; rfl,
    fun s r fault some_ hr => ends_of rfl ?_, fun s no => ends_of rfl (if_neg ?_), fun s => ends_of rfl rfl,
    fun s a bs rest s1 head nv hs1 => userLineWrite_head head nv hs1,
    fun s waits nv => ends_of rfl (if_pos (by simp [nv, waits])), fun s a bs s1 hs1 user => by subst hs1; exact if_pos user,
    fun s a bs room => if_pos room, fun s => lineDone_of s, fun s no => ends_of rfl (if_neg ?_),
    fun s no => ends_of rfl (ffSlotZeroing_none no), fun s k rest s1 head nv hs1 =>
      ⟨fun free => ends_of rfl ((ffSlotZeroing_head head nv hs1).trans (if_pos free)),
        fun kept => ends_of rfl ((ffSlotZeroing_head head nv hs1).trans (if_neg (by simp [kept])))⟩,
    fun s a bs => ⟨rfl, rfl⟩, fun s done => ends_of rfl (if_pos done), fun s s1 s2 first hs1 => ?_, fun s => ⟨rfl, rfl⟩⟩
  · refine ⟨fun sound => ends_of rfl ((journalRecordWrite_head res head runs hs1).trans ?_),
      fun fault => ends_of rfl ((journalRecordWrite_head res head runs hs1).trans ?_)⟩
    · simp only [if_neg good, sound, Bool.false_eq_true, if_false]
    · simp only [if_neg good, fault, if_true]
  · refine (journalRecordWrite_head .controllerFault head runs rfl).trans ?_
    simp only [if_true, declareFault]
  · subst hs1 hbs hj
    refine writeRecord_good false ?_
    rcases plain with low | full
    · rw [decide_eq_false (by omega), Bool.false_and]
    · rw [decide_eq_false (p := s.crock.ffNext < 1024) (by omega), Bool.and_false]
  · subst hs2 hs1 hbs hj
    exact writeRecord_good true (by simp [high, room])
  · subst ha hbs
    refine ⟨fun room hs2 hs3 => (writeRecord_remapped low hs1).trans ?_,
      fun full hs3 => (writeRecord_remapped low hs1).trans ?_⟩
    · subst hs3 hs2
      simp only [if_pos room]
    · subst hs3
      simp only [if_neg (show ¬ s1.crock.bad.length < 512 by omega)]
  · subst hr
    exact if_pos (by simp [fault, some_])
  · rcases no with no | no <;> simp [no]
  · rcases no with no | no <;> simp [no]
  · refine ⟨fun img hs2 img2 => ends_of rfl ((journalScan_first first hs1).trans ?_),
      fun no hs2 no2 => ends_of rfl ((journalScan_first first hs1).trans ?_)⟩
    · have some_ : ¬ s1.sys.image.isNone = true := by simpa [Option.isSome_iff_ne_none] using img
      simp only [if_neg some_, ← hs2, if_pos img2]
    · have none_ : s1.sys.image.isNone = true := by rw [no]; rfl
      have none2 : ¬ s2.sys.image.isSome = true := by rw [no2]; simp
      simp only [if_pos none_, ← hs2, if_neg none2]

end Sys2Proof.Machine
end

section
/-! PROOF. DOZE, HIBERNATE, their wakes and the retention banks (O33). -/

namespace Sys2Proof.Machine

/-! ### Wake sources -/

theorem wakeSource_waking {s : State} (waking : s.sys.waking = true) : wakeSource s = s := if_pos waking

theorem wakeSource_hibernate {s : State} (waking : s.sys.waking = false) (st : s.sys.pstate = .hibernate) :
    wakeSource s = startSequence s := by
  simp only [wakeSource, waking, st, Bool.false_eq_true, if_false]

theorem wakeSource_doze {s : State} (waking : s.sys.waking = false) (st : s.sys.pstate = .doze) :
    wakeSource s = wakeDoze s := by
  simp only [wakeSource, waking, st, Bool.false_eq_true, if_false]

/-- A happening that only HIBERNATE hears: outside it, or where it wakes nothing, the state is as it was. -/
theorem hibernateWake_none {s : State} {src : HibWake}
    (no : s.sys.pstate ≠ .hibernate ∨ hibWakes s src = false ∨ s.sys.waking = true) : hibernateWake src s = s := by
  unfold hibernateWake
  split
  next st =>
    rcases no.resolve_left (fun h => h st) with deaf | waking
    · exact if_neg (by simp [deaf])
    · rw [wakeSource_waking waking, ite_self]
  · rfl

theorem hibernateWake_wakes {s : State} {src : HibWake} (st : s.sys.pstate = .hibernate) (hears : hibWakes s src = true)
    (waking : s.sys.waking = false) : hibernateWake src s = startSequence s := by
  simp only [hibernateWake, st, hears, if_true, wakeSource_hibernate waking st]

theorem aonTimerWake_wakes {s : State} (st : s.sys.pstate = .hibernate) (set : s.sys.power.aonWake ≠ 0)
    (waking : s.sys.waking = false) : aonTimerWake s = startSequence s := by
  simp only [aonTimerWake, st, if_neg set, wakeSource_hibernate waking st]

theorem aonTimerWake_none {s : State} (no : s.sys.pstate ≠ .hibernate ∨ s.sys.power.aonWake = 0) : aonTimerWake s = s := by
  unfold aonTimerWake
  split
  next st => exact if_pos (no.resolve_left fun h => h st)
  · rfl

theorem hibernateSmbusAccess_wakes {s : State} {w : Bool} {o : Nat} (st : s.sys.pstate = .hibernate)
    (waking : s.sys.waking = false) (access : w = true ∨ 0x3F < o) : hibernateSmbusAccess w o s = startSequence s := by
  simp only [hibernateSmbusAccess, st, if_pos access, wakeSource_hibernate waking st]

theorem hibernateSmbusAccess_none {s : State} {w : Bool} {o : Nat}
    (no : s.sys.pstate ≠ .hibernate ∨ (w = false ∧ o ≤ 0x3F)) : hibernateSmbusAccess w o s = s := by
  unfold hibernateSmbusAccess
  split
  next st =>
    obtain ⟨read, low⟩ := no.resolve_left fun h => h st
    exact if_neg (by simp [read]; omega)
  · rfl

/-! ### DOZE -/

theorem dozeEnter_active {s : State} (st : s.sys.pstate = .active) : dozeEnter s =
    if (s.sys.power.dozeEn && quiet s && s.sys.held == .no && !s.sys.waking && !s.inDeadFeed) = true then
      let s := { s with sys := { s.sys with pstate := .doze, banks := dozeBanks s } }
      if s.sys.power.dozeSleep then
        let s := linkNumbers.foldl (fun s l => if (s.link l).ladle then s else requestSleep s l) s
        if s.tu.sync = .freeRun then s else setSync s .holdover
      else s
    else s := by
  unfold dozeEnter
  rw [st]

/-- The chip dozes when every condition holds; with SLEEP its links are asked to sleep and time holds over. -/
theorem dozeEnter_dozes {s s1 : State} (st : s.sys.pstate = .active) (en : s.sys.power.dozeEn = true) (quiet_ : quiet s = true)
    (held : s.sys.held = .no) (waking : s.sys.waking = false) (fed : s.inDeadFeed = false)
    (h : s1 = { s with sys := { s.sys with pstate := .doze, banks := dozeBanks s } }) : dozeEnter s =
      if s.sys.power.dozeSleep = true then
        let s := linkNumbers.foldl (fun s l => if (s.link l).ladle then s else requestSleep s l) s1
        if s.tu.sync = .freeRun then s else setSync s .holdover
      else s1 := by
  subst h
  exact (dozeEnter_active st).trans (if_pos (by simp [en, quiet_, held, waking, fed]))

theorem dozeEnter_none {s : State}
    (no : s.sys.pstate ≠ .active ∨ s.sys.power.dozeEn = false ∨ quiet s = false ∨ s.sys.waking = true) : dozeEnter s = s := by
  by_cases st : s.sys.pstate = .active
  · refine (dozeEnter_active st).trans (if_neg ?_)
    rcases no.resolve_left (fun h => h st) with h | h | h <;> simp [h]
  · unfold dozeEnter
    split
    · contradiction
    · rfl

theorem dozeWake_doze {s s1 : State} (failed : List Nat) (st : s.sys.pstate = .doze)
    (h : s1 = { s with sys := { s.sys with pstate := .active, waking := false } }) : dozeWake failed s =
      (let s2 := checkBanks (if s1.tu.isRoot then rootSync s1 else s1) failed false
      { s2 with sys := { s2.sys with banks := [] } }) := by
  subst h
  simp only [dozeWake, st]

/-! ### Rails of a sequence -/

/-- The rails are valid: a cold boot, or RESET_N is awaited while VDDIO is out. -/
theorem wakeRailsValid_rails {s : State} (failed : List Nat) (regen : s.sys.regen = true) (held : s.sys.held = .rails) :
    wakeRailsValid failed s =
      if s.sys.railsOut.contains 4 = true then { s with sys := { s.sys with held := .resetN } } else coldBoot s := by
  refine (if_neg (by simp [regen])).trans ?_
  simp only [held]

theorem wakeRailsValid_wakes {s : State} (failed : List Nat) (regen : s.sys.regen = true) (held : s.sys.held = .no)
    (st : s.sys.pstate = .hibernate) (waking : s.sys.waking = true) : wakeRailsValid failed s = wakeUp s failed := by
  refine (if_neg (by simp [regen])).trans ?_
  simp only [held, st, waking, if_true]

theorem wakeRailFail_awaiting {s : State} (r : Nat) (await : awaiting s = true) (regen : s.sys.regen = true) :
    wakeRailFail r s =
      (let s1 := { s with sys := { s.sys with regen := false, failRail := some (s.sys.failRail.getD r) } }
      if s.sys.attempts < 3 then s1
      else raise { s1 with sys := { s1.sys with wakeFail := true, waking := false, attempts := 0, failRail := none } } 425 1
        (s.sys.failRail.getD r % 256 + at_ 8 s.sys.attempts)) := if_pos (by simp [await, regen])

/-! ### Banks -/

theorem bankRestore_waits {s s1 : State} {b : Nat} {x : Nat × Bool} (waits : s.sys.bankWait.find? (fun x => x.1 == b) = some x)
    (h : s1 = { s with sys := { s.sys with bankWait := s.sys.bankWait.erase x } }) (ok : Bool) :
    bankRestoreFromPartner b ok s = if ok = true then bankEvent s1 1 b 0 else reinitBank s1 b x.2 := by
  subst h
  simp only [bankRestoreFromPartner, waits]

theorem bankRestore_none {s : State} {b : Nat} (ok : Bool) (none_ : s.sys.bankWait.find? (fun x => x.1 == b) = none) :
    bankRestoreFromPartner b ok s = s := by
  simp only [bankRestoreFromPartner, none_]

/-- A failed bank of ports. -/
theorem reinitBank_ports {k : Nat} (s : State) (h : Bool) (ports : k < 8) : reinitBank s k h =
    ((List.range 4).map (fun i => 4 * k + 1 + i)).foldl (if h then reinitRecords else reinitPort)
      (bankEvent s 2 k (0xF * 16 ^ k)) := by
  simp only [reinitBank, if_pos ports]

/-- A failed bank of an upstream, and one of the fabric. -/
theorem reinitBank_others (s : State) (h : Bool) :
    reinitBank s 8 h = (if h then bankEvent s 2 8 0 else upstreamConnectionLost .a (bankEvent s 2 8 0)) ∧
    reinitBank s 10 h = reinitFabric (bankEvent s 2 10 0) :=
  ⟨by simp [reinitBank], by simp [reinitBank]⟩

/-- Settles O33: an entry by its conditions, a wake by the power state it finds, a bank by what it holds. -/
theorem sleepAndWake : Obligations.SleepAndWake := by
  refine ⟨fun s s1 st en quiet_ held waking fed hs1 => ?_, fun s no => ends_of rfl (dozeEnter_none no), fun s => rfl,
    fun s failed s1 s2 st hs1 => ?_, fun s failed st => ends_of rfl ?_,
    fun s st en held waking quiet_ hib => ends_of rfl (if_pos ?_), fun s no => ends_of rfl (if_neg ?_),
    fun s => by simp only [hibernate, and_self],
    fun s src st hears waking => ends_of rfl (hibernateWake_wakes st hears waking),
    fun s src no => ends_of rfl (hibernateWake_none no), fun s => ⟨rfl, rfl, rfl, rfl⟩,
    fun s st set waking => ends_of rfl (aonTimerWake_wakes st set waking), fun s no => ends_of rfl (aonTimerWake_none no),
    fun s w o st waking access => ends_of rfl (hibernateSmbusAccess_wakes st waking access),
    fun s w o no => ends_of rfl (hibernateSmbusAccess_none no),
    fun s failed regen held => ⟨fun vddio => ends_of rfl ((wakeRailsValid_rails failed regen held).trans
        (if_neg fun h => Bool.false_ne_true (vddio.symm.trans h))),
      fun vddio => ends_of rfl ((wakeRailsValid_rails failed regen held).trans (if_pos vddio))⟩,
    fun s failed regen held st waking => ends_of rfl (wakeRailsValid_wakes failed regen held st waking),
    fun s failed regen => ends_of rfl (if_pos (by simp [regen])),
    fun s r await regen left => ends_of rfl ((wakeRailFail_awaiting r await regen).trans (if_pos left)),
    fun s r await regen last => ends_of rfl ((wakeRailFail_awaiting r await regen).trans (if_neg (by omega))),
    fun s r no => ends_of rfl (if_neg ?_), fun s => by simp [awaiting],
    fun s await regen some_ => ends_of rfl (if_pos (by simp [await, regen, some_])),
    fun s no => ends_of rfl (if_neg ?_),
    fun s b x s1 waits hs1 => ⟨ends_of rfl ((bankRestore_waits waits hs1 true).trans (if_pos rfl)),
      ends_of rfl ((bankRestore_waits waits hs1 false).trans (if_neg Bool.false_ne_true))⟩,
    fun s b ok none_ => ends_of rfl (bankRestore_none ok none_), fun s k h ports => reinitBank_ports s h ports,
    reinitBank_others, fun s down => ends_of rfl (if_neg (by simp [down])), fun s up => ends_of rfl (if_pos up),
    fun s n r s1 hs1 => ?_, fun s => ⟨wakeSource_waking, wakeSource_hibernate, wakeSource_doze⟩,
    fun s l st probing => ends_of rfl (if_pos ⟨st, probing⟩), fun s l no => ends_of rfl (if_neg ?_)⟩
  · refine ⟨fun awake => ends_of rfl ((dozeEnter_dozes st en quiet_ held waking fed hs1).trans (if_neg (by simp [awake]))),
      fun s2 asleep hs2 => ⟨fun runs => ends_of rfl ((dozeEnter_dozes st en quiet_ held waking fed hs1).trans
        ((if_pos asleep).trans ?_)), fun free => ends_of rfl ((dozeEnter_dozes st en quiet_ held waking fed hs1).trans
        ((if_pos asleep).trans ?_))⟩⟩
    · rw [← hs2]
      exact if_neg runs
    · rw [← hs2]
      exact if_pos free
  · refine ⟨fun child hs2 => ends_of rfl ((dozeWake_doze failed st hs1).trans ?_),
      fun root hs2 => ends_of rfl ((dozeWake_doze failed st hs1).trans ?_)⟩
    · simp only [child, Bool.false_eq_true, if_false, ← hs2]
    · simp only [root, if_true, ← hs2]
  · unfold dozeWake
    split
    · contradiction
    · rfl
  · rcases st with st | st <;> simp [st, en, held, waking, quiet_, hib]
  · rcases no with h | h | h | h <;> simp [h]
  · rcases no with h | h <;> simp [h]
  · rcases no with h | h | h <;> simp [h]
  · subst hs1
    exact ⟨fun deaf => ends_of rfl (if_neg fun h => Bool.false_ne_true (deaf.symm.trans h)), fun wakes => ends_of rfl (if_pos wakes)⟩
  · rintro ⟨st, probing⟩
    exact no.elim (fun h => h st) (fun h => Bool.false_ne_true (h.symm.trans probing))

end Sys2Proof.Machine
end

section
/-! PROOF. The clocks, the rails, RESET_N and the chip reset (O34). -/

namespace Sys2Proof.Machine

/-! ### Clocks -/

/-- The crystal is lost: SYNC_STATE by whether the time has a parent, and USB stops. -/
theorem fallBackClock_runs {s s1 : State} (runs : s.sys.xtal = true)
    (h : s1 = raise { s with sys := { s.sys with xtal := false, clockFallback := true } } 422 1 0) : fallBackClock s =
      usbStops (if s1.tu.sync = .locked ∨ (s1.tu.sync ≠ .freeRun ∧ !s1.tu.hasParent) then
        setSync s1 (if s1.tu.hasParent then .acquiring else .freeRun) else s1) := by
  subst h
  exact if_neg (by simp [runs])

theorem fallBackClock_child {s s1 s2 : State} (runs : s.sys.xtal = true)
    (h1 : s1 = raise { s with sys := { s.sys with xtal := false, clockFallback := true } } 422 1 0)
    (locked : s1.tu.sync = .locked) (has : s1.tu.hasParent = true) (h2 : s2 = setSync s1 .acquiring) :
    fallBackClock s = usbStops s2 := by
  rw [fallBackClock_runs runs h1, if_pos (.inl locked), if_pos has, h2]

theorem fallBackClock_root {s s1 s2 : State} (runs : s.sys.xtal = true)
    (h1 : s1 = raise { s with sys := { s.sys with xtal := false, clockFallback := true } } 422 1 0)
    (synced : s1.tu.sync ≠ .freeRun) (root : s1.tu.hasParent = false) (h2 : s2 = setSync s1 .freeRun) :
    fallBackClock s = usbStops s2 := by
  rw [fallBackClock_runs runs h1, if_pos (.inr ⟨synced, by simp [root]⟩), if_neg (by simp [root]), h2]

theorem fallBackClock_free {s s1 : State} (runs : s.sys.xtal = true)
    (h1 : s1 = raise { s with sys := { s.sys with xtal := false, clockFallback := true } } 422 1 0)
    (free : s1.tu.sync = .freeRun) : fallBackClock s = usbStops s1 := by
  rw [fallBackClock_runs runs h1, if_neg (by simp [free])]

/-! ### Rails -/

theorem railOutOfWindow_none {s : State} {r : Nat} {b : Bool} {mv : Nat}
    (no : railNeeded s r = false ∨ s.sys.railsOut.contains r = true ∨ railBeyond r b mv = false) :
    railOutOfWindow r b mv s = s := by
  refine if_neg ?_
  rintro ⟨needed, here, beyond⟩
  rcases no with h | h | h
  · exact Bool.false_ne_true (h.symm.trans needed)
  · rw [h] at here
    exact Bool.false_ne_true here
  · exact Bool.false_ne_true (h.symm.trans beyond)

theorem railOutOfWindow_running {s s1 : State} {r : Nat} {b : Bool} {mv : Nat} (needed : railNeeded s r = true)
    (here : s.sys.railsOut.contains r = false) (beyond : railBeyond r b mv = true)
    (h : s1 = { s with sys := { s.sys with railsOut := r :: s.sys.railsOut } }) (runs : s.sys.held = .no) :
    railOutOfWindow r b mv s = raise (domainReset s1 .railOut) 423 (if b then 2 else 1) (railData r mv) := by
  subst h
  refine (if_pos ⟨needed, by rw [here]; rfl, beyond⟩).trans ?_
  simp only [runs, true_or, if_true]

/-- A rail that is back, and whether it was the last for which the chip was held. -/
theorem railReturned_valid {s : State} {r mv : Nat} (out : s.sys.railsOut.contains r = true) (valid : railValid r mv = true) :
    railReturned r mv s =
      (let s1 := { s with sys := { s.sys with railsOut := s.sys.railsOut.erase r } }
      let s2 := if r = 6 then
        { s1 with crock := { s1.crock with nvOk := true, fault := decide (16 ≤ s1.crock.failing) } } else s1
      let s3 := raise s2 423 3 (railData r mv)
      if s3.sys.railsOut = [] ∧ s3.sys.held = .railOut then coldBoot s3 else s3) := if_pos ⟨out, valid⟩

theorem railReturned_other {s s1 : State} {r mv : Nat} (out : s.sys.railsOut.contains r = true) (valid : railValid r mv = true)
    (other : r ≠ 6) (h : s1 = raise { s with sys := { s.sys with railsOut := s.sys.railsOut.erase r } } 423 3 (railData r mv)) :
    railReturned r mv s = if s1.sys.railsOut = [] ∧ s1.sys.held = .railOut then coldBoot s1 else s1 := by
  rw [railReturned_valid out valid, h]
  simp only [if_neg other]

theorem railReturned_vddnv {s s1 s2 : State} {mv : Nat} (out : s.sys.railsOut.contains 6 = true) (valid : railValid 6 mv = true)
    (h1 : s1 = { s with sys := { s.sys with railsOut := s.sys.railsOut.erase 6 },
                        crock := { s.crock with nvOk := true, fault := decide (16 ≤ s.crock.failing) } })
    (h2 : s2 = raise s1 423 3 (railData 6 mv)) (held : s2.sys.held ≠ .railOut) : railReturned 6 mv s = s2 := by
  subst h1
  rw [railReturned_valid out valid]
  simp only [if_true, ← h2, held, and_false, if_false]

theorem railReturned_none {s : State} {r mv : Nat} (no : s.sys.railsOut.contains r = false ∨ railValid r mv = false) :
    railReturned r mv s = s :=
  if_neg fun h => no.elim (fun x => Bool.false_ne_true (x.symm.trans h.1)) (fun x => Bool.false_ne_true (x.symm.trans h.2))

/-! ### Resets -/

theorem vaonLoss_of {s s1 s2 : State} (h1 : s1 = pinReset { s with sys := { s.sys with
      railsOut := [4, 5] ++ s.sys.railsOut.filter (fun x => x != 4 && x != 5) } })
    (h2 : s2 = { s1 with pair := { s1.pair with takeovers := 0, primaryUid := none, primarySerial := none }
                         sys := { s1.sys with clPinned := 0, pstate := .off } }) :
    vaonLoss s = if s.sys.deadReg = true then startDeadFeed s2 else s2 := by
  rw [vaonLoss, powerGone, h2, h1]

theorem resetNRelease_held {s s1 : State} (st : Nat) (ok : Bool) (held : s.sys.held = .resetN) (h : s1 = sampleStraps s st) :
    resetNRelease st ok s =
      if s.sys.pstate = .deadFeed ∧ (!s.sys.regen) = true then { s1 with sys := { s1.sys with held := .rails } }
      else if ok then coldBoot (awaitRails s1)
      else awaitRails s1 := by
  subst h
  simp only [resetNRelease, held, sampleStraps]

theorem resetNRelease_other {s : State} (st : Nat) (ok : Bool) (other : s.sys.held ≠ .resetN) : resetNRelease st ok s = s := by
  unfold resetNRelease
  split
  · contradiction
  · rfl

/-- VAON and VDDIO become valid: the boot is counted, and RESET_N decides what follows. -/
theorem powerUp_rises {s s1 : State} (st : Nat) (hi : Bool) (rises : s.sys.pstate = .off ∨ s.sys.railsOut.contains 5 = true)
    (h : s1 = setPaired { s with sys := { s.sys with
      pstate := if s.sys.pstate == .off then .active else s.sys.pstate,
      railsOut := s.sys.railsOut.filter (fun r => r != 4 && r != 5) } } plBoot ((s.paired plBoot + 1) % 2 ^ 32)) :
    powerUp st hi s =
      if (!hi) = true then { s1 with sys := { s1.sys with held := .resetN } }
      else if (s.sys.pstate == .off) = true then awaitRails (sampleStraps s1 st)
      else if (s.sys.held == .resetN && s.sys.regen) = true then coldBoot (sampleStraps s1 st) else sampleStraps s1 st := by
  rw [powerUp, if_pos rises, h]

theorem chipResetDelayExpiry_due {s : State} {d : Nat} (due : s.sys.resetDue = some d)
    (free : s.isPair = false ∨ s.chipActive = false) : chipResetDelayExpiry s = awaitRails (pinReset s) := by
  have no : ¬ (s.isPair && s.chipActive) = true := by rcases free with h | h <;> simp [h]
  simp only [chipResetDelayExpiry, due, if_neg no]

theorem chipResetDelayExpiry_none {s : State}
    (no : s.sys.resetDue = none ∨ (s.isPair = true ∧ s.chipActive = true)) : chipResetDelayExpiry s = s := by
  unfold chipResetDelayExpiry
  split
  · rfl
  next due =>
    obtain ⟨pair, active⟩ := no.resolve_left (by rw [due]; simp)
    exact if_pos (by simp [pair, active])

/-- Settles O34: the clock by the time's parent, a rail by its window, a reset by what holds the chip. -/
theorem clocksRailsAndResets : Obligations.ClocksRailsAndResets := by
  refine ⟨fun s s1 s2 runs hs1 => ⟨fun locked has hs2 => ?_, fun synced root hs2 => ?_, fun free => ?_⟩,
    fun s stopped => ⟨ends_of rfl (if_pos (by simp [stopped])), ends_of rfl (if_pos (by simp [stopped]))⟩,
    fun s stopped => ⟨ends_of rfl (if_pos (by simp [stopped])), ends_of rfl (if_neg (by simp))⟩,
    fun s b runs => ends_of rfl (if_neg (by simp [runs])), fun s => rfl,
    fun s fref => ⟨ends_of rfl (if_pos fref), ends_of rfl (if_pos fref)⟩,
    fun s lost => ⟨ends_of rfl (if_neg (by simp [lost])), ends_of rfl (if_neg (by simp [lost]))⟩,
    fun s r b mv s1 needed here beyond hs1 runs => ends_of rfl (railOutOfWindow_running needed here beyond hs1 runs),
    fun s r b mv no => ends_of rfl (railOutOfWindow_none no), fun r mv => by simp [railBeyond],
    fun r mv => by simp [railValid], fun s w => ⟨rfl, rfl, rfl, rfl⟩, fun s r mv no => ends_of rfl (railReturned_none no),
    fun s r mv s1 out valid other hs1 =>
      ⟨fun all held => ends_of rfl ((railReturned_other out valid other hs1).trans (if_pos ⟨all, held⟩)),
        fun no => ends_of rfl ((railReturned_other out valid other hs1).trans
          (if_neg fun h => no.elim (fun x => x h.1) (fun x => x h.2)))⟩,
    fun s mv s1 s2 out valid hs1 hs2 held => ends_of rfl (railReturned_vddnv out valid hs1 hs2 held),
    fun s s1 s2 hs1 hs2 => ⟨fun off => ends_of rfl ((vaonLoss_of hs1 hs2).trans (if_neg (by simp [off]))),
      fun on => ends_of rfl ((vaonLoss_of hs1 hs2).trans (if_pos on))⟩,
    fun s vddio => ends_of rfl (if_neg fun h => Bool.false_ne_true (vddio.symm.trans h)), fun s out => ends_of rfl (if_pos out),
    fun s => ⟨rfl, rfl, rfl, rfl, rfl, rfl⟩, fun s st s1 held hs1 => ⟨fun normal => ?_, fun dead low ok => ends_of rfl ?_⟩,
    fun s st ok other => ends_of rfl (resetNRelease_other st ok other), fun s st => ⟨rfl, rfl⟩,
    fun s st n s1 off hn hs1 => ?_, fun s st n s1 on out hn hs1 => ?_,
    fun s st hi on valid => ends_of rfl (if_neg fun h => h.elim on fun x => Bool.false_ne_true (valid.symm.trans x)),
    fun s s1 hs1 => by rw [hs1, coldBoot], fun s d due free => ends_of rfl (chipResetDelayExpiry_due due free),
    fun s no => ends_of rfl (chipResetDelayExpiry_none no)⟩
  · have e := fallBackClock_child runs hs1 locked has hs2
    exact ⟨ends_of rfl e, ends_of rfl e⟩
  · have e := fallBackClock_root runs hs1 synced root hs2
    exact ⟨ends_of rfl e, ends_of rfl e⟩
  · have e := fallBackClock_free runs hs1 free
    exact ⟨ends_of rfl e, ends_of rfl e⟩
  · have no : ¬ (s.sys.pstate = .deadFeed ∧ (!s.sys.regen) = true) := by
      rcases normal with h | h <;> simp [h]
    exact ⟨ends_of rfl ((resetNRelease_held st true held hs1).trans ((if_neg no).trans (if_pos rfl))),
      ends_of rfl ((resetNRelease_held st false held hs1).trans ((if_neg no).trans (if_neg Bool.false_ne_true)))⟩
  · exact (resetNRelease_held st ok held hs1).trans (if_pos ⟨dead, by simp [low]⟩)
  · subst hn
    have e := fun hi => powerUp_rises st hi (.inl off) (s1 := s1) (by rw [hs1]; simp only [off, beq_self_eq_true, if_true])
    exact ⟨ends_of rfl ((e true).trans (by simp [off])), ends_of rfl ((e false).trans (if_pos rfl))⟩
  · subst hn
    have e := powerUp_rises st true (.inr out) (s1 := s1) (by rw [hs1]; simp only [beq_iff_eq, if_neg on])
    refine ⟨fun held regen => ends_of rfl (e.trans ?_), fun no => ends_of rfl (e.trans ?_)⟩
    · simp [on, held, regen]
    · rcases no with h | h <;> simp [on, h]

end Sys2Proof.Machine
end

section
/-! PROOF. Firmware starts, DEAD-FEED, die temperature and the idle timers (O35). -/

namespace Sys2Proof.Machine

/-! ### Firmware -/

/-- The firmware reports DONE: BANK_CHANGED comes first when an activated bank differs from the one before. -/
theorem firmwareDone_runs {s : State} {f : FwRestart} (fw : s.sys.fw = some f) : firmwareDone s =
    (let us := (s.ticks - f.at_) / 1000
    let s0 := if f.cause = 3 ∧ f.oldBank ≠ s.sys.bankB then fwEvent s 3 3 us else s
    let s1 := fwEvent s0 2 f.cause us
    tellFirmware { s1 with sys := { s1.sys with fw := none, fwUp := true, bootStage := 5, bootDone := true } } 0) := by
  simp only [firmwareDone, fw]

theorem firmwareWatchdog_runs {s s1 : State} {f : FwRestart} (fw : s.sys.fw = some f)
    (h : s1 = unverify (setChoice (setChoice (raise s 429 1 0) (badBit s.sys.bankB) true) 0 (!s.sys.bankB)) s.sys.bankB) :
    firmwareWatchdog s =
      if bankCheck s1 (!s.sys.bankB) = 0 then
        fwEvent (startBank { s1 with sys := { s1.sys with fwRestarts := min 65535 (s1.sys.fwRestarts + 1) } }
          (!s.sys.bankB) 2 false) 3 2 0
      else startRom s1 := by
  subst h
  simp only [firmwareWatchdog, fw]

/-! ### DEAD-FEED -/

theorem deadFeedStart_other {s : State} (u : Up) (on : s.sys.pstate ≠ .off) :
    deadFeedStart u s = { s with sys := { s.sys with deadReg := true } } := by
  unfold deadFeedStart
  dsimp only
  split
  · contradiction
  · rfl

theorem deadFeedRegen_contract {s : State} {u : Up} {c : Contract} (st : s.sys.pstate = .deadFeed)
    (cc : (s.pde (portOfUp u)).cc = .attachedSnk) (contract : (s.pde (portOfUp u)).contract = some c) : deadFeedRegen u s =
      if (!s.sys.regen && decide (9000 ≤ c.mv) && decide (15000000 ≤ c.power)) = true then
        { awaitRails s with sys := { (awaitRails s).sys with held := s.sys.held } }
      else s := by
  simp only [deadFeedRegen, st, cc, contract]

theorem deadFeedRegen_none {s : State} {u : Up} (no : s.sys.pstate ≠ .deadFeed ∨ (s.pde (portOfUp u)).cc ≠ .attachedSnk ∨
    (s.pde (portOfUp u)).contract = none) : deadFeedRegen u s = s := by
  unfold deadFeedRegen
  dsimp only
  split
  next st cc contract => rcases no with h | h | h <;> simp_all
  · rfl

theorem deadFeedStop_supplied {s : State} (vaon : s.sys.railsOut.contains 5 = false)
    (on : s.sys.pstate ≠ .deadFeed ∨ s.sys.regen = true) :
    deadFeedStop s = { s with sys := { s.sys with deadReg := false } } := by
  refine (if_neg fun h => Bool.false_ne_true (vaon.symm.trans h)).trans (if_neg ?_)
  rintro ⟨dead, low⟩
  rcases on with h | h
  · exact h dead
  · exact Bool.false_ne_true ((congrArg (!·) h).symm.trans low)

/-! ### Die temperature -/

theorem thermalShutdown_hot {s s0 s1 : State} {t : Int} {r r1 : EvRec} (hot : 1200 ≤ t) (h0 : s0 = setDie s t)
    (h1 : s1 = { s0 with sys := { s0.sys with thermal := 2 } }) (hr : r = mkRec s1 s1.now 421 1 (tempData t))
    (hr1 : r1 = { r with rb := r.rb - at_ 4 (bits r.rb 4 4) }) : thermalShutdown t s =
      captureRec (domainReset
        (if (bit r.rb 4 && !s1.crock.fault && s1.crock.nvOk) = true then writeRecord s1 r .good else s1) .hot) r1 := by
  subst hr1 hr h1 h0
  exact if_neg (by omega)

/-- The chip that heat has reset: it waits below 95 °C, then for its rails. -/
theorem thermalRecovery_hot {s s0 s1 : State} {t : Int} (held : s.sys.held = .hot) (h0 : s0 = setDie s t)
    (h1 : s1 = { s0 with sys := { s0.sys with thermal := 0 } }) : thermalRecovery t s =
      if 950 < t then s0
      else if s.sys.railsOut = [] then coldBoot s1 else { s1 with sys := { s1.sys with held := .railOut } } := by
  subst h1 h0
  simp only [thermalRecovery, held, setDie]

theorem thermalRecovery_other {s : State} (t : Int) (other : s.sys.held ≠ .hot) : thermalRecovery t s = s := by
  unfold thermalRecovery
  split
  · contradiction
  · rfl

/-! ### Idle timers -/

/-- The proxy's own LPM token, and the device's answer. -/
theorem proxyL1Idle_ready {s s1 : State} {p b : Nat} (d : Hs) (ready : l1Ready s p = true) (hb : b = ((s.port p).ownerL1).getD 0)
    (h : s1 = s.modPort p (fun q => { q with wire := .lpm b })) :
    (d = .ack → proxyL1Idle p d s = (enterL1 s1 p b).modPort p (fun q => { q with pxL1 := true })) ∧
    (d ≠ .ack → proxyL1Idle p d s = s1) := by
  subst h hb
  refine ⟨fun ack => ?_, fun other => (if_pos ready).trans ?_⟩
  · subst ack
    exact if_pos ready
  · cases d with
    | ack => contradiction
    | nak => rfl
    | nyet => rfl
    | stall => rfl
    | none => rfl

theorem upU1U2Idle_rests {s : State} {u : Up} (rests : ssPortsRest s u = true) :
    ((s.up u).u1En = true → upU1Eff s ≠ 0 → (s.up u).ssLink = .u0 → upU1U2Idle u false true s = setUpLink s u .u1 false) ∧
    ((s.up u).u2En = true → upU2Eff s ≠ 0 → (s.up u).ssLink = .u0 ∨ (s.up u).ssLink = .u1 →
      upU1U2Idle u true true s = setUpLink s u .u2 false) := by
  refine ⟨fun en time link => if_pos ?_, fun en time link => if_pos ?_⟩
  · simp [en, time, link, rests]
  · simp [en, time, link, rests]

theorem upEff_of (s : State) : (s.sys.upU1 = none → upU1Eff s = if s.sys.profile = .economy then 20 else 0) ∧
    (∀ v, s.sys.upU1 = some v → upU1Eff s = v) ∧
    (s.sys.upU2 = none → upU2Eff s = if s.sys.profile = .economy then 4 else 0) ∧
    (∀ v, s.sys.upU2 = some v → upU2Eff s = v) :=
  ⟨fun h => by rw [upU1Eff, h, Option.getD_none], fun v h => by rw [upU1Eff, h, Option.getD_some],
    fun h => by rw [upU2Eff, h, Option.getD_none], fun v h => by rw [upU2Eff, h, Option.getD_some]⟩

/-- Settles O35: firmware by the start that runs, heat by the threshold passed, an idle timer by its conditions. -/
theorem firmwareDeadFeedAndHeat : Obligations.FirmwareDeadFeedAndHeat := by
  refine ⟨fun s f us s1 fw hus => ⟨fun same hs1 => ends_of rfl ((firmwareDone_runs fw).trans ?_),
      fun activated changed hs1 => ends_of rfl ((firmwareDone_runs fw).trans ?_)⟩,
    fun s none_ => ⟨ends_of rfl ?_, ends_of rfl ?_⟩,
    fun s f s1 fw hs1 => ⟨fun passes => ends_of rfl ((firmwareWatchdog_runs fw hs1).trans (if_pos passes)),
      fun fails => ends_of rfl ((firmwareWatchdog_runs fw hs1).trans (if_neg fails))⟩,
    fun s up => ends_of rfl (if_pos up), fun s down => ends_of rfl (if_neg (by simp [down])),
    fun s b c s1 s2 hs1 hs2 => by rw [hs2, hs1, freshFirmware], fun s u on => ends_of rfl (deadFeedStart_other u on),
    fun s u off => ends_of rfl ?_, fun s => ⟨rfl, rfl, rfl, rfl⟩, fun s u c s1 st cc contract hs1 => ?_,
    fun s u no => ends_of rfl (deadFeedRegen_none no), fun s s1 hs1 => ?_, fun s t => rfl,
    fun s t s1 hot hs1 => ⟨_, rfl, ends_of rfl ?_⟩, fun s t s1 cool hs1 => ends_of rfl ?_,
    fun s t => ⟨fun cool => ends_of rfl (if_pos (by simpa using cool)), fun hot => ends_of rfl (if_pos (by simpa using hot)),
      fun cool => ends_of rfl (if_pos cool)⟩,
    fun s t s0 s1 r r1 hot hs0 hs1 hr hr1 => ⟨fun journals => ends_of rfl ((thermalShutdown_hot hot hs0 hs1 hr hr1).trans ?_),
      fun lost => ends_of rfl ((thermalShutdown_hot hot hs0 hs1 hr hr1).trans ?_)⟩,
    fun s t s0 s1 held hs0 hs1 => ⟨fun hot => ends_of rfl ((thermalRecovery_hot held hs0 hs1).trans (if_pos hot)),
      fun cool rails => ends_of rfl ((thermalRecovery_hot held hs0 hs1).trans ((if_neg (by omega)).trans (if_pos rails))),
      fun cool out => ends_of rfl ((thermalRecovery_hot held hs0 hs1).trans ((if_neg (by omega)).trans (if_neg out)))⟩,
    fun s t other => ends_of rfl (thermalRecovery_other t other),
    fun s p b s1 ready hb hs1 => ⟨ends_of rfl ((proxyL1Idle_ready .ack ready hb hs1).1 rfl),
      fun d other => ends_of rfl ((proxyL1Idle_ready d ready hb hs1).2 other)⟩,
    fun s p d no => ends_of rfl (if_neg (by simp [no])),
    fun s u rests => ⟨fun en time link => ends_of rfl ((upU1U2Idle_rests rests).1 en time link),
      fun en time link => ends_of rfl ((upU1U2Idle_rests rests).2 en time link)⟩,
    fun s u b => ends_of rfl (if_neg (by simp)), fun s u b ok busy => ends_of rfl (if_neg (by simp [busy])), upEff_of⟩
  · have no : ¬ (f.cause = 3 ∧ f.oldBank ≠ s.sys.bankB) := fun h => same.elim (fun x => x h.1) (fun x => h.2 x)
    simp only [if_neg no, ← hus, ← hs1]
  · simp only [if_pos (show f.cause = 3 ∧ f.oldBank ≠ s.sys.bankB from ⟨activated, changed⟩), ← hus, ← hs1]
  · rw [firmwareDone, none_]
  · rw [firmwareWatchdog, none_]
  · simp only [deadFeedStart, off]
  · subst hs1
    refine ⟨fun low volts watts => ends_of rfl ((deadFeedRegen_contract st cc contract).trans (if_pos ?_)),
      fun no => ends_of rfl ((deadFeedRegen_contract st cc contract).trans (if_neg ?_))⟩
    · simp [low, volts, watts]
    · rcases no with h | h | h
      · simp [h]
      · simp [Nat.not_le.2 h]
      · simp [Nat.not_le.2 h]
  · subst hs1
    exact ⟨fun off => ends_of rfl (if_pos off), fun vaon on => ends_of rfl (deadFeedStop_supplied vaon on)⟩
  · subst hs1
    exact if_neg (by simpa using hot)
  · subst hs1
    exact if_neg (by simpa using cool)
  · rw [if_pos journals]
  · rw [if_neg (by simp [lost])]

end Sys2Proof.Machine
end

section
/-! PROOF. The command front-end, its pipes, forwarding and command frames (O36). -/

namespace Sys2Proof.Machine

/-! ### The front-end's checks -/

theorem packetFault_length {bs : List Byte}
    (bad : bs.length < 16 ∨ 4088 < leNat (slice bs 6 2) ∨ leNat (slice bs 6 2) ≠ bs.length - 16) : packetFault bs = some 3 :=
  if_pos bad

theorem packetFault_whole {bs : List Byte} (head : 16 ≤ bs.length) (small : leNat (slice bs 6 2) ≤ 4088)
    (full : leNat (slice bs 6 2) = bs.length - 16) : packetFault bs =
      if leNat (slice bs 12 4) ≠ crc32c (bs.take 12 ++ bs.drop 16) then some 1
      else if leNat (slice bs 0 2) ≠ 0x01C5 then some 2 else none :=
  if_neg (by omega)

theorem frontEnd_fault (s : State) (tr : Transport) (ft : Nat) (mu : Bool) {bs : List Byte} {d : Nat}
    (fault : packetFault bs = some d) : frontEnd s tr ft mu bs =
      badCheck s (if d = 2 then readPacket tr ft mu bs else { readPacket tr ft mu bs with noresp := false }) d := by
  simp only [frontEnd, fault]

theorem frontEnd_duplicate {s : State} {tr : Transport} {ft : Nat} {mu : Bool} {bs : List Byte} {x : Cached}
    (sound : packetFault bs = none) (whole : fragOf bs = false) (dup : dupOf s (readPacket tr ft mu bs) = some x) :
    frontEnd s tr ft mu bs = sendBack s (readPacket tr ft mu bs) x.resp (respOf x.resp) := by
  simp only [frontEnd, sound, whole, Bool.false_eq_true, if_false, dup]

/-- A whole packet while no assembly is open. -/
theorem assemble_whole {s : State} {c : Cmd} (shut : (s.trState c.tr).asm = none) : assemble s c false = (some c, s) := by
  simp only [assemble, shut, Bool.false_eq_true, if_false]

theorem assemble_starts {s : State} {c : Cmd} (shut : (s.trState c.tr).asm = none) :
    assemble s c true = (none, s.modTr c.tr (fun t => { t with asm := some (startAsm c) })) := by
  simp only [assemble, shut, if_true]

theorem assemble_other {s : State} {c : Cmd} {a : Assembly} (started : (s.trState c.tr).asm = some a) (tag : a.tag = c.tag)
    (other : a.opcode ≠ c.opcode) : assemble s c true = (none, abandonAsm s c.tr c.ftag) := by
  simp only [assemble, started, tag, ne_eq, not_true_eq_false, if_false, other, not_false_eq_true, if_true]

theorem assemble_joins {s : State} {c : Cmd} {a : Assembly} (started : (s.trState c.tr).asm = some a) (tag : a.tag = c.tag)
    (same : a.opcode = c.opcode) (fits : (a.payload ++ c.payload).length ≤ 4088) : assemble s c true =
      (none, s.modTr c.tr (fun t => { t with asm := some { a with payload := a.payload ++ c.payload } })) := by
  simp only [assemble, started, if_neg (not_not.2 tag), if_neg (not_not.2 same), if_neg (Nat.not_lt.2 fits), if_true]

theorem frontEnd_routes {s : State} {tr : Transport} {ft : Nat} {mu : Bool} {bs : List Byte} (sound : packetFault bs = none)
    (whole : fragOf bs = false) (first : dupOf s (readPacket tr ft mu bs) = none)
    (shut : (s.trState (readPacket tr ft mu bs).tr).asm = none) :
    frontEnd s tr ft mu bs = routeCmd s (readPacket tr ft mu bs) bs := by
  have crc : (readPacket tr ft mu bs).crc.isSome = true := rfl
  simp only [frontEnd, sound, whole, Bool.false_eq_true, if_false, first, assemble_whole shut, crc, if_true]

/-- A fragment leaves what `assemble` makes of it when no command is whole yet. -/
theorem frontEnd_fragment {s t : State} {tr : Transport} {ft : Nat} {mu : Bool} {bs : List Byte}
    (sound : packetFault bs = none) (frag : fragOf bs = true)
    (waits : assemble s (readPacket tr ft mu bs) true = (none, t)) : frontEnd s tr ft mu bs = t := by
  simp only [frontEnd, sound, frag, if_true, waits]

/-! ### Routes -/

theorem toMpc_up {s : State} (c : Cmd) (up : s.sys.fwUp = true) :
    (s.sys.pstate ≠ .doze → toMpc s c = settleQueue { s with cmd := { s.cmd with queue := s.cmd.queue ++ [c] } }) ∧
    (s.sys.pstate = .doze → toMpc s c =
      settleQueue (wakeSource { s with cmd := { s.cmd with queue := s.cmd.queue ++ [c] } })) := by
  have go : ¬ (!s.sys.fwUp && !s.sys.romOnly) = true := by simp [up]
  refine ⟨fun awake => (if_neg go).trans ?_, fun doze => (if_neg go).trans ?_⟩
  · dsimp only
    split
    · contradiction
    · rfl
  · simp only [doze]

theorem routeCmd_own {s : State} {c : Cmd} (bs : List Byte) (own : c.target = 0 ∨ c.target = s.fab.nodeId) :
    routeCmd s c bs = toMpc s c := if_pos (own.imp_right Or.inl)

theorem routeCmd_node {s : State} {c : Cmd} (bs : List Byte) (other : c.target ≠ 0) (far : c.target ≠ s.fab.nodeId)
    (node : c.target ≠ 255) : routeCmd s c bs =
      if c.target ≤ 240 ∧ s.hasRoute c.target = true then forwardCmd s c bs else respond s c (.fail stNoRoute) :=
  (if_neg (by simp [other, far, node])).trans (if_neg node)

theorem routeCmd_broadcast {s : State} {c : Cmd} (bs : List Byte) (all : c.target = 255) (far : s.fab.nodeId ≠ 255)
    (first : c.mute = false) : routeCmd s c bs =
      if (c.auth || privileged c.opcode) = true then respond s c (.fail stRefusedState) else toMpc (broadcast s bs) c :=
  (if_neg (by simp [all, far.symm, first])).trans (if_pos all)

/-! ### The response pipe and assemblies -/

theorem responsePipeIn_open {s : State} {u : Up} (pipes : mgmtPipes s u = true) :
    ((s.up u).respPipe = [] → responsePipeIn u s = answer s u .nak) ∧
    (∀ b bs, (s.up u).respPipe = b :: bs → responsePipeIn u s = answer (s.modUp u (fun x => { x with
        respPipe := bs, respToggle := x.respToggle != ((b.length / bulkMps s u) % 2 == 0) })) u
        (.data (s.up u).respToggle b)) := by
  refine ⟨fun empty => (if_neg (by simp [pipes])).trans ?_, fun b bs head => (if_neg (by simp [pipes])).trans ?_⟩
  · simp only [empty]
  · simp only [head]

theorem abandonAsm_open {s : State} {t : Transport} {a : Assembly} (n : Nat) (started : (s.trState t).asm = some a) :
    abandonAsm s t n = badCheck (s.modTr t (fun t => { t with asm := none })) { asmCmd t a with ftag := n } 4 := by
  simp only [abandonAsm, started]

/-! ### Command frames -/

theorem joinSegs_lost {s : State} (src tag n : Nat) (resp : Bool) (bs : List Byte) (none_ : s.cmd.segs = []) :
    joinSegs s src tag (n + 1) resp bs = (none, s) := by
  simp [joinSegs, none_]

theorem joinSegs_later {s : State} {seg : Nat} (src tag : Nat) (resp : Bool) (bs : List Byte) (later : seg ≠ 0)
    (none_ : s.cmd.segs = []) : joinSegs s src tag seg resp bs = (none, s) := by
  obtain ⟨n, rfl⟩ := Nat.exists_eq_succ_of_ne_zero later
  exact joinSegs_lost src tag n resp bs none_

theorem takeResponse_known {s s1 : State} {src tag : Nat} {x : Forwarded} (all : List Byte)
    (known : s.cmd.fwd.find? (fun x => x.fabTag == tag && x.node == src && !x.done) = some x)
    (h : s1 = { s with cmd := { s.cmd with fwd := { x with done := true } :: s.cmd.fwd.filter (fun y => y.fabTag != tag) } }) :
    takeResponse s src tag all = sendBack (cacheResp s1 x.cmd all) x.cmd all (respOf all) := by
  subst h
  simp only [takeResponse, known]

theorem takeResponse_late {s : State} {src tag : Nat} {all : List Byte}
    (late : s.cmd.fwd.find? (fun x => x.fabTag == tag && x.node == src && !x.done) = none)
    (failed : (respOf all).status ≠ stOk) : takeResponse s src tag all = s := by
  simp only [takeResponse, late, if_neg failed]

theorem partnerCmdFrame_first {s : State} (last r : Bool) (o : Nat) (bs : List Byte) (pair : s.isPair = true) :
    partnerCmdFrame 0 last r o bs s =
      (let rest := s.cmd.relayIn.filter (fun x => !(x.1 == o && x.2.1 == r))
      if last then takeRelayed { s with cmd := { s.cmd with relayIn := rest } } o r bs
      else { s with cmd := { s.cmd with relayIn := (o, r, 1, bs) :: rest } }) :=
  (if_neg (by simp [pair])).trans (if_pos rfl)

/-- Settles O36: a packet by the first check it fails, a frame by its place in its packet. -/
theorem frontEndAndPipes : Obligations.FrontEndAndPipes := by
  refine ⟨fun s u bs pipes fits => ends_of rfl ((if_neg (by simp [pipes])).trans (if_neg (by omega))),
    fun s u bs pipes full => ends_of rfl ((if_neg (by simp [pipes])).trans (if_pos full)),
    fun s u bs shut => ends_of rfl (if_pos (by simp [shut])),
    fun bs => ⟨packetFault_length, fun head small full => ⟨fun crc => (packetFault_whole head small full).trans (if_pos crc),
      fun crc => ?_⟩⟩,
    fun s tr ft mu bs d fault other => (frontEnd_fault s tr ft mu fault).trans (by rw [if_neg other]),
    fun s tr ft mu bs fault => frontEnd_fault s tr ft mu fault,
    fun s tr ft mu bs x sound whole dup => frontEnd_duplicate sound whole dup,
    fun s tr ft mu bs sound whole first shut => frontEnd_routes sound whole first shut,
    fun s tr ft mu bs c sound frag hc shut => by subst hc; exact frontEnd_fragment sound frag (assemble_starts shut),
    fun s tr ft mu bs c a sound frag hc started tag => ?_,
    fun s c bs own up => ⟨fun awake => (routeCmd_own bs own).trans ((toMpc_up c up).1 awake),
      fun doze => (routeCmd_own bs own).trans ((toMpc_up c up).2 doze)⟩,
    fun s c bs own down ram => (routeCmd_own bs (.inl own)).trans (if_pos (by simp [down, ram])),
    fun s c bs other far node => ⟨fun lost => (routeCmd_node bs other far (by omega)).trans (if_neg (by simp [lost])),
      fun route => (routeCmd_node bs other far (by omega)).trans (if_pos ⟨node, route⟩)⟩,
    fun s c bs all far first => ⟨fun priv => (routeCmd_broadcast bs all far first).trans (if_pos (by simpa using priv)),
      fun auth plain => (routeCmd_broadcast bs all far first).trans (if_neg (by simp [auth, plain]))⟩,
    fun s c bs high single far => (routeCmd_node bs (by omega) far single).trans (if_neg (by omega)),
    fun s u shut => ends_of rfl (if_pos (by simp [shut])),
    fun s u pipes empty => ends_of rfl ((responsePipeIn_open pipes).1 empty),
    fun s u b bs pipes head => ends_of rfl ((responsePipeIn_open pipes).2 b bs head),
    fun s t shut => ends_of rfl (by rw [abandonAsm, shut]), fun s t a started => ends_of rfl (abandonAsm_open 0 started),
    fun s t locked => ends_of rfl (if_pos locked), fun s t free => ends_of rfl (if_neg (by simp [free])),
    fun s src tag resp bs n rest x hrest hx => ⟨by subst hx hrest; rfl, joinSegs_lost src tag n resp bs⟩,
    fun s src tag all bs s1 hs1 => ⟨ends_of rfl (by subst hs1; rfl), ends_of rfl rfl⟩,
    fun s src tag seg last all bs later none_ => ⟨ends_of rfl ?_, ends_of rfl ?_⟩,
    fun s src tag bs s1 hs1 => ⟨ends_of rfl (by subst hs1; rfl), ends_of rfl rfl⟩,
    fun s src tag all => ⟨fun x s1 known hs1 => takeResponse_known all known hs1, takeResponse_late⟩,
    fun s tag none_ => ends_of rfl (by rw [cmdWaitExpiry, none_]),
    fun s tag x waits => ends_of rfl (by simp only [cmdWaitExpiry, waits]),
    fun s seg last r o bs single => ends_of rfl (if_pos (by simp [single])),
    fun s o r bs rest pair hrest => ends_of rfl (by subst hrest; exact partnerCmdFrame_first false r o bs pair),
    fun s o bs s1 pair hs1 => ends_of rfl (by subst hs1; exact partnerCmdFrame_first true false o bs pair),
    fun s o bs s1 w pair hs1 waits => ends_of rfl ?_,
    fun s w waits => ends_of rfl (by simp only [relayTimeout, waits]),
    fun s none_ => ends_of rfl (by simp only [relayTimeout, none_])⟩
  · refine (packetFault_whole head small full).trans ((if_neg (not_not.2 crc)).trans ?_)
    rw [ite_not]
  · subst hc
    exact ⟨fun other => frontEnd_fragment sound frag (assemble_other started tag other),
      fun same fits => frontEnd_fragment sound frag (assemble_joins started tag same fits)⟩
  · simp only [commandFrame, joinSegs_later src tag false bs later none_]
  · simp only [responseFrame, joinSegs_later src tag true bs later none_]
  · subst hs1
    refine (partnerCmdFrame_first true true o bs pair).trans ((if_pos rfl).trans ((if_pos rfl).trans ?_))
    rw [waits]

end Sys2Proof.Machine
end

section
/-! PROOF. The sideband window and its mailboxes (O37). -/

namespace Sys2Proof.Machine

/-! ### The window's bytes -/

theorem windowByte_readOnly (s : State) {off : Nat} (b : Byte) (ro : off < 0x29 ∨ 0xA0 ≤ off) : windowByte s off b = s := by
  rw [windowByte, if_neg (by omega), if_neg (by omega), if_neg (by omega), if_neg (by omega)]

theorem windowByte_alertEn (s : State) (b : Byte) : windowByte s 0x29 b = modMb s (fun m => { m with alertEn := b.toNat }) := by
  rw [windowByte, if_neg (by omega), if_pos rfl]

theorem windowByte_mbiLen (s : State) (b : Byte) : windowByte s 0x41 b = modMb s (fun m => { m with mbiLen := b.toNat }) := by
  rw [windowByte, if_neg (by omega), if_neg (by omega), if_pos rfl]

theorem windowByte_mbiCtrl (s : State) {b : Byte} (plain : b.toNat < 64) :
    windowByte s 0x40 b = modMb s (fun m => { m with mbiCtrl := mbiKept b.toNat }) := by
  rw [windowByte, if_pos rfl, if_pos plain]

theorem windowByte_mbiData (s : State) {off : Nat} (b : Byte) (low : 0x44 ≤ off) (high : off ≤ 0x9F) :
    windowByte s off b = modMb s (fun m => { m with mbiData := m.mbiData.set (off - 0x44) b }) := by
  rw [windowByte, if_neg (by omega), if_neg (by omega), if_neg (by omega), if_pos ⟨low, high⟩]

/-- MBI_CTRL as it is kept: SEQ and bits 7:6 stand, RES reads 0. -/
theorem bits_mbiKept (c : Nat) : bits (mbiKept c) 5 4 = 0 ∧ bits (mbiKept c) 3 0 = bits c 3 0 ∧
    bits (mbiKept c) 7 6 = bits c 7 6 := by
  simp only [mbiKept, bits, at_]
  omega

/-! ### Messages from the host -/

/-- MBI_CTRL with GO: the message is answered, and taken when its RESULT is 1. -/
theorem mbiCtrlGo_open {s s1 s2 : State} (sm : Bool) {ctrl len : Nat} {msg : List Byte} (open_ : windowOpen s = true)
    (h1 : s1 = windowWrite (msg.take 92) 0x44 (modMb s (fun m => { m with mbiCtrl := mbiKept ctrl, mbiLen := len % 256 })))
    (h2 : s2 = mbiAnswer s1 (ctrl % 16) (mbiResult s1 (ctrl % 16) (len % 256))) : mbiCtrlGo sm ctrl len msg s =
      if mbiResult s1 (ctrl % 16) (len % 256) = 1 then
        frontEnd (modMb s2 (fun m => { m with lastSeq := ctrl % 16 })) (if sm then .smbus else .spi) 0 false
          (s2.cmd.mb.mbiData.take (len % 256))
      else s2 := by
  subst h2 h1
  exact if_neg (by simp [open_])

theorem mbiResult_of (s : State) (q n : Nat) : (q = s.cmd.mb.lastSeq → mbiResult s q n = 2) ∧
    (q ≠ s.cmd.mb.lastSeq → q ≠ (s.cmd.mb.lastSeq + 1) % 16 → mbiResult s q n = 3) ∧
    (q ≠ s.cmd.mb.lastSeq → q = (s.cmd.mb.lastSeq + 1) % 16 →
      mbiResult s q n = if 4 ≤ sidebandWaiting s then 4 else if n < 16 ∨ 92 < n then 5 else 1) :=
  ⟨fun again => if_pos again, fun new astray => (if_neg new).trans (if_pos astray),
    fun new next => (if_neg new).trans (if_neg (not_not.2 next))⟩

/-! ### Messages to the host -/

theorem mboNext_empty {s : State} (empty : s.cmd.mb.mboWait = []) :
    mboNext s = modMb s (fun m => { m with mboCtrl := m.mboCtrl % 128, mboTries := 0 }) := by
  have clear : ¬ s.cmd.mb.mboCtrl % 128 ≥ 128 := by omega
  simp only [mboNext, mboPost, modMb, if_neg clear, empty]

theorem mboNext_posts {s : State} {x : List Byte} {xs : List (List Byte)} (waits : s.cmd.mb.mboWait = x :: xs) :
    mboNext s = modMb s (fun m => { m with
      mboWait := xs, mboSeq := (m.mboSeq + 1) % 16, mboCtrl := 128 + (m.mboSeq + 1) % 16, mboLen := x.length,
      mboTries := 0, mboData := x ++ zeros (92 - x.length) }) := by
  have clear : ¬ s.cmd.mb.mboCtrl % 128 ≥ 128 := by omega
  simp only [mboNext, mboPost, modMb, if_neg clear, waits]

/-- MBO_ACK on the open window: it acknowledges the message that stands, or is only kept. -/
theorem mboAck_open {s s1 : State} {v : Nat} (open_ : windowOpen s = true) (h : s1 = modMb s (fun m => { m with mboAck := v % 256 })) :
    mboAck v s = if 128 ≤ s.cmd.mb.mboCtrl ∧ bit v 7 = true ∧ v % 16 = s.cmd.mb.mboSeq then mboNext s1 else s1 := by
  subst h
  exact if_neg (by simp [open_])

/-- The alert's answer: the own address while SMB_ALERT_N is low. -/
theorem smbusAlertResponse_of {s : State} {a : Option Nat}
    (h : a = if (windowOpen s && alertLow s) = true then some (0x50 + s.sys.addr) else none) :
    smbusAlertResponse s = modMb s (fun m => { m with araAnswer := a }) := by
  rw [h, smbusAlertResponse]

/-- Settles O37: a write by its offset, a message by its SEQ, an answer by the message that stands. -/
theorem sidebandMailboxes : Obligations.SidebandMailboxes := by
  refine ⟨fun s sm off bs open_ => ends_of rfl (if_pos open_),
    fun s sm off bs shut => ⟨ends_of rfl (if_neg (by simp [shut])), fun c l m => ends_of rfl (if_pos (by simp [shut])),
      fun c => ends_of rfl (if_pos (by simp [shut])), fun v => ends_of rfl (if_pos (by simp [shut]))⟩,
    fun s b bs off => ⟨fun low => if_neg (by omega), fun high => if_pos high, rfl⟩,
    fun s off b => ⟨fun low => windowByte_readOnly s b (.inl low), fun high => windowByte_readOnly s b (.inr high),
      windowByte_alertEn s b, windowByte_mbiLen s b, windowByte_mbiCtrl s, windowByte_mbiData s b⟩,
    bits_mbiKept, fun s sm ctrl len msg s1 s2 open_ hs1 hs2 =>
      ⟨fun refused => ends_of rfl ((mbiCtrlGo_open sm open_ hs1 hs2).trans (if_neg refused)),
        fun taken_ => ends_of rfl ((mbiCtrlGo_open sm open_ hs1 hs2).trans (if_pos taken_))⟩,
    mbiResult_of, fun s q r => rfl, fun s c open_ => ends_of rfl (if_neg (by simp [open_])),
    fun s v s1 open_ hs1 => ⟨fun posted high seq => ends_of rfl ((mboAck_open open_ hs1).trans (if_pos ⟨posted, high, seq⟩)),
      fun no => ends_of rfl ((mboAck_open open_ hs1).trans (if_neg ?_))⟩,
    fun s => ⟨mboNext_empty, fun x xs waits => mboNext_posts waits⟩, fun s clear => ends_of rfl (if_pos clear),
    fun s posted left => ends_of rfl ((if_neg (by omega)).trans (if_pos left)),
    fun s posted last => ends_of rfl ((if_neg (by omega)).trans (if_neg (by omega))),
    fun s open_ low => ends_of rfl (smbusAlertResponse_of (by simp [open_, low])),
    fun s no => ends_of rfl (smbusAlertResponse_of ?_), fun s => by simp [alertLow], fun s => ends_of rfl rfl⟩
  · rintro ⟨posted, high, seq⟩
    rcases no with h | h | h
    · omega
    · exact Bool.false_ne_true (h.symm.trans high)
    · exact h seq
  · rcases no with h | h <;> simp [h]

end Sys2Proof.Machine
end

section
/-! PROOF. The commands of groups 0x00, 0x0C, 0x0D and 0x0E (O38). -/

namespace Sys2Proof.Machine

/-! ### An admitted command -/

/-- An admitted command does what its body does, after its authentication. -/
theorem command_ends {i : Instr} {s t u : State} {c : Cmd} {op : Nat} {priv : Bool} {foreign : State → Cmd → Bool}
    (body : Cmd → State → State) (a : Admits s c op priv foreign)
    (run : exec i s = leaves s (runCmd op priv foreign body c s)) (h : t = begun s c priv) (e : body c t = u) :
    Ends i s (closed u) := by
  subst h e
  exact ends_of run (admits_run a body)

/-- The same for a form of an opcode. -/
theorem form_ends {i : Instr} {s t u : State} {c : Cmd} {op : Nat} {priv form : Bool} {foreign : State → Cmd → Bool}
    (body : Cmd → State → State) (a : Admits s c op priv foreign) (f : form = true)
    (run : exec i s = leaves s (runForm form op priv foreign body c s)) (h : t = begun s c priv) (e : body c t = u) :
    Ends i s (closed u) := by
  subst h e
  exact ends_of run (form_run f a body)

/-! ### System, profiles and levels -/

theorem cmdChipReset_alone {t : State} {c : Cmd} (alone : t.isPair = false ∨ t.chipActive = false) : cmdChipReset c t =
    (let d := args c 2 [par 0 16 10 1 1000]
    let u := respond t c (.ok [] d.2)
    { u with sys := { u.sys with resetDue := some (u.ticks + d.1 0 * 1000000) } }) :=
  if_neg (by rcases alone with h | h <;> simp [h])

theorem cmdChipReset_active {t : State} {c : Cmd} (pair : t.isPair = true) (active : t.chipActive = true) :
    cmdChipReset c t =
      if (!partnerReady t) = true then respond t c (.fail stRefusedState)
      else
        let w := addWait t c (args c 2 [par 0 16 10 1 1000]).2
        startHandover w.2 false (some w.1) := if_pos (by simp [pair, active])

theorem profileSet_of {t t1 : State} {c : Cmd} {n : (Nat → Nat) × Bool} (hn : n = args c 1 [parElse 0 8 0 3 0])
    (h : t1 = profileModes { t with sys := { t.sys with profile := profileOf (n.1 0) } }) : profileSet c t =
      (let t2 := if (t1.isPair && t1.chipActive) = true then sendSlow t1 [.profile (n.1 0)] else t1
      respond (pbaTrigger t2 2) c (.ok (profileBytes t2) n.2)) := by
  rw [h, hn, profileSet]

/-- CL_PIN of a level that the chip has. -/
theorem clPin_known {t : State} {c : Cmd} {n : (Nat → Nat) × Bool} (hn : n = args c 1 [parAny 0 8 t.sys.cl])
    (known : n.1 0 ≤ 1) : clPin c t =
      (let s0 := { t with sys := { t.sys with clPinned := n.1 0 } }
      let t1 := if n.1 0 = 0 then s0 else setPaired s0 plLevel (n.1 0)
      let t2 := if (t1.isPair && t1.chipActive) = true then sendSlow t1 [.clPin (n.1 0)] else t1
      respond t2 c (.ok (clBytes t2) n.2)) := by
  subst hn
  exact if_neg (by omega)

theorem clPin_pins {t t1 : State} {c : Cmd} {n : (Nat → Nat) × Bool} (hn : n = args c 1 [parAny 0 8 t.sys.cl])
    (one : n.1 0 = 1) (h : t1 = setPaired { t with sys := { t.sys with clPinned := 1 } } plLevel 1)
    (alone : (t1.isPair && t1.chipActive) = false) : clPin c t = respond t1 c (.ok (clBytes t1) n.2) := by
  rw [clPin_known hn (by omega)]
  simp only [one, Nat.one_ne_zero, if_false, ← h, alone, Bool.false_eq_true]

theorem clPin_clears {t t1 : State} {c : Cmd} {n : (Nat → Nat) × Bool} (hn : n = args c 1 [parAny 0 8 t.sys.cl])
    (zero : n.1 0 = 0) (h : t1 = { t with sys := { t.sys with clPinned := 0 } })
    (alone : (t1.isPair && t1.chipActive) = false) : clPin c t = respond t1 c (.ok (clBytes t1) n.2) := by
  rw [clPin_known hn (by omega)]
  simp only [zero, if_true, ← h, alone, Bool.false_eq_true, if_false]

/-! ### Firmware and keys -/

/-- FW_VERIFY by the first check that fails. -/
theorem fwVerify_of {t : State} {c : Cmd} {b : Bool × Bool} {d : Nat} (hb : b = bankArg t c) (hd : d = bankCheck t b.1) :
    fwVerify c t =
      if d = 0 then respond (setVerified t b.1) c (.ok [] b.2)
      else respond (if d = 3 then authEvent t c 3 else t) c (.fail stRefusedState d 0 b.2) := by
  subst hd hb
  rfl

/-- With no restart of the partner's firmware the order is taken. -/
theorem orderRestart_free {t : State} (c : Cmd) (clamped bank : Bool) (cause : Nat)
    (free : t.isPair = false ∨ t.pair.partnerFw = none) : orderRestart c clamped bank cause t =
      (let s0 := if cause = 3 then setChoice (setChoice t 0 bank) (badBit bank) false else t
      let t1 := respond s0 c (.ok [] clamped)
      { t1 with sys := { t1.sys with fwNext := some (bank, cause) } }) := by
  have none_ : (if t.isPair then t.pair.partnerFw else none) = none := by rcases free with h | h <;> simp [h]
  simp only [orderRestart, none_]

theorem orderRestart_busy {t : State} {e : Nat} (c : Cmd) (clamped bank : Bool) (cause : Nat) (pair : t.isPair = true)
    (partner : t.pair.partnerFw = some e) :
    orderRestart c clamped bank cause t = respond t c (.fail stBusy 1 (msLeft t e) clamped) := by
  simp only [orderRestart, pair, partner, if_true]

/-- KEY_WRITE of a slot that the carrier may change and no running image needs. -/
theorem keyWrite_free {t : State} {c : Cmd} {k : Nat} {b : List Byte} {cl : Bool} (hk : k = (keyArgs c).1 0)
    (hb : b = (c.params.drop 4).take (keyLen k))
    (hcl : cl = (((par 0 8 0 0 3).read c.params).2 || ((parElse 8 8 0 1 0).read c.params).2 || decide (4 + keyLen k < c.params.length)))
    (may : k ≠ 0 ∨ bySideband c = true) (free : k = 0 ∨ runningSlot t ≠ some k ∨ t.key k = none) : keyWrite c t =
      if (keyArgs c).1 1 = 0 ∧ ¬ keyGood k b = true then respond t c (.fail stRefusedState 3 0 cl)
      else respond (setKey t k (if (keyArgs c).1 1 = 0 then some b else none)) c (.ok [] cl) := by
  subst hcl hb hk
  refine (if_neg ?_).trans (if_neg ?_)
  · rintro ⟨zero, other⟩
    exact may.elim (fun h => h zero) other
  · rintro ⟨some_, key, running⟩
    rcases free with h | h | h
    · exact some_ h
    · exact h running
    · rw [h] at key
      exact Bool.false_ne_true key

theorem keyWrite_barred {t : State} {c : Cmd} {k : Nat} {cl : Bool} (hk : k = (keyArgs c).1 0)
    (hcl : cl = (((par 0 8 0 0 3).read c.params).2 || ((parElse 8 8 0 1 0).read c.params).2 || decide (4 + keyLen k < c.params.length))) :
    (k = 0 → bySideband c = false → keyWrite c t = respond t c (.fail stRefusedState 1 0 cl)) ∧
    (k ≠ 0 → (t.key k).isSome = true → runningSlot t = some k → keyWrite c t = respond t c (.fail stRefusedState 2 0 cl)) := by
  subst hcl hk
  exact ⟨fun zero usb => if_pos ⟨zero, by simp [usb]⟩,
    fun slot key running => (if_neg fun h => slot h.1).trans (if_pos ⟨slot, key, running⟩)⟩

/-! ### Diagnostics -/

theorem errorCounters_read {t : State} {c : Cmd} {m : (Nat → Nat) × Bool} (hm : m = args c 1 [parAny 0 1 0])
    (zero : m.1 0 = 0) : errorCounters c t = respond t c (.ok (errorBytes t) m.2) := by
  subst hm
  simp [errorCounters, zero]

theorem errorCounters_clears {t : State} {c : Cmd} {m : (Nat → Nat) × Bool} (hm : m = args c 1 [parAny 0 1 0])
    (one : m.1 0 = 1) (may : c.auth = true ∨ cmdUp c = none) :
    errorCounters c t = respond (clearErrors t) c (.ok (errorBytes t) m.2) := by
  subst hm
  have allowed : (c.auth || (cmdUp c).isNone) = true := by rcases may with h | h <;> simp [h]
  simp [errorCounters, one, allowed]

theorem errorCounters_clamps {t : State} {c : Cmd} {m : (Nat → Nat) × Bool} {u : Up} (hm : m = args c 1 [parAny 0 1 0])
    (one : m.1 0 = 1) (auth : c.auth = false) (usb : cmdUp c = some u) :
    errorCounters c t = respond t c (.ok (errorBytes t) true) := by
  subst hm
  simp [errorCounters, one, auth, usb]

/-- Settles O38: each command by its body, once it is admitted. -/
theorem systemCommands : Obligations.SystemCommands := by
  refine ⟨fun s c t ht => ⟨fun a => command_ends (answering _) a rfl ht rfl, fun a => command_ends identify a rfl ht rfl,
      fun a => command_ends (getWhole _) a rfl ht rfl, fun a => command_ends (getWhole _) a rfl ht rfl,
      fun a => command_ends (getWhole _) a rfl ht rfl, fun a => command_ends (getWhole _) a rfl ht rfl,
      fun a => command_ends (answering _) a rfl ht rfl⟩,
    fun s c t r a ht hr => command_ends keyStatus a rfl ht (by subst hr; rfl),
    fun s c t d u a ht alone hd hu => command_ends cmdChipReset a rfl ht (by subst hu hd; exact cmdChipReset_alone alone),
    fun s c t d a ht pair active hd => ?_, fun s c t i a ht hi => ?_, fun s c t n t1 a ht hn hs1 => ?_,
    fun s c t n a ht hn high => command_ends clPin a rfl ht (by subst hn; exact if_pos high),
    fun s c t n t1 a ht hn => ⟨fun one hs1 alone => command_ends clPin a rfl ht (clPin_pins hn one hs1 alone),
      fun zero hs1 alone => command_ends clPin a rfl ht (clPin_clears hn zero hs1 alone)⟩,
    fun s c t b d a ht hb hd => ?_, fun s c t b t1 a ht hb => ?_, fun s c t t1 a ht => ?_,
    fun s c t k b cl a ht hk hb hcl may free => ?_, fun s c t k cl a ht hk hcl => ?_,
    fun s c t f m map a ht hm hmap => command_ends (selfTest f) a rfl ht (by subst hmap hm; rfl),
    fun s c t m a ht hm => ⟨fun zero => command_ends errorCounters a rfl ht (errorCounters_read hm zero),
      fun one may => command_ends errorCounters a rfl ht (errorCounters_clears hm one may),
      fun u one auth usb => command_ends errorCounters a rfl ht (errorCounters_clamps hm one auth usb)⟩,
    fun s c t m a ht hm => command_ends diagTrigger a rfl ht (by subst hm; rfl),
    fun s c t n a ht hn => command_ends phyTuneGet a rfl ht (by subst hn; rfl),
    fun s c t n w a ht hn hw => command_ends phyTuneSet a rfl ht (by subst hw hn; rfl)⟩
  · subst hd
    exact ⟨fun ready => command_ends cmdChipReset a rfl ht ((cmdChipReset_active pair active).trans (if_neg (by simp [ready]))),
      fun busy => command_ends cmdChipReset a rfl ht ((cmdChipReset_active pair active).trans (if_pos (by simp [busy])))⟩
  · subst hi
    exact ⟨fun passes => command_ends configSelect a rfl ht (if_neg (not_not.2 passes)),
      fun fails => command_ends configSelect a rfl ht (if_pos fails)⟩
  · exact ⟨fun alone => command_ends profileSet a rfl ht ((profileSet_of hn hs1).trans
        (by rw [if_neg (by simp [alone])])),
      fun both => ⟨_, rfl, command_ends profileSet a rfl ht ((profileSet_of hn hs1).trans (by rw [if_pos both]))⟩⟩
  · exact ⟨fun good => command_ends fwVerify a rfl ht ((fwVerify_of hb hd).trans (if_pos good)),
      fun three => command_ends fwVerify a rfl ht ((fwVerify_of hb hd).trans
        ((if_neg (by omega)).trans (by rw [if_pos three, three]))),
      fun bad other => command_ends fwVerify a rfl ht ((fwVerify_of hb hd).trans ((if_neg bad).trans (by rw [if_neg other])))⟩
  · subst hb
    refine ⟨fun no => command_ends fwActivate a rfl ht (if_pos (by rw [no]; rfl)),
      fun verified free hs1 => command_ends fwActivate a rfl ht ((if_neg (by rw [verified]; decide)).trans ?_)⟩
    subst hs1
    exact orderRestart_free c _ _ 3 free
  · refine ⟨fun free hs1 => command_ends _ a rfl ht ?_, fun e pair partner => command_ends _ a rfl ht
      (orderRestart_busy c _ _ 1 pair partner)⟩
    subst hs1
    exact orderRestart_free c _ _ 1 free
  · refine ⟨fun op good => form_ends keyWrite a (by simp [op]) rfl ht ((keyWrite_free hk hb hcl may free).trans ?_),
      fun op bad => form_ends keyWrite a (by simp [op]) rfl ht ((keyWrite_free hk hb hcl may free).trans ?_),
      fun op => form_ends keyWrite a (by simp [op]) rfl ht ((keyWrite_free hk hb hcl may free).trans ?_)⟩
    · rw [if_neg (by simp [good]), if_pos op]
    · rw [if_pos ⟨op, by simp [bad]⟩]
    · rw [if_neg (by simp [op]), if_neg (by omega)]
  · obtain ⟨command, verify⟩ := keyWrite_barred (t := t) hk hcl
    exact ⟨fun zero usb op => form_ends keyWrite a (by simp [op]) rfl ht (command zero usb),
      fun slot key running op => form_ends keyWrite a (by simp [op]) rfl ht (verify slot key running)⟩

end Sys2Proof.Machine
end

section
/-! PROOF. The commands of groups 0x01 and 0x02 (O39). -/

namespace Sys2Proof.Machine

/-! ### Lists and moves -/

theorem cacheRead_none {s : State} {c : Cmd}
    (none_ : s.pages 4 ((args c 6 [par 0 8 1 1 32, parAny 16 16 0, parAny 32 16 4088]).1 0) 0 = 0) :
    cacheRead s c = .ok [] true := if_pos none_

/-- PORT_MOVE by the port's owner and what runs on it. -/
theorem portMove_of (t : State) (c : Cmd) : portMove c t =
    (let a := args c 3 [par 0 8 1 1 32, newOwner, parAny 16 1 1]
    let p := a.1 0
    let o := ownerOf (a.1 1)
    if (t.port p).id.owner = .lent then respond t c (.fail stRefusedState 0 0 a.2)
    else if portBusy (t.port p) = true then respond t c (.fail stBusy 2 10 a.2)
    else if (t.port p).id.owner = o then respond t c (.ok (leBytes 1 o.code ++ leBytes 1 o.code) a.2)
    else
      let w := addWait t c a.2
      startDrain w.2 p { wait := w.1, what := 0, newOwner := o, setHome := a.1 2 == 1, back := (t.port p).id.st }) := rfl

theorem startDrain_translated {s : State} {p : Nat} {d : Drain} (eff : (s.port p).id.eff = .translated)
    (st : (s.port p).id.st = .presented ∨ (s.port p).id.st = .live) : startDrain s p d =
      drainDonePhys (s.modPort p (fun q => { q with drain := some d, id := { q.id with st := .draining } })) p :=
  if_pos ⟨eff, st⟩

theorem startDrain_transparent {s : State} {p : Nat} {d : Drain} (eff : (s.port p).id.eff = .transparent) :
    startDrain s p d = finishMove s p d := if_neg (by simp [eff])

theorem drainDonePhys_none {s : State} {p : Nat} (none_ : (s.port p).drain = none) : drainDonePhys s p = s := by
  simp only [drainDonePhys, none_]

/-- A drain in progress ends once the port has drained, and at a lend or a recall once the other half has too. -/
theorem drainDonePhys_some {s : State} {p : Nat} {d : Drain} (drain : (s.port p).drain = some d) : drainDonePhys s p =
    if (!(s.port p).px.drained) = true then s
    else if d.what = 0 then finishMove s p d
    else if (!d.ready) = true then s
    else if d.what = 1 then finishLendDrain s p d
    else endLend s p 5 := by
  simp only [drainDonePhys, drain]

/-! ### Resets -/

/-- PORT_RESET by what the port holds. -/
theorem portReset_of (t : State) (c : Cmd) : portReset c t =
    (let a := args c 1 [par 0 8 1 1 32]
    let p := a.1 0
    let empty : Bool := if (t.port p).id.eff = .translated then (t.port p).id.st == .vacant else vacantNow t p
    if empty = true ∨ (t.port p).id.st = .filling ∨ (t.port p).id.owner = .lent ∨ (t.port p).dpe = .testing then
      respond t c (.fail stRefusedState 0 0 a.2)
    else if portBusy (t.port p) = true then respond t c (.fail stBusy 2 10 a.2)
    else
      let s := ownerEvent t p 7 (t.port p).id.owner 0 (t.port p).px.heldBytes
      respond (if (t.port p).id.eff = .translated then resetTranslated s p else resetTransparent s p) c (.ok [] a.2)) := rfl

theorem portReset_translated {t : State} {c : Cmd} {a : (Nat → Nat) × Bool} {p : Nat} (ha : a = args c 1 [par 0 8 1 1 32])
    (hp : p = a.1 0) (filled : (t.port p).id.st ≠ .filling) (home : (t.port p).id.owner ≠ .lent)
    (dpe : (t.port p).dpe ≠ .testing) (free : portBusy (t.port p) = false) (eff : (t.port p).id.eff = .translated)
    (st : (t.port p).id.st ≠ .vacant) : portReset c t = respond
      (resetTranslated (ownerEvent t p 7 (t.port p).id.owner 0 (t.port p).px.heldBytes) p) c (.ok [] a.2) := by
  subst hp ha
  refine (portReset_of t c).trans ((if_neg ?_).trans ((if_neg (by simp [free])).trans ?_))
  · simp [eff, st, filled, home, dpe]
  · simp only [if_pos eff]

theorem portReset_transparent {t : State} {c : Cmd} {a : (Nat → Nat) × Bool} {p : Nat} (ha : a = args c 1 [par 0 8 1 1 32])
    (hp : p = a.1 0) (filled : (t.port p).id.st ≠ .filling) (home : (t.port p).id.owner ≠ .lent)
    (dpe : (t.port p).dpe ≠ .testing) (free : portBusy (t.port p) = false) (eff : (t.port p).id.eff = .transparent)
    (held : vacantNow t p = false) : portReset c t = respond
      (resetTransparent (ownerEvent t p 7 (t.port p).id.owner 0 (t.port p).px.heldBytes) p) c (.ok [] a.2) := by
  subst hp ha
  refine (portReset_of t c).trans ((if_neg ?_).trans ((if_neg (by simp [free])).trans ?_))
  · simp [eff, held, filled, home, dpe]
  · simp only [eff, reduceCtorEq, if_false]

theorem portReset_refused {t : State} {c : Cmd} {a : (Nat → Nat) × Bool} {p : Nat} (ha : a = args c 1 [par 0 8 1 1 32])
    (hp : p = a.1 0) (no : (t.port p).id.st = .filling ∨ (t.port p).id.owner = .lent ∨ (t.port p).dpe = .testing ∨
      ((t.port p).id.eff = .translated ∧ (t.port p).id.st = .vacant) ∨
      ((t.port p).id.eff = .transparent ∧ vacantNow t p = true)) :
    portReset c t = respond t c (.fail stRefusedState 0 0 a.2) := by
  subst hp ha
  refine (portReset_of t c).trans (if_pos ?_)
  rcases no with h | h | h | ⟨eff, st⟩ | ⟨eff, held⟩
  · simp [h]
  · simp [h]
  · simp [h]
  · simp [eff, st]
  · simp [eff, held]

/-! ### The plan and modes -/

theorem planAsked_some {s : State} {c : Cmd} (some_ : c.params ≠ []) : planAsked s c = carve c.params :=
  if_neg (by simpa using some_)

theorem modeSet_sets {t t1 t2 : State} {c : Cmd} {a : (Nat → Nat) × Bool} {m : Mode}
    (ha : a = args c 2 [par 0 8 1 1 32, parElse 8 8 (defaultMode t (portArg c)) 1 (defaultMode t (portArg c))])
    (may : ¬ (a.1 1 = 1 ∧ t.pages 4 (portArg c) 0 = 0))
    (hm : m = (if a.1 1 = 1 then Mode.translated else Mode.transparent))
    (h1 : t1 = setMode (t.modPort (portArg c) (fun q => { q with modeSet := true })) (portArg c) m)
    (h2 : t2 = shareBlock t1 0x0202 (portArg c) (leBytes 1 m.code)) :
    modeSet c t = respond t2 c (.ok (leBytes 1 m.code ++ leBytes 1 (t2.port (portArg c)).id.eff.code) a.2) := by
  rw [h2, h1, hm]
  subst ha
  exact if_neg may

/-! ### Refills and lends -/

/-- PORT_REFILL of a translated port with a device that is not TESTING. -/
theorem portRefill_device {t : State} {c : Cmd} {a : (Nat → Nat) × Bool} {p : Nat} (ha : a = args c 1 [par 0 8 1 1 32])
    (hp : p = a.1 0) (dpe : (t.port p).dpe ≠ .testing) (eff : (t.port p).id.eff = .translated)
    (st : (t.port p).id.st = .presented ∨ (t.port p).id.st = .live) : portRefill c t =
      if t.pages 4 p 0 = 0 then respond t c (.fail stNoResource 0 0 a.2)
      else if (t.port p).refillNext.isSome = true then respond t c (.fail stBusy 2 10 a.2)
      else
        let w := addWait t c a.2
        if (t.port p).pxL1 then (wakePxL1 w.2 p).modPort p (fun q => { q with refillNext := some w.1 })
        else startRefill w.2 p false w.1 := by
  subst hp ha
  refine (if_neg (by simp [eff, dpe])).trans (if_neg ?_)
  rintro ⟨presented, live⟩
  exact st.elim presented live

theorem portRefill_refused {t : State} {c : Cmd} {a : (Nat → Nat) × Bool} {p : Nat} (ha : a = args c 1 [par 0 8 1 1 32])
    (hp : p = a.1 0) (no : (t.port p).id.eff = .transparent ∨ (t.port p).dpe = .testing ∨
      ((t.port p).id.st ≠ .presented ∧ (t.port p).id.st ≠ .live)) :
    portRefill c t = respond t c (.fail stRefusedState 0 0 a.2) := by
  subst hp ha
  by_cases port : (t.port ((args c 1 [par 0 8 1 1 32]).1 0)).id.eff = .transparent ∨
      (t.port ((args c 1 [par 0 8 1 1 32]).1 0)).dpe = .testing
  · exact if_pos port
  · rw [← or_assoc] at no
    exact (if_neg port).trans (if_pos (no.resolve_left port))

theorem lend_refused {t : State} {c : Cmd} {a : (Nat → Nat) × Bool} {st : Nat}
    (ha : a = args c 4 [par 0 8 1 1 32, parAny 8 8 0, parAny 16 1 0, par 24 8 34 34 41])
    (refused : lendRefusal t (a.1 0) (a.1 1) = some st) : lend c t = respond t c (.fail st 0 0 a.2) := by
  subst ha
  simp only [lend, refused]

/-- A lend that the lender takes: the port drains and the borrower is asked. -/
theorem lend_taken {t t1 : State} {c : Cmd} {a : (Nat → Nat) × Bool} {p : Nat} {u : Up} {w : Nat × State}
    (ha : a = args c 4 [par 0 8 1 1 32, parAny 8 8 0, parAny 16 1 0, par 24 8 34 34 41]) (hp : p = a.1 0)
    (free : lendRefusal t p (a.1 1) = none) (hu : u = (if a.1 2 = 1 then Up.b else Up.a)) (hw : w = addWait t c a.2)
    (h1 : t1 = wakePxL1 (w.2.modPort p (fun q => { q with
        drain := some { wait := w.1, what := 1, back := (t.port p).id.st, node := a.1 1, up := u, vport := a.1 3 },
        id := { q.id with st := .draining }, tun := { node := a.1 1, own := t.fab.nodeId, up := u, vport := a.1 3 } })) p) :
    lend c t = drainDonePhys (sendTun t1 (.phys p) 0xA 0 []) p := by
  rw [h1]
  subst hw hu hp ha
  simp only [lend, free]

theorem lendRefusal_of (s : State) (p n : Nat) : (n = 0 ∨ n = s.fab.nodeId → lendRefusal s p n = some stRefusedState) ∧
    (n ≠ 0 → n ≠ s.fab.nodeId → 240 < n ∨ s.hasRoute n = false → lendRefusal s p n = some stNoRoute) ∧
    (n ≠ 0 → n ≠ s.fab.nodeId → n ≤ 240 → s.hasRoute n = true → (s.port p).id.eff = .transparent ∨
      (s.port p).id.st = .vacant ∨ portBusy (s.port p) = true ∨ (s.port p).id.owner = .lent →
      lendRefusal s p n = some stRefusedState) := by
  refine ⟨fun own => if_pos own, fun some_ far lost => (if_neg (by simp [some_, far])).trans (if_pos ?_),
    fun some_ far low route no => (if_neg (by simp [some_, far])).trans ((if_neg ?_).trans (if_pos no))⟩
  · exact lost.imp_right fun h => by simp [h]
  · simp [route, low]

/-- A recall of a lent port at rest. -/
theorem lendEndRecall_of {t : State} {c : Cmd} {a : (Nat → Nat) × Bool} {p : Nat} (ha : a = lendEndArgs c) (hp : p = a.1 1) :
    lendEndRecall c t =
      if (t.port p).id.owner ≠ .lent then respond t c (.fail stRefusedState 0 0 a.2)
      else if portBusy (t.port p) = true ∨ (t.port p).tun.openWait ≠ 0 then respond t c (.fail stBusy 2 10 a.2)
      else if ¬ t.hasRoute (t.port p).tun.node = true then respond (endLend t p 5) c (.ok [] a.2)
      else
        let w := addWait t c a.2
        sendTun (w.2.modPort p (fun q => { q with
          drain := some { wait := w.1, what := 2, back := q.id.st }, id := { q.id with st := .draining } })) (.phys p) 0xC 2 [] := by
  subst hp ha
  rfl

theorem lendEndRelease_of {t : State} {c : Cmd} {a : (Nat → Nat) × Bool} {u : Up} {x : VPort} (ha : a = lendEndArgs c)
    (hu : u = releaseUp c) (hx : x = t.vport u (a.1 3)) : lendEndRelease c t =
      if (!x.used) = true then respond t c (.fail stRefusedState 0 0 a.2)
      else if x.drain.isSome = true then respond t c (.fail stBusy 2 10 a.2)
      else if ¬ t.hasRoute x.tun.node = true then respond (freeVPort t u (a.1 3)) c (.ok [] a.2)
      else
        let w := addWait t c a.2
        drainDone (.virt u (a.1 3)) (w.2.modVPort u (a.1 3) (fun x => { x with drain := some { wait := w.1, what := 2 } })) := by
  subst hx hu ha
  rfl

/-- Settles O39: each command by its body, once it is admitted. -/
theorem portCommands : Obligations.PortCommands := by
  refine ⟨fun s c t ht => ⟨fun a => command_ends (answering _) a rfl ht rfl, fun a => command_ends (answering _) a rfl ht rfl,
      fun a => command_ends (answering _) a rfl ht rfl, fun a => command_ends (answering _) a rfl ht rfl⟩,
    fun s c none_ => cacheRead_none none_, fun s c t a p o w adm ht ha hp ho hw => ?_,
    fun s p d eff st => startDrain_translated eff st, fun s p d eff => startDrain_transparent eff, fun s p => ?_,
    fun s c t a p adm ht ha hp filled home dpe free =>
      ⟨fun eff st => command_ends portReset adm rfl ht (portReset_translated ha hp filled home dpe free eff st),
        fun eff held => command_ends portReset adm rfl ht (portReset_transparent ha hp filled home dpe free eff held),
        fun eff empty => command_ends portReset adm rfl ht (portReset_refused ha hp (by simp [eff, empty]))⟩,
    fun s c t a p adm ht ha hp no => command_ends portReset adm rfl ht (portReset_refused ha hp ?_),
    fun s p eff high => ⟨_, rfl, if_neg (by omega)⟩, fun s c t n w adm ht hn hw => ?_,
    fun s c => ⟨fun empty => if_pos (by simp [empty]), planAsked_some⟩,
    fun s c t a m t1 t2 adm ht ha may hm h1 h2 => command_ends modeSet adm rfl ht (modeSet_sets ha may hm h1 h2),
    fun s c t a adm ht ha one none_ => command_ends modeSet adm rfl ht (by subst ha; exact if_pos ⟨one, none_⟩),
    fun s c t a p w adm ht ha hp hw dpe eff st => ?_,
    fun s c t a p adm ht ha hp no => command_ends portRefill adm rfl ht (portRefill_refused ha hp no),
    fun s c t a p u w t1 adm ht ha hp free hu hw h1 => command_ends lend adm rfl ht (lend_taken ha hp free hu hw h1),
    fun s c t a st adm ht ha refused => command_ends lend adm rfl ht (lend_refused ha refused), lendRefusal_of,
    fun s c t a p w side adm ht ha hp hw => ?_, fun s c t a u x w side adm ht ha hu hx hw => ?_⟩
  · subst hw ho hp ha
    exact ⟨fun lent => command_ends portMove adm rfl ht ((portMove_of t c).trans (if_pos lent)),
      fun home busy => command_ends portMove adm rfl ht ((portMove_of t c).trans ((if_neg home).trans (if_pos busy))),
      fun home free same => command_ends portMove adm rfl ht ((portMove_of t c).trans
        ((if_neg home).trans ((if_neg (by simp [free])).trans (if_pos same)))),
      fun home free other => command_ends portMove adm rfl ht ((portMove_of t c).trans
        ((if_neg home).trans ((if_neg (by simp [free])).trans (if_neg other))))⟩
  · refine ⟨drainDonePhys_none, fun d drain busy => (drainDonePhys_some drain).trans (if_pos (by simp [busy])),
      fun d drain what ready => (drainDonePhys_some drain).trans ?_,
      fun d drain what ready done => (drainDonePhys_some drain).trans ?_,
      fun d drain what done => (drainDonePhys_some drain).trans ?_⟩
    · simp [what, ready]
    · simp [what, ready, done]
    · simp [what, done]
  · rcases no with h | h | h | h <;> simp [h]
  · subst hw hn
    exact ⟨fun free => command_ends planSet adm rfl ht (if_neg (by simp [free])),
      fun busy => command_ends planSet adm rfl ht (if_pos busy)⟩
  · subst hw
    have e := portRefill_device ha hp dpe eff st
    refine ⟨fun none_ => command_ends portRefill adm rfl ht (e.trans (if_pos none_)),
      fun some_ waits => command_ends portRefill adm rfl ht (e.trans ((if_neg some_).trans (if_pos waits))),
      fun some_ free awake => command_ends portRefill adm rfl ht (e.trans ((if_neg some_).trans
        ((if_neg (by simp [free])).trans (if_neg (by simp [awake]))))),
      fun some_ free asleep => command_ends portRefill adm rfl ht (e.trans ((if_neg some_).trans
        ((if_neg (by simp [free])).trans (if_pos asleep))))⟩
  · subst hw
    have e := lendEndRecall_of (t := t) ha hp
    refine ⟨fun home => form_ends lendEndRecall adm (by simp [side]) rfl ht (e.trans (if_pos home)),
      fun lent busy => form_ends lendEndRecall adm (by simp [side]) rfl ht (e.trans
        ((if_neg (not_not.2 lent)).trans (if_pos busy))),
      fun lent free open_ lost => form_ends lendEndRecall adm (by simp [side]) rfl ht (e.trans
        ((if_neg (not_not.2 lent)).trans ((if_neg (by simp [free, open_])).trans (if_pos (by simp [lost]))))),
      fun lent free open_ route => form_ends lendEndRecall adm (by simp [side]) rfl ht (e.trans
        ((if_neg (not_not.2 lent)).trans ((if_neg (by simp [free, open_])).trans (if_neg (by simp [route])))))⟩
  · subst hw
    have e := lendEndRelease_of (t := t) ha hu hx
    refine ⟨fun no => form_ends lendEndRelease adm (by simp [side]) rfl ht (e.trans (if_pos (by simp [no]))),
      fun used drains => form_ends lendEndRelease adm (by simp [side]) rfl ht (e.trans
        ((if_neg (by simp [used])).trans (if_pos drains))),
      fun used free lost => form_ends lendEndRelease adm (by simp [side]) rfl ht (e.trans
        ((if_neg (by simp [used])).trans ((if_neg (by simp [free])).trans (if_pos (by simp [lost]))))),
      fun used free route => form_ends lendEndRelease adm (by simp [side]) rfl ht (e.trans
        ((if_neg (by simp [used])).trans ((if_neg (by simp [free])).trans (if_neg (by simp [route])))))⟩

end Sys2Proof.Machine
end

section
/-! PROOF. The commands of groups 0x03, 0x04 and 0x05 (O40). -/

namespace Sys2Proof.Machine

/-! ### Settings blocks -/

/-- A settings block with a selector: written, shared, and answered as it stands. -/
theorem setBlock_of {t u : State} {c : Cmd} {n : Nat × Bool} {r : Bool × State} (op lo hi : Nat)
    (write : State → Nat → List Byte → Bool × State) (read : State → Nat → List Byte) (hn : n = (selPar lo hi).read c.params)
    (hr : r = write t n.1 (c.params.drop 4)) (hu : u = shareBlock r.2 op n.1 (read r.2 n.1)) :
    setBlock op lo hi write read c t = respond u c (.ok (read u n.1) (n.2 || r.1)) := by
  rw [hu, hr, hn, setBlock]

/-- The same without a selector. -/
theorem setWhole_of {t u : State} {c : Cmd} {r : Bool × State} (op : Nat) (write : State → List Byte → Bool × State)
    (read : State → List Byte) (hr : r = write t c.params) (hu : u = shareBlock r.2 op 0 (read r.2)) :
    setWhole op write read c t = respond u c (.ok (read u) r.1) := by
  rw [hu, hr, setWhole]

/-! ### PD_ACTION -/

theorem pdAction_refused {t : State} {c : Cmd} {n k : Nat} {cl : Bool} (hn : n = (actionArgs c).1 0) (hcl : cl = (actionArgs c).2)
    (hk : (actionArgs c).1 1 = k) (refused : actionRefused t n k = true) :
    pdAction c t = respond t c (.fail stRefusedState 0 0 cl) := by
  subst hk hcl hn
  exact if_pos refused

/-- An action that the port may take: a reset acts at once, another needs none to wait. -/
theorem pdAction_allowed {t : State} {c : Cmd} {n k : Nat} {cl : Bool} (hn : n = (actionArgs c).1 0) (hcl : cl = (actionArgs c).2)
    (hk : (actionArgs c).1 1 = k) (allowed : actionRefused t n k = false) : pdAction c t =
      if k ≠ 2 ∧ k ≠ 3 ∧ (t.pde n).action.isSome = true then respond t c (.fail stBusy 2 0 cl)
      else respond (startAction t n k) c (.ok [] cl) := by
  subst hk hcl hn
  exact if_neg (by simp [allowed])

theorem pdAction_starts {t v : State} {c : Cmd} {n k : Nat} {cl : Bool} (hn : n = (actionArgs c).1 0) (hcl : cl = (actionArgs c).2)
    (hk : (actionArgs c).1 1 = k) (allowed : actionRefused t n k = false)
    (free : k = 2 ∨ k = 3 ∨ (t.pde n).action = none) (started : startAction t n k = v) :
    pdAction c t = respond v c (.ok [] cl) := by
  subst started
  refine (pdAction_allowed hn hcl hk allowed).trans (if_neg ?_)
  rcases free with h | h | h <;> simp [h]

theorem pdAction_ends {i : Instr} {s t u : State} {c : Cmd} {k : Nat}
    (adm : Admits s c 0x0304 false (fun s c => foreignSel s c ((actionArgs c).1 0)))
    (run : exec i s = leaves s (runAction k c s)) (ht : t = begun s c false) (hk : (actionArgs c).1 1 = k)
    (e : pdAction c t = u) : Ends i s (closed u) :=
  form_ends pdAction adm (by simp [hk]) run ht e

/-- A waiting action: its start waits for the AMS in progress, and for SinkTxNG where the port avoids collisions. -/
theorem startOwn_action {s : State} {n : Nat} (some_ : (s.pde n).action.isSome = true) :
    ((s.pde n).amsIdle = false → startOwn s n = s) ∧
    ((s.pde n).amsIdle = true → (s.pde n).avoids = true → (s.pde n).ng = false →
      startOwn s n = startTimer (s.modPde n (fun d => { d with ng := true })) n .sinkTx) ∧
    ((s.pde n).amsIdle = true → (s.pde n).avoids = false ∨ (s.pde n).ng = true → startOwn s n = runOwn s n) := by
  refine ⟨fun busy => if_neg (by simp [busy]), fun idle avoids ng => (if_pos ?_).trans (if_pos ?_),
    fun idle go => (if_pos ?_).trans (if_neg ?_)⟩
  · simp [idle, some_]
  · simp [avoids, ng]
  · simp [idle, some_]
  · rcases go with h | h <;> simp [h]

/-! ### The power path and the converters -/

theorem meterRead_list {t : State} {c : Cmd} {a : (Nat → Nat) × Nat × Nat × Bool} {l : List Nat}
    (ha : a = span c 3 1 36 1 [parAny 16 2 0]) (hl : l = (List.range a.2.2.1).map (fun i => a.2.1 + i)) : meterRead c t =
      if l.isEmpty = true then respond t c (.ok (leBytes 1 36) a.2.2.2)
      else respond ((l.filter (mayClear t c)).foldl (fun s n => clearMeter s (a.1 2) n) t) c
        (Resp.ok ((l.map (meterEntry t)).flatten) (a.2.2.2 || (a.1 2 != 0 && l.any (fun n => !mayClear t c n)))) := by
  subst hl ha
  rfl

theorem converterInit_refused {t : State} {c : Cmd} {a : (Nat → Nat) × Bool} {n : Nat} (ha : a = args c 1 [selPar 1 34])
    (hn : n = a.1 0) (no : (t.conv n).cst = .unnamed ∨ (t.ppc n).st = .ramp ∨ (t.ppc n).st = .on ∨
      (t.ppc n).st = .transition ∨ (t.ppc n).st = .frozen) :
    converterInit c t = respond t c (.fail stRefusedState 0 0 a.2) := by
  subst hn ha
  refine if_pos ?_
  rcases no with h | h | h | h | h <;> simp [h]

/-- CONVERTER_INIT of a named converter whose path is off. -/
theorem converterInit_idle {t t1 : State} {c : Cmd} {a : (Nat → Nat) × Bool} {n : Nat} {w : Nat × State}
    (ha : a = args c 1 [selPar 1 34]) (hn : n = a.1 0) (ramp : (t.ppc n).st ≠ .ramp) (on : (t.ppc n).st ≠ .on)
    (transition : (t.ppc n).st ≠ .transition) (frozen : (t.ppc n).st ≠ .frozen) (named : (t.conv n).cst ≠ .unnamed)
    (hw : w = addWait t c a.2) (h1 : t1 = w.2.modConv n (fun x => { x with wait := w.1 })) : converterInit c t =
      if (t.conv n).wait ≠ 0 then respond t c (.fail stBusy 2 5 a.2)
      else if (!convUsable t1 n) = true then initDone t1 n .initFailed
      else if (t.conv n).init = 0 then pmbusInit n t1 else t1 := by
  subst h1 hw hn ha
  refine if_neg ?_
  rintro (inUse | none_)
  · cases st : (t.ppc ((args c 1 [selPar 1 34]).1 0)).st <;> simp_all
  · exact named none_

/-! ### The budget -/

theorem feedSettingsSet_of {t t1 t2 : State} {c : Cmd} {n : Nat × Bool} {b : Bool} {r : FeedSet × Bool} {w : Nat × State}
    (hn : n = (selPar 0 1).read c.params) (hb : b = (n.1 == 1))
    (hr : r = feedRead (((t.feed b).next.map (·.1)).getD (t.feed b).set) (c.params.drop 4))
    (h1 : t1 = shareBlock t 0x0501 n.1 (feedBlock r.1)) (hw : w = addWait t1 c (n.2 || r.2))
    (none_ : (t.feed b).next = none → t2 = w.2) (some_ : ∀ x, (t.feed b).next = some x → t2 = awaitBudget w.2 x.2) :
    feedSettingsSet c t = t2.modFeed b (fun f => { f with next := some (r.1, w.1) }) := by
  subst hw h1 hr hb hn
  unfold feedSettingsSet
  dsimp only
  split
  next x h => rw [some_ x h]
  next h => rw [none_ h]

/-- Settles O40: each command by its body, once it is admitted. -/
theorem powerCommands : Obligations.PowerCommands := by
  refine ⟨fun s c t n ht hn => ?_, fun s c t n adm ht hn => command_ends (getBlock 0 1 _) adm rfl ht (by subst hn; rfl),
    fun s c t n r u adm ht hn hr hu => command_ends (setBlock _ _ _ _ _) adm rfl ht (setBlock_of _ _ _ _ _ hn hr hu),
    fun s c t n r u adm ht hn hr hu => command_ends (setBlock _ _ _ _ _) adm rfl ht
      (setBlock_of _ _ _ _ (fun s n => ppcBytes (s.ppc n)) hn hr hu),
    fun s c t n cl adm ht hn hcl => ?_, fun s n => ?_,
    fun s n some_ => ⟨fun busy => ends_of rfl ((if_pos some_).trans ((startOwn_action some_).1 busy)),
      fun idle avoids ng => ends_of rfl ((if_pos some_).trans ((startOwn_action some_).2.1 idle avoids ng)),
      fun idle go => ends_of rfl ((if_pos some_).trans ((startOwn_action some_).2.2 idle go))⟩,
    fun s n none_ => ends_of rfl (if_neg (by simp [none_])),
    fun s c t a p left adm ht ha hp hleft => command_ends portPowerCycle adm rfl ht (by subst hleft hp ha; rfl),
    fun s c t a l r adm ht ha hl some_ hr => command_ends meterRead adm rfl ht ((meterRead_list ha hl).trans
      ((if_neg (by simp [some_])).trans (by rw [hr]))),
    fun s c t a l adm ht ha hl empty => command_ends meterRead adm rfl ht ((meterRead_list ha hl).trans (if_pos empty)),
    fun s c t a n adm ht ha hn no => command_ends converterInit adm rfl ht (converterInit_refused ha hn no),
    fun s c t a n w t1 adm ht ha hn ramp on transition frozen named hw h1 => ?_,
    fun s c t n b r t1 w t2 adm ht hn hb hr h1 hw h2 => command_ends feedSettingsSet adm rfl ht
      (feedSettingsSet_of hn hb hr h1 hw (fun h => by rw [h2, h]) (fun x h => by rw [h2, h])),
    fun s c t r t1 w adm ht hr h1 hw => command_ends pbaGlobalSet adm rfl ht (by rw [hw, h1, hr, pbaGlobalSet]),
    fun s c t n r t1 w adm ht hn hr h1 hw => command_ends pbaPortSet adm rfl ht (by rw [hw, h1, hr, hn, pbaPortSet])⟩
  · subst hn
    exact ⟨fun a => command_ends (getBlock 1 34 _) a rfl ht rfl, fun a => command_ends (answering _) a rfl ht rfl,
      fun a => command_ends (getBlock 1 34 _) a rfl ht rfl, fun a => command_ends (getBlock 1 34 _) a rfl ht rfl,
      fun a => command_ends (getBlock 1 34 _) a rfl ht rfl, fun a => command_ends (getWhole _) a rfl ht rfl,
      fun a => command_ends (getBlock 1 34 _) a rfl ht rfl, fun a => command_ends (getWhole _) a rfl ht rfl⟩
  · refine ⟨fun r hr => ?_, fun none_ => ⟨fun k al => ?_, fun k al => ?_, fun k al => ?_, fun k al => ?_⟩,
      fun some_ k al => pdAction_ends adm rfl ht k ((pdAction_allowed hn hcl k al).trans (if_pos (by simp [some_]))),
      fun k al => pdAction_ends adm rfl ht k (pdAction_starts hn hcl k al (.inl rfl) rfl),
      fun k al => pdAction_ends adm rfl ht k (pdAction_starts hn hcl k al (.inr (.inl rfl)) rfl)⟩
    · subst hr
      exact ⟨fun k no => pdAction_ends adm rfl ht k (pdAction_refused hn hcl k no),
        fun k no => pdAction_ends adm rfl ht k (pdAction_refused hn hcl k no),
        fun k no => pdAction_ends adm rfl ht k (pdAction_refused hn hcl k no),
        fun k no => pdAction_ends adm rfl ht k (pdAction_refused hn hcl k no),
        fun k no => pdAction_ends adm rfl ht k (pdAction_refused hn hcl k no),
        fun k no => pdAction_ends adm rfl ht k (pdAction_refused hn hcl k no)⟩
    · exact pdAction_ends adm rfl ht k (pdAction_starts hn hcl k al (.inr (.inr none_)) rfl)
    · exact pdAction_ends adm rfl ht k (pdAction_starts hn hcl k al (.inr (.inr none_)) rfl)
    · exact pdAction_ends adm rfl ht k (pdAction_starts hn hcl k al (.inr (.inr none_)) rfl)
    · exact pdAction_ends adm rfl ht k (pdAction_starts hn hcl k al (.inr (.inr none_)) rfl)
  · simp [actionRefused]
  · have e := converterInit_idle ha hn ramp on transition frozen named hw h1
    exact ⟨fun waits => command_ends converterInit adm rfl ht (e.trans (if_pos waits)),
      fun free no => command_ends converterInit adm rfl ht (e.trans ((if_neg (not_not.2 free)).trans (if_pos (by simp [no])))),
      fun free ok first => command_ends converterInit adm rfl ht (e.trans ((if_neg (not_not.2 free)).trans
        ((if_neg (by simp [ok])).trans (if_pos first)))),
      fun free ok runs => command_ends converterInit adm rfl ht (e.trans ((if_neg (not_not.2 free)).trans
        ((if_neg (by simp [ok])).trans (if_neg runs))))⟩

end Sys2Proof.Machine
end

section
/-! PROOF. The commands of groups 0x06 to 0x09: the pair, the fabric, events and the time unit (O41, O42). -/

namespace Sys2Proof.Machine

/-! ### The pair -/

/-- HANDOVER of a chip whose partner is ready. -/
theorem handover_ready {t : State} {c : Cmd} (pair : t.isPair = true) (ready : partnerReady t = true) :
    (∀ k, t.pair.partnerFw = some k → handover c t = respond t c (.fail stBusy 1 (msLeft t k))) ∧
    (t.pair.partnerFw = none →
      handover c t = startHandover (addWait t c (!c.params.isEmpty)).2 false (some (addWait t c (!c.params.isEmpty)).1)) := by
  have go : handover c t = match t.pair.partnerFw with
      | some k => respond t c (.fail stBusy 1 (msLeft t k))
      | none => startHandover (addWait t c (!c.params.isEmpty)).2 false (some (addWait t c (!c.params.isEmpty)).1) := by
    refine (if_neg (by simp [pair])).trans ((if_neg (by simp [ready])).trans ?_)
    rfl
  exact ⟨fun k restarts => by rw [go, restarts], fun free => by rw [go, free]⟩

theorem pairRelay_up {t : State} {c : Cmd} (pair : t.isPair = true) (up : t.pair.ladle = true) : pairRelay c t =
    if innerBarred c.params = true then respond t c (.fail stRefusedState 3)
    else (cutSegs 6 0 c.params).foldl
      (fun s x => sendLadle s 3 0x3D (x.1 + 16 * b2n x.2.1 + 64 * outerCode c.tr) x.2.2) (addWait t c).2 :=
  (if_neg (by simp [pair])).trans (if_neg (by simp [up]))

theorem shareBlock_of (s : State) (op k : Nat) (bs : List Byte) :
    ((s.isPair && s.chipActive) = true → shareBlock s op k bs = sendSlow s [.block op k bs]) ∧
    ((s.isPair && s.chipActive) = false → shareBlock s op k bs = s) :=
  ⟨fun both => if_pos both, fun alone => if_neg (by simp [alone])⟩

/-! ### The fabric -/

theorem fabricStatus_of {t : State} {c : Cmd} {a : (Nat → Nat) × Nat × Nat × Bool} {l : List Nat}
    (ha : a = span c 3 0 3 4 [parAny 16 1 0]) (hl : l = (List.range a.2.2.1).map (fun i => a.2.1 + i)) : fabricStatus c t =
      respond (if a.1 2 = 1 then l.foldl clearLink t else t) c
        (.ok (nodeBytes t ++ (l.map (linkBytes t)).flatten) a.2.2.2) := by
  subst hl ha
  rfl

theorem nodeList_some {t u : State} {c : Cmd} {a : (Nat → Nat) × Bool} {n : Nat} {ls : List Lsa} {l : List (List Byte)}
    (ha : a = args c 2 [parAny 0 8 0, parAny 8 8 255]) (some_ : a.1 1 ≠ 0) (hn : n = min (a.1 1) (replyRoom c / 16))
    (hls : ls = (t.fab.lsas.map (fun h =>
      if h.lsa.uid = t.nodeUid then { h.lsa with claim := t.fab.nodeId } else h.lsa)).foldl (fun l x => insertNode x l) [])
    (hl : l = ((ls.drop (a.1 0)).take n).mapIdx (fun i x => nodeEntry t (fabGraph t) (Config.freeNat (t.freeIdx + i)) x))
    (hu : u = respond t c (.ok l.flatten (a.2 || decide (n < a.1 1)))) :
    nodeList c t = { u with freeIdx := u.freeIdx + l.length } := by
  subst ha
  rw [hu, hl, hls, hn]
  exact if_neg some_

/-- Settles O41: each command by its body, once it is admitted. -/
theorem pairAndFabricCommands : Obligations.PairAndFabricCommands := by
  refine ⟨fun s c t ht => ⟨fun a => command_ends (getWhole _) a rfl ht rfl, fun a => command_ends (getWhole _) a rfl ht rfl,
      fun a => command_ends (getWhole _) a rfl ht rfl⟩,
    fun s c t adm ht single => command_ends pairSettingsSet adm rfl ht (if_neg (by simp [single])),
    fun s c t r u adm ht pair hr hu => command_ends pairSettingsSet adm rfl ht
      ((if_pos pair).trans (setWhole_of _ _ pairSetBytes hr hu)),
    fun s c t adm ht single => command_ends handover adm rfl ht (if_pos (by simp [single])),
    fun s c t adm ht pair busy => command_ends handover adm rfl ht ((if_neg (by simp [pair])).trans (if_pos (by simp [busy]))),
    fun s c t k adm ht pair ready restarts => command_ends handover adm rfl ht ((handover_ready pair ready).1 k restarts),
    fun s c t w adm ht pair ready free hw => command_ends handover adm rfl ht
      (by subst hw; exact (handover_ready pair ready).2 free),
    fun s t => rfl, fun s c t adm ht => ⟨fun single => command_ends pairRelay adm rfl ht (if_pos (by simp [single])),
      fun pair down => command_ends pairRelay adm rfl ht ((if_neg (by simp [pair])).trans (if_pos (by simp [down]))),
      fun pair up inner => command_ends pairRelay adm rfl ht ((pairRelay_up pair up).trans (if_pos inner)),
      fun pair up inner => command_ends pairRelay adm rfl ht ((pairRelay_up pair up).trans (if_neg (by simp [inner])))⟩,
    fun b => by simp [innerBarred, or_assoc], fun s c t a l adm ht ha hl =>
      ⟨fun clear => command_ends fabricStatus adm rfl ht ((fabricStatus_of ha hl).trans (by rw [if_pos clear])),
        fun keep => command_ends fabricStatus adm rfl ht ((fabricStatus_of ha hl).trans (by rw [if_neg keep]))⟩,
    fun s c t r u adm ht hr hu => command_ends (setWhole _ _ _) adm rfl ht (setWhole_of _ _ fabricSetBytes hr hu),
    shareBlock_of, fun s c t a adm ht ha zero => command_ends nodeList adm rfl ht (by subst ha; exact if_pos zero),
    fun s c t a n ls l u adm ht ha some_ hn hls hl hu => command_ends nodeList adm rfl ht (nodeList_some ha some_ hn hls hl hu)⟩

/-! ### Events and the time unit -/

theorem timeEpoch_root {t : State} {c : Cmd} {a : (Nat → Nat) × Bool} (ha : a = epochArgs t c) (root : t.tu.isRoot = true) :
    timeEpoch c t = respond (stepTime t ((a.1 0 : Int) - t.now)) c
      (.ok (leBytes 8 (stepTime t ((a.1 0 : Int) - t.now)).now) a.2) := by
  subst ha
  exact if_neg (by simp [root])

/-- TIME_EPOCH at a root's next edge: one command is armed at a time, and only while PPS is locked. -/
theorem timeEpochAtPps_root {t : State} {c : Cmd} {a : (Nat → Nat) × Bool} {v : Nat} {w : Nat × State} (ha : a = epochArgs t c)
    (hv : v = a.1 0 / 1000000000 * 1000000000) (hw : w = addWait t c (a.2 || v != a.1 0)) (root : t.tu.isRoot = true) :
    timeEpochAtPps c t =
      if (!t.tu.ppsLocked) = true then respond t c (.fail stRefusedState 2 0 a.2)
      else if t.tu.epoch.isSome = true then respond t c (.fail stBusy 2 1010 a.2)
      else { w.2 with tu := { w.2.tu with epoch := some (v, w.1) } } := by
  subst hw hv ha
  exact if_neg (by simp [root])

/-- Settles O42: each command by its body, once it is admitted. -/
theorem eventAndTimeCommands : Obligations.EventAndTimeCommands := by
  refine ⟨fun s c t ht => ⟨fun a => command_ends (getWhole _) a rfl ht rfl, fun a => command_ends (answering _) a rfl ht rfl,
      fun a => command_ends (getWhole _) a rfl ht rfl, fun a => command_ends (getWhole _) a rfl ht rfl,
      fun a => command_ends (getWhole _) a rfl ht rfl, fun a => command_ends (answering _) a rfl ht rfl,
      fun a peek => form_ends (answering _) a peek rfl ht rfl⟩,
    fun s c t a q hit asks q1 recs adm take ht ha hq hhit hasks hq1 hrecs => form_ends eventFetch adm (by simp [take]) rfl ht
      (by rw [hrecs, hq1, hasks, hhit, hq, ha, eventFetch]),
    fun s c t f asked n new t1 t2 adm ht hf hasked hn hnew h1 h2 => command_ends eventRouteSet adm rfl ht
      (by rw [h2, h1, hnew, hn, hasked, hf, eventRouteSet]),
    fun s c t r u adm ht hr hu => command_ends (setWhole _ _ _) adm rfl ht (setWhole_of _ _ eventSetBytes hr hu),
    fun s c t r u adm ht hr hu => command_ends (setWhole _ _ _) adm rfl ht (setWhole_of _ _ timeSetBytes hr hu),
    fun s c t a now adm ht ha => ⟨fun child => form_ends timeEpoch adm (by simp [now]) rfl ht
        (by subst ha; exact if_pos (by simp [child])),
      fun root => ⟨_, rfl, form_ends timeEpoch adm (by simp [now]) rfl ht (timeEpoch_root ha root)⟩⟩,
    fun s c t a v w edge adm ht ha hv hw => ?_, fun s d => ⟨_, rfl, rfl⟩, fun s u n hn => by rw [hn, sofBytes]⟩
  refine ⟨fun child => form_ends timeEpochAtPps adm (by simp [edge]) rfl ht (by subst ha; exact if_pos (by simp [child])),
    fun root free => form_ends timeEpochAtPps adm (by simp [edge]) rfl ht ((timeEpochAtPps_root ha hv hw root).trans
      (if_pos (by simp [free]))),
    fun root pps armed => form_ends timeEpochAtPps adm (by simp [edge]) rfl ht ((timeEpochAtPps_root ha hv hw root).trans
      ((if_neg (by simp [pps])).trans (if_pos armed))),
    fun root pps free => form_ends timeEpochAtPps adm (by simp [edge]) rfl ht ((timeEpochAtPps_root ha hv hw root).trans
      ((if_neg (by simp [pps])).trans (if_neg (by simp [free]))))⟩

end Sys2Proof.Machine
end

section
/-! PROOF. The commands of groups 0x0A and 0x0B: the Crock and the Sieve (O43). -/

namespace Sys2Proof.Machine

/-! ### CROCK_WRITE -/

/-- CROCK_WRITE by its partition, whether that is in use, and the fault; then its lines. -/
theorem crockWriteCmd_of {t : State} {c : Cmd} {part base size off : Nat} {data : List Byte} {cl : Bool}
    (hpart : part = (writeArgs c).1 0) (hbase : base = (partBase part).1) (hsize : size = (partBase part).2)
    (hoff : off = min ((writeArgs c).1 1) size) (hdata : data = (c.params.drop 8).take (size - off))
    (hcl : cl = ((writeArgs c).2 || off != (writeArgs c).1 1 || decide (data.length + 8 < c.params.length))) :
    crockWriteCmd c t =
      if part = 4 ∨ part = 5 ∨ part = 7 then respond t c (.fail stRefusedState 1 0 cl)
      else if partInUse t part = true then respond t c (.fail stRefusedState 2 0 cl)
      else if t.crock.fault = true then respond t c (.fail stInternal 1 0 cl)
      else if part = 6 then
        let r := (linesOf (lineBytes t) (data.length + 1) (base + off) data).foldl writeUserLine (0, t)
        if r.1 = 0 then respond r.2 c (.ok (leBytes 4 data.length) cl)
        else
          let w := addWait r.2 c cl
          { w.2 with crock := { w.2.crock with writes := w.2.crock.writes ++ [(w.1, r.1, leBytes 4 data.length)] } }
      else
        respond (if data.isEmpty then t
          else (linesOf (lineBytes t) (data.length + 1) (base + off) data).foldl (fun s l => putLine s l.1 l.2)
            (if part = 0 then unverify t false else if part = 1 then unverify t true else t))
          c (.ok (leBytes 4 data.length) cl) := by
  rw [hcl, hdata, hoff, hsize, hbase, hpart, crockWriteCmd]

theorem writeUserLine_of (s : State) (l : Nat × List Byte) : writeUserLine (0, s) l =
    if lineReady s l.1 then (0, putLine s l.1 l.2)
    else (1, { s with crock := { s.crock with lineWait := s.crock.lineWait ++ [l] } }) := rfl

/-! ### The Sieve -/

/-- SIEVE_SET of a channel that may seal the port it names, or seals none. -/
theorem sieveSet_of {t : State} {c : Cmd} {n : Nat × Bool} {r : SieveCh × Bool} (hn : n = (selPar 0 7).read c.params)
    (hr : r = sieveAsked t c) : sieveSet c t =
      if r.1.mode = 3 ∧ (r.1.port = 0 ∨ (r.1.port ≤ 32 ∧ (t.port r.1.port).id.eff = .transparent)) then
        respond t c (.fail stRefusedState 0 0 (n.2 || r.2))
      else
        let u := shareBlock (setSieve t n.1 r.1) 0x0B01 n.1 (sieveSetBytes ((setSieve t n.1 r.1).sieveCh n.1))
        respond u c (.ok (sieveSetBytes (u.sieveCh n.1)) (n.2 || r.2)) := by
  rw [hr, hn, sieveSet]

theorem sieveFeed_of {t : State} {c : Cmd} {n e : Nat × Bool} {ch : SieveCh} (hn : n = (selPar 0 7).read c.params)
    (he : e = ({ lo := 8, w := 8, dflt := 1, fix := fun v => if v = 2 ∨ v = 4 then v else 1 } : Par).read c.params)
    (hch : ch = t.sieveCh n.1) : sieveFeed c t =
      if ch.mode ≠ 1 ∧ ch.mode ≠ 2 then respond t c (.fail stRefusedState 0 0 (n.2 || e.2))
      else
        let fed := fedBytes ch (if (ch.mode == 2) = true then 1 else e.1) (c.params.drop 4)
        respond (sieveTake t n.1 fed) c
          (.ok (leBytes 2 fed.length) (n.2 || e.2 || (ch.mode == 2 && e.1 != 1) || fed.length != (c.params.drop 4).length)) := by
  rw [hch, he, hn, sieveFeed]

theorem sieveFinish_of {t : State} {c : Cmd} {n : (Nat → Nat) × Bool} {ch : SieveCh} {r : Nat × State}
    (hn : n = args c 1 [selPar 0 7]) (hch : ch = t.sieveCh (n.1 0)) (hr : r = sieveEnd t (n.1 0)) : sieveFinish c t =
      if ch.mode ≠ 1 then respond t c (.fail stRefusedState 0 0 n.2)
      else respond r.2 c (.ok (leBytes 4 r.1 ++
        leBytes 1 (b2n ch.compare + 2 * b2n (ch.compare && r.1 == ch.expected % 2 ^ (8 * polyBytes ch.poly)))) n.2) := by
  rw [hr, hch, hn, sieveFinish]

/-- Settles O43: each command by its body, once it is admitted. -/
theorem crockAndSieveCommands : Obligations.CrockAndSieveCommands := by
  refine ⟨fun s c t ht => ⟨fun a => command_ends (getWhole _) a rfl ht rfl, fun a => command_ends (answering _) a rfl ht rfl⟩,
    fun s c t p l d a recs next adm ht hp hl hd ha hrecs hnext => command_ends journalRead adm rfl ht
      (by rw [hnext, hrecs, ha, hd, hl, hp, journalRead]),
    fun s c t n ht hn => ?_, fun s c t part base size off data cl priv hpriv adm ht hpart hbase hsize hoff hdata hcl => ?_,
    writeUserLine_of, fun s c t adm ht => command_ends ffClear adm rfl ht rfl,
    fun s c t a lo n t1 t2 used adm ht ha hlo hn h1 h2 hused => command_ends userErase adm rfl ht
      (by rw [hused, h2, h1, hn, hlo, ha, userErase]),
    fun s c t n r adm ht hn hr => ⟨fun refused => command_ends sieveSet adm rfl ht ((sieveSet_of hn hr).trans (if_pos refused)),
      fun may => ⟨_, rfl, command_ends sieveSet adm rfl ht ((sieveSet_of hn hr).trans (if_neg may))⟩⟩,
    fun s c t n e ch adm ht hn he hch => ?_, fun s c t n ch r adm ht hn hch hr =>
      ⟨fun other => command_ends sieveFinish adm rfl ht ((sieveFinish_of hn hch hr).trans (if_pos other)),
        fun one => command_ends sieveFinish adm rfl ht ((sieveFinish_of hn hch hr).trans (if_neg (not_not.2 one)))⟩⟩
  · subst hn
    exact ⟨fun a => command_ends (getBlock 0 7 _) a rfl ht rfl, fun a => command_ends (getBlock 0 7 _) a rfl ht rfl⟩
  · subst hpriv
    have e := crockWriteCmd_of (t := t) hpart hbase hsize hoff hdata hcl
    refine ⟨fun fixed => command_ends crockWriteCmd adm rfl ht (e.trans (if_pos fixed)),
      fun open_ used => command_ends crockWriteCmd adm rfl ht (e.trans ((if_neg open_).trans (if_pos used))),
      fun open_ free fault => command_ends crockWriteCmd adm rfl ht (e.trans ((if_neg open_).trans
        ((if_neg (by simp [free])).trans (if_pos fault)))),
      fun open_ free sound other some_ => command_ends crockWriteCmd adm rfl ht (e.trans ((if_neg open_).trans
        ((if_neg (by simp [free])).trans ((if_neg (by simp [sound])).trans ((if_neg other).trans ?_))))),
      fun open_ free sound user r w hr hw => ?_⟩
    · rw [if_neg (by simpa using some_)]
    · have e6 := e.trans ((if_neg open_).trans ((if_neg (by simp [free])).trans ((if_neg (by simp [sound])).trans (if_pos user))))
      rw [← hr] at e6
      subst hw
      exact ⟨fun done => command_ends crockWriteCmd adm rfl ht (e6.trans (if_pos done)),
        fun waits => command_ends crockWriteCmd adm rfl ht (e6.trans (if_neg waits))⟩
  · refine ⟨fun other => command_ends sieveFeed adm rfl ht ((sieveFeed_of hn he hch).trans (if_pos other)),
      fun open_ size fed hsize hfed => command_ends sieveFeed adm rfl ht ((sieveFeed_of hn he hch).trans ((if_neg ?_).trans ?_))⟩
    · rintro ⟨one, two⟩
      exact open_.elim one two
    · rw [hfed, hsize]

end Sys2Proof.Machine
end
